-- ==== Sys2Proof/Word.lean ====
section
/-! DEFINITION. The word types of the TG6024: 32-bit register words, bytes, and the 8-bit requester ID of R279. -/

namespace Sys2Proof

/-- A 32-bit word: a register, an address on the bus, a data word (R59, R63). -/
abbrev Word := BitVec 32

/-- A byte of memory or of a frame. -/
abbrev Byte := BitVec 8

/-- A requester ID as R279 lays it out: [7:5] master, [4:3] thread of a core, [2] Warden. -/
abbrev Rid := BitVec 8

end Sys2Proof
end

