-- ==== Sys2Proof/Syntax.lean ====
section
/-! DEFINITION. The commands the block takes: one constructor per row of the opcode table, with its operands, and the small
types the operands are made of. A command is a register access of one requester, a frame, block or sample that arrives at a
pin, an instruction of a Haerzer thread, or an instant the block reaches by itself. -/

namespace Sys2Proof

/-- A register number of a Haerzer instruction, r0 to r31 (R294). -/
abbrev HzReg := Fin 32

/-- The second operand of an instruction: a register or an immediate. -/
inductive HzSrc where
  | reg (r : HzReg)
  | imm (v : Word)
deriving DecidableEq, Repr

/-- The operations of the arithmetic and logic class (chapter 11, Instruction classes): add, subtract, logic, shifts,
compare and set-on-condition, multiply, divide. -/
inductive AluOp where
  | add | sub | and | or | xor | sll | srl | sra | seq | sne | slt | sltu | sge | sgeu | mul | div | divu | rem | remu
deriving DecidableEq, Repr

/-- Conditions of a conditional branch. -/
inductive HzCond where
  | eq | ne | lt | ge | ltu | geu
deriving DecidableEq, Repr

/-- Access sizes of loads and stores: byte, halfword (zero- or sign-extended on a load), word, doubleword pair. -/
inductive MemSize where
  | byte | byteS | half | halfS | word | double
deriving DecidableEq, Repr

/-- What a cache check finds (R313): instruction parity, a single-bit data error, a double-bit data error. -/
inductive CacheErr where
  | ipar | single | double
deriving DecidableEq, Repr

/-- What the integrity code of a transaction finds (R363): nothing, a corrected bit, an uncorrectable error at the target
(in the data, or in the address and control part) or at the master. -/
inductive Integrity where
  | good | corrected | targetData | targetAddr | master | masterCtrl
deriving DecidableEq, Repr

/-- An upset of a classifier entry: the bit of its match-array copy that flips (0 to 191 of the value, 192 to 383 of the
mask), and whether its stored copy takes an uncorrectable error (R253, R254). -/
structure EntryUpset where
  entry : Fin 4096
  bit : Fin 384
  uncor : Bool
deriving DecidableEq, Repr

/-- Where and when a frame that is forwarded between lanes leaves: lane, egress seconds and stamp word (R112). -/
structure Egress where
  lane : Fin 24
  sec : BitVec 48
  stamp : Word
deriving DecidableEq, Repr

/-- A Varlas superframe as the receiver sees it at the next marker: invalid sync headers, a control block other than a
Bittern code in a payload position, the CRC-32 and cipher tag results, whether the next marker is good, its COUNT, and the
containers that held a Bittern code. -/
structure Superframe where
  syncErrs : Nat
  control : Bool
  crcOk : Bool
  tagOk : Bool
  markerOk : Bool
  count : Byte
  epoch : Nat
  bittern : List (Fin 64)
deriving DecidableEq, Repr

/-- What initialisation of an SD card finds (R470, R471): its RESULT code, whether the card is locked, the highest mode the
card supports, 1.8 V signalling, whether tuning found a phase and which, relative card address, CID and CSD, and the
capacity in blocks the CSD gives. -/
structure SdInitResult where
  result : BitVec 4
  locked : Bool
  mode : Fin 4
  v18 : Bool
  tuned : Bool
  phase : BitVec 5
  rca : BitVec 16
  cid : BitVec 128
  csd : BitVec 128
  blocks : Nat
deriving DecidableEq, Repr

/-- How a card answers a command or a password operation (R472, R476): well, not at all, with a failing check, or with an
error in its status; and the response. -/
structure SdReply where
  kind : Fin 4
  resp : BitVec 128
deriving DecidableEq, Repr

/-- The commands of the block: one constructor per row of the opcode table, in the table's order. -/
inductive Instr where
  /-- READ (R36). The responder serves a confirmed Read request: it checks the frame, the session and access, then queues a Response or delegates the request to firmware. -/
  | read (port : Fin 25) (frame : List Byte)
  /-- WRITE (R37). The responder serves a Write request: the value takes effect whole for one subindex, or the request is refused with a status. -/
  | write (port : Fin 25) (frame : List Byte)
  /-- SEGMENT_START (R38). A client opens a segmented read or write, and the device answers with a status and, for a read, the total length. -/
  | segmentStart (port : Fin 25) (frame : List Byte)
  /-- SEGMENT (R39). The device serves one segment at the next offset; a bad offset aborts with SEGMENT_ERROR, and LAST commits a write whole. -/
  | segment (port : Fin 25) (frame : List Byte)
  /-- SESSION_OPEN (R42). A client names a role and sends a nonce; the device assigns a SESSION and sends a Challenge with nonce Nd, or refuses. -/
  | sessionOpen (port : Fin 25) (frame : List Byte)
  /-- ANSWER (R43). The client's protected Answer is checked under the derived session key; on success the device sends Accept, and a failure counts towards lockout. -/
  | answer (port : Fin 25) (frame : List Byte)
  /-- CLOSE (R46). A Close frame closes the session. -/
  | close (port : Fin 25) (frame : List Byte)
  /-- ABORT (R31). A client Abort frame ends the open segmented transfer, and an aborted write leaves the object unchanged. -/
  | abort (port : Fin 25) (frame : List Byte)
  /-- SEGMENT_GAP_TIMEOUT (R39). More than 1 s passes between segments, so the transfer is aborted with TIMEOUT. -/
  | segmentGapTimeout (port : Fin 25) (session : BitVec 16)
  /-- SESSION_IDLE_LIMIT (R46). A session reaches its idle limit and closes, aborting any open transfer. -/
  | sessionIdleLimit (session : BitVec 16)
  /-- SESSION_OPEN_LOCKOUT_END (R45). The 10 s refusal of Session open on a port, set by three Answer failures, ends. -/
  | sessionOpenLockoutEnd (port : Fin 25)
  /-- TRANSMIT_OPPORTUNITY (R558). The TG6024's PLCA transmit opportunity arrives, and it sends the next queued response or bulletin. -/
  | transmitOpportunity
  /-- BULLETIN_DUE (R54). A bulletin instance falls due and enters the 32-entry queue, or its bulletin's backlog when the queue is full. -/
  | bulletinDue (n : Fin 16)
  /-- SAVE_PERSISTENT (R528). A Warden writes 0x5AFE_0001 to 0x1010.01, and the RWP set is queued for the older store slot, or the save is refused. -/
  | savePersistent (session : BitVec 16)
  /-- RESTORE_DEFAULTS (R52). A Warden writes 0x5AFE_0002 to 0x1011.01, which arms the restoring of defaults at the next system reset. -/
  | restoreDefaults (session : BitVec 16)
  /-- DELEGATION_ANSWER (R57). Firmware advances NQ_DLG_TAIL, and the responder reads the answered entry and queues the Response. -/
  | delegationAnswer (rid : Rid) (tail : BitVec 3)
  /-- DELEGATION_TIMEOUT (R57). A delegated entry goes unanswered for 1.5 ms; it is answered BUSY and DLG_TIMEOUT is set. -/
  | delegationTimeout
  /-- ROLE_KEY_WRITE (R535). A Warden writes a role key object, which is refused or queued to the store, with the result reported in 0x4030.05. -/
  | roleKeyWrite (session : BitVec 16) (role : Fin 3) (key : BitVec 256)
  /-- EVE_IMAGE_WRITE (R532). The LAST segment of an Eve image write arrives; it is refused, or the copy into the Eve window begins with EVE_BUSY set. -/
  | eveImageWrite (session : BitVec 16) (data : List Byte)
  /-- EVE_IMAGE_COPY_DONE (R532). The copy of the image into the Eve window ends, EVE_BUSY clears and OK is answered. -/
  | eveImageCopyDone
  /-- COMMIT_REQUEST_OBJECT (R537). A write to 0x3011.02 issues a commit request, answered REFUSED when its GO would be ignored. -/
  | commitRequestObject (session : BitVec 16) (data : Word)
  /-- UNFREEZE_OBJECT (R537). A write to 0x7050.05 makes the responder write the unfreeze sequence as M7, or answer REFUSED while the controller is not frozen. -/
  | unfreezeObject (session : BitVec 16) (data : Word)
  /-- ALIAS_WRITE (R65). A write to a set, clear or toggle alias does a single read-modify-write of RW, RWV and unlocked RWL fields. -/
  | aliasWrite (rid : Rid) (addr : Word) (data : Word)
  /-- MASKED_WRITE (R69). A masked-class write changes only the data bits whose mask bits are 1. -/
  | maskedWrite (rid : Rid) (addr : Word) (data : Word)
  /-- REGISTER_WRITE (R71). A write to a register that has no row of its own acts on each field by its access code. -/
  | registerWrite (rid : Rid) (addr : Word) (data : Word)
  /-- RC_READ (R88). A read of an RC field returns its value and clears it in the same cycle. -/
  | rcRead (rid : Rid) (addr : Word)
  /-- COUNTER_LOW_WORD_READ (R85). A read of the low word of a multi-word counter copies the whole counter into its snapshot. -/
  | counterLowWordRead (rid : Rid) (addr : Word)
  /-- STAGED_COUNTER_LOAD (R86). A write to the low word of a writable multi-word counter loads it together with the staged words. -/
  | stagedCounterLoad (rid : Rid) (addr : Word) (data : Word)
  /-- DECODE_ERROR (R62). An access to an unmapped or undefined address, or of the wrong size, reads zero, drops the write, is logged and raises E40. -/
  | decodeError (rid : Rid) (addr : Word) (write : Bool) (size : Bool)
  /-- UNAVAILABLE_BLOCK_ACCESS (R74). An access to an unavailable block is answered at its port with an error response, is logged and raises E41. -/
  | unavailableBlockAccess (rid : Rid) (addr : Word) (write : Bool)
  /-- CROSSING_WATCHDOG (R75). A crossing that has not completed 4 µs after acceptance is ended and treated as an unavailable access. -/
  | crossingWatchdog (rid : Rid) (addr : Word) (write : Bool)
  /-- VOTE_DISAGREEMENT (R78). An RWV copy disagrees; the majority is written back, the disagreement is logged and E113 is raised. -/
  | voteDisagreement (addr : Word)
  /-- SHADOW_PAIR_START (R80). A write to an RWS register at its base offset opens a shadow pair, and PEND is set. -/
  | shadowPairStart (rid : Rid) (addr : Word) (data : Word)
  /-- SHADOW_PORT_WRITE (R80). A write to the shadow port completes a pair on a match; otherwise it fails the pair under R81. -/
  | shadowPortWrite (rid : Rid) (addr : Word) (data : Word)
  /-- SHADOW_PAIR_TIMEOUT (R81). The second write of a pair does not arrive within 64 interconnect cycles, so the pair fails. -/
  | shadowPairTimeout (addr : Word)
  /-- SHADOW_MISMATCH (R82). An RWS field mismatches its inverted shadow and takes its reset value, with E114. -/
  | shadowMismatch (addr : Word) (f : Fin 4)
  /-- LOCK (R83). Setting XXX_LOCK.LOCK makes the block's RWL fields read-only and discards any pending shadow pair. -/
  | lock (rid : Rid) (addr : Word)
  /-- CAL_NS_READ (R94). A read of CAL_NS snapshots the whole Calends value. -/
  | calNsRead (rid : Rid)
  /-- STEP_IMMEDIATE (R97). CAL_STEP.GO with mode 0b00 sets Calends from CAL_SET_SEC and CAL_SET_NS at once. -/
  | stepImmediate (rid : Rid)
  /-- STEP_AT_ROLLOVER (R97). CAL_STEP.GO with mode 0b01 arms a step for the next nanosecond rollover. -/
  | stepAtRollover (rid : Rid)
  /-- STEP_RELATIVE (R97). CAL_STEP.GO with mode 0b10 adds CAL_ADJ to Calends at once. -/
  | stepRelative (rid : Rid)
  /-- PENDING_STEP_APPLIED (R97). At the nanosecond rollover, the pending mode 0b01 step takes effect. -/
  | pendingStepApplied
  /-- LEAP_APPLIED (R99). At the end of the TAI second in CAL_LEAP_SEC, the UTC offset changes and LEAP returns to 0b00. -/
  | leapApplied
  /-- REFCLK_LOST (R96). REFCLK stops; Calends continues on the Vigil 25 MHz clock, REF_LOST is set and the DPLL leaves LOCKED. -/
  | refclkLost
  /-- REFCLK_RETURN (R96). REFCLK has run for 10 ms, and Calends returns to it at the next rollover without a step. -/
  | refclkReturn
  /-- TDC_CAPTURE (R101). A TDC time-stamps a divided input edge and queues the capture, or drops it with OVF. -/
  | tdcCapture (n : Fin 8)
  /-- TDC_READ (R101). A read of CAL_TDCn_NS moves the oldest capture into the read latch. -/
  | tdcRead (rid : Rid) (n : Fin 8)
  /-- LANE_CALIBRATION_DONE (R104). A lane unit finishes measuring its gearbox and alignment delay and sets CAL_DONE. -/
  | laneCalibrationDone (n : Fin 24) (align : BitVec 16)
  /-- PTP_ENABLE (R107). PTP_CTRL.EN enables the PTP engine and reserves DMA channel 15. -/
  | ptpEnable (rid : Rid)
  /-- PTP_RX_FRAME (R111). A confirmed PTP frame is written whole to the receive ring with its stamp, or dropped when the ring is full. -/
  | ptpRxFrame
  /-- PTP_TX_HEAD_ADVANCE (R109). Firmware advances PTP_TXHEAD, and the engine takes the new entries in ring order. -/
  | ptpTxHeadAdvance (rid : Rid) (data : Word)
  /-- PTP_TX_COMPLETE (R110). A transmit entry is sent, or completes with ERR, with one-step insertion or stamp capture, and PTP_TXTAIL advances. -/
  | ptpTxComplete (sec : BitVec 48) (stamp : Word)
  /-- S8_UPDATE (R114). A write to CAL_PTPOFS gives source S8 one phase update. -/
  | s8Update (rid : Rid) (data : Word)
  /-- SOURCE_QUALIFIED (R114). An enabled source has delivered good updates for QUAL seconds and becomes qualified. -/
  | sourceQualified (n : Fin 9)
  /-- SOURCE_DISQUALIFIED (R115). A source misses MISS updates or is disabled; it is disqualified and the DPLL reselects or changes state. -/
  | sourceDisqualified (n : Fin 9)
  /-- WAIT_TO_RESTORE_EXPIRY (R116). A newly qualified, better source has stayed qualified for WTR seconds and takes over the selection. -/
  | waitToRestoreExpiry (n : Fin 9)
  /-- DPLL_UPDATE (R118). The DPLL takes one measurement from the selected source and steers. -/
  | dpllUpdate
  /-- ACQUISITION_STEP (R120). On entering ACQUIRE with a large phase error, the DPLL steps Calends once by the negated error. -/
  | acquisitionStep
  /-- LEARNER_UPDATE (R132). Each second, the learner makes one recursive least-squares update, or rejects it. -/
  | learnerUpdate
  /-- TEMP_LOST (R131). No valid oscillator temperature arrives for 60 s, so TEMP_LOST is set and the temperature terms freeze. -/
  | tempLost
  /-- MODEL_CORRECTION (R136). Every 1 ms in holdover, the model updates the steering correction from the latest temperature. -/
  | modelCorrection
  /-- HOLDOVER_SECOND (R137). Each second in holdover, the regressor integrals and HLD_UNC are updated and HLD_ELAPSED advances. -/
  | holdoverSecond
  /-- RETENTION_COPY_WRITE (R140). Every 60 s the working Almanac is copied to the retention copy in Vigil. -/
  | retentionCopyWrite
  /-- ALMANAC_PERSIST_REQUEST (R140). Every 6 h, with the working copy changed, a persistent Almanac write is requested, or deferred in the Cold or Hot band. -/
  | almanacPersistRequest
  /-- ALMANAC_LOAD (R142). When PD1 leaves reset, HLD loads the first good Almanac copy and judges its staleness. -/
  | almanacLoad
  /-- TAI_DAY_BOUNDARY (R144). At each TAI day boundary, the 30-day locked-minutes history advances. -/
  | taiDayBoundary
  /-- CLEAR_ALMANAC (R145). HLD_ALM_CTRL.CLEAR, or 0x2021.03, empties the working and retention copies and requests a persistent write. -/
  | clearAlmanac (rid : Rid)
  /-- DAC_CODE_WRITE (R148). Firmware writes HLD_DACn_CODE, which is applied, or ignored with WR_IGN set. -/
  | dacCodeWrite (rid : Rid) (n : Fin 2) (data : Word)
  /-- DAC_RANGE_CHANGE (R150). A write of RANGE starts a bumpless range change with track-and-hold, or is refused with RANGE_ERR. -/
  | dacRangeChange (rid : Rid) (n : Fin 2) (data : Word) (efc : Bool)
  /-- DAC_RANGE_CHANGE_DONE (R150). The hold ends, the rescaled code is applied, RANGE_BUSY clears and E133 is raised. -/
  | dacRangeChangeDone (n : Fin 2)
  /-- EVE_WRITE (R157). A write to the Eve window changes a staged entry, or is refused with EVE_WR_REJ. -/
  | eveWrite (rid : Rid) (off : Fin 12288) (data : Word)
  /-- COPY (R158). MTX_COMMIT.COPY starts copying the Day table into the Eve table, with EVE_BUSY set. -/
  | copy (rid : Rid)
  /-- COPY_DONE (R158). The Day-to-Eve copy ends and EVE_BUSY clears. -/
  | copyDone
  /-- DAY_READ_SELECT (R159). A write to MTX_DAYRD_SEL copies one Day entry whole into MTX_DAYRD_W0–W7. -/
  | dayReadSelect (rid : Rid) (data : Word)
  /-- SOURCE_SAMPLE_ARRIVAL (R165). A source sample reaches its skew buffer, where it fills gaps, is discarded when late, or overflows. -/
  | sourceSampleArrival (c : Fin 1536) (time : Nat) (exp : BitVec 4) (inph : BitVec 16) (quad : BitVec 16) (blank : Bool) (first : Bool) (unit : Bool)
  /-- SOURCE_TIMEOUT (R165). A locked source delivers nothing for MTX_SRCTO and counts as absent. -/
  | sourceTimeout (g : Fin 1536) (slot : Fin 4)
  /-- TRANSMIT_SAMPLE_FORMED (R161). Every present source of a transmit sample has delivered, and the sample is summed with gain under the Day or Eve entry. -/
  | transmitSampleFormed (g : Fin 1536)
  /-- COMMIT_GO (R168). MTX_COMMIT.GO fixes the boundary B and starts validation, or is ignored with GO_REJ. -/
  | commitGo (rid : Rid) (data : Word)
  /-- VALIDATION_DONE (R170). Validation of the Eve table ends, leaving the commit ARMED or refused with a RESULT. -/
  | validationDone
  /-- COMMIT_ABORT (R171). ABORT cancels the commit before the arming point, and is ignored with ABORT_LATE after it. -/
  | commitAbort (rid : Rid)
  /-- ARMING_POINT (R171). Calends reaches B − MTX_ADV − 20 µs, and the armed commit can no longer be aborted. -/
  | armingPoint
  /-- SWITCH_WINDOW_EXPIRY (R176). Calends reaches B + MTX_SWWIN, and the commit completes with unswitched containers forced. -/
  | switchWindowExpiry
  /-- DELAY_LINE_OUTPUT (R186). A delayed sample reaches its output instant and leaves, or leaves blank when its read has not returned. -/
  | delayLineOutput (line : Fin 384)
  /-- CAPTURE_GO (R187). MTX_CAP_CTRL.GO starts or restarts a diagnostic capture of a container. -/
  | captureGo (rid : Rid) (data : Word)
  /-- LANE_ENABLE (R193). Setting LNE_CTRL.EN brings the lane out of electrical idle. -/
  | laneEnable (rid : Rid) (n : Fin 24)
  /-- LANE_DISABLE (R193). Clearing EN ends any unit in a Bittern code, and the lane is idle within 1 µs. -/
  | laneDisable (rid : Rid) (n : Fin 24)
  /-- REPHASE (R202). LNE_CTRL.REPHASE starts 100 µs of zero superframes to measure φ. -/
  | rephase (rid : Rid) (n : Fin 24)
  /-- REPHASE_DONE (R202). The measurement ends, and φ is set and reported in LNE_TXPH_MEAS. -/
  | rephaseDone (n : Fin 24)
  /-- ETHERNET_FRAME_RECEIVED (R190). An Ethernet frame received on a lane reaches its FCS and is confirmed or failed. -/
  | ethernetFrameReceived (port : Fin 25) (fcs : Bool) (bittern : Bool) (cor : Byte) (unc : Byte) (fwd : Option Egress)
  /-- ROE_PACKET_TRANSMIT (R195). A container's SPP samples are ready, and the lane sends one RoE packet. -/
  | roePacketTransmit (n : Fin 24) (c : Fin 64)
  /-- SUPERFRAME_RECEIVED (R204). At the next marker, the units of a Varlas superframe are confirmed or failed. -/
  | superframeReceived (n : Fin 24) (sf : Superframe)
  /-- TRANSMIT_DATA_BLOCK (R203). A container position comes due on a Varlas transmit, and its data block is sent, or zeros when it is late. -/
  | transmitDataBlock (n : Fin 24) (c : Fin 64)
  /-- BLOCK_LOCK (R208). Sixty-four consecutive valid sync headers give block lock. -/
  | blockLock (n : Fin 24)
  /-- BLOCK_LOCK_LOSS (R208). Block lock is lost, which ends superframe lock and fails unconfirmed units. -/
  | blockLockLoss (n : Fin 24) (hiBer : Bool)
  /-- MARKER_CANDIDATE (R209). A block with PATTERN and a good CRC8 becomes a marker candidate, or a candidate is dropped. -/
  | markerCandidate (n : Fin 24) (block : Nat) (good : Bool) (count : Byte)
  /-- SUPERFRAME_LOCK (R210). A candidate is confirmed by three markers, giving superframe lock. -/
  | superframeLock (n : Fin 24)
  /-- BAD_MARKER (R211). The expected marker is bad; LNE_SFBAD counts, and lock is lost after four in a row. -/
  | badMarker (n : Fin 24)
  /-- EQUALISATION_STEP (R212). Every 10 µs after a band change, each preset field moves one code step towards the new preset. -/
  | equalisationStep (n : Fin 24)
  /-- CONTAINER_ENABLE (R214). Setting a container's EN is accepted, or refused with CFG_REJ. -/
  | containerEnable (rid : Rid) (n : Fin 24) (dir : Bool) (c : Fin 64)
  /-- CONVERTER_COMMIT_REQUEST (R225). SRC_CMT.REQ commits the staging program at once, at the next output boundary, or on unstall. -/
  | converterCommitRequest (rid : Rid)
  /-- CONVERTER_FORCED_COMMIT (R226). SRC_CMT.FORCE discards history and the output in progress, and starts the new program. -/
  | converterForcedCommit (rid : Rid)
  /-- CONVERTER_STALL_LIMIT (R227). A converter stays stalled beyond SRC_STALL with a commit pending, and the commit is forced. -/
  | converterStallLimit (n : Fin 256)
  /-- CONVERTER_UNSTALL (R225). A stalled converter gets its input, finishes the output in progress, and switches to the pending program. -/
  | converterUnstall (n : Fin 256)
  /-- CONVERTER_TEST_GO (R229). SRC_TEST_CTRL.GO runs test samples through a converter that is not in use. -/
  | converterTestGo (rid : Rid)
  /-- COMPANION_WORD_RECEIVED (R232). A sub-channel word with its START and END flags extends, begins or abandons a message. -/
  | companionWordReceived (n : Fin 24) (j : Fin 8) (start : Bool) (fin : Bool) (word : BitVec 64)
  /-- HARVEST_TRANSMIT (R236). Harvest sends the message of the next owned transmit descriptor and clears OWN. -/
  | harvestTransmit (n : Fin 24) (j : Fin 8)
  /-- HARVEST_SLOT_ENABLE (R231). A Harvest slot is enabled, or refused with CFG_REJ. -/
  | harvestSlotEnable (rid : Rid) (n : Fin 384) (data : Word)
  /-- HARVEST_SLOT_DISABLE (R237). Clearing a slot's EN abandons the message in progress. -/
  | harvestSlotDisable (rid : Rid) (n : Fin 384)
  /-- CLASSIFIER_SEARCH (R243). A complete key is searched, and the frame goes to the winning entry's action or to the miss action. -/
  | classifierSearch (port : Fin 25) (frame : List Byte) (sec : BitVec 48) (stamp : Word) (upset : Option EntryUpset)
  /-- FQ_ENTRY_WRITTEN (R249). A confirmed frame is written to its firmware queue, or dropped when the ring is full. -/
  | fqEntryWritten
  /-- ENTRY_READ (R250). The READ command copies an entry's stored copy into the staging registers. -/
  | entryRead (rid : Rid)
  /-- ENTRY_WRITE (R250). The WRITE command writes the staging registers into an invalid entry. -/
  | entryWrite (rid : Rid)
  /-- ENTRY_INVALIDATE (R250). The INVALIDATE command makes an entry invalid and removes it from the suspect table. -/
  | entryInvalidate (rid : Rid)
  /-- ENTRY_VALIDATE (R250). The VALIDATE command makes an entry valid. -/
  | entryValidate (rid : Rid)
  /-- ENTRY_COMMAND_DONE (R251). An entry command takes effect between searches; BUSY clears and E66 is raised. -/
  | entryCommandDone
  /-- RAKE_REPAIR_DONE (R253). Rake rewrites a suspect entry from its stored copy and removes it from the suspect table. -/
  | rakeRepairDone (sus : Fin 16)
  /-- RAKE_BACKGROUND_STEP (R255). Each microsecond, Rake compares one valid entry with its stored copy and repairs a mismatch. -/
  | rakeBackgroundStep
  /-- ENGINE_WORD (R257). An engine consumes the next word of a message through its automaton. -/
  | engineWord (n : Fin 8)
  /-- ENGINE_REPORT_POSTED (R259). The held reports of a confirmed message are posted, or discarded when it failed. -/
  | engineReportPosted (n : Fin 8)
  /-- REPORT_READ (R259). A read of AUT_RPT0 pops the oldest report into the latch. -/
  | reportRead (rid : Rid) (n : Fin 8)
  /-- ENGINE_COMMIT_REQUEST (R261). AUT_CMT.REQ starts validation of the staging program. -/
  | engineCommitRequest (rid : Rid) (n : Fin 8)
  /-- ENGINE_VALIDATION_DONE (R261). Validation ends; the banks are exchanged as the engine's state allows, or the request is refused. -/
  | engineValidationDone (n : Fin 8)
  /-- ENGINE_FORCED_COMMIT (R262). AUT_CMT.FORCE discards the shift register and the message, and starts the new program. -/
  | engineForcedCommit (rid : Rid) (n : Fin 8)
  /-- ENGINE_STALL_LIMIT (R263). An engine stays stalled beyond AUT_STALL with a validated commit pending, and the commit is forced. -/
  | engineStallLimit (n : Fin 8)
  /-- ENGINE_UNSTALL (R261). A stalled engine finishes its word and switches to the pending program. -/
  | engineUnstall (n : Fin 8)
  /-- LANE_PROTECT_CONFIG (R264). A write of CIP_LANEn_CFG sets RXEN or TXEN on a pipeline, or is refused with LANE_REJ. -/
  | laneProtectConfig (rid : Rid) (n : Fin 24) (data : Word)
  /-- PROTECTED_FRAME_TRANSMIT (R269). A frame leaving a protected lane is encrypted under the transmit SA with the next PN. -/
  | protectedFrameTransmit (n : Fin 24) (frame : List Byte) (whole : Bool)
  /-- PROTECTED_FRAME_RECEIVE (R270). A frame sent to a receive SA is checked, decrypted and forwarded, or dropped and counted. -/
  | protectedFrameReceive (n : Fin 24)
  /-- VARLAS_SUPERFRAME_ENCRYPT (R275). A Varlas transmit superframe is encrypted under its SFN, or sent zero-filled on an IV skip. -/
  | varlasSuperframeEncrypt (n : Fin 24) (epoch : Nat) (count : Byte) (marker : BitVec 64) (payload : List (BitVec 64))
  /-- SA_ENABLE (R281). A write of EN = 1 to an SA is accepted, or refused with SA_REJ and a possible isolation fault. -/
  | saEnable (rid : Rid) (n : Fin 400) (data : Word)
  /-- CLAIM (R280). KPCMD CLAIM gives a free key page to the requester. -/
  | claim (rid : Rid) (page : Fin 32)
  /-- LOAD (R280). KPCMD LOAD copies the staging words into an owned page. -/
  | load (rid : Rid) (page : Fin 32)
  /-- RELEASE (R280). KPCMD RELEASE zeroes and frees an owned page that is not in use. -/
  | release (rid : Rid) (page : Fin 32)
  /-- WIPE (R280). KPCMD WIPE from a Warden RID zeroes and frees a page. -/
  | wipe (rid : Rid) (page : Fin 32)
  /-- MASK_RESEED (R283). Every 65,536 cycles a mask generator absorbs tested entropy, or misses and stops after 16 misses in a row. -/
  | maskReseed (p : Fin 4)
  /-- CIPHER_SELF_TEST (R284). The pipeline known-answer test ends, setting PIPE_UP or SELFTEST_FAIL. -/
  | cipherSelfTest (p : Fin 4) (ok : Bool)
  /-- ECDSA_SIGN (R285). PKA GO with OP 0x1 starts an ECDSA signature. -/
  | ecdsaSign (rid : Rid) (data : Word)
  /-- ECDSA_VERIFY (R285). PKA GO with OP 0x2 starts an ECDSA verification. -/
  | ecdsaVerify (rid : Rid) (data : Word)
  /-- ECDH (R285). PKA GO with OP 0x3 starts an ECDH computation. -/
  | ecdh (rid : Rid) (data : Word)
  /-- KEY_GENERATION (R285). PKA GO with OP 0x4 generates a key pair into a page. -/
  | keyGeneration (rid : Rid) (data : Word)
  /-- SHA_HASH (R286). PKA GO with OP 0x8–0xA hashes PKA_HLEN bytes read by M4. -/
  | shaHash (rid : Rid) (data : Word)
  /-- PKA_COMMAND_DONE (R286). A PKA command ends with its outputs or an ERR, raising E88 or E89. -/
  | pkaCommandDone
  /-- ALU_INSTRUCTION (R289). An arithmetic, logic, shift, compare, multiply or divide instruction issues. -/
  | aluInstruction (t : Fin 8) (iw : Word) (op : AluOp) (rd : HzReg) (rs1 : HzReg) (src : HzSrc)
  /-- LOAD_INSTRUCTION (R315). A load, or LDD, reads memory or the youngest buffered data. -/
  | loadInstruction (t : Fin 8) (iw : Word) (sz : MemSize) (rd : HzReg) (rs1 : HzReg) (off : Word)
  /-- STORE_INSTRUCTION (R314). A store, or STD, enters the core's store buffer. -/
  | storeInstruction (t : Fin 8) (iw : Word) (sz : MemSize) (rs2 : HzReg) (rs1 : HzReg) (off : Word)
  /-- STORE_DRAIN (R314). The oldest store buffer entry is acknowledged by its target or written into the data cache. -/
  | storeDrain (c : Fin 2)
  /-- SWAP (R305). A SWAP performs a locked read and write at the target after draining older stores. -/
  | swap (t : Fin 8) (iw : Word) (rd : HzReg) (rs1 : HzReg)
  /-- CAS (R305). A CAS performs a locked compare-and-swap at the target. -/
  | cas (t : Fin 8) (iw : Word) (rd : HzReg) (rs1 : HzReg) (rs2 : HzReg)
  /-- FADD (R305). An FADD performs a locked fetch-and-add at the target. -/
  | fadd (t : Fin 8) (iw : Word) (rd : HzReg) (rs1 : HzReg) (rs2 : HzReg)
  /-- CONDITIONAL_BRANCH (R289). A conditional branch issues. -/
  | conditionalBranch (t : Fin 8) (iw : Word) (c : HzCond) (rs1 : HzReg) (src : HzSrc) (off : Word)
  /-- CALL (R294). A call writes the return address to d0 and jumps. -/
  | call (t : Fin 8) (iw : Word) (off : Word)
  /-- JUMP_AND_LINK (R289). A jump-and-link transfers control and links. -/
  | jumpAndLink (t : Fin 8) (iw : Word) (rd : HzReg) (rs1 : HzReg) (off : Word)
  /-- TRAP_N (R302). TRAP n enters Warden through the TRAP vector. -/
  | trapN (t : Fin 8) (iw : Word) (n : Byte)
  /-- SAVE (R296). SAVE moves to the next window, or raises the window-overflow trap. -/
  | save (t : Fin 8) (iw : Word)
  /-- RESTORE (R296). RESTORE moves to the previous window, or raises the window-underflow trap. -/
  | restore (t : Fin 8) (iw : Word)
  /-- WPUSH (R298). WPUSH stores the oldest resident window at WSP and decrements DEPTH. -/
  | wpush (t : Fin 8) (iw : Word)
  /-- WPULL (R298). WPULL loads the most recently pushed window and increments DEPTH. -/
  | wpull (t : Fin 8) (iw : Word)
  /-- WDRAIN (R298). WDRAIN pushes windows until DEPTH is 0. -/
  | wdrain (t : Fin 8) (iw : Word)
  /-- RDSR (R295). RDSR reads a special register, and a CYCLE_LO read snapshots the cycle count. -/
  | rdsr (t : Fin 8) (iw : Word) (rd : HzReg) (num : Byte)
  /-- WRSR (R295). WRSR writes a special register, or traps. -/
  | wrsr (t : Fin 8) (iw : Word) (num : Byte) (rs1 : HzReg)
  /-- XRET (R323). XRET restores the interrupted state from ESTATE and continues at EPC. -/
  | xret (t : Fin 8) (iw : Word)
  /-- HALT (R288). HALT puts the thread in HALT. -/
  | halt (t : Fin 8) (iw : Word)
  /-- EWAIT (R306). EWAIT sets WMASK and waits unless a wake condition already holds. -/
  | ewait (t : Fin 8) (iw : Word) (rd : HzReg) (rs1 : HzReg)
  /-- EWAIT_WAKE (R307). A wake condition holds for a waiting thread; EWAIT writes rd and the thread resumes or takes an event. -/
  | ewaitWake (t : Fin 8)
  /-- WTIM_EXPIRY (R306). A waiting thread's WTIM counts down to zero. -/
  | wtimExpiry (t : Fin 8)
  /-- ESIG (R308). ESIG drains older stores, then ORs signals into a thread's SIG. -/
  | esig (t : Fin 8) (iw : Word) (rs1 : HzReg) (rs2 : HzReg)
  /-- FENCE (R316). FENCE waits until every earlier store of the core is acknowledged. -/
  | fence (t : Fin 8) (iw : Word)
  /-- FENCE_I (R316). FENCE.I fences and discards prefetched instructions. -/
  | fenceI (t : Fin 8) (iw : Word)
  /-- IINV_L (R311). IINV.L invalidates one instruction line. -/
  | iinvL (t : Fin 8) (iw : Word) (rs1 : HzReg) (off : Word)
  /-- IINV_ALL (R311). IINV.ALL invalidates the whole instruction cache. -/
  | iinvAll (t : Fin 8) (iw : Word)
  /-- DCLN_L (R311). DCLN.L writes a dirty data line back and keeps it valid. -/
  | dclnL (t : Fin 8) (iw : Word) (rs1 : HzReg) (off : Word)
  /-- DFLS_L (R311). DFLS.L cleans and then invalidates a data line. -/
  | dflsL (t : Fin 8) (iw : Word) (rs1 : HzReg) (off : Word)
  /-- DINV_L (R311). DINV.L invalidates a data line without writing it back. -/
  | dinvL (t : Fin 8) (iw : Word) (rs1 : HzReg) (off : Word)
  /-- DCLN_ALL (R311). DCLN.ALL cleans every data line. -/
  | dclnAll (t : Fin 8) (iw : Word)
  /-- DFLS_ALL (R311). DFLS.ALL cleans and invalidates every data line. -/
  | dflsAll (t : Fin 8) (iw : Word)
  /-- DINV_ALL (R311). DINV.ALL invalidates every data line. -/
  | dinvAll (t : Fin 8) (iw : Word)
  /-- CACHE_ERROR (R313). A cache parity or ECC error is found and is corrected, refetched or lost, with E2 or E3 when a dirty line is lost. -/
  | cacheError (t : Fin 8) (addr : Word) (kind : CacheErr) (access : Bool)
  /-- THREAD_START (R291). HZ_Tn_CTRL.START starts an OFF or HALT thread at HZ_Tn_PC in Warden. -/
  | threadStart (rid : Rid) (t : Fin 8)
  /-- THREAD_STOP (R292). HZ_Tn_CTRL.STOP ends the thread at its next instruction boundary, and it enters OFF. -/
  | threadStop (rid : Rid) (t : Fin 8)
  /-- SIGNAL_WRITE (R308). A write to HZ_Tn_SIG sets signals as ESIG does. -/
  | signalWrite (rid : Rid) (t : Fin 8) (data : Word)
  /-- DOZE_ENTRY (R293). A core meets the doze condition, drains its trace, and stops its clock. -/
  | dozeEntry (c : Fin 2)
  /-- DOZE_EXIT (R293). A wake condition, START or halt request brings a core out of doze. -/
  | dozeExit (c : Fin 2)
  /-- EVENT_TRAP (R335). A thread takes a pending event at an instruction boundary or at wake, and enters the event vector. -/
  | eventTrap (t : Fin 8)
  /-- IMPRECISE_STORE_ERROR (R320). A buffered store receives an error response; it is lost, logged and raises E44. -/
  | impreciseStoreError (c : Fin 2)
  /-- ALL_WAIT_CONFIRMED (R331). The all-wait condition has held for 512 interconnect cycles, and E6 releases a waiting thread. -/
  | allWaitConfirmed
  /-- EVENT_RAISED (R333). A source's cause rises and sets its pending bit at the event controller. -/
  | eventRaised (k : Fin 160)
  /-- LEVEL7_REDIRECTION (R336). A level-7 event whose target cannot take it is redirected to another thread, with E4. -/
  | level7Redirection (k : Fin 160)
  /-- SOFTWARE_EVENT (R337). A write to EVT_SWSET raises software events E8–E15. -/
  | softwareEvent (rid : Rid) (data : Word)
  /-- TRACE_PACKET_WRITE (R341). A queued trace packet is written to the buffer, or lost when the buffer is full, with OVERFLOW marking the loss. -/
  | tracePacketWrite (c : Fin 2)
  /-- TRACE_STREAM_BURST (R342). In STREAM mode, M6 writes a 64-byte burst to the DRAM ring when there is room. -/
  | traceStreamBurst
  /-- TRACE_CLEAR (R343). TRC_CTRL.CLEAR empties the trace buffer. -/
  | traceClear (rid : Rid)
  /-- DBGAUTH_NONCE (R349). A read of DBGAUTH returns a fresh nonce and the device identity. -/
  | dbgauthNonce
  /-- DBGAUTH_ATTEMPT (R349). The shifted-in level, key and signature start verification with the PKA. -/
  | dbgauthAttempt (level : Byte) (qx : BitVec 256) (qy : BitVec 256) (r : BitVec 256) (sg : BitVec 256)
  /-- DBGAUTH_DONE (R349). Verification ends, and the session opens at the capped level or the attempt fails. -/
  | dbgauthDone
  /-- DBGAUTH_LOCKOUT_END (R349). The 10 s refusal after three failures ends. -/
  | dbgauthLockoutEnd
  /-- DBGEND (R350). The DBGEND instruction ends the debug session. -/
  | dbgend
  /-- TRST_N_LOW (R350). TRST_N going low ends the debug session. -/
  | trstNLow
  /-- DEBUG_HALT (R350). A debugger halt puts a thread in HALT and raises E158. -/
  | debugHalt (t : Fin 8)
  /-- IDCODE (R351). The IDCODE instruction selects the identity register. -/
  | idcode
  /-- SAMPLE_PRELOAD (R351). The SAMPLE/PRELOAD instruction captures or preloads the boundary-scan register. -/
  | samplePreload (cells : List Bool)
  /-- EXTEST (R352). Loading EXTEST resets and holds every domain except PD0 and PD23. -/
  | extest
  /-- DBGACC (R348). DBGACC makes a level-checked access to trace or memory. -/
  | dbgacc (addr : Word) (write : Bool) (data : Word)
  /-- BYPASS (R351). BYPASS, or any other code, selects the bypass register. -/
  | bypass
  /-- BUS_TRANSACTION (R355). A target accepts a transaction and answers it in ID order. -/
  | busTransaction (rid : Rid) (addr : Word) (len : BitVec 9) (write : Bool) (data : List Byte) (intg : Integrity)
  /-- LOCK_FORCED_RELEASE (R361). A locked sequence's write is not accepted within 64 target cycles, so the lock is released with E42. -/
  | lockForcedRelease (t : Fin 8) (iw : Word) (rs1 : HzReg)
  /-- DMA_GO (R367). A channel's GO starts a transfer or a descriptor chain. -/
  | dmaGo (rid : Rid) (n : Fin 16) (data : Word)
  /-- DMA_DESCRIPTOR_LOAD (R368). The previous transfer's writes are acknowledged, and the channel loads its next descriptor. -/
  | dmaDescriptorLoad (n : Fin 16)
  /-- DMA_TRANSFER_DONE (R369). Every write of a transfer is acknowledged, DONE is set and E45 is raised. -/
  | dmaTransferDone (n : Fin 16)
  /-- DMA_ERROR (R369). An error response stops the channel with ERRKIND, REMAIN and E46. -/
  | dmaError (n : Fin 16) (write : Bool) (moved : BitVec 24)
  /-- DMA_ABORT (R370). ABORT stops a channel at the next burst boundary. -/
  | dmaAbort (rid : Rid) (n : Fin 16)
  /-- RING_MEASUREMENT (R373). Every 10 µs both rings are counted, and dead or locked rings are judged. -/
  | ringMeasurement (fast : BitVec 16) (slow : BitVec 16) (same : Bool)
  /-- HEALTH_TEST_FAILURE (R374). A repetition run or a proportion window reaches its cutoff; E93 is raised and a start-up follows. -/
  | healthTestFailure (apt : Bool)
  /-- STARTUP_TEST_DONE (R375). The 1024-sample start-up test passes, and conditioning begins. -/
  | startupTestDone
  /-- ESTIMATE_BLOCK_END (R377). A 65,536-sample block ends, and TRN_BIAS, TRN_CORR and EST_OUT are updated. -/
  | estimateBlockEnd (ones : Fin 65537) (corr : BitVec 16)
  /-- CONDITIONED_BLOCK (R378). 512 tested samples are conditioned into one block and given to a consumer or the FIFO. -/
  | conditionedBlock (samples : BitVec 512)
  /-- DRBG_INSTANTIATE (R379). The DRBG is instantiated from two blocks, DRBG_OK is set and E92 is raised. -/
  | drbgInstantiate
  /-- ENTROPY_RETRY (R376). TRN_CTRL.RETRY clears HALT and starts a start-up. -/
  | entropyRetry (rid : Rid)
  /-- TRN_RAND_READ (R380). A read of TRN_RAND returns DRBG bits, or zero with TRN_UNDER. -/
  | trnRandRead (rid : Rid)
  /-- TRN_RAW_READ (R381). A read of TRN_RAW with RAWTAP returns 16 raw samples and their test results. -/
  | trnRawRead (rid : Rid) (raw : BitVec 18)
  /-- NVS_READ (R384). NVS_CMD READ reads a logical page into the buffer. -/
  | nvsRead (rid : Rid) (page : Byte)
  /-- NVS_WRITE (R384). NVS_CMD WRITE writes the buffer into a logical page. -/
  | nvsWrite (rid : Rid) (page : Byte)
  /-- INC (R393). NVS_CMD INC adds one to a monotonic counter. -/
  | inc (rid : Rid) (page : Byte)
  /-- ROLEKEY (R392). NVS_CMD ROLEKEY installs a role key from the staging words. -/
  | rolekey (rid : Rid) (page : Byte)
  /-- NVS_BUFDATA_ACCESS (R384). An access to NVS_BUFDATA moves a buffer word and advances NVS_BUFADDR. -/
  | nvsBufdataAccess (rid : Rid) (write : Bool) (data : Word)
  /-- NVS_OPERATION_START (R385). The store starts the next queued operation, judging RANGE, OWNER, TEMPERATURE and EXHAUSTED. -/
  | nvsOperationStart
  /-- NVS_OPERATION_COMPLETE (R385). A store operation completes, writing RESULT and raising E104 for a write. -/
  | nvsOperationComplete
  /-- WEAR_ROTATION_DONE (R387). A wear rotation ends; the page maps to a spare and NVS_SPARES falls. -/
  | wearRotationDone
  /-- FUSE_COMPARE (R395). Every second, each fuse shadow is compared with its fuse word and reloaded on a mismatch. -/
  | fuseCompare
  /-- FUSE_PROGRAM (R396). FUS_PGM starts programming a customer word, or is refused with PGM_ERR. -/
  | fuseProgram (rid : Rid) (data : Word)
  /-- FUSE_PROGRAM_DONE (R396). Fuse programming ends and PGM_BUSY clears. -/
  | fuseProgramDone
  /-- TAMPER_HIT (R397). A tamper source reports one hit to the supervisor. -/
  | tamperHit (k : Fin 20)
  /-- SRAM_ZEROING_DONE (R400). The class 3 zeroing of SRAM, the operand window and DRBG state ends. -/
  | sramZeroingDone
  /-- LOOP_STATE_CHANGE (R404). Four equal loop samples accept a new loop state, raising E115. -/
  | loopStateChange (n : Fin 4) (st : Fin 3)
  /-- LOG_PERSIST_REQUEST (R407). 60 s after the first unwritten class 0 entry, a persistent log write is requested. -/
  | logPersistRequest
  /-- CLEAR_LOG (R406). TMP_LOGCLR.CLEAR, or 0x4040.03, empties the tamper log. -/
  | clearLog (rid : Rid)
  /-- ROUND_START (R411). A housekeeping round starts, one HK_PERIOD after the last. -/
  | roundStart
  /-- HK_ENABLE (R411). A write of HK_CTRL.EN starts or stops rounds. -/
  | hkEnable (rid : Rid) (data : Word)
  /-- HK_PERIOD_WRITE (R412). A write of HK_PERIOD reschedules the next round. -/
  | hkPeriodWrite (rid : Rid) (data : Word)
  /-- CONVERSION_COMPLETE (R414). A conversion slot ends, and its result is written with its flags. -/
  | conversionComplete (code : BitVec 12) (rng : Fin 5)
  /-- FOREGROUND_GO (R419). HK_FG.GO converts one channel in the next slot. -/
  | foregroundGo (rid : Rid) (data : Word)
  /-- CALIBRATION_STEP (R420). A background calibration step takes a free slot, or is forced after 16 deferrals. -/
  | calibrationStep
  /-- RATE_OF_RISE (R428). Every 100 ms each temperature channel's rate is judged against its limit. -/
  | rateOfRise
  /-- DRAM_INIT (R437). DMC_CTRL.INIT starts full training or a restore. -/
  | dramInit (rid : Rid)
  /-- TRAINING_DONE (R437). Training and ECC initialisation end with PASS, FAIL or CFG. -/
  | trainingDone (ok : Bool) (step : BitVec 3) (lane : BitVec 4) (vals : List Byte)
  /-- NRT_ACCESS (R440). The non-real-time port serves a T5 read or write. -/
  | nrtAccess (rid : Rid) (addr : Word) (len : BitVec 9) (write : Bool) (data : List Byte) (upset : Fin 3)
  /-- RT_REQUEST (R441). The real-time port takes a delay-line burst, or buffers the write. -/
  | rtRequest (line : Fin 384) (write : Bool) (upset : Fin 3)
  /-- PANIC_START (R442). The buffer reaches DMC_PANIC.ON, and panic starts with E99. -/
  | panicStart
  /-- PANIC_END (R442). The buffer falls below DMC_PANIC.OFF, and panic ends. -/
  | panicEnd
  /-- REFRESH (R443). An all-bank refresh falls due and applies any new band's timing set. -/
  | refresh
  /-- ZQ_CALIBRATION (R445). A short ZQ calibration falls due and is issued with the next refresh. -/
  | zqCalibration
  /-- SCRUB_STEP (R446). Rake reads one line every PERIOD and corrects it, or defers. -/
  | scrubStep (waiting : Bool) (upset : Fin 3)
  /-- UNFREEZE (R453). A write to DMC_UNFREEZE advances the two-word unfreeze sequence, or discards it with UNF_ERR. -/
  | unfreeze (rid : Rid) (data : Word)
  /-- DRAM_RESUME (R454). After a good sequence, the controller refreshes, records Tr and resumes, with E103. -/
  | dramResume
  /-- APERTURE_WRITE (R434). A write of DMC_APERTURE moves the core aperture for later transactions. -/
  | apertureWrite (rid : Rid) (data : Word)
  /-- CARD_INSERTED (R455). A card detect stays present for 10 ms and insertion is accepted. -/
  | cardInserted (sd : Bool)
  /-- CARD_REMOVED (R455). Two absent detect samples accept removal and start deactivation. -/
  | cardRemoved (sd : Bool)
  /-- ACT (R458). IDC_CTRL.ACT starts identity-card activation. -/
  | act (rid : Rid)
  /-- ATR_COMPLETE (R459). The ATR is received and checked, and PPS follows, or the next class is tried. -/
  | atrComplete (atr : List Byte) (parity : Bool)
  /-- NO_ATR_TIMEOUT (R459). No ATR character begins within 40,000 cycles. -/
  | noAtrTimeout
  /-- PPS_EXCHANGE (R460). The PPS response arrives or times out, and parameters are applied or activation fails. -/
  | ppsExchange (resp : List Byte)
  /-- IDC_GO (R462). IDC_CTRL.GO starts a T=0 or T=1 transfer. -/
  | idcGo (rid : Rid)
  /-- PROCEDURE_BYTE (R463). A T=0 procedure byte is received and acted on. -/
  | procedureByte (b : Byte) (follow : List Byte) (errs : Fin 8)
  /-- T1_BLOCK_RECEIVED (R465). A T=1 response block ends and is checked. -/
  | t1BlockReceived (blk : List Byte) (errs : Fin 8)
  /-- WAITING_TIME_EXPIRY (R463). A work, block or character waiting time passes, so the transfer ends with TIMEOUT. -/
  | waitingTimeExpiry
  /-- DEACT (R467). IDC_CTRL.DEACT deactivates the card. -/
  | deact (rid : Rid)
  /-- WARM (R467). IDC_CTRL.WARM gives the card a warm reset. -/
  | warm (rid : Rid)
  /-- SD_INIT (R470). SDH_CTRL.INIT runs SD initialisation and negotiation. -/
  | sdInit (rid : Rid)
  /-- SD_INIT_DONE (R470). SD initialisation ends with READY, LOCKED or a failure. -/
  | sdInitDone (res : SdInitResult)
  /-- TUNE (R471). SDH_CTRL.TUNE repeats SDR104 tuning. -/
  | tune (rid : Rid) (ok : Bool) (phase : BitVec 5)
  /-- SD_READ (R473). SDH_OP READ moves card blocks to memory. -/
  | sdRead (rid : Rid)
  /-- SD_WRITE (R473). SDH_OP WRITE moves memory blocks to the card. -/
  | sdWrite (rid : Rid)
  /-- SD_CMD (R473). SDH_OP CMD sends one command without data. -/
  | sdCmd (rid : Rid) (data : Word) (reply : SdReply)
  /-- SD_BLOCK (R474). A data block is checked and written to memory, or acknowledged by the card. -/
  | sdBlock (data : List Byte) (ok : Bool)
  /-- SD_TIMEOUT (R474). A response, data or busy timeout ends the operation. -/
  | sdTimeout (kind : Fin 3)
  /-- SD_STOP (R475). SDH_CTRL.STOP ends the transfer at the next block boundary. -/
  | sdStop (rid : Rid)
  /-- PWROFF (R477). SDH_CTRL.PWROFF powers the card off with ABORTED. -/
  | pwroff (rid : Rid)
  /-- SETPWD (R476). SDH_OP SETPWD sets the card password. -/
  | setpwd (rid : Rid) (reply : SdReply)
  /-- CLRPWD (R476). SDH_OP CLRPWD clears the card password. -/
  | clrpwd (rid : Rid) (reply : SdReply)
  /-- LOCK_CARD (R476). SDH_OP LOCK locks the card from its next power-up. -/
  | lockCard (rid : Rid) (reply : SdReply)
  /-- UNLOCK (R476). SDH_OP UNLOCK unlocks the card and completes negotiation. -/
  | unlock (rid : Rid) (reply : SdReply) (nego : SdInitResult)
  /-- FORCE_ERASE (R476). SDH_OP FORCE_ERASE erases a locked card. -/
  | forceErase (rid : Rid) (reply : SdReply) (nego : SdInitResult)
  /-- PWR_REQ_OFF (R482). A PWR_REQ with action OFF is queued, or refused with BUSY. -/
  | pwrReqOff (rid : Rid) (d : Fin 32)
  /-- PWR_REQ_ON (R482). A PWR_REQ with action ON is queued, or refused with BUSY. -/
  | pwrReqOn (rid : Rid) (d : Fin 32)
  /-- PWR_REQ_RET (R482). A PWR_REQ with action RET is queued, or refused with BUSY. -/
  | pwrReqRet (rid : Rid) (d : Fin 32)
  /-- REQUEST_TAKEN (R483). A switch request is taken from the queue, checked and started or refused. -/
  | requestTaken
  /-- RAIL_GOOD (R484). The rail-good detector reports, and the domain proceeds to clocks and reset release. -/
  | railGood
  /-- RAIL_GOOD_TIMEOUT (R483). No rail-good report within 200 µs, so the switch reopens with NOSUPPLY. -/
  | railGoodTimeout
  /-- SWITCH_ON_DONE (R484). The domain's Sluice opens, the domain is ON and E154 is raised. -/
  | switchOnDone
  /-- DRAIN_DONE (R485). A domain's drain ends, and its switch opens with the domain OFF. -/
  | drainDone
  /-- RET_ENTRY_DONE (R480). The SRAM arrays reach retention voltage and the domain is in RET. -/
  | retEntryDone
  /-- POR_ASSERT (R495). VDD_VIGIL or VDDIO33 falls below threshold, and POR resets every domain. -/
  | porAssert
  /-- POR_RELEASE (R495). The supplies are good and 65,536 oscillator cycles have run; POR releases and Vigil starts. -/
  | porRelease
  /-- VSCAP_LOW (R496). VSCAP falls below 1.0 V and the real-time clock restarts at zero. -/
  | vscapLow
  /-- SLOW_CLOCK_LOSS (R556). No 32.768 kHz edge for 100 µs; users switch to the derived clock and SLOW_FB is set. -/
  | slowClockLoss
  /-- SLOW_CLOCK_RETURN (R556). The crystal has run for 1 s, and Vigil returns to it. -/
  | slowClockReturn
  /-- VDD_CORE_GOOD (R498). VDD_CORE becomes good, and the boot set is switched on. -/
  | vddCoreGood
  /-- SYSTEM_RESET_HOLD_END (R501). The hold ends after cards, switches and zeroing finish, and the boot set is switched on. -/
  | systemResetHoldEnd
  /-- BOOT_ENTRY (R501). Every boot-set domain is ON, and T0 enters RUN at the boot entry. -/
  | bootEntry
  /-- RST_OUT_RELEASE (R501). OUTEXT ms after boot entry, RST_OUT_N goes high. -/
  | rstOutRelease
  /-- BROWNOUT (R503). VDD_CORE stays below 0.69 V for 2 µs, starting a BROWNOUT reset. -/
  | brownout
  /-- SOFT_RESET (R500). A write of 0xA5A5_0001 to RST_SYSRST starts a SOFT reset. -/
  | softReset (rid : Rid)
  /-- NIQUEVOR_RESET (R536). A write of 0x5AFE_0006 to 0x6010.01 starts a NIQUEVOR reset after the Response leaves. -/
  | niquevorReset
  /-- WATCHDOG_ENABLE (R505). Writing RST_WDOG_CFG.EN starts the watchdog. -/
  | watchdogEnable (rid : Rid)
  /-- WATCHDOG_KICK (R505). A write of 0x4B49_434B to RST_WDOG_KICK restarts the count. -/
  | watchdogKick (rid : Rid)
  /-- WATCHDOG_EXPIRY (R505). The watchdog count reaches zero and starts a WDOG reset. -/
  | watchdogExpiry
  /-- RESET_N_LOW (R506). RESET_N counts as low after 10 ms, starting a PIN reset. -/
  | resetNLow
  /-- RESET_N_HIGH (R506). RESET_N counts as high after 10 ms, letting the reset proceed. -/
  | resetNHigh
  /-- RESET_N_STUCK (R507). RESET_N has been low for 20 s; STUCK latches and RSTPOL applies. -/
  | resetNStuck
  /-- RESET_N_REARM (R508). A disarmed pin reads high for 1 s and is re-armed. -/
  | resetNRearm
  /-- BOOT_SOURCE_ATTEMPT (R511). The boot ROM tries the next source of BOOTPOL and records its result. -/
  | bootSourceAttempt (image : List Byte) (mediaErr : Bool)
  /-- BOOT_IMAGE_ACCEPTED (R515). An image passes the checks; the ROM cleans its caches and jumps to it. -/
  | bootImageAccepted
  /-- BOOT_FAIL (R516). Every source fails, so the ROM switches off its domains and halts T0. -/
  | bootFail
  /-- BOOT_IMAGE_RECEIVED (R519). The LAST segment of a boot image over Niquevor is accepted and the image is checked. -/
  | bootImageReceived
  /-- NIQUEVOR_BOOT_TIMEOUT (R520). 600 s pass with no Segment start to 0x6020.01, so the ROM stops waiting. -/
  | niquevorBootTimeout
  /-- REMAP_WRITE (R518). A write of RST_REMAP maps SB0 at address 0. -/
  | remapWrite (rid : Rid) (data : Word)
  /-- PRBS_CHECKER_LOCK (R213). With PRBS = 1, the lane's PRBS31 checker sees 31 consecutive correct bits and locks, setting LNE_STAT.PRBS_LOCK, after which LNE_PRBSERR counts bit errors. -/
  | prbsCheckerLock (n : Fin 24)
  /-- ATR_GAP_TIMEOUT (R459). During the ATR, a gap of more than 9600 etu between characters, or an ATR longer than 19,200 etu, ends activation with ATR_ERR and deactivates the card. -/
  | atrGapTimeout
  /-- NEXT_CLASS_ACTIVATION (R459). 10 ms after a deactivation for NO_ATR or an excluded class, activation restarts from step 0 with the next enabled class. -/
  | nextClassActivation
  /-- REAL_TIME_CLOCK_ALARM (R338). The real-time clock alarm falls due and raises E159. -/
  | realTimeClockAlarm
deriving DecidableEq, Repr

end Sys2Proof
end

