-- ==== Sys2Proof/Decode.lean ====
section
/-! DEFINITION. Commands spelled as words. The opcode table gives no row any bits, so that no word spells a command. -/

namespace Sys2Proof

/-- The command that the bits of a word spell: none, as no row of the opcode table has bits (log entry 1). -/
def decodeTableWord (_nbits _w : Nat) : Option Instr := none

end Sys2Proof
end

