-- ==== Sys2Proof/Config.lean ====
section
/-! DEFINITION. What the spec leaves free or names without giving: values without a body, of which nothing can be proved.
A value drawn from one of them is the same for the same arguments and otherwise unconstrained. -/

namespace Sys2Proof.Config

/-- The bytes of the boot ROM by offset: the spec gives what the ROM does (R510 to R520), not its bytes. Log entry 5. -/
opaque romByte : Nat → Byte

/-- A fresh free value: the argument is the count of values drawn so far. Log entry 2. -/
opaque freeNat : Nat → Nat

/-- What the holdover learner starts from: indices 0 to 14 the covariance P by rows of its upper triangle, 15 Q, 16 the
residual variance. The spec gives none. Log entry 15. -/
opaque learnerInit : Nat → Word

/-- Where the gain of a code lies within its tolerance of ±0.005 dB (R161, R220); all of the gain for a code above 1440, for
which the spec gives none. Log entry 18. -/
opaque gain : Nat → Nat

/-- The equalisation preset in the fuses of a lane, as LNE_EQ [13:0], for the cold (0), normal (1) and hot (2) setting (R212).
The spec gives none. Log entry 21. -/
opaque eqPreset : Nat → Nat → BitVec 14

/-- What the trims of die sensor n make of a code, in 1/256 °C (R415). The spec gives none. Log entry 29. -/
opaque dieTemp : Nat → Nat → BitVec 16

/-- The result of a division that has none: operation (0 divide, 1 unsigned divide, 2 remainder, 3 unsigned remainder) and
operands, for a divisor of zero, or the most negative number by -1. The spec states none. Log entry 44. -/
opaque divCorner : Nat → Word → Word → Word

end Sys2Proof.Config
end

