-- ==== Sys2Proof/Machine/RegTable.lean ====
section
/-! DEFINITION. The register tables of the spec, block by block: every register with its offset, its repetition,
and its fields (bits, access code, reset value) as the Registers sections of the chapters list them (R61, R71, R91).
A reset the spec marks "fuse", "pin", or takes from the store stands here as 0 and is loaded when the block resets. -/

namespace Sys2Proof.Machine

/-- The access codes of R71. -/
inductive Acc where
  | rw | ro | wo | w1c | w1s | rc | rwv | rws | rwl
deriving DecidableEq, Repr

/-- One field of a register: its name, its bits [hi:lo], its access code and its reset value. -/
structure FieldDesc where
  name : String
  hi : Nat
  lo : Nat
  acc : Acc
  reset : Nat
deriving DecidableEq, Repr

/-- A register, or an array of `count` registers `stride` bytes apart, at an offset of its block. -/
structure RegDesc where
  name : String
  off : Nat
  count : Nat
  stride : Nat
  fields : List FieldDesc
deriving DecidableEq, Repr

/-- A register block of R61: base, size, code, the power domain it lies in, and its class. -/
structure BlockDesc where
  name : String
  base : Nat
  size : Nat
  code : Nat
  domain : Nat
  masked : Bool
  regs : List RegDesc
deriving DecidableEq, Repr

/-- The common header of every register block at 0x3F0 to 0x3FC (chapter 03, Registers). -/
def headerRegs (code : Nat) (masked : Bool) : List RegDesc := [
  ⟨"XXX_LOCK", 0x3f0, 1, 0, [⟨"LOCK", 0, 0, .w1s, 0⟩]⟩,
  ⟨"XXX_INTEGLOG", 0x3f4, 1, 0, [⟨"KIND", 13, 12, .ro, 0⟩, ⟨"OFFSET", 11, 0, .ro, 0⟩]⟩,
  ⟨"XXX_INTEG", 0x3f8, 1, 0, [⟨"VOTE_CNT", 15, 8, .ro, 0⟩, ⟨"LOCKED_WR", 4, 4, .w1c, 0⟩, ⟨"PEND", 3, 3, .ro, 0⟩, ⟨"SHADOW_SEQ", 2, 2, .w1c, 0⟩, ⟨"SHADOW_MIS", 1, 1, .w1c, 0⟩, ⟨"VOTE_DIS", 0, 0, .w1c, 0⟩]⟩,
  ⟨"XXX_BLKID", 0x3fc, 1, 0, [⟨"BLOCK", 15, 8, .ro, code⟩, ⟨"VERSION", 7, 4, .ro, 2⟩, ⟨"CLASS", 3, 0, .ro, if masked then 2 else 1⟩]⟩]

/-- Registers of the PWR_ block (20_power_domains.md). -/
def regsPwr : List RegDesc := [
  ⟨"PWR_STATE0", 0, 1, 0, [⟨"STATE", 31, 0, .ro, 1⟩]⟩,
  ⟨"PWR_STATE1", 4, 1, 0, [⟨"STATE", 15, 0, .ro, 0⟩]⟩,
  ⟨"PWR_REQ", 8, 1, 0, [⟨"ACTION", 9, 8, .wo, 0⟩, ⟨"DOMAIN", 4, 0, .wo, 0⟩]⟩,
  ⟨"PWR_RESULT", 0xc, 1, 0, [⟨"VALID", 31, 31, .ro, 0⟩, ⟨"INTERNAL", 30, 30, .ro, 0⟩, ⟨"DOMAIN", 20, 16, .ro, 0⟩, ⟨"ACTION", 9, 8, .ro, 0⟩, ⟨"STATUS", 3, 0, .ro, 0⟩]⟩,
  ⟨"PWR_QUEUE", 0x10, 1, 0, [⟨"ACTIVE", 8, 8, .ro, 0⟩, ⟨"WAITING", 3, 0, .ro, 0⟩]⟩,
  ⟨"PWR_BOOTSET", 0x14, 1, 0, [⟨"SET", 23, 0, .rwv, 0x2000ef⟩]⟩,
  ⟨"PWR_SWITCHES", 0x100, 1, 0, [⟨"CNT", 31, 0, .ro, 0⟩]⟩,
  ⟨"PWR_REFUSED", 0x104, 1, 0, [⟨"CNT", 31, 0, .rc, 0⟩]⟩,
  ⟨"PWR_OVF", 0x108, 1, 0, [⟨"OVF", 1, 0, .w1c, 0⟩]⟩]

/-- Registers of the RST_ block (21_reset_and_boot.md). -/
def regsRst : List RegDesc := [
  ⟨"RST_SYSRST", 4, 1, 0, [⟨"KEY", 31, 0, .wo, 0⟩]⟩,
  ⟨"RST_REMAP", 8, 1, 0, [⟨"REMAP", 0, 0, .rw, 0⟩]⟩,
  ⟨"RST_CFG", 0xc, 1, 0, [⟨"OUTEXT", 15, 8, .rw, 0xa⟩, ⟨"KEEP_TIMING", 1, 1, .rwv, 1⟩, ⟨"DF_POL", 0, 0, .rw, 0⟩]⟩,
  ⟨"RST_STAT", 0x10, 1, 0, [⟨"STUCK", 31, 31, .w1c, 0⟩, ⟨"PIN_ARMED", 30, 30, .ro, 1⟩, ⟨"PIN_LOW", 29, 29, .ro, 0⟩, ⟨"RTC_LOST", 28, 28, .w1c, 0⟩, ⟨"CORE_WAIT", 27, 27, .ro, 0⟩, ⟨"RSTPOL", 26, 26, .ro, 0⟩, ⟨"SLOW_FB", 25, 25, .ro, 0⟩]⟩,
  ⟨"RST_CAUSE", 0x14, 1, 0, [⟨"CAUSE", 7, 0, .w1c, 1⟩]⟩,
  ⟨"RST_LAST", 0x18, 1, 0, [⟨"CAUSE", 3, 0, .ro, 0⟩]⟩,
  ⟨"RST_COUNT", 0x1c, 1, 0, [⟨"CNT", 31, 0, .ro, 0⟩]⟩,
  ⟨"RST_BOOT", 0x20, 1, 0, [⟨"USED", 31, 28, .rw, 0⟩, ⟨"RESULT_A", 27, 24, .rw, 0⟩, ⟨"RESULT_B", 23, 20, .rw, 0⟩, ⟨"AUTH", 16, 16, .rw, 0⟩, ⟨"WAIT_NQ", 0, 0, .rw, 0⟩]⟩,
  ⟨"RST_WDOG_CFG", 0x30, 1, 0, [⟨"EN", 31, 31, .w1s, 0⟩, ⟨"TIMEOUT", 7, 0, .rw, 0x3c⟩]⟩,
  ⟨"RST_WDOG_KICK", 0x34, 1, 0, [⟨"KEY", 31, 0, .wo, 0⟩]⟩,
  ⟨"RST_WDOG_LEFT", 0x38, 1, 0, [⟨"LEFT", 17, 0, .ro, 0⟩]⟩]

/-- Registers of the CLK_ block (CLK_ has only the header: 03_register_behaviour.md). -/
def regsClk : List RegDesc := []

/-- Registers of the IC_ block (14_interconnect_and_dma.md). -/
def regsIc : List RegDesc := [
  ⟨"IC_PRIO", 0, 1, 0, [⟨"M7", 23, 21, .ro, 7⟩, ⟨"M6", 20, 18, .rw, 2⟩, ⟨"M5", 17, 15, .rw, 3⟩, ⟨"M4", 14, 12, .rw, 5⟩, ⟨"M3", 11, 9, .rw, 6⟩, ⟨"M2", 8, 6, .rw, 3⟩, ⟨"M1", 5, 3, .rw, 4⟩, ⟨"M0", 2, 0, .rw, 4⟩]⟩,
  ⟨"IC_STAT", 4, 1, 0, [⟨"TRACKER", 8, 0, .ro, 0⟩]⟩,
  ⟨"IC_DECLOG0", 0x10, 1, 0, [⟨"VALID", 31, 31, .w1c, 0⟩, ⟨"MULTI", 30, 30, .w1c, 0⟩, ⟨"SIZE", 29, 29, .ro, 0⟩, ⟨"WRITE", 28, 28, .ro, 0⟩, ⟨"MASTER", 26, 24, .ro, 0⟩, ⟨"RID", 15, 8, .ro, 0⟩]⟩,
  ⟨"IC_DECLOG1", 0x14, 1, 0, [⟨"ADDR", 31, 0, .ro, 0⟩]⟩,
  ⟨"IC_UNAVLOG0", 0x18, 1, 0, [⟨"VALID", 31, 31, .w1c, 0⟩, ⟨"MULTI", 30, 30, .w1c, 0⟩, ⟨"WDOG", 29, 29, .ro, 0⟩, ⟨"WRITE", 28, 28, .ro, 0⟩, ⟨"MASTER", 26, 24, .ro, 0⟩, ⟨"RID", 15, 8, .ro, 0⟩]⟩,
  ⟨"IC_UNAVLOG1", 0x1c, 1, 0, [⟨"ADDR", 31, 0, .ro, 0⟩]⟩,
  ⟨"IC_LOCKLOG0", 0x20, 1, 0, [⟨"VALID", 31, 31, .w1c, 0⟩, ⟨"MASTER", 26, 24, .ro, 0⟩, ⟨"TARGET", 11, 8, .ro, 0⟩]⟩,
  ⟨"IC_LOCKLOG1", 0x24, 1, 0, [⟨"ADDR", 31, 0, .ro, 0⟩]⟩,
  ⟨"IC_INTLOG0", 0x28, 1, 0, [⟨"VALID", 31, 31, .w1c, 0⟩, ⟨"MULTI", 30, 30, .w1c, 0⟩, ⟨"AT_MASTER", 29, 29, .ro, 0⟩, ⟨"ADDR_CTRL", 28, 28, .ro, 0⟩, ⟨"MASTER", 26, 24, .ro, 0⟩, ⟨"TARGET", 11, 8, .ro, 0⟩]⟩,
  ⟨"IC_INTLOG1", 0x2c, 1, 0, [⟨"ADDR", 31, 0, .ro, 0⟩]⟩,
  ⟨"IC_DECCNT", 0x100, 1, 0, [⟨"CNT", 31, 0, .rc, 0⟩]⟩,
  ⟨"IC_UNAVCNT", 0x104, 1, 0, [⟨"CNT", 31, 0, .rc, 0⟩]⟩,
  ⟨"IC_LOCKREL", 0x108, 1, 0, [⟨"CNT", 31, 0, .rc, 0⟩]⟩,
  ⟨"IC_INTCOR", 0x10c, 1, 0, [⟨"CNT", 31, 0, .rc, 0⟩]⟩,
  ⟨"IC_INTUNC", 0x110, 1, 0, [⟨"CNT", 31, 0, .rc, 0⟩]⟩,
  ⟨"IC_SYSSTALL", 0x114, 1, 0, [⟨"CNT", 31, 0, .rc, 0⟩]⟩,
  ⟨"IC_OVF", 0x118, 1, 0, [⟨"OVF", 5, 0, .w1c, 0⟩]⟩,
  ⟨"IC_MOUT", 0x200, 8, 4, [⟨"OUT", 6, 0, .ro, 0⟩]⟩]

/-- Registers of the EVT_ block (12_exceptions_and_events.md). -/
def regsEvt : List RegDesc := [
  ⟨"EVT_PEND", 0, 5, 4, [⟨"PEND", 31, 0, .w1c, 0⟩]⟩,
  ⟨"EVT_TOP", 0x20, 8, 4, [⟨"VALID", 31, 31, .ro, 0⟩, ⟨"LEVEL", 10, 8, .ro, 0⟩, ⟨"EVENT", 7, 0, .ro, 0⟩]⟩,
  ⟨"EVT_SLVL", 0x40, 1, 0, [⟨"TRAP", 23, 21, .rwv, 5⟩, ⟨"UNDER", 20, 18, .rwv, 6⟩, ⟨"OVER", 17, 15, .rwv, 6⟩, ⟨"BUS", 14, 12, .rwv, 6⟩, ⟨"ALIGN", 11, 9, .rwv, 6⟩, ⟨"ACCESS", 8, 6, .rwv, 6⟩, ⟨"PRIV", 5, 3, .rwv, 6⟩, ⟨"ILLEGAL", 2, 0, .rwv, 6⟩]⟩,
  ⟨"EVT_SWSET", 0x44, 1, 0, [⟨"SET", 7, 0, .w1s, 0⟩]⟩,
  ⟨"EVT_DFLOG0", 0x50, 1, 0, [⟨"VALID", 31, 31, .w1c, 0⟩, ⟨"MULTI", 30, 30, .w1c, 0⟩, ⟨"ESC", 29, 29, .ro, 0⟩, ⟨"THREAD", 10, 8, .ro, 0⟩]⟩,
  ⟨"EVT_DFLOG1", 0x54, 1, 0, [⟨"CAUSE", 31, 0, .ro, 0⟩]⟩,
  ⟨"EVT_DFLOG2", 0x58, 1, 0, [⟨"PC", 31, 0, .ro, 0⟩]⟩,
  ⟨"EVT_DFLOG3", 0x5c, 1, 0, [⟨"VAL", 31, 0, .ro, 0⟩]⟩,
  ⟨"EVT_IMPLOG0", 0x60, 1, 0, [⟨"VALID", 31, 31, .w1c, 0⟩, ⟨"MULTI", 30, 30, .w1c, 0⟩, ⟨"MASTER", 22, 20, .ro, 0⟩, ⟨"THREAD", 18, 16, .ro, 0⟩, ⟨"BYTES", 15, 0, .ro, 0⟩]⟩,
  ⟨"EVT_IMPLOG1", 0x64, 1, 0, [⟨"ADDR", 31, 0, .ro, 0⟩]⟩,
  ⟨"EVT_AWSTAT", 0x68, 1, 0, [⟨"COND", 31, 31, .ro, 0⟩, ⟨"CNT", 9, 0, .ro, 0⟩]⟩,
  ⟨"EVT_DFCNT", 0x80, 1, 0, [⟨"CNT", 31, 0, .ro, 0⟩]⟩,
  ⟨"EVT_AWCNT", 0x84, 1, 0, [⟨"CNT", 31, 0, .ro, 0⟩]⟩,
  ⟨"EVT_IMPCNT", 0x88, 1, 0, [⟨"CNT", 31, 0, .rc, 0⟩]⟩,
  ⟨"EVT_L7REDIR", 0x8c, 1, 0, [⟨"CNT", 31, 0, .rc, 0⟩]⟩,
  ⟨"EVT_OVF", 0x90, 1, 0, [⟨"OVF", 3, 0, .w1c, 0⟩]⟩,
  ⟨"EVT_SRC", 0x100, 160, 4, [⟨"EN", 31, 31, .rw, 0⟩, ⟨"LEVEL", 10, 8, .rw, 0⟩, ⟨"TGT", 2, 0, .rw, 0⟩]⟩]

/-- Registers of the HZ_ block (11_haerzer_core.md). -/
def regsHz : List RegDesc := [
  ⟨"HZ_CTRL", 0, 1, 0, [⟨"DOZE1", 1, 1, .rw, 0⟩, ⟨"DOZE0", 0, 0, .rw, 0⟩]⟩,
  ⟨"HZ_CSTAT", 4, 1, 0, [⟨"DOZING1", 5, 5, .ro, 0⟩, ⟨"DOZING0", 4, 4, .ro, 0⟩, ⟨"C1_UP", 1, 1, .ro, 0⟩, ⟨"C0_UP", 0, 0, .ro, 0⟩]⟩,
  ⟨"HZ_TCTRL", 0x100, 8, 0x20, [⟨"START", 31, 31, .w1s, 0⟩, ⟨"STOP", 30, 30, .w1s, 0⟩, ⟨"TSIG", 7, 0, .rw, 0xff⟩]⟩,
  ⟨"HZ_TPC", 0x104, 8, 0x20, [⟨"PC", 31, 2, .rw, 0⟩]⟩,
  ⟨"HZ_TSTAT", 0x108, 8, 0x20, [⟨"START_REJ", 8, 8, .w1c, 0⟩, ⟨"ML", 7, 5, .ro, 7⟩, ⟨"HX", 4, 4, .ro, 0⟩, ⟨"PRIV", 3, 3, .ro, 1⟩, ⟨"STATE", 2, 0, .ro, 0⟩]⟩,
  ⟨"HZ_TSIG", 0x10c, 8, 0x20, [⟨"SIG", 15, 0, .w1s, 0⟩]⟩,
  ⟨"HZ_TWAKE", 0x110, 8, 0x20, [⟨"WMASK", 24, 0, .ro, 0⟩]⟩,
  ⟨"HZ_TWST", 0x114, 8, 0x20, [⟨"WST", 31, 0, .ro, 0⟩]⟩,
  ⟨"HZ_TPCS", 0x118, 8, 0x20, [⟨"PCS", 31, 0, .ro, 0⟩]⟩,
  ⟨"HZ_TWSP", 0x11c, 8, 0x20, [⟨"WSP", 31, 6, .ro, 0⟩]⟩,
  ⟨"HZ_RGN_BASE", 0x200, 8, 0x10, [⟨"BASE", 31, 6, .rwl, 0⟩]⟩,
  ⟨"HZ_RGN_LIMIT", 0x204, 8, 0x10, [⟨"LIMIT", 31, 6, .rwl, 0⟩]⟩,
  ⟨"HZ_RGN_ATTR", 0x208, 8, 0x10, [⟨"EN", 6, 6, .rwl, 0⟩, ⟨"DEV", 5, 5, .rwl, 0⟩, ⟨"C", 4, 4, .rwl, 0⟩, ⟨"XW", 3, 3, .rwl, 0⟩, ⟨"TX", 2, 2, .rwl, 0⟩, ⟨"TW", 1, 1, .rwl, 0⟩, ⟨"TR", 0, 0, .rwl, 0⟩]⟩,
  ⟨"HZ_C0_DCOR", 0x300, 1, 0, [⟨"CNT", 31, 0, .rc, 0⟩]⟩,
  ⟨"HZ_C0_DUNC", 0x304, 1, 0, [⟨"CNT", 31, 0, .rc, 0⟩]⟩,
  ⟨"HZ_C0_IPAR", 0x308, 1, 0, [⟨"CNT", 31, 0, .rc, 0⟩]⟩,
  ⟨"HZ_C1_DCOR", 0x30c, 1, 0, [⟨"CNT", 31, 0, .rc, 0⟩]⟩,
  ⟨"HZ_C1_DUNC", 0x310, 1, 0, [⟨"CNT", 31, 0, .rc, 0⟩]⟩,
  ⟨"HZ_C1_IPAR", 0x314, 1, 0, [⟨"CNT", 31, 0, .rc, 0⟩]⟩,
  ⟨"HZ_SIGLOST", 0x318, 1, 0, [⟨"CNT", 31, 0, .rc, 0⟩]⟩,
  ⟨"HZ_OVF", 0x31c, 1, 0, [⟨"OVF", 6, 0, .w1c, 0⟩]⟩]

/-- Registers of the TRC_ block (13_trace_and_debug.md). -/
def regsTrc : List RegDesc := [
  ⟨"TRC_CTRL", 0, 1, 0, [⟨"CLEAR", 16, 16, .w1s, 0⟩, ⟨"SYNCPER", 11, 8, .rw, 8⟩, ⟨"C1EN", 4, 4, .rw, 0⟩, ⟨"C0EN", 3, 3, .rw, 0⟩, ⟨"MODE", 2, 1, .rw, 0⟩, ⟨"EN", 0, 0, .rw, 0⟩]⟩,
  ⟨"TRC_STAT", 4, 1, 0, [⟨"LOCKOUT", 6, 6, .ro, 0⟩, ⟨"LEVEL", 5, 4, .ro, 0⟩, ⟨"FULL", 0, 0, .ro, 0⟩]⟩,
  ⟨"TRC_WPTR", 8, 1, 0, [⟨"WPTR", 15, 0, .ro, 0⟩]⟩,
  ⟨"TRC_RDADDR", 0xc, 1, 0, [⟨"ADDR", 15, 2, .rw, 0⟩]⟩,
  ⟨"TRC_RDDATA", 0x10, 1, 0, [⟨"DATA", 31, 0, .ro, 0⟩]⟩,
  ⟨"TRC_DBASE", 0x14, 1, 0, [⟨"BASE", 31, 12, .rw, 0⟩]⟩,
  ⟨"TRC_DSIZE", 0x18, 1, 0, [⟨"SIZE", 4, 0, .rw, 0xc⟩]⟩,
  ⟨"TRC_DWPTR", 0x1c, 1, 0, [⟨"PTR", 27, 0, .ro, 0⟩]⟩,
  ⟨"TRC_DRPTR", 0x20, 1, 0, [⟨"PTR", 27, 0, .rw, 0⟩]⟩,
  ⟨"TRC_LOST", 0x24, 1, 0, [⟨"CNT", 31, 0, .rc, 0⟩]⟩,
  ⟨"TRC_OVF", 0x28, 1, 0, [⟨"OVF", 0, 0, .w1c, 0⟩]⟩]

/-- Registers of the TMP_ block (16_tamper_and_integrity.md). -/
def regsTmp : List RegDesc := [
  ⟨"TMP_STAT", 4, 1, 0, [⟨"LOGCNT", 15, 8, .ro, 0⟩, ⟨"LOAD_FAIL", 5, 5, .ro, 0⟩, ⟨"PERSIST_DEFER", 4, 4, .ro, 0⟩, ⟨"PERSIST_FAIL", 3, 3, .w1c, 0⟩, ⟨"WIPED", 2, 2, .w1c, 0⟩, ⟨"LOG_HIGH", 1, 1, .ro, 0⟩]⟩,
  ⟨"TMP_LAST", 8, 1, 0, [⟨"SOURCE", 28, 24, .ro, 0⟩, ⟨"CLASS", 21, 20, .ro, 0⟩, ⟨"SEQ", 15, 0, .ro, 0⟩]⟩,
  ⟨"TMP_LOGSEL", 0xc, 1, 0, [⟨"SEL", 6, 0, .rw, 0⟩]⟩,
  ⟨"TMP_LOGE", 0x10, 4, 4, [⟨"WORD", 31, 0, .ro, 0⟩]⟩,
  ⟨"TMP_LOGCLR", 0x20, 1, 0, [⟨"CLEAR", 0, 0, .rws, 0⟩]⟩,
  ⟨"TMP_LOOPSTAT", 0x24, 1, 0, [⟨"LOOPS", 7, 0, .ro, 0⟩]⟩,
  ⟨"TMP_LOOP_CFG", 0x30, 4, 4, [⟨"HI", 13, 8, .rwl, 0x30⟩, ⟨"LO", 5, 0, .rwl, 0x10⟩]⟩,
  ⟨"TMP_LOGLOST", 0x40, 1, 0, [⟨"CNT", 31, 0, .rc, 0⟩]⟩,
  ⟨"TMP_TRIPS", 0x44, 1, 0, [⟨"CNT", 31, 0, .ro, 0⟩]⟩,
  ⟨"TMP_OVF", 0x48, 1, 0, [⟨"OVF", 1, 0, .w1c, 0⟩]⟩,
  ⟨"TMP_SRC_RESP", 0x80, 20, 8, [⟨"EN", 31, 31, .rws, 0⟩, ⟨"CLASS", 25, 24, .rws, 0⟩, ⟨"N", 7, 0, .rws, 0⟩]⟩,
  ⟨"TMP_SRC_WIN", 0x84, 20, 8, [⟨"W", 25, 0, .rwl, 0⟩]⟩,
  ⟨"TMP_HIT", 0x340, 20, 4, [⟨"CNT", 31, 0, .rc, 0⟩]⟩,
  ⟨"TMP_HITOVF", 0x390, 1, 0, [⟨"OVF", 19, 0, .w1c, 0⟩]⟩]

/-- Registers of the TRN_ block (15_entropy_and_store.md). -/
def regsTrn : List RegDesc := [
  ⟨"TRN_CTRL", 0, 1, 0, [⟨"RAWTAP", 8, 8, .rw, 0⟩, ⟨"PR", 1, 1, .rw, 0⟩, ⟨"RETRY", 0, 0, .w1s, 0⟩]⟩,
  ⟨"TRN_STAT", 4, 1, 0, [⟨"HALT", 31, 31, .ro, 0⟩, ⟨"EST_OUT", 7, 7, .ro, 0⟩, ⟨"EST_VALID", 6, 6, .ro, 0⟩, ⟨"DRBG_OK", 3, 3, .ro, 0⟩, ⟨"STARTUP_OK", 2, 2, .ro, 0⟩, ⟨"LOCKED", 1, 1, .ro, 0⟩, ⟨"DEAD", 0, 0, .ro, 0⟩]⟩,
  ⟨"TRN_RAND", 8, 1, 0, [⟨"RAND", 31, 0, .ro, 0⟩]⟩,
  ⟨"TRN_RAW", 0xc, 1, 0, [⟨"VALID", 31, 31, .ro, 0⟩, ⟨"RCT_F", 17, 17, .ro, 0⟩, ⟨"APT_F", 16, 16, .ro, 0⟩, ⟨"SAMPLES", 15, 0, .ro, 0⟩]⟩,
  ⟨"TRN_BIAS", 0x10, 1, 0, [⟨"BIAS", 15, 0, .ro, 0⟩]⟩,
  ⟨"TRN_CORR", 0x14, 1, 0, [⟨"CORR", 15, 0, .ro, 0⟩]⟩,
  ⟨"TRN_LIM", 0x18, 1, 0, [⟨"CORR_LIM", 31, 16, .rwv, 0xccd⟩, ⟨"BIAS_LIM", 15, 0, .rwv, 0xccd⟩]⟩,
  ⟨"TRN_CUTOFF", 0x1c, 1, 0, [⟨"APT", 31, 16, .ro, 0x31b⟩, ⟨"RCT", 7, 0, .ro, 0x29⟩]⟩,
  ⟨"TRN_RSINT", 0x20, 1, 0, [⟨"RSINT", 19, 0, .rw, 0x1000⟩]⟩,
  ⟨"TRN_FREQ", 0x24, 1, 0, [⟨"FAST", 31, 16, .ro, 0⟩, ⟨"SLOW", 15, 0, .ro, 0⟩]⟩,
  ⟨"TRN_RCTFAIL", 0x100, 1, 0, [⟨"CNT", 31, 0, .rc, 0⟩]⟩,
  ⟨"TRN_APTFAIL", 0x104, 1, 0, [⟨"CNT", 31, 0, .rc, 0⟩]⟩,
  ⟨"TRN_UNDER", 0x108, 1, 0, [⟨"CNT", 31, 0, .rc, 0⟩]⟩,
  ⟨"TRN_OVF", 0x10c, 1, 0, [⟨"OVF", 2, 0, .w1c, 0⟩]⟩]

/-- Registers of the NVS_ block (15_entropy_and_store.md). -/
def regsNvs : List RegDesc := [
  ⟨"NVS_CMD", 0, 1, 0, [⟨"OP", 31, 29, .wo, 0⟩, ⟨"PAGE", 7, 0, .wo, 0⟩]⟩,
  ⟨"NVS_STAT", 4, 1, 0, [⟨"BUSY", 31, 31, .ro, 0⟩, ⟨"ROT", 30, 30, .ro, 0⟩, ⟨"ROTPAGE", 23, 16, .ro, 0⟩, ⟨"RESULT", 3, 0, .ro, 0⟩]⟩,
  ⟨"NVS_BUFADDR", 8, 1, 0, [⟨"ADDR", 9, 2, .rw, 0⟩]⟩,
  ⟨"NVS_BUFDATA", 0xc, 1, 0, [⟨"DATA", 31, 0, .rw, 0⟩]⟩,
  ⟨"NVS_SPARES", 0x10, 1, 0, [⟨"SPARES", 4, 0, .ro, 0⟩]⟩,
  ⟨"NVS_PGSEL", 0x14, 1, 0, [⟨"PAGE", 7, 0, .rw, 0⟩]⟩,
  ⟨"NVS_PGINFO", 0x18, 1, 0, [⟨"READONLY", 31, 31, .ro, 0⟩, ⟨"COUNT", 19, 0, .ro, 0⟩]⟩,
  ⟨"NVS_EXHCNT", 0x1c, 1, 0, [⟨"CNT", 8, 0, .ro, 0⟩]⟩,
  ⟨"NVS_CFG", 0x20, 1, 0, [⟨"BOOTWE", 0, 0, .rwl, 1⟩]⟩,
  ⟨"NVS_RKSTAT", 0x24, 1, 0, [⟨"LOST", 3, 3, .ro, 0⟩, ⟨"KEYS", 2, 0, .ro, 0⟩]⟩,
  ⟨"NVS_MC", 0x40, 32, 4, [⟨"CNT", 31, 0, .ro, 0⟩]⟩,
  ⟨"NVS_MCEXH", 0xc0, 1, 0, [⟨"EXH", 31, 0, .ro, 0⟩]⟩,
  ⟨"NVS_RKSTG", 0x100, 8, 4, [⟨"KEY", 31, 0, .wo, 0⟩]⟩,
  ⟨"NVS_WRITES", 0x200, 1, 0, [⟨"CNT", 31, 0, .ro, 0⟩]⟩,
  ⟨"NVS_REFUSED", 0x204, 1, 0, [⟨"CNT", 31, 0, .rc, 0⟩]⟩,
  ⟨"NVS_INTERR", 0x208, 1, 0, [⟨"CNT", 31, 0, .rc, 0⟩]⟩,
  ⟨"NVS_OVF", 0x20c, 1, 0, [⟨"OVF", 2, 0, .w1c, 0⟩]⟩]

/-- Registers of the HK_ block (17_housekeeping_and_thermal.md). -/
def regsHk : List RegDesc := [
  ⟨"HK_CTRL", 0, 1, 0, [⟨"SCAP_SRC", 2, 2, .rw, 0⟩, ⟨"CRIT_ACT", 1, 1, .rw, 1⟩, ⟨"EN", 0, 0, .rw, 1⟩]⟩,
  ⟨"HK_PERIOD", 4, 1, 0, [⟨"US", 15, 0, .rw, 0x3e8⟩]⟩,
  ⟨"HK_STAT", 8, 1, 0, [⟨"BAND", 31, 30, .ro, 0⟩, ⟨"BAND_VALID", 29, 29, .ro, 0⟩, ⟨"CRIT", 28, 28, .ro, 0⟩, ⟨"CAL_BUSY", 27, 27, .ro, 0⟩, ⟨"SCAP_CHG", 26, 26, .ro, 0⟩, ⟨"DISAGREE", 25, 25, .ro, 0⟩]⟩,
  ⟨"HK_FG", 0x10, 1, 0, [⟨"GO", 15, 15, .w1s, 0⟩, ⟨"BUSY", 14, 14, .ro, 0⟩, ⟨"REJ", 13, 13, .w1c, 0⟩, ⟨"CH", 4, 0, .rw, 0⟩]⟩,
  ⟨"HK_FGRES", 0x14, 1, 0, [⟨"VALUE", 31, 16, .ro, 0⟩, ⟨"OVR", 15, 15, .ro, 0⟩, ⟨"UNR", 14, 14, .ro, 0⟩, ⟨"SUSPECT", 13, 13, .ro, 0⟩, ⟨"CODE", 11, 0, .ro, 0⟩]⟩,
  ⟨"HK_TCRIT", 0x18, 1, 0, [⟨"TCRIT", 7, 0, .rw, 0x70⟩]⟩,
  ⟨"HK_DISAGREE", 0x1c, 1, 0, [⟨"K", 7, 0, .rw, 0xf⟩]⟩,
  ⟨"HK_CAL", 0x20, 1, 0, [⟨"GAIN", 31, 16, .ro, 0x8000⟩, ⟨"OFFSET", 11, 0, .ro, 0⟩]⟩,
  ⟨"HK_JUNC", 0x24, 1, 0, [⟨"SENSOR", 18, 16, .ro, 0⟩, ⟨"TJ", 15, 0, .ro, 0⟩]⟩,
  ⟨"HK_ROR", 0x40, 8, 4, [⟨"EN", 15, 15, .rw, 1⟩, ⟨"LIMIT", 7, 0, .rw, 0x32⟩]⟩,
  ⟨"HK_RORSTAT", 0x60, 1, 0, [⟨"STAT", 7, 0, .w1c, 0⟩]⟩,
  ⟨"HK_SUP_LO", 0x80, 12, 8, [⟨"CODE", 11, 0, .rw, 0⟩]⟩,
  ⟨"HK_SUP_HI", 0x84, 12, 8, [⟨"CODE", 11, 0, .rw, 0⟩]⟩,
  ⟨"HK_SUPSTAT", 0xe0, 1, 0, [⟨"STAT", 11, 0, .ro, 0⟩]⟩,
  ⟨"HK_AINSTAT", 0xe4, 1, 0, [⟨"STAT", 3, 0, .ro, 0⟩]⟩,
  ⟨"HK_AIN_THR", 0xf0, 4, 4, [⟨"EN", 15, 15, .rw, 0⟩, ⟨"DIR", 14, 14, .rw, 0⟩, ⟨"THR", 11, 0, .rw, 0⟩]⟩,
  ⟨"HK_CH", 0x100, 32, 4, [⟨"VALUE", 31, 16, .ro, 0⟩, ⟨"OVR", 15, 15, .ro, 0⟩, ⟨"UNR", 14, 14, .ro, 0⟩, ⟨"SUSPECT", 13, 13, .ro, 0⟩, ⟨"CODE", 11, 0, .ro, 0⟩]⟩,
  ⟨"HK_ROUNDS", 0x180, 1, 0, [⟨"CNT", 31, 0, .ro, 0⟩]⟩,
  ⟨"HK_RANGECNT", 0x184, 1, 0, [⟨"CNT", 31, 0, .rc, 0⟩]⟩,
  ⟨"HK_SUSPCNT", 0x188, 1, 0, [⟨"CNT", 31, 0, .rc, 0⟩]⟩,
  ⟨"HK_CALDEFER", 0x18c, 1, 0, [⟨"CNT", 31, 0, .rc, 0⟩]⟩,
  ⟨"HK_CALFORCED", 0x190, 1, 0, [⟨"CNT", 31, 0, .rc, 0⟩]⟩,
  ⟨"HK_FGCNT", 0x194, 1, 0, [⟨"CNT", 31, 0, .rc, 0⟩]⟩,
  ⟨"HK_OVF", 0x198, 1, 0, [⟨"OVF", 5, 0, .w1c, 0⟩]⟩,
  ⟨"HK_THTAB", 0x200, 66, 4, [⟨"TEMP", 15, 0, .rw, 0⟩]⟩]

/-- Registers of the NQ_ block (02_niquevor_access.md). -/
def regsNq : List RegDesc := [
  ⟨"NQ_CTRL", 0, 1, 0, [⟨"FW_READY", 0, 0, .rw, 0⟩]⟩,
  ⟨"NQ_DLG_BASE", 4, 1, 0, [⟨"BASE", 31, 9, .rw, 0x80000⟩]⟩,
  ⟨"NQ_DLG_HEAD", 8, 1, 0, [⟨"HEAD", 2, 0, .ro, 0⟩]⟩,
  ⟨"NQ_DLG_TAIL", 0xc, 1, 0, [⟨"TAIL", 2, 0, .rw, 0⟩]⟩,
  ⟨"NQ_STAT", 0x10, 1, 0, [⟨"BKL_FULL", 10, 10, .w1c, 0⟩, ⟨"DLG_TIMEOUT", 9, 9, .w1c, 0⟩, ⟨"RX_OVF", 8, 8, .w1c, 0⟩, ⟨"SESSIONS", 2, 0, .ro, 0⟩]⟩,
  ⟨"NQ_LATE", 0x20, 1, 0, [⟨"CNT", 31, 0, .ro, 0⟩]⟩,
  ⟨"NQ_AUTHFAIL", 0x24, 1, 0, [⟨"CNT", 31, 0, .rc, 0⟩]⟩,
  ⟨"NQ_BKLOST", 0x28, 1, 0, [⟨"CNT", 31, 0, .rc, 0⟩]⟩,
  ⟨"NQ_OVF", 0x2c, 1, 0, [⟨"OVF", 2, 0, .w1c, 0⟩]⟩]

/-- Registers of the IDC_ block (19_removable_media.md). -/
def regsIdc : List RegDesc := [
  ⟨"IDC_CTRL", 0, 1, 0, [⟨"ACT", 15, 15, .w1s, 0⟩, ⟨"DEACT", 14, 14, .w1s, 0⟩, ⟨"WARM", 13, 13, .w1s, 0⟩, ⟨"GO", 12, 12, .w1s, 0⟩]⟩,
  ⟨"IDC_CFG", 4, 1, 0, [⟨"DETPOL", 15, 15, .rw, 0⟩, ⟨"CLASSEN", 14, 12, .rw, 7⟩, ⟨"REP", 10, 8, .rw, 4⟩, ⟨"PPS_EN", 7, 7, .rw, 1⟩, ⟨"DMAX", 6, 4, .rw, 6⟩, ⟨"T", 0, 0, .rw, 0⟩]⟩,
  ⟨"IDC_CLKDIV", 8, 1, 0, [⟨"DIV", 9, 0, .rw, 0x96⟩]⟩,
  ⟨"IDC_VWAIT", 0xc, 1, 0, [⟨"WAIT", 7, 0, .rw, 0x32⟩]⟩,
  ⟨"IDC_XFER", 0x10, 1, 0, [⟨"IN", 15, 15, .rw, 0⟩, ⟨"LEN", 8, 0, .rw, 0⟩]⟩,
  ⟨"IDC_BWTX", 0x14, 1, 0, [⟨"BWTX", 7, 0, .rw, 1⟩]⟩,
  ⟨"IDC_BUFADDR", 0x18, 1, 0, [⟨"RXSEL", 15, 15, .rw, 0⟩, ⟨"ADDR", 8, 1, .rw, 0⟩]⟩,
  ⟨"IDC_BUFDATA", 0x1c, 1, 0, [⟨"DATA", 15, 0, .rw, 0⟩]⟩,
  ⟨"IDC_EVT", 0x20, 1, 0, [⟨"REMOVED", 6, 6, .w1c, 0⟩, ⟨"INSERTED", 5, 5, .w1c, 0⟩, ⟨"DONE", 4, 4, .w1c, 0⟩, ⟨"ERR", 3, 3, .w1c, 0⟩]⟩,
  ⟨"IDC_STAT", 0x80, 1, 0, [⟨"PRESENT", 31, 31, .ro, 0⟩, ⟨"STATE", 30, 28, .ro, 0⟩, ⟨"CLASS", 27, 26, .ro, 0⟩, ⟨"CONV", 25, 25, .ro, 0⟩, ⟨"PROTO", 24, 24, .ro, 0⟩]⟩,
  ⟨"IDC_RESULT", 0x84, 1, 0, [⟨"RESULT", 3, 0, .ro, 0⟩]⟩,
  ⟨"IDC_PARAMS", 0x88, 1, 0, [⟨"FI", 31, 28, .ro, 1⟩, ⟨"DI", 27, 24, .ro, 1⟩, ⟨"N", 23, 16, .ro, 0⟩, ⟨"BWI", 15, 12, .ro, 0⟩, ⟨"CWI", 11, 8, .ro, 0⟩, ⟨"WI", 7, 0, .ro, 0⟩]⟩,
  ⟨"IDC_RXLEN", 0x8c, 1, 0, [⟨"LEN", 8, 0, .ro, 0⟩]⟩,
  ⟨"IDC_ATRLEN", 0x90, 1, 0, [⟨"LEN", 5, 0, .ro, 0⟩]⟩,
  ⟨"IDC_PARCNT", 0x100, 1, 0, [⟨"CNT", 31, 0, .rc, 0⟩]⟩,
  ⟨"IDC_TOCNT", 0x104, 1, 0, [⟨"CNT", 31, 0, .rc, 0⟩]⟩,
  ⟨"IDC_EDCCNT", 0x108, 1, 0, [⟨"CNT", 31, 0, .rc, 0⟩]⟩,
  ⟨"IDC_OVF", 0x10c, 1, 0, [⟨"OVF", 2, 0, .w1c, 0⟩]⟩,
  ⟨"IDC_ATRW", 0x200, 9, 4, [⟨"BYTES", 31, 0, .ro, 0⟩]⟩]

/-- Registers of the SDH_ block (19_removable_media.md). -/
def regsSdh : List RegDesc := [
  ⟨"SDH_CTRL", 0, 1, 0, [⟨"INIT", 15, 15, .w1s, 0⟩, ⟨"STOP", 14, 14, .w1s, 0⟩, ⟨"PWROFF", 13, 13, .w1s, 0⟩, ⟨"TUNE", 12, 12, .w1s, 0⟩, ⟨"GO", 11, 11, .w1s, 0⟩]⟩,
  ⟨"SDH_CFG", 4, 1, 0, [⟨"DETPOL", 15, 15, .rw, 0⟩, ⟨"UHS_EN", 4, 4, .rw, 1⟩, ⟨"MAXMODE", 1, 0, .rw, 3⟩]⟩,
  ⟨"SDH_ADDR_LO", 8, 1, 0, [⟨"ADDR", 15, 4, .rw, 0⟩]⟩,
  ⟨"SDH_ADDR_HI", 0xc, 1, 0, [⟨"ADDR", 15, 0, .rw, 0⟩]⟩,
  ⟨"SDH_LBA_LO", 0x10, 1, 0, [⟨"LBA", 15, 0, .rw, 0⟩]⟩,
  ⟨"SDH_LBA_HI", 0x14, 1, 0, [⟨"LBA", 15, 0, .rw, 0⟩]⟩,
  ⟨"SDH_BLKCNT", 0x18, 1, 0, [⟨"CNT", 15, 0, .rw, 1⟩]⟩,
  ⟨"SDH_OP", 0x1c, 1, 0, [⟨"OP", 15, 12, .rw, 0⟩, ⟨"RTYPE", 9, 8, .rw, 0⟩, ⟨"CMD", 5, 0, .rw, 0⟩]⟩,
  ⟨"SDH_PWD", 0xc0, 16, 4, [⟨"BYTES", 15, 0, .wo, 0⟩]⟩,
  ⟨"SDH_PWDLEN", 0x40, 1, 0, [⟨"LEN", 5, 0, .rw, 0⟩]⟩,
  ⟨"SDH_EVT", 0x44, 1, 0, [⟨"REMOVED", 5, 5, .w1c, 0⟩, ⟨"INSERTED", 4, 4, .w1c, 0⟩, ⟨"DONE", 3, 3, .w1c, 0⟩, ⟨"ERR", 2, 2, .w1c, 0⟩]⟩,
  ⟨"SDH_STAT", 0x80, 1, 0, [⟨"PRESENT", 31, 31, .ro, 0⟩, ⟨"STATE", 30, 28, .ro, 0⟩, ⟨"MODE", 26, 24, .ro, 0⟩, ⟨"V18", 23, 23, .ro, 0⟩, ⟨"PHASE", 20, 16, .ro, 0⟩, ⟨"RCA", 15, 0, .ro, 0⟩]⟩,
  ⟨"SDH_RESULT", 0x84, 1, 0, [⟨"RESULT", 3, 0, .ro, 0⟩]⟩,
  ⟨"SDH_RESP", 0x88, 4, 4, [⟨"RESP", 31, 0, .ro, 0⟩]⟩,
  ⟨"SDH_DONEBLK", 0x98, 1, 0, [⟨"CNT", 15, 0, .ro, 0⟩]⟩,
  ⟨"SDH_ERRADDR", 0x9c, 1, 0, [⟨"ADDR", 31, 0, .ro, 0⟩]⟩,
  ⟨"SDH_CRCCNT", 0x100, 1, 0, [⟨"CNT", 31, 0, .rc, 0⟩]⟩,
  ⟨"SDH_TOCNT", 0x104, 1, 0, [⟨"CNT", 31, 0, .rc, 0⟩]⟩,
  ⟨"SDH_OVF", 0x108, 1, 0, [⟨"OVF", 1, 0, .w1c, 0⟩]⟩,
  ⟨"SDH_CIDCSD", 0x200, 8, 4, [⟨"WORD", 31, 0, .ro, 0⟩]⟩]

/-- Registers of the DMC_ block (18_dram_controller.md). -/
def regsDmc : List RegDesc := [
  ⟨"DMC_CTRL", 0, 1, 0, [⟨"SCRUB_EN", 2, 2, .rw, 1⟩, ⟨"RESTORE", 1, 1, .rw, 0⟩, ⟨"INIT", 0, 0, .w1s, 0⟩]⟩,
  ⟨"DMC_STAT", 4, 1, 0, [⟨"READY", 31, 31, .ro, 0⟩, ⟨"TRAINING", 30, 30, .ro, 0⟩, ⟨"FROZEN", 29, 29, .ro, 0⟩, ⟨"PANIC", 28, 28, .ro, 0⟩, ⟨"RESTORE_FB", 27, 27, .w1c, 0⟩, ⟨"ZQLATE", 26, 26, .w1c, 0⟩, ⟨"UNF_ERR", 25, 25, .w1c, 0⟩, ⟨"RTREG_WR", 24, 24, .w1c, 0⟩, ⟨"FAILLANE", 11, 8, .ro, 0⟩, ⟨"FAILSTEP", 6, 4, .ro, 0⟩, ⟨"RESULT", 1, 0, .ro, 0⟩]⟩,
  ⟨"DMC_CFG", 8, 1, 0, [⟨"RANKS2", 4, 4, .rw, 0⟩, ⟨"X16", 3, 3, .rw, 0⟩, ⟨"DENSITY", 1, 0, .rw, 0⟩]⟩,
  ⟨"DMC_APERTURE", 0xc, 1, 0, [⟨"BASE", 4, 0, .rw, 0⟩]⟩,
  ⟨"DMC_PANIC", 0x10, 1, 0, [⟨"ON", 31, 16, .rw, 0x4000⟩, ⟨"OFF", 15, 0, .rw, 0x1000⟩]⟩,
  ⟨"DMC_SCRUB", 0x14, 1, 0, [⟨"PERIOD", 15, 0, .rw, 0xa⟩]⟩,
  ⟨"DMC_ZQINT", 0x18, 1, 0, [⟨"MS", 7, 0, .rw, 0x40⟩]⟩,
  ⟨"DMC_UNFREEZE", 0x1c, 1, 0, [⟨"WORD", 31, 0, .wo, 0⟩]⟩,
  ⟨"DMC_RTLEVEL", 0x20, 1, 0, [⟨"BURSTS", 26, 16, .ro, 0⟩, ⟨"BYTES64", 15, 0, .ro, 0⟩]⟩,
  ⟨"DMC_SNAP0", 0x40, 1, 0, [⟨"VALID", 31, 31, .w1c, 0⟩, ⟨"MULTI", 30, 30, .w1c, 0⟩, ⟨"SOURCE", 29, 28, .ro, 0⟩, ⟨"MASTER", 26, 24, .ro, 0⟩, ⟨"RID", 23, 16, .ro, 0⟩, ⟨"BEAT", 10, 8, .ro, 0⟩]⟩,
  ⟨"DMC_SNAP1", 0x44, 1, 0, [⟨"ADDR", 31, 0, .ro, 0⟩]⟩,
  ⟨"DMC_SNAP2", 0x48, 1, 0, [⟨"ADDR32", 0, 0, .ro, 0⟩]⟩,
  ⟨"DMC_SNAP3", 0x4c, 1, 0, [⟨"RANK", 31, 31, .ro, 0⟩, ⟨"BG", 29, 28, .ro, 0⟩, ⟨"BANK", 27, 26, .ro, 0⟩, ⟨"ROW", 25, 9, .ro, 0⟩, ⟨"COLUMN", 6, 0, .ro, 0⟩]⟩,
  ⟨"DMC_SNAP4", 0x50, 1, 0, [⟨"RAWLO", 31, 0, .ro, 0⟩]⟩,
  ⟨"DMC_SNAP5", 0x54, 1, 0, [⟨"RAWHI", 31, 0, .ro, 0⟩]⟩,
  ⟨"DMC_SNAP6", 0x58, 1, 0, [⟨"ECC", 31, 24, .ro, 0⟩, ⟨"SYN", 23, 16, .ro, 0⟩, ⟨"RTQ", 15, 8, .ro, 0⟩, ⟨"NRTQ", 7, 0, .ro, 0⟩]⟩,
  ⟨"DMC_SNAP7", 0x5c, 1, 0, [⟨"TF", 29, 0, .ro, 0⟩]⟩,
  ⟨"DMC_SNAP_TR", 0x60, 1, 0, [⟨"TR", 29, 0, .ro, 0⟩]⟩,
  ⟨"DMC_CELOG0", 0x68, 1, 0, [⟨"VALID", 31, 31, .w1c, 0⟩, ⟨"ADDR32", 0, 0, .ro, 0⟩]⟩,
  ⟨"DMC_CELOG1", 0x6c, 1, 0, [⟨"ADDR", 31, 0, .ro, 0⟩]⟩,
  ⟨"DMC_CECNT", 0x100, 1, 0, [⟨"CNT", 31, 0, .rc, 0⟩]⟩,
  ⟨"DMC_UECNT", 0x104, 1, 0, [⟨"CNT", 31, 0, .ro, 0⟩]⟩,
  ⟨"DMC_SCRUBPASS", 0x108, 1, 0, [⟨"CNT", 31, 0, .ro, 0⟩]⟩,
  ⟨"DMC_SCRUBDEF", 0x10c, 1, 0, [⟨"CNT", 31, 0, .rc, 0⟩]⟩,
  ⟨"DMC_SCRUBFORCED", 0x110, 1, 0, [⟨"CNT", 31, 0, .rc, 0⟩]⟩,
  ⟨"DMC_PANICCNT", 0x114, 1, 0, [⟨"CNT", 31, 0, .rc, 0⟩]⟩,
  ⟨"DMC_OVF", 0x118, 1, 0, [⟨"OVF", 5, 0, .w1c, 0⟩]⟩,
  ⟨"DMC_TRAINW", 0x800, 64, 4, [⟨"WORD", 31, 0, .rw, 0⟩]⟩]

/-- Registers of the DMA_ block (14_interconnect_and_dma.md). -/
def regsDma : List RegDesc := [
  ⟨"DMA_CTRL", 0, 1, 0, [⟨"EN", 0, 0, .rw, 0⟩]⟩,
  ⟨"DMA_DONE", 4, 1, 0, [⟨"DONE", 15, 0, .w1c, 0⟩]⟩,
  ⟨"DMA_ERR", 8, 1, 0, [⟨"ERR", 15, 0, .w1c, 0⟩]⟩,
  ⟨"DMA_RSV", 0xc, 1, 0, [⟨"RSV", 15, 11, .ro, 0⟩]⟩,
  ⟨"DMA_STAT", 0x10, 1, 0, [⟨"PREEMPT", 1, 1, .w1c, 0⟩, ⟨"REJ", 0, 0, .w1c, 0⟩]⟩,
  ⟨"DMA_SRC", 0x100, 16, 0x20, [⟨"ADDR", 31, 0, .rw, 0⟩]⟩,
  ⟨"DMA_DST", 0x104, 16, 0x20, [⟨"ADDR", 31, 0, .rw, 0⟩]⟩,
  ⟨"DMA_LEN", 0x108, 16, 0x20, [⟨"LEN", 23, 0, .rw, 0⟩]⟩,
  ⟨"DMA_CFG", 0x10c, 16, 0x20, [⟨"GO", 31, 31, .w1s, 0⟩, ⟨"ABORT", 30, 30, .w1s, 0⟩, ⟨"PRIO", 9, 8, .rw, 0⟩, ⟨"IRQ", 7, 7, .rw, 0⟩, ⟨"LINK", 6, 6, .rw, 0⟩, ⟨"DFIX", 3, 3, .rw, 0⟩, ⟨"SFIX", 2, 2, .rw, 0⟩]⟩,
  ⟨"DMA_NEXT", 0x110, 16, 0x20, [⟨"ADDR", 31, 4, .rw, 0⟩]⟩,
  ⟨"DMA_CSTAT", 0x114, 16, 0x20, [⟨"BUSY", 31, 31, .ro, 0⟩, ⟨"ABORTED", 30, 30, .ro, 0⟩, ⟨"ERRKIND", 26, 24, .ro, 0⟩, ⟨"REMAIN", 23, 0, .ro, 0⟩]⟩,
  ⟨"DMA_ERRADDR", 0x118, 16, 0x20, [⟨"ADDR", 31, 0, .ro, 0⟩]⟩]

/-- Registers of the FUS_ block (15_entropy_and_store.md). -/
def regsFus : List RegDesc := [
  ⟨"FUS_ID", 0, 1, 0, [⟨"PART", 31, 16, .ro, 0x6024⟩, ⟨"STEP", 11, 8, .ro, 1⟩, ⟨"VAR", 3, 0, .ro, 0⟩]⟩,
  ⟨"FUS_UID_LO", 4, 1, 0, [⟨"UID", 31, 0, .ro, 0⟩]⟩,
  ⟨"FUS_UID_HI", 8, 1, 0, [⟨"UID", 31, 0, .ro, 0⟩]⟩,
  ⟨"FUS_MFR", 0xc, 1, 0, [⟨"MFR", 10, 0, .ro, 0⟩]⟩,
  ⟨"FUS_POLICY", 0x10, 1, 0, [⟨"PLCA_VALID", 21, 21, .ro, 0⟩, ⟨"PLCA_ID", 20, 16, .ro, 0⟩, ⟨"DACRANGE1", 13, 13, .ro, 0⟩, ⟨"DACRANGE0", 12, 12, .ro, 0⟩, ⟨"DBGLOCK", 9, 8, .ro, 0⟩, ⟨"RSTPOL", 4, 4, .ro, 0⟩, ⟨"BOOTPOL", 3, 0, .ro, 0⟩]⟩,
  ⟨"FUS_DBGKEY", 0x20, 8, 4, [⟨"KEY", 31, 0, .ro, 0⟩]⟩,
  ⟨"FUS_BOOTKEY", 0x40, 8, 4, [⟨"KEY", 31, 0, .ro, 0⟩]⟩,
  ⟨"FUS_STAT", 0x80, 1, 0, [⟨"PGM_ERR", 2, 2, .w1c, 0⟩, ⟨"PGM_BUSY", 1, 1, .ro, 0⟩, ⟨"MISMATCH", 0, 0, .w1c, 0⟩]⟩,
  ⟨"FUS_PGMDATA", 0x84, 1, 0, [⟨"DATA", 31, 0, .rw, 0⟩]⟩,
  ⟨"FUS_PGM", 0x88, 1, 0, [⟨"KEY", 31, 24, .wo, 0⟩, ⟨"WORD", 7, 0, .wo, 0⟩]⟩]

/-- Registers of the CAL_ block (04_calends_timebase.md). -/
def regsCal : List RegDesc := [
  ⟨"CAL_NS", 0, 1, 0, [⟨"NS", 29, 0, .ro, 0⟩]⟩,
  ⟨"CAL_FRAC", 4, 1, 0, [⟨"FRAC", 31, 0, .ro, 0⟩]⟩,
  ⟨"CAL_SEC_LO", 8, 1, 0, [⟨"SEC", 31, 0, .ro, 0⟩]⟩,
  ⟨"CAL_SEC_HI", 0xc, 1, 0, [⟨"SEC", 15, 0, .ro, 0⟩]⟩,
  ⟨"CAL_SET_NS", 0x10, 1, 0, [⟨"NS", 29, 0, .rw, 0⟩]⟩,
  ⟨"CAL_SET_SEC_LO", 0x14, 1, 0, [⟨"SEC", 31, 0, .rw, 0⟩]⟩,
  ⟨"CAL_SET_SEC_HI", 0x18, 1, 0, [⟨"SEC", 15, 0, .rw, 0⟩]⟩,
  ⟨"CAL_ADJ", 0x20, 1, 0, [⟨"ADJ", 31, 0, .rw, 0⟩]⟩,
  ⟨"CAL_STEP", 0x1c, 1, 0, [⟨"PEND", 3, 3, .ro, 0⟩, ⟨"MODE", 2, 1, .rw, 0⟩, ⟨"GO", 0, 0, .w1s, 0⟩]⟩,
  ⟨"CAL_RATE", 0x24, 1, 0, [⟨"RATE", 31, 0, .rw, 0⟩]⟩,
  ⟨"CAL_UTC", 0x28, 1, 0, [⟨"LEAP", 17, 16, .rwv, 0⟩, ⟨"OFFSET", 15, 0, .rwv, 0⟩]⟩,
  ⟨"CAL_LEAP_SEC", 0x2c, 1, 0, [⟨"SEC", 31, 0, .rwv, 0⟩]⟩,
  ⟨"CAL_STAT", 0x30, 1, 0, [⟨"STEP_CNT", 31, 24, .ro, 0⟩, ⟨"SEL", 11, 8, .ro, 0xf⟩, ⟨"DPLL", 5, 4, .ro, 0⟩, ⟨"PHASE_TRACE", 2, 2, .ro, 0⟩, ⟨"REF_LOST", 1, 1, .ro, 0⟩, ⟨"VALID", 0, 0, .ro, 0⟩]⟩,
  ⟨"CAL_DPLL", 0x40, 1, 0, [⟨"PSL", 31, 16, .rw, 0x375⟩, ⟨"STHR", 15, 10, .rw, 1⟩, ⟨"STEP_EN", 9, 9, .rw, 1⟩, ⟨"HYBRID", 8, 8, .rw, 0⟩, ⟨"NONREV", 7, 7, .rw, 0⟩, ⟨"STEER", 6, 6, .rw, 0⟩, ⟨"BW", 5, 4, .rw, 1⟩, ⟨"MODE", 1, 0, .rw, 0⟩]⟩,
  ⟨"CAL_DPLL2", 0x44, 1, 0, [⟨"FWIN", 31, 24, .rw, 0x2e⟩, ⟨"WTR", 23, 12, .rw, 0x3c⟩, ⟨"LWIN", 11, 0, .rw, 0x64⟩]⟩,
  ⟨"CAL_PHERR", 0x48, 1, 0, [⟨"ERR", 31, 0, .ro, 0⟩]⟩,
  ⟨"CAL_FORCE", 0x4c, 1, 0, [⟨"SRC", 3, 0, .rw, 0⟩]⟩,
  ⟨"CAL_PTPOFS", 0x50, 1, 0, [⟨"OFS", 31, 0, .wo, 0⟩]⟩,
  ⟨"CAL_SRC_CFG", 0x80, 9, 0x10, [⟨"QUAL", 31, 22, .rw, 0xa⟩, ⟨"MISS", 21, 18, .rw, 2⟩, ⟨"QL", 11, 8, .rw, 0xf⟩, ⟨"PRIO", 7, 4, .rw, 0xf⟩, ⟨"EN", 0, 0, .rw, 0⟩]⟩,
  ⟨"CAL_SRC_DLY", 0x84, 9, 0x10, [⟨"DLY", 31, 0, .rw, 0⟩]⟩,
  ⟨"CAL_SRC_STAT", 0x88, 9, 0x10, [⟨"SELECTED", 1, 1, .ro, 0⟩, ⟨"QUALIFIED", 0, 0, .ro, 0⟩]⟩,
  ⟨"CAL_TDC_CFG", 0x180, 8, 0x10, [⟨"OVF", 31, 31, .w1c, 0⟩, ⟨"LANE", 28, 24, .rw, 0⟩, ⟨"DIV", 23, 0, .rw, 1⟩]⟩,
  ⟨"CAL_TDC_NS", 0x184, 8, 0x10, [⟨"EMPTY", 31, 31, .ro, 0⟩, ⟨"NS", 29, 0, .ro, 0⟩]⟩,
  ⟨"CAL_TDC_SEC", 0x188, 8, 0x10, [⟨"SEC", 31, 0, .ro, 0⟩]⟩,
  ⟨"CAL_TDC_SUB", 0x18c, 8, 0x10, [⟨"LEVEL", 20, 16, .ro, 0⟩, ⟨"SUB", 15, 0, .ro, 0⟩]⟩]

/-- Registers of the HLD_ block (05_holdover_and_oscillator.md). -/
def regsHld : List RegDesc := [
  ⟨"HLD_CTRL", 0, 1, 0, [⟨"ANCHOR", 31, 16, .rw, 0x12c⟩, ⟨"FREE_MODEL", 3, 3, .rw, 1⟩, ⟨"USE_LASTLOCK", 2, 2, .rw, 1⟩, ⟨"SEL", 1, 1, .rw, 0⟩, ⟨"LRN_EN", 0, 0, .rw, 1⟩]⟩,
  ⟨"HLD_STAT", 4, 1, 0, [⟨"SEASONED", 7, 7, .ro, 0⟩, ⟨"COEF_FUSE", 6, 6, .ro, 1⟩, ⟨"PERSIST_DEFER", 5, 5, .ro, 0⟩, ⟨"AGE_UNK", 4, 4, .ro, 0⟩, ⟨"TEMP_LOST", 3, 3, .ro, 0⟩, ⟨"ACQ", 2, 2, .ro, 0⟩, ⟨"STATE", 1, 0, .ro, 0⟩]⟩,
  ⟨"HLD_LRN", 8, 1, 0, [⟨"SETTLE", 31, 24, .rw, 0x3c⟩, ⟨"REJ", 15, 8, .rw, 6⟩, ⟨"K", 4, 0, .rw, 0x13⟩]⟩,
  ⟨"HLD_BUDGET", 0xc, 1, 0, [⟨"TMAX_U", 31, 24, .rwv, 1⟩, ⟨"TMAX_S", 23, 16, .rwv, 8⟩, ⟨"PHASE", 15, 0, .rwv, 0x44c⟩]⟩,
  ⟨"HLD_ELAPSED", 0x10, 1, 0, [⟨"S", 31, 0, .ro, 0⟩]⟩,
  ⟨"HLD_UNC", 0x14, 1, 0, [⟨"NS", 31, 0, .ro, 0⟩]⟩,
  ⟨"HLD_COEF", 0x20, 5, 4, [⟨"C", 31, 0, .ro, 0⟩]⟩,
  ⟨"HLD_T0", 0x34, 1, 0, [⟨"T0", 15, 0, .ro, 0⟩]⟩,
  ⟨"HLD_TEMP", 0x38, 1, 0, [⟨"DTDT", 31, 16, .ro, 0⟩, ⟨"T", 15, 0, .ro, 0⟩]⟩,
  ⟨"HLD_KDAC", 0x3c, 1, 0, [⟨"KDAC", 31, 0, .rw, 0⟩]⟩,
  ⟨"HLD_HIST", 0x40, 1, 0, [⟨"AGE", 31, 16, .ro, 0⟩, ⟨"MINUTES", 15, 0, .ro, 0⟩]⟩,
  ⟨"HLD_ALM_STAT", 0x44, 1, 0, [⟨"GEN", 31, 8, .ro, 0⟩, ⟨"PERSIST_FAIL", 7, 7, .w1c, 0⟩, ⟨"BAD", 6, 4, .ro, 0⟩, ⟨"STALE", 3, 3, .ro, 0⟩, ⟨"SRC", 2, 0, .ro, 0⟩]⟩,
  ⟨"HLD_ALM_CTRL", 0x48, 1, 0, [⟨"CLEAR", 0, 0, .rws, 0⟩]⟩,
  ⟨"HLD_SAMPLES", 0x50, 1, 0, [⟨"CNT", 31, 0, .ro, 0⟩]⟩,
  ⟨"HLD_SAMPLES_HI", 0x54, 1, 0, [⟨"CNT", 31, 0, .ro, 0⟩]⟩,
  ⟨"HLD_REJECT", 0x58, 1, 0, [⟨"CNT", 31, 0, .rc, 0⟩]⟩,
  ⟨"HLD_OVF", 0x5c, 1, 0, [⟨"OVF", 1, 0, .w1c, 0⟩]⟩,
  ⟨"HLD_DAC_CODE", 0x80, 2, 0x10, [⟨"CODE", 19, 0, .rw, 0⟩]⟩,
  ⟨"HLD_DAC_CFG", 0x84, 2, 0x10, [⟨"RANGE", 0, 0, .rw, 0⟩]⟩,
  ⟨"HLD_DAC_STAT", 0x88, 2, 0x10, [⟨"WR_IGN", 4, 4, .w1c, 0⟩, ⟨"RANGE_ERR", 3, 3, .w1c, 0⟩, ⟨"RANGE_BUSY", 2, 2, .ro, 0⟩, ⟨"INIT", 1, 0, .ro, 0⟩]⟩,
  ⟨"HLD_DAC_LAST", 0x8c, 2, 0x10, [⟨"LAST", 20, 0, .ro, 0⟩]⟩,
  ⟨"HLD_FDEF", 0xc0, 5, 4, [⟨"F", 31, 0, .ro, 0⟩]⟩]

/-- Registers of the PTP_ block (04_calends_timebase.md). -/
def regsPtp : List RegDesc := [
  ⟨"PTP_CTRL", 0, 1, 0, [⟨"EN", 0, 0, .rw, 0⟩]⟩,
  ⟨"PTP_RXBASE", 4, 1, 0, [⟨"BASE", 31, 13, .rw, 0⟩]⟩,
  ⟨"PTP_RXHEAD", 8, 1, 0, [⟨"IDX", 4, 0, .ro, 0⟩]⟩,
  ⟨"PTP_RXTAIL", 0xc, 1, 0, [⟨"IDX", 4, 0, .rw, 0⟩]⟩,
  ⟨"PTP_TXBASE", 0x10, 1, 0, [⟨"BASE", 31, 13, .rw, 0⟩]⟩,
  ⟨"PTP_TXHEAD", 0x14, 1, 0, [⟨"IDX", 4, 0, .rw, 0⟩]⟩,
  ⟨"PTP_TXTAIL", 0x18, 1, 0, [⟨"IDX", 4, 0, .ro, 0⟩]⟩,
  ⟨"PTP_RXDROP", 0x20, 1, 0, [⟨"CNT", 31, 0, .rc, 0⟩]⟩,
  ⟨"PTP_TCSKIP", 0x24, 1, 0, [⟨"CNT", 31, 0, .rc, 0⟩]⟩,
  ⟨"PTP_OVF", 0x28, 1, 0, [⟨"OVF", 1, 0, .w1c, 0⟩]⟩,
  ⟨"PTP_PCFG", 0x100, 25, 0x10, [⟨"TC_EN", 1, 1, .rw, 0⟩, ⟨"EN", 0, 0, .rw, 0⟩]⟩,
  ⟨"PTP_PDLY", 0x104, 25, 0x10, [⟨"TX", 31, 16, .rw, 0⟩, ⟨"RX", 15, 0, .rw, 0⟩]⟩,
  ⟨"PTP_PSTAT", 0x108, 25, 0x10, [⟨"CAL_DONE", 31, 31, .ro, 0⟩, ⟨"ALIGN", 15, 0, .ro, 0⟩]⟩]

/-- Registers of the MTX_ block (06_saltern_stream_matrix.md). -/
def regsMtx : List RegDesc := [
  ⟨"MTX_CTRL", 0, 1, 0, [⟨"SPEC_EN", 1, 1, .rw, 1⟩, ⟨"EN", 0, 0, .rwv, 0⟩]⟩,
  ⟨"MTX_STAT", 4, 1, 0, [⟨"SPEC_HOLD", 4, 4, .w1c, 0⟩, ⟨"EVE_BUSY", 3, 3, .ro, 0⟩, ⟨"ABORT_LATE", 2, 2, .w1c, 0⟩, ⟨"GO_REJ", 1, 1, .w1c, 0⟩, ⟨"EVE_WR_REJ", 0, 0, .w1c, 0⟩]⟩,
  ⟨"MTX_FOFS", 8, 1, 0, [⟨"FOFS", 23, 0, .rw, 0⟩]⟩,
  ⟨"MTX_ADV", 0xc, 1, 0, [⟨"ADV", 9, 0, .rw, 0⟩]⟩,
  ⟨"MTX_COMMIT", 0x10, 1, 0, [⟨"AT", 8, 8, .rw, 0⟩, ⟨"MU", 7, 6, .rw, 0⟩, ⟨"CLASS", 5, 4, .rw, 0⟩, ⟨"COPY", 2, 2, .w1s, 0⟩, ⟨"ABORT", 1, 1, .w1s, 0⟩, ⟨"GO", 0, 0, .w1s, 0⟩]⟩,
  ⟨"MTX_COMMIT_STAT", 0x14, 1, 0, [⟨"ERR_ENTRY", 26, 16, .ro, 0⟩, ⟨"RESULT", 7, 4, .ro, 0xf⟩, ⟨"STATE", 1, 0, .ro, 0⟩]⟩,
  ⟨"MTX_CTIME_NS", 0x18, 1, 0, [⟨"NS", 29, 0, .rw, 0⟩]⟩,
  ⟨"MTX_CTIME_SEC", 0x1c, 1, 0, [⟨"SEC", 31, 0, .rw, 0⟩]⟩,
  ⟨"MTX_TARGET_NS", 0x20, 1, 0, [⟨"NS", 29, 0, .ro, 0⟩]⟩,
  ⟨"MTX_TARGET_SEC", 0x24, 1, 0, [⟨"SEC", 31, 0, .ro, 0⟩]⟩,
  ⟨"MTX_SWWIN", 0x28, 1, 0, [⟨"SWWIN", 13, 0, .rw, 0x3e8⟩]⟩,
  ⟨"MTX_SRCTO", 0x2c, 1, 0, [⟨"SRCTO", 13, 0, .rw, 0x1f4⟩]⟩,
  ⟨"MTX_DLY_BASE", 0x30, 1, 0, [⟨"BASE", 12, 0, .rwv, 0⟩]⟩,
  ⟨"MTX_DLY_CTRL", 0x34, 1, 0, [⟨"EN", 0, 0, .rw, 0⟩]⟩,
  ⟨"MTX_DAYRD_SEL", 0x40, 1, 0, [⟨"ENTRY", 10, 0, .rw, 0⟩]⟩,
  ⟨"MTX_DAYRD_W", 0x60, 8, 4, [⟨"W", 31, 0, .ro, 0⟩]⟩,
  ⟨"MTX_CAP_CTRL", 0x80, 1, 0, [⟨"GO", 31, 31, .w1s, 0⟩, ⟨"TRIG", 24, 24, .rw, 0⟩, ⟨"COUNT", 23, 12, .rw, 0x800⟩, ⟨"DIR", 11, 11, .rw, 0⟩, ⟨"CONT", 10, 0, .rw, 0⟩]⟩,
  ⟨"MTX_CAP_STAT", 0x84, 1, 0, [⟨"CNT", 27, 16, .ro, 0⟩, ⟨"RESULT", 3, 2, .ro, 0⟩, ⟨"STATE", 1, 0, .ro, 0⟩]⟩,
  ⟨"MTX_CAP_T0_NS", 0x88, 1, 0, [⟨"NS", 29, 0, .ro, 0⟩]⟩,
  ⟨"MTX_CAP_T0_SEC", 0x8c, 1, 0, [⟨"SEC", 31, 0, .ro, 0⟩]⟩,
  ⟨"MTX_COMMITS", 0x100, 1, 0, [⟨"CNT", 31, 0, .ro, 0⟩]⟩,
  ⟨"MTX_REFUSED", 0x104, 1, 0, [⟨"CNT", 31, 0, .rc, 0⟩]⟩,
  ⟨"MTX_COMP", 0x108, 1, 0, [⟨"FORCED", 15, 0, .ro, 0⟩]⟩,
  ⟨"MTX_DLY_LOST", 0x10c, 1, 0, [⟨"CNT", 31, 0, .rc, 0⟩]⟩,
  ⟨"MTX_DLY_DROP", 0x110, 1, 0, [⟨"CNT", 31, 0, .rc, 0⟩]⟩,
  ⟨"MTX_SKEW_OVF", 0x114, 1, 0, [⟨"CNT", 31, 0, .rc, 0⟩]⟩,
  ⟨"MTX_SPEC_HOLDC", 0x118, 1, 0, [⟨"CNT", 31, 0, .rc, 0⟩]⟩,
  ⟨"MTX_COLD", 0x11c, 1, 0, [⟨"CNT", 31, 0, .rc, 0⟩]⟩,
  ⟨"MTX_SUM_SAT", 0x120, 1, 0, [⟨"CNT", 31, 0, .rc, 0⟩]⟩,
  ⟨"MTX_OVF", 0x124, 1, 0, [⟨"GAP", 9, 9, .w1c, 0⟩, ⟨"OVF", 7, 0, .w1c, 0⟩]⟩,
  ⟨"MTX_GAP", 0x128, 1, 0, [⟨"CNT", 31, 0, .rc, 0⟩]⟩,
  ⟨"MTX_FWD", 0x200, 24, 8, [⟨"CNT", 31, 0, .ro, 0⟩]⟩,
  ⟨"MTX_FWD_HI", 0x204, 24, 8, [⟨"CNT", 31, 0, .ro, 0⟩]⟩,
  ⟨"MTX_BTN", 0x2c0, 24, 4, [⟨"CNT", 31, 0, .rc, 0⟩]⟩,
  ⟨"MTX_EVE", 0x1000, 12288, 4, [⟨"W", 31, 0, .rw, 0⟩]⟩,
  ⟨"MTX_CAPW", 0xd000, 2048, 4, [⟨"S", 31, 0, .ro, 0⟩]⟩]

/-- Registers of the LNE_ block (07_lane_framing.md). -/
def regsLne : List RegDesc := [
  ⟨"LNE_CTRL", 0, 1, 0, [⟨"EN", 15, 15, .rw, 0⟩, ⟨"REPHASE", 6, 6, .w1s, 0⟩, ⟨"TXTIM", 5, 5, .rw, 1⟩, ⟨"PRBS", 4, 4, .rw, 0⟩, ⟨"MODE", 3, 0, .rw, 0⟩]⟩,
  ⟨"LNE_STAT", 4, 1, 0, [⟨"PRBS_LOCK", 4, 4, .ro, 0⟩, ⟨"FW_EQ", 3, 3, .ro, 0⟩, ⟨"HI_BER", 2, 2, .ro, 0⟩, ⟨"SF_LOCK", 1, 1, .ro, 0⟩, ⟨"BLOCK_LOCK", 0, 0, .ro, 0⟩]⟩,
  ⟨"LNE_EVT", 8, 1, 0, [⟨"OVF", 5, 5, .w1c, 0⟩, ⟨"TXLATE", 4, 4, .w1c, 0⟩, ⟨"CFG_REJ", 3, 3, .w1c, 0⟩, ⟨"HI_BER", 2, 2, .w1c, 0⟩, ⟨"SF_CHG", 1, 1, .w1c, 0⟩, ⟨"BLK_CHG", 0, 0, .w1c, 0⟩]⟩,
  ⟨"LNE_EVTEN", 0xc, 1, 0, [⟨"EN", 5, 0, .rw, 0⟩]⟩,
  ⟨"LNE_EQ", 0x10, 1, 0, [⟨"FW", 15, 15, .rw, 0⟩, ⟨"PRE", 13, 10, .rw, 0⟩, ⟨"POST", 9, 5, .rw, 0⟩, ⟨"CTLE", 4, 0, .rw, 0⟩]⟩,
  ⟨"LNE_RXPH", 0x14, 1, 0, [⟨"PH", 15, 0, .rw, 0⟩]⟩,
  ⟨"LNE_TXPH", 0x18, 1, 0, [⟨"PH", 15, 0, .rw, 0⟩]⟩,
  ⟨"LNE_TXPH_MEAS", 0x1c, 1, 0, [⟨"PH", 15, 0, .ro, 0⟩]⟩,
  ⟨"LNE_ROE_DA", 0x30, 3, 4, [⟨"A", 15, 0, .rw, 0⟩]⟩,
  ⟨"LNE_ROE_SA", 0x3c, 3, 4, [⟨"A", 15, 0, .rw, 0⟩]⟩,
  ⟨"LNE_ROE_VLAN", 0x48, 1, 0, [⟨"PCP", 15, 13, .rw, 0⟩, ⟨"VID", 11, 0, .rw, 0⟩]⟩,
  ⟨"LNE_CSEL", 0x80, 1, 0, [⟨"DIR", 15, 15, .rw, 0⟩, ⟨"C", 5, 0, .rw, 0⟩]⟩,
  ⟨"LNE_CFMT", 0x84, 1, 0, [⟨"EN", 15, 15, .rw, 0⟩, ⟨"AGN", 14, 14, .rw, 0⟩, ⟨"RATE", 10, 8, .rw, 0⟩, ⟨"FMT", 7, 4, .rw, 0⟩]⟩,
  ⟨"LNE_CPOS", 0x88, 1, 0, [⟨"POS", 15, 0, .rw, 0⟩]⟩,
  ⟨"LNE_CCNT", 0x8c, 1, 0, [⟨"CNT", 9, 0, .rw, 0⟩]⟩,
  ⟨"LNE_RXUNIT", 0x100, 1, 0, [⟨"CNT", 31, 0, .rc, 0⟩]⟩,
  ⟨"LNE_RXFAIL", 0x104, 1, 0, [⟨"CNT", 31, 0, .rc, 0⟩]⟩,
  ⟨"LNE_RXBTN", 0x108, 1, 0, [⟨"CNT", 31, 0, .rc, 0⟩]⟩,
  ⟨"LNE_SYNCERR", 0x10c, 1, 0, [⟨"CNT", 31, 0, .rc, 0⟩]⟩,
  ⟨"LNE_BLKLOSS", 0x110, 1, 0, [⟨"CNT", 31, 0, .rc, 0⟩]⟩,
  ⟨"LNE_SFBAD", 0x114, 1, 0, [⟨"CNT", 31, 0, .rc, 0⟩]⟩,
  ⟨"LNE_SFLOSS", 0x118, 1, 0, [⟨"CNT", 31, 0, .rc, 0⟩]⟩,
  ⟨"LNE_FECCOR", 0x11c, 1, 0, [⟨"CNT", 31, 0, .rc, 0⟩]⟩,
  ⟨"LNE_FECUNC", 0x120, 1, 0, [⟨"CNT", 31, 0, .rc, 0⟩]⟩,
  ⟨"LNE_TXUNIT", 0x124, 1, 0, [⟨"CNT", 31, 0, .rc, 0⟩]⟩,
  ⟨"LNE_TXLATEC", 0x128, 1, 0, [⟨"CNT", 31, 0, .rc, 0⟩]⟩,
  ⟨"LNE_PRBSERR", 0x12c, 1, 0, [⟨"CNT", 31, 0, .rc, 0⟩]⟩,
  ⟨"LNE_OVF", 0x130, 1, 0, [⟨"OVF", 11, 0, .w1c, 0⟩]⟩]

/-- Registers of the SRC_ block (08_rate_conversion_and_harvest.md). -/
def regsSrc : List RegDesc := [
  ⟨"SRC_STALL", 4, 1, 0, [⟨"US", 19, 0, .rw, 0x3e8⟩]⟩,
  ⟨"SRC_CSEL", 8, 1, 0, [⟨"SEL", 7, 0, .rw, 0⟩]⟩,
  ⟨"SRC_PROG_STG", 0x10, 1, 0, [⟨"ARB", 29, 29, .rw, 0⟩, ⟨"IN_K", 28, 26, .rw, 0⟩, ⟨"OUT_K", 25, 23, .rw, 0⟩, ⟨"PHASES", 22, 16, .rw, 0⟩, ⟨"TAPS", 11, 8, .rw, 0⟩]⟩,
  ⟨"SRC_STEP_STG", 0x14, 1, 0, [⟨"STEP", 31, 0, .rw, 0x1000000⟩]⟩,
  ⟨"SRC_PROG_ACT", 0x18, 1, 0, [⟨"ARB", 29, 29, .ro, 0⟩, ⟨"IN_K", 28, 26, .ro, 0⟩, ⟨"OUT_K", 25, 23, .ro, 0⟩, ⟨"PHASES", 22, 16, .ro, 0⟩, ⟨"TAPS", 11, 8, .ro, 0⟩]⟩,
  ⟨"SRC_STEP_ACT", 0x1c, 1, 0, [⟨"STEP", 31, 0, .ro, 0x1000000⟩]⟩,
  ⟨"SRC_CMT", 0x20, 1, 0, [⟨"FORCE", 1, 1, .w1s, 0⟩, ⟨"REQ", 0, 0, .w1s, 0⟩]⟩,
  ⟨"SRC_CVSTAT", 0x24, 1, 0, [⟨"EN", 31, 31, .ro, 0⟩, ⟨"PEND", 30, 30, .ro, 0⟩, ⟨"STALLED", 29, 29, .ro, 0⟩, ⟨"HELD", 28, 28, .ro, 0⟩, ⟨"IN_DAY", 27, 27, .ro, 0⟩, ⟨"TRUNC", 8, 8, .w1c, 0⟩, ⟨"REJ", 7, 7, .w1c, 0⟩, ⟨"DISC", 6, 0, .ro, 0⟩]⟩,
  ⟨"SRC_CVCTRL", 0x28, 1, 0, [⟨"EN", 0, 0, .rw, 0⟩]⟩,
  ⟨"SRC_TEST_CTRL", 0x40, 1, 0, [⟨"GO", 31, 31, .w1s, 0⟩, ⟨"COUNT", 8, 0, .rw, 0⟩]⟩,
  ⟨"SRC_TEST_STAT", 0x44, 1, 0, [⟨"OUTCNT", 27, 16, .ro, 0⟩, ⟨"BUSY", 0, 0, .ro, 0⟩]⟩,
  ⟨"SRC_FMTERR", 0x100, 1, 0, [⟨"CNT", 31, 0, .rc, 0⟩]⟩,
  ⟨"SRC_FORCED", 0x104, 1, 0, [⟨"CNT", 31, 0, .rc, 0⟩]⟩,
  ⟨"SRC_CONVSAT", 0x108, 1, 0, [⟨"CNT", 31, 0, .rc, 0⟩]⟩,
  ⟨"SRC_OVF", 0x10c, 1, 0, [⟨"OVF", 2, 0, .w1c, 0⟩]⟩,
  ⟨"SRC_COEF_STG", 0x1000, 1024, 4, [⟨"C", 17, 0, .rw, 0⟩]⟩,
  ⟨"SRC_COEF_ACT", 0x2000, 1024, 4, [⟨"C", 17, 0, .ro, 0⟩]⟩,
  ⟨"SRC_GAIN", 0x3000, 1536, 4, [⟨"G", 10, 0, .rw, 0x4b0⟩]⟩,
  ⟨"SRC_GSAT", 0x5000, 1536, 4, [⟨"CNT", 31, 0, .rc, 0⟩]⟩,
  ⟨"SRC_TIN", 0x8000, 256, 4, [⟨"S", 31, 0, .rw, 0⟩]⟩,
  ⟨"SRC_TOUT", 0x9000, 2048, 4, [⟨"S", 31, 0, .ro, 0⟩]⟩]

/-- Registers of the HVS_ block (08_rate_conversion_and_harvest.md). -/
def regsHvs : List RegDesc := [
  ⟨"HVS_CTRL", 0, 1, 0, [⟨"EN", 0, 0, .rw, 0⟩]⟩,
  ⟨"HVS_STAT", 4, 1, 0, [⟨"CFG_REJ", 1, 1, .w1c, 0⟩, ⟨"BUSERR", 0, 0, .w1c, 0⟩]⟩,
  ⟨"HVS_SLOT0", 0x1000, 384, 0x20, [⟨"EN", 31, 31, .rw, 0⟩, ⟨"IRQ", 30, 30, .rw, 0⟩, ⟨"S", 23, 16, .rw, 0⟩, ⟨"M", 12, 8, .rw, 0⟩]⟩,
  ⟨"HVS_SLOT1", 0x1004, 384, 0x20, [⟨"BASE", 31, 4, .rw, 0⟩]⟩,
  ⟨"HVS_SLOT2", 0x1008, 384, 0x20, [⟨"IDX", 24, 16, .ro, 0⟩, ⟨"SIZE", 8, 0, .rw, 0⟩]⟩,
  ⟨"HVS_MSGS", 0x1010, 384, 0x20, [⟨"CNT", 31, 0, .ro, 0⟩]⟩,
  ⟨"HVS_DROP", 0x1014, 384, 0x20, [⟨"CNT", 31, 0, .rc, 0⟩]⟩,
  ⟨"HVS_FAIL", 0x1018, 384, 0x20, [⟨"CNT", 31, 0, .rc, 0⟩]⟩]

/-- Registers of the CLS_ block (09_classifier_and_automata.md). -/
def regsCls : List RegDesc := [
  ⟨"CLS_CTRL", 0, 1, 0, [⟨"RAKE_EN", 1, 1, .rw, 1⟩, ⟨"EN", 0, 0, .rwv, 0⟩]⟩,
  ⟨"CLS_STAT", 4, 1, 0, [⟨"SUSP", 20, 16, .ro, 0⟩, ⟨"MULTI_FALSE", 3, 3, .w1c, 0⟩, ⟨"SUSP_FULL", 2, 2, .w1c, 0⟩, ⟨"UNCOR", 1, 1, .w1c, 0⟩, ⟨"KEYDROP", 0, 0, .w1c, 0⟩]⟩,
  ⟨"CLS_ESEL", 0x10, 1, 0, [⟨"ENTRY", 11, 0, .rw, 0⟩]⟩,
  ⟨"CLS_EVAL", 0x20, 6, 4, [⟨"V", 31, 0, .rw, 0⟩]⟩,
  ⟨"CLS_EMSK", 0x40, 6, 4, [⟨"M", 31, 0, .rw, 0⟩]⟩,
  ⟨"CLS_EATTR", 0x60, 1, 0, [⟨"PRIO", 27, 16, .rw, 0⟩, ⟨"RNG1", 14, 8, .rw, 0⟩, ⟨"RNG0", 6, 0, .rw, 0⟩]⟩,
  ⟨"CLS_EACT", 0x64, 1, 0, [⟨"DEST", 31, 28, .rw, 0⟩, ⟨"ARG", 27, 20, .rw, 0⟩, ⟨"AUT_EN", 19, 19, .rw, 0⟩, ⟨"AUT", 18, 16, .rw, 0⟩]⟩,
  ⟨"CLS_ECMD", 0x68, 1, 0, [⟨"CMD", 2, 0, .wo, 0⟩]⟩,
  ⟨"CLS_ECSTAT", 0x6c, 1, 0, [⟨"BUSY", 31, 31, .ro, 0⟩, ⟨"VALID", 30, 30, .ro, 0⟩, ⟨"SUSPECT", 29, 29, .ro, 0⟩, ⟨"ERR", 3, 0, .w1c, 0⟩]⟩,
  ⟨"CLS_PORT_CFG", 0x80, 25, 4, [⟨"MISS_DEST", 31, 28, .rw, 0⟩, ⟨"MISS_ARG", 27, 20, .rw, 0⟩, ⟨"PFTAG", 15, 8, .rw, 0⟩, ⟨"WOFS", 6, 0, .rw, 0⟩]⟩,
  ⟨"CLS_RG", 0x100, 32, 4, [⟨"EN", 31, 31, .rw, 1⟩, ⟨"VAL", 15, 8, .rw, 0⟩, ⟨"MSK", 7, 0, .rw, 0⟩]⟩,
  ⟨"CLS_FQ_CFG", 0x180, 4, 0x10, [⟨"EN", 31, 31, .rw, 0⟩, ⟨"SIZE", 6, 0, .rw, 0⟩]⟩,
  ⟨"CLS_FQ_BASE", 0x184, 4, 0x10, [⟨"BASE", 31, 11, .rw, 0⟩]⟩,
  ⟨"CLS_FQ_HEAD", 0x188, 4, 0x10, [⟨"IDX", 5, 0, .ro, 0⟩]⟩,
  ⟨"CLS_FQ_TAIL", 0x18c, 4, 0x10, [⟨"IDX", 5, 0, .rw, 0⟩]⟩,
  ⟨"CLS_SEARCH", 0x1c0, 1, 0, [⟨"CNT", 31, 0, .ro, 0⟩]⟩,
  ⟨"CLS_SEARCH_HI", 0x1c4, 1, 0, [⟨"CNT", 31, 0, .ro, 0⟩]⟩,
  ⟨"CLS_MISS", 0x1c8, 1, 0, [⟨"CNT", 31, 0, .rc, 0⟩]⟩,
  ⟨"CLS_FALSE", 0x1cc, 1, 0, [⟨"CNT", 31, 0, .rc, 0⟩]⟩,
  ⟨"CLS_KEYDROP", 0x1d0, 1, 0, [⟨"CNT", 31, 0, .rc, 0⟩]⟩,
  ⟨"CLS_FQDROP", 0x1d4, 1, 0, [⟨"CNT", 31, 0, .rc, 0⟩]⟩,
  ⟨"CLS_BADDEST", 0x1d8, 1, 0, [⟨"CNT", 31, 0, .rc, 0⟩]⟩,
  ⟨"CLS_LOOP", 0x1dc, 1, 0, [⟨"CNT", 31, 0, .rc, 0⟩]⟩,
  ⟨"CLS_OVF", 0x1e0, 1, 0, [⟨"OVF", 5, 0, .w1c, 0⟩]⟩,
  ⟨"CLS_UNCOR_E", 0x1e4, 1, 0, [⟨"ENTRY", 11, 0, .ro, 0⟩]⟩,
  ⟨"CLS_RC_FIELD", 0x1000, 64, 8, [⟨"FIELD", 2, 0, .rw, 0⟩]⟩,
  ⟨"CLS_RC_RANGE", 0x1004, 64, 8, [⟨"HI", 31, 16, .rw, 0⟩, ⟨"LO", 15, 0, .rw, 0⟩]⟩,
  ⟨"CLS_SUSPT", 0x1200, 16, 4, [⟨"VALID", 31, 31, .ro, 0⟩, ⟨"ENTRY", 11, 0, .ro, 0⟩]⟩,
  ⟨"CLS_HIT", 0x8000, 4096, 4, [⟨"CNT", 31, 0, .rc, 0⟩]⟩]

/-- Registers of the AUT_ block (09_classifier_and_automata.md). -/
def regsAut : List RegDesc := [
  ⟨"AUT_ESEL", 0, 1, 0, [⟨"SEL", 2, 0, .rw, 0⟩]⟩,
  ⟨"AUT_PAGE", 4, 1, 0, [⟨"BANK", 3, 3, .rw, 0⟩, ⟨"PAGE", 2, 0, .rw, 0⟩]⟩,
  ⟨"AUT_ECFG", 0x100, 8, 0x40, [⟨"EN", 31, 31, .rw, 0⟩, ⟨"CLS", 16, 16, .rw, 0⟩, ⟨"SLOT", 7, 0, .rw, 0⟩]⟩,
  ⟨"AUT_PROG_STG", 0x104, 8, 0x40, [⟨"START", 29, 16, .rw, 0⟩, ⟨"NSTATES", 14, 0, .rw, 0⟩]⟩,
  ⟨"AUT_PROG_ACT", 0x108, 8, 0x40, [⟨"START", 29, 16, .ro, 0⟩, ⟨"NSTATES", 14, 0, .ro, 0⟩]⟩,
  ⟨"AUT_CMT", 0x10c, 8, 0x40, [⟨"FORCE", 1, 1, .w1s, 0⟩, ⟨"REQ", 0, 0, .w1s, 0⟩]⟩,
  ⟨"AUT_CMSTAT", 0x110, 8, 0x40, [⟨"PEND", 31, 31, .ro, 0⟩, ⟨"STALLED", 30, 30, .ro, 0⟩, ⟨"DISC", 10, 7, .ro, 0⟩, ⟨"ERR", 6, 4, .ro, 0⟩, ⟨"MIDMSG", 3, 3, .w1c, 0⟩, ⟨"TRUNC", 2, 2, .w1c, 0⟩, ⟨"REJ", 1, 1, .w1c, 0⟩]⟩,
  ⟨"AUT_STALL", 0x114, 8, 0x40, [⟨"US", 19, 0, .rw, 0x3e8⟩]⟩,
  ⟨"AUT_RPT0", 0x118, 8, 0x40, [⟨"VALID", 31, 31, .ro, 0⟩, ⟨"STATE", 29, 16, .ro, 0⟩, ⟨"CODE", 15, 8, .ro, 0⟩]⟩,
  ⟨"AUT_RPT1", 0x11c, 8, 0x40, [⟨"OFFSET", 31, 16, .ro, 0⟩, ⟨"MSG", 15, 0, .ro, 0⟩]⟩,
  ⟨"AUT_RPT2", 0x120, 8, 0x40, [⟨"STAMP", 29, 0, .ro, 0⟩]⟩,
  ⟨"AUT_REPORTS", 0x124, 8, 0x40, [⟨"CNT", 31, 0, .ro, 0⟩]⟩,
  ⟨"AUT_RPTOVF", 0x128, 8, 0x40, [⟨"CNT", 31, 0, .rc, 0⟩]⟩,
  ⟨"AUT_INDROP", 0x12c, 8, 0x40, [⟨"CNT", 31, 0, .rc, 0⟩]⟩,
  ⟨"AUT_FORCED", 0x130, 8, 0x40, [⟨"CNT", 31, 0, .rc, 0⟩]⟩,
  ⟨"AUT_OVF", 0x134, 8, 0x40, [⟨"OVF", 2, 0, .w1c, 0⟩]⟩,
  ⟨"AUT_CMAP_STG", 0x4000, 64, 4, [⟨"C", 31, 0, .rw, 0⟩]⟩,
  ⟨"AUT_CMAP_ACT", 0x4100, 64, 4, [⟨"C", 31, 0, .ro, 0⟩]⟩,
  ⟨"AUT_BANKW", 0x8000, 8192, 4, [⟨"W", 31, 0, .rw, 0⟩]⟩]

/-- Registers of the CIP_ block (10_cipher_engine.md). -/
def regsCip : List RegDesc := [
  ⟨"CIP_CTRL", 0, 1, 0, [⟨"EN", 0, 0, .rwv, 0⟩]⟩,
  ⟨"CIP_STAT", 4, 1, 0, [⟨"PIPE_UP", 11, 8, .ro, 0⟩, ⟨"LANE_REJ", 3, 3, .w1c, 0⟩, ⟨"SA_REJ", 2, 2, .w1c, 0⟩, ⟨"MASK_STARVE", 1, 1, .w1c, 0⟩, ⟨"SELFTEST_FAIL", 0, 0, .w1c, 0⟩]⟩,
  ⟨"CIP_PIPE_LOAD", 0x10, 4, 4, [⟨"GBPS", 7, 0, .ro, 0⟩]⟩,
  ⟨"CIP_ISOLOG", 0x20, 1, 0, [⟨"VALID", 31, 31, .ro, 0⟩, ⟨"RID", 15, 8, .ro, 0⟩, ⟨"PAGE", 4, 0, .ro, 0⟩]⟩,
  ⟨"CIP_RXNOSA", 0x30, 1, 0, [⟨"CNT", 31, 0, .rc, 0⟩]⟩,
  ⟨"CIP_TXABORT", 0x34, 1, 0, [⟨"CNT", 31, 0, .rc, 0⟩]⟩,
  ⟨"CIP_IVSKIP", 0x38, 1, 0, [⟨"CNT", 31, 0, .rc, 0⟩]⟩,
  ⟨"CIP_OVF", 0x3c, 1, 0, [⟨"OVF", 2, 0, .w1c, 0⟩]⟩,
  ⟨"CIP_LANE_CFG", 0x100, 24, 0x10, [⟨"RXEN", 31, 31, .rw, 0⟩, ⟨"TXEN", 30, 30, .rw, 0⟩, ⟨"RXPIPE", 29, 28, .rw, 0⟩, ⟨"TXPIPE", 27, 26, .rw, 0⟩, ⟨"CLEARTAGS", 25, 25, .rw, 0⟩, ⟨"SCI_EN", 24, 24, .rw, 0⟩, ⟨"TX_AN", 1, 0, .rw, 0⟩]⟩,
  ⟨"CIP_LANE_VLSW", 0x104, 24, 0x10, [⟨"SEC", 31, 0, .rw, 0⟩]⟩,
  ⟨"CIP_SA0", 0x1000, 400, 0x20, [⟨"EN", 31, 31, .rw, 0⟩, ⟨"XPN", 30, 30, .rw, 0⟩, ⟨"CONF", 29, 29, .rw, 0⟩, ⟨"REPLAY", 28, 28, .rw, 0⟩, ⟨"AN", 27, 26, .rw, 0⟩, ⟨"VARLAS", 25, 25, .rw, 0⟩, ⟨"EXH", 24, 24, .ro, 0⟩, ⟨"KP", 20, 16, .rw, 0⟩]⟩,
  ⟨"CIP_SA_SSCI", 0x1004, 400, 0x20, [⟨"V", 31, 0, .rw, 0⟩]⟩,
  ⟨"CIP_SA_PNLO", 0x1008, 400, 0x20, [⟨"V", 31, 0, .rw, 0⟩]⟩,
  ⟨"CIP_SA_PNHI", 0x100c, 400, 0x20, [⟨"V", 31, 0, .rw, 0⟩]⟩,
  ⟨"CIP_SA_WINDOW", 0x1010, 400, 0x20, [⟨"V", 31, 0, .rw, 0⟩]⟩,
  ⟨"CIP_SA_SCILO", 0x1014, 400, 0x20, [⟨"V", 31, 0, .rw, 0⟩]⟩,
  ⟨"CIP_SA_SCIHI", 0x1018, 400, 0x20, [⟨"V", 31, 0, .rw, 0⟩]⟩,
  ⟨"CIP_SA_THRESH", 0x101c, 400, 0x20, [⟨"V", 31, 0, .rw, 0⟩]⟩,
  ⟨"CIP_SAC_OK", 0x5000, 400, 0x10, [⟨"CNT", 31, 0, .ro, 0⟩]⟩,
  ⟨"CIP_SAC_ICVFAIL", 0x5004, 400, 0x10, [⟨"CNT", 31, 0, .rc, 0⟩]⟩,
  ⟨"CIP_SAC_LATE", 0x5008, 400, 0x10, [⟨"CNT", 31, 0, .rc, 0⟩]⟩,
  ⟨"CIP_SAC_DROP", 0x500c, 400, 0x10, [⟨"BADTAG", 31, 16, .rc, 0⟩, ⟨"DROP", 15, 0, .rc, 0⟩]⟩]

/-- Registers of the PKA_ block (10_cipher_engine.md). -/
def regsPka : List RegDesc := [
  ⟨"PKA_CMD", 0, 1, 0, [⟨"GO", 31, 31, .w1s, 0⟩, ⟨"KP_OUT", 25, 21, .rw, 0⟩, ⟨"KP", 20, 16, .rw, 0⟩, ⟨"OUT_KP", 9, 9, .rw, 0⟩, ⟨"CURVE", 8, 8, .rw, 0⟩, ⟨"HCONT", 5, 5, .rw, 0⟩, ⟨"HFINAL", 4, 4, .rw, 0⟩, ⟨"OP", 3, 0, .rw, 0⟩]⟩,
  ⟨"PKA_STAT", 4, 1, 0, [⟨"BUSY", 31, 31, .ro, 0⟩, ⟨"ERR", 3, 0, .ro, 0⟩]⟩,
  ⟨"PKA_HADDR", 8, 1, 0, [⟨"ADDR", 31, 0, .rw, 0⟩]⟩,
  ⟨"PKA_HLEN", 0xc, 1, 0, [⟨"LEN", 31, 0, .rw, 0⟩]⟩,
  ⟨"PKA_OPS", 0x10, 1, 0, [⟨"CNT", 31, 0, .ro, 0⟩]⟩,
  ⟨"PKA_KPCMD", 0x100, 1, 0, [⟨"CMD", 31, 29, .wo, 0⟩, ⟨"PAGE", 4, 0, .wo, 0⟩]⟩,
  ⟨"PKA_KPSTAT", 0x104, 1, 0, [⟨"BUSY", 31, 31, .ro, 0⟩, ⟨"ERR", 3, 0, .ro, 0⟩]⟩,
  ⟨"PKA_KSTG", 0x120, 16, 4, [⟨"W", 31, 0, .wo, 0⟩]⟩,
  ⟨"PKA_KP", 0x200, 32, 4, [⟨"CLAIMED", 31, 31, .ro, 0⟩, ⟨"LOADED", 30, 30, .ro, 0⟩, ⟨"INUSE", 29, 29, .ro, 0⟩, ⟨"OWNER", 15, 8, .ro, 0⟩]⟩,
  ⟨"PKA_E", 0x1000, 16, 4, [⟨"W", 31, 0, .rw, 0⟩]⟩,
  ⟨"PKA_QX", 0x1040, 16, 4, [⟨"W", 31, 0, .rw, 0⟩]⟩,
  ⟨"PKA_QY", 0x1080, 16, 4, [⟨"W", 31, 0, .rw, 0⟩]⟩,
  ⟨"PKA_R", 0x10c0, 16, 4, [⟨"W", 31, 0, .rw, 0⟩]⟩,
  ⟨"PKA_S", 0x1100, 16, 4, [⟨"W", 31, 0, .rw, 0⟩]⟩,
  ⟨"PKA_D", 0x1140, 16, 4, [⟨"W", 31, 0, .wo, 0⟩]⟩,
  ⟨"PKA_OX", 0x1180, 16, 4, [⟨"W", 31, 0, .ro, 0⟩]⟩,
  ⟨"PKA_OY", 0x11c0, 16, 4, [⟨"W", 31, 0, .ro, 0⟩]⟩,
  ⟨"PKA_DIGEST", 0x1200, 16, 4, [⟨"W", 31, 0, .ro, 0⟩]⟩]

/-- The register blocks of R61 but for the lanes. -/
def fixedBlocks : List BlockDesc := [
  ⟨"PWR", 0x40000000, 0x1000, 0x0, 0, false, regsPwr⟩,
  ⟨"RST", 0x40001000, 0x1000, 0x1, 0, false, regsRst⟩,
  ⟨"CLK", 0x40002000, 0x1000, 0x2, 7, false, regsClk⟩,
  ⟨"IC", 0x40003000, 0x1000, 0x3, 7, false, regsIc⟩,
  ⟨"EVT", 0x40004000, 0x1000, 0x4, 7, false, regsEvt⟩,
  ⟨"HZ", 0x40005000, 0x1000, 0x5, 7, false, regsHz⟩,
  ⟨"TRC", 0x40006000, 0x1000, 0x6, 23, false, regsTrc⟩,
  ⟨"TMP", 0x40007000, 0x1000, 0x7, 0, false, regsTmp⟩,
  ⟨"TRN", 0x40008000, 0x1000, 0x8, 0, false, regsTrn⟩,
  ⟨"NVS", 0x40009000, 0x1000, 0x9, 0, false, regsNvs⟩,
  ⟨"HK", 0x4000a000, 0x1000, 0xa, 21, true, regsHk⟩,
  ⟨"NQ", 0x4000b000, 0x1000, 0xb, 0, false, regsNq⟩,
  ⟨"IDC", 0x4000c000, 0x1000, 0xc, 22, true, regsIdc⟩,
  ⟨"SDH", 0x4000d000, 0x1000, 0xd, 22, true, regsSdh⟩,
  ⟨"DMC", 0x4000e000, 0x1000, 0xe, 20, false, regsDmc⟩,
  ⟨"DMA", 0x4000f000, 0x1000, 0xf, 7, false, regsDma⟩,
  ⟨"FUS", 0x40010000, 0x1000, 0x10, 0, false, regsFus⟩,
  ⟨"CAL", 0x41000000, 0x1000, 0x20, 1, false, regsCal⟩,
  ⟨"HLD", 0x41001000, 0x1000, 0x21, 1, false, regsHld⟩,
  ⟨"PTP", 0x41002000, 0x1000, 0x22, 1, false, regsPtp⟩,
  ⟨"MTX", 0x42000000, 0x10000, 0x30, 12, false, regsMtx⟩,
  ⟨"SRC", 0x42040000, 0x10000, 0x34, 13, false, regsSrc⟩,
  ⟨"HVS", 0x42050000, 0x10000, 0x35, 12, false, regsHvs⟩,
  ⟨"CLS", 0x42060000, 0x10000, 0x36, 11, false, regsCls⟩,
  ⟨"AUT", 0x42070000, 0x10000, 0x37, 11, false, regsAut⟩,
  ⟨"CIP", 0x42080000, 0x10000, 0x38, 8, false, regsCip⟩,
  ⟨"PKA", 0x42090000, 0x10000, 0x39, 10, false, regsPka⟩]

/-- The block of lane Ln: 0x4201_0000 + n × 0x1000, in PD14 + ⌊n/4⌋ (R61). -/
def laneBlock (n : Nat) : BlockDesc :=
  ⟨"LNE", 0x42010000 + 0x1000 * n, 0x1000, 0x31, 14 + n / 4, true, regsLne⟩

/-- The register block that owns an address, when one does. -/
def blockAt (a : Nat) : Option BlockDesc :=
  if 0x42010000 ≤ a ∧ a < 0x42028000 then some (laneBlock ((a - 0x42010000) / 0x1000))
  else fixedBlocks.find? (fun b => b.base ≤ a && a < b.base + b.size)

/-- Whether a register array holds the word at offset `o` of its block. -/
def RegDesc.holds (r : RegDesc) (o : Nat) : Bool :=
  if r.count ≤ 1 then o == r.off
  else r.off ≤ o && (o - r.off) % r.stride == 0 && (o - r.off) / r.stride < r.count

/-- The register at offset `o` of a block, the header included. -/
def BlockDesc.regAt (b : BlockDesc) (o : Nat) : Option RegDesc :=
  match b.regs.find? (·.holds o) with
  | some r => some r
  | none => (headerRegs b.code b.masked).find? (·.holds o)

/-- The register at an address: its block and its descriptor. -/
def regDescAt (a : Nat) : Option (BlockDesc × RegDesc) :=
  match blockAt a with
  | some b => (b.regAt (a - b.base)).map (fun r => (b, r))
  | none => none

/-- A field value placed at its bits. -/
def FieldDesc.place (f : FieldDesc) (v : Nat) : Nat := v % 2 ^ (f.hi - f.lo + 1) * 2 ^ f.lo

/-- The bits of a word that a field takes up. -/
def FieldDesc.mask (f : FieldDesc) : Nat := (2 ^ (f.hi - f.lo + 1) - 1) * 2 ^ f.lo

/-- The bits of a register that hold a field of one of the given access codes. -/
def RegDesc.maskOf (r : RegDesc) (p : Acc → Bool) : Nat :=
  r.fields.foldl (fun n f => if p f.acc then n + f.mask else n) 0

/-- The reset word the fields of a register give. -/
def RegDesc.resetWord (r : RegDesc) : Nat :=
  r.fields.foldl (fun n f => n + f.place f.reset) 0

/-- Default level of each event source, E0 first (R338); a reserved source has none and stands as 8. -/
def eventLevels : List Nat := [7, 7, 5, 5, 2, 2, 6, 8, 1, 1, 1, 1, 1, 1, 1, 1, 3, 3, 3, 3, 3, 3, 3, 3, 3, 3, 3, 3, 3, 3, 3, 3, 3, 3, 3, 3, 3, 3, 3, 3, 4, 4, 4, 6, 6, 2, 4, 3, 2, 4, 3, 3, 3, 1, 3, 2, 2, 3, 3, 3, 3, 3, 8, 8, 2, 3, 2, 3, 2, 3, 2, 3, 4, 4, 3, 8, 8, 8, 8, 8, 3, 3, 2, 5, 5, 5, 3, 5, 2, 2, 3, 5, 2, 5, 5, 4, 7, 1, 3, 5, 2, 1, 4, 3, 1, 3, 1, 4, 4, 5, 4, 3, 5, 5, 5, 5, 6, 5, 6, 8, 3, 3, 4, 3, 3, 3, 4, 4, 4, 3, 4, 4, 4, 3, 3, 3, 0, 3, 5, 4, 4, 5, 1, 1, 4, 3, 8, 8, 3, 2, 3, 3, 2, 3, 2, 4, 2, 4, 4, 3]

/-- Whether event source k is reserved (R338). -/
def eventReserved (k : Nat) : Bool := eventLevels.getD k 8 == 8

/-- Default EN, N, W in µs and class of each tamper source, source 0 first (R397). -/
def tamperDefaults : List (Nat × Nat × Nat × Nat) := [
  (1, 2, 100, 3),
  (1, 1, 1, 2),
  (1, 1, 1, 2),
  (1, 1, 1, 2),
  (1, 1, 1, 3),
  (0, 1, 1000, 0),
  (0, 1, 1000, 0),
  (0, 1, 1000, 0),
  (0, 1, 1000, 0),
  (1, 1, 1000000, 0),
  (1, 4, 1000, 1),
  (1, 4, 1000000, 1),
  (1, 8, 1000, 1),
  (1, 1, 1, 2),
  (1, 1, 1, 0),
  (1, 3, 1000000, 0),
  (1, 1, 1, 0),
  (1, 10, 60000000, 0),
  (1, 3, 60000000, 0),
  (1, 16, 60000000, 0)]

/-- The built-in thermistor table: entry i is the temperature in 1/256 °C at CODE 128 × i of a 10 kΩ NTC with
B25/85 = 3435 K against 10 kΩ, rounded to nearest and saturated (R415). DEDUCED: log entry 6. -/
def thermistorTable : List Nat := [0x7fff, 0x7fff, 0x749e, 0x621b, 0x5597, 0x4c20, 0x447b, 0x3e09, 0x386d, 0x336f, 0x2ee7, 0x2abb, 0x26d5, 0x2328, 0x1fa6, 0x1c46, 0x1900, 0x15cc, 0x12a3, 0xf7e, 0xc57, 0x928, 0x5e7, 0x28c, 0xff0b, 0xfb56, 0xf756, 0xf2ee, 0xedeb, 0xe7f3, 0xe042, 0xd48a, 0x8000]

/-- Reset words that differ along a register array: event sources (R338), tamper sources (R397), TDC lanes and
dividers (chapter 04, Registers), thermistor tables (R415), T0's state (chapter 11, Registers). -/
def specialReset (a : Nat) : Option Nat :=
  if 0x40004100 ≤ a ∧ a < 0x40004380 then
    let k := (a - 0x40004100) / 4
    if eventReserved k then some 0
    else some ((if k = 0 ∨ k = 1 ∨ k = 6 ∨ k = 96 then 0x80000000 else 0) + eventLevels.getD k 0 * 0x100)
  else if 0x40007080 ≤ a ∧ a < 0x40007120 then
    let t := tamperDefaults.getD ((a - 0x40007080) / 8) (0, 0, 0, 0)
    if a % 8 = 0 then some (t.1 * 0x80000000 + t.2.2.2 * 0x1000000 + t.2.1) else some t.2.2.1
  else if 0x41000180 ≤ a ∧ a < 0x41000200 ∧ a % 16 = 0 then
    let n := (a - 0x41000180) / 16
    some ((n - 4) * 0x1000000 + [1, 1, 1, 10000].getD n 390625)
  else if 0x4000A200 ≤ a ∧ a < 0x4000A308 then
    some (thermistorTable.getD ((a - 0x4000A200) / 4 % 33) 0)
  else if a = 0x40005108 then some 0xE9
  else if 0x40005108 < a ∧ a < 0x40005200 ∧ a % 32 = 8 then some 0xE8
  else none

/-- The value a register holds after a reset that reaches its block, where the tables give it (R91). -/
def resetWord (a : Nat) : Word :=
  match specialReset a with
  | some n => BitVec.ofNat 32 n
  | none =>
    match regDescAt a with
    | some (_, r) => BitVec.ofNat 32 r.resetWord
    | none => 0

end Sys2Proof.Machine
end

