-- ==== Sys2Proof/Machine/RegNames.lean ====
section
/-! DEFINITION. Names of the registers (addresses), fields and counters of the spec that the meanings use, at the
addresses and bits of the chapters' Registers sections. -/

namespace Sys2Proof.Machine

/-- A field of a register: the register's address and the bits [hi:lo]. -/
structure Fld where
  addr : Nat
  hi : Nat
  lo : Nat
deriving DecidableEq, Repr

/-- A counter: its register, its overflow flag if it has one, and whether it saturates (R84). -/
structure Ctr where
  addr : Nat
  ovf : Option Fld
  sat : Bool
deriving DecidableEq, Repr

/-- PWR_STATE0, R479. -/
def R.PWR_STATE0 : Nat := 0x40000000
/-- PWR_STATE1, R479. -/
def R.PWR_STATE1 : Nat := 0x40000004
/-- PWR_REQ, R482. -/
def R.PWR_REQ : Nat := 0x40000008
/-- PWR_RESULT, R483. -/
def R.PWR_RESULT : Nat := 0x4000000c
/-- PWR_QUEUE, R482. -/
def R.PWR_QUEUE : Nat := 0x40000010
/-- PWR_BOOTSET, R487. -/
def R.PWR_BOOTSET : Nat := 0x40000014
def R.PWR_BOOTSET_SET : Fld := ⟨R.PWR_BOOTSET, 23, 0⟩
/-- PWR_SWITCHES, R483. -/
def R.PWR_SWITCHES : Nat := 0x40000100
/-- PWR_REFUSED, R483. -/
def R.PWR_REFUSED : Nat := 0x40000104
/-- RST_SYSRST, R500. -/
def R.RST_SYSRST : Nat := 0x40001004
/-- RST_REMAP, R60. -/
def R.RST_REMAP : Nat := 0x40001008
def R.RST_REMAP_REMAP : Fld := ⟨R.RST_REMAP, 0, 0⟩
/-- RST_CFG, R500. -/
def R.RST_CFG : Nat := 0x4000100c
def R.RST_CFG_OUTEXT : Fld := ⟨R.RST_CFG, 15, 8⟩
def R.RST_CFG_KEEP_TIMING : Fld := ⟨R.RST_CFG, 1, 1⟩
def R.RST_CFG_DF_POL : Fld := ⟨R.RST_CFG, 0, 0⟩
/-- RST_STAT, R496. -/
def R.RST_STAT : Nat := 0x40001010
def R.RST_STAT_STUCK : Fld := ⟨R.RST_STAT, 31, 31⟩
def R.RST_STAT_PIN_ARMED : Fld := ⟨R.RST_STAT, 30, 30⟩
def R.RST_STAT_PIN_LOW : Fld := ⟨R.RST_STAT, 29, 29⟩
def R.RST_STAT_RTC_LOST : Fld := ⟨R.RST_STAT, 28, 28⟩
def R.RST_STAT_CORE_WAIT : Fld := ⟨R.RST_STAT, 27, 27⟩
def R.RST_STAT_RSTPOL : Fld := ⟨R.RST_STAT, 26, 26⟩
def R.RST_STAT_SLOW_FB : Fld := ⟨R.RST_STAT, 25, 25⟩
/-- RST_CAUSE, R502. -/
def R.RST_CAUSE : Nat := 0x40001014
/-- RST_LAST, R502. -/
def R.RST_LAST : Nat := 0x40001018
/-- RST_COUNT, R502. -/
def R.RST_COUNT : Nat := 0x4000101c
/-- RST_BOOT, R515. -/
def R.RST_BOOT : Nat := 0x40001020
def R.RST_BOOT_USED : Fld := ⟨R.RST_BOOT, 31, 28⟩
def R.RST_BOOT_RESULT_A : Fld := ⟨R.RST_BOOT, 27, 24⟩
def R.RST_BOOT_RESULT_B : Fld := ⟨R.RST_BOOT, 23, 20⟩
def R.RST_BOOT_AUTH : Fld := ⟨R.RST_BOOT, 16, 16⟩
def R.RST_BOOT_WAIT_NQ : Fld := ⟨R.RST_BOOT, 0, 0⟩
/-- RST_WDOG_CFG, R505. -/
def R.RST_WDOG_CFG : Nat := 0x40001030
def R.RST_WDOG_CFG_EN : Fld := ⟨R.RST_WDOG_CFG, 31, 31⟩
def R.RST_WDOG_CFG_TIMEOUT : Fld := ⟨R.RST_WDOG_CFG, 7, 0⟩
/-- RST_WDOG_KICK, R505. -/
def R.RST_WDOG_KICK : Nat := 0x40001034
/-- RST_WDOG_LEFT, R505. -/
def R.RST_WDOG_LEFT : Nat := 0x40001038
/-- IC_DECLOG0, R364. -/
def R.IC_DECLOG0 : Nat := 0x40003010
/-- IC_DECLOG1, R364. -/
def R.IC_DECLOG1 : Nat := 0x40003014
/-- IC_UNAVLOG0, R364. -/
def R.IC_UNAVLOG0 : Nat := 0x40003018
/-- IC_UNAVLOG1, R364. -/
def R.IC_UNAVLOG1 : Nat := 0x4000301c
/-- IC_LOCKLOG0, R361. -/
def R.IC_LOCKLOG0 : Nat := 0x40003020
/-- IC_LOCKLOG1, R361. -/
def R.IC_LOCKLOG1 : Nat := 0x40003024
/-- IC_INTLOG0, R363. -/
def R.IC_INTLOG0 : Nat := 0x40003028
/-- IC_INTLOG1, R363. -/
def R.IC_INTLOG1 : Nat := 0x4000302c
/-- IC_DECCNT, R364. -/
def R.IC_DECCNT : Nat := 0x40003100
/-- IC_UNAVCNT, R364. -/
def R.IC_UNAVCNT : Nat := 0x40003104
/-- IC_LOCKREL, R361. -/
def R.IC_LOCKREL : Nat := 0x40003108
/-- IC_INTCOR, R363. -/
def R.IC_INTCOR : Nat := 0x4000310c
/-- IC_INTUNC, R363. -/
def R.IC_INTUNC : Nat := 0x40003110
/-- EVT_PEND, R333. -/
def R.EVT_PEND (i : Nat) : Nat := 0x40004000 + 0x4 * i
/-- EVT_TOP, R334. -/
def R.EVT_TOP (i : Nat) : Nat := 0x40004020 + 0x4 * i
/-- EVT_SLVL, R326. -/
def R.EVT_SLVL : Nat := 0x40004040
/-- EVT_SWSET, R337. -/
def R.EVT_SWSET : Nat := 0x40004044
/-- EVT_DFLOG0, R327. -/
def R.EVT_DFLOG0 : Nat := 0x40004050
def R.EVT_DFLOG0_VALID : Fld := ⟨R.EVT_DFLOG0, 31, 31⟩
def R.EVT_DFLOG0_MULTI : Fld := ⟨R.EVT_DFLOG0, 30, 30⟩
def R.EVT_DFLOG0_ESC : Fld := ⟨R.EVT_DFLOG0, 29, 29⟩
def R.EVT_DFLOG0_THREAD : Fld := ⟨R.EVT_DFLOG0, 10, 8⟩
/-- EVT_DFLOG1, R327. -/
def R.EVT_DFLOG1 : Nat := 0x40004054
/-- EVT_DFLOG2, R327. -/
def R.EVT_DFLOG2 : Nat := 0x40004058
/-- EVT_DFLOG3, R327. -/
def R.EVT_DFLOG3 : Nat := 0x4000405c
/-- EVT_IMPLOG0, R320. -/
def R.EVT_IMPLOG0 : Nat := 0x40004060
def R.EVT_IMPLOG0_VALID : Fld := ⟨R.EVT_IMPLOG0, 31, 31⟩
def R.EVT_IMPLOG0_MULTI : Fld := ⟨R.EVT_IMPLOG0, 30, 30⟩
def R.EVT_IMPLOG0_MASTER : Fld := ⟨R.EVT_IMPLOG0, 22, 20⟩
def R.EVT_IMPLOG0_THREAD : Fld := ⟨R.EVT_IMPLOG0, 18, 16⟩
/-- EVT_IMPLOG1, R320. -/
def R.EVT_IMPLOG1 : Nat := 0x40004064
/-- EVT_AWSTAT, R331. -/
def R.EVT_AWSTAT : Nat := 0x40004068
/-- EVT_DFCNT, R327. -/
def R.EVT_DFCNT : Nat := 0x40004080
/-- EVT_AWCNT, R331. -/
def R.EVT_AWCNT : Nat := 0x40004084
/-- EVT_IMPCNT, R320. -/
def R.EVT_IMPCNT : Nat := 0x40004088
/-- EVT_L7REDIR, R336. -/
def R.EVT_L7REDIR : Nat := 0x4000408c
/-- EVT_SRC, R333. -/
def R.EVT_SRC (i : Nat) : Nat := 0x40004100 + 0x4 * i
def R.EVT_SRC_EN (i : Nat) : Fld := ⟨R.EVT_SRC i, 31, 31⟩
def R.EVT_SRC_LEVEL (i : Nat) : Fld := ⟨R.EVT_SRC i, 10, 8⟩
def R.EVT_SRC_TGT (i : Nat) : Fld := ⟨R.EVT_SRC i, 2, 0⟩
/-- HZ_CTRL, R293. -/
def R.HZ_CTRL : Nat := 0x40005000
def R.HZ_CTRL_DOZE1 : Fld := ⟨R.HZ_CTRL, 1, 1⟩
def R.HZ_CTRL_DOZE0 : Fld := ⟨R.HZ_CTRL, 0, 0⟩
/-- HZ_CSTAT, R293. -/
def R.HZ_CSTAT : Nat := 0x40005004
/-- HZ_TCTRL, R291. -/
def R.HZ_TCTRL (i : Nat) : Nat := 0x40005100 + 0x20 * i
def R.HZ_TCTRL_START (i : Nat) : Fld := ⟨R.HZ_TCTRL i, 31, 31⟩
def R.HZ_TCTRL_STOP (i : Nat) : Fld := ⟨R.HZ_TCTRL i, 30, 30⟩
def R.HZ_TCTRL_TSIG (i : Nat) : Fld := ⟨R.HZ_TCTRL i, 7, 0⟩
/-- HZ_TPC, R291. -/
def R.HZ_TPC (i : Nat) : Nat := 0x40005104 + 0x20 * i
/-- HZ_TSTAT, R288. -/
def R.HZ_TSTAT (i : Nat) : Nat := 0x40005108 + 0x20 * i
def R.HZ_TSTAT_START_REJ (i : Nat) : Fld := ⟨R.HZ_TSTAT i, 8, 8⟩
/-- HZ_TSIG, R308. -/
def R.HZ_TSIG (i : Nat) : Nat := 0x4000510c + 0x20 * i
/-- HZ_TWAKE, R306. -/
def R.HZ_TWAKE (i : Nat) : Nat := 0x40005110 + 0x20 * i
/-- HZ_TWST, R299. -/
def R.HZ_TWST (i : Nat) : Nat := 0x40005114 + 0x20 * i
/-- HZ_TPCS, R288. -/
def R.HZ_TPCS (i : Nat) : Nat := 0x40005118 + 0x20 * i
/-- HZ_TWSP, R298. -/
def R.HZ_TWSP (i : Nat) : Nat := 0x4000511c + 0x20 * i
/-- HZ_RGN_BASE, R303. -/
def R.HZ_RGN_BASE (i : Nat) : Nat := 0x40005200 + 0x10 * i
def R.HZ_RGN_BASE_BASE (i : Nat) : Fld := ⟨R.HZ_RGN_BASE i, 31, 6⟩
/-- HZ_RGN_LIMIT, R303. -/
def R.HZ_RGN_LIMIT (i : Nat) : Nat := 0x40005204 + 0x10 * i
def R.HZ_RGN_LIMIT_LIMIT (i : Nat) : Fld := ⟨R.HZ_RGN_LIMIT i, 31, 6⟩
/-- HZ_RGN_ATTR, R303. -/
def R.HZ_RGN_ATTR (i : Nat) : Nat := 0x40005208 + 0x10 * i
def R.HZ_RGN_ATTR_EN (i : Nat) : Fld := ⟨R.HZ_RGN_ATTR i, 6, 6⟩
def R.HZ_RGN_ATTR_DEV (i : Nat) : Fld := ⟨R.HZ_RGN_ATTR i, 5, 5⟩
def R.HZ_RGN_ATTR_C (i : Nat) : Fld := ⟨R.HZ_RGN_ATTR i, 4, 4⟩
def R.HZ_RGN_ATTR_XW (i : Nat) : Fld := ⟨R.HZ_RGN_ATTR i, 3, 3⟩
def R.HZ_RGN_ATTR_TX (i : Nat) : Fld := ⟨R.HZ_RGN_ATTR i, 2, 2⟩
def R.HZ_RGN_ATTR_TW (i : Nat) : Fld := ⟨R.HZ_RGN_ATTR i, 1, 1⟩
def R.HZ_RGN_ATTR_TR (i : Nat) : Fld := ⟨R.HZ_RGN_ATTR i, 0, 0⟩
/-- HZ_C0_DCOR, R313. -/
def R.HZ_C0_DCOR : Nat := 0x40005300
/-- HZ_C0_DUNC, R313. -/
def R.HZ_C0_DUNC : Nat := 0x40005304
/-- HZ_C0_IPAR, R313. -/
def R.HZ_C0_IPAR : Nat := 0x40005308
/-- HZ_C1_DCOR, R313. -/
def R.HZ_C1_DCOR : Nat := 0x4000530c
/-- HZ_C1_DUNC, R313. -/
def R.HZ_C1_DUNC : Nat := 0x40005310
/-- HZ_C1_IPAR, R313. -/
def R.HZ_C1_IPAR : Nat := 0x40005314
/-- HZ_SIGLOST, R308. -/
def R.HZ_SIGLOST : Nat := 0x40005318
/-- TRC_CTRL, R342. -/
def R.TRC_CTRL : Nat := 0x40006000
def R.TRC_CTRL_CLEAR : Fld := ⟨R.TRC_CTRL, 16, 16⟩
def R.TRC_CTRL_SYNCPER : Fld := ⟨R.TRC_CTRL, 11, 8⟩
def R.TRC_CTRL_C1EN : Fld := ⟨R.TRC_CTRL, 4, 4⟩
def R.TRC_CTRL_C0EN : Fld := ⟨R.TRC_CTRL, 3, 3⟩
def R.TRC_CTRL_MODE : Fld := ⟨R.TRC_CTRL, 2, 1⟩
def R.TRC_CTRL_EN : Fld := ⟨R.TRC_CTRL, 0, 0⟩
/-- TRC_STAT, R342. -/
def R.TRC_STAT : Nat := 0x40006004
def R.TRC_STAT_LOCKOUT : Fld := ⟨R.TRC_STAT, 6, 6⟩
def R.TRC_STAT_LEVEL : Fld := ⟨R.TRC_STAT, 5, 4⟩
def R.TRC_STAT_FULL : Fld := ⟨R.TRC_STAT, 0, 0⟩
/-- TRC_WPTR, R341. -/
def R.TRC_WPTR : Nat := 0x40006008
/-- TRC_RDADDR, R341. -/
def R.TRC_RDADDR : Nat := 0x4000600c
/-- TRC_RDDATA, R341. -/
def R.TRC_RDDATA : Nat := 0x40006010
/-- TRC_DBASE, R342. -/
def R.TRC_DBASE : Nat := 0x40006014
/-- TRC_DSIZE, R342. -/
def R.TRC_DSIZE : Nat := 0x40006018
def R.TRC_DSIZE_SIZE : Fld := ⟨R.TRC_DSIZE, 4, 0⟩
/-- TRC_DWPTR, R342. -/
def R.TRC_DWPTR : Nat := 0x4000601c
/-- TRC_DRPTR, R342. -/
def R.TRC_DRPTR : Nat := 0x40006020
/-- TRC_LOST, R343. -/
def R.TRC_LOST : Nat := 0x40006024
/-- TMP_STAT, R406. -/
def R.TMP_STAT : Nat := 0x40007004
def R.TMP_STAT_LOAD_FAIL : Fld := ⟨R.TMP_STAT, 5, 5⟩
def R.TMP_STAT_PERSIST_DEFER : Fld := ⟨R.TMP_STAT, 4, 4⟩
def R.TMP_STAT_PERSIST_FAIL : Fld := ⟨R.TMP_STAT, 3, 3⟩
def R.TMP_STAT_WIPED : Fld := ⟨R.TMP_STAT, 2, 2⟩
/-- TMP_LAST, R398. -/
def R.TMP_LAST : Nat := 0x40007008
/-- TMP_LOGSEL, R405. -/
def R.TMP_LOGSEL : Nat := 0x4000700c
def R.TMP_LOGSEL_SEL : Fld := ⟨R.TMP_LOGSEL, 6, 0⟩
/-- TMP_LOGE, R405. -/
def R.TMP_LOGE (i : Nat) : Nat := 0x40007010 + 0x4 * i
/-- TMP_LOGCLR, R406. -/
def R.TMP_LOGCLR : Nat := 0x40007020
def R.TMP_LOGCLR_CLEAR : Fld := ⟨R.TMP_LOGCLR, 0, 0⟩
/-- TMP_LOOPSTAT, R404. -/
def R.TMP_LOOPSTAT : Nat := 0x40007024
/-- TMP_LOOP_CFG, R404. -/
def R.TMP_LOOP_CFG (i : Nat) : Nat := 0x40007030 + 0x4 * i
/-- TMP_LOGLOST, R406. -/
def R.TMP_LOGLOST : Nat := 0x40007040
/-- TMP_TRIPS, R398. -/
def R.TMP_TRIPS : Nat := 0x40007044
/-- TMP_SRC_RESP, R397. -/
def R.TMP_SRC_RESP (i : Nat) : Nat := 0x40007080 + 0x8 * i
def R.TMP_SRC_RESP_EN (i : Nat) : Fld := ⟨R.TMP_SRC_RESP i, 31, 31⟩
def R.TMP_SRC_RESP_CLASS (i : Nat) : Fld := ⟨R.TMP_SRC_RESP i, 25, 24⟩
def R.TMP_SRC_RESP_N (i : Nat) : Fld := ⟨R.TMP_SRC_RESP i, 7, 0⟩
/-- TMP_SRC_WIN, R397. -/
def R.TMP_SRC_WIN (i : Nat) : Nat := 0x40007084 + 0x8 * i
def R.TMP_SRC_WIN_W (i : Nat) : Fld := ⟨R.TMP_SRC_WIN i, 25, 0⟩
/-- TMP_HIT, R397. -/
def R.TMP_HIT (i : Nat) : Nat := 0x40007340 + 0x4 * i
/-- TMP_LOCK, R83. -/
def R.TMP_LOCK : Nat := 0x400073f0
def R.TMP_LOCK_LOCK : Fld := ⟨R.TMP_LOCK, 0, 0⟩
/-- TRN_CTRL, R376. -/
def R.TRN_CTRL : Nat := 0x40008000
def R.TRN_CTRL_RAWTAP : Fld := ⟨R.TRN_CTRL, 8, 8⟩
def R.TRN_CTRL_PR : Fld := ⟨R.TRN_CTRL, 1, 1⟩
def R.TRN_CTRL_RETRY : Fld := ⟨R.TRN_CTRL, 0, 0⟩
/-- TRN_STAT, R373. -/
def R.TRN_STAT : Nat := 0x40008004
def R.TRN_STAT_HALT : Fld := ⟨R.TRN_STAT, 31, 31⟩
def R.TRN_STAT_EST_OUT : Fld := ⟨R.TRN_STAT, 7, 7⟩
def R.TRN_STAT_EST_VALID : Fld := ⟨R.TRN_STAT, 6, 6⟩
def R.TRN_STAT_DRBG_OK : Fld := ⟨R.TRN_STAT, 3, 3⟩
def R.TRN_STAT_STARTUP_OK : Fld := ⟨R.TRN_STAT, 2, 2⟩
def R.TRN_STAT_LOCKED : Fld := ⟨R.TRN_STAT, 1, 1⟩
def R.TRN_STAT_DEAD : Fld := ⟨R.TRN_STAT, 0, 0⟩
/-- TRN_RAND, R380. -/
def R.TRN_RAND : Nat := 0x40008008
/-- TRN_RAW, R381. -/
def R.TRN_RAW : Nat := 0x4000800c
/-- TRN_BIAS, R377. -/
def R.TRN_BIAS : Nat := 0x40008010
/-- TRN_CORR, R377. -/
def R.TRN_CORR : Nat := 0x40008014
/-- TRN_LIM, R377. -/
def R.TRN_LIM : Nat := 0x40008018
def R.TRN_LIM_CORR_LIM : Fld := ⟨R.TRN_LIM, 31, 16⟩
def R.TRN_LIM_BIAS_LIM : Fld := ⟨R.TRN_LIM, 15, 0⟩
/-- TRN_RSINT, R379. -/
def R.TRN_RSINT : Nat := 0x40008020
def R.TRN_RSINT_RSINT : Fld := ⟨R.TRN_RSINT, 19, 0⟩
/-- TRN_FREQ, R373. -/
def R.TRN_FREQ : Nat := 0x40008024
/-- TRN_RCTFAIL, R374. -/
def R.TRN_RCTFAIL : Nat := 0x40008100
/-- TRN_APTFAIL, R374. -/
def R.TRN_APTFAIL : Nat := 0x40008104
/-- TRN_UNDER, R380. -/
def R.TRN_UNDER : Nat := 0x40008108
/-- NVS_CMD, R384. -/
def R.NVS_CMD : Nat := 0x40009000
/-- NVS_STAT, R385. -/
def R.NVS_STAT : Nat := 0x40009004
def R.NVS_STAT_BUSY : Fld := ⟨R.NVS_STAT, 31, 31⟩
def R.NVS_STAT_ROT : Fld := ⟨R.NVS_STAT, 30, 30⟩
def R.NVS_STAT_ROTPAGE : Fld := ⟨R.NVS_STAT, 23, 16⟩
def R.NVS_STAT_RESULT : Fld := ⟨R.NVS_STAT, 3, 0⟩
/-- NVS_BUFADDR, R384. -/
def R.NVS_BUFADDR : Nat := 0x40009008
def R.NVS_BUFADDR_ADDR : Fld := ⟨R.NVS_BUFADDR, 9, 2⟩
/-- NVS_BUFDATA, R384. -/
def R.NVS_BUFDATA : Nat := 0x4000900c
/-- NVS_SPARES, R387. -/
def R.NVS_SPARES : Nat := 0x40009010
/-- NVS_PGSEL, R384. -/
def R.NVS_PGSEL : Nat := 0x40009014
def R.NVS_PGSEL_PAGE : Fld := ⟨R.NVS_PGSEL, 7, 0⟩
/-- NVS_PGINFO, R387. -/
def R.NVS_PGINFO : Nat := 0x40009018
/-- NVS_EXHCNT, R389. -/
def R.NVS_EXHCNT : Nat := 0x4000901c
/-- NVS_CFG, R383. -/
def R.NVS_CFG : Nat := 0x40009020
def R.NVS_CFG_BOOTWE : Fld := ⟨R.NVS_CFG, 0, 0⟩
/-- NVS_RKSTAT, R391. -/
def R.NVS_RKSTAT : Nat := 0x40009024
/-- NVS_MC, R393. -/
def R.NVS_MC (i : Nat) : Nat := 0x40009040 + 0x4 * i
/-- NVS_MCEXH, R394. -/
def R.NVS_MCEXH : Nat := 0x400090c0
/-- NVS_RKSTG, R392. -/
def R.NVS_RKSTG (i : Nat) : Nat := 0x40009100 + 0x4 * i
/-- NVS_WRITES, R385. -/
def R.NVS_WRITES : Nat := 0x40009200
/-- NVS_REFUSED, R385. -/
def R.NVS_REFUSED : Nat := 0x40009204
/-- NVS_INTERR, R382. -/
def R.NVS_INTERR : Nat := 0x40009208
/-- HK_CTRL, R411. -/
def R.HK_CTRL : Nat := 0x4000a000
def R.HK_CTRL_SCAP_SRC : Fld := ⟨R.HK_CTRL, 2, 2⟩
def R.HK_CTRL_CRIT_ACT : Fld := ⟨R.HK_CTRL, 1, 1⟩
def R.HK_CTRL_EN : Fld := ⟨R.HK_CTRL, 0, 0⟩
/-- HK_PERIOD, R412. -/
def R.HK_PERIOD : Nat := 0x4000a004
def R.HK_PERIOD_US : Fld := ⟨R.HK_PERIOD, 15, 0⟩
/-- HK_STAT, R423. -/
def R.HK_STAT : Nat := 0x4000a008
def R.HK_STAT_BAND : Fld := ⟨R.HK_STAT, 31, 30⟩
def R.HK_STAT_BAND_VALID : Fld := ⟨R.HK_STAT, 29, 29⟩
def R.HK_STAT_CAL_BUSY : Fld := ⟨R.HK_STAT, 27, 27⟩
def R.HK_STAT_SCAP_CHG : Fld := ⟨R.HK_STAT, 26, 26⟩
def R.HK_STAT_DISAGREE : Fld := ⟨R.HK_STAT, 25, 25⟩
/-- HK_FG, R419. -/
def R.HK_FG : Nat := 0x4000a010
def R.HK_FG_GO : Fld := ⟨R.HK_FG, 15, 15⟩
def R.HK_FG_BUSY : Fld := ⟨R.HK_FG, 14, 14⟩
def R.HK_FG_REJ : Fld := ⟨R.HK_FG, 13, 13⟩
def R.HK_FG_CH : Fld := ⟨R.HK_FG, 4, 0⟩
/-- HK_FGRES, R419. -/
def R.HK_FGRES : Nat := 0x4000a014
/-- HK_TCRIT, R427. -/
def R.HK_TCRIT : Nat := 0x4000a018
def R.HK_TCRIT_TCRIT : Fld := ⟨R.HK_TCRIT, 7, 0⟩
/-- HK_DISAGREE, R422. -/
def R.HK_DISAGREE : Nat := 0x4000a01c
def R.HK_DISAGREE_K : Fld := ⟨R.HK_DISAGREE, 7, 0⟩
/-- HK_CAL, R420. -/
def R.HK_CAL : Nat := 0x4000a020
/-- HK_JUNC, R422. -/
def R.HK_JUNC : Nat := 0x4000a024
def R.HK_JUNC_TJ : Fld := ⟨R.HK_JUNC, 15, 0⟩
/-- HK_ROR, R428. -/
def R.HK_ROR (i : Nat) : Nat := 0x4000a040 + 0x4 * i
def R.HK_ROR_EN (i : Nat) : Fld := ⟨R.HK_ROR i, 15, 15⟩
def R.HK_ROR_LIMIT (i : Nat) : Fld := ⟨R.HK_ROR i, 7, 0⟩
/-- HK_RORSTAT, R428. -/
def R.HK_RORSTAT : Nat := 0x4000a060
/-- HK_SUP_LO, R429. -/
def R.HK_SUP_LO (i : Nat) : Nat := 0x4000a080 + 0x8 * i
def R.HK_SUP_LO_CODE (i : Nat) : Fld := ⟨R.HK_SUP_LO i, 11, 0⟩
/-- HK_SUP_HI, R429. -/
def R.HK_SUP_HI (i : Nat) : Nat := 0x4000a084 + 0x8 * i
def R.HK_SUP_HI_CODE (i : Nat) : Fld := ⟨R.HK_SUP_HI i, 11, 0⟩
/-- HK_SUPSTAT, R429. -/
def R.HK_SUPSTAT : Nat := 0x4000a0e0
/-- HK_AINSTAT, R430. -/
def R.HK_AINSTAT : Nat := 0x4000a0e4
/-- HK_AIN_THR, R430. -/
def R.HK_AIN_THR (i : Nat) : Nat := 0x4000a0f0 + 0x4 * i
def R.HK_AIN_THR_EN (i : Nat) : Fld := ⟨R.HK_AIN_THR i, 15, 15⟩
def R.HK_AIN_THR_DIR (i : Nat) : Fld := ⟨R.HK_AIN_THR i, 14, 14⟩
def R.HK_AIN_THR_THR (i : Nat) : Fld := ⟨R.HK_AIN_THR i, 11, 0⟩
/-- HK_CH, R414. -/
def R.HK_CH (i : Nat) : Nat := 0x4000a100 + 0x4 * i
def R.HK_CH_VALUE (i : Nat) : Fld := ⟨R.HK_CH i, 31, 16⟩
/-- HK_ROUNDS, R411. -/
def R.HK_ROUNDS : Nat := 0x4000a180
/-- HK_RANGECNT, R416. -/
def R.HK_RANGECNT : Nat := 0x4000a184
/-- HK_SUSPCNT, R417. -/
def R.HK_SUSPCNT : Nat := 0x4000a188
/-- HK_CALDEFER, R420. -/
def R.HK_CALDEFER : Nat := 0x4000a18c
/-- HK_CALFORCED, R420. -/
def R.HK_CALFORCED : Nat := 0x4000a190
/-- HK_FGCNT, R419. -/
def R.HK_FGCNT : Nat := 0x4000a194
/-- HK_THTAB, R415. -/
def R.HK_THTAB (i : Nat) : Nat := 0x4000a200 + 0x4 * i
/-- NQ_CTRL, R58. -/
def R.NQ_CTRL : Nat := 0x4000b000
def R.NQ_CTRL_FW_READY : Fld := ⟨R.NQ_CTRL, 0, 0⟩
/-- NQ_DLG_BASE, R56. -/
def R.NQ_DLG_BASE : Nat := 0x4000b004
def R.NQ_DLG_BASE_BASE : Fld := ⟨R.NQ_DLG_BASE, 31, 9⟩
/-- NQ_DLG_HEAD, R56. -/
def R.NQ_DLG_HEAD : Nat := 0x4000b008
def R.NQ_DLG_HEAD_HEAD : Fld := ⟨R.NQ_DLG_HEAD, 2, 0⟩
/-- NQ_DLG_TAIL, R57. -/
def R.NQ_DLG_TAIL : Nat := 0x4000b00c
def R.NQ_DLG_TAIL_TAIL : Fld := ⟨R.NQ_DLG_TAIL, 2, 0⟩
/-- NQ_STAT, R34. -/
def R.NQ_STAT : Nat := 0x4000b010
def R.NQ_STAT_BKL_FULL : Fld := ⟨R.NQ_STAT, 10, 10⟩
def R.NQ_STAT_DLG_TIMEOUT : Fld := ⟨R.NQ_STAT, 9, 9⟩
def R.NQ_STAT_RX_OVF : Fld := ⟨R.NQ_STAT, 8, 8⟩
/-- NQ_LATE, R54. -/
def R.NQ_LATE : Nat := 0x4000b020
/-- NQ_AUTHFAIL, R44. -/
def R.NQ_AUTHFAIL : Nat := 0x4000b024
/-- NQ_BKLOST, R55. -/
def R.NQ_BKLOST : Nat := 0x4000b028
/-- IDC_CTRL, R458. -/
def R.IDC_CTRL : Nat := 0x4000c000
def R.IDC_CTRL_ACT : Fld := ⟨R.IDC_CTRL, 15, 15⟩
def R.IDC_CTRL_DEACT : Fld := ⟨R.IDC_CTRL, 14, 14⟩
def R.IDC_CTRL_WARM : Fld := ⟨R.IDC_CTRL, 13, 13⟩
def R.IDC_CTRL_GO : Fld := ⟨R.IDC_CTRL, 12, 12⟩
/-- IDC_CFG, R457. -/
def R.IDC_CFG : Nat := 0x4000c004
def R.IDC_CFG_CLASSEN : Fld := ⟨R.IDC_CFG, 14, 12⟩
def R.IDC_CFG_REP : Fld := ⟨R.IDC_CFG, 10, 8⟩
def R.IDC_CFG_PPS_EN : Fld := ⟨R.IDC_CFG, 7, 7⟩
def R.IDC_CFG_DMAX : Fld := ⟨R.IDC_CFG, 6, 4⟩
def R.IDC_CFG_T : Fld := ⟨R.IDC_CFG, 0, 0⟩
/-- IDC_CLKDIV, R457. -/
def R.IDC_CLKDIV : Nat := 0x4000c008
def R.IDC_CLKDIV_DIV : Fld := ⟨R.IDC_CLKDIV, 9, 0⟩
/-- IDC_VWAIT, R458. -/
def R.IDC_VWAIT : Nat := 0x4000c00c
def R.IDC_VWAIT_WAIT : Fld := ⟨R.IDC_VWAIT, 7, 0⟩
/-- IDC_XFER, R462. -/
def R.IDC_XFER : Nat := 0x4000c010
def R.IDC_XFER_IN : Fld := ⟨R.IDC_XFER, 15, 15⟩
def R.IDC_XFER_LEN : Fld := ⟨R.IDC_XFER, 8, 0⟩
/-- IDC_BWTX, R465. -/
def R.IDC_BWTX : Nat := 0x4000c014
/-- IDC_BUFADDR, R462. -/
def R.IDC_BUFADDR : Nat := 0x4000c018
def R.IDC_BUFADDR_RXSEL : Fld := ⟨R.IDC_BUFADDR, 15, 15⟩
def R.IDC_BUFADDR_ADDR : Fld := ⟨R.IDC_BUFADDR, 8, 1⟩
/-- IDC_BUFDATA, R462. -/
def R.IDC_BUFDATA : Nat := 0x4000c01c
/-- IDC_EVT, R455. -/
def R.IDC_EVT : Nat := 0x4000c020
def R.IDC_EVT_REMOVED : Fld := ⟨R.IDC_EVT, 6, 6⟩
def R.IDC_EVT_INSERTED : Fld := ⟨R.IDC_EVT, 5, 5⟩
def R.IDC_EVT_DONE : Fld := ⟨R.IDC_EVT, 4, 4⟩
def R.IDC_EVT_ERR : Fld := ⟨R.IDC_EVT, 3, 3⟩
/-- IDC_STAT, R455. -/
def R.IDC_STAT : Nat := 0x4000c080
def R.IDC_STAT_PRESENT : Fld := ⟨R.IDC_STAT, 31, 31⟩
def R.IDC_STAT_STATE : Fld := ⟨R.IDC_STAT, 30, 28⟩
def R.IDC_STAT_CLASS : Fld := ⟨R.IDC_STAT, 27, 26⟩
def R.IDC_STAT_CONV : Fld := ⟨R.IDC_STAT, 25, 25⟩
def R.IDC_STAT_PROTO : Fld := ⟨R.IDC_STAT, 24, 24⟩
/-- IDC_RESULT, R462. -/
def R.IDC_RESULT : Nat := 0x4000c084
def R.IDC_RESULT_RESULT : Fld := ⟨R.IDC_RESULT, 3, 0⟩
/-- IDC_PARAMS, R460. -/
def R.IDC_PARAMS : Nat := 0x4000c088
def R.IDC_PARAMS_FI : Fld := ⟨R.IDC_PARAMS, 31, 28⟩
def R.IDC_PARAMS_DI : Fld := ⟨R.IDC_PARAMS, 27, 24⟩
def R.IDC_PARAMS_N : Fld := ⟨R.IDC_PARAMS, 23, 16⟩
def R.IDC_PARAMS_BWI : Fld := ⟨R.IDC_PARAMS, 15, 12⟩
def R.IDC_PARAMS_CWI : Fld := ⟨R.IDC_PARAMS, 11, 8⟩
def R.IDC_PARAMS_WI : Fld := ⟨R.IDC_PARAMS, 7, 0⟩
/-- IDC_RXLEN, R466. -/
def R.IDC_RXLEN : Nat := 0x4000c08c
/-- IDC_ATRLEN, R459. -/
def R.IDC_ATRLEN : Nat := 0x4000c090
def R.IDC_ATRLEN_LEN : Fld := ⟨R.IDC_ATRLEN, 5, 0⟩
/-- IDC_PARCNT, R464. -/
def R.IDC_PARCNT : Nat := 0x4000c100
/-- IDC_TOCNT, R463. -/
def R.IDC_TOCNT : Nat := 0x4000c104
/-- IDC_EDCCNT, R465. -/
def R.IDC_EDCCNT : Nat := 0x4000c108
/-- IDC_ATRW, R459. -/
def R.IDC_ATRW (i : Nat) : Nat := 0x4000c200 + 0x4 * i
/-- SDH_CTRL, R470. -/
def R.SDH_CTRL : Nat := 0x4000d000
def R.SDH_CTRL_INIT : Fld := ⟨R.SDH_CTRL, 15, 15⟩
def R.SDH_CTRL_STOP : Fld := ⟨R.SDH_CTRL, 14, 14⟩
def R.SDH_CTRL_PWROFF : Fld := ⟨R.SDH_CTRL, 13, 13⟩
def R.SDH_CTRL_TUNE : Fld := ⟨R.SDH_CTRL, 12, 12⟩
def R.SDH_CTRL_GO : Fld := ⟨R.SDH_CTRL, 11, 11⟩
/-- SDH_CFG, R470. -/
def R.SDH_CFG : Nat := 0x4000d004
def R.SDH_CFG_UHS_EN : Fld := ⟨R.SDH_CFG, 4, 4⟩
def R.SDH_CFG_MAXMODE : Fld := ⟨R.SDH_CFG, 1, 0⟩
/-- SDH_ADDR_LO, R473. -/
def R.SDH_ADDR_LO : Nat := 0x4000d008
def R.SDH_ADDR_LO_ADDR : Fld := ⟨R.SDH_ADDR_LO, 15, 4⟩
/-- SDH_ADDR_HI, R473. -/
def R.SDH_ADDR_HI : Nat := 0x4000d00c
def R.SDH_ADDR_HI_ADDR : Fld := ⟨R.SDH_ADDR_HI, 15, 0⟩
/-- SDH_LBA_LO, R473. -/
def R.SDH_LBA_LO : Nat := 0x4000d010
def R.SDH_LBA_LO_LBA : Fld := ⟨R.SDH_LBA_LO, 15, 0⟩
/-- SDH_LBA_HI, R473. -/
def R.SDH_LBA_HI : Nat := 0x4000d014
def R.SDH_LBA_HI_LBA : Fld := ⟨R.SDH_LBA_HI, 15, 0⟩
/-- SDH_BLKCNT, R473. -/
def R.SDH_BLKCNT : Nat := 0x4000d018
def R.SDH_BLKCNT_CNT : Fld := ⟨R.SDH_BLKCNT, 15, 0⟩
/-- SDH_OP, R473. -/
def R.SDH_OP : Nat := 0x4000d01c
def R.SDH_OP_OP : Fld := ⟨R.SDH_OP, 15, 12⟩
def R.SDH_OP_RTYPE : Fld := ⟨R.SDH_OP, 9, 8⟩
def R.SDH_OP_CMD : Fld := ⟨R.SDH_OP, 5, 0⟩
/-- SDH_PWD, R476. -/
def R.SDH_PWD (i : Nat) : Nat := 0x4000d0c0 + 0x4 * i
/-- SDH_EVT, R455. -/
def R.SDH_EVT : Nat := 0x4000d044
def R.SDH_EVT_REMOVED : Fld := ⟨R.SDH_EVT, 5, 5⟩
def R.SDH_EVT_INSERTED : Fld := ⟨R.SDH_EVT, 4, 4⟩
def R.SDH_EVT_DONE : Fld := ⟨R.SDH_EVT, 3, 3⟩
def R.SDH_EVT_ERR : Fld := ⟨R.SDH_EVT, 2, 2⟩
/-- SDH_STAT, R470. -/
def R.SDH_STAT : Nat := 0x4000d080
def R.SDH_STAT_PRESENT : Fld := ⟨R.SDH_STAT, 31, 31⟩
def R.SDH_STAT_STATE : Fld := ⟨R.SDH_STAT, 30, 28⟩
def R.SDH_STAT_MODE : Fld := ⟨R.SDH_STAT, 26, 24⟩
def R.SDH_STAT_V18 : Fld := ⟨R.SDH_STAT, 23, 23⟩
def R.SDH_STAT_PHASE : Fld := ⟨R.SDH_STAT, 20, 16⟩
def R.SDH_STAT_RCA : Fld := ⟨R.SDH_STAT, 15, 0⟩
/-- SDH_RESULT, R470. -/
def R.SDH_RESULT : Nat := 0x4000d084
def R.SDH_RESULT_RESULT : Fld := ⟨R.SDH_RESULT, 3, 0⟩
/-- SDH_RESP, R472. -/
def R.SDH_RESP (i : Nat) : Nat := 0x4000d088 + 0x4 * i
/-- SDH_DONEBLK, R474. -/
def R.SDH_DONEBLK : Nat := 0x4000d098
/-- SDH_ERRADDR, R474. -/
def R.SDH_ERRADDR : Nat := 0x4000d09c
/-- SDH_CRCCNT, R472. -/
def R.SDH_CRCCNT : Nat := 0x4000d100
/-- SDH_TOCNT, R474. -/
def R.SDH_TOCNT : Nat := 0x4000d104
/-- SDH_CIDCSD, R470. -/
def R.SDH_CIDCSD (i : Nat) : Nat := 0x4000d200 + 0x4 * i
/-- DMC_CTRL, R437. -/
def R.DMC_CTRL : Nat := 0x4000e000
def R.DMC_CTRL_SCRUB_EN : Fld := ⟨R.DMC_CTRL, 2, 2⟩
def R.DMC_CTRL_RESTORE : Fld := ⟨R.DMC_CTRL, 1, 1⟩
def R.DMC_CTRL_INIT : Fld := ⟨R.DMC_CTRL, 0, 0⟩
/-- DMC_STAT, R437. -/
def R.DMC_STAT : Nat := 0x4000e004
def R.DMC_STAT_READY : Fld := ⟨R.DMC_STAT, 31, 31⟩
def R.DMC_STAT_TRAINING : Fld := ⟨R.DMC_STAT, 30, 30⟩
def R.DMC_STAT_FROZEN : Fld := ⟨R.DMC_STAT, 29, 29⟩
def R.DMC_STAT_PANIC : Fld := ⟨R.DMC_STAT, 28, 28⟩
def R.DMC_STAT_RESTORE_FB : Fld := ⟨R.DMC_STAT, 27, 27⟩
def R.DMC_STAT_ZQLATE : Fld := ⟨R.DMC_STAT, 26, 26⟩
def R.DMC_STAT_UNF_ERR : Fld := ⟨R.DMC_STAT, 25, 25⟩
def R.DMC_STAT_RTREG_WR : Fld := ⟨R.DMC_STAT, 24, 24⟩
def R.DMC_STAT_FAILLANE : Fld := ⟨R.DMC_STAT, 11, 8⟩
def R.DMC_STAT_FAILSTEP : Fld := ⟨R.DMC_STAT, 6, 4⟩
def R.DMC_STAT_RESULT : Fld := ⟨R.DMC_STAT, 1, 0⟩
/-- DMC_CFG, R432. -/
def R.DMC_CFG : Nat := 0x4000e008
/-- DMC_APERTURE, R434. -/
def R.DMC_APERTURE : Nat := 0x4000e00c
def R.DMC_APERTURE_BASE : Fld := ⟨R.DMC_APERTURE, 4, 0⟩
/-- DMC_PANIC, R442. -/
def R.DMC_PANIC : Nat := 0x4000e010
def R.DMC_PANIC_ON : Fld := ⟨R.DMC_PANIC, 31, 16⟩
def R.DMC_PANIC_OFF : Fld := ⟨R.DMC_PANIC, 15, 0⟩
/-- DMC_ZQINT, R445. -/
def R.DMC_ZQINT : Nat := 0x4000e018
def R.DMC_ZQINT_MS : Fld := ⟨R.DMC_ZQINT, 7, 0⟩
/-- DMC_UNFREEZE, R453. -/
def R.DMC_UNFREEZE : Nat := 0x4000e01c
/-- DMC_RTLEVEL, R441. -/
def R.DMC_RTLEVEL : Nat := 0x4000e020
/-- DMC_SNAP0, R451. -/
def R.DMC_SNAP0 : Nat := 0x4000e040
def R.DMC_SNAP0_VALID : Fld := ⟨R.DMC_SNAP0, 31, 31⟩
def R.DMC_SNAP0_MULTI : Fld := ⟨R.DMC_SNAP0, 30, 30⟩
def R.DMC_SNAP0_SOURCE : Fld := ⟨R.DMC_SNAP0, 29, 28⟩
/-- DMC_SNAP1, R451. -/
def R.DMC_SNAP1 : Nat := 0x4000e044
/-- DMC_SNAP2, R451. -/
def R.DMC_SNAP2 : Nat := 0x4000e048
/-- DMC_SNAP3, R451. -/
def R.DMC_SNAP3 : Nat := 0x4000e04c
/-- DMC_SNAP4, R451. -/
def R.DMC_SNAP4 : Nat := 0x4000e050
/-- DMC_SNAP5, R451. -/
def R.DMC_SNAP5 : Nat := 0x4000e054
/-- DMC_SNAP6, R451. -/
def R.DMC_SNAP6 : Nat := 0x4000e058
/-- DMC_SNAP7, R451. -/
def R.DMC_SNAP7 : Nat := 0x4000e05c
/-- DMC_SNAP_TR, R454. -/
def R.DMC_SNAP_TR : Nat := 0x4000e060
/-- DMC_CELOG0, R449. -/
def R.DMC_CELOG0 : Nat := 0x4000e068
def R.DMC_CELOG0_VALID : Fld := ⟨R.DMC_CELOG0, 31, 31⟩
/-- DMC_CELOG1, R449. -/
def R.DMC_CELOG1 : Nat := 0x4000e06c
/-- DMC_CECNT, R449. -/
def R.DMC_CECNT : Nat := 0x4000e100
/-- DMC_UECNT, R450. -/
def R.DMC_UECNT : Nat := 0x4000e104
/-- DMC_SCRUBPASS, R446. -/
def R.DMC_SCRUBPASS : Nat := 0x4000e108
/-- DMC_SCRUBDEF, R447. -/
def R.DMC_SCRUBDEF : Nat := 0x4000e10c
/-- DMC_SCRUBFORCED, R447. -/
def R.DMC_SCRUBFORCED : Nat := 0x4000e110
/-- DMC_PANICCNT, R442. -/
def R.DMC_PANICCNT : Nat := 0x4000e114
/-- DMC_TRAINW, R439. -/
def R.DMC_TRAINW (i : Nat) : Nat := 0x4000e800 + 0x4 * i
/-- DMA_CTRL, R366. -/
def R.DMA_CTRL : Nat := 0x4000f000
def R.DMA_CTRL_EN : Fld := ⟨R.DMA_CTRL, 0, 0⟩
/-- DMA_DONE, R369. -/
def R.DMA_DONE : Nat := 0x4000f004
/-- DMA_ERR, R369. -/
def R.DMA_ERR : Nat := 0x4000f008
/-- DMA_RSV, R366. -/
def R.DMA_RSV : Nat := 0x4000f00c
/-- DMA_STAT, R366. -/
def R.DMA_STAT : Nat := 0x4000f010
def R.DMA_STAT_PREEMPT : Fld := ⟨R.DMA_STAT, 1, 1⟩
def R.DMA_STAT_REJ : Fld := ⟨R.DMA_STAT, 0, 0⟩
/-- DMA_SRC, R367. -/
def R.DMA_SRC (i : Nat) : Nat := 0x4000f100 + 0x20 * i
/-- DMA_DST, R367. -/
def R.DMA_DST (i : Nat) : Nat := 0x4000f104 + 0x20 * i
/-- DMA_LEN, R367. -/
def R.DMA_LEN (i : Nat) : Nat := 0x4000f108 + 0x20 * i
/-- DMA_CFG, R367. -/
def R.DMA_CFG (i : Nat) : Nat := 0x4000f10c + 0x20 * i
/-- DMA_NEXT, R368. -/
def R.DMA_NEXT (i : Nat) : Nat := 0x4000f110 + 0x20 * i
/-- DMA_CSTAT, R369. -/
def R.DMA_CSTAT (i : Nat) : Nat := 0x4000f114 + 0x20 * i
def R.DMA_CSTAT_ABORTED (i : Nat) : Fld := ⟨R.DMA_CSTAT i, 30, 30⟩
def R.DMA_CSTAT_ERRKIND (i : Nat) : Fld := ⟨R.DMA_CSTAT i, 26, 24⟩
def R.DMA_CSTAT_REMAIN (i : Nat) : Fld := ⟨R.DMA_CSTAT i, 23, 0⟩
/-- DMA_ERRADDR, R369. -/
def R.DMA_ERRADDR (i : Nat) : Nat := 0x4000f118 + 0x20 * i
/-- FUS_ID, R6. -/
def R.FUS_ID : Nat := 0x40010000
def R.FUS_ID_PART : Fld := ⟨R.FUS_ID, 31, 16⟩
def R.FUS_ID_STEP : Fld := ⟨R.FUS_ID, 11, 8⟩
def R.FUS_ID_VAR : Fld := ⟨R.FUS_ID, 3, 0⟩
/-- FUS_UID_LO, R395. -/
def R.FUS_UID_LO : Nat := 0x40010004
/-- FUS_UID_HI, R395. -/
def R.FUS_UID_HI : Nat := 0x40010008
/-- FUS_MFR, R351. -/
def R.FUS_MFR : Nat := 0x4001000c
def R.FUS_MFR_MFR : Fld := ⟨R.FUS_MFR, 10, 0⟩
/-- FUS_POLICY, R396. -/
def R.FUS_POLICY : Nat := 0x40010010
def R.FUS_POLICY_DACRANGE1 : Fld := ⟨R.FUS_POLICY, 13, 13⟩
def R.FUS_POLICY_DACRANGE0 : Fld := ⟨R.FUS_POLICY, 12, 12⟩
def R.FUS_POLICY_DBGLOCK : Fld := ⟨R.FUS_POLICY, 9, 8⟩
def R.FUS_POLICY_RSTPOL : Fld := ⟨R.FUS_POLICY, 4, 4⟩
def R.FUS_POLICY_BOOTPOL : Fld := ⟨R.FUS_POLICY, 3, 0⟩
/-- FUS_DBGKEY, R349. -/
def R.FUS_DBGKEY (i : Nat) : Nat := 0x40010020 + 0x4 * i
/-- FUS_BOOTKEY, R513. -/
def R.FUS_BOOTKEY (i : Nat) : Nat := 0x40010040 + 0x4 * i
/-- FUS_STAT, R395. -/
def R.FUS_STAT : Nat := 0x40010080
def R.FUS_STAT_PGM_ERR : Fld := ⟨R.FUS_STAT, 2, 2⟩
def R.FUS_STAT_PGM_BUSY : Fld := ⟨R.FUS_STAT, 1, 1⟩
def R.FUS_STAT_MISMATCH : Fld := ⟨R.FUS_STAT, 0, 0⟩
/-- FUS_PGMDATA, R396. -/
def R.FUS_PGMDATA : Nat := 0x40010084
/-- FUS_PGM, R396. -/
def R.FUS_PGM : Nat := 0x40010088
/-- CAL_NS, R94. -/
def R.CAL_NS : Nat := 0x41000000
/-- CAL_FRAC, R94. -/
def R.CAL_FRAC : Nat := 0x41000004
/-- CAL_SEC_LO, R94. -/
def R.CAL_SEC_LO : Nat := 0x41000008
/-- CAL_SEC_HI, R94. -/
def R.CAL_SEC_HI : Nat := 0x4100000c
/-- CAL_SET_NS, R97. -/
def R.CAL_SET_NS : Nat := 0x41000010
def R.CAL_SET_NS_NS : Fld := ⟨R.CAL_SET_NS, 29, 0⟩
/-- CAL_SET_SEC_LO, R97. -/
def R.CAL_SET_SEC_LO : Nat := 0x41000014
/-- CAL_SET_SEC_HI, R97. -/
def R.CAL_SET_SEC_HI : Nat := 0x41000018
def R.CAL_SET_SEC_HI_SEC : Fld := ⟨R.CAL_SET_SEC_HI, 15, 0⟩
/-- CAL_ADJ, R97. -/
def R.CAL_ADJ : Nat := 0x41000020
/-- CAL_STEP, R97. -/
def R.CAL_STEP : Nat := 0x4100001c
def R.CAL_STEP_PEND : Fld := ⟨R.CAL_STEP, 3, 3⟩
def R.CAL_STEP_MODE : Fld := ⟨R.CAL_STEP, 2, 1⟩
def R.CAL_STEP_GO : Fld := ⟨R.CAL_STEP, 0, 0⟩
/-- CAL_RATE, R96. -/
def R.CAL_RATE : Nat := 0x41000024
/-- CAL_UTC, R99. -/
def R.CAL_UTC : Nat := 0x41000028
def R.CAL_UTC_LEAP : Fld := ⟨R.CAL_UTC, 17, 16⟩
def R.CAL_UTC_OFFSET : Fld := ⟨R.CAL_UTC, 15, 0⟩
/-- CAL_LEAP_SEC, R99. -/
def R.CAL_LEAP_SEC : Nat := 0x4100002c
/-- CAL_STAT, R118. -/
def R.CAL_STAT : Nat := 0x41000030
def R.CAL_STAT_STEP_CNT : Fld := ⟨R.CAL_STAT, 31, 24⟩
def R.CAL_STAT_SEL : Fld := ⟨R.CAL_STAT, 11, 8⟩
def R.CAL_STAT_DPLL : Fld := ⟨R.CAL_STAT, 5, 4⟩
def R.CAL_STAT_PHASE_TRACE : Fld := ⟨R.CAL_STAT, 2, 2⟩
def R.CAL_STAT_REF_LOST : Fld := ⟨R.CAL_STAT, 1, 1⟩
def R.CAL_STAT_VALID : Fld := ⟨R.CAL_STAT, 0, 0⟩
/-- CAL_DPLL, R118. -/
def R.CAL_DPLL : Nat := 0x41000040
def R.CAL_DPLL_PSL : Fld := ⟨R.CAL_DPLL, 31, 16⟩
def R.CAL_DPLL_STHR : Fld := ⟨R.CAL_DPLL, 15, 10⟩
def R.CAL_DPLL_STEP_EN : Fld := ⟨R.CAL_DPLL, 9, 9⟩
def R.CAL_DPLL_HYBRID : Fld := ⟨R.CAL_DPLL, 8, 8⟩
def R.CAL_DPLL_NONREV : Fld := ⟨R.CAL_DPLL, 7, 7⟩
def R.CAL_DPLL_STEER : Fld := ⟨R.CAL_DPLL, 6, 6⟩
def R.CAL_DPLL_MODE : Fld := ⟨R.CAL_DPLL, 1, 0⟩
/-- CAL_DPLL2, R118. -/
def R.CAL_DPLL2 : Nat := 0x41000044
def R.CAL_DPLL2_FWIN : Fld := ⟨R.CAL_DPLL2, 31, 24⟩
def R.CAL_DPLL2_WTR : Fld := ⟨R.CAL_DPLL2, 23, 12⟩
def R.CAL_DPLL2_LWIN : Fld := ⟨R.CAL_DPLL2, 11, 0⟩
/-- CAL_PHERR, R114. -/
def R.CAL_PHERR : Nat := 0x41000048
/-- CAL_FORCE, R121. -/
def R.CAL_FORCE : Nat := 0x4100004c
def R.CAL_FORCE_SRC : Fld := ⟨R.CAL_FORCE, 3, 0⟩
/-- CAL_PTPOFS, R114. -/
def R.CAL_PTPOFS : Nat := 0x41000050
/-- CAL_SRC_CFG, R114. -/
def R.CAL_SRC_CFG (i : Nat) : Nat := 0x41000080 + 0x10 * i
def R.CAL_SRC_CFG_QUAL (i : Nat) : Fld := ⟨R.CAL_SRC_CFG i, 31, 22⟩
def R.CAL_SRC_CFG_MISS (i : Nat) : Fld := ⟨R.CAL_SRC_CFG i, 21, 18⟩
def R.CAL_SRC_CFG_QL (i : Nat) : Fld := ⟨R.CAL_SRC_CFG i, 11, 8⟩
def R.CAL_SRC_CFG_PRIO (i : Nat) : Fld := ⟨R.CAL_SRC_CFG i, 7, 4⟩
def R.CAL_SRC_CFG_EN (i : Nat) : Fld := ⟨R.CAL_SRC_CFG i, 0, 0⟩
/-- CAL_SRC_DLY, R114. -/
def R.CAL_SRC_DLY (i : Nat) : Nat := 0x41000084 + 0x10 * i
def R.CAL_SRC_DLY_DLY (i : Nat) : Fld := ⟨R.CAL_SRC_DLY i, 31, 0⟩
/-- CAL_SRC_STAT, R115. -/
def R.CAL_SRC_STAT (i : Nat) : Nat := 0x41000088 + 0x10 * i
def R.CAL_SRC_STAT_SELECTED (i : Nat) : Fld := ⟨R.CAL_SRC_STAT i, 1, 1⟩
def R.CAL_SRC_STAT_QUALIFIED (i : Nat) : Fld := ⟨R.CAL_SRC_STAT i, 0, 0⟩
/-- CAL_TDC_CFG, R101. -/
def R.CAL_TDC_CFG (i : Nat) : Nat := 0x41000180 + 0x10 * i
def R.CAL_TDC_CFG_OVF (i : Nat) : Fld := ⟨R.CAL_TDC_CFG i, 31, 31⟩
def R.CAL_TDC_CFG_LANE (i : Nat) : Fld := ⟨R.CAL_TDC_CFG i, 28, 24⟩
/-- CAL_TDC_NS, R101. -/
def R.CAL_TDC_NS (i : Nat) : Nat := 0x41000184 + 0x10 * i
/-- HLD_CTRL, R122. -/
def R.HLD_CTRL : Nat := 0x41001000
def R.HLD_CTRL_ANCHOR : Fld := ⟨R.HLD_CTRL, 31, 16⟩
def R.HLD_CTRL_FREE_MODEL : Fld := ⟨R.HLD_CTRL, 3, 3⟩
def R.HLD_CTRL_USE_LASTLOCK : Fld := ⟨R.HLD_CTRL, 2, 2⟩
def R.HLD_CTRL_SEL : Fld := ⟨R.HLD_CTRL, 1, 1⟩
def R.HLD_CTRL_LRN_EN : Fld := ⟨R.HLD_CTRL, 0, 0⟩
/-- HLD_STAT, R122. -/
def R.HLD_STAT : Nat := 0x41001004
def R.HLD_STAT_SEASONED : Fld := ⟨R.HLD_STAT, 7, 7⟩
def R.HLD_STAT_COEF_FUSE : Fld := ⟨R.HLD_STAT, 6, 6⟩
def R.HLD_STAT_PERSIST_DEFER : Fld := ⟨R.HLD_STAT, 5, 5⟩
def R.HLD_STAT_AGE_UNK : Fld := ⟨R.HLD_STAT, 4, 4⟩
def R.HLD_STAT_TEMP_LOST : Fld := ⟨R.HLD_STAT, 3, 3⟩
def R.HLD_STAT_ACQ : Fld := ⟨R.HLD_STAT, 2, 2⟩
def R.HLD_STAT_STATE : Fld := ⟨R.HLD_STAT, 1, 0⟩
/-- HLD_LRN, R132. -/
def R.HLD_LRN : Nat := 0x41001008
def R.HLD_LRN_SETTLE : Fld := ⟨R.HLD_LRN, 31, 24⟩
def R.HLD_LRN_REJ : Fld := ⟨R.HLD_LRN, 15, 8⟩
def R.HLD_LRN_K : Fld := ⟨R.HLD_LRN, 4, 0⟩
/-- HLD_BUDGET, R138. -/
def R.HLD_BUDGET : Nat := 0x4100100c
def R.HLD_BUDGET_TMAX_U : Fld := ⟨R.HLD_BUDGET, 31, 24⟩
def R.HLD_BUDGET_TMAX_S : Fld := ⟨R.HLD_BUDGET, 23, 16⟩
def R.HLD_BUDGET_PHASE : Fld := ⟨R.HLD_BUDGET, 15, 0⟩
/-- HLD_ELAPSED, R137. -/
def R.HLD_ELAPSED : Nat := 0x41001010
/-- HLD_UNC, R137. -/
def R.HLD_UNC : Nat := 0x41001014
/-- HLD_COEF, R128. -/
def R.HLD_COEF (i : Nat) : Nat := 0x41001020 + 0x4 * i
/-- HLD_T0, R130. -/
def R.HLD_T0 : Nat := 0x41001034
/-- HLD_TEMP, R129. -/
def R.HLD_TEMP : Nat := 0x41001038
def R.HLD_TEMP_DTDT : Fld := ⟨R.HLD_TEMP, 31, 16⟩
def R.HLD_TEMP_T : Fld := ⟨R.HLD_TEMP, 15, 0⟩
/-- HLD_KDAC, R127. -/
def R.HLD_KDAC : Nat := 0x4100103c
/-- HLD_HIST, R144. -/
def R.HLD_HIST : Nat := 0x41001040
def R.HLD_HIST_AGE : Fld := ⟨R.HLD_HIST, 31, 16⟩
def R.HLD_HIST_MINUTES : Fld := ⟨R.HLD_HIST, 15, 0⟩
/-- HLD_ALM_STAT, R142. -/
def R.HLD_ALM_STAT : Nat := 0x41001044
def R.HLD_ALM_STAT_GEN : Fld := ⟨R.HLD_ALM_STAT, 31, 8⟩
def R.HLD_ALM_STAT_PERSIST_FAIL : Fld := ⟨R.HLD_ALM_STAT, 7, 7⟩
def R.HLD_ALM_STAT_BAD : Fld := ⟨R.HLD_ALM_STAT, 6, 4⟩
def R.HLD_ALM_STAT_STALE : Fld := ⟨R.HLD_ALM_STAT, 3, 3⟩
def R.HLD_ALM_STAT_SRC : Fld := ⟨R.HLD_ALM_STAT, 2, 0⟩
/-- HLD_ALM_CTRL, R145. -/
def R.HLD_ALM_CTRL : Nat := 0x41001048
def R.HLD_ALM_CTRL_CLEAR : Fld := ⟨R.HLD_ALM_CTRL, 0, 0⟩
/-- HLD_SAMPLES, R134. -/
def R.HLD_SAMPLES : Nat := 0x41001050
/-- HLD_SAMPLES_HI, R134. -/
def R.HLD_SAMPLES_HI : Nat := 0x41001054
/-- HLD_REJECT, R132. -/
def R.HLD_REJECT : Nat := 0x41001058
/-- HLD_DAC_CODE, R147. -/
def R.HLD_DAC_CODE (i : Nat) : Nat := 0x41001080 + 0x10 * i
def R.HLD_DAC_CODE_CODE (i : Nat) : Fld := ⟨R.HLD_DAC_CODE i, 19, 0⟩
/-- HLD_DAC_CFG, R150. -/
def R.HLD_DAC_CFG (i : Nat) : Nat := 0x41001084 + 0x10 * i
def R.HLD_DAC_CFG_RANGE (i : Nat) : Fld := ⟨R.HLD_DAC_CFG i, 0, 0⟩
/-- HLD_DAC_STAT, R148. -/
def R.HLD_DAC_STAT (i : Nat) : Nat := 0x41001088 + 0x10 * i
def R.HLD_DAC_STAT_WR_IGN (i : Nat) : Fld := ⟨R.HLD_DAC_STAT i, 4, 4⟩
def R.HLD_DAC_STAT_RANGE_ERR (i : Nat) : Fld := ⟨R.HLD_DAC_STAT i, 3, 3⟩
def R.HLD_DAC_STAT_RANGE_BUSY (i : Nat) : Fld := ⟨R.HLD_DAC_STAT i, 2, 2⟩
def R.HLD_DAC_STAT_INIT (i : Nat) : Fld := ⟨R.HLD_DAC_STAT i, 1, 0⟩
/-- HLD_DAC_LAST, R149. -/
def R.HLD_DAC_LAST (i : Nat) : Nat := 0x4100108c + 0x10 * i
/-- HLD_FDEF, R134. -/
def R.HLD_FDEF (i : Nat) : Nat := 0x410010c0 + 0x4 * i
/-- PTP_CTRL, R107. -/
def R.PTP_CTRL : Nat := 0x41002000
def R.PTP_CTRL_EN : Fld := ⟨R.PTP_CTRL, 0, 0⟩
/-- PTP_RXBASE, R107. -/
def R.PTP_RXBASE : Nat := 0x41002004
def R.PTP_RXBASE_BASE : Fld := ⟨R.PTP_RXBASE, 31, 13⟩
/-- PTP_RXHEAD, R107. -/
def R.PTP_RXHEAD : Nat := 0x41002008
/-- PTP_RXTAIL, R107. -/
def R.PTP_RXTAIL : Nat := 0x4100200c
/-- PTP_TXBASE, R109. -/
def R.PTP_TXBASE : Nat := 0x41002010
def R.PTP_TXBASE_BASE : Fld := ⟨R.PTP_TXBASE, 31, 13⟩
/-- PTP_TXHEAD, R109. -/
def R.PTP_TXHEAD : Nat := 0x41002014
/-- PTP_TXTAIL, R109. -/
def R.PTP_TXTAIL : Nat := 0x41002018
/-- PTP_RXDROP, R107. -/
def R.PTP_RXDROP : Nat := 0x41002020
/-- PTP_TCSKIP, R112. -/
def R.PTP_TCSKIP : Nat := 0x41002024
/-- PTP_PCFG, R112. -/
def R.PTP_PCFG (i : Nat) : Nat := 0x41002100 + 0x10 * i
def R.PTP_PCFG_TC_EN (i : Nat) : Fld := ⟨R.PTP_PCFG i, 1, 1⟩
def R.PTP_PCFG_EN (i : Nat) : Fld := ⟨R.PTP_PCFG i, 0, 0⟩
/-- PTP_PSTAT, R104. -/
def R.PTP_PSTAT (i : Nat) : Nat := 0x41002108 + 0x10 * i
def R.PTP_PSTAT_CAL_DONE (i : Nat) : Fld := ⟨R.PTP_PSTAT i, 31, 31⟩
/-- MTX_CTRL, R179. -/
def R.MTX_CTRL : Nat := 0x42000000
def R.MTX_CTRL_SPEC_EN : Fld := ⟨R.MTX_CTRL, 1, 1⟩
def R.MTX_CTRL_EN : Fld := ⟨R.MTX_CTRL, 0, 0⟩
/-- MTX_STAT, R157. -/
def R.MTX_STAT : Nat := 0x42000004
def R.MTX_STAT_SPEC_HOLD : Fld := ⟨R.MTX_STAT, 4, 4⟩
def R.MTX_STAT_EVE_BUSY : Fld := ⟨R.MTX_STAT, 3, 3⟩
def R.MTX_STAT_ABORT_LATE : Fld := ⟨R.MTX_STAT, 2, 2⟩
def R.MTX_STAT_GO_REJ : Fld := ⟨R.MTX_STAT, 1, 1⟩
def R.MTX_STAT_EVE_WR_REJ : Fld := ⟨R.MTX_STAT, 0, 0⟩
/-- MTX_FOFS, R167. -/
def R.MTX_FOFS : Nat := 0x42000008
def R.MTX_FOFS_FOFS : Fld := ⟨R.MTX_FOFS, 23, 0⟩
/-- MTX_ADV, R169. -/
def R.MTX_ADV : Nat := 0x4200000c
def R.MTX_ADV_ADV : Fld := ⟨R.MTX_ADV, 9, 0⟩
/-- MTX_COMMIT, R168. -/
def R.MTX_COMMIT : Nat := 0x42000010
def R.MTX_COMMIT_AT : Fld := ⟨R.MTX_COMMIT, 8, 8⟩
def R.MTX_COMMIT_MU : Fld := ⟨R.MTX_COMMIT, 7, 6⟩
def R.MTX_COMMIT_CLASS : Fld := ⟨R.MTX_COMMIT, 5, 4⟩
def R.MTX_COMMIT_COPY : Fld := ⟨R.MTX_COMMIT, 2, 2⟩
def R.MTX_COMMIT_ABORT : Fld := ⟨R.MTX_COMMIT, 1, 1⟩
def R.MTX_COMMIT_GO : Fld := ⟨R.MTX_COMMIT, 0, 0⟩
/-- MTX_COMMIT_STAT, R170. -/
def R.MTX_COMMIT_STAT : Nat := 0x42000014
def R.MTX_COMMIT_STAT_ERR_ENTRY : Fld := ⟨R.MTX_COMMIT_STAT, 26, 16⟩
def R.MTX_COMMIT_STAT_RESULT : Fld := ⟨R.MTX_COMMIT_STAT, 7, 4⟩
def R.MTX_COMMIT_STAT_STATE : Fld := ⟨R.MTX_COMMIT_STAT, 1, 0⟩
/-- MTX_CTIME_NS, R168. -/
def R.MTX_CTIME_NS : Nat := 0x42000018
def R.MTX_CTIME_NS_NS : Fld := ⟨R.MTX_CTIME_NS, 29, 0⟩
/-- MTX_CTIME_SEC, R168. -/
def R.MTX_CTIME_SEC : Nat := 0x4200001c
/-- MTX_TARGET_NS, R168. -/
def R.MTX_TARGET_NS : Nat := 0x42000020
/-- MTX_TARGET_SEC, R168. -/
def R.MTX_TARGET_SEC : Nat := 0x42000024
/-- MTX_SWWIN, R176. -/
def R.MTX_SWWIN : Nat := 0x42000028
def R.MTX_SWWIN_SWWIN : Fld := ⟨R.MTX_SWWIN, 13, 0⟩
/-- MTX_SRCTO, R165. -/
def R.MTX_SRCTO : Nat := 0x4200002c
def R.MTX_SRCTO_SRCTO : Fld := ⟨R.MTX_SRCTO, 13, 0⟩
/-- MTX_DLY_BASE, R183. -/
def R.MTX_DLY_BASE : Nat := 0x42000030
def R.MTX_DLY_BASE_BASE : Fld := ⟨R.MTX_DLY_BASE, 12, 0⟩
/-- MTX_DLY_CTRL, R183. -/
def R.MTX_DLY_CTRL : Nat := 0x42000034
def R.MTX_DLY_CTRL_EN : Fld := ⟨R.MTX_DLY_CTRL, 0, 0⟩
/-- MTX_DAYRD_SEL, R159. -/
def R.MTX_DAYRD_SEL : Nat := 0x42000040
def R.MTX_DAYRD_SEL_ENTRY : Fld := ⟨R.MTX_DAYRD_SEL, 10, 0⟩
/-- MTX_DAYRD_W, R159. -/
def R.MTX_DAYRD_W (i : Nat) : Nat := 0x42000060 + 0x4 * i
/-- MTX_CAP_CTRL, R187. -/
def R.MTX_CAP_CTRL : Nat := 0x42000080
def R.MTX_CAP_CTRL_GO : Fld := ⟨R.MTX_CAP_CTRL, 31, 31⟩
def R.MTX_CAP_CTRL_TRIG : Fld := ⟨R.MTX_CAP_CTRL, 24, 24⟩
def R.MTX_CAP_CTRL_COUNT : Fld := ⟨R.MTX_CAP_CTRL, 23, 12⟩
def R.MTX_CAP_CTRL_DIR : Fld := ⟨R.MTX_CAP_CTRL, 11, 11⟩
def R.MTX_CAP_CTRL_CONT : Fld := ⟨R.MTX_CAP_CTRL, 10, 0⟩
/-- MTX_CAP_STAT, R188. -/
def R.MTX_CAP_STAT : Nat := 0x42000084
def R.MTX_CAP_STAT_CNT : Fld := ⟨R.MTX_CAP_STAT, 27, 16⟩
def R.MTX_CAP_STAT_RESULT : Fld := ⟨R.MTX_CAP_STAT, 3, 2⟩
def R.MTX_CAP_STAT_STATE : Fld := ⟨R.MTX_CAP_STAT, 1, 0⟩
/-- MTX_CAP_T0_NS, R188. -/
def R.MTX_CAP_T0_NS : Nat := 0x42000088
/-- MTX_CAP_T0_SEC, R188. -/
def R.MTX_CAP_T0_SEC : Nat := 0x4200008c
/-- MTX_COMMITS, R176. -/
def R.MTX_COMMITS : Nat := 0x42000100
/-- MTX_REFUSED, R170. -/
def R.MTX_REFUSED : Nat := 0x42000104
/-- MTX_COMP, R176. -/
def R.MTX_COMP : Nat := 0x42000108
def R.MTX_COMP_FORCED : Fld := ⟨R.MTX_COMP, 15, 0⟩
/-- MTX_DLY_LOST, R186. -/
def R.MTX_DLY_LOST : Nat := 0x4200010c
/-- MTX_DLY_DROP, R185. -/
def R.MTX_DLY_DROP : Nat := 0x42000110
/-- MTX_SKEW_OVF, R164. -/
def R.MTX_SKEW_OVF : Nat := 0x42000114
/-- MTX_SPEC_HOLDC, R180. -/
def R.MTX_SPEC_HOLDC : Nat := 0x42000118
/-- MTX_COLD, R174. -/
def R.MTX_COLD : Nat := 0x4200011c
/-- MTX_SUM_SAT, R161. -/
def R.MTX_SUM_SAT : Nat := 0x42000120
/-- MTX_GAP, R165. -/
def R.MTX_GAP : Nat := 0x42000128
/-- MTX_FWD, R178. -/
def R.MTX_FWD (i : Nat) : Nat := 0x42000200 + 0x8 * i
/-- MTX_FWD_HI, R178. -/
def R.MTX_FWD_HI (i : Nat) : Nat := 0x42000204 + 0x8 * i
/-- MTX_BTN, R178. -/
def R.MTX_BTN (i : Nat) : Nat := 0x420002c0 + 0x4 * i
/-- MTX_EVE, R155. -/
def R.MTX_EVE (i : Nat) : Nat := 0x42001000 + 0x4 * i
/-- MTX_CAPW, R187. -/
def R.MTX_CAPW (i : Nat) : Nat := 0x4200d000 + 0x4 * i
/-- LNE_CTRL, R190. -/
def R.LNE_CTRL (n : Nat) : Nat := 0x42010000 + 0x1000 * n
def R.LNE_CTRL_EN (n : Nat) : Fld := ⟨R.LNE_CTRL n, 15, 15⟩
def R.LNE_CTRL_REPHASE (n : Nat) : Fld := ⟨R.LNE_CTRL n, 6, 6⟩
def R.LNE_CTRL_TXTIM (n : Nat) : Fld := ⟨R.LNE_CTRL n, 5, 5⟩
def R.LNE_CTRL_PRBS (n : Nat) : Fld := ⟨R.LNE_CTRL n, 4, 4⟩
def R.LNE_CTRL_MODE (n : Nat) : Fld := ⟨R.LNE_CTRL n, 3, 0⟩
/-- LNE_STAT, R208. -/
def R.LNE_STAT (n : Nat) : Nat := 0x42010004 + 0x1000 * n
def R.LNE_STAT_PRBS_LOCK (n : Nat) : Fld := ⟨R.LNE_STAT n, 4, 4⟩
def R.LNE_STAT_FW_EQ (n : Nat) : Fld := ⟨R.LNE_STAT n, 3, 3⟩
def R.LNE_STAT_HI_BER (n : Nat) : Fld := ⟨R.LNE_STAT n, 2, 2⟩
def R.LNE_STAT_SF_LOCK (n : Nat) : Fld := ⟨R.LNE_STAT n, 1, 1⟩
def R.LNE_STAT_BLOCK_LOCK (n : Nat) : Fld := ⟨R.LNE_STAT n, 0, 0⟩
/-- LNE_EVT, R215. -/
def R.LNE_EVT (n : Nat) : Nat := 0x42010008 + 0x1000 * n
/-- LNE_EVTEN, R215. -/
def R.LNE_EVTEN (n : Nat) : Nat := 0x4201000c + 0x1000 * n
/-- LNE_EQ, R212. -/
def R.LNE_EQ (n : Nat) : Nat := 0x42010010 + 0x1000 * n
def R.LNE_EQ_FW (n : Nat) : Fld := ⟨R.LNE_EQ n, 15, 15⟩
def R.LNE_EQ_PRE (n : Nat) : Fld := ⟨R.LNE_EQ n, 13, 10⟩
def R.LNE_EQ_POST (n : Nat) : Fld := ⟨R.LNE_EQ n, 9, 5⟩
def R.LNE_EQ_CTLE (n : Nat) : Fld := ⟨R.LNE_EQ n, 4, 0⟩
/-- LNE_RXPH, R201. -/
def R.LNE_RXPH (n : Nat) : Nat := 0x42010014 + 0x1000 * n
def R.LNE_RXPH_PH (n : Nat) : Fld := ⟨R.LNE_RXPH n, 15, 0⟩
/-- LNE_TXPH, R202. -/
def R.LNE_TXPH (n : Nat) : Nat := 0x42010018 + 0x1000 * n
/-- LNE_TXPH_MEAS, R202. -/
def R.LNE_TXPH_MEAS (n : Nat) : Nat := 0x4201001c + 0x1000 * n
/-- LNE_ROE_DA, R195. -/
def R.LNE_ROE_DA (n : Nat) (i : Nat) : Nat := 0x42010030 + 0x1000 * n + 0x4 * i
/-- LNE_ROE_SA, R195. -/
def R.LNE_ROE_SA (n : Nat) (i : Nat) : Nat := 0x4201003c + 0x1000 * n + 0x4 * i
/-- LNE_ROE_VLAN, R195. -/
def R.LNE_ROE_VLAN (n : Nat) : Nat := 0x42010048 + 0x1000 * n
/-- LNE_CSEL, R214. -/
def R.LNE_CSEL (n : Nat) : Nat := 0x42010080 + 0x1000 * n
def R.LNE_CSEL_DIR (n : Nat) : Fld := ⟨R.LNE_CSEL n, 15, 15⟩
def R.LNE_CSEL_C (n : Nat) : Fld := ⟨R.LNE_CSEL n, 5, 0⟩
/-- LNE_CFMT, R214. -/
def R.LNE_CFMT (n : Nat) : Nat := 0x42010084 + 0x1000 * n
def R.LNE_CFMT_EN (n : Nat) : Fld := ⟨R.LNE_CFMT n, 15, 15⟩
/-- LNE_CPOS, R214. -/
def R.LNE_CPOS (n : Nat) : Nat := 0x42010088 + 0x1000 * n
/-- LNE_CCNT, R214. -/
def R.LNE_CCNT (n : Nat) : Nat := 0x4201008c + 0x1000 * n
/-- LNE_RXUNIT, R215. -/
def R.LNE_RXUNIT (n : Nat) : Nat := 0x42010100 + 0x1000 * n
/-- LNE_RXFAIL, R204. -/
def R.LNE_RXFAIL (n : Nat) : Nat := 0x42010104 + 0x1000 * n
/-- LNE_RXBTN, R207. -/
def R.LNE_RXBTN (n : Nat) : Nat := 0x42010108 + 0x1000 * n
/-- LNE_SYNCERR, R215. -/
def R.LNE_SYNCERR (n : Nat) : Nat := 0x4201010c + 0x1000 * n
/-- LNE_BLKLOSS, R208. -/
def R.LNE_BLKLOSS (n : Nat) : Nat := 0x42010110 + 0x1000 * n
/-- LNE_SFBAD, R211. -/
def R.LNE_SFBAD (n : Nat) : Nat := 0x42010114 + 0x1000 * n
/-- LNE_SFLOSS, R211. -/
def R.LNE_SFLOSS (n : Nat) : Nat := 0x42010118 + 0x1000 * n
/-- LNE_FECCOR, R191. -/
def R.LNE_FECCOR (n : Nat) : Nat := 0x4201011c + 0x1000 * n
/-- LNE_FECUNC, R191. -/
def R.LNE_FECUNC (n : Nat) : Nat := 0x42010120 + 0x1000 * n
/-- LNE_TXUNIT, R215. -/
def R.LNE_TXUNIT (n : Nat) : Nat := 0x42010124 + 0x1000 * n
/-- LNE_TXLATEC, R203. -/
def R.LNE_TXLATEC (n : Nat) : Nat := 0x42010128 + 0x1000 * n
/-- SRC_STALL, R227. -/
def R.SRC_STALL : Nat := 0x42040004
def R.SRC_STALL_US : Fld := ⟨R.SRC_STALL, 19, 0⟩
/-- SRC_CSEL, R224. -/
def R.SRC_CSEL : Nat := 0x42040008
def R.SRC_CSEL_SEL : Fld := ⟨R.SRC_CSEL, 7, 0⟩
/-- SRC_PROG_STG, R221. -/
def R.SRC_PROG_STG : Nat := 0x42040010
/-- SRC_STEP_STG, R221. -/
def R.SRC_STEP_STG : Nat := 0x42040014
/-- SRC_PROG_ACT, R221. -/
def R.SRC_PROG_ACT : Nat := 0x42040018
/-- SRC_STEP_ACT, R221. -/
def R.SRC_STEP_ACT : Nat := 0x4204001c
/-- SRC_CMT, R225. -/
def R.SRC_CMT : Nat := 0x42040020
def R.SRC_CMT_FORCE : Fld := ⟨R.SRC_CMT, 1, 1⟩
def R.SRC_CMT_REQ : Fld := ⟨R.SRC_CMT, 0, 0⟩
/-- SRC_CVSTAT, R225. -/
def R.SRC_CVSTAT : Nat := 0x42040024
/-- SRC_CVCTRL, R228. -/
def R.SRC_CVCTRL : Nat := 0x42040028
/-- SRC_TEST_CTRL, R229. -/
def R.SRC_TEST_CTRL : Nat := 0x42040040
def R.SRC_TEST_CTRL_GO : Fld := ⟨R.SRC_TEST_CTRL, 31, 31⟩
def R.SRC_TEST_CTRL_COUNT : Fld := ⟨R.SRC_TEST_CTRL, 8, 0⟩
/-- SRC_TEST_STAT, R229. -/
def R.SRC_TEST_STAT : Nat := 0x42040044
def R.SRC_TEST_STAT_OUTCNT : Fld := ⟨R.SRC_TEST_STAT, 27, 16⟩
/-- SRC_FMTERR, R218. -/
def R.SRC_FMTERR : Nat := 0x42040100
/-- SRC_FORCED, R226. -/
def R.SRC_FORCED : Nat := 0x42040104
/-- SRC_CONVSAT, R222. -/
def R.SRC_CONVSAT : Nat := 0x42040108
/-- SRC_COEF_STG, R221. -/
def R.SRC_COEF_STG (i : Nat) : Nat := 0x42041000 + 0x4 * i
/-- SRC_COEF_ACT, R224. -/
def R.SRC_COEF_ACT (i : Nat) : Nat := 0x42042000 + 0x4 * i
/-- SRC_GAIN, R220. -/
def R.SRC_GAIN (i : Nat) : Nat := 0x42043000 + 0x4 * i
def R.SRC_GAIN_G (i : Nat) : Fld := ⟨R.SRC_GAIN i, 10, 0⟩
/-- SRC_GSAT, R220. -/
def R.SRC_GSAT (i : Nat) : Nat := 0x42045000 + 0x4 * i
/-- SRC_TIN, R229. -/
def R.SRC_TIN (i : Nat) : Nat := 0x42048000 + 0x4 * i
/-- SRC_TOUT, R229. -/
def R.SRC_TOUT (i : Nat) : Nat := 0x42049000 + 0x4 * i
/-- HVS_CTRL, R231. -/
def R.HVS_CTRL : Nat := 0x42050000
def R.HVS_CTRL_EN : Fld := ⟨R.HVS_CTRL, 0, 0⟩
/-- HVS_STAT, R231. -/
def R.HVS_STAT : Nat := 0x42050004
def R.HVS_STAT_CFG_REJ : Fld := ⟨R.HVS_STAT, 1, 1⟩
def R.HVS_STAT_BUSERR : Fld := ⟨R.HVS_STAT, 0, 0⟩
/-- HVS_SLOT0, R231. -/
def R.HVS_SLOT0 (i : Nat) : Nat := 0x42051000 + 0x20 * i
def R.HVS_SLOT0_EN (i : Nat) : Fld := ⟨R.HVS_SLOT0 i, 31, 31⟩
def R.HVS_SLOT0_IRQ (i : Nat) : Fld := ⟨R.HVS_SLOT0 i, 30, 30⟩
def R.HVS_SLOT0_S (i : Nat) : Fld := ⟨R.HVS_SLOT0 i, 23, 16⟩
def R.HVS_SLOT0_M (i : Nat) : Fld := ⟨R.HVS_SLOT0 i, 12, 8⟩
/-- HVS_SLOT1, R234. -/
def R.HVS_SLOT1 (i : Nat) : Nat := 0x42051004 + 0x20 * i
def R.HVS_SLOT1_BASE (i : Nat) : Fld := ⟨R.HVS_SLOT1 i, 31, 4⟩
/-- HVS_SLOT2, R234. -/
def R.HVS_SLOT2 (i : Nat) : Nat := 0x42051008 + 0x20 * i
def R.HVS_SLOT2_IDX (i : Nat) : Fld := ⟨R.HVS_SLOT2 i, 24, 16⟩
def R.HVS_SLOT2_SIZE (i : Nat) : Fld := ⟨R.HVS_SLOT2 i, 8, 0⟩
/-- HVS_MSGS, R235. -/
def R.HVS_MSGS (i : Nat) : Nat := 0x42051010 + 0x20 * i
/-- HVS_DROP, R235. -/
def R.HVS_DROP (i : Nat) : Nat := 0x42051014 + 0x20 * i
/-- HVS_FAIL, R235. -/
def R.HVS_FAIL (i : Nat) : Nat := 0x42051018 + 0x20 * i
/-- CLS_CTRL, R255. -/
def R.CLS_CTRL : Nat := 0x42060000
def R.CLS_CTRL_RAKE_EN : Fld := ⟨R.CLS_CTRL, 1, 1⟩
def R.CLS_CTRL_EN : Fld := ⟨R.CLS_CTRL, 0, 0⟩
/-- CLS_STAT, R253. -/
def R.CLS_STAT : Nat := 0x42060004
def R.CLS_STAT_SUSP : Fld := ⟨R.CLS_STAT, 20, 16⟩
def R.CLS_STAT_MULTI_FALSE : Fld := ⟨R.CLS_STAT, 3, 3⟩
def R.CLS_STAT_SUSP_FULL : Fld := ⟨R.CLS_STAT, 2, 2⟩
def R.CLS_STAT_UNCOR : Fld := ⟨R.CLS_STAT, 1, 1⟩
def R.CLS_STAT_KEYDROP : Fld := ⟨R.CLS_STAT, 0, 0⟩
/-- CLS_ESEL, R250. -/
def R.CLS_ESEL : Nat := 0x42060010
def R.CLS_ESEL_ENTRY : Fld := ⟨R.CLS_ESEL, 11, 0⟩
/-- CLS_EVAL, R250. -/
def R.CLS_EVAL (i : Nat) : Nat := 0x42060020 + 0x4 * i
/-- CLS_EMSK, R250. -/
def R.CLS_EMSK (i : Nat) : Nat := 0x42060040 + 0x4 * i
/-- CLS_EATTR, R241. -/
def R.CLS_EATTR : Nat := 0x42060060
/-- CLS_EACT, R245. -/
def R.CLS_EACT : Nat := 0x42060064
def R.CLS_EACT_DEST : Fld := ⟨R.CLS_EACT, 31, 28⟩
/-- CLS_ECMD, R250. -/
def R.CLS_ECMD : Nat := 0x42060068
/-- CLS_ECSTAT, R251. -/
def R.CLS_ECSTAT : Nat := 0x4206006c
def R.CLS_ECSTAT_BUSY : Fld := ⟨R.CLS_ECSTAT, 31, 31⟩
def R.CLS_ECSTAT_VALID : Fld := ⟨R.CLS_ECSTAT, 30, 30⟩
def R.CLS_ECSTAT_SUSPECT : Fld := ⟨R.CLS_ECSTAT, 29, 29⟩
def R.CLS_ECSTAT_ERR : Fld := ⟨R.CLS_ECSTAT, 3, 0⟩
/-- CLS_PORT_CFG, R245. -/
def R.CLS_PORT_CFG (i : Nat) : Nat := 0x42060080 + 0x4 * i
def R.CLS_PORT_CFG_MISS_DEST (i : Nat) : Fld := ⟨R.CLS_PORT_CFG i, 31, 28⟩
def R.CLS_PORT_CFG_MISS_ARG (i : Nat) : Fld := ⟨R.CLS_PORT_CFG i, 27, 20⟩
def R.CLS_PORT_CFG_PFTAG (i : Nat) : Fld := ⟨R.CLS_PORT_CFG i, 15, 8⟩
def R.CLS_PORT_CFG_WOFS (i : Nat) : Fld := ⟨R.CLS_PORT_CFG i, 6, 0⟩
/-- CLS_RG, R241. -/
def R.CLS_RG (i : Nat) : Nat := 0x42060100 + 0x4 * i
def R.CLS_RG_EN (i : Nat) : Fld := ⟨R.CLS_RG i, 31, 31⟩
def R.CLS_RG_VAL (i : Nat) : Fld := ⟨R.CLS_RG i, 15, 8⟩
def R.CLS_RG_MSK (i : Nat) : Fld := ⟨R.CLS_RG i, 7, 0⟩
/-- CLS_FQ_CFG, R249. -/
def R.CLS_FQ_CFG (i : Nat) : Nat := 0x42060180 + 0x10 * i
def R.CLS_FQ_CFG_EN (i : Nat) : Fld := ⟨R.CLS_FQ_CFG i, 31, 31⟩
def R.CLS_FQ_CFG_SIZE (i : Nat) : Fld := ⟨R.CLS_FQ_CFG i, 6, 0⟩
/-- CLS_FQ_BASE, R249. -/
def R.CLS_FQ_BASE (i : Nat) : Nat := 0x42060184 + 0x10 * i
def R.CLS_FQ_BASE_BASE (i : Nat) : Fld := ⟨R.CLS_FQ_BASE i, 31, 11⟩
/-- CLS_FQ_HEAD, R249. -/
def R.CLS_FQ_HEAD (i : Nat) : Nat := 0x42060188 + 0x10 * i
def R.CLS_FQ_HEAD_IDX (i : Nat) : Fld := ⟨R.CLS_FQ_HEAD i, 5, 0⟩
/-- CLS_FQ_TAIL, R249. -/
def R.CLS_FQ_TAIL (i : Nat) : Nat := 0x4206018c + 0x10 * i
def R.CLS_FQ_TAIL_IDX (i : Nat) : Fld := ⟨R.CLS_FQ_TAIL i, 5, 0⟩
/-- CLS_SEARCH, R247. -/
def R.CLS_SEARCH : Nat := 0x420601c0
/-- CLS_SEARCH_HI, R247. -/
def R.CLS_SEARCH_HI : Nat := 0x420601c4
/-- CLS_MISS, R247. -/
def R.CLS_MISS : Nat := 0x420601c8
/-- CLS_FALSE, R247. -/
def R.CLS_FALSE : Nat := 0x420601cc
/-- CLS_KEYDROP, R248. -/
def R.CLS_KEYDROP : Nat := 0x420601d0
/-- CLS_FQDROP, R249. -/
def R.CLS_FQDROP : Nat := 0x420601d4
/-- CLS_BADDEST, R246. -/
def R.CLS_BADDEST : Nat := 0x420601d8
/-- CLS_LOOP, R246. -/
def R.CLS_LOOP : Nat := 0x420601dc
/-- CLS_UNCOR_E, R254. -/
def R.CLS_UNCOR_E : Nat := 0x420601e4
def R.CLS_UNCOR_E_ENTRY : Fld := ⟨R.CLS_UNCOR_E, 11, 0⟩
/-- CLS_RC_FIELD, R242. -/
def R.CLS_RC_FIELD (i : Nat) : Nat := 0x42061000 + 0x8 * i
def R.CLS_RC_FIELD_FIELD (i : Nat) : Fld := ⟨R.CLS_RC_FIELD i, 2, 0⟩
/-- CLS_RC_RANGE, R242. -/
def R.CLS_RC_RANGE (i : Nat) : Nat := 0x42061004 + 0x8 * i
def R.CLS_RC_RANGE_HI (i : Nat) : Fld := ⟨R.CLS_RC_RANGE i, 31, 16⟩
def R.CLS_RC_RANGE_LO (i : Nat) : Fld := ⟨R.CLS_RC_RANGE i, 15, 0⟩
/-- CLS_SUSPT, R253. -/
def R.CLS_SUSPT (i : Nat) : Nat := 0x42061200 + 0x4 * i
def R.CLS_SUSPT_VALID (i : Nat) : Fld := ⟨R.CLS_SUSPT i, 31, 31⟩
def R.CLS_SUSPT_ENTRY (i : Nat) : Fld := ⟨R.CLS_SUSPT i, 11, 0⟩
/-- CLS_HIT, R247. -/
def R.CLS_HIT (i : Nat) : Nat := 0x42068000 + 0x4 * i
/-- AUT_ESEL, R256. -/
def R.AUT_ESEL : Nat := 0x42070000
def R.AUT_ESEL_SEL : Fld := ⟨R.AUT_ESEL, 2, 0⟩
/-- AUT_PAGE, R256. -/
def R.AUT_PAGE : Nat := 0x42070004
def R.AUT_PAGE_BANK : Fld := ⟨R.AUT_PAGE, 3, 3⟩
def R.AUT_PAGE_PAGE : Fld := ⟨R.AUT_PAGE, 2, 0⟩
/-- AUT_ECFG, R258. -/
def R.AUT_ECFG (i : Nat) : Nat := 0x42070100 + 0x40 * i
def R.AUT_ECFG_EN (i : Nat) : Fld := ⟨R.AUT_ECFG i, 31, 31⟩
def R.AUT_ECFG_CLS (i : Nat) : Fld := ⟨R.AUT_ECFG i, 16, 16⟩
def R.AUT_ECFG_SLOT (i : Nat) : Fld := ⟨R.AUT_ECFG i, 7, 0⟩
/-- AUT_PROG_STG, R257. -/
def R.AUT_PROG_STG (i : Nat) : Nat := 0x42070104 + 0x40 * i
def R.AUT_PROG_STG_START (i : Nat) : Fld := ⟨R.AUT_PROG_STG i, 29, 16⟩
def R.AUT_PROG_STG_NSTATES (i : Nat) : Fld := ⟨R.AUT_PROG_STG i, 14, 0⟩
/-- AUT_PROG_ACT, R257. -/
def R.AUT_PROG_ACT (i : Nat) : Nat := 0x42070108 + 0x40 * i
def R.AUT_PROG_ACT_START (i : Nat) : Fld := ⟨R.AUT_PROG_ACT i, 29, 16⟩
/-- AUT_CMT, R261. -/
def R.AUT_CMT (i : Nat) : Nat := 0x4207010c + 0x40 * i
def R.AUT_CMT_FORCE (i : Nat) : Fld := ⟨R.AUT_CMT i, 1, 1⟩
def R.AUT_CMT_REQ (i : Nat) : Fld := ⟨R.AUT_CMT i, 0, 0⟩
/-- AUT_CMSTAT, R261. -/
def R.AUT_CMSTAT (i : Nat) : Nat := 0x42070110 + 0x40 * i
def R.AUT_CMSTAT_PEND (i : Nat) : Fld := ⟨R.AUT_CMSTAT i, 31, 31⟩
def R.AUT_CMSTAT_STALLED (i : Nat) : Fld := ⟨R.AUT_CMSTAT i, 30, 30⟩
def R.AUT_CMSTAT_DISC (i : Nat) : Fld := ⟨R.AUT_CMSTAT i, 10, 7⟩
def R.AUT_CMSTAT_ERR (i : Nat) : Fld := ⟨R.AUT_CMSTAT i, 6, 4⟩
def R.AUT_CMSTAT_MIDMSG (i : Nat) : Fld := ⟨R.AUT_CMSTAT i, 3, 3⟩
def R.AUT_CMSTAT_TRUNC (i : Nat) : Fld := ⟨R.AUT_CMSTAT i, 2, 2⟩
def R.AUT_CMSTAT_REJ (i : Nat) : Fld := ⟨R.AUT_CMSTAT i, 1, 1⟩
/-- AUT_STALL, R263. -/
def R.AUT_STALL (i : Nat) : Nat := 0x42070114 + 0x40 * i
def R.AUT_STALL_US (i : Nat) : Fld := ⟨R.AUT_STALL i, 19, 0⟩
/-- AUT_RPT0, R259. -/
def R.AUT_RPT0 (i : Nat) : Nat := 0x42070118 + 0x40 * i
def R.AUT_RPT0_VALID (i : Nat) : Fld := ⟨R.AUT_RPT0 i, 31, 31⟩
def R.AUT_RPT0_STATE (i : Nat) : Fld := ⟨R.AUT_RPT0 i, 29, 16⟩
def R.AUT_RPT0_CODE (i : Nat) : Fld := ⟨R.AUT_RPT0 i, 15, 8⟩
/-- AUT_RPT1, R259. -/
def R.AUT_RPT1 (i : Nat) : Nat := 0x4207011c + 0x40 * i
def R.AUT_RPT1_OFFSET (i : Nat) : Fld := ⟨R.AUT_RPT1 i, 31, 16⟩
def R.AUT_RPT1_MSG (i : Nat) : Fld := ⟨R.AUT_RPT1 i, 15, 0⟩
/-- AUT_RPT2, R259. -/
def R.AUT_RPT2 (i : Nat) : Nat := 0x42070120 + 0x40 * i
def R.AUT_RPT2_STAMP (i : Nat) : Fld := ⟨R.AUT_RPT2 i, 29, 0⟩
/-- AUT_REPORTS, R259. -/
def R.AUT_REPORTS (i : Nat) : Nat := 0x42070124 + 0x40 * i
/-- AUT_RPTOVF, R259. -/
def R.AUT_RPTOVF (i : Nat) : Nat := 0x42070128 + 0x40 * i
/-- AUT_INDROP, R258. -/
def R.AUT_INDROP (i : Nat) : Nat := 0x4207012c + 0x40 * i
/-- AUT_FORCED, R262. -/
def R.AUT_FORCED (i : Nat) : Nat := 0x42070130 + 0x40 * i
/-- AUT_CMAP_STG, R256. -/
def R.AUT_CMAP_STG (i : Nat) : Nat := 0x42074000 + 0x4 * i
/-- AUT_CMAP_ACT, R256. -/
def R.AUT_CMAP_ACT (i : Nat) : Nat := 0x42074100 + 0x4 * i
/-- AUT_BANKW, R256. -/
def R.AUT_BANKW (i : Nat) : Nat := 0x42078000 + 0x4 * i
/-- CIP_CTRL, R284. -/
def R.CIP_CTRL : Nat := 0x42080000
def R.CIP_CTRL_EN : Fld := ⟨R.CIP_CTRL, 0, 0⟩
/-- CIP_STAT, R284. -/
def R.CIP_STAT : Nat := 0x42080004
def R.CIP_STAT_PIPE_UP : Fld := ⟨R.CIP_STAT, 11, 8⟩
def R.CIP_STAT_LANE_REJ : Fld := ⟨R.CIP_STAT, 3, 3⟩
def R.CIP_STAT_SA_REJ : Fld := ⟨R.CIP_STAT, 2, 2⟩
def R.CIP_STAT_MASK_STARVE : Fld := ⟨R.CIP_STAT, 1, 1⟩
def R.CIP_STAT_SELFTEST_FAIL : Fld := ⟨R.CIP_STAT, 0, 0⟩
/-- CIP_PIPE_LOAD, R264. -/
def R.CIP_PIPE_LOAD (i : Nat) : Nat := 0x42080010 + 0x4 * i
/-- CIP_ISOLOG, R281. -/
def R.CIP_ISOLOG : Nat := 0x42080020
/-- CIP_RXNOSA, R270. -/
def R.CIP_RXNOSA : Nat := 0x42080030
/-- CIP_TXABORT, R269. -/
def R.CIP_TXABORT : Nat := 0x42080034
/-- CIP_IVSKIP, R275. -/
def R.CIP_IVSKIP : Nat := 0x42080038
/-- CIP_LANE_CFG, R264. -/
def R.CIP_LANE_CFG (i : Nat) : Nat := 0x42080100 + 0x10 * i
def R.CIP_LANE_CFG_RXEN (i : Nat) : Fld := ⟨R.CIP_LANE_CFG i, 31, 31⟩
def R.CIP_LANE_CFG_TXEN (i : Nat) : Fld := ⟨R.CIP_LANE_CFG i, 30, 30⟩
def R.CIP_LANE_CFG_RXPIPE (i : Nat) : Fld := ⟨R.CIP_LANE_CFG i, 29, 28⟩
def R.CIP_LANE_CFG_TXPIPE (i : Nat) : Fld := ⟨R.CIP_LANE_CFG i, 27, 26⟩
def R.CIP_LANE_CFG_CLEARTAGS (i : Nat) : Fld := ⟨R.CIP_LANE_CFG i, 25, 25⟩
def R.CIP_LANE_CFG_SCI_EN (i : Nat) : Fld := ⟨R.CIP_LANE_CFG i, 24, 24⟩
def R.CIP_LANE_CFG_TX_AN (i : Nat) : Fld := ⟨R.CIP_LANE_CFG i, 1, 0⟩
/-- CIP_LANE_VLSW, R274. -/
def R.CIP_LANE_VLSW (i : Nat) : Nat := 0x42080104 + 0x10 * i
/-- CIP_SA0, R281. -/
def R.CIP_SA0 (i : Nat) : Nat := 0x42081000 + 0x20 * i
def R.CIP_SA0_EN (i : Nat) : Fld := ⟨R.CIP_SA0 i, 31, 31⟩
def R.CIP_SA0_XPN (i : Nat) : Fld := ⟨R.CIP_SA0 i, 30, 30⟩
def R.CIP_SA0_CONF (i : Nat) : Fld := ⟨R.CIP_SA0 i, 29, 29⟩
def R.CIP_SA0_REPLAY (i : Nat) : Fld := ⟨R.CIP_SA0 i, 28, 28⟩
def R.CIP_SA0_AN (i : Nat) : Fld := ⟨R.CIP_SA0 i, 27, 26⟩
def R.CIP_SA0_VARLAS (i : Nat) : Fld := ⟨R.CIP_SA0 i, 25, 25⟩
def R.CIP_SA0_EXH (i : Nat) : Fld := ⟨R.CIP_SA0 i, 24, 24⟩
def R.CIP_SA0_KP (i : Nat) : Fld := ⟨R.CIP_SA0 i, 20, 16⟩
/-- CIP_SA_SSCI, R281. -/
def R.CIP_SA_SSCI (i : Nat) : Nat := 0x42081004 + 0x20 * i
/-- CIP_SA_PNLO, R269. -/
def R.CIP_SA_PNLO (i : Nat) : Nat := 0x42081008 + 0x20 * i
/-- CIP_SA_PNHI, R269. -/
def R.CIP_SA_PNHI (i : Nat) : Nat := 0x4208100c + 0x20 * i
/-- CIP_SA_WINDOW, R271. -/
def R.CIP_SA_WINDOW (i : Nat) : Nat := 0x42081010 + 0x20 * i
/-- CIP_SA_SCILO, R268. -/
def R.CIP_SA_SCILO (i : Nat) : Nat := 0x42081014 + 0x20 * i
/-- CIP_SA_SCIHI, R268. -/
def R.CIP_SA_SCIHI (i : Nat) : Nat := 0x42081018 + 0x20 * i
/-- CIP_SA_THRESH, R269. -/
def R.CIP_SA_THRESH (i : Nat) : Nat := 0x4208101c + 0x20 * i
/-- CIP_SAC_OK, R271. -/
def R.CIP_SAC_OK (i : Nat) : Nat := 0x42085000 + 0x10 * i
/-- CIP_SAC_ICVFAIL, R271. -/
def R.CIP_SAC_ICVFAIL (i : Nat) : Nat := 0x42085004 + 0x10 * i
/-- CIP_SAC_LATE, R270. -/
def R.CIP_SAC_LATE (i : Nat) : Nat := 0x42085008 + 0x10 * i
/-- CIP_SAC_DROP, R270. -/
def R.CIP_SAC_DROP (i : Nat) : Nat := 0x4208500c + 0x10 * i
def R.CIP_SAC_DROP_BADTAG (i : Nat) : Fld := ⟨R.CIP_SAC_DROP i, 31, 16⟩
def R.CIP_SAC_DROP_DROP (i : Nat) : Fld := ⟨R.CIP_SAC_DROP i, 15, 0⟩
/-- PKA_CMD, R285. -/
def R.PKA_CMD : Nat := 0x42090000
def R.PKA_CMD_GO : Fld := ⟨R.PKA_CMD, 31, 31⟩
/-- PKA_STAT, R555. -/
def R.PKA_STAT : Nat := 0x42090004
def R.PKA_STAT_ERR : Fld := ⟨R.PKA_STAT, 3, 0⟩
/-- PKA_HADDR, R286. -/
def R.PKA_HADDR : Nat := 0x42090008
/-- PKA_HLEN, R286. -/
def R.PKA_HLEN : Nat := 0x4209000c
/-- PKA_OPS, R286. -/
def R.PKA_OPS : Nat := 0x42090010
/-- PKA_KPCMD, R280. -/
def R.PKA_KPCMD : Nat := 0x42090100
/-- PKA_KPSTAT, R280. -/
def R.PKA_KPSTAT : Nat := 0x42090104
/-- PKA_KSTG, R280. -/
def R.PKA_KSTG (i : Nat) : Nat := 0x42090120 + 0x4 * i
/-- PKA_KP, R280. -/
def R.PKA_KP (i : Nat) : Nat := 0x42090200 + 0x4 * i
/-- PKA_E, R286. -/
def R.PKA_E (i : Nat) : Nat := 0x42091000 + 0x4 * i
/-- PKA_QX, R286. -/
def R.PKA_QX (i : Nat) : Nat := 0x42091040 + 0x4 * i
/-- PKA_QY, R286. -/
def R.PKA_QY (i : Nat) : Nat := 0x42091080 + 0x4 * i
/-- PKA_R, R286. -/
def R.PKA_R (i : Nat) : Nat := 0x420910c0 + 0x4 * i
/-- PKA_S, R286. -/
def R.PKA_S (i : Nat) : Nat := 0x42091100 + 0x4 * i
/-- PKA_D, R286. -/
def R.PKA_D (i : Nat) : Nat := 0x42091140 + 0x4 * i
/-- PKA_OX, R286. -/
def R.PKA_OX (i : Nat) : Nat := 0x42091180 + 0x4 * i
/-- PKA_OY, R286. -/
def R.PKA_OY (i : Nat) : Nat := 0x420911c0 + 0x4 * i
/-- PKA_DIGEST, R286. -/
def R.PKA_DIGEST (i : Nat) : Nat := 0x42091200 + 0x4 * i

def C.PWR_SWITCHES : Ctr := ⟨R.PWR_SWITCHES, some ⟨0x40000108, 0, 0⟩, false⟩
def C.PWR_REFUSED : Ctr := ⟨R.PWR_REFUSED, some ⟨0x40000108, 1, 1⟩, false⟩
def C.IC_DECCNT : Ctr := ⟨R.IC_DECCNT, some ⟨0x40003118, 0, 0⟩, false⟩
def C.IC_UNAVCNT : Ctr := ⟨R.IC_UNAVCNT, some ⟨0x40003118, 1, 1⟩, false⟩
def C.IC_LOCKREL : Ctr := ⟨R.IC_LOCKREL, some ⟨0x40003118, 2, 2⟩, false⟩
def C.IC_INTCOR : Ctr := ⟨R.IC_INTCOR, some ⟨0x40003118, 3, 3⟩, false⟩
def C.IC_INTUNC : Ctr := ⟨R.IC_INTUNC, some ⟨0x40003118, 4, 4⟩, false⟩
def C.EVT_DFCNT : Ctr := ⟨R.EVT_DFCNT, some ⟨0x40004090, 0, 0⟩, false⟩
def C.EVT_AWCNT : Ctr := ⟨R.EVT_AWCNT, some ⟨0x40004090, 1, 1⟩, false⟩
def C.EVT_IMPCNT : Ctr := ⟨R.EVT_IMPCNT, some ⟨0x40004090, 2, 2⟩, false⟩
def C.EVT_L7REDIR : Ctr := ⟨R.EVT_L7REDIR, some ⟨0x40004090, 3, 3⟩, false⟩
def C.HZ_C0_DCOR : Ctr := ⟨R.HZ_C0_DCOR, some ⟨0x4000531c, 0, 0⟩, false⟩
def C.HZ_C0_DUNC : Ctr := ⟨R.HZ_C0_DUNC, some ⟨0x4000531c, 1, 1⟩, false⟩
def C.HZ_C0_IPAR : Ctr := ⟨R.HZ_C0_IPAR, some ⟨0x4000531c, 2, 2⟩, false⟩
def C.HZ_C1_DCOR : Ctr := ⟨R.HZ_C1_DCOR, some ⟨0x4000531c, 3, 3⟩, false⟩
def C.HZ_C1_DUNC : Ctr := ⟨R.HZ_C1_DUNC, some ⟨0x4000531c, 4, 4⟩, false⟩
def C.HZ_C1_IPAR : Ctr := ⟨R.HZ_C1_IPAR, some ⟨0x4000531c, 5, 5⟩, false⟩
def C.HZ_SIGLOST : Ctr := ⟨R.HZ_SIGLOST, some ⟨0x4000531c, 6, 6⟩, false⟩
def C.TRC_LOST : Ctr := ⟨R.TRC_LOST, some ⟨0x40006028, 0, 0⟩, false⟩
def C.TMP_LOGLOST : Ctr := ⟨R.TMP_LOGLOST, some ⟨0x40007048, 0, 0⟩, false⟩
def C.TMP_TRIPS : Ctr := ⟨R.TMP_TRIPS, some ⟨0x40007048, 1, 1⟩, false⟩
def C.TMP_HIT (i : Nat) : Ctr := ⟨R.TMP_HIT i, some ⟨0x40007390, i, i⟩, false⟩
def C.TRN_RCTFAIL : Ctr := ⟨R.TRN_RCTFAIL, some ⟨0x4000810c, 0, 0⟩, false⟩
def C.TRN_APTFAIL : Ctr := ⟨R.TRN_APTFAIL, some ⟨0x4000810c, 1, 1⟩, false⟩
def C.TRN_UNDER : Ctr := ⟨R.TRN_UNDER, some ⟨0x4000810c, 2, 2⟩, false⟩
def C.NVS_WRITES : Ctr := ⟨R.NVS_WRITES, some ⟨0x4000920c, 0, 0⟩, false⟩
def C.NVS_REFUSED : Ctr := ⟨R.NVS_REFUSED, some ⟨0x4000920c, 1, 1⟩, false⟩
def C.NVS_INTERR : Ctr := ⟨R.NVS_INTERR, some ⟨0x4000920c, 2, 2⟩, false⟩
def C.HK_ROUNDS : Ctr := ⟨R.HK_ROUNDS, some ⟨0x4000a198, 0, 0⟩, false⟩
def C.HK_RANGECNT : Ctr := ⟨R.HK_RANGECNT, some ⟨0x4000a198, 1, 1⟩, false⟩
def C.HK_SUSPCNT : Ctr := ⟨R.HK_SUSPCNT, some ⟨0x4000a198, 2, 2⟩, false⟩
def C.HK_CALDEFER : Ctr := ⟨R.HK_CALDEFER, some ⟨0x4000a198, 3, 3⟩, false⟩
def C.HK_CALFORCED : Ctr := ⟨R.HK_CALFORCED, some ⟨0x4000a198, 4, 4⟩, false⟩
def C.HK_FGCNT : Ctr := ⟨R.HK_FGCNT, some ⟨0x4000a198, 5, 5⟩, false⟩
def C.NQ_LATE : Ctr := ⟨R.NQ_LATE, some ⟨0x4000b02c, 0, 0⟩, false⟩
def C.NQ_AUTHFAIL : Ctr := ⟨R.NQ_AUTHFAIL, some ⟨0x4000b02c, 1, 1⟩, false⟩
def C.NQ_BKLOST : Ctr := ⟨R.NQ_BKLOST, some ⟨0x4000b02c, 2, 2⟩, false⟩
def C.IDC_PARCNT : Ctr := ⟨R.IDC_PARCNT, some ⟨0x4000c10c, 0, 0⟩, false⟩
def C.IDC_TOCNT : Ctr := ⟨R.IDC_TOCNT, some ⟨0x4000c10c, 1, 1⟩, false⟩
def C.IDC_EDCCNT : Ctr := ⟨R.IDC_EDCCNT, some ⟨0x4000c10c, 2, 2⟩, false⟩
def C.SDH_CRCCNT : Ctr := ⟨R.SDH_CRCCNT, some ⟨0x4000d108, 0, 0⟩, false⟩
def C.SDH_TOCNT : Ctr := ⟨R.SDH_TOCNT, some ⟨0x4000d108, 1, 1⟩, false⟩
def C.DMC_CECNT : Ctr := ⟨R.DMC_CECNT, some ⟨0x4000e118, 0, 0⟩, false⟩
def C.DMC_UECNT : Ctr := ⟨R.DMC_UECNT, some ⟨0x4000e118, 1, 1⟩, false⟩
def C.DMC_SCRUBPASS : Ctr := ⟨R.DMC_SCRUBPASS, some ⟨0x4000e118, 2, 2⟩, false⟩
def C.DMC_SCRUBDEF : Ctr := ⟨R.DMC_SCRUBDEF, some ⟨0x4000e118, 3, 3⟩, false⟩
def C.DMC_SCRUBFORCED : Ctr := ⟨R.DMC_SCRUBFORCED, some ⟨0x4000e118, 4, 4⟩, false⟩
def C.DMC_PANICCNT : Ctr := ⟨R.DMC_PANICCNT, some ⟨0x4000e118, 5, 5⟩, false⟩
def C.HLD_REJECT : Ctr := ⟨R.HLD_REJECT, some ⟨0x4100105c, 1, 1⟩, false⟩
def C.PTP_RXDROP : Ctr := ⟨R.PTP_RXDROP, some ⟨0x41002028, 0, 0⟩, false⟩
def C.PTP_TCSKIP : Ctr := ⟨R.PTP_TCSKIP, some ⟨0x41002028, 1, 1⟩, false⟩
def C.MTX_COMMITS : Ctr := ⟨R.MTX_COMMITS, none, false⟩
def C.MTX_REFUSED : Ctr := ⟨R.MTX_REFUSED, some ⟨0x42000124, 0, 0⟩, false⟩
def C.MTX_DLY_LOST : Ctr := ⟨R.MTX_DLY_LOST, some ⟨0x42000124, 2, 2⟩, false⟩
def C.MTX_DLY_DROP : Ctr := ⟨R.MTX_DLY_DROP, some ⟨0x42000124, 3, 3⟩, false⟩
def C.MTX_SKEW_OVF : Ctr := ⟨R.MTX_SKEW_OVF, some ⟨0x42000124, 4, 4⟩, false⟩
def C.MTX_SPEC_HOLDC : Ctr := ⟨R.MTX_SPEC_HOLDC, some ⟨0x42000124, 5, 5⟩, false⟩
def C.MTX_COLD : Ctr := ⟨R.MTX_COLD, some ⟨0x42000124, 6, 6⟩, false⟩
def C.MTX_SUM_SAT : Ctr := ⟨R.MTX_SUM_SAT, some ⟨0x42000124, 7, 7⟩, false⟩
def C.MTX_GAP : Ctr := ⟨R.MTX_GAP, some ⟨0x42000124, 9, 9⟩, false⟩
def C.MTX_BTN (i : Nat) : Ctr := ⟨R.MTX_BTN i, none, false⟩
def C.LNE_RXUNIT (n : Nat) : Ctr := ⟨R.LNE_RXUNIT n, some ⟨0x42010130 + 0x1000 * n, 0, 0⟩, false⟩
def C.LNE_RXFAIL (n : Nat) : Ctr := ⟨R.LNE_RXFAIL n, some ⟨0x42010130 + 0x1000 * n, 1, 1⟩, false⟩
def C.LNE_RXBTN (n : Nat) : Ctr := ⟨R.LNE_RXBTN n, some ⟨0x42010130 + 0x1000 * n, 2, 2⟩, false⟩
def C.LNE_SYNCERR (n : Nat) : Ctr := ⟨R.LNE_SYNCERR n, some ⟨0x42010130 + 0x1000 * n, 3, 3⟩, false⟩
def C.LNE_BLKLOSS (n : Nat) : Ctr := ⟨R.LNE_BLKLOSS n, some ⟨0x42010130 + 0x1000 * n, 4, 4⟩, false⟩
def C.LNE_SFBAD (n : Nat) : Ctr := ⟨R.LNE_SFBAD n, some ⟨0x42010130 + 0x1000 * n, 5, 5⟩, false⟩
def C.LNE_SFLOSS (n : Nat) : Ctr := ⟨R.LNE_SFLOSS n, some ⟨0x42010130 + 0x1000 * n, 6, 6⟩, false⟩
def C.LNE_FECCOR (n : Nat) : Ctr := ⟨R.LNE_FECCOR n, some ⟨0x42010130 + 0x1000 * n, 7, 7⟩, false⟩
def C.LNE_FECUNC (n : Nat) : Ctr := ⟨R.LNE_FECUNC n, some ⟨0x42010130 + 0x1000 * n, 8, 8⟩, false⟩
def C.LNE_TXUNIT (n : Nat) : Ctr := ⟨R.LNE_TXUNIT n, some ⟨0x42010130 + 0x1000 * n, 9, 9⟩, false⟩
def C.LNE_TXLATEC (n : Nat) : Ctr := ⟨R.LNE_TXLATEC n, some ⟨0x42010130 + 0x1000 * n, 10, 10⟩, false⟩
def C.SRC_FMTERR : Ctr := ⟨R.SRC_FMTERR, some ⟨0x4204010c, 0, 0⟩, false⟩
def C.SRC_FORCED : Ctr := ⟨R.SRC_FORCED, some ⟨0x4204010c, 1, 1⟩, false⟩
def C.SRC_CONVSAT : Ctr := ⟨R.SRC_CONVSAT, some ⟨0x4204010c, 2, 2⟩, false⟩
def C.SRC_GSAT (i : Nat) : Ctr := ⟨R.SRC_GSAT i, none, false⟩
def C.HVS_MSGS (i : Nat) : Ctr := ⟨R.HVS_MSGS i, none, false⟩
def C.HVS_DROP (i : Nat) : Ctr := ⟨R.HVS_DROP i, none, false⟩
def C.HVS_FAIL (i : Nat) : Ctr := ⟨R.HVS_FAIL i, none, false⟩
def C.CLS_MISS : Ctr := ⟨R.CLS_MISS, some ⟨0x420601e0, 0, 0⟩, false⟩
def C.CLS_FALSE : Ctr := ⟨R.CLS_FALSE, some ⟨0x420601e0, 1, 1⟩, false⟩
def C.CLS_KEYDROP : Ctr := ⟨R.CLS_KEYDROP, some ⟨0x420601e0, 2, 2⟩, false⟩
def C.CLS_FQDROP : Ctr := ⟨R.CLS_FQDROP, some ⟨0x420601e0, 3, 3⟩, false⟩
def C.CLS_BADDEST : Ctr := ⟨R.CLS_BADDEST, some ⟨0x420601e0, 4, 4⟩, false⟩
def C.CLS_LOOP : Ctr := ⟨R.CLS_LOOP, some ⟨0x420601e0, 5, 5⟩, false⟩
def C.CLS_HIT (i : Nat) : Ctr := ⟨R.CLS_HIT i, none, true⟩
def C.AUT_REPORTS (i : Nat) : Ctr := ⟨R.AUT_REPORTS i, none, false⟩
def C.AUT_RPTOVF (i : Nat) : Ctr := ⟨R.AUT_RPTOVF i, some ⟨0x42070134 + 0x40 * i, 0, 0⟩, false⟩
def C.AUT_INDROP (i : Nat) : Ctr := ⟨R.AUT_INDROP i, some ⟨0x42070134 + 0x40 * i, 1, 1⟩, false⟩
def C.AUT_FORCED (i : Nat) : Ctr := ⟨R.AUT_FORCED i, some ⟨0x42070134 + 0x40 * i, 2, 2⟩, false⟩
def C.CIP_RXNOSA : Ctr := ⟨R.CIP_RXNOSA, some ⟨0x4208003c, 0, 0⟩, false⟩
def C.CIP_TXABORT : Ctr := ⟨R.CIP_TXABORT, some ⟨0x4208003c, 1, 1⟩, false⟩
def C.CIP_IVSKIP : Ctr := ⟨R.CIP_IVSKIP, some ⟨0x4208003c, 2, 2⟩, false⟩
def C.CIP_SAC_OK (i : Nat) : Ctr := ⟨R.CIP_SAC_OK i, none, false⟩
def C.CIP_SAC_ICVFAIL (i : Nat) : Ctr := ⟨R.CIP_SAC_ICVFAIL i, none, false⟩
def C.CIP_SAC_LATE (i : Nat) : Ctr := ⟨R.CIP_SAC_LATE i, none, false⟩

end Sys2Proof.Machine
end

