-- ==== Sys2Proof/Machine/Tab.lean ====
section
/-! DEFINITION. Sparse tables: lists of (key, value) pairs, sorted by key, an unlisted key reading as a given value.
Memories, register files and arrays of the state are held so. -/

namespace Sys2Proof.Machine

/-- What a table holds at a key: its entry, or `d` where it lists none. -/
def tget {α : Type} (d : α) : List (Nat × α) → Nat → α
  | [], _ => d
  | (j, v) :: r, k => if j = k then v else tget d r k

/-- The table with the key set, its order kept. -/
def tput {α : Type} : List (Nat × α) → Nat → α → List (Nat × α)
  | [], k, v => [(k, v)]
  | (j, w) :: r, k, v =>
    if k < j then (k, v) :: (j, w) :: r
    else if k = j then (k, v) :: r
    else (j, w) :: tput r k v

/-- The table without an entry at the key. -/
def tdel {α : Type} (m : List (Nat × α)) (k : Nat) : List (Nat × α) :=
  m.filter (fun p => p.1 != k)

/-- Set a key in canonical form: the value an unlisted key reads as is not listed. -/
def tset {α : Type} [DecidableEq α] (d : α) (m : List (Nat × α)) (k : Nat) (v : α) : List (Nat × α) :=
  if v = d then tdel m k else tput m k v

/-- The table without the keys from `lo` up to but not including `hi`. -/
def tclear {α : Type} (m : List (Nat × α)) (lo hi : Nat) : List (Nat × α) :=
  m.filter (fun p => p.1 < lo || hi ≤ p.1)

/-- Keys strictly rising. -/
def tsorted {α : Type} : List (Nat × α) → Bool
  | [] => true
  | [_] => true
  | (j, _) :: (k, w) :: r => decide (j < k) && tsorted ((k, w) :: r)

/-- The canonical form: keys strictly rising and no entry equal to what an unlisted key reads as. -/
def tcanon {α : Type} [DecidableEq α] (d : α) (m : List (Nat × α)) : Bool :=
  tsorted m && m.all (fun p => p.2 != d)

end Sys2Proof.Machine
end

