-- ==== Sys2Proof/Machine/State.lean ====
section
/-! DEFINITION. The state of the TG6024: every register, memory, queue, table, timer and mode the spec gives it, as plain
data, the queue of commands that wait, and the state right after reset. -/

namespace Sys2Proof.Machine

/-- Why a command has no effect the model can give. Never raised: every command of the table has a meaning on every state
(R71 gives even a dropped write an effect). Kept so that the outcome type is complete; safe. -/
inductive Fault where
  /-- Nothing raises this. Safe. -/
  | none
deriving DecidableEq, Repr

/-- Why a command is refused. -/
inductive Refusal where
  /-- The dispatch arm of a command that has no meaning yet. Safe: the model stops. -/
  | notModelled (mnemonic : String)
deriving DecidableEq, Repr

/-! ### The interconnect's last answer -/

/-- The answer the last bus access got: its requester, the word read, whether it was an error response (R62, R74), and the
bytes a transaction of several beats read. -/
structure Answer where
  rid : Rid := 0
  data : Word := 0
  err : Bool := false
  bytes : List Byte := []
deriving DecidableEq, Repr

/-- A shadow pair that waits for its second write (R80): register, requester, value, and the time of the first write. -/
structure ShadowPair where
  addr : Nat := 0
  rid : Rid := 0
  value : Word := 0
  at_ : Nat := 0
deriving DecidableEq, Repr

/-! ### Power (chapter 20) -/

/-- A switch request: domain and action, 0 OFF, 1 ON, 2 RET (R482). -/
structure PwrReq where
  domain : Nat := 0
  action : Nat := 0
deriving DecidableEq, Repr

/-- A switch in progress (R484, R485): the request, whether Vigil made it, the time the switch
started, and whether the rails have been reported good. -/
structure PwrSwitch where
  req : PwrReq := {}
  internal : Bool := false
  start : Nat := 0
  rails : Bool := false
deriving DecidableEq, Repr

/-- Power control beside its registers: the queue of 8, Vigil's own requests, the switch in progress, and the domains
thermal shedding holds off (R482, R490). -/
structure PwrSt where
  queue : List PwrReq := []
  vigil : List PwrReq := []
  active : Option PwrSwitch := none
  shed : Bool := false
deriving DecidableEq, Repr

/-! ### Reset and boot (chapter 21) -/

/-- A system reset in progress (R501): the cause, the domains held in reset, when it began, and whether a class 3 zeroing
is still to end. -/
structure SysReset where
  cause : Nat := 0
  scope : List Nat := []
  at_ : Nat := 0
  zeroing : Bool := false
deriving DecidableEq, Repr

/-- How far the start after a reset has come. -/
inductive StartPhase where
  | por        -- the power-on reset is asserted (R495)
  | waitCore   -- Vigil waits for VDD_CORE (R498)
  | hold       -- a system reset holds its domains (R501 step 1)
  | bootSet    -- the boot set is being switched on (R501 step 2)
  | running    -- T0 has entered RUN, or no reset is in progress
deriving DecidableEq, Repr

/-- What the boot ROM does (R510 to R520): whether it runs, the sources it tries (1 store, 2 SD, 3 Niquevor) and the present
one, the domains it asked for, since when it waits for an image over Niquevor, whether one has come and whether one has been
checked, and the entry point of the image it accepted. -/
structure BootSt where
  active : Bool := false
  sources : List Nat := []
  index : Nat := 0
  asked : List Nat := []
  waitFrom : Nat := 0
  received : Option Nat := none
  checked : Bool := false
  entry : Option Nat := none
deriving DecidableEq, Repr

/-- Reset control beside its registers. Times in ns of `now`. The real-time clock counts since `rtcZero`; `rtcLostNext` sets
RTC_LOST at the next release of the power-on reset, and a loss of the crystal while it is asserted is kept in `slowLostAt`;
`pinSince` says when the pin took its level; `coreGood` whether VDD_CORE is good, since `coreAt`; `brown` whether the reset in
progress waits for it after a brown-out. -/
structure RstSt where
  phase : StartPhase := .running
  sys : Option SysReset := none
  heldBy : List Nat := []
  rtcZero : Nat := 0
  rtcLostNext : Bool := false
  slowLostAt : Option Nat := none
  pinLow : Bool := false
  pinSince : Nat := 0
  wdogFrom : Nat := 0
  coreGood : Bool := false
  coreAt : Nat := 0
  brown : Bool := false
  rstOutHigh : Bool := false
  outAt : Option Nat := none
  boot : BootSt := {}
deriving DecidableEq, Repr

/-! ### Tamper (chapter 16) -/

/-- A report on its way to the supervisor: source k, DETAIL, DETAIL2, and the unit a class 1 response resets: the base of a
register block, or a domain (R397, R401). -/
structure TmpReport where
  source : Nat := 0
  detail : Nat := 0
  detail2 : Nat := 0
  unit : Nat := 0
deriving DecidableEq, Repr

/-- One 16-byte entry of the tamper log (R405). -/
structure TmpEntry where
  w0 : Word := 0
  w1 : Word := 0
  w2 : Word := 0
  w3 : Word := 0
deriving DecidableEq, Repr

/-- The supervisor beside its registers: reports in flight, the times in µs of each source's hits since its history was
cleared, the log, the next SEQ, when the first class 0 entry not yet written was logged, whether the system reset in
progress has made its wipe, and the change marker of the log image (R531). -/
structure TmpSt where
  reports : List TmpReport := []
  hits : List (Nat × List Nat) := []
  log : List TmpEntry := []
  seq : Nat := 0
  unwritten : Option Nat := none
  wiped : Bool := false
  marker : Nat := 0
deriving DecidableEq, Repr

/-! ### Non-volatile store, fuses, entropy (chapter 15) -/

/-- Who asked for a store operation (R383, R385). -/
inductive NvsWho where
  | firmware (rid : Rid)
  | hld
  | responder
  | tamper
deriving DecidableEq, Repr

/-- What a store request does. A multi-page request writes its pages back to back (R385). -/
inductive NvsOp where
  | read (page : Nat)
  | write (page : Nat)
  | inc (counter : Nat)
  | roleKey (role : Nat) (key : BitVec 256)
  | badRange
  | almanac
  | tamperLog
  | persistSave
  | persistEmpty
deriving DecidableEq, Repr

/-- A request of the store's queue. -/
structure NvsReq where
  who : NvsWho := .hld
  op : NvsOp := .badRange
deriving DecidableEq, Repr

/-- A role-key slot: generation, the keys by role, and whether the page passes R382 (R391). -/
structure RoleSlot where
  gen : Nat := 0
  keys : List (Option (BitVec 256)) := [none, none, none]
  good : Bool := true
deriving DecidableEq, Repr

/-- The store: page bytes by 1024 × page + byte, write counters, read-only and failing pages, the 1 KB buffer, the queue
with the operation in progress, the rotation in progress, counters, role keys (both slots and Vigil's retention copy),
the page images of the operation in progress, and requests held back by their requester. -/
structure NvsSt where
  data : List Host.Cell := []
  counts : List (Nat × Nat) := []
  readOnly : List Nat := []
  bad : List Nat := []
  spares : Nat := 16
  buf : List Host.Cell := []
  images : List (Nat × List Byte) := []
  queue : List NvsReq := []
  current : Option NvsReq := none
  held : List NvsReq := []
  rotation : Option Nat := none
  rotAt : Nat := 0
  rotations : List Nat := []
  mc : List (Nat × Word) := []
  mcExh : Nat := 0
  lost : Bool := false
  slotA : RoleSlot := {}
  slotB : RoleSlot := {}
  keys : List (Option (BitVec 256)) := [none, none, none]
deriving DecidableEq, Repr

/-- The fuse array by word index (R395, R396), trim fuses by the address of the register they load, the words programmed
since the last load, and the programming in progress (word, bits to set, since when). -/
structure FusSt where
  words : List (Nat × Word) := []
  trims : List (Nat × Word) := []
  fresh : List Nat := []
  program : Option (Nat × Word × Nat) := none
deriving DecidableEq, Repr

/-- The state of the CTR_DRBG (SP 800-90A, AES-256): key, V and calls since the last reseed. -/
structure Drbg where
  key : BitVec 256 := 0
  v : BitVec 128 := 0
  calls : Nat := 0
deriving DecidableEq, Repr

/-- The Brine pool beside its registers: the output FIFO of 256-bit blocks, the DRBG, DRBG output words not yet given to a
requester, times of the last failures, whether a start-up runs and since when, the raw samples behind TRN_RAW, and the
mask-generator reseeds that wait. -/
structure TrnSt where
  fifo : List (BitVec 256) := []
  drbg : Drbg := {}
  out : List Word := []
  fails : List Nat := []
  starting : Option Nat := none
  raw : List (BitVec 19) := []
deriving DecidableEq, Repr

/-! ### Calends, sources, DPLL, PTP (chapter 04) -/

/-- A TDC capture: TAI seconds [31:0], nanoseconds, and the rest in 2⁻¹⁶ ns (R101). -/
structure TdcCapture where
  sec : Nat := 0
  ns : Nat := 0
  sub : Nat := 0
deriving DecidableEq, Repr

/-- What Calends knows of one source S0 to S8: the Calends time of its last update in 2⁻¹⁶ ns, when in ns of `now` it came,
since when every expected update has come in period, how many periods and their sum, consecutive updates out of period,
when it qualified, its last error, phase in ps or for a frequency-only source frequency in 2⁻⁴⁸, and the phase error at the
first of its good updates (R114 to R120). -/
structure SrcSt where
  last : Option Nat := none
  lastAt : Nat := 0
  goodFrom : Option Nat := none
  periods : Nat := 0
  periodSum : Nat := 0
  badRun : Nat := 0
  qualifiedAt : Option Nat := none
  err : Int := 0
  errFrom : Int := 0
deriving DecidableEq, Repr

/-- Calends and the DPLL beside their registers. `t` is Calends in units of 2⁻⁴⁸ ns since TAI second 0: seconds,
nanoseconds, the 32-bit fraction, and what CAL_RATE adds below the fraction (R93, R96); `lockRun` consecutive updates
within the lock window; `acqFrom` the state the ACQUIRE was entered from; the frequency preset of ACQUIRE and the step that
waits (R120). -/
structure CalSt where
  t : Nat := 0
  sources : List (Nat × SrcSt) := []
  tdcQueue : List (Nat × List TdcCapture) := []
  tdcLatch : List (Nat × TdcCapture) := []
  lockRun : Nat := 0
  acqFrom : Nat := 0
  acqStep : Option Int := none
  preset : Int := 0
  lockedAt : Nat := 0
  ptpRxWait : List (Word × Nat × Word × List Byte) := []
deriving DecidableEq, Repr

/-! ### Holdover (chapter 05) -/

/-- The content of a 256-byte Almanac record (R139): generation, t_ref, last locked update, coefficients at the scales of
R128, T0, flags, covariance (15 × binary32), Q, locked minutes of 30 days, day, last-locked codes, HLD_KDAC. -/
structure Almanac where
  gen : Nat := 0
  tRef : Nat := 0
  lastLocked : Nat := 0
  coef : List Word := []
  t0 : BitVec 16 := 0
  created : Bool := false
  learnt : Bool := false
  p : List Word := []
  q : Word := 0
  minutes : List Nat := []
  day : Nat := 0
  dac0 : BitVec 21 := 0
  dac1 : BitVec 21 := 0
  kdac : Word := 0
deriving DecidableEq, Repr

/-- An accepted second kept for the anchor window (R135, R140): y, the regressor vector, and the two DAC codes. -/
structure AnchorSec where
  y : Word := 0
  x : List Word := []
  code0 : Nat := 0
  code1 : Nat := 0
deriving DecidableEq, Repr

/-- The steering copy of R146: coefficients, P, Q (binary32), T0, t_ref, Δ and the class. -/
structure SteerCopy where
  theta : List Word := []
  p : List Word := []
  q : Word := 0
  t0 : Int := 0
  tRef : Nat := 0
  delta : Word := 0
  seasoned : Bool := false
deriving DecidableEq, Repr

/-- A DAC range change in its hold: the range it goes to and the code to apply at its end (R150). -/
structure DacHold where
  range : Nat := 0
  code : Nat := 0
deriving DecidableEq, Repr

/-- The learner and the model beside their registers. Floats are binary32 words (R128). `work` is the working copy, none
while the Almanac is empty; `theta` its coefficients in floating point; the residual variance and the last residual; the
retention copy in Vigil and whether its check fails; sum and number of the unflagged temperatures of this second, the
valid T so far with the ns at which each second closed (latest first), when the last was valid and how many in a row; the accepted seconds (latest first);
STEP_CNT when this second began and whether an update was missed; y in 1/33 units, its sum over the second and since when;
the steering copy, the integrals G, when holdover was entered; whether E134 was raised;
whether the working copy changed since the last persistent write, and when that was; the start of the present second;
accepted seconds not yet a minute; whether the load of R142 has been made, and whether the model steers from FREE; DAC range changes in their hold; presence of VDD_EFC. -/
structure HldSt where
  work : Option Almanac := none
  theta : List Word := [0, 0, 0, 0, 0]
  sigma2 : Word := 0
  prevResid : Option Word := none
  retention : Option Almanac := none
  retentionBad : Bool := false
  tSum : Int := 0
  tCount : Nat := 0
  temps : List (Nat × Int) := []
  tValid : Bool := false
  lastValidAt : Nat := 0
  validRun : Nat := 0
  window : List AnchorSec := []
  stepCnt : Nat := 0
  missed : Bool := false
  yAcc : Int := 0
  yFrom : Nat := 0
  steer : Option SteerCopy := none
  integrals : List Word := [0, 0, 0, 0, 0]
  entryAt : Nat := 0
  warned : Bool := false
  changed : Bool := false
  persistAt : Nat := 0
  retAt : Nat := 0
  secAt : Nat := 0
  modelAt : Nat := 0
  lockedSec : Nat := 0
  loaded : Bool := false
  fromFree : Bool := false
  hold : List (Nat × DacHold) := []
  efc : Bool := true
deriving DecidableEq, Repr

/-! ### Saltern (chapter 06)

Sample times count periods of 122.88 MHz, 3125/384 ns each, since Calends zero. -/

/-- A receive sample inside Saltern: sample time, I and Q of 24 bits, the blank-carrier flag (R153, R154), and the
serial number of the receive unit it came in, 0 once that is confirmed. -/
structure RxSample where
  time : Nat := 0
  i : Int := 0
  q : Int := 0
  blank : Bool := false
  unit : Nat := 0
deriving DecidableEq, Repr

/-- A transmit sample: sample time, I, Q, the blank-carrier flag, and the serial numbers of receive units not yet
confirmed that contributed to it. -/
structure TxSample where
  time : Nat := 0
  i : Int := 0
  q : Int := 0
  blank : Bool := false
  deps : List Nat := []
deriving DecidableEq, Repr

/-- A receive container: the sample time next expected, when it last delivered, and whether it has timed out (R165). -/
structure RecvSt where
  next : Option Nat := none
  lastAt : Nat := 0
  lapsed : Bool := false
deriving DecidableEq, Repr

/-- A receive unit that is not yet confirmed (R177 to R180): its serial number, whether it is held back, the samples held,
the transmit containers that took a sample of it, and whether a route forwarded it. -/
structure UnitRec where
  serial : Nat := 0
  held : Bool := false
  samples : List RxSample := []
  tx : List Nat := []
  fwd : Bool := false
deriving DecidableEq, Repr

/-- A transmit container: the time of the next sample it forms, and formed samples that wait for the line; on a Varlas lane
the epoch being sent (its sample-time start), the next position in it, and the Bittern code: 0 none, 1 due at the next
position, 2 sent, so that the rest of the superframe carries zeros (R206). -/
structure TxCont where
  next : Option Nat := none
  out : List TxSample := []
  epoch : Nat := 0
  pos : Nat := 0
  bittern : Nat := 0
deriving DecidableEq, Repr

/-- A sample in a delay line: the sample time at which it leaves, the sample, and where it is: 0 waiting for its units,
1 in the on-die buffer, 2 in the DRAM, 3 read back, 4 lost and counted (R183 to R186). -/
structure LineEnt where
  due : Nat := 0
  smp : TxSample := {}
  place : Nat := 0
deriving DecidableEq, Repr

/-- A delay line in use: its transmit container, the period of its samples, the time of its next output, its samples. -/
structure LineSt where
  cont : Nat := 0
  next : Option Nat := none
  ents : List LineEnt := []
deriving DecidableEq, Repr

/-- Saltern beside its registers: both route tables by 8 × g + word; the boundary B of the commit in progress in Calends
ns, the changed entries and those switched; receive containers; skew buffers by 4 × g + slot under the Day entry and
6144 + 4 × g + slot under the Eve entry; transmit containers; unconfirmed units per receive container, oldest first,
and the last serial number; delay lines; captured samples that wait for confirmation, the sample time from which a capture waits;
and when E50 and E51 were last raised. -/
structure MtxSt where
  day : List (Nat × Word) := []
  eve : List (Nat × Word) := []
  boundary : Nat := 0
  changed : List Nat := []
  switched : List Nat := []
  recv : List (Nat × RecvSt) := []
  skew : List (Nat × List RxSample) := []
  conts : List (Nat × TxCont) := []
  units : List (Nat × List UnitRec) := []
  serial : Nat := 0
  lines : List (Nat × LineSt) := []
  capHeld : List TxSample := []
  capFrom : Nat := 0
  capTaken : Nat := 0
  evLimit : List (Nat × Nat) := []
deriving DecidableEq, Repr

/-! ### Lanes (chapter 07) -/

/-- Configuration words of one container: LNE_CFMT, LNE_CPOS, LNE_CCNT (R214). -/
structure ContCfg where
  fmt : Word := 0
  pos : Word := 0
  cnt : Word := 0
deriving DecidableEq, Repr

/-- A marker candidate: the block number at which it stands and the COUNT it carried last, and how many of its markers
have been seen (R209). -/
structure Candidate where
  block : Nat := 0
  count : Nat := 0
  seen : Nat := 0
deriving DecidableEq, Repr

/-- A frame between its lookup and its FCS: the bytes, ingress stamp (seconds, stamp word), the destination with its
argument, the entry that gave them, whether it is on its second pass, the receive container it fills, what each of its
searches won (an entry, or none for a miss), false hits met, why it is dropped (0 not, 1 key queue full, 2 loop, 3 bad
destination, 4 no container), and whether its integrity check failed (R245 to R248, R270). -/
structure RxFrame where
  bytes : List Byte := []
  sec : Nat := 0
  stamp : Nat := 0
  dest : Nat := 0
  arg : Nat := 0
  entry : Option Nat := none
  pass : Bool := false
  cont : Option Nat := none
  wins : List (Option Nat) := []
  falses : Nat := 0
  drop : Nat := 0
  bad : Bool := false
  engine : Option Nat := none
deriving DecidableEq, Repr

/-- What a lane's transmitter does. -/
inductive TxState where
  | idle       -- electrically idle (R193)
  | sending    -- framing or sending frames
  | phasing    -- 100 µs of zero superframes (R202)
deriving DecidableEq, Repr

/-- One lane beside its registers: containers by 64 × direction + c, marker candidates, the expected COUNT and the run of bad
markers, the transmitter with φ and since when it measures it, the last frame or block the line carried and whether it ended
in a Bittern code, the frame being received, the preset the equaliser moves to (as LNE_EQ [13:0]) and its next step. -/
structure LaneSt where
  conts : List (Nat × ContCfg) := []
  cands : List Candidate := []
  expCount : Nat := 0
  badRun : Nat := 0
  tx : TxState := .idle
  phi : Nat := 0
  phaseAt : Nat := 0
  lastTx : List Byte := []
  bittern : Bool := false
  rx : Option RxFrame := none
  eqTarget : Option Nat := none
  eqAt : Nat := 0
deriving DecidableEq, Repr

/-! ### Rate conversion and Harvest (chapter 08) -/

/-- One rate converter: staged and active program words, steps and coefficients, enable, the pending commit (0 none,
1 requested, 2 forced) and whether it is held, since when it is stalled, the input history (latest first), whether the
output in progress was discarded, TRUNC, REJ, DISC. -/
structure ConvSt where
  stg : Word := 0
  stgStep : Word := 0x01000000
  act : Word := 0
  actStep : Word := 0x01000000
  stgCoef : List (Nat × BitVec 18) := []
  actCoef : List (Nat × BitVec 18) := []
  en : Bool := false
  pend : Nat := 0
  held : Bool := false
  stalledAt : Option Nat := none
  hist : List RxSample := []
  void : Bool := false
  trunc : Bool := false
  rej : Bool := false
  disc : Nat := 0
deriving DecidableEq, Repr

/-- A slot of Harvest (R232 to R237): whether a message is in progress, its bytes so far and how many of them have been
written, whether its END has come, its stamp, whether it has a descriptor, whether a drop has been counted; in a transmit
slot, before which time of `now` no frame starts. -/
structure HvsMsg where
  active : Bool := false
  bytes : List Byte := []
  written : Nat := 0
  fin : Bool := false
  stamp : Nat := 0
  desc : Bool := false
  counted : Bool := false
  due : Nat := 0
deriving DecidableEq, Repr

/-! ### Classifier and automata (chapter 09) -/

/-- An entry of the classifier: value, mask, attributes (CLS_EATTR), action (CLS_EACT). -/
structure ClsEntry where
  value : BitVec 192 := 0
  mask : BitVec 192 := 0
  attr : Word := 0
  action : Word := 0
deriving DecidableEq, Repr

/-- An entry's match-array copy and its ECC-protected stored copy, its valid bit, and whether the stored copy has an
uncorrectable error (R253, R254). -/
structure ClsSlot where
  arr : ClsEntry := {}
  stored : ClsEntry := {}
  valid : Bool := false
  uncor : Bool := false
deriving DecidableEq, Repr

/-- The classifier beside its registers: entries, the command in progress with its entry, when the search pipeline is free
again and the keys each port has waiting since, when Rake's next background step is due, its next entry and deferrals,
frames waiting for a firmware queue (queue, word 0, frame), and when E67 was last raised. -/
structure ClsSt where
  entries : List (Nat × ClsSlot) := []
  command : Option (Nat × Nat) := none
  freeAt : Nat := 0
  keys : List (Nat × Nat) := []
  rakeDue : Nat := 0
  rakeAt : Nat := 0
  rakeDefer : Nat := 0
  fqWait : List (Nat × Word × RxFrame) := []
  dropAt : Option Nat := none
deriving DecidableEq, Repr

/-- A report of an engine: state, code, byte offset, message number, stamp (R259). -/
structure AutReport where
  state : Nat := 0
  code : Nat := 0
  offset : Nat := 0
  msg : Nat := 0
  stamp : Nat := 0
deriving DecidableEq, Repr

/-- A message of an engine's input whose outcome or whose words are still awaited: number, stamp, whether its last byte has
come, whether words came since the last confirmation, whether the rest was cut off at a full queue, whether the engine has
consumed it, and its outcome: 0 open, 1 confirmed, 2 failed (R258, R259). -/
structure AutMsg where
  no : Nat := 0
  stamp : Nat := 0
  fin : Bool := false
  fresh : Bool := false
  cut : Bool := false
  done : Bool := false
  outcome : Nat := 0
deriving DecidableEq, Repr

/-- A word of an engine's input queue: up to 8 bytes, its message, whether it is the first or the last of it. -/
structure AutWord where
  bytes : List Byte := []
  no : Nat := 0
  start : Bool := false
  fin : Bool := false
deriving DecidableEq, Repr

/-- A Crystallizer engine: which of its two banks is active, both banks (by word offset) and class maps (by word), the
automaton's state and byte offset, the word in the shift register and what is left of it, the input queue, the messages in
it and the number of the next, held and posted reports, whether a message's rest is to be discarded, and the commit: 0
none, 1 requested, 2 forced, whether it is validated, and since when the engine is stalled. -/
structure AutSt where
  active1 : Bool := false
  bank0 : List (Nat × Word) := []
  bank1 : List (Nat × Word) := []
  map0 : List (Nat × Word) := []
  map1 : List (Nat × Word) := []
  inMsg : Bool := false
  skip : Option Nat := none
  state : Nat := 0
  offset : Nat := 0
  cur : AutWord := {}
  shift : List Byte := []
  inq : List AutWord := []
  msgs : List AutMsg := []
  nextNo : Nat := 0
  heldReports : List AutReport := []
  posted : List AutReport := []
  pend : Nat := 0
  validated : Bool := false
  stalledAt : Option Nat := none
deriving DecidableEq, Repr

/-! ### Cipher and PKA (chapter 10) -/

/-- A key page: 512 bits, claimed, loaded, owner (R280). -/
structure KeyPage where
  bits : BitVec 512 := 0
  claimed : Bool := false
  loaded : Bool := false
  owner : Rid := 0
deriving DecidableEq, Repr

/-- The line cipher and the PKA beside their registers: per pipeline the missed and the good reseeds in a row, the self-tests
under way, and the 25 lanes of its mask generator; when E80 and E81 were last raised; key pages; the running
PKA command with its RID; and the hash left unfinished: its operation, length so far, hash value and tail. -/
structure CipSt where
  missed : List (Nat × Nat) := []
  good : List (Nat × Nat) := []
  tests : List Nat := []
  masks : List (Nat × List Nat) := []
  pages : List (Nat × KeyPage) := []
  pkaRun : Option (Word × Rid) := none
  hashOp : Option Nat := none
  hashLen : Nat := 0
  hashState : List Nat := []
  hashTail : List Byte := []
  rate : List (Nat × Nat) := []
deriving DecidableEq, Repr

/-! ### Haerzer (chapters 11, 12) -/

/-- A thread: its state (0 OFF, 1 RUN, 2 WAIT, 3 HALT), pc and the address of its last instruction, globals, ring and trap
windows, STS, WST, trap registers, WSP, SIG, WMASK, WTIM with the time it counts from, the CYCLE snapshot, the destination of
an EWAIT in progress and since when it waits, and since when HX has been held. Windows are keyed by 32 × w + 0..7 (up) and
32 × w + 8..15 (private) for w = 0 to 10, and W11's 24 registers by 352 + 0..23. -/
structure Thread where
  run : Nat := 0
  pc : Word := 0
  pcs : Word := 0
  globals : List (Nat × Word) := []
  win : List (Nat × Word) := []
  ml : Nat := 7
  hx : Bool := false
  warden : Bool := true
  hdepth : Nat := 0
  depth : Nat := 0
  wptr : Nat := 0
  epc : Word := 0
  ecause : Word := 0
  einfo : Word := 0
  estate : Word := 0
  evec : Word := 0
  wsp : Word := 0
  sig : BitVec 16 := 0
  wmask : BitVec 25 := 0
  wtim : Word := 0
  wtimFrom : Nat := 0
  cycSnap : Nat := 0
  waitRd : Nat := 0
  waitAt : Nat := 0
  hxSince : Nat := 0
deriving DecidableEq, Repr

/-- An entry of a core's store buffer: issuing thread and its Warden bit, the threads whose stores merged into it, 16-byte
aligned address, the bytes and which are written, whether it is cacheable (R314, R315). -/
structure SbEntry where
  thread : Nat := 0
  warden : Bool := true
  also : List Nat := []
  addr : Nat := 0
  bytes : List (Nat × Byte) := []
  cacheable : Bool := false
deriving DecidableEq, Repr

/-- A cache line: its bytes where they differ from zero, whether it is dirty (R310), and whether it came from the boot ROM,
whose bytes the spec does not give. -/
structure CacheLine where
  bytes : List (Nat × Byte) := []
  dirty : Bool := false
  rom : Bool := false
deriving DecidableEq, Repr

/-- A core: store buffer, data and instruction cache by line address, whether it dozes and since when, when its domain came
up, and the nanoseconds its clock has been stopped since then. -/
structure CoreSt where
  sb : List SbEntry := []
  dcache : List (Nat × CacheLine) := []
  icache : List (Nat × CacheLine) := []
  dozing : Bool := false
  dozeAt : Nat := 0
  dozed : Nat := 0
  upAt : Nat := 0
deriving DecidableEq, Repr

/-- The event controller beside its registers: when each pending event became pending, and the threads that redirected level-7
events go to (R336). -/
structure EvtSt where
  raisedAt : List (Nat × Nat) := []
  redir : List (Nat × Nat) := []
deriving DecidableEq, Repr

/-! ### Trace, debug and the TAP (chapter 13) -/

/-- A trace packet in a core's queue (R339): its bytes. -/
structure TracePkt where
  bytes : List Byte := []
deriving DecidableEq, Repr

/-- Trace and debug beside their registers: the 64 KB buffer and how many of its bytes are held unstreamed, each core's
queue of packets, its pending OVERFLOW count and its packets since the last SYNC; the TAP's instruction, boundary register
and EXTEST hold; the debug session's nonce, attempt, level, error and failures. -/
structure TrcSt where
  buf : List Host.Cell := []
  fill : Nat := 0
  queues : List (Nat × List TracePkt) := []
  lostPend : List (Nat × Nat) := []
  sinceSync : List (Nat × Nat) := []
  cold : List Nat := []
  atoms : List (Nat × List Bool) := []
  tapIr : Nat := 1
  boundary : List Bool := []
  extest : Bool := false
  nonce : Option (BitVec 128) := none
  attempt : Option (Nat × Bool) := none
  level : Nat := 0
  dbgErr : Nat := 0
  dbgFails : List Nat := []
  lockUntil : Option Nat := none
  dbgData : Word := 0
deriving DecidableEq, Repr

/-! ### Interconnect and DMA (chapter 14) -/

/-- A locked sequence in progress: master, target, address, time of the locked read (R360). -/
structure BusLock where
  master : Nat := 0
  target : Nat := 0
  addr : Nat := 0
  at_ : Nat := 0
deriving DecidableEq, Repr

/-- What a DMA channel is doing: source, destination and bytes left, whether addresses are fixed, whether it raises DONE at
its end, the next descriptor of a chain, and the requester's Warden bit. -/
structure DmaRun where
  src : Nat := 0
  dst : Nat := 0
  left : Nat := 0
  sfix : Bool := false
  dfix : Bool := false
  irq : Bool := false
  next : Option Nat := none
  loading : Bool := false
  abort : Bool := false
deriving DecidableEq, Repr

/-- The interconnect beside its registers: the lock and the running DMA channels. -/
structure IcSt where
  lock : Option BusLock := none
  dma : List (Nat × DmaRun) := []
deriving DecidableEq, Repr

/-! ### Housekeeping (chapter 17) -/

/-- Housekeeping beside its registers: the band Vigil holds, CRIT and the forbid of R427, held in Vigil; when the last round began, whether it is
in progress and its next channel, a start that EN or the power-up calls for, and whether EN was set during a round; runs of
rounds; samples of the last 100 ms per temperature channel; the channel of a foreground conversion; the calibration step, its
deferrals, and the slot of the last one. -/
structure HkSt where
  vigilBand : Option Nat := none
  crit : Bool := false
  forbid : Bool := false
  roundAt : Option Nat := none
  inRound : Bool := false
  startAt : Option Nat := none
  again : Bool := false
  nextCh : Nat := 0
  bandRun : Nat := 0
  bandDir : Nat := 0
  judged : Bool := false
  critRun : Nat := 0
  coolRun : Nat := 0
  disRun : Nat := 0
  agreeRun : Nat := 0
  rangeThisRound : Bool := false
  susUntil : Nat := 0
  fgAt : Option Nat := none
  fgCh : Nat := 0
  calStep : Option Nat := none
  calDefer : Nat := 0
  calSeen : Option Nat := none
  slotAt : Nat := 0
  supRun : List (Nat × Nat) := []
  rorSum : List (Nat × Int × Nat) := []
  rorPrev : List (Nat × Int × Nat) := []
  rorRounds : Nat := 0
  rorAt : Nat := 0
  scapT : Option Int := none
deriving DecidableEq, Repr

/-! ### DRAM controller (chapter 18) -/

/-- The DRAM controller beside its registers: memory by controller address, 8-byte words (controller address / 8) that hold
an uncorrectable or a single-bit error, the first unfreeze word with its RID and time, whether a resume is under way, the
next scrub line and the run of deferrals, the refresh interval in ns and the timing set in force, the band received since
PD20 came up, when the last ZQ calibration was made, whether the initialisation in progress is a restore, when E97 was last
raised, and the line of the last freeze. -/
structure DmcSt where
  mem : List Host.Cell := []
  badWords : List Nat := []
  softWords : List Nat := []
  unf : Option (Rid × Nat) := none
  resuming : Bool := false
  scrubAt : Nat := 0
  scrubDefer : Nat := 0
  interval : Nat := 1950
  timingH : Bool := true
  band : Option Nat := none
  zqAt : Nat := 0
  restore : Bool := false
  ceAt : Option Nat := none
  failLine : Nat := 0
deriving DecidableEq, Repr

/-! ### Cards (chapter 19) -/

/-- The identity-card interface beside its registers: the supply, class, reset and clock pins, both buffers, the class in use
(0 C, 1 B, 2 A), when the card's reset rises and when the next class is tried, the PPS request sent, what T=0 still has to
move, the bytes received so far, the protocols the ATR offers, and the EDC kind of T=1. -/
structure IdcSt where
  ven : Bool := false
  vsel : Nat := 0
  rst : Bool := false
  clock : Bool := false
  tx : List (Nat × Byte) := []
  rx : List (Nat × Byte) := []
  classNow : Nat := 0
  stepAt : Nat := 0
  retryAt : Option Nat := none
  ppsReq : List Byte := []
  rxBytes : List Byte := []
  dataLeft : Nat := 0
  inDir : Bool := false
  edcCrc : Bool := false
deriving DecidableEq, Repr

/-- The SD host beside its registers: supply pins, the operation running (as SDH_OP.OP; 15 for initialisation, 14 for
tuning) with its memory address and blocks left, whether STOP was written, the capacity in blocks, whether the card is
locked. -/
structure SdhSt where
  pwren : Bool := false
  vsel : Bool := false
  op : Nat := 0
  addr : Nat := 0
  left : Nat := 0
  stop : Bool := false
  capacity : Nat := 0
  locked : Bool := false
deriving DecidableEq, Repr

/-! ### Niquevor (chapters 02, 22) -/

/-- A session of the responder (R42 to R46): its value, role and port, the device nonce and the session key, the last SEQ of
each direction, whether the Answer has been accepted, when the last frame was accepted, and whether a request is under way. -/
structure Session where
  id : Nat := 0
  role : Nat := 0
  port : Nat := 0
  nd : BitVec 128 := 0
  key : BitVec 256 := 0
  seqIn : Nat := 0
  seqOut : Nat := 0
  isOpen : Bool := false
  lastAt : Nat := 0
  busy : Bool := false
deriving DecidableEq, Repr

/-- A segmented transfer: who opened it (port, session), object, direction, whether firmware serves it, total, next offset,
the image read or the data so far, the change marker noted at its start, and when its last segment came. -/
structure Transfer where
  port : Nat := 0
  session : Nat := 0
  index : Nat := 0
  sub : Nat := 0
  isWrite : Bool := false
  fw : Bool := false
  total : Nat := 0
  offset : Nat := 0
  data : List Byte := []
  marker : Nat := 0
  at_ : Nat := 0
deriving DecidableEq, Repr

/-- A frame the responder sends: port, session, kind, what its sending does (0 nothing, 1 the session's request is answered,
2 that and the system reset of R536 begins), and the bytes of the frame. -/
structure NqOut where
  port : Nat := 0
  session : Nat := 0
  kind : Nat := 0
  mark : Nat := 0
  bytes : List Byte := []
deriving DecidableEq, Repr

/-- An entry of the delegation ring that firmware has not released (R56, R57): ring entry, who asked, object, operation, offset,
value length, the value or segment data it carries; the bytes of a written segment still to pass, or those of a read one so
far; the offset of the segment and whether it is the last; when it was made; whether it has been answered for firmware. -/
structure Delegation where
  entry : Nat := 0
  port : Nat := 0
  session : Nat := 0
  index : Nat := 0
  sub : Nat := 0
  op : Nat := 0
  offset : Nat := 0
  len : Nat := 0
  part : List Byte := []
  rest : List Byte := []
  base : Nat := 0
  last : Bool := false
  at_ : Nat := 0
  dead : Bool := false
deriving DecidableEq, Repr

/-- A bulletin instance: number, due time in ns of `now`, and as the TIME value its frame carries. -/
structure BulInst where
  number : Nat := 0
  due : Nat := 0
  time : Nat := 0
deriving DecidableEq, Repr

/-- The hardware responder beside its registers: frames that wait; sessions; per port the times of Answer failures and the end
of a lockout; transfers; frames to send, the last frame sent and the last bytes on the field port; unreleased ring entries;
when each enabled bulletin is next due, the queue, the backlogs and the bulletins sent; present values of RWP objects by
index × 256 + subindex as natural numbers (R527); the state of a save and the entries skipped at the last load; the state of a
restore-defaults; the result of the last key install; the change marker of the Eve table (R531), who waits for an Eve image to
be copied, and when a system reset asked for is due. -/
structure NqSt where
  waiting : Nat := 0
  sessions : List Session := []
  fails : List (Nat × List Nat) := []
  lockUntil : List (Nat × Nat) := []
  xfers : List Transfer := []
  out : List NqOut := []
  sent : Option NqOut := none
  sentBytes : List Byte := []
  deleg : List Delegation := []
  nextDue : List (Nat × Nat) := []
  bulQueue : List BulInst := []
  backlog : List (Nat × List BulInst) := []
  bulSeq : Nat := 0
  objects : List (Nat × Nat) := []
  saveState : Nat := 0
  skipped : Nat := 0
  restorePend : Bool := false
  restoreDue : Bool := false
  emptyWrite : Bool := false
  keyResult : Nat := 0
  eveMark : Nat := 0
  eveImage : Option (Nat × Nat) := none
  resetAt : Option Nat := none
deriving DecidableEq, Repr

/-- The state of the block. -/
structure State where
  /-- The commands that wait, first in, first out. -/
  pending : List Instr := []
  /-- True time in ns since the state of reset. -/
  now : Nat := 0
  /-- How many free values the model has drawn; the model's own, not the spec's. -/
  free : Nat := 0
  /-- The registers whose value differs from their reset value, or has been written, by address. -/
  regs : List (Nat × Word) := []
  /-- Snapshots of the high words of multi-word counters, by the address of the high word (R85). -/
  snaps : List (Nat × Word) := []
  /-- Dictionary counts of events since the reset of their block, by 64 × address + lowest bit of the counter (R524). -/
  dict : List (Nat × Nat) := []
  /-- Staging words of writable multi-word counters, by address (R86). -/
  staged : List (Nat × Word) := []
  /-- Shadow pairs that wait for their second write (R80). -/
  pairs : List ShadowPair := []
  /-- The answer to the last bus access. -/
  answer : Answer := {}
  /-- SB0 to SB3 by byte address (R59). -/
  sram : List Host.Cell := []
  pwr : PwrSt := {}
  rst : RstSt := {}
  tmp : TmpSt := {}
  nvs : NvsSt := {}
  fus : FusSt := {}
  trn : TrnSt := {}
  cal : CalSt := {}
  hld : HldSt := {}
  mtx : MtxSt := {}
  /-- Lanes by number; an unlisted lane is in its initial state. -/
  lanes : List (Nat × LaneSt) := []
  /-- Rate converters by number. -/
  convs : List (Nat × ConvSt) := []
  /-- Harvest messages in progress by slot. -/
  hvs : List (Nat × HvsMsg) := []
  cls : ClsSt := {}
  /-- Crystallizer engines by number. -/
  aut : List (Nat × AutSt) := []
  cip : CipSt := {}
  /-- Threads by number; an unlisted thread is in its initial state. -/
  threads : List (Nat × Thread) := []
  /-- Cores by number. -/
  cores : List (Nat × CoreSt) := []
  evt : EvtSt := {}
  trc : TrcSt := {}
  ic : IcSt := {}
  hk : HkSt := {}
  dmc : DmcSt := {}
  idc : IdcSt := {}
  sdh : SdhSt := {}
  nq : NqSt := {}
deriving DecidableEq, Repr

/-! ### Right after reset -/

/-- The nominal of each supply channel 6 to 17 in mV behind its divider (R413, R429, R539). -/
def supplyNominals : List Nat := [750, 750, 800, 900, 900, 1200, 1200, 900, 1650, 900, 1250, 1350]

/-- A code of the housekeeping converter, to the nearest, at a percentage of a voltage in mV: 4096 codes are 1.8 V (R413). -/
def windowCode (mv percent : Nat) : Word := BitVec.ofNat 32 ((2 * mv * percent * 4096 + 180000) / 360000)

/-- The trim fuses the spec gives: the supply windows at 5 % to either side of nominal (R429; log entry 53). -/
def fusedWindows : List (Nat × Word) :=
  ((List.range 12).zip supplyNominals).flatMap (fun p =>
    [(R.HK_SUP_LO p.1, windowCode p.2 95), (R.HK_SUP_HI p.1, windowCode p.2 105)])

/-- The equalisation presets of the lanes, normal setting (R212). -/
def fusedPresets : List (Nat × Word) :=
  (List.range 24).map (fun n => (R.LNE_EQ n, (Config.eqPreset n 1).setWidth 32))

/-- The block right after the power-on reset is released on a new part (R495 to R498, and "First power-up at a new site" of
chapter 21): PD0 is ON and every other domain OFF, the store blank and no fuse but the trims programmed, an empty tamper log with
LOAD_FAIL, no role keys, the entropy source starting, RESET_N armed, and Vigil waiting for VDD_CORE. Registers not listed hold
the values of their tables. -/
def State.reset : State :=
  { regs := [(R.RST_STAT, 0x48000000#32), (R.TMP_STAT, 0x20#32)] ++ fusedWindows ++ fusedPresets
    rst := { phase := .waitCore }
    nvs := { lost := true }
    fus := { trims := fusedWindows }
    trn := { starting := some 0 } }

end Sys2Proof.Machine
end

