-- ==== Sys2Proof/Machine/Update.lean ====
section
/-! DEFINITION. One named update for each field of the state. -/

namespace Sys2Proof.Machine

/-- The state with another `pending`. -/
def State.withPending (s : State) (x : List Instr) : State := { s with pending := x }

/-- The state with another `now`. -/
def State.withNow (s : State) (x : Nat) : State := { s with now := x }

/-- The state with another `free`. -/
def State.withFree (s : State) (x : Nat) : State := { s with free := x }

/-- The state with another `regs`. -/
def State.withRegs (s : State) (x : List (Nat × Word)) : State := { s with regs := x }

/-- The state with another `snaps`. -/
def State.withSnaps (s : State) (x : List (Nat × Word)) : State := { s with snaps := x }

/-- The state with another `dict`. -/
def State.withDict (s : State) (x : List (Nat × Nat)) : State := { s with dict := x }

/-- The state with another `staged`. -/
def State.withStaged (s : State) (x : List (Nat × Word)) : State := { s with staged := x }

/-- The state with another `pairs`. -/
def State.withPairs (s : State) (x : List ShadowPair) : State := { s with pairs := x }

/-- The state with another `answer`. -/
def State.withAnswer (s : State) (x : Answer) : State := { s with answer := x }

/-- The state with another `sram`. -/
def State.withSram (s : State) (x : List Host.Cell) : State := { s with sram := x }

/-- The state with another `pwr`. -/
def State.withPwr (s : State) (x : PwrSt) : State := { s with pwr := x }

/-- The state with another `rst`. -/
def State.withRst (s : State) (x : RstSt) : State := { s with rst := x }

/-- The state with another `tmp`. -/
def State.withTmp (s : State) (x : TmpSt) : State := { s with tmp := x }

/-- The state with another `nvs`. -/
def State.withNvs (s : State) (x : NvsSt) : State := { s with nvs := x }

/-- The state with another `fus`. -/
def State.withFus (s : State) (x : FusSt) : State := { s with fus := x }

/-- The state with another `trn`. -/
def State.withTrn (s : State) (x : TrnSt) : State := { s with trn := x }

/-- The state with another `cal`. -/
def State.withCal (s : State) (x : CalSt) : State := { s with cal := x }

/-- The state with another `hld`. -/
def State.withHld (s : State) (x : HldSt) : State := { s with hld := x }

/-- The state with another `mtx`. -/
def State.withMtx (s : State) (x : MtxSt) : State := { s with mtx := x }

/-- The state with another `lanes`. -/
def State.withLanes (s : State) (x : List (Nat × LaneSt)) : State := { s with lanes := x }

/-- The state with another `convs`. -/
def State.withConvs (s : State) (x : List (Nat × ConvSt)) : State := { s with convs := x }

/-- The state with another `hvs`. -/
def State.withHvs (s : State) (x : List (Nat × HvsMsg)) : State := { s with hvs := x }

/-- The state with another `cls`. -/
def State.withCls (s : State) (x : ClsSt) : State := { s with cls := x }

/-- The state with another `aut`. -/
def State.withAut (s : State) (x : List (Nat × AutSt)) : State := { s with aut := x }

/-- The state with another `cip`. -/
def State.withCip (s : State) (x : CipSt) : State := { s with cip := x }

/-- The state with another `threads`. -/
def State.withThreads (s : State) (x : List (Nat × Thread)) : State := { s with threads := x }

/-- The state with another `cores`. -/
def State.withCores (s : State) (x : List (Nat × CoreSt)) : State := { s with cores := x }

/-- The state with another `evt`. -/
def State.withEvt (s : State) (x : EvtSt) : State := { s with evt := x }

/-- The state with another `trc`. -/
def State.withTrc (s : State) (x : TrcSt) : State := { s with trc := x }

/-- The state with another `ic`. -/
def State.withIc (s : State) (x : IcSt) : State := { s with ic := x }

/-- The state with another `hk`. -/
def State.withHk (s : State) (x : HkSt) : State := { s with hk := x }

/-- The state with another `dmc`. -/
def State.withDmc (s : State) (x : DmcSt) : State := { s with dmc := x }

/-- The state with another `idc`. -/
def State.withIdc (s : State) (x : IdcSt) : State := { s with idc := x }

/-- The state with another `sdh`. -/
def State.withSdh (s : State) (x : SdhSt) : State := { s with sdh := x }

/-- The state with another `nq`. -/
def State.withNq (s : State) (x : NqSt) : State := { s with nq := x }

end Sys2Proof.Machine
end

