-- ==== Sys2Proof/Machine/Ops.lean ====
section
/-! DEFINITION. The named operations over the state that every meaning is written with: registers and their fields,
counters, events, reports to the tamper supervisor, power domains, bytes of memory, and numbers of fixed width. -/

namespace Sys2Proof.Machine

/-! ### Bits of natural numbers -/

/-- Bits [hi:lo] of a number. -/
def nbits (v hi lo : Nat) : Nat := v / 2 ^ lo % 2 ^ (hi + 1 - lo)

/-- Bit i of a number. -/
def nbit (v i : Nat) : Bool := v / 2 ^ i % 2 == 1

/-- The number with bits [hi:lo] replaced by the low bits of `x`. -/
def nput (w hi lo x : Nat) : Nat := w - nbits w hi lo * 2 ^ lo + x % 2 ^ (hi + 1 - lo) * 2 ^ lo

/-- Two's complement of `n` bits as an integer. -/
def sgn (n v : Nat) : Int := if v % 2 ^ n < 2 ^ (n - 1) then (v % 2 ^ n : Nat) else (v % 2 ^ n : Nat) - (2 ^ n : Nat)

/-- An integer in `n` bits of two's complement. -/
def unsgn (n : Nat) (v : Int) : Nat := (v % (2 ^ n : Nat)).toNat

/-- A truth value as a bit. -/
def b2n (b : Bool) : Nat := if b then 1 else 0

/-- Rounded to nearest, ties to even: `n / d` for positive `d`. -/
def roundEven (n : Int) (d : Nat) : Int :=
  let q := n / d
  let r := n % d
  if 2 * r < d then q else if 2 * r > d then q + 1 else if q % 2 = 0 then q else q + 1

/-- Bring an integer into a range. -/
def clampI (lo hi v : Int) : Int := if v < lo then lo else if hi < v then hi else v

/-- A number from its bytes, the first the least significant (R554). -/
def leNat (l : List Byte) : Nat := l.foldr (fun b n => b.toNat + 256 * n) 0

/-- A number from its bytes, the first the most significant. -/
def beNat (l : List Byte) : Nat := l.foldl (fun n b => 256 * n + b.toNat) 0

/-- The `n` low bytes of a number, the least significant first. -/
def leBytes : Nat → Nat → List Byte
  | 0, _ => []
  | n + 1, v => BitVec.ofNat 8 v :: leBytes n (v / 256)

/-- The `n` low bytes of a number, the most significant first. -/
def beBytes (n v : Nat) : List Byte := (leBytes n v).reverse

/-- `n` bytes of a list from an offset, zeros where it ends. -/
def slice (l : List Byte) (off n : Nat) : List Byte :=
  let t := (l.drop off).take n
  t ++ List.replicate (n - t.length) 0

/-! ### Registers -/

/-- The value of the register at an address. -/
def State.reg (s : State) (a : Nat) : Word := tget (resetWord a) s.regs a

/-- The value of the register at an address, as a number. -/
def State.regN (s : State) (a : Nat) : Nat := (s.reg a).toNat

/-- Set the register at an address. -/
def State.setReg (s : State) (a : Nat) (w : Word) : State := s.withRegs (tput s.regs a w)

/-- Set the register at an address to a number's low 32 bits. -/
def State.setRegN (s : State) (a v : Nat) : State := s.setReg a (BitVec.ofNat 32 v)

/-- The value of a field. -/
def State.fld (s : State) (f : Fld) : Nat := nbits (s.regN f.addr) f.hi f.lo

/-- Whether a field is not zero. -/
def State.flag (s : State) (f : Fld) : Bool := s.fld f != 0

/-- Set a field. -/
def State.setFld (s : State) (f : Fld) (v : Nat) : State :=
  s.setRegN f.addr (nput (s.regN f.addr) f.hi f.lo v)

/-- Set a one-bit field to a truth value. -/
def State.setFlag (s : State) (f : Fld) (b : Bool) : State := s.setFld f (b2n b)

/-- Registers back to their reset values over an address range. -/
def State.clearRegs (s : State) (lo hi : Nat) : State :=
  let s := (s.withRegs (tclear s.regs lo hi)).withSnaps (tclear s.snaps lo hi)
  let s := (s.withStaged (tclear s.staged lo hi)).withDict (tclear s.dict (64 * lo) (64 * hi))
  s.withPairs (s.pairs.filter (fun p => p.addr < lo || hi ≤ p.addr))

/-! ### Counters (R84) -/

/-- Add to the dictionary count kept beside a counter: it wraps, and no read clears it (R524). -/
def State.countDict (s : State) (a lo n : Nat) : State :=
  s.withDict (tput s.dict (64 * a + lo) ((tget 0 s.dict (64 * a + lo) + n) % 2 ^ 32))

/-- The dictionary count of a counter. -/
def State.dictN (s : State) (a lo : Nat) : Nat := tget 0 s.dict (64 * a + lo)

/-- Add `n` confirmed events to a counter: it wraps and sets its sticky flag, or saturates. -/
def State.countN (s : State) (c : Ctr) (n : Nat) : State :=
  let s := s.countDict c.addr 0 n
  let v := s.regN c.addr + n
  if v < 2 ^ 32 then s.setRegN c.addr v
  else if c.sat then s.setRegN c.addr (2 ^ 32 - 1)
  else
    let s := s.setRegN c.addr v
    match c.ovf with
    | some f => s.setFld f 1
    | none => s

/-- Add one confirmed event to a counter. -/
def State.count (s : State) (c : Ctr) : State := s.countN c 1

/-- Add `n` to a counter of two words, low word first; it wraps (R64, R84). -/
def State.countWide (s : State) (lo hi n : Nat) : State :=
  let v := s.regN lo + 2 ^ 32 * s.regN hi + n
  (s.setRegN lo (v % 2 ^ 32)).setRegN hi (v / 2 ^ 32)

/-- Add to a narrow field that wraps. -/
def State.countFld (s : State) (f : Fld) (n : Nat) : State := (s.countDict f.addr f.lo n).setFld f (s.fld f + n)

/-- Add to a narrow field that saturates. -/
def State.countFldSat (s : State) (f : Fld) (n : Nat) : State :=
  s.setFld f (min (s.fld f + n) (2 ^ (f.hi + 1 - f.lo) - 1))

/-! ### Power domains -/

/-- The state of a domain as PWR_STATE shows it: 0 OFF, 1 ON, 2 RET, 3 SWITCHING (R479). -/
def State.dom (s : State) (d : Nat) : Nat :=
  if d < 16 then nbits (s.regN R.PWR_STATE0) (2 * d + 1) (2 * d)
  else nbits (s.regN R.PWR_STATE1) (2 * (d - 16) + 1) (2 * (d - 16))

/-- Set the state of a domain. -/
def State.setDom (s : State) (d v : Nat) : State :=
  if d < 16 then s.setRegN R.PWR_STATE0 (nput (s.regN R.PWR_STATE0) (2 * d + 1) (2 * d) v)
  else s.setRegN R.PWR_STATE1 (nput (s.regN R.PWR_STATE1) (2 * (d - 16) + 1) (2 * (d - 16)) v)

/-- Whether a domain is ON. -/
def State.isOn (s : State) (d : Nat) : Bool := s.dom d == 1

/-- Whether the blocks of a domain are available: it is ON and not held in reset (R74). -/
def State.up (s : State) (d : Nat) : Bool := s.isOn d && !s.rst.heldBy.contains d

/-- Vigil itself runs: the power-on reset is released (R495). -/
def State.vigil (s : State) : Bool := s.rst.phase != .por

/-- Whether the block of a domain can act: Vigil runs and the domain is available. -/
def State.live (s : State) (d : Nat) : Bool := s.vigil && s.up d

/-! ### Events (R333) -/

/-- Source k is raised: its pending bit is set when the event block is available and the source is not a reserved one. -/
def State.raise (s : State) (k : Nat) : State :=
  if s.live 7 && !eventReserved k then
    let a := R.EVT_PEND (k / 32)
    let s := if nbit (s.regN a) (k % 32) then s
      else s.withEvt { raisedAt := tput s.evt.raisedAt k s.now, redir := tdel s.evt.redir k }
    s.setRegN a (nput (s.regN a) (k % 32) (k % 32) 1)
  else s

/-! ### Reports to the tamper supervisor (R397) -/

/-- A hit of source k is reported with its details and the unit a class 1 response resets. -/
def State.reportAt (s : State) (k detail detail2 unit : Nat) : State :=
  s.withTmp { s.tmp with reports := s.tmp.reports ++ [⟨k, detail, detail2, unit⟩] }

/-- A hit of source k is reported with its details. -/
def State.report (s : State) (k detail detail2 : Nat) : State := s.reportAt k detail detail2 0

/-! ### Free values -/

/-- Draw a fresh free value. -/
def State.draw (s : State) : Nat × State := (Config.freeNat s.free, (s.withFree (s.free + 1)))

/-- A fresh free value of the range lo to hi. -/
def State.drawIn (s : State) (lo hi : Int) : Int × State :=
  (lo + (Config.freeNat s.free % (hi - lo + 1).toNat : Nat), (s.withFree (s.free + 1)))

/-! ### Time -/

/-- The real-time clock in seconds: it counts at 32.768 kHz since it was last zero (R496). -/
def State.rtcSec (s : State) : Nat := (s.now - s.rst.rtcZero) / 1000000000

/-- The time in µs. -/
def State.us (s : State) : Nat := s.now / 1000

/-! ### Optional entries of index tables -/

/-- The entry of an index table, or the initial one. -/
def tgetD {α : Type} (d : α) (m : List (Nat × α)) (k : Nat) : α := tget d m k

/-- Change the entry of an index table, the initial one standing for an unlisted entry. -/
def tmod {α : Type} (d : α) (m : List (Nat × α)) (k : Nat) (f : α → α) : List (Nat × α) := tput m k (f (tget d m k))

/-- Change a lane. -/
def State.modLane (s : State) (n : Nat) (f : LaneSt → LaneSt) : State := s.withLanes (tmod {} s.lanes n f)

/-- A lane. -/
def State.lane (s : State) (n : Nat) : LaneSt := tget {} s.lanes n

end Sys2Proof.Machine
end

