-- ==== Sys2Proof/Machine/Flags.lean ====
section
/-! DEFINITION. The flags of the common header of every register block (chapter 03): the lock, the integrity flags and their
log, the pending shadow pairs, and which bits of a register take part in a write. -/

namespace Sys2Proof.Machine

/-! ### The common header -/

/-- Whether XXX_LOCK.LOCK of the block is set. -/
def State.locked (s : State) (b : BlockDesc) : Bool := nbit (s.regN (b.base + 0x3F0)) 0

/-- Set a bit of XXX_INTEG. -/
def State.setInteg (s : State) (b : BlockDesc) (bit : Nat) : State :=
  s.setRegN (b.base + 0x3F8) (nput (s.regN (b.base + 0x3F8)) bit bit 1)

/-- A register integrity fault is logged in XXX_INTEGLOG (R78, R81, R82). -/
def State.integLog (s : State) (b : BlockDesc) (kind a : Nat) : State :=
  s.setRegN (b.base + 0x3F4) (kind * 2 ^ 12 + (a - b.base) % 2 ^ 12)

/-- A shadow sequence failure of the register at an address (R81): SHADOW_SEQ, the log, E114, the report. -/
def State.shadowFail (s : State) (b : BlockDesc) (a : Nat) : State :=
  (((s.setInteg b 2).integLog b 3 a).raise 114).reportAt 11 (b.code * 256 + 3) (a - b.base) b.base

/-- Drop the pending pair of a register. -/
def State.dropPair (s : State) (a : Nat) : State := s.withPairs (s.pairs.filter (fun p => p.addr != a))

/-- The shadow pair window: 64 interconnect cycles, 106.7 ns. -/
def pairWindow : Nat := 106

/-- A pending pair whose window has ended fails (R81). -/
def State.pairLate (s : State) (b : BlockDesc) (a : Nat) : State :=
  if s.pairs.any (fun p => p.addr == a && p.at_ + pairWindow < s.now) then (s.dropPair a).shadowFail b a else s

/-- Any other write to a register with a pending pair ends the pair (R81). True when it did. -/
def State.pairBreak (s : State) (b : BlockDesc) (a : Nat) : Bool × State :=
  if s.pairs.any (fun p => p.addr == a) then (true, (s.dropPair a).shadowFail b a) else (false, s)

/-- A write that would have changed a locked field sets LOCKED_WR (R83). -/
def State.lockedWrite (s : State) (b : BlockDesc) (r : RegDesc) (old new : Word) : State :=
  if s.locked b && (old ^^^ new) &&& BitVec.ofNat 32 (r.maskOf (· == .rwl)) != 0 then s.setInteg b 4 else s

/-- The bits a write stores as RW bits: RW, RWV and, until the block is locked, RWL (R66, R71). -/
def State.rwMask (s : State) (b : BlockDesc) (r : RegDesc) : Word :=
  BitVec.ofNat 32 (r.maskOf (fun c => c == .rw || c == .rwv || (c == .rwl && !s.locked b)))

/-- The bits of a register with an access code. -/
def RegDesc.bits (r : RegDesc) (c : Acc) : Word := BitVec.ofNat 32 (r.maskOf (· == c))

/-- Whether a register has RWS fields. -/
def RegDesc.shadowed (r : RegDesc) : Bool := r.fields.any (fun f => f.acc == .rws)

end Sys2Proof.Machine
end

