-- ==== Sys2Proof/Machine/Crypto.lean ====
section
/-! DEFINITION. The standard algorithms the spec names: CRC-32 of IEEE 802.3 and the CRC-8 of R233, SHA-2 (FIPS 180-4),
SHAKE128 (FIPS 202), AES-256 (FIPS 197), GCM and CMAC (SP 800-38D, 38B), CTR_DRBG with derivation function (SP 800-90A),
and ECDSA and ECDH over P-256 and P-384 (FIPS 186). The spec cites them by name; log entry 13. -/

namespace Sys2Proof.Machine

/-! ### Tables -/

/-- The round constants of SHA-256 (FIPS 180-4). -/
def sha256K : List Nat :=
  [0x428a2f98, 0x71374491, 0xb5c0fbcf, 0xe9b5dba5, 0x3956c25b, 0x59f111f1, 0x923f82a4, 0xab1c5ed5,
   0xd807aa98, 0x12835b01, 0x243185be, 0x550c7dc3, 0x72be5d74, 0x80deb1fe, 0x9bdc06a7, 0xc19bf174,
   0xe49b69c1, 0xefbe4786, 0xfc19dc6, 0x240ca1cc, 0x2de92c6f, 0x4a7484aa, 0x5cb0a9dc, 0x76f988da,
   0x983e5152, 0xa831c66d, 0xb00327c8, 0xbf597fc7, 0xc6e00bf3, 0xd5a79147, 0x6ca6351, 0x14292967,
   0x27b70a85, 0x2e1b2138, 0x4d2c6dfc, 0x53380d13, 0x650a7354, 0x766a0abb, 0x81c2c92e, 0x92722c85,
   0xa2bfe8a1, 0xa81a664b, 0xc24b8b70, 0xc76c51a3, 0xd192e819, 0xd6990624, 0xf40e3585, 0x106aa070,
   0x19a4c116, 0x1e376c08, 0x2748774c, 0x34b0bcb5, 0x391c0cb3, 0x4ed8aa4a, 0x5b9cca4f, 0x682e6ff3,
   0x748f82ee, 0x78a5636f, 0x84c87814, 0x8cc70208, 0x90befffa, 0xa4506ceb, 0xbef9a3f7, 0xc67178f2]

/-- The round constants of SHA-512 and SHA-384 (FIPS 180-4). -/
def sha512K : List Nat :=
  [0x428a2f98d728ae22, 0x7137449123ef65cd, 0xb5c0fbcfec4d3b2f, 0xe9b5dba58189dbbc,
   0x3956c25bf348b538, 0x59f111f1b605d019, 0x923f82a4af194f9b, 0xab1c5ed5da6d8118,
   0xd807aa98a3030242, 0x12835b0145706fbe, 0x243185be4ee4b28c, 0x550c7dc3d5ffb4e2,
   0x72be5d74f27b896f, 0x80deb1fe3b1696b1, 0x9bdc06a725c71235, 0xc19bf174cf692694,
   0xe49b69c19ef14ad2, 0xefbe4786384f25e3, 0xfc19dc68b8cd5b5, 0x240ca1cc77ac9c65,
   0x2de92c6f592b0275, 0x4a7484aa6ea6e483, 0x5cb0a9dcbd41fbd4, 0x76f988da831153b5,
   0x983e5152ee66dfab, 0xa831c66d2db43210, 0xb00327c898fb213f, 0xbf597fc7beef0ee4,
   0xc6e00bf33da88fc2, 0xd5a79147930aa725, 0x6ca6351e003826f, 0x142929670a0e6e70] ++
  [0x27b70a8546d22ffc, 0x2e1b21385c26c926, 0x4d2c6dfc5ac42aed, 0x53380d139d95b3df,
   0x650a73548baf63de, 0x766a0abb3c77b2a8, 0x81c2c92e47edaee6, 0x92722c851482353b,
   0xa2bfe8a14cf10364, 0xa81a664bbc423001, 0xc24b8b70d0f89791, 0xc76c51a30654be30,
   0xd192e819d6ef5218, 0xd69906245565a910, 0xf40e35855771202a, 0x106aa07032bbd1b8,
   0x19a4c116b8d2d0c8, 0x1e376c085141ab53, 0x2748774cdf8eeb99, 0x34b0bcb5e19b48a8,
   0x391c0cb3c5c95a63, 0x4ed8aa4ae3418acb, 0x5b9cca4f7763e373, 0x682e6ff3d6b2b8a3,
   0x748f82ee5defb2fc, 0x78a5636f43172f60, 0x84c87814a1f0ab72, 0x8cc702081a6439ec,
   0x90befffa23631e28, 0xa4506cebde82bde9, 0xbef9a3f7b2c67915, 0xc67178f2e372532b] ++
  [0xca273eceea26619c, 0xd186b8c721c0c207, 0xeada7dd6cde0eb1e, 0xf57d4f7fee6ed178,
   0x6f067aa72176fba, 0xa637dc5a2c898a6, 0x113f9804bef90dae, 0x1b710b35131c471b,
   0x28db77f523047d84, 0x32caab7b40c72493, 0x3c9ebe0a15c9bebc, 0x431d67c49c100d4c,
   0x4cc5d4becb3e42b6, 0x597f299cfc657e2a, 0x5fcb6fab3ad6faec, 0x6c44198c4a475817]

/-- The initial hash value of SHA-256. -/
def sha256Init : List Nat :=
  [0x6a09e667, 0xbb67ae85, 0x3c6ef372, 0xa54ff53a, 0x510e527f, 0x9b05688c, 0x1f83d9ab, 0x5be0cd19]

/-- The initial hash value of SHA-512. -/
def sha512Init : List Nat :=
  [0x6a09e667f3bcc908, 0xbb67ae8584caa73b, 0x3c6ef372fe94f82b, 0xa54ff53a5f1d36f1,
   0x510e527fade682d1, 0x9b05688c2b3e6c1f, 0x1f83d9abfb41bd6b, 0x5be0cd19137e2179]

/-- The initial hash value of SHA-384. -/
def sha384Init : List Nat :=
  [0xcbbb9d5dc1059ed8, 0x629a292a367cd507, 0x9159015a3070dd17, 0x152fecd8f70e5939,
   0x67332667ffc00b31, 0x8eb44a8768581511, 0xdb0c2e0d64f98fa7, 0x47b5481dbefa4fa4]

/-- The substitution box of AES (FIPS 197). -/
def aesSbox : List Nat :=
  [0x63, 0x7c, 0x77, 0x7b, 0xf2, 0x6b, 0x6f, 0xc5, 0x30, 0x1, 0x67, 0x2b, 0xfe, 0xd7, 0xab, 0x76,
   0xca, 0x82, 0xc9, 0x7d, 0xfa, 0x59, 0x47, 0xf0, 0xad, 0xd4, 0xa2, 0xaf, 0x9c, 0xa4, 0x72, 0xc0,
   0xb7, 0xfd, 0x93, 0x26, 0x36, 0x3f, 0xf7, 0xcc, 0x34, 0xa5, 0xe5, 0xf1, 0x71, 0xd8, 0x31, 0x15,
   0x4, 0xc7, 0x23, 0xc3, 0x18, 0x96, 0x5, 0x9a, 0x7, 0x12, 0x80, 0xe2, 0xeb, 0x27, 0xb2, 0x75,
   0x9, 0x83, 0x2c, 0x1a, 0x1b, 0x6e, 0x5a, 0xa0, 0x52, 0x3b, 0xd6, 0xb3, 0x29, 0xe3, 0x2f, 0x84,
   0x53, 0xd1, 0x0, 0xed, 0x20, 0xfc, 0xb1, 0x5b, 0x6a, 0xcb, 0xbe, 0x39, 0x4a, 0x4c, 0x58, 0xcf,
   0xd0, 0xef, 0xaa, 0xfb, 0x43, 0x4d, 0x33, 0x85, 0x45, 0xf9, 0x2, 0x7f, 0x50, 0x3c, 0x9f, 0xa8,
   0x51, 0xa3, 0x40, 0x8f, 0x92, 0x9d, 0x38, 0xf5, 0xbc, 0xb6, 0xda, 0x21, 0x10, 0xff, 0xf3, 0xd2] ++
  [0xcd, 0xc, 0x13, 0xec, 0x5f, 0x97, 0x44, 0x17, 0xc4, 0xa7, 0x7e, 0x3d, 0x64, 0x5d, 0x19, 0x73,
   0x60, 0x81, 0x4f, 0xdc, 0x22, 0x2a, 0x90, 0x88, 0x46, 0xee, 0xb8, 0x14, 0xde, 0x5e, 0xb, 0xdb,
   0xe0, 0x32, 0x3a, 0xa, 0x49, 0x6, 0x24, 0x5c, 0xc2, 0xd3, 0xac, 0x62, 0x91, 0x95, 0xe4, 0x79,
   0xe7, 0xc8, 0x37, 0x6d, 0x8d, 0xd5, 0x4e, 0xa9, 0x6c, 0x56, 0xf4, 0xea, 0x65, 0x7a, 0xae, 0x8,
   0xba, 0x78, 0x25, 0x2e, 0x1c, 0xa6, 0xb4, 0xc6, 0xe8, 0xdd, 0x74, 0x1f, 0x4b, 0xbd, 0x8b, 0x8a,
   0x70, 0x3e, 0xb5, 0x66, 0x48, 0x3, 0xf6, 0xe, 0x61, 0x35, 0x57, 0xb9, 0x86, 0xc1, 0x1d, 0x9e,
   0xe1, 0xf8, 0x98, 0x11, 0x69, 0xd9, 0x8e, 0x94, 0x9b, 0x1e, 0x87, 0xe9, 0xce, 0x55, 0x28, 0xdf,
   0x8c, 0xa1, 0x89, 0xd, 0xbf, 0xe6, 0x42, 0x68, 0x41, 0x99, 0x2d, 0xf, 0xb0, 0x54, 0xbb, 0x16]

/-- The round constants of Keccak-f[1600] (FIPS 202). -/
def keccakRC : List Nat :=
  [0x1, 0x8082, 0x800000000000808a, 0x8000000080008000,
   0x808b, 0x80000001, 0x8000000080008081, 0x8000000000008009,
   0x8a, 0x88, 0x80008009, 0x8000000a,
   0x8000808b, 0x800000000000008b, 0x8000000000008089, 0x8000000000008003,
   0x8000000000008002, 0x8000000000000080, 0x800a, 0x800000008000000a,
   0x8000000080008081, 0x8000000000008080, 0x80000001, 0x8000000080008008]

/-! ### Cyclic redundancy codes -/

/-- One bit step of a reflected CRC-32. -/
def crcStep (c : Nat) : Nat := if c % 2 = 1 then (c / 2) ^^^ 0xEDB88320 else c / 2

/-- One byte into a CRC-32. -/
def crcByte (c : Nat) (b : Byte) : Nat := (List.range 8).foldl (fun x _ => crcStep x) (c ^^^ b.toNat)

/-- CRC-32 with the IEEE 802.3 polynomial. -/
def crc32 (l : List Byte) : Nat := l.foldl crcByte 0xFFFFFFFF ^^^ 0xFFFFFFFF

/-! ### SHA-2 -/

/-- Rotate a word of `n` bits right. -/
def rotr (n x k : Nat) : Nat := (x / 2 ^ k) ||| (x * 2 ^ (n - k) % 2 ^ n)

/-- A member of SHA-2: word bits, rounds' constants, the shifts of its functions. -/
structure ShaKind where
  bits : Nat
  k : List Nat
  e : List Nat
  s0 : List Nat
  s1 : List Nat

/-- SHA-256. -/
def sha256Kind : ShaKind := ⟨32, sha256K, [2, 13, 22, 6, 11, 25], [7, 18, 3], [17, 19, 10]⟩

/-- SHA-512 and SHA-384. -/
def sha512Kind : ShaKind := ⟨64, sha512K, [28, 34, 39, 14, 18, 41], [1, 8, 7], [19, 61, 6]⟩

/-- The message schedule: the last sixteen words first, extended to the number of rounds. -/
def shaSchedule (c : ShaKind) (w : List Nat) : List Nat :=
  ((List.range (c.k.length - 16)).foldl (fun (r : List Nat) _ =>
    let g := fun i => r.getD i 0
    let x0 := g 14
    let x1 := g 1
    let f0 := rotr c.bits x0 (c.s0.getD 0 0) ^^^ rotr c.bits x0 (c.s0.getD 1 0) ^^^ (x0 / 2 ^ c.s0.getD 2 0)
    let f1 := rotr c.bits x1 (c.s1.getD 0 0) ^^^ rotr c.bits x1 (c.s1.getD 1 0) ^^^ (x1 / 2 ^ c.s1.getD 2 0)
    ((f1 + g 6 + f0 + g 15) % 2 ^ c.bits) :: r) w.reverse).reverse

/-- One round over the eight working variables. -/
def shaRound (c : ShaKind) (h : List Nat) (kw : Nat × Nat) : List Nat :=
  let n := c.bits
  let m := 2 ^ n
  match h with
  | [a, b, cc, d, e, f, g, hh] =>
    let r := fun x i => rotr n x (c.e.getD i 0)
    let s1 := r e 3 ^^^ r e 4 ^^^ r e 5
    let ch := (e &&& f) ^^^ ((m - 1 - e) &&& g)
    let t1 := hh + s1 + ch + kw.1 + kw.2
    let s0 := r a 0 ^^^ r a 1 ^^^ r a 2
    let mj := (a &&& b) ^^^ (a &&& cc) ^^^ (b &&& cc)
    [(t1 + s0 + mj) % m, a, b, cc, (d + t1) % m, e, f, g]
  | _ => h

/-- One block of 16 words into the hash value. -/
def shaBlock (c : ShaKind) (h : List Nat) (w : List Nat) : List Nat :=
  let v := (c.k.zip (shaSchedule c w)).foldl (shaRound c) h
  (h.zip v).map (fun p => (p.1 + p.2) % 2 ^ c.bits)

/-- Bytes to big-endian words of `n` bytes each; `k` words. -/
def beWords (n : Nat) : Nat → List Byte → List Nat
  | 0, _ => []
  | k + 1, l => beNat (l.take n) :: beWords n k (l.drop n)

/-- Whole blocks of a message into the hash value. -/
def shaBlocks (c : ShaKind) : Nat → List Nat → List Byte → List Nat
  | 0, h, _ => h
  | k + 1, h, l => shaBlocks c k (shaBlock c h (beWords (c.bits / 8) 16 l)) (l.drop (2 * c.bits))

/-- The padding after a message of `n` bytes. -/
def shaPad (c : ShaKind) (n : Nat) : List Byte :=
  let b := 2 * c.bits
  let z := (b - (n + 1 + c.bits / 4) % b) % b
  (0x80 : Byte) :: List.replicate z 0 ++ beBytes (c.bits / 4) (8 * n)

/-- SHA-2 of a message from an initial hash value, as bytes. -/
def sha2 (c : ShaKind) (init : List Nat) (l : List Byte) : List Byte :=
  let m := l ++ shaPad c l.length
  (shaBlocks c (m.length / (2 * c.bits)) init m).flatMap (beBytes (c.bits / 8))

/-- SHA-256, 32 bytes. -/
def sha256 (l : List Byte) : List Byte := sha2 sha256Kind sha256Init l

/-- SHA-384, 48 bytes. -/
def sha384 (l : List Byte) : List Byte := (sha2 sha512Kind sha384Init l).take 48

/-- SHA-512, 64 bytes. -/
def sha512 (l : List Byte) : List Byte := sha2 sha512Kind sha512Init l

/-! ### SHAKE128 -/

/-- Rotate a 64-bit lane left. -/
def rotl64 (x k : Nat) : Nat := rotr 64 x ((64 - k % 64) % 64) % 2 ^ 64

/-- The rotation offsets of Keccak by lane x + 5y. -/
def keccakRot : List Nat :=
  [0, 1, 62, 28, 27, 36, 44, 6, 55, 20, 3, 10, 43, 25, 39, 41, 45, 15, 21, 8, 18, 2, 61, 56, 14]

/-- One round of Keccak-f[1600] on 25 lanes. -/
def keccakRound (a : List Nat) (rc : Nat) : List Nat :=
  let g := fun i => a.getD i 0
  let c := (List.range 5).map (fun x => g x ^^^ g (x + 5) ^^^ g (x + 10) ^^^ g (x + 15) ^^^ g (x + 20))
  let d := (List.range 5).map (fun x => c.getD ((x + 4) % 5) 0 ^^^ rotl64 (c.getD ((x + 1) % 5) 0) 1)
  let t := (List.range 25).map (fun i => rotl64 (g i ^^^ d.getD (i % 5) 0) (keccakRot.getD i 0))
  let b := (List.range 25).map (fun i =>
    let x := i % 5
    let y := i / 5
    t.getD ((x + 3 * y) % 5 + 5 * x) 0)
  let h := fun i => b.getD i 0
  let r := (List.range 25).map (fun i =>
    let x := i % 5
    let y := i / 5 * 5
    h i ^^^ ((2 ^ 64 - 1 - h ((x + 1) % 5 + y)) &&& h ((x + 2) % 5 + y)))
  (r.getD 0 0 ^^^ rc) :: r.drop 1

/-- Keccak-f[1600]. -/
def keccakF (a : List Nat) : List Nat := keccakRC.foldl keccakRound a

/-- Absorb a block of 168 bytes. -/
def shakeAbsorb (a : List Nat) (block : List Byte) : List Nat :=
  keccakF ((List.range 25).map (fun i => a.getD i 0 ^^^ (if i < 21 then leNat (slice block (8 * i) 8) else 0)))

/-- Absorb `k` blocks. -/
def shakeBlocks : Nat → List Nat → List Byte → List Nat
  | 0, a, _ => a
  | k + 1, a, l => shakeBlocks k (shakeAbsorb a (l.take 168)) (l.drop 168)

/-- Squeeze `k` blocks. -/
def shakeSqueeze : Nat → List Nat → List Byte
  | 0, _ => []
  | k + 1, a => (a.take 21).flatMap (leBytes 8) ++ shakeSqueeze k (keccakF a)

/-- SHAKE128 of a message, `n` bytes. -/
def shake128 (l : List Byte) (n : Nat) : List Byte :=
  let z := 167 - l.length % 168
  let pad : List Byte := if z = 0 then [0x9F] else 0x1F :: List.replicate (z - 1) 0 ++ [0x80]
  let m := l ++ pad
  (shakeSqueeze (n / 168 + 1) (shakeBlocks (m.length / 168) (List.replicate 25 0) m)).take n

/-! ### AES-256 -/

/-- Substitute a byte. -/
def aesSub (b : Nat) : Nat := aesSbox.getD b 0

/-- Multiply by x in the field of AES. -/
def aesX (b : Nat) : Nat := if b < 128 then 2 * b else (2 * b - 256) ^^^ 0x1B

/-- The expanded key, 60 words of 4 bytes, from 32 bytes. -/
def aesExpand (key : List Nat) : List (List Nat) :=
  let init := (List.range 8).map (fun i => (List.range 4).map (fun j => key.getD (4 * i + j) 0))
  ((List.range 52).foldl (fun (r : List (List Nat) × Nat) k =>
    let t := r.1.getD 0 []
    let w8 := r.1.getD 7 []
    let rot := fun i => t.getD i 0
    let (u, rc) : List Nat × Nat :=
      if k % 8 = 0 then ([aesSub (rot 1) ^^^ r.2, aesSub (rot 2), aesSub (rot 3), aesSub (rot 0)], aesX r.2)
      else if k % 8 = 4 then (t.map aesSub, r.2)
      else (t, r.2)
    ((List.range 4).map (fun j => w8.getD j 0 ^^^ u.getD j 0) :: r.1, rc)) (init.reverse, 1)).1.reverse

/-- MixColumns on a column. -/
def aesMix (c : List Nat) : List Nat :=
  let g := fun i => c.getD (i % 4) 0
  (List.range 4).map (fun i => aesX (g i) ^^^ aesX (g (i + 1)) ^^^ g (i + 1) ^^^ g (i + 2) ^^^ g (i + 3))

/-- One AES round: substitute, shift rows, mix unless it is the last, add the round key. -/
def aesRound (last : Bool) (st : List Nat) (rk : List Nat) : List Nat :=
  let sh := (List.range 16).map (fun i => aesSub (st.getD ((i + 4 * (i % 4)) % 16) 0))
  let mx := if last then sh else (List.range 4).flatMap (fun c => aesMix ((sh.drop (4 * c)).take 4))
  (mx.zip rk).map (fun p => p.1 ^^^ p.2)

/-- The round keys of AES-256, 15 of 16 bytes. -/
def aesKeys (key : Nat) : List (List Nat) :=
  let w := aesExpand ((beBytes 32 key).map (·.toNat))
  (List.range 15).map (fun r => ((w.drop (4 * r)).take 4).flatten)

/-- AES-256 of one 128-bit block with its round keys. -/
def aesBlock (ks : List (List Nat)) (block : Nat) : Nat :=
  let st := (beBytes 16 block).map (·.toNat)
  let st := (st.zip (ks.getD 0 [])).map (fun p => p.1 ^^^ p.2)
  let st := (List.range 13).foldl (fun st r => aesRound false st (ks.getD (r + 1) [])) st
  (aesRound true st (ks.getD 14 [])).foldl (fun n b => 256 * n + b) 0

/-- AES-256 of one block. -/
def aes256 (key block : Nat) : Nat := aesBlock (aesKeys key) block

/-! ### GCM and CMAC -/

/-- Multiply in the field of GHASH. -/
def ghashMul (x y : Nat) : Nat :=
  ((List.range 128).foldl (fun (zv : Nat × Nat) i =>
    let z := if nbit x (127 - i) then zv.1 ^^^ zv.2 else zv.1
    let v := if zv.2 % 2 = 1 then (zv.2 / 2) ^^^ (0xE1 * 2 ^ 120) else zv.2 / 2
    (z, v)) (0, y)).1

/-- Bytes in blocks of 16 as numbers, the last padded with zeros. -/
def blocks16 (l : List Byte) : List Nat :=
  (List.range ((l.length + 15) / 16)).map (fun i => beNat (slice l (16 * i) 16))

/-- GHASH over the associated data, the text and their lengths. -/
def ghash (h : Nat) (aad text : List Byte) : Nat :=
  (blocks16 aad ++ blocks16 text ++ [8 * aad.length * 2 ^ 64 + 8 * text.length]).foldl
    (fun y b => ghashMul (y ^^^ b) h) 0

/-- The key stream of counter mode from counter block `j + 1`, `n` bytes. -/
def gctr (ks : List (List Nat)) (j n : Nat) : List Byte :=
  ((List.range ((n + 15) / 16)).flatMap (fun i =>
    beBytes 16 (aesBlock ks (j / 2 ^ 32 * 2 ^ 32 + (j + 1 + i) % 2 ^ 32)))).take n

/-- Exclusive or of two byte strings. -/
def xorBytes (a b : List Byte) : List Byte := (a.zip b).map (fun p => p.1 ^^^ p.2)

/-- AES-256-GCM encryption with a 96-bit IV: ciphertext and the 128-bit tag. -/
def gcmEncrypt (key iv : Nat) (aad text : List Byte) : List Byte × Nat :=
  let ks := aesKeys key
  let j := iv * 2 ^ 32 + 1
  let c := xorBytes text (gctr ks j text.length)
  (c, ghash (aesBlock ks 0) aad c ^^^ aesBlock ks j)

/-- AES-256-GCM decryption: the text and the tag its ciphertext should carry. -/
def gcmDecrypt (key iv : Nat) (aad text : List Byte) : List Byte × Nat :=
  let ks := aesKeys key
  let j := iv * 2 ^ 32 + 1
  (xorBytes text (gctr ks j text.length), ghash (aesBlock ks 0) aad text ^^^ aesBlock ks j)

/-- Doubling in the field of CMAC. -/
def cmacDouble (x : Nat) : Nat := if nbit x 127 then (2 * x % 2 ^ 128) ^^^ 0x87 else 2 * x % 2 ^ 128

/-- AES-256-CMAC, 128 bits. -/
def cmac (key : Nat) (l : List Byte) : Nat :=
  let ks := aesKeys key
  let k1 := cmacDouble (aesBlock ks 0)
  let whole := l.length % 16 = 0 && 0 < l.length
  let n := if whole then l.length / 16 - 1 else l.length / 16
  let last := l.drop (16 * n)
  let m := if whole then beNat last ^^^ k1 else beNat (slice (last ++ [0x80]) 0 16) ^^^ cmacDouble k1
  let y := (blocks16 (l.take (16 * n))).foldl (fun y b => aesBlock ks (y ^^^ b)) 0
  aesBlock ks (y ^^^ m)

/-! ### CTR_DRBG, AES-256, with derivation function (SP 800-90A) -/

/-- Block_Cipher_df to `n` bytes. -/
def blockCipherDf (input : List Byte) (n : Nat) : List Byte :=
  let m := beBytes 4 input.length ++ beBytes 4 n ++ input ++ [(0x80 : Byte)]
  let m := m ++ List.replicate ((16 - m.length % 16) % 16) 0
  let ks := aesKeys (beNat ((List.range 32).map (BitVec.ofNat 8)))
  let bcc := fun (iv : Nat) => (blocks16 m).foldl (fun c b => aesBlock ks (c ^^^ b)) (aesBlock ks iv)
  let t := (List.range 3).map (fun i => bcc (i * 2 ^ 96))
  let k := t.getD 0 0 * 2 ^ 128 + t.getD 1 0
  let ks2 := aesKeys k
  (((List.range ((n + 15) / 16)).foldl (fun (r : List Byte × Nat) _ =>
    let x := aesBlock ks2 r.2
    (r.1 ++ beBytes 16 x, x)) ([], t.getD 2 0)).1).take n

/-- CTR_DRBG_Update with 48 bytes. -/
def drbgUpdate (d : Drbg) (data : List Byte) : Drbg :=
  let ks := aesKeys d.key.toNat
  let t := (List.range 3).flatMap (fun i => beBytes 16 (aesBlock ks ((d.v.toNat + 1 + i) % 2 ^ 128)))
  let x := xorBytes t data
  { d with key := BitVec.ofNat 256 (beNat (x.take 32)), v := BitVec.ofNat 128 (beNat (x.drop 32)) }

/-- Instantiate from entropy input, nonce and personalisation string. -/
def drbgInstantiate (entropy nonce pers : List Byte) : Drbg :=
  let d := drbgUpdate ⟨0, 0, 1⟩ (blockCipherDf (entropy ++ nonce ++ pers) 48)
  { d with calls := 1 }

/-- Reseed from entropy input. -/
def drbgReseed (d : Drbg) (entropy : List Byte) : Drbg :=
  { drbgUpdate d (blockCipherDf entropy 48) with calls := 1 }

/-- Generate 64 bytes. -/
def drbgGenerate (d : Drbg) : List Byte × Drbg :=
  let ks := aesKeys d.key.toNat
  let out := (List.range 4).flatMap (fun i => beBytes 16 (aesBlock ks ((d.v.toNat + 1 + i) % 2 ^ 128)))
  let d' := drbgUpdate { d with v := BitVec.ofNat 128 (d.v.toNat + 4) } (List.replicate 48 0)
  (out, { d' with calls := d.calls + 1 })

/-! ### Curves -/

/-- A curve y² = x³ − 3x + b over the prime field p, with base point and order n. -/
structure Curve where
  bytes : Nat
  p : Nat
  b : Nat
  gx : Nat
  gy : Nat
  n : Nat

/-- P-256. -/
def p256 : Curve where
  bytes := 32
  p := 0xFFFFFFFF00000001000000000000000000000000FFFFFFFFFFFFFFFFFFFFFFFF
  b := 0x5AC635D8AA3A93E7B3EBBD55769886BC651D06B0CC53B0F63BCE3C3E27D2604B
  gx := 0x6B17D1F2E12C4247F8BCE6E563A440F277037D812DEB33A0F4A13945D898C296
  gy := 0x4FE342E2FE1A7F9B8EE7EB4A7C0F9E162BCE33576B315ECECBB6406837BF51F5
  n := 0xFFFFFFFF00000000FFFFFFFFFFFFFFFFBCE6FAADA7179E84F3B9CAC2FC632551

/-- P-384. -/
def p384 : Curve where
  bytes := 48
  p := 0xFFFFFFFFFFFFFFFFFFFFFFFFFFFFFFFFFFFFFFFFFFFFFFFFFFFFFFFFFFFFFFFEFFFFFFFF0000000000000000FFFFFFFF
  b := 0xB3312FA7E23EE7E4988E056BE3F82D19181D9C6EFE8141120314088F5013875AC656398D8A2ED19D2A85C8EDD3EC2AEF
  gx := 0xAA87CA22BE8B05378EB1C71EF320AD746E1D3B628BA79B9859F741E082542A385502F25DBF55296C3A545E3872760AB7
  gy := 0x3617DE4A96262C6F5D9E98BF9292DC29F8F41DBD289A147CE9DA3113B5F0B8C00A60B1CE1D7E819D7A431D7C90EA0E5F
  n := 0xFFFFFFFFFFFFFFFFFFFFFFFFFFFFFFFFFFFFFFFFFFFFFFFFC7634D81F4372DDF581A0DB248B0A77AECEC196ACCC52973

/-- `a ^ e mod m`, over `k` bits of the exponent. -/
def powMod (m : Nat) : Nat → Nat → Nat → Nat
  | 0, _, _ => 1 % m
  | k + 1, a, e =>
    let r := powMod m k (a * a % m) (e / 2)
    if e % 2 = 1 then a * r % m else r

/-- The inverse modulo a prime. -/
def invMod (m a : Nat) : Nat := powMod m 400 (a % m) (m - 2)

/-- A point in affine coordinates, none at infinity. -/
abbrev Point := Option (Nat × Nat)

/-- Add two points of a curve. -/
def Curve.add (c : Curve) (u v : Point) : Point :=
  match u, v with
  | none, w => w
  | w, none => w
  | some (x1, y1), some (x2, y2) =>
    if x1 = x2 ∧ (y1 + y2) % c.p = 0 then none
    else
      let l :=
        if x1 = x2 then (3 * x1 * x1 + (c.p - 3)) * invMod c.p (2 * y1) % c.p
        else (y2 + c.p - y1) * invMod c.p (x2 + c.p - x1) % c.p
      let x3 := (l * l + 2 * c.p - x1 - x2) % c.p
      some (x3, (l * (x1 + c.p - x3) + c.p - y1) % c.p)

/-- A multiple of a point, over `k` bits. -/
def Curve.mul (c : Curve) : Nat → Nat → Point → Point
  | 0, _, _ => none
  | k + 1, e, u =>
    let r := c.mul k (e / 2) (c.add u u)
    if e % 2 = 1 then c.add u r else r

/-- A scalar multiple of a point. -/
def Curve.times (c : Curve) (e : Nat) (u : Point) : Point := c.mul (8 * c.bytes) e u

/-- The base point. -/
def Curve.base (c : Curve) : Point := some (c.gx, c.gy)

/-- Whether a pair of coordinates lies on the curve. -/
def Curve.on (c : Curve) (x y : Nat) : Bool :=
  x < c.p && y < c.p && (y * y) % c.p == (x * x * x + (c.p - 3) * x + c.b) % c.p

/-- ECDSA: the signature of a digest value with a private key and a nonce, none where r or s is 0. -/
def Curve.sign (c : Curve) (d e k : Nat) : Option (Nat × Nat) :=
  match c.times k c.base with
  | none => none
  | some (x, _) =>
    let r := x % c.n
    let sg := invMod c.n k * (e + r * d) % c.n
    if r = 0 ∨ sg = 0 then none else some (r, sg)

/-- ECDSA: whether a signature over a digest value verifies under a public key. -/
def Curve.verify (c : Curve) (qx qy e r sg : Nat) : Bool :=
  if r = 0 ∨ c.n ≤ r ∨ sg = 0 ∨ c.n ≤ sg then false
  else
    let w := invMod c.n sg
    match c.add (c.times (e * w % c.n) c.base) (c.times (r * w % c.n) (some (qx, qy))) with
    | none => false
    | some (x, _) => x % c.n == r

end Sys2Proof.Machine
end

