-- ==== Sys2Proof/Machine/Memory.lean ====
section
/-! DEFINITION. Memory as the interconnect reaches it: the error logs of R364, the DRAM controller's reads and writes with
their ECC (chapter 18), and reads and writes of runs of bytes in ROM, SRAM and DRAM (R59, R60). -/

namespace Sys2Proof.Machine

/-- A memory is in canonical form: addresses strictly rising, and no byte equal to what an unlisted address reads as, which is
zero (log entry 55). -/
def Memory.wf (m : List Host.Cell) : Bool := tcanon 0 m

/-! ### Calends time of day -/

/-- TAI seconds of Calends. -/
def State.calSec (s : State) : Nat := s.cal.t / 2 ^ 48 / 1000000000

/-- Nanoseconds within the second of Calends. -/
def State.calNs (s : State) : Nat := s.cal.t / 2 ^ 48 % 1000000000

/-! ### Error logs (R364) -/

/-- Record an error in a log of R364: the first since VALID was cleared is kept, a later one sets MULTI. `mark` is SIZE or
WDOG. -/
def State.icLog (s : State) (log0 log1 : Nat) (rid : Rid) (addr : Nat) (write mark : Bool) : State :=
  if nbit (s.regN log0) 31 then s.setRegN log0 (nput (s.regN log0) 30 30 1)
  else
    (s.setRegN log0 (2 ^ 31 + b2n mark * 2 ^ 29 + b2n write * 2 ^ 28 + nbits rid.toNat 7 5 * 2 ^ 24
      + rid.toNat * 2 ^ 8)).setRegN log1 addr

/-- A decode error (R62, R63): logged, counted, E40. -/
def State.decodeError (s : State) (rid : Rid) (addr : Nat) (write size : Bool) : State :=
  if s.live 7 then
    ((s.icLog R.IC_DECLOG0 R.IC_DECLOG1 rid addr write size).count C.IC_DECCNT).raise 40
  else s

/-- An access to an unavailable block, or one the crossing watchdog ended (R74, R75): logged, counted, E41. -/
def State.unavailable (s : State) (rid : Rid) (addr : Nat) (write wdog : Bool) : State :=
  if s.live 7 then
    ((s.icLog R.IC_UNAVLOG0 R.IC_UNAVLOG1 rid addr write wdog).count C.IC_UNAVCNT).raise 41
  else s

/-! ### The DRAM controller's cells (chapter 18) -/

/-- Data bytes per rank for a device width and density, and its row bits (R432). -/
def dmcGeometry (cfg : Nat) : Option (Nat × Nat) :=
  match nbit cfg 3, nbits cfg 1 0, nbit cfg 4 with
  | false, 0, _ => some (4 * 2 ^ 30, 15)
  | false, 1, false => some (8 * 2 ^ 30, 16)
  | true, 0, _ => some (2 * 2 ^ 30, 15)
  | true, 1, _ => some (4 * 2 ^ 30, 16)
  | true, 2, false => some (8 * 2 ^ 30, 17)
  | _, _, _ => none

/-- Installed size in bytes (R432, R433). -/
def State.dmcSize (s : State) : Nat :=
  let cfg := s.regN R.DMC_CFG
  match dmcGeometry cfg with
  | some (n, _) => if nbit cfg 4 then 2 * n else n
  | none => 0

/-- DMC_SNAP3 for a controller address: rank, bank group, bank, row, column [9:3] (R433, R451). -/
def State.dmcWhere (s : State) (a : Nat) : Nat :=
  let cfg := s.regN R.DMC_CFG
  let bgBits := if nbit cfg 3 then 1 else 2
  let rows := match dmcGeometry cfg with
    | some (_, r) => r
    | none => 15
  let x := a / 64
  let bg := x % 2 ^ bgBits
  let x := x / 2 ^ bgBits
  let col := x % 128
  let x := x / 128
  let bank := x % 4
  let x := x / 4
  let row := x % 2 ^ rows
  let rank := if nbit cfg 4 then x / 2 ^ rows % 2 else 0
  rank * 2 ^ 31 + bg * 2 ^ 28 + bank * 2 ^ 26 + row * 2 ^ 9 + col

/-- A byte of DRAM by controller address; ECC initialisation writes zeros (R437). -/
def State.dramByte (s : State) (a : Nat) : Byte := tget 0 s.dmc.mem a

/-- Set a byte of DRAM. -/
def State.setDramByte (s : State) (a : Nat) (b : Byte) : State :=
  s.withDmc { s.dmc with mem := tset 0 s.dmc.mem a b }

/-- Set a run of bytes of DRAM. -/
def State.setDramBytes (s : State) : Nat → List Byte → State
  | _, [] => s
  | a, b :: r => (s.setDramByte a b).setDramBytes (a + 1) r

/-- An uncorrectable error at a controller address freezes the controller (R450): the snapshot is written unless one is
still valid, FROZEN is set, DMC_UECNT counts and E96 is raised. `src` is the source of DMC_SNAP0. The failing beat's raw
bits, syndrome and queue depths are free values (log entry 12). -/
def State.dmcFreeze (s : State) (a src : Nat) (rid : Rid) (beat : Nat) : State :=
  let s := s.withDmc { s.dmc with failLine := a / 64 * 64 }
  let s :=
    if s.flag R.DMC_SNAP0_VALID then s.setFld R.DMC_SNAP0_MULTI 1
    else
      let got := s.draw
      let rawLo := got.1
      let s := got.2
      let got := s.draw
      let rawHi := got.1
      let s := got.2
      let got := s.draw
      let ecc := got.1
      let s := got.2
      let nrt := src == 0 || src == 3
      let r := if nrt then rid.toNat else 0
      let s := s.setRegN R.DMC_SNAP0 (2 ^ 31 + src * 2 ^ 28 + nbits r 7 5 * 2 ^ 24 + r * 2 ^ 16 + beat % 8 * 2 ^ 8)
      let s := (s.setRegN R.DMC_SNAP1 (a % 2 ^ 32)).setRegN R.DMC_SNAP2 (a / 2 ^ 32 % 2)
      let s := s.setRegN R.DMC_SNAP3 (s.dmcWhere a)
      let s := (s.setRegN R.DMC_SNAP4 rawLo).setRegN R.DMC_SNAP5 rawHi
      let s := s.setRegN R.DMC_SNAP6 ecc
      s.setRegN R.DMC_SNAP7 s.calNs
  let s := (s.setFld R.DMC_STAT_FROZEN 1).count C.DMC_UECNT
  s.raise 96

/-- A single-bit error corrected in the data returned (R449). -/
def State.dmcCorrected (s : State) (a : Nat) : State :=
  let s := s.count C.DMC_CECNT
  let s := if s.flag R.DMC_CELOG0_VALID then s
    else (s.setRegN R.DMC_CELOG0 (2 ^ 31 + a / 2 ^ 32 % 2)).setRegN R.DMC_CELOG1 (a % 2 ^ 32)
  match s.dmc.ceAt with
  | some t => if s.now < t + 1000000 then s
    else (s.withDmc { s.dmc with ceAt := some s.now }).raise 97
  | none => (s.withDmc { s.dmc with ceAt := some s.now }).raise 97

/-- Check the 8-byte words from `w` on, `n` of them, that a read from source `src` takes in: an uncorrectable error freezes
the controller, a single-bit error is corrected in the data. True when the read failed. -/
def State.dmcCheck (s : State) (src : Nat) (rid : Rid) : Nat → Nat → Bool × State
  | _, 0 => (false, s)
  | w, n + 1 =>
    if s.dmc.badWords.contains w then (true, s.dmcFreeze (8 * w) src rid w)
    else
      let s := if s.dmc.softWords.contains w then s.dmcCorrected (8 * w) else s
      s.dmcCheck src rid (w + 1) n

/-- `n` bytes of DRAM from a controller address. -/
def State.dramBytes (s : State) (a n : Nat) : List Byte := (List.range n).map (fun k => s.dramByte (a + k))

/-- A read of at most one line of DRAM by the non-real-time port: error response and zero data while frozen or when the
line fails (R440, R450). -/
def State.dmcRead (s : State) (rid : Rid) (a n : Nat) : (List Byte × Bool) × State :=
  if s.flag R.DMC_STAT_FROZEN then ((List.replicate n 0, true), s)
  else
    let w := a / 8
    let r := s.dmcCheck 0 rid w ((a + n + 7) / 8 - w)
    if r.1 then ((List.replicate n 0, true), r.2) else ((r.2.dramBytes a n, false), r.2)

/-- Whether a run of bytes touches the 768 MB delay region while the delay lines are enabled (R183, R436). -/
def State.inDelayRegion (s : State) (a n : Nat) : Bool :=
  let base := s.fld R.MTX_DLY_BASE_BASE * 2 ^ 20
  s.live 12 && s.flag R.MTX_DLY_CTRL_EN && base < a + n && a < base + 768 * 2 ^ 20

/-- Words of the run [a, a + n) that it covers only in part: these are read first (R440). -/
def partWords (a n : Nat) : List Nat :=
  let first := a / 8
  let last := (a + n - 1) / 8
  if n = 0 then []
  else if first = last then (if a % 8 = 0 && n = 8 then [] else [first])
  else (if a % 8 = 0 then [] else [first]) ++ (if (a + n) % 8 = 0 then [] else [last])

/-- Words of the run that it covers whole. -/
def wholeWords (a n : Nat) : List Nat :=
  (List.range ((a + n) / 8 - (a + 7) / 8)).map (fun k => (a + 7) / 8 + k)

/-- Check the words that a partial write reads. -/
def State.dmcCheckList (s : State) (rid : Rid) : List Nat → Bool × State
  | [] => (false, s)
  | w :: r =>
    let c := s.dmcCheck 3 rid w 1
    if c.1 then c else c.2.dmcCheckList rid r

/-- A write of a run of bytes by the non-real-time port: refused while frozen and in the delay region; part of a word is a
read-modify-write; a word written whole or read and corrected carries valid ECC (R436, R440, R450). True for an error
response. -/
def State.dmcWrite (s : State) (rid : Rid) (a : Nat) (bs : List Byte) : Bool × State :=
  if s.flag R.DMC_STAT_FROZEN then (true, s)
  else if s.inDelayRegion a bs.length then (true, s.setFld R.DMC_STAT_RTREG_WR 1)
  else
    let c := s.dmcCheckList rid (partWords a bs.length)
    if c.1 then (true, c.2)
    else
      let s := c.2
      let ok := wholeWords a bs.length ++ partWords a bs.length
      let s := s.withDmc { s.dmc with badWords := s.dmc.badWords.filter (fun w => !ok.contains w),
                                            softWords := s.dmc.softWords.filter (fun w => !ok.contains w) }
      (false, s.setDramBytes a bs)

/-! ### Targets of the address map (R59, R60) -/

/-- Where an address leads. -/
inductive Target where
  | rom (off : Nat)
  | sram (addr : Nat)
  | dram (caddr : Nat)
  | dramNone
  | regs
  | unmapped
deriving DecidableEq, Repr

/-- Whether an address lies in the ranges of R59 that hold register blocks. -/
def regSpace (a : Nat) : Bool :=
  (0x40000000 ≤ a && a < 0x40011000) || (0x41000000 ≤ a && a < 0x41003000) || (0x42000000 ≤ a && a < 0x420A0000)

/-- The target of an address under the present remap bit and aperture (R59, R60, R434). -/
def State.target (s : State) (a : Nat) : Target :=
  if a < 0x10000 then (if s.flag R.RST_REMAP_REMAP then .sram (0x10000000 + a) else .rom a)
  else if a < 0x20000 then (if s.flag R.RST_REMAP_REMAP then .rom (a - 0x10000) else .unmapped)
  else if 0x10000000 ≤ a && a < 0x10200000 then .sram a
  else if regSpace a then .regs
  else if 0x80000000 ≤ a && a < 0x100000000 then
    let c := s.fld R.DMC_APERTURE_BASE * 2 ^ 28 + (a - 0x80000000)
    if c < s.dmcSize then .dram c else .dramNone
  else .unmapped

/-- The domain of an SRAM bank: SB0 and SB1 in PD5, SB2 and SB3 in PD6 (R478). -/
def sramDomain (a : Nat) : Nat := if a < 0x10100000 then 5 else 6

/-- A byte of SRAM. -/
def State.sramByte (s : State) (a : Nat) : Byte := tget 0 s.sram a

/-- Set a byte of SRAM. -/
def State.setSramByte (s : State) (a : Nat) (b : Byte) : State := s.withSram (tset 0 s.sram a b)

/-- Set a run of bytes of SRAM. -/
def State.setSramBytes (s : State) : Nat → List Byte → State
  | _, [] => s
  | a, b :: r => (s.setSramByte a b).setSramBytes (a + 1) r

/-- Read at most one 64-byte line that lies in one target. The answer is the data and whether the response is an error:
decode errors give zeros and OK (R62), unavailable targets zeros and an error (R74, R435). -/
def State.lineRead (s : State) (rid : Rid) (a n : Nat) : (List Byte × Bool) × State :=
  let zeros := List.replicate n (0 : Byte)
  match s.target a with
  | .rom o => (((List.range n).map (fun k => Config.romByte (o + k)), false), s)
  | .sram b =>
    if s.live (sramDomain b) then (((List.range n).map (fun k => s.sramByte (b + k)), false), s)
    else ((zeros, true), s.unavailable rid a false false)
  | .dram c =>
    if s.live 20 && s.flag R.DMC_STAT_READY then s.dmcRead rid c n
    else ((zeros, true), s.unavailable rid a false false)
  | .dramNone =>
    if s.live 20 && s.flag R.DMC_STAT_READY then ((zeros, false), s.decodeError rid a false false)
    else ((zeros, true), s.unavailable rid a false false)
  | .regs => ((zeros, false), s.decodeError rid a false true)
  | .unmapped => ((zeros, false), s.decodeError rid a false false)

/-- Write at most one 64-byte line that lies in one target. True for an error response. A write to ROM is dropped with an
OK response (log entry 5). -/
def State.lineWrite (s : State) (rid : Rid) (a : Nat) (bs : List Byte) : Bool × State :=
  match s.target a with
  | .rom _ => (false, s)
  | .sram b =>
    if s.live (sramDomain b) then (false, s.setSramBytes b bs)
    else (true, s.unavailable rid a true false)
  | .dram c =>
    if s.live 20 && s.flag R.DMC_STAT_READY then s.dmcWrite rid c bs
    else (true, s.unavailable rid a true false)
  | .dramNone =>
    if s.live 20 && s.flag R.DMC_STAT_READY then (false, s.decodeError rid a true false)
    else (true, s.unavailable rid a true false)
  | .regs => (false, s.decodeError rid a true true)
  | .unmapped => (false, s.decodeError rid a true false)

/-- Read a run of bytes line by line; an error response ends the run, the rest reading as zeros. -/
def State.memReadFuel (rid : Rid) : Nat → State → Nat → Nat → (List Byte × Bool) × State
  | 0, s, _, n => ((List.replicate n 0, false), s)
  | k + 1, s, a, n =>
    if n = 0 then (([], false), s)
    else
      let m := min n (64 - a % 64)
      let r := s.lineRead rid a m
      if r.1.2 then ((List.replicate n 0, true), r.2)
      else
        let q := State.memReadFuel rid k r.2 (a + m) (n - m)
        ((r.1.1 ++ q.1.1, q.1.2), q.2)

/-- Read `n` bytes from an address: the data, whether an error response came, and the state after. -/
def State.memRead (s : State) (rid : Rid) (a n : Nat) : (List Byte × Bool) × State :=
  State.memReadFuel rid (n / 64 + 2) s a n

/-- Write a run of bytes line by line; an error response ends the run, lines already written stay written. -/
def State.memWriteFuel (rid : Rid) : Nat → State → Nat → List Byte → Bool × State
  | 0, s, _, _ => (false, s)
  | k + 1, s, a, bs =>
    if bs.isEmpty then (false, s)
    else
      let m := min bs.length (64 - a % 64)
      let r := s.lineWrite rid a (bs.take m)
      if r.1 then r else State.memWriteFuel rid k r.2 (a + m) (bs.drop m)

/-- Write a run of bytes at an address: whether an error response came, and the state after. -/
def State.memWrite (s : State) (rid : Rid) (a : Nat) (bs : List Byte) : Bool × State :=
  State.memWriteFuel rid (bs.length / 64 + 2) s a bs

/-- Read a 32-bit word of memory, little-endian (R554). -/
def State.memWord (s : State) (rid : Rid) (a : Nat) : (Nat × Bool) × State :=
  let r := s.memRead rid a 4
  ((leNat r.1.1, r.1.2), r.2)

end Sys2Proof.Machine
end

