-- ==== Sys2Proof/Machine/Domain.lean ====
section
/-! DEFINITION. What a reset does to the contents of a block and of a power domain (R91, R92, R480), and the start of a
system reset (R500 to R502), which any unit may raise. -/

namespace Sys2Proof.Machine

/-! ### Values loaded from fuses -/

/-- Load the trim fuses of the registers in an address range (R91, "fuse"). -/
def State.loadTrims (s : State) (lo hi : Nat) : State :=
  s.fus.trims.foldl (fun s p => if lo ≤ p.1 ∧ p.1 < hi then s.setReg p.1 (s.reg p.1 ||| p.2) else s) s

/-- Load the DAC ranges of FUS_POLICY into HLD_DACn_CFG (chapter 05, Registers). -/
def State.loadDacRange (s : State) : State :=
  (s.setFld (R.HLD_DAC_CFG_RANGE 0) (s.fld R.FUS_POLICY_DACRANGE0)).setFld (R.HLD_DAC_CFG_RANGE 1)
    (s.fld R.FUS_POLICY_DACRANGE1)

/-- The equalisation preset of a lane for a thermal band (R212): cold in Cold, normal in Normal and before any band is known,
hot in Warm and Hot. -/
def eqPresetFor (n : Nat) (band : Option Nat) : Nat :=
  (Config.eqPreset n (match band with
    | some 0 => 0
    | some 2 => 2
    | some 3 => 2
    | _ => 1)).toNat

/-! ### Contents of one block -/

/-- Reset of one register block alone: its registers take their reset values and its logic its initial state. The states of
the domains and the power queue are kept when the block is PWR (log entry 7). -/
def State.resetBlock (s : State) (b : BlockDesc) : State :=
  let keep0 := s.reg R.PWR_STATE0
  let keep1 := s.reg R.PWR_STATE1
  let keepQ := s.reg R.PWR_QUEUE
  let s := (s.clearRegs b.base (b.base + b.size)).loadTrims b.base (b.base + b.size)
  match b.code with
  | 0x00 => ((s.setReg R.PWR_STATE0 keep0).setReg R.PWR_STATE1 keep1).setReg R.PWR_QUEUE keepQ
  | 0x03 => s.withIc { s.ic with lock := none }
  | 0x04 => s.withEvt {}
  | 0x06 => s.withTrc { dbgFails := s.trc.dbgFails, lockUntil := s.trc.lockUntil, tapIr := s.trc.tapIr,
                              boundary := s.trc.boundary, extest := s.trc.extest }
  | 0x0A => s.withHk { vigilBand := s.hk.vigilBand, crit := s.hk.crit, forbid := s.hk.forbid }
  | 0x0C => s.withIdc {}
  | 0x0D => s.withSdh {}
  | 0x0E => s.withDmc {}
  | 0x0F => s.withIc { s.ic with dma := [] }
  | 0x20 => s.withCal {}
  | 0x21 => (s.withHld { retention := s.hld.retention, retentionBad := s.hld.retentionBad }).loadDacRange
  | 0x30 => s.withMtx {}
  | 0x31 =>
    let n := (b.base - 0x42010000) / 0x1000
    (s.withLanes (tdel s.lanes n)).setRegN (R.LNE_EQ n) (eqPresetFor n s.hk.vigilBand)
  | 0x34 => s.withConvs []
  | 0x35 => s.withHvs []
  | 0x36 => s.withCls {}
  | 0x37 => s.withAut []
  | 0x38 => s.withCip { s.cip with missed := [], good := [], tests := [], masks := [], rate := [] }
  | 0x39 => s.withCip { s.cip with pages := [], pkaRun := none, hashOp := none, hashLen := 0, hashState := [],
                                         hashTail := [] }
  | _ => s

/-- The register blocks that lie in a domain (R61). -/
def blocksIn (d : Nat) : List BlockDesc :=
  if 14 ≤ d ∧ d < 20 then (List.range 4).map (fun k => laneBlock (4 * (d - 14) + k))
  else fixedBlocks.filter (fun b => b.domain == d)

/-- The threads of a core leave for OFF and lose their registers, and the core loses its store buffer and caches (R288,
R291, R480). -/
def State.resetCore (s : State) (c : Nat) : State :=
  (s.withThreads (tclear s.threads (4 * c) (4 * c + 4))).withCores (tdel s.cores c)

/-- Reset of a domain other than PD0: every block in it, and its units that have no register block. -/
def State.resetDomain (s : State) (d : Nat) : State :=
  let s := (blocksIn d).foldl State.resetBlock s
  match d with
  | 2 => s.withHld { s.hld with hold := [] }
  | 3 => s.resetCore 0
  | 4 => s.resetCore 1
  | 7 => ((s.withEvt {}).withIc {})
  | 8 => s.withCip { s.cip with missed := [], good := [], tests := [], masks := [] }
  | 9 => (s.setFld R.CIP_STAT_PIPE_UP (nbits (s.fld R.CIP_STAT_PIPE_UP) 1 0)).withCip
      { s.cip with missed := tclear s.cip.missed 2 4, good := tclear s.cip.good 2 4, tests := s.cip.tests.filter (· < 2),
                   masks := tclear s.cip.masks 2 4 }
  | _ => s

/-- A domain that switches off loses its contents: as a reset, and SRAM arrays as well (R92, R480). -/
def State.loseDomain (s : State) (d : Nat) : State :=
  let s := s.resetDomain d
  match d with
  | 5 => s.withSram (tclear s.sram 0x10000000 0x10100000)
  | 6 => s.withSram (tclear s.sram 0x10100000 0x10200000)
  | 23 => s.withTrc { dbgFails := s.trc.dbgFails, lockUntil := s.trc.lockUntil }
  | _ => s

/-! ### Start of a system reset (R500 to R502) -/

/-- The domains a cause reaches: PD1, PD2 and PD21 unless timing is kept, PD3 to PD20 and PD22, and PD23 for a tamper
response (R500). -/
def resetScope (cause : Nat) (keepTiming : Bool) : List Nat :=
  let timing := cause == 0 || cause == 1 || cause == 2 || cause == 7 || !keepTiming
  let all := cause == 0 || cause == 7
  (List.range 24).filter (fun d =>
    if d == 0 then false else if d == 1 || d == 2 || d == 21 then timing else if d == 23 then all else true)

/-- Record the cause in PD0 (R502). -/
def State.recordCause (s : State) (cause : Nat) : State :=
  let s := s.setRegN R.RST_LAST cause
  let s := s.setRegN R.RST_CAUSE (nput (s.regN R.RST_CAUSE) cause cause 1)
  let s := s.setRegN R.RST_COUNT (s.regN R.RST_COUNT + 1)
  let s := s.report 19 0 0
  (s.setFld R.RST_REMAP_REMAP 0).setFld R.RST_WDOG_CFG_EN 0

/-- Whether a system reset holds its domains. -/
def State.inHold (s : State) : Bool := s.rst.phase == .hold

/-- A cause of the same instant whose scope is wider becomes the recorded one (chapter 21, Corner cases). -/
def State.widerCause (s : State) (cause : Nat) : State :=
  let keep := s.flag R.RST_CFG_KEEP_TIMING
  match s.rst.sys with
  | some r =>
    if r.at_ = s.now ∧ (resetScope r.cause keep).length < (resetScope cause keep).length then
      ((s.setRegN R.RST_LAST cause).withRst { s.rst with sys := some { r with cause := cause } })
    else s
  | none => s

/-- Restore-defaults takes effect at a system reset (R52): every RWP object is at its default again. The rest follows at the
end of the hold. -/
def State.restoreNow (s : State) : State :=
  if s.nq.restorePend && !s.nq.restoreDue then
    s.withNq { s.nq with objects := [], restoreDue := true, nextDue := [], backlog := [] }
  else s

/-- A system reset of a cause starts (R501 step 0): the cause is recorded, RST_OUT_N goes low, the domains in scope are
reset and held, the request queue is emptied (R487); what shedding still has to switch off stays. During the hold of another
reset, a further cause sets its bit in RST_CAUSE and widens the scope, and the reset is not restarted or counted again (log
entry 8). -/
def State.systemReset (s : State) (cause : Nat) (zeroing : Bool) : State :=
  if !s.vigil then s
  else
    let scope := resetScope cause (s.flag R.RST_CFG_KEEP_TIMING)
    if s.inHold then
      let s := s.setRegN R.RST_CAUSE (nput (s.regN R.RST_CAUSE) cause cause 1)
      let s := s.widerCause cause
      let more := scope.filter (fun d => !s.rst.heldBy.contains d)
      let s := more.foldl State.resetDomain s
      s.withRst { s.rst with heldBy := s.rst.heldBy ++ more,
                                   sys := s.rst.sys.map (fun r => { r with scope := r.scope ++ more,
                                                                           zeroing := r.zeroing || zeroing }) }
    else
      let s := s.recordCause cause
      let s := s.restoreNow
      let s := scope.foldl State.resetDomain s
      let s := s.withRst { s.rst with phase := .hold, sys := some ⟨cause, scope, s.now, zeroing⟩,
                                      heldBy := scope ++ s.rst.heldBy.filter (fun d => !scope.contains d),
                                      rstOutHigh := false, outAt := none, boot := {} }
      s.withPwr { s.pwr with queue := [], vigil := s.pwr.vigil.filter (fun r => r.action == 0) }

end Sys2Proof.Machine
end

