-- ==== Sys2Proof/Machine/Trace.lean ====
section
/-! DEFINITION. Trace (R339 to R347): packets, the per-core queues, the buffer in its three modes, and the commands that
move trace. -/

namespace Sys2Proof.Machine

/-! ### Packets -/

/-- Whether the trace unit of core c records: PD23 and the core are up, TRC_CTRL.EN and CcEN are set. -/
def State.tracing (s : State) (c : Nat) : Bool :=
  s.live 23 && s.flag R.TRC_CTRL_EN && (if c = 0 then s.flag R.TRC_CTRL_C0EN else s.flag R.TRC_CTRL_C1EN)

/-- Whether Calends can give a time: PD1 is available and CAL_STAT.VALID is 1 (R340). -/
def State.calValid (s : State) : Bool := s.live 1 && s.flag R.CAL_STAT_VALID

/-- The full timestamp, 8 bytes: seconds [33:0] in [63:30], nanoseconds in [29:0]; all ones while Calends gives no time
(R340). -/
def State.traceStamp (s : State) : List Byte :=
  leBytes 8 (if s.calValid then s.calSec % 2 ^ 34 * 2 ^ 30 + s.calNs else 2 ^ 64 - 1)

/-- The nanoseconds of a DOZE packet. -/
def State.traceNs (s : State) : List Byte := leBytes 4 (if s.calValid then s.calNs else 2 ^ 30 - 1)

/-- A header byte: KIND, core, thread within the core (R339). -/
def traceHeader (kind core thr : Nat) : Byte := BitVec.ofNat 8 (kind * 16 + core * 8 + thr * 2)

/-- One packet is lost: TRC_LOST and the pending OVERFLOW count of the core rise (R343). -/
def State.traceLost (s : State) (c : Nat) : State :=
  let s := s.count C.TRC_LOST
  s.withTrc { s.trc with lostPend := tput s.trc.lostPend c (tget 0 s.trc.lostPend c + 1) }

/-- Put one packet into the queue of core c, or lose it when the 32 bytes are full (R341). -/
def State.traceQueue (s : State) (c : Nat) (bytes : List Byte) : State :=
  if !s.tracing c then s
  else
    let q := tget [] s.trc.queues c
    let used := q.foldl (fun n p => n + p.bytes.length) 0
    if 32 < used + bytes.length then s.traceLost c
    else s.withTrc { s.trc with queues := tput s.trc.queues c (q ++ [⟨bytes⟩]) }

/-- Count a packet towards the next SYNC of the core, and emit SYNC with the thread's PC when 2^SYNCPER have been counted
(R339). -/
def State.traceCounted (s : State) (t : Nat) (pc : Word) : State :=
  let c := t / 4
  let n := tget 0 s.trc.sinceSync c + 1
  if 2 ^ max 4 (s.fld R.TRC_CTRL_SYNCPER) ≤ n then
    (s.withTrc { s.trc with sinceSync := tput s.trc.sinceSync c 0 }).traceQueue c
      (traceHeader 1 c (t % 4) :: leBytes 4 pc.toNat)
  else s.withTrc { s.trc with sinceSync := tput s.trc.sinceSync c n }

/-- Emit the branch outcomes a thread still holds as an ATOM packet (R339). -/
def State.traceFlush (s : State) (t : Nat) : State :=
  let o := tget [] s.trc.atoms t
  if o.isEmpty then s
  else
    let bits := o.foldr (fun b n => b2n b + 2 * n) 0
    (s.withTrc { s.trc with atoms := tdel s.trc.atoms t }).traceQueue (t / 4)
      [traceHeader 2 (t / 4) (t % 4), BitVec.ofNat 8 (o.length * 32 + bits)]

/-- COLD precedes every other packet of a core after its domain came up (R346). -/
def State.traceCold (s : State) (c : Nat) : State :=
  if s.tracing c && s.trc.cold.contains c then
    (s.withTrc { s.trc with cold := s.trc.cold.filter (· != c) }).traceQueue c
      (traceHeader 7 c 0 :: s.traceStamp)
  else s

/-- Emit a packet of thread t: COLD if it is due, the thread's ATOM first, then the packet. -/
def State.trace (s : State) (t kind : Nat) (payload : List Byte) (pc : Word) : State :=
  if !s.tracing (t / 4) then s
  else
    let s := (s.traceCold (t / 4)).traceFlush t
    (s.traceQueue (t / 4) (traceHeader kind (t / 4) (t % 4) :: payload)).traceCounted t pc

/-- Emit a packet of a core that names no thread (DOZE). -/
def State.traceCore (s : State) (c kind : Nat) (payload : List Byte) : State :=
  if !s.tracing c then s
  else (s.traceCold c).traceQueue c (traceHeader kind c 0 :: payload)

/-- A conditional branch of thread t resolves: the outcome is kept, and five make an ATOM (R339). -/
def State.traceBranch (s : State) (t : Nat) (taken : Bool) (pc : Word) : State :=
  if !s.tracing (t / 4) then s
  else
    let o := tget [] s.trc.atoms t ++ [taken]
    let s := s.withTrc { s.trc with atoms := tput s.trc.atoms t o }
    if 5 ≤ o.length then ((s.traceCold (t / 4)).traceFlush t).traceCounted t pc else s

/-! ### The buffer -/

/-- Bytes into the 64 KB buffer at WPTR. -/
def State.traceStore (s : State) : List Byte → State
  | [] => s
  | b :: r =>
    let w := s.regN R.TRC_WPTR
    let s := s.setRegN R.TRC_WPTR ((w + 1) % 65536)
    (s.withTrc { s.trc with buf := tset 0 s.trc.buf w b, fill := min 65536 (s.trc.fill + 1) }).traceStore r

/-- The mode of the buffer; 0b11 is taken as WRAP (chapter 13, Registers). -/
def State.traceMode (s : State) : Nat := if s.fld R.TRC_CTRL_MODE = 3 then 0 else s.fld R.TRC_CTRL_MODE

/-- Write one packet of core c to the buffer, an OVERFLOW packet before it when packets were lost (R342, R343). -/
def State.traceWrite (s : State) (c : Nat) (bytes : List Byte) : State :=
  let lost := tget 0 s.trc.lostPend c
  let all := (if lost = 0 then [] else traceHeader 8 c 0 :: leBytes 2 (min lost 65535)) ++ bytes
  if s.traceMode ≠ 0 && 65536 < s.trc.fill + all.length then
    let s := if s.traceMode = 1 then s.setFld R.TRC_STAT_FULL 1 else s
    (s.traceLost c).raise 156
  else if s.traceMode = 1 && s.flag R.TRC_STAT_FULL then s.traceLost c
  else (s.withTrc { s.trc with lostPend := tdel s.trc.lostPend c }).traceStore all

/-- TRACE_PACKET_WRITE (R341): the oldest packet of core c's queue is written. -/
def State.tracePacket (s : State) (c : Nat) : State :=
  if !s.live 23 then s
  else
    match tget [] s.trc.queues c with
    | [] => s
    | p :: r => (s.withTrc { s.trc with queues := tput s.trc.queues c r }).traceWrite c p.bytes

/-- Drain a core's whole queue (R344, R346). -/
def State.traceDrain (s : State) (c : Nat) : State :=
  (tget [] s.trc.queues c).foldl (fun s _ => s.tracePacket c) s

/-- The command TRACE_PACKET_WRITE. -/
def execTracePacketWrite (c : Fin 2) (s : State) : Host.Outcome State Fault Refusal := .next (s.tracePacket c)

/-- The requester identity of trace streaming: master M6 (R353). -/
def ridTrace : Rid := 0xC0

/-- `n` bytes of the buffer from a position. -/
def State.traceBytes (s : State) (p n : Nat) : List Byte :=
  (List.range n).map (fun k => tget 0 s.trc.buf ((p + k) % 65536))

/-- TRACE_STREAM_BURST (R342): 64 bytes go to the DRAM ring, PAD packets filling a short burst, unless the write would
make DWPTR equal DRPTR. -/
def State.traceBurst (s : State) : State :=
  if !(s.live 23 && s.flag R.TRC_CTRL_EN && s.traceMode = 2) || s.trc.fill = 0 then s
  else
    let size := 2 ^ max 12 (min 28 (s.fld R.TRC_DSIZE_SIZE))
    let w := s.regN R.TRC_DWPTR
    let w' := (w + 64) % size
    if w' = s.regN R.TRC_DRPTR then s
    else
      let n := min 64 s.trc.fill
      let bs := s.traceBytes (s.regN R.TRC_WPTR + 65536 - s.trc.fill) n ++ List.replicate (64 - n) 0
      let r := s.memWrite ridTrace (s.regN R.TRC_DBASE + w) bs
      ((r.2.withTrc { r.2.trc with fill := r.2.trc.fill - n })).setRegN R.TRC_DWPTR w'

/-- The command TRACE_STREAM_BURST. -/
def execTraceStreamBurst (s : State) : Host.Outcome State Fault Refusal := .next s.traceBurst

/-- TRC_CTRL.CLEAR empties the buffer (R343). -/
def State.traceClear (s : State) : State :=
  (s.withTrc { s.trc with buf := [], fill := 0 }).setFld R.TRC_STAT_FULL 0 |>.setRegN R.TRC_WPTR 0

/-- SYNC for every thread of a core that is in RUN or WAIT, when its trace is enabled (R339). -/
def State.traceSyncAll (s : State) (c : Nat) : State :=
  (List.range 4).foldl (fun s k =>
    let t := 4 * c + k
    let th := tget {} s.threads t
    if th.run = 1 || th.run = 2 then s.trace t 1 (leBytes 4 th.pc.toNat) th.pc else s) s

/-- What a write to a TRC_ register does beyond its fields: MODE, DBASE and DSIZE keep their values while EN = 1, CLEAR
empties the buffer, and enabling emits SYNC (chapter 13, Registers). `old` is the register before the write. -/
def trcWrite (_rid : Rid) (a : Nat) (_data old : Word) (s : State) : State :=
  if a = R.TRC_CTRL then
    let s := if nbit old.toNat 0 then s.setFld R.TRC_CTRL_MODE (nbits old.toNat 2 1) else s
    let clear := s.flag R.TRC_CTRL_CLEAR
    let s := s.setFld R.TRC_CTRL_CLEAR 0
    let s := if clear then s.traceClear else s
    let on0 := nbit old.toNat 0 && nbit old.toNat 3
    let on1 := nbit old.toNat 0 && nbit old.toNat 4
    let s := if !on0 && s.tracing 0 then s.traceSyncAll 0 else s
    if !on1 && s.tracing 1 then s.traceSyncAll 1 else s
  else if a = R.TRC_DBASE || a = R.TRC_DSIZE then
    if s.flag R.TRC_CTRL_EN then s.setReg a old else s
  else s

/-- A read of TRC_RDDATA: the word of the buffer at TRC_RDADDR, which then advances by 4 modulo 64 KB. -/
def State.traceRead (s : State) : Word × State :=
  let p := s.regN R.TRC_RDADDR
  (BitVec.ofNat 32 (leNat (s.traceBytes p 4)), s.setRegN R.TRC_RDADDR ((p + 4) % 65536))

end Sys2Proof.Machine
end

