-- ==== Sys2Proof/Machine/Commit.lean ====
section
/-! DEFINITION. Route entries of Saltern (R155, R156), the end of a Saltern commit, and the commits of converter programs
(R221 to R228), which the end of a Saltern commit releases. -/

namespace Sys2Proof.Machine

/-! ### Error responses of registers -/

/-- The access in progress gets an error response (R71, R157, R224). -/
def State.errResp (s : State) : State := s.withAnswer { s.answer with err := true }

/-! ### Route entries (R156) -/

/-- A word of an entry. -/
def entryWord (tab : List (Nat × Word)) (g k : Nat) : Nat := (tget 0 tab (8 * g + k)).toNat

/-- The transmit containers with an enabled route, in ascending order. -/
def enabledRoutes (tab : List (Nat × Word)) : List Nat :=
  (tab.filter (fun p => p.1 % 8 == 0 && nbit p.2.toNat 31)).map (fun p => p.1 / 8)

/-- A source of a route: slot, converter if any, gain code, receive container. -/
structure RouteSrc where
  slot : Nat
  conv : Option Nat
  gain : Nat
  src : Nat
deriving DecidableEq, Repr

/-- The sources of an entry, slots 0 to NSRC. -/
def routeSources (tab : List (Nat × Word)) (g : Nat) : List RouteSrc :=
  (List.range (nbits (entryWord tab g 0) 29 28 + 1)).map (fun k =>
    let w := entryWord tab g (2 + k)
    let cv := nbits w 30 22
    ⟨k, if cv = 0x1FF then none else some cv, nbits w 21 11, nbits w 10 0⟩)

/-- Whether an entry is enabled. -/
def routeEn (tab : List (Nat × Word)) (g : Nat) : Bool := nbit (entryWord tab g 0) 31

/-- The uses of a converter in a table: transmit container and source. -/
def convUses (tab : List (Nat × Word)) (k : Nat) : List (Nat × RouteSrc) :=
  (enabledRoutes tab).flatMap (fun g =>
    ((routeSources tab g).filter (fun r => r.conv == some k)).map (fun r => (g, r)))

/-- The entries that differ between the tables (R173). -/
def changedEntries (day eve : List (Nat × Word)) : List Nat :=
  let keys := (day ++ eve).map (fun (p : Nat × Word) => p.1 / 8)
  (List.range 1536).filter (fun g => keys.contains g &&
    (List.range 8).any (fun k => entryWord day g k != entryWord eve g k))

/-- The state of a Saltern commit: 0 IDLE, 1 VALIDATING, 2 ARMED. -/
def State.mtxState (s : State) : Nat := s.fld R.MTX_COMMIT_STAT_STATE

/-! ### Sources -/

/-- The domain of a lane (R61). -/
def laneDomain (n : Nat) : Nat := 14 + n / 4

/-- Whether a lane is up, enabled and block-locked; a Varlas lane only while it holds superframe lock (R163, R205). -/
def State.laneLocked (s : State) (n : Nat) : Bool :=
  s.live (laneDomain n) && s.flag (R.LNE_CTRL_EN n) && s.flag (R.LNE_STAT_BLOCK_LOCK n) &&
    (s.fld (R.LNE_CTRL_MODE n) < 2 || s.flag (R.LNE_STAT_SF_LOCK n))

/-- A receive container. -/
def State.recv (s : State) (c : Nat) : RecvSt := tget {} s.mtx.recv c

/-- Whether a source is absent: its lane is not block-locked or is disabled, or it has delivered nothing for MTX_SRCTO
(R163, R165). -/
def State.srcAbsent (s : State) (c : Nat) : Bool := !s.laneLocked (c / 64) || (s.recv c).lapsed

/-! ### Converters -/

/-- A converter. -/
def State.conv (s : State) (k : Nat) : ConvSt := tget {} s.convs k

/-- Change a converter. -/
def State.modConv (s : State) (k : Nat) (f : ConvSt → ConvSt) : State := s.withConvs (tmod {} s.convs k f)

/-- TAPS of a program word. -/
def progTaps (w : Nat) : Nat := 8 * nbits w 11 8

/-- PHASES of a program word. -/
def progPhases (w : Nat) : Nat := nbits w 22 16 + 1

/-- IN_K of a program word. -/
def progIn (w : Nat) : Nat := nbits w 28 26

/-- OUT_K of a program word. -/
def progOut (w : Nat) : Nat := nbits w 25 23

/-- Whether a program keeps the limits of R221. -/
def progLegal (w step : Nat) : Bool :=
  let t := progTaps w
  let p := progPhases w
  let a := progIn w
  let b := progOut w
  a ≤ 5 && b ≤ 5 && 8 ≤ t && t ≤ 64 && p ≤ 128 && t * p ≤ 1024 &&
  (if nbit w 29 then 2 ^ 21 ≤ step && step ≤ 2 ^ 27
   else a ≤ b + 3 && b ≤ a + 3 && p == (if a ≤ b then 2 ^ (b - a) else 1))

/-- Whether the output of a converter in the Day table lacks an input: its source is absent or has not delivered the
sample times the next output takes (R225). -/
def State.convStalled (s : State) (k : Nat) : Bool :=
  (convUses s.mtx.day k).any (fun u =>
    s.srcAbsent u.2.src ||
      (match (s.recv u.2.src).next, (tget {} s.mtx.conts u.1).next with
       | some n, some t =>
         let pin := 32 / 2 ^ min (progIn (s.conv k).act.toNat) 5
         n ≤ t / pin * pin
       | none, _ => true
       | some _, none => false))

/-- The staging bank becomes the active bank. -/
def ConvSt.take (c : ConvSt) : ConvSt :=
  { c with act := c.stg, actStep := c.stgStep, actCoef := c.stgCoef, pend := 0, held := false, stalledAt := none }

/-- A forced commit (R226). -/
def State.convForce (s : State) (k : Nat) : State :=
  let stalled := s.convStalled k
  (s.modConv k (fun c => { c.take with disc := c.hist.length, hist := [], trunc := true, void := stalled })).count
    C.SRC_FORCED

/-- A commit request, plain (1) or forced (2), acts (R225, R226): a converter that is not named in the Day table commits
with its history cleared, a running one switches at its next output, a stalled one waits. -/
def State.convAct (s : State) (k kind : Nat) : State :=
  if kind = 2 then s.convForce k
  else if (convUses s.mtx.day k).isEmpty then s.modConv k (fun c => { c.take with hist := [] })
  else if s.convStalled k then s.modConv k (fun c => { c with pend := 1, held := false, stalledAt := some s.now })
  else s.modConv k ConvSt.take

/-- A commit request arrives (R221, R228): refused with REJ when the program breaks its limits or changes the rates of a
converter in the Day table; held while a Saltern commit names the converter in a changed entry. -/
def State.convRequest (s : State) (k kind : Nat) : State :=
  let c := s.conv k
  let inDay := !(convUses s.mtx.day k).isEmpty
  let rates := progIn c.stg.toNat != progIn c.act.toNat || progOut c.stg.toNat != progOut c.act.toNat
  if !progLegal c.stg.toNat c.stgStep.toNat || (inDay && rates) then s.modConv k (fun c => { c with rej := true })
  else if s.mtxState ≠ 0 && (convUses s.mtx.eve k).any (fun u => s.mtx.changed.contains u.1) then
    s.modConv k (fun c => { c with pend := max c.pend kind, held := true })
  else s.convAct k kind

/-- The requests held during a Saltern commit are acted on (R228). -/
def State.releaseHeld (s : State) : State :=
  (s.convs.filter (fun p => p.2.held)).foldl (fun s p => s.convAct p.1 p.2.pend) s

/-- A Saltern commit ends without completing: RESULT, STATE IDLE, E49, and held requests are released (R170, R171, R172). -/
def State.mtxCancel (s : State) (result : Nat) : State :=
  let s := (s.setFld R.MTX_COMMIT_STAT_RESULT result).setFld R.MTX_COMMIT_STAT_STATE 0
  let s := s.withMtx { s.mtx with changed := [], switched := [], skew := s.mtx.skew.filter (fun p => p.1 < 6144) }
  (s.raise 49).releaseHeld

/-- A Calends step before B cancels a commit that is validating or armed (R172). -/
def State.mtxStepped (s : State) : State :=
  if s.live 12 && s.mtxState ≠ 0 && s.calSec * 1000000000 + s.calNs < s.mtx.boundary then s.mtxCancel 0xA else s

end Sys2Proof.Machine
end

