-- ==== Sys2Proof/Machine/Float32.lean ====
section
/-! DEFINITION. Binary32 arithmetic, rounded to nearest even, in which the holdover learner computes (R128, R132). An
operation on an infinity or a NaN gives the NaN 0x7FC00000; log entry 14. -/

namespace Sys2Proof.Machine

/-- The NaN that stands for every invalid result. -/
def fNaN : Word := 0x7FC00000

/-- Whether a word is an infinity or a NaN. -/
def fBad (a : Word) : Bool := nbits a.toNat 30 23 == 255

/-- The mantissa with its sign, and the exponent of its unit plus 149. -/
def fSplit (a : Word) : Int × Nat :=
  let e := nbits a.toNat 30 23
  let m := nbits a.toNat 22 0
  let v : Nat := if e = 0 then m else m + 2 ^ 23
  (if nbit a.toNat 31 then -(v : Int) else v, e - 1)

/-- The binary32 number nearest to `n / d × 2 ^ k / 2 ^ j`; ties to even; beyond the range infinity. -/
def fRound (n : Int) (d k j : Nat) : Word :=
  let num := n.natAbs * 2 ^ k
  let den := d * 2 ^ j
  if num = 0 ∨ den = 0 then 0
  else
    -- the exponent of the leading bit, offset by 2^12
    let q : Int := (Nat.log2 num : Int) - (Nat.log2 den : Int)
    let lead : Int := if 0 ≤ q then (if den * 2 ^ q.toNat ≤ num then q else q - 1)
      else (if den ≤ num * 2 ^ (-q).toNat then q else q - 1)
    let e : Int := max (lead - 23) (-149)
    let m := if 0 ≤ e then roundEven num (den * 2 ^ e.toNat) else roundEven (num * (2 ^ (-e).toNat : Nat) : Int) den
    let mag := if m < 2 ^ 23 then m.toNat else ((e + 149).toNat) * 2 ^ 23 + m.toNat
    let mag := min mag 0x7F800000
    BitVec.ofNat 32 (mag + (if n < 0 then 2 ^ 31 else 0))

/-- A rational number as binary32. -/
def fRat (n : Int) (d : Nat) : Word := fRound n d 0 0

/-- An integer as binary32. -/
def fInt (n : Int) : Word := fRat n 1

/-- Negation. -/
def fNeg (a : Word) : Word := a ^^^ 0x80000000

/-- Sum. -/
def fAdd (a b : Word) : Word :=
  if fBad a || fBad b then fNaN
  else
    let x := fSplit a
    let y := fSplit b
    fRound (x.1 * (2 ^ x.2 : Nat) + y.1 * (2 ^ y.2 : Nat)) 1 0 149

/-- Difference. -/
def fSub (a b : Word) : Word := fAdd a (fNeg b)

/-- Product. -/
def fMul (a b : Word) : Word :=
  if fBad a || fBad b then fNaN
  else
    let x := fSplit a
    let y := fSplit b
    fRound (x.1 * y.1) 1 (x.2 + y.2) 298

/-- Quotient; a division by zero gives the NaN. -/
def fDiv (a b : Word) : Word :=
  let x := fSplit a
  let y := fSplit b
  if fBad a || fBad b || y.1 = 0 then fNaN
  else fRound (if y.1 < 0 then -x.1 else x.1) y.1.natAbs x.2 y.2

/-- Square root; of a negative number the NaN. -/
def fSqrt (a : Word) : Word :=
  let x := fSplit a
  if fBad a || x.1 < 0 then fNaN
  else
    -- value = m × 2^(e − 149) = m × 2^(e + 1) / 2^150; its root is sqrt (m × 2^(e + 1) × 2^200) / 2^175
    let n := x.1.natAbs * 2 ^ (x.2 + 201)
    let r := Nat.sqrt n
    fRound ((2 * r + (if r * r = n then 0 else 1) : Nat) : Int) 1 0 176

/-- Absolute value. -/
def fAbs (a : Word) : Word := a &&& 0x7FFFFFFF

/-- Whether a is greater than b; false when either is a NaN or infinity. -/
def fGt (a b : Word) : Bool :=
  let x := fSplit a
  let y := fSplit b
  !fBad a && !fBad b && y.1 * (2 ^ y.2 : Nat) < x.1 * (2 ^ x.2 : Nat)

/-- The integer nearest to a × 2^k, ties to even; zero for a NaN or infinity. -/
def fToInt (a : Word) (k : Nat) : Int :=
  let x := fSplit a
  if fBad a then 0 else roundEven (x.1 * (2 ^ (x.2 + k) : Nat)) (2 ^ 149)

/-- Dot product, summed from the first term on. -/
def fDot (x y : List Word) : Word := (x.zip y).foldl (fun a p => fAdd a (fMul p.1 p.2)) 0

end Sys2Proof.Machine
end

