-- ==== Sys2Proof/Machine/StoreQueue.lean ====
section
/-! DEFINITION. The request queue of the non-volatile store (R385) and the thermal band Vigil holds (R424), as every
requester of the store sees them. -/

namespace Sys2Proof.Machine

/-- Whether two requests come from the same requester. -/
def NvsWho.same : NvsWho → NvsWho → Bool
  | .firmware _, .firmware _ => true
  | a, b => a == b

/-- A requester asks for an operation (R385): it enters the queue behind what is there, or the requester holds it until its
own operation has ended; HLD and the tamper supervisor merge it into the one they hold. -/
def State.nvsRequest (s : State) (who : NvsWho) (op : NvsOp) : State :=
  let n := s.nvs
  let busy := n.queue.any (fun r => r.who.same who) ||
    (match n.current with
     | some r => r.who.same who
     | none => false)
  if !busy then s.withNvs { n with queue := n.queue ++ [⟨who, op⟩] }
  else if (who == .hld || who == .tamper) && n.held.any (fun r => r.who == who) then s
  else s.withNvs { n with held := n.held ++ [⟨who, op⟩] }

/-- The operation of a requester has ended: the first request it held enters the queue. -/
def State.nvsRelease (s : State) (who : NvsWho) : State :=
  match s.nvs.held.find? (fun r => r.who.same who) with
  | none => s
  | some r => s.withNvs { s.nvs with held := s.nvs.held.erase r, queue := s.nvs.queue ++ [r] }

/-- The band Vigil holds: 0 Cold, 1 Normal, 2 Warm, 3 Hot; none while PD21 has reported none (R423, R424). -/
def State.band (s : State) : Option Nat := s.hk.vigilBand

/-- Whether a store write may start: the Normal or Warm band (R390). -/
def State.storeBand (s : State) : Bool := s.band == some 1 || s.band == some 2

end Sys2Proof.Machine
end

