-- ==== Sys2Proof/Machine/Almanac.lean ====
section
/-! DEFINITION. The Almanac (R139 to R146): the record, its copies and their checks, clearing it, and whether it is usable,
stale and seasoned. -/

namespace Sys2Proof.Machine

/-- A working copy as it starts (R130): created now, with the covariance, noise and variance the learner starts from; the
spec gives no starting values for these (log entry 15). -/
def freshAlmanac (t0 : Int) (tRef : Nat) (kdac : Word) : Almanac where
  tRef := tRef
  coef := [0, 0, 0, 0, 0]
  t0 := BitVec.ofNat 16 (unsgn 16 t0)
  created := true
  p := (List.range 15).map Config.learnerInit
  q := Config.learnerInit 15
  minutes := List.replicate 30 0
  kdac := kdac

/-- Bytes 0 to 251 of a record (R139). -/
def Almanac.body (a : Almanac) : List Byte :=
  leBytes 4 0x414C4D31 ++ leBytes 4 a.gen ++ leBytes 8 (a.tRef % 2 ^ 48) ++ leBytes 8 (a.lastLocked % 2 ^ 48) ++
  (List.range 5).flatMap (fun i => leBytes 4 (a.coef.getD i 0).toNat) ++ leBytes 2 a.t0.toNat ++
  leBytes 2 (b2n a.created + 2 * b2n a.learnt) ++ (List.range 15).flatMap (fun i => leBytes 4 (a.p.getD i 0).toNat) ++
  leBytes 4 a.q.toNat ++ (List.range 30).flatMap (fun i => leBytes 2 (a.minutes.getD i 0)) ++ leBytes 2 a.day ++
  leBytes 4 a.dac0.toNat ++ leBytes 4 a.dac1.toNat ++ leBytes 4 a.kdac.toNat ++ List.replicate 66 0

/-- The record, 256 bytes with its CRC-32. -/
def Almanac.record (a : Almanac) : List Byte := a.body ++ leBytes 4 (crc32 a.body)

/-- Read a record whose identifier and CRC are good (R142). -/
def readAlmanac (l : List Byte) : Option Almanac :=
  let n := fun off k => leNat (slice l off k)
  if n 0 4 ≠ 0x414C4D31 ∨ n 252 4 ≠ crc32 (l.take 252) then none
  else
    some {
      gen := n 4 4
      tRef := n 8 6
      lastLocked := n 16 6
      coef := (List.range 5).map (fun i => BitVec.ofNat 32 (n (24 + 4 * i) 4))
      t0 := BitVec.ofNat 16 (n 44 2)
      created := nbit (n 46 2) 0
      learnt := nbit (n 46 2) 1
      p := (List.range 15).map (fun i => BitVec.ofNat 32 (n (48 + 4 * i) 4))
      q := BitVec.ofNat 32 (n 108 4)
      minutes := (List.range 30).map (fun i => n (112 + 2 * i) 2)
      day := n 172 2
      dac0 := BitVec.ofNat 21 (n 174 4)
      dac1 := BitVec.ofNat 21 (n 178 4)
      kdac := BitVec.ofNat 32 (n 182 4) }

/-- The persistent copy in slot A (page 2) or B (page 3), when its page and record pass. -/
def State.almanacSlot (s : State) (p : Nat) : Option Almanac :=
  if s.nvs.bad.contains p then none
  else readAlmanac ((List.range 256).map (fun k => tget 0 s.nvs.data (1024 * p + k)))

/-- The retention copy, when it passes. -/
def State.almanacRetention (s : State) : Option Almanac := if s.hld.retentionBad then none else s.hld.retention

/-- The copy R142 loads, with its SRC code: the retention copy, then the slot with the higher generation. -/
def State.almanacPick (s : State) : Option (Almanac × Nat) :=
  match s.almanacRetention, s.almanacSlot 2, s.almanacSlot 3 with
  | some r, _, _ => some (r, 1)
  | none, some a, some b => if a.gen < b.gen then some (b, 3) else some (a, 2)
  | none, some a, none => some (a, 2)
  | none, none, some b => some (b, 3)
  | none, none, none => none

/-- A slot that was never written holds no copy (log entry 121). -/
def State.almanacBlank (s : State) (p : Nat) : Bool :=
  !s.nvs.bad.contains p && (List.range 256).all (fun k => tget 0 s.nvs.data (1024 * p + k) == 0)

/-- The copies that fail their check at a load, as HLD_ALM_STAT.BAD shows them (R142): the slots are read when the retention
copy does not serve. -/
def State.almanacBad (s : State) : Nat :=
  let fails := fun p => s.almanacRetention.isNone && (s.almanacSlot p).isNone && !s.almanacBlank p
  b2n s.hld.retentionBad + 2 * b2n (fails 2) + 4 * b2n (fails 3)

/-- Whether a record's last locked update lies more than 30 days before a seconds count (R143). -/
def Almanac.staleAt (a : Almanac) (sec : Nat) : Bool := a.lastLocked + 30 * 86400 < sec

/-- The locked minutes of the present TAI day and the 29 days before it (R144). -/
def Almanac.minutesSum (a : Almanac) : Nat := (a.minutes.take 30).foldl (· + ·) 0

/-- Whether a holdover entered now would be seasoned (R143, R144). -/
def State.seasonedNow (s : State) : Bool :=
  match s.hld.work with
  | some a => !s.flag R.HLD_STAT_AGE_UNK && 4320 ≤ a.minutesSum
  | none => false

/-- Show the working copy in its registers: coefficients, T0, COEF_FUSE, minutes and age, last-locked codes. -/
def State.showAlmanac (s : State) : State :=
  match s.hld.work with
  | none =>
    let s := (List.range 5).foldl (fun s i => s.setRegN (R.HLD_COEF i) 0) s
    let s := (s.setRegN R.HLD_T0 0).setFld R.HLD_STAT_COEF_FUSE 1
    ((s.setRegN R.HLD_HIST 0).setRegN (R.HLD_DAC_LAST 0) 0).setRegN (R.HLD_DAC_LAST 1) 0
  | some a =>
    let s := (List.range 5).foldl (fun s i => s.setReg (R.HLD_COEF i) (a.coef.getD i 0)) s
    let s := (s.setRegN R.HLD_T0 a.t0.toNat).setFlag R.HLD_STAT_COEF_FUSE (!a.learnt)
    let s := s.setRegN R.HLD_HIST (min 65535 ((s.calSec - a.lastLocked) / 86400) * 2 ^ 16 + a.minutesSum % 65536)
    (s.setRegN (R.HLD_DAC_LAST 0) a.dac0.toNat).setRegN (R.HLD_DAC_LAST 1) a.dac1.toNat

/-- SEASONED follows the class a holdover would take now; a change raises E135 (R123). -/
def State.judgeClass (s : State) : State :=
  let c := s.seasonedNow
  if s.flag R.HLD_STAT_SEASONED == c then s else (s.setFlag R.HLD_STAT_SEASONED c).raise 135

/-- The working copy becomes empty: the learner starts afresh (R143, R145). -/
def State.emptyAlmanac (s : State) : State :=
  let s := s.withHld { s.hld with work := none, theta := [0, 0, 0, 0, 0], sigma2 := 0, prevResid := none,
                                        window := [], lockedSec := 0, changed := true }
  let s := (s.setRegN R.HLD_SAMPLES 0).setRegN R.HLD_SAMPLES_HI 0
  s.showAlmanac.judgeClass

/-- A persistent write of the Almanac is requested (R140, R141): deferred in the Cold or Hot band. -/
def State.hldPersist (s : State) : State :=
  if s.band == some 0 || s.band == some 3 then s.setFld R.HLD_STAT_PERSIST_DEFER 1
  else s.nvsRequest .hld .almanac

/-- The first change into the Normal or Warm band makes a deferred write (R141). -/
def State.hldBandChange (s : State) : State :=
  if s.live 1 && s.flag R.HLD_STAT_PERSIST_DEFER && s.storeBand then
    (s.setFld R.HLD_STAT_PERSIST_DEFER 0).nvsRequest .hld .almanac
  else s

/-- HLD_ALM_CTRL.CLEAR (R145): the working copy is emptied, an empty record goes to the retention copy, and a persistent
write is requested. -/
def State.clearAlmanac (s : State) : State :=
  let s := s.emptyAlmanac
  let s := s.withHld { s.hld with retention := some {}, retentionBad := false }
  (s.hldPersist).setFld R.HLD_ALM_CTRL_CLEAR 0

/-- The page and the record a persistent write makes: to the older slot, or one that fails its check, with the generation
after the newest (R139, R140). -/
def State.almanacImage (s : State) : Nat × List Byte :=
  let a := s.almanacSlot 2
  let b := s.almanacSlot 3
  let ga := a.elim 0 (·.gen)
  let gb := b.elim 0 (·.gen)
  let page := match a, b with
    | none, _ => 2
    | some _, none => 3
    | some x, some y => if y.gen < x.gen then 3 else 2
  let w : Almanac := s.hld.work.getD {}
  (page, ({ w with gen := max ga gb + 1 }).record)

/-- A persistent write of HLD has ended (R140, R141): GEN shows its generation, or PERSIST_FAIL and E131. -/
def State.hldStoreEnd (s : State) (result : Nat) : State :=
  if result = 0 then
    let g := max ((s.almanacSlot 2).elim 0 (·.gen)) ((s.almanacSlot 3).elim 0 (·.gen))
    (s.withHld { s.hld with changed := false, persistAt := s.now }).setFld R.HLD_ALM_STAT_GEN g
  else (s.setFld R.HLD_ALM_STAT_PERSIST_FAIL 1).raise 131

/-- CAL_STAT.VALID has become 1: an Almanac of unknown age is judged (R143). -/
def State.judgeAge (s : State) : State :=
  if !s.flag R.HLD_STAT_AGE_UNK then s
  else
    match s.hld.work with
    | some a =>
      if s.calSec < a.lastLocked then s
      else
        let s := s.setFld R.HLD_STAT_AGE_UNK 0
        if a.staleAt s.calSec then s.emptyAlmanac.setFld R.HLD_ALM_STAT_STALE 1 else s.showAlmanac.judgeClass
    | none => s.setFld R.HLD_STAT_AGE_UNK 0

end Sys2Proof.Machine
end

