-- ==== Sys2Proof/Machine/Time.lean ====
section
/-! DEFINITION. Time (R93 to R99): how Calends advances, its steps and leap seconds, and the instant at which an event that
the block reaches by itself comes about. -/

namespace Sys2Proof.Machine

/-- One nanosecond of Calends in its units of 2⁻⁴⁸ ns. -/
def calUnit : Nat := 2 ^ 48

/-- One second of Calends in its units. -/
def calSecond : Nat := 1000000000 * 2 ^ 48

/-- What Calends advances in one nanosecond of REFCLK: 2⁴⁸ units and CAL_RATE (R96). -/
def State.calRate (s : State) : Nat := (2 ^ 48 + sgn 32 (s.regN R.CAL_RATE)).toNat

/-- The state of the DPLL: 0 FREE, 1 ACQUIRE, 2 LOCKED, 3 HOLDOVER (R118). -/
def State.dpll (s : State) : Nat := s.fld R.CAL_STAT_DPLL

/-- The DPLL enters ACQUIRE from its present state: E122, and HLD shows ACQ (R118, R122). -/
def State.dpllAcquire (s : State) : State :=
  let s := s.withCal { s.cal with acqFrom := s.dpll, lockRun := 0 }
  (((s.setFld R.CAL_STAT_DPLL 1).setFld R.CAL_STAT_PHASE_TRACE 0).setFld R.HLD_STAT_ACQ 1).raise 122

/-- The leap of CAL_UTC when Calends goes from one second to another past the end of CAL_LEAP_SEC (R99). -/
def State.leapPast (s : State) (before after : Nat) : State :=
  let k := (s.regN R.CAL_LEAP_SEC + 2 ^ 32 - before % 2 ^ 32) % 2 ^ 32
  let leap := s.fld R.CAL_UTC_LEAP
  if before + k < after && (leap = 1 || leap = 2) then
    let o := s.fld R.CAL_UTC_OFFSET
    let s := s.setFld R.CAL_UTC_OFFSET (if leap = 1 then o + 1 else o + 65535)
    (s.setFld R.CAL_UTC_LEAP 0).raise 124
  else s

/-- Calends takes a new time at one instant (R97 to R99, R172), the source updates before it moving with it: a commit before
its boundary is cancelled, the step is counted, E126 is raised, a leap that is passed is applied, VALID is set by an absolute step, and a firmware step of other
than whole seconds returns a LOCKED DPLL to ACQUIRE. -/
def State.calStepTo (s : State) (t : Nat) (absolute firmware : Bool) : State :=
  let s := s.mtxStepped
  let old := s.cal.t
  let wasValid := s.flag R.CAL_STAT_VALID
  let by_ := ((t : Int) - (old : Int)) / (2 ^ 32 : Nat)
  let s := s.withCal { s.cal with t := t, sources := s.cal.sources.map (fun (p : Nat × SrcSt) =>
    (p.1, { p.2 with last := p.2.last.map (fun l => ((l : Int) + by_).toNat) })) }
  let s := (s.countFld R.CAL_STAT_STEP_CNT 1).raise 126
  let s := s.leapPast (old / calSecond) (t / calSecond)
  let s := if absolute then s.setFld R.CAL_STAT_VALID 1 else s
  let s := if absolute && !wasValid then s.judgeAge else s
  if firmware && s.dpll = 2 && old % calSecond ≠ t % calSecond then s.dpllAcquire else s

/-- The time CAL_SET names. -/
def State.calSet (s : State) : Nat :=
  (s.regN R.CAL_SET_SEC_LO + 2 ^ 32 * s.fld R.CAL_SET_SEC_HI_SEC) * calSecond + s.fld R.CAL_SET_NS_NS * calUnit

/-- Calends goes on to a value reached by counting: a pending step replaces the second at the rollover (R97), a leap is
applied at the end of its second (R99). -/
def State.calRun (s : State) (t : Nat) : State :=
  let old := s.cal.t
  let b := (old / calSecond + 1) * calSecond
  if s.flag R.CAL_STEP_PEND && b ≤ t then
    let s := ((s.withCal { s.cal with t := b }).leapPast (old / calSecond) (b / calSecond)).setFld R.CAL_STEP_PEND 0
    let s := s.calStepTo s.calSet true true
    s.withCal { s.cal with t := s.cal.t + (t - b) }
  else (s.withCal { s.cal with t := t }).leapPast (old / calSecond) (t / calSecond)

/-- Time passes: `d` nanoseconds. Calends counts while PD1 is available. -/
def State.advance (s : State) (d : Nat) : State :=
  let s := s.withNow (s.now + d)
  if s.live 1 then s.calRun (s.cal.t + d * s.calRate) else s

/-- An event due at an instant comes about: time goes on to that instant unless it is already past (log entry 3). -/
def State.advanceTo (s : State) (due : Nat) : State := if s.now < due then s.advance (due - s.now) else s

/-- The nanoseconds until Calends has counted to a value. -/
def State.nsUntil (s : State) (t : Nat) : Nat := (t - s.cal.t + s.calRate - 1) / s.calRate

/-! ### The commands that step Calends -/

/-- CAL_STEP is written with GO (R97, R98): mode 0b00 at once, 0b01 at the next rollover, 0b10 by CAL_ADJ; mode 0b11 does
nothing. -/
def State.calGo (s : State) : State :=
  match s.fld R.CAL_STEP_MODE with
  | 0 => (s.setFld R.CAL_STEP_PEND 0).calStepTo s.calSet true true
  | 1 => s.setFld R.CAL_STEP_PEND 1
  | 2 =>
    let adj := sgn 32 (s.regN R.CAL_ADJ)
    (s.setFld R.CAL_STEP_PEND 0).calStepTo ((s.cal.t : Int) + adj * (calUnit : Nat)).toNat false true
  | _ => s

/-- PENDING_STEP_APPLIED (R97): the rollover at which a pending step is taken. -/
def execPendingStepApplied (s : State) : Host.Outcome State Fault Refusal :=
  if s.live 1 && s.flag R.CAL_STEP_PEND then
    .next (s.advance (s.nsUntil ((s.cal.t / calSecond + 1) * calSecond)))
  else .next s

/-- LEAP_APPLIED (R99): the end of the TAI second CAL_LEAP_SEC names. -/
def execLeapApplied (s : State) : Host.Outcome State Fault Refusal :=
  let leap := s.fld R.CAL_UTC_LEAP
  if s.live 1 && (leap = 1 || leap = 2) then
    let sec := s.cal.t / calSecond
    let k := (s.regN R.CAL_LEAP_SEC + 2 ^ 32 - sec % 2 ^ 32) % 2 ^ 32
    .next (s.advance (s.nsUntil ((sec + k + 1) * calSecond)))
  else .next s

end Sys2Proof.Machine
end

