-- ==== Sys2Proof/Machine/Holdover.lean ====
section
/-! DEFINITION. Holdover (chapter 05): the correction y and the steering DAC, the oscillator temperature, the learner, the
model, entering and resuming holdover, its budget, the DACs, and the loading of the Almanac. -/

namespace Sys2Proof.Machine

/-! ### The correction y (R127), in 1/33 of 2⁻⁴⁸ -/

/-- HLD_KDAC. -/
def State.kdac (s : State) : Int := sgn 32 (s.regN R.HLD_KDAC)

/-- The steering DAC. -/
def State.steerDac (s : State) : Nat := s.fld R.HLD_CTRL_SEL

/-- The range change of a DAC that is in its hold. -/
def State.dacHold (s : State) (n : Nat) : Option DacHold := (s.hld.hold.find? (fun p => p.1 == n)).map (·.2)

/-- The range in which a DAC drives: during a hold, the one it comes from (R150). -/
def State.dacRange (s : State) (n : Nat) : Nat :=
  match s.dacHold n with
  | some h => 1 - h.range
  | none => s.fld (R.HLD_DAC_CFG_RANGE n)

/-- What the steering DAC contributes to y: with V_out = code / 2²⁰ × span, `33 × KDAC × (code − 2¹⁹)` in the low range and
`KDAC × (50 × code − 33 × 2¹⁹)` in the high range (R127, R147). -/
def State.dacPart (s : State) : Int :=
  let n := s.steerDac
  let c : Int := s.fld (R.HLD_DAC_CODE_CODE n)
  if s.dacRange n = 0 then 33 * s.kdac * (c - 524288) else s.kdac * (50 * c - 33 * 524288)

/-- y at this instant, in 1/33 of 2⁻⁴⁸. -/
def State.yNow (s : State) : Int := s.dacPart + 33 * sgn 32 (s.regN R.CAL_RATE)

/-- Add to the sum of this second what y has been since its last change. -/
def State.yNote (s : State) : State :=
  s.withHld { s.hld with yAcc := s.hld.yAcc + s.yNow * (s.now - s.hld.yFrom : Nat), yFrom := s.now }

/-- The code that gives a correction `num / den` in a range, rounded to nearest (R127, R136); the largest or smallest code
beyond the range. None with a gain of zero, where no code gives it. -/
def dacCode (kdac : Int) (range : Nat) (num : Int) (den : Nat) : Option Nat :=
  let (k, n) := if kdac < 0 then (-kdac, -num) else (kdac, num)
  if k = 0 then none
  else
    let c := if range = 0 then roundEven (n + 524288 * k * den) (k * den).toNat
      else roundEven (33 * n + 33 * 524288 * k * den) (50 * k * den).toNat
    some (clampI 0 1048575 c).toNat

/-- A steering update of a DAC (R136, R150): at once, or computed in the new range and kept until the end of a hold. -/
def State.dacSteer (s : State) (n : Nat) (num : Int) (den : Nat) : State :=
  match s.dacHold n with
  | some h =>
    match dacCode s.kdac h.range num den with
    | some c => s.withHld { s.hld with hold := tput s.hld.hold n { h with code := c } }
    | none => s
  | none =>
    match dacCode s.kdac (s.fld (R.HLD_DAC_CFG_RANGE n)) num den with
    | some c => (s.setFld (R.HLD_DAC_CODE_CODE n) c).setFld (R.HLD_DAC_STAT_INIT n) 2
    | none => s

/-- Realise a correction `num / den` (R121, R127): on the steering DAC, or with STEER = 1 through CAL_RATE with the DAC left
where it is; nothing in MANUAL mode. -/
def State.steerTo (s : State) (num : Int) (den : Nat) : State :=
  let s := s.yNote
  if 2 ≤ s.fld R.CAL_DPLL_MODE then s
  else if s.flag R.CAL_DPLL_STEER then
    s.setRegN R.CAL_RATE (unsgn 32 (clampI (-(2 ^ 31)) (2 ^ 31 - 1) (roundEven (33 * num - s.dacPart * den) (33 * den))))
  else s.dacSteer s.steerDac num den

/-- Realise a correction given in binary32. -/
def State.steerToFloat (s : State) (y : Word) : State :=
  if fBad y then s else s.steerTo ((fSplit y).1 * (2 ^ (fSplit y).2 : Nat)) (2 ^ 149)

/-- A change of STEER (R121): to 0, CAL_RATE returns to zero and the DAC takes the whole correction; to 1, the DAC is left
where it is (log entry 16). In MANUAL mode nothing moves. -/
def State.steerMoved (s : State) : State :=
  if 2 ≤ s.fld R.CAL_DPLL_MODE || s.flag R.CAL_DPLL_STEER then s
  else
    let y := s.yNow
    (s.setRegN R.CAL_RATE 0).steerTo y 33

/-! ### Temperature (R129 to R131) -/

/-- A sample of the oscillator-thermistor channel, in 1/256 K, flagged or not (R129). -/
def State.hldSample (s : State) (t : Int) (flagged : Bool) : State :=
  if flagged || !s.live 1 then s
  else s.withHld { s.hld with tSum := s.hld.tSum + t, tCount := s.hld.tCount + 1 }

/-- The least-squares slope of points (ns, value) as a fraction, per hour. -/
def slopePerHour (l : List (Nat × Int)) : Int × Nat :=
  let n : Int := l.length
  let base := (l.getLast?.map (·.1)).getD 0
  let xs := l.map (fun p => (((p.1 - base) / 1000000 : Nat) : Int))
  let sx := xs.foldl (· + ·) 0
  let sy := (l.map (·.2)).foldl (· + ·) 0
  let sxx := (xs.map (fun x => x * x)).foldl (· + ·) 0
  let sxy := ((xs.zip (l.map (·.2))).map (fun p => p.1 * p.2)).foldl (· + ·) 0
  let d := n * sxx - sx * sx
  if d ≤ 0 then (0, 1) else ((n * sxy - sx * sy) * 3600000, d.toNat)

/-- dT/dt in 1/256 K/h as a fraction: the slope of the last 64 valid T, zero while TEMP_LOST (R129, R131). -/
def State.tempSlope (s : State) : Int × Nat :=
  if s.flag R.HLD_STAT_TEMP_LOST then (0, 1) else slopePerHour s.hld.temps

/-- The last valid T in 1/256 K. -/
def State.lastTemp (s : State) : Int := sgn 16 (s.fld R.HLD_TEMP_T)

/-- The temperature second closes (R129): T is valid with at least 500 unflagged samples; TEMP_LOST clears after 64 valid
seconds in a row (R131). -/
def State.closeTemp (s : State) : State :=
  let h := s.hld
  let s := s.withHld { h with tSum := 0, tCount := 0, secAt := s.now, tValid := decide (500 ≤ h.tCount) }
  if h.tCount < 500 then s.withHld { s.hld with validRun := 0 }
  else
    let t := clampI (-32768) 32767 (roundEven h.tSum h.tCount)
    let temps := ((s.now, t) :: h.temps).take 64
    let s := s.withHld { s.hld with temps := temps, lastValidAt := s.now, validRun := h.validRun + 1 }
    let s := if 64 ≤ s.hld.validRun then s.setFld R.HLD_STAT_TEMP_LOST 0 else s
    let s := s.setFld R.HLD_TEMP_T (unsgn 16 t)
    let d := s.tempSlope
    s.setFld R.HLD_TEMP_DTDT (unsgn 16 (clampI (-32768) 32767 (roundEven d.1 d.2)))

/-- The regressor vector at the present T and Calends time for a T0 and an epoch (R128, R132). -/
def State.regressor (s : State) (t0 : Int) (tRef : Nat) : List Word :=
  let dt := s.lastTemp - t0
  let d := s.tempSlope
  [fInt 1, fRat ((s.calSec : Int) - tRef) 86400, fRat dt 256, fRat (dt * dt) 65536, fRat d.1 (256 * d.2)]

/-! ### The covariance, 15 words by rows of the upper triangle -/

/-- The place of an element. -/
def pIndex (i j : Nat) : Nat := let (a, b) := if i ≤ j then (i, j) else (j, i); 5 * a + b - a * (a + 1) / 2

/-- An element. -/
def pAt (p : List Word) (i j : Nat) : Word := p.getD (pIndex i j) 0

/-- P × x. -/
def pMul (p x : List Word) : List Word := (List.range 5).map (fun i => fDot ((List.range 5).map (pAt p i)) x)

/-- The 15 words from a function of row and column. -/
def pMake (f : Nat → Nat → Word) : List Word :=
  (List.range 5).flatMap (fun i => (List.range (5 - i)).map (fun k => f i (i + k)))

/-! ### The learner (R132 to R134) -/

/-- The coefficients of R128 at their register scales. -/
def coefWords (theta : List Word) : List Word :=
  (List.range 5).map (fun i =>
    BitVec.ofNat 32 (unsgn 32 (clampI (-(2 ^ 31)) (2 ^ 31 - 1) (fToInt (theta.getD i 0) (if i = 3 then 8 else 0)))))

/-- Coefficients in floating point from their register scales. -/
def coefFloats (coef : List Word) : List Word :=
  (List.range 5).map (fun i => fRat (sgn 32 (coef.getD i 0).toNat) (if i = 3 then 256 else 1))

/-- λ of HLD_LRN.K. -/
def State.lambda (s : State) : Word :=
  let k := max 12 (min 24 (s.fld R.HLD_LRN_K))
  fRat (2 ^ k - 1) (2 ^ k)

/-- ANCHOR within its bounds. -/
def State.anchor (s : State) : Nat := max 10 (min 3600 (s.fld R.HLD_CTRL_ANCHOR))

/-- A rejected second (R132). -/
def State.learnReject (s : State) : State := s.count C.HLD_REJECT

/-- Shift the locked minutes to the present TAI day (R139, R144). -/
def Almanac.toDay (a : Almanac) (today : Nat) : Almanac :=
  let d := (today + 65536 - a.day % 65536) % 65536
  if d = 0 || 32768 ≤ d then a
  else { a with minutes := (List.replicate (min d 30) 0 ++ a.minutes).take 30, day := today % 65536 }

/-- The present TAI day. -/
def State.taiDay (s : State) : Nat := s.calSec / 86400

/-- The mean of the codes of the last ANCHOR accepted seconds, rounded to nearest, with the range in [20]. -/
def State.meanCode (s : State) (n : Nat) (codes : List Nat) : BitVec 21 :=
  let m := if codes.isEmpty then s.fld (R.HLD_DAC_CODE_CODE n) else
    (roundEven (codes.foldl (· + ·) 0 : Nat) codes.length).toNat
  BitVec.ofNat 21 (m + s.fld (R.HLD_DAC_CFG_RANGE n) * 2 ^ 20)

/-- An accepted update (R132, R133, R139, R140): the working copy takes the new estimates, the anchor window the second. -/
def State.learnAccept (s : State) (w : Almanac) (y e : Word) (x theta p : List Word) : State :=
  let lam := s.lambda
  let rest := fSub (fInt 1) lam
  let sigma2 := fAdd (fMul lam s.hld.sigma2) (fMul rest (fMul e e))
  let q := match s.hld.prevResid with
    | some r => fAdd (fMul lam w.q) (fMul rest (fMul (fSub e r) (fSub e r)))
    | none => w.q
  let win := (⟨y, x, s.fld (R.HLD_DAC_CODE_CODE 0), s.fld (R.HLD_DAC_CODE_CODE 1)⟩ :: s.hld.window).take 3600
  let lastCodes := win.take s.anchor
  let s := s.countWide R.HLD_SAMPLES R.HLD_SAMPLES_HI 1
  let samples := s.regN R.HLD_SAMPLES + 2 ^ 32 * s.regN R.HLD_SAMPLES_HI
  let w := w.toDay s.taiDay
  let secs := s.hld.lockedSec + 1
  let minutes := if secs < 60 then w.minutes else (w.minutes.headD 0 + 1) :: w.minutes.drop 1
  let w := { w with lastLocked := s.calSec, coef := coefWords theta, learnt := w.learnt || decide (3600 ≤ samples), p := p, q := q,
                    minutes := minutes, dac0 := s.meanCode 0 (lastCodes.map (·.code0)),
                    dac1 := s.meanCode 1 (lastCodes.map (·.code1)), kdac := s.reg R.HLD_KDAC }
  let s := s.withHld { s.hld with work := some w, theta := theta, sigma2 := sigma2, prevResid := some e, window := win,
                                        lockedSec := if secs < 60 then secs else 0, changed := true }
  s.showAlmanac.judgeClass

/-- One update of the learner for a second with mean correction y (R132): the innovation, the gain, rejection beyond REJ
standard deviations, the new coefficients and covariance. With TEMP_LOST only f0 and a move (R131). -/
def State.learn (s : State) (w : Almanac) (y : Word) : State :=
  let lost := s.flag R.HLD_STAT_TEMP_LOST
  let x := s.regressor (sgn 16 w.t0.toNat) w.tRef
  let theta := s.hld.theta
  let e := fSub y (fDot x theta)
  let xg := if lost then x.take 2 ++ [0, 0, 0] else x
  let px := pMul w.p xg
  let d := fAdd s.lambda (fDot xg px)
  let rej := fInt (max 3 (min 15 (s.fld R.HLD_LRN_REJ)))
  if fGt (fAbs e) (fMul (fMul rej (fSqrt d)) (fSqrt s.hld.sigma2)) then s.learnReject
  else
    let g := px.map (fun v => fDiv v d)
    let n := if lost then 2 else 5
    let th := (List.range 5).map (fun i => if i < n then fAdd (theta.getD i 0) (fMul (g.getD i 0) e) else theta.getD i 0)
    let p := pMake (fun i j => if i < n ∧ j < n then fDiv (fSub (pAt w.p i j) (fMul (g.getD i 0) (px.getD j 0))) s.lambda
      else pAt w.p i j)
    s.learnAccept w y e x th p

/-- The mean of y over the second that ends now; the sum begins again. -/
def State.closeY (s : State) : Word × State :=
  let s := s.yNote
  (fRat s.hld.yAcc (33 * (s.now - s.hld.secAt)), (s.withHld { s.hld with yAcc := 0 }))

/-- Whether the learner runs (R118, R125, R132): LOCKED for SETTLE seconds, and enabled. -/
def State.learning (s : State) : Bool :=
  s.dpll == 2 && s.flag R.HLD_CTRL_LRN_EN && s.cal.lockedAt + s.fld R.HLD_LRN_SETTLE * 1000000000 ≤ s.now

/-- The Almanac is created at the first valid T while LOCKED (R130). -/
def State.createAlmanac (s : State) : State :=
  if s.hld.work.isNone && s.hld.tValid && s.dpll == 2 then
    let w := { freshAlmanac s.lastTemp s.calSec (s.reg R.HLD_KDAC) with day := s.taiDay % 65536 }
    (s.withHld { s.hld with work := some w, theta := [0, 0, 0, 0, 0], sigma2 := Config.learnerInit 16, prevResid := none,
                                  changed := true }).showAlmanac.judgeClass
  else s

/-- LEARNER_UPDATE (R129, R132): a second ends. Its temperature is formed; while the learner runs, one update is made, or
rejected when T is not valid, Calends was stepped, or the selected source missed an update. -/
def execLearnerUpdate (s : State) : Host.Outcome State Fault Refusal :=
  if !s.live 1 then .next s
  else
    let s := s.advanceTo (s.hld.secAt + 1000000000)
    let r := s.closeY
    let y := r.1
    let s := r.2.closeTemp.createAlmanac
    let stepped := s.fld R.CAL_STAT_STEP_CNT ≠ s.hld.stepCnt
    let missed := s.hld.missed
    let s := s.withHld { s.hld with stepCnt := s.fld R.CAL_STAT_STEP_CNT, missed := false }
    if !s.learning then .next s
    else
      match s.hld.work with
      | none => .next s.learnReject
      | some w =>
        if stepped || missed || (!s.hld.tValid && !s.flag R.HLD_STAT_TEMP_LOST) then .next s.learnReject
        else .next (s.learn w y)

/-- TEMP_LOST (R131): 60 s without a valid T. -/
def execTempLost (s : State) : Host.Outcome State Fault Refusal :=
  if !s.live 1 || s.flag R.HLD_STAT_TEMP_LOST then .next s
  else
    let s := s.advanceTo (s.hld.lastValidAt + 60000000000)
    .next (((s.setFld R.HLD_STAT_TEMP_LOST 1).setFld R.HLD_TEMP_DTDT 0).raise 132)

/-! ### The model (R128, R135 to R137) -/

/-- The coefficients and covariance holdover uses (R134): learnt, or with the fuse defaults for a to d. The default variances
are 2 to the power of a signed byte each, a in the lowest (log entry 17). -/
def State.useSet (s : State) : List Word × List Word :=
  let h := s.hld
  let p := match h.work with
    | some w => w.p
    | none => (List.range 15).map Config.learnerInit
  match h.work.map (·.learnt) with
  | some true => (h.theta, p)
  | _ =>
    let f := fun i => sgn 32 (s.regN (R.HLD_FDEF i))
    let v := fun i =>
      let b := sgn 8 (nbits (s.regN (R.HLD_FDEF 4)) (8 * i + 7) (8 * i))
      if 0 ≤ b then fInt (2 ^ b.toNat) else fRat 1 (2 ^ (-b).toNat)
    ([h.theta.getD 0 0, fInt (f 0), fInt (f 1), fRat (f 2) 256, fInt (f 3)],
      pMake (fun i j => if i = j then (if i = 0 then pAt p 0 0 else v (i - 1)) else 0))

/-- Whether the model steers: in holdover, or from FREE under FREE_MODEL (R122). -/
def State.modelSteers (s : State) : Bool :=
  s.hld.steer.isSome && 2 ≤ s.fld R.HLD_STAT_STATE && (s.dpll == 3 || (s.dpll == 0 && s.hld.fromFree))

/-- The anchored prediction at this instant: f(t, T) + Δ (R135). -/
def State.modelY (s : State) (c : SteerCopy) : Word := fAdd (fDot (s.regressor c.t0 c.tRef) c.theta) c.delta

/-- The model updates the correction (R136). -/
def State.modelApply (s : State) : State :=
  match s.hld.steer with
  | some c => if s.modelSteers then s.steerToFloat (s.modelY c) else s
  | none => s

/-- MODEL_CORRECTION (R136): every 1 ms in holdover. -/
def execModelCorrection (s : State) : Host.Outcome State Fault Refusal :=
  if !s.live 1 || !s.modelSteers then .next s
  else
    let s := s.advanceTo (s.hld.modelAt + 1000000)
    .next (s.modelApply.withHld { s.modelApply.hld with modelAt := s.now })

/-- Δ of R135: the mean observation less the mean prediction over the last ANCHOR accepted seconds. The spec gives no Δ when
there is none: a free value. -/
def State.anchorDelta (s : State) (theta : List Word) : Word × State :=
  let win := s.hld.window.take s.anchor
  if win.isEmpty then
    let got := s.draw
    let v := got.1
    let s := got.2
    (BitVec.ofNat 32 v, s)
  else
    let n := fInt win.length
    let ys := win.foldl (fun a w => fAdd a w.y) 0
    let fs := win.foldl (fun a w => fAdd a (fDot w.x theta)) 0
    (fSub (fDiv ys n) (fDiv fs n), s)

/-- Entry to holdover (R123, R135, R136, R146): the class, Δ (zero from FREE), the steering copy, E127, the retention copy, a
persistent write, and the anchored prediction on the steering element. -/
def State.enterHoldover (s : State) (fromFree : Bool) : State :=
  let u := s.useSet
  let got := if fromFree then (0, s) else s.anchorDelta u.1
  let delta := got.1
  let s := got.2
  let seasoned := s.seasonedNow
  let q := match s.hld.work with
    | some w => w.q
    | none => Config.learnerInit 15
  let c : SteerCopy := match s.hld.work with
    | some w => ⟨u.1, u.2, q, sgn 16 w.t0.toNat, w.tRef, delta, seasoned⟩
    | none => ⟨u.1, u.2, q, s.lastTemp, s.calSec, delta, seasoned⟩
  let s := s.withHld { s.hld with steer := some c, integrals := [0, 0, 0, 0, 0], entryAt := s.now, warned := false,
                                        modelAt := s.now, fromFree := fromFree, retention := some (s.hld.work.getD {}),
                                        retentionBad := false }
  let s := (s.setRegN R.HLD_ELAPSED 0).setRegN R.HLD_UNC 0
  let s := ((s.setFld R.HLD_STAT_STATE (if seasoned then 2 else 3)).setFld R.HLD_STAT_ACQ 0).raise 127
  s.hldPersist.modelApply

/-- HLD enters Free-run: the steering element holds its value (R122, R138). -/
def State.enterFreeRun (s : State) : State :=
  let was := s.fld R.HLD_STAT_STATE
  let s := (s.setFld R.HLD_STAT_STATE 0).setFld R.HLD_STAT_ACQ 0
  if was = 0 then s else s.raise 128

/-- HLD follows FREE (R122): the model steers from a usable Almanac under FREE_MODEL, else Free-run. -/
def State.hldFree (s : State) : State :=
  if s.flag R.HLD_CTRL_FREE_MODEL && s.hld.work.isSome then s.enterHoldover true
  else (s.withHld { s.hld with steer := none, fromFree := false }).enterFreeRun

/-- The DPLL returns from ACQUIRE to HOLDOVER (R126): the interrupted holdover goes on, or Free-run does; E127. -/
def State.resumeHoldover (s : State) : State :=
  let s := (s.setFld R.HLD_STAT_ACQ 0).raise 127
  (s.withHld { s.hld with modelAt := s.now }).modelApply

/-- HOLDOVER_SECOND (R137, R138): the integrals along τ, HLD_UNC, HLD_ELAPSED, and the budget, which ends the holdover of a
DPLL in HOLDOVER. -/
def execHoldoverSecond (s : State) : Host.Outcome State Fault Refusal :=
  match s.live 1, s.hld.steer with
  | true, some c =>
    let tau := s.regN R.HLD_ELAPSED + 1
    let s := s.advanceTo (s.hld.entryAt + tau * 1000000000)
    let s := if s.hld.secAt + 1000000000 ≤ s.now then s.closeY.2.closeTemp else s
    let g := (List.range 5).map (fun i => fAdd (s.hld.integrals.getD i 0) ((s.regressor c.t0 c.tRef).getD i 0))
    let s := s.withHld { s.hld with integrals := g }
    let var := fAdd (fDot g (pMul c.p g)) (fDiv (fMul c.q (fInt (tau ^ 3))) (fInt 3))
    let unc := fMul (fMul (fInt 3) (fSqrt var)) (fRat 1000000000 (2 ^ 48))
    let ns := min (2 ^ 32 - 1) (fToInt unc 0).toNat
    let s := (s.setRegN R.HLD_ELAPSED tau).setRegN R.HLD_UNC ns
    if s.dpll ≠ 3 || s.fld R.HLD_STAT_STATE < 2 then .next s
    else
      let phase := max 100 (s.fld R.HLD_BUDGET_PHASE)
      let hours := max 1 (min 72 (s.fld (if c.seasoned then R.HLD_BUDGET_TMAX_S else R.HLD_BUDGET_TMAX_U)))
      let s := if !s.hld.warned && 3 * phase < 4 * ns then (s.withHld { s.hld with warned := true }).raise 134 else s
      .next (if phase < ns || 3600 * hours ≤ tau then s.enterFreeRun else s)
  | _, _ => .next s

/-! ### Keeping the Almanac (R140 to R144) -/

/-- RETENTION_COPY_WRITE (R140): every 60 s. -/
def execRetentionCopyWrite (s : State) : Host.Outcome State Fault Refusal :=
  if !s.live 1 then .next s
  else
    let s := s.advanceTo (s.hld.retAt + 60000000000)
    .next (s.withHld { s.hld with retention := some (s.hld.work.getD {}), retentionBad := false, retAt := s.now })

/-- ALMANAC_PERSIST_REQUEST (R140): every 6 h while the working copy has changed. -/
def execAlmanacPersistRequest (s : State) : Host.Outcome State Fault Refusal :=
  if !s.live 1 then .next s
  else
    let s := s.advanceTo (s.hld.persistAt + 21600000000000)
    let s := s.withHld { s.hld with persistAt := s.now }
    .next (if s.hld.changed then s.hldPersist else s)

/-- TAI_DAY_BOUNDARY (R144): the history advances. -/
def execTaiDayBoundary (s : State) : Host.Outcome State Fault Refusal :=
  if !s.live 1 then .next s
  else
    let s := s.advance (s.nsUntil ((s.taiDay + 1) * 86400 * calSecond))
    let s := s.withHld { s.hld with work := s.hld.work.map (fun (w : Almanac) => w.toDay s.taiDay) }
    .next s.showAlmanac.judgeClass

/-- The working copy takes a loaded record (R142, R143). -/
def State.takeAlmanac (s : State) (a : Almanac) (src : Nat) : State :=
  if !a.created then s
  else
    let s := s.setFld R.HLD_ALM_STAT_SRC src
    let unknown := s.calSec < a.lastLocked
    if a.staleAt s.calSec then s.setFld R.HLD_ALM_STAT_STALE 1
    else
      let a := if unknown then a else a.toDay s.taiDay
      let s := s.withHld { s.hld with work := some a, theta := coefFloats a.coef, sigma2 := Config.learnerInit 16 }
      (s.setFlag R.HLD_STAT_AGE_UNK unknown).setReg R.HLD_KDAC a.kdac

/-- ALMANAC_LOAD (R142, R143, R122): the first good copy, each bad one marked with E130; an Almanac all of whose copies failed
is stale; then HLD follows the DPLL, which is in FREE. -/
def execAlmanacLoad (s : State) : Host.Outcome State Fault Refusal :=
  if !s.live 1 || s.hld.loaded then .next s
  else
    let s := s.withHld { s.hld with loaded := true }
    let bad := s.almanacBad
    let s := s.setFld R.HLD_ALM_STAT_BAD bad
    let s := (List.range 3).foldl (fun (s : State) i => if nbit bad i then s.raise 130 else s) s
    let s := s.setFld R.HLD_ALM_STAT_GEN (max ((s.almanacSlot 2).elim 0 (·.gen)) ((s.almanacSlot 3).elim 0 (·.gen)))
    let s := match s.almanacPick with
      | some (r, src) => s.takeAlmanac r src
      | none => if bad = 0 then s else s.setFld R.HLD_ALM_STAT_STALE 1
    let s := s.showAlmanac.judgeClass
    .next (if s.dpll = 0 then s.hldFree else s)

/-! ### The tuning DACs (R147 to R151) -/

/-- A code in one range as a code of the other, rounded to nearest, so that the voltage is kept (R150). -/
def dacRescale (to_ code : Nat) : Nat :=
  if to_ = 1 then (roundEven (33 * code) 50).toNat else (roundEven (50 * code) 33).toNat

/-- The presets as PD2 comes up (R149, R499): the last-locked value of the copy that R142 would load, when it is usable at the
seconds of the real-time clock, it can be driven in the reset range and USE_LASTLOCK is set, else the fuse default; a value of
zero was never recorded (log entry 120). -/
def State.dacPreset (s : State) (n : Nat) : State :=
  let range := s.fld (R.HLD_DAC_CFG_RANGE n)
  let alm := s.almanacPick.map (fun (p : Almanac × Nat) => p.1)
  let last := alm.bind (fun w =>
    if !w.created || w.staleAt s.rtcSec || !s.flag R.HLD_CTRL_USE_LASTLOCK then none
    else
      let v := (if n = 0 then w.dac0 else w.dac1).toNat
      let c := v % 2 ^ 20
      let c := if v / 2 ^ 20 = range then c else dacRescale range c
      if v ≠ 0 && c < 2 ^ 20 then some c else none)
  let s := s.yNote
  match last with
  | some c => (s.setFld (R.HLD_DAC_CODE_CODE n) c).setFld (R.HLD_DAC_STAT_INIT n) 1
  | none =>
    let f := tget 0x80000 s.fus.trims (R.HLD_DAC_CODE n)
    (s.setFld (R.HLD_DAC_CODE_CODE n) f.toNat).setFld (R.HLD_DAC_STAT_INIT n) 0

/-- A write of HLD_DACn_CFG.RANGE (R150, R151). The present voltage is over 3.3 V when the code of the high range is over
0.66 × 2²⁰. -/
def State.dacRangeWrite (s : State) (n : Nat) (old : Word) : State :=
  let new := s.fld (R.HLD_DAC_CFG_RANGE n)
  let was := nbits old.toNat 0 0
  if new = was then s
  else
    let code := match s.dacHold n with
      | some h => h.code
      | none => s.fld (R.HLD_DAC_CODE_CODE n)
    if (new = 0 && 33 * 2 ^ 20 < 50 * code) || (new = 1 && !s.hld.efc) then
      (s.setReg (R.HLD_DAC_CFG n) old).setFld (R.HLD_DAC_STAT_RANGE_ERR n) 1
    else
      let h : DacHold := ⟨new, min 1048575 (dacRescale new code)⟩
      (s.withHld { s.hld with hold := tput s.hld.hold n h }).setFld (R.HLD_DAC_STAT_RANGE_BUSY n) 1

/-- DAC_RANGE_CHANGE_DONE (R150): the hold ends, the code of the new range is applied, E133. -/
def execDacRangeChangeDone (n : Fin 2) (s : State) : Host.Outcome State Fault Refusal :=
  match s.live 1, s.dacHold n.val with
  | true, some h =>
    let s := s.yNote
    let s := s.withHld { s.hld with hold := tdel s.hld.hold n.val }
    .next (((s.setFld (R.HLD_DAC_CODE_CODE n.val) h.code).setFld (R.HLD_DAC_STAT_RANGE_BUSY n.val) 0).raise 133)
  | _, _ => .next s

/-- What writes to HLD_ registers do beyond their fields: the DAC codes (R148) and ranges (R150), a new gain or steering DAC
counted from now on in y, and the clearing of the Almanac once its pair is complete (R145). -/
def hldWrite (_rid : Rid) (a : Nat) (_data old : Word) (s : State) : State :=
  let code := fun n =>
    if (s.steerDac == n && !s.flag R.CAL_DPLL_STEER && s.fld R.CAL_DPLL_MODE < 2) || (s.dacHold n).isSome then
      (s.setReg a old).setFld (R.HLD_DAC_STAT_WR_IGN n) 1
    else
      let new := s.reg a
      (((s.setReg a old).yNote).setReg a new).setFld (R.HLD_DAC_STAT_INIT n) 2
  if a = R.HLD_DAC_CODE 0 then code 0
  else if a = R.HLD_DAC_CODE 1 then code 1
  else if a = R.HLD_DAC_CFG 0 then s.dacRangeWrite 0 old
  else if a = R.HLD_DAC_CFG 1 then s.dacRangeWrite 1 old
  else if a = R.HLD_CTRL || a = R.HLD_KDAC then
    let new := s.reg a
    ((s.setReg a old).yNote).setReg a new
  else if a = R.HLD_ALM_CTRL && s.flag R.HLD_ALM_CTRL_CLEAR then s.clearAlmanac
  else s

/-- Reads of HLD_ registers that show the present moment: the age and minutes of HLD_HIST. -/
def hldRead (_rid : Rid) (a : Nat) (s : State) : Word × State :=
  if a = R.HLD_HIST && s.hld.work.isSome then (s.showAlmanac.reg a, s.showAlmanac) else (s.reg a, s)

end Sys2Proof.Machine
end

