-- ==== Sys2Proof/Machine/Reserve.lean ====
section
/-! DEFINITION. The DMA channels reserved to a block (R366), and the end of a DMA channel that a reservation aborts. -/

namespace Sys2Proof.Machine

/-- The requester identity of the engines of a master, with the Warden bit clear (R279). -/
def engineRid (m : Nat) : Rid := BitVec.ofNat 8 (32 * m)

/-- Whether a channel is reserved to its block: 11 to 14 to the firmware queues (R249), 15 to the PTP engine (R107). -/
def State.dmaReserved (s : State) (c : Nat) : Bool :=
  (11 ≤ c && c < 15 && s.live 11 && s.flag (R.CLS_FQ_CFG_EN (c - 11))) || (c == 15 && s.live 1 && s.flag R.PTP_CTRL_EN)

/-- Whether a channel runs. -/
def State.dmaBusy (s : State) (c : Nat) : Bool := s.ic.dma.any (fun p => p.1 == c)

/-- A running channel is told to stop at its next burst boundary (R370). -/
def State.dmaStop (s : State) (c : Nat) : State :=
  s.withIc { s.ic with dma := s.ic.dma.map (fun (p : Nat × DmaRun) => if p.1 = c then (c, { p.2 with abort := true }) else p) }

/-- The block a channel is reserved to is enabled: a running transfer is aborted, with PREEMPT and E46 (R366). -/
def State.dmaPreempt (s : State) (c : Nat) : State :=
  if s.dmaBusy c then ((s.dmaStop c).setFld R.DMA_STAT_PREEMPT 1).raise 46 else s

end Sys2Proof.Machine
end

