-- ==== Sys2Proof/Machine/Secure.lean ====
section
/-! DEFINITION. Protection of frames that leave a lane (R266 to R269): the pipelines' state, security associations, the SecTAG,
and the frame as the line carries it. -/

namespace Sys2Proof.Machine

/-! ### Frames -/

/-- A 16-bit field of a frame, big-endian. -/
def be16 (l : List Byte) (off : Nat) : Nat := beNat (slice l off 2)

/-- Where the payload's EtherType stands behind up to two VLAN tags. -/
def etherOff (l : List Byte) : Nat :=
  let tag := fun off => be16 l off = 0x8100 || be16 l off = 0x88A8
  if tag 12 then (if tag 16 then 20 else 16) else 12

/-! ### Pipelines and key pages (R264, R280) -/

/-- The domain of a pipeline. -/
def pipeDomain (p : Nat) : Nat := if p < 2 then 8 else 9

/-- Whether a pipeline runs. -/
def State.pipeUp (s : State) (p : Nat) : Bool :=
  s.live 8 && s.live (pipeDomain p) && nbit (s.fld R.CIP_STAT_PIPE_UP) p

/-- Whether a lane direction is protected: `dir` 0 receive, 1 transmit. -/
def State.laneProt (s : State) (n dir : Nat) : Bool :=
  n < 24 && s.live 8 && (if dir = 0 then s.flag (R.CIP_LANE_CFG_RXEN n) else s.flag (R.CIP_LANE_CFG_TXEN n))

/-- The pipeline of a lane direction. -/
def State.lanePipe (s : State) (n dir : Nat) : Nat :=
  if dir = 0 then s.fld (R.CIP_LANE_CFG_RXPIPE n) else s.fld (R.CIP_LANE_CFG_TXPIPE n)

/-- A key page. -/
def State.page (s : State) (p : Nat) : KeyPage := tget {} s.cip.pages p

/-- The AES key of an SA: bits [255:0] of its page. -/
def State.saKey (s : State) (a : Nat) : Nat := (s.page (s.fld (R.CIP_SA0_KP a))).bits.toNat % 2 ^ 256

/-- The salt of an SA: bits [351:256] of its page. -/
def State.saSalt (s : State) (a : Nat) : Nat := (s.page (s.fld (R.CIP_SA0_KP a))).bits.toNat / 2 ^ 256 % 2 ^ 96

/-- The PN or SFN words of an SA. -/
def State.saPn (s : State) (a : Nat) : Nat := s.regN (R.CIP_SA_PNLO a) + 2 ^ 32 * s.regN (R.CIP_SA_PNHI a)

/-- Set the PN or SFN words of an SA. -/
def State.setSaPn (s : State) (a v : Nat) : State := (s.setRegN (R.CIP_SA_PNLO a) v).setRegN (R.CIP_SA_PNHI a) (v / 2 ^ 32)

/-- The SCI of an SA. -/
def State.saSci (s : State) (a : Nat) : Nat := s.regN (R.CIP_SA_SCILO a) + 2 ^ 32 * s.regN (R.CIP_SA_SCIHI a)

/-- The IV of a frame (IEEE 802.1AE): SCI and PN, or SSCI and 64-bit PN mixed with the salt. -/
def State.saIv (s : State) (a sci pn : Nat) : Nat :=
  if s.flag (R.CIP_SA0_XPN a) then (s.regN (R.CIP_SA_SSCI a) * 2 ^ 64 + pn) ^^^ s.saSalt a
  else sci * 2 ^ 32 + pn % 2 ^ 32

/-- PN_MAX (R269). -/
def State.pnMax (s : State) (a : Nat) : Nat := if s.flag (R.CIP_SA0_XPN a) then 2 ^ 64 - 1 else 2 ^ 32 - 1

/-! ### Transmit (R268, R269) -/

/-- A frame's place for the SecTAG: after the source address, or with CLEARTAGS behind the clear VLAN tags (R267). -/
def State.secOff (s : State) (n : Nat) (l : List Byte) : Nat := if s.flag (R.CIP_LANE_CFG_CLEARTAGS n) then etherOff l else 12

/-- The frame that leaves a protected lane: SecTAG, text and ICV under SA `a` with packet number `pn`. -/
def State.secFrame (s : State) (n a pn : Nat) (l : List Byte) : List Byte :=
  let o := s.secOff n l
  let conf := s.flag (R.CIP_SA0_CONF a)
  let sc := s.flag (R.CIP_LANE_CFG_SCI_EN n)
  let data := l.drop o
  let an := s.fld (R.CIP_LANE_CFG_TX_AN n)
  let tci := b2n sc * 32 + b2n conf * 12 + an
  let tag := beBytes 2 0x88E5 ++ [BitVec.ofNat 8 tci, BitVec.ofNat 8 (if data.length < 48 then data.length else 0)] ++
    beBytes 4 pn ++ (if sc then beBytes 8 (s.saSci a) else [])
  let head := l.take o ++ tag
  let iv := s.saIv a (s.saSci a) pn
  if conf then
    let r := gcmEncrypt (s.saKey a) iv head data
    head ++ r.1 ++ beBytes 16 r.2
  else head ++ data ++ beBytes 16 (gcmEncrypt (s.saKey a) iv (head ++ data) []).2

/-- A frame passes the cipher on its way out of lane n (R266, R268, R269): what the line carries, or none when it is dropped;
`whole` is false for a frame of Saltern's that ends in a Bittern code. -/
def State.protectTx (s : State) (n : Nat) (l : List Byte) (whole : Bool) : Option (List Byte) × State :=
  if !s.laneProt n 1 || be16 l (etherOff l) = 0x888E then (some l, s)
  else
    let a := 256 + 4 * n + s.fld (R.CIP_LANE_CFG_TX_AN n)
    if !s.flag (R.CIP_SA0_EN a) || s.flag (R.CIP_SA0_EXH a) || !s.pipeUp (s.lanePipe n 1) then
      (none, s.countFld (R.CIP_SAC_DROP_DROP a) 1)
    else
      let pn := s.saPn a
      let max_ := s.pnMax a
      let lim := max_ - s.regN (R.CIP_SA_THRESH a)
      let out := s.secFrame n a pn l
      let s := s.setSaPn a (pn + 1)
      let s := if pn ≤ lim && lim < pn + 1 then s.raise 82 else s
      let s := if max_ ≤ pn then (s.setFld (R.CIP_SA0_EXH a) 1).raise 83 else s
      if whole then (some out, s) else (some (out.take (out.length - 16)), s.count C.CIP_TXABORT)

/-- What a port's line carries last. -/
def State.lineRaw (s : State) (port : Nat) (bytes : List Byte) : State :=
  if port = 24 then s.withNq { s.nq with sentBytes := bytes }
  else s.modLane port (fun l => { l with lastTx := bytes, bittern := false })

/-- A frame goes out on a port, protected where the lane is: kept as the last frame the line carried. -/
def State.lineSend (s : State) (port : Nat) (bytes : List Byte) : State :=
  let r := s.protectTx port bytes true
  match r.1 with
  | some b => r.2.lineRaw port b
  | none => r.2

end Sys2Proof.Machine
end

