-- ==== Sys2Proof/Machine/Calends.lean ====
section
/-! DEFINITION. Calends (chapter 04): timing sources and their qualification, selection, the DPLL, the TDCs, the reference
clock, and the PTP engine. -/

namespace Sys2Proof.Machine

/-! ### Sources (R114 to R116) -/

/-- A source. -/
def State.src (s : State) (n : Nat) : SrcSt := tget {} s.cal.sources n

/-- Change a source. -/
def State.modSrc (s : State) (n : Nat) (f : SrcSt → SrcSt) : State :=
  s.withCal { s.cal with sources := tmod {} s.cal.sources n f }

/-- Whether a source carries phase: S0 to S2 and S8. -/
def srcPhase (n : Nat) : Bool := n < 3 || n == 8

/-- The nominal period in ns: 1 s for S0 to S2 and S8, 1 ms for S3 to S7 (R114). -/
def srcNominal (n : Nat) : Nat := if srcPhase n then 1000000000 else 1000000

/-- Whether a source is enabled. -/
def State.srcEnabled (s : State) (n : Nat) : Bool := s.flag (R.CAL_SRC_CFG_EN n)

/-- Whether a source is qualified. -/
def State.qualified (s : State) (n : Nat) : Bool := n < 9 && s.flag (R.CAL_SRC_STAT_QUALIFIED n)

/-- FWIN within its bounds, in 0.1 ppm. -/
def State.fwin (s : State) : Nat := max 1 (min 200 (s.fld R.CAL_DPLL2_FWIN))

/-- Whether a period in 2⁻¹⁶ ns is within FWIN of nominal; for S8 no longer than 1 s with that tolerance (R114). -/
def State.periodGood (s : State) (n per : Nat) : Bool :=
  let nom := srcNominal n * 65536
  let tol := nom * s.fwin / 10000000
  (n == 8 || nom ≤ per + tol) && per ≤ nom + tol

/-- An update of an enabled source (R114, R115): its period is judged, its error kept, and CAL_PHERR shows a phase error of
the selected source, or of any while none is selected. -/
def State.srcUpdate (s : State) (n stamp : Nat) (err : Int) : State :=
  if !s.srcEnabled n then s
  else
    let o := s.src n
    let sel := s.fld R.CAL_STAT_SEL
    let s := if srcPhase n && (sel = n || sel = 15) then
        s.setRegN R.CAL_PHERR (unsgn 32 (clampI (-(2 ^ 31)) (2 ^ 31 - 1) err)) else s
    let first : SrcSt := { o with last := some stamp, lastAt := s.now, goodFrom := some s.now, periods := 0, periodSum := 0, err := err,
                                  errFrom := err, badRun := 0 }
    match o.last with
    | none => s.modSrc n (fun _ => first)
    | some l =>
      let per := stamp - l
      if s.periodGood n per then
        let f : SrcSt := { o with last := some stamp, lastAt := s.now, err := err, badRun := 0, periods := o.periods + 1,
                                  periodSum := o.periodSum + per,
                                  goodFrom := some (o.goodFrom.getD s.now),
                                  errFrom := if o.goodFrom.isSome then o.errFrom else err }
        s.modSrc n (fun _ => f)
      else
        let missing := max 1 (per / (srcNominal n * 65536))
        let s := s.modSrc n (fun _ => { first with goodFrom := none, badRun := o.badRun + missing })
        if sel = n then s.withHld { s.hld with missed := true } else s

/-- The mean frequency of Calends against a source over its good updates, in 1/33 of 2⁻⁴⁸, when it has been measured
(R120): from the periods, for S8 from the drift of its phase errors. -/
def State.srcFreq (s : State) (n : Nat) : Option Int :=
  let o := s.src n
  if n = 8 then
    match o.goodFrom with
    | some g => if g < o.lastAt then some (roundEven ((o.err - o.errFrom) * (33 * 2 ^ 48)) (1000 * (o.lastAt - g))) else none
    | none => none
  else if o.periods = 0 then none
  else
    let nom := o.periods * srcNominal n * 65536
    some (roundEven (((o.periodSum : Int) - nom) * (33 * 2 ^ 48)) nom)

/-- Whether a source comes before another in the order of R116: PRIO, then QL, then number. -/
def State.srcBefore (s : State) (a b : Nat) : Bool :=
  let key := fun n => (s.fld (R.CAL_SRC_CFG_PRIO n) * 16 + s.fld (R.CAL_SRC_CFG_QL n)) * 16 + n
  key a < key b

/-- The best of a list of sources. -/
def State.bestSrc (s : State) : List Nat → Option Nat
  | [] => none
  | n :: r =>
    match s.bestSrc r with
    | none => some n
    | some m => some (if s.srcBefore n m then n else m)

/-! ### The DPLL (R118 to R126) -/

/-- The state of the DPLL changes to FREE, LOCKED or HOLDOVER: E122. -/
def State.dpllState (s : State) (new : Nat) : State :=
  let s := s.withCal { s.cal with lockRun := 0, acqStep := none }
  ((s.setFld R.CAL_STAT_DPLL new).setFld R.CAL_STAT_PHASE_TRACE 0).raise 122

/-- The DPLL enters LOCKED on a source (R118, R122, R146). -/
def State.dpllLock (s : State) (n : Nat) : State :=
  let s := (s.dpllState 2).setFlag R.CAL_STAT_PHASE_TRACE (srcPhase n)
  let s := s.withCal { s.cal with lockedAt := s.now, preset := s.yNow }
  let s := s.withHld { s.hld with steer := none, fromFree := false }
  let was := s.fld R.HLD_STAT_STATE
  let s := (s.setFld R.HLD_STAT_STATE 1).setFld R.HLD_STAT_ACQ 0
  if was = 1 then s else s.raise 129

/-- No source is left for the DPLL (R118, R119, R126): LOCKED goes to HOLDOVER, ACQUIRE back to where it came from. -/
def State.dpllLoss (s : State) : State :=
  match s.dpll with
  | 2 => (s.dpllState 3).enterHoldover false
  | 1 =>
    match s.cal.acqFrom with
    | 3 => (s.dpllState 3).resumeHoldover
    | 2 => (s.dpllState 3).enterHoldover false
    | _ => (s.dpllState 0).hldFree
  | _ => s

/-- The DPLL enters ACQUIRE on a source (R118, R120, R125): its frequency is preset to the model's present correction, or to
the mean frequency measured while the source qualified; a phase error beyond STHR asks for one step. -/
def State.dpllEnter (s : State) (n : Nat) : State :=
  let modelled := s.modelSteers
  let s := s.dpllAcquire
  let s := if modelled then s
    else
      match s.srcFreq n with
      | some f => s.steerTo (s.yNow - f) 33
      | none => s
  let err := (s.src n).err
  let big := max 1 (min 63 (s.fld R.CAL_DPLL_STHR)) * 1000000 < err.natAbs
  s.withCal { s.cal with preset := s.yNow, acqStep := if srcPhase n && big && s.flag R.CAL_DPLL_STEP_EN then some err else none }

/-- The selection changes (R116): E121; from FREE or HOLDOVER the DPLL enters ACQUIRE; with no source left it loses its
source. -/
def State.calSelect (s : State) (new : Option Nat) : State :=
  let s := (List.range 9).foldl (fun s n => s.setFlag (R.CAL_SRC_STAT_SELECTED n) (new == some n)) s
  let s := (s.setFld R.CAL_STAT_SEL (new.getD 15)).raise 121
  match new with
  | none => s.dpllLoss
  | some n =>
    match s.dpll with
    | 0 => if s.flag R.CAL_STAT_REF_LOST then s else s.dpllEnter n
    | 3 => if s.flag R.CAL_STAT_REF_LOST then s else s.dpllEnter n
    | 1 => s.withCal { s.cal with lockRun := 0 }
    | _ => s.setFlag R.CAL_STAT_PHASE_TRACE (srcPhase n)

/-- The source R116 and the mode choose now: in FORCED mode CAL_FORCE.SRC while it is qualified; otherwise the best of the
qualified sources, a better one than a qualified selected source only after WTR seconds, and never with NONREV. -/
def State.calChoice (s : State) : Option Nat :=
  let sel := s.fld R.CAL_STAT_SEL
  let cur := s.qualified sel
  if s.fld R.CAL_DPLL_MODE = 1 then
    let f := s.fld R.CAL_FORCE_SRC
    if s.qualified f then some f else none
  else if cur && s.flag R.CAL_DPLL_NONREV then some sel
  else
    let waited := fun n => match (s.src n).qualifiedAt with
      | some t => t + s.fld R.CAL_DPLL2_WTR * 1000000000 ≤ s.now
      | none => true
    s.bestSrc ((List.range 9).filter (fun n => s.qualified n && (!cur || n == sel || waited n)))

/-- Selection follows its rule. -/
def State.calReselect (s : State) : State :=
  let sel := s.fld R.CAL_STAT_SEL
  let c := s.calChoice
  if c.getD 15 = sel then s else s.calSelect c

/-- A source is disqualified (R115): E120, and selection follows. -/
def State.srcDisqualify (s : State) (n : Nat) : State :=
  let s := s.modSrc n (fun o => { o with goodFrom := none, periods := 0, periodSum := 0, badRun := 0, qualifiedAt := none })
  let s := (s.setFld (R.CAL_SRC_STAT_QUALIFIED n) 0).raise 120
  let s := if s.fld R.CAL_STAT_SEL = n then s.withHld { s.hld with missed := true } else s
  s.calReselect

/-- SOURCE_QUALIFIED (R114, R116): good updates for QUAL seconds. -/
def execSourceQualified (n : Fin 9) (s : State) : Host.Outcome State Fault Refusal :=
  let o := s.src n.val
  let qual := max 1 (min 600 (s.fld (R.CAL_SRC_CFG_QUAL n.val)))
  match o.goodFrom with
  | some g =>
    if s.live 1 && s.srcEnabled n.val && !s.qualified n.val && g + qual * 1000000000 ≤ o.lastAt then
      let s := s.modSrc n.val (fun o => { o with qualifiedAt := some s.now })
      .next ((s.setFld (R.CAL_SRC_STAT_QUALIFIED n.val) 1).raise 120).calReselect
    else .next s
  | none => .next s

/-- SOURCE_DISQUALIFIED (R115): MISS updates in a row are missing or out of period. -/
def execSourceDisqualified (n : Fin 9) (s : State) : Host.Outcome State Fault Refusal :=
  if !s.live 1 || !s.qualified n.val then .next s
  else
    let o := s.src n.val
    let miss := max 1 (s.fld (R.CAL_SRC_CFG_MISS n.val))
    let s := if miss ≤ o.badRun then s else s.advanceTo (o.lastAt + miss * srcNominal n.val)
    .next (s.srcDisqualify n.val)

/-- WAIT_TO_RESTORE_EXPIRY (R116). -/
def execWaitToRestoreExpiry (n : Fin 9) (s : State) : Host.Outcome State Fault Refusal :=
  match s.live 1 && s.qualified n.val, (s.src n.val).qualifiedAt with
  | true, some t => .next (s.advanceTo (t + s.fld R.CAL_DPLL2_WTR * 1000000000)).calReselect
  | _, _ => .next s

/-- The source whose error judges lock: with HYBRID the best qualified phase source, else the selected one (R117). -/
def State.lockSource (s : State) : Nat :=
  let sel := s.fld R.CAL_STAT_SEL
  if s.flag R.CAL_DPLL_HYBRID then (s.bestSrc ((List.range 9).filter (fun n => s.qualified n && srcPhase n))).getD sel
  else sel

/-- Whether the last error of a source lies in the lock window: LWIN, or 10 ppb for a frequency-only source (R118). -/
def State.inWindow (s : State) (n : Nat) : Bool :=
  let e := (s.src n).err
  if srcPhase n then e.natAbs ≤ max 1 (s.fld R.CAL_DPLL2_LWIN) * 1000 else e.natAbs * 100000000 ≤ 2 ^ 48

/-- DPLL_UPDATE (R118, R120, R121): the DPLL steers and judges lock. What its loop filter gives is a free value, in ACQUIRE
within PSL of the preset. A selected source in FREE or HOLDOVER makes it enter ACQUIRE. -/
def execDpllUpdate (s : State) : Host.Outcome State Fault Refusal :=
  let sel := s.fld R.CAL_STAT_SEL
  if !s.live 1 || !s.qualified sel || s.flag R.CAL_STAT_REF_LOST then .next s
  else
    let n := s.lockSource
    match s.dpll with
    | 1 =>
      let psl : Int := max 10 (min 10000 (s.fld R.CAL_DPLL_PSL))
      let lim := psl * (33 * 2 ^ 48) / 1000000000
      let got := s.drawIn (s.cal.preset - lim) (s.cal.preset + lim)
      let v := got.1
      let s := got.2
      let s := s.steerTo v 33
      let run := if s.inWindow n then s.cal.lockRun + 1 else 0
      let s := s.withCal { s.cal with lockRun := run }
      .next (if 16 ≤ run then s.dpllLock n else s)
    | 2 =>
      let got := s.drawIn (-(2 ^ 31)) (2 ^ 31 - 1)
      let v := got.1
      let s := got.2
      .next ((s.steerTo v 1).withCal { s.cal with preset := 33 * v })
    | _ => .next (s.dpllEnter sel)

/-- ACQUISITION_STEP (R120): one step by the negated phase error. -/
def execAcquisitionStep (s : State) : Host.Outcome State Fault Refusal :=
  match s.live 1 && s.dpll == 1, s.cal.acqStep with
  | true, some e =>
    let s := s.withCal { s.cal with acqStep := none }
    .next (s.calStepTo ((s.cal.t : Int) - e * (calUnit : Nat) / 1000).toNat false false)
  | _, _ => .next s

/-! ### The reference clock (R96) -/

/-- REFCLK_LOST. -/
def execRefclkLost (s : State) : Host.Outcome State Fault Refusal :=
  if !s.live 1 || s.flag R.CAL_STAT_REF_LOST then .next s
  else
    let s := s.setFld R.CAL_STAT_REF_LOST 1
    .next (if s.dpll = 2 then (s.dpllState 3).enterHoldover false
      else if s.dpll = 0 then s.raise 122 else (s.dpllState 0).hldFree)

/-- REFCLK_RETURN: at the first rollover of the nanoseconds after REFCLK has run for 10 ms. -/
def execRefclkReturn (s : State) : Host.Outcome State Fault Refusal :=
  if !s.live 1 || !s.flag R.CAL_STAT_REF_LOST then .next s
  else
    let s := s.advance 10000000
    let s := s.advance (s.nsUntil ((s.cal.t / calSecond + 1) * calSecond))
    .next (s.setFld R.CAL_STAT_REF_LOST 0)

/-! ### Time-to-digital inputs (R101, R102, R113) -/

/-- Whether the input of a TDC is present: a pin, or the recovered clock of a block-locked lane (R113). -/
def State.tdcPresent (s : State) (n : Nat) : Bool :=
  n < 4 || (s.fld (R.CAL_TDC_CFG_LANE n) < 24 && s.laneLocked (s.fld (R.CAL_TDC_CFG_LANE n)))

/-- The phase error of S0 to S2 in ps: the capture less the input delay, less the nearest whole second (R114). -/
def State.tdcPhase (s : State) (n stamp : Nat) : Int :=
  let sec : Int := 1000000000 * 65536
  let e := ((stamp : Int) - sgn 32 (s.regN (R.CAL_SRC_DLY n)) * 65536) % sec
  roundEven ((if sec < 2 * e then e - sec else e) * 1000) 65536

/-- TDC_CAPTURE (R101, R102): the capture enters its queue, or is dropped with OVF and E123; the source it feeds is updated
either way. -/
def execTdcCapture (n : Fin 8) (s : State) : Host.Outcome State Fault Refusal :=
  if !s.live 1 || !s.tdcPresent n.val then .next s
  else
    let stamp := s.cal.t / 2 ^ 32
    let c : TdcCapture := ⟨s.calSec % 2 ^ 32, s.calNs, stamp % 65536⟩
    let q := tget [] s.cal.tdcQueue n.val
    let s := if q.length < 16 then s.withCal { s.cal with tdcQueue := tput s.cal.tdcQueue n.val (q ++ [c]) }
      else (s.setFld (R.CAL_TDC_CFG_OVF n.val) 1).raise 123
    let err := if n.val < 3 then s.tdcPhase n.val stamp
      else
        match (s.src n.val).last with
        | some l => roundEven (((stamp - l : Nat) : Int) * 2 ^ 48 - 1000000 * 65536 * 2 ^ 48) (1000000 * 65536)
        | none => 0
    .next (s.srcUpdate n.val stamp err)

/-- A read of CAL_TDCn_NS, SEC or SUB (R101 and chapter 04, Registers): NS moves the oldest capture into the latch. -/
def State.tdcRead (s : State) (n k : Nat) : Word × State :=
  let q := tget [] s.cal.tdcQueue n
  let s := match k, q with
    | 0, c :: r => s.withCal { s.cal with tdcQueue := tput s.cal.tdcQueue n r, tdcLatch := tput s.cal.tdcLatch n c }
    | _, _ => s
  let l := tget {} s.cal.tdcLatch n
  let level := (tget [] s.cal.tdcQueue n).length
  (BitVec.ofNat 32 (match k with
    | 0 => b2n q.isEmpty * 2 ^ 31 + l.ns
    | 1 => l.sec
    | _ => level * 2 ^ 16 + l.sub), s)

/-! ### Registers of CAL -/

/-- One update of S8 (R114): CAL_PTPOFS holds its phase error in ps. -/
def State.s8 (s : State) (data : Word) : State := s.srcUpdate 8 (s.cal.t / 2 ^ 32) (sgn 32 data.toNat)

/-- What writes to CAL_ registers do beyond their fields (R97, R99, R114 to R116, R121). -/
def calWrite (_rid : Rid) (a : Nat) (data old : Word) (s : State) : State :=
  if a = R.CAL_STEP then
    if s.flag R.CAL_STEP_GO then (s.setFld R.CAL_STEP_GO 0).calGo else s
  else if a = R.CAL_RATE then
    if 2 ≤ s.fld R.CAL_DPLL_MODE then ((s.setReg a old).yNote).setReg a data else s.setReg a old
  else if a = R.CAL_PTPOFS then s.s8 data
  else if a = R.CAL_DPLL then
    let new := s.reg a
    let s := if nbit old.toNat 6 != nbit new.toNat 6 then s.steerMoved else s
    s.calReselect
  else if a = R.CAL_FORCE then s.calReselect
  else
    match (List.range 9).find? (fun n => a == R.CAL_SRC_CFG n) with
    | some n =>
      if s.srcEnabled n then s.calReselect
      else if s.qualified n then s.srcDisqualify n
      else s.modSrc n (fun _ => {})
    | none => s

/-- Reads of CAL_ registers with an effect: CAL_NS takes the snapshot (R94), the TDC registers show a capture. -/
def calRead (_rid : Rid) (a : Nat) (s : State) : Word × State :=
  if a = R.CAL_NS then
    let sec := s.calSec
    let s := s.setRegN R.CAL_NS s.calNs
    let s := s.setRegN R.CAL_FRAC (s.cal.t / 2 ^ 16 % 2 ^ 32)
    let s := (s.setRegN R.CAL_SEC_LO sec).setRegN R.CAL_SEC_HI (sec / 2 ^ 32 % 65536)
    (s.reg R.CAL_NS, s)
  else if R.CAL_TDC_CFG 0 ≤ a ∧ a < R.CAL_TDC_CFG 8 ∧ a % 16 ≠ 0 then
    s.tdcRead ((a - R.CAL_TDC_CFG 0) / 16) (a % 16 / 4 - 1)
  else (s.reg a, s)

/-! ### Timestamp units (R103 to R105) -/

/-- LANE_CALIBRATION_DONE (R104): the alignment of a block-locked lane is measured. -/
def execLaneCalibrationDone (n : Fin 24) (align : BitVec 16) (s : State) : Host.Outcome State Fault Refusal :=
  if s.live 1 && s.laneLocked n.val then .next (s.setRegN (R.PTP_PSTAT n.val) (2 ^ 31 + align.toNat))
  else .next s

/-- Whether the stamps of a port are calibrated; those of the field port always are. -/
def State.calDone (s : State) (port : Nat) : Bool := port == 24 || s.flag (R.PTP_PSTAT_CAL_DONE port)

/-! ### PTP frames (R106, R108 to R112) -/

/-- A PTP message in a frame (R106): 0 over Ethernet, 1 over UDP and IPv4, 2 over UDP and IPv6; the offset of the message;
and the offset of the UDP checksum. -/
def ptpFind (l : List Byte) : Option (Nat × Nat × Nat) :=
  let e := etherOff l
  let ty := be16 l e
  let udp := fun off => be16 l (off + 2) == 319 || be16 l (off + 2) == 320
  if ty = 0x88F7 then some (0, e + 2, 0)
  else if ty = 0x0800 then
    let ihl := 4 * ((l.getD (e + 2) 0).toNat % 16)
    let u := e + 2 + ihl
    if l.getD (e + 11) 0 = 17 && udp u then some (1, u + 8, u + 6) else none
  else if ty = 0x86DD then
    let u := e + 42
    if l.getD (e + 8) 0 = 17 && udp u then some (2, u + 8, u + 6) else none
  else none

/-- Bytes written into a frame at an offset. -/
def patch (l : List Byte) (off : Nat) (bs : List Byte) : List Byte := l.take off ++ bs ++ l.drop (off + bs.length)

/-- The type of a PTP message. -/
def ptpType (l : List Byte) (off : Nat) : Nat := (l.getD off 0).toNat % 16

/-- Add to the correctionField of the message at an offset, in 2⁻¹⁶ ns; a sum that overflows becomes the largest value
(R112). -/
def ptpCorrect (l : List Byte) (off : Nat) (add : Int) : List Byte :=
  let c := sgn 64 (beNat (slice l (off + 8) 8)) + add
  patch l (off + 8) (beBytes 8 (if 2 ^ 63 ≤ c then 2 ^ 63 - 1 else unsgn 64 c))

/-- A stamp in quarter nanoseconds: seconds and the stamp word (R103). -/
def stampQuarters (sec stamp : Nat) : Nat := sec * 4000000000 + stamp

/-- Residence correction of a frame forwarded between lanes (R112, R272): a PTP event message over Ethernet or IPv4 has its
residence time added; over IPv6, and on a protected egress lane, it goes unchanged and is counted in PTP_TCSKIP. -/
def State.residence (s : State) (egress : Nat) (bytes : List Byte) (inSec inStamp outSec outStamp : Nat) (prot : Bool) :
    List Byte × State :=
  if !s.live 1 || !s.flag (R.PTP_PCFG_TC_EN egress) then (bytes, s)
  else
    match ptpFind bytes with
    | some (kind, off, chk) =>
      if 4 ≤ ptpType bytes off then (bytes, s)
      else if kind = 2 || prot then (bytes, s.count C.PTP_TCSKIP)
      else
        let q : Int := (stampQuarters outSec outStamp : Int) - stampQuarters inSec inStamp
        let b := ptpCorrect bytes off (q * 16384)
        (if kind = 1 then patch b chk [0, 0] else b, s)
    | none => (bytes, s)

/-- PTP_RX_FRAME (R107, R108, R111): a confirmed frame goes whole into the receive ring, or is dropped. -/
def execPtpRxFrame (s : State) : Host.Outcome State Fault Refusal :=
  match s.live 1, s.cal.ptpRxWait with
  | true, (w0, sec, stamp, bytes) :: r =>
    let s := s.withCal { s.cal with ptpRxWait := r }
    let head := s.regN R.PTP_RXHEAD % 32
    if !s.flag R.PTP_CTRL_EN then .next s
    else if (head + 1) % 32 = s.regN R.PTP_RXTAIL % 32 then .next ((s.count C.PTP_RXDROP).raise 125)
    else
      let trunc := 240 < bytes.length
      let word0 := w0.toNat + b2n trunc * 2 ^ 29
      let entry := leBytes 4 word0 ++ leBytes 4 sec ++ leBytes 4 (sec / 2 ^ 32 % 65536) ++ leBytes 4 stamp.toNat ++ slice bytes 0 240
      let base := s.fld R.PTP_RXBASE_BASE * 8192
      .next ((s.memWrite (engineRid 2) (base + 256 * head) entry).2.setRegN R.PTP_RXHEAD ((head + 1) % 32))
  | _, _ => .next s

/-- One-step insertion (R110): egress seconds and nanoseconds into originTimestamp, the quarter nanoseconds to the
correctionField, and over IPv4 the UDP checksum to zero. None for any other message than a Sync over Ethernet or IPv4. -/
def ptpInsert (bytes : List Byte) (sec stamp : Nat) : Option (List Byte) :=
  match ptpFind bytes with
  | some (kind, off, chk) =>
    if kind = 2 || ptpType bytes off ≠ 0 then none
    else
      let b := patch bytes (off + 34) (beBytes 6 sec ++ beBytes 4 (stamp / 4))
      let b := ptpCorrect b off ((stamp % 4 * 16384 : Nat) : Int)
      some (if kind = 1 then patch b chk [0, 0] else b)
  | none => none

/-- Whether a PTP port can send: enabled and available; a lane needs its domain and LNE_CTRL.EN. -/
def State.ptpPortUp (s : State) (port : Nat) : Bool :=
  port < 25 && s.flag (R.PTP_PCFG_EN port) &&
    (port == 24 || (s.live (laneDomain port) && s.flag (R.LNE_CTRL_EN port)))

/-- PTP_TX_COMPLETE (R109, R110, R272): the entry at PTP_TXTAIL is sent at an egress stamp, with insertion or capture, or
completes with ERR; a frame for a lane without block lock waits. -/
def execPtpTxComplete (sec : BitVec 48) (stamp : Word) (s : State) : Host.Outcome State Fault Refusal :=
  let tail := s.regN R.PTP_TXTAIL % 32
  if !s.live 1 || !s.flag R.PTP_CTRL_EN || tail = s.regN R.PTP_TXHEAD % 32 then .next s
  else
    let addr := s.fld R.PTP_TXBASE_BASE * 8192 + 256 * tail
    let r := s.memRead (engineRid 2) addr 256
    let e := r.1.1
    let s := r.2
    let w0 := leNat (slice e 0 4)
    let port := nbits w0 24 20
    let action := nbits w0 29 28
    let len := nbits w0 10 0
    let bytes := slice e 16 len
    let up := s.ptpPortUp port
    if up && port < 24 && !s.laneLocked port then .next s
    else
      let prot := port < 24 && s.live 8 && s.flag (R.CIP_LANE_CFG_TXEN port)
      let out := if len = 0 || 240 < len || !up then none
        else if 2 ≤ action then (if prot then none else ptpInsert bytes sec.toNat stamp.toNat)
        else some bytes
      let next := (tail + 1) % 32
      match out with
      | none => .next ((s.memWrite (engineRid 2) addr (leBytes 4 (nput w0 31 31 1))).2.setRegN R.PTP_TXTAIL next)
      | some b =>
        let s := s.lineSend port b
        let s := if action % 2 = 1 then
            (s.memWrite (engineRid 2) addr (leBytes 4 (nput w0 30 30 (b2n (!s.calDone port))) ++ leBytes 4 sec.toNat ++
              leBytes 4 (sec.toNat / 2 ^ 32) ++ leBytes 4 stamp.toNat)).2
          else s
        .next (s.setRegN R.PTP_TXTAIL next)

/-- What writes to PTP_ registers do beyond their fields (R107, R366). -/
def ptpWrite (_rid : Rid) (a : Nat) (_data old : Word) (s : State) : State :=
  if a = R.PTP_CTRL && s.flag R.PTP_CTRL_EN && !nbit old.toNat 0 then s.dmaPreempt 15 else s

end Sys2Proof.Machine
end

