-- ==== Sys2Proof/Machine/Container.lean ====
section
/-! DEFINITION. Containers of a lane (R152, R199 to R201, R214), sample formats and gain (R161, R216 to R220), and the
counters and events of a lane (R215). -/

namespace Sys2Proof.Machine

/-! ### Lane counters and events (R215) -/

/-- A bit of LNE_EVT becomes 1: E16 + n when it is enabled and was 0. -/
def State.laneEvent (s : State) (n bit : Nat) : State :=
  let a := R.LNE_EVT n
  if nbit (s.regN a) bit then s
  else
    let s := s.setRegN a (nput (s.regN a) bit bit 1)
    if nbit (s.regN (R.LNE_EVTEN n)) bit then s.raise (16 + n) else s

/-- Count in a lane: only while the lane is enabled (R193); an overflow sets LNE_EVT.OVF. -/
def State.laneCount (s : State) (n : Nat) (c : Ctr) (k : Nat) : State :=
  if !s.flag (R.LNE_CTRL_EN n) || k = 0 then s
  else
    let wrap := 2 ^ 32 ≤ s.regN c.addr + k
    let s := s.countN c k
    if wrap then s.laneEvent n 5 else s

/-- The payload indices that the cipher holds on a protected lane direction (R273). -/
def State.cipherHeld (s : State) (n dir : Nat) : List Nat := if s.laneProt n dir then [252, 253] else []

/-! ### Lane modes (R190) -/

/-- The mode of a lane. -/
def State.laneMode (s : State) (n : Nat) : Nat := s.fld (R.LNE_CTRL_MODE n)

/-- Whether a lane runs a Varlas mode. -/
def State.varlas (s : State) (n : Nat) : Bool := s.laneMode n == 2 || s.laneMode n == 3

/-- Superframes per epoch (R198). -/
def State.epochLen (s : State) (n : Nat) : Nat := if s.laneMode n = 2 then 30 else 75

/-- Whether a lane transmits: up, enabled, not measuring φ and not sending a test pattern. -/
def State.laneSends (s : State) (n : Nat) : Bool :=
  s.live (laneDomain n) && s.flag (R.LNE_CTRL_EN n) && (s.lane n).tx == .sending && !s.flag (R.LNE_CTRL_PRBS n)

/-! ### Container configuration (R214) -/

/-- The configuration of container c of lane n: `dir` 0 receive, 1 transmit. -/
def State.contCfg (s : State) (n dir c : Nat) : ContCfg := tget {} (s.lane n).conts (64 * dir + c)

/-- EN of a container. -/
def ContCfg.en (k : ContCfg) : Bool := nbit k.fmt.toNat 15

/-- AGN of a container. -/
def ContCfg.agn (k : ContCfg) : Bool := nbit k.fmt.toNat 14

/-- RATE of a container. -/
def ContCfg.rate (k : ContCfg) : Nat := nbits k.fmt.toNat 10 8

/-- FMT of a container. -/
def ContCfg.format (k : ContCfg) : Nat := nbits k.fmt.toNat 7 4

/-- Container g of a direction, by Saltern's number (R152). -/
def State.cont (s : State) (dir g : Nat) : ContCfg := s.contCfg (g / 64) dir (g % 64)

/-- Whether a container is configured: its lane's domain is up and its EN is set. -/
def State.contOn (s : State) (dir g : Nat) : Bool := s.live (laneDomain (g / 64)) && (s.cont dir g).en

/-- The period of a rate code in units of 1 / 122.88 MHz. -/
def ratePeriod (k : Nat) : Nat := 32 / 2 ^ min k 5

/-- The sample period of a container. -/
def State.period (s : State) (dir g : Nat) : Nat := ratePeriod (s.cont dir g).rate

/-- Sample time units in one second, and in one 50 µs epoch. -/
def ticksPerSecond : Nat := 122880000

/-- Sample time units in one epoch. -/
def ticksPerEpoch : Nat := 6144

/-- Whether a sample time lies at or after a Calends instant in ns: one unit is 3125/384 ns. -/
def tickAt (t ns : Nat) : Bool := 384 * ns ≤ 3125 * t

/-- The first sample time at or after a Calends instant in ns that is a multiple of a period. -/
def tickFrom (ns p : Nat) : Nat := (384 * ns + 3125 * p - 1) / (3125 * p) * p

/-- Calends in ns. -/
def State.calNow (s : State) : Nat := s.cal.t / calUnit

/-! ### Formats (R216 to R219) -/

/-- Rounding to nearest, ties away from zero (R217). -/
def roundAway (n : Int) (d : Nat) : Int :=
  let q : Nat := (2 * n.natAbs + d) / (2 * d)
  if n < 0 then -(q : Int) else q

/-- The width of a linear format. -/
def linearWidth (fmt : Nat) : Option Nat :=
  match fmt with
  | 0 => some 16
  | 1 => some 15
  | 2 => some 12
  | 3 => some 10
  | 4 => some 9
  | 5 => some 8
  | _ => none

/-- The mantissa width of a block floating point format. -/
def bfpWidth (fmt : Nat) : Option Nat :=
  match fmt with
  | 8 => some 9
  | 9 => some 8
  | 10 => some 7
  | _ => none

/-- Bits of `k` whole groups of a format: groups of 1 sample, or of 12 in block floating point; 32 bits a sample in a
structure-agnostic container (log entry 19). -/
def ContCfg.groupLen (k : ContCfg) : Nat := if k.agn then 1 else if (bfpWidth k.format).isSome then 12 else 1

/-- Bits in one group. -/
def ContCfg.groupBits (k : ContCfg) : Nat :=
  if k.agn then 32
  else
    match linearWidth k.format, bfpWidth k.format with
    | some w, _ => 2 * w
    | none, some m => 24 * m + 4
    | none, none => 0

/-- The two's complement code of a sample component in a linear format, and whether it saturated (R217). -/
def packLinear (w : Nat) (x : Int) : Nat × Bool :=
  let c := roundAway x (2 ^ (21 - w))
  let y := clampI (-(2 ^ (w - 1) : Nat)) (2 ^ (w - 1) - 1 : Nat) c
  (unsgn w y, y != c)

/-- The exponent of a block: the smallest for which every value fits, else the largest (R218). -/
def bfpExponent (m : Nat) (xs : List Int) : Nat :=
  let lim : Int := (2 ^ (m - 1) : Nat)
  let fits := fun e => xs.all (fun x =>
    let c := roundAway x (2 ^ (5 + e))
    c < lim && -lim ≤ c)
  ((List.range (17 - m)).find? fits).getD (16 - m)

/-- A group of samples as bits, most significant first (R219), and the samples that saturated. -/
def packGroup (k : ContCfg) (l : List (Int × Int)) : Nat × Nat :=
  if k.agn then (l.foldl (fun n p => (n * 2 ^ 16 + unsgn 16 p.1) * 2 ^ 16 + unsgn 16 p.2) 0, 0)
  else
    match linearWidth k.format, bfpWidth k.format with
    | some w, _ => l.foldl (fun (r : Nat × Nat) p =>
        let a := packLinear w p.1
        let b := packLinear w p.2
        ((r.1 * 2 ^ w + a.1) * 2 ^ w + b.1, r.2 + b2n (a.2 || b.2))) (0, 0)
    | none, some m =>
      let e := bfpExponent m (l.flatMap (fun p => [p.1, p.2]))
      let one := fun (x : Int) =>
        let c := roundAway x (2 ^ (5 + e))
        let y := clampI (-(2 ^ (m - 1) : Nat)) (2 ^ (m - 1) - 1 : Nat) c
        (unsgn m y, y != c)
      l.foldl (fun (r : Nat × Nat) p =>
        let a := one p.1
        let b := one p.2
        ((r.1 * 2 ^ m + a.1) * 2 ^ m + b.1, r.2 + b2n (a.2 || b.2))) (e, 0)
    | none, none => (0, 0)

/-- The internal value of one received component (R154, R217, R218): raw code, exponent. -/
def unpackCode (k : ContCfg) (code e : Nat) : Int :=
  if k.agn then sgn 16 code
  else
    match linearWidth k.format, bfpWidth k.format with
    | some w, _ => sgn w code * (2 ^ (21 - w) : Nat)
    | none, some m => sgn m code * (2 ^ (5 + min e (16 - m)) : Nat)
    | none, none => 0

/-- Whether a received exponent is above the valid ones. -/
def badExponent (k : ContCfg) (e : Nat) : Bool :=
  match bfpWidth k.format with
  | some m => !k.agn && 16 - m < e
  | none => false

/-! ### Gain (R161, R220) -/

/-- 10^(2^b / 400) in units of 2⁻⁶⁰. -/
def gainStep (b : Nat) : Nat :=
  match b with
  | 0 => 1159577393089001151
  | 1 => 1166271706434695346
  | 2 => 1179776496313969701
  | 3 => 1207257021135626152
  | 4 => 1264153291666002342
  | 5 => 1386116520894407888
  | 6 => 1666478595306970703
  | 7 => 2408794438753503044
  | 8 => 5032684900910421492
  | 9 => 21968466379234298332
  | _ => 418600497195272433579

/-- The gain of a code in units of 2⁻⁶⁰: 10^((code × 0.05 − 60) / 20) within ±0.005 dB, where in that tolerance being free
(log entry 18). -/
def gainOf (code : Nat) : Nat :=
  if 1440 < code then Config.gain code
  else
    let g := (List.range 11).foldl (fun g b => if nbit code b then g * gainStep b / 2 ^ 60 else g) (2 ^ 60) / 1000
    let d := g * 5754 / 10000000
    g - d + Config.gain code % (2 * d + 1)

/-- A component times a gain, in `w` bits: rounded to nearest and saturated. -/
def applyGain (w : Nat) (x : Int) (gain : Nat) : Int :=
  clampI (-(2 ^ (w - 1) : Nat)) (2 ^ (w - 1) - 1 : Nat) (roundAway (x * gain) (2 ^ 60))

/-- Samples of transmit container g through the output stage (R220), packed: the bits and how many there are. -/
def State.packOut (s : State) (g : Nat) (l : List TxSample) : (Nat × Nat) × State :=
  let k := s.cont 1 g
  let gain := gainOf (s.fld (R.SRC_GAIN_G g))
  let xs := l.map (fun t => if k.agn then (t.i, t.q) else (applyGain 28 t.i gain, applyGain 28 t.q gain))
  let n := k.groupLen
  let groups := (List.range (xs.length / n)).map (fun j => (xs.drop (j * n)).take n)
  let bits := groups.foldl (fun (r : Nat × Nat) gr =>
    let p := packGroup k gr
    (r.1 * 2 ^ k.groupBits + p.1, r.2 + p.2)) (0, 0)
  ((bits.1, groups.length * k.groupBits), s.countN (C.SRC_GSAT g) bits.2)

end Sys2Proof.Machine
end

