-- ==== Sys2Proof/Machine/Matrix.lean ====
section
/-! DEFINITION. Saltern (chapter 06): the arrival of samples, forming transmit samples, rate converters at work (R222), the
commit of the Eve table, confirmation, delay lines and the capture. -/

namespace Sys2Proof.Machine

/-! ### Settings -/

/-- MTX_SRCTO in µs within its bounds. -/
def State.srcTimeout (s : State) : Nat := max 10 (min 10000 (s.fld R.MTX_SRCTO_SRCTO))

/-- MTX_ADV in ns. -/
def State.mtxAdv (s : State) : Nat := 1000 * min 1000 (s.fld R.MTX_ADV_ADV)

/-- MTX_SWWIN in ns. -/
def State.switchWindow (s : State) : Nat := 1000 * max 10 (min 10000 (s.fld R.MTX_SWWIN_SWWIN))

/-- The first boundary of a period at or after a Calends instant in ns (R167). -/
def State.nextBoundary (s : State) (p x : Nat) : Nat :=
  x + ((sgn 24 (s.fld R.MTX_FOFS_FOFS) - (x : Int)) % (p : Int)).toNat

/-- The period of a boundary class in ns (R167). -/
def boundaryPeriod (cls mu : Nat) : Nat := if cls = 0 then 10000000 else if cls = 1 then 1000000 else 1000000 / 2 ^ mu

/-- Raise an event at most once per millisecond (R186, and E50). -/
def State.raiseLimited (s : State) (k : Nat) : State :=
  let last := (s.mtx.evLimit.find? (fun p => p.1 == k)).map (·.2)
  match last with
  | some t => if s.now < t + 1000000 then s else (s.withMtx { s.mtx with evLimit := tput s.mtx.evLimit k s.now }).raise k
  | none => (s.withMtx { s.mtx with evLimit := tput s.mtx.evLimit k s.now }).raise k

/-- A transmit container. -/
def State.tx (s : State) (g : Nat) : TxCont := tget {} s.mtx.conts g

/-- Change a transmit container. -/
def State.modTx (s : State) (g : Nat) (f : TxCont → TxCont) : State := s.withMtx { s.mtx with conts := tmod {} s.mtx.conts g f }

/-! ### Capture (R187, R188) -/

/-- COUNT of the capture. -/
def State.capCount (s : State) : Nat :=
  let n := s.fld R.MTX_CAP_CTRL_COUNT
  if n = 0 || 2048 < n then 2048 else n

/-- The capture ends with a result: E53. -/
def State.capStop (s : State) (result : Nat) : State :=
  let s := (s.setFld R.MTX_CAP_STAT_RESULT result).setFld R.MTX_CAP_STAT_STATE 0
  (s.withMtx { s.mtx with capHeld := [] }).raise 53

/-- A component as the capture window shows it: full scale ±2¹⁵, saturated. -/
def capCode (x : Int) : Nat := unsgn 16 (clampI (-32768) 32767 (roundAway x 32))

/-- Write one confirmed sample into the capture window. -/
def State.capStore (s : State) (x : TxSample) : State :=
  let j := s.fld R.MTX_CAP_STAT_CNT
  let ns := 3125 * x.time / 384
  let s := if j = 0 then (s.setRegN R.MTX_CAP_T0_NS (ns % 1000000000)).setRegN R.MTX_CAP_T0_SEC (ns / 1000000000) else s
  (s.setRegN (R.MTX_CAPW j) (capCode x.i * 2 ^ 16 + capCode x.q)).setFld R.MTX_CAP_STAT_CNT (j + 1)

/-- The captured samples whose units are confirmed are written; the capture completes with the last. -/
def State.capFlush (s : State) : State :=
  if s.fld R.MTX_CAP_STAT_STATE = 0 then s
  else
    let ready := s.mtx.capHeld.takeWhile (fun x => x.deps.isEmpty)
    let s := s.withMtx { s.mtx with capHeld := s.mtx.capHeld.drop ready.length }
    let s := ready.foldl State.capStore s
    if s.capCount ≤ s.fld R.MTX_CAP_STAT_CNT then s.capStop 1 else s

/-- A sample of a container passes the capture's point. -/
def State.capSample (s : State) (dir g : Nat) (x : TxSample) : State :=
  if s.fld R.MTX_CAP_STAT_STATE = 0 || s.fld R.MTX_CAP_CTRL_DIR ≠ dir || s.fld R.MTX_CAP_CTRL_CONT ≠ g
      || s.capCount ≤ s.mtx.capTaken || !tickAt x.time s.mtx.capFrom then s
  else
    let s := s.setFld R.MTX_CAP_STAT_STATE 2
    (s.withMtx { s.mtx with capHeld := s.mtx.capHeld ++ [x], capTaken := s.mtx.capTaken + 1 }).capFlush

/-- GO starts or restarts a capture. -/
def State.capStart (s : State) : State :=
  let from_ := if s.flag R.MTX_CAP_CTRL_TRIG then s.nextBoundary 10000000 s.calNow else 0
  let s := s.withMtx { s.mtx with capHeld := [], capTaken := 0, capFrom := from_ }
  ((s.setFld R.MTX_CAP_STAT_CNT 0).setFld R.MTX_CAP_STAT_RESULT 0).setFld R.MTX_CAP_STAT_STATE 1

/-- A lane loses its lock: a capture of one of its containers stops with LOST. -/
def State.capLost (s : State) (n : Nat) : State :=
  if s.fld R.MTX_CAP_STAT_STATE ≠ 0 && s.fld R.MTX_CAP_CTRL_CONT / 64 = n then s.capStop 3 else s

/-! ### Delay lines (R183 to R186) -/

/-- Bytes in the 64 KB buffer of delay-line writes. -/
def State.rtLevel (s : State) : Nat :=
  s.mtx.lines.foldl (fun n p => n + 8 * (p.2.ents.filter (fun e => e.place == 1)).length) 0

/-- Entries whose units are confirmed enter the on-die buffer, or are lost when it is full. -/
def settleEnts : Nat → List LineEnt → List LineEnt × Nat × Nat
  | level, [] => ([], level, 0)
  | level, e :: r =>
    if e.place = 0 ∧ e.smp.deps = [] then
      if level + 8 ≤ 65536 then
        let q := settleEnts (level + 8) r
        ({ e with place := 1 } :: q.1, q.2.1, q.2.2)
      else
        let q := settleEnts level r
        ({ e with place := 4, smp := { e.smp with i := 0, q := 0, blank := true } } :: q.1, q.2.1, q.2.2 + 1)
    else
      let q := settleEnts level r
      (e :: q.1, q.2.1, q.2.2)

/-- Lost delayed samples are counted, with E51 (R186). -/
def State.delayLost (s : State) (n : Nat) : State :=
  if n = 0 then s else (s.countN C.MTX_DLY_LOST n).raiseLimited 51

/-- Every line settles. -/
def State.settleLines (s : State) : State :=
  s.mtx.lines.foldl (fun s p =>
    let q := settleEnts s.rtLevel p.2.ents
    (s.withMtx { s.mtx with lines := tput s.mtx.lines p.1 { p.2 with ents := q.1 } }).delayLost q.2.2) s

/-- A sample enters a delay line, due `d` periods later; old samples due at or after it are dropped (R185). -/
def State.lineInsert (s : State) (k g d p : Nat) (x : TxSample) : State :=
  let l := tget {} s.mtx.lines k
  let due := x.time + d * p
  let keep := l.ents.filter (fun e => e.due < due)
  let s := s.countN C.MTX_DLY_DROP (l.ents.length - keep.length)
  let l := { l with cont := g, next := some (l.next.getD due), ents := keep ++ [⟨due, x, 0⟩] }
  (s.withMtx { s.mtx with lines := tput s.mtx.lines k l }).settleLines

/-! ### Output of a formed sample -/

/-- A sample leaves Saltern for its lane: past the capture's point and to the output stage; a lane that does not transmit
discards it (R166). -/
def State.emit (s : State) (g : Nat) (x : TxSample) : State :=
  let s := s.capSample 1 g x
  if s.laneSends (g / 64) then s.modTx g (fun c => { c with out := c.out ++ [x] }) else s

/-- DELAY_LINE_OUTPUT (R186): the next output instant of a line; a sample whose read has not returned, a sample
due while the DRAM controller is frozen (R452), or a gap leaves blank. -/
def execDelayLineOutput (line : Fin 384) (s : State) : Host.Outcome State Fault Refusal :=
  let l := tget {} s.mtx.lines line.val
  match s.live 12, l.next with
  | true, some t =>
    let p := s.period 1 l.cont
    let here := l.ents.find? (fun e => e.due == t)
    let l' := { l with next := some (t + p), ents := l.ents.filter (fun e => t < e.due) }
    let s := s.withMtx { s.mtx with lines := tput s.mtx.lines line.val l' }
    match here with
    | some e =>
      if e.place = 4 || (e.place == 3 && !s.flag R.DMC_STAT_FROZEN) then .next (s.emit l.cont { e.smp with time := t })
      else .next ((s.delayLost 1).emit l.cont ⟨t, 0, 0, true, []⟩)
    | none => .next (s.emit l.cont ⟨t, 0, 0, true, []⟩)
  | _, _ => .next s

/-! ### Rate converters at work (R222) -/

/-- One output of an active program from an input history, latest first: before saturation to 24 bits. -/
def ConvSt.fir (c : ConvSt) (phase : Nat) (xs : List (Int × Int)) : Int × Int :=
  let n := progTaps c.act.toNat
  let h := fun i => sgn 18 (tget 0 c.actCoef (phase * n + i)).toNat
  let acc := ((xs.take n).zip (List.range n)).foldl
    (fun (a : Int × Int) (p : (Int × Int) × Nat) => (a.1 + p.1.1 * h p.2, a.2 + p.1.2 * h p.2)) (0, 0)
  (roundAway acc.1 131072, roundAway acc.2 131072)

/-- Saturation to 24 bits, each counted in SRC_CONVSAT. -/
def State.convSat (s : State) (x : Int × Int) : (Int × Int) × State :=
  let sat := clampI (-8388608) 8388607
  let n := b2n (sat x.1 != x.1) + b2n (sat x.2 != x.2)
  ((sat x.1, sat x.2), if n = 0 then s else s.countN C.SRC_CONVSAT n)

/-- The inputs a converter takes up to the input time `tin`: those after its latest, at most 64, a missing one as zero. -/
def takeInputs (hist buf : List RxSample) (pin tin : Nat) : List RxSample :=
  let first := match hist with
    | h :: _ => max (h.time + pin) (tin - 63 * pin)
    | [] => tin - 63 * pin
  let n := (tin + pin - first) / pin
  let new := (List.range n).map (fun k =>
    let t := tin - k * pin
    (buf.find? (fun x => x.time == t)).getD { time := t })
  (new ++ hist).take 64

/-! ### Forming a transmit sample (R161 to R166) -/

/-- What one source gives a transmit sample. -/
structure Contrib where
  i : Int := 0
  q : Int := 0
  absent : Bool := true
  deps : List Nat := []
deriving DecidableEq, Repr

/-- The key of a skew buffer. -/
def slotKey (eve : Bool) (g slot : Nat) : Nat := (if eve then 6144 else 0) + 4 * g + slot

/-- A source's contribution to the sample of container g at time t, under the Day or the Eve entry; none when it is present
and has not delivered. -/
def State.contribute (s : State) (eve : Bool) (g t : Nat) (r : RouteSrc) : Option (Contrib × State) :=
  let key := slotKey eve g r.slot
  let buf := tget [] s.mtx.skew key
  let drop := fun (s : State) (upto : Nat) =>
    s.withMtx { s.mtx with skew := tput s.mtx.skew key (buf.filter (fun x => upto < x.time)) }
  let gain := gainOf r.gain
  let scale := fun (x : Int) => roundAway (x * gain) (2 ^ 60)
  match r.conv with
  | none =>
    if s.srcAbsent r.src then some ({}, drop s t)
    else
      match (s.recv r.src).next with
      | none => none
      | some n =>
        if n ≤ t then none
        else
          match buf.find? (fun x => x.time == t) with
          | none => some ({ absent := false }, drop s t)
          | some x =>
            if x.blank then some ({}, drop s t)
            else some (⟨scale x.i, scale x.q, false, if x.unit = 0 then [] else [x.unit]⟩, drop s t)
  | some k =>
    let c := s.conv k
    let pin := ratePeriod (progIn c.act.toNat)
    let tin := t / pin * pin
    if c.void then some ({}, s.modConv k (fun c => { c with void := false }))
    else if s.srcAbsent r.src then some ({}, s)
    else
      match (s.recv r.src).next with
      | none => none
      | some n =>
        if n ≤ tin then none
        else
          let hist := takeInputs c.hist buf pin tin
          let phase := t % pin / s.period 1 g % progPhases c.act.toNat
          let y := s.convSat (c.fir phase (hist.map (fun x => (x.i, x.q))))
          let c := { c with hist := hist }
          let c := if c.pend ≠ 0 && !c.held then c.take else c
          let s := drop (y.2.modConv k (fun _ => c)) tin
          let used := hist.take (progTaps c.act.toNat)
          let deps := ((used.map (·.unit)).filter (· != 0)).eraseDups
          if (hist.head?.map (·.blank)).getD false then some ({}, s)
          else some (⟨scale y.1.1, scale y.1.2, false, deps⟩, s)

/-- The contributions of all sources, none when one is not ready. -/
def State.contributeAll (eve : Bool) (g t : Nat) : List RouteSrc → State → Option (List Contrib × State)
  | [], s => some ([], s)
  | r :: rs, s =>
    match s.contribute eve g t r with
    | none => none
    | some (c, s) =>
      match State.contributeAll eve g t rs s with
      | none => none
      | some (cs, s) => some (c :: cs, s)

/-- Whether a commit is armed and the sample of a changed container at time t falls to the Eve entry (R173, R176). -/
def State.underEve (s : State) (g t : Nat) : Bool :=
  s.mtxState == 2 && s.mtx.changed.contains g && (tickAt t s.mtx.boundary || s.mtx.switched.contains g)

/-- Note that a container took samples of units. -/
def State.noteUse (s : State) (g : Nat) (deps : List Nat) : State :=
  if deps.isEmpty then s
  else
    s.withMtx { s.mtx with units := s.mtx.units.map (fun (p : Nat × List UnitRec) =>
      (p.1, p.2.map (fun u => if deps.contains u.serial && !u.tx.contains g then { u with tx := u.tx ++ [g] } else u))) }

/-- The Day table takes the Eve contents and the commit is DONE (R176): converters and lines no longer named are released,
E48, and held requests are acted on (R228). -/
def State.mtxComplete (s : State) (forced : Nat) : State :=
  let m := s.mtx
  let ch := m.changed
  let skew := (m.skew.filter (fun p => p.1 < 6144 && !ch.contains (p.1 / 4))) ++
    (m.skew.filter (fun p => 6144 ≤ p.1)).map (fun (p : Nat × List RxSample) => (p.1 - 6144, p.2))
  let skew := skew.foldl (fun t (p : Nat × List RxSample) => tput t p.1 p.2) []
  let lineUsed := fun k => (enabledRoutes m.eve).any (fun g =>
    nbit (entryWord m.eve g 0) 27 && nbits (entryWord m.eve g 1) 8 0 == k)
  let s := s.withMtx { m with day := m.eve, changed := [], switched := [], skew := skew,
                                    lines := m.lines.filter (fun p => lineUsed p.1) }
  let s := s.withConvs (s.convs.map (fun (p : Nat × ConvSt) =>
    if (convUses m.eve p.1).isEmpty then (p.1, { p.2 with hist := [], void := false }) else p))
  let s := (s.setFld R.MTX_COMMIT_STAT_STATE 0).setFld R.MTX_COMMIT_STAT_RESULT 0
  let s := (s.count C.MTX_COMMITS).setFld R.MTX_COMP_FORCED forced
  (s.raise 48).releaseHeld

/-- The time of the next sample of a container: after its last, or where its buffers or Calends begin. -/
def State.txNext (s : State) (g : Nat) : Nat :=
  let p := s.period 1 g
  match (s.tx g).next with
  | some t => t
  | none =>
    let heads := (List.range 4).filterMap (fun k => (tget [] s.mtx.skew (slotKey false g k)).head?.map (·.time))
    match heads with
    | [] => tickFrom s.calNow p
    | h :: r => (r.foldl min h + p - 1) / p * p

/-- The sample that a lane mixes for an instant, none while a source has not delivered: blank where the lane takes no route. -/
def State.mixSample (s : State) (g t : Nat) (eve : Bool) (tab : List (Nat × Word)) : Option (TxSample × State) :=
  if !s.flag R.MTX_CTRL_EN || !routeEn tab g then some (⟨t, 0, 0, true, []⟩, s)
  else
    match State.contributeAll eve g t (routeSources tab g) s with
    | none => none
    | some (cs, s) =>
      let sum := fun (f : Contrib → Int) => clampI (-134217728) 134217727 (cs.foldl (fun a c => a + f c) 0)
      let i := clampI (-8388608) 8388607 (sum (·.i))
      let q := clampI (-8388608) 8388607 (sum (·.q))
      let s := if i ≠ sum (·.i) || q ≠ sum (·.q) then s.count C.MTX_SUM_SAT else s
      some (⟨t, i, q, cs.all (·.absent), (cs.flatMap (·.deps)).eraseDups⟩, s)

/-- Form the next sample of container g; none while a present source has not delivered (R161 to R166, R173). -/
def State.formSample (s : State) (g : Nat) : Option State :=
  let t := s.txNext g
  let p := s.period 1 g
  let eve := s.underEve g t
  let tab := if eve then s.mtx.eve else s.mtx.day
  match s.mixSample g t eve tab with
  | none => none
  | some (x, s) =>
    let late := routeEn tab g && nbit (entryWord tab g 0) 27
    let s := (s.noteUse g (if late then [] else x.deps)).modTx g (fun c => { c with next := some (t + p) })
    let s := if late then
        s.lineInsert (nbits (entryWord tab g 1) 8 0) g (nbits (entryWord tab g 0) 17 0) p x
      else s.emit g x
    if eve && !s.mtx.switched.contains g then
      let sw := g :: s.mtx.switched
      let s := s.withMtx { s.mtx with switched := sw }
      some (if s.mtx.changed.all (fun h => sw.contains h) then s.mtxComplete 0 else s)
    else some s

/-- TRANSMIT_SAMPLE_FORMED. -/
def execTransmitSampleFormed (g : Fin 1536) (s : State) : Host.Outcome State Fault Refusal :=
  if s.live 12 then .next ((s.formSample g.val).getD s) else .next s

/-! ### Arrival (R163 to R165, R177 to R180) -/

/-- Put a sample into a skew buffer of 256; a full one discards it (R164). -/
def State.skewPut (s : State) (key : Nat) (x : RxSample) : State :=
  let b := tget [] s.mtx.skew key
  if 256 ≤ b.length then s.count C.MTX_SKEW_OVF
  else s.withMtx { s.mtx with skew := tput s.mtx.skew key (b ++ [x]) }

/-- Whether a slot of an Eve entry names a converter that does not already serve this destination and source (R170, R174). -/
def State.newConv (s : State) (g : Nat) (r : RouteSrc) : Bool :=
  match r.conv with
  | none => false
  | some k => !(convUses s.mtx.day k).any (fun u => u.1 == g && u.2.src == r.src)

/-- The skew buffers a sample of a container goes to. -/
def State.skewKeys (s : State) (c : Nat) (t : Nat) : List Nat :=
  let m := s.mtx
  let armed := s.mtxState == 2
  let b := m.boundary
  let dayKeys := (enabledRoutes m.day).flatMap (fun g =>
    if armed && m.changed.contains g && (tickAt t b || m.switched.contains g) then []
    else ((routeSources m.day g).filter (fun r => r.src == c)).map (fun r => slotKey false g r.slot))
  let eveKeys := if !armed then [] else (enabledRoutes m.eve).flatMap (fun g =>
    if !m.changed.contains g then []
    else ((routeSources m.eve g).filter (fun r => r.src == c && (tickAt t b || m.switched.contains g ||
      (s.newConv g r && tickAt (t + 64 * s.period 0 c) b)))).map (fun r => slotKey true g r.slot))
  dayKeys ++ eveKeys

/-- A sample that Saltern may use reaches it: in order, past gaps, into the capture and the skew buffers. -/
def State.deliver (s : State) (c : Nat) (x : RxSample) : State :=
  let r := s.recv c
  let n := r.next.getD x.time
  if x.time < n then s.count C.MTX_GAP
  else
    let s := if n < x.time then s.count C.MTX_GAP else s
    let r := { r with next := some (x.time + s.period 0 c), lastAt := s.now, lapsed := false }
    let s := s.withMtx { s.mtx with recv := tput s.mtx.recv c r }
    let s := s.capSample 0 c ⟨x.time, x.i, x.q, x.blank, if x.unit = 0 then [] else [x.unit]⟩
    let keys := s.skewKeys c x.time
    let s := if keys.isEmpty || x.unit = 0 then s
      else s.withMtx { s.mtx with units := tput s.mtx.units c ((tget [] s.mtx.units c).map (fun u =>
        if u.serial = x.unit then { u with fwd := true } else u)) }
    keys.foldl (fun s k => s.skewPut k x) s

/-- Units not yet confirmed against which the bound of R180 counts: a Varlas lane's of this container, an Ethernet lane's
(log entry 20). -/
def State.unconfirmed (s : State) (c : Nat) : Nat :=
  if s.varlas (c / 64) then (tget [] s.mtx.units c).length
  else ((s.mtx.units.filter (fun p => p.1 / 64 == c / 64)).map (fun p => p.2.length)).foldl (· + ·) 0

/-- A receive unit of a container begins (R177, R179, R180). -/
def State.unitOpen (s : State) (c : Nat) : State :=
  let spec := s.flag R.MTX_CTRL_SPEC_EN
  let full := 4 ≤ s.unconfirmed c
  let n := s.mtx.serial + 1
  let u : UnitRec := { serial := n, held := !spec || full }
  let s := s.withMtx { s.mtx with serial := n, units := tput s.mtx.units c (tget [] s.mtx.units c ++ [u]) }
  if spec && full then (s.setFld R.MTX_STAT_SPEC_HOLD 1 |>.count C.MTX_SPEC_HOLDC).raise 52 else s

/-- A sample of the unit being received: held with it, or delivered. -/
def State.sampleIn (s : State) (c time : Nat) (i q : Int) (blank : Bool) : State :=
  let us := tget [] s.mtx.units c
  let x : RxSample := ⟨time, if blank then 0 else i, if blank then 0 else q, blank, (us.getLast?.map (·.serial)).getD 0⟩
  match us.getLast? with
  | some u =>
    if u.held then
      s.withMtx { s.mtx with units := tput s.mtx.units c (us.dropLast ++ [{ u with samples := u.samples ++ [x] }]) }
    else s.deliver c x
  | none => s.deliver c x

/-- SOURCE_SAMPLE_ARRIVAL (R154, R165, R217, R218): the codes of a sample, with the exponent of its block in a block floating
point container; `first` of its block, `unit` the first of a receive unit. -/
def execSourceSampleArrival (c : Fin 1536) (time : Nat) (exp : BitVec 4) (i q : BitVec 16) (blank first unit : Bool) (s : State) :
    Host.Outcome State Fault Refusal :=
  if !s.live 12 || !s.laneLocked (c.val / 64) || !s.contOn 0 c.val || s.flag (R.LNE_CTRL_PRBS (c.val / 64)) then .next s
  else
    let k := s.cont 0 c.val
    let s := if unit then s.unitOpen c.val else s
    let s := if first && badExponent k exp.toNat then s.count C.SRC_FMTERR else s
    .next (s.sampleIn c.val time (unpackCode k i.toNat exp.toNat) (unpackCode k q.toNat exp.toNat) blank)

/-- SOURCE_TIMEOUT (R165): the source of a slot of a Day entry, locked and enabled, has delivered nothing for MTX_SRCTO. -/
def execSourceTimeout (g : Fin 1536) (slot : Fin 4) (s : State) : Host.Outcome State Fault Refusal :=
  let c := nbits (entryWord s.mtx.day g.val (2 + slot.val)) 10 0
  if !s.live 12 || !routeEn s.mtx.day g.val || s.srcAbsent c then .next s
  else
    let s := s.advanceTo ((s.recv c).lastAt + 1000 * s.srcTimeout)
    .next ((s.withMtx { s.mtx with recv := tmod {} s.mtx.recv c (fun r => { r with lapsed := true }) }).count C.MTX_GAP)

/-! ### Confirmation (R177 to R180, R184, R188) -/

/-- A transmit container ends its unit in a Bittern code that Saltern causes (R178, R206). -/
def State.txBittern (s : State) (g : Nat) : State :=
  let s := (s.count (C.MTX_BTN (g / 64))).raiseLimited 50
  if s.varlas (g / 64) then s.modTx g (fun c => { c with bittern := 1 })
  else
    let s := if s.laneProt (g / 64) 1 then s.count C.CIP_TXABORT else s
    s.modLane (g / 64) (fun l => { l with bittern := true })

/-- What becomes of a sample when unit `u` ends: it waits no longer; a failed one is zero with the blank-carrier flag. -/
def endTx (u : Nat) (ok : Bool) (x : TxSample) : TxSample :=
  if !x.deps.contains u then x
  else if ok then { x with deps := x.deps.filter (· != u) }
  else { x with i := 0, q := 0, blank := true, deps := x.deps.filter (· != u) }

/-- The same for a source sample. -/
def endRx (u : Nat) (ok : Bool) (x : RxSample) : RxSample :=
  if x.unit ≠ u then x else if ok then { x with unit := 0 } else { x with i := 0, q := 0, blank := true, unit := 0 }

/-- The oldest unconfirmed unit of a container is confirmed or fails. -/
def State.unitEnd (s : State) (c : Nat) (ok : Bool) : State :=
  match tget [] s.mtx.units c with
  | [] => s
  | u :: r =>
    let m := s.mtx
    let s := s.withMtx { m with units := tput m.units c r }
    if u.held then
      let used := u.samples.any (fun x => decide ((s.recv c).next.getD x.time ≤ x.time) && !(s.skewKeys c x.time).isEmpty)
      let s := u.samples.foldl (fun s x => s.deliver c (if ok then { x with unit := 0 }
        else { x with i := 0, q := 0, blank := true, unit := 0 })) s
      if ok && used then s.countWide (R.MTX_FWD (c / 64)) (R.MTX_FWD_HI (c / 64)) 1 else s
    else
      let capBad := !ok && m.capHeld.any (fun x => x.deps.contains u.serial)
      let upto := m.capHeld.takeWhile (fun x => !x.deps.contains u.serial)
      let s := s.withConvs (s.convs.map (fun (p : Nat × ConvSt) => (p.1, { p.2 with hist := p.2.hist.map (endRx u.serial ok) })))
      let skew := s.mtx.skew.map (fun (p : Nat × List RxSample) => (p.1, p.2.map (endRx u.serial ok)))
      let conts := s.mtx.conts.map (fun (p : Nat × TxCont) => (p.1, { p.2 with out := p.2.out.map (endTx u.serial ok) }))
      let lines := s.mtx.lines.map (fun (p : Nat × LineSt) =>
        (p.1, { p.2 with ents := p.2.ents.map (fun (e : LineEnt) => { e with smp := endTx u.serial ok e.smp }) }))
      let held := if capBad then upto else s.mtx.capHeld.map (endTx u.serial ok)
      let s : State := s.withMtx { s.mtx with skew := skew, conts := conts, lines := lines, capHeld := held }
      let s := s.settleLines
      let s := if capBad then (if s.capFlush.fld R.MTX_CAP_STAT_STATE ≠ 0 then s.capFlush.capStop 2 else s.capFlush) else s.capFlush
      if ok then (if u.fwd then s.countWide (R.MTX_FWD (c / 64)) (R.MTX_FWD_HI (c / 64)) 1 else s)
      else u.tx.foldl (fun s g => s.txBittern g) s

/-- Every unconfirmed unit of a container fails. -/
def State.unitFailAll (s : State) (c : Nat) : State := (tget [] s.mtx.units c).foldl (fun s _ => s.unitEnd c false) s

/-- The containers of a lane that hold unconfirmed units. -/
def State.openUnits (s : State) (n : Nat) : List Nat :=
  (s.mtx.units.filter (fun p => p.1 / 64 == n && !p.2.isEmpty)).map (·.1)

/-! ### The commit (R157, R158, R167 to R176) -/

/-- The first failing check of an enabled Eve entry (R170): its RESULT, 0 when it passes. `before` are the enabled entries
with a smaller number, `rate` what they delay in units of 0.01 Msps. -/
def State.checkEntry (s : State) (before : List Nat) (rate g : Nat) : Nat :=
  let e := s.mtx.eve
  let w0 := entryWord e g 0
  let w1 := entryWord e g 1
  let srcs := routeSources e g
  let out := (s.cont 1 g).rate
  let convBad := fun (r : RouteSrc) => match r.conv with
    | none => false
    | some k =>
      let c := s.conv k
      let w := c.act.toNat
      k > 255 || !c.en || nbit w 29 || progIn w != (s.cont 0 r.src).rate || progOut w != out || 1 < (convUses e k).length ||
        (convUses s.mtx.day k).any (fun u => u.1 != g || u.2.src != r.src)
  let p := ratePeriod out
  let d := nbits w0 17 0
  let line := nbits w1 8 0
  let lineOf := fun tab h => nbit (entryWord tab h 0) 27 && nbits (entryWord tab h 1) 8 0 == line
  let dly := nbit w0 27
  let dlyBad := !s.flag R.MTX_DLY_CTRL_EN || d < (6144 + 5 * p - 1) / (5 * p) || (245760 + p - 1) / p < d || 383 < line ||
    before.any (lineOf e) || ((enabledRoutes e).any (fun h => g < h && lineOf e h)) ||
    ((enabledRoutes s.mtx.day).any (fun h => h != g && lineOf s.mtx.day h)) ||
    s.dmcSize < s.fld R.MTX_DLY_BASE_BASE * 2 ^ 20 + (line + 1) * 2 ^ 21 || 50000 < rate + 384 * 2 ^ out
  let used := srcs.map (fun r => entryWord e g (2 + r.slot))
  if !s.contOn 1 g then 2
  else if srcs.any (fun r => 1535 < r.src || !s.contOn 0 r.src) then 3
  else if srcs.any (fun r => r.conv.isNone && (s.cont 0 r.src).rate != out) then 4
  else if srcs.any convBad then 5
  else if srcs.any (fun r => 1440 < r.gain) then 6
  else if dly && dlyBad then 7
  else if nbit w0 30 || nbits w0 26 18 != 0 || nbits w1 31 9 != 0 || used.any (fun w => nbit w 31) ||
    (List.range 4).any (fun k => nbit (entryWord e g (2 + k)) 31) || entryWord e g 6 != 0 || entryWord e g 7 != 0 then 8
  else 0

/-- The first failing entry of the Eve table and its RESULT. -/
def State.checkEve (s : State) : List Nat → List Nat → Nat → Option (Nat × Nat)
  | [], _, _ => none
  | g :: r, before, rate =>
    let k := s.checkEntry before rate g
    if k ≠ 0 then some (g, k)
    else
      let add := if nbit (entryWord s.mtx.eve g 0) 27 then 384 * 2 ^ (s.cont 1 g).rate else 0
      s.checkEve r (g :: before) (rate + add)

/-- VALIDATION_DONE (R170, R174): the Eve table is refused, or the commit is armed; sources that have already delivered
warm-up samples are counted in MTX_COLD. A commit that changes no entry completes at once. -/
def execValidationDone (s : State) : Host.Outcome State Fault Refusal :=
  if !s.live 12 || s.mtxState ≠ 1 then .next s
  else
    match s.checkEve (enabledRoutes s.mtx.eve) [] 0 with
    | some (g, k) => .next (((s.setFld R.MTX_COMMIT_STAT_ERR_ENTRY g).count C.MTX_REFUSED).mtxCancel k)
    | none =>
      let s := s.setFld R.MTX_COMMIT_STAT_STATE 2
      let new := (s.mtx.changed.filter (routeEn s.mtx.eve)).flatMap (fun g =>
        ((routeSources s.mtx.eve g).filter (s.newConv g)))
      let cold := new.filter (fun r => match (s.recv r.src).next with
        | some n => tickAt (n + 63 * s.period 0 r.src) s.mtx.boundary
        | none => false)
      let s := new.foldl (fun s r => match r.conv with
        | some k => s.modConv k (fun c => { c with hist := [] })
        | none => s) s
      let s := if cold.isEmpty then s else s.countN C.MTX_COLD cold.length
      .next (if s.mtx.changed.isEmpty then s.mtxComplete 0 else s)

/-- ARMING_POINT (R171): Calends reaches B − MTX_ADV − 20 µs. -/
def execArmingPoint (s : State) : Host.Outcome State Fault Refusal :=
  if s.live 12 && s.live 1 && s.mtxState ≠ 0 then .next (s.advance (s.nsUntil ((s.mtx.boundary - s.mtxAdv - 20000) * calUnit)))
  else .next s

/-- SWITCH_WINDOW_EXPIRY (R176): Calends reaches B + MTX_SWWIN; containers that have not switched are forced. -/
def execSwitchWindowExpiry (s : State) : Host.Outcome State Fault Refusal :=
  if s.live 12 && s.live 1 && s.mtxState = 2 then
    let s := s.advance (s.nsUntil ((s.mtx.boundary + s.switchWindow) * calUnit))
    .next (if s.mtxState = 2 then s.mtxComplete (s.mtx.changed.filter (fun g => !s.mtx.switched.contains g)).length else s)
  else .next s

/-- A GO that is ignored (R158, R168). -/
def State.goRejected (s : State) : State := (s.setFld R.MTX_STAT_GO_REJ 1).raise 49

/-- GO (R168): the boundary is fixed and validation starts; LATE, or the GO is ignored. -/
def State.mtxGo (s : State) : State :=
  let cls := s.fld R.MTX_COMMIT_CLASS
  if s.mtxState ≠ 0 || s.flag R.MTX_STAT_EVE_BUSY || cls = 3 then s.goRejected
  else
    let p := boundaryPeriod cls (s.fld R.MTX_COMMIT_MU)
    let lead := s.calNow + 30000 + s.mtxAdv
    let at_ := s.flag R.MTX_COMMIT_AT
    let req := (s.calSec / 2 ^ 32 * 2 ^ 32 + s.regN R.MTX_CTIME_SEC) * 1000000000 + s.fld R.MTX_CTIME_NS_NS
    let b := s.nextBoundary p (if at_ then req else lead)
    if at_ && b < lead then (s.setFld R.MTX_COMMIT_STAT_RESULT 1).raise 49
    else
      let s := (s.setRegN R.MTX_TARGET_NS (b % 1000000000)).setRegN R.MTX_TARGET_SEC (b / 1000000000)
      let s := s.withMtx { s.mtx with boundary := b, changed := changedEntries s.mtx.day s.mtx.eve, switched := [] }
      s.setFld R.MTX_COMMIT_STAT_STATE 1

/-- ABORT (R171): before the arming point it cancels, from then on ABORT_LATE; without a commit it does nothing. -/
def State.mtxAbort (s : State) : State :=
  if s.mtxState = 0 then s
  else if s.calNow + s.mtxAdv + 20000 < s.mtx.boundary then s.mtxCancel 9
  else s.setFld R.MTX_STAT_ABORT_LATE 1

/-- COPY (R158). -/
def State.mtxCopy (s : State) : State :=
  if s.mtxState = 0 then s.setFld R.MTX_STAT_EVE_BUSY 1 else s.setFld R.MTX_STAT_GO_REJ 1

/-- The change marker of the Eve table moves on (R531). -/
def State.eveChanged (s : State) : State := s.withNq { s.nq with eveMark := s.nq.eveMark + 1 }

/-- COPY_DONE (R158): the Eve table holds the Day table. -/
def execCopyDone (s : State) : Host.Outcome State Fault Refusal :=
  if s.live 12 && s.flag R.MTX_STAT_EVE_BUSY && s.nq.eveImage.isNone then
    .next ((s.withMtx { s.mtx with eve := s.mtx.day }).eveChanged.setFld R.MTX_STAT_EVE_BUSY 0)
  else .next s

/-- Whether the Eve table takes writes (R157). -/
def State.eveOpen (s : State) : Bool := s.mtxState == 0 && !s.flag R.MTX_STAT_EVE_BUSY

/-! ### Registers of MTX -/

/-- What writes to MTX_ registers do beyond their fields. -/
def mtxWrite (_rid : Rid) (a : Nat) (data old : Word) (s : State) : State :=
  let idle := s.mtxState = 0
  let delayed := (enabledRoutes s.mtx.day).any (fun g => nbit (entryWord s.mtx.day g 0) 27)
  if a = R.MTX_COMMIT then
    let go := s.flag R.MTX_COMMIT_GO
    let abort := s.flag R.MTX_COMMIT_ABORT
    let copy := s.flag R.MTX_COMMIT_COPY
    let s := s.setRegN a (nput (s.regN a) 2 0 0)
    let s := if abort then s.mtxAbort else s
    let s := if copy then s.mtxCopy else s
    if go then s.mtxGo else s
  else if a = R.MTX_FOFS then (if idle then s else s.setReg a old)
  else if a = R.MTX_ADV then (if idle then s.setRegN a (min 1000 (s.regN a)) else s.setReg a old)
  else if a = R.MTX_SWWIN then (if idle then s.setRegN a (max 10 (min 10000 (s.regN a))) else s.setReg a old)
  else if a = R.MTX_SRCTO then s.setRegN a s.srcTimeout
  else if a = R.MTX_DLY_BASE || a = R.MTX_DLY_CTRL then (if delayed then s.setReg a old else s)
  else if a = R.MTX_DAYRD_SEL then
    let g := s.fld R.MTX_DAYRD_SEL_ENTRY
    (List.range 8).foldl (fun s k => s.setRegN (R.MTX_DAYRD_W k) (if g < 1536 then entryWord s.mtx.day g k else 0)) s
  else if a = R.MTX_CAP_CTRL then
    if s.flag R.MTX_CAP_CTRL_GO then (s.setFld R.MTX_CAP_CTRL_GO 0).capStart else s
  else if R.MTX_EVE 0 ≤ a ∧ a < R.MTX_EVE 12288 then
    let s := s.setReg a old
    if s.eveOpen then (s.withMtx { s.mtx with eve := tset 0 s.mtx.eve ((a - R.MTX_EVE 0) / 4) data }).eveChanged
    else ((s.setFld R.MTX_STAT_EVE_WR_REJ 1).raise 54).errResp
  else s

/-- Reads of the Eve window (R155). -/
def mtxRead (_rid : Rid) (a : Nat) (s : State) : Word × State :=
  if R.MTX_EVE 0 ≤ a ∧ a < R.MTX_EVE 12288 then (tget 0 s.mtx.eve ((a - R.MTX_EVE 0) / 4), s) else (s.reg a, s)

end Sys2Proof.Machine
end

