-- ==== Sys2Proof/Machine/Rate.lean ====
section
/-! DEFINITION. Programming the rate converters (R221 to R229): staging, commits, the stall limit, and the test port. -/

namespace Sys2Proof.Machine

/-! ### Stalls (R225 to R227) -/

/-- SRC_STALL in µs within its bounds. -/
def State.stallLimit (s : State) : Nat := max 10 (min 1000000 (s.fld R.SRC_STALL_US))

/-- CONVERTER_STALL_LIMIT (R227): a converter has stayed stalled for SRC_STALL with a commit pending; it is forced. -/
def execConverterStallLimit (n : Fin 256) (s : State) : Host.Outcome State Fault Refusal :=
  let c := s.conv n.val
  match s.live 13 && c.pend ≠ 0 && !c.held, c.stalledAt with
  | true, some t =>
    let s := s.advanceTo (t + 1000 * s.stallLimit)
    .next (if s.convStalled n.val then s.convForce n.val else s)
  | _, _ => .next s

/-- CONVERTER_UNSTALL (R225): a stalled converter with a pending commit has its input; the output in progress is finished
under the old program as its transmit sample is formed, and the switch follows. -/
def execConverterUnstall (n : Fin 256) (s : State) : Host.Outcome State Fault Refusal :=
  let c := s.conv n.val
  if !s.live 13 || !s.live 12 || c.pend = 0 || c.held || c.stalledAt.isNone || s.convStalled n.val then .next s
  else
    match convUses s.mtx.day n.val with
    | (g, _) :: _ => .next ((s.formSample g).getD s)
    | [] => .next s

/-! ### The test port (R229) -/

/-- A sample of a test window: I in [31:16], Q in [15:0], full scale ±2¹⁵. -/
def testIn (w : Nat) : Int × Int := (sgn 16 (w / 65536) * 32, sgn 16 w * 32)

/-- A sample for the output window. -/
def testOut (x : Int × Int) : Nat := capCode x.1 * 65536 + capCode x.2

/-- The history of a test after input `n`, latest first. -/
def testHist (xs : List (Int × Int)) (n : Nat) : List (Int × Int) := (xs.take (n + 1)).reverse.take 64

/-- Put one test output. -/
def State.testPut (s : State) (x : Int × Int) : State :=
  let j := s.fld R.SRC_TEST_STAT_OUTCNT
  (s.setRegN (R.SRC_TOUT j) (testOut x)).setFld R.SRC_TEST_STAT_OUTCNT (j + 1)

/-- The outputs of a program with fixed ratio for input `n`: one for each output time of that input. -/
def State.testFixed (s : State) (c : ConvSt) (xs : List (Int × Int)) (n : Nat) : State :=
  let w := c.act.toNat
  let up := 2 ^ (progOut w - progIn w)
  let down := 2 ^ (progIn w - progOut w)
  if n % down ≠ 0 then s
  else (List.range up).foldl (fun s p =>
    let y := s.convSat (c.fir (p % progPhases w) (testHist xs n))
    y.2.testPut y.1) s

/-- One output of a program with ARB = 1 at position `pos`, in 2⁻²⁴ input samples: linear between adjacent phases. Past the
last phase the spec gives no interpolation: a free value. -/
def State.testArb (s : State) (c : ConvSt) (xs : List (Int × Int)) (pos : Nat) : State :=
  let ph := progPhases c.act.toNat
  let n := pos / 2 ^ 24
  let f := pos % 2 ^ 24 * ph
  let p := f / 2 ^ 24
  let mu := f % 2 ^ 24
  if mu ≠ 0 && ph ≤ p + 1 then
    let got := s.draw
    let v := got.1
    let s := got.2
    let j := s.fld R.SRC_TEST_STAT_OUTCNT
    (s.setRegN (R.SRC_TOUT j) v).setFld R.SRC_TEST_STAT_OUTCNT (j + 1)
  else
    let h := testHist xs n
    let a := c.fir p h
    let b := if mu = 0 then a else c.fir (p + 1) h
    let mix := fun (x y : Int) => roundAway (x * (2 ^ 24 - mu : Nat) + y * mu) (2 ^ 24)
    let y := s.convSat (mix a.1 b.1, mix a.2 b.2)
    y.2.testPut y.1

/-- GO of the test port: COUNT input samples from zero history through the active program. -/
def State.testRun (s : State) (k : Nat) : State :=
  let c := s.conv k
  let n := max 1 (min 256 (s.fld R.SRC_TEST_CTRL_COUNT))
  let xs := (List.range n).map (fun j => testIn (s.regN (R.SRC_TIN j)))
  let s := s.setFld R.SRC_TEST_STAT_OUTCNT 0
  if nbit c.act.toNat 29 then
    let step := max (2 ^ 21) (min (2 ^ 27) c.actStep.toNat)
    ((List.range ((n * 2 ^ 24 + step - 1) / step)).take 2048).foldl (fun s m => s.testArb c xs (m * step)) s
  else (List.range n).foldl (fun s j => s.testFixed c xs j) s

/-! ### Registers of SRC -/

/-- The selected converter. -/
def State.csel (s : State) : Nat := s.fld R.SRC_CSEL_SEL

/-- A commit or configuration of the selected converter is refused. -/
def State.convRej (s : State) : State := s.modConv s.csel (fun c => { c with rej := true })

/-- A write to the staging bank: refused with an error response while a commit is pending (R224). -/
def State.stage (s : State) (f : ConvSt → ConvSt) : State :=
  if (s.conv s.csel).pend ≠ 0 then s.convRej.errResp else s.modConv s.csel f

/-- What writes to SRC_ registers do beyond their fields (R224 to R229). -/
def srcWrite (_rid : Rid) (a : Nat) (data old : Word) (s : State) : State :=
  let k := s.csel
  let inDay := !(convUses s.mtx.day k).isEmpty
  if a = R.SRC_STALL then s.setRegN a s.stallLimit
  else if a = R.SRC_PROG_STG then
    let w := s.reg a
    (s.setReg a old).stage (fun c => { c with stg := w })
  else if a = R.SRC_STEP_STG then (s.setReg a old).stage (fun c => { c with stgStep := data })
  else if R.SRC_COEF_STG 0 ≤ a ∧ a < R.SRC_COEF_STG 1024 then
    (s.setReg a old).stage (fun c => { c with stgCoef := tset 0 c.stgCoef ((a - R.SRC_COEF_STG 0) / 4) (data.setWidth 18) })
  else if R.SRC_COEF_ACT 0 ≤ a ∧ a < R.SRC_COEF_ACT 1024 then s.convRej.errResp
  else if a = R.SRC_CMT then
    let force := s.flag R.SRC_CMT_FORCE
    let req := s.flag R.SRC_CMT_REQ
    let s := s.setRegN a 0
    if force then s.convRequest k 2 else if req then s.convRequest k 1 else s
  else if a = R.SRC_CVSTAT then
    s.modConv k (fun c => { c with trunc := c.trunc && !nbit data.toNat 8, rej := c.rej && !nbit data.toNat 7 })
  else if a = R.SRC_CVCTRL then
    let en := nbit data.toNat 0
    let s := s.setReg a old
    if !en && inDay then s.convRej else s.modConv k (fun c => { c with en := en })
  else if a = R.SRC_TEST_CTRL && s.flag R.SRC_TEST_CTRL_GO then
    let s := s.setFld R.SRC_TEST_CTRL_GO 0
    if (s.conv k).en && !inDay then s.testRun k else s.convRej
  else s

/-- Reads of SRC_ registers that show the selected converter. -/
def srcRead (_rid : Rid) (a : Nat) (s : State) : Word × State :=
  let c := s.conv s.csel
  if a = R.SRC_PROG_STG then (c.stg, s)
  else if a = R.SRC_STEP_STG then (c.stgStep, s)
  else if a = R.SRC_PROG_ACT then (c.act, s)
  else if a = R.SRC_STEP_ACT then (c.actStep, s)
  else if R.SRC_COEF_STG 0 ≤ a ∧ a < R.SRC_COEF_STG 1024 then ((tget 0 c.stgCoef ((a - R.SRC_COEF_STG 0) / 4)).setWidth 32, s)
  else if R.SRC_COEF_ACT 0 ≤ a ∧ a < R.SRC_COEF_ACT 1024 then ((tget 0 c.actCoef ((a - R.SRC_COEF_ACT 0) / 4)).setWidth 32, s)
  else if a = R.SRC_CVCTRL then (BitVec.ofNat 32 (b2n c.en), s)
  else if a = R.SRC_CVSTAT then
    let inDay := !(convUses s.mtx.day s.csel).isEmpty
    (BitVec.ofNat 32 (b2n c.en * 2 ^ 31 + b2n (c.pend != 0) * 2 ^ 30 + b2n (inDay && s.convStalled s.csel) * 2 ^ 29 +
      b2n c.held * 2 ^ 28 + b2n inDay * 2 ^ 27 + b2n c.trunc * 2 ^ 8 + b2n c.rej * 2 ^ 7 + c.disc % 128), s)
  else (s.reg a, s)

end Sys2Proof.Machine
end

