-- ==== Sys2Proof/Machine/Automata.lean ====
section
/-! DEFINITION. The Crystallizer engines (R256 to R263): programs and their banks, messages and reports, and commits. -/

namespace Sys2Proof.Machine

/-! ### Engines -/

/-- An engine. -/
def State.eng (s : State) (n : Nat) : AutSt := tget {} s.aut n

/-- Change an engine. -/
def State.modEng (s : State) (n : Nat) (f : AutSt → AutSt) : State := s.withAut (tmod {} s.aut n f)

/-- Whether an engine is enabled. -/
def State.engOn (s : State) (n : Nat) : Bool := s.live 11 && s.flag (R.AUT_ECFG_EN n)

/-- The active or the staging bank. -/
def AutSt.bank (e : AutSt) (active : Bool) : List (Nat × Word) := if active == e.active1 then e.bank1 else e.bank0

/-- The active or the staging class map. -/
def AutSt.cmap (e : AutSt) (active : Bool) : List (Nat × Word) := if active == e.active1 then e.map1 else e.map0

/-- Set a word of the staging bank. -/
def AutSt.putBank (e : AutSt) (w : Nat) (v : Word) : AutSt :=
  if e.active1 then { e with bank0 := tset 0 e.bank0 w v } else { e with bank1 := tset 0 e.bank1 w v }

/-- Set a word of the staging class map. -/
def AutSt.putMap (e : AutSt) (w : Nat) (v : Word) : AutSt :=
  if e.active1 then { e with map0 := tset 0 e.map0 w v } else { e with map1 := tset 0 e.map1 w v }

/-- The record of a state (R256). -/
def AutSt.record (e : AutSt) (active : Bool) (st : Nat) : Nat := (tget 0 (e.bank active) st).toNat

/-- The entry of a row for a class (R256): two to a word, little-endian. -/
def AutSt.row (e : AutSt) (active : Bool) (r c : Nat) : Nat :=
  let w := (tget 0 (e.bank active) (0x4000 + 32 * r + c / 2)).toNat
  if c % 2 = 0 then w % 65536 else w / 65536

/-- The class of a byte value (R256). -/
def AutSt.cls (e : AutSt) (active : Bool) (b : Nat) : Nat :=
  let w := (tget 0 (e.cmap active) (b / 4)).toNat
  nbits w (8 * (b % 4) + 5) (8 * (b % 4))

/-- The state a byte leads to (R257). -/
def AutSt.move (e : AutSt) (b : Byte) : Nat :=
  nbits (e.row true (nbits (e.record true e.state) 10 0) (e.cls true b.toNat)) 13 0

/-! ### Input (R258) -/

/-- The engine whose source is a given Harvest sub-channel (slot number n × 8 + j), or the classifier stream. -/
def State.engTaps (s : State) (n slot : Nat) : Bool :=
  s.engOn n && !s.flag (R.AUT_ECFG_CLS n) && s.fld (R.AUT_ECFG_SLOT n) == slot

/-- Change the message an engine now receives. -/
def AutSt.modLast (e : AutSt) (f : AutMsg → AutMsg) : AutSt :=
  match e.msgs.getLast? with
  | some m => { e with msgs := e.msgs.dropLast ++ [f m] }
  | none => e

/-- Bytes that wait in the input queue. -/
def AutSt.queued (e : AutSt) : Nat := (e.inq.map (fun w => w.bytes.length)).foldl (· + ·) 0

/-- A word of a message enters the input queue, the first word opening the message; one that finds no room cuts the message
off, which the engine takes as its end. -/
def AutSt.feed (e : AutSt) (bytes : List Byte) (start fin : Bool) (stamp : Nat) : AutSt :=
  let e := if start then
      let e := e.modLast (fun m => if m.fin then m else { m with fin := true, done := true, outcome := 2 })
      { e with msgs := e.msgs ++ [{ no := e.nextNo, stamp := stamp }], nextNo := (e.nextNo + 1) % 65536 }
    else e
  match e.msgs.getLast? with
  | none => e
  | some m =>
    if m.fin then e
    else if m.cut then e.modLast (fun m => { m with fin := fin, fresh := true })
    else if 4096 < e.queued + bytes.length then
      AutSt.modLast { e with inq := e.inq ++ [⟨[], m.no, start, true⟩] } (fun m => { m with cut := true, fin := fin, fresh := true })
    else
      AutSt.modLast { e with inq := e.inq ++ [⟨bytes, m.no, start, fin⟩] } (fun m => { m with fin := fin, fresh := true })

/-- A whole message enters the queue, in words of 8 bytes. -/
def AutSt.feedAll : Nat → AutSt → List Byte → Bool → Nat → AutSt
  | 0, e, _, _, _ => e
  | k + 1, e, bs, start, stamp =>
    let rest := bs.drop 8
    let e := e.feed (bs.take 8) start rest.isEmpty stamp
    if rest.isEmpty then e else AutSt.feedAll k e rest false stamp

/-- The outcome of the message an engine received last, or of its open part: confirmed when all of it has come, or failed
(R259). A message that was cut counts in AUT_INDROP once it is confirmed (R247, R258). -/
def State.engOutcome (s : State) (n : Nat) (ok : Bool) : State :=
  match (s.eng n).msgs.getLast? with
  | none => s
  | some m =>
    if m.outcome ≠ 0 || !m.fresh then s
    else
      let o := if !ok then 2 else if m.fin then 1 else 0
      let s := s.modEng n (fun e => e.modLast (fun m => { m with fresh := false, outcome := o }))
      if o = 1 && m.cut then s.count (C.AUT_INDROP n) else s

/-- A word of a Harvest sub-channel passes the taps of the engines that follow it. -/
def State.engTapWord (s : State) (slot : Nat) (bytes : List Byte) (start fin : Bool) (stamp : Nat) : State :=
  (List.range 8).foldl (fun s n => if s.engTaps n slot then s.modEng n (fun e => e.feed bytes start fin stamp) else s) s

/-- The units of a Harvest sub-channel that came since the last confirmation are confirmed or fail. -/
def State.engTapEnd (s : State) (slot : Nat) (ok : Bool) : State :=
  (List.range 8).foldl (fun s n => if s.engTaps n slot then s.engOutcome n ok else s) s

/-- A whole confirmed message of a Harvest sub-channel passes the taps. -/
def State.engTapMsg (s : State) (slot : Nat) (bytes : List Byte) (stamp : Nat) : State :=
  (List.range 8).foldl (fun s n =>
    if s.engTaps n slot then (s.modEng n (fun e => e.feedAll (bytes.length / 8 + 2) bytes true stamp)).engOutcome n true
    else s) s

/-- A copy of a frame goes to an engine whose source is the classifier stream (R245). -/
def State.engFrame (s : State) (n : Nat) (bytes : List Byte) (stamp : Nat) : State :=
  if s.engOn n && s.flag (R.AUT_ECFG_CLS n) then s.modEng n (fun e => e.feedAll (bytes.length / 8 + 2) bytes true stamp) else s

/-! ### Scanning (R257, R259) -/

/-- The banks and the programs are exchanged (R261). -/
def State.engSwap (s : State) (n : Nat) : State :=
  let stg := s.reg (R.AUT_PROG_STG n)
  let act := s.reg (R.AUT_PROG_ACT n)
  let s := (s.setReg (R.AUT_PROG_STG n) act).setReg (R.AUT_PROG_ACT n) stg
  let s := s.setFld (R.AUT_CMSTAT_PEND n) 0
  (s.modEng n (fun e => { e with active1 := !e.active1, pend := 0, validated := false })).raise 70

/-- A validated commit switches at a word boundary: within a message the rest goes on from the new START, and MIDMSG is set
(R261). -/
def State.engBoundary (s : State) (n : Nat) : State :=
  let e := s.eng n
  if !e.validated then s
  else
    let mid := e.inMsg
    let s := s.engSwap n
    if mid then
      (s.setFld (R.AUT_CMSTAT_MIDMSG n) 1).modEng n (fun e => { e with state := s.fld (R.AUT_PROG_ACT_START n) })
    else s

/-- The messages once the last word of one has been consumed. -/
def AutSt.consumed (e : AutSt) (fin : Bool) (no : Nat) : List AutMsg :=
  e.msgs.map (fun (m : AutMsg) => if fin && m.no == no then { m with done := true } else m)

/-- The bytes of the shift register are consumed one by one; before a byte whose report has no room the engine stalls. -/
def State.engRun (n : Nat) : Nat → State → State
  | 0, s => s
  | k + 1, s =>
    let e := s.eng n
    match e.shift with
    | [] =>
      let s := s.modEng n (fun e => { e with inMsg := !e.cur.fin, msgs := e.consumed e.cur.fin e.cur.no })
      s.engBoundary n
    | b :: r =>
      let st := e.move b
      let rec_ := e.record true st
      if nbit rec_ 31 && 64 ≤ e.heldReports.length + e.posted.length then
        let s := (s.modEng n (fun e => { e with stalledAt := some s.now })).setFld (R.AUT_CMSTAT_STALLED n) 1
        (s.count (C.AUT_RPTOVF n)).raise 69
      else
        let stamp := ((e.msgs.find? (fun m => m.no == e.cur.no)).map (·.stamp)).getD 0
        let rep : AutReport := ⟨st, nbits rec_ 30 23, e.offset + 1, e.cur.no, stamp⟩
        let s := s.modEng n (fun e => { e with state := st, offset := e.offset + 1, shift := r,
                                               heldReports := if nbit rec_ 31 then e.heldReports ++ [rep] else e.heldReports })
        State.engRun n k s

/-- ENGINE_WORD (R257): the engine takes the next word of its input queue. -/
def execEngineWord (n : Fin 8) (s : State) : Host.Outcome State Fault Refusal :=
  let e := s.eng n.val
  match s.engOn n.val && e.stalledAt.isNone, e.inq with
  | true, w :: r =>
    let s := s.modEng n.val (fun e => { e with inq := r })
    if e.skip = some w.no then
      .next (s.modEng n.val (fun e => { e with skip := if w.fin then none else e.skip, msgs := e.consumed w.fin w.no }))
    else
      let start := s.fld (R.AUT_PROG_ACT_START n.val)
      let s := s.modEng n.val (fun e =>
        { e with cur := w, shift := w.bytes, inMsg := true, state := if w.start then start else e.state,
                 offset := if w.start then 0 else e.offset })
      .next (s.engRun n.val 10)
  | _, _ => .next s

/-- ENGINE_UNSTALL (R259, R261): the report queue has room again, and the engine finishes its word. -/
def execEngineUnstall (n : Fin 8) (s : State) : Host.Outcome State Fault Refusal :=
  let e := s.eng n.val
  if !s.engOn n.val || e.stalledAt.isNone || 64 ≤ e.heldReports.length + e.posted.length then .next s
  else
    let s := (s.modEng n.val (fun e => { e with stalledAt := none })).setFld (R.AUT_CMSTAT_STALLED n.val) 0
    .next (s.engRun n.val 10)

/-! ### Reports (R259) -/

/-- ENGINE_REPORT_POSTED: the held reports of messages whose outcome is known are posted or discarded, with those of a message
that is gone; a message that is
consumed and whose outcome is known is forgotten. -/
def execEngineReportPosted (n : Fin 8) (s : State) : Host.Outcome State Fault Refusal :=
  if !s.live 11 then .next s
  else
    let e := s.eng n.val
    let outcome := fun (r : AutReport) => ((e.msgs.find? (fun m => m.no == r.msg)).map (·.outcome)).getD 2
    let good := e.heldReports.filter (fun r => outcome r == 1)
    let s := s.modEng n.val (fun e =>
      { e with heldReports := e.heldReports.filter (fun r => outcome r == 0), posted := e.posted ++ good,
               msgs := e.msgs.filter (fun m => !(m.done && m.outcome != 0)) })
    if good.isEmpty then .next s
    else .next ((s.setRegN (R.AUT_REPORTS n.val) (s.regN (R.AUT_REPORTS n.val) + good.length)).raise 68)

/-- A read of AUT_RPT0 pops the oldest report into the latch (chapter 09, Registers). -/
def State.reportRead (s : State) (n : Nat) : Word × State :=
  match (s.eng n).posted with
  | [] =>
    let s := s.setFld (R.AUT_RPT0_VALID n) 0
    (s.reg (R.AUT_RPT0 n), s)
  | r :: rest =>
    let s := s.modEng n (fun e => { e with posted := rest })
    let s := s.setRegN (R.AUT_RPT0 n) (2 ^ 31 + r.state % 2 ^ 14 * 2 ^ 16 + r.code % 256 * 256)
    let s := s.setRegN (R.AUT_RPT1 n) (r.offset % 65536 * 65536 + r.msg % 65536)
    let s := s.setRegN (R.AUT_RPT2 n) (r.stamp % 2 ^ 30)
    (s.reg (R.AUT_RPT0 n), s)

/-! ### Commits (R260 to R263) -/

/-- A forced commit is made: the shift register and the rest of the message are discarded, with the reports held for it. -/
def State.engForce (s : State) (n : Nat) : State :=
  let e := s.eng n
  let disc := min 8 e.shift.length
  let mid := e.inMsg || !e.shift.isEmpty
  let s := (s.setFld (R.AUT_CMSTAT_TRUNC n) 1).setFld (R.AUT_CMSTAT_DISC n) disc
  let s := (s.count (C.AUT_FORCED n)).setFld (R.AUT_CMSTAT_STALLED n) 0
  let s := s.modEng n (fun e =>
    { e with shift := [], inMsg := false, stalledAt := none,
             skip := if mid && !e.cur.fin then some e.cur.no else e.skip,
             msgs := e.consumed (mid && e.cur.fin) e.cur.no,
             heldReports := if mid then e.heldReports.filter (fun r => r.msg != e.cur.no) else e.heldReports })
  s.engSwap n

/-- How long an engine may be stalled, in ns. -/
def State.engStall (s : State) (n : Nat) : Nat := 1000 * s.fld (R.AUT_STALL_US n)

/-- A validated commit acts as the engine's state allows: at once when it is disabled or between messages, at the end of its
word when it runs or is stalled, forced when it was asked for or the stall is too long. -/
def State.engAct (s : State) (n : Nat) : State :=
  let e := s.eng n
  if e.pend = 2 then s.engForce n
  else if !s.engOn n then s.engSwap n
  else
    match e.stalledAt with
    | some t => if t + s.engStall n < s.now then s.engForce n else s
    | none => s.engBoundary n

/-- Whether a word address lies in the rows that the states below `m` name. -/
def AutSt.rowUsed (e : AutSt) (m r : Nat) : Bool :=
  ((e.bank false).any (fun p => p.1 < m && nbits p.2.toNat 10 0 == r)) ||
    (r == 0 && ((e.bank false).filter (fun p => p.1 < m)).length < m)

/-- What is wrong with the staging program: the ERR code of R261, 0 when nothing is. -/
def AutSt.check (e : AutSt) (start m : Nat) : Nat :=
  if m = 0 || 16384 < m || m ≤ start then 1
  else
    let states := (e.bank false).filter (fun p => p.1 < m)
    if states.any (fun p => 1536 ≤ nbits p.2.toNat 10 0) then 2
    else
      let rows := (e.bank false).filter (fun p => 0x4000 ≤ p.1 && e.rowUsed m ((p.1 - 0x4000) / 32))
      if rows.any (fun p => m ≤ nbits p.2.toNat 13 0 || m ≤ nbits p.2.toNat 29 16) then 3
      else if states.any (fun p => nbits p.2.toNat 22 11 != 0) ||
          rows.any (fun p => nbits p.2.toNat 15 14 != 0 || nbits p.2.toNat 31 30 != 0) then 4
      else 0

/-- A commit is requested, or one that is pending becomes forced; one already validated acts at once. -/
def State.engRequest (s : State) (n kind : Nat) : State :=
  let e := s.eng n
  let s := (s.modEng n (fun e => { e with pend := max e.pend kind })).setFld (R.AUT_CMSTAT_PEND n) 1
  if e.pend ≠ 0 && e.validated && kind = 2 then s.engForce n
  else if e.pend = 0 then s.setFld (R.AUT_CMSTAT_ERR n) 0
  else s

/-- ENGINE_VALIDATION_DONE (R261): the staging program is accepted and switched to, or the request is refused. -/
def execEngineValidationDone (n : Fin 8) (s : State) : Host.Outcome State Fault Refusal :=
  let e := s.eng n.val
  if !s.live 11 || e.pend = 0 || e.validated then .next s
  else
    let err := e.check (s.fld (R.AUT_PROG_STG_START n.val)) (s.fld (R.AUT_PROG_STG_NSTATES n.val))
    if err = 0 then .next ((s.modEng n.val (fun e => { e with validated := true })).engAct n.val)
    else
      let s := (s.modEng n.val (fun e => { e with pend := 0 })).setFld (R.AUT_CMSTAT_PEND n.val) 0
      .next (((s.setFld (R.AUT_CMSTAT_ERR n.val) err).setFld (R.AUT_CMSTAT_REJ n.val) 1).raise 71)

/-- ENGINE_STALL_LIMIT (R263): the stall has outlasted AUT_STALL with a validated commit pending. -/
def execEngineStallLimit (n : Fin 8) (s : State) : Host.Outcome State Fault Refusal :=
  let e := s.eng n.val
  match s.engOn n.val && e.validated, e.stalledAt with
  | true, some t => .next ((s.advanceTo (t + s.engStall n.val + 1)).engForce n.val)
  | _, _ => .next s

/-! ### Registers of AUT -/

/-- The word of a bank that an address of the window at 0x8000 shows. -/
def State.bankWord (s : State) (a : Nat) : Nat := s.fld R.AUT_PAGE_PAGE * 0x2000 + (a - R.AUT_BANKW 0) / 4

/-- A write refused under R260: an error response, and REJ when a commit is pending. -/
def State.engReject (s : State) (n : Nat) (rej : Bool) : State :=
  (if rej then s.setFld (R.AUT_CMSTAT_REJ n) 1 else s).errResp

/-- What writes to AUT_ registers do beyond their fields (R258, R260 to R263). -/
def autWrite (_rid : Rid) (a : Nat) (data old : Word) (s : State) : State :=
  let sel := s.fld R.AUT_ESEL_SEL
  let pend := (s.eng sel).pend ≠ 0
  if R.AUT_BANKW 0 ≤ a then
    let s := s.setReg a old
    if s.flag R.AUT_PAGE_BANK then s.engReject sel false
    else if pend then s.engReject sel true
    else s.modEng sel (fun e => e.putBank (s.bankWord a) data)
  else if R.AUT_CMAP_ACT 0 ≤ a then s.engReject sel false
  else if R.AUT_CMAP_STG 0 ≤ a then
    let s := s.setReg a old
    if pend then s.engReject sel true
    else s.modEng sel (fun e => e.putMap ((a - R.AUT_CMAP_STG 0) / 4) (data &&& 0x3F3F3F3F#32))
  else if R.AUT_ECFG 0 ≤ a ∧ a < R.AUT_ECFG 8 then
    let n := (a - R.AUT_ECFG 0) / 0x40
    if a = R.AUT_ECFG n then
      if nbit old.toNat 31 && !s.flag (R.AUT_ECFG_EN n) then
        let s := (s.setFld (R.AUT_CMSTAT_STALLED n) 0).modEng n (fun e =>
          { e with inMsg := false, skip := none, shift := [], inq := [], msgs := [], heldReports := [], stalledAt := none })
        if (s.eng n).validated then s.engSwap n else s
      else s
    else if a = R.AUT_PROG_STG n then
      if (s.eng n).pend ≠ 0 then (s.setReg a old).engReject n true else s
    else if a = R.AUT_CMT n then
      let force := s.flag (R.AUT_CMT_FORCE n)
      let req := s.flag (R.AUT_CMT_REQ n)
      let s := s.setReg a 0
      if force then s.engRequest n 2 else if req then s.engRequest n 1 else s
    else if a = R.AUT_STALL n then s.setFld (R.AUT_STALL_US n) (max 10 (min 1000000 (s.fld (R.AUT_STALL_US n))))
    else s
  else s

/-- Reads of AUT_ registers: a report, a bank, a class map. -/
def autRead (_rid : Rid) (a : Nat) (s : State) : Word × State :=
  let e := s.eng (s.fld R.AUT_ESEL_SEL)
  if R.AUT_BANKW 0 ≤ a then (tget 0 (e.bank (s.flag R.AUT_PAGE_BANK)) (s.bankWord a), s)
  else if R.AUT_CMAP_ACT 0 ≤ a then (tget 0 (e.cmap true) ((a - R.AUT_CMAP_ACT 0) / 4), s)
  else if R.AUT_CMAP_STG 0 ≤ a then (tget 0 (e.cmap false) ((a - R.AUT_CMAP_STG 0) / 4), s)
  else
    match (List.range 8).find? (fun n => a == R.AUT_RPT0 n) with
    | some n => s.reportRead n
    | none => (s.reg a, s)

end Sys2Proof.Machine
end

