-- ==== Sys2Proof/Machine/Harvest.lean ====
section
/-! DEFINITION. Harvest (R230 to R237): companion messages between the lanes and descriptor rings in SRAM. -/

namespace Sys2Proof.Machine

/-! ### Slots -/

/-- The slot of sub-channel j of lane n: `dir` 0 receive, 1 transmit. -/
def hvsSlot (n j dir : Nat) : Nat := (n * 8 + j) * 2 + dir

/-- A slot. -/
def State.slot (s : State) (k : Nat) : HvsMsg := tget {} s.hvs k

/-- Change a slot. -/
def State.modSlot (s : State) (k : Nat) (f : HvsMsg → HvsMsg) : State := s.withHvs (tmod {} s.hvs k f)

/-- Whether a slot works: Harvest and the slot are enabled. -/
def State.slotOn (s : State) (k : Nat) : Bool := s.live 12 && s.flag R.HVS_CTRL_EN && s.flag (R.HVS_SLOT0_EN k)

/-- A slot's EN is cleared and its message abandoned, the descriptor staying owned (R237). -/
def State.slotStop (s : State) (k : Nat) : State :=
  (s.setFld (R.HVS_SLOT0_EN k) 0).modSlot k (fun _ => {})

/-- A ring or a buffer lies outside SRAM: E60 (R237). -/
def State.slotRingError (s : State) (k : Nat) : State := (s.slotStop k).raise 60

/-- An error response to an M3 access: BUSERR and E61 (R237). -/
def State.slotBusError (s : State) (k : Nat) : State := ((s.slotStop k).setFld R.HVS_STAT_BUSERR 1).raise 61

/-- Whether a run of bytes lies in SRAM. -/
def inSram (a n : Nat) : Bool := 0x10000000 ≤ a && a + n ≤ 0x10200000

/-- The address of the current descriptor. -/
def State.slotDesc (s : State) (k : Nat) : Nat := s.fld (R.HVS_SLOT1_BASE k) * 16 + 16 * s.fld (R.HVS_SLOT2_IDX k)

/-- Read the current descriptor's first two words; none when that ended the slot. -/
def State.slotFetch (s : State) (k : Nat) : Option (Nat × Nat) × State :=
  let a := s.slotDesc k
  if !inSram a 16 then (none, s.slotRingError k)
  else
    let r := s.memRead (engineRid 3) a 8
    if r.1.2 then (none, r.2.slotBusError k) else (some (leNat (slice r.1.1 0 4), leNat (slice r.1.1 4 4)), r.2)

/-- Write by master M3; an error response stops the slot. -/
def State.slotWrite (s : State) (k a : Nat) (bs : List Byte) : State :=
  let r := s.memWrite (engineRid 3) a bs
  if r.1 then r.2.slotBusError k else r.2

/-- The ring moves to its next descriptor. -/
def State.slotNext (s : State) (k : Nat) : State :=
  let size := max 2 (min 256 (s.fld (R.HVS_SLOT2_SIZE k)))
  s.setFld (R.HVS_SLOT2_IDX k) ((s.fld (R.HVS_SLOT2_IDX k) + 1) % size)

/-- A message fails: counted in FAIL, E59 (R232, R235). -/
def State.msgFail (s : State) (k : Nat) : State := (s.count (C.HVS_FAIL k)).raise 59

/-! ### Receive (R232, R235) -/

/-- A message begins: its descriptor is the current one, if it is owned. -/
def State.msgBegin (s : State) (k stamp : Nat) : State :=
  let r := s.slotFetch k
  match r.1 with
  | none => r.2
  | some (_, w1) => r.2.modSlot k (fun m => { m with active := true, bytes := [], written := 0, fin := false, stamp := stamp,
                                                     desc := nbit w1 31, counted := false })

/-- A message completes: words 2 and 3, then OWN is cleared (R234); MSGS, and E55 when IRQ is set. -/
def State.msgDone (s : State) (k w1 bytes stamp : Nat) (trunc : Bool) : State :=
  let a := s.slotDesc k
  let s := s.slotWrite k (a + 8) (leBytes 4 bytes ++ leBytes 4 stamp)
  if !s.slotOn k then s
  else
    let s := s.slotWrite k (a + 4) (leBytes 4 (nput (nput w1 31 31 0) 29 29 (b2n trunc)))
    if !s.slotOn k then s
    else
      let s := ((s.slotNext k).modSlot k (fun m => { due := m.due })).count (C.HVS_MSGS k)
      if s.flag (R.HVS_SLOT0_IRQ k) then s.raise 55 else s

/-- The bytes of a message that are confirmed are written; what overruns the capacity is dropped with E58; a message that has
ended completes. Without a descriptor it is dropped: DROP and E57. -/
def State.msgConfirm (s : State) (k : Nat) : State :=
  let m := s.slot k
  if !s.slotOn k || !m.active || (m.bytes.length ≤ m.written && !m.fin) then s
  else if !m.desc then
    let s := if m.counted then s else (s.count (C.HVS_DROP k)).raise 57
    s.modSlot k (fun m => if m.fin then { due := m.due } else { m with counted := true, written := m.bytes.length })
  else
    let r := s.slotFetch k
    match r.1 with
    | none => r.2
    | some (buf, w1) =>
      let s := r.2
      let cap := w1 % 65536
      let fit := min cap m.bytes.length
      let was := min cap m.written
      if !inSram buf fit then s.slotRingError k
      else
        let s := s.slotWrite k (buf + was) ((m.bytes.take fit).drop was)
        if !s.slotOn k then s
        else
          let s := if cap < m.bytes.length && m.written ≤ cap then s.raise 58 else s
          let s := s.modSlot k (fun m => { m with written := m.bytes.length })
          if m.fin then s.msgDone k w1 fit m.stamp (decide (cap < m.bytes.length)) else s

/-- A message with unconfirmed bytes fails with its unit: discarded whole. -/
def State.msgLost (s : State) (k : Nat) : State :=
  let m := s.slot k
  if !s.slotOn k || !m.active || (m.bytes.length ≤ m.written && !m.fin) then s
  else (s.modSlot k (fun m => { due := m.due })).msgFail k

/-- The start of the sample-time epoch a lane now receives, in ns of the second. -/
def State.epochNs (s : State) (n : Nat) : Nat :=
  ((((s.calNow : Int) - 100 * sgn 16 (s.fld (R.LNE_RXPH_PH n))) / 50000 * 50000) % 1000000000).toNat

/-- COMPANION_WORD_RECEIVED (R232): a word of sub-channel j with its flags, not yet confirmed. -/
def execCompanionWordReceived (n : Fin 24) (j : Fin 8) (start fin : Bool) (word : BitVec 64) (s : State) :
    Host.Outcome State Fault Refusal :=
  let k := hvsSlot n.val j.val 0
  let s := if s.laneLocked n.val then s.engTapWord (8 * n.val + j.val) (beBytes 8 word.toNat) start fin (s.epochNs n.val) else s
  if !s.slotOn k || !s.laneLocked n.val then .next s
  else
    let s := if start && (s.slot k).active then (s.modSlot k (fun m => { due := m.due })).msgFail k else s
    let s := if start then s.msgBegin k (s.epochNs n.val) else s
    if !(s.slot k).active then .next s
    else .next (s.modSlot k (fun m => { m with bytes := m.bytes ++ beBytes 8 word.toNat, fin := m.fin || fin }))

/-- The companion messages of a lane follow the end of its superframe (R235). -/
def State.hvsUnits (s : State) (n : Nat) (ok : Bool) : State :=
  (List.range 8).foldl (fun s j =>
    let s := s.engTapEnd (8 * n + j) ok
    if ok then s.msgConfirm (hvsSlot n j 0) else s.msgLost (hvsSlot n j 0)) s

/-- A confirmed frame that the classifier steered to sub-channel j: one message (R233). -/
def State.hvsFrame (s : State) (n j : Nat) (bytes : List Byte) (stampNs : Nat) : State :=
  let k := hvsSlot n j 0
  let s := s.engTapMsg (8 * n + j) bytes stampNs
  if !s.slotOn k then s
  else
    let s := s.msgBegin k stampNs
    if !(s.slot k).active then s
    else (s.modSlot k (fun m => { m with bytes := bytes, fin := true })).msgConfirm k

/-! ### Transmit (R233, R236) -/

/-- HARVEST_TRANSMIT: the message of the next owned descriptor is sent, or completes with ERR. -/
def execHarvestTransmit (n : Fin 24) (j : Fin 8) (s : State) : Host.Outcome State Fault Refusal :=
  let k := hvsSlot n.val j.val 1
  if !s.slotOn k || !s.laneSends n.val then .next s
  else
    let r := s.slotFetch k
    match r.1 with
    | none => .next r.2
    | some (buf, w1) =>
      let s := r.2
      let a := s.slotDesc k
      let len := w1 % 65536
      let vl := s.varlas n.val
      if !nbit w1 31 then .next s
      else if len = 0 || (vl && len % 8 ≠ 0) || (!vl && (len < 60 || 1514 < len)) then
        let s := s.slotWrite k (a + 4) (leBytes 4 (nput (nput w1 31 31 0) 30 30 1))
        .next (if s.slotOn k then s.slotNext k else s)
      else if !inSram buf len then .next (s.slotRingError k)
      else
        let q := s.memRead (engineRid 3) buf len
        if q.1.2 then .next (q.2.slotBusError k)
        else
          let s := if vl then q.2 else q.2.advanceTo (q.2.slot k).due
          let m := max 1 (s.fld (R.HVS_SLOT0_M k))
          let due := s.now + len * 800000 / (m * 128)
          let s := (if vl then s.lineRaw n.val q.1.1 else s.lineSend n.val q.1.1).modSlot k (fun h => { h with due := due })
          let s := s.laneCount n.val (C.LNE_TXUNIT n.val) (if vl then 0 else 1)
          let s := s.slotWrite k (a + 12) (leBytes 4 (if vl then s.epochNs n.val else s.calNs))
          if !s.slotOn k then .next s
          else
            let s := s.slotWrite k (a + 4) (leBytes 4 (nput w1 31 31 0))
            if !s.slotOn k then .next s
            else
              let s := (s.slotNext k).count (C.HVS_MSGS k)
              .next (if s.flag (R.HVS_SLOT0_IRQ k) then s.raise 56 else s)

/-! ### Registers of HVS -/

/-- The payload indices that enabled containers of a direction hold on a lane (R199). -/
def State.heldIndices (s : State) (n dir : Nat) : List Nat :=
  (List.range 64).flatMap (fun c =>
    let k := s.contCfg n dir c
    if k.en then (List.range (nbits k.cnt.toNat 7 0)).map (fun j => nbits k.pos.toNat 15 8 + j * nbits k.pos.toNat 7 0) else [])

/-- The payload indices of enabled companion sub-channels of a direction, but for one. -/
def State.heldCompanions (s : State) (n dir except : Nat) : List Nat :=
  ((List.range 8).filter (fun j => j != except && s.flag (R.HVS_SLOT0_EN (hvsSlot n j dir)))).map
    (fun j => s.fld (R.HVS_SLOT0_S (hvsSlot n j dir)))

/-- Whether the configuration of a slot is refused (R231). -/
def State.slotBad (s : State) (k : Nat) : Bool :=
  let n := k / 16
  let j := k / 2 % 8
  let dir := k % 2
  let m := s.fld (R.HVS_SLOT0_M k)
  let x := s.fld (R.HVS_SLOT0_S k)
  m = 0 || (s.varlas n && (253 < x || s.epochLen n < m || (s.heldIndices n dir).contains x ||
    (s.heldCompanions n dir j).contains x || (s.cipherHeld n dir).contains x))

/-- What writes to HVS_ registers do beyond their fields (R231, R237). -/
def hvsWrite (_rid : Rid) (a : Nat) (data old : Word) (s : State) : State :=
  if R.HVS_SLOT0 0 ≤ a ∧ a < R.HVS_SLOT0 384 ∧ (a - R.HVS_SLOT0 0) % 32 = 0 then
    let k := (a - R.HVS_SLOT0 0) / 32
    if nbit old.toNat 31 then
      if nbit data.toNat 31 then (s.setReg a old).setFld R.HVS_STAT_CFG_REJ 1
      else (s.setReg a old).slotStop k
    else if nbit data.toNat 31 then
      if s.slotBad k then (s.setFld (R.HVS_SLOT0_EN k) 0).setFld R.HVS_STAT_CFG_REJ 1
      else (s.setFld (R.HVS_SLOT2_IDX k) 0).modSlot k (fun _ => {})
    else s
  else s

end Sys2Proof.Machine
end

