-- ==== Sys2Proof/Machine/Lane.lean ====
section
/-! DEFINITION. Lanes (chapter 07): enabling and disabling, container configuration, block lock and superframe lock, what is
sent, and equalisation. -/

namespace Sys2Proof.Machine

/-! ### Transmitter (R193, R202) -/

/-- The transmitter starts: on a Varlas lane with IMMEDIATE timing it first measures φ. -/
def State.txStart (s : State) (n : Nat) : State :=
  let phase := s.varlas n && s.flag (R.LNE_CTRL_TXTIM n)
  s.modLane n (fun l => { l with tx := if phase then .phasing else .sending, phaseAt := s.now, bittern := false,
                                 phi := if phase then l.phi else s.regN (R.LNE_TXPH n) })

/-- REPHASE_DONE (R202): 100 µs after the measurement began, φ is set. It follows from when samples are ready on the line,
which the model does not time: a free value. -/
def execRephaseDone (n : Fin 24) (s : State) : Host.Outcome State Fault Refusal :=
  if !s.live (laneDomain n.val) || (s.lane n.val).tx != .phasing then .next s
  else
    let s := s.advanceTo ((s.lane n.val).phaseAt + 100000)
    let got := s.drawIn 0 65535
    let v := got.1
    let s := got.2
    .next ((s.setRegN (R.LNE_TXPH_MEAS n.val) v.toNat).modLane n.val (fun l => { l with tx := .sending, phi := v.toNat }))

/-! ### Locks (R208 to R211) -/

/-- Whether a lane's receiver works: up, enabled, and not checking a test pattern (R193, R213). -/
def State.receives (s : State) (n : Nat) : Bool :=
  s.live (laneDomain n) && s.flag (R.LNE_CTRL_EN n) && !s.flag (R.LNE_CTRL_PRBS n)

/-- Every unconfirmed unit of a lane fails, and the frame being received with it; each counts in LNE_RXFAIL. -/
def State.laneFailUnits (s : State) (n : Nat) : State :=
  let open_ := s.openUnits n
  let k := (open_.map (fun c => (tget [] s.mtx.units c).length)).foldl (· + ·) 0
  let frame := b2n ((s.lane n).rx.isSome && !s.varlas n && k = 0)
  let s := open_.foldl State.unitFailAll s
  let s := s.hvsUnits n false
  (s.modLane n (fun l => { l with rx := none })).laneCount n (C.LNE_RXFAIL n) (k + frame)

/-- Superframe lock ends (R210, R211): SF_CHG, and the search begins again. -/
def State.sfLost (s : State) (n : Nat) : State :=
  if !s.flag (R.LNE_STAT_SF_LOCK n) then s.modLane n (fun l => { l with cands := [] })
  else
    let s := (s.setFld (R.LNE_STAT_SF_LOCK n) 0).laneEvent n 1
    let s := (s.laneFailUnits n).laneCount n (C.LNE_SFLOSS n) 1
    (s.modLane n (fun l => { l with cands := [], badRun := 0 })).capLost n

/-- Block lock ends (R208, R104): superframe lock with it, unconfirmed units fail, CAL_DONE clears. -/
def State.blockLost (s : State) (n : Nat) : State :=
  if !s.flag (R.LNE_STAT_BLOCK_LOCK n) then s
  else
    let s := (s.setFld (R.LNE_STAT_BLOCK_LOCK n) 0).laneEvent n 0
    let s := s.sfLost n
    let s := (s.laneFailUnits n).laneCount n (C.LNE_BLKLOSS n) 1
    let s := s.capLost n
    if s.live 1 then s.setFld (R.PTP_PSTAT_CAL_DONE n) 0 else s

/-- BLOCK_LOCK: 64 consecutive valid sync headers. -/
def execBlockLock (n : Fin 24) (s : State) : Host.Outcome State Fault Refusal :=
  if !s.receives n.val || s.flag (R.LNE_STAT_BLOCK_LOCK n.val) then .next s
  else
    let s := (s.setFld (R.LNE_STAT_BLOCK_LOCK n.val) 1).setFld (R.LNE_STAT_HI_BER n.val) 0
    .next ((s.laneEvent n.val 0).modLane n.val (fun l => { l with cands := [], badRun := 0 }))

/-- BLOCK_LOCK_LOSS, with the high bit-error-rate state entered or not. -/
def execBlockLockLoss (n : Fin 24) (hiBer : Bool) (s : State) : Host.Outcome State Fault Refusal :=
  if !s.receives n.val || !s.flag (R.LNE_STAT_BLOCK_LOCK n.val) then .next s
  else
    let s := s.blockLost n.val
    .next (if hiBer then (s.setFld (R.LNE_STAT_HI_BER n.val) 1).laneEvent n.val 2 else s)

/-- Whether the receiver of a Varlas lane searches for markers. -/
def State.searching (s : State) (n : Nat) : Bool :=
  s.receives n && s.varlas n && s.flag (R.LNE_STAT_BLOCK_LOCK n) && !s.flag (R.LNE_STAT_SF_LOCK n)

/-- What a block does to the candidates (R209): the one that expects a marker here is confirmed once more or dropped; a
good marker at a new position becomes a candidate while fewer than 4 are held. -/
def seeBlock (cs : List Candidate) (e block count : Nat) (good : Bool) : List Candidate :=
  let expects := fun (c : Candidate) => c.block + 256 == block
  let held := cs.any (fun c => c.block % 256 == block % 256)
  let cs' := cs.filterMap (fun c =>
    if !expects c then some c
    else if good && count = (c.count + 1) % e then some ⟨block, count, c.seen + 1⟩ else none)
  if good && !held && cs.length < 4 then cs' ++ [⟨block, count, 1⟩] else cs'

/-- MARKER_CANDIDATE: a block of the search, with whether it carries PATTERN and a good CRC8, and its COUNT. -/
def execMarkerCandidate (n : Fin 24) (block : Nat) (good : Bool) (count : Byte) (s : State) : Host.Outcome State Fault Refusal :=
  if !s.searching n.val then .next s
  else .next (s.modLane n.val (fun l => { l with cands := seeBlock l.cands (s.epochLen n.val) block count.toNat good }))

/-- SUPERFRAME_LOCK (R210): a candidate has been confirmed by three markers. -/
def execSuperframeLock (n : Fin 24) (s : State) : Host.Outcome State Fault Refusal :=
  match s.searching n.val, (s.lane n.val).cands.find? (fun c => 3 ≤ c.seen) with
  | true, some c =>
    let s := (s.setFld (R.LNE_STAT_SF_LOCK n.val) 1).laneEvent n.val 1
    .next (s.modLane n.val (fun l => { l with cands := [], badRun := 0, expCount := (c.count + 1) % s.epochLen n.val }))
  | _, _ => .next s

/-- BAD_MARKER (R211): the marker at the expected block is bad; after four in a row lock is lost. -/
def execBadMarker (n : Fin 24) (s : State) : Host.Outcome State Fault Refusal :=
  if !s.receives n.val || !s.flag (R.LNE_STAT_SF_LOCK n.val) then .next s
  else
    let s := s.laneCount n.val (C.LNE_SFBAD n.val) 1
    let s := s.modLane n.val (fun l => { l with badRun := l.badRun + 1, expCount := (l.expCount + 1) % s.epochLen n.val })
    .next (if 4 ≤ (s.lane n.val).badRun then s.sfLost n.val else s)

/-- PRBS_CHECKER_LOCK (R213). -/
def execPrbsCheckerLock (n : Fin 24) (s : State) : Host.Outcome State Fault Refusal :=
  if s.live (laneDomain n.val) && s.flag (R.LNE_CTRL_EN n.val) && s.flag (R.LNE_CTRL_PRBS n.val) then
    .next (s.setFld (R.LNE_STAT_PRBS_LOCK n.val) 1)
  else .next s

/-! ### What a Varlas lane sends (R199 to R203, R206) -/

/-- Samples of a container in one epoch, and data blocks they fill (R200). -/
def epochSamples (k : ContCfg) : Nat := 192 * 2 ^ min k.rate 5

/-- D of R200. -/
def dataBlocks (k : ContCfg) : Nat := (epochSamples k / k.groupLen * k.groupBits + 63) / 64

/-- K of a container. -/
def ContCfg.kPos (k : ContCfg) : Nat := nbits k.cnt.toNat 7 0

/-- The error block of clause 49 as the line carries it (R206): type 0x1E and eight /E/ characters of 7 bits, 0x1E each. -/
def bitternBlock : List Byte :=
  beBytes 8 (0x1E * 2 ^ 56 + (List.range 8).foldl (fun a _ => a * 128 + 0x1E) 0)

/-- The 64 bits of data block m of the epoch that starts at `te`, when all its samples are formed; and how many samples of
groups that end in it saturated. -/
def State.dataBlock (s : State) (g m te : Nat) : Option (Nat × Nat) :=
  let k := s.cont 1 g
  let p := s.period 1 g
  let gb := max 1 k.groupBits
  let groups := epochSamples k / k.groupLen
  let g0 := 64 * m / gb
  let g1 := min groups ((64 * m + 64 + gb - 1) / gb)
  let gain := gainOf (s.fld (R.SRC_GAIN_G g))
  let out := (s.tx g).out
  let sample := fun j => out.find? (fun x => x.time == te + j * p)
  let idx := (List.range ((g1 - g0) * k.groupLen)).map (fun j => g0 * k.groupLen + j)
  if idx.any (fun j => (sample j).isNone) then none
  else
    let one := fun gr =>
      packGroup k ((List.range k.groupLen).map (fun j =>
        let x := (sample (gr * k.groupLen + j)).getD {}
        if k.agn then (x.i, x.q) else (applyGain 28 x.i gain, applyGain 28 x.q gain)))
    let packed := (List.range (g1 - g0)).map (fun j => one (g0 + j))
    let v := packed.foldl (fun a q => a * 2 ^ gb + q.1) 0
    let have_ := (g1 - g0) * gb
    let skip := 64 * m - g0 * gb
    -- the stream from bit `skip`, padded with zeros to 64 bits
    let v := v * 2 ^ 64 / 2 ^ (have_ - skip) % 2 ^ 64
    let sats := ((List.range (g1 - g0)).filter (fun j => (g0 + j + 1) * gb ≤ 64 * m + 64)).foldl
      (fun a j => a + (packed.getD j (0, 0)).2) 0
    some (v, sats)

/-- One position of a transmit container passes: the next, or the next epoch begins. -/
def State.txAdvance (s : State) (n g : Nat) : State :=
  let k := s.cont 1 g
  let kk := max 1 k.kPos
  let total := s.epochLen n * kk
  let c := s.tx g
  let endSf := (c.pos + 1) % kk = 0
  let s := if endSf then s.laneCount n (C.LNE_TXUNIT n) 1 else s
  let b := if endSf && c.bittern = 2 then 0 else c.bittern
  if c.pos + 1 < total then s.modTx g (fun c => { c with pos := c.pos + 1, bittern := b })
  else s.modTx g (fun c => { c with pos := 0, bittern := b, epoch := c.epoch + ticksPerEpoch,
                                    out := c.out.filter (fun x => c.epoch + ticksPerEpoch ≤ x.time) })

/-- TRANSMIT_DATA_BLOCK (R200, R203, R206): the next position of a container is sent: its data block, zeros when it has none
or is late, or a Bittern code. -/
def execTransmitDataBlock (n : Fin 24) (c : Fin 64) (s : State) : Host.Outcome State Fault Refusal :=
  let g := 64 * n.val + c.val
  let k := s.cont 1 g
  if !s.laneSends n.val || !s.varlas n.val || !k.en then .next s
  else
    let s := if (s.tx g).epoch = 0 then
        s.modTx g (fun c => { c with epoch := ((c.out.head?.map (·.time)).getD (tickFrom s.calNow 1)) / ticksPerEpoch * ticksPerEpoch })
      else s
    let t := s.tx g
    let send := fun (s : State) (b : List Byte) (e : Bool) =>
      (s.modLane n.val (fun l => { l with lastTx := b, bittern := e })).txAdvance n.val g
    let zeros : List Byte := List.replicate 8 0
    if t.bittern = 1 then .next (send (s.modTx g (fun c => { c with bittern := 2 })) bitternBlock true)
    else if t.bittern = 2 then .next (send s zeros false)
    else
      let total := s.epochLen n.val * max 1 k.kPos
      let d := dataBlocks k
      let m := (t.pos * d + total - 1) / total
      if d ≤ m || m * total / d ≠ t.pos then .next (send s zeros false)
      else
        match s.dataBlock g m t.epoch with
        | some (v, sats) => .next (send (if sats = 0 then s else s.countN (C.SRC_GSAT g) sats) (beBytes 8 v) false)
        | none => .next (send ((s.laneCount n.val (C.LNE_TXLATEC n.val) 1).laneEvent n.val 4) zeros false)

/-! ### What an Ethernet lane sends (R194, R195) -/

/-- The frame of a RoE packet without its FCS: the lane's header template, EtherType 0xFC3D, and the IEEE 1914.3 header of
subType, flowID, length and orderInfo (log entry 22), padded to 60 bytes. -/
def State.roeFrame (s : State) (n flow order : Nat) (agn : Bool) (payload : List Byte) : List Byte :=
  let addr := fun (r : Nat → Nat → Nat) => (List.range 3).flatMap (fun k => beBytes 2 (s.regN (r n k)))
  let vlan := s.regN (R.LNE_ROE_VLAN n)
  let tag : List Byte := if nbits vlan 11 0 = 0 then [] else beBytes 2 0x8100 ++ beBytes 2 vlan
  let f := addr (fun n k => R.LNE_ROE_DA n k) ++ addr (fun n k => R.LNE_ROE_SA n k) ++ tag ++ beBytes 2 0xFC3D ++
    [if agn then 0x02 else 0x10, BitVec.ofNat 8 flow] ++ beBytes 2 payload.length ++ beBytes 4 order ++ payload
  f ++ List.replicate (60 - f.length) 0

/-- ROE_PACKET_TRANSMIT (R195): SPP samples of a container are formed and leave in one packet. -/
def execRoePacketTransmit (n : Fin 24) (c : Fin 64) (s : State) : Host.Outcome State Fault Refusal :=
  let g := 64 * n.val + c.val
  let k := s.cont 1 g
  let spp := nbits k.cnt.toNat 9 0
  let out := (s.tx g).out
  if !s.laneSends n.val || s.varlas n.val || !k.en || spp = 0 || out.length < spp then .next s
  else
    let l := out.take spp
    let r := s.packOut g l
    let nb := (r.1.2 + 7) / 8
    let payload := beBytes nb (r.1.1 * 2 ^ (8 * nb - r.1.2))
    let first := (l.head?.map (·.time)).getD 0
    let order := first % ticksPerSecond / s.period 1 g
    let s := r.2.modTx g (fun c => { c with out := c.out.drop spp })
    let s := s.lineSend n.val (s.roeFrame n.val (nbits k.pos.toNat 7 0) order k.agn payload)
    .next (s.laneCount n.val (C.LNE_TXUNIT n.val) 1)

/-! ### Equalisation (R212) -/

/-- The thermal band changes: each lane with FW = 0 moves to the preset of the band. -/
def State.lanesBand (s : State) (band : Option Nat) : State :=
  (List.range 24).foldl (fun s n =>
    if s.live (laneDomain n) && !s.flag (R.LNE_EQ_FW n) then
      s.modLane n (fun l => { l with eqTarget := some (eqPresetFor n band), eqAt := s.now + 10000 })
    else s) s

/-- One code towards another. -/
def codeStep (a b : Nat) : Nat := if a < b then a + 1 else if b < a then a - 1 else a

/-- EQUALISATION_STEP: 10 µs have passed, and each field moves one code step. -/
def execEqualisationStep (n : Fin 24) (s : State) : Host.Outcome State Fault Refusal :=
  match s.live (laneDomain n.val) && !s.flag (R.LNE_EQ_FW n.val), (s.lane n.val).eqTarget with
  | true, some t =>
    let s := s.advanceTo (s.lane n.val).eqAt
    let s := s.setFld (R.LNE_EQ_PRE n.val) (codeStep (s.fld (R.LNE_EQ_PRE n.val)) (nbits t 13 10))
    let s := s.setFld (R.LNE_EQ_POST n.val) (codeStep (s.fld (R.LNE_EQ_POST n.val)) (nbits t 9 5))
    let s := s.setFld (R.LNE_EQ_CTLE n.val) (codeStep (s.fld (R.LNE_EQ_CTLE n.val)) (nbits t 4 0))
    let done := nbits (s.regN (R.LNE_EQ n.val)) 13 0 = t
    .next (s.modLane n.val (fun l => { l with eqTarget := if done then none else some t, eqAt := l.eqAt + 10000 }))
  | _, _ => .next s

/-! ### Container configuration (R214, R216) -/

/-- Whether setting EN of a container with this configuration is refused. -/
def State.contBad (s : State) (n dir c : Nat) (k : ContCfg) : Bool :=
  let fmtOk := (linearWidth k.format).isSome || (bfpWidth k.format).isSome
  if !fmtOk || 5 < k.rate then true
  else if s.varlas n then
    let x := nbits k.pos.toNat 15 8
    let p := nbits k.pos.toNat 7 0
    let kk := k.kPos
    let mine := (List.range kk).map (fun j => x + j * p)
    let held := s.heldIndices n dir ++ s.heldCompanions n dir 8 ++ s.cipherHeld n dir
    kk = 0 || p = 0 || 253 < x + (kk - 1) * p || s.epochLen n * kk < dataBlocks k || mine.any (fun i => held.contains i)
  else
    let spp := nbits k.cnt.toNat 9 0
    let flow := nbits k.pos.toNat 7 0
    spp < 12 || 1020 < spp || ((bfpWidth k.format).isSome && spp % 12 ≠ 0) ||
      (List.range 64).any (fun d => d != c && (s.contCfg n dir d).en && nbits (s.contCfg n dir d).pos.toNat 7 0 == flow)

/-- A refused configuration: CFG_REJ (R192, R214). -/
def State.laneRej (s : State) (n : Nat) : State := s.laneEvent n 3

/-- The value a masked write gives a register of 16 bits (R69). -/
def maskInto (cur data : Nat) : Nat :=
  (List.range 16).foldl (fun v i => if nbit data (16 + i) then nput v i i (nbits data i i) else v) cur

/-- A write to LNE_CFMT, CPOS or CCNT reaches the selected container: `which` 0, 1, 2. -/
def State.contWrite (s : State) (n which data : Nat) : State :=
  let dir := s.fld (R.LNE_CSEL_DIR n)
  let c := s.fld (R.LNE_CSEL_C n)
  let k := s.contCfg n dir c
  let put := fun (k : ContCfg) => s.modLane n (fun l => { l with conts := tput l.conts (64 * dir + c) k })
  match which with
  | 0 =>
    let v := maskInto k.fmt.toNat data &&& 0xC7F0
    if k.en then
      if v = k.fmt.toNat then s
      else if v = nput k.fmt.toNat 15 15 0 then
        let s := put { k with fmt := BitVec.ofNat 32 v }
        let g := 64 * n + c
        if dir = 1 then s.modTx g (fun _ => {}) else s
      else s.laneRej n
    else if nbit v 15 then
      if s.contBad n dir c { k with fmt := BitVec.ofNat 32 v } then s.laneRej n else put { k with fmt := BitVec.ofNat 32 v }
    else put { k with fmt := BitVec.ofNat 32 v }
  | 1 =>
    let v := maskInto k.pos.toNat data
    if k.en then (if v = k.pos.toNat then s else s.laneRej n) else put { k with pos := BitVec.ofNat 32 v }
  | _ =>
    let v := maskInto k.cnt.toNat data &&& 0x3FF
    if k.en then (if v = k.cnt.toNat then s else s.laneRej n) else put { k with cnt := BitVec.ofNat 32 v }

/-! ### Registers of LNE -/

/-- EN goes to 0 (R193): a unit being sent ends in a Bittern code, the receiver loses its locks. -/
def State.laneStop (s : State) (n : Nat) (old : Word) : State :=
  let was := (s.lane n).tx == .sending
  -- the locks are lost while the lane still counts as enabled, so that the failing units are counted
  let s := ((s.setReg (R.LNE_CTRL n) old).blockLost n).setFld (R.LNE_CTRL_EN n) 0
  let s := (s.setFld (R.LNE_STAT_HI_BER n) 0).setFld (R.LNE_STAT_PRBS_LOCK n) 0
  let s := s.modLane n (fun l => { l with tx := .idle, rx := none, bittern := was })
  s.withMtx { s.mtx with conts := s.mtx.conts.map (fun (p : Nat × TxCont) =>
      if p.1 / 64 = n then (p.1, { p.2 with out := [], epoch := 0, pos := 0, bittern := 0 }) else p) }

/-- A write of LNE_CTRL. -/
def State.laneCtrl (s : State) (n : Nat) (old : Word) : State :=
  let new := s.regN (R.LNE_CTRL n)
  let o := old.toNat
  let changed := nbits new 5 0 ≠ nbits o 5 0
  if (nbit o 15 && changed) || 3 < nbits new 3 0 then (s.setReg (R.LNE_CTRL n) old).laneRej n
  else
    let re := nbit new 6
    let s := s.setFld (R.LNE_CTRL_REPHASE n) 0
    if nbit new 15 && !nbit o 15 then s.txStart n
    else if !nbit new 15 && nbit o 15 then s.laneStop n old
    else if re && nbit new 15 && s.varlas n && s.flag (R.LNE_CTRL_TXTIM n) then s.txStart n
    else s

/-- What writes to LNE_ registers of lane n do beyond their fields. -/
def lneWrite (_rid : Rid) (a : Nat) (data old : Word) (s : State) : State :=
  let n := (a - R.LNE_CTRL 0) / 0x1000
  if a = R.LNE_CTRL n then s.laneCtrl n old
  else if a = R.LNE_EQ n then
    let s := if nbit old.toNat 15 then s else s.setRegN a (nput (s.regN a) 14 0 (nbits old.toNat 14 0))
    let s := s.setFld (R.LNE_STAT_FW_EQ n) (s.fld (R.LNE_EQ_FW n))
    s.modLane n (fun l => { l with eqTarget := if s.flag (R.LNE_EQ_FW n) then none
                                     else some (eqPresetFor n s.hk.vigilBand), eqAt := s.now + 10000 })
  else if a = R.LNE_TXPH n then
    if s.flag (R.LNE_CTRL_TXTIM n) then s else s.modLane n (fun l => { l with phi := s.regN a })
  else if a = R.LNE_CFMT n then (s.setReg a old).contWrite n 0 data.toNat
  else if a = R.LNE_CPOS n then (s.setReg a old).contWrite n 1 data.toNat
  else if a = R.LNE_CCNT n then (s.setReg a old).contWrite n 2 data.toNat
  else s

/-- Reads of the selected container's configuration. -/
def lneRead (_rid : Rid) (a : Nat) (s : State) : Word × State :=
  let n := (a - R.LNE_CTRL 0) / 0x1000
  let k := s.contCfg n (s.fld (R.LNE_CSEL_DIR n)) (s.fld (R.LNE_CSEL_C n))
  if a = R.LNE_CFMT n then (k.fmt, s)
  else if a = R.LNE_CPOS n then (k.pos, s)
  else if a = R.LNE_CCNT n then (k.cnt, s)
  else (s.reg a, s)

end Sys2Proof.Machine
end

