-- ==== Sys2Proof/Machine/Classifier.lean ====
section
/-! DEFINITION. The classifier (R238 to R255): the key, matching, where a frame goes, entries and their commands, false hits
and Rake, firmware queues, and the RoE mapper that a frame may go to (R194, R195). -/

namespace Sys2Proof.Machine

/-- Whether the part is a TG6024-AN (R6, R252, R287): variant 1 in FUS_ID. -/
def State.isAN (s : State) : Bool := s.fld R.FUS_ID_VAR == 1

/-! ### The key (R238, R239) -/

/-- What the key is made of. -/
structure KeyParts where
  port : Nat := 0
  pass : Bool := false
  ntag : Nat := 0
  pcp : Nat := 0
  vid : Nat := 0
  etype : Nat := 0
  da : Nat := 0
  l3 : Nat := 0
  proto : Nat := 0
  dport : Nat := 0
  dscp : Nat := 0
  win : Nat := 0
deriving DecidableEq, Repr

/-- The parts of the key of a frame; `wofs` is the port's window offset. -/
def keyParts (port : Nat) (pass : Bool) (l : List Byte) (wofs : Nat) : KeyParts :=
  let e := etherOff l
  let tag := be16 l 14
  let ty := be16 l e
  let b := fun i => (l.getD (e + 2 + i) 0).toNat
  let l3 := if ty = 0x0800 then 1 else if ty = 0x86DD then 2 else 0
  let proto := if l3 = 1 then b 9 else if l3 = 2 then b 6 else 0
  let l4 := if l3 = 1 then 4 * (b 0 % 16) else 40
  let frag := l3 = 1 && be16 l (e + 8) % 8192 ≠ 0
  { port := port, pass := pass, ntag := (e - 12) / 4,
    pcp := if e = 12 then 0 else tag / 8192, vid := if e = 12 then 0 else tag % 4096,
    etype := ty, da := beNat (slice l 0 6), l3 := l3, proto := proto,
    dport := if (proto = 6 || proto = 17) && !frag then be16 l (e + 2 + l4 + 2) else 0,
    dscp := if l3 = 1 then b 1 / 4 else if l3 = 2 then be16 l (e + 2) / 64 % 64 else 0,
    win := beNat (slice l (e + 2 + wofs) 8) }

/-- The 192 bits of the key. -/
def KeyParts.bits (k : KeyParts) : BitVec 192 :=
  BitVec.ofNat 192 (k.port * 2 ^ 187 + b2n k.pass * 2 ^ 186 + k.ntag * 2 ^ 184 + k.pcp * 2 ^ 181 + k.vid * 2 ^ 169
    + k.etype * 2 ^ 153 + k.da * 2 ^ 105 + k.l3 * 2 ^ 103 + k.proto * 2 ^ 95 + k.dport * 2 ^ 79 + k.dscp * 2 ^ 73 + k.win)

/-! ### Matching (R241 to R243) -/

/-- Whether range comparator r is true for a key (R242). -/
def State.rangeTrue (s : State) (k : KeyParts) (r : Nat) : Bool :=
  let v := match s.fld (R.CLS_RC_FIELD_FIELD r) with
    | 0 => some k.vid
    | 1 => some k.etype
    | 2 => some k.dport
    | 3 => some (nbits k.win 63 48)
    | 4 => some (nbits k.win 47 32)
    | 5 => some (nbits k.win 31 16)
    | 6 => some (nbits k.win 15 0)
    | _ => none
  match v with
  | some x => s.fld (R.CLS_RC_RANGE_LO r) ≤ x && x ≤ s.fld (R.CLS_RC_RANGE_HI r)
  | none => false

/-- A classifier entry. -/
def State.cslot (s : State) (e : Nat) : ClsSlot := tget {} s.cls.entries e

/-- Change a classifier entry. -/
def State.modSlotC (s : State) (e : Nat) (f : ClsSlot → ClsSlot) : State :=
  s.withCls { s.cls with entries := tmod {} s.cls.entries e f }

/-- Whether an entry stands in the suspect-entry table. -/
def State.suspect (s : State) (e : Nat) : Bool :=
  (List.range 16).any (fun i => s.flag (R.CLS_SUSPT_VALID i) && s.fld (R.CLS_SUSPT_ENTRY i) == e)

/-- Whether entry e matches a key (R241). -/
def State.matches_ (s : State) (k : KeyParts) (e : Nat) (c : ClsSlot) : Bool :=
  let g := e / 128
  let tag := s.fld (R.CLS_PORT_CFG_PFTAG k.port)
  let attr := c.arr.attr.toNat
  c.valid && !s.suspect e && s.flag (R.CLS_RG_EN g) &&
    (tag ^^^ s.fld (R.CLS_RG_VAL g)) &&& s.fld (R.CLS_RG_MSK g) == 0 &&
    (k.bits ^^^ c.arr.value) &&& c.arr.mask == 0 &&
    (!nbit attr 6 || s.rangeTrue k (nbits attr 5 0)) && (!nbit attr 14 || s.rangeTrue k (nbits attr 13 8))

/-- The entry of the highest priority, and of those the one of the lowest number (R243). -/
def State.winner (s : State) (k : KeyParts) : Option Nat :=
  let prio := fun (c : ClsSlot) => nbits c.arr.attr.toNat 27 16
  ((s.cls.entries.filter (fun p => s.matches_ k p.1 p.2)).foldl
    (fun (best : Option (Nat × Nat)) p =>
      match best with
      | some (b, q) => if q < prio p.2 then some (p.1, prio p.2) else some (b, q)
      | none => some (p.1, prio p.2)) none).map (·.1)

/-! ### False hits (R253, R254) -/

/-- The number of suspect entries shows in CLS_STAT. -/
def State.suspCount (s : State) : State :=
  s.setFld R.CLS_STAT_SUSP ((List.range 16).filter (fun i => s.flag (R.CLS_SUSPT_VALID i))).length

/-- An entry leaves the suspect-entry table. -/
def State.suspDrop (s : State) (e : Nat) : State :=
  ((List.range 16).foldl (fun s i =>
    if s.flag (R.CLS_SUSPT_VALID i) && s.fld (R.CLS_SUSPT_ENTRY i) == e then s.setRegN (R.CLS_SUSPT i) 0 else s) s).suspCount

/-- The stored copy of an entry has an uncorrectable error (R254). -/
def State.entryUncor (s : State) (e : Nat) : State :=
  let s := (s.modSlotC e (fun c => { c with valid := false })).suspDrop e
  ((s.setRegN R.CLS_UNCOR_E e).setFld R.CLS_STAT_UNCOR 1).raise 73

/-- A winner mismatches its stored copy: suspect, or invalid when the table is full; E72 (R253, R254). -/
def State.falseHit (s : State) (e : Nat) : State :=
  match (List.range 16).find? (fun i => !s.flag (R.CLS_SUSPT_VALID i)) with
  | some i => ((s.setRegN (R.CLS_SUSPT i) (2 ^ 31 + e)).suspCount).raise 72
  | none => (((s.modSlotC e (fun c => { c with valid := false })).setFld R.CLS_STAT_SUSP_FULL 1).raise 73).raise 72

/-- Whether an entry differs from its stored copy in what is compared: value, mask, range references, priority. -/
def ClsSlot.wrong (c : ClsSlot) : Bool :=
  c.uncor || c.arr.value != c.stored.value || c.arr.mask != c.stored.mask || c.arr.attr != c.stored.attr

/-- One lookup (R253): the winner if any, the false hits met, and the state after; a fourth mismatch gives the miss action. -/
def State.lookup (k : KeyParts) : Nat → State → Nat → (Option Nat × Nat) × State
  | 0, s, f => ((none, f), s.setFld R.CLS_STAT_MULTI_FALSE 1)
  | n + 1, s, f =>
    match s.winner k with
    | none => ((none, f), s)
    | some e =>
      if (s.cslot e).uncor then State.lookup k n (s.entryUncor e) f
      else if (s.cslot e).wrong then State.lookup k n (s.falseHit e) (f + 1) else ((some e, f), s)

/-! ### The RoE mapper (R194, R195) -/

/-- `n` groups of a container unpacked from a stream of bits of which `v` holds the low `left`, most significant first
(R217 to R219): the samples' components and whether a block's exponent was above the valid ones. -/
def unpackGroups (k : ContCfg) (v : Nat) : Nat → Nat → List (Int × Int) × Nat
  | 0, _ => ([], 0)
  | n + 1, left =>
    let gb := k.groupBits
    let g := v / 2 ^ (left - gb) % 2 ^ gb
    let w := if k.agn then 16 else (linearWidth k.format).getD ((bfpWidth k.format).getD 0)
    let e := if k.groupLen = 12 then g / 2 ^ (24 * w) else 0
    let one := fun j => unpackCode k (g / 2 ^ (w * j) % 2 ^ w) e
    let l := (List.range k.groupLen).map (fun j => (one (2 * (k.groupLen - j) - 1), one (2 * (k.groupLen - j) - 2)))
    let r := unpackGroups k v n (left - gb)
    (l ++ r.1, r.2 + b2n (badExponent k e))

/-- The container a RoE packet of lane n goes to: the enabled one of its flowID. -/
def State.roeCont (s : State) (n flow : Nat) : Option Nat :=
  ((List.range 64).find? (fun c =>
    let k := s.contCfg n 0 c
    k.en && nbits k.pos.toNat 7 0 == flow)).map (fun c => 64 * n + c)

/-- A RoE packet's samples go to their container (R195): its unit is opened, and sample times count from the second nearest
to the ingress stamp less LNE_RXPH. -/
def State.roeSamples (s : State) (n c : Nat) (l : List Byte) (sec stamp : Nat) : State :=
  if !s.live 12 then s
  else
    let k := s.cont 0 c
    let e := etherOff l
    let spp := nbits k.cnt.toNat 9 0
    let groups := spp / k.groupLen
    let nb := (groups * k.groupBits + 7) / 8
    let v := beNat (slice l (e + 10) nb)
    let r := unpackGroups k v groups (8 * nb)
    let s := if r.2 = 0 then s else s.countN C.SRC_FMTERR r.2
    let ns : Int := (sec * 1000000000 + stamp / 4 : Nat) - 100 * sgn 16 (s.fld (R.LNE_RXPH_PH n))
    let nearest := ((ns + 500000000) / 1000000000).toNat
    let p := s.period 0 c
    let t0 := nearest * ticksPerSecond + beNat (slice l (e + 6) 4) * p
    let s := s.unitOpen c
    ((List.range spp).zip r.1).foldl (fun s q => s.sampleIn c (t0 + q.1 * p) q.2.1 q.2.2 false) s

/-! ### Where a frame goes (R240, R244 to R248) -/

/-- The present value of a management object of 0x1020 (chapter 02): VLAN ID, UDP port, lane mask. -/
def State.mgmt (s : State) (sub : Nat) : Nat :=
  tget (if sub = 2 then 49300 else 0) s.nq.objects (0x1020 * 256 + sub)

/-- Whether the fixed rule of R244 sends a frame to the hardware responder. -/
def State.mgmtFrame (s : State) (k : KeyParts) : Bool :=
  k.port < 24 && nbit (s.mgmt 3) k.port && s.mgmt 1 != 0 && k.ntag != 0 && k.vid == s.mgmt 1 && k.l3 != 0 &&
    k.proto == 17 && k.dport == s.mgmt 2

/-- The receive association index of a frame, or what else its action says, made applicable or turned into a drop (R245,
R246): the destination with the reason of a drop. -/
def State.applicable (s : State) (k : KeyParts) (dest : Nat) : Nat × Nat :=
  let lane := k.port < 24 && !s.varlas k.port
  match dest with
  | 0 => (0, 0)
  | 1 => if lane && k.etype = 0xFC3D then (1, 0) else (0, 3)
  | 2 => if s.live 1 then (2, 0) else (0, 3)
  | 3 => if k.pass then (0, 2) else if lane && s.live 8 then (3, 0) else (0, 3)
  | 4 => if lane then (4, 0) else (0, 3)
  | 5 => (5, 0)
  | 6 => (6, 0)
  | _ => (0, 3)

/-- The frame a port now receives. -/
def State.setRx (s : State) (port : Nat) (f : RxFrame) : State := s.modLane port (fun l => { l with rx := some f })

/-- A frame that has its destination starts on its way: RoE samples to their container, a RoE control packet to Harvest on a
sub-channel the spec does not give (log entry 23). -/
def State.steer (s : State) (port : Nat) (f : RxFrame) : State :=
  if f.dest ≠ 1 then s.setRx port f
  else
    let e := etherOff f.bytes
    let sub := f.bytes.getD (e + 2) 0
    if sub = 0 then
      let got := s.draw
      let j := got.1
      let s := got.2
      s.setRx port { f with dest := 4, arg := j % 8 }
    else
      match s.roeCont port (f.bytes.getD (e + 3) 0).toNat with
      | some c => (s.roeSamples port c f.bytes f.sec f.stamp).setRx port { f with cont := some c }
      | none => s.setRx port { f with dest := 0, drop := 4 }

/-- A frame is searched (R243, R253) and given its destination; `f` holds what an earlier pass found. -/
def State.classify (s : State) (port : Nat) (f : RxFrame) : State :=
  let k := keyParts port f.pass f.bytes (s.fld (R.CLS_PORT_CFG_WOFS port))
  let r := State.lookup k 4 s 0
  let s := r.2
  let s := s.withCls { s.cls with freeAt := max s.now s.cls.freeAt + 40 * r.1.2 }
  let act := match r.1.1 with
    | some e => (s.cslot e).arr.action.toNat
    | none => nput (s.regN (R.CLS_PORT_CFG port)) 19 0 0
  let d := s.applicable k (nbits act 31 28)
  let eng := if nbit act 19 then some (nbits act 18 16) else none
  let s := match eng with
    | some n => s.engFrame n f.bytes (f.stamp / 4)
    | none => s
  s.steer port { f with dest := d.1, arg := nbits act 27 20, entry := r.1.1, wins := f.wins ++ [r.1.1],
                        falses := f.falses + r.1.2, drop := d.2, engine := eng }

/-- An upset reaches an entry before a search. -/
def State.upsetEntry (s : State) : Option EntryUpset → State
  | none => s
  | some u => s.modSlotC u.entry.val (fun c =>
      let a := c.arr
      let b := u.bit.val
      let a := if b < 192 then { a with value := a.value ^^^ BitVec.ofNat 192 (2 ^ b) }
        else { a with mask := a.mask ^^^ BitVec.ofNat 192 (2 ^ (b - 192)) }
      { c with arr := a, uncor := c.uncor || u.uncor })

/-- The keys a port has waiting, of which 8 are held (R248): those that came while the search pipeline was busy. -/
def State.keysWaiting (s : State) (port : Nat) : Nat := if s.cls.freeAt ≤ s.now then 0 else tget 0 s.cls.keys port

/-- CLASSIFIER_SEARCH (R240, R243 to R248): a frame from its destination address, without its FCS, with its ingress stamp. -/
def execClassifierSearch (port : Fin 25) (frame : List Byte) (sec : BitVec 48) (stamp : Word) (upset : Option EntryUpset)
    (s : State) : Host.Outcome State Fault Refusal :=
  let p := port.val
  let f : RxFrame := { bytes := frame, sec := sec.toNat, stamp := stamp.toNat }
  let k := keyParts p false frame 0
  if p < 24 && (!s.receives p || s.varlas p) then .next s
  else if p = 24 && !s.vigil then .next s
  else if p = 24 && k.etype = 0x88B5 && k.ntag = 0 then .next (s.setRx p { f with dest := 6 })
  else if !s.live 11 then .next (if p = 24 then s else s.setRx p f)
  else
    let s := s.upsetEntry upset
    if s.mgmtFrame k then .next (s.setRx p { f with dest := 6 })
    else if !s.flag R.CLS_CTRL_EN then .next (s.setRx p f)
    else
      let w := s.keysWaiting p
      let s := if s.cls.freeAt ≤ s.now then s.withCls { s.cls with keys := [] }
        else s.withCls { s.cls with keys := tput s.cls.keys p (w + 1) }
      if 8 ≤ w then
        let s := (s.setFld R.CLS_STAT_KEYDROP 1).setRx p { f with drop := 1 }
        match s.cls.dropAt with
        | some t => .next (if s.now < t + 1000000 then s
            else (s.withCls { s.cls with dropAt := some s.now }).raise 67)
        | none => .next ((s.withCls { s.cls with dropAt := some s.now }).raise 67)
      else .next (s.classify p f)

/-! ### Firmware queues (R249) -/

/-- A confirmed frame waits for its firmware queue. -/
def State.fqPut (s : State) (port : Nat) (f : RxFrame) : State :=
  let n := min 2032 f.bytes.length
  let w0 := b2n f.entry.isNone * 2 ^ 31 + b2n (2032 < f.bytes.length) * 2 ^ 30 + port * 2 ^ 25 + b2n f.pass * 2 ^ 24 +
    f.entry.getD 0 * 2 ^ 12 + n
  s.withCls { s.cls with fqWait := s.cls.fqWait ++ [(f.arg % 4, BitVec.ofNat 32 w0, f)] }

/-- FQ_ENTRY_WRITTEN: the oldest waiting frame is written whole, or dropped at a full ring. A queue that is not enabled
cannot apply (R246, log entry 24). -/
def execFqEntryWritten (s : State) : Host.Outcome State Fault Refusal :=
  match s.live 11, s.cls.fqWait with
  | true, (q, w0, f) :: r =>
    let s := s.withCls { s.cls with fqWait := r }
    if !s.flag (R.CLS_FQ_CFG_EN q) then .next (s.count C.CLS_BADDEST)
    else
      let size := max 4 (min 64 (s.fld (R.CLS_FQ_CFG_SIZE q)))
      let head := s.fld (R.CLS_FQ_HEAD_IDX q) % size
      if (head + 1) % size = s.fld (R.CLS_FQ_TAIL_IDX q) then .next ((s.count C.CLS_FQDROP).raise 65)
      else
        let entry := leBytes 4 w0.toNat ++ leBytes 4 f.sec ++ leBytes 4 (f.sec / 2 ^ 32 % 65536) ++ leBytes 4 f.stamp ++
          slice f.bytes 0 2032
        let s := (s.memWrite (engineRid 2) (s.fld (R.CLS_FQ_BASE_BASE q) * 2048 + 2048 * head) entry).2
        .next ((s.setRegN (R.CLS_FQ_HEAD q) ((head + 1) % size)).raise 64)
  | _, _ => .next s

/-! ### Entry commands (R250 to R252) -/

/-- A command is refused with an error code; nothing changes but ERR and E66. -/
def State.clsRefuse (s : State) (err : Nat) : State := (s.setFld R.CLS_ECSTAT_ERR err).raise 66

/-- A write of CLS_ECMD: the command is taken, or refused while one is in progress. -/
def State.clsCommand (s : State) (cmd : Nat) : State :=
  if s.flag R.CLS_ECSTAT_BUSY then s.clsRefuse 4
  else
    (s.withCls { s.cls with command := some (cmd, s.fld R.CLS_ESEL_ENTRY) }).setFld R.CLS_ECSTAT_BUSY 1

/-- The 192 bits in six staging registers. -/
def State.staged192 (s : State) (r : Nat → Nat) : BitVec 192 :=
  BitVec.ofNat 192 ((List.range 6).foldl (fun a i => a + s.regN (r i) * 2 ^ (32 * i)) 0)

/-- READ: the stored copy goes into the staging registers. -/
def State.clsReadEntry (s : State) (e : Nat) : State :=
  let c := (s.cslot e).stored
  let s := (List.range 6).foldl (fun s i =>
    (s.setRegN (R.CLS_EVAL i) (c.value.toNat / 2 ^ (32 * i))).setRegN (R.CLS_EMSK i) (c.mask.toNat / 2 ^ (32 * i))) s
  (s.setReg R.CLS_EATTR c.attr).setReg R.CLS_EACT c.action

/-- WRITE: the staging registers go into an invalid entry, values as value AND mask (R241). -/
def State.clsWriteEntry (s : State) (e : Nat) : State :=
  let mask := s.staged192 R.CLS_EMSK
  let c : ClsEntry := ⟨s.staged192 R.CLS_EVAL &&& mask, mask, s.reg R.CLS_EATTR, s.reg R.CLS_EACT⟩
  s.modSlotC e (fun _ => { arr := c, stored := c })

/-- ENTRY_COMMAND_DONE: the command takes effect between two searches, or is refused; BUSY clears and E66 is raised. -/
def execEntryCommandDone (s : State) : Host.Outcome State Fault Refusal :=
  match s.live 11, s.cls.command with
  | true, some (cmd, e) =>
    let s := (s.withCls { s.cls with command := none }).setFld R.CLS_ECSTAT_BUSY 0
    let c := s.cslot e
    let dest := nbits (s.regN R.CLS_EACT) 31 28
    .next (match cmd with
      | 1 => (s.clsReadEntry e).raise 66
      | 2 =>
        if c.valid then s.clsRefuse 1
        else if dest = 3 && s.isAN then s.clsRefuse 2
        else if 6 < dest then s.clsRefuse 3
        else (s.clsWriteEntry e).raise 66
      | 3 => ((s.modSlotC e (fun c => { c with valid := false })).suspDrop e).raise 66
      | 4 => if c.uncor then s.clsRefuse 5 else (s.modSlotC e (fun c => { c with valid := true })).raise 66
      | _ => s.clsRefuse 3)
  | _, _ => .next s

/-! ### Rake (R253 to R255) -/

/-- The match array is rewritten from the stored copy. -/
def State.repair (s : State) (e : Nat) : State := s.modSlotC e (fun c => { c with arr := c.stored })

/-- RAKE_REPAIR_DONE: entry i of the suspect-entry table is rewritten and leaves the table. -/
def execRakeRepairDone (i : Fin 16) (s : State) : Host.Outcome State Fault Refusal :=
  if !s.live 11 || !s.flag (R.CLS_SUSPT_VALID i.val) then .next s
  else
    let e := s.fld (R.CLS_SUSPT_ENTRY i.val)
    if (s.cslot e).uncor then .next (s.entryUncor e) else .next ((s.repair e).suspDrop e)

/-- RAKE_BACKGROUND_STEP: one valid entry is compared in ascending order each microsecond, unless a search or a command
defers the step, which happens at most 64 times in a row. -/
def execRakeBackgroundStep (s : State) : Host.Outcome State Fault Refusal :=
  if !s.live 11 || !s.flag R.CLS_CTRL_RAKE_EN then .next s
  else
    let s := s.advanceTo s.cls.rakeDue
    let busy := s.cls.command.isSome || s.now < s.cls.freeAt
    let s := s.withCls { s.cls with rakeDue := s.now + 1000 }
    if busy && s.cls.rakeDefer < 64 then .next (s.withCls { s.cls with rakeDefer := s.cls.rakeDefer + 1 })
    else
      let forced := if busy then max s.now s.cls.freeAt + 1 else s.cls.freeAt
      let s := s.withCls { s.cls with rakeDefer := 0, freeAt := forced }
      let valid := s.cls.entries.filter (fun p => p.2.valid)
      match (valid.find? (fun p => s.cls.rakeAt ≤ p.1)).or valid.head? with
      | none => .next s
      | some (e, c) =>
        let s := s.withCls { s.cls with rakeAt := (e + 1) % 4096 }
        if c.uncor then .next (s.entryUncor e)
        else if c.wrong then .next ((s.repair e).raise 74)
        else .next s

/-! ### Registers of CLS -/

/-- What writes to CLS_ registers do beyond their fields (R249 to R252, R366). -/
def clsWrite (_rid : Rid) (a : Nat) (data old : Word) (s : State) : State :=
  if a = R.CLS_ECMD then (s.setRegN a 0).clsCommand (nbits data.toNat 2 0)
  else if a = R.CLS_ECSTAT then
    if nbits data.toNat 3 0 ≠ 0 then s.setFld R.CLS_ECSTAT_ERR 0 else s
  else if R.CLS_PORT_CFG 0 ≤ a ∧ a < R.CLS_PORT_CFG 25 then
    if s.isAN && nbits (s.regN a) 31 28 = 3 then s.setReg a old else s
  else if R.CLS_FQ_CFG 0 ≤ a ∧ a < R.CLS_FQ_CFG 4 ∧ a % 16 = 0 then
    let q := (a - R.CLS_FQ_CFG 0) / 16
    if s.flag (R.CLS_FQ_CFG_EN q) && !nbit old.toNat 31 then s.dmaPreempt (11 + q) else s
  else s

/-- Reads of CLS_ registers: CLS_ECSTAT shows the selected entry. -/
def clsRead (_rid : Rid) (a : Nat) (s : State) : Word × State :=
  if a = R.CLS_ECSTAT then
    let e := s.fld R.CLS_ESEL_ENTRY
    let s := (s.setFlag R.CLS_ECSTAT_VALID (s.cslot e).valid).setFlag R.CLS_ECSTAT_SUSPECT (s.suspect e)
    (s.reg a, s)
  else (s.reg a, s)

end Sys2Proof.Machine
end

