-- ==== Sys2Proof/Machine/Media.lean ====
section
/-! DEFINITION. The identity-card interface and the SD host (chapter 19): detection, activation, ATR and PPS, T=0 and T=1
transfers, SD initialisation, data transfers, the password functions, and removal. -/

namespace Sys2Proof.Machine

/-! ### Identity card: pins and states -/

/-- 100 clock periods of the card in ns × 3: a period is DIV / 600 MHz (R457). -/
def State.idcCycles (s : State) (n : Nat) : Nat := n * s.fld R.IDC_CLKDIV_DIV * 5 / 3

/-- An operation of the identity-card interface ends (R462): RESULT, DONE with E149 or ERR with E150. -/
def State.idcResult (s : State) (res : Nat) : State :=
  let s := s.setFld R.IDC_RESULT_RESULT res
  if res = 0 then (s.setFld R.IDC_EVT_DONE 1).raise 149 else (s.setFld R.IDC_EVT_ERR 1).raise 150

/-- The card is deactivated (R467): pins low, STATE OFF. -/
def State.idcOff (s : State) : State :=
  (s.withIdc { s.idc with ven := false, vsel := 0, rst := false, clock := false, rxBytes := [], dataLeft := 0 }).setFld
    R.IDC_STAT_STATE 0

/-- Whether an activation or a transfer is in progress. -/
def State.idcBusy (s : State) : Bool :=
  let st := s.fld R.IDC_STAT_STATE
  st == 1 || st == 2 || st == 3 || st == 5 || s.idc.retryAt.isSome

/-- What is in progress ends with a result: a transfer leaves the receive buffer and sets RXLEN to 0 (R466). -/
def State.idcAbort (s : State) (res : Nat) : State :=
  if !s.idcBusy then s
  else
    let s := if s.fld R.IDC_STAT_STATE = 5 then s.setRegN R.IDC_RXLEN 0 else s
    (s.withIdc { s.idc with retryAt := none }).idcResult res

/-- Activation in a class begins (R457, R458): 0 C, 1 B, 2 A. The card's reset rises after VWAIT and 500 cycles. -/
def State.idcActivate (s : State) (c : Nat) : State :=
  let at_ := s.now + max 1 (s.fld R.IDC_VWAIT_WAIT) * 10000 + s.idcCycles 500
  let s := s.withIdc { s.idc with ven := true, vsel := c, rst := false, clock := false, classNow := c, stepAt := at_,
                                        retryAt := none }
  ((s.setFld R.IDC_STAT_STATE 1).setFld R.IDC_STAT_CLASS c).setFld R.IDC_STAT_CONV 0

/-- The next enabled class from one on (R457). -/
def State.idcNextClass (s : State) (c : Nat) : Option Nat :=
  [0, 1, 2].find? (fun k => c ≤ k && nbit (s.fld R.IDC_CFG_CLASSEN) k)

/-- ACTIVATING ends when the card's reset has risen (R458). -/
def State.idcSettle (s : State) : State :=
  if s.fld R.IDC_STAT_STATE = 1 ∧ s.idc.stepAt ≤ s.now then
    (s.withIdc { s.idc with clock := true, rst := true }).setFld R.IDC_STAT_STATE 2
  else s

/-- IDC_CTRL.ACT (R458). -/
def State.idcAct (s : State) : State :=
  if s.fld R.IDC_STAT_STATE = 0 && s.flag R.IDC_STAT_PRESENT then
    match s.idcNextClass 0 with
    | some c => s.idcActivate c
    | none => s.idcResult 1
  else s.setFld R.IDC_RESULT_RESULT 10

/-- The present class fails: the next enabled one is tried 10 ms after deactivation, or activation ends with E150 (R459). -/
def State.idcTryNext (s : State) : State :=
  let s := (s.setFld R.IDC_RESULT_RESULT 1).idcOff
  match s.idcNextClass (s.idc.classNow + 1) with
  | some _ => s.withIdc { s.idc with retryAt := some (s.now + 10000000) }
  | none => s.idcResult 1

/-! ### The answer to reset (R459, R461) -/

/-- Interface bytes as an ATR gives them: (i, kind, value), kind 0 TA, 1 TB, 2 TC, 3 TD, and the bytes that follow. -/
def atrBytes : Nat → Nat → Nat → List Byte → List (Nat × Nat × Nat) × Option (List Byte)
  | 0, _, _, l => ([], some l)
  | fuel + 1, i, y, l =>
    let n := b2n (nbit y 0) + b2n (nbit y 1) + b2n (nbit y 2) + b2n (nbit y 3)
    if l.length < n then ([], none)
    else
      let kinds := [0, 1, 2, 3].filter (fun k => nbit y k)
      let here := (kinds.zip (l.take n)).map (fun p => (i, p.1, p.2.toNat))
      match here.find? (fun p => p.2.1 == 3) with
      | some td =>
        let r := atrBytes fuel (i + 1) (td.2.2 / 16) (l.drop n)
        (here ++ r.1, r.2)
      | none => (here, some (l.drop n))

/-- What an ATR offers: the protocols of TD1, TD2 …, the interface bytes, and whether its structure and TCK are good. -/
structure AtrInfo where
  good : Bool
  protos : List Nat
  ifs : List (Nat × Nat × Nat)

/-- Read an ATR (ISO/IEC 7816-3): TS, T0, interface bytes, historical bytes, and TCK unless only T=0 is offered (R459). -/
def readAtr (l : List Byte) : AtrInfo :=
  match l with
  | ts :: t0 :: r =>
    let p := atrBytes 8 1 (t0.toNat / 16) r
    let protos := (p.1.filter (fun x => x.2.1 == 3)).map (fun x => x.2.2 % 16)
    let protos := if protos.isEmpty then [0] else protos
    let tck := protos.any (· != 0)
    match p.2 with
    | none => ⟨false, protos, p.1⟩
    | some rest =>
      let sum := (t0 :: r).foldl (fun (x y : Byte) => x ^^^ y) 0
      ⟨(ts == 0x3B#8 || ts == 0x3F#8) && rest.length == t0.toNat % 16 + b2n tck && (!tck || sum == 0), protos, p.1⟩
  | _ => ⟨false, [0], []⟩

/-- An interface byte of an ATR. -/
def AtrInfo.byte (a : AtrInfo) (i kind : Nat) : Option Nat := (a.ifs.find? (fun x => x.1 == i && x.2.1 == kind)).map (·.2.2)

/-- The first interface byte of a kind that belongs to a protocol: it follows a TD that names it. -/
def AtrInfo.of (a : AtrInfo) (t kind : Nat) : Option Nat :=
  (a.ifs.find? (fun x => x.2.1 == kind && decide (3 ≤ x.1) && (a.byte (x.1 - 1) 3).map (· % 16) == some t)).map (·.2.2)

/-- Clock-rate divider Di of a code (ISO/IEC 7816-3); 0 for a reserved code. -/
def diOf (c : Nat) : Nat := [0, 1, 2, 4, 8, 16, 32, 64, 12, 20].getD c 0

/-- Protocol and Fi and Di codes are applied, the card is READY with OK (R458, R460). -/
def State.idcReady (s : State) (t fd : Nat) : State :=
  let s := (s.setFld R.IDC_PARAMS_FI (fd / 16)).setFld R.IDC_PARAMS_DI (fd % 16)
  ((s.setFld R.IDC_STAT_PROTO t).setFld R.IDC_STAT_STATE 4).idcResult 0

/-- Activation fails: the card is deactivated and E150 raised. -/
def State.idcFail (s : State) (res : Nat) : State := s.idcOff.idcResult res

/-- The parameters of R461. -/
def State.idcParams (s : State) (a : AtrInfo) : State :=
  let tb := (a.of 1 1).getD 0x4D
  let w := (a.byte 1 2).getD 0 * 2 ^ 16 + tb / 16 * 2 ^ 12 + tb % 16 * 2 ^ 8 + (a.byte 2 2).getD 10
  let s := s.setRegN R.IDC_PARAMS (0x11 * 2 ^ 24 + w)
  s.withIdc { s.idc with edcCrc := nbit ((a.of 1 2).getD 0) 0 }

/-- The ATR is good: specific mode, PPS, or the first protocol offered (R460). -/
def State.idcNegotiate (s : State) (a : AtrInfo) : State :=
  let s := s.idcParams a
  let first := a.protos.headD 0
  let ta1 := (a.byte 1 0).getD 0x11
  let t := s.fld R.IDC_CFG_T
  match a.byte 2 0 with
  | some ta2 => s.idcReady (ta2 % 16) (if nbit ta2 4 then 0x11 else ta1)
  | none =>
    if s.flag R.IDC_CFG_PPS_EN && (ta1 != 0x11 || t != first) then
      if !a.protos.contains t then s.idcFail 3
      else
        let d := diOf (ta1 % 16)
        let pps1 := if d ≠ 0 ∧ d ≤ diOf (s.fld R.IDC_CFG_DMAX) then ta1 else 0x11
        let b := fun n => BitVec.ofNat 8 n
        let pck := b 0xFF ^^^ b (0x10 + t) ^^^ b pps1
        (s.withIdc { s.idc with ppsReq := [b 0xFF, b (0x10 + t), b pps1, pck] }).setFld R.IDC_STAT_STATE 3
    else s.idcReady first 0x11

/-- ATR_COMPLETE (R459 to R461): the bytes of the ATR as received, and whether a parity error was met. -/
def execAtrComplete (atr : List Byte) (parity : Bool) (s : State) : Host.Outcome State Fault Refusal :=
  let st := s.fld R.IDC_STAT_STATE
  if !s.live 22 || !(st = 1 ∨ st = 2) then .next s
  else
    let s := (s.advanceTo s.idc.stepAt).idcSettle
    let l := atr.take 33
    let s := (List.range 9).foldl (fun (s : State) i => s.setRegN (R.IDC_ATRW i) (leNat (slice l (4 * i) 4))) s
    let s := (s.setRegN R.IDC_ATRLEN l.length).setFlag R.IDC_STAT_CONV (atr.head? == some 0x3F#8)
    let a := readAtr atr
    let s := if parity then s.count C.IDC_PARCNT else s
    if parity || !a.good || 33 < atr.length then .next (s.idcFail 2)
    else
      match a.of 15 0 with
      | some ci =>
        if nbit ci (2 - s.idc.classNow) then .next (s.idcNegotiate a) else .next s.idcTryNext
      | none => .next (s.idcNegotiate a)

/-- NO_ATR_TIMEOUT (R459): no character within 40,000 cycles of the card's reset. -/
def execNoAtrTimeout (s : State) : Host.Outcome State Fault Refusal :=
  let st := s.fld R.IDC_STAT_STATE
  if !s.live 22 || !(st = 1 ∨ st = 2) then .next s
  else .next ((s.advanceTo (s.idc.stepAt + s.idcCycles 40000)).idcSettle.idcTryNext)

/-- ATR_GAP_TIMEOUT (R459): a gap of more than 9600 etu, or an ATR longer than 19,200 etu. -/
def execAtrGapTimeout (s : State) : Host.Outcome State Fault Refusal :=
  let st := s.fld R.IDC_STAT_STATE
  if !s.live 22 || !(st = 1 ∨ st = 2) then .next s
  else .next ((s.advanceTo s.idc.stepAt).idcSettle.idcFail 2)

/-- NEXT_CLASS_ACTIVATION (R459): 10 ms after the deactivation. -/
def execNextClassActivation (s : State) : Host.Outcome State Fault Refusal :=
  match s.live 22, s.idc.retryAt with
  | true, some t =>
    let s := s.advanceTo t
    match s.idcNextClass (s.idc.classNow + 1) with
    | some c => .next (s.idcActivate c)
    | none => .next ((s.withIdc { s.idc with retryAt := none }).idcResult 1)
  | _, _ => .next s

/-- PPS_EXCHANGE (R460): the response, empty when none came within 9600 etu. -/
def execPpsExchange (resp : List Byte) (s : State) : Host.Outcome State Fault Refusal :=
  if !s.live 22 || s.fld R.IDC_STAT_STATE ≠ 3 then .next s
  else
    let q := s.idc.ppsReq
    let t := (q.getD 1 0).toNat % 16
    let short := [0xFF#8, BitVec.ofNat 8 t, 0xFF#8 ^^^ BitVec.ofNat 8 t]
    if resp = q then .next (s.idcReady t (q.getD 2 0).toNat)
    else if resp = short then .next (s.idcReady t 0x11)
    else .next (s.idcFail 3)

/-! ### Transfers (R462 to R466) -/

/-- A byte of the transmit buffer. -/
def State.idcTx (s : State) (k : Nat) : Nat := (tget 0 s.idc.tx k).toNat

/-- IDC_CTRL.GO (R462, R463, R465). -/
def State.idcGo (s : State) : State :=
  let len := s.fld R.IDC_XFER_LEN
  let t1 := s.fld R.IDC_STAT_PROTO = 1
  let dirIn := s.flag R.IDC_XFER_IN
  let ok := if t1 then decide (3 ≤ len ∧ len ≤ 257) else if dirIn then len == 5 else decide (5 ≤ len ∧ len ≤ 260)
  if s.fld R.IDC_STAT_STATE ≠ 4 || !ok then s.setFld R.IDC_RESULT_RESULT 10
  else
    let p3 := s.idcTx 4
    let n := if t1 then 0 else if dirIn then (if p3 = 0 then 256 else p3) else len - 5
    (s.withIdc { s.idc with rxBytes := [], dataLeft := n, inDir := dirIn }).setFld R.IDC_STAT_STATE 5

/-- A transfer ends (R462, R465, R466): with OK or PROC the receive buffer and RXLEN hold the response, else RXLEN is 0; after a
block of T=1 BWTX is 1 again. -/
def State.idcEnd (s : State) (res : Nat) (resp : List Byte) : State :=
  let s := s.setFld R.IDC_STAT_STATE 4
  let s := if s.fld R.IDC_STAT_PROTO = 1 then s.setRegN R.IDC_BWTX 1 else s
  let s := if res = 0 ∨ res = 7 then
      (s.withIdc { s.idc with rx := (List.range resp.length).zip resp }).setRegN R.IDC_RXLEN resp.length
    else s.setRegN R.IDC_RXLEN 0
  s.idcResult res

/-- Data that a T=0 procedure byte moves: `n` bytes of what follows it, or `n` bytes sent (R463). -/
def State.idcMove (s : State) (n : Nat) (follow : List Byte) : State :=
  if s.idc.inDir then
    let got := follow.take n
    s.withIdc { s.idc with rxBytes := s.idc.rxBytes ++ got, dataLeft := s.idc.dataLeft - got.length }
  else s.withIdc { s.idc with dataLeft := s.idc.dataLeft - n }

/-- PROCEDURE_BYTE (R463, R464): the byte, the characters that follow it, and how often in a row a character failed its
parity. -/
def execProcedureByte (b : Byte) (follow : List Byte) (errs : Fin 8) (s : State) : Host.Outcome State Fault Refusal :=
  if !s.live 22 || s.fld R.IDC_STAT_STATE ≠ 5 || s.fld R.IDC_STAT_PROTO ≠ 0 then .next s
  else
    let s := s.countN C.IDC_PARCNT errs.val
    let ins := s.idcTx 1
    if min 4 (s.fld R.IDC_CFG_REP) < errs.val then .next (s.idcEnd 4 [])
    else if b = 0x60#8 then .next s
    else if b.toNat = ins then .next (s.idcMove s.idc.dataLeft follow)
    else if b.toNat = 255 - ins then .next (s.idcMove (min 1 s.idc.dataLeft) follow)
    else if b.toNat / 16 = 6 ∨ b.toNat / 16 = 9 then .next (s.idcEnd 0 (s.idc.rxBytes ++ [b, follow.headD 0]))
    else .next (s.idcEnd 7 (s.idc.rxBytes ++ [b]))

/-- The CRC of T=1 (ISO/IEC 13239) over bytes. -/
def crc16 (l : List Byte) : Nat :=
  let step := fun (c : Nat) => if c % 2 = 1 then (c / 2) ^^^ 0x8408 else c / 2
  let one := fun (c : Nat) (b : Byte) => (List.range 8).foldl (fun c _ => step c) (c ^^^ b.toNat)
  (l.foldl one 0xFFFF) ^^^ 0xFFFF

/-- T1_BLOCK_RECEIVED (R465): a block with its EDC, and how many characters failed their parity. -/
def execT1BlockReceived (blk : List Byte) (errs : Fin 8) (s : State) : Host.Outcome State Fault Refusal :=
  if !s.live 22 || s.fld R.IDC_STAT_STATE ≠ 5 || s.fld R.IDC_STAT_PROTO ≠ 1 then .next s
  else
    let n := if s.idc.edcCrc then 2 else 1
    let body := blk.take (blk.length - n)
    let good := if s.idc.edcCrc then beNat (blk.drop (blk.length - 2)) == crc16 body
      else blk.foldl (fun (x y : Byte) => x ^^^ y) 0 == 0
    if errs.val ≠ 0 then .next ((s.countN C.IDC_PARCNT errs.val).idcEnd 4 [])
    else if !good || blk.length < 3 + n then .next ((s.count C.IDC_EDCCNT).idcEnd 6 [])
    else .next (s.idcEnd 0 body)

/-- WAITING_TIME_EXPIRY (R463, R465). -/
def execWaitingTimeExpiry (s : State) : Host.Outcome State Fault Refusal :=
  if !s.live 22 || s.fld R.IDC_STAT_STATE ≠ 5 then .next s
  else .next ((s.count C.IDC_TOCNT).idcEnd 5 [])

/-- IDC_CTRL.DEACT (R467). -/
def State.idcDeact (s : State) : State := (s.idcAbort 9).idcOff

/-- IDC_CTRL.WARM (R467): the card's reset is low for 500 cycles, then step 2 of R458. -/
def State.idcWarm (s : State) : State :=
  if s.fld R.IDC_STAT_STATE = 0 then s
  else
    let s := s.idcAbort 9
    (s.withIdc { s.idc with rst := false, clock := true, stepAt := s.now + s.idcCycles 500 }).setFld
      R.IDC_STAT_STATE 1

/-! ### SD host -/

/-- An SD operation ends: RESULT, DONE with E152 or ERR with E153; the password words are zeroed (R476). -/
def State.sdEnd (s : State) (res : Nat) : State :=
  let pw := decide (4 ≤ s.sdh.op ∧ s.sdh.op ≤ 8)
  let s := if pw then (List.range 16).foldl (fun (s : State) i => s.setRegN (R.SDH_PWD i) 0) s else s
  let s := s.withSdh { s.sdh with op := 0, left := 0, stop := false }
  let s := if s.fld R.SDH_STAT_STATE = 4 then s.setFld R.SDH_STAT_STATE (if s.sdh.locked then 2 else 3) else s
  let s := s.setFld R.SDH_RESULT_RESULT res
  if res = 0 then (s.setFld R.SDH_EVT_DONE 1).raise 152 else (s.setFld R.SDH_EVT_ERR 1).raise 153

/-- The card is powered off (R477): pins low, STATE OFF. -/
def State.sdOff (s : State) : State :=
  let s := s.withSdh { s.sdh with pwren := false, vsel := false, locked := false, capacity := 0 }
  (s.setFld R.SDH_STAT_STATE 0).setFld R.SDH_STAT_V18 0

/-- An operation in progress ends with a result, and the card is powered off. -/
def State.sdAbort (s : State) (res : Nat) : State := (if s.sdh.op = 0 then s else s.sdEnd res).sdOff

/-- SDH_CTRL.INIT (R470). -/
def State.sdInit (s : State) : State :=
  if s.fld R.SDH_STAT_STATE = 0 && s.flag R.SDH_STAT_PRESENT then
    (s.withSdh { s.sdh with op := 15, pwren := true }).setFld R.SDH_STAT_STATE 1
  else s.setFld R.SDH_RESULT_RESULT 12

/-- Failures that count (chapter 19, Registers): a response's CRC, timeouts. -/
def State.sdCount (s : State) (res : Nat) : State :=
  if res = 2 ∨ res = 4 then s.count C.SDH_CRCCNT
  else if res = 1 ∨ res = 3 ∨ res = 6 ∨ res = 14 then s.count C.SDH_TOCNT
  else s

/-- Steps 6 and 7 of R470: the highest mode that the card, the signalling and MAXMODE allow, SDR104 tuned or SDR50. -/
def State.sdNegotiate (s : State) (r : SdInitResult) : State :=
  let v18 := s.sdh.vsel
  let m := min (min r.mode.val (s.fld R.SDH_CFG_MAXMODE)) (if v18 then 3 else 1)
  let m := if m = 3 ∧ !r.tuned then 2 else m
  let s := (s.setFld R.SDH_STAT_MODE m).setFld R.SDH_STAT_STATE 3
  if m = 3 then s.setFld R.SDH_STAT_PHASE r.phase.toNat else s

/-- SD_INIT_DONE (R470, R471): READY, LOCKED, or a failure that leaves the card powered off. -/
def execSdInitDone (r : SdInitResult) (s : State) : Host.Outcome State Fault Refusal :=
  if !s.live 22 || s.sdh.op ≠ 15 then .next s
  else if r.result ≠ 0 then
    .next (((s.sdCount r.result.toNat).setFld R.SDH_STAT_STATE 0).sdEnd r.result.toNat).sdOff
  else
    let v18 := r.v18 && s.flag R.SDH_CFG_UHS_EN
    let s := s.withSdh { s.sdh with vsel := v18, capacity := r.blocks, locked := r.locked }
    let s := (s.setFlag R.SDH_STAT_V18 v18).setFld R.SDH_STAT_RCA r.rca.toNat
    let win := leBytes 16 r.cid.toNat ++ leBytes 16 r.csd.toNat
    let s := (List.range 8).foldl (fun (s : State) i => s.setRegN (R.SDH_CIDCSD i) (leNat (slice win (4 * i) 4))) s
    let s := if r.locked then s.setFld R.SDH_STAT_STATE 2 else s.sdNegotiate r
    .next (s.sdEnd 0)

/-- SDH_CTRL.TUNE (R471): only while READY in SDR104. -/
def State.sdTune (s : State) : State :=
  if s.fld R.SDH_STAT_STATE = 3 && s.fld R.SDH_STAT_MODE = 3 then s.withSdh { s.sdh with op := 14 } else s

/-- Tuning ends (R471): the centre of the widest window, or SDR50 when no phase passes. -/
def State.sdTuned (s : State) (ok : Bool) (phase : Nat) : State :=
  if s.sdh.op ≠ 14 then s
  else
    let s := s.withSdh { s.sdh with op := 0 }
    if ok then s.setFld R.SDH_STAT_PHASE phase else s.setFld R.SDH_STAT_MODE 2

/-- The memory address of SDH_ADDR. -/
def State.sdAddr (s : State) : Nat := s.fld R.SDH_ADDR_HI_ADDR * 2 ^ 16 + s.fld R.SDH_ADDR_LO_ADDR * 16

/-- Whether an address lies in SRAM or DRAM. -/
def inRam (a : Nat) : Bool := (0x10000000 ≤ a && a < 0x10200000) || 0x80000000 ≤ a

/-- SDH_CTRL.GO (R473, R476). -/
def State.sdGo (s : State) : State :=
  let op := s.fld R.SDH_OP_OP
  let st := s.fld R.SDH_STAT_STATE
  let refuse := fun (s : State) n => s.setFld R.SDH_RESULT_RESULT n
  let start := fun (s : State) => (s.withSdh { s.sdh with op := op }).setFld R.SDH_STAT_STATE 4
  if s.sdh.op ≠ 0 then refuse s 12
  else if op = 1 ∨ op = 2 then
    let n := s.fld R.SDH_BLKCNT_CNT
    let lba := s.fld R.SDH_LBA_HI_LBA * 2 ^ 16 + s.fld R.SDH_LBA_LO_LBA
    if st = 2 then refuse s 10
    else if st ≠ 3 || !inRam s.sdAddr || n = 0 || s.sdh.capacity < lba + n then refuse s 12
    else
      let s := (start s).setRegN R.SDH_DONEBLK 0
      s.withSdh { s.sdh with addr := s.sdAddr, left := n, stop := false }
  else if op = 3 then (if st = 2 ∨ st = 3 then start s else refuse s 12)
  else if op = 4 ∨ op = 5 ∨ op = 6 then (if st = 3 then start s else refuse s 12)
  else if op = 7 ∨ op = 8 then (if st = 2 then start s else refuse s 12)
  else refuse s 12

/-- The card answers a command or a password operation (R472, R473, R476). -/
def State.sdReply (s : State) (r : SdReply) : State :=
  if s.sdh.op < 3 ∨ 8 < s.sdh.op then s
  else
    let typ := if s.sdh.op = 3 then s.fld R.SDH_OP_RTYPE else 1
    let word := fun i => BitVec.ofNat 32 (r.resp.toNat / 2 ^ (32 * i))
    let keep := fun (s : State) => if typ = 0 then s
      else if typ = 3 then (List.range 4).foldl (fun (s : State) i => s.setReg (R.SDH_RESP i) (word i)) s
      else s.setReg (R.SDH_RESP 0) (word 0)
    if typ = 0 ∨ r.kind = 0 then (keep s).sdEnd 0
    else if r.kind = 1 then (s.sdCount 1).sdEnd 1
    else if r.kind = 2 then (s.sdCount 2).sdEnd 2
    else (keep s).sdEnd 7

/-- A card that is unlocked or erased goes through steps 6 and 7 of R470 before the operation ends (R476). -/
def State.sdUnlock (s : State) (r : SdReply) (n : SdInitResult) : State :=
  if !(s.sdh.op = 7 ∨ s.sdh.op = 8) then s
  else if r.kind = 0 then ((s.withSdh { s.sdh with locked := false }).sdNegotiate n).sdReply r
  else s.sdReply r

/-- A block of a transfer has moved: it counts, and the transfer ends after the last one or at STOP (R474, R475). -/
def State.sdBlockMoved (s : State) : State :=
  let s := s.setRegN R.SDH_DONEBLK (s.regN R.SDH_DONEBLK + 1)
  let s := s.withSdh { s.sdh with addr := s.sdh.addr + 512, left := s.sdh.left - 1 }
  if s.sdh.stop then s.sdEnd 11 else if s.sdh.left = 0 then s.sdEnd 0 else s

/-- SD_BLOCK (R474): a block read passes its CRC16 on all lines or fails; a block written gets a positive or a negative
token. -/
def execSdBlock (data : List Byte) (ok : Bool) (s : State) : Host.Outcome State Fault Refusal :=
  if !s.live 22 then .next s
  else if s.sdh.op = 1 then
    if !ok then .next ((s.sdCount 4).sdEnd 4)
    else
      let r := s.memWrite (engineRid 5) s.sdh.addr (slice data 0 512)
      if r.1 then .next ((r.2.setRegN R.SDH_ERRADDR r.2.sdh.addr).sdEnd 13) else .next r.2.sdBlockMoved
  else if s.sdh.op = 2 then
    let r := s.memRead (engineRid 5) s.sdh.addr 512
    if r.1.2 then .next ((r.2.setRegN R.SDH_ERRADDR r.2.sdh.addr).sdEnd 13)
    else if ok then .next r.2.sdBlockMoved
    else .next (r.2.sdEnd 5)
  else .next s

/-- SD_TIMEOUT (R472, R474, R476): 0 no response within 64 clocks, 1 no data within 100 ms, 2 the card still busy. -/
def execSdTimeout (kind : Fin 3) (s : State) : Host.Outcome State Fault Refusal :=
  let op := s.sdh.op
  if !s.live 22 || op = 0 || op = 14 then .next s
  else if kind = 0 then
    if op = 15 then .next (((s.sdCount 1).setFld R.SDH_STAT_STATE 0).sdEnd 1).sdOff else .next ((s.sdCount 1).sdEnd 1)
  else if kind = 1 then (if op = 1 then .next ((s.sdCount 3).sdEnd 3) else .next s)
  else if op = 2 ∨ (4 ≤ op ∧ op ≤ 8) then .next ((s.sdCount 6).sdEnd 6)
  else .next s

/-! ### Detection, power -/

/-- CARD_INSERTED (R455, R456): accepted after 10 ms. -/
def execCardInserted (sd : Bool) (s : State) : Host.Outcome State Fault Refusal :=
  if !s.live 22 then .next s
  else if sd then
    if s.flag R.SDH_STAT_PRESENT then .next s
    else .next (((s.setFld R.SDH_STAT_PRESENT 1).setFld R.SDH_EVT_INSERTED 1).raise 151)
  else if s.flag R.IDC_STAT_PRESENT then .next s
  else .next (((s.setFld R.IDC_STAT_PRESENT 1).setFld R.IDC_EVT_INSERTED 1).raise 148)

/-- CARD_REMOVED (R455, R467, R468, R477): what is in progress ends with REMOVED; the card is deactivated or powered off. -/
def execCardRemoved (sd : Bool) (s : State) : Host.Outcome State Fault Refusal :=
  if !s.live 22 then .next s
  else if sd then
    if !s.flag R.SDH_STAT_PRESENT then .next s
    else .next ((((s.setFld R.SDH_STAT_PRESENT 0).setFld R.SDH_EVT_REMOVED 1).raise 151).sdAbort 8)
  else if !s.flag R.IDC_STAT_PRESENT then .next s
  else .next ((((s.setFld R.IDC_STAT_PRESENT 0).setFld R.IDC_EVT_REMOVED 1).raise 148).idcAbort 8).idcOff

/-- PD22 is to switch off: active cards are deactivated, transfers end with ABORTED (R456). -/
def State.cardsOff (s : State) : State := ((s.idcAbort 9).idcOff).sdAbort 11

/-! ### Registers -/

/-- A word of a card buffer from the present one and a masked write. -/
def maskedHalf (old data : Nat) : Nat :=
  let m := nbits data 31 16
  (old &&& (65535 - m)) ||| (nbits data 15 0 &&& m)

/-- Whether a masked write writes 1 to a bit. -/
def maskedOne (data : Word) (bit : Nat) : Bool := nbit data.toNat bit && nbit data.toNat (16 + bit)

/-- What writes to IDC_ registers do beyond their fields. -/
def idcWrite (_rid : Rid) (a : Nat) (data _old : Word) (s : State) : State :=
  if a = R.IDC_CTRL then
    let act := maskedOne data 15
    let deact := maskedOne data 14
    let warm := maskedOne data 13
    let go := maskedOne data 12
    let s := (s.setRegN a 0).idcSettle
    let s := if deact then s.idcDeact else s
    let s := if warm then s.idcWarm else s
    let s := if act then s.idcAct else s
    if go then s.idcGo else s
  else if a = R.IDC_CLKDIV then s.setFld R.IDC_CLKDIV_DIV (min 600 (max 120 (s.fld R.IDC_CLKDIV_DIV)))
  else if a = R.IDC_BUFDATA then
    let p := 2 * s.fld R.IDC_BUFADDR_ADDR
    let old := s.idcTx p + 256 * s.idcTx (p + 1)
    let v := maskedHalf old data.toNat
    let s := if s.flag R.IDC_BUFADDR_RXSEL || 272 ≤ p then s
      else s.withIdc { s.idc with tx := tput (tput s.idc.tx p (BitVec.ofNat 8 v)) (p + 1) (BitVec.ofNat 8 (v / 256)) }
    (s.setReg a 0).setFld R.IDC_BUFADDR_ADDR (p / 2 + 1)
  else s

/-- Reads of IDC_ registers with a part outside their fields. -/
def idcRead (_rid : Rid) (a : Nat) (s : State) : Word × State :=
  let s := s.idcSettle
  if a = R.IDC_BUFDATA then
    let p := 2 * s.fld R.IDC_BUFADDR_ADDR
    let b := if s.flag R.IDC_BUFADDR_RXSEL then s.idc.rx else s.idc.tx
    (BitVec.ofNat 32 ((tget 0 b p).toNat + 256 * (tget 0 b (p + 1)).toNat), s.setFld R.IDC_BUFADDR_ADDR (p / 2 + 1))
  else (s.reg a, s)

/-- What writes to SDH_ registers do beyond their fields. -/
def sdhWrite (_rid : Rid) (a : Nat) (data old : Word) (s : State) : State :=
  if a = R.SDH_CTRL then
    let init := maskedOne data 15
    let stop := maskedOne data 14
    let off := maskedOne data 13
    let tune := maskedOne data 12
    let go := maskedOne data 11
    let s := s.setRegN a 0
    let s := if off then (s.sdAbort 11).setFld R.SDH_RESULT_RESULT 11 else s
    let s : State := if stop && (s.sdh.op = 1 ∨ s.sdh.op = 2) then s.withSdh { s.sdh with stop := true } else s
    let s := if init then s.sdInit else s
    let s := if tune then s.sdTune else s
    if go then s.sdGo else s
  else if R.SDH_PWD 0 ≤ a ∧ a < R.SDH_PWD 16 then s.setRegN a (maskedHalf old.toNat data.toNat)
  else s

end Sys2Proof.Machine
end

