-- ==== Sys2Proof/Machine/Entropy.lean ====
section
/-! DEFINITION. The Brine pool and the DRBG (R372 to R381): health tests, start-up, estimates, conditioning, and the bits
that the DRBG gives out. -/

namespace Sys2Proof.Machine

/-- A start-up begins (R375): the output FIFO and the DRBG are emptied and zeroed, the estimates restart. -/
def State.trnStartup (s : State) : State :=
  let s := s.withTrn { s.trn with fifo := [], drbg := {}, out := [], starting := some s.now }
  let s := (s.setFld R.TRN_STAT_DRBG_OK 0).setFld R.TRN_STAT_STARTUP_OK 0
  ((s.setFld R.TRN_STAT_EST_VALID 0).setRegN R.TRN_BIAS 0).setRegN R.TRN_CORR 0

/-- A health-test failure (R374 to R376): the third within 1 s halts the pool, any other starts a start-up; the tamper
supervisor is told (source 15). -/
def State.trnFailure (s : State) : State :=
  let s := s.report 15 0 0
  let recent := s.trn.fails.filter (fun t => s.now < t + 1000000000) ++ [s.now]
  let s := s.withTrn { s.trn with fails := recent }
  if 3 ≤ recent.length then
    ((s.trnStartup.setFld R.TRN_STAT_HALT 1).withTrn { s.trnStartup.trn with starting := none })
  else if s.flag R.TRN_STAT_HALT then s
  else s.trnStartup

/-- RING_MEASUREMENT (R373): both rings in MHz, and whether the count per sampling period was the same 256 times over. A
ring found dead, or the rings found locked, raises E94 and is a health-test failure. -/
def execRingMeasurement (fast slow : BitVec 16) (same : Bool) (s : State) : Host.Outcome State Fault Refusal :=
  if !s.vigil then .next s
  else
    let dead := fast.toNat < 900 || 2700 < fast.toNat || slow.toNat < 320 || 960 < slow.toNat
    let was := s.flag R.TRN_STAT_DEAD || s.flag R.TRN_STAT_LOCKED
    let s := s.setRegN R.TRN_FREQ (fast.toNat * 2 ^ 16 + slow.toNat)
    let s := (s.setFlag R.TRN_STAT_DEAD dead).setFlag R.TRN_STAT_LOCKED same
    .next (if (dead || same) && !was then (s.raise 94).trnFailure else s)

/-- HEALTH_TEST_FAILURE (R374): of the adaptive proportion test or of the repetition count test. -/
def execHealthTestFailure (apt : Bool) (s : State) : Host.Outcome State Fault Refusal :=
  if !s.vigil then .next s
  else .next (((if apt then s.count C.TRN_APTFAIL else s.count C.TRN_RCTFAIL).raise 93).trnFailure)

/-- STARTUP_TEST_DONE (R375): 1024 samples have been tested, 6.4 µs after the start-up began. It passes when no ring is
dead or locked; otherwise it is a failure. -/
def execStartupTestDone (s : State) : Host.Outcome State Fault Refusal :=
  match s.trn.starting with
  | none => .next s
  | some t =>
    if !s.vigil || s.flag R.TRN_STAT_HALT then .next s
    else
      let s := s.advanceTo (t + 6400)
      let s := s.withTrn { s.trn with starting := none }
      .next (if s.flag R.TRN_STAT_DEAD || s.flag R.TRN_STAT_LOCKED then (s.raise 94).trnFailure
        else s.setFld R.TRN_STAT_STARTUP_OK 1)

/-- ESTIMATE_BLOCK_END (R377): the ones of a block of 65,536 samples and its lag-1 correlation. -/
def execEstimateBlockEnd (ones : Fin 65537) (corr : BitVec 16) (s : State) : Host.Outcome State Fault Refusal :=
  if !s.vigil || s.flag R.TRN_STAT_HALT then .next s
  else
    let bias : Int := min ((ones.val : Int) - 32768) 32767
    let c : Int := if ones.val = 0 ∨ ones.val = 65536 then 32767 else sgn 16 corr.toNat
    let out := (s.fld R.TRN_LIM_BIAS_LIM : Int) < bias.natAbs || (s.fld R.TRN_LIM_CORR_LIM : Int) < c.natAbs
    let was := s.flag R.TRN_STAT_EST_OUT
    let s := (s.setRegN R.TRN_BIAS (unsgn 16 bias)).setRegN R.TRN_CORR (unsgn 16 c)
    let s := (s.setFld R.TRN_STAT_EST_VALID 1).setFlag R.TRN_STAT_EST_OUT out
    .next (if out && !was then s.raise 95 else s)

/-- CONDITIONED_BLOCK (R378): 512 tested samples become one 256-bit block of the output FIFO. -/
def execConditionedBlock (samples : BitVec 512) (s : State) : Host.Outcome State Fault Refusal :=
  if !s.vigil || !s.flag R.TRN_STAT_STARTUP_OK || 16 ≤ s.trn.fifo.length then .next s
  else
    let b := BitVec.ofNat 256 (beNat (blockCipherDf (beBytes 64 samples.toNat) 32))
    .next (s.withTrn { s.trn with fifo := s.trn.fifo ++ [b] })

/-- The device identity as bytes, the personalisation string of R379: FUS_UID_LO then FUS_UID_HI, little-endian (log entry
13). -/
def State.uidBytes (s : State) : List Byte :=
  leBytes 4 (s.regN R.FUS_UID_LO) ++ leBytes 4 (s.regN R.FUS_UID_HI)

/-- DRBG_INSTANTIATE (R379): one block as entropy input and one as nonce; DRBG_OK and E92. -/
def execDrbgInstantiate (s : State) : Host.Outcome State Fault Refusal :=
  match s.trn.fifo with
  | e :: n :: r =>
    if s.vigil && s.flag R.TRN_STAT_STARTUP_OK && !s.flag R.TRN_STAT_DRBG_OK then
      let d := drbgInstantiate (beBytes 32 e.toNat) (beBytes 32 n.toNat) s.uidBytes
      .next (((s.withTrn { s.trn with fifo := r, drbg := d, out := [] }).setFld R.TRN_STAT_DRBG_OK 1).raise 92)
    else .next s
  | _ => .next s

/-- Generate calls between reseeds: TRN_RSINT with its bounds. -/
def State.rsint (s : State) : Nat := max 1 (min 1000000 (s.fld R.TRN_RSINT_RSINT))

/-- One generate call, after the reseed that is due; none while a reseed is due and no block is there, or without the DRBG
(R379). -/
def State.drbgCall (s : State) : Option State :=
  if !s.flag R.TRN_STAT_DRBG_OK then none
  else
    let due := s.flag R.TRN_CTRL_PR || s.rsint < s.trn.drbg.calls
    match due, s.trn.fifo with
    | true, [] => none
    | true, b :: r =>
      let g := drbgGenerate (drbgReseed s.trn.drbg (beBytes 32 b.toNat))
      some (s.withTrn { s.trn with fifo := r, drbg := g.2,
                                        out := s.trn.out ++ (List.range 16).map (fun i =>
                                          BitVec.ofNat 32 (leNat (slice g.1 (4 * i) 4))) })
    | false, _ =>
      let g := drbgGenerate s.trn.drbg
      some (s.withTrn { s.trn with drbg := g.2,
                                        out := s.trn.out ++ (List.range 16).map (fun i =>
                                          BitVec.ofNat 32 (leNat (slice g.1 (4 * i) 4))) })

/-- Take `n` words of DRBG output, generating as needed, with at most `k` calls. Each word goes to one requester (R380). -/
def State.drbgTake (n : Nat) : Nat → State → Option (List Word × State)
  | 0, s => if n ≤ s.trn.out.length then
      some (s.trn.out.take n, (s.withTrn { s.trn with out := s.trn.out.drop n })) else none
  | k + 1, s =>
    if !s.flag R.TRN_STAT_DRBG_OK then none
    else if n ≤ s.trn.out.length then
      some (s.trn.out.take n, (s.withTrn { s.trn with out := s.trn.out.drop n }))
    else
      match s.drbgCall with
      | none => none
      | some s => State.drbgTake n k s

/-- `n` random words for the PKA, the responder or the debug port. -/
def State.randWords (s : State) (n : Nat) : Option (List Word × State) := State.drbgTake n 4 s

/-- A random number of `n` words. -/
def State.randNat (s : State) (n : Nat) : Option (Nat × State) :=
  (s.randWords n).map (fun r => (r.1.foldl (fun x w => x * 2 ^ 32 + w.toNat) 0, r.2))

/-- A read of TRN_RAND (R379, R380): 32 bits, or zero counted in TRN_UNDER. -/
def State.trnRandRead (s : State) : Word × State :=
  match s.randWords 1 with
  | some (w :: _, s') => (w, s')
  | _ => (0, s.count C.TRN_UNDER)

/-- A read of TRN_RAW (R381): 16 raw samples with their test results while RAWTAP is set; a free value where no command gives
them. -/
def State.trnRawRead (s : State) : Word × State :=
  match s.trn.raw with
  | r :: q =>
    if s.flag R.TRN_CTRL_RAWTAP then
      (BitVec.ofNat 32 (2 ^ 31 + r.toNat % 2 ^ 18), (s.withTrn { s.trn with raw := q }))
    else (0, (s.withTrn { s.trn with raw := q }))
  | [] =>
    if s.flag R.TRN_CTRL_RAWTAP then
      let got := s.draw
      (BitVec.ofNat 32 (2 ^ 31 + got.1 % 2 ^ 18), got.2)
    else (0, s)

/-- Whether a requester identity carries the Warden bit (R279). -/
def warden (rid : Rid) : Bool := nbit rid.toNat 2

/-- The master number of a requester identity (R279). -/
def master (rid : Rid) : Nat := nbits rid.toNat 7 5

/-- Whether a requester is a Warden thread of M0 or M1. -/
def wardenCore (rid : Rid) : Bool := warden rid && master rid ≤ 1

/-- What a write to TRN_CTRL does beyond its fields (R375, R376, R381): RAWTAP takes writes of Warden RIDs only; RETRY
starts a start-up, and a Warden's RETRY clears HALT. -/
def trnWrite (rid : Rid) (a : Nat) (_data old : Word) (s : State) : State :=
  if a = R.TRN_CTRL then
    let s := if warden rid then s else s.setFld R.TRN_CTRL_RAWTAP (nbits old.toNat 8 8)
    let retry := s.flag R.TRN_CTRL_RETRY
    let s := s.setFld R.TRN_CTRL_RETRY 0
    if retry then
      if s.flag R.TRN_STAT_HALT then
        if warden rid then
          (s.withTrn { s.trn with fails := [] }).setFld R.TRN_STAT_HALT 0 |>.trnStartup
        else s
      else s.trnStartup
    else s
  else s

end Sys2Proof.Machine
end

