-- ==== Sys2Proof/Machine/Cipher.lean ====
section
/-! DEFINITION. The line cipher (R264 to R284): lane directions and pipelines, security associations, frames and superframes,
key pages, and masking. -/

namespace Sys2Proof.Machine

/-- An event that is raised at most once per millisecond (R271). -/
def State.raiseSlow (s : State) (k : Nat) : State :=
  match s.cip.rate.find? (fun p => p.1 == k) with
  | some p => if s.now < p.2 + 1000000 then s
    else (s.withCip { s.cip with rate := tput s.cip.rate k s.now }).raise k
  | none => (s.withCip { s.cip with rate := tput s.cip.rate k s.now }).raise k

/-! ### Ending what is in progress (R266, R282) -/

/-- A protected lane direction stops: what is being received fails, what is being sent ends in a Bittern code. -/
def State.dirStop (s : State) (n dir : Nat) : State :=
  if dir = 0 then
    if s.varlas n then (s.laneFailUnits n)
    else s.modLane n (fun l => { l with rx := l.rx.map (fun f => if f.dest = 3 || f.pass then { f with bad := true } else f) })
  else if s.varlas n then
    (List.range 64).foldl (fun s c =>
      if (s.cont 1 (64 * n + c)).en then s.modTx (64 * n + c) (fun c => { c with bittern := 1 }) else s) s
  else s.modLane n (fun l => { l with bittern := true })

/-- A pipeline stops: every lane direction assigned to it stops at once. -/
def State.pipeStop (s : State) (p : Nat) : State :=
  (List.range 48).foldl (fun s k =>
    if s.laneProt (k / 2) (k % 2) && s.lanePipe (k / 2) (k % 2) == p then s.dirStop (k / 2) (k % 2) else s) s

/-- PIPE_UP of a pipeline clears. -/
def State.pipeDown (s : State) (p : Nat) : State :=
  if s.pipeUp p then
    (s.pipeStop p).setFld R.CIP_STAT_PIPE_UP (nput (s.fld R.CIP_STAT_PIPE_UP) p p 0)
  else s

/-- PIPE_UP of a pipeline sets. -/
def State.pipeStart (s : State) (p : Nat) : State :=
  s.setFld R.CIP_STAT_PIPE_UP (nput (s.fld R.CIP_STAT_PIPE_UP) p p 1)

/-- The lane direction an SA serves, if its index is a lane's: 256 + 4n + AN transmit, 352 + 2n + s Varlas receive; a receive SA
of an Ethernet lane is named by frames, not by lanes (R268, R270, R274). -/
def saDir (a : Nat) : Option (Nat × Nat) :=
  if 256 ≤ a ∧ a < 352 then some ((a - 256) / 4, 1) else if 352 ≤ a ∧ a < 400 then some ((a - 352) / 2, 0) else none

/-- An SA is disabled, and frames in progress under it end. -/
def State.saStop (s : State) (a : Nat) : State :=
  if !s.flag (R.CIP_SA0_EN a) then s
  else
    let s := s.setFld (R.CIP_SA0_EN a) 0
    match saDir a with
    | some (n, dir) => s.dirStop n dir
    | none => (List.range 24).foldl (fun s n =>
        s.modLane n (fun l => { l with rx := l.rx.map (fun f => if f.dest = 3 && f.arg = a then { f with bad := true } else f) })) s

/-! ### Key pages (R279 to R282) -/

/-- Whether an enabled SA names a page. -/
def State.saNames (s : State) (p a : Nat) : Bool := s.live 8 && s.flag (R.CIP_SA0_EN a) && s.fld (R.CIP_SA0_KP a) == p

/-- Whether a page is in use: named by an enabled SA or by the running PKA command (chapter 10, Registers). -/
def State.pageInUse (s : State) (p : Nat) : Bool :=
  (List.range 400).any (s.saNames p) ||
    (match s.cip.pkaRun with
     | some (w, _) =>
       let op := nbits w.toNat 3 0
       ((op == 1 || op == 3 || op == 4) && nbits w.toNat 20 16 == p) || (nbit w.toNat 9 && nbits w.toNat 25 21 == p)
     | none => false)

/-- An isolation fault (R281): logged, E85, and reported to the supervisor. -/
def State.isoFault (s : State) (rid : Rid) (page : Nat) : State :=
  let s := if s.live 8 then s.setRegN R.CIP_ISOLOG (2 ^ 31 + rid.toNat * 256 + page) else s
  (s.raise 85).report 14 rid.toNat page

/-- Pages are zeroed and freed; SAs that name them are disabled; E91 when one of them was claimed (R282). -/
def State.wipePages (s : State) (ps : List Nat) : State :=
  let any := ps.any (fun p => (s.page p).claimed)
  let s := ps.foldl (fun s p => ((List.range 400).filter (s.saNames p)).foldl State.saStop s) s
  let s := s.withCip { s.cip with pages := s.cip.pages.filter (fun p => !ps.contains p.1) }
  if any then s.raise 91 else s

/-- A key-page command ends: staging words zeroed, ERR set; a refused one raises E90. -/
def State.kpEnd (s : State) (err : Nat) : State :=
  let s := ((List.range 16).foldl (fun s i => s.setRegN (R.PKA_KSTG i) 0) s).setRegN R.PKA_KPSTAT err
  if err = 0 then s else s.raise 90

/-- A write of PKA_KPCMD (R280). Reserved codes do nothing but zero the staging words (log entry 26). -/
def State.kpCommand (s : State) (rid : Rid) (cmd p : Nat) : State :=
  let k := s.page p
  let mine := k.claimed && k.owner == rid
  let put := fun (k : KeyPage) => s.withCip { s.cip with pages := tput s.cip.pages p k }
  match cmd with
  | 1 =>
    if 1 < master rid then s.kpEnd 4
    else if k.claimed then s.kpEnd 2
    else (put { claimed := true, owner := rid }).kpEnd 0
  | 2 =>
    if !mine then (s.isoFault rid p).kpEnd 1
    else
      let v := (List.range 16).foldl (fun a i => a + s.regN (R.PKA_KSTG i) * 2 ^ (32 * i)) 0
      (put { k with bits := BitVec.ofNat 512 v, loaded := true }).kpEnd 0
  | 3 =>
    if !mine then (s.isoFault rid p).kpEnd 1
    else if s.pageInUse p then s.kpEnd 3
    else (s.withCip { s.cip with pages := s.cip.pages.filter (fun q => q.1 != p) }).kpEnd 0
  | 4 =>
    if warden rid then (s.wipePages [p]).kpEnd 0
    else (if mine then s else s.isoFault rid p).kpEnd 1
  | _ => s.kpEnd 0

/-! ### Security associations (R277, R281) -/

/-- Whether enabling an SA is refused: its page is not loaded or not the writer's, or another enabled Varlas SA names it. -/
def State.saBad (s : State) (rid : Rid) (a : Nat) : Bool :=
  let p := s.fld (R.CIP_SA0_KP a)
  let k := s.page p
  !k.claimed || !k.loaded || k.owner != rid ||
    (List.range 400).any (fun b => b != a && s.saNames p b && s.flag (R.CIP_SA0_VARLAS b))

/-- A write refused at an SA: an error response and SA_REJ. -/
def State.saReject (s : State) (a : Nat) (old : Word) : State := ((s.setReg a old).setFld R.CIP_STAT_SA_REJ 1).errResp

/-- A write to a word of an SA (R281). EXH clears when an SA is enabled (log entry 25). -/
def State.saWrite (s : State) (rid : Rid) (addr : Nat) (old : Word) : State :=
  let a := (addr - R.CIP_SA0 0) / 32
  let new := s.reg addr
  let word := (addr - R.CIP_SA0 0) % 32
  if word ≠ 0 then
    if s.flag (R.CIP_SA0_EN a) then s.saReject addr old else s
  else if nbit old.toNat 31 then
    if new.toNat = nput old.toNat 31 31 0 then (s.setReg addr old).saStop a else s.saReject addr old
  else if !nbit new.toNat 31 then s
  else
    let p := s.fld (R.CIP_SA0_KP a)
    let k := s.page p
    let bad := s.saBad rid a
    let s := if k.claimed && k.owner != rid then s.isoFault rid p else s
    if bad then s.saReject addr old else s.setFld (R.CIP_SA0_EXH a) 0

/-! ### Lane directions (R264, R273) -/

/-- The load of a lane in Gb/s. -/
def State.laneLoad (s : State) (n : Nat) : Nat := if s.laneMode n = 1 || s.laneMode n = 3 then 25 else 10

/-- The load assigned to a pipeline. -/
def State.pipeLoad (s : State) (p : Nat) : Nat :=
  (List.range 48).foldl (fun t k =>
    if s.laneProt (k / 2) (k % 2) && s.lanePipe (k / 2) (k % 2) == p then t + s.laneLoad (k / 2) else t) 0

/-- Setting RXEN or TXEN of a lane, bit `b` of CIP_LANEn_CFG: ignored with LANE_REJ when the pipeline has no room or no domain,
or a Varlas lane's indices 252 and 253 are held. -/
def State.protSet (s : State) (n dir : Nat) (en : Fld) : State :=
  let s0 := s.setFld en 0
  let p := s.lanePipe n dir
  let held := s0.heldIndices n dir ++ s0.heldCompanions n dir 8
  if 160 < s0.pipeLoad p + s.laneLoad n || !s.live (pipeDomain p) ||
      (s.varlas n && (held.contains 252 || held.contains 253)) then
    s0.setFld R.CIP_STAT_LANE_REJ 1
  else s

/-- A write of CIP_LANEn_CFG. -/
def State.laneProtWrite (s : State) (n : Nat) (old : Word) : State :=
  let o := old.toNat
  let s := if nbit o 31 || nbit o 30 then
      (s.setFld (R.CIP_LANE_CFG_RXPIPE n) (nbits o 29 28)).setFld (R.CIP_LANE_CFG_TXPIPE n) (nbits o 27 26)
    else s
  let s := if nbit o 31 && !s.flag (R.CIP_LANE_CFG_RXEN n) then s.dirStop n 0
    else if !nbit o 31 && s.flag (R.CIP_LANE_CFG_RXEN n) then s.protSet n 0 (R.CIP_LANE_CFG_RXEN n) else s
  if nbit o 30 && !s.flag (R.CIP_LANE_CFG_TXEN n) then s.dirStop n 1
  else if !nbit o 30 && s.flag (R.CIP_LANE_CFG_TXEN n) then s.protSet n 1 (R.CIP_LANE_CFG_TXEN n) else s

/-! ### Frames and superframes -/

/-- PROTECTED_FRAME_TRANSMIT (R268, R269). -/
def execProtectedFrameTransmit (n : Fin 24) (frame : List Byte) (whole : Bool) (s : State) : Host.Outcome State Fault Refusal :=
  if !s.laneSends n.val || s.varlas n.val then .next s
  else
    let r := s.protectTx n.val frame whole
    match r.1 with
    | none => .next r.2
    | some b =>
      let s := r.2.lineRaw n.val b
      .next (if whole then s else s.modLane n.val (fun l => { l with bittern := true }))

/-- A SecTAG as received (R267, R270): AN, confidentiality, the SCI when it is present, PN, the length of the tag. -/
structure SecTag where
  an : Nat := 0
  e : Bool := false
  c : Bool := false
  sci : Option Nat := none
  pn : Nat := 0
  len : Nat := 0
deriving DecidableEq, Repr

/-- The SecTAG at offset `o` of a frame, none when it is malformed: no EtherType 0x88E5, V set, SC with ES or SCB, a short length
that disagrees with the frame, or a frame too short. -/
def secTag (l : List Byte) (o : Nat) : Option SecTag :=
  let tci := (l.getD (o + 2) 0).toNat
  let sl := (l.getD (o + 3) 0).toNat
  let sc := nbit tci 5
  let len := if sc then 16 else 8
  let data := l.length - (o + len + 16)
  if be16 l o ≠ 0x88E5 || nbit tci 7 || (sc && (nbit tci 6 || nbit tci 4)) || l.length < o + len + 16 || 48 ≤ sl ||
      (sl ≠ 0 && sl ≠ data) || (sl = 0 && data < 48) then none
  else some ⟨tci % 4, nbit tci 3, nbit tci 2, if sc then some (beNat (slice l (o + 8) 8)) else none, beNat (slice l (o + 4) 4), len⟩

/-- The packet number of a received frame: with XPN its high half is recovered from the lowest acceptable one (log entry 13). -/
def recoverPn (xpn : Bool) (lowest lo : Nat) : Nat :=
  if !xpn then lo
  else
    let h := lowest / 2 ^ 32
    let l := lowest % 2 ^ 32
    (if l ≤ lo || lo + 2 ^ 31 > l then h else h + 1) % 2 ^ 32 * 2 ^ 32 + lo

/-- PROTECTED_FRAME_RECEIVE (R270, R271, R246): the frame the classifier sent to the cipher is dropped and counted, or decrypted
and searched a second time; its ICV is checked as its last byte passes. -/
def execProtectedFrameReceive (n : Fin 24) (s : State) : Host.Outcome State Fault Refusal :=
  match s.live 8, (s.lane n.val).rx with
  | true, some f =>
    let a := f.arg
    let gone := { f with dest := 0 }
    if f.dest ≠ 3 || f.pass then .next s
    else if !s.laneProt n.val 0 || !s.flag (R.CIP_SA0_EN a) then .next ((s.count C.CIP_RXNOSA).setRx n.val gone)
    else if !s.pipeUp (s.lanePipe n.val 0) then .next ((s.countFld (R.CIP_SAC_DROP_DROP a) 1).setRx n.val gone)
    else
      let o := s.secOff n.val f.bytes
      match secTag f.bytes o with
      | none => .next ((s.countFld (R.CIP_SAC_DROP_BADTAG a) 1).setRx n.val gone)
      | some t =>
        let sci := t.sci.getD (s.saSci a)
        if t.e != t.c || t.an ≠ s.fld (R.CIP_SA0_AN a) || sci ≠ s.saSci a then
          .next ((s.countFld (R.CIP_SAC_DROP_BADTAG a) 1).setRx n.val gone)
        else
          let lowest := s.saPn a
          let pn := recoverPn (s.flag (R.CIP_SA0_XPN a)) lowest t.pn
          let iv := s.saIv a sci pn
          let head := f.bytes.take (o + t.len)
          let data := slice f.bytes (o + t.len) (f.bytes.length - (o + t.len + 16))
          let icv := beNat (f.bytes.drop (f.bytes.length - 16))
          let r := if t.e then gcmDecrypt (s.saKey a) iv head data
            else (data, (gcmDecrypt (s.saKey a) iv (head ++ data) []).2)
          let ok := r.2 == icv
          let fail := fun (s : State) => (s.count (C.CIP_SAC_ICVFAIL a)).raiseSlow 80
          if s.flag (R.CIP_SA0_REPLAY a) && pn < lowest then
            let s := if ok then (s.count (C.CIP_SAC_LATE a)).raiseSlow 81 else fail s
            .next (s.setRx n.val gone)
          else
            let window := s.regN (R.CIP_SA_WINDOW a)
            let s := if !ok then fail s
              else
                let s := s.count (C.CIP_SAC_OK a)
                if s.flag (R.CIP_SA0_REPLAY a) then s.setSaPn a (max lowest (pn + 1 - window)) else s
            .next (s.classify n.val { f with bytes := f.bytes.take o ++ r.1, pass := true, bad := !ok })
  | _, _ => .next s

/-- The SA of a Varlas lane direction for an epoch (R274): index s is 1 from the first epoch that starts at or after the TAI
second of CIP_LANEn_VLSW. -/
def State.varlasSa (s : State) (n dir epoch : Nat) : Nat :=
  let sw := b2n (s.regN (R.CIP_LANE_VLSW n) ≤ epoch / 20000 % 2 ^ 32)
  if dir = 0 then 352 + 2 * n + sw else 256 + 4 * n + sw

/-- VARLAS_SUPERFRAME_ENCRYPT (R273 to R275): the payload blocks of indices 0 to 251 leave encrypted under the superframe's SFN
with their tag, or, when the SFN would be used again or the SA or pipeline is not there, with zeros in every container
position and in the tag. -/
def execVarlasSuperframeEncrypt (n : Fin 24) (epoch : Nat) (count : Byte) (marker : BitVec 64) (payload : List (BitVec 64))
    (s : State) : Host.Outcome State Fault Refusal :=
  if !s.laneSends n.val || !s.varlas n.val || !s.laneProt n.val 1 then .next s
  else
    let a := s.varlasSa n.val 1 epoch
    let sfn := epoch * s.epochLen n.val + count.toNat
    let text := (List.range 252).map (fun i => payload.getD i 0)
    let held := s.heldIndices n.val 1
    let blank : List Byte := ((List.range 252).flatMap (fun i =>
      beBytes 8 (if held.contains i then 0 else (text.getD i 0).toNat))) ++ List.replicate 16 0
    if !s.flag (R.CIP_SA0_EN a) || !s.pipeUp (s.lanePipe n.val 1) then
      .next ((s.countFld (R.CIP_SAC_DROP_DROP a) 1).lineRaw n.val blank)
    else if sfn ≤ s.saPn a then
      .next ((((s.countFld (R.CIP_SAC_DROP_DROP a) 1).count C.CIP_IVSKIP).raise 86).lineRaw n.val blank)
    else
      let iv := s.saSalt a / 2 ^ 64 * 2 ^ 64 + sfn % 2 ^ 64
      let r := gcmEncrypt (s.saKey a) iv (beBytes 8 marker.toNat) (text.flatMap (fun b => beBytes 8 b.toNat))
      .next ((s.setSaPn a sfn).lineRaw n.val (r.1 ++ beBytes 16 r.2))

/-- Whether a Varlas superframe passes the cipher of its lane (R276): its tag is verified under an SFN above the last. -/
def State.varlasVerify (s : State) (n epoch count : Nat) (tagOk : Bool) : Bool × State :=
  if !s.laneProt n 0 then (true, s)
  else
    let a := s.varlasSa n 0 epoch
    let sfn := epoch * s.epochLen n + count
    if !s.flag (R.CIP_SA0_EN a) then (false, s.count C.CIP_RXNOSA)
    else if !s.pipeUp (s.lanePipe n 0) then (false, s.countFld (R.CIP_SAC_DROP_DROP a) 1)
    else if tagOk && s.saPn a < sfn then (true, (s.count (C.CIP_SAC_OK a)).setSaPn a sfn)
    else (false, (s.count (C.CIP_SAC_ICVFAIL a)).raiseSlow 80)

/-! ### Masking and self-test (R283, R284) -/

/-- MASK_RESEED (R283): a reseed is due, every 65,536 cycles: the generator absorbs a block of the Brine pool, or goes without. -/
def execMaskReseed (p : Fin 4) (s : State) : Host.Outcome State Fault Refusal :=
  let k := p.val
  if !s.live 8 || !s.live (pipeDomain k) then .next s
  else
    let starved := 16 ≤ tget 0 s.cip.missed k
    match s.trn.fifo with
    | b :: r =>
      let good := tget 0 s.cip.good k + 1
      let s := s.withTrn { s.trn with fifo := r }
      let mask := shakeAbsorb (tget (List.replicate 25 0) s.cip.masks k) (beBytes 32 b.toNat)
      let s := s.withCip { s.cip with masks := tput s.cip.masks k mask }
      if !starved then .next (s.withCip { s.cip with missed := tdel s.cip.missed k, good := tput s.cip.good k good })
      else if good < 2 then .next (s.withCip { s.cip with good := tput s.cip.good k good })
      else
        .next ((s.withCip { s.cip with missed := tdel s.cip.missed k, good := tdel s.cip.good k }).pipeStart k)
    | [] =>
      let m := tget 0 s.cip.missed k + 1
      let most := if starved || s.pipeUp k then 16 else 15
      let s := s.withCip { s.cip with missed := tput s.cip.missed k (min most m), good := tdel s.cip.good k }
      if m = 16 && s.pipeUp k then .next (((s.pipeDown k).setFld R.CIP_STAT_MASK_STARVE 1).raise 84) else .next s

/-- CIPHER_SELF_TEST (R284): the known-answer test of a pipeline ends. -/
def execCipherSelfTest (p : Fin 4) (ok : Bool) (s : State) : Host.Outcome State Fault Refusal :=
  if !s.live 8 || !s.cip.tests.contains p.val then .next s
  else
    let s := s.withCip { s.cip with tests := s.cip.tests.filter (· != p.val) }
    .next (if ok then s.pipeStart p.val else (s.setFld R.CIP_STAT_SELFTEST_FAIL 1).raise 87)

/-- The pipelines of a domain that comes up begin their self-test (R284). -/
def State.pipesUp (s : State) (d : Nat) : State :=
  if (d = 8 || d = 9) && s.live 8 && s.flag R.CIP_CTRL_EN then
    s.withCip { s.cip with tests := s.cip.tests ++ (List.range 4).filter (fun p => pipeDomain p == d && !s.cip.tests.contains p) }
  else s

/-! ### Registers of CIP -/

/-- What writes to CIP_ registers do beyond their fields. -/
def cipWrite (rid : Rid) (a : Nat) (_data old : Word) (s : State) : State :=
  if a = R.CIP_CTRL then
    if s.flag R.CIP_CTRL_EN && !nbit old.toNat 0 then
      s.withCip { s.cip with tests := (List.range 4).filter (fun p => s.live (pipeDomain p)), missed := [], good := [] }
    else if !s.flag R.CIP_CTRL_EN && nbit old.toNat 0 then
      (((List.range 4).foldl State.pipeDown s).withCip
        { ((List.range 4).foldl State.pipeDown s).cip with tests := [], missed := [], good := [] })
    else s
  else if R.CIP_SA0 0 ≤ a ∧ a < R.CIP_SA0 400 then s.saWrite rid a old
  else if R.CIP_LANE_CFG 0 ≤ a ∧ a < R.CIP_LANE_CFG 24 ∧ a % 16 = 0 then s.laneProtWrite ((a - R.CIP_LANE_CFG 0) / 16) old
  else s

/-- Reads of CIP_ registers: the load of a pipeline. -/
def cipRead (_rid : Rid) (a : Nat) (s : State) : Word × State :=
  match (List.range 4).find? (fun p => a == R.CIP_PIPE_LOAD p) with
  | some p => (BitVec.ofNat 32 (s.pipeLoad p), s)
  | none => (s.reg a, s)

end Sys2Proof.Machine
end

