-- ==== Sys2Proof/Machine/Shed.lean ====
section
/-! DEFINITION. How a power request ends (R483), the order of the domains (R486), thermal shedding (R490), and the end of
sessions of the responder and of the debug port, as every unit that causes them sees it. -/

namespace Sys2Proof.Machine

/-- The switch-on order of the domains (R486). -/
def domainOrder : List Nat := [1, 2, 7, 5, 6, 3, 4, 10, 8, 9, 11, 12, 13, 14, 15, 16, 17, 18, 19, 20, 21, 22, 23]

/-- The domains shedding leaves alone (R490). -/
def keptDomain (d : Nat) : Bool := d == 0 || d == 1 || d == 2 || d == 21

/-- A request ends: PWR_RESULT is written, E154 or E155 is raised, and the counters count (R483). -/
def State.pwrEnd (s : State) (r : PwrReq) (internal : Bool) (status : Nat) (changed : Bool) : State :=
  let s := s.setRegN R.PWR_RESULT
    (2 ^ 31 + b2n internal * 2 ^ 30 + r.domain % 32 * 2 ^ 16 + r.action % 4 * 2 ^ 8 + status)
  if status = 0 then (if changed then s.count C.PWR_SWITCHES else s).raise 154
  else (s.count C.PWR_REFUSED).raise 155

/-- Shedding begins (R490): every queued request is refused with THERMAL, and the domains are to be switched off in the
reverse order of R486. -/
def State.shedNow (s : State) : State :=
  let s := s.pwr.queue.foldl (fun s r => s.pwrEnd r false 3 false) s
  let off := (domainOrder.reverse.filter (fun d => !keptDomain d)).map (fun d => (⟨d, 0⟩ : PwrReq))
  s.withPwr { s.pwr with queue := [], vigil := s.pwr.vigil ++ off, shed := false }

/-- R427 sheds domains: at once, or as soon as the switch in progress has ended. -/
def State.shed (s : State) : State :=
  if s.pwr.active.isSome then s.withPwr { s.pwr with shed := true } else s.shedNow

/-- A session of the responder closes: its transfers end, objects unchanged (R40, R46). -/
def State.closeSession (s : State) (id : Nat) : State :=
  s.withNq { s.nq with sessions := s.nq.sessions.filter (fun x => x.id != id),
                             xfers := s.nq.xfers.filter (fun x => x.session != id) }

/-- Sessions that satisfy a condition close. -/
def State.closeSessions (s : State) (p : Session → Bool) : State :=
  (s.nq.sessions.filter p).foldl (fun s x => s.closeSession x.id) s

/-- The debug session ends (R350): the level, the nonce and an attempt under way go. -/
def State.endDebug (s : State) : State :=
  s.withTrc { s.trc with level := 0, nonce := none, attempt := none }

/-- Core cycles in a time of ns: the cores run at 1.2 GHz. -/
def coreCycles (ns : Nat) : Nat := ns * 6 / 5

/-- A thread. -/
def State.thr (s : State) (t : Nat) : Thread := tget {} s.threads t

/-- Change a thread. -/
def State.modThr (s : State) (t : Nat) (f : Thread → Thread) : State :=
  s.withThreads (tmod {} s.threads t f)

/-- What is left of WTIM: it counts down while the thread waits with WMASK[24] set, and stops at zero (R306). -/
def State.wtimLeft (s : State) (t : Nat) : Nat :=
  let x := s.thr t
  if x.run = 2 && nbit x.wmask.toNat 24 then x.wtim.toNat - coreCycles (s.now - x.wtimFrom) else x.wtim.toNat

/-- A thread changes its state (R288): a wait that ends leaves what is left of WTIM; a STATE packet is traced (R339). -/
def State.setRun (s : State) (t st : Nat) : State :=
  let x := s.thr t
  if x.run = st then s
  else
    let s := s.modThr t (fun x => { x with run := st, wtim := BitVec.ofNat 32 (s.wtimLeft t), wtimFrom := s.now,
                                           waitAt := s.now })
    s.trace t 9 [BitVec.ofNat 8 st] x.pc

/-- A thread is stopped as by HZ_Tn_CTRL.STOP (R292): it is OFF at its next instruction boundary, its registers kept. -/
def State.stopThread (s : State) (t : Nat) : State :=
  if (s.thr t).run = 1 || (s.thr t).run = 2 then s.setRun t 0 else s

/-- The sources the boot ROM tries (R511): 1 store, 2 SD, 3 Niquevor. -/
def bootSources (pol : Nat) : List Nat :=
  match pol with
  | 0 => [1, 2]
  | 1 => [1]
  | 2 => [2, 1]
  | 3 => [2]
  | 4 => [3]
  | 5 => [1, 3]
  | _ => []

/-- T0 enters RUN at the boot entry, and the boot ROM begins with its first source (R290, R510). -/
def State.bootStart (s : State) : State :=
  let s := ((s.setRegN R.RST_BOOT 0).setRun 0 1).trace 0 1 (leBytes 4 0) 0
  s.withRst { s.rst with boot := { active := true, sources := bootSources (s.fld R.FUS_POLICY_BOOTPOL) } }

end Sys2Proof.Machine
end

