-- ==== Sys2Proof/Machine/NqTable.lean ====
section
/-! DEFINITION. The table of the hardware-backed dictionary objects (chapter 22): index, subindex, length, access, role, the
domains an object needs, the ranges of the written values, and the defaults of the RWP objects. -/

namespace Sys2Proof.Machine

/-- The access of an object (R49). -/
inductive ObjAcc where
  | ro | rw | wo | rwp
deriving DecidableEq, Repr

/-- A row of the tables of chapter 22: the objects index to index + count − 1, subindex sub to sub + subs − 1, their length in
bytes (0: variable), access, lowest role that holds it (0 Observer, 1 Operator, 2 Warden), the domains besides PD0 they need,
and whether the type is STR, OCT or DOMAIN. -/
structure ObjRow where
  index : Nat
  count : Nat
  sub : Nat
  subs : Nat
  size : Nat
  acc : ObjAcc
  role : Nat
  needs : List Nat
  image : Bool := false
deriving DecidableEq, Repr

/-- Identity and communication, 0x1000 to 0x1FFF. -/
def objRows1 : List ObjRow := [
  ⟨0x1000, 1, 1, 1, 2, .ro, 0, [], false⟩, ⟨0x1000, 1, 2, 2, 1, .ro, 0, [], false⟩, ⟨0x1000, 1, 4, 1, 8, .ro, 0, [], false⟩,
  ⟨0x1010, 1, 1, 1, 4, .wo, 2, [], false⟩, ⟨0x1010, 1, 2, 1, 1, .ro, 0, [], false⟩, ⟨0x1010, 1, 3, 1, 2, .ro, 0, [], false⟩,
  ⟨0x1011, 1, 1, 1, 4, .wo, 2, [], false⟩, ⟨0x1011, 1, 2, 1, 1, .ro, 0, [], false⟩,
  ⟨0x1020, 1, 1, 2, 2, .rwp, 2, [], false⟩, ⟨0x1020, 1, 3, 1, 4, .rwp, 2, [], false⟩,
  ⟨0x1021, 1, 1, 3, 1, .rwp, 2, [], false⟩,
  ⟨0x1030, 1, 1, 1, 2, .rwp, 2, [], false⟩, ⟨0x1030, 1, 2, 1, 1, .ro, 0, [], false⟩, ⟨0x1030, 1, 3, 1, 4, .ro, 0, [], false⟩,
  ⟨0x1040, 1, 1, 1, 4, .ro, 0, [], false⟩, ⟨0x1040, 1, 2, 1, 6, .rwp, 2, [], true⟩, ⟨0x1040, 1, 3, 1, 4, .ro, 0, [], false⟩,
  ⟨0x1041, 16, 1, 1, 4, .rwp, 1, [], false⟩, ⟨0x1041, 16, 2, 1, 1, .rwp, 1, [], false⟩,
  ⟨0x1041, 16, 3, 8, 4, .rwp, 1, [], false⟩]

/-- Timing and holdover, 0x2000 to 0x2FFF. -/
def objRows2 : List ObjRow := [
  ⟨0x2000, 1, 1, 1, 10, .ro, 0, [1], false⟩, ⟨0x2000, 1, 2, 1, 2, .rwp, 2, [], false⟩, ⟨0x2000, 1, 3, 1, 1, .ro, 0, [1], false⟩,
  ⟨0x2001, 1, 1, 1, 1, .ro, 0, [1], false⟩, ⟨0x2001, 1, 2, 1, 4, .ro, 0, [1], false⟩,
  ⟨0x2010, 9, 1, 2, 1, .rwp, 1, [], false⟩, ⟨0x2010, 9, 3, 1, 4, .rwp, 1, [], false⟩,
  ⟨0x2020, 1, 1, 1, 1, .ro, 0, [1], false⟩, ⟨0x2020, 1, 2, 2, 4, .ro, 0, [1], false⟩,
  ⟨0x2021, 1, 1, 2, 2, .ro, 0, [1], false⟩, ⟨0x2021, 1, 3, 1, 4, .wo, 2, [1], false⟩,
  ⟨0x2022, 1, 1, 1, 1, .rwp, 2, [], false⟩, ⟨0x2022, 1, 2, 2, 4, .ro, 0, [2], false⟩,
  ⟨0x2023, 1, 1, 1, 2, .rwp, 2, [], false⟩, ⟨0x2023, 1, 2, 2, 1, .rwp, 2, [], false⟩]

/-- Matrix, lanes and conversion, 0x3000 to 0x3FFF. The lanes' own domains come from the index. -/
def objRows3 : List ObjRow := [
  ⟨0x3000, 1, 1, 1, 4, .ro, 0, [7, 12], false⟩, ⟨0x3000, 1, 2, 1, 1, .ro, 0, [7, 12], false⟩,
  ⟨0x3000, 1, 3, 2, 4, .ro, 0, [7, 12], false⟩,
  ⟨0x3010, 1, 1, 1, 0, .ro, 1, [7, 12], true⟩, ⟨0x3011, 1, 1, 1, 0, .rw, 2, [6, 7, 12], true⟩,
  ⟨0x3011, 1, 2, 1, 4, .wo, 2, [7, 12], false⟩, ⟨0x3020, 1, 1, 2, 4, .ro, 0, [7, 13], false⟩,
  ⟨0x3030, 1, 1, 3, 4, .ro, 0, [7, 12], false⟩,
  ⟨0x3040, 1, 1, 1, 4, .ro, 0, [7, 11], false⟩, ⟨0x3040, 1, 2, 1, 1, .ro, 0, [7, 11], false⟩,
  ⟨0x3040, 1, 3, 1, 4, .ro, 0, [7, 11], false⟩, ⟨0x3041, 1, 1, 2, 4, .ro, 0, [7, 11], false⟩,
  ⟨0x3100, 24, 1, 1, 1, .ro, 0, [7], false⟩, ⟨0x3100, 24, 2, 2, 4, .ro, 0, [7], false⟩]

/-- Security, 0x4000 to 0x4FFF. -/
def objRows4 : List ObjRow := [
  ⟨0x4001, 1, 1, 2, 4, .ro, 0, [7, 8], false⟩, ⟨0x4001, 1, 3, 1, 1, .ro, 0, [7, 8], false⟩,
  ⟨0x4002, 1, 1, 1, 1, .ro, 0, [7, 10], false⟩, ⟨0x4002, 1, 2, 1, 4, .ro, 1, [7, 10], false⟩,
  ⟨0x4010, 1, 1, 1, 1, .ro, 0, [], false⟩, ⟨0x4010, 1, 2, 2, 2, .ro, 0, [], false⟩, ⟨0x4010, 1, 4, 1, 4, .ro, 0, [], false⟩,
  ⟨0x4020, 1, 1, 1, 1, .ro, 0, [], false⟩, ⟨0x4020, 1, 2, 1, 2, .ro, 0, [], false⟩, ⟨0x4020, 1, 3, 1, 4, .ro, 0, [], false⟩,
  ⟨0x4021, 1, 1, 32, 4, .ro, 0, [], false⟩, ⟨0x4022, 1, 1, 1, 4, .ro, 0, [], false⟩,
  ⟨0x4030, 1, 1, 3, 32, .wo, 2, [], true⟩, ⟨0x4030, 1, 4, 2, 1, .ro, 0, [], false⟩,
  ⟨0x4040, 1, 1, 1, 0, .ro, 1, [], true⟩, ⟨0x4040, 1, 2, 1, 1, .ro, 0, [], false⟩, ⟨0x4040, 1, 3, 1, 4, .wo, 2, [], false⟩,
  ⟨0x4040, 1, 4, 2, 4, .ro, 0, [], false⟩, ⟨0x4040, 1, 6, 1, 1, .ro, 0, [], false⟩,
  ⟨0x4041, 20, 1, 3, 1, .rwp, 2, [], false⟩, ⟨0x4041, 20, 4, 1, 4, .rwp, 2, [], false⟩,
  ⟨0x4055, 1, 1, 4, 2, .rwp, 2, [], false⟩]

/-- Housekeeping, power and reset, 0x5000 to 0x6FFF. -/
def objRows5 : List ObjRow := [
  ⟨0x5000, 1, 1, 1, 1, .ro, 0, [], false⟩, ⟨0x5000, 1, 2, 1, 2, .ro, 0, [21], false⟩, ⟨0x5000, 1, 3, 1, 1, .ro, 0, [21], false⟩,
  ⟨0x5001, 1, 1, 32, 4, .ro, 0, [21], false⟩, ⟨0x5002, 1, 1, 2, 2, .ro, 0, [21], false⟩,
  ⟨0x5003, 1, 1, 1, 2, .ro, 0, [21], false⟩, ⟨0x5003, 1, 2, 1, 1, .ro, 0, [21], false⟩,
  ⟨0x5010, 1, 1, 1, 2, .rwp, 2, [], false⟩, ⟨0x5010, 1, 2, 2, 1, .rwp, 2, [], false⟩,
  ⟨0x5011, 1, 1, 8, 1, .rwp, 2, [], false⟩, ⟨0x5012, 1, 1, 4, 2, .rwp, 1, [], false⟩,
  ⟨0x6000, 1, 1, 3, 4, .ro, 0, [], false⟩, ⟨0x6001, 1, 1, 1, 2, .wo, 2, [], false⟩,
  ⟨0x6002, 1, 1, 1, 4, .rwp, 2, [], false⟩, ⟨0x6003, 1, 1, 1, 4, .ro, 0, [], false⟩,
  ⟨0x6010, 1, 1, 1, 4, .wo, 2, [], false⟩, ⟨0x6010, 1, 2, 1, 1, .ro, 0, [], false⟩, ⟨0x6010, 1, 3, 1, 4, .ro, 0, [], false⟩,
  ⟨0x6010, 1, 4, 1, 1, .ro, 0, [], false⟩, ⟨0x6011, 1, 1, 1, 1, .ro, 0, [], false⟩, ⟨0x6012, 1, 1, 1, 4, .ro, 0, [], false⟩,
  ⟨0x6020, 1, 1, 1, 0, .wo, 2, [5, 6, 7], true⟩]

/-- Diagnostics, 0x7000 to 0x7FFF. -/
def objRows7 : List ObjRow := [
  ⟨0x7000, 1, 1, 1, 204, .ro, 1, [], true⟩, ⟨0x7000, 1, 2, 1, 4, .ro, 0, [], false⟩,
  ⟨0x7010, 1, 1, 8, 1, .ro, 0, [7], false⟩, ⟨0x7011, 1, 1, 2, 4, .ro, 0, [7], false⟩,
  ⟨0x7020, 1, 1, 1, 4, .ro, 0, [7], false⟩, ⟨0x7020, 1, 2, 3, 4, .ro, 1, [7], false⟩,
  ⟨0x7021, 1, 1, 2, 4, .ro, 0, [7], false⟩, ⟨0x7022, 1, 1, 1, 20, .ro, 1, [7], true⟩,
  ⟨0x7030, 1, 1, 1, 4, .ro, 0, [7, 23], false⟩, ⟨0x7030, 1, 2, 1, 1, .ro, 0, [], false⟩,
  ⟨0x7030, 1, 3, 1, 1, .ro, 1, [7, 23], false⟩,
  ⟨0x7040, 1, 1, 4, 4, .ro, 0, [7], false⟩, ⟨0x7040, 1, 5, 1, 8, .ro, 1, [7], true⟩,
  ⟨0x7050, 1, 1, 1, 1, .ro, 0, [7, 20], false⟩, ⟨0x7050, 1, 2, 2, 4, .ro, 0, [7, 20], false⟩,
  ⟨0x7050, 1, 4, 1, 32, .ro, 1, [7, 20], true⟩, ⟨0x7050, 1, 5, 1, 4, .wo, 2, [7, 20], false⟩,
  ⟨0x7050, 1, 6, 1, 4, .ro, 0, [7, 20], false⟩,
  ⟨0x7060, 1, 1, 1, 1, .ro, 0, [7, 22], false⟩, ⟨0x7060, 1, 2, 1, 0, .ro, 1, [7, 22], true⟩,
  ⟨0x7060, 1, 3, 1, 1, .ro, 0, [7, 22], false⟩, ⟨0x7060, 1, 4, 1, 4, .ro, 0, [7, 22], false⟩,
  ⟨0x7060, 1, 5, 1, 16, .ro, 1, [7, 22], true⟩]

/-- Every hardware-backed object. -/
def objRows : List ObjRow := objRows1 ++ objRows2 ++ objRows3 ++ objRows4 ++ objRows5 ++ objRows7

/-- Whether a row holds an index. -/
def ObjRow.has (r : ObjRow) (i : Nat) : Bool := r.index ≤ i && i < r.index + r.count

/-- What a lookup of an object finds (R526): no index, no subindex, or the row with the domains the object needs. Subindex 0
of an object with several subindices holds the highest one in use (R523). -/
inductive ObjFound where
  | noObject
  | noSub
  | highest (n : Nat)
  | obj (r : ObjRow) (needs : List Nat)
  | firmware
deriving DecidableEq, Repr

/-- Look up an object (R526, R534); `an` on a TG6024-AN (R287). -/
def objFind (an : Bool) (i sub : Nat) : ObjFound :=
  if 0x8000 ≤ i ∧ i < 0xA000 then .firmware
  else
    let rows := objRows.filter (·.has i)
    if rows.isEmpty || (an && i == 0x4001) then .noObject
    else
      let top := rows.foldl (fun n r => max n (r.sub + r.subs - 1)) 0
      if sub = 0 then (if 1 < top then .highest top else .noSub)
      else
        match rows.find? (fun r => r.sub ≤ sub && sub < r.sub + r.subs) with
        | some r => .obj r (if r.index = 0x3100 then [7, 14 + (i - 0x3100) / 4] else r.needs)
        | none => .noSub

/-- Every RWP object in ascending order: 256 × index + subindex, and its length (R529). -/
def rwpList : List (Nat × Nat) :=
  (objRows.filter (fun r => r.acc == .rwp)).foldl (fun l r =>
    (List.range r.count).foldl (fun l c =>
      (List.range r.subs).foldl (fun l k => tput l (256 * (r.index + c) + (r.sub + k)) r.size) l) l) []

/-- Default EN, class, N and W of tamper source k (R397). -/
def tamperDefault (k : Nat) : Nat × Nat × Nat × Nat :=
  let t := tamperDefaults.getD k (0, 1, 1000, 0)
  (t.1, t.2.2.2, t.2.1, t.2.2.1)

/-- The default of an RWP object as an unsigned number of its length (chapter 22). -/
def rwpDefault (policy : Nat) (i sub : Nat) : Nat :=
  if i = 0x1020 then (if sub = 2 then 49300 else 0)
  else if i = 0x1021 then
    (if sub = 1 then (if nbit policy 21 then nbits policy 20 16 else 1) else if sub = 2 then 8 else 0)
  else if i = 0x1030 then 60
  else if i = 0x1040 then 2 ^ 48 - 1
  else if 0x1041 ≤ i ∧ i < 0x1051 then (if sub = 1 then 1000 else 0)
  else if 0x2010 ≤ i ∧ i < 0x2019 then (if sub = 2 then 15 else 0)
  else if i = 0x2022 then 1
  else if i = 0x2023 then (if sub = 1 then 1100 else if sub = 2 then 8 else 1)
  else if 0x4041 ≤ i ∧ i < 0x4055 then
    let d := tamperDefault (i - 0x4041)
    if sub = 1 then d.1 else if sub = 2 then d.2.1 else if sub = 3 then d.2.2.1 else d.2.2.2
  else if i = 0x4055 then 0x3010
  else if i = 0x5010 then (if sub = 1 then 1000 else if sub = 2 then 112 else 1)
  else if i = 0x5011 then 50
  else if i = 0x6002 then 0x002000EF
  else 0

/-- Whether a mapping word of a bulletin is good (R533): 0, or an object of chapter 22 that is no STR, OCT or DOMAIN; the
second value says whether Observer may read it. -/
def mappingOk (an : Bool) (v : Nat) : Bool × Bool :=
  if v = 0 then (true, true)
  else if v % 256 ≠ 0 then (false, true)
  else
    match objFind an (v / 2 ^ 16) (v / 256 % 256) with
    | .highest _ => (true, true)
    | .obj r _ => (!r.image, r.acc == .rw || r.acc == .rwp || (r.acc == .ro && r.role == 0))
    | _ => (false, true)

/-- Whether a value lies in the range of an RWP object (chapter 22). A mapping word is judged by `mappingOk`. -/
def rwpRange (i sub v : Nat) : Bool :=
  let within := fun (lo hi : Nat) => decide (lo ≤ v ∧ v ≤ hi)
  if i = 0x1020 then (if sub = 1 then within 0 4094 else if sub = 2 then within 1 65535 else within 0 0xFFFFFF)
  else if i = 0x1021 then (if sub = 1 then within 0 31 else if sub = 2 then within 1 32 else within 0 1)
  else if i = 0x1030 then within 10 3600
  else if i = 0x1040 then nbit v 40
  else if 0x1041 ≤ i ∧ i < 0x1051 then (if sub = 1 then within 10 60000 else if sub = 2 then within 0 1 else true)
  else if i = 0x2000 then within 0 255 || within (65536 - 255) 65535
  else if 0x2010 ≤ i ∧ i < 0x2019 then (if sub = 1 then within 0 1 else if sub = 2 then within 0 15 else true)
  else if i = 0x2022 then within 0 1
  else if i = 0x2023 then (if sub = 1 then within 100 65535 else within 1 72)
  else if 0x4041 ≤ i ∧ i < 0x4055 then
    (if sub = 1 then within 0 1 else if sub = 2 then within 0 3 else if sub = 3 then within 1 255 else within 1 65000000)
  else if i = 0x4055 then
    nbits v 15 14 == 0 && nbits v 7 6 == 0 && decide (nbits v 5 0 < nbits v 13 8)
  else if i = 0x5010 then (if sub = 1 then within 100 50000 else if sub = 2 then within 100 115 else within 0 1)
  else if i = 0x5011 then within 1 200
  else if i = 0x5012 then nbits v 13 12 == 0
  else if i = 0x6002 then nbit v 0 && within 0 0xFFFFFF
  else true

/-- The present value of an RWP object, held in Vigil (R527). -/
def State.objVal (s : State) (i sub : Nat) : Nat :=
  tget (rwpDefault (s.regN R.FUS_POLICY) i sub) s.nq.objects (256 * i + sub)

/-- Set the present value of an RWP object. -/
def State.setObjVal (s : State) (i sub v : Nat) : State :=
  s.withNq { s.nq with objects := tput s.nq.objects (256 * i + sub) v }

end Sys2Proof.Machine
end

