-- ==== Sys2Proof/Machine/NqSave.lean ====
section
/-! DEFINITION. The persistent set of the dictionary (R50 to R52, R527 to R530): its slots in the store, a save, a load, and
the empty set that restore-defaults writes. -/

namespace Sys2Proof.Machine

/-- A byte of the store by 1024 × page + byte. -/
def State.nvsByte (s : State) (a : Nat) : Byte := tget 0 s.nvs.data a

/-- Bytes of the store. -/
def State.nvsBytes (s : State) (a n : Nat) : List Byte := (List.range n).map (fun k => s.nvsByte (a + k))

/-- The generation of a slot that starts at a page and takes `n` pages, when its pages pass R382 and its identifier is good. -/
def State.slotGen (s : State) (page n ident : Nat) : Option Nat :=
  if (List.range n).any (fun k => s.nvs.bad.contains (page + k)) then none
  else if leNat (s.nvsBytes (1024 * page) 4) ≠ ident then none
  else some (leNat (s.nvsBytes (1024 * page + 4) 4))

/-- Which of two slots is the newer: its generation and whether it is the second; none when neither passes. -/
def newerSlot (a b : Option Nat) : Option (Nat × Bool) :=
  match a, b with
  | some x, some y => if x < y then some (y, true) else some (x, false)
  | some x, none => some (x, false)
  | none, some y => some (y, true)
  | none, none => none

/-- The identifier of the persistent set (R529). -/
def persistIdent : Nat := 0x4E515053

/-- The newer slot of the persistent set: pages 4 to 7 or 8 to 11. -/
def State.persistNewer (s : State) : Option (Nat × Bool) :=
  newerSlot (s.slotGen 4 4 persistIdent) (s.slotGen 8 4 persistIdent)

/-- The first page of the older slot of the persistent set, and the generation a write gives it. -/
def State.persistOlder (s : State) : Nat × Nat :=
  match s.persistNewer with
  | some (g, false) => (8, g + 1)
  | some (g, true) => (4, g + 1)
  | none => (4, 1)

/-- The entries of the set (R529): index (little-endian, log entry 129), subindex, length, value in wire order, ascending. -/
def State.persistEntries (s : State) : List Byte :=
  rwpList.flatMap (fun e =>
    leBytes 2 (e.1 / 256) ++ [BitVec.ofNat 8 (e.1 % 256), BitVec.ofNat 8 e.2] ++
      beBytes e.2 (s.objVal (e.1 / 256) (e.1 % 256)))

/-- The four pages of a set with given entries (R529). -/
def State.persistPages (s : State) (entries : List Byte) : List (Nat × List Byte) :=
  let o := s.persistOlder
  let all := leBytes 4 persistIdent ++ leBytes 4 o.2 ++ leBytes 4 entries.length ++ leBytes 4 0 ++ entries
  (List.range 4).map (fun k => (o.1 + k, slice all (1024 * k) 1024))

/-- The pages a save writes. -/
def State.persistImages (s : State) : List (Nat × List Byte) := s.persistPages s.persistEntries

/-- The pages of an empty set (R52). -/
def State.persistEmptyImages (s : State) : List (Nat × List Byte) := s.persistPages []

/-- Whether the store would refuse a write of the older slot: a page of it is read-only (R528). -/
def State.persistReadOnly (s : State) : Bool :=
  (List.range 4).any (fun k => s.nvs.readOnly.contains (s.persistOlder.1 + k))

/-- A save (R51, R528): the status it is answered with, by the codes of R33; an accepted one is queued to the store. -/
def State.nqSave (s : State) : Nat × State :=
  if s.nq.restorePend then (0x0F, s)
  else if s.nq.saveState = 1 then (0x08, s)
  else if !s.storeBand then (0x0D, s)
  else if s.persistReadOnly then (0x0E, s)
  else (0x00, (s.withNq { s.nq with saveState := 1 }).nvsRequest .responder .persistSave)

/-- The empty set of restore-defaults is asked for (R52). -/
def State.nqEmptyWrite (s : State) : State :=
  if s.nq.emptyWrite then (s.withNq { s.nq with emptyWrite := false }).nvsRequest .responder .persistEmpty else s

/-- A change into the Normal or Warm band repeats a refused empty set (R52). -/
def State.nqBandChange (s : State) : State := if s.storeBand then s.nqEmptyWrite else s

/-- A store operation of the responder has ended (R52, R528, R535). -/
def State.nqStoreEnd (s : State) (op : NvsOp) (result : Nat) : State :=
  match op with
  | .persistSave => s.withNq { s.nq with saveState := if result = 0 then 2 else 3 }
  | .persistEmpty =>
    if result = 0 then s.withNq { s.nq with restorePend := false, restoreDue := false }
    else s.withNq { s.nq with emptyWrite := true }
  | .roleKey _ _ => s.withNq { s.nq with keyResult := result }
  | _ => s

/-- Read the entries of a loaded set (R530): one that names no RWP object, has another length or lies outside its range is
skipped and counted. -/
def loadEntries (an : Bool) : Nat → List Byte → List (Nat × Nat) × Nat → List (Nat × Nat) × Nat
  | 0, _, r => r
  | fuel + 1, l, r =>
    let i := leNat (l.take 2)
    if i = 0 || l.length < 4 then r
    else
      let sub := ((l.drop 2).headD 0).toNat
      let n := ((l.drop 3).headD 0).toNat
      let v := beNat (slice l 4 n)
      let good := rwpList.contains (256 * i + sub, n) && rwpRange i sub v &&
        (!(decide (0x1041 ≤ i ∧ i < 0x1051 ∧ 3 ≤ sub)) || mappingOk an v == (true, true))
      loadEntries an fuel (l.drop (4 + n)) (if good then (tput r.1 (256 * i + sub) v, r.2) else (r.1, r.2 + 1))

/-- Load the persistent set at a reset of PD0 (R50, R530). -/
def State.nqLoad (s : State) (an : Bool) : State :=
  match s.persistNewer with
  | none => s
  | some (_, b) =>
    let base := if b then 8192 else 4096
    let n := min 4080 (leNat (s.nvsBytes (base + 8) 4))
    let r := loadEntries an 1024 (s.nvsBytes (base + 16) n) ([], 0)
    s.withNq { s.nq with objects := r.1, skipped := r.2 }

end Sys2Proof.Machine
end

