-- ==== Sys2Proof/Machine/Tamper.lean ====
section
/-! DEFINITION. The tamper supervisor (chapter 16): hits and filters, responses, enclosure loops, the log and its persistent
copy, and its registers. -/

namespace Sys2Proof.Machine

/-! ### The log (R405 to R409) -/

/-- The fraction of the real-time clock in units of 1/32,768 s. -/
def State.rtcFrac (s : State) : Nat := (s.now - s.rst.rtcZero) % 1000000000 * 32768 / 1000000000

/-- Drop the entry a full log gives up: the oldest of class 0, or the oldest of all (R406). -/
def dropEntry (l : List TmpEntry) : List TmpEntry :=
  match l.find? (fun e => nbits e.w2.toNat 21 20 == 0) with
  | some e => l.erase e
  | none => l.drop 1

/-- A new entry of the log (R405, R406); E111 when 90 are reached. -/
def State.tmpLog (s : State) (k cls detail detail2 : Nat) (restore wipe reset : Bool) : State :=
  let w := fun n => BitVec.ofNat 32 n
  let e : TmpEntry := ⟨w s.rtcSec, w (s.tmp.seq % 65536 * 65536 + s.rtcFrac),
    w (b2n restore * 2 ^ 31 + b2n wipe * 2 ^ 30 + b2n reset * 2 ^ 29 + k * 2 ^ 24 + cls % 4 * 2 ^ 20 + detail % 65536),
    w detail2⟩
  let full := 120 ≤ s.tmp.log.length
  let log := (if full then dropEntry s.tmp.log else s.tmp.log) ++ [e]
  let since := if cls = 0 then s.tmp.unwritten.or (some s.now) else s.tmp.unwritten
  let s := if full then s.count C.TMP_LOGLOST else s
  let s := if !full && log.length = 90 then s.raise 111 else s
  s.withTmp { s.tmp with log := log, seq := (s.tmp.seq + 1) % 65536, unwritten := since, marker := s.tmp.marker + 1 }

/-- A persistent write of the log is requested (R407): at most one is pending. -/
def State.tmpPersist (s : State) : State :=
  let waits := s.nvs.queue.any (fun r => r.who == .tamper) || s.nvs.held.any (fun r => r.who == .tamper)
  if waits || s.flag R.TMP_STAT_PERSIST_DEFER then s else s.nvsRequest .tamper .tamperLog

/-- The log is emptied, and its persistent copy written anew (R406, R407). -/
def State.tmpClear (s : State) : State :=
  (s.withTmp { s.tmp with log := [], unwritten := none, marker := s.tmp.marker + 1 }).tmpPersist

/-- The identifier of a slot of the log (R407). -/
def logIdent : Nat := 0x544C4F47

/-- The newer slot of the log: pages 12 and 13, or 14 and 15. -/
def State.logNewer (s : State) : Option (Nat × Bool) := newerSlot (s.slotGen 12 2 logIdent) (s.slotGen 14 2 logIdent)

/-- The pages a persistent write of the log makes: to the older slot (R407). -/
def State.tamperImages (s : State) : List (Nat × List Byte) :=
  let o : Nat × Nat := match s.logNewer with
    | some (g, false) => (14, g + 1)
    | some (g, true) => (12, g + 1)
    | none => (12, 1)
  let all := leBytes 4 logIdent ++ leBytes 4 o.2 ++ leBytes 2 s.tmp.log.length ++
    leBytes 2 (min 65535 (s.regN R.TMP_LOGLOST)) ++ leBytes 4 0 ++
    s.tmp.log.flatMap (fun e => leBytes 4 e.w0.toNat ++ leBytes 4 e.w1.toNat ++ leBytes 4 e.w2.toNat ++ leBytes 4 e.w3.toNat)
  [(o.1, slice all 0 1024), (o.1 + 1, slice all 1024 1024)]

/-- A persistent write of the log has started: what it carries is no longer unwritten (R407). -/
def State.tmpStarted (s : State) : State := s.withTmp { s.tmp with unwritten := none }

/-- A persistent write of the log has ended (R408). -/
def State.tmpStoreEnd (s : State) (result : Nat) : State :=
  if result = 2 then (s.setFld R.TMP_STAT_PERSIST_DEFER 1).tmpStarted
  else if result = 3 then (s.setFld R.TMP_STAT_PERSIST_FAIL 1).tmpStarted
  else s

/-- The first change into the Normal or Warm band makes a deferred write (R408). -/
def State.tmpBandChange (s : State) : State :=
  if s.storeBand && s.flag R.TMP_STAT_PERSIST_DEFER then
    (s.setFld R.TMP_STAT_PERSIST_DEFER 0).nvsRequest .tamper .tamperLog
  else s

/-- The log is loaded when PD0 comes up, or LOAD_FAIL is set (R409). -/
def State.tmpLoad (s : State) : State :=
  match s.logNewer with
  | none => s.setFld R.TMP_STAT_LOAD_FAIL 1
  | some (_, b) =>
    let base := if b then 14336 else 12288
    let n := min 120 (leNat (s.nvsBytes (base + 8) 2))
    let word := fun k => BitVec.ofNat 32 (leNat (s.nvsBytes (base + 16 + 4 * k) 4))
    let log : List TmpEntry := (List.range n).map (fun i =>
      ⟨word (4 * i), word (4 * i + 1), word (4 * i + 2), word (4 * i + 3)⟩)
    let seq := (log.getLast?.map (fun e => (nbits e.w1.toNat 31 16 + 1) % 65536)).getD 0
    s.withTmp { s.tmp with log := log, seq := seq }

/-! ### Responses (R400 to R403) -/

/-- The class as applied (R401). -/
def classApplied (k cls detail : Nat) : Nat :=
  if k = 19 ∧ (cls = 1 ∨ cls = 2) then 0
  else if cls ≠ 1 then cls
  else if k = 0 ∨ k = 2 ∨ k = 4 ∨ k = 9 ∨ k = 13 then 2
  else if (5 ≤ k ∧ k ≤ 8) ∨ k = 15 ∨ k = 16 then 0
  else if k = 14 ∧ 1 < nbits detail 7 5 then 0
  else 1

/-- Whether the class 1 response of a source is a reset: of the cores, of a block, or of a domain. -/
def unitResets (k : Nat) : Bool := k == 1 || k == 3 || k == 10 || k == 11 || k == 12

/-- The cores are reset alone: T0 runs at the boot entry again (R290, R401). -/
def State.resetCores (s : State) : State :=
  let s := (s.resetDomain 3).resetDomain 4
  if s.live 3 then s.bootStart else s

/-- The class 1 response of a source (R401): the cores, the reporting block, the target's domain, the faulting thread, the
port's sessions, the debug session. -/
def State.tmpUnit (s : State) (k detail unit : Nat) : State :=
  match k with
  | 1 => s.resetCores
  | 3 => s.resetCores
  | 10 => (blockAt unit).elim s s.resetBlock
  | 11 => (blockAt unit).elim s s.resetBlock
  | 12 => if unit = 0 then s else s.resetDomain unit
  | 14 => s.stopThread (4 * nbits detail 7 5 + nbits detail 4 3)
  | 17 => s.closeSessions (fun x => x.port == detail)
  | 18 => s.endDebug
  | _ => s

/-- Whether a system reset that a tamper response started holds the device (R403). -/
def State.inTamperReset (s : State) : Bool := s.inHold && s.rst.sys.any (fun r => r.cause == 7)

/-- All key pages are zeroed and freed, whatever the state of PD10 (R402). -/
def State.tmpWipe (s : State) : State := (s.wipePages (List.range 32)).setFld R.TMP_STAT_WIPED 1

/-- A filter trips (R398, R400, R403): the response of the class, the log entry, and the persistent write. A trip during a
system reset that a tamper response started is logged, with a wipe when one is called for and not yet made. -/
def State.tmpTrip (s : State) (k detail detail2 unit : Nat) : State :=
  let s := s.count C.TMP_TRIPS
  let s := if k = 19 then s.raise 117 else s
  let cls := classApplied k (s.fld (R.TMP_SRC_RESP_CLASS k)) detail
  let during := s.inTamperReset
  let wipe := cls == 3 && !(during && s.tmp.wiped)
  let sys := decide (2 ≤ cls) && !during
  let s := if wipe then s.tmpWipe else s
  let seq := s.tmp.seq
  let s := s.tmpLog k cls detail detail2 false wipe (sys || (cls == 1 && !during && unitResets k))
  let s := s.setRegN R.TMP_LAST (k * 2 ^ 24 + cls * 2 ^ 20 + seq)
  let s := if cls ≤ 1 then s.raise 110 else s
  let s := if cls == 1 && !during then s.tmpUnit k detail unit else s
  let s := if cls = 3 then s.closeSessions (fun _ => true) else s
  let s : State := if sys then ((s.systemReset 7 (cls == 3)).withTmp { (s.systemReset 7 (cls == 3)).tmp with wiped := wipe })
    else if wipe then s.withTmp { s.tmp with wiped := true } else s
  if 1 ≤ cls then s.tmpPersist else s

/-! ### Hits (R397, R398) -/

/-- The hits of a source that its filter holds, in µs, the latest last. -/
def State.tmpHits (s : State) (k : Nat) : List Nat := tget [] s.tmp.hits k

/-- Clear the hit history of a source. -/
def State.tmpForget (s : State) (k : Nat) : State := s.withTmp { s.tmp with hits := tdel s.tmp.hits k }

/-- A hit of a source (R397, R398): it counts; on an enabled source it trips the filter when it and the N − 1 hits before it
lie within W. -/
def State.tmpHit (s : State) (k detail detail2 unit : Nat) : State :=
  let s := s.count (C.TMP_HIT k)
  let s := if 1 ≤ k ∧ k ≤ 4 then s.raise 116 else s
  if !s.flag (R.TMP_SRC_RESP_EN k) then s
  else
    let n := max 1 (s.fld (R.TMP_SRC_RESP_N k))
    let h := s.tmpHits k ++ [s.us]
    let h := h.drop (h.length - 255)
    let first := h.getD (h.length - n) 0
    if n ≤ h.length ∧ s.us - first ≤ s.fld (R.TMP_SRC_WIN_W k) then (s.tmpForget k).tmpTrip k detail detail2 unit
    else s.withTmp { s.tmp with hits := tput s.tmp.hits k h }

/-- TAMPER_HIT (R397): the mesh, glitch, clock, light and temperature sources hit by themselves; a hit of any other source
is the oldest report of it that is on its way. -/
def execTamperHit (k : Fin 20) (s : State) : Host.Outcome State Fault Refusal :=
  if !s.vigil then .next s
  else if k.val ≤ 4 ∨ k.val = 9 then .next (s.tmpHit k.val 0 0 0)
  else
    match s.tmp.reports.find? (fun r => r.source == k.val) with
    | none => .next s
    | some r =>
      let s := s.withTmp { s.tmp with reports := s.tmp.reports.erase r }
      .next (s.tmpHit k.val r.detail r.detail2 r.unit)

/-- SRAM_ZEROING_DONE (R400): SB0 to SB3, the PKA operand window and the DRBG state are zero; the entropy pool starts up
again. -/
def execSramZeroingDone (s : State) : Host.Outcome State Fault Refusal :=
  match s.inHold, s.rst.sys with
  | true, some r =>
    if !r.zeroing then .next s
    else
      let s := ((s.withSram []).withRst { s.rst with sys := some { r with zeroing := false } })
      .next ((s.clearRegs (R.PKA_E 0) (R.PKA_DIGEST 16)).trnStartup)
  | _, _ => .next s

/-! ### Enclosure loops (R404) -/

/-- LOOP_STATE_CHANGE (R404): the fourth equal sample of a loop accepts its new state, 0 NORMAL, 1 OPEN or 2 SHORT. -/
def execLoopStateChange (n : Fin 4) (st : Fin 3) (s : State) : Host.Outcome State Fault Refusal :=
  let lo := 2 * n.val
  let v := s.regN R.TMP_LOOPSTAT
  if !s.vigil || nbits v (lo + 1) lo == st.val then .next s
  else
    let s := (s.setRegN R.TMP_LOOPSTAT (nput v (lo + 1) lo st.val)).raise 115
    let k := 5 + n.val
    if st.val ≠ 0 then .next (s.report k st.val 0)
    else if s.flag (R.TMP_SRC_RESP_EN k) then .next ((s.tmpLog k 0 0 0 true false false).raise 110)
    else .next s

/-- LOG_PERSIST_REQUEST (R407): 60 s after the first class 0 entry not yet written, a persistent write is requested. -/
def execLogPersistRequest (s : State) : Host.Outcome State Fault Refusal :=
  match s.vigil, s.tmp.unwritten with
  | true, some t => .next ((s.advanceTo (t + 60000000000)).tmpStarted).tmpPersist
  | _, _ => .next s

/-! ### Registers (R410) -/

/-- What writes to TMP_ registers do beyond their fields (R397, R398, R406, R410). -/
def tmpWrite (rid : Rid) (a : Nat) (_data old : Word) (s : State) : State :=
  if !(wardenCore rid || master rid == 7) then s.setReg a old
  else if a = R.TMP_LOGCLR then
    if s.flag R.TMP_LOGCLR_CLEAR then (s.setFld R.TMP_LOGCLR_CLEAR 0).tmpClear else s
  else if R.TMP_SRC_RESP 0 ≤ a ∧ a < R.TMP_SRC_RESP 20 then
    let k := (a - R.TMP_SRC_RESP 0) / 8
    if (a - R.TMP_SRC_RESP 0) % 8 = 0 then
      let s := if s.fld (R.TMP_SRC_RESP_N k) = 0 then s.setFld (R.TMP_SRC_RESP_N k) 1 else s
      let s := if k = 0 then (s.setFld (R.TMP_SRC_RESP_EN 0) 1).setFld (R.TMP_SRC_RESP_CLASS 0) 3 else s
      if s.fld (R.TMP_SRC_RESP_N k) = nbits old.toNat 7 0 then s else s.tmpForget k
    else if s.flag R.TMP_LOCK_LOCK then s
    else (s.setFld (R.TMP_SRC_WIN_W k) (min 65000000 (max 1 (s.fld (R.TMP_SRC_WIN_W k))))).tmpForget k
  else s

/-- Reads of TMP_ registers whose value lies in the log (R405, R406). -/
def tmpRead (_rid : Rid) (a : Nat) (s : State) : Word × State :=
  if a = R.TMP_STAT then
    let n := s.tmp.log.length
    (BitVec.ofNat 32 (nput (nput (s.regN a) 15 8 n) 1 1 (b2n (decide (90 ≤ n)))), s)
  else if R.TMP_LOGE 0 ≤ a ∧ a < R.TMP_LOGE 4 then
    match s.tmp.log[s.fld R.TMP_LOGSEL_SEL]? with
    | some e => ([e.w0, e.w1, e.w2, e.w3].getD ((a - R.TMP_LOGE 0) / 4) 0, s)
    | none => (0, s)
  else (s.reg a, s)

end Sys2Proof.Machine
end

