-- ==== Sys2Proof/Machine/House.lean ====
section
/-! DEFINITION. Housekeeping and the thermal policy (chapter 17): rounds, conversions and their flags, foreground conversions
and calibration, the thermal band and what it drives, critical temperature, rate of rise, windows and thresholds. -/

namespace Sys2Proof.Machine

/-! ### Slots -/

/-- When the slot of the next round channel starts. -/
def State.roundSlot (s : State) : Nat := max s.hk.slotAt (s.hk.roundAt.getD 0)

/-- Whether a foreground conversion takes the next slot (R419): it was asked for before the round channel's slot started. -/
def State.fgNext (s : State) : Bool :=
  match s.hk.fgAt with
  | some t => !s.hk.inRound || decide (t ≤ s.roundSlot)
  | none => false

/-- When the next conversion starts. -/
def State.convStart (s : State) : Nat :=
  if s.fgNext then max s.hk.slotAt (s.hk.fgAt.getD 0) else s.roundSlot

/-! ### Results (R413 to R417) -/

/-- The divider in front of the converter (R413). -/
def hkDivider (ch : Nat) : Nat := if ch = 16 then 4 else if ch = 13 ∨ ch = 14 ∨ ch = 15 ∨ ch = 17 then 2 else 1

/-- A fraction rounded down or up, by a free value where it is not whole: the spec gives no rounding (log entry 29). -/
def State.roundFree (s : State) (n : Int) (d : Nat) : Int × State :=
  if n % d = 0 then (n / d, s)
  else
    let got := s.drawIn 0 1
    let b := got.1
    let s := got.2
    (n / d + b, s)

/-- The temperature of a thermistor table at a code, 4096 standing for full scale (R415). -/
def State.thermistor (s : State) (t code : Nat) : Int × State :=
  let i := min 31 (code / 128)
  let e := fun k => sgn 16 (s.regN (R.HK_THTAB (33 * t + k)))
  let got := s.roundFree ((e (i + 1) - e i) * ((code - 128 * i : Nat) : Int) + e i * 128) 128
  let v := got.1
  let s := got.2
  (clampI (-32768) 32767 v, s)

/-- VALUE of a conversion, 16 bits (R413, R415, R416). -/
def State.hkValue (s : State) (ch code : Nat) (ovr unr : Bool) : Nat × State :=
  if ch < 6 then ((Config.dieTemp ch code).toNat, s)
  else
    let c := if ovr then 4096 else if unr then 0 else code
    if ch = 18 ∨ ch = 19 then
      let got := s.thermistor (ch - 18) c
      let v := got.1
      let s := got.2
      (unsgn 16 v, s)
    else
      let got := s.roundFree ((c * 1800 * hkDivider ch : Nat) : Int) 4096
      let v := got.1
      let s := got.2
      (v.toNat, s)

/-! ### Judgements of one sample (R428 to R430) -/

/-- Supply windows (R429): two unflagged samples in a row outside set the bit with E138, two inside clear it. -/
def State.hkSupply (s : State) (n code : Nat) : State :=
  let out := code < s.fld (R.HK_SUP_LO_CODE n) || s.fld (R.HK_SUP_HI_CODE n) < code
  let k := if out then 2 * n else 2 * n + 1
  let other := if out then 2 * n + 1 else 2 * n
  let run := min 2 (tget 0 s.hk.supRun k + 1)
  let s := s.withHk { s.hk with supRun := tput (tput s.hk.supRun k run) other 0 }
  if run < 2 then s
  else
    let v := s.regN R.HK_SUPSTAT
    let s := s.setRegN R.HK_SUPSTAT (nput v n n (b2n out))
    if out && !nbit v n then s.raise 138 else s

/-- Input thresholds (R430): a sample beyond THR sets the bit with E145; one 16 codes or more on the other side clears it. -/
def State.hkAin (s : State) (n code : Nat) : State :=
  let thr := s.fld (R.HK_AIN_THR_THR n)
  let up := s.flag (R.HK_AIN_THR_DIR n)
  let v := s.regN R.HK_AINSTAT
  let beyond := if up then decide (thr ≤ code) else decide (code ≤ thr)
  let back := if up then decide (code + 16 ≤ thr) else decide (thr + 16 ≤ code)
  if s.flag (R.HK_AIN_THR_EN n) && !nbit v n && beyond then (s.setRegN R.HK_AINSTAT (nput v n n 1)).raise 145
  else if back then s.setRegN R.HK_AINSTAT (nput v n n 0)
  else s

/-- A temperature sample joins the mean of its 100 ms (R428). -/
def State.hkRor (s : State) (n : Nat) (t : Int) : State :=
  s.withHk { s.hk with rorSum := tmod (0, 0) s.hk.rorSum n (fun (p : Int × Nat) => (p.1 + t, p.2 + 1)) }

/-- What an unflagged round sample is used for (R418, R426, R428 to R430); the learner judges the flag itself (R129). -/
def State.hkUse (s : State) (ch code value : Nat) (flagged : Bool) : State :=
  let s := if ch = 18 then s.hldSample (sgn 16 value) flagged else s
  if flagged then s
  else if ch < 6 then s.hkRor ch (sgn 16 value)
  else if ch < 18 then s.hkSupply (ch - 6) code
  else if ch = 18 then s.hkRor 6 (sgn 16 value)
  else if ch = 19 then
    let s := s.withHk { s.hk with scapT := some (sgn 16 value) }
    s.hkRor 7 (sgn 16 value)
  else if ch < 24 then s.hkAin (ch - 20) code
  else s

/-! ### The thermal band (R422 to R426) -/

/-- The band of a junction temperature (R423). -/
def bandOf (t : Int) : Nat :=
  if t < -20 * 256 then 0 else if t ≤ 85 * 256 then 1 else if t ≤ 95 * 256 then 2 else 3

/-- The band changes (R423, R424, R425): it is sent to Vigil, the DRAM controller and the lanes; writes of the store that
were put off are made. -/
def State.bandChange (s : State) (b : Nat) : State :=
  let s := ((s.setFld R.HK_STAT_BAND b).setFld R.HK_STAT_BAND_VALID 1).raise 139
  let s := if b = 3 then s.raise 141 else s
  let s := s.withHk { s.hk with vigilBand := some b, bandRun := 0 }
  let s := if s.live 20 then s.withDmc { s.dmc with band := some b } else s
  let s := if b = 1 then s else s.setFld R.HK_STAT_SCAP_CHG 0
  ((s.lanesBand (some b)).hldBandChange).tmpBandChange.nqBandChange

/-- Judge the band from Tj (R423): at once in the first round, else after 4 rounds in a warmer or 64 in a cooler band. -/
def State.judgeBand (s : State) (tj : Int) : State :=
  let b := bandOf tj
  if !s.hk.judged then
    let s := s.withHk { s.hk with judged := true }
    if s.hk.vigilBand = some b then (s.setFld R.HK_STAT_BAND b).setFld R.HK_STAT_BAND_VALID 1 else s.bandChange b
  else
    let cur := s.fld R.HK_STAT_BAND
    if b = cur then s.withHk { s.hk with bandRun := 0 }
    else
      let run := if s.hk.bandRun ≠ 0 ∧ s.hk.bandDir = b then s.hk.bandRun + 1 else 1
      let s := s.withHk { s.hk with bandRun := run, bandDir := b }
      if (if cur < b then 4 else 64) ≤ run then s.bandChange b else s

/-- The spread of the die sensors (R422): DISAGREE after 16 rounds beyond the limit, with E144; clear after 16 within. -/
def State.judgeSpread (s : State) (spread : Int) : State :=
  let wide := (s.fld R.HK_DISAGREE_K : Int) * 256 < spread
  let dis := if wide then min 16 (s.hk.disRun + 1) else 0
  let agree := if wide then 0 else min 16 (s.hk.agreeRun + 1)
  let s := s.withHk { s.hk with disRun := dis, agreeRun := agree }
  if dis = 16 ∧ !s.flag R.HK_STAT_DISAGREE then (s.setFld R.HK_STAT_DISAGREE 1).raise 144
  else if agree = 16 then s.setFld R.HK_STAT_DISAGREE 0
  else s

/-- Critical temperature (R427): CRIT after 4 rounds above, with E141, and shedding under CRIT_ACT; clear after 64 rounds
at 10 K or more below. -/
def State.judgeCrit (s : State) (tj : Int) : State :=
  let t := (s.fld R.HK_TCRIT_TCRIT : Int) * 256
  let hot := if t < tj then min 4 (s.hk.critRun + 1) else 0
  let cool := if tj ≤ t - 2560 then min 64 (s.hk.coolRun + 1) else 0
  let s := s.withHk { s.hk with critRun := hot, coolRun := cool }
  if hot = 4 ∧ !s.hk.crit then
    let act := s.flag R.HK_CTRL_CRIT_ACT
    let s := (s.withHk { s.hk with crit := true, forbid := act }).raise 141
    if act then s.shed else s
  else if cool = 64 then s.withHk { s.hk with crit := false, forbid := false }
  else s

/-- Die sensors of the round that ends that carry no flag: sensor and VALUE. -/
def State.dieSamples (s : State) : List (Nat × Int) :=
  ((List.range 6).filter (fun n => nbits (s.regN (R.HK_CH n)) 15 13 == 0)).map
    (fun n => (n, sgn 16 (nbits (s.regN (R.HK_CH n)) 31 16)))

/-- The sample with the highest temperature, the lowest sensor on a tie. -/
def hottest : List (Nat × Int) → Option (Nat × Int)
  | [] => none
  | p :: r => some (r.foldl (fun q x => if q.2 < x.2 then x else q) p)

/-- The lowest temperature of some samples. -/
def coldest (t : Int) (l : List (Nat × Int)) : Int := l.foldl (fun m x => min m x.2) t

/-- The charger (R426), judged at the end of a round. -/
def State.judgeCharger (s : State) : State :=
  let t : Option Int := if s.flag R.HK_CTRL_SCAP_SRC then
      (if s.hk.judged then some (sgn 16 (s.fld R.HK_JUNC_TJ)) else none)
    else s.hk.scapT
  let ok := match t with
    | some x => decide (0 ≤ x ∧ x ≤ 45 * 256)
    | none => false
  s.setFlag R.HK_STAT_SCAP_CHG
    (ok && s.flag R.HK_CTRL_EN && s.flag R.HK_STAT_BAND_VALID && s.fld R.HK_STAT_BAND == 1)

/-- A round ends (R411): E136, HK_ROUNDS, the judgements, a calibration due after every 256th round, and a round that waits
for this one's end. -/
def State.roundEnd (s : State) : State :=
  let s := (s.count C.HK_ROUNDS).raise 136
  let s : State := s.withHk { s.hk with inRound := false, nextCh := 0, rangeThisRound := false,
                                              rorRounds := s.hk.rorRounds + 1,
                                              startAt := if s.hk.again then some s.hk.slotAt else s.hk.startAt,
                                              again := false }
  let l := s.dieSamples
  let s := match hottest l with
    | none => s
    | some (n, t) =>
      let s := s.setRegN R.HK_JUNC (n * 2 ^ 16 + unsgn 16 t)
      ((s.judgeSpread (t - coldest t l)).judgeBand t).judgeCrit t
  let s := s.judgeCharger
  if s.regN R.HK_ROUNDS % 256 = 0 ∧ s.hk.calStep.isNone then
    (s.withHk { s.hk with calStep := some 0, calDefer := 0, calSeen := none }).setFld R.HK_STAT_CAL_BUSY 1
  else s

/-! ### The commands -/

/-- ROUND_START (R411, R412): one period after the start of the last round, at once when that has passed, or when EN or the
power-up of PD21 calls for the first round. -/
def execRoundStart (s : State) : Host.Outcome State Fault Refusal :=
  if !(s.live 21 && s.flag R.HK_CTRL_EN) || s.hk.inRound then .next s
  else
    let due := match s.hk.startAt, s.hk.roundAt with
      | some t, _ => t
      | none, some t => t + s.fld R.HK_PERIOD_US * 1000
      | none, none => s.now
    let s := s.advanceTo due
    .next (s.withHk { s.hk with inRound := true, nextCh := 0, rangeThisRound := false, startAt := none,
                                     roundAt := some s.now })

/-- The state after a conversion's slot: the result word, the counters of R416 and R417, the recovery window it opens. -/
def State.convert (s : State) (ch code rng start : Nat) : (Nat × Nat × Bool) × State :=
  let rng := if ch < 6 then 0 else rng
  let ovr := rng == 1 || rng == 2
  let unr := rng == 3 || rng == 4
  let susp := decide (start < s.hk.susUntil)
  let code := if ovr then 4095 else if unr then 0 else code
  let s := if susp then s.count C.HK_SUSPCNT else s
  let s : State := if ovr || unr then
      let s := s.count C.HK_RANGECNT
      let s := if s.hk.rangeThisRound then s else s.raise 137
      let w := start + (if rng % 2 = 1 then 1500 else 2500)
      s.withHk { s.hk with rangeThisRound := true, susUntil := max s.hk.susUntil w }
    else s
  let got := s.hkValue ch code ovr unr
  let v := got.1
  let s := got.2
  ((v % 65536 * 65536 + b2n ovr * 32768 + b2n unr * 16384 + b2n susp * 8192 + code, v, ovr || unr || susp), s)

/-- CONVERSION_COMPLETE (R414 to R419): the slot that a foreground conversion or the round's next channel takes ends. The
operands are the corrected code and the input's range: 0 inside, 1 and 2 above by up to and by more than 0.5 V, 3 and 4
below. -/
def execConversionComplete (code : BitVec 12) (rng : Fin 5) (s : State) : Host.Outcome State Fault Refusal :=
  if !s.live 21 then .next s
  else if s.fgNext then
    let start := s.convStart
    let s := s.advanceTo (start + 500)
    let got := s.convert s.hk.fgCh code.toNat rng.val start
    let w := got.1
    let s := got.2
    let s : State := s.withHk { s.hk with slotAt := start + 500, fgAt := none }
    .next ((((s.setRegN R.HK_FGRES w.1).setFld R.HK_FG_BUSY 0).count C.HK_FGCNT).raise 143)
  else if s.hk.inRound then
    let start := s.convStart
    let ch := s.hk.nextCh
    let s := s.advanceTo (start + 500)
    let got := s.convert ch code.toNat rng.val start
    let w := got.1
    let s := got.2
    let s : State := s.withHk { s.hk with slotAt := start + 500, nextCh := ch + 1 }
    let s := (s.setRegN (R.HK_CH ch) w.1).hkUse ch (w.1 % 4096) w.2.1 w.2.2
    .next (if ch = 31 then s.roundEnd else s)
  else .next s

/-- A calibration step takes a slot (R420, R421): discarded within a recovery window; the eighth good one ends the
calibration with new values, which are free (log entry 29). -/
def State.calTake (s : State) (k start : Nat) : State :=
  let bad := decide (start < s.hk.susUntil)
  let s := s.advanceTo (start + 500)
  let s : State := s.withHk { s.hk with slotAt := start + 500, calDefer := 0, calSeen := none }
  if bad then s
  else if k < 7 then s.withHk { s.hk with calStep := some (k + 1) }
  else
    let got := s.drawIn 0 65535
    let g := got.1
    let s := got.2
    let got := s.drawIn 0 4095
    let o := got.1
    let s := got.2
    let s : State := s.withHk { s.hk with calStep := none }
    (s.setRegN R.HK_CAL (g.toNat * 65536 + o.toNat)).setFld R.HK_STAT_CAL_BUSY 0

/-- CALIBRATION_STEP (R420, R421): the step takes a slot that no round channel and no foreground conversion needs, or is
deferred; after 16 deferrals it is forced. -/
def execCalibrationStep (s : State) : Host.Outcome State Fault Refusal :=
  match s.live 21, s.hk.calStep with
  | true, some k =>
    if !(s.hk.inRound || s.hk.fgAt.isSome) then .next (s.calTake k (max s.hk.slotAt s.now))
    else if 16 ≤ s.hk.calDefer then .next ((s.count C.HK_CALFORCED).raise 142 |>.calTake k s.convStart)
    else if s.hk.calSeen = some s.convStart then .next s
    else .next ((s.withHk { s.hk with calDefer := s.hk.calDefer + 1, calSeen := some s.convStart }).count
      C.HK_CALDEFER)
  | _, _ => .next s

/-- Judge the rate of one temperature channel (R428): its means as sum and number, and the mean before. -/
def State.judgeRate (s : State) (n : Nat) : State :=
  let cur : Int × Nat := tget (0, 0) s.hk.rorSum n
  let prev : Int × Nat := tget (0, 0) s.hk.rorPrev n
  if cur.2 = 0 ∨ 2 * cur.2 < s.hk.rorRounds then s.withHk { s.hk with rorPrev := tdel s.hk.rorPrev n }
  else
    let s : State := s.withHk { s.hk with rorPrev := tput s.hk.rorPrev n cur }
    let steep := (s.fld (R.HK_ROR_LIMIT n) : Int) * 256 * cur.2 * prev.2 < (cur.1 * prev.2 - prev.1 * cur.2) * 100
    let v := s.regN R.HK_RORSTAT
    if prev.2 ≠ 0 && steep && s.flag (R.HK_ROR_EN n) && !nbit v n then
      (s.setRegN R.HK_RORSTAT (nput v n n 1)).raise 140
    else s

/-- RATE_OF_RISE (R428): every 100 ms the means of the eight temperature channels are formed and judged. -/
def execRateOfRise (s : State) : Host.Outcome State Fault Refusal :=
  if !s.live 21 then .next s
  else
    let due := s.hk.rorAt + 100000000
    let s := s.advanceTo due
    let s := (List.range 8).foldl State.judgeRate s
    .next (s.withHk { s.hk with rorSum := [], rorRounds := 0, rorAt := max due s.now })

/-! ### Registers -/

/-- What writes to HK_ registers do beyond their fields. -/
def hkWrite (_rid : Rid) (a : Nat) (_data old : Word) (s : State) : State :=
  let clamp := fun (f : Fld) lo hi => s.setFld f (min hi (max lo (s.fld f)))
  if a = R.HK_CTRL then
    if !s.flag R.HK_CTRL_EN then
      (s.withHk { s.hk with startAt := none, again := false }).setFld R.HK_STAT_SCAP_CHG 0
    else if nbit old.toNat 0 then s
    else if s.hk.inRound then s.withHk { s.hk with again := true }
    else s.withHk { s.hk with startAt := some s.now }
  else if a = R.HK_PERIOD then clamp R.HK_PERIOD_US 100 50000
  else if a = R.HK_FG then
    if !s.flag R.HK_FG_GO then s
    else
      let s := s.setFld R.HK_FG_GO 0
      if s.flag R.HK_FG_BUSY then s.setFld R.HK_FG_REJ 1
      else (s.withHk { s.hk with fgAt := some s.now, fgCh := s.fld R.HK_FG_CH }).setFld R.HK_FG_BUSY 1
  else if a = R.HK_TCRIT then clamp R.HK_TCRIT_TCRIT 100 115
  else if a = R.HK_DISAGREE then clamp R.HK_DISAGREE_K 5 50
  else if R.HK_ROR 0 ≤ a ∧ a < R.HK_ROR 8 then clamp (R.HK_ROR_LIMIT ((a - R.HK_ROR 0) / 4)) 1 200
  else s

/-- Reads of HK_ registers: HK_STAT.CRIT shows what Vigil holds (R427). -/
def hkRead (_rid : Rid) (a : Nat) (s : State) : Word × State :=
  if a = R.HK_STAT then (BitVec.ofNat 32 (nput (s.regN a) 28 28 (b2n s.hk.crit)), s) else (s.reg a, s)

/-- PD21 has come up (R411, R428): with EN = 1 the first round starts. -/
def State.hkUp (s : State) : State :=
  s.withHk { s.hk with slotAt := s.now, rorAt := s.now,
                             startAt := if s.flag R.HK_CTRL_EN then some s.now else none }

end Sys2Proof.Machine
end

