-- ==== Sys2Proof/Machine/Store.lean ====
section
/-! DEFINITION. The non-volatile store (R382 to R394) and the fuses (R395, R396): commands, ownership, refusals, wear,
role keys and monotonic counters. -/

namespace Sys2Proof.Machine

/-! ### Pages -/

/-- The 1024 bytes of a logical page. -/
def State.nvsPage (s : State) (p : Nat) : List Byte := s.nvsBytes (1024 * p) 1024

/-- Cells of a run of bytes in canonical form. -/
def cellsOf : Nat → List Byte → List Host.Cell
  | _, [] => []
  | a, b :: r => if b = 0 then cellsOf (a + 1) r else (a, b) :: cellsOf (a + 1) r

/-- Replace the cells of a range by a run of bytes. -/
def putCells (m : List Host.Cell) (a n : Nat) (bs : List Byte) : List Host.Cell :=
  m.filter (fun c => c.1 < a) ++ cellsOf a (bs.take n) ++ m.filter (fun c => a + n ≤ c.1)

/-- A logical page is written (R387): its data, one more on its write counter, and at 100,000 a rotation, or the page
becomes read-only when no spare is left (R389). -/
def State.pageWrite (s : State) (p : Nat) (bs : List Byte) : State :=
  let n := s.nvs
  let c := tget 0 n.counts p + 1
  let s := s.withNvs { n with data := putCells n.data (1024 * p) 1024 bs, counts := tput n.counts p c,
                                    bad := n.bad.filter (· != p) }
  let s := s.count C.NVS_WRITES
  if c < 100000 then s
  else if s.nvs.rotations.length + b2n s.nvs.rotation.isSome < s.nvs.spares then
    s.withNvs { s.nvs with rotations := s.nvs.rotations ++ [p] }
  else (s.withNvs { s.nvs with readOnly := s.nvs.readOnly ++ [p] }).raise 112

/-- Start the next wear rotation that waits (R387). -/
def State.nextRotation (s : State) : State :=
  match s.nvs.rotation, s.nvs.rotations with
  | none, p :: r =>
    ((s.withNvs { s.nvs with rotation := some p, rotAt := s.now, rotations := r }).setFld R.NVS_STAT_ROT 1).setFld
      R.NVS_STAT_ROTPAGE p
  | _, _ => s

/-! ### Judgement at the start of an operation (R385) -/

/-- The key staged in NVS_RKSTG0 to 7, byte 0 in [31:24] of the first (R392). -/
def State.stagedKey (s : State) : BitVec 256 :=
  BitVec.ofNat 256 ((List.range 8).foldl (fun n i => n * 2 ^ 32 + s.regN (R.NVS_RKSTG i)) 0)

/-- The slot of role keys that an install writes: the older, or one that does not pass R382 (R391). -/
def State.olderSlotB (s : State) : Bool :=
  if !s.nvs.slotA.good then false else if !s.nvs.slotB.good then true else s.nvs.slotB.gen < s.nvs.slotA.gen

/-- Pages that an operation writes. -/
def State.nvsTargets (s : State) : NvsOp → List Nat
  | .write p => [p]
  | .roleKey _ _ => [if s.olderSlotB then 1 else 0]
  | .almanac => [s.almanacImage.1]
  | .tamperLog => s.tamperImages.map (·.1)
  | .persistSave => s.persistImages.map (·.1)
  | .persistEmpty => s.persistEmptyImages.map (·.1)
  | _ => []

/-- Whether OWNER refuses an operation (R383, R392, R393). -/
def State.nvsOwner (s : State) (r : NvsReq) : Bool :=
  match r.who, r.op with
  | .firmware _, .read p => p < 2
  | .firmware rid, .write p =>
    p < 16 || !wardenCore rid || (p < 32 && !s.flag R.NVS_CFG_BOOTWE)
  | .firmware rid, .inc _ => !wardenCore rid
  | .firmware rid, .roleKey role _ => !wardenCore rid || (s.nvs.keys.getD role none).isSome
  | _, _ => false

/-- The result an operation is refused with when it starts, 0 when it is not: RANGE, OWNER, TEMPERATURE, EXHAUSTED in this
order (R385). -/
def State.nvsJudge (s : State) (r : NvsReq) : Nat :=
  let isRead := match r.op with
    | .read _ => true
    | _ => false
  let exhausted := match r.op with
    | .inc c => tget 0 s.nvs.mc c == 0xFFFFFFFF
    | op => (s.nvsTargets op).any (fun p => s.nvs.readOnly.contains p)
  if r.op == .badRange then 5
  else if s.nvsOwner r then 4
  else if !isRead && !s.storeBand then 2
  else if exhausted then 3
  else 0

/-- An operation has ended with a result: RESULT, BUSY for a firmware command, the staging words zero after a role-key
command, what its requester does, and the request it held (R385, R392). -/
def State.nvsEnd (s : State) (r : NvsReq) (result : Nat) : State :=
  let s := s.setFld R.NVS_STAT_RESULT result
  let s := match r.who, r.op with
    | .firmware _, .roleKey _ _ => (List.range 8).foldl (fun (s : State) i => s.setRegN (R.NVS_RKSTG i) 0) s
    | _, _ => s
  let s := match r.who with
    | .firmware _ => s.setFld R.NVS_STAT_BUSY 0
    | .hld => s.hldStoreEnd result
    | .tamper => s.tmpStoreEnd result
    | .responder => s.nqStoreEnd r.op result
  s.nvsRelease r.who

/-- The requests a refusal makes: the counter, E105 for TEMPERATURE, E112 or E108 for EXHAUSTED (R385, R389, R390, R394). -/
def State.nvsRefused (s : State) (r : NvsReq) (result : Nat) : State :=
  let s := s.count C.NVS_REFUSED
  let s := if result = 2 then s.raise 105 else s
  if result = 3 then
    match r.op with
    | .inc c => (s.withNvs { s.nvs with mcExh := nput s.nvs.mcExh c c 1 }).raise 108
    | _ => s.raise 112
  else s

/-- Page images that an operation will write, taken when it starts. -/
def State.nvsImages (s : State) : NvsOp → List (Nat × List Byte)
  | .write p => [(p, (List.range 1024).map (fun k => tget 0 s.nvs.buf k))]
  | .almanac => [s.almanacImage]
  | .tamperLog => s.tamperImages
  | .persistSave => s.persistImages
  | .persistEmpty => s.persistEmptyImages
  | _ => []

/-- The request that starts next: the oldest, or during a rotation the oldest READ (R385, R388). -/
def State.nvsNext (s : State) : Option NvsReq :=
  if s.nvs.rotation.isSome || !s.nvs.rotations.isEmpty then
    s.nvs.queue.find? (fun r => match r.op with
      | .read _ => true
      | _ => false)
  else s.nvs.queue.head?

/-- A firmware role-key command takes the staged words as they stand when it starts (R392). -/
def State.nvsStaged (s : State) (r : NvsReq) : NvsReq :=
  match r.who, r.op with
  | .firmware _, .roleKey role _ => { r with op := .roleKey role s.stagedKey }
  | _, _ => r

/-- NVS_OPERATION_START (R385): the next request is judged; it is refused, or begins. A role key takes the staged words, a
page write the buffer, as they stand. -/
def execNvsOperationStart (s : State) : Host.Outcome State Fault Refusal :=
  match s.vigil && s.nvs.current.isNone, s.nvsNext with
  | true, some r0 =>
    let s := s.withNvs { s.nvs with queue := s.nvs.queue.erase r0 }
    let r : NvsReq := s.nvsStaged r0
    let j : Nat := s.nvsJudge r
    if j = 0 then
      let s : State := s.withNvs { s.nvs with current := some r, images := s.nvsImages r.op }
      .next (if r.op == .tamperLog then s.tmpStarted else s)
    else .next ((s.nvsRefused r j).nvsEnd r j)
  | _, _ => .next s

/-! ### Completion -/

/-- A READ completes: the page into the buffer, or INTEGRITY with a zeroed buffer (R382). -/
def State.nvsReadDone (s : State) (r : NvsReq) (p : Nat) : State :=
  if s.nvs.bad.contains p then
    (((s.withNvs { s.nvs with buf := [] }).count C.NVS_INTERR).raise 109).report 16 0 0 |>.nvsEnd r 6
  else (s.withNvs { s.nvs with buf := cellsOf 0 (s.nvsPage p) }).nvsEnd r 0

/-- A role key is installed: the full set with the new key goes to the older slot, then to Vigil's retention copy (R391). -/
def State.roleKeyDone (s : State) (role : Nat) (key : BitVec 256) : State :=
  let keys := s.nvs.keys.set role (some key)
  let gen := max s.nvs.slotA.gen s.nvs.slotB.gen + 1
  let slot : RoleSlot := ⟨gen, keys, true⟩
  let b := s.olderSlotB
  let s := s.pageWrite (if b then 1 else 0) []
  s.withNvs { s.nvs with keys := keys, lost := false, slotA := if b then s.nvs.slotA else slot,
                               slotB := if b then slot else s.nvs.slotB }

/-- NVS_OPERATION_COMPLETE (R385): the operation in progress completes; a write raises E104, once for a sequence. -/
def execNvsOperationComplete (s : State) : Host.Outcome State Fault Refusal :=
  match s.vigil, s.nvs.current with
  | true, some r =>
    let images := s.nvs.images
    let s := s.withNvs { s.nvs with current := none, images := [] }
    match r.op with
    | .read p => .next (s.nvsReadDone r p)
    | .inc c => .next (((s.withNvs { s.nvs with mc := tput s.nvs.mc c (tget 0 s.nvs.mc c + 1) }).raise 104).nvsEnd
        r 0)
    | .roleKey role key => .next (((s.roleKeyDone role key).raise 104).nvsEnd r 0).nextRotation
    | _ => .next (((images.foldl (fun s p => s.pageWrite p.1 p.2) s).raise 104).nvsEnd r 0).nextRotation
  | _, _ => .next s

/-- A wear rotation ends (R387): the page maps to a fresh spare; E106, and E107 when four spares or fewer are left. -/
def State.rotationDone (s : State) (p : Nat) : State :=
  let left := s.nvs.spares - 1
  let counts := tput s.nvs.counts p 1
  let s : State := s.withNvs { s.nvs with rotation := none, spares := left, counts := counts }
  let s := ((s.setFld R.NVS_STAT_ROT 0).setFld R.NVS_STAT_ROTPAGE 0).raise 106
  (if left ≤ 4 then s.raise 107 else s).nextRotation

/-- WEAR_ROTATION_DONE (R387, R388): 4 ms after the rotation began. -/
def execWearRotationDone (s : State) : Host.Outcome State Fault Refusal :=
  match s.vigil, s.nvs.rotation with
  | true, some p => .next ((s.advanceTo (s.nvs.rotAt + 4000000)).rotationDone p)
  | _, _ => .next s

/-! ### Registers of the store -/

/-- The operation a firmware command names (R384, R392). -/
def nvsCommand (w : Nat) : NvsOp :=
  let p := nbits w 7 0
  match nbits w 31 29 with
  | 1 => .read p
  | 2 => .write p
  | 3 => if p < 32 then .inc p else .badRange
  | 4 => if p < 3 then .roleKey p 0 else .badRange
  | _ => .badRange

/-- What writes to NVS_ registers do beyond their fields (R384, R385, R392). -/
def nvsWrite (rid : Rid) (a : Nat) (data old : Word) (s : State) : State :=
  if a = R.NVS_CMD then
    if !warden rid then s.setReg a old
    else if s.flag R.NVS_STAT_BUSY then (s.setFld R.NVS_STAT_RESULT 1).count C.NVS_REFUSED
    else (s.setFld R.NVS_STAT_BUSY 1).nvsRequest (.firmware rid) (nvsCommand data.toNat)
  else if a = R.NVS_BUFADDR then (if warden rid then s else s.setReg a old)
  else if a = R.NVS_BUFDATA then
    if !warden rid then s
    else
      let p := 4 * s.fld R.NVS_BUFADDR_ADDR
      (s.withNvs { s.nvs with buf := putCells s.nvs.buf p 4 (leBytes 4 data.toNat) }).setFld R.NVS_BUFADDR_ADDR
        (p / 4 + 1)
  else if R.NVS_RKSTG 0 ≤ a ∧ a < R.NVS_RKSTG 8 then (if wardenCore rid then s else s.setReg a old)
  else s

/-- Reads of NVS_ registers whose value lies in the store, or that move the buffer address (R384, R387, R391, R393). -/
def nvsRead (rid : Rid) (a : Nat) (s : State) : Word × State :=
  let word := fun n => (BitVec.ofNat 32 n, s)
  if a = R.NVS_BUFDATA then
    if !warden rid then (0, s)
    else
      let p := 4 * s.fld R.NVS_BUFADDR_ADDR
      (BitVec.ofNat 32 (leNat ((List.range 4).map (fun k => tget 0 s.nvs.buf (p + k)))),
        s.setFld R.NVS_BUFADDR_ADDR (p / 4 + 1))
  else if a = R.NVS_BUFADDR then (if warden rid then s.reg a else 0, s)
  else if a = R.NVS_SPARES then word s.nvs.spares
  else if a = R.NVS_PGINFO then
    let p := s.fld R.NVS_PGSEL_PAGE
    word (b2n (s.nvs.readOnly.contains p) * 2 ^ 31 + tget 0 s.nvs.counts p % 2 ^ 20)
  else if a = R.NVS_EXHCNT then word s.nvs.readOnly.length
  else if a = R.NVS_RKSTAT then
    word (b2n s.nvs.lost * 8 + (List.range 3).foldl (fun n i => n + b2n (s.nvs.keys.getD i none).isSome * 2 ^ i) 0)
  else if R.NVS_MC 0 ≤ a ∧ a < R.NVS_MC 32 then (tget 0 s.nvs.mc ((a - R.NVS_MC 0) / 4), s)
  else if a = R.NVS_MCEXH then word s.nvs.mcExh
  else (s.reg a, s)

/-! ### Power loss and power-up -/

/-- A power loss cuts what the store does (R386, R387, R394): pages being written fail their next read, a rotation leaves
the old page and will run again, an increment leaves the old value or the next (a free value). -/
def State.nvsPowerLoss (s : State) : State :=
  let n := s.nvs
  let n := match n.rotation with
    | some p => { n with rotation := none, rotations := p :: n.rotations }
    | none => n
  let s := s.withNvs { n with buf := [], images := [], queue := [], current := none, held := [] }
  match n.current with
  | some ⟨_, .inc c⟩ =>
    let got := s.drawIn 0 1
    let v := got.1
    let s := got.2
    s.withNvs { s.nvs with mc := tput s.nvs.mc c (tget 0 s.nvs.mc c + BitVec.ofNat 32 v.toNat) }
  | some ⟨_, .roleKey _ _⟩ =>
    if s.olderSlotB then s.withNvs { s.nvs with slotB := { s.nvs.slotB with good := false } }
    else s.withNvs { s.nvs with slotA := { s.nvs.slotA with good := false } }
  | some _ => s.withNvs { s.nvs with bad := s.nvs.bad ++ n.images.map (·.1) }
  | none => s

/-- The role keys are loaded from the slot with the higher generation that passes, or LOST is set and E109 raised (R391). -/
def State.loadRoleKeys (s : State) : State :=
  let a := s.nvs.slotA
  let b := s.nvs.slotB
  if a.good && (!b.good || b.gen ≤ a.gen) then s.withNvs { s.nvs with keys := a.keys, lost := false }
  else if b.good then s.withNvs { s.nvs with keys := b.keys, lost := false }
  else (s.withNvs { s.nvs with keys := [none, none, none], lost := true }).raise 109

/-! ### Fuses -/

/-- A fuse word as programmed: FUS_ID of this stepping where none is given (R6, R396). -/
def State.fuseWord (s : State) (i : Nat) : Word := tget (if i = 0 then 0x60240100 else 0) s.fus.words i

/-- The fuse words the shadows hold: 0x00 to 0x04 and 0x08 to 0x17 (chapter 15, Registers). -/
def fuseIndices : List Nat := [0, 1, 2, 3, 4] ++ (List.range 16).map (· + 8)

/-- Load every shadow from its fuse word (R395). -/
def State.loadFuses (s : State) : State :=
  let s := fuseIndices.foldl (fun s i => s.setReg (R.FUS_ID + 4 * i) (s.fuseWord i)) s
  let s := s.withFus { s.fus with fresh := [] }
  s.setFld R.RST_STAT_RSTPOL (s.fld R.FUS_POLICY_RSTPOL)

/-- FUSE_COMPARE (R395): each second, a shadow that differs from its word, and was not programmed since the load, is
reloaded; MISMATCH, E118 and a report follow. -/
def execFuseCompare (s : State) : Host.Outcome State Fault Refusal :=
  if !s.vigil then .next s
  else
    let wrong := fuseIndices.filter (fun i => !s.fus.fresh.contains i && s.reg (R.FUS_ID + 4 * i) != s.fuseWord i)
    if wrong.isEmpty then .next s
    else
      let s := wrong.foldl (fun s i => s.setReg (R.FUS_ID + 4 * i) (s.fuseWord i)) s
      .next (((s.setFld R.FUS_STAT_MISMATCH 1).raise 118).report 13 0 0)

/-- FUS_PGM (R396): programming of a customer word starts, or PGM_ERR is set. -/
def fusWrite (rid : Rid) (a : Nat) (data _old : Word) (s : State) : State :=
  if a = R.FUS_PGM then
    let w := nbits data.toNat 7 0
    if nbits data.toNat 31 24 ≠ 0xA5 || !(w == 4 || (8 ≤ w && w < 24)) || !wardenCore rid || s.band ≠ some 1
        || s.flag R.FUS_STAT_PGM_BUSY then s.setFld R.FUS_STAT_PGM_ERR 1
    else
      let bits := s.reg R.FUS_PGMDATA &&& ~~~(s.fuseWord w)
      (s.withFus { s.fus with program := some (w, bits, s.now) }).setFld R.FUS_STAT_PGM_BUSY 1
  else s

/-- The lowest `n` bits set in a word. -/
def lowBits (w : Nat) (n : Nat) : Nat :=
  ((List.range 32).foldl (fun (r : Nat × Nat) i =>
    if nbit w i && r.2 < n then (r.1 + 2 ^ i, r.2 + 1) else r) (0, 0)).1

/-- FUSE_PROGRAM_DONE (R396): every bit is programmed, 10 µs for each. -/
def execFuseProgramDone (s : State) : Host.Outcome State Fault Refusal :=
  match s.vigil, s.fus.program with
  | true, some (w, bits, t) =>
    let n := (List.range 32).foldl (fun n i => n + b2n (nbit bits.toNat i)) 0
    let s := s.advanceTo (t + 10000 * n)
    .next ((s.withFus { s.fus with program := none, words := tput s.fus.words w (s.fuseWord w ||| bits),
                                         fresh := s.fus.fresh ++ [w] }).setFld R.FUS_STAT_PGM_BUSY 0)
  | _, _ => .next s

/-- A loss of power or a reset of PD0 cuts the programming: the bits done stay, the one in progress reads 0 or 1 (a free
value), the others stay as they were (R396). -/
def State.fusePowerLoss (s : State) : State :=
  match s.fus.program with
  | none => s
  | some (w, bits, t) =>
    let k := (s.now - t) / 10000
    let got := s.drawIn 0 1
    let v := got.1
    let s := got.2
    let done := lowBits bits.toNat (k + v.toNat)
    s.withFus { s.fus with program := none, words := tput s.fus.words w (s.fuseWord w ||| BitVec.ofNat 32 done) }

end Sys2Proof.Machine
end

