-- ==== Sys2Proof/Machine/Apply.lean ====
section
/-! DEFINITION. The backing registers of the RWP objects of the dictionary, and how an object is applied to its register
(R527). -/

namespace Sys2Proof.Machine

/-- The domain and the field that back an RWP object of chapter 22; none for an object that only the responder uses. -/
def objBacking (i sub : Nat) : Option (Nat × Fld) :=
  if i = 0x2000 then some (1, R.CAL_UTC_OFFSET)
  else if 0x2010 ≤ i ∧ i < 0x2019 then
    let n := i - 0x2010
    some (1, if sub = 1 then R.CAL_SRC_CFG_EN n else if sub = 2 then R.CAL_SRC_CFG_PRIO n else R.CAL_SRC_DLY_DLY n)
  else if i = 0x2022 then some (1, R.HLD_CTRL_USE_LASTLOCK)
  else if i = 0x2023 then
    some (1, if sub = 1 then R.HLD_BUDGET_PHASE else if sub = 2 then R.HLD_BUDGET_TMAX_S else R.HLD_BUDGET_TMAX_U)
  else if 0x4041 ≤ i ∧ i < 0x4055 then
    let k := i - 0x4041
    some (0, if sub = 1 then R.TMP_SRC_RESP_EN k else if sub = 2 then R.TMP_SRC_RESP_CLASS k
      else if sub = 3 then R.TMP_SRC_RESP_N k else R.TMP_SRC_WIN_W k)
  else if i = 0x4055 then some (0, ⟨R.TMP_LOOP_CFG (sub - 1), 15, 0⟩)
  else if i = 0x5010 then
    some (21, if sub = 1 then R.HK_PERIOD_US else if sub = 2 then R.HK_TCRIT_TCRIT else R.HK_CTRL_CRIT_ACT)
  else if i = 0x5011 then some (21, R.HK_ROR_LIMIT (sub - 1))
  else if i = 0x5012 then some (21, ⟨R.HK_AIN_THR (sub - 1), 15, 0⟩)
  else if i = 0x6002 then some (0, R.PWR_BOOTSET_SET)
  else none

/-- The responder's requester identity for a Warden session: M7 with the Warden bit (R279, R537). -/
def ridResponder : Rid := 0xE4

/-- An RWP object is applied to its backing register, with what a write of that register does, when the block is available
(R527). -/
def State.applyObj (s : State) (i sub : Nat) : State :=
  match objBacking i sub with
  | none => s
  | some (d, f) =>
    if d ≠ 0 && !s.live d then s
    else
      let old := s.reg f.addr
      let s := s.setFld f (s.objVal i sub)
      let new := s.reg f.addr
      if 0x41000000 ≤ f.addr ∧ f.addr < 0x41001000 then calWrite ridResponder f.addr new old s
      else if 0x41001000 ≤ f.addr ∧ f.addr < 0x41002000 then hldWrite ridResponder f.addr new old s
      else if d = 21 then hkWrite ridResponder f.addr new old s
      else if 0x40007000 ≤ f.addr ∧ f.addr < 0x40008000 then tmpWrite ridResponder f.addr new old s
      else if f.addr = R.PWR_BOOTSET then s.setRegN f.addr (nput (s.regN f.addr) 0 0 1)
      else s

/-- Every RWP object of a domain is applied, as when the domain comes up (R527). -/
def State.applyObjs (s : State) (d : Nat) : State :=
  rwpList.foldl (fun (s : State) e =>
    match objBacking (e.1 / 256) (e.1 % 256) with
    | some (b, _) => if b = d then s.applyObj (e.1 / 256) (e.1 % 256) else s
    | none => s) s

end Sys2Proof.Machine
end

