-- ==== Sys2Proof/Machine/NqOut.lean ====
section
/-! DEFINITION. What the hardware responder sends (R30, R31, R43, R44), and the delegation ring (R56 to R58). -/

namespace Sys2Proof.Machine

/-! ### Frames -/

/-- The ten header bytes of a frame (R30). -/
def nqHeader (kind : Nat) (prot last : Bool) (session seq len : Nat) : List Byte :=
  [BitVec.ofNat 8 (16 + kind), BitVec.ofNat 8 (b2n prot * 128 + b2n last * 64)] ++
    beBytes 2 session ++ beBytes 4 seq ++ beBytes 2 len

/-- The IV of a protected frame (R43): SESSION, direction, 0x00, 0x0000_0000, SEQ. -/
def nqIv (session dir seq : Nat) : Nat := session * 2 ^ 80 + dir * 2 ^ 72 + seq

/-- A frame with P = 0. -/
def nqPlain (kind : Nat) (last : Bool) (session seq : Nat) (payload : List Byte) : List Byte :=
  nqHeader kind false last session seq payload.length ++ payload

/-- A frame with P = 1, from the device. -/
def nqProtected (x : Session) (kind : Nat) (last : Bool) (seq : Nat) (payload : List Byte) : List Byte :=
  let h := nqHeader kind true last x.id seq payload.length
  let c := gcmEncrypt x.key.toNat (nqIv x.id 1 seq) h payload
  h ++ c.1 ++ beBytes 16 c.2

/-! ### Sessions -/

/-- The session of a value, if there is one; 0x0000 stands for none (R30). -/
def State.session (s : State) (id : Nat) : Option Session := if id = 0 then none else s.nq.sessions.find? (fun x => x.id == id)

/-- Change a session. -/
def State.modSession (s : State) (id : Nat) (f : Session → Session) : State :=
  if id = 0 then s else s.withNq { s.nq with sessions := s.nq.sessions.map (fun x => if x.id = id then f x else x) }

/-- The role a request has: that of its session, none outside a session. -/
def State.roleOf (s : State) (id : Nat) : Option Nat := (s.session id).map (·.role)

/-! ### Sending -/

/-- A frame leaves: the client has its answer (R35), and a system reset asked for begins (R536). -/
def State.nqSent (s : State) (o : NqOut) : State :=
  let s := s.withNq { s.nq with sent := some o }
  let s := if o.mark = 0 then s else s.modSession o.session (fun x => { x with busy := false })
  if o.mark = 2 && s.nq.resetAt.isSome then s.withNq { s.nq with resetAt := some s.now } else s

/-- A frame is queued. One for a lane leaves at once (log entry 31). -/
def State.nqPush (s : State) (o : NqOut) : State :=
  if o.port = 24 then s.withNq { s.nq with out := s.nq.out ++ [o] } else s.nqSent o

/-- The device sends a frame: outside a session with P = 0, within one protected, with the next SEQ; one for a session that is
gone is not sent. At SEQ 0xFFFF_FFFF the session closes (R44). -/
def State.nqEmit (s : State) (port session kind : Nat) (last : Bool) (payload : List Byte) (mark : Nat) : State :=
  if session = 0 then s.nqPush ⟨port, 0, kind, mark, nqPlain kind last 0 0 payload⟩
  else
    match s.session session with
    | none => s
    | some x =>
      let seq := x.seqOut + 1
      let s := s.modSession session (fun x => { x with seqOut := seq })
      let s := s.nqPush ⟨port, session, kind, mark, nqProtected x kind last seq payload⟩
      if 0xFFFFFFFF ≤ seq then s.closeSession session else s

/-- Index, subindex and a status or direction byte. -/
def nqObj (i sub st : Nat) : List Byte := beBytes 2 i ++ [BitVec.ofNat 8 sub, BitVec.ofNat 8 st]

/-- A Response (R31). -/
def State.nqRespond (s : State) (port session i sub st : Nat) (value : List Byte) : State :=
  s.nqEmit port session 3 false (nqObj i sub st ++ value) (if i = 0x6010 && sub = 1 && st = 0 then 2 else 1)

/-- An Abort from the device that answers a segment. -/
def State.nqAbort (s : State) (port session i sub st : Nat) : State := s.nqEmit port session 0xC false (nqObj i sub st) 1

/-! ### Transfers -/

/-- The transfer that a port and session hold. -/
def State.xfer (s : State) (port session : Nat) : Option Transfer :=
  s.nq.xfers.find? (fun x => x.port == port && x.session == session)

/-- A transfer ends; what it wrote is dropped (R40). -/
def State.endXfer (s : State) (port session : Nat) : State :=
  s.withNq { s.nq with xfers := s.nq.xfers.filter (fun x => !(x.port == port && x.session == session)) }

/-- A transfer is opened or goes on. -/
def State.putXfer (s : State) (x : Transfer) : State :=
  let s := s.endXfer x.port x.session
  s.withNq { s.nq with xfers := s.nq.xfers ++ [x] }

/-! ### Delegation -/

/-- Whether firmware answers (R58). -/
def State.fwPresent (s : State) : Bool := s.flag R.NQ_CTRL_FW_READY && (s.isOn 3 || s.isOn 4)

/-- The 64 bytes of a ring entry (R56). -/
def Delegation.image (d : Delegation) (role : Nat) : List Byte :=
  let seg := 2 ≤ d.op && d.offset != 0xFFFFFFFF
  leBytes 2 d.index ++ [BitVec.ofNat 8 d.sub, BitVec.ofNat 8 d.op, BitVec.ofNat 8 role, 0] ++ leBytes 2 d.len ++
    slice (if seg then [] else d.part) 0 16 ++ leBytes 4 d.offset ++ slice (if seg then d.part else []) 0 36

/-- The address of a ring entry. -/
def State.ringAddr (s : State) (e : Nat) : Nat := s.fld R.NQ_DLG_BASE_BASE * 512 + 64 * (e % 8)

/-- A request entry is written into the ring (R56): status 0, or NOT_AVAILABLE without firmware or a ring in SRAM, BUSY with all
eight entries unreleased (log entry 32). -/
def State.delegate (s : State) (d : Delegation) : Nat × State :=
  let head := s.fld R.NQ_DLG_HEAD_HEAD
  let a := s.ringAddr head
  let inSram := match s.target a with
    | .sram _ => true
    | _ => false
  if !s.fwPresent || !inSram then (9, s)
  else if 8 ≤ s.nq.deleg.length then (8, s)
  else
    let w := s.memWrite 0xE0 a (d.image ((s.roleOf d.session).getD 0))
    if w.1 then (9, w.2)
    else
      let s := w.2
      let s := s.withNq { s.nq with deleg := s.nq.deleg ++ [{ d with entry := head, at_ := s.now, dead := false }] }
      (0, (s.setFld R.NQ_DLG_HEAD_HEAD ((head + 1) % 8)).raise 47)

/-- The entry of the next piece of a segment: at most 36 bytes (R534). -/
def Delegation.next (d : Delegation) (goal : Nat) : Delegation :=
  if d.op = 2 then
    let o := d.base + d.rest.length
    { d with offset := o, len := min 36 (goal - o), part := [] }
  else { d with offset := d.offset + d.part.length, part := d.rest.take 36, rest := d.rest.drop 36,
                len := (d.rest.take 36).length }

/-- The end of the segment a read asks for. -/
def Transfer.goal (x : Transfer) (base : Nat) : Nat := min x.total (base + 1024)

/-- A delegated Segment start has been answered (log entry 32): an accepted one opens the transfer, of the length firmware
returns for a read. -/
def State.dlgStart (s : State) (d : Delegation) (st : Nat) (value : List Byte) : State :=
  if st ≠ 0 then s.nqRespond d.port d.session d.index d.sub st []
  else
    let total := if d.op = 2 then beNat (value.take 4) else beNat (d.part.take 4)
    let x : Transfer := { port := d.port, session := d.session, index := d.index, sub := d.sub, isWrite := d.op == 3,
                          fw := true, total := total, at_ := s.now }
    (s.putXfer x).nqRespond d.port d.session d.index d.sub 0 (if d.op = 2 then beBytes 4 total else [])

/-- A delegated piece of a read segment has been answered. -/
def State.dlgRead (s : State) (d : Delegation) (x : Transfer) (st : Nat) (data : List Byte) : State :=
  if st ≠ 0 then (s.endXfer d.port d.session).nqAbort d.port d.session d.index d.sub st
  else
    let goal := x.goal d.base
    let d := { d with rest := d.rest ++ data.take d.len }
    if data.isEmpty || goal ≤ d.base + d.rest.length then
      let o := d.base + d.rest.length
      let last := decide (x.total ≤ o)
      let s := if last then s.endXfer d.port d.session else s.putXfer { x with offset := o, at_ := s.now }
      s.nqEmit d.port d.session 5 last (nqObj d.index d.sub 0 ++ beBytes 4 d.base ++ d.rest) 1
    else
      let r := s.delegate (d.next goal)
      if r.1 = 0 then r.2 else (r.2.endXfer d.port d.session).nqAbort d.port d.session d.index d.sub r.1

/-- A delegated piece of a written segment has been answered. -/
def State.dlgWrite (s : State) (d : Delegation) (x : Transfer) (st : Nat) : State :=
  if st ≠ 0 then (s.endXfer d.port d.session).nqRespond d.port d.session d.index d.sub st []
  else if !d.rest.isEmpty then
    let r := s.delegate (d.next 0)
    if r.1 = 0 then r.2 else (r.2.endXfer d.port d.session).nqRespond d.port d.session d.index d.sub r.1 []
  else
    let o := d.offset + d.part.length
    if d.last && o ≠ x.total then (s.endXfer d.port d.session).nqAbort d.port d.session d.index d.sub 0xA
    else
      let s := if d.last then s.endXfer d.port d.session else s.putXfer { x with offset := o, at_ := s.now }
      s.nqRespond d.port d.session d.index d.sub 0 []

/-- A delegated request has its answer: the status, the value and the segment data. -/
def State.dlgEnd (s : State) (d : Delegation) (st : Nat) (value data : List Byte) : State :=
  if 2 ≤ d.op && d.offset == 0xFFFFFFFF then s.dlgStart d st value
  else if d.op = 0 then s.nqRespond d.port d.session d.index d.sub st (if st = 0 then value else [])
  else if d.op = 1 then s.nqRespond d.port d.session d.index d.sub st []
  else
    match s.xfer d.port d.session with
    | some x =>
      if x.fw && x.index = d.index && x.sub = d.sub then
        (if d.op = 2 then s.dlgRead d x st data else s.dlgWrite d x st)
      else s.modSession d.session (fun x => { x with busy := false })
    | none => s.modSession d.session (fun x => { x with busy := false })

/-- Firmware's answer is read back from the ring, if the entry still awaits one (R56, R57). -/
def State.dlgAnswer (s : State) (d : Delegation) : State :=
  if d.dead then s
  else
    let r := s.memRead 0xE0 (s.ringAddr d.entry) 64
    let b := r.1.1
    let n := leNat ((b.drop 6).take 2)
    r.2.dlgEnd d ((b.drop 5).headD 0).toNat (slice b 8 (min n 16)) (slice b 28 (min n 36))

/-- Entries that await an answer are answered without firmware; firmware's later answer is discarded. -/
def State.dlgDrop (s : State) (p : Delegation → Bool) (st : Nat) : State :=
  let gone := s.nq.deleg.filter (fun d => !d.dead && p d)
  let s := s.withNq { s.nq with deleg := s.nq.deleg.map (fun d => if p d then { d with dead := true } else d) }
  gone.foldl (fun (s : State) d => s.dlgEnd d st [] []) s

/-- Both cores are off: every pending entry is answered NOT_AVAILABLE (R58). -/
def State.nqCores (s : State) : State := if s.isOn 3 || s.isOn 4 then s else s.dlgDrop (fun _ => true) 9

end Sys2Proof.Machine
end

