-- ==== Sys2Proof/Machine/Power.lean ====
section
/-! DEFINITION. Power domains (chapter 20): what each needs, the request queue and its checks, switching on and off, and the
boot set. -/

namespace Sys2Proof.Machine

/-- The domains that must be ON before a domain may be switched on (R478). -/
def domainNeeds : Nat → List Nat
  | 1 => [0]
  | 2 => [1]
  | 3 => [5, 7]
  | 4 => [5, 7]
  | 7 => [0]
  | 12 => [1, 7]
  | 13 => [12]
  | 21 => [0]
  | 23 => [0]
  | d => if d = 0 ∨ 23 < d then [] else if 14 ≤ d ∧ d < 20 then [1, 7] else [7]

/-- The domains that need a domain. -/
def domainUsers (d : Nat) : List Nat := (List.range 24).filter (fun x => (domainNeeds x).contains d)

/-- The state an action leads to: 0 OFF, 1 ON, 2 RET. -/
def PwrReq.target (r : PwrReq) : Nat := r.action

/-- The check of a request that is taken (R483): the status that ends it, or none when the switch runs. -/
def State.pwrCheck (s : State) (r : PwrReq) : Option Nat :=
  let d := r.domain
  if d = 0 || 23 < d || 2 < r.action || (r.action = 2 && ((d ≠ 5 && d ≠ 6) || s.dom d = 0)) then some 6
  else if s.dom d = r.target then some 0
  else if r.action = 1 && s.isAN && (d = 8 || d = 9) then some 2
  else if r.action = 1 && s.hk.forbid && !keptDomain d then some 3
  else if r.action = 1 then (if (domainNeeds d).all (fun n => s.isOn n) then none else some 1)
  else if (domainUsers d).all (fun x => s.dom x == 0) then none
  else some 1

/-- What a domain's blocks finish before it switches off (R485). -/
def State.drainDomain (s : State) (d : Nat) : State :=
  if d = 3 || d = 4 then
    let c := d - 3
    let s := (List.range 4).foldl (fun (s : State) k => s.setRun (4 * c + k) 0) s
    let s := s.traceDrain c
    match s.ic.lock with
    | some l => if l.master = c then s.withIc { s.ic with lock := none } else s
    | none => s
  else if d = 8 then (s.pipeStop 0).pipeStop 1
  else if d = 9 then (s.pipeStop 2).pipeStop 3
  else if d = 10 then s.wipePages (List.range 32)
  else if 14 ≤ d ∧ d < 20 then
    (List.range 4).foldl (fun (s : State) k =>
      let n := 4 * (d - 14) + k
      if s.flag (R.LNE_CTRL_EN n) then s.laneStop n (s.reg (R.LNE_CTRL n)) else s) s
  else if d = 22 then s.cardsOff
  else s

/-- A core starts cold: no line cached, nothing buffered, its trace begins with a SYNC packet (R339). -/
def State.coreCold (s : State) (c : Nat) : State :=
  let s := s.withCores (tput s.cores c { upAt := s.now })
  s.withTrc { s.trc with cold := c :: s.trc.cold.filter (· != c) }

/-- Calends starts at the seconds of the real-time clock (R95). -/
def State.calStart (s : State) : State :=
  let sec := s.rtcSec
  let s := s.withCal { s.cal with t := sec * calSecond }
  (s.setRegN R.CAL_SEC_LO sec).setRegN R.CAL_SEC_HI (sec / 2 ^ 32 % 65536)

/-- A domain is ON and out of reset: the RWP objects of its registers are applied, and its own start begins (R95, R149, R284,
R346, R411, R527). -/
def State.domainUp (s : State) (d : Nat) : State :=
  let s := (s.setDom d 1).applyObjs d
  match d with
  | 1 => s.calStart
  | 2 => (s.dacPreset 0).dacPreset 1
  | 3 => s.coreCold 0
  | 4 => s.coreCold 1
  | 8 => s.pipesUp 8
  | 9 => s.pipesUp 9
  | 21 => s.hkUp
  | _ => s

/-- A domain is OFF: its contents are lost, and a reset holds it no longer (R480); with both cores off, what
firmware had to answer is answered without it (R58). -/
def State.domainOff (s : State) (d : Nat) : State :=
  let s := (s.loseDomain d).setDom d 0
  let s := s.withRst { s.rst with heldBy := s.rst.heldBy.filter (· != d) }
  if d = 3 || d = 4 then s.nqCores else s

/-- The switch in progress ends with a status; shedding that waited for it begins (R483, R490). -/
def State.switchEnd (s : State) (w : PwrSwitch) (status : Nat) : State :=
  let s := (s.withPwr { s.pwr with active := none }).pwrEnd w.req w.internal status (status == 0)
  if s.pwr.shed then s.shedNow else s

/-- A request that passed its checks starts (R484, R485): the drain of a switch-off, then SWITCHING. -/
def State.switchBegin (s : State) (r : PwrReq) (internal : Bool) : State :=
  let s := if r.action = 0 && s.dom r.domain = 1 then s.drainDomain r.domain else s
  ((s.setDom r.domain 3).withPwr { s.pwr with active := some ⟨r, internal, s.now, false⟩ })

/-- A request taken from a queue (R483). -/
def State.pwrTake (s : State) (r : PwrReq) (internal : Bool) : State :=
  match s.pwrCheck r with
  | some st => s.pwrEnd r internal st false
  | none => s.switchBegin r internal

/-- REQUEST_TAKEN (R482, R483): with no switch in progress, the next request is checked and begins or ends; Vigil's own
requests come first, and those for a domain already in the target state are skipped (R486). -/
def execRequestTaken (s : State) : Host.Outcome State Fault Refusal :=
  if !s.vigil || s.pwr.active.isSome then .next s
  else
    match s.pwr.vigil.dropWhile (fun r => s.dom r.domain == r.target) with
    | r :: rest => .next ((s.withPwr { s.pwr with vigil := rest }).pwrTake r true)
    | [] =>
      match s.pwr.queue with
      | r :: rest => .next ((s.withPwr { s.pwr with vigil := [], queue := rest }).pwrTake r false)
      | [] => .next (s.withPwr { s.pwr with vigil := [] })

/-- RAIL_GOOD (R484): the rails of the domain being switched on are good. -/
def execRailGood (s : State) : Host.Outcome State Fault Refusal :=
  match s.pwr.active with
  | some w => .next (if w.req.action = 1 then s.withPwr { s.pwr with active := some { w with rails := true } } else s)
  | none => .next s

/-- RAIL_GOOD_TIMEOUT (R483): 200 µs without a report; the domain is OFF, NOSUPPLY. -/
def execRailGoodTimeout (s : State) : Host.Outcome State Fault Refusal :=
  match s.pwr.active with
  | some w =>
    if w.req.action = 1 && !w.rails then
      .next (((s.advanceTo (w.start + 200000)).domainOff w.req.domain).switchEnd w 5)
    else .next s
  | none => .next s

/-- SWITCH_ON_DONE (R484): the Sluice opens, the domain is ON. -/
def execSwitchOnDone (s : State) : Host.Outcome State Fault Refusal :=
  match s.pwr.active with
  | some w => .next (if w.req.action = 1 && w.rails then (s.domainUp w.req.domain).switchEnd w 0 else s)
  | none => .next s

/-- DRAIN_DONE (R485): the drain has ended, the switch opens. -/
def execDrainDone (s : State) : Host.Outcome State Fault Refusal :=
  match s.pwr.active with
  | some w => .next (if w.req.action = 0 then (s.domainOff w.req.domain).switchEnd w 0 else s)
  | none => .next s

/-- RET_ENTRY_DONE (R480): the arrays are at retention voltage. -/
def execRetEntryDone (s : State) : Host.Outcome State Fault Refusal :=
  match s.pwr.active with
  | some w => .next (if w.req.action = 2 then (s.setDom w.req.domain 2).switchEnd w 0 else s)
  | none => .next s

/-- A request from firmware or the field network is queued, or refused with BUSY (R482, R483). -/
def State.pwrRequest (s : State) (r : PwrReq) : State :=
  if 8 ≤ s.pwr.queue.length then s.pwrEnd r false 4 false
  else s.withPwr { s.pwr with queue := s.pwr.queue ++ [r] }

/-- What writes to PWR_ registers do: PWR_REQ queues a request of a Warden of M0 or M1 or of M7; bit 0 of PWR_BOOTSET stays 1
(R482, chapter 20, Registers). -/
def pwrWrite (rid : Rid) (a : Nat) (data _old : Word) (s : State) : State :=
  if a = R.PWR_REQ then
    if wardenCore rid || master rid = 7 then s.pwrRequest ⟨nbits data.toNat 4 0, nbits data.toNat 9 8⟩ else s
  else if a = R.PWR_BOOTSET then s.setRegN a (nput (s.regN a) 0 0 1)
  else s

/-- Reads of PWR_ registers: the requests that wait and the switch in progress (R482). -/
def pwrRead (_rid : Rid) (a : Nat) (s : State) : Word × State :=
  if a = R.PWR_QUEUE then (BitVec.ofNat 32 (b2n s.pwr.active.isSome * 256 + s.pwr.queue.length), s) else (s.reg a, s)

/-- The domains of the boot set with every domain they need (R487, R491), in the order of R486. -/
def State.bootDomains (s : State) : List Nat :=
  let named := (List.range 24).filter (fun d => nbit (s.regN R.PWR_BOOTSET) d && !(s.isAN && (d == 8 || d == 9)))
  let add := fun (l : List Nat) => l ++ (l.flatMap domainNeeds).filter (fun d => !l.contains d)
  let all := add (add (add (add named)))
  domainOrder.filter (fun d => all.contains d)

end Sys2Proof.Machine
end

