-- ==== Sys2Proof/Machine/Threads.lean ====
section
/-! DEFINITION. Threads and the event controller (chapters 11, 12): starting and stopping, pending events and where they go,
taking a trap or an event, double faults, waking from EWAIT, doze, the all-wait detector, and the registers of HZ_ and EVT_. -/

namespace Sys2Proof.Machine

/-- A core. -/
def State.core (s : State) (c : Nat) : CoreSt := tget {} s.cores c

/-- Change a core. -/
def State.modCore (s : State) (c : Nat) (f : CoreSt → CoreSt) : State :=
  s.withCores (tmod {} s.cores c f)

/-- Whether core c is up: its domain PD(3 + c) is available (R288). -/
def State.coreUp (s : State) (c : Nat) : Bool := s.live (3 + c)

/-- Whether a thread is watched by the all-wait detector: in RUN or WAIT on a core that is up (R330). -/
def State.watched (s : State) (t : Nat) : Bool := s.coreUp (t / 4) && ((s.thr t).run == 1 || (s.thr t).run == 2)

/-! ### Registers of a thread (R294) -/

/-- The key of a register r8 to r31 in the windows of a thread whose window pointer is `w`: the down registers of ring window
w are the up registers of window w + 1 modulo 11. -/
def winKey (w r : Nat) : Nat :=
  if w = 11 then 352 + (r - 8)
  else if r < 24 then 32 * w + (r - 8)
  else 32 * ((w + 1) % 11) + (r - 24)

/-- A register of a thread; h0 reads zero. -/
def Thread.get (x : Thread) (r : Nat) : Word :=
  if r = 0 then 0 else if r < 8 then tget 0 x.globals r else tget 0 x.win (winKey x.wptr r)

/-- Set a register of a thread; h0 ignores writes. -/
def Thread.set (x : Thread) (r : Nat) (v : Word) : Thread :=
  if r = 0 then x
  else if r < 8 then { x with globals := tset 0 x.globals r v }
  else { x with win := tset 0 x.win (winKey x.wptr r) v }

/-- Set a register of thread t. -/
def State.setThrReg (s : State) (t r : Nat) (v : Word) : State := s.modThr t (fun x => x.set r v)

/-! ### Special registers as words (R295, R299) -/

/-- STS: [6:4] ML, [1] HX, [0] PRIV. -/
def Thread.sts (x : Thread) : Nat := x.ml * 16 + b2n x.hx * 2 + b2n x.warden

/-- WST: [27:24] HDEPTH, [19:16] DEPTH, [3:0] WPTR. -/
def Thread.wst (x : Thread) : Nat := x.hdepth * 2 ^ 24 + x.depth * 2 ^ 16 + x.wptr

/-- The base window B of the window service instructions: WPTR, or in W11 the interrupted window (R298). -/
def Thread.base (x : Thread) : Nat := if x.wptr = 11 then x.estate.toNat % 16 else x.wptr

/-! ### Pending events (R333, R334) -/

/-- Whether the pending bit of an event is set. -/
def State.evPending (s : State) (k : Nat) : Bool := nbit (s.regN (R.EVT_PEND (k / 32))) (k % 32)

/-- The thread E0 or E1 goes to: the lowest-numbered in RUN or WAIT with HX = 0 (R328). -/
def State.faultTarget (s : State) : Option Nat := (List.range 8).find? (fun t => s.watched t && !(s.thr t).hx)

/-- The thread E6 goes to: the lowest-numbered watched one (R332). -/
def State.allWaitTarget (s : State) : Option Nat := (List.range 8).find? (fun t => s.watched t)

/-- The thread an event goes to. -/
def State.evTarget (s : State) (k : Nat) : Option Nat :=
  if k = 0 || k = 1 then s.faultTarget
  else if k = 6 then s.allWaitTarget
  else
    match s.evt.redir.find? (fun p => p.1 == k) with
    | some p => some p.2
    | none => some (s.fld (R.EVT_SRC_TGT k))

/-- The level of an event. -/
def State.evLevel (s : State) (k : Nat) : Nat := s.fld (R.EVT_SRC_LEVEL k)

/-- The enabled events pending for a thread, in ascending order. -/
def State.evsOf (s : State) (t : Nat) : List Nat :=
  (List.range 160).filter (fun k => s.evPending k && s.flag (R.EVT_SRC_EN k) && s.evTarget k == some t)

/-- Of some events, the one with the highest level, and among equal levels the lowest number (R325). -/
def State.evBest (s : State) (ks : List Nat) : Option Nat :=
  ks.foldl (fun (b : Option Nat) k =>
    match b with
    | some j => if s.evLevel j < s.evLevel k then some k else b
    | none => some k) none

/-- Whether a thread's mask level lets a level through (R325). -/
def levelOpen (ml l : Nat) : Bool := l != 0 && (decide (ml < l) || l == 7)

/-- The event a thread takes at its next boundary, if any (R325). -/
def State.deliverable (s : State) (t : Nat) : Option Nat :=
  if (s.thr t).hx then none else s.evBest ((s.evsOf t).filter (fun k => levelOpen (s.thr t).ml (s.evLevel k)))

/-! ### Taking a trap (R318 to R322) -/

/-- Trap entry in one step: EPC, ECAUSE, EINFO, ESTATE, STS, WST and PC (R322); TRAP and TARGET packets (R339). -/
def State.trapEnter (s : State) (t : Nat) (epc ecause einfo : Word) (ml off : Nat) : State :=
  let x := s.thr t
  let target := x.evec + BitVec.ofNat 32 off
  let s := s.modThr t (fun x =>
    { x with epc := epc, ecause := ecause, einfo := einfo,
             estate := BitVec.ofNat 32 (x.ml * 256 + b2n x.warden * 16 + x.wptr),
             warden := true, hx := true, ml := ml, wptr := 11, pc := target, hxSince := s.now })
  let code := if nbit ecause.toNat 31 then 2 ^ 15 + ecause.toNat % 2 ^ 15 else ecause.toNat % 2 ^ 15
  (s.trace t 4 (leBytes 2 code) target).trace t 3 (leBytes 4 target.toNat) target

/-- A thread takes an event as a trap: its pending bit clears (R335). -/
def State.takeEvent (s : State) (t k : Nat) : State :=
  let l := s.evLevel k
  let a := R.EVT_PEND (k / 32)
  let s := s.setRegN a (nput (s.regN a) (k % 32) (k % 32) 0)
  let s := s.withEvt { s.evt with redir := tdel s.evt.redir k }
  s.trapEnter t (s.thr t).pc (BitVec.ofNat 32 (2 ^ 31 + k)) (BitVec.ofNat 32 l) l 0x100

/-- The double-fault reset source acts under DF_POL (R504). -/
def State.doubleFaultReset (s : State) : State :=
  if s.flag R.RST_CFG_DF_POL then s.setFld R.NQ_CTRL_FW_READY 0 else s.systemReset 5 false

/-- A double fault of a thread (R327, R328): it halts, the fault is logged and counted, E0 or E1 is raised, and with no thread
to handle it the reset source acts. -/
def State.doubleFault (s : State) (t : Nat) (cause pc info : Word) : State :=
  let esc := !(s.thr t).hx
  let s := s.setRun t 3
  let s := if s.flag R.EVT_DFLOG0_VALID then s.setFld R.EVT_DFLOG0_MULTI 1
    else (((s.setRegN R.EVT_DFLOG0 (2 ^ 31 + b2n esc * 2 ^ 29 + t * 2 ^ 8)).setReg R.EVT_DFLOG1 cause).setReg
      R.EVT_DFLOG2 pc).setReg R.EVT_DFLOG3 info
  let s := (s.count C.EVT_DFCNT).raise (t / 4)
  if s.faultTarget.isNone then s.doubleFaultReset else s

/-- The level of a synchronous cause in EVT_SLVL (R318). -/
def State.causeLevel (s : State) (cause : Nat) : Nat := nbits (s.regN R.EVT_SLVL) (3 * cause - 1) (3 * cause - 3)

/-- The vector entry of a synchronous cause (R321). -/
def causeEntry (cause : Nat) : Nat := if cause = 6 then 0 else if cause = 7 then 0x40 else if cause = 8 then 0xC0 else 0x80

/-- A synchronous trap of the instruction at the thread's pc (R318, R326): trap entry, or a double fault. -/
def State.trapSync (s : State) (t cause : Nat) (info : Word) : State :=
  let x := s.thr t
  if x.hx || decide (s.causeLevel cause ≤ x.ml) then s.doubleFault t (BitVec.ofNat 32 cause) x.pc info
  else s.trapEnter t (if cause = 8 then x.pc + 4 else x.pc) (BitVec.ofNat 32 cause) info x.ml (causeEntry cause)

/-! ### Doze (R293, R344, R345) -/

/-- A core leaves doze for a thread: WAKE with the time and the PC of that thread. -/
def State.wakeCore (s : State) (c t : Nat) : State :=
  if (s.core c).dozing then
    let s := s.modCore c (fun x => { x with dozing := false, dozed := x.dozed + (s.now - x.dozeAt) })
    s.trace t 6 (s.traceStamp ++ leBytes 4 (s.thr t).pc.toNat) (s.thr t).pc
  else s

/-! ### EWAIT (R306, R307) -/

/-- Whether a wake condition of a waiting thread holds, a level-7 event that it can take among them. -/
def State.wakeHolds (s : State) (t : Nat) : Bool :=
  let x := s.thr t
  let m := x.wmask.toNat
  (x.sig.toNat &&& m) % 65536 != 0 || (nbit m 24 && s.wtimLeft t == 0) ||
    (s.evsOf t).any (fun k => nbit m (16 + s.evLevel k)) || (s.deliverable t).any (fun k => s.evLevel k == 7)

/-- EWAIT completes: rd, the signals taken, and the event taken at wake. -/
def State.wake (s : State) (t : Nat) (forced : Bool) : State :=
  let s := s.wakeCore (t / 4) t
  let x := s.thr t
  let m := x.wmask.toNat
  let sigs := (x.sig.toNat &&& m) % 65536
  let blocked := (s.evsOf t).foldl (fun n k =>
    let l := s.evLevel k
    if levelOpen x.ml l then n else nput n l l 1) 0
  let ev := s.deliverable t
  let rd := sigs + blocked * 2 ^ 16 + b2n (nbit m 24 && s.wtimLeft t == 0) * 2 ^ 24 + b2n forced * 2 ^ 25 +
    b2n ev.isSome * 2 ^ 26
  let s := s.setRun t 1
  let s := s.modThr t (fun x => { x.set x.waitRd (BitVec.ofNat 32 rd) with
    sig := BitVec.ofNat 16 (x.sig.toNat - sigs) })
  match ev with
  | some k => s.takeEvent t k
  | none => s

/-- EWAIT_WAKE (R307): a waiting thread whose wake condition holds. -/
def execEwaitWake (t : Fin 8) (s : State) : Host.Outcome State Fault Refusal :=
  .next (if s.coreUp (t.val / 4) && (s.thr t.val).run == 2 && s.wakeHolds t.val then s.wake t.val false else s)

/-- WTIM_EXPIRY (R306): the wake timer of a waiting thread reaches zero. -/
def execWtimExpiry (t : Fin 8) (s : State) : Host.Outcome State Fault Refusal :=
  if s.coreUp (t.val / 4) && (s.thr t.val).run == 2 && nbit (s.thr t.val).wmask.toNat 24 then
    let x := s.thr t.val
    .next ((s.advanceTo (x.wtimFrom + (x.wtim.toNat * 5 + 5) / 6)).wake t.val false)
  else .next s

/-- EVENT_TRAP (R335): a thread in RUN takes a pending event at its boundary; a waiting one takes it as it wakes. -/
def execEventTrap (t : Fin 8) (s : State) : Host.Outcome State Fault Refusal :=
  let x := s.thr t.val
  if !s.coreUp (t.val / 4) then .next s
  else if x.run = 2 then .next (if s.wakeHolds t.val then s.wake t.val false else s)
  else if x.run = 1 then
    match s.deliverable t.val with
    | some k => .next ((s.wakeCore (t.val / 4) t.val).takeEvent t.val k)
    | none => .next s
  else .next s

/-! ### Start, stop and signals (R291, R292, R308) -/

/-- HZ_Tn_CTRL.START: the thread starts at HZ_Tn_PC in Warden at ML 7, with SYNC; or the start is rejected. -/
def State.startThread (s : State) (t : Nat) : State :=
  let x := s.thr t
  if s.coreUp (t / 4) && (x.run = 0 || x.run = 3) then
    let pc := s.reg (R.HZ_TPC t)
    let s := s.modThr t (fun x => { x with pc := pc, warden := true, hx := false, ml := 7, wptr := 0, depth := 0, hdepth := 0 })
    (s.setRun t 1).trace t 1 (leBytes 4 pc.toNat) pc
  else s.setFld (R.HZ_TSTAT_START_REJ t) 1

/-- Signals for a thread (R308): kept, or dropped and counted with E5 when its core is off. -/
def State.signal (s : State) (t bits : Nat) : State :=
  if s.coreUp (t / 4) then s.modThr t (fun x => { x with sig := x.sig ||| BitVec.ofNat 16 bits })
  else (s.count C.HZ_SIGLOST).raise 5

/-- DOZE_ENTRY (R293, R344): no thread in RUN, an empty store buffer, DOZEc set. -/
def execDozeEntry (c : Fin 2) (s : State) : Host.Outcome State Fault Refusal :=
  let en := if c.val = 0 then s.flag R.HZ_CTRL_DOZE0 else s.flag R.HZ_CTRL_DOZE1
  if s.coreUp c.val && en && !(s.core c.val).dozing && (s.core c.val).sb.isEmpty &&
      (List.range 4).all (fun k => (s.thr (4 * c.val + k)).run != 1) then
    let s := (s.traceCore c.val 5 s.traceNs).traceDrain c.val
    .next (s.modCore c.val (fun x => { x with dozing := true, dozeAt := s.now }))
  else .next s

/-- DOZE_EXIT (R293): a wake condition of a thread, or a thread that was started. -/
def execDozeExit (c : Fin 2) (s : State) : Host.Outcome State Fault Refusal :=
  match (List.range 4).find? (fun k =>
      let t := 4 * c.val + k
      (s.thr t).run == 1 || ((s.thr t).run == 2 && s.wakeHolds t)) with
  | some k => .next (if s.coreUp c.val then s.wakeCore c.val (4 * c.val + k) else s)
  | none => .next s

/-! ### The all-wait detector (R330 to R332) -/

/-- Whether hardware can wake a waiting thread (R309). -/
def State.hwWakeable (s : State) (t : Nat) : Bool :=
  let m := (s.thr t).wmask.toNat
  (nbit m 24 && 0 < s.wtimLeft t) || (List.range 160).any (fun k =>
    !eventReserved k && s.flag (R.EVT_SRC_EN k) && s.evTarget k == some t && nbit m (16 + s.evLevel k))

/-- The all-wait condition. -/
def State.allWait (s : State) : Bool :=
  let w := (List.range 8).filter (fun t => s.watched t)
  !w.isEmpty && w.all (fun t => (s.thr t).run == 2 && !s.hwWakeable t && !s.wakeHolds t)

/-- Since when the all-wait condition has held: the last watched thread entered WAIT. -/
def State.allWaitFrom (s : State) : Nat :=
  ((List.range 8).filter (fun t => s.watched t)).foldl (fun n t => max n (s.thr t).waitAt) 0

/-- ALL_WAIT_CONFIRMED (R331, R332): after 512 interconnect cycles E6 is raised, and its thread is forced out of its wait; with
ML of 6 or more the delivery is a double fault. -/
def execAllWaitConfirmed (s : State) : Host.Outcome State Fault Refusal :=
  match s.live 7 && s.allWait, s.allWaitTarget with
  | true, some t =>
    let s := s.advanceTo (s.allWaitFrom + 854)
    let s := (s.count C.EVT_AWCNT).raise 6
    let s := s.wake t true
    let x := s.thr t
    .next (if 6 ≤ x.ml && s.evPending 6 then s.doubleFault t 0x80000006 x.pc 6 else s)
  | _, _ => .next s

/-! ### Raising and redirection -/

/-- EVENT_RAISED (R333): a source's cause rises. -/
def execEventRaised (k : Fin 160) (s : State) : Host.Outcome State Fault Refusal := .next (s.raise k.val)

/-- LEVEL7_REDIRECTION (R336): a level-7 event whose target is OFF, in HALT, on a core that is off, or has held HX = 1 for 4096
core cycles. -/
def execLevel7Redirection (k : Fin 160) (s : State) : Host.Outcome State Fault Refusal :=
  let k := k.val
  match s.live 7 && s.evPending k && s.flag (R.EVT_SRC_EN k) && s.evLevel k == 7 && k != 0 && k != 1, s.evTarget k with
  | true, some t =>
    let x := s.thr t
    if s.watched t && !x.hx then .next s
    else
      let s := if s.watched t then s.advanceTo (max (tget 0 s.evt.raisedAt k) x.hxSince + 3414) else s
      match (List.range 8).find? (fun u => u != t && s.watched u && !(s.thr u).hx) with
      | some u => .next (((s.withEvt { s.evt with redir := tput s.evt.redir k u }).count C.EVT_L7REDIR).raise 4)
      | none => .next s
  | _, _ => .next s

/-! ### Registers of EVT_ -/

/-- Sources whose enable and level are fixed (R334). -/
def evFixed (k : Nat) : Bool := k == 0 || k == 1 || k == 6 || k == 96

/-- What writes to EVT_ registers do beyond their fields (R326, R334, R337). -/
def evtWrite (_rid : Rid) (a : Nat) (_data old : Word) (s : State) : State :=
  if R.EVT_SRC 0 ≤ a ∧ a < R.EVT_SRC 160 then
    let k := (a - R.EVT_SRC 0) / 4
    if eventReserved k then s.setReg a old
    else if evFixed k then s.setRegN a (nput old.toNat 2 0 (nbits (s.regN a) 2 0))
    else s
  else if a = R.EVT_SLVL then
    (List.range 8).foldl (fun (s : State) i =>
      if nbits (s.regN a) (3 * i + 2) (3 * i) = 0 then s.setRegN a (nput (s.regN a) (3 * i + 2) (3 * i) 1) else s) s
  else if a = R.EVT_SWSET then
    let m := s.regN a
    let s := s.setRegN a 0
    (List.range 8).foldl (fun (s : State) i => if nbit m i then s.raise (8 + i) else s) s
  else s

/-- Reads of EVT_ registers that show the present moment: EVT_Tn_TOP (R334) and EVT_AWSTAT. -/
def evtRead (_rid : Rid) (a : Nat) (s : State) : Word × State :=
  if R.EVT_TOP 0 ≤ a ∧ a < R.EVT_TOP 8 then
    match s.evBest (s.evsOf ((a - R.EVT_TOP 0) / 4)) with
    | some k => (BitVec.ofNat 32 (2 ^ 31 + s.evLevel k * 256 + k), s)
    | none => (0, s)
  else if a = R.EVT_AWSTAT then
    if s.allWait then (BitVec.ofNat 32 (2 ^ 31 + min 512 ((s.now - s.allWaitFrom) * 3 / 5)), s) else (0, s)
  else (s.reg a, s)

/-! ### Registers of HZ_ -/

/-- What writes to HZ_ registers do beyond their fields (R291, R292, R308). -/
def hzWrite (_rid : Rid) (a : Nat) (data _old : Word) (s : State) : State :=
  match (List.range 8).find? (fun t => R.HZ_TCTRL t ≤ a && a < R.HZ_TCTRL t + 32) with
  | none => s
  | some t =>
    if a = R.HZ_TCTRL t then
      let start := s.flag (R.HZ_TCTRL_START t)
      let stop := s.flag (R.HZ_TCTRL_STOP t)
      let s := (s.setFld (R.HZ_TCTRL_START t) 0).setFld (R.HZ_TCTRL_STOP t) 0
      let s := if start then s.startThread t else s
      if stop then s.stopThread t else s
    else if a = R.HZ_TSIG t then (s.setRegN a 0).signal t (data.toNat % 65536)
    else s

/-- Reads of HZ_ registers that show the threads and cores. -/
def hzRead (_rid : Rid) (a : Nat) (s : State) : Word × State :=
  if a = R.HZ_CSTAT then
    (BitVec.ofNat 32 (b2n (s.core 1).dozing * 32 + b2n (s.core 0).dozing * 16 + b2n (s.coreUp 1) * 2 + b2n (s.coreUp 0)), s)
  else
    match (List.range 8).find? (fun t => R.HZ_TCTRL t ≤ a && a < R.HZ_TCTRL t + 32) with
    | none =>
      if R.HZ_RGN_LIMIT 0 ≤ a ∧ a < R.HZ_RGN_LIMIT 8 ∧ (a - R.HZ_RGN_LIMIT 0) % 16 = 0 then (s.reg a ||| 0x3F, s)
      else (s.reg a, s)
    | some t =>
      let x := s.thr t
      if a = R.HZ_TSTAT t then
        (BitVec.ofNat 32 (b2n (s.flag (R.HZ_TSTAT_START_REJ t)) * 256 + x.ml * 32 + b2n x.hx * 16 + b2n x.warden * 8 + x.run), s)
      else if a = R.HZ_TSIG t then (x.sig.setWidth 32, s)
      else if a = R.HZ_TWAKE t then (x.wmask.setWidth 32, s)
      else if a = R.HZ_TWST t then (BitVec.ofNat 32 x.wst, s)
      else if a = R.HZ_TPCS t then (x.pcs, s)
      else if a = R.HZ_TWSP t then (x.wsp, s)
      else (s.reg a, s)

end Sys2Proof.Machine
end

