-- ==== Sys2Proof/Machine/Reset.lean ====
section
/-! DEFINITION. Reset and start-up (chapter 21): the power-on reset, the slow clock, the hold and the boot set of a system
reset, the watchdog, and the RESET_N pin. The boot ROM stands in Boot.lean. -/

namespace Sys2Proof.Machine

/-! ### Start -/

/-- Vigil asks for the boot set (R487), or waits for VDD_CORE (R498). -/
def State.startBootSet (s : State) : State :=
  if s.rst.coreGood then
    let on := s.bootDomains.map (fun d => (⟨d, 1⟩ : PwrReq))
    (((s.withRst { s.rst with phase := .bootSet }).withPwr { s.pwr with vigil := s.pwr.vigil ++ on })).setFld
      R.RST_STAT_CORE_WAIT 0
  else (s.withRst { s.rst with phase := .waitCore }).setFld R.RST_STAT_CORE_WAIT 1

/-- RESET_N counts as low and is armed: a system reset with cause PIN (R506). -/
def State.pinReset (s : State) : State :=
  if s.rst.pinLow && s.flag R.RST_STAT_PIN_ARMED then s.systemReset 1 false else s

/-- POR_ASSERT (R495): every domain is reset, PD0 included; what the store and the fuse array were doing is cut. The
real-time clock runs on; it needs its crystal then (R496, R556). -/
def execPorAssert (s : State) : Host.Outcome State Fault Refusal :=
  if !s.vigil then .next s
  else
    let lost := if s.flag R.RST_STAT_SLOW_FB then some s.now else s.rst.slowLostAt
    let s := (s.nvsPowerLoss).fusePowerLoss
    let s := (List.range 23).foldl (fun (s : State) k => (s.loseDomain (k + 1)).setDom (k + 1) 0) s
    let s := (blocksIn 0).foldl State.resetBlock s
    let s := (((s.withPwr {}).withTmp { marker := s.tmp.marker }).withTrn {}).withHk {}
    let s := ((s.withNq {}).withTrc {}).withHld { s.hld with retention := none, retentionBad := false }
    let s := s.withRst { s.rst with phase := .por, sys := none, heldBy := [], slowLostAt := lost, brown := false,
                                    rstOutHigh := false, outAt := none, boot := {} }
    .next (s.withNvs { s.nvs with keys := [none, none, none] })

/-- POR_RELEASE (R497): fuses, PD0, role keys, persistent set, tamper log; then the boot set once VDD_CORE is good,
and a wear rotation that the loss of power cut runs again (R387). -/
def execPorRelease (s : State) : Host.Outcome State Fault Refusal :=
  if s.vigil then .next s
  else
    let s : State := s.withRst { s.rst with phase := .waitCore }
    let s : State := if s.rst.slowLostAt.isSome then
        s.withRst { s.rst with slowLostAt := none, rtcZero := s.now, rtcLostNext := true } else s
    let s := s.loadFuses
    let s := s.setFlag R.RST_STAT_RTC_LOST s.rst.rtcLostNext
    let s : State := s.withRst { s.rst with rtcLostNext := false }
    let s := (s.trnStartup.loadRoleKeys).nqLoad s.isAN
    let s := s.tmpLoad.applyObjs 0
    let s := s.setFlag R.RST_STAT_PIN_LOW s.rst.pinLow
    .next s.startBootSet.pinReset.nextRotation

/-- VSCAP_LOW (R496): the real-time clock restarts at zero, and RTC_LOST is set at the next release. -/
def execVscapLow (s : State) : Host.Outcome State Fault Refusal :=
  .next (s.withRst { s.rst with rtcZero := s.now, rtcLostNext := true })

/-- SLOW_CLOCK_LOSS (R556): Vigil goes to the clock divided from 25 MHz; without Vigil the real-time clock stands still. -/
def execSlowClockLoss (s : State) : Host.Outcome State Fault Refusal :=
  if s.vigil then .next (s.setFld R.RST_STAT_SLOW_FB 1)
  else .next (s.withRst { s.rst with slowLostAt := some (s.rst.slowLostAt.getD s.now) })

/-- SLOW_CLOCK_RETURN (R556): the crystal has run for 1 s. -/
def execSlowClockReturn (s : State) : Host.Outcome State Fault Refusal :=
  .next (if s.vigil then s.setFld R.RST_STAT_SLOW_FB 0 else s)

/-- VDD_CORE_GOOD (R498): VDD_CORE is good, and the boot set is switched on if Vigil waited for it. -/
def execVddCoreGood (s : State) : Host.Outcome State Fault Refusal :=
  let s := if s.rst.coreGood then s else s.withRst { s.rst with coreGood := true, coreAt := s.now }
  .next (if s.rst.phase = .waitCore then s.startBootSet else s)

/-- BROWNOUT (R503): VDD_CORE has lain below 0.69 V for 2 µs. -/
def execBrownout (s : State) : Host.Outcome State Fault Refusal :=
  if !s.rst.coreGood then .next s
  else
    let s := s.withRst { s.rst with coreGood := false, brown := s.vigil }
    .next (s.systemReset 2 false)

/-! ### The hold (R501) -/

/-- Whether nothing keeps the hold of a system reset: no switch in progress, no zeroing, RESET_N not low, VDD_CORE good after
a brown-out (R501, R503, R506). -/
def State.holdFree (s : State) (r : SysReset) : Bool :=
  s.pwr.active.isNone && !r.zeroing && !(s.rst.pinLow && s.flag R.RST_STAT_PIN_ARMED) && !(s.rst.brown && !s.rst.coreGood)

/-- The earliest end of the hold: 10 µs after the reset, and 1 ms of good VDD_CORE after a brown-out. -/
def State.holdEnd (s : State) (r : SysReset) : Nat :=
  max (r.at_ + 10000) (if s.rst.brown then s.rst.coreAt + 1000000 else 0)

/-- The defaults of restore-defaults reach the registers of PD0 and of the domains the reset leaves running, and the empty
set is asked for (R52, R527). -/
def State.restoreEnd (s : State) (scope : List Nat) : State :=
  if s.nq.restoreDue && !s.nq.emptyWrite && s.nq.restorePend then
    let s := ((List.range 24).filter (fun d => d == 0 || (s.isOn d && !scope.contains d))).foldl State.applyObjs s
    (s.withNq { s.nq with emptyWrite := true }).nqEmptyWrite
  else s

/-- The hold ends (R501 steps 1, 2): domains outside the boot set go off, those in it that are ON leave reset, and the boot set
is switched on. A hold of EXTEST ends with it for every domain, unless the TAP is still in EXTEST (R352). -/
def State.holdDone (s : State) (r : SysReset) : State :=
  let s := s.restoreEnd r.scope
  let boot := s.bootDomains
  let offs := domainOrder.reverse.filter (fun d => r.scope.contains d && !boot.contains d && s.dom d != 0)
  let rest := s.rst.heldBy.filter (fun d => !r.scope.contains d)
  let stay := rest.filter (fun d => s.pwr.vigil.any (fun q => q.domain == d && q.action == 0))
  let held := if s.trc.extest then (List.range 23).filter (· != 0) else offs ++ stay
  let leaves := fun (d : Nat) => !held.contains d && s.isOn d && ((r.scope.contains d && boot.contains d) || rest.contains d)
  let s := s.withRst { s.rst with heldBy := held, sys := none, brown := false }
  let s := s.withPwr { s.pwr with vigil := s.pwr.vigil ++ offs.map (fun d => (⟨d, 0⟩ : PwrReq)) }
  let s := (domainOrder.filter leaves).foldl State.domainUp s
  s.startBootSet

/-- SYSTEM_RESET_HOLD_END (R501). -/
def execSystemResetHoldEnd (s : State) : Host.Outcome State Fault Refusal :=
  match s.inHold, s.rst.sys with
  | true, some r => if s.holdFree r then .next ((s.advanceTo (s.holdEnd r)).holdDone r) else .next s
  | _, _ => .next s

/-- BOOT_ENTRY (R501 steps 3, 4; R510): the requests for the boot set have ended; T0 runs at the boot entry when its core is
ON, and RST_OUT_N is due. -/
def execBootEntry (s : State) : Host.Outcome State Fault Refusal :=
  if s.rst.phase = .bootSet && s.pwr.active.isNone && s.pwr.vigil.all (fun r => s.dom r.domain == r.target) then
    let s := s.withPwr { s.pwr with vigil := [] }
    let s := s.withRst { s.rst with phase := .running, outAt := some (s.now + s.fld R.RST_CFG_OUTEXT * 1000000) }
    .next (if s.live 3 then s.bootStart else s)
  else .next s

/-- RST_OUT_RELEASE (R501 step 4): RST_OUT_N goes high. -/
def execRstOutRelease (s : State) : Host.Outcome State Fault Refusal :=
  match s.rst.outAt with
  | some t =>
    let s := s.advanceTo t
    .next (s.withRst { s.rst with rstOutHigh := true, outAt := none })
  | none => .next s

/-! ### Other causes -/

/-- NIQUEVOR_RESET (R536): the response has left, or 10 ms have passed. -/
def execNiquevorReset (s : State) : Host.Outcome State Fault Refusal :=
  match s.vigil, s.nq.resetAt with
  | true, some t =>
    let s := s.advanceTo t
    .next ((s.withNq { s.nq with resetAt := none }).systemReset 4 false)
  | _, _ => .next s

/-- When the watchdog runs out. -/
def State.wdogEnd (s : State) : Nat := s.rst.wdogFrom + max 1 (s.fld R.RST_WDOG_CFG_TIMEOUT) * 1000000000

/-- WATCHDOG_EXPIRY (R505): the count reaches zero. -/
def execWatchdogExpiry (s : State) : Host.Outcome State Fault Refusal :=
  if s.vigil && s.flag R.RST_WDOG_CFG_EN then .next ((s.advanceTo s.wdogEnd).systemReset 6 false) else .next s

/-! ### The RESET_N pin (R506 to R508) -/

/-- RESET_N_LOW (R506): every sample over 10 ms has been low. -/
def execResetNLow (s : State) : Host.Outcome State Fault Refusal :=
  if s.rst.pinLow then .next s
  else
    let s := s.withRst { s.rst with pinLow := true, pinSince := s.now - 10000000 }
    .next (if s.vigil then (s.setFld R.RST_STAT_PIN_LOW 1).pinReset else s)

/-- RESET_N_HIGH (R506): every sample over 10 ms has been high. -/
def execResetNHigh (s : State) : Host.Outcome State Fault Refusal :=
  if !s.rst.pinLow then .next s
  else
    let s := s.withRst { s.rst with pinLow := false, pinSince := s.now - 10000000 }
    .next (if s.vigil then s.setFld R.RST_STAT_PIN_LOW 0 else s)

/-- RESET_N_STUCK (R507): low for 20 s; with RSTPOL 0 the pin is disarmed. -/
def execResetNStuck (s : State) : Host.Outcome State Fault Refusal :=
  if s.vigil && s.rst.pinLow then
    let s := (s.advanceTo (s.rst.pinSince + 20000000000)).setFld R.RST_STAT_STUCK 1
    .next (if s.flag R.RST_STAT_RSTPOL then s else s.setFld R.RST_STAT_PIN_ARMED 0)
  else .next s

/-- RESET_N_REARM (R508): a disarmed pin has read high for 1 s. -/
def execResetNRearm (s : State) : Host.Outcome State Fault Refusal :=
  if s.vigil && !s.rst.pinLow && !s.flag R.RST_STAT_PIN_ARMED then
    .next ((s.advanceTo (s.rst.pinSince + 1000000000)).setFld R.RST_STAT_PIN_ARMED 1)
  else .next s

/-- REAL_TIME_CLOCK_ALARM (R338): E159. -/
def execRealTimeClockAlarm (s : State) : Host.Outcome State Fault Refusal := .next (s.raise 159)

/-! ### Registers -/

/-- What writes to RST_ registers do beyond their fields (R500, R505). -/
def rstWrite (rid : Rid) (a : Nat) (data old : Word) (s : State) : State :=
  if a = R.RST_SYSRST then
    if data = 0xA5A50001 && wardenCore rid then s.systemReset 3 false else s
  else if a = R.RST_WDOG_CFG then
    if nbit old.toNat 31 then s.setFld R.RST_WDOG_CFG_TIMEOUT (nbits old.toNat 7 0)
    else if s.flag R.RST_WDOG_CFG_EN then s.withRst { s.rst with wdogFrom := s.now }
    else s
  else if a = R.RST_WDOG_KICK then
    if data = 0x4B49434B && s.flag R.RST_WDOG_CFG_EN then s.withRst { s.rst with wdogFrom := s.now } else s
  else s

/-- Reads of RST_ registers: the watchdog's remaining milliseconds (R505). -/
def rstRead (_rid : Rid) (a : Nat) (s : State) : Word × State :=
  if a = R.RST_WDOG_LEFT then
    (if s.flag R.RST_WDOG_CFG_EN then BitVec.ofNat 32 ((s.wdogEnd - s.now) / 1000000) else 0, s)
  else (s.reg a, s)

end Sys2Proof.Machine
end

