-- ==== Sys2Proof/Machine/DmaReg.lean ====
section
/-! DEFINITION. Writes and reads of the DMA registers (R366 to R370): what starts, stops and rejects a channel. The transfers
themselves are in Dma. -/

namespace Sys2Proof.Machine

/-- The first register of a channel. -/
def dmaBase (c : Nat) : Nat := R.DMA_SRC c

/-- Change what a channel is doing. -/
def State.modDma (s : State) (c : Nat) (f : DmaRun → DmaRun) : State :=
  s.withIc { s.ic with dma := s.ic.dma.map (fun (p : Nat × DmaRun) => if p.1 = c then (c, f p.2) else p) }

/-- A channel is no longer busy. -/
def State.dmaIdle (s : State) (c : Nat) : State := s.withIc { s.ic with dma := tdel s.ic.dma c }

/-- DMA_STAT.REJ is set. -/
def State.dmaRej (s : State) : State := s.setFld R.DMA_STAT_REJ 1

/-- DMA_DONE bit c is set, and E45 raised while the bit rises (R369). -/
def State.dmaDone (s : State) (c : Nat) : State :=
  if nbit (s.regN R.DMA_DONE) c then s
  else (s.setRegN R.DMA_DONE (nput (s.regN R.DMA_DONE) c c 1)).raise 45

/-- DMA_ERR bit c is set and E46 raised, with ERRKIND, ERRADDR and REMAIN; the channel stops (R368, R369). -/
def State.dmaFail (s : State) (c kind addr remain : Nat) : State :=
  let s := (s.setRegN (R.DMA_CSTAT c) (kind * 2 ^ 24 + remain % 2 ^ 24)).setRegN (R.DMA_ERRADDR c) addr
  let s := s.setRegN R.DMA_ERR (nput (s.regN R.DMA_ERR) c c 1)
  (s.dmaIdle c).raise 46

/-- GO on an idle channel of an enabled controller (R367 to R369). The status of the transfer before it is cleared (log entry
30). A transfer of LEN 0 completes at once. -/
def State.dmaStart (s : State) (c : Nat) : State :=
  let cfg := s.regN (R.DMA_CFG c)
  let s := (s.setRegN (R.DMA_CSTAT c) 0).setRegN (R.DMA_ERRADDR c) 0
  if nbit cfg 6 then
    s.withIc { s.ic with dma := tput s.ic.dma c { next := some (s.regN (R.DMA_NEXT c)), loading := true } }
  else
    let n := s.regN (R.DMA_LEN c)
    if n = 0 then s.dmaDone c
    else
      let run : DmaRun := { src := s.regN (R.DMA_SRC c), dst := s.regN (R.DMA_DST c), left := n, sfix := nbit cfg 2,
                            dfix := nbit cfg 3, irq := true }
      s.withIc { s.ic with dma := tput s.ic.dma c run }

/-- A write of DMA_CHc_CFG: GO and ABORT read 0; while the channel is BUSY only ABORT acts (R369, R370). -/
def State.dmaCfg (s : State) (c : Nat) (data old : Word) : State :=
  let new := s.regN (R.DMA_CFG c) % 2 ^ 30
  let go := nbit data.toNat 31
  if s.dmaBusy c then
    let s := if go || new != old.toNat % 2 ^ 30 then s.dmaRej else s
    let s := s.setReg (R.DMA_CFG c) old
    if nbit data.toNat 30 then s.dmaStop c else s
  else
    let s := s.setRegN (R.DMA_CFG c) new
    if go && s.flag R.DMA_CTRL_EN then
      let s := s.dmaStart c
      if nbit data.toNat 30 then s.dmaStop c else s
    else s

/-- Effects of a write to the DMA block. -/
def dmaWrite (_rid : Rid) (a : Nat) (data old : Word) (s : State) : State :=
  if a = R.DMA_CTRL then
    if nbit old.toNat 0 && !s.flag R.DMA_CTRL_EN then (List.range 16).foldl (fun (s : State) c => s.dmaStop c) s else s
  else if dmaBase 0 ≤ a ∧ a < dmaBase 16 then
    let c := (a - dmaBase 0) / 0x20
    if s.dmaReserved c then (s.setReg a old).dmaRej
    else if a = R.DMA_CFG c then s.dmaCfg c data old
    else if s.dmaBusy c && a < R.DMA_CSTAT c then (s.setReg a old).dmaRej
    else s
  else s

/-- A read of the DMA block: reserved channels and BUSY stand in no register of their own. -/
def dmaRead (_rid : Rid) (a : Nat) (s : State) : Word × State :=
  if a = R.DMA_RSV then
    (BitVec.ofNat 32 ((List.range 16).foldl (fun n c => n + b2n (s.dmaReserved c) * 2 ^ c) 0), s)
  else if dmaBase 0 ≤ a ∧ a < dmaBase 16 ∧ a % 0x20 = 0x14 then
    (BitVec.ofNat 32 (s.regN a % 2 ^ 31 + b2n (s.dmaBusy ((a - dmaBase 0) / 0x20)) * 2 ^ 31), s)
  else (s.reg a, s)

end Sys2Proof.Machine
end

