-- ==== Sys2Proof/Machine/Dram.lean ====
section
/-! DEFINITION. The DRAM controller's commands (chapter 18): training, both ports, panic, refresh, ZQ calibration, the Rake
scrub, the unfreeze sequence, and its registers. Its cells and its ECC stand in Memory.lean. -/

namespace Sys2Proof.Machine

/-- An upset strikes an 8-byte word before it is read: 1 a single-bit error, 2 an uncorrectable one (R449, R450). -/
def State.dmcUpset (s : State) (w u : Nat) : State :=
  if u = 1 then s.withDmc { s.dmc with softWords := s.dmc.softWords ++ [w] }
  else if u = 2 then s.withDmc { s.dmc with badWords := s.dmc.badWords ++ [w] }
  else s

/-! ### Training (R437 to R439) -/

/-- The bytes of the training window. -/
def State.trainBytes (s : State) : List Byte := (List.range 64).flatMap (fun i => leBytes 4 (s.regN (R.DMC_TRAINW i)))

/-- Fill the training window. -/
def State.setTrain (s : State) (bs : List Byte) : State :=
  (List.range 64).foldl (fun s i => s.setRegN (R.DMC_TRAINW i) (leNat (slice bs (4 * i) 4))) s

/-- The training record (R439) from the values of the byte lanes. -/
def State.trainRecord (s : State) (vals : List Byte) : List Byte :=
  let b := leBytes 4 0x444D5452 ++ leBytes 4 (s.regN R.DMC_CFG) ++ leBytes 2 (s.fld R.HK_JUNC_TJ) ++ leBytes 2 0 ++
    slice vals 0 144 ++ List.replicate 96 0
  b ++ leBytes 4 (crc32 b)

/-- Whether a restore may take the record of the window (R438): identifier, CRC, geometry, a band that the controller has received,
and Tj within
30 K of the record's. -/
def State.recordGood (s : State) : Bool :=
  let b := s.trainBytes
  let d := sgn 16 (s.fld R.HK_JUNC_TJ) - sgn 16 (leNat (slice b 8 2))
  leNat (slice b 0 4) == 0x444D5452 && leNat (slice b 252 4) == crc32 (b.take 252) &&
    leNat (slice b 4 4) == s.regN R.DMC_CFG && s.dmc.band.isSome && s.live 21 && decide (d.natAbs ≤ 30 * 256)

/-- DMC_CTRL.INIT (R437, R438): starts initialisation while READY and TRAINING are 0; a geometry outside R432 ends it at once
with RESULT CFG. -/
def State.dmcInit (s : State) : State :=
  if s.flag R.DMC_STAT_READY || s.flag R.DMC_STAT_TRAINING then s
  else if (dmcGeometry (s.regN R.DMC_CFG)).isNone then s.setFld R.DMC_STAT_RESULT 3
  else
    let restore := s.flag R.DMC_CTRL_RESTORE
    let good := restore && s.recordGood
    let s := if restore && !good then s.setFld R.DMC_STAT_RESTORE_FB 1 else s
    ((s.withDmc { s.dmc with restore := good }).setFld R.DMC_STAT_TRAINING 1).setFld R.DMC_STAT_RESULT 0

/-- TRAINING_DONE (R437 to R439): training ends, good on every byte lane or failed at a step and a lane. A restore whose
patterns fail goes on with full training. -/
def execTrainingDone (ok : Bool) (step : BitVec 3) (lane : BitVec 4) (vals : List Byte) (s : State) :
    Host.Outcome State Fault Refusal :=
  if !s.live 20 || !s.flag R.DMC_STAT_TRAINING then .next s
  else if ok then
    let s := if s.dmc.restore then s else s.setTrain (s.trainRecord vals)
    let s := s.withDmc { s.dmc with mem := [], badWords := [], softWords := [], scrubAt := 0, scrubDefer := 0,
                                          restore := false, zqAt := s.now }
    .next ((((s.setFld R.DMC_STAT_TRAINING 0).setFld R.DMC_STAT_READY 1).setFld R.DMC_STAT_RESULT 1).raise 98)
  else if s.dmc.restore then
    .next ((s.withDmc { s.dmc with restore := false }).setFld R.DMC_STAT_RESTORE_FB 1)
  else
    let s := (s.setFld R.DMC_STAT_FAILSTEP step.toNat).setFld R.DMC_STAT_FAILLANE lane.toNat
    .next (((s.setFld R.DMC_STAT_TRAINING 0).setFld R.DMC_STAT_RESULT 2).raise 98)

/-! ### The ports (R435, R436, R440, R441) -/

/-- NRT_ACCESS (R434 to R436, R440): a read of `len` bytes, or a write of the data, at an address of the core aperture. The
answer is the first word read and the response. -/
def execNrtAccess (rid : Rid) (addr : Word) (len : BitVec 9) (write : Bool) (data : List Byte) (upset : Fin 3)
    (s : State) : Host.Outcome State Fault Refusal :=
  if !s.live 7 || addr.toNat < 0x80000000 then .next s
  else
    let s := match s.target addr.toNat with
      | .dram c => s.dmcUpset (c / 8) upset.val
      | _ => s
    if write then
      let r := s.memWrite rid addr.toNat data
      .next (r.2.withAnswer { rid := rid, err := r.1 })
    else
      let r := s.memRead rid addr.toNat len.toNat
      .next (r.2.withAnswer { rid := rid, data := BitVec.ofNat 32 (leNat (slice r.1.1 0 4)), err := r.1.2 })

/-- The controller address of a delayed sample (R183). -/
def State.lineAddr (s : State) (k : Nat) (l : LineSt) (e : LineEnt) : Nat :=
  s.fld R.MTX_DLY_BASE_BASE * 2 ^ 20 + k * 2 ^ 21 + e.due / max 1 (s.period 1 l.cont) % 262144 * 8

/-- The 8 bytes of a delayed sample: I in [23:0], Q in [55:32], sign-extended, little-endian (R183). -/
def LineEnt.image (e : LineEnt) : List Byte := leBytes 4 (unsgn 32 e.smp.i) ++ leBytes 4 (unsgn 32 e.smp.q)

/-- A delayed sample that is lost: it will leave blank (R186, R452). -/
def LineEnt.lost (e : LineEnt) : LineEnt := { e with place := 4, smp := { e.smp with i := 0, q := 0, blank := true } }

/-- The samples of one burst at a place of a line: those that share the 64 bytes of the oldest one. -/
def State.burstOf (s : State) (k : Nat) (l : LineSt) (place : Nat) : List LineEnt :=
  let here := l.ents.filter (fun e => e.place == place)
  match here with
  | [] => []
  | f :: _ => here.filter (fun e => s.lineAddr k l e / 64 == s.lineAddr k l f / 64)

/-- Store samples of a burst in the DRAM; the words they cover carry valid ECC. -/
def State.burstStore (s : State) (k : Nat) (l : LineSt) (es : List LineEnt) : State :=
  es.foldl (fun (s : State) e =>
    let a := s.lineAddr k l e
    let s := s.setDramBytes a e.image
    (s.withDmc { s.dmc with badWords := s.dmc.badWords.filter (· != a / 8),
                                 softWords := s.dmc.softWords.filter (· != a / 8) })) s

/-- Change the samples of a burst in their line. -/
def State.burstPut (s : State) (k : Nat) (l : LineSt) (es : List LineEnt) (f : LineEnt → LineEnt) : State :=
  let ents := l.ents.map (fun e => if es.contains e then f e else e)
  s.withMtx { s.mtx with lines := tput s.mtx.lines k { l with ents := ents } }

/-- RT_REQUEST (R183, R186, R435, R441, R450): one burst of a delay line, of at most 8 samples: a write takes samples from
the on-die buffer, a read brings them back. A frozen controller discards the write and answers the read blank; one that is
off or not READY answers a read blank and leaves a write in the buffer. -/
def execRtRequest (line : Fin 384) (write : Bool) (upset : Fin 3) (s : State) : Host.Outcome State Fault Refusal :=
  if !s.live 12 || !s.flag R.MTX_DLY_CTRL_EN then .next s
  else
    let k := line.val
    let l := tget {} s.mtx.lines k
    let es := s.burstOf k l (if write then 1 else 2)
    let ready := s.live 20 && s.flag R.DMC_STAT_READY
    match es with
    | [] => .next s
    | f :: _ =>
      if write && !ready then .next s
      else if !ready || s.flag R.DMC_STAT_FROZEN then
        .next ((s.burstPut k l es LineEnt.lost).delayLost es.length)
      else if write then
        .next ((s.burstStore k l es).burstPut k l es (fun e => { e with place := 2 }))
      else
        let w := s.lineAddr k l f / 8
        let c := (s.dmcUpset w upset.val).dmcCheck 1 0 w es.length
        if c.1 then .next ((c.2.burstPut k l es LineEnt.lost).delayLost es.length)
        else .next (c.2.burstPut k l es (fun e => { e with place := 3 }))

/-! ### Panic, refresh, ZQ (R442 to R445) -/

/-- The level at which panic starts (chapter 18, Registers). -/
def State.panicOn (s : State) : Nat := max 1 (s.fld R.DMC_PANIC_ON)

/-- PANIC_START (R442): the buffer holds ON bytes or more. -/
def execPanicStart (s : State) : Host.Outcome State Fault Refusal :=
  if s.live 20 && !s.flag R.DMC_STAT_PANIC && decide (s.panicOn ≤ s.rtLevel) then
    .next (((s.setFld R.DMC_STAT_PANIC 1).raise 99).count C.DMC_PANICCNT)
  else .next s

/-- PANIC_END (R442): the buffer holds fewer than OFF bytes, an OFF above ON being taken as ON. -/
def execPanicEnd (s : State) : Host.Outcome State Fault Refusal :=
  if s.live 20 && s.flag R.DMC_STAT_PANIC && decide (s.rtLevel < min s.panicOn (s.fld R.DMC_PANIC_OFF)) then
    .next (s.setFld R.DMC_STAT_PANIC 0)
  else .next s

/-- The refresh interval in ns and whether set H applies, for a band (R443). -/
def refreshFor (band : Option Nat) : Nat × Bool :=
  match band with
  | some 0 => (7800, false)
  | some 1 => (7800, false)
  | some 2 => (3900, true)
  | _ => (1950, true)

/-- An all-bank refresh is made: a band change takes effect and raises E100 (R443). -/
def State.dmcRefresh (s : State) : State :=
  let n := refreshFor s.dmc.band
  if n = (s.dmc.interval, s.dmc.timingH) then s
  else (s.withDmc { s.dmc with interval := n.1, timingH := n.2 }).raise 100

/-- REFRESH (R443, R444): also while frozen. -/
def execRefresh (s : State) : Host.Outcome State Fault Refusal := if s.live 20 then .next s.dmcRefresh else .next s

/-- ZQ_CALIBRATION (R445): DMC_ZQINT ms after the previous one, with the next refresh; later than 128 ms sets ZQLATE and
raises E102. -/
def execZqCalibration (s : State) : Host.Outcome State Fault Refusal :=
  if !(s.live 20 && s.flag R.DMC_STAT_READY) then .next s
  else
    let last := s.dmc.zqAt
    let s := s.advanceTo (last + max 1 (s.fld R.DMC_ZQINT_MS) * 1000000)
    let late := decide (last + 128000000 < s.now)
    let s := (s.withDmc { s.dmc with zqAt := s.now }).dmcRefresh
    .next (if late then (s.setFld R.DMC_STAT_ZQLATE 1).raise 102 else s)

/-! ### Rake (R446 to R448) -/

/-- Rake reads its line (R446): a single-bit error is written back corrected; an uncorrectable one freezes the controller. -/
def State.scrubLine (s : State) (upset : Nat) : State :=
  let a := s.dmc.scrubAt
  let w := a / 8
  let c := (s.dmcUpset w upset).dmcCheck 2 0 w 8
  let s := c.2
  if c.1 then s
  else
    let next := if a + 64 < s.dmcSize then a + 64 else 0
    let s := s.withDmc { s.dmc with scrubAt := next, softWords := s.dmc.softWords.filter (fun x => x < w || w + 8 ≤ x) }
    if next = 0 then (s.count C.DMC_SCRUBPASS).raise 101 else s

/-- SCRUB_STEP (R446, R447): deferred when a foreground request waits, as in panic; forced after 64 deferrals in a row. -/
def execScrubStep (waiting : Bool) (upset : Fin 3) (s : State) : Host.Outcome State Fault Refusal :=
  if !(s.live 20 && s.flag R.DMC_STAT_READY && s.flag R.DMC_CTRL_SCRUB_EN) || s.flag R.DMC_STAT_FROZEN then .next s
  else
    let busy := waiting || s.flag R.DMC_STAT_PANIC
    if busy && decide (s.dmc.scrubDefer < 64) then
      .next ((s.withDmc { s.dmc with scrubDefer := s.dmc.scrubDefer + 1 }).count C.DMC_SCRUBDEF)
    else
      let s := if busy then s.count C.DMC_SCRUBFORCED else s
      .next ((s.withDmc { s.dmc with scrubDefer := 0 }).scrubLine upset.val)

/-! ### Unfreeze (R453, R454) -/

/-- A write to DMC_UNFREEZE (R453): 64 interconnect cycles are 106 ns. -/
def State.dmcUnfreeze (s : State) (rid : Rid) (data : Word) : State :=
  let start := data == 0xA5C30F96#32 && warden rid
  let bad := fun (s : State) => s.setFld R.DMC_STAT_UNF_ERR 1
  if !s.flag R.DMC_STAT_FROZEN || s.dmc.resuming then bad (s.withDmc { s.dmc with unf := none })
  else
    match s.dmc.unf with
    | some (r, t) =>
      if data == 0x5A3CF069#32 && r == rid && decide (s.now ≤ t + 106) then
        s.withDmc { s.dmc with unf := none, resuming := true }
      else bad (s.withDmc { s.dmc with unf := if start then some (rid, s.now) else none })
    | none =>
      if start then s.withDmc { s.dmc with unf := some (rid, s.now) } else bad s

/-- DRAM_RESUME (R454): after a good sequence the controller refreshes, records Tr and resumes; Rake goes on at the line
after the failing one. -/
def execDramResume (s : State) : Host.Outcome State Fault Refusal :=
  if !(s.live 20 && s.dmc.resuming) then .next s
  else
    let next := if s.dmc.failLine + 64 < s.dmcSize then s.dmc.failLine + 64 else 0
    let s := (s.withDmc { s.dmc with resuming := false, scrubAt := next }).dmcRefresh
    .next (((s.setRegN R.DMC_SNAP_TR s.calNs).setFld R.DMC_STAT_FROZEN 0).raise 103)

/-! ### Registers -/

/-- What writes to DMC_ registers do beyond their fields. -/
def dmcRegWrite (rid : Rid) (a : Nat) (data old : Word) (s : State) : State :=
  if a = R.DMC_CTRL then
    if s.flag R.DMC_CTRL_INIT then (s.setFld R.DMC_CTRL_INIT 0).dmcInit else s
  else if a = R.DMC_CFG then
    if s.flag R.DMC_STAT_READY || s.flag R.DMC_STAT_TRAINING then s.setReg a old else s
  else if a = R.DMC_UNFREEZE then s.dmcUnfreeze rid data
  else if R.DMC_TRAINW 0 ≤ a ∧ a < R.DMC_TRAINW 64 then
    if s.flag R.DMC_STAT_TRAINING then s.setReg a old else s
  else s

/-- Reads of DMC_ registers: the level of the real-time port; no burst is outstanding between commands. -/
def dmcRegRead (_rid : Rid) (a : Nat) (s : State) : Word × State :=
  if a = R.DMC_RTLEVEL then (BitVec.ofNat 32 (s.rtLevel / 64), s) else (s.reg a, s)

end Sys2Proof.Machine
end

