-- ==== Sys2Proof/Machine/Pka.lean ====
section
/-! DEFINITION. The public-key and hash engine (R285, R286, R555) and the registers of its block. -/

namespace Sys2Proof.Machine

/-! ### The operand window (R286) -/

/-- The number in a 64-byte field of the operand window, big-endian: the byte at the lowest address is the most significant. -/
def State.operand (s : State) (r : Nat → Nat) : Nat := beNat ((List.range 16).flatMap (fun i => leBytes 4 (s.regN (r i))))

/-- Put a number into a 64-byte field, right-aligned. -/
def State.setOperand (s : State) (r : Nat → Nat) (v : Nat) : State :=
  let l := beBytes 64 v
  (List.range 16).foldl (fun s i => s.setRegN (r i) (leNat (slice l (4 * i) 4))) s

/-- The bytes of a digest into the digest field, its first byte at the lowest address (log entry 27). -/
def State.setDigest (s : State) (l : List Byte) : State :=
  (List.range 16).foldl (fun s i => s.setRegN (R.PKA_DIGEST i) (leNat (slice l (4 * i) 4))) s

/-! ### Commands -/

/-- The fields of a command word. -/
structure PkaCmd where
  op : Nat
  p384 : Bool
  kp : Nat
  kpOut : Nat
  outKp : Bool
  cont : Bool
  final : Bool
deriving DecidableEq, Repr

/-- A command word taken apart. -/
def pkaCmd (w : Nat) : PkaCmd :=
  ⟨nbits w 3 0, nbit w 8, nbits w 20 16, nbits w 25 21, nbit w 9, nbit w 5, nbit w 4⟩

/-- Whether the operation is a hash. -/
def PkaCmd.hash (c : PkaCmd) : Bool := c.op == 8 || c.op == 9 || c.op == 10

/-- The curve of a command. -/
def PkaCmd.curve (c : PkaCmd) : Curve := if c.p384 then Machine.p384 else Machine.p256

/-- The scalar in a page. -/
def State.scalar (s : State) (c : PkaCmd) : Nat := (s.page c.kp).bits.toNat % 2 ^ (8 * c.curve.bytes)

/-- Whether a page is owned by a requester. -/
def State.owns (s : State) (rid : Rid) (p : Nat) : Bool := (s.page p).claimed && (s.page p).owner == rid

/-- The conditions judged before a command runs, in the order PARAM, OWNER, EMPTY, NORAND, POINT; 0 when none holds (R555). A
scalar out of range is judged on a loaded page of the requester's (log entry 27). -/
def State.pkaCheck (s : State) (rid : Rid) (c : PkaCmd) : Nat :=
  let uses := c.op == 1 || c.op == 3 || c.op == 4
  let own := s.owns rid c.kp
  let d := s.scalar c
  let param := !(c.hash || (1 ≤ c.op && c.op ≤ 4)) || (c.outKp && c.op != 3) ||
    (c.cont && (!c.hash || s.cip.hashOp != some c.op)) ||
    ((c.op == 1 || c.op == 3) && own && (s.page c.kp).loaded && (d == 0 || c.curve.n ≤ d))
  if param then 7
  else if (uses && !own) || (c.op == 3 && c.outKp && !s.owns rid c.kpOut) then 4
  else if (c.op == 1 || c.op == 3) && !(s.page c.kp).loaded then 5
  else if (c.op == 1 || c.op == 4) && !s.flag R.TRN_STAT_DRBG_OK then 3
  else if (c.op == 2 || c.op == 3) && !c.curve.on (s.operand R.PKA_QX) (s.operand R.PKA_QY) then 2
  else 0

/-- A command ends: d is zeroed, ERR is set, E88 at completion and E89 at an error (R286). -/
def State.pkaEnd (s : State) (err : Nat) : State :=
  let s := (s.setOperand R.PKA_D 0).setRegN R.PKA_STAT err
  let s := s.withCip { s.cip with pkaRun := none }
  if err = 0 then (s.setRegN R.PKA_OPS (s.regN R.PKA_OPS + 1)).raise 88 else s.raise 89

/-- A write of PKA_CMD with GO (R285, R555). -/
def State.pkaGo (s : State) (rid : Rid) : State :=
  let w := s.reg R.PKA_CMD
  let s := s.setRegN R.PKA_CMD (nput w.toNat 31 31 0)
  if s.cip.pkaRun.isSome then (s.setFld R.PKA_STAT_ERR 1).raise 89
  else
    let c := pkaCmd w.toNat
    let err := s.pkaCheck rid c
    let s := if err = 4 then s.isoFault rid (if s.owns rid c.kp then c.kpOut else c.kp) else s
    if err ≠ 0 then s.pkaEnd err
    else
      let s := s.withCip { s.cip with hashOp := if c.hash then s.cip.hashOp else none }
      (s.withCip { s.cip with pkaRun := some (w, rid) }).setRegN R.PKA_STAT (2 ^ 31)

/-- A random scalar from 1 to n − 1: the DRBG gives 64 bits more than n has (FIPS 186-5, log entry 13). -/
def State.randScalar (s : State) (c : Curve) : Option (Nat × State) :=
  (s.randNat (c.bytes / 4 + 2)).map (fun r => (r.1 % (c.n - 1) + 1, r.2))

/-- A number goes into a page, which becomes LOADED. -/
def State.pageLoad (s : State) (p v : Nat) : State :=
  s.withCip { s.cip with pages := tput s.cip.pages p { s.page p with bits := BitVec.ofNat 512 v, loaded := true } }

/-- Bytes of a hash go into the running hash; with `final` the digest is given (R286). -/
def State.hashBytes (s : State) (c : PkaCmd) (l : List Byte) : State :=
  let k := if c.op = 8 then sha256Kind else sha512Kind
  let init := if c.op = 8 then sha256Init else if c.op = 9 then sha384Init else sha512Init
  let h := if c.cont then s.cip.hashState else init
  let n := (if c.cont then s.cip.hashLen else 0) + l.length
  let m := (if c.cont then s.cip.hashTail else []) ++ l
  let b := 2 * k.bits
  if c.final then
    let p := m ++ shaPad k n
    let d := (shaBlocks k (p.length / b) h p).flatMap (beBytes (k.bits / 8))
    let s := s.setDigest (d.take (if c.op = 8 then 32 else if c.op = 9 then 48 else 64))
    s.withCip { s.cip with hashOp := none, hashState := [], hashTail := [], hashLen := 0 }
  else
    s.withCip { s.cip with hashOp := some c.op, hashLen := n, hashState := shaBlocks k (m.length / b) h m,
                                 hashTail := m.drop (m.length / b * b) }

/-- PKA_COMMAND_DONE: the running command ends with its outputs (R285, R286, R555). -/
def execPkaCommandDone (s : State) : Host.Outcome State Fault Refusal :=
  match s.live 10, s.cip.pkaRun with
  | true, some (w, _) =>
    let c := pkaCmd w.toNat
    let k := c.curve
    match c.op with
    | 1 =>
      match s.randScalar k with
      | none => .next (s.pkaEnd 3)
      | some (x, s) =>
        match k.sign (s.scalar c) (s.operand R.PKA_E) x with
        | some (r, t) => .next (((s.setOperand R.PKA_R r).setOperand R.PKA_S t).pkaEnd 0)
        | none => .next s
    | 2 =>
      let ok := k.verify (s.operand R.PKA_QX) (s.operand R.PKA_QY) (s.operand R.PKA_E) (s.operand R.PKA_R) (s.operand R.PKA_S)
      .next (s.pkaEnd (if ok then 0 else 6))
    | 3 =>
      let x := match k.times (s.scalar c) (some (s.operand R.PKA_QX, s.operand R.PKA_QY)) with
        | some (x, _) => x
        | none => 0
      .next ((if c.outKp then s.pageLoad c.kpOut x else s.setOperand R.PKA_OX x).pkaEnd 0)
    | 4 =>
      match s.randScalar k with
      | none => .next (s.pkaEnd 3)
      | some (d, s) =>
        let s := s.pageLoad c.kp d
        match k.times d k.base with
        | some (x, y) => .next (((s.setOperand R.PKA_OX x).setOperand R.PKA_OY y).pkaEnd 0)
        | none => .next (s.pkaEnd 0)
    | _ =>
      let r := s.memRead (engineRid 4) (s.regN R.PKA_HADDR) (s.regN R.PKA_HLEN)
      if r.1.2 then .next ((r.2.withCip { r.2.cip with hashOp := none }).pkaEnd 8)
      else .next ((r.2.hashBytes c r.1.1).pkaEnd 0)
  | _, _ => .next s

/-! ### Registers of PKA -/

/-- What writes to PKA_ registers do beyond their fields. -/
def pkaWrite (rid : Rid) (a : Nat) (data _old : Word) (s : State) : State :=
  if a = R.PKA_CMD then (if s.flag R.PKA_CMD_GO then s.pkaGo rid else s)
  else if a = R.PKA_KPCMD then (s.setRegN a 0).kpCommand rid (nbits data.toNat 31 29) (nbits data.toNat 4 0)
  else s

/-- Reads of PKA_ registers: the status of a page (R280). -/
def pkaRead (_rid : Rid) (a : Nat) (s : State) : Word × State :=
  if R.PKA_KP 0 ≤ a ∧ a < R.PKA_KP 32 then
    let p := (a - R.PKA_KP 0) / 4
    let k := s.page p
    (BitVec.ofNat 32 (b2n k.claimed * 2 ^ 31 + b2n k.loaded * 2 ^ 30 + b2n (s.pageInUse p) * 2 ^ 29 + k.owner.toNat * 256), s)
  else (s.reg a, s)

end Sys2Proof.Machine
end

