-- ==== Sys2Proof/Machine/Peek.lean ====
section
/-! DEFINITION. Reads of registers, block by block: the value a read at the base offset returns and what the read does; and
the value alone, as an alias address and the hardware responder see it (R67, R89). -/

namespace Sys2Proof.Machine

/-- Reads of TRC_ registers: the data behind TRC_RDADDR, and the debug session in TRC_STAT. -/
def trcRead (_rid : Rid) (a : Nat) (s : State) : Word × State :=
  if a = R.TRC_RDDATA then s.traceRead
  else if a = R.TRC_STAT then
    let w := nput (s.regN a) R.TRC_STAT_LEVEL.hi R.TRC_STAT_LEVEL.lo s.trc.level
    (BitVec.ofNat 32 (nput w R.TRC_STAT_LOCKOUT.hi R.TRC_STAT_LOCKOUT.lo
      (b2n (s.trc.lockUntil.any (fun t => decide (s.now < t))))), s)
  else (s.reg a, s)

/-- Reads of TRN_ registers (R380, R381). -/
def trnRead (_rid : Rid) (a : Nat) (s : State) : Word × State :=
  if a = R.TRN_RAND then s.trnRandRead else if a = R.TRN_RAW then s.trnRawRead else (s.reg a, s)

/-- Reads of NQ_ registers: the open sessions in NQ_STAT. -/
def nqRead (_rid : Rid) (a : Nat) (s : State) : Word × State :=
  if a = R.NQ_STAT then
    (BitVec.ofNat 32 (nput (s.regN a) 2 0 (s.nq.sessions.filter (·.isOpen)).length), s)
  else (s.reg a, s)

/-- Whether a shadow pair is pending in a block (R80). -/
def State.pairPending (s : State) (base : Nat) : Bool := s.pairs.any (fun p => base ≤ p.addr && p.addr < base + 0x400)

/-- A read of a register of a block. -/
def blockRead (b : BlockDesc) (rid : Rid) (a : Nat) (s : State) : Word × State :=
  if a = b.base + 0x3F8 then (BitVec.ofNat 32 (nput (s.regN a) 3 3 (b2n (s.pairPending b.base))), s)
  else
    match b.code with
    | 0x00 => pwrRead rid a s
    | 0x01 => rstRead rid a s
    | 0x04 => evtRead rid a s
    | 0x05 => hzRead rid a s
    | 0x06 => trcRead rid a s
    | 0x07 => tmpRead rid a s
    | 0x08 => trnRead rid a s
    | 0x09 => nvsRead rid a s
    | 0x0A => hkRead rid a s
    | 0x0B => nqRead rid a s
    | 0x0C => idcRead rid a s
    | 0x0E => dmcRegRead rid a s
    | 0x0F => dmaRead rid a s
    | 0x20 => calRead rid a s
    | 0x21 => hldRead rid a s
    | 0x30 => mtxRead rid a s
    | 0x31 => lneRead rid a s
    | 0x34 => srcRead rid a s
    | 0x36 => clsRead rid a s
    | 0x37 => autRead rid a s
    | 0x38 => cipRead rid a s
    | 0x39 => pkaRead rid a s
    | _ => (s.reg a, s)

/-- The value a read of a register returns (R71: WO fields read zero), and the state after. -/
def regRead (b : BlockDesc) (r : RegDesc) (rid : Rid) (a : Nat) (s : State) : Word × State :=
  let v := blockRead b rid a s
  (v.1 &&& BitVec.ofNat 32 (r.maskOf (· != .wo)), v.2)

/-- The value of the register at an address without what a read does to it. -/
def State.peek (s : State) (a : Nat) : Nat :=
  match regDescAt a with
  | some (b, r) => (regRead b r ridResponder a s).1.toNat
  | none => 0

/-- The value of a field without what a read does to it. -/
def State.peekF (s : State) (f : Fld) : Nat := nbits (s.peek f.addr) f.hi f.lo

end Sys2Proof.Machine
end

