-- ==== Sys2Proof/Machine/NqObjects.lean ====
section
/-! DEFINITION. What the dictionary objects of chapter 22 hold when they are read, and what a write to one does. -/

namespace Sys2Proof.Machine

/-! ### Values -/

/-- The sum of the dictionary counts of an array of counters (R524). -/
def State.sumDict (s : State) (n : Nat) (c : Nat → Ctr) : Nat :=
  (List.range n).foldl (fun x i => x + s.dictN (c i).addr 0) 0 % 2 ^ 32

/-- A register as an image word. -/
def State.imageWord (s : State) (a : Nat) : List Byte := beBytes 4 (s.peek a)

/-- A table of Saltern as an image, entries in g order (R523). -/
def tableImage (tab : List (Nat × Word)) : List Byte :=
  (List.range 12288).flatMap (fun k => beBytes 4 (tget 0 tab k).toNat)

/-- The bases of the 51 register blocks in the order of R61, the lanes in turn. -/
def blockOrder : List BlockDesc :=
  fixedBlocks.take 21 ++ (List.range 24).map laneBlock ++ fixedBlocks.drop 21

/-- Integrity status and log of every block; an unavailable one reads zero (object 0x7000.01). -/
def State.integImage (s : State) : List Byte :=
  blockOrder.flatMap (fun b =>
    if s.live b.domain then beBytes 2 (s.peek (b.base + 0x3F8)) ++ beBytes 2 (s.peek (b.base + 0x3F4))
    else [0, 0, 0, 0])

/-- A TIME value from nanoseconds (R48). -/
def timeValue (ns : Nat) : Nat := ns / 1000000000 * 2 ^ 32 + ns % 1000000000

/-- The present time as the responder has it: Calends, or the real-time clock while PD1 is off (log entry 33). -/
def State.timeNs (s : State) : Nat :=
  if s.live 1 then s.calSec * 1000000000 + s.calNs else s.now - s.rst.rtcZero

/-- Identity and communication. -/
def State.objValue1 (s : State) (i sub : Nat) : Nat :=
  match i, sub with
  | 0x1000, 1 => s.fld R.FUS_ID_PART
  | 0x1000, 2 => s.fld R.FUS_ID_STEP
  | 0x1000, 3 => s.fld R.FUS_ID_VAR
  | 0x1000, _ => s.regN R.FUS_UID_HI * 2 ^ 32 + s.regN R.FUS_UID_LO
  | 0x1010, 2 => s.nq.saveState
  | 0x1010, _ => s.nq.skipped
  | 0x1011, _ => b2n s.nq.restorePend
  | 0x1030, 2 => (s.nq.sessions.filter (·.isOpen)).length
  | 0x1030, _ => s.regN R.NQ_AUTHFAIL
  | 0x1040, 1 => s.dictN R.NQ_LATE 0
  | _, _ => s.dictN R.NQ_BKLOST 0

/-- Timing and holdover. -/
def State.objValue2 (s : State) (i sub : Nat) : Nat :=
  match i, sub with
  | 0x2000, 1 => timeValue s.timeNs
  | 0x2000, _ => s.peek R.CAL_STAT
  | 0x2001, 1 => s.peekF R.CAL_STAT_SEL
  | 0x2001, _ => s.peek R.CAL_PHERR
  | 0x2020, 1 => s.peekF R.HLD_STAT_STATE
  | 0x2020, 2 => s.peek R.HLD_ELAPSED
  | 0x2020, _ => s.peek R.HLD_UNC
  | 0x2021, 1 => s.peekF R.HLD_HIST_MINUTES
  | 0x2021, _ => s.peekF R.HLD_HIST_AGE
  | _, n => s.peekF (R.HLD_DAC_CFG_RANGE (n - 2)) * 2 ^ 20 + s.peekF (R.HLD_DAC_CODE_CODE (n - 2))

/-- Matrix, lanes and conversion. -/
def State.objValue3 (s : State) (i sub : Nat) : Nat :=
  match i, sub with
  | 0x3000, 1 => s.peek R.MTX_COMMITS
  | 0x3000, 2 => s.fld R.MTX_COMMIT_STAT_RESULT * 16 + s.fld R.MTX_COMMIT_STAT_STATE
  | 0x3000, 3 => s.dictN R.MTX_REFUSED 0
  | 0x3000, _ => s.dictN R.MTX_DLY_LOST 0
  | 0x3020, 1 => s.dictN R.SRC_FORCED 0
  | 0x3020, _ => s.dictN R.SRC_FMTERR 0
  | 0x3030, 1 => s.sumDict 384 C.HVS_MSGS
  | 0x3030, 2 => s.sumDict 384 C.HVS_DROP
  | 0x3030, _ => s.sumDict 384 C.HVS_FAIL
  | 0x3040, 1 => s.dictN R.CLS_FALSE 0
  | 0x3040, 2 => s.peekF R.CLS_STAT_SUSP
  | 0x3040, _ => s.dictN R.CLS_MISS 0
  | 0x3041, 1 => s.sumDict 8 C.AUT_REPORTS
  | 0x3041, _ => s.sumDict 8 C.AUT_FORCED
  | _, 1 => s.peek (R.LNE_STAT (i - 0x3100)) % 32
  | _, 2 => s.dictN (R.LNE_RXFAIL (i - 0x3100)) 0
  | _, _ => s.dictN (R.LNE_SFLOSS (i - 0x3100)) 0

/-- Security. -/
def State.objValue4 (s : State) (i sub : Nat) : Nat :=
  match i, sub with
  | 0x4001, 1 => s.sumDict 400 C.CIP_SAC_ICVFAIL
  | 0x4001, 2 => s.sumDict 400 C.CIP_SAC_LATE
  | 0x4001, _ => s.peekF R.CIP_STAT_PIPE_UP * 16 + s.peekF R.CIP_STAT_MASK_STARVE
  | 0x4002, 1 => (s.cip.pages.filter (fun p => p.2.claimed)).length
  | 0x4002, _ => s.peek R.PKA_OPS
  | 0x4010, 1 => s.regN R.TRN_STAT
  | 0x4010, 2 => s.regN R.TRN_BIAS
  | 0x4010, 3 => s.regN R.TRN_CORR
  | 0x4010, _ => s.dictN R.TRN_RCTFAIL 0 + s.dictN R.TRN_APTFAIL 0
  | 0x4020, 1 => s.peek R.NVS_SPARES
  | 0x4020, 2 => s.nvs.readOnly.length
  | 0x4020, _ => s.dictN R.NVS_WRITES 0
  | 0x4021, n => s.peek (R.NVS_MC (n - 1))
  | 0x4022, _ => s.peek R.NVS_MCEXH
  | 0x4030, 4 => s.peek R.NVS_RKSTAT
  | 0x4030, _ => s.nq.keyResult
  | 0x4040, 2 => s.tmp.log.length
  | 0x4040, 4 => s.regN R.TMP_LOGLOST
  | 0x4040, 5 => s.regN R.TMP_LAST
  | _, _ => s.peek R.TMP_LOOPSTAT

/-- Housekeeping, power and reset. -/
def State.objValue5 (s : State) (i sub : Nat) : Nat :=
  match i, sub with
  | 0x5000, 1 => s.hk.vigilBand.getD 0xFF
  | 0x5000, 2 => s.peekF R.HK_JUNC_TJ
  | 0x5000, _ => nbits (s.peek R.HK_STAT) 28 25
  | 0x5001, n => s.peek (R.HK_CH (n - 1))
  | 0x5002, n => s.peekF (R.HK_CH_VALUE (17 + n))
  | 0x5003, 1 => s.peek R.HK_SUPSTAT
  | 0x5003, _ => s.peek R.HK_RORSTAT
  | 0x6000, 1 => (List.range 24).foldl (fun n d => n + b2n (s.dom d == 1) * 2 ^ d) 0
  | 0x6000, 2 => (List.range 24).foldl (fun n d => n + b2n (s.dom d == 2) * 2 ^ d) 0
  | 0x6000, _ => s.regN R.PWR_RESULT
  | 0x6003, _ => s.dictN R.PWR_REFUSED 0
  | 0x6010, 2 => s.regN R.RST_LAST
  | 0x6010, 3 => s.regN R.RST_COUNT
  | 0x6010, _ => s.regN R.RST_CAUSE
  | 0x6011, _ => s.peek R.RST_STAT / 2 ^ 24
  | _, _ => s.regN R.RST_BOOT

/-- Diagnostics. -/
def State.objValue7 (s : State) (i sub : Nat) : Nat :=
  match i, sub with
  | 0x7000, _ => s.dictN (R.TMP_HIT 10) 0 + s.dictN (R.TMP_HIT 11) 0
  | 0x7010, n => s.peek (R.HZ_TSTAT (n - 1))
  | 0x7011, 1 => s.dictN R.HZ_C0_DUNC 0 + s.dictN R.HZ_C1_DUNC 0
  | 0x7011, _ => s.dictN R.HZ_C0_DCOR 0 + s.dictN R.HZ_C1_DCOR 0 + s.dictN R.HZ_C0_IPAR 0 + s.dictN R.HZ_C1_IPAR 0
  | 0x7020, 1 => s.regN R.EVT_DFCNT
  | 0x7020, 2 => s.regN R.EVT_DFLOG0
  | 0x7020, 3 => s.regN R.EVT_DFLOG1
  | 0x7020, _ => s.regN R.EVT_DFLOG2
  | 0x7021, 1 => s.regN R.EVT_AWCNT
  | 0x7021, _ => s.dictN R.EVT_IMPCNT 0
  | 0x7030, 1 => s.regN R.TRC_LOST
  | 0x7030, 2 => s.fld R.FUS_POLICY_DBGLOCK
  | 0x7030, _ => s.trc.level
  | 0x7040, 1 => s.dictN R.IC_DECCNT 0
  | 0x7040, 2 => s.dictN R.IC_INTUNC 0
  | 0x7040, 3 => s.dictN R.IC_INTCOR 0
  | 0x7040, _ => s.dictN R.IC_LOCKREL 0
  | 0x7050, 1 => s.peek R.DMC_STAT / 2 ^ 28
  | 0x7050, 2 => s.dictN R.DMC_CECNT 0
  | 0x7050, 3 => s.dictN R.DMC_UECNT 0
  | 0x7050, _ => s.regN R.DMC_SCRUBPASS
  | 0x7060, 1 => s.peek R.IDC_STAT / 2 ^ 24
  | 0x7060, 3 => s.peek R.SDH_STAT / 2 ^ 24
  | _, _ => s.dictN R.SDH_CRCCNT 0

/-- The value of an object in wire order (R523): images of registers and tables, and numbers of the object's length. -/
def State.objBytes (s : State) (r : ObjRow) (i sub : Nat) : List Byte :=
  match i, sub with
  | 0x3010, _ => tableImage s.mtx.day
  | 0x3011, 1 => tableImage s.mtx.eve
  | 0x4040, 1 => s.tmp.log.flatMap (fun e => [e.w0, e.w1, e.w2, e.w3].flatMap (fun w => beBytes 4 w.toNat))
  | 0x7000, 1 => s.integImage
  | 0x7022, _ => (List.range 5).flatMap (fun k => s.imageWord (R.EVT_PEND k))
  | 0x7040, 5 => s.imageWord R.IC_DECLOG0 ++ s.imageWord R.IC_DECLOG1
  | 0x7050, 4 => (List.range 8).flatMap (fun k => s.imageWord (R.DMC_SNAP0 + 4 * k))
  | 0x7060, 2 => ((List.range 9).flatMap (fun k => leBytes 4 (s.peek (R.IDC_ATRW k)))).take (s.fld R.IDC_ATRLEN_LEN)
  | 0x7060, 5 => (List.range 4).flatMap (fun k => s.imageWord (R.SDH_CIDCSD k))
  | _, _ =>
    if r.acc = .rwp then beBytes r.size (s.objVal i sub)
    else
      let v := if i < 0x2000 then s.objValue1 i sub else if i < 0x3000 then s.objValue2 i sub
        else if i < 0x4000 then s.objValue3 i sub else if i < 0x5000 then s.objValue4 i sub
        else if i < 0x7000 then s.objValue5 i sub else s.objValue7 i sub
      beBytes r.size v

/-- The change marker of an image (R531). -/
def State.objMarker (s : State) (i sub : Nat) : Nat :=
  match i, sub with
  | 0x3010, _ => s.dictN R.MTX_COMMITS 0
  | 0x3011, 1 => s.nq.eveMark
  | 0x4040, 1 => s.tmp.marker
  | _, _ => 0

/-! ### Access (R47, R49, R521, R522) -/

/-- Whether the domains an object needs are up; the boot image is taken while WAIT_NQ = 1. -/
def State.objUp (s : State) (needs : List Nat) (i : Nat) : Bool :=
  needs.all (fun d => s.up d) && (i != 0x6020 || s.flag R.RST_BOOT_WAIT_NQ)

/-- The status an access is refused with for want of a right, 0 when it has it. -/
def accessStatus (acc : ObjAcc) (lowest : Nat) (write : Bool) (role : Option Nat) : Nat :=
  let holds := decide (lowest ≤ role.getD 0)
  if write then
    if role.isNone then 3
    else if acc = .ro then (if holds then 4 else 3)
    else if holds then 0 else 3
  else if acc = .rw || acc = .rwp then 0
  else if !holds then 3
  else if acc = .wo then 5
  else 0

/-- What a request to an object meets: a status other than 0 that refuses it, or its row; firmware's range is delegated. -/
inductive ObjHit where
  | refused (status : Nat)
  | firmware
  | highest (n : Nat)
  | obj (r : ObjRow)
deriving DecidableEq, Repr

/-- Whether a segmented write to an object is open (R40). -/
def State.openWrite (s : State) (i sub : Nat) : Bool :=
  s.nq.xfers.any (fun x => x.isWrite && x.index == i && x.sub == sub)

/-- The checks of a request before its length and value, in this order (log entry 34): existence, access, BUSY, availability. -/
def State.objLook (s : State) (i sub : Nat) (write : Bool) (role : Option Nat) : ObjHit :=
  match objFind s.isAN i sub with
  | .noObject => .refused 1
  | .noSub => .refused 2
  | .firmware => if write && role.isNone then .refused 3 else .firmware
  | .highest n => if accessStatus .ro 0 write role ≠ 0 then .refused (accessStatus .ro 0 write role) else .highest n
  | .obj r needs =>
    let st := accessStatus r.acc r.role write role
    if st ≠ 0 then .refused st
    else if write && s.openWrite i sub then .refused 8
    else if !s.objUp needs i then .refused 9
    else .obj r

/-! ### Writes -/

/-- Whether a bulletin is enabled. -/
def State.bulOn (s : State) (n : Nat) : Bool := s.objVal (0x1041 + n) 2 == 1

/-- Disabling a bulletin or writing its period empties its backlog; the next instance of an enabled one falls due a period
later (R55; log entry 35). -/
def State.bulReset (s : State) (n : Nat) : State :=
  let due := tdel s.nq.nextDue n
  let due := if s.bulOn n then tput due n (s.now + s.objVal (0x1041 + n) 1 * 1000000) else due
  s.withNq { s.nq with nextDue := due, backlog := tdel s.nq.backlog n }

/-- A write of an RWP object: REFUSED, the range, or the new value, applied where the block is up (R49, R527, R533, R535). -/
def State.rwpStore (s : State) (i sub v : Nat) : Nat × State :=
  let tamper := decide (0x4041 ≤ i ∧ i ≤ 0x4055)
  let map := mappingOk s.isAN v
  if tamper && s.flag R.TMP_LOCK_LOCK then (15, s)
  else if i = 0x4041 && ((sub = 1 && v ≠ 1) || (sub = 2 && v ≠ 3)) then (15, s)
  else if !rwpRange i sub v then (7, s)
  else if 0x1041 ≤ i && i < 0x1051 && 3 ≤ sub && map ≠ (true, true) then ((if map.1 then 3 else 7), s)
  else
    let was := s.objVal i sub
    let s := (s.setObjVal i sub v).applyObj i sub
    if 0x1041 ≤ i && i < 0x1051 && (sub = 1 || (sub = 2 && was ≠ v)) then (0, s.bulReset (i - 0x1041)) else (0, s)

/-- A role key is written (R535). -/
def State.keyStore (s : State) (role : Nat) (key : BitVec 256) : Nat × State :=
  if !s.storeBand then (13, s)
  else if (s.nvsTargets (.roleKey role key)).any (fun p => s.nvs.readOnly.contains p) then (14, s)
  else (0, s.nvsRequest .responder (.roleKey role key))

/-- The words of a register's writable fields. -/
def writable (a v : Nat) : Nat :=
  match regDescAt a with
  | some (_, r) => (BitVec.ofNat 32 v &&& BitVec.ofNat 32 (r.maskOf (fun c => c != .ro && c != .rc))).toNat
  | none => 0

/-- A commit request in the layout of MTX_COMMIT (R537): REFUSED when its GO would be ignored under R168. -/
def State.commitStore (s : State) (v : Nat) : Nat × State :=
  let w := writable R.MTX_COMMIT v
  let go := nbits w R.MTX_COMMIT_GO.hi R.MTX_COMMIT_GO.lo == 1
  let cls := nbits w R.MTX_COMMIT_CLASS.hi R.MTX_COMMIT_CLASS.lo
  if go && (s.mtxState ≠ 0 || s.flag R.MTX_STAT_EVE_BUSY || cls = 3) then (15, s)
  else
    let old := s.reg R.MTX_COMMIT
    (0, mtxWrite ridResponder R.MTX_COMMIT (BitVec.ofNat 32 w) old (s.setRegN R.MTX_COMMIT w))

/-- A write of an object: the status, and the state after. `bs` is the whole value in wire order. -/
def State.objStore (s : State) (r : ObjRow) (i sub : Nat) (bs : List Byte) : Nat × State :=
  let v := beNat bs
  if bs.length ≠ r.size then (6, s)
  else if r.acc = .rwp then s.rwpStore i sub v
  else
    match i, sub with
    | 0x1010, _ => if v ≠ 0x5AFE0001 then (7, s) else s.nqSave
    | 0x1011, _ => if v ≠ 0x5AFE0002 then (7, s) else (0, (s.withNq { s.nq with restorePend := true }))
    | 0x2021, _ => if v ≠ 0x5AFE0003 then (7, s) else (0, s.clearAlmanac)
    | 0x3011, _ => s.commitStore v
    | 0x4030, n => s.keyStore (n - 1) (BitVec.ofNat 256 v)
    | 0x4040, _ => if v ≠ 0x5AFE0004 then (7, s) else (0, s.tmpClear)
    | 0x6001, _ =>
      if 8 ≤ s.pwr.queue.length then (15, s) else (0, s.pwrRequest ⟨nbits v 4 0, nbits v 9 8⟩)
    | 0x6010, _ =>
      if v ≠ 0x5AFE0006 then (7, s) else (0, (s.withNq { s.nq with resetAt := some (s.now + 10000000) }))
    | 0x7050, _ =>
      if v ≠ 0x5AFE0005 then (7, s)
      else if !s.flag R.DMC_STAT_FROZEN then (15, s)
      else (0, (s.dmcUnfreeze ridResponder 0xA5C30F96).dmcUnfreeze ridResponder 0x5A3CF069)
    | _, _ => (15, s)

end Sys2Proof.Machine
end

