-- ==== Sys2Proof/Machine/Niquevor.lean ====
section
/-! DEFINITION. The hardware responder (chapters 02, 22): frames, sessions, expedited and segmented access, bulletins, and the
commands of the field network. -/

namespace Sys2Proof.Machine

/-! ### Frames as received (R30 to R32) -/

/-- A frame as received. -/
structure NqFrame where
  kind : Nat
  prot : Bool
  last : Bool
  session : Nat
  seq : Nat
  header : List Byte
  payload : List Byte
  tag : Nat
deriving DecidableEq, Repr

/-- Read a frame; none when R32 discards it. On the field port a frame below the Ethernet minimum carries padding up to 46
bytes. -/
def nqParse (port : Nat) (f : List Byte) : Option NqFrame :=
  let b0 := (f.headD 0).toNat
  let flags := ((f.drop 1).headD 0).toNat
  let prot := nbit flags 7
  let len := beNat ((f.drop 8).take 2)
  let need := 10 + len + (if prot then 16 else 0)
  let fits := f.length = need || (port = 24 && need < 46 && f.length = 46)
  if f.length < 10 || b0 / 16 ≠ 1 || b0 % 16 = 0 || 12 < b0 % 16 || flags % 64 ≠ 0 || !fits then none
  else some { kind := b0 % 16, prot := prot, last := nbit flags 6, session := beNat ((f.drop 2).take 2),
              seq := beNat ((f.drop 4).take 4), header := f.take 10, payload := (f.drop 10).take len,
              tag := if prot then beNat ((f.drop (10 + len)).take 16) else 0 }

/-- Whether a payload has the layout of its kind (R31), its reserved byte zero (R32). -/
def nqShape (kind : Nat) (p : List Byte) : Bool :=
  let zero := (p.drop 3).headD 0 == 0
  match kind with
  | 1 => p.length == 4 && zero
  | 2 => 5 ≤ p.length && zero
  | 4 => p.length == 8
  | 5 => 8 ≤ p.length && zero
  | 7 => p.length == 17
  | 9 => p.length == 16
  | 11 => p.length == 0
  | 12 => p.length == 4
  | _ => false

/-- A frame discarded under R44 is counted. -/
def State.nqDiscard (s : State) : State := s.count C.NQ_AUTHFAIL

/-! ### Sessions (R41 to R46) -/

/-- The session key (R43): two iterations of the counter-mode KDF over AES-256-CMAC. -/
def sessionKey (role nc nd : Nat) (id : Nat) : BitVec 256 :=
  let fixed := [0x4E, 0x51, 0x53, 0x45, 0x53, 0x53, 0x00] ++ beBytes 16 nc ++ beBytes 16 nd ++ beBytes 2 id ++ beBytes 4 256
  BitVec.ofNat 256 (cmac role (beBytes 4 1 ++ fixed) * 2 ^ 128 + cmac role (beBytes 4 2 ++ fixed))

/-- The nonce of a Challenge (R42): DRBG output, or half of one conditioned block while the DRBG is unavailable; none when
neither is there. -/
def State.nqNonce (s : State) : Option (Nat × State) :=
  if s.flag R.TRN_STAT_DRBG_OK then s.randNat 4
  else
    match s.trn.fifo with
    | b :: r => some (b.toNat / 2 ^ 128, (s.withTrn { s.trn with fifo := r }))
    | [] => none

/-- A SESSION value of 0x0001 to 0xFFFE that no session has: which one is a free value. -/
def State.freeSession (s : State) : Option Nat × State :=
  let d := s.draw
  ((List.range (s.nq.sessions.length + 1)).map (fun k => (d.1 + k) % 0xFFFE + 1) |>.find? (fun i =>
    (s.session i).isNone), d.2)

/-- How many sessions are open. -/
def State.openSessions (s : State) : Nat := (s.nq.sessions.filter (·.isOpen)).length

/-- A Session open is refused with a status (log entry 36). -/
def State.openRefused (s : State) (port st : Nat) : State := s.nqEmit port 0 3 false (nqObj 0 0 st) 0

/-- Session open (R41, R42, R45, R46): the lockout, the keys, the four sessions, the nonce. -/
def State.sessionOpen (s : State) (port : Nat) (payload : List Byte) : State :=
  let role := (payload.headD 0).toNat
  let key := s.nvs.keys.getD role none
  let locked := decide (s.now < tget 0 s.nq.lockUntil port)
  match locked, s.nvs.keys.getD 2 none, key with
  | false, some _, some k =>
    if 4 ≤ s.openSessions then s.openRefused port 8
    else
      match s.nqNonce with
      | none => s.openRefused port 8
      | some (nd, s1) =>
        match s1.freeSession with
        | (none, s2) => s2.openRefused port 8
        | (some id, s2) =>
          let x : Session := { id := id, role := role, port := port, nd := BitVec.ofNat 128 nd, lastAt := s2.now,
                               key := sessionKey k.toNat (beNat (payload.drop 1)) nd id }
          let s3 := (s2.withNq { s2.nq with sessions := s2.nq.sessions ++ [x] })
          s3.nqPush ⟨port, id, 8, 0, nqPlain 8 false id 0 (beBytes 16 nd)⟩
  | _, _, _ => s.openRefused port 0xC

/-- An Answer fails (R44, R45): counted, reported, the session dropped; the third within 60 s locks the port for 10 s. -/
def State.answerFails (s : State) (x : Session) : State :=
  let s := ((s.nqDiscard).report 17 x.port 0).closeSession x.id
  let times := s.now :: (tget [] s.nq.fails x.port).filter (fun t => s.now < t + 60000000000)
  let s := s.withNq { s.nq with fails := tput s.nq.fails x.port (times.take 3) }
  if 3 ≤ times.length then s.withNq { s.nq with lockUntil := tput s.nq.lockUntil x.port (s.now + 10000000000) } else s

/-- The idle limit in seconds (object 0x1030.01). -/
def State.idleLimit (s : State) : Nat := s.objVal 0x1030 1

/-- A good tag on an Answer: the nonce must match; the session is open with the Accept (R42, R46). -/
def State.answerTaken (s : State) (x : Session) (payload : List Byte) : State :=
  if beNat payload ≠ x.nd.toNat then (s.answerFails x).openRefused x.port 0xC
  else if 4 ≤ s.openSessions then (s.closeSession x.id).openRefused x.port 8
  else (s.modSession x.id (fun x => { x with isOpen := true })).nqEmit x.port x.id 0xA false (beBytes 2 s.idleLimit) 0

/-! ### Expedited access -/

/-- The request whose Response is under way: session, index, subindex. -/
structure NqReq where
  port : Nat
  session : Nat
  index : Nat
  sub : Nat
deriving DecidableEq, Repr

/-- The Response to a request. -/
def State.reply (s : State) (q : NqReq) (st : Nat) (value : List Byte) : State :=
  s.nqRespond q.port q.session q.index q.sub st value

/-- A request is delegated, or answered at once when the ring does not take it. -/
def State.reqDelegate (s : State) (q : NqReq) (op offset : Nat) (part : List Byte) : State :=
  let d : Delegation := { port := q.port, session := q.session, index := q.index, sub := q.sub, op := op, offset := offset,
                          len := part.length, part := part }
  let r := s.delegate d
  if r.1 = 0 then r.2 else r.2.reply q r.1 []

/-- Read (R36): the value of up to 16 bytes. -/
def State.serveRead (s : State) (q : NqReq) : State :=
  match s.objLook q.index q.sub false (s.roleOf q.session) with
  | .refused st => s.reply q st []
  | .firmware => s.reqDelegate q 0 0 []
  | .highest n => s.reply q 0 [BitVec.ofNat 8 n]
  | .obj r =>
    let v := s.objBytes r q.index q.sub
    if 16 < v.length then s.reply q 6 [] else s.reply q 0 v

/-- Write (R37): the value takes effect whole. -/
def State.serveWrite (s : State) (q : NqReq) (value : List Byte) : State :=
  match s.objLook q.index q.sub true (s.roleOf q.session) with
  | .refused st => s.reply q st []
  | .highest _ => s.reply q 4 []
  | .firmware => if 16 < value.length then s.reply q 6 [] else s.reqDelegate q 1 0 value
  | .obj r =>
    if 16 < value.length then s.reply q 6 []
    else
      let w := s.objStore r q.index q.sub value
      w.2.reply q w.1 []

/-! ### Segmented access (R38 to R40, R531, R532) -/

/-- Whether a length may be written to an object (R49, R532, and the length of a boot image). -/
def segLength (r : ObjRow) (i total : Nat) : Bool :=
  if i = 0x3011 && r.size = 0 then total == 49152
  else if i = 0x6020 then 260 ≤ total && total ≤ 2081024
  else total == r.size

/-- Segment start (R38): it ends a transfer the requester holds (log entry 37). -/
def State.segStart (s : State) (q : NqReq) (dir total : Nat) : State :=
  let s := s.endXfer q.port q.session
  let x : Transfer := { port := q.port, session := q.session, index := q.index, sub := q.sub, isWrite := dir == 1, at_ := s.now }
  if 1 < dir then s.reply q 0xA []
  else
    match s.objLook q.index q.sub (dir == 1) (s.roleOf q.session) with
    | .refused st => s.reply q st []
    | .firmware => s.reqDelegate q (2 + dir) 0xFFFFFFFF (if dir = 1 then beBytes 4 total else [])
    | .highest n =>
      if dir = 1 then s.reply q 4 []
      else (s.putXfer { x with total := 1, data := [BitVec.ofNat 8 n] }).reply q 0 (beBytes 4 1)
    | .obj r =>
      if dir = 1 then
        if !segLength r q.index total then s.reply q 6 []
        else
          let s := s.putXfer { x with total := total }
          let s := if q.index = 0x6020 then
              s.withRst { s.rst with boot := { s.rst.boot with waitFrom := s.now, received := none } } else s
          s.reply q 0 []
      else
        let v := s.objBytes r q.index q.sub
        (s.putXfer { x with total := v.length, data := v, marker := s.objMarker q.index q.sub }).reply q 0 (beBytes 4 v.length)

/-- The transfer ends with an Abort. -/
def State.segAbort (s : State) (q : NqReq) (st : Nat) : State :=
  (s.endXfer q.port q.session).nqAbort q.port q.session q.index q.sub st

/-- Where the bytes of a written image are staged: the Eve image (R532), the header and the body of a boot image (R519). -/
def State.stageImage (s : State) (i off : Nat) (bs : List Byte) : Bool × State :=
  if i = 0x3011 then s.memWrite ridResponder (0x101F0000 + off) bs
  else
    let h := bs.take (256 - off)
    let b := bs.drop (256 - off)
    let r := if h.isEmpty then (false, s) else s.memWrite ridResponder (0x101FC000 + off) h
    if r.1 || b.isEmpty then r else r.2.memWrite ridResponder (0x10000000 + (off + h.length - 256)) b

/-- Whether an object's written image is staged in SRAM. -/
def ObjRow.staged (r : ObjRow) : Bool := r.size == 0

/-- The LAST segment of a write has been accepted: the object changes whole (R40). The copy of an Eve image begins, or is
refused (R532); a boot image is the ROM's to check (R519). -/
def State.segCommit (s : State) (q : NqReq) (r : ObjRow) (data : List Byte) (total : Nat) : State :=
  let s := s.endXfer q.port q.session
  if !r.staged then
    let w := s.objStore r q.index q.sub data
    w.2.reply q w.1 []
  else if q.index = 0x3011 then
    if s.eveOpen then
      (s.withNq { s.nq with eveImage := some (q.port, q.session) }).setFld R.MTX_STAT_EVE_BUSY 1
    else s.reply q 15 []
  else
    (s.withRst { s.rst with boot := { s.rst.boot with received := some total } }).reply q 0 []

/-- A Segment of a write. -/
def State.segWrite (s : State) (q : NqReq) (x : Transfer) (r : ObjRow) (data : List Byte) (last : Bool) : State :=
  let n := x.offset + data.length
  let w := if r.staged && !data.isEmpty then s.stageImage q.index x.offset data else (false, s)
  if w.1 then (w.2.endXfer q.port q.session).reply q 9 []
  else
    let kept := if r.staged then [] else x.data ++ data
    if last then w.2.segCommit q r kept x.total
    else (w.2.putXfer { x with offset := n, data := kept, at_ := s.now }).reply q 0 []

/-- A Segment of a read: up to 1024 bytes from the offset, LAST on the final one. -/
def State.segRead (s : State) (q : NqReq) (x : Transfer) : State :=
  let part := (x.data.drop x.offset).take 1024
  let n := x.offset + part.length
  let last := decide (x.total ≤ n)
  let s := if last then s.endXfer q.port q.session else s.putXfer { x with offset := n, at_ := s.now }
  s.nqEmit q.port q.session 5 last (nqObj q.index q.sub 0 ++ beBytes 4 x.offset ++ part) 1

/-- A Segment (R38, R39): object, direction and offset must fit the transfer, and its object must still be there. -/
def State.segment (s : State) (q : NqReq) (off : Nat) (data : List Byte) (last : Bool) : State :=
  match s.xfer q.port q.session with
  | none => s.nqAbort q.port q.session q.index q.sub 0xA
  | some x =>
    let n := off + data.length
    let bad := x.index ≠ q.index || x.sub ≠ q.sub || off ≠ x.offset || 1024 < data.length ||
      (x.isWrite && (x.total < n || (last && n ≠ x.total))) || (!x.isWrite && !data.isEmpty)
    if bad then s.segAbort q 0xA
    else if x.fw then
      let d : Delegation := { port := q.port, session := q.session, index := q.index, sub := q.sub, base := off, last := last }
      let d := if x.isWrite then { d with op := 3, offset := off, part := data.take 36, rest := data.drop 36,
                                          len := (data.take 36).length }
        else Delegation.next { d with op := 2 } (x.goal off)
      let r := s.delegate d
      if r.1 = 0 then r.2
      else if x.isWrite then (r.2.endXfer q.port q.session).reply q r.1 [] else r.2.segAbort q r.1
    else
      match objFind s.isAN q.index q.sub with
      | .obj r needs =>
        if !s.objUp needs q.index then
          (if x.isWrite then (s.endXfer q.port q.session).reply q 9 [] else s.segAbort q 9)
        else if x.isWrite then s.segWrite q x r data last
        else if 1024 < x.total && s.objMarker q.index q.sub ≠ x.marker then s.segAbort q 8
        else s.segRead q x
      | _ => s.segRead q x

/-! ### Requests -/

/-- A request of a kind is served: within a session one at a time, a further one is answered BUSY (R35). -/
def State.serve (s : State) (port session kind : Nat) (last : Bool) (p : List Byte) : State :=
  let q : NqReq := ⟨port, session, beNat (p.take 2), ((p.drop 2).headD 0).toNat⟩
  let busy := (s.session session).any (·.busy)
  if busy then s.nqEmit port session 3 false (nqObj q.index q.sub 8) 0
  else
    let s := s.modSession session (fun x => { x with busy := true })
    match kind with
    | 1 => s.serveRead q
    | 2 => s.serveWrite q (p.drop 4)
    | 4 => s.segStart q ((p.drop 3).headD 0).toNat (beNat (p.drop 4))
    | _ => s.segment q (beNat ((p.drop 4).take 4)) (p.drop 8) last

/-- A frame with P = 0 (R28, R42, R47). -/
def State.servePlain (s : State) (port : Nat) (f : NqFrame) : State :=
  if !nqShape f.kind f.payload || f.session ≠ 0 then s
  else if f.kind = 7 then s.sessionOpen port f.payload
  else if port ≠ 24 || f.kind = 9 || f.kind = 11 then s
  else if f.kind = 12 then s.endXfer port 0
  else s.serve port 0 f.kind f.last f.payload

/-- A frame with P = 1 (R42 to R44): the session, its port, the SEQ, the tag. -/
def State.serveProtected (s : State) (port : Nat) (f : NqFrame) : State :=
  match s.session f.session with
  | none => s.nqDiscard
  | some x =>
    if x.port ≠ port then s
    else if f.seq ≤ x.seqIn then s.nqDiscard
    else if !x.isOpen && f.kind ≠ 9 then s
    else
      let d := gcmDecrypt x.key.toNat (nqIv x.id 0 f.seq) f.header f.payload
      if d.2 ≠ f.tag then (if x.isOpen then s.nqDiscard else s.answerFails x)
      else if !nqShape f.kind d.1 then s
      else
        let s := s.modSession x.id (fun y => { y with seqIn := f.seq, lastAt := s.now })
        let s := if !x.isOpen then s.answerTaken x d.1
          else if f.kind = 11 then s.closeSession x.id
          else if f.kind = 12 then s.endXfer port x.id
          else if f.kind = 7 || f.kind = 9 then s
          else s.serve port x.id f.kind f.last d.1
        if 0xFFFFFFFF ≤ f.seq then s.closeSession x.id else s

/-- The responder takes a confirmed frame of a kind off its queue and serves it (R29, R32, R34). A frame of another kind is no
such command. -/
def State.nqFrame (s : State) (kind port : Nat) (bytes : List Byte) : State :=
  if !s.vigil then s
  else
    match nqParse port bytes with
    | none => s.withNq { s.nq with waiting := s.nq.waiting - 1 }
    | some f =>
      if f.kind ≠ kind then s
      else
        let s := s.withNq { s.nq with waiting := s.nq.waiting - 1 }
        if f.prot then s.serveProtected port f else s.servePlain port f

/-- READ (R36). -/
def execRead (port : Fin 25) (frame : List Byte) (s : State) : Host.Outcome State Fault Refusal := .next (s.nqFrame 1 port.val frame)

/-- WRITE (R37). -/
def execWrite (port : Fin 25) (frame : List Byte) (s : State) : Host.Outcome State Fault Refusal := .next (s.nqFrame 2 port.val frame)

/-- SEGMENT_START (R38). -/
def execSegmentStart (port : Fin 25) (frame : List Byte) (s : State) : Host.Outcome State Fault Refusal :=
  .next (s.nqFrame 4 port.val frame)

/-- SEGMENT (R39). -/
def execSegment (port : Fin 25) (frame : List Byte) (s : State) : Host.Outcome State Fault Refusal :=
  .next (s.nqFrame 5 port.val frame)

/-- SESSION_OPEN (R42). -/
def execSessionOpen (port : Fin 25) (frame : List Byte) (s : State) : Host.Outcome State Fault Refusal :=
  .next (s.nqFrame 7 port.val frame)

/-- ANSWER (R43). -/
def execAnswer (port : Fin 25) (frame : List Byte) (s : State) : Host.Outcome State Fault Refusal :=
  .next (s.nqFrame 9 port.val frame)

/-- CLOSE (R46). -/
def execClose (port : Fin 25) (frame : List Byte) (s : State) : Host.Outcome State Fault Refusal :=
  .next (s.nqFrame 0xB port.val frame)

/-- ABORT (R31). -/
def execAbort (port : Fin 25) (frame : List Byte) (s : State) : Host.Outcome State Fault Refusal :=
  .next (s.nqFrame 0xC port.val frame)

/-! ### Time limits -/

/-- SEGMENT_GAP_TIMEOUT (R39): more than 1 s has passed since the last segment. -/
def execSegmentGapTimeout (port : Fin 25) (session : BitVec 16) (s : State) : Host.Outcome State Fault Refusal :=
  match s.vigil, s.xfer port.val session.toNat with
  | true, some x =>
    let s := s.advanceTo (x.at_ + 1000000001)
    .next ((s.endXfer port.val session.toNat).nqEmit port.val session.toNat 0xC false (nqObj x.index x.sub 0xB) 0)
  | _, _ => .next s

/-- SESSION_IDLE_LIMIT (R46): the device sends a Close on an open session, and the session is gone. -/
def execSessionIdleLimit (session : BitVec 16) (s : State) : Host.Outcome State Fault Refusal :=
  match s.vigil, s.session session.toNat with
  | true, some x =>
    let s := s.advanceTo (x.lastAt + s.idleLimit * 1000000000)
    let s := if x.isOpen then s.nqEmit x.port x.id 0xB false [] 0 else s
    .next (s.closeSession x.id)
  | _, _ => .next s

/-- SESSION_OPEN_LOCKOUT_END (R45). -/
def execSessionOpenLockoutEnd (port : Fin 25) (s : State) : Host.Outcome State Fault Refusal :=
  if s.vigil && s.nq.lockUntil.any (fun p => p.1 == port.val) then
    let s := s.advanceTo (tget 0 s.nq.lockUntil port.val)
    .next (s.withNq { s.nq with lockUntil := tdel s.nq.lockUntil port.val })
  else .next s

/-! ### Bulletins (R53 to R55, R533) -/

/-- An instance joins a list kept in order of due time, behind those due no later. -/
def insertBul (x : BulInst) : List BulInst → List BulInst
  | [] => [x]
  | y :: r => if x.due < y.due then x :: y :: r else y :: insertBul x r

/-- BULLETIN_DUE (R54, R55): an instance enters the queue, or its bulletin's backlog, or is lost. -/
def execBulletinDue (n : Fin 16) (s : State) : Host.Outcome State Fault Refusal :=
  match s.vigil && s.bulOn n.val, s.nq.nextDue.find? (fun p => p.1 == n.val) with
  | true, some (_, due) =>
    let s := s.advanceTo due
    let x : BulInst := ⟨n.val, due, timeValue (s.timeNs - (s.now - due))⟩
    let s := s.withNq { s.nq with nextDue := tput s.nq.nextDue n.val (due + s.objVal (0x1041 + n.val) 1 * 1000000) }
    let log := tget [] s.nq.backlog n.val
    if s.nq.bulQueue.length < 32 then .next (s.withNq { s.nq with bulQueue := insertBul x s.nq.bulQueue })
    else if log.length < 65535 then
      .next (s.withNq { s.nq with backlog := tput s.nq.backlog n.val (log ++ [x]) })
    else .next ((s.count C.NQ_BKLOST).setFld R.NQ_STAT_BKL_FULL 1)
  | _, _ => .next s

/-- The backlogged instance with the earliest due time, the lower bulletin number first. -/
def State.firstBacklog (s : State) : Option BulInst :=
  (s.nq.backlog.filterMap (fun p => p.2.head?)).foldl (fun o x =>
    match o with
    | none => some x
    | some y => if x.due < y.due then some x else some y) none

/-- A queue entry frees: the earliest backlogged instance takes it (R55). -/
def State.refill (s : State) : State :=
  match s.firstBacklog with
  | none => s
  | some x =>
    let rest := (tget [] s.nq.backlog x.number).drop 1
    s.withNq { s.nq with bulQueue := insertBul x s.nq.bulQueue,
                               backlog := if rest.isEmpty then tdel s.nq.backlog x.number else tput s.nq.backlog x.number rest }

/-- The bytes a mapping contributes: the value as it stands, zeros of its length while it is unavailable (R533). -/
def State.mapBytes (s : State) (v : Nat) : List Byte :=
  if v = 0 then []
  else
    let i := v / 2 ^ 16
    let sub := v / 256 % 256
    match objFind s.isAN i sub with
    | .highest n => [BitVec.ofNat 8 n]
    | .obj r needs => if s.objUp needs i then s.objBytes r i sub else List.replicate r.size 0
    | _ => []

/-- The next bulletin instance is sent (R54): its values sampled now, its lateness in µs. -/
def State.sendBulletin (s : State) (x : BulInst) (rest : List BulInst) : State :=
  let late := s.now - x.due
  let s := if 1000000 < late then s.count C.NQ_LATE else s
  let values := (List.range 8).flatMap (fun k => s.mapBytes (s.objVal (0x1041 + x.number) (3 + k)))
  let payload := BitVec.ofNat 8 x.number :: (beBytes 4 (min 0xFFFFFFFF (late / 1000)) ++ beBytes 10 x.time ++ values)
  let s : State := s.withNq { s.nq with bulQueue := rest, bulSeq := (s.nq.bulSeq + 1) % 2 ^ 32 }
  (s.nqSent ⟨24, 0, 6, 0, nqPlain 6 false 0 s.nq.bulSeq payload⟩).refill

/-- TRANSMIT_OPPORTUNITY (R54, R558): the oldest frame is sent; bulletins wait behind other traffic, but go first while their
queue holds 32. -/
def execTransmitOpportunity (s : State) : Host.Outcome State Fault Refusal :=
  if !s.vigil then .next s
  else
    match s.nq.bulQueue, s.nq.out with
    | x :: rest, [] => .next (s.sendBulletin x rest)
    | x :: rest, o :: outs =>
      if 32 ≤ s.nq.bulQueue.length then .next (s.sendBulletin x rest)
      else .next (State.nqSent (s.withNq { s.nq with out := outs }) o)
    | [], o :: outs => .next (State.nqSent (s.withNq { s.nq with out := outs }) o)
    | [], [] => .next s

/-! ### Commands at the level of objects -/

/-- A write of a value by an open session, as its frame brings it. -/
def State.sessionWrite (s : State) (session : BitVec 16) (i sub : Nat) (value : List Byte) : State :=
  match s.vigil, s.session session.toNat with
  | true, some x => if x.isOpen then s.serve x.port x.id 2 false (nqObj i sub 0 ++ value) else s
  | _, _ => s

/-- SAVE_PERSISTENT (R528). -/
def execSavePersistent (session : BitVec 16) (s : State) : Host.Outcome State Fault Refusal :=
  .next (s.sessionWrite session 0x1010 1 (beBytes 4 0x5AFE0001))

/-- RESTORE_DEFAULTS (R52). -/
def execRestoreDefaults (session : BitVec 16) (s : State) : Host.Outcome State Fault Refusal :=
  .next (s.sessionWrite session 0x1011 1 (beBytes 4 0x5AFE0002))

/-- COMMIT_REQUEST_OBJECT (R537). -/
def execCommitRequestObject (session : BitVec 16) (data : Word) (s : State) : Host.Outcome State Fault Refusal :=
  .next (s.sessionWrite session 0x3011 2 (beBytes 4 data.toNat))

/-- UNFREEZE_OBJECT (R537). -/
def execUnfreezeObject (session : BitVec 16) (data : Word) (s : State) : Host.Outcome State Fault Refusal :=
  .next (s.sessionWrite session 0x7050 5 (beBytes 4 data.toNat))

/-- ROLE_KEY_WRITE (R535): the key, moved by segments, is written whole. -/
def execRoleKeyWrite (session : BitVec 16) (role : Fin 3) (key : BitVec 256) (s : State) : Host.Outcome State Fault Refusal :=
  match s.vigil, s.session session.toNat with
  | true, some x =>
    if !x.isOpen || x.busy then .next s
    else
      let q : NqReq := ⟨x.port, x.id, 0x4030, role.val + 1⟩
      let s := s.modSession x.id (fun x => { x with busy := true })
      match s.objLook 0x4030 (role.val + 1) true (some x.role) with
      | .obj _ =>
        let w := s.keyStore role.val key
        .next (w.2.reply q w.1 [])
      | .refused st => .next (s.reply q st [])
      | _ => .next s
  | _, _ => .next s

/-- EVE_IMAGE_WRITE (R532): the LAST segment of the write that a session has open to the Eve image. -/
def execEveImageWrite (session : BitVec 16) (data : List Byte) (s : State) : Host.Outcome State Fault Refusal :=
  match s.vigil, s.session session.toNat with
  | true, some x =>
    match s.xfer x.port x.id with
    | some t =>
      if x.isOpen && t.index = 0x3011 && t.isWrite then
        .next (s.serve x.port x.id 5 true (nqObj 0x3011 1 0 ++ beBytes 4 t.offset ++ data))
      else .next s
    | none => .next s
  | _, _ => .next s

/-- The words of an image, most significant byte first, as table entries that differ from zero. -/
def imageTable : Nat → List Byte → List (Nat × Word)
  | k, a :: b :: c :: d :: r =>
    let w : Word := BitVec.ofNat 32 (beNat [a, b, c, d])
    if w = 0 then imageTable (k + 1) r else (k, w) :: imageTable (k + 1) r
  | _, _ => []

/-- EVE_IMAGE_COPY_DONE (R532): the image stands whole in the Eve table, and OK is answered. A copy that an error response or
the loss of the table ended is answered NOT_AVAILABLE (log entry 38). -/
def execEveImageCopyDone (s : State) : Host.Outcome State Fault Refusal :=
  match s.vigil, s.nq.eveImage with
  | true, some (port, session) =>
    let s := s.withNq { s.nq with eveImage := none }
    if !(s.live 12 && s.flag R.MTX_STAT_EVE_BUSY) then .next (s.nqRespond port session 0x3011 1 9 [])
    else
      let r := s.memRead ridResponder 0x101F0000 49152
      let s := r.2.setFld R.MTX_STAT_EVE_BUSY 0
      if r.1.2 then .next (s.nqRespond port session 0x3011 1 9 [])
      else
        let s := (s.withMtx { s.mtx with eve := imageTable 0 r.1.1 }).eveChanged
        .next (s.nqRespond port session 0x3011 1 0 [])
  | _, _ => .next s

/-! ### Delegation commands and registers -/

/-- Firmware moves NQ_DLG_TAIL: the entries it passes are released, and those that wait are answered (R57). -/
def State.dlgTail (s : State) (old new : Nat) : State :=
  let n := (new + 8 - old) % 8
  let done := s.nq.deleg.take n
  let s := s.withNq { s.nq with deleg := s.nq.deleg.drop n }
  done.foldl (fun (s : State) d => s.dlgAnswer d) s

/-- What writes to NQ_ registers do beyond their fields. -/
def nqWrite (_rid : Rid) (a : Nat) (_data old : Word) (s : State) : State :=
  if a = R.NQ_DLG_TAIL then s.dlgTail (old.toNat % 8) (s.fld R.NQ_DLG_TAIL_TAIL) else s

/-- DELEGATION_TIMEOUT (R57): the oldest entry that waits has not been answered for 1.5 ms. -/
def execDelegationTimeout (s : State) : Host.Outcome State Fault Refusal :=
  match s.vigil, s.nq.deleg.find? (fun d => !d.dead) with
  | true, some d =>
    let s := (s.advanceTo (d.at_ + 1500000)).setFld R.NQ_STAT_DLG_TIMEOUT 1
    .next (s.dlgDrop (fun e => e.entry == d.entry && e.at_ == d.at_) 8)
  | _, _ => .next s

end Sys2Proof.Machine
end

