-- ==== Sys2Proof/Machine/Bus.lean ====
section
/-! DEFINITION. Register accesses over the interconnect (chapter 03): decoding, unavailable blocks, access codes, alias and masked
writes, shadow pairs, locks, snapshots; and one word of any target. -/

namespace Sys2Proof.Machine

/-- What a write to a register of a block does beyond its fields; `old` is the register before the write. -/
def blockWrite (code : Nat) (rid : Rid) (a : Nat) (data old : Word) (s : State) : State :=
  match code with
  | 0x00 => pwrWrite rid a data old s
  | 0x01 => rstWrite rid a data old s
  | 0x04 => evtWrite rid a data old s
  | 0x05 => hzWrite rid a data old s
  | 0x06 => trcWrite rid a data old s
  | 0x07 => tmpWrite rid a data old s
  | 0x08 => trnWrite rid a data old s
  | 0x09 => nvsWrite rid a data old s
  | 0x0A => hkWrite rid a data old s
  | 0x0B => nqWrite rid a data old s
  | 0x0C => idcWrite rid a data old s
  | 0x0D => sdhWrite rid a data old s
  | 0x0E => dmcRegWrite rid a data old s
  | 0x0F => dmaWrite rid a data old s
  | 0x10 => fusWrite rid a data old s
  | 0x20 => calWrite rid a data old s
  | 0x21 => hldWrite rid a data old s
  | 0x22 => ptpWrite rid a data old s
  | 0x30 => mtxWrite rid a data old s
  | 0x31 => lneWrite rid a data old s
  | 0x34 => srcWrite rid a data old s
  | 0x35 => hvsWrite rid a data old s
  | 0x36 => clsWrite rid a data old s
  | 0x37 => autWrite rid a data old s
  | 0x38 => cipWrite rid a data old s
  | 0x39 => pkaWrite rid a data old s
  | _ => s

/-! ### Writes -/

/-- What a write of a header register does: LOCK discards the pending pairs of its block (R83), and VOTE_CNT is cleared with
VOTE_DIS. -/
def State.headerWrite (s : State) (b : BlockDesc) (a : Nat) (old : Word) : State :=
  if a = b.base + 0x3F0 then
    if s.locked b && !nbit old.toNat 0 then
      (s.pairs.filter (fun p => b.base ≤ p.addr && p.addr < b.base + b.size)).foldl (fun (s : State) p =>
        (s.dropPair p.addr).shadowFail b p.addr) s
    else s
  else if a = b.base + 0x3F8 then
    if nbit old.toNat 0 && !nbit (s.regN a) 0 then s.setRegN a (nput (s.regN a) 15 8 0) else s
  else s

/-- A write at a register's own offset: `en` marks the bits that are written (all of them outside masked-class blocks). -/
def State.plainWrite (s : State) (b : BlockDesc) (r : RegDesc) (rid : Rid) (a : Nat) (data en raw : Word) : State :=
  let s := s.pairLate b a
  let br := s.pairBreak b a
  let s := br.2
  let old := s.reg a
  let rw := s.rwMask b r &&& en
  let d := data &&& en
  let all := (old &&& ~~~en) ||| d
  let s := s.lockedWrite b r old all
  let kept := old &&& ~~~rw &&& ~~~(r.bits .w1c &&& d) &&& ~~~(r.bits .wo)
  let new := kept ||| (d &&& rw) ||| (d &&& r.bits .w1s) ||| (d &&& r.bits .wo)
  let s := s.setReg a new
  let s := if r.shadowed && !br.1 then s.withPairs (s.pairs ++ [⟨a, rid, data, s.now⟩]) else s
  if b.base + 0x3F0 ≤ a ∧ a < b.base + 0x400 then s.headerWrite b a old else blockWrite b.code rid a raw old s

/-- The value an alias write computes: 1 set, 2 clear, 3 toggle (R65). -/
def aliasValue (form : Nat) (old data : Word) : Word :=
  match form with
  | 1 => old ||| data
  | 2 => old &&& ~~~data
  | _ => old ^^^ data

/-- An alias write (R65, R66, R81, R83): fields of other access codes stay and nothing they would do happens. -/
def State.aliasWrite (s : State) (b : BlockDesc) (r : RegDesc) (rid : Rid) (a form : Nat) (data : Word) : State :=
  let s := s.pairLate b a
  let s := (s.pairBreak b a).2
  let old := s.reg a
  let val := aliasValue form old data
  let s := s.lockedWrite b r old val
  let rw := s.rwMask b r
  if rw = 0 then s
  else
    let new := (old &&& ~~~rw &&& ~~~(r.bits .wo)) ||| (val &&& rw)
    blockWrite b.code rid a (new &&& rw) old (s.setReg a new)

/-- A write to the shadow port of a register (R80, R81, R410): the pair takes effect when it matches, else it fails. -/
def State.portWrite (s : State) (b : BlockDesc) (r : RegDesc) (rid : Rid) (a : Nat) (data : Word) : State :=
  let s := s.pairLate b a
  match s.pairs.find? (fun p => p.addr == a) with
  | none => s.shadowFail b a
  | some p =>
    let s := s.dropPair a
    if master p.rid = master rid && data == ~~~p.value && !(b.code = 0x07 && s.locked b) then
      let old := s.reg a
      let m := r.bits .rws
      blockWrite b.code rid a p.value old (s.setReg a ((old &&& ~~~m) ||| (p.value &&& m)))
    else s.shadowFail b a

/-- What an address in a register block names: a register at its own offset, an alias form of one, the shadow port of one, or
nothing (R62, R65, R69, R80). -/
inductive RegForm where
  | own (r : RegDesc)
  | aliasForm (r : RegDesc) (form a : Nat)
  | port (r : RegDesc) (a : Nat)
  | none
deriving DecidableEq, Repr

/-- Find what an address in a block names. -/
def BlockDesc.form (b : BlockDesc) (a : Nat) : RegForm :=
  let o := a - b.base
  match b.regAt o with
  | some r => .own r
  | none =>
    if !b.masked && 0x400 ≤ o && o < 0x1000 then
      match b.regAt (o % 0x400) with
      | some r => .aliasForm r (o / 0x400) (b.base + o % 0x400)
      | none => .none
    else if 0x200 ≤ o && o < 0x400 then
      match b.regAt (o - 0x200) with
      | some r => if r.shadowed then .port r (a - 0x200) else .none
      | none => .none
    else .none

/-- The writable counters of two words, as low and high word: the register tables give none (log entry 39). -/
def writableWide : List (Nat × Nat) := []

/-- A write to a register's own offset: the high word of a writable counter goes to its staging word, and a write of the low
word loads both and sets the staging word to zero (R86, R87). -/
def State.ownWrite (s : State) (b : BlockDesc) (r : RegDesc) (rid : Rid) (a : Nat) (data en raw : Word) : State :=
  if writableWide.any (fun p => p.2 == a) then s.withStaged (tput s.staged a data)
  else
    let s := match writableWide.find? (fun p => p.1 == a) with
      | some p => ((s.setReg p.2 (tget 0 s.staged p.2)).withStaged (tdel s.staged p.2))
      | none => s
    s.plainWrite b r rid a data en raw

/-- Whether a requester may write a block at all: TMP_ takes writes of Warden RIDs of M0 and M1, and of M7 (R410). -/
def mayWrite (b : BlockDesc) (rid : Rid) : Bool := b.code != 0x07 || wardenCore rid || master rid == 7

/-- A write of a word to a register address: the answer is OK unless the block is unavailable or what the write does says
otherwise (R62, R63, R69, R74). -/
def State.regBusWrite (s : State) (rid : Rid) (a : Nat) (data : Word) : State :=
  let s := s.withAnswer { rid := rid }
  match blockAt a with
  | none => s.decodeError rid a true false
  | some b =>
    if !s.live b.domain then (s.unavailable rid a true false).errResp
    else if a % 4 ≠ 0 then s.decodeError rid a true true
    else
      match b.form a with
      | .none => s.decodeError rid a true false
      | .own r =>
        if !mayWrite b rid then s
        else if b.masked then
          let m := data.toNat / 2 ^ 16
          if m = 0 then s
          else s.ownWrite b r rid a (data &&& 0xFFFF) (BitVec.ofNat 32 m) data
        else s.ownWrite b r rid a data 0xFFFFFFFF data
      | .aliasForm r f x => if mayWrite b rid then s.aliasWrite b r rid x f data else s
      | .port r x => if mayWrite b rid then s.portWrite b r rid x data else s

/-! ### Reads -/

/-- The high word of a counter of two words, by the address of its low word (R85). -/
def wideHigh (a : Nat) : Option Nat :=
  if a = R.HLD_SAMPLES then some R.HLD_SAMPLES_HI
  else if a = R.CLS_SEARCH then some R.CLS_SEARCH_HI
  else if R.MTX_FWD 0 ≤ a ∧ a < R.MTX_FWD 24 ∧ (a - R.MTX_FWD 0) % 8 = 0 then some (a + 4)
  else none

/-- Whether an address is the high word of a counter of two words. -/
def isWideHigh (a : Nat) : Bool := 4 ≤ a && (wideHigh (a - 4)) == some a

/-- A read at a register's own offset: RC fields are cleared, the low word of a counter fills its snapshot (R71, R85, R88). -/
def State.ownRead (s : State) (b : BlockDesc) (r : RegDesc) (rid : Rid) (a : Nat) : Word × State :=
  if isWideHigh a then (tget 0 s.snaps a, s)
  else
    let v := regRead b r rid a s
    let s := match wideHigh a with
      | some h => (v.2.withSnaps (tput v.2.snaps h (v.2.reg h)))
      | none => v.2
    let rc := r.bits .rc
    (v.1, if rc = 0 then s else s.setReg a (s.reg a &&& ~~~rc))

/-- A read of a word at a register address (R62, R63, R67, R74, R80). -/
def State.regBusRead (s : State) (rid : Rid) (a : Nat) : State :=
  let s := s.withAnswer { rid := rid }
  match blockAt a with
  | none => s.decodeError rid a false false
  | some b =>
    if !s.live b.domain then (s.unavailable rid a false false).errResp
    else if a % 4 ≠ 0 then s.decodeError rid a false true
    else
      match b.form a with
      | .none => s.decodeError rid a false false
      | .own r =>
        let v := s.ownRead b r rid a
        (v.2.withAnswer { v.2.answer with data := v.1 })
      | .aliasForm r _ x => s.withAnswer { s.answer with data := (s.ownRead b r rid x).1 }
      | .port _ _ => s

/-! ### One word of any target -/

/-- Whether a master reaches the interconnect: PD7 is up, or the responder reads and writes over its own path (R89). -/
def State.reaches (s : State) (rid : Rid) : Bool := s.vigil && (s.up 7 || master rid == 7)

/-- A write of one 32-bit word. -/
def State.busWrite (s : State) (rid : Rid) (a : Nat) (data : Word) : State :=
  if !s.reaches rid then s
  else
    match s.target a with
    | .regs => s.regBusWrite rid a data
    | _ =>
      let w := s.memWrite rid a (leBytes 4 data.toNat)
      (w.2.withAnswer { rid := rid, err := w.1 })

/-- A read of one 32-bit word. -/
def State.busRead (s : State) (rid : Rid) (a : Nat) : State :=
  if !s.reaches rid then s
  else
    match s.target a with
    | .regs => s.regBusRead rid a
    | _ =>
      let r := s.memWord rid a
      (r.2.withAnswer { rid := rid, data := BitVec.ofNat 32 r.1.1, err := r.1.2 })

end Sys2Proof.Machine
end

