-- ==== Sys2Proof/Machine/Dma.lean ====
section
/-! DEFINITION. The transfers of the system DMA (R366 to R371), and register writes together with the DMA transfers they stop. -/

namespace Sys2Proof.Machine

/-- The requester identity of M2. -/
def ridDma : Rid := engineRid 2

/-- What a channel is doing. -/
def State.dmaRun (s : State) (c : Nat) : Option DmaRun := (s.ic.dma.find? (fun p => p.1 == c)).map (·.2)

/-- The length of the next burst: at most 16 beats of 16 bytes, crossing a 4 KB boundary on neither side (R367). -/
def DmaRun.burst (d : DmaRun) : Nat :=
  let side := fun (fix : Bool) (a : Nat) => if fix then 256 else min (256 - a % 16) (4096 - a % 4096)
  min d.left (min (side d.sfix d.src) (side d.dfix d.dst))

/-- Read `k` words one after another by the register path; the response is an error when one of theirs is. -/
def State.wordsRead (rid : Rid) : Nat → State → Nat → (List Byte × Bool) × State
  | 0, s, _ => (([], false), s)
  | k + 1, s, a =>
    let s := s.busRead rid a
    let q := State.wordsRead rid k s (a + 4)
    ((leBytes 4 s.answer.data.toNat ++ q.1.1, s.answer.err || q.1.2), q.2)

/-- Write bytes by words, one after another, by the register path. True when one got an error response. -/
def State.wordsWrite (rid : Rid) : Nat → State → Nat → List Byte → Bool × State
  | 0, s, _, _ => (false, s)
  | k + 1, s, a, bs =>
    let s := s.busWrite rid a (BitVec.ofNat 32 (leNat (slice bs 0 4)))
    let q := State.wordsWrite rid k s (a + 4) (bs.drop 4)
    (s.answer.err || q.1, q.2)

/-- Whether an access goes word by word: one aligned word, or a run of aligned words of a register block, which its port splits
in ascending order (R63, R354; log entry 41). -/
def State.byWords (s : State) (a n : Nat) : Bool :=
  a % 4 == 0 && n % 4 == 0 && n != 0 && (n == 4 || s.target a == .regs)

/-- A read of one access. The data, and whether the response is an error. -/
def State.accessRead (s : State) (rid : Rid) (a n : Nat) : (List Byte × Bool) × State :=
  if s.byWords a n then State.wordsRead rid (n / 4) s a else s.memRead rid a n

/-- A write of one access. True for an error response. -/
def State.accessWrite (s : State) (rid : Rid) (a : Nat) (bs : List Byte) : Bool × State :=
  if s.byWords a bs.length then State.wordsWrite rid (bs.length / 4) s a bs else s.memWrite rid a bs

/-- Read `k` words from a fixed address, aligned down (log entry 40). -/
def State.fixedRead (a : Nat) : Nat → State → (List Byte × Bool) × State
  | 0, s => (([], false), s)
  | k + 1, s =>
    let r := s.accessRead ridDma (a / 4 * 4) 4
    if r.1.2 then ((r.1.1, true), r.2)
    else
      let q := State.fixedRead a k r.2
      ((r.1.1 ++ q.1.1, q.1.2), q.2)

/-- Write words to a fixed address, aligned down. -/
def State.fixedWrite (a : Nat) : Nat → State → List Byte → Bool × State
  | 0, s, _ => (false, s)
  | k + 1, s, bs =>
    let w := s.accessWrite ridDma (a / 4 * 4) (slice bs 0 4)
    if w.1 then w else State.fixedWrite a k w.2 (bs.drop 4)

/-- One burst of a channel: read, then write; an error stops the channel (R369). -/
def State.dmaBurst (s : State) (c : Nat) (d : DmaRun) : State :=
  let n := d.burst
  let r := if d.sfix then State.fixedRead d.src ((n + 3) / 4) s else s.accessRead ridDma d.src n
  if r.1.2 then r.2.dmaFail c 1 d.src d.left
  else
    let w := if d.dfix then State.fixedWrite d.dst ((n + 3) / 4) r.2 r.1.1 else r.2.accessWrite ridDma d.dst (r.1.1.take n)
    if w.1 then w.2.dmaFail c 2 d.dst d.left
    else w.2.modDma c (fun x => { x with src := if x.sfix then x.src else (x.src + n) % 2 ^ 32,
                                         dst := if x.dfix then x.dst else (x.dst + n) % 2 ^ 32, left := x.left - n })

/-- Bursts of a channel, `k` at most, while at least `keep` bytes stay, unless it is told to stop and `go` does not say
otherwise. -/
def State.dmaBursts (c keep : Nat) (go : Bool) : Nat → State → State
  | 0, s => s
  | k + 1, s =>
    match s.dmaRun c with
    | some d =>
      if d.left = 0 || d.loading || (d.abort && !go) || d.left < keep + d.burst then s
      else State.dmaBursts c keep go k (s.dmaBurst c d)
    | none => s

/-- A channel that was told to stop has ended its issued bursts, at most four: ABORTED and REMAIN (R370). How many were issued
is a free value. -/
def State.dmaAborted (s : State) (c : Nat) : State :=
  let k := s.draw
  let s := State.dmaBursts c 0 true (k.1 % 5) k.2
  match s.dmaRun c with
  | some d => (s.setRegN (R.DMA_CSTAT c) (2 ^ 30 + d.left % 2 ^ 24)).dmaIdle c
  | none => s

/-- Every channel that was told to stop has stopped. -/
def State.settleDma (s : State) : State :=
  if s.ic.dma.any (fun p => p.2.abort) then
    (List.range 16).foldl (fun (s : State) c =>
      match s.dmaRun c with
      | some d => if d.abort then s.dmaAborted c else s
      | none => s) s
  else s

/-- A write of one word by a master, with the DMA transfers it stops. -/
def State.write (s : State) (rid : Rid) (a : Nat) (data : Word) : State := (s.busWrite rid a data).settleDma

/-- A read of one word by a master. -/
def State.read (s : State) (rid : Rid) (a : Nat) : State := s.busRead rid a

/-- A transfer has ended: DONE, then the next descriptor or the end of the channel (R368, R369). -/
def State.dmaComplete (s : State) (c : Nat) (d : DmaRun) : State :=
  let s := if d.irq then s.dmaDone c else s
  match d.next with
  | some _ => s.modDma c (fun x => { x with loading := true })
  | none => s.dmaIdle c

/-- A descriptor lies in SRAM or DRAM, aligned to 16 bytes (R368). -/
def State.descriptorAt (s : State) (a : Nat) : Bool :=
  a % 16 == 0 && (match s.target a with
    | .sram _ => true
    | .dram _ => true
    | .dramNone => true
    | _ => false)

/-- DMA_DESCRIPTOR_LOAD (R368): the channel reads its next descriptor. -/
def execDmaDescriptorLoad (n : Fin 16) (s : State) : Host.Outcome State Fault Refusal :=
  let c := n.val
  match s.live 7, s.dmaRun c with
  | true, some d =>
    match d.loading, d.next with
    | true, some a =>
      if !s.descriptorAt a then .next (s.dmaFail c 4 a 0)
      else
        let r := s.memRead ridDma a 16
        if r.1.2 then .next (r.2.dmaFail c 1 a 0)
        else
          let w := fun k => leNat (slice r.1.1 (4 * k) 4)
          let run : DmaRun := { src := w 0, dst := w 1, left := nbits (w 2) 23 0, sfix := nbit (w 2) 29, dfix := nbit (w 2) 28,
                                irq := nbit (w 2) 31, next := if nbit (w 2) 30 then none else some (w 3 / 16 * 16) }
          let s := (r.2.withIc { r.2.ic with dma := tput r.2.ic.dma c run })
          .next (if run.left = 0 then s.dmaComplete c run else s)
    | _, _ => .next s
  | _, _ => .next s

/-- DMA_TRANSFER_DONE (R367, R369): every burst of the transfer is read and written; an error response stops it. -/
def execDmaTransferDone (n : Fin 16) (s : State) : Host.Outcome State Fault Refusal :=
  let c := n.val
  match s.live 7, s.dmaRun c with
  | true, some d =>
    if d.loading then .next s
    else
      let s := State.dmaBursts c 0 false (d.left + 1) s
      match s.dmaRun c with
      | some e => .next ((if e.left = 0 && !e.abort then s.dmaComplete c e else s).settleDma)
      | none => .next s.settleDma
  | _, _ => .next s

/-- DMA_ERROR (R369): an error response on a read or a write, after the bursts that moved at most `moved` bytes. -/
def execDmaError (n : Fin 16) (write : Bool) (moved : BitVec 24) (s : State) : Host.Outcome State Fault Refusal :=
  let c := n.val
  match s.live 7, s.dmaRun c with
  | true, some d =>
    if d.loading then .next s
    else
      let s := State.dmaBursts c (d.left - moved.toNat) false (d.left + 1) s
      match s.dmaRun c with
      | some e =>
        .next ((if e.left = 0 then s else s.dmaFail c (if write then 2 else 1) (if write then e.dst else e.src) e.left).settleDma)
      | none => .next s.settleDma
  | _, _ => .next s

/-- DMA_GO (R367, R368): a write of DMA_CHc_CFG with GO. -/
def execDmaGo (rid : Rid) (n : Fin 16) (data : Word) (s : State) : Host.Outcome State Fault Refusal :=
  .next (s.write rid (R.DMA_CFG n.val) (data ||| 0x80000000))

/-- DMA_ABORT (R370): a write of DMA_CHc_CFG with ABORT and its other fields as they are. -/
def execDmaAbort (rid : Rid) (n : Fin 16) (s : State) : Host.Outcome State Fault Refusal :=
  .next (s.write rid (R.DMA_CFG n.val) (BitVec.ofNat 32 (2 ^ 30 + s.regN (R.DMA_CFG n.val) % 2 ^ 30)))

end Sys2Proof.Machine
end

