-- ==== Sys2Proof/Machine/Access.lean ====
section
/-! DEFINITION. The rows of chapter 03: register accesses, refused accesses, and the integrity of voted and shadowed fields. -/

namespace Sys2Proof.Machine

/-- ALIAS_WRITE (R65, R66): a write at an alias address. -/
def execAliasWrite (rid : Rid) (addr data : Word) (s : State) : Host.Outcome State Fault Refusal :=
  .next (s.write rid addr.toNat data)

/-- MASKED_WRITE (R69): a write to a masked-class block, mask in [31:16]. -/
def execMaskedWrite (rid : Rid) (addr data : Word) (s : State) : Host.Outcome State Fault Refusal :=
  .next (s.write rid addr.toNat data)

/-- REGISTER_WRITE (R71): a write acts on each field by its access code. -/
def execRegisterWrite (rid : Rid) (addr data : Word) (s : State) : Host.Outcome State Fault Refusal :=
  .next (s.write rid addr.toNat data)

/-- RC_READ (R71, R88): a read that clears RC fields. -/
def execRcRead (rid : Rid) (addr : Word) (s : State) : Host.Outcome State Fault Refusal :=
  .next (s.read rid addr.toNat)

/-- COUNTER_LOW_WORD_READ (R85): a read of a low word fills the snapshot. -/
def execCounterLowWordRead (rid : Rid) (addr : Word) (s : State) : Host.Outcome State Fault Refusal :=
  .next (s.read rid addr.toNat)

/-- STAGED_COUNTER_LOAD (R86): a write to the low word of a writable multi-word counter; the register tables give no such
counter, so that the write is one to the register as it stands (log entry 39). -/
def execStagedCounterLoad (rid : Rid) (addr data : Word) (s : State) : Host.Outcome State Fault Refusal :=
  .next (s.write rid addr.toNat data)

/-! ### Refused accesses -/

/-- What keeps an access from being a decode error: its target does not answer, or a register or memory lies there. -/
def State.decodes (s : State) (a : Nat) (size : Bool) : Bool :=
  match s.target a with
  | .unmapped => false
  | .dramNone => !(s.live 20 && s.flag R.DMC_STAT_READY)
  | .regs =>
    match blockAt a with
    | none => false
    | some b => !s.live b.domain || (!size && a % 4 = 0 && b.form a != .none)
  | _ => true

/-- Whether the target of an address is unavailable (R74). -/
def State.isUnavailable (s : State) (a : Nat) : Bool :=
  match s.target a with
  | .sram b => !s.live (sramDomain b)
  | .dram _ => !(s.live 20 && s.flag R.DMC_STAT_READY)
  | .dramNone => !(s.live 20 && s.flag R.DMC_STAT_READY)
  | .regs =>
    match blockAt a with
    | some b => !s.live b.domain
    | none => false
  | _ => false

/-- DECODE_ERROR (R62, R63): an access, of the wrong size when `size` says so, that nothing decodes; on an address that decodes
nothing happens. -/
def execDecodeError (rid : Rid) (addr : Word) (write size : Bool) (s : State) : Host.Outcome State Fault Refusal :=
  let a := addr.toNat
  if !s.reaches rid || s.decodes a size then .next s
  else
    let wrong := (blockAt a).isSome && (size || a % 4 ≠ 0)
    .next ((s.withAnswer { rid := rid }).decodeError rid a write wrong)

/-- UNAVAILABLE_BLOCK_ACCESS (R74): an access to a target that is off, held in reset, or not ready. -/
def execUnavailableBlockAccess (rid : Rid) (addr : Word) (write : Bool) (s : State) : Host.Outcome State Fault Refusal :=
  let a := addr.toNat
  if !s.reaches rid || !s.isUnavailable a then .next s
  else .next ((s.withAnswer { rid := rid, err := true }).unavailable rid a write false)

/-- CROSSING_WATCHDOG (R75): the crossing of an access to a block that was available has not completed in 4 µs. -/
def execCrossingWatchdog (rid : Rid) (addr : Word) (write : Bool) (s : State) : Host.Outcome State Fault Refusal :=
  let a := addr.toNat
  match s.target a, blockAt a with
  | .regs, some b =>
    if !s.reaches rid || !s.live b.domain then .next s
    else .next (((s.advance 4000).withAnswer { rid := rid, err := true }).unavailable rid a write true)
  | _, _ => .next s

/-! ### Voted and shadowed fields -/

/-- VOTE_DISAGREEMENT (R78): one copy of an RWV field differs; the majority is what stands. -/
def execVoteDisagreement (addr : Word) (s : State) : Host.Outcome State Fault Refusal :=
  let a := addr.toNat
  match regDescAt a with
  | some (b, r) =>
    if s.live b.domain && r.bits .rwv != 0 then
      let g := b.base + 0x3F8
      let s := (s.setInteg b 0).integLog b 1 a
      let s := s.setRegN g (nput (s.regN g) 15 8 (min 255 (nbits (s.regN g) 15 8 + 1)))
      .next ((s.raise 113).reportAt 10 (b.code * 256 + 1) (a - b.base) b.base)
    else .next s
  | none => .next s

/-- SHADOW_PAIR_START (R80): the first write of a pair. -/
def execShadowPairStart (rid : Rid) (addr data : Word) (s : State) : Host.Outcome State Fault Refusal :=
  .next (s.write rid addr.toNat data)

/-- SHADOW_PORT_WRITE (R80, R81): a write to a shadow port. -/
def execShadowPortWrite (rid : Rid) (addr data : Word) (s : State) : Host.Outcome State Fault Refusal :=
  .next (s.write rid addr.toNat data)

/-- SHADOW_PAIR_TIMEOUT (R81): the window of a pending pair ends. -/
def execShadowPairTimeout (addr : Word) (s : State) : Host.Outcome State Fault Refusal :=
  let a := addr.toNat
  match s.pairs.find? (fun p => p.addr == a), blockAt a with
  | some p, some b => .next (((s.advanceTo (p.at_ + pairWindow + 1)).dropPair a).shadowFail b a)
  | _, _ => .next s

/-- SHADOW_MISMATCH (R82): RWS field `f` of a register, counted as its table lists them, differs from its inverted shadow and
takes its reset value. -/
def execShadowMismatch (addr : Word) (f : Fin 4) (s : State) : Host.Outcome State Fault Refusal :=
  let a := addr.toNat
  match regDescAt a with
  | some (b, r) =>
    match s.live b.domain, (r.fields.filter (fun x => x.acc == .rws))[f.val]? with
    | true, some x =>
      let old := s.reg a
      let s := s.setRegN a (nput old.toNat x.hi x.lo (nbits (resetWord a).toNat x.hi x.lo))
      let s := ((s.setInteg b 1).integLog b 2 a).raise 114
      let s := s.reportAt 11 (b.code * 256 + 2) (a - b.base) b.base
      .next (blockWrite b.code ridResponder a (s.reg a) old s)
    | _, _ => .next s
  | none => .next s

/-- LOCK (R83): XXX_LOCK.LOCK of the block that owns an address is set. -/
def execLock (rid : Rid) (addr : Word) (s : State) : Host.Outcome State Fault Refusal :=
  match blockAt addr.toNat with
  | some b => .next (s.write rid (b.base + 0x3F0) (if b.masked then 0x10001 else 1))
  | none => .next s

end Sys2Proof.Machine
end

