-- ==== Sys2Proof/Machine/HzMem.lean ====
section
/-! DEFINITION. Memory as a Haerzer thread sees it (R303 to R317): region attributes, the caches, the store buffer of a core,
loads, stores and fetches, and cache maintenance. -/

namespace Sys2Proof.Machine

/-- The requester identity of a thread: master, thread within its core, Warden bit (R279). -/
def hzRid (t : Nat) (w : Bool) : Rid := BitVec.ofNat 8 (t / 4 * 32 + t % 4 * 8 + b2n w * 4)

/-- The present requester identity of a thread. -/
def State.ridOf (s : State) (t : Nat) : Rid := hzRid t (s.thr t).warden

/-! ### Regions (R303) -/

/-- What the region rules give an address: device, cacheable, Warden execute, Tenant read, write, execute. -/
structure Attr where
  dev : Bool
  cache : Bool
  xw : Bool
  tr : Bool
  tw : Bool
  tx : Bool
deriving DecidableEq, Repr

/-- The attributes of an address: the highest-numbered region that holds it, or the default. -/
def State.attr (s : State) (a : Nat) : Attr :=
  let hit := (List.range 8).reverse.find? (fun r =>
    s.flag (R.HZ_RGN_ATTR_EN r) && s.fld (R.HZ_RGN_BASE_BASE r) * 64 ≤ a && a ≤ s.fld (R.HZ_RGN_LIMIT_LIMIT r) * 64 + 63)
  match hit with
  | some r =>
    let dev := s.flag (R.HZ_RGN_ATTR_DEV r)
    ⟨dev, !dev && s.flag (R.HZ_RGN_ATTR_C r), s.flag (R.HZ_RGN_ATTR_XW r), s.flag (R.HZ_RGN_ATTR_TR r),
      s.flag (R.HZ_RGN_ATTR_TW r), s.flag (R.HZ_RGN_ATTR_TX r)⟩
  | none =>
    let dev := 0x40000000 ≤ a && a < 0x80000000
    ⟨dev, !dev, !dev, false, false, false⟩

/-- Whether a thread may read an address. -/
def State.mayRead (s : State) (t a : Nat) : Bool := (s.thr t).warden || (s.attr a).tr

/-- Whether a thread may store to an address. -/
def State.mayStore (s : State) (t a : Nat) : Bool := (s.thr t).warden || (s.attr a).tw

/-- Whether a thread may execute at an address. -/
def State.mayExecute (s : State) (t a : Nat) : Bool :=
  !(s.attr a).dev && (if (s.thr t).warden then (s.attr a).xw else (s.attr a).tx)

/-! ### The lost stores of R320 -/

/-- A buffered store, or a write-back, got an error response: EVT_IMPLOG, EVT_IMPCNT, E44. `mask` is the byte enables. -/
def State.lostStore (s : State) (t a mask : Nat) : State :=
  if !s.live 7 then s
  else
    let s := if s.flag R.EVT_IMPLOG0_VALID then s.setFld R.EVT_IMPLOG0_MULTI 1
      else (s.setRegN R.EVT_IMPLOG0 (2 ^ 31 + t / 4 * 2 ^ 20 + t * 2 ^ 16 + mask)).setRegN R.EVT_IMPLOG1 a
    (s.count C.EVT_IMPCNT).raise 44

/-! ### The data cache (R310, R311) -/

/-- The line of the data cache at a line address. -/
def State.dline (s : State) (c la : Nat) : Option CacheLine := ((s.core c).dcache.find? (fun p => p.1 == la)).map (·.2)

/-- Put a line into the data cache. -/
def State.setDline (s : State) (c la : Nat) (l : CacheLine) : State :=
  s.modCore c (fun x => { x with dcache := tput x.dcache la l })

/-- Take a line out of the data cache. -/
def State.dropDline (s : State) (c la : Nat) : State := s.modCore c (fun x => { x with dcache := tdel x.dcache la })

/-- The 64 bytes of a line. -/
def CacheLine.all (l : CacheLine) : List Byte := (List.range 64).map (fun k => tget 0 l.bytes k)

/-- Bytes of a line from an offset. -/
def CacheLine.part (l : CacheLine) (o n : Nat) : List Byte := (List.range n).map (fun k => tget 0 l.bytes (o + k))

/-- Set bytes of a line from an offset; the line is dirty then. -/
def CacheLine.store (l : CacheLine) (bs : List (Nat × Byte)) : CacheLine :=
  { bytes := bs.foldl (fun m (p : Nat × Byte) => tset 0 m p.1 p.2) l.bytes, dirty := true, rom := l.rom }

/-- A line of the bytes read. -/
def lineOf (bs : List Byte) (rom : Bool) : CacheLine :=
  { bytes := (List.range 64).foldl (fun m k => tset 0 m k (bs.getD k 0)) [], dirty := false, rom := rom }

/-- Write a dirty line back; it is clean then. An error response loses its data as a store is lost (log entry 42). -/
def State.cleanLine (s : State) (t la : Nat) : State :=
  let c := t / 4
  match s.dline c la with
  | some l =>
    if l.dirty then
      let w := (s.setDline c la { l with dirty := false }).accessWrite (s.ridOf t) la l.all
      if w.1 then w.2.lostStore t la 65535 else w.2
    else s
  | none => s

/-- The lines of one set: 128 sets of 64-byte lines. -/
def sameSet (a b : Nat) : Bool := a / 64 % 128 == b / 64 % 128

/-- Make room for a line in its set of 4: which line leaves is a free value. -/
def State.evictLine (s : State) (t la : Nat) : State :=
  let set := (s.core (t / 4)).dcache.filter (fun p => sameSet p.1 la)
  if set.length < 4 then s
  else
    let k := s.draw
    match set[k.1 % 4]? with
    | some p => (k.2.cleanLine t p.1).dropDline (t / 4) p.1
    | none => k.2

/-- Bring a line into the data cache. True for an error response. -/
def State.fillLine (s : State) (t la : Nat) : Bool × State :=
  match s.dline (t / 4) la with
  | some _ => (false, s)
  | none =>
    let r := s.accessRead (s.ridOf t) la 64
    if r.1.2 then (true, r.2)
    else (false, (r.2.evictLine t la).setDline (t / 4) la (lineOf r.1.1 false))

/-! ### The store buffer (R314 to R317) -/

/-- The byte enables of an entry. -/
def SbEntry.mask (e : SbEntry) : Nat := e.bytes.foldl (fun n (p : Nat × Byte) => nput n p.1 p.1 1) 0

/-- The lowest byte an entry writes, and how many from it to the highest. -/
def SbEntry.span (e : SbEntry) : Nat × Nat :=
  match e.bytes with
  | [] => (0, 0)
  | p :: _ => (p.1, e.bytes.foldl (fun n (q : Nat × Byte) => max n (q.1 + 1)) 0 - p.1)

/-- An entry leaves the buffer: written into the data cache, or to its target (R314). True for an error response. -/
def State.performStore (s : State) (e : SbEntry) : Bool × State :=
  if e.cacheable then
    let la := e.addr / 64 * 64
    let f := s.fillLine e.thread la
    if f.1 then f
    else
      match f.2.dline (e.thread / 4) la with
      | some l => (false, f.2.setDline (e.thread / 4) la (l.store (e.bytes.map (fun p => (e.addr - la + p.1, p.2)))))
      | none => (false, f.2)
  else
    let sp := e.span
    s.accessWrite (hzRid e.thread e.warden) (e.addr + sp.1) ((List.range sp.2).map (fun k => tget 0 e.bytes (sp.1 + k)))

/-- The oldest entry of a core's buffer drains (R314, R320). -/
def State.drainOne (s : State) (c : Nat) : State :=
  match (s.core c).sb with
  | [] => s
  | e :: r =>
    let w := (s.modCore c (fun x => { x with sb := r })).performStore e
    (if w.1 then w.2.lostStore e.thread e.addr e.mask else w.2).settleDma

/-- Entries of a core's buffer drain, oldest first, while one that satisfies a condition is left. -/
def State.drainWhile (c : Nat) (p : SbEntry → Bool) : Nat → State → State
  | 0, s => s
  | k + 1, s => if (s.core c).sb.any p then State.drainWhile c p k (s.drainOne c) else s

/-- Every entry drains (FENCE). -/
def State.drainCore (s : State) (c : Nat) : State := State.drainWhile c (fun _ => true) 8 s

/-- Every store of a thread drains. -/
def State.drainThread (s : State) (t : Nat) : State :=
  State.drainWhile (t / 4) (fun e => e.thread == t || e.also.contains t) 8 s

/-- Whether an entry writes a byte of the run at an address. -/
def SbEntry.touches (a n : Nat) (e : SbEntry) : Bool :=
  e.bytes.any (fun p => a ≤ e.addr + p.1 && e.addr + p.1 < a + n)

/-- The youngest buffered data for a byte. -/
def State.buffered (s : State) (c a : Nat) : Option Byte :=
  (s.core c).sb.foldl (fun (b : Option Byte) e =>
    match e.bytes.find? (fun p => e.addr + p.1 == a) with
    | some p => some p.2
    | none => b) none

/-- Bytes enter the buffer at an address within one 16-byte block; a full buffer drains its oldest entry first. A cacheable
store merges into the youngest entry when that holds its block; device stores never merge (R315). -/
def State.bufferStore (s : State) (t a : Nat) (bs : List Byte) : State :=
  let c := t / 4
  let blk := a / 16 * 16
  let at_ := s.attr a
  let new := (List.range bs.length).map (fun k => (a - blk + k, bs.getD k 0))
  let w := (s.thr t).warden
  match (s.core c).sb.getLast? with
  | some e =>
    if at_.cache && e.cacheable && e.addr = blk then
      let m := { e with also := if e.thread = t then e.also else e.also ++ [t],
                        bytes := new.foldl (fun b (p : Nat × Byte) => tput b p.1 p.2) e.bytes }
      s.modCore c (fun x => { x with sb := x.sb.dropLast ++ [m] })
    else
      let s := if 8 ≤ (s.core c).sb.length then s.drainOne c else s
      s.modCore c (fun x => { x with sb := x.sb ++ [⟨t, w, [], blk, new, at_.cache⟩] })
  | none => s.modCore c (fun x => { x with sb := x.sb ++ [⟨t, w, [], blk, new, at_.cache⟩] })

/-! ### Loads, fetches -/

/-- `n` bytes at an address for a thread, permission and alignment apart: what is buffered, the data cache, or the target
(R310, R315, R316). The data, and whether the response is an error. A device load waits for the older stores of its thread, and
for any other that is buffered for its bytes (log entry 43). -/
def State.hzLoad (s : State) (t a n : Nat) : (Nat × Bool) × State :=
  let c := t / 4
  let at_ := s.attr a
  let known := (List.range n).map (fun k => s.buffered c (a + k))
  if !at_.dev && known.all (·.isSome) then ((leNat (known.map (·.getD 0)), false), s)
  else
    let s := if at_.dev then s.drainThread t else s
    let s := State.drainWhile c (SbEntry.touches a n) 8 s
    if at_.cache then
      let la := a / 64 * 64
      let f := s.fillLine t la
      match f.1, f.2.dline c la with
      | false, some l => ((leNat (l.part (a - la) n), false), f.2)
      | e, _ => ((0, e), f.2)
    else
      let r := s.accessRead (s.ridOf t) a n
      ((leNat r.1.1, r.1.2), r.2)

/-- A line of the instruction cache. -/
def State.iline (s : State) (c la : Nat) : Option CacheLine := ((s.core c).icache.find? (fun p => p.1 == la)).map (·.2)

/-- Bring a line into the instruction cache, a line of a full set of 4 leaving; which is a free value. -/
def State.fillIline (s : State) (t la : Nat) : Bool × State :=
  let c := t / 4
  match s.iline c la with
  | some _ => (false, s)
  | none =>
    let r := s.accessRead (s.ridOf t) la 64
    if r.1.2 then (true, r.2)
    else
      let rom := match s.target la with
        | .rom _ => true
        | _ => false
      let set := (r.2.core c).icache.filter (fun p => sameSet p.1 la)
      let v := if set.length < 4 then (none, r.2) else (set[(r.2.draw).1 % 4]?, (r.2.draw).2)
      let s := match v.1 with
        | some p => v.2.modCore c (fun x => { x with icache := tdel x.icache p.1 })
        | none => v.2
      (false, s.modCore c (fun x => { x with icache := tput x.icache la (lineOf r.1.1 rom) }))

/-- What a fetch gives: a word and whether it comes from the boot ROM, or a trap cause. -/
inductive Fetched where
  | word (w : Nat) (rom : Bool)
  | trap (cause : Nat)
deriving DecidableEq, Repr

/-- A thread fetches the word at its pc (R303, R304, R310). -/
def State.fetch (s : State) (t : Nat) : Fetched × State :=
  let a := (s.thr t).pc.toNat
  if !s.mayExecute t a then (.trap 3, s)
  else if (s.attr a).cache then
    let la := a / 64 * 64
    let f := s.fillIline t la
    match f.1, f.2.iline (t / 4) la with
    | false, some l => (.word (leNat (l.part (a - la) 4)) l.rom, f.2)
    | _, _ => (.trap 5, f.2)
  else
    let r := s.accessRead (s.ridOf t) a 4
    if r.1.2 then (.trap 5, r.2)
    else
      (.word (leNat r.1.1) (match s.target a with
        | .rom _ => true
        | _ => false), r.2)

/-! ### Data-cache maintenance (R311) -/

/-- What a maintenance operation does to a line. -/
inductive Maint where
  | clean
  | flush
  | invalidate
deriving DecidableEq, Repr

/-- A maintenance operation on one line of the data cache. -/
def State.maintLine (s : State) (t la : Nat) (m : Maint) : State :=
  match m with
  | .clean => s.cleanLine t la
  | .flush => (s.cleanLine t la).dropDline (t / 4) la
  | .invalidate => s.dropDline (t / 4) la

/-- A maintenance operation on every line. -/
def State.maintAll (s : State) (t : Nat) (m : Maint) : State :=
  (s.core (t / 4)).dcache.foldl (fun (s : State) (p : Nat × CacheLine) => s.maintLine t p.1 m) s

/-! ### What the buffer and the caches do of themselves -/

/-- STORE_DRAIN (R314): the oldest entry of a core's buffer is acknowledged. -/
def execStoreDrain (c : Fin 2) (s : State) : Host.Outcome State Fault Refusal :=
  .next (if s.coreUp c.val then s.drainOne c.val else s)

/-- IMPRECISE_STORE_ERROR (R320): the oldest entry gets an error response and is lost. -/
def execImpreciseStoreError (c : Fin 2) (s : State) : Host.Outcome State Fault Refusal :=
  match s.coreUp c.val, (s.core c.val).sb with
  | true, e :: r => .next ((s.modCore c.val (fun x => { x with sb := r })).lostStore e.thread e.addr e.mask)
  | _, _ => .next s

/-- The counters of a core: data errors corrected, dirty lines lost, instruction parity (R313). -/
def cacheCtr (c k : Nat) : Ctr :=
  match c, k with
  | 0, 0 => C.HZ_C0_DCOR
  | 0, 1 => C.HZ_C0_DUNC
  | 0, _ => C.HZ_C0_IPAR
  | _, 0 => C.HZ_C1_DCOR
  | _, 1 => C.HZ_C1_DUNC
  | _, _ => C.HZ_C1_IPAR

/-- A counter of HZ_ counts while PD7 is up. -/
def State.cacheCount (s : State) (c k : Nat) : State := if s.live 7 then s.count (cacheCtr c k) else s

/-- CACHE_ERROR (R313): an error in the line of an address, found by an instruction of thread t when `access` says so, else by
a write-back, an eviction or an operation on every line. -/
def execCacheError (t : Fin 8) (addr : Word) (kind : CacheErr) (access : Bool) (s : State) :
    Host.Outcome State Fault Refusal :=
  let c := t.val / 4
  let la := addr.toNat / 64 * 64
  let x := s.thr t.val
  let issues := x.run == 1 && !(s.core c).dozing && (s.deliverable t.val).isNone
  if !s.coreUp c then .next s
  else
    match kind with
    | .ipar =>
      match s.iline c la with
      | some _ =>
        let s := (s.modCore c (fun x => { x with icache := tdel x.icache la })).cacheCount c 2
        .next (s.fillIline t.val la).2
      | none => .next s
    | .single =>
      match s.dline c la with
      | some _ => .next (s.cacheCount c 0)
      | none => .next s
    | .double =>
      match s.dline c la with
      | none => .next s
      | some l =>
        if !l.dirty then .next ((((s.dropDline c la).cacheCount c 0).fillLine t.val la).2)
        else if access && !issues then .next s
        else
          let s := ((s.dropDline c la).cacheCount c 1).raise (2 + c)
          .next (if access then s.trapSync t.val 5 addr else s)

end Sys2Proof.Machine
end

