-- ==== Sys2Proof/Machine/Haerzer.lean ====
section
/-! DEFINITION. The instructions of a Haerzer thread (chapters 11, 12): issue, arithmetic, memory, control transfer, windows,
special registers, events, ordering and cache maintenance. -/

namespace Sys2Proof.Machine

/-! ### Issue -/

/-- How an instruction ends: with its effect, or with a synchronous trap that finds the state as given (R319). -/
inductive HzRes where
  | ok (s : State)
  | trap (cause : Nat) (info : Word) (s : State)

/-- An instruction that a thread may issue: the thread is in RUN, its core up and not dozing. -/
def State.issues (s : State) (t : Nat) : Bool :=
  s.coreUp (t / 4) && (s.thr t).run == 1 && !(s.core (t / 4)).dozing

/-- The pc goes to the next instruction. -/
def State.nextPc (s : State) (t : Nat) : State := s.modThr t (fun x => { x with pc := x.pc + 4 })

/-- The pc goes to an address, its bits [1:0] dropped. -/
def State.jump (s : State) (t : Nat) (a : Word) : State := s.modThr t (fun x => { x with pc := a &&& 0xFFFFFFFC })

/-- A thread issues the instruction `iw` (R289, R303, R304, R319, R335): a deliverable event is taken instead of it; a fetch
that fails traps; a word of zero traps as illegal; an instruction that is not what the thread fetches does not issue. The
words of the boot ROM are taken as `iw` (log entry 5). -/
def State.issue (s : State) (t : Nat) (iw : Word) (run : State → HzRes) : State :=
  if !s.issues t then s
  else
    match s.deliverable t with
    | some k => s.takeEvent t k
    | none =>
      let f := s.fetch t
      let pc := (s.thr t).pc
      match f.1 with
      | .trap c => f.2.trapSync t c pc
      | .word w rom =>
        let here := f.2.modThr t (fun x => { x with pcs := pc })
        if (w = 0 && !rom) || iw = 0 then (if w = 0 || rom then here.trapSync t 1 0 else s)
        else if !rom && w ≠ iw.toNat then s
        else
          match run here with
          | .ok s => s.settleDma
          | .trap c info s => (s.trapSync t c info).settleDma

/-- A privileged instruction (R302): Tenant takes the trap. -/
def State.privileged (s : State) (t : Nat) (iw : Word) (run : State → HzRes) : HzRes :=
  if (s.thr t).warden then run s else .trap 2 iw s

/-- The second operand. -/
def Thread.src (x : Thread) (o : HzSrc) : Word :=
  match o with
  | .reg r => x.get r.val
  | .imm v => v

/-! ### Arithmetic, control transfer -/

/-- Whether a division has a result. -/
def divides (signed : Bool) (a b : Word) : Bool := b != 0 && !(signed && a == 0x80000000 && b == 0xFFFFFFFF)

/-- The result of an arithmetic or logic operation. Shifts take the low five bits of the second operand; a division with no
result gives a free value. -/
def alu (op : AluOp) (a b : Word) : Word :=
  let n := b.toNat % 32
  let bit := fun (p : Bool) => if p then (1 : Word) else 0
  match op with
  | .add => a + b
  | .sub => a - b
  | .and => a &&& b
  | .or => a ||| b
  | .xor => a ^^^ b
  | .sll => a <<< n
  | .srl => a >>> n
  | .sra => a.sshiftRight n
  | .seq => bit (a == b)
  | .sne => bit (a != b)
  | .slt => bit (a.slt b)
  | .sltu => bit (a.ult b)
  | .sge => bit (!a.slt b)
  | .sgeu => bit (!a.ult b)
  | .mul => a * b
  | .div => if divides true a b then a.sdiv b else Config.divCorner 0 a b
  | .divu => if divides false a b then a / b else Config.divCorner 1 a b
  | .rem => if divides true a b then a.srem b else Config.divCorner 2 a b
  | .remu => if divides false a b then a % b else Config.divCorner 3 a b

/-- Whether a branch condition holds. -/
def condHolds (c : HzCond) (a b : Word) : Bool :=
  match c with
  | .eq => a == b
  | .ne => a != b
  | .lt => a.slt b
  | .ge => !a.slt b
  | .ltu => a.ult b
  | .geu => !a.ult b

/-- ALU_INSTRUCTION (R289): rd takes the result. -/
def execAluInstruction (t : Fin 8) (iw : Word) (op : AluOp) (rd rs1 : HzReg) (src : HzSrc) (s : State) :
    Host.Outcome State Fault Refusal :=
  .next (s.issue t.val iw (fun s =>
    let x := s.thr t.val
    .ok ((s.setThrReg t.val rd.val (alu op (x.get rs1.val) (x.src src))).nextPc t.val)))

/-- CONDITIONAL_BRANCH (R289, R339): to pc + off when the condition holds; the outcome is traced. -/
def execConditionalBranch (t : Fin 8) (iw : Word) (c : HzCond) (rs1 : HzReg) (src : HzSrc) (off : Word) (s : State) :
    Host.Outcome State Fault Refusal :=
  .next (s.issue t.val iw (fun s =>
    let x := s.thr t.val
    let taken := condHolds c (x.get rs1.val) (x.src src)
    let s := if taken then s.jump t.val (x.pc + off) else s.nextPc t.val
    .ok (s.traceBranch t.val taken (s.thr t.val).pc)))

/-- CALL (R294): d0 takes the address of the next instruction, the pc goes to pc + off. -/
def execCall (t : Fin 8) (iw : Word) (off : Word) (s : State) : Host.Outcome State Fault Refusal :=
  .next (s.issue t.val iw (fun s =>
    let pc := (s.thr t.val).pc
    .ok ((s.setThrReg t.val 24 (pc + 4)).jump t.val (pc + off))))

/-- JUMP_AND_LINK (R289, R339): rd takes the address of the next instruction, the pc goes to rs1 + off; TARGET. -/
def execJumpAndLink (t : Fin 8) (iw : Word) (rd rs1 : HzReg) (off : Word) (s : State) : Host.Outcome State Fault Refusal :=
  .next (s.issue t.val iw (fun s =>
    let x := s.thr t.val
    let s := (s.setThrReg t.val rd.val (x.pc + 4)).jump t.val (x.get rs1.val + off)
    let pc := (s.thr t.val).pc
    .ok (s.trace t.val 3 (leBytes 4 pc.toNat) pc)))

/-- TRAP_N (R302, R318): TRAP n. -/
def execTrapN (t : Fin 8) (iw : Word) (n : Byte) (s : State) : Host.Outcome State Fault Refusal :=
  .next (s.issue t.val iw (fun s => .trap 8 (n.setWidth 32) s))

/-! ### Loads, stores, atomics -/

/-- Bytes of an access. -/
def sizeBytes (z : MemSize) : Nat :=
  match z with
  | .byte => 1
  | .byteS => 1
  | .half => 2
  | .halfS => 2
  | .word => 4
  | .double => 8

/-- The word a load of a size gives. -/
def loadExtend (z : MemSize) (v : Nat) : Word :=
  match z with
  | .byteS => (BitVec.ofNat 8 v).signExtend 32
  | .halfS => (BitVec.ofNat 16 v).signExtend 32
  | _ => BitVec.ofNat 32 v

/-- The even register of a pair. -/
def pairOf (r : HzReg) : Nat := r.val / 2 * 2

/-- LOAD_INSTRUCTION (R303, R304, R310, R315, R316). -/
def execLoadInstruction (t : Fin 8) (iw : Word) (sz : MemSize) (rd rs1 : HzReg) (off : Word) (s : State) :
    Host.Outcome State Fault Refusal :=
  .next (s.issue t.val iw (fun s =>
    let a := (s.thr t.val).get rs1.val + off
    if a.toNat % (sizeBytes sz) ≠ 0 then .trap 4 a s
    else if !s.mayRead t.val a.toNat then .trap 3 a s
    else
      let r := s.hzLoad t.val a.toNat (sizeBytes sz)
      if r.1.2 then .trap 5 a r.2
      else
        let s := match sz with
          | .double => (r.2.setThrReg t.val (pairOf rd) (BitVec.ofNat 32 r.1.1)).setThrReg t.val (pairOf rd + 1)
              (BitVec.ofNat 32 (r.1.1 / 2 ^ 32))
          | _ => r.2.setThrReg t.val rd.val (loadExtend sz r.1.1)
        .ok (s.nextPc t.val)))

/-- STORE_INSTRUCTION (R303, R304, R314, R315): the store enters the buffer. -/
def execStoreInstruction (t : Fin 8) (iw : Word) (sz : MemSize) (rs2 rs1 : HzReg) (off : Word) (s : State) :
    Host.Outcome State Fault Refusal :=
  .next (s.issue t.val iw (fun s =>
    let x := s.thr t.val
    let a := x.get rs1.val + off
    if a.toNat % (sizeBytes sz) ≠ 0 then .trap 4 a s
    else if !s.mayStore t.val a.toNat then .trap 3 a s
    else
      let bs := match sz with
        | .double => leBytes 4 (x.get (pairOf rs2)).toNat ++ leBytes 4 (x.get (pairOf rs2 + 1)).toNat
        | _ => leBytes (sizeBytes sz) (x.get rs2.val).toNat
      .ok ((s.bufferStore t.val a.toNat bs).nextPc t.val)))

/-- An atomic at an address (R305, R360): older stores drain, the line leaves the data cache, then a locked read and write at
the target; rd takes what was read, memory what `f` makes of it. -/
def State.atomic (s : State) (t : Nat) (rd : HzReg) (a : Word) (f : Word → Word) : HzRes :=
  let n := a.toNat
  if n % 4 ≠ 0 then .trap 4 a s
  else if !inRam n || !s.mayRead t n || !s.mayStore t n then .trap 3 a s
  else
    let s := s.drainThread t
    let s := if (s.attr n).cache then s.maintLine t (n / 64 * 64) .flush else s
    let r := s.accessRead (s.ridOf t) n 4
    if r.1.2 then .trap 5 a r.2
    else
      let old := BitVec.ofNat 32 (leNat r.1.1)
      let w := r.2.accessWrite (s.ridOf t) n (leBytes 4 (f old).toNat)
      if w.1 then .trap 5 a w.2 else .ok ((w.2.setThrReg t rd.val old).nextPc t)

/-- SWAP (R305): rd and the word at rs1 change places. -/
def execSwap (t : Fin 8) (iw : Word) (rd rs1 : HzReg) (s : State) : Host.Outcome State Fault Refusal :=
  .next (s.issue t.val iw (fun s =>
    let x := s.thr t.val
    s.atomic t.val rd (x.get rs1.val) (fun _ => x.get rd.val)))

/-- CAS (R305): the word at rs1 takes rd when it equals rs2; rd takes what it was. -/
def execCas (t : Fin 8) (iw : Word) (rd rs1 rs2 : HzReg) (s : State) : Host.Outcome State Fault Refusal :=
  .next (s.issue t.val iw (fun s =>
    let x := s.thr t.val
    s.atomic t.val rd (x.get rs1.val) (fun old => if old = x.get rs2.val then x.get rd.val else old)))

/-- FADD (R305): rs2 is added to the word at rs1; rd takes what it was. -/
def execFadd (t : Fin 8) (iw : Word) (rd rs1 rs2 : HzReg) (s : State) : Host.Outcome State Fault Refusal :=
  .next (s.issue t.val iw (fun s =>
    let x := s.thr t.val
    s.atomic t.val rd (x.get rs1.val) (fun old => old + x.get rs2.val)))

/-- The target of an address in the tables of R59: T0 to T13. -/
def targetNo (a : Nat) : Nat :=
  if a < 0x20000 then 0
  else if 0x10000000 ≤ a ∧ a < 0x10200000 then 1 + (a - 0x10000000) / 0x80000
  else if 0x80000000 ≤ a then 5
  else
    match blockAt a with
    | none => 13
    | some b =>
      if b.code = 0x09 then 11
      else if b.code ≤ 0x10 then
        (if b.domain = 0 ∨ b.code = 0x0A then 6 else 7)
      else if b.code < 0x30 then 8
      else if b.code < 0x38 then 9
      else 10

/-- LOCK_FORCED_RELEASE (R361): the write of an atomic of thread t at rs1 is not accepted within 64 target cycles of its locked
read: the target releases the lock, logs it, and answers the write with an error, so that the atomic traps (R305). -/
def execLockForcedRelease (t : Fin 8) (iw : Word) (rs1 : HzReg) (s : State) : Host.Outcome State Fault Refusal :=
  .next (s.issue t.val iw (fun s =>
    let a := (s.thr t.val).get rs1.val
    let n := a.toNat
    if n % 4 ≠ 0 then .trap 4 a s
    else if !inRam n || !s.mayRead t.val n || !s.mayStore t.val n then .trap 3 a s
    else
      let s := s.drainThread t.val
      let s := if (s.attr n).cache then s.maintLine t.val (n / 64 * 64) .flush else s
      let r := s.accessRead (s.ridOf t.val) n 4
      if r.1.2 then .trap 5 a r.2
      else
        let s := r.2.advance 107
        let s := if !s.live 7 then s
          else
            let log := 2 ^ 31 + t.val / 4 * 2 ^ 24 + targetNo n * 2 ^ 8
            let s := if nbit (s.regN R.IC_LOCKLOG0) 31 then s
              else (s.setRegN R.IC_LOCKLOG0 log).setRegN R.IC_LOCKLOG1 n
            (s.count C.IC_LOCKREL).raise 42
        .trap 5 a s))

/-! ### Windows (R296 to R301) -/

/-- SAVE (R296, R297, R301). -/
def execSave (t : Fin 8) (iw : Word) (s : State) : Host.Outcome State Fault Refusal :=
  .next (s.issue t.val iw (fun s =>
    let x := s.thr t.val
    if 9 ≤ x.depth then .trap 6 0 s
    else
      .ok ((s.modThr t.val (fun x => { x with
        wptr := (x.base + 1) % 11, depth := x.depth + 1,
        hdepth := if x.hx then (x.hdepth + 1) % 16 else x.hdepth })).nextPc t.val)))

/-- RESTORE (R296, R297, R301). -/
def execRestore (t : Fin 8) (iw : Word) (s : State) : Host.Outcome State Fault Refusal :=
  .next (s.issue t.val iw (fun s =>
    let x := s.thr t.val
    if x.depth = 0 then .trap 7 0 s
    else
      .ok ((s.modThr t.val (fun x => { x with
        wptr := if x.hx && x.hdepth == 1 then 11 else (x.wptr + 10) % 11, depth := x.depth - 1,
        hdepth := if x.hx then (x.hdepth + 15) % 16 else x.hdepth })).nextPc t.val)))

/-- The 16 words u0 to u7, p0 to p7 of ring window w, as bytes. -/
def Thread.window (x : Thread) (w : Nat) : List Byte :=
  (List.range 16).foldr (fun k bs => leBytes 4 (tget 0 x.win (winKey w (8 + k))).toNat ++ bs) []

/-- The window numbered B minus `n` modulo 11. -/
def Thread.below (x : Thread) (n : Nat) : Nat := (x.base + 33 - n) % 11

/-- Blocks of 16 bytes are written at an address, precisely: no trap, or the address of the one that got an error response. -/
def State.pushBlocks (t : Nat) : Nat → State → Nat → List Byte → Option Nat × State
  | 0, s, _, _ => (none, s)
  | k + 1, s, a, bs =>
    let s := s.drainCore (t / 4)
    let blk := (List.range 16).map (fun i => (i, bs.getD i 0))
    let w := s.performStore ⟨t, true, [], a, blk, (s.attr a).cache⟩
    if w.1 then (some a, w.2) else State.pushBlocks t k w.2 (a + 16) (bs.drop 16)

/-- WPUSH (R298): the oldest resident window goes to WSP. The trap it takes, if any. -/
def State.push (s : State) (t : Nat) : Option Nat × State :=
  let x := s.thr t
  let r := State.pushBlocks t 4 s x.wsp.toNat (x.window (x.below x.depth))
  match r.1 with
  | some a => (some a, r.2)
  | none => (none, r.2.modThr t (fun x => { x with wsp := x.wsp + 64, depth := x.depth - 1 }))

/-- Words are loaded at an address into the keys of a window, precisely. -/
def State.pullWords (t w : Nat) : Nat → State → Nat → Option Nat × State
  | 0, s, _ => (none, s)
  | k + 1, s, a =>
    let r := s.hzLoad t a 4
    if r.1.2 then (some a, r.2)
    else
      let q := State.pullWords t w k r.2 (a + 4)
      match q.1 with
      | some e => (some e, q.2)
      | none => (none, q.2.modThr t (fun x => { x with
          win := tset 0 x.win (winKey w (8 + (15 - k))) (BitVec.ofNat 32 r.1.1) }))

/-- WPUSH (R298). -/
def execWpush (t : Fin 8) (iw : Word) (s : State) : Host.Outcome State Fault Refusal :=
  .next (s.issue t.val iw (fun s => s.privileged t.val iw (fun s =>
    if (s.thr t.val).depth = 0 then .trap 1 iw s
    else
      let r := s.push t.val
      match r.1 with
      | some a => .trap 5 (BitVec.ofNat 32 a) r.2
      | none => .ok (r.2.nextPc t.val))))

/-- WPULL (R298): the window pushed most recently comes back. -/
def execWpull (t : Fin 8) (iw : Word) (s : State) : Host.Outcome State Fault Refusal :=
  .next (s.issue t.val iw (fun s => s.privileged t.val iw (fun s =>
    let x := s.thr t.val
    if 9 ≤ x.depth then .trap 1 iw s
    else
      let r := State.pullWords t.val (x.below (x.depth + 1)) 16 s ((x.wsp - 64).toNat)
      match r.1 with
      | some a => .trap 5 (BitVec.ofNat 32 a) r.2
      | none => .ok ((r.2.modThr t.val (fun x => { x with wsp := x.wsp - 64, depth := x.depth + 1 })).nextPc t.val))))

/-- WPUSH until DEPTH is 0; windows already pushed stay pushed. -/
def State.pushAll (t : Nat) : Nat → State → Option Nat × State
  | 0, s => (none, s)
  | k + 1, s =>
    if (s.thr t).depth = 0 then (none, s)
    else
      let r := s.push t
      match r.1 with
      | some a => (some a, r.2)
      | none => State.pushAll t k r.2

/-- WDRAIN (R298). -/
def execWdrain (t : Fin 8) (iw : Word) (s : State) : Host.Outcome State Fault Refusal :=
  .next (s.issue t.val iw (fun s => s.privileged t.val iw (fun s =>
    let r := State.pushAll t.val (s.thr t.val).depth s
    match r.1 with
    | some a => .trap 5 (BitVec.ofNat 32 a) r.2
    | none => .ok (r.2.nextPc t.val))))

/-! ### Special registers (R295, R299) -/

/-- Whether a number names a special register. -/
def isSpecial (n : Nat) : Bool := n ≤ 0x0A || n == 0x0C || n == 0x0E || n == 0x0F

/-- Whether Tenant may read a special register. -/
def tenantReads (n : Nat) : Bool := !(2 ≤ n && n ≤ 7)

/-- The core cycles since the core's domain came up, its clock stopped in doze. -/
def State.cycles (s : State) (c : Nat) : Nat := coreCycles (s.now - (s.core c).upAt - (s.core c).dozed) % 2 ^ 64

/-- The value of a special register. -/
def State.special (s : State) (t n : Nat) : Word :=
  let x := s.thr t
  match n with
  | 0x00 => BitVec.ofNat 32 x.sts
  | 0x01 => BitVec.ofNat 32 x.wst
  | 0x02 => x.epc
  | 0x03 => x.ecause
  | 0x04 => x.einfo
  | 0x05 => x.estate
  | 0x06 => x.evec
  | 0x07 => x.wsp
  | 0x08 => x.sig.setWidth 32
  | 0x09 => x.wmask.setWidth 32
  | 0x0A => x.wtim
  | 0x0C => BitVec.ofNat 32 t
  | 0x0E => BitVec.ofNat 32 (s.cycles (t / 4))
  | 0x0F => BitVec.ofNat 32 (x.cycSnap / 2 ^ 32)
  | _ => 0

/-- RDSR (R295): CYCLE_LO snapshots the count. -/
def execRdsr (t : Fin 8) (iw : Word) (rd : HzReg) (num : Byte) (s : State) : Host.Outcome State Fault Refusal :=
  .next (s.issue t.val iw (fun s =>
    let n := num.toNat
    if !isSpecial n then .trap 1 iw s
    else if !(s.thr t.val).warden && !tenantReads n then .trap 2 iw s
    else
      let v := s.special t.val n
      let s := if n = 0x0E then s.modThr t.val (fun x => { x with cycSnap := s.cycles (t.val / 4) }) else s
      .ok ((s.setThrReg t.val rd.val v).nextPc t.val)))

/-- Whether a write to WST is refused (R299). -/
def badWst (hx : Bool) (v : Nat) : Bool :=
  let w := nbits v 3 0
  decide (9 < nbits v 19 16) || decide (9 < nbits v 27 24) || decide (11 < w) || (w == 11 && !hx)

/-- A special register takes a value. -/
def State.setSpecial (s : State) (t n : Nat) (v : Word) : State :=
  let k := v.toNat
  s.modThr t (fun x =>
    match n with
    | 0x00 => { x with ml := nbits k 6 4, hx := nbit k 1, warden := nbit k 0,
                       hxSince := if nbit k 1 && !x.hx then s.now else x.hxSince }
    | 0x01 => { x with hdepth := nbits k 27 24, depth := nbits k 19 16, wptr := nbits k 3 0 }
    | 0x02 => { x with epc := v }
    | 0x03 => { x with ecause := v }
    | 0x04 => { x with einfo := v }
    | 0x05 => { x with estate := v &&& 0x71F }
    | 0x06 => { x with evec := v &&& 0xFFFFFF00 }
    | 0x07 => { x with wsp := v &&& 0xFFFFFFC0 }
    | 0x08 => { x with sig := v.setWidth 16 }
    | 0x09 => { x with wmask := v.setWidth 25 }
    | _ => { x with wtim := v, wtimFrom := s.now })

/-- WRSR (R295, R299). -/
def execWrsr (t : Fin 8) (iw : Word) (num : Byte) (rs1 : HzReg) (s : State) : Host.Outcome State Fault Refusal :=
  .next (s.issue t.val iw (fun s =>
    let n := num.toNat
    let x := s.thr t.val
    let v := x.get rs1.val
    if 0x0A < n then .trap 1 iw s
    else if !x.warden && n ≠ 0x0A then .trap 2 iw s
    else if n = 0x01 && badWst x.hx v.toNat then .trap 1 iw s
    else .ok ((s.setSpecial t.val n v).nextPc t.val)))

/-! ### Trap return, halt, events -/

/-- XRET (R301, R323): PRIV, ML and WPTR come back from ESTATE; TARGET. An ESTATE that names no window traps (log entry 45). -/
def execXret (t : Fin 8) (iw : Word) (s : State) : Host.Outcome State Fault Refusal :=
  .next (s.issue t.val iw (fun s => s.privileged t.val iw (fun s =>
    let x := s.thr t.val
    if !x.hx || x.hdepth ≠ 0 || 11 < x.estate.toNat % 16 then .trap 1 iw s
    else
      let e := x.estate.toNat
      let s := (s.modThr t.val (fun x => { x with
        warden := nbit e 4, ml := nbits e 10 8, wptr := nbits e 3 0, hx := false })).jump t.val x.epc
      let pc := (s.thr t.val).pc
      .ok (s.trace t.val 3 (leBytes 4 pc.toNat) pc))))

/-- HALT (R288). -/
def execHalt (t : Fin 8) (iw : Word) (s : State) : Host.Outcome State Fault Refusal :=
  .next (s.issue t.val iw (fun s => s.privileged t.val iw (fun s => .ok ((s.nextPc t.val).setRun t.val 3))))

/-- EWAIT (R306, R307): WMASK takes rs1; with a wake condition that holds the thread does not wait. -/
def execEwait (t : Fin 8) (iw : Word) (rd rs1 : HzReg) (s : State) : Host.Outcome State Fault Refusal :=
  .next (s.issue t.val iw (fun s =>
    let m := (s.thr t.val).get rs1.val
    if m = 0 then .trap 1 iw s
    else
      let s := (s.modThr t.val (fun x => { x with wmask := m.setWidth 25, waitRd := rd.val })).nextPc t.val
      .ok (if s.wakeHolds t.val then s.wake t.val false else s.setRun t.val 2)))

/-- ESIG (R308): older stores drain, then thread rs1[2:0] gets the signals rs2[15:0]. -/
def execEsig (t : Fin 8) (iw : Word) (rs1 rs2 : HzReg) (s : State) : Host.Outcome State Fault Refusal :=
  .next (s.issue t.val iw (fun s =>
    let x := s.thr t.val
    let u := (x.get rs1.val).toNat % 8
    if !x.warden && !nbit (s.fld (R.HZ_TCTRL_TSIG u)) t.val then .trap 2 iw s
    else .ok (((s.drainThread t.val).signal u ((x.get rs2.val).toNat % 65536)).nextPc t.val)))

/-! ### Ordering and caches (R311, R316) -/

/-- FENCE (R316): every earlier store of the core is acknowledged. -/
def execFence (t : Fin 8) (iw : Word) (s : State) : Host.Outcome State Fault Refusal :=
  .next (s.issue t.val iw (fun s => .ok ((s.drainCore (t.val / 4)).nextPc t.val)))

/-- FENCE_I (R316): as FENCE; the model holds no prefetched instructions (log entry 46). -/
def execFenceI (t : Fin 8) (iw : Word) (s : State) : Host.Outcome State Fault Refusal :=
  .next (s.issue t.val iw (fun s => .ok ((s.drainCore (t.val / 4)).nextPc t.val)))

/-- A by-line operation (R311): Tenant needs read permission; on an address that is not cacheable it does nothing. -/
def State.byLine (s : State) (t : Nat) (a : Word) (f : State → Nat → State) : HzRes :=
  if !s.mayRead t a.toNat then .trap 3 a s
  else .ok ((if (s.attr a.toNat).cache then f s (a.toNat / 64 * 64) else s).nextPc t)

/-- The address of a by-line operation. -/
def State.lineArg (s : State) (t : Nat) (rs1 : HzReg) (off : Word) : Word := (s.thr t).get rs1.val + off

/-- IINV_L. -/
def execIinvL (t : Fin 8) (iw : Word) (rs1 : HzReg) (off : Word) (s : State) : Host.Outcome State Fault Refusal :=
  .next (s.issue t.val iw (fun s => s.byLine t.val (s.lineArg t.val rs1 off) (fun s la =>
    s.modCore (t.val / 4) (fun x => { x with icache := tdel x.icache la }))))

/-- IINV_ALL. -/
def execIinvAll (t : Fin 8) (iw : Word) (s : State) : Host.Outcome State Fault Refusal :=
  .next (s.issue t.val iw (fun s => s.privileged t.val iw (fun s =>
    .ok ((s.modCore (t.val / 4) (fun x => { x with icache := [] })).nextPc t.val))))

/-- DCLN_L: the stores of the thread drain before any operation on data lines (log entry 47). -/
def execDclnL (t : Fin 8) (iw : Word) (rs1 : HzReg) (off : Word) (s : State) : Host.Outcome State Fault Refusal :=
  .next (s.issue t.val iw (fun s => s.byLine t.val (s.lineArg t.val rs1 off) (fun s la =>
    (s.drainThread t.val).maintLine t.val la .clean)))

/-- DFLS_L. -/
def execDflsL (t : Fin 8) (iw : Word) (rs1 : HzReg) (off : Word) (s : State) : Host.Outcome State Fault Refusal :=
  .next (s.issue t.val iw (fun s => s.byLine t.val (s.lineArg t.val rs1 off) (fun s la =>
    (s.drainThread t.val).maintLine t.val la .flush)))

/-- DINV_L: Warden only. -/
def execDinvL (t : Fin 8) (iw : Word) (rs1 : HzReg) (off : Word) (s : State) : Host.Outcome State Fault Refusal :=
  .next (s.issue t.val iw (fun s => s.privileged t.val iw (fun s => s.byLine t.val (s.lineArg t.val rs1 off) (fun s la =>
    (s.drainThread t.val).maintLine t.val la .invalidate))))

/-- DCLN_ALL. -/
def execDclnAll (t : Fin 8) (iw : Word) (s : State) : Host.Outcome State Fault Refusal :=
  .next (s.issue t.val iw (fun s => s.privileged t.val iw (fun s =>
    .ok (((s.drainThread t.val).maintAll t.val .clean).nextPc t.val))))

/-- DFLS_ALL. -/
def execDflsAll (t : Fin 8) (iw : Word) (s : State) : Host.Outcome State Fault Refusal :=
  .next (s.issue t.val iw (fun s => s.privileged t.val iw (fun s =>
    .ok (((s.drainThread t.val).maintAll t.val .flush).nextPc t.val))))

/-- DINV_ALL. -/
def execDinvAll (t : Fin 8) (iw : Word) (s : State) : Host.Outcome State Fault Refusal :=
  .next (s.issue t.val iw (fun s => s.privileged t.val iw (fun s =>
    .ok (((s.drainThread t.val).maintAll t.val .invalidate).nextPc t.val))))

end Sys2Proof.Machine
end

