-- ==== Sys2Proof/Machine/Debug.lean ====
section
/-! DEFINITION. Transactions of the interconnect with their integrity code (R355, R363), the debug port and the TAP (R348 to
R352). -/

namespace Sys2Proof.Machine

/-! ### Transactions -/

/-- The domain that holds the target of an address. -/
def targetDomain (a : Nat) : Nat :=
  match targetNo a with
  | 1 => 5
  | 2 => 5
  | 3 => 6
  | 4 => 6
  | 5 => 20
  | 0 => 7
  | _ => (blockAt a).elim 7 (·.domain)

/-- An uncorrectable integrity error (R363): counted, logged, E43, and reported. -/
def State.integrityError (s : State) (rid : Rid) (a : Nat) (atMaster ctrl : Bool) : State :=
  let m := master rid
  let s := if !s.live 7 then s
    else
      let s := if nbit (s.regN R.IC_INTLOG0) 31 then s.setRegN R.IC_INTLOG0 (nput (s.regN R.IC_INTLOG0) 30 30 1)
        else (s.setRegN R.IC_INTLOG0 (2 ^ 31 + b2n atMaster * 2 ^ 29 + b2n ctrl * 2 ^ 28 + m * 2 ^ 24 +
          targetNo a * 2 ^ 8)).setRegN R.IC_INTLOG1 a
      (s.count C.IC_INTUNC).raise 43
  s.reportAt 12 (targetNo a * 2 ^ 8 + m) a (targetDomain a)

/-- A transaction is performed, its answer in `answer`. -/
def State.transact (s : State) (rid : Rid) (a len : Nat) (write : Bool) (data : List Byte) : State :=
  if write then
    let w := s.accessWrite rid a (slice data 0 len)
    ((w.2.withAnswer { rid := rid, err := w.1 })).settleDma
  else
    let r := s.accessRead rid a len
    (r.2.withAnswer { rid := rid, data := BitVec.ofNat 32 (leNat (r.1.1.take 4)), err := r.1.2, bytes := r.1.1 })

/-- Whether a transaction is one the interconnect takes: 1 byte to 16 beats of 16 bytes, crossing no 4 KB boundary (R355). -/
def formed (a len : Nat) : Bool := 0 < len && a % 16 + len ≤ 256 && a % 4096 + len ≤ 4096

/-- BUS_TRANSACTION (R354, R355, R362, R363): a transaction of any requester, with what its integrity check finds. -/
def execBusTransaction (rid : Rid) (addr : Word) (len : BitVec 9) (write : Bool) (data : List Byte) (intg : Integrity)
    (s : State) : Host.Outcome State Fault Refusal :=
  let a := addr.toNat
  let n := len.toNat
  let fails : State := s.withAnswer { rid := rid, err := true }
  if !s.reaches rid || !formed a n then .next s
  else
    match intg with
    | .good => .next (s.transact rid a n write data)
    | .corrected => .next ((if s.live 7 then s.count C.IC_INTCOR else s).transact rid a n write data)
    | .targetData => .next (fails.integrityError rid a false false)
    | .targetAddr => .next (fails.integrityError rid a false true)
    | .master =>
      let s := s.transact rid a n write data
      .next ((s.withAnswer { rid := rid, err := true }).integrityError rid a true false)
    | .masterCtrl =>
      let s := s.transact rid a n write data
      .next ((s.withAnswer { rid := rid, err := true }).integrityError rid a true true)

/-! ### Debug authentication (R348, R349) -/

/-- The highest level DBGLOCK lets a session reach (R348). -/
def State.debugCap (s : State) : Nat :=
  match s.fld R.FUS_POLICY_DBGLOCK with
  | 0 => 3
  | 1 => 3
  | 2 => 2
  | _ => 0

/-- Whether the TAP answers: PD23 is up (R478). -/
def State.tap (s : State) : Bool := s.live 23

/-- The TAP takes an instruction; loading another one leaves EXTEST. -/
def State.tapLoad (s : State) (ir : Nat) : State :=
  if s.tap then s.withTrc { s.trc with tapIr := ir, extest := false } else s

/-- Whether attempts are refused: boundary scan only, or 10 s after three failures. -/
def State.debugRefused (s : State) : Bool := s.debugCap == 0 || s.trc.lockUntil.any (fun t => decide (s.now < t))

/-- With DBGLOCK 0b00 a session needs no authentication and starts at level 3 (R348; log entry 48). -/
def State.debugOpen (s : State) : State :=
  if s.fld R.FUS_POLICY_DBGLOCK = 0 && s.trc.level = 0 then s.withTrc { s.trc with level := 3 } else s

/-- DBGAUTH_NONCE (R349 step 0): a fresh nonce, none without the DRBG. -/
def execDbgauthNonce (s : State) : Host.Outcome State Fault Refusal :=
  if !s.tap then .next s
  else
    let s := (s.tapLoad 8).debugOpen
    if s.debugRefused then .next s
    else
      match s.flag R.TRN_STAT_DRBG_OK, s.randNat 4 with
      | true, some (n, s) => .next (s.withTrc { s.trc with nonce := some (BitVec.ofNat 128 n) })
      | _, _ => .next (s.withTrc { s.trc with nonce := none })

/-- An authentication fails (R349): reported, and the third failure within 60 s refuses all attempts for 10 s. `err` 1 is
NORAND, 2 NOPKA, 3 neither. -/
def State.debugFails (s : State) (err : Nat) : State :=
  let times := s.now :: s.trc.dbgFails.filter (fun t => s.now < t + 60000000000)
  let s := s.withTrc { s.trc with attempt := none, nonce := none, dbgErr := err, dbgFails := times.take 3 }
  let s := s.report 18 0 0
  if 3 ≤ times.length then s.withTrc { s.trc with lockUntil := some (s.now + 10000000000) } else s

/-- The bytes of the debug key hash, FUS_DBGKEY0 [31:24] first (log entry 49). -/
def State.debugKey (s : State) : List Byte := (List.range 8).flatMap (fun i => beBytes 4 (s.regN (R.FUS_DBGKEY i)))

/-- DBGAUTH_ATTEMPT (R349 step 1): level, key and signature are shifted in, and the verification starts; each nonce serves one
attempt. -/
def execDbgauthAttempt (level : Byte) (qx qy r sg : BitVec 256) (s : State) : Host.Outcome State Fault Refusal :=
  if !s.tap || s.debugRefused || s.fld R.FUS_POLICY_DBGLOCK = 0 || s.trc.attempt.isSome then .next s
  else if !s.flag R.TRN_STAT_DRBG_OK then .next (s.debugFails 1)
  else if !s.live 10 then .next (s.debugFails 2)
  else
    let key := beBytes 32 qx.toNat ++ beBytes 32 qy.toNat
    let ok := match s.trc.nonce with
      | none => false
      | some n =>
        let e := beNat (sha256 (beBytes 16 n.toNat ++ s.uidBytes ++ [level]))
        sha256 key == s.debugKey && p256.on qx.toNat qy.toNat && p256.verify qx.toNat qy.toNat e r.toNat sg.toNat
    .next (s.withTrc { s.trc with nonce := none, attempt := some (level.toNat, ok) })

/-- DBGAUTH_DONE (R349 steps 2, 3): the session opens at the level asked for, capped, or the attempt fails. -/
def execDbgauthDone (s : State) : Host.Outcome State Fault Refusal :=
  match s.tap, s.trc.attempt with
  | true, some (l, ok) =>
    if !s.live 10 then .next (s.debugFails 2)
    else if !ok then .next (s.debugFails 3)
    else
      .next ((s.withTrc { s.trc with attempt := none, dbgErr := 0, level := min l s.debugCap }).raise 157)
  | _, _ => .next s

/-- DBGAUTH_LOCKOUT_END (R349): the 10 s end. -/
def execDbgauthLockoutEnd (s : State) : Host.Outcome State Fault Refusal :=
  match s.trc.lockUntil with
  | some t =>
    let s := s.advanceTo t
    .next (s.withTrc { s.trc with lockUntil := none })
  | none => .next s

/-- DBGEND (R350): the session ends. -/
def execDbgend (s : State) : Host.Outcome State Fault Refusal := .next (if s.tap then (s.tapLoad 0x0A).endDebug else s)

/-- TRST_N_LOW (R350): the session ends and the TAP is reset, IDCODE selected (log entry 50). -/
def execTrstNLow (s : State) : Host.Outcome State Fault Refusal := .next (if s.tap then (s.tapLoad 1).endDebug else s)

/-- DEBUG_HALT (R288, R293, R348, R350): a session of level 2 or 3 halts a thread in RUN or WAIT; E158. -/
def execDebugHalt (t : Fin 8) (s : State) : Host.Outcome State Fault Refusal :=
  let x := s.thr t.val
  if s.tap && 2 ≤ s.trc.level && s.coreUp (t.val / 4) && (x.run == 1 || x.run == 2) then
    .next (((s.wakeCore (t.val / 4) t.val).setRun t.val 3).raise 158)
  else .next s

/-- DBGACC (R348): an access through M6 with the rights of the session: at level 1 reads of TRC_ registers only, at level 2 with
Tenant rights, at level 3 with Warden rights. -/
def execDbgacc (addr : Word) (write : Bool) (data : Word) (s : State) : Host.Outcome State Fault Refusal :=
  if !s.tap then .next s
  else
    let s := (s.tapLoad 9).debugOpen
    let a := addr.toNat
    let l := s.trc.level
    let rid : Rid := if l = 3 then 0xC4 else 0xC0
    if 2 ≤ l || (l = 1 && !write && 0x40006000 ≤ a && a < 0x40007000) then
      if write then .next (s.write rid a data)
      else
        let s := s.read rid a
        .next (s.withTrc { s.trc with dbgData := s.answer.data })
    else .next s

/-! ### Boundary scan (R351, R352) -/

/-- IDCODE: the identity register is selected and captured. -/
def execIdcode (s : State) : Host.Outcome State Fault Refusal :=
  if s.tap then
    let s := s.tapLoad 1
    .next (s.withTrc { s.trc with
      dbgData := BitVec.ofNat 32 (2 ^ 28 + 0x6024 * 2 ^ 12 + s.fld R.FUS_MFR_MFR * 2 + 1) })
  else .next s

/-- SAMPLE_PRELOAD: the boundary-scan register takes its cells. -/
def execSamplePreload (cells : List Bool) (s : State) : Host.Outcome State Fault Refusal :=
  if s.tap then
    let s := s.tapLoad 2
    .next (s.withTrc { s.trc with boundary := cells })
  else .next s

/-- BYPASS, and every other code. -/
def execBypass (s : State) : Host.Outcome State Fault Refusal := .next (s.tapLoad 0x1F)

/-- EXTEST (R352): every domain but PD0 and PD23 is reset and held. -/
def execExtest (s : State) : Host.Outcome State Fault Refusal :=
  if !s.tap then .next s
  else
    let all := (List.range 23).filter (· != 0)
    let s := all.foldl State.resetDomain s
    .next ((s.withTrc { s.trc with tapIr := 3, extest := true }).withRst { s.rst with heldBy := all, boot := {} })

end Sys2Proof.Machine
end

