-- ==== Sys2Proof/Machine/Boot.lean ====
section
/-! DEFINITION. What the boot ROM does (R510 to R520): the sources of the boot policy, the checks of an image, the jump, and the
wait for an image over Niquevor. -/

namespace Sys2Proof.Machine

/-- The requester identity of T0 in Warden. -/
def ridRom : Rid := 0x04

/-- The ROM runs: T0 is in RUN at it, and no image has been accepted yet. -/
def State.romRuns (s : State) : Bool := s.rst.boot.active && s.live 3 && (s.thr 0).run == 1 && s.rst.boot.entry.isNone

/-- Change the state of the boot. -/
def State.modBoot (s : State) (f : BootSt → BootSt) : State := s.withRst { s.rst with boot := f s.rst.boot }

/-! ### An image (R512 to R514) -/

/-- The present source: 1 store, 2 SD, 3 Niquevor, 0 when none is left. -/
def State.bootSource (s : State) : Nat := s.rst.boot.sources.getD s.rst.boot.index 0

/-- The result of the present source is recorded (R515). -/
def State.bootResult (s : State) (code : Nat) : State :=
  s.setFld (if s.rst.boot.index = 0 then R.RST_BOOT_RESULT_A else R.RST_BOOT_RESULT_B) code

/-- The body length a header gives. -/
def bodyLen (h : List Byte) : Nat := leNat (slice h 8 4)

/-- The identifier and the fields of a header: 0 good, 1 NOIMAGE, 2 FORMAT (R512); the body is at most `most` long. -/
def headerCode (h : List Byte) (most : Nat) : Nat :=
  let u := fun (off n : Nat) => leNat (slice h off n)
  if u 0 4 ≠ 0x47544749 then 1
  else if u 4 4 ≠ 1 || bodyLen h < 4 || most < bodyLen h || bodyLen h % 4 ≠ 0 || u 12 4 % 4 ≠ 0 || bodyLen h ≤ u 12 4 ||
    (31 < u 16 2 && u 16 2 ≠ 0xFFFF) || u 18 2 ≠ 0 || u 152 104 ≠ 0 then 2
  else 0

/-- The longest body (R512), and in the store's boot region (R511). -/
def longestBody : Nat := 2080768

/-- The boot key hash, FUS_BOOTKEY0 [31:24] first (R513). -/
def State.bootKey (s : State) : List Byte := (List.range 8).flatMap (fun i => beBytes 4 (s.regN (R.FUS_BOOTKEY i)))

/-- Whether a boot key hash is programmed. -/
def State.keyed (s : State) : Bool := s.bootKey.any (· != 0)

/-- Key, signature and rollback of an image whose header is good: 0 good, 3 KEY, 4 SIGNATURE, 5 ROLLBACK (R513, R514). Without
PD10 the signature counts as not verified (log entry 51). -/
def State.imageCode (s : State) (h body : List Byte) : Nat :=
  let key := slice h 24 64
  let qx := beNat (slice h 24 32)
  let qy := beNat (slice h 56 32)
  let k := leNat (slice h 16 2)
  let rollback := if k ≠ 0xFFFF && leNat (slice h 20 4) < (tget 0 s.nvs.mc k).toNat then 5 else 0
  if !s.keyed then rollback
  else if !s.live 10 then 4
  else if sha256 key ≠ s.bootKey then 3
  else if p256.on qx qy && p256.verify qx qy (beNat (sha256 (h.take 88 ++ body))) (beNat (slice h 88 32)) (beNat (slice h 120 32))
    then rollback
  else 4

/-- An image passes: its entry point is kept. -/
def State.imageGood (s : State) (h : List Byte) : State :=
  s.modBoot (fun b => { b with entry := some (0x10000000 + leNat (slice h 12 4)) })

/-- An image with a good header is loaded and judged (R512 to R515). -/
def State.loadImage (s : State) (h body : List Byte) : Nat × State :=
  let w := s.memWrite ridRom 0x10000000 body
  if w.1 then (6, w.2) else (w.2.imageCode h body, w.2)

/-! ### Sources -/

/-- The ROM reads pages of the store one after another (R511): none when one fails. -/
def State.romPages : List Nat → State → Option (List Byte) × State
  | [], s => (some [], s)
  | p :: r, s =>
    let bytes := s.nvsPage p
    let bad := s.nvs.bad.contains p
    let s := s.nvsReadDone ⟨.firmware ridRom, .read p⟩ p
    if bad then (none, s)
    else
      let q := State.romPages r s
      (q.1.map (bytes ++ ·), q.2)

/-- The store boot region: the result, and the header. -/
def State.bootStore (s : State) : Nat × List Byte × State :=
  let f := State.romPages [16] s
  match f.1 with
  | none => (6, [], f.2)
  | some first =>
    let h := first.take 256
    let c := headerCode h 16128
    if c ≠ 0 then (c, h, f.2)
    else
      let more := (List.range ((256 + bodyLen h + 1023) / 1024 - 1)).map (17 + ·)
      let q := State.romPages more f.2
      match q.1 with
      | none => (6, h, q.2)
      | some rest =>
        let r := q.2.loadImage h (slice (first ++ rest) 256 (bodyLen h))
        (r.1, h, r.2)

/-- The SD card: `image` is what its blocks from 2048 on hold, `mediaErr` an error of the card or the interface. -/
def State.bootCard (s : State) (image : List Byte) (mediaErr : Bool) : Nat × List Byte × State :=
  if !s.isOn 22 then (6, [], s)
  else if !s.flag R.SDH_STAT_PRESENT then (1, [], s)
  else if mediaErr then (6, [], s)
  else
    let h := slice image 0 256
    let c := headerCode h longestBody
    if c ≠ 0 then (c, h, s)
    else
      let r := s.loadImage h (slice image 256 (bodyLen h))
      (r.1, h, r.2)

/-- The domains the ROM needs ON for a source (R510). -/
def sourceNeeds (src : Nat) : List Nat := if src = 2 then [10, 22] else [10]

/-- Whether a request to switch a domain on is still waited for. -/
def State.romWaits (s : State) (d : Nat) : Bool :=
  s.pwr.queue.any (fun r => r.domain == d && r.action == 1) ||
    s.pwr.active.any (fun w => w.req.domain == d && w.req.action == 1)

/-- BOOT_SOURCE_ATTEMPT (R510, R511, R515, R520): the ROM asks for the domains it needs; once that has ended it tries the present
source and records the result. Without its working memory its first access is a bus error at ML 7 (log entry 52). -/
def execBootSourceAttempt (image : List Byte) (mediaErr : Bool) (s : State) : Host.Outcome State Fault Refusal :=
  let src := s.bootSource
  if !s.romRuns || src = 0 || s.flag R.RST_BOOT_WAIT_NQ then .next s
  else if !s.live 6 then
    .next ((s.modBoot (fun b => { b with active := false })).doubleFault 0 5 (s.thr 0).pc 0x101FC000)
  else
    let ask := (sourceNeeds src).filter (fun d => !s.isOn d && !s.rst.boot.asked.contains d)
    if !ask.isEmpty then
      .next ((ask.foldl (fun (s : State) d => s.pwrRequest ⟨d, 1⟩) s).modBoot (fun b => { b with asked := b.asked ++ ask }))
    else if (sourceNeeds src).any s.romWaits then .next s
    else if src = 3 then
      .next ((s.setFld R.RST_BOOT_WAIT_NQ 1).modBoot (fun b => { b with waitFrom := s.now, received := none }))
    else
      let r := if src = 1 then s.bootStore else s.bootCard image mediaErr
      let s := r.2.2.bootResult r.1
      .next (if r.1 = 0 then s.imageGood r.2.1 else s.modBoot (fun b => { b with index := b.index + 1 }))

/-- BOOT_IMAGE_RECEIVED (R519, R520): the whole image has come over Niquevor, and the ROM checks it; when it fails, the ROM waits
on. -/
def execBootImageReceived (s : State) : Host.Outcome State Fault Refusal :=
  match s.romRuns && s.flag R.RST_BOOT_WAIT_NQ, s.rst.boot.received with
  | true, some total =>
    let f := s.memRead ridRom 0x101FC000 256
    let h := f.1.1
    let c := if f.1.2 then 6 else headerCode h longestBody
    let c := if c = 0 && total ≠ 256 + bodyLen h then 2 else c
    let r : Nat × State := if c ≠ 0 then (c, f.2)
      else
        let b := f.2.memRead ridRom 0x10000000 (bodyLen h)
        if b.1.2 then (6, b.2) else (b.2.imageCode h b.1.1, b.2)
    let s := r.2.bootResult r.1
    if r.1 = 0 then .next ((s.setFld R.RST_BOOT_WAIT_NQ 0).imageGood h)
    else .next (s.modBoot (fun b => { b with received := none, checked := true }))
  | _, _ => .next s

/-- NIQUEVOR_BOOT_TIMEOUT (R520): 600 s without a Segment start. -/
def execNiquevorBootTimeout (s : State) : Host.Outcome State Fault Refusal :=
  if s.romRuns && s.flag R.RST_BOOT_WAIT_NQ then
    let s := (s.advanceTo (s.rst.boot.waitFrom + 600000000000)).setFld R.RST_BOOT_WAIT_NQ 0
    let s := if s.rst.boot.checked then s else s.bootResult 1
    .next (s.modBoot (fun b => { b with index := b.index + 1, received := none }))
  else .next s

/-- BOOT_IMAGE_ACCEPTED (R515): the caches are cleaned and invalidated, PD22 goes off when the ROM switched it on, and T0 jumps
to the entry point. -/
def execBootImageAccepted (s : State) : Host.Outcome State Fault Refusal :=
  match s.rst.boot.active && s.live 3 && (s.thr 0).run == 1, s.rst.boot.entry with
  | true, some e =>
    let src := s.bootSource
    let off := s.rst.boot.asked.contains 22 && s.isOn 22
    let s := (s.drainCore 0).maintAll 0 .flush
    let s := s.modCore 0 (fun x => { x with icache := [] })
    let s := (s.setFld R.RST_BOOT_USED src).setFlag R.RST_BOOT_AUTH s.keyed
    let s := if off then s.pwrRequest ⟨22, 0⟩ else s
    let s := s.modThr 0 (fun x => { x with pc := BitVec.ofNat 32 e, warden := true, ml := 7, hx := false, evec := 0, wsp := 0 })
    .next (s.modBoot (fun _ => {}))
  | _, _ => .next s

/-- BOOT_FAIL (R516): the domains the ROM switched on go off, and T0 halts. -/
def execBootFail (s : State) : Host.Outcome State Fault Refusal :=
  if s.romRuns && s.bootSource = 0 then
    let offs := s.rst.boot.asked.reverse.filter (fun d => s.isOn d)
    let s := offs.foldl (fun (s : State) d => s.pwrRequest ⟨d, 0⟩) s
    .next ((s.setRun 0 3).modBoot (fun _ => {}))
  else .next s

end Sys2Proof.Machine
end

