-- ==== Sys2Proof/Machine/Receive.lean ====
section
/-! DEFINITION. Confirmation of what the lanes receive (R23 to R25, R190, R204): Ethernet frames at their FCS and Varlas
superframes at the next marker. -/

namespace Sys2Proof.Machine

/-- What the classifier counts once a frame is confirmed (R247): searches, hits, misses, false hits, and drops. -/
def State.clsConfirm (s : State) (port : Nat) (f : RxFrame) : State :=
  let s :=
    if !s.live 11 then s
    else
      let s := if f.wins.isEmpty then s else s.countWide R.CLS_SEARCH R.CLS_SEARCH_HI f.wins.length
      let s := f.wins.foldl (fun s w =>
        match w with
        | some e => s.count (C.CLS_HIT e)
        | none => s.count C.CLS_MISS) s
      let s := if f.falses = 0 then s else s.countN C.CLS_FALSE f.falses
      match f.drop with
      | 1 => s.count C.CLS_KEYDROP
      | 2 => s.count C.CLS_LOOP
      | 3 => s.count C.CLS_BADDEST
      | _ => s
  if f.drop = 4 then s.laneCount port (C.LNE_RXFAIL port) 1 else s

/-- A confirmed frame for the hardware responder joins the frames it holds, of which there are at most 8 (R34). -/
def State.nqArrive (s : State) : State :=
  if 8 ≤ s.nq.waiting then s.setFld R.NQ_STAT_RX_OVF 1 else s.withNq { s.nq with waiting := s.nq.waiting + 1 }

/-- A confirmed frame reaches its destination (R25, R245). -/
def State.frameDeliver (s : State) (port : Nat) (f : RxFrame) : State :=
  match f.dest with
  | 1 =>
    match f.cont with
    | some c => s.unitEnd c true
    | none => s
  | 2 =>
    if s.live 1 then
      let w0 := b2n (!s.calDone port) * 2 ^ 30 + port * 2 ^ 20 + f.bytes.length % 2048
      s.withCal { s.cal with ptpRxWait := s.cal.ptpRxWait ++ [(BitVec.ofNat 32 w0, f.sec, BitVec.ofNat 32 f.stamp, f.bytes)] }
    else s
  | 4 => if s.live 12 then s.hvsFrame port (f.arg % 8) f.bytes (f.stamp / 4) else s
  | 5 => if s.live 11 then s.fqPut port f else s
  | 6 => s.nqArrive
  | _ => s

/-- The frame a port received ends, confirmed or failed. -/
def State.frameEnd (s : State) (port : Nat) (ok : Bool) : State :=
  match (s.lane port).rx with
  | none => s
  | some f =>
    let s := s.modLane port (fun l => { l with rx := none })
    let good := ok && !f.bad
    let s := match f.engine with
      | some n => if s.flag (R.AUT_ECFG_CLS n) then s.engOutcome n good else s
      | none => s
    if good then (s.clsConfirm port f).frameDeliver port f
    else
      match f.cont with
      | some c => s.unitEnd c false
      | none => s

/-- A frame that is forwarded from lane to lane leaves with its residence time added; one that failed ends in a Bittern code
(R112). What forwards a frame the spec does not say: the command names the egress lane and stamp (log entry 28). -/
def State.forward (s : State) (f : RxFrame) (e : Egress) (ok : Bool) : State :=
  let n := e.lane.val
  if !s.laneSends n || s.varlas n then s
  else if !ok then s.modLane n (fun l => { l with bittern := true })
  else
    let r := s.residence n f.bytes f.sec f.stamp e.sec.toNat e.stamp.toNat (s.laneProt n 1)
    r.2.lineSend n r.1

/-- ETHERNET_FRAME_RECEIVED (R190, R191, R207, R247): the frame being received on a port reaches its FCS, with the RS-FEC
codewords corrected and not correctable since the last one. -/
def execEthernetFrameReceived (port : Fin 25) (fcs bittern : Bool) (cor unc : Byte) (fwd : Option Egress) (s : State) :
    Host.Outcome State Fault Refusal :=
  let p := port.val
  if p = 24 then .next (if s.vigil then s.frameEnd p (fcs && !bittern) else s)
  else if !s.receives p || s.varlas p || !s.flag (R.LNE_STAT_BLOCK_LOCK p) then .next s
  else
    let s := if s.laneMode p = 1 then
        (s.laneCount p (C.LNE_FECCOR p) cor.toNat).laneCount p (C.LNE_FECUNC p) unc.toNat
      else s
    let f := (s.lane p).rx
    let ok := fcs && !bittern && !((f.map (·.bad)).getD false)
    let s := if ok then s.laneCount p (C.LNE_RXUNIT p) 1 else s.laneCount p (C.LNE_RXFAIL p) 1
    let s := if bittern then s.laneCount p (C.LNE_RXBTN p) 1 else s
    let s := s.frameEnd p (fcs && !bittern)
    .next (match f, fwd with
      | some f, some e => s.forward f e ok
      | _, _ => s)

/-- SUPERFRAME_RECEIVED (R204, R207, R276): at the next marker every container's unit of the superframe is confirmed or fails. -/
def execSuperframeReceived (n : Fin 24) (sf : Superframe) (s : State) : Host.Outcome State Fault Refusal :=
  let k := n.val
  if !s.receives k || !s.varlas k || !s.flag (R.LNE_STAT_SF_LOCK k) then .next s
  else
    let v := s.varlasVerify k sf.epoch sf.count.toNat sf.tagOk
    let s := v.2.laneCount k (C.LNE_SYNCERR k) sf.syncErrs
    let ok := sf.syncErrs = 0 && !sf.control && sf.crcOk && sf.markerOk && v.1
    let s := ((List.range 64).filter (fun c => (s.contCfg k 0 c).en)).foldl (fun s c =>
      let btn := sf.bittern.any (fun b => b.val == c)
      let good := ok && !btn
      let s := s.laneCount k (if good then C.LNE_RXUNIT k else C.LNE_RXFAIL k) 1
      let s := if btn then s.laneCount k (C.LNE_RXBTN k) 1 else s
      s.unitEnd (64 * k + c) good) s
    let s := s.hvsUnits k ok
    .next (if sf.markerOk then
        s.modLane k (fun l => { l with badRun := 0, expCount := (l.expCount + 1) % s.epochLen k })
      else s)

end Sys2Proof.Machine
end

