-- ==== Sys2Proof/Machine/Operands.lean ====
section
/-! DEFINITION. The operand forms of the commands that are register accesses: the word a row writes when its operands name a
field, a mask or a shadow pair. -/

namespace Sys2Proof.Machine

/-! ### Words to write -/

/-- The present value of the RW, RWV and RWL fields of a register: what a write that changes nothing carries. -/
def State.rwPart (s : State) (a : Nat) : Nat :=
  match regDescAt a with
  | some (_, r) => s.regN a &&& r.maskOf (fun c => c == .rw || c == .rwv || c == .rwl)
  | none => 0

/-- A write of one field, the RW fields of its register kept. -/
def State.writeFld (s : State) (rid : Rid) (f : Fld) (v : Nat) : State :=
  s.write rid f.addr (BitVec.ofNat 32 (nput (s.rwPart f.addr) f.hi f.lo v))

/-- A write of one field of a masked-class register (R69). -/
def State.maskFld (s : State) (rid : Rid) (f : Fld) (v : Nat) : State :=
  s.write rid f.addr (BitVec.ofNat 32 ((2 ^ (f.hi + 1) - 2 ^ f.lo) * 2 ^ 16 + v % 2 ^ (f.hi + 1 - f.lo) * 2 ^ f.lo))

/-- A write of all 16 bits of a masked-class register. -/
def State.maskAll (s : State) (rid : Rid) (a v : Nat) : State := s.write rid a (BitVec.ofNat 32 (0xFFFF0000 + v % 2 ^ 16))

/-- A write of a number to a register. -/
def State.writeN (s : State) (rid : Rid) (a v : Nat) : State := s.write rid a (BitVec.ofNat 32 v)

/-- A shadow pair: the value, then its complement at the shadow port (R80). -/
def State.writePair (s : State) (rid : Rid) (a : Nat) (v : Word) : State := (s.write rid a v).write rid (a + 0x200) (~~~v)

end Sys2Proof.Machine
end

