-- ==== Sys2Proof/Machine/Requests.lean ====
section
/-! DEFINITION. The rows that are one register access of a requester, or two: starts, requests, enables and reads of the
blocks' own registers. Each reads or writes through the interconnect; what the access does stands with its block. -/

namespace Sys2Proof.Machine

/-! ### Niquevor, Calends, PTP, holdover (chapters 02, 04, 05) -/

/-- DELEGATION_ANSWER (R57): NQ_DLG_TAIL is advanced. -/
def execDelegationAnswer (rid : Rid) (tail : BitVec 3) (s : State) : Host.Outcome State Fault Refusal :=
  .next (s.writeN rid R.NQ_DLG_TAIL tail.toNat)

/-- CAL_NS_READ (R90, R94): a read of CAL_NS. -/
def execCalNsRead (rid : Rid) (s : State) : Host.Outcome State Fault Refusal := .next (s.read rid R.CAL_NS)

/-- STEP_IMMEDIATE (R97): CAL_STEP with mode 0b00 and GO. -/
def execStepImmediate (rid : Rid) (s : State) : Host.Outcome State Fault Refusal := .next (s.writeN rid R.CAL_STEP 1)

/-- STEP_AT_ROLLOVER (R97): CAL_STEP with mode 0b01 and GO. -/
def execStepAtRollover (rid : Rid) (s : State) : Host.Outcome State Fault Refusal := .next (s.writeN rid R.CAL_STEP 3)

/-- STEP_RELATIVE (R97): CAL_STEP with mode 0b10 and GO. -/
def execStepRelative (rid : Rid) (s : State) : Host.Outcome State Fault Refusal := .next (s.writeN rid R.CAL_STEP 5)

/-- TDC_READ (R101): a read of CAL_TDCn_NS. -/
def execTdcRead (rid : Rid) (n : Fin 8) (s : State) : Host.Outcome State Fault Refusal := .next (s.read rid (R.CAL_TDC_NS n.val))

/-- PTP_ENABLE (R107): PTP_CTRL.EN is written as 1. -/
def execPtpEnable (rid : Rid) (s : State) : Host.Outcome State Fault Refusal := .next (s.writeFld rid R.PTP_CTRL_EN 1)

/-- PTP_TX_HEAD_ADVANCE (R109): PTP_TXHEAD is written. -/
def execPtpTxHeadAdvance (rid : Rid) (data : Word) (s : State) : Host.Outcome State Fault Refusal :=
  .next (s.write rid R.PTP_TXHEAD data)

/-- S8_UPDATE (R114): CAL_PTPOFS is written. -/
def execS8Update (rid : Rid) (data : Word) (s : State) : Host.Outcome State Fault Refusal := .next (s.write rid R.CAL_PTPOFS data)

/-- CLEAR_ALMANAC (R145): HLD_ALM_CTRL.CLEAR through its shadow pair. -/
def execClearAlmanac (rid : Rid) (s : State) : Host.Outcome State Fault Refusal := .next (s.writePair rid R.HLD_ALM_CTRL 1)

/-- DAC_CODE_WRITE (R148): HLD_DACn_CODE is written. -/
def execDacCodeWrite (rid : Rid) (n : Fin 2) (data : Word) (s : State) : Host.Outcome State Fault Refusal :=
  .next (s.write rid (R.HLD_DAC_CODE n.val) data)

/-- DAC_RANGE_CHANGE (R150): HLD_DACn_CFG is written; `efc` says whether VDD_EFC is present. -/
def execDacRangeChange (rid : Rid) (n : Fin 2) (data : Word) (efc : Bool) (s : State) : Host.Outcome State Fault Refusal :=
  .next ((s.withHld { s.hld with efc := efc }).write rid (R.HLD_DAC_CFG n.val) data)

/-! ### Saltern (chapter 06) -/

/-- EVE_WRITE (R157): a word of the Eve window is written. -/
def execEveWrite (rid : Rid) (off : Fin 12288) (data : Word) (s : State) : Host.Outcome State Fault Refusal :=
  .next (s.write rid (R.MTX_EVE off.val) data)

/-- COPY (R158): MTX_COMMIT.COPY. -/
def execCopy (rid : Rid) (s : State) : Host.Outcome State Fault Refusal := .next (s.writeFld rid R.MTX_COMMIT_COPY 1)

/-- DAY_READ_SELECT (R159): MTX_DAYRD_SEL is written. -/
def execDayReadSelect (rid : Rid) (data : Word) (s : State) : Host.Outcome State Fault Refusal :=
  .next (s.write rid R.MTX_DAYRD_SEL data)

/-- COMMIT_GO (R168): MTX_COMMIT is written with GO. -/
def execCommitGo (rid : Rid) (data : Word) (s : State) : Host.Outcome State Fault Refusal :=
  .next (s.write rid R.MTX_COMMIT (data ||| 1))

/-- COMMIT_ABORT (R171): MTX_COMMIT.ABORT. -/
def execCommitAbort (rid : Rid) (s : State) : Host.Outcome State Fault Refusal := .next (s.writeFld rid R.MTX_COMMIT_ABORT 1)

/-- CAPTURE_GO (R187): MTX_CAP_CTRL is written with GO. -/
def execCaptureGo (rid : Rid) (data : Word) (s : State) : Host.Outcome State Fault Refusal :=
  .next (s.write rid R.MTX_CAP_CTRL (data ||| 0x80000000))

/-! ### Lanes (chapter 07) -/

/-- LANE_ENABLE (R193): LNE_CTRL.EN is set. -/
def execLaneEnable (rid : Rid) (n : Fin 24) (s : State) : Host.Outcome State Fault Refusal :=
  .next (s.maskFld rid (R.LNE_CTRL_EN n.val) 1)

/-- LANE_DISABLE (R193): LNE_CTRL.EN is cleared. -/
def execLaneDisable (rid : Rid) (n : Fin 24) (s : State) : Host.Outcome State Fault Refusal :=
  .next (s.maskFld rid (R.LNE_CTRL_EN n.val) 0)

/-- REPHASE (R202): LNE_CTRL.REPHASE. -/
def execRephase (rid : Rid) (n : Fin 24) (s : State) : Host.Outcome State Fault Refusal :=
  .next (s.maskFld rid (R.LNE_CTRL_REPHASE n.val) 1)

/-- CONTAINER_ENABLE (R214): the container is selected through LNE_CSEL and LNE_CFMT.EN is set. -/
def execContainerEnable (rid : Rid) (n : Fin 24) (dir : Bool) (c : Fin 64) (s : State) : Host.Outcome State Fault Refusal :=
  .next ((s.maskAll rid (R.LNE_CSEL n.val) (b2n dir * 2 ^ 15 + c.val)).maskFld rid (R.LNE_CFMT_EN n.val) 1)

/-! ### Rate conversion and Harvest (chapter 08) -/

/-- CONVERTER_COMMIT_REQUEST (R225): SRC_CMT.REQ. -/
def execConverterCommitRequest (rid : Rid) (s : State) : Host.Outcome State Fault Refusal := .next (s.writeFld rid R.SRC_CMT_REQ 1)

/-- CONVERTER_FORCED_COMMIT (R226): SRC_CMT.FORCE. -/
def execConverterForcedCommit (rid : Rid) (s : State) : Host.Outcome State Fault Refusal :=
  .next (s.writeFld rid R.SRC_CMT_FORCE 1)

/-- CONVERTER_TEST_GO (R229): SRC_TEST_CTRL.GO. -/
def execConverterTestGo (rid : Rid) (s : State) : Host.Outcome State Fault Refusal := .next (s.writeFld rid R.SRC_TEST_CTRL_GO 1)

/-- HARVEST_SLOT_ENABLE (R231): word 0 of a slot is written with EN. -/
def execHarvestSlotEnable (rid : Rid) (n : Fin 384) (data : Word) (s : State) : Host.Outcome State Fault Refusal :=
  .next (s.write rid (R.HVS_SLOT0 n.val) (data ||| 0x80000000))

/-- HARVEST_SLOT_DISABLE (R237): EN of a slot is cleared. -/
def execHarvestSlotDisable (rid : Rid) (n : Fin 384) (s : State) : Host.Outcome State Fault Refusal :=
  .next (s.writeFld rid (R.HVS_SLOT0_EN n.val) 0)

/-! ### Classifier and automata (chapter 09) -/

/-- ENTRY_READ (R250): command READ. -/
def execEntryRead (rid : Rid) (s : State) : Host.Outcome State Fault Refusal := .next (s.writeN rid R.CLS_ECMD 1)

/-- ENTRY_WRITE (R250): command WRITE. -/
def execEntryWrite (rid : Rid) (s : State) : Host.Outcome State Fault Refusal := .next (s.writeN rid R.CLS_ECMD 2)

/-- ENTRY_INVALIDATE (R250): command INVALIDATE. -/
def execEntryInvalidate (rid : Rid) (s : State) : Host.Outcome State Fault Refusal := .next (s.writeN rid R.CLS_ECMD 3)

/-- ENTRY_VALIDATE (R250): command VALIDATE. -/
def execEntryValidate (rid : Rid) (s : State) : Host.Outcome State Fault Refusal := .next (s.writeN rid R.CLS_ECMD 4)

/-- REPORT_READ (R259): a read of AUT_RPT0 of an engine. -/
def execReportRead (rid : Rid) (n : Fin 8) (s : State) : Host.Outcome State Fault Refusal := .next (s.read rid (R.AUT_RPT0 n.val))

/-- ENGINE_COMMIT_REQUEST (R261): AUT_CMT.REQ of an engine. -/
def execEngineCommitRequest (rid : Rid) (n : Fin 8) (s : State) : Host.Outcome State Fault Refusal :=
  .next (s.writeFld rid (R.AUT_CMT_REQ n.val) 1)

/-- ENGINE_FORCED_COMMIT (R262): AUT_CMT.FORCE of an engine. -/
def execEngineForcedCommit (rid : Rid) (n : Fin 8) (s : State) : Host.Outcome State Fault Refusal :=
  .next (s.writeFld rid (R.AUT_CMT_FORCE n.val) 1)

/-! ### Line cipher and PKA (chapter 10) -/

/-- LANE_PROTECT_CONFIG (R264): CIP_LANEn_CFG is written. -/
def execLaneProtectConfig (rid : Rid) (n : Fin 24) (data : Word) (s : State) : Host.Outcome State Fault Refusal :=
  .next (s.write rid (R.CIP_LANE_CFG n.val) data)

/-- SA_ENABLE (R281): word 0 of a secure association is written with EN. -/
def execSaEnable (rid : Rid) (n : Fin 400) (data : Word) (s : State) : Host.Outcome State Fault Refusal :=
  .next (s.write rid (R.CIP_SA0 n.val) (data ||| 0x80000000))

/-- A key-page command (R280). -/
def keyCmd (cmd : Nat) (page : Fin 32) : Nat := cmd * 2 ^ 29 + page.val

/-- CLAIM (R280). -/
def execClaim (rid : Rid) (page : Fin 32) (s : State) : Host.Outcome State Fault Refusal :=
  .next (s.writeN rid R.PKA_KPCMD (keyCmd 1 page))

/-- LOAD (R280). -/
def execLoad (rid : Rid) (page : Fin 32) (s : State) : Host.Outcome State Fault Refusal :=
  .next (s.writeN rid R.PKA_KPCMD (keyCmd 2 page))

/-- RELEASE (R280). -/
def execRelease (rid : Rid) (page : Fin 32) (s : State) : Host.Outcome State Fault Refusal :=
  .next (s.writeN rid R.PKA_KPCMD (keyCmd 3 page))

/-- WIPE (R280). -/
def execWipe (rid : Rid) (page : Fin 32) (s : State) : Host.Outcome State Fault Refusal :=
  .next (s.writeN rid R.PKA_KPCMD (keyCmd 4 page))

/-- PKA_CMD with GO and an operation, the other fields from `data`. -/
def pkaGo (op : Nat) (data : Word) : Nat := 2 ^ 31 + nput (data.toNat % 2 ^ 31) 3 0 op

/-- ECDSA_SIGN (R285): OP 0x1. -/
def execEcdsaSign (rid : Rid) (data : Word) (s : State) : Host.Outcome State Fault Refusal :=
  .next (s.writeN rid R.PKA_CMD (pkaGo 1 data))

/-- ECDSA_VERIFY (R285): OP 0x2. -/
def execEcdsaVerify (rid : Rid) (data : Word) (s : State) : Host.Outcome State Fault Refusal :=
  .next (s.writeN rid R.PKA_CMD (pkaGo 2 data))

/-- ECDH (R285): OP 0x3. -/
def execEcdh (rid : Rid) (data : Word) (s : State) : Host.Outcome State Fault Refusal :=
  .next (s.writeN rid R.PKA_CMD (pkaGo 3 data))

/-- KEY_GENERATION (R285): OP 0x4. -/
def execKeyGeneration (rid : Rid) (data : Word) (s : State) : Host.Outcome State Fault Refusal :=
  .next (s.writeN rid R.PKA_CMD (pkaGo 4 data))

/-- SHA_HASH (R286): OP 0x8, 0x9 or 0xA; another OP of `data` stands for 0x8. -/
def execShaHash (rid : Rid) (data : Word) (s : State) : Host.Outcome State Fault Refusal :=
  let op := nbits data.toNat 3 0
  .next (s.writeN rid R.PKA_CMD (pkaGo (if op = 9 ∨ op = 10 then op else 8) data))

/-! ### Haerzer and events (chapters 11 to 13) -/

/-- THREAD_START (R291): HZ_Tn_CTRL.START. -/
def execThreadStart (rid : Rid) (t : Fin 8) (s : State) : Host.Outcome State Fault Refusal :=
  .next (s.writeFld rid (R.HZ_TCTRL_START t.val) 1)

/-- THREAD_STOP (R292): HZ_Tn_CTRL.STOP. -/
def execThreadStop (rid : Rid) (t : Fin 8) (s : State) : Host.Outcome State Fault Refusal :=
  .next (s.writeFld rid (R.HZ_TCTRL_STOP t.val) 1)

/-- SIGNAL_WRITE (R308): HZ_Tn_SIG is written. -/
def execSignalWrite (rid : Rid) (t : Fin 8) (data : Word) (s : State) : Host.Outcome State Fault Refusal :=
  .next (s.write rid (R.HZ_TSIG t.val) data)

/-- SOFTWARE_EVENT (R337): EVT_SWSET is written. -/
def execSoftwareEvent (rid : Rid) (data : Word) (s : State) : Host.Outcome State Fault Refusal := .next (s.write rid R.EVT_SWSET data)

/-- TRACE_CLEAR (R343): TRC_CTRL.CLEAR. -/
def execTraceClear (rid : Rid) (s : State) : Host.Outcome State Fault Refusal := .next (s.writeFld rid R.TRC_CTRL_CLEAR 1)

/-! ### Entropy, store, fuses, tamper (chapters 15, 16) -/

/-- ENTROPY_RETRY (R376): TRN_CTRL.RETRY. -/
def execEntropyRetry (rid : Rid) (s : State) : Host.Outcome State Fault Refusal := .next (s.writeFld rid R.TRN_CTRL_RETRY 1)

/-- TRN_RAND_READ (R380): a read of TRN_RAND. -/
def execTrnRandRead (rid : Rid) (s : State) : Host.Outcome State Fault Refusal := .next (s.read rid R.TRN_RAND)

/-- TRN_RAW_READ (R381): a read of TRN_RAW; `raw` is the 16 samples and test results the taps hold then. -/
def execTrnRawRead (rid : Rid) (raw : BitVec 18) (s : State) : Host.Outcome State Fault Refusal :=
  .next ((s.withTrn { s.trn with raw := s.trn.raw ++ [raw.zeroExtend 19] }).read rid R.TRN_RAW)

/-- NVS_CMD with an operation (R384). -/
def nvsCmd (op : Nat) (page : Byte) : Nat := op * 2 ^ 29 + page.toNat

/-- NVS_READ (R384). -/
def execNvsRead (rid : Rid) (page : Byte) (s : State) : Host.Outcome State Fault Refusal :=
  .next (s.writeN rid R.NVS_CMD (nvsCmd 1 page))

/-- NVS_WRITE (R384). -/
def execNvsWrite (rid : Rid) (page : Byte) (s : State) : Host.Outcome State Fault Refusal :=
  .next (s.writeN rid R.NVS_CMD (nvsCmd 2 page))

/-- INC (R393). -/
def execInc (rid : Rid) (page : Byte) (s : State) : Host.Outcome State Fault Refusal :=
  .next (s.writeN rid R.NVS_CMD (nvsCmd 3 page))

/-- ROLEKEY (R392). -/
def execRolekey (rid : Rid) (page : Byte) (s : State) : Host.Outcome State Fault Refusal :=
  .next (s.writeN rid R.NVS_CMD (nvsCmd 4 page))

/-- NVS_BUFDATA_ACCESS (R384). -/
def execNvsBufdataAccess (rid : Rid) (write : Bool) (data : Word) (s : State) : Host.Outcome State Fault Refusal :=
  .next (if write then s.write rid R.NVS_BUFDATA data else s.read rid R.NVS_BUFDATA)

/-- FUSE_PROGRAM (R396): FUS_PGM is written. -/
def execFuseProgram (rid : Rid) (data : Word) (s : State) : Host.Outcome State Fault Refusal := .next (s.write rid R.FUS_PGM data)

/-- CLEAR_LOG (R406): TMP_LOGCLR.CLEAR through its shadow pair. -/
def execClearLog (rid : Rid) (s : State) : Host.Outcome State Fault Refusal := .next (s.writePair rid R.TMP_LOGCLR 1)

/-! ### Housekeeping and DRAM (chapters 17, 18) -/

/-- HK_ENABLE (R411): HK_CTRL is written whole, its fields from `data`. -/
def execHkEnable (rid : Rid) (data : Word) (s : State) : Host.Outcome State Fault Refusal :=
  .next (s.maskAll rid R.HK_CTRL data.toNat)

/-- HK_PERIOD_WRITE (R412): HK_PERIOD is written. -/
def execHkPeriodWrite (rid : Rid) (data : Word) (s : State) : Host.Outcome State Fault Refusal :=
  .next (s.maskAll rid R.HK_PERIOD data.toNat)

/-- FOREGROUND_GO (R419): HK_FG is written with GO and the channel of `data`. -/
def execForegroundGo (rid : Rid) (data : Word) (s : State) : Host.Outcome State Fault Refusal :=
  .next (s.writeN rid R.HK_FG (0x801F8000 + data.toNat % 32))

/-- DRAM_INIT (R437): DMC_CTRL.INIT. -/
def execDramInit (rid : Rid) (s : State) : Host.Outcome State Fault Refusal := .next (s.writeFld rid R.DMC_CTRL_INIT 1)

/-- UNFREEZE (R453): DMC_UNFREEZE is written. -/
def execUnfreeze (rid : Rid) (data : Word) (s : State) : Host.Outcome State Fault Refusal := .next (s.write rid R.DMC_UNFREEZE data)

/-- APERTURE_WRITE (R434): DMC_APERTURE is written. -/
def execApertureWrite (rid : Rid) (data : Word) (s : State) : Host.Outcome State Fault Refusal :=
  .next (s.write rid R.DMC_APERTURE data)

/-! ### Cards (chapter 19) -/

/-- ACT (R458). -/
def execAct (rid : Rid) (s : State) : Host.Outcome State Fault Refusal := .next (s.maskFld rid R.IDC_CTRL_ACT 1)

/-- IDC_GO (R462). -/
def execIdcGo (rid : Rid) (s : State) : Host.Outcome State Fault Refusal := .next (s.maskFld rid R.IDC_CTRL_GO 1)

/-- DEACT (R467). -/
def execDeact (rid : Rid) (s : State) : Host.Outcome State Fault Refusal := .next (s.maskFld rid R.IDC_CTRL_DEACT 1)

/-- WARM (R467). -/
def execWarm (rid : Rid) (s : State) : Host.Outcome State Fault Refusal := .next (s.maskFld rid R.IDC_CTRL_WARM 1)

/-- SD_INIT (R470). -/
def execSdInit (rid : Rid) (s : State) : Host.Outcome State Fault Refusal := .next (s.maskFld rid R.SDH_CTRL_INIT 1)

/-- TUNE (R471): SDH_CTRL.TUNE, and what tuning finds: a window with its centre, or none. -/
def execTune (rid : Rid) (ok : Bool) (phase : BitVec 5) (s : State) : Host.Outcome State Fault Refusal :=
  .next ((s.maskFld rid R.SDH_CTRL_TUNE 1).sdTuned ok phase.toNat)

/-- SDH_OP.OP is written, then SDH_CTRL.GO. -/
def State.sdStart (s : State) (rid : Rid) (op : Nat) : State :=
  (s.maskFld rid R.SDH_OP_OP op).maskFld rid R.SDH_CTRL_GO 1

/-- SD_READ (R473). -/
def execSdRead (rid : Rid) (s : State) : Host.Outcome State Fault Refusal := .next (s.sdStart rid 1)

/-- SD_WRITE (R473). -/
def execSdWrite (rid : Rid) (s : State) : Host.Outcome State Fault Refusal := .next (s.sdStart rid 2)

/-- SD_CMD (R473): the command and response type are those of `data`; `reply` is how the card answers. -/
def execSdCmd (rid : Rid) (data : Word) (reply : SdReply) (s : State) : Host.Outcome State Fault Refusal :=
  let t := (s.maskAll rid R.SDH_OP (0x3000 + data.toNat % 2 ^ 12)).maskFld rid R.SDH_CTRL_GO 1
  .next (if s.sdh.op = 0 then t.sdReply reply else t)

/-- SD_STOP (R475). -/
def execSdStop (rid : Rid) (s : State) : Host.Outcome State Fault Refusal := .next (s.maskFld rid R.SDH_CTRL_STOP 1)

/-- PWROFF (R477). -/
def execPwroff (rid : Rid) (s : State) : Host.Outcome State Fault Refusal := .next (s.maskFld rid R.SDH_CTRL_PWROFF 1)

/-- A password operation that the card answers. -/
def State.sdPassword (s : State) (rid : Rid) (op : Nat) (reply : SdReply) : State :=
  let t := s.sdStart rid op
  if s.sdh.op = 0 then t.sdReply reply else t

/-- SETPWD (R476). -/
def execSetpwd (rid : Rid) (reply : SdReply) (s : State) : Host.Outcome State Fault Refusal := .next (s.sdPassword rid 4 reply)

/-- CLRPWD (R476). -/
def execClrpwd (rid : Rid) (reply : SdReply) (s : State) : Host.Outcome State Fault Refusal := .next (s.sdPassword rid 5 reply)

/-- LOCK (R476). -/
def execLockCard (rid : Rid) (reply : SdReply) (s : State) : Host.Outcome State Fault Refusal := .next (s.sdPassword rid 6 reply)

/-- UNLOCK (R476): `nego` is what the steps of R470 that follow find. -/
def execUnlock (rid : Rid) (reply : SdReply) (nego : SdInitResult) (s : State) : Host.Outcome State Fault Refusal :=
  let t := s.sdStart rid 7
  .next (if s.sdh.op = 0 then t.sdUnlock reply nego else t)

/-- FORCE_ERASE (R476). -/
def execForceErase (rid : Rid) (reply : SdReply) (nego : SdInitResult) (s : State) : Host.Outcome State Fault Refusal :=
  let t := s.sdStart rid 8
  .next (if s.sdh.op = 0 then t.sdUnlock reply nego else t)

/-! ### Power and reset (chapters 20, 21) -/

/-- PWR_REQ_OFF (R482). -/
def execPwrReqOff (rid : Rid) (d : Fin 32) (s : State) : Host.Outcome State Fault Refusal := .next (s.writeN rid R.PWR_REQ d.val)

/-- PWR_REQ_ON (R482). -/
def execPwrReqOn (rid : Rid) (d : Fin 32) (s : State) : Host.Outcome State Fault Refusal :=
  .next (s.writeN rid R.PWR_REQ (0x100 + d.val))

/-- PWR_REQ_RET (R482). -/
def execPwrReqRet (rid : Rid) (d : Fin 32) (s : State) : Host.Outcome State Fault Refusal :=
  .next (s.writeN rid R.PWR_REQ (0x200 + d.val))

/-- SOFT_RESET (R500): the key is written to RST_SYSRST. -/
def execSoftReset (rid : Rid) (s : State) : Host.Outcome State Fault Refusal := .next (s.writeN rid R.RST_SYSRST 0xA5A50001)

/-- WATCHDOG_ENABLE (R505): RST_WDOG_CFG.EN. -/
def execWatchdogEnable (rid : Rid) (s : State) : Host.Outcome State Fault Refusal := .next (s.writeFld rid R.RST_WDOG_CFG_EN 1)

/-- WATCHDOG_KICK (R505): the key is written to RST_WDOG_KICK. -/
def execWatchdogKick (rid : Rid) (s : State) : Host.Outcome State Fault Refusal := .next (s.writeN rid R.RST_WDOG_KICK 0x4B49434B)

/-- REMAP_WRITE (R518): RST_REMAP is written. -/
def execRemapWrite (rid : Rid) (data : Word) (s : State) : Host.Outcome State Fault Refusal := .next (s.write rid R.RST_REMAP data)

end Sys2Proof.Machine
end

