-- ==== Sys2Proof/Machine/Dispatch.lean ====
section
/-! DEFINITION. Dispatch of a command to its meaning, one arm per constructor. -/
namespace Sys2Proof.Machine

/-- One command's effect: every arm is one direct call of that command's meaning. -/
def exec (i : Instr) (s : State) : Host.Outcome State Fault Refusal :=
  match i with
  | .read port frame => Sys2Proof.Machine.execRead port frame s
  | .write port frame => Sys2Proof.Machine.execWrite port frame s
  | .segmentStart port frame => Sys2Proof.Machine.execSegmentStart port frame s
  | .segment port frame => Sys2Proof.Machine.execSegment port frame s
  | .sessionOpen port frame => Sys2Proof.Machine.execSessionOpen port frame s
  | .answer port frame => Sys2Proof.Machine.execAnswer port frame s
  | .close port frame => Sys2Proof.Machine.execClose port frame s
  | .abort port frame => Sys2Proof.Machine.execAbort port frame s
  | .segmentGapTimeout port session => Sys2Proof.Machine.execSegmentGapTimeout port session s
  | .sessionIdleLimit session => Sys2Proof.Machine.execSessionIdleLimit session s
  | .sessionOpenLockoutEnd port => Sys2Proof.Machine.execSessionOpenLockoutEnd port s
  | .transmitOpportunity => Sys2Proof.Machine.execTransmitOpportunity s
  | .bulletinDue n => Sys2Proof.Machine.execBulletinDue n s
  | .savePersistent session => Sys2Proof.Machine.execSavePersistent session s
  | .restoreDefaults session => Sys2Proof.Machine.execRestoreDefaults session s
  | .delegationAnswer rid tail => Sys2Proof.Machine.execDelegationAnswer rid tail s
  | .delegationTimeout => Sys2Proof.Machine.execDelegationTimeout s
  | .roleKeyWrite session role key => Sys2Proof.Machine.execRoleKeyWrite session role key s
  | .eveImageWrite session data => Sys2Proof.Machine.execEveImageWrite session data s
  | .eveImageCopyDone => Sys2Proof.Machine.execEveImageCopyDone s
  | .commitRequestObject session data => Sys2Proof.Machine.execCommitRequestObject session data s
  | .unfreezeObject session data => Sys2Proof.Machine.execUnfreezeObject session data s
  | .aliasWrite rid addr data => Sys2Proof.Machine.execAliasWrite rid addr data s
  | .maskedWrite rid addr data => Sys2Proof.Machine.execMaskedWrite rid addr data s
  | .registerWrite rid addr data => Sys2Proof.Machine.execRegisterWrite rid addr data s
  | .rcRead rid addr => Sys2Proof.Machine.execRcRead rid addr s
  | .counterLowWordRead rid addr => Sys2Proof.Machine.execCounterLowWordRead rid addr s
  | .stagedCounterLoad rid addr data => Sys2Proof.Machine.execStagedCounterLoad rid addr data s
  | .decodeError rid addr write size => Sys2Proof.Machine.execDecodeError rid addr write size s
  | .unavailableBlockAccess rid addr write => Sys2Proof.Machine.execUnavailableBlockAccess rid addr write s
  | .crossingWatchdog rid addr write => Sys2Proof.Machine.execCrossingWatchdog rid addr write s
  | .voteDisagreement addr => Sys2Proof.Machine.execVoteDisagreement addr s
  | .shadowPairStart rid addr data => Sys2Proof.Machine.execShadowPairStart rid addr data s
  | .shadowPortWrite rid addr data => Sys2Proof.Machine.execShadowPortWrite rid addr data s
  | .shadowPairTimeout addr => Sys2Proof.Machine.execShadowPairTimeout addr s
  | .shadowMismatch addr f => Sys2Proof.Machine.execShadowMismatch addr f s
  | .lock rid addr => Sys2Proof.Machine.execLock rid addr s
  | .calNsRead rid => Sys2Proof.Machine.execCalNsRead rid s
  | .stepImmediate rid => Sys2Proof.Machine.execStepImmediate rid s
  | .stepAtRollover rid => Sys2Proof.Machine.execStepAtRollover rid s
  | .stepRelative rid => Sys2Proof.Machine.execStepRelative rid s
  | .pendingStepApplied => Sys2Proof.Machine.execPendingStepApplied s
  | .leapApplied => Sys2Proof.Machine.execLeapApplied s
  | .refclkLost => Sys2Proof.Machine.execRefclkLost s
  | .refclkReturn => Sys2Proof.Machine.execRefclkReturn s
  | .tdcCapture n => Sys2Proof.Machine.execTdcCapture n s
  | .tdcRead rid n => Sys2Proof.Machine.execTdcRead rid n s
  | .laneCalibrationDone n align => Sys2Proof.Machine.execLaneCalibrationDone n align s
  | .ptpEnable rid => Sys2Proof.Machine.execPtpEnable rid s
  | .ptpRxFrame => Sys2Proof.Machine.execPtpRxFrame s
  | .ptpTxHeadAdvance rid data => Sys2Proof.Machine.execPtpTxHeadAdvance rid data s
  | .ptpTxComplete sec stamp => Sys2Proof.Machine.execPtpTxComplete sec stamp s
  | .s8Update rid data => Sys2Proof.Machine.execS8Update rid data s
  | .sourceQualified n => Sys2Proof.Machine.execSourceQualified n s
  | .sourceDisqualified n => Sys2Proof.Machine.execSourceDisqualified n s
  | .waitToRestoreExpiry n => Sys2Proof.Machine.execWaitToRestoreExpiry n s
  | .dpllUpdate => Sys2Proof.Machine.execDpllUpdate s
  | .acquisitionStep => Sys2Proof.Machine.execAcquisitionStep s
  | .learnerUpdate => Sys2Proof.Machine.execLearnerUpdate s
  | .tempLost => Sys2Proof.Machine.execTempLost s
  | .modelCorrection => Sys2Proof.Machine.execModelCorrection s
  | .holdoverSecond => Sys2Proof.Machine.execHoldoverSecond s
  | .retentionCopyWrite => Sys2Proof.Machine.execRetentionCopyWrite s
  | .almanacPersistRequest => Sys2Proof.Machine.execAlmanacPersistRequest s
  | .almanacLoad => Sys2Proof.Machine.execAlmanacLoad s
  | .taiDayBoundary => Sys2Proof.Machine.execTaiDayBoundary s
  | .clearAlmanac rid => Sys2Proof.Machine.execClearAlmanac rid s
  | .dacCodeWrite rid n data => Sys2Proof.Machine.execDacCodeWrite rid n data s
  | .dacRangeChange rid n data efc => Sys2Proof.Machine.execDacRangeChange rid n data efc s
  | .dacRangeChangeDone n => Sys2Proof.Machine.execDacRangeChangeDone n s
  | .eveWrite rid off data => Sys2Proof.Machine.execEveWrite rid off data s
  | .copy rid => Sys2Proof.Machine.execCopy rid s
  | .copyDone => Sys2Proof.Machine.execCopyDone s
  | .dayReadSelect rid data => Sys2Proof.Machine.execDayReadSelect rid data s
  | .sourceSampleArrival c time exp inph quad blank first unit => Sys2Proof.Machine.execSourceSampleArrival c time exp inph quad blank first unit s
  | .sourceTimeout g slot => Sys2Proof.Machine.execSourceTimeout g slot s
  | .transmitSampleFormed g => Sys2Proof.Machine.execTransmitSampleFormed g s
  | .commitGo rid data => Sys2Proof.Machine.execCommitGo rid data s
  | .validationDone => Sys2Proof.Machine.execValidationDone s
  | .commitAbort rid => Sys2Proof.Machine.execCommitAbort rid s
  | .armingPoint => Sys2Proof.Machine.execArmingPoint s
  | .switchWindowExpiry => Sys2Proof.Machine.execSwitchWindowExpiry s
  | .delayLineOutput line => Sys2Proof.Machine.execDelayLineOutput line s
  | .captureGo rid data => Sys2Proof.Machine.execCaptureGo rid data s
  | .laneEnable rid n => Sys2Proof.Machine.execLaneEnable rid n s
  | .laneDisable rid n => Sys2Proof.Machine.execLaneDisable rid n s
  | .rephase rid n => Sys2Proof.Machine.execRephase rid n s
  | .rephaseDone n => Sys2Proof.Machine.execRephaseDone n s
  | .ethernetFrameReceived port fcs bittern cor unc fwd => Sys2Proof.Machine.execEthernetFrameReceived port fcs bittern cor unc fwd s
  | .roePacketTransmit n c => Sys2Proof.Machine.execRoePacketTransmit n c s
  | .superframeReceived n sf => Sys2Proof.Machine.execSuperframeReceived n sf s
  | .transmitDataBlock n c => Sys2Proof.Machine.execTransmitDataBlock n c s
  | .blockLock n => Sys2Proof.Machine.execBlockLock n s
  | .blockLockLoss n hiBer => Sys2Proof.Machine.execBlockLockLoss n hiBer s
  | .markerCandidate n block good count => Sys2Proof.Machine.execMarkerCandidate n block good count s
  | .superframeLock n => Sys2Proof.Machine.execSuperframeLock n s
  | .badMarker n => Sys2Proof.Machine.execBadMarker n s
  | .equalisationStep n => Sys2Proof.Machine.execEqualisationStep n s
  | .containerEnable rid n dir c => Sys2Proof.Machine.execContainerEnable rid n dir c s
  | .converterCommitRequest rid => Sys2Proof.Machine.execConverterCommitRequest rid s
  | .converterForcedCommit rid => Sys2Proof.Machine.execConverterForcedCommit rid s
  | .converterStallLimit n => Sys2Proof.Machine.execConverterStallLimit n s
  | .converterUnstall n => Sys2Proof.Machine.execConverterUnstall n s
  | .converterTestGo rid => Sys2Proof.Machine.execConverterTestGo rid s
  | .companionWordReceived n j start fin word => Sys2Proof.Machine.execCompanionWordReceived n j start fin word s
  | .harvestTransmit n j => Sys2Proof.Machine.execHarvestTransmit n j s
  | .harvestSlotEnable rid n data => Sys2Proof.Machine.execHarvestSlotEnable rid n data s
  | .harvestSlotDisable rid n => Sys2Proof.Machine.execHarvestSlotDisable rid n s
  | .classifierSearch port frame sec stamp upset => Sys2Proof.Machine.execClassifierSearch port frame sec stamp upset s
  | .fqEntryWritten => Sys2Proof.Machine.execFqEntryWritten s
  | .entryRead rid => Sys2Proof.Machine.execEntryRead rid s
  | .entryWrite rid => Sys2Proof.Machine.execEntryWrite rid s
  | .entryInvalidate rid => Sys2Proof.Machine.execEntryInvalidate rid s
  | .entryValidate rid => Sys2Proof.Machine.execEntryValidate rid s
  | .entryCommandDone => Sys2Proof.Machine.execEntryCommandDone s
  | .rakeRepairDone sus => Sys2Proof.Machine.execRakeRepairDone sus s
  | .rakeBackgroundStep => Sys2Proof.Machine.execRakeBackgroundStep s
  | .engineWord n => Sys2Proof.Machine.execEngineWord n s
  | .engineReportPosted n => Sys2Proof.Machine.execEngineReportPosted n s
  | .reportRead rid n => Sys2Proof.Machine.execReportRead rid n s
  | .engineCommitRequest rid n => Sys2Proof.Machine.execEngineCommitRequest rid n s
  | .engineValidationDone n => Sys2Proof.Machine.execEngineValidationDone n s
  | .engineForcedCommit rid n => Sys2Proof.Machine.execEngineForcedCommit rid n s
  | .engineStallLimit n => Sys2Proof.Machine.execEngineStallLimit n s
  | .engineUnstall n => Sys2Proof.Machine.execEngineUnstall n s
  | .laneProtectConfig rid n data => Sys2Proof.Machine.execLaneProtectConfig rid n data s
  | .protectedFrameTransmit n frame whole => Sys2Proof.Machine.execProtectedFrameTransmit n frame whole s
  | .protectedFrameReceive n => Sys2Proof.Machine.execProtectedFrameReceive n s
  | .varlasSuperframeEncrypt n epoch count marker payload => Sys2Proof.Machine.execVarlasSuperframeEncrypt n epoch count marker payload s
  | .saEnable rid n data => Sys2Proof.Machine.execSaEnable rid n data s
  | .claim rid page => Sys2Proof.Machine.execClaim rid page s
  | .load rid page => Sys2Proof.Machine.execLoad rid page s
  | .release rid page => Sys2Proof.Machine.execRelease rid page s
  | .wipe rid page => Sys2Proof.Machine.execWipe rid page s
  | .maskReseed p => Sys2Proof.Machine.execMaskReseed p s
  | .cipherSelfTest p ok => Sys2Proof.Machine.execCipherSelfTest p ok s
  | .ecdsaSign rid data => Sys2Proof.Machine.execEcdsaSign rid data s
  | .ecdsaVerify rid data => Sys2Proof.Machine.execEcdsaVerify rid data s
  | .ecdh rid data => Sys2Proof.Machine.execEcdh rid data s
  | .keyGeneration rid data => Sys2Proof.Machine.execKeyGeneration rid data s
  | .shaHash rid data => Sys2Proof.Machine.execShaHash rid data s
  | .pkaCommandDone => Sys2Proof.Machine.execPkaCommandDone s
  | .aluInstruction t iw op rd rs1 src => Sys2Proof.Machine.execAluInstruction t iw op rd rs1 src s
  | .loadInstruction t iw sz rd rs1 off => Sys2Proof.Machine.execLoadInstruction t iw sz rd rs1 off s
  | .storeInstruction t iw sz rs2 rs1 off => Sys2Proof.Machine.execStoreInstruction t iw sz rs2 rs1 off s
  | .storeDrain c => Sys2Proof.Machine.execStoreDrain c s
  | .swap t iw rd rs1 => Sys2Proof.Machine.execSwap t iw rd rs1 s
  | .cas t iw rd rs1 rs2 => Sys2Proof.Machine.execCas t iw rd rs1 rs2 s
  | .fadd t iw rd rs1 rs2 => Sys2Proof.Machine.execFadd t iw rd rs1 rs2 s
  | .conditionalBranch t iw c rs1 src off => Sys2Proof.Machine.execConditionalBranch t iw c rs1 src off s
  | .call t iw off => Sys2Proof.Machine.execCall t iw off s
  | .jumpAndLink t iw rd rs1 off => Sys2Proof.Machine.execJumpAndLink t iw rd rs1 off s
  | .trapN t iw n => Sys2Proof.Machine.execTrapN t iw n s
  | .save t iw => Sys2Proof.Machine.execSave t iw s
  | .restore t iw => Sys2Proof.Machine.execRestore t iw s
  | .wpush t iw => Sys2Proof.Machine.execWpush t iw s
  | .wpull t iw => Sys2Proof.Machine.execWpull t iw s
  | .wdrain t iw => Sys2Proof.Machine.execWdrain t iw s
  | .rdsr t iw rd num => Sys2Proof.Machine.execRdsr t iw rd num s
  | .wrsr t iw num rs1 => Sys2Proof.Machine.execWrsr t iw num rs1 s
  | .xret t iw => Sys2Proof.Machine.execXret t iw s
  | .halt t iw => Sys2Proof.Machine.execHalt t iw s
  | .ewait t iw rd rs1 => Sys2Proof.Machine.execEwait t iw rd rs1 s
  | .ewaitWake t => Sys2Proof.Machine.execEwaitWake t s
  | .wtimExpiry t => Sys2Proof.Machine.execWtimExpiry t s
  | .esig t iw rs1 rs2 => Sys2Proof.Machine.execEsig t iw rs1 rs2 s
  | .fence t iw => Sys2Proof.Machine.execFence t iw s
  | .fenceI t iw => Sys2Proof.Machine.execFenceI t iw s
  | .iinvL t iw rs1 off => Sys2Proof.Machine.execIinvL t iw rs1 off s
  | .iinvAll t iw => Sys2Proof.Machine.execIinvAll t iw s
  | .dclnL t iw rs1 off => Sys2Proof.Machine.execDclnL t iw rs1 off s
  | .dflsL t iw rs1 off => Sys2Proof.Machine.execDflsL t iw rs1 off s
  | .dinvL t iw rs1 off => Sys2Proof.Machine.execDinvL t iw rs1 off s
  | .dclnAll t iw => Sys2Proof.Machine.execDclnAll t iw s
  | .dflsAll t iw => Sys2Proof.Machine.execDflsAll t iw s
  | .dinvAll t iw => Sys2Proof.Machine.execDinvAll t iw s
  | .cacheError t addr kind access => Sys2Proof.Machine.execCacheError t addr kind access s
  | .threadStart rid t => Sys2Proof.Machine.execThreadStart rid t s
  | .threadStop rid t => Sys2Proof.Machine.execThreadStop rid t s
  | .signalWrite rid t data => Sys2Proof.Machine.execSignalWrite rid t data s
  | .dozeEntry c => Sys2Proof.Machine.execDozeEntry c s
  | .dozeExit c => Sys2Proof.Machine.execDozeExit c s
  | .eventTrap t => Sys2Proof.Machine.execEventTrap t s
  | .impreciseStoreError c => Sys2Proof.Machine.execImpreciseStoreError c s
  | .allWaitConfirmed => Sys2Proof.Machine.execAllWaitConfirmed s
  | .eventRaised k => Sys2Proof.Machine.execEventRaised k s
  | .level7Redirection k => Sys2Proof.Machine.execLevel7Redirection k s
  | .softwareEvent rid data => Sys2Proof.Machine.execSoftwareEvent rid data s
  | .tracePacketWrite c => Sys2Proof.Machine.execTracePacketWrite c s
  | .traceStreamBurst => Sys2Proof.Machine.execTraceStreamBurst s
  | .traceClear rid => Sys2Proof.Machine.execTraceClear rid s
  | .dbgauthNonce => Sys2Proof.Machine.execDbgauthNonce s
  | .dbgauthAttempt level qx qy r sg => Sys2Proof.Machine.execDbgauthAttempt level qx qy r sg s
  | .dbgauthDone => Sys2Proof.Machine.execDbgauthDone s
  | .dbgauthLockoutEnd => Sys2Proof.Machine.execDbgauthLockoutEnd s
  | .dbgend => Sys2Proof.Machine.execDbgend s
  | .trstNLow => Sys2Proof.Machine.execTrstNLow s
  | .debugHalt t => Sys2Proof.Machine.execDebugHalt t s
  | .idcode => Sys2Proof.Machine.execIdcode s
  | .samplePreload cells => Sys2Proof.Machine.execSamplePreload cells s
  | .extest => Sys2Proof.Machine.execExtest s
  | .dbgacc addr write data => Sys2Proof.Machine.execDbgacc addr write data s
  | .bypass => Sys2Proof.Machine.execBypass s
  | .busTransaction rid addr len write data intg => Sys2Proof.Machine.execBusTransaction rid addr len write data intg s
  | .lockForcedRelease t iw rs1 => Sys2Proof.Machine.execLockForcedRelease t iw rs1 s
  | .dmaGo rid n data => Sys2Proof.Machine.execDmaGo rid n data s
  | .dmaDescriptorLoad n => Sys2Proof.Machine.execDmaDescriptorLoad n s
  | .dmaTransferDone n => Sys2Proof.Machine.execDmaTransferDone n s
  | .dmaError n write moved => Sys2Proof.Machine.execDmaError n write moved s
  | .dmaAbort rid n => Sys2Proof.Machine.execDmaAbort rid n s
  | .ringMeasurement fast slow same => Sys2Proof.Machine.execRingMeasurement fast slow same s
  | .healthTestFailure apt => Sys2Proof.Machine.execHealthTestFailure apt s
  | .startupTestDone => Sys2Proof.Machine.execStartupTestDone s
  | .estimateBlockEnd ones corr => Sys2Proof.Machine.execEstimateBlockEnd ones corr s
  | .conditionedBlock samples => Sys2Proof.Machine.execConditionedBlock samples s
  | .drbgInstantiate => Sys2Proof.Machine.execDrbgInstantiate s
  | .entropyRetry rid => Sys2Proof.Machine.execEntropyRetry rid s
  | .trnRandRead rid => Sys2Proof.Machine.execTrnRandRead rid s
  | .trnRawRead rid raw => Sys2Proof.Machine.execTrnRawRead rid raw s
  | .nvsRead rid page => Sys2Proof.Machine.execNvsRead rid page s
  | .nvsWrite rid page => Sys2Proof.Machine.execNvsWrite rid page s
  | .inc rid page => Sys2Proof.Machine.execInc rid page s
  | .rolekey rid page => Sys2Proof.Machine.execRolekey rid page s
  | .nvsBufdataAccess rid write data => Sys2Proof.Machine.execNvsBufdataAccess rid write data s
  | .nvsOperationStart => Sys2Proof.Machine.execNvsOperationStart s
  | .nvsOperationComplete => Sys2Proof.Machine.execNvsOperationComplete s
  | .wearRotationDone => Sys2Proof.Machine.execWearRotationDone s
  | .fuseCompare => Sys2Proof.Machine.execFuseCompare s
  | .fuseProgram rid data => Sys2Proof.Machine.execFuseProgram rid data s
  | .fuseProgramDone => Sys2Proof.Machine.execFuseProgramDone s
  | .tamperHit k => Sys2Proof.Machine.execTamperHit k s
  | .sramZeroingDone => Sys2Proof.Machine.execSramZeroingDone s
  | .loopStateChange n st => Sys2Proof.Machine.execLoopStateChange n st s
  | .logPersistRequest => Sys2Proof.Machine.execLogPersistRequest s
  | .clearLog rid => Sys2Proof.Machine.execClearLog rid s
  | .roundStart => Sys2Proof.Machine.execRoundStart s
  | .hkEnable rid data => Sys2Proof.Machine.execHkEnable rid data s
  | .hkPeriodWrite rid data => Sys2Proof.Machine.execHkPeriodWrite rid data s
  | .conversionComplete code rng => Sys2Proof.Machine.execConversionComplete code rng s
  | .foregroundGo rid data => Sys2Proof.Machine.execForegroundGo rid data s
  | .calibrationStep => Sys2Proof.Machine.execCalibrationStep s
  | .rateOfRise => Sys2Proof.Machine.execRateOfRise s
  | .dramInit rid => Sys2Proof.Machine.execDramInit rid s
  | .trainingDone ok step lane vals => Sys2Proof.Machine.execTrainingDone ok step lane vals s
  | .nrtAccess rid addr len write data upset => Sys2Proof.Machine.execNrtAccess rid addr len write data upset s
  | .rtRequest line write upset => Sys2Proof.Machine.execRtRequest line write upset s
  | .panicStart => Sys2Proof.Machine.execPanicStart s
  | .panicEnd => Sys2Proof.Machine.execPanicEnd s
  | .refresh => Sys2Proof.Machine.execRefresh s
  | .zqCalibration => Sys2Proof.Machine.execZqCalibration s
  | .scrubStep waiting upset => Sys2Proof.Machine.execScrubStep waiting upset s
  | .unfreeze rid data => Sys2Proof.Machine.execUnfreeze rid data s
  | .dramResume => Sys2Proof.Machine.execDramResume s
  | .apertureWrite rid data => Sys2Proof.Machine.execApertureWrite rid data s
  | .cardInserted sd => Sys2Proof.Machine.execCardInserted sd s
  | .cardRemoved sd => Sys2Proof.Machine.execCardRemoved sd s
  | .act rid => Sys2Proof.Machine.execAct rid s
  | .atrComplete atr parity => Sys2Proof.Machine.execAtrComplete atr parity s
  | .noAtrTimeout => Sys2Proof.Machine.execNoAtrTimeout s
  | .ppsExchange resp => Sys2Proof.Machine.execPpsExchange resp s
  | .idcGo rid => Sys2Proof.Machine.execIdcGo rid s
  | .procedureByte b follow errs => Sys2Proof.Machine.execProcedureByte b follow errs s
  | .t1BlockReceived blk errs => Sys2Proof.Machine.execT1BlockReceived blk errs s
  | .waitingTimeExpiry => Sys2Proof.Machine.execWaitingTimeExpiry s
  | .deact rid => Sys2Proof.Machine.execDeact rid s
  | .warm rid => Sys2Proof.Machine.execWarm rid s
  | .sdInit rid => Sys2Proof.Machine.execSdInit rid s
  | .sdInitDone res => Sys2Proof.Machine.execSdInitDone res s
  | .tune rid ok phase => Sys2Proof.Machine.execTune rid ok phase s
  | .sdRead rid => Sys2Proof.Machine.execSdRead rid s
  | .sdWrite rid => Sys2Proof.Machine.execSdWrite rid s
  | .sdCmd rid data reply => Sys2Proof.Machine.execSdCmd rid data reply s
  | .sdBlock data ok => Sys2Proof.Machine.execSdBlock data ok s
  | .sdTimeout kind => Sys2Proof.Machine.execSdTimeout kind s
  | .sdStop rid => Sys2Proof.Machine.execSdStop rid s
  | .pwroff rid => Sys2Proof.Machine.execPwroff rid s
  | .setpwd rid reply => Sys2Proof.Machine.execSetpwd rid reply s
  | .clrpwd rid reply => Sys2Proof.Machine.execClrpwd rid reply s
  | .lockCard rid reply => Sys2Proof.Machine.execLockCard rid reply s
  | .unlock rid reply nego => Sys2Proof.Machine.execUnlock rid reply nego s
  | .forceErase rid reply nego => Sys2Proof.Machine.execForceErase rid reply nego s
  | .pwrReqOff rid d => Sys2Proof.Machine.execPwrReqOff rid d s
  | .pwrReqOn rid d => Sys2Proof.Machine.execPwrReqOn rid d s
  | .pwrReqRet rid d => Sys2Proof.Machine.execPwrReqRet rid d s
  | .requestTaken => Sys2Proof.Machine.execRequestTaken s
  | .railGood => Sys2Proof.Machine.execRailGood s
  | .railGoodTimeout => Sys2Proof.Machine.execRailGoodTimeout s
  | .switchOnDone => Sys2Proof.Machine.execSwitchOnDone s
  | .drainDone => Sys2Proof.Machine.execDrainDone s
  | .retEntryDone => Sys2Proof.Machine.execRetEntryDone s
  | .porAssert => Sys2Proof.Machine.execPorAssert s
  | .porRelease => Sys2Proof.Machine.execPorRelease s
  | .vscapLow => Sys2Proof.Machine.execVscapLow s
  | .slowClockLoss => Sys2Proof.Machine.execSlowClockLoss s
  | .slowClockReturn => Sys2Proof.Machine.execSlowClockReturn s
  | .vddCoreGood => Sys2Proof.Machine.execVddCoreGood s
  | .systemResetHoldEnd => Sys2Proof.Machine.execSystemResetHoldEnd s
  | .bootEntry => Sys2Proof.Machine.execBootEntry s
  | .rstOutRelease => Sys2Proof.Machine.execRstOutRelease s
  | .brownout => Sys2Proof.Machine.execBrownout s
  | .softReset rid => Sys2Proof.Machine.execSoftReset rid s
  | .niquevorReset => Sys2Proof.Machine.execNiquevorReset s
  | .watchdogEnable rid => Sys2Proof.Machine.execWatchdogEnable rid s
  | .watchdogKick rid => Sys2Proof.Machine.execWatchdogKick rid s
  | .watchdogExpiry => Sys2Proof.Machine.execWatchdogExpiry s
  | .resetNLow => Sys2Proof.Machine.execResetNLow s
  | .resetNHigh => Sys2Proof.Machine.execResetNHigh s
  | .resetNStuck => Sys2Proof.Machine.execResetNStuck s
  | .resetNRearm => Sys2Proof.Machine.execResetNRearm s
  | .bootSourceAttempt image mediaErr => Sys2Proof.Machine.execBootSourceAttempt image mediaErr s
  | .bootImageAccepted => Sys2Proof.Machine.execBootImageAccepted s
  | .bootFail => Sys2Proof.Machine.execBootFail s
  | .bootImageReceived => Sys2Proof.Machine.execBootImageReceived s
  | .niquevorBootTimeout => Sys2Proof.Machine.execNiquevorBootTimeout s
  | .remapWrite rid data => Sys2Proof.Machine.execRemapWrite rid data s
  | .prbsCheckerLock n => Sys2Proof.Machine.execPrbsCheckerLock n s
  | .atrGapTimeout => Sys2Proof.Machine.execAtrGapTimeout s
  | .nextClassActivation => Sys2Proof.Machine.execNextClassActivation s
  | .realTimeClockAlarm => Sys2Proof.Machine.execRealTimeClockAlarm s

end Sys2Proof.Machine
end

