-- ==== Sys2Proof/Machine/Part.lean ====
section
/-! DEFINITION. The parts of the state by name, and what it means that two states differ in some of them alone. -/

namespace Sys2Proof.Machine

/-- The fields of the state by name. -/
inductive Part where
  | pending | now | free | regs | snaps | dict | staged | pairs | answer | sram | pwr | rst | tmp | nvs | fus | trn | cal | hld
  | mtx | lanes | convs | hvs | cls | aut | cip | threads | cores | evt | trc | ic | hk | dmc | idc | sdh | nq
deriving DecidableEq, Repr

/-- What a part is made of. -/
def Part.Ty : Part → Type
  | .pending => List Instr
  | .now => Nat
  | .free => Nat
  | .regs => List (Nat × Word)
  | .snaps => List (Nat × Word)
  | .dict => List (Nat × Nat)
  | .staged => List (Nat × Word)
  | .pairs => List ShadowPair
  | .answer => Answer
  | .sram => List Host.Cell
  | .pwr => PwrSt
  | .rst => RstSt
  | .tmp => TmpSt
  | .nvs => NvsSt
  | .fus => FusSt
  | .trn => TrnSt
  | .cal => CalSt
  | .hld => HldSt
  | .mtx => MtxSt
  | .lanes => List (Nat × LaneSt)
  | .convs => List (Nat × ConvSt)
  | .hvs => List (Nat × HvsMsg)
  | .cls => ClsSt
  | .aut => List (Nat × AutSt)
  | .cip => CipSt
  | .threads => List (Nat × Thread)
  | .cores => List (Nat × CoreSt)
  | .evt => EvtSt
  | .trc => TrcSt
  | .ic => IcSt
  | .hk => HkSt
  | .dmc => DmcSt
  | .idc => IdcSt
  | .sdh => SdhSt
  | .nq => NqSt

/-- A part of a state. -/
def State.part (s : State) : (k : Part) → k.Ty
  | .pending => s.pending
  | .now => s.now
  | .free => s.free
  | .regs => s.regs
  | .snaps => s.snaps
  | .dict => s.dict
  | .staged => s.staged
  | .pairs => s.pairs
  | .answer => s.answer
  | .sram => s.sram
  | .pwr => s.pwr
  | .rst => s.rst
  | .tmp => s.tmp
  | .nvs => s.nvs
  | .fus => s.fus
  | .trn => s.trn
  | .cal => s.cal
  | .hld => s.hld
  | .mtx => s.mtx
  | .lanes => s.lanes
  | .convs => s.convs
  | .hvs => s.hvs
  | .cls => s.cls
  | .aut => s.aut
  | .cip => s.cip
  | .threads => s.threads
  | .cores => s.cores
  | .evt => s.evt
  | .trc => s.trc
  | .ic => s.ic
  | .hk => s.hk
  | .dmc => s.dmc
  | .idc => s.idc
  | .sdh => s.sdh
  | .nq => s.nq

/-- All parts but the queue of waiting commands and the time. -/
abbrev Part.most : List Part :=
  [.free, .regs, .snaps, .dict, .staged, .pairs, .answer, .sram, .pwr, .rst, .tmp, .nvs, .fus, .trn, .cal, .hld, .mtx, .lanes,
   .convs, .hvs, .cls, .aut, .cip, .threads, .cores, .evt, .trc, .ic, .hk, .dmc, .idc, .sdh, .nq]

/-- The two states differ at most in the listed parts. -/
structure Same (l : List Part) (s t : State) : Prop where
  eq : ∀ k, k ∉ l → t.part k = s.part k

end Sys2Proof.Machine
end

