-- ==== Sys2Proof/WellFormed.lean ====
section
/-! DEFINITION. Which commands are well formed: whose operands can be what their row says they are. A meaning is total, so
that an ill-formed command has an effect too (that of the access its operands name, or none); claims about a row are made for
its well-formed commands where that matters. -/

namespace Sys2Proof

open Machine

/-- A set, clear or toggle alias of a register (R65): only blocks of the alias class have them. -/
def aliasAddr (a : Nat) : Bool :=
  match blockAt a with
  | some b => !b.masked && 0x400 ≤ a - b.base && a - b.base < 0x1000 && (b.regAt ((a - b.base) % 0x400)).isSome
  | none => false

/-- A register of a block of the masked class (R69). -/
def maskedAddr (a : Nat) : Bool :=
  match regDescAt a with
  | some (b, _) => b.masked
  | none => false

/-- A register with a field of an access code (R71). -/
def hasAcc (a : Nat) (c : Acc) : Bool :=
  match regDescAt a with
  | some (_, r) => r.fields.any (fun f => f.acc == c)
  | none => false

/-- A transaction of 1 byte to 16 beats of 16 bytes that crosses no 4 KB boundary (R355). -/
def runFits (a len : Nat) : Bool := 0 < len && a % 16 + len ≤ 256 && a % 4096 + len ≤ 4096

/-- A write carries as many bytes as it is long, and a read carries none. -/
def payloadFits (len : Nat) (write : Bool) (data : List Byte) : Bool :=
  if write then data.length == len else data.isEmpty

/-- Whether a command is well formed. -/
def Instr.wf (i : Instr) : Bool :=
  match i with
  | .read .. => true
  | .write .. => true
  | .segmentStart .. => true
  | .segment .. => true
  | .sessionOpen .. => true
  | .answer .. => true
  | .close .. => true
  | .abort .. => true
  | .segmentGapTimeout .. => true
  | .sessionIdleLimit .. => true
  | .sessionOpenLockoutEnd .. => true
  | .transmitOpportunity => true
  | .bulletinDue .. => true
  | .savePersistent .. => true
  | .restoreDefaults .. => true
  | .delegationAnswer .. => true
  | .delegationTimeout => true
  | .roleKeyWrite .. => true
  | .eveImageWrite .. => true
  | .eveImageCopyDone => true
  | .commitRequestObject .. => true
  | .unfreezeObject .. => true
  | .aliasWrite _ addr _ => aliasAddr addr.toNat
  | .maskedWrite _ addr _ => maskedAddr addr.toNat
  | .registerWrite .. => true
  | .rcRead _ addr => hasAcc addr.toNat .rc
  | .counterLowWordRead .. => true
  | .stagedCounterLoad .. => true
  | .decodeError .. => true
  | .unavailableBlockAccess .. => true
  | .crossingWatchdog .. => true
  | .voteDisagreement addr => hasAcc addr.toNat .rwv
  | .shadowPairStart _ addr _ => hasAcc addr.toNat .rws
  | .shadowPortWrite _ addr _ => 0x200 ≤ addr.toNat && hasAcc (addr.toNat - 0x200) .rws
  | .shadowPairTimeout addr => hasAcc addr.toNat .rws
  | .shadowMismatch addr _ => hasAcc addr.toNat .rws
  | .lock .. => true
  | .calNsRead .. => true
  | .stepImmediate .. => true
  | .stepAtRollover .. => true
  | .stepRelative .. => true
  | .pendingStepApplied => true
  | .leapApplied => true
  | .refclkLost => true
  | .refclkReturn => true
  | .tdcCapture .. => true
  | .tdcRead .. => true
  | .laneCalibrationDone .. => true
  | .ptpEnable .. => true
  | .ptpRxFrame => true
  | .ptpTxHeadAdvance .. => true
  | .ptpTxComplete .. => true
  | .s8Update .. => true
  | .sourceQualified .. => true
  | .sourceDisqualified .. => true
  | .waitToRestoreExpiry .. => true
  | .dpllUpdate => true
  | .acquisitionStep => true
  | .learnerUpdate => true
  | .tempLost => true
  | .modelCorrection => true
  | .holdoverSecond => true
  | .retentionCopyWrite => true
  | .almanacPersistRequest => true
  | .almanacLoad => true
  | .taiDayBoundary => true
  | .clearAlmanac .. => true
  | .dacCodeWrite .. => true
  | .dacRangeChange .. => true
  | .dacRangeChangeDone .. => true
  | .eveWrite .. => true
  | .copy .. => true
  | .copyDone => true
  | .dayReadSelect .. => true
  | .sourceSampleArrival .. => true
  | .sourceTimeout .. => true
  | .transmitSampleFormed .. => true
  | .commitGo .. => true
  | .validationDone => true
  | .commitAbort .. => true
  | .armingPoint => true
  | .switchWindowExpiry => true
  | .delayLineOutput .. => true
  | .captureGo .. => true
  | .laneEnable .. => true
  | .laneDisable .. => true
  | .rephase .. => true
  | .rephaseDone .. => true
  | .ethernetFrameReceived .. => true
  | .roePacketTransmit .. => true
  | .superframeReceived .. => true
  | .transmitDataBlock .. => true
  | .blockLock .. => true
  | .blockLockLoss .. => true
  | .markerCandidate .. => true
  | .superframeLock .. => true
  | .badMarker .. => true
  | .equalisationStep .. => true
  | .containerEnable .. => true
  | .converterCommitRequest .. => true
  | .converterForcedCommit .. => true
  | .converterStallLimit .. => true
  | .converterUnstall .. => true
  | .converterTestGo .. => true
  | .companionWordReceived .. => true
  | .harvestTransmit .. => true
  | .harvestSlotEnable .. => true
  | .harvestSlotDisable .. => true
  | .classifierSearch .. => true
  | .fqEntryWritten => true
  | .entryRead .. => true
  | .entryWrite .. => true
  | .entryInvalidate .. => true
  | .entryValidate .. => true
  | .entryCommandDone => true
  | .rakeRepairDone .. => true
  | .rakeBackgroundStep => true
  | .engineWord .. => true
  | .engineReportPosted .. => true
  | .reportRead .. => true
  | .engineCommitRequest .. => true
  | .engineValidationDone .. => true
  | .engineForcedCommit .. => true
  | .engineStallLimit .. => true
  | .engineUnstall .. => true
  | .laneProtectConfig .. => true
  | .protectedFrameTransmit .. => true
  | .protectedFrameReceive .. => true
  | .varlasSuperframeEncrypt _ _ _ _ payload => payload.length == 252
  | .saEnable .. => true
  | .claim .. => true
  | .load .. => true
  | .release .. => true
  | .wipe .. => true
  | .maskReseed .. => true
  | .cipherSelfTest .. => true
  | .ecdsaSign .. => true
  | .ecdsaVerify .. => true
  | .ecdh .. => true
  | .keyGeneration .. => true
  | .shaHash .. => true
  | .pkaCommandDone => true
  | .aluInstruction .. => true
  | .loadInstruction .. => true
  | .storeInstruction .. => true
  | .storeDrain .. => true
  | .swap .. => true
  | .cas .. => true
  | .fadd .. => true
  | .conditionalBranch .. => true
  | .call .. => true
  | .jumpAndLink .. => true
  | .trapN .. => true
  | .save .. => true
  | .restore .. => true
  | .wpush .. => true
  | .wpull .. => true
  | .wdrain .. => true
  | .rdsr .. => true
  | .wrsr .. => true
  | .xret .. => true
  | .halt .. => true
  | .ewait .. => true
  | .ewaitWake .. => true
  | .wtimExpiry .. => true
  | .esig .. => true
  | .fence .. => true
  | .fenceI .. => true
  | .iinvL .. => true
  | .iinvAll .. => true
  | .dclnL .. => true
  | .dflsL .. => true
  | .dinvL .. => true
  | .dclnAll .. => true
  | .dflsAll .. => true
  | .dinvAll .. => true
  | .cacheError .. => true
  | .threadStart .. => true
  | .threadStop .. => true
  | .signalWrite .. => true
  | .dozeEntry .. => true
  | .dozeExit .. => true
  | .eventTrap .. => true
  | .impreciseStoreError .. => true
  | .allWaitConfirmed => true
  | .eventRaised .. => true
  | .level7Redirection .. => true
  | .softwareEvent .. => true
  | .tracePacketWrite .. => true
  | .traceStreamBurst => true
  | .traceClear .. => true
  | .dbgauthNonce => true
  | .dbgauthAttempt .. => true
  | .dbgauthDone => true
  | .dbgauthLockoutEnd => true
  | .dbgend => true
  | .trstNLow => true
  | .debugHalt .. => true
  | .idcode => true
  | .samplePreload .. => true
  | .extest => true
  | .dbgacc .. => true
  | .bypass => true
  | .busTransaction _ addr len wr data _ => runFits addr.toNat len.toNat && payloadFits len.toNat wr data
  | .lockForcedRelease .. => true
  | .dmaGo .. => true
  | .dmaDescriptorLoad .. => true
  | .dmaTransferDone .. => true
  | .dmaError .. => true
  | .dmaAbort .. => true
  | .ringMeasurement .. => true
  | .healthTestFailure .. => true
  | .startupTestDone => true
  | .estimateBlockEnd .. => true
  | .conditionedBlock .. => true
  | .drbgInstantiate => true
  | .entropyRetry .. => true
  | .trnRandRead .. => true
  | .trnRawRead .. => true
  | .nvsRead .. => true
  | .nvsWrite .. => true
  | .inc .. => true
  | .rolekey .. => true
  | .nvsBufdataAccess .. => true
  | .nvsOperationStart => true
  | .nvsOperationComplete => true
  | .wearRotationDone => true
  | .fuseCompare => true
  | .fuseProgram .. => true
  | .fuseProgramDone => true
  | .tamperHit .. => true
  | .sramZeroingDone => true
  | .loopStateChange .. => true
  | .logPersistRequest => true
  | .clearLog .. => true
  | .roundStart => true
  | .hkEnable .. => true
  | .hkPeriodWrite .. => true
  | .conversionComplete .. => true
  | .foregroundGo .. => true
  | .calibrationStep => true
  | .rateOfRise => true
  | .dramInit .. => true
  | .trainingDone .. => true
  | .nrtAccess _ addr len wr data _ => 0x80000000 ≤ addr.toNat && payloadFits len.toNat wr data
  | .rtRequest .. => true
  | .panicStart => true
  | .panicEnd => true
  | .refresh => true
  | .zqCalibration => true
  | .scrubStep .. => true
  | .unfreeze .. => true
  | .dramResume => true
  | .apertureWrite .. => true
  | .cardInserted .. => true
  | .cardRemoved .. => true
  | .act .. => true
  | .atrComplete .. => true
  | .noAtrTimeout => true
  | .ppsExchange .. => true
  | .idcGo .. => true
  | .procedureByte .. => true
  | .t1BlockReceived .. => true
  | .waitingTimeExpiry => true
  | .deact .. => true
  | .warm .. => true
  | .sdInit .. => true
  | .sdInitDone .. => true
  | .tune .. => true
  | .sdRead .. => true
  | .sdWrite .. => true
  | .sdCmd .. => true
  | .sdBlock data _ => data.length == 512
  | .sdTimeout .. => true
  | .sdStop .. => true
  | .pwroff .. => true
  | .setpwd .. => true
  | .clrpwd .. => true
  | .lockCard .. => true
  | .unlock .. => true
  | .forceErase .. => true
  | .pwrReqOff .. => true
  | .pwrReqOn .. => true
  | .pwrReqRet .. => true
  | .requestTaken => true
  | .railGood => true
  | .railGoodTimeout => true
  | .switchOnDone => true
  | .drainDone => true
  | .retEntryDone => true
  | .porAssert => true
  | .porRelease => true
  | .vscapLow => true
  | .slowClockLoss => true
  | .slowClockReturn => true
  | .vddCoreGood => true
  | .systemResetHoldEnd => true
  | .bootEntry => true
  | .rstOutRelease => true
  | .brownout => true
  | .softReset .. => true
  | .niquevorReset => true
  | .watchdogEnable .. => true
  | .watchdogKick .. => true
  | .watchdogExpiry => true
  | .resetNLow => true
  | .resetNHigh => true
  | .resetNStuck => true
  | .resetNRearm => true
  | .bootSourceAttempt .. => true
  | .bootImageAccepted => true
  | .bootFail => true
  | .bootImageReceived => true
  | .niquevorBootTimeout => true
  | .remapWrite .. => true
  | .prbsCheckerLock .. => true
  | .atrGapTimeout => true
  | .nextClassActivation => true
  | .realTimeClockAlarm => true

end Sys2Proof
end

