-- ==== Sys2Proof/Safety.lean ====
section
/-! DEFINITION. What a sound state of the block is, in the terms claims use. -/

namespace Sys2Proof.Machine

/-- The state is in canonical form: SRAM and DRAM list their bytes in rising order and none that an unlisted address reads as,
and every table of register values lists its registers in rising order. Equal memories and registers are then equal data. -/
abbrev State.canonical (s : State) : Prop :=
  Memory.wf s.sram = true ∧ Memory.wf s.dmc.mem = true ∧ tsorted s.regs = true

/-- What a command leaves as it was: it changes at most the listed parts of the state, and of the registers at most those
listed. The queue, and every byte of SRAM, of DRAM and of the store, stands unchanged where its part is not listed. -/
def State.framed (s t : State) (parts : List Part) (changed : List Nat) : Prop :=
  Same parts s t ∧ ∀ a, a ∉ changed → t.reg a = s.reg a

/-- A register access of a requester to a block of domain `d` is carried out at once: the requester reaches the interconnect, the
block is available, and no DMA channel has been told to stop. -/
abbrev State.opens (s : State) (rid : Rid) (d : Nat) : Prop :=
  s.reaches rid = true ∧ s.live d = true ∧ s.ic.dma.any (fun p => p.2.abort) = false

/-- Such an access while no shadow pair is pending. -/
abbrev State.serves (s : State) (rid : Rid) (d : Nat) : Prop := s.opens rid d ∧ s.pairs = []

/-- Whether the event of source k is pending. -/
def State.pends (s : State) (k : Nat) : Bool := nbit (s.regN (R.EVT_PEND (k / 32))) (k % 32)

/-- What a write with data `d` of the bits `en` leaves in bit `i` of a register (R71): writable and write-only bits take the
data, write-one bits act where it is 1, the others stand. -/
def State.writtenBit (s : State) (b : BlockDesc) (r : RegDesc) (old d en : Word) (i : Nat) : Bool :=
  if (r.bits .wo).getLsbD i then en.getLsbD i && d.getLsbD i
  else if (s.rwMask b r).getLsbD i && en.getLsbD i then d.getLsbD i
  else (old.getLsbD i && !((r.bits .w1c).getLsbD i && en.getLsbD i && d.getLsbD i)) ||
    ((r.bits .w1s).getLsbD i && en.getLsbD i && d.getLsbD i)

/-- A cause of lane n: its bit of LNE_EVT is 1, and if it was 0 and is enabled, E16 + n is raised (R215). -/
def State.laneSays (s t : State) (n bit : Nat) : Prop :=
  nbit (t.regN (R.LNE_EVT n)) bit = true ∧
    (nbit (s.regN (R.LNE_EVT n)) bit = false → nbit (s.regN (R.LNE_EVTEN n)) bit = true → s.live 7 = true → t.pends (16 + n) = true)

/-- The registers a cause of lane n may change. -/
def laneEvents (n : Nat) : List Nat := [R.LNE_EVT n, R.EVT_PEND ((16 + n) / 32)]

/-- What the loss of a lock may change: what it fails and counts. -/
def lossParts : List Part := [.free, .regs, .dict, .sram, .mtx, .lanes, .convs, .hvs, .aut, .evt, .dmc]

/-- A run of bytes lies in SRAM, whose banks are up. -/
abbrev State.inRam (s : State) (a n : Nat) : Prop := 0x10000000 ≤ a ∧ a + n ≤ 0x10200000 ∧ s.live 5 = true ∧ s.live 6 = true

/-- A run of bytes of SRAM. -/
def State.ram (s : State) (a n : Nat) : List Byte := (List.range n).map (fun k => s.sramByte (a + k))

/-- A little-endian word of SRAM. -/
def State.ramWord (s : State) (a : Nat) : Nat := leNat (s.ram a 4)

/-- Every byte of SRAM outside the runs of bytes (start, length) is as it was. -/
def State.ramKept (s t : State) (runs : List (Nat × Nat)) : Prop :=
  ∀ x, (∀ r ∈ runs, x < r.1 ∨ r.1 + r.2 ≤ x) → t.sramByte x = s.sramByte x

/-- Where the DRAM aperture maps an address (R434). -/
def State.dramAt (s : State) (a : Nat) : Nat := s.fld R.DMC_APERTURE_BASE * 2 ^ 28 + (a - 0x80000000)

/-- A run of bytes lies in DRAM that is trained, not frozen, free of errors, and not reserved to the delay lines. -/
abbrev State.inDram (s : State) (a n : Nat) : Prop :=
  0x80000000 ≤ a ∧ a + n ≤ 0x100000000 ∧ s.dramAt a + n ≤ s.dmcSize ∧ s.live 20 = true ∧ s.flag R.DMC_STAT_READY = true ∧
    s.flag R.DMC_STAT_FROZEN = false ∧ s.inDelayRegion (s.dramAt a) n = false ∧ s.dmc.badWords = [] ∧ s.dmc.softWords = []

/-- Every byte of DRAM outside the runs of bytes (start, length) is as it was. -/
def State.dramKept (s t : State) (runs : List (Nat × Nat)) : Prop :=
  ∀ x, (∀ r ∈ runs, x < r.1 ∨ r.1 + r.2 ≤ x) → t.dramByte x = s.dramByte x

/-- The states an engine passes through on a run of bytes (R257). -/
def AutSt.visits (e : AutSt) : Nat → List Byte → List Nat
  | _, [] => []
  | st, b :: r =>
    let next := { e with state := st }.move b
    next :: e.visits next r

/-- A port can search frames: it receives, the classifier is on and its pipeline is free. -/
abbrev State.searches (s : State) (p : Nat) : Prop :=
  p < 24 ∧ s.receives p = true ∧ s.varlas p = false ∧ s.live 11 = true ∧ s.flag R.CLS_CTRL_EN = true ∧ s.cls.freeAt ≤ s.now

/-- The registers a count of a counter may change. -/
def Ctr.regs (c : Ctr) : List Nat := c.addr :: (c.ovf.map (·.addr)).toList

/-- Thread t now issues the word `iw`: it runs, no event is delivered to it, and its fetch gives that word, or a word of the boot
ROM, whose bytes the spec does not give; no DMA channel has been told to stop. -/
def State.ready (s : State) (t : Nat) (iw : Word) : Prop :=
  s.issues t = true ∧ s.deliverable t = none ∧ iw ≠ 0 ∧ s.ic.dma.any (fun p => p.2.abort) = false ∧
    ((s.fetch t).1 = .word iw.toNat false ∨ ∃ w, (s.fetch t).1 = .word w true)

/-- The state when thread t has fetched its next instruction. -/
def State.fetched (s : State) (t : Nat) : State := (s.fetch t).2.modThr t (fun x => { x with pcs := (s.thr t).pc })

/-- Of the threads, at most thread n differs. -/
def State.onlyThread (s t : State) (n : Nat) : Prop :=
  ∀ k, k ≠ n → t.thr k = s.thr k

/-- A thread that goes on with its next instruction. -/
def Thread.next (x : Thread) : Thread := { x with pc := x.pc + 4 }

/-- Trap entry of thread n (R322): what each register takes; nothing else but trace changes. -/
def State.trapped (u t : State) (n : Nat) (epc ecause einfo : Word) (ml off : Nat) : Prop :=
  let x := u.thr n
  t.thr n = { x with epc := epc, ecause := ecause, einfo := einfo,
                     estate := BitVec.ofNat 32 (x.ml * 256 + b2n x.warden * 16 + x.wptr), warden := true, hx := true, ml := ml,
                     wptr := 11, pc := x.evec + BitVec.ofNat 32 off, hxSince := u.now } ∧
    (∀ k, k ≠ n → t.thr k = u.thr k) ∧ t.cores = u.cores

/-- When an instruction takes a synchronous trap, with its cause and EINFO (R318); `u` is the state after its fetch. -/
inductive Traps (u : State) (t : Fin 8) (iw : Word) : Instr → Nat → Word → Prop where
  | trapN (n : Byte) : Traps u t iw (.trapN t iw n) 8 (n.setWidth 32)
  | save (h : 9 ≤ (u.thr t.val).depth) : Traps u t iw (.save t iw) 6 0
  | restore (h : (u.thr t.val).depth = 0) : Traps u t iw (.restore t iw) 7 0
  | xretIdle (h : (u.thr t.val).warden = true) (g : (u.thr t.val).hx = false) : Traps u t iw (.xret t iw) 1 iw
  | pushEmpty (h : (u.thr t.val).warden = true) (g : (u.thr t.val).depth = 0) : Traps u t iw (.wpush t iw) 1 iw
  | pullFull (h : (u.thr t.val).warden = true) (g : 9 ≤ (u.thr t.val).depth) : Traps u t iw (.wpull t iw) 1 iw
  | ewaitZero (rd rs1 : HzReg) (h : (u.thr t.val).get rs1.val = 0) : Traps u t iw (.ewait t iw rd rs1) 1 iw
  | badWst (rs1 : HzReg) (h : (u.thr t.val).warden = true)
      (g : badWst (u.thr t.val).hx ((u.thr t.val).get rs1.val).toNat = true) : Traps u t iw (.wrsr t iw 1 rs1) 1 iw
  | writeOnly (num : Byte) (rs1 : HzReg) (h : 0x0A < num.toNat) : Traps u t iw (.wrsr t iw num rs1) 1 iw
  | unassigned (rd : HzReg) (num : Byte) (h : num.toNat = 0x0B ∨ num.toNat = 0x0D ∨ 0x0F < num.toNat) :
      Traps u t iw (.rdsr t iw rd num) 1 iw
  | tenantRead (rd : HzReg) (num : Byte) (h : (u.thr t.val).warden = false) (g : 2 ≤ num.toNat ∧ num.toNat ≤ 7) :
      Traps u t iw (.rdsr t iw rd num) 2 iw
  | tenantWrite (num : Byte) (rs1 : HzReg) (h : (u.thr t.val).warden = false) (g : num.toNat < 0x0A) :
      Traps u t iw (.wrsr t iw num rs1) 2 iw
  | tenant (c : Instr) (h : (u.thr t.val).warden = false)
      (g : c ∈ [.xret t iw, .halt t iw, .wpush t iw, .wpull t iw, .wdrain t iw, .iinvAll t iw, .dclnAll t iw, .dflsAll t iw,
        .dinvAll t iw]) : Traps u t iw c 2 iw
  | tenantSignal (rs1 rs2 : HzReg) (h : (u.thr t.val).warden = false)
      (g : nbit (u.fld (R.HZ_TCTRL_TSIG (((u.thr t.val).get rs1.val).toNat % 8))) t.val = false) :
      Traps u t iw (.esig t iw rs1 rs2) 2 iw
  | loadAlign (sz : MemSize) (rd rs1 : HzReg) (off : Word)
      (h : ((u.thr t.val).get rs1.val + off).toNat % sizeBytes sz ≠ 0) :
      Traps u t iw (.loadInstruction t iw sz rd rs1 off) 4 ((u.thr t.val).get rs1.val + off)
  | storeAlign (sz : MemSize) (rs2 rs1 : HzReg) (off : Word)
      (h : ((u.thr t.val).get rs1.val + off).toNat % sizeBytes sz ≠ 0) :
      Traps u t iw (.storeInstruction t iw sz rs2 rs1 off) 4 ((u.thr t.val).get rs1.val + off)
  | loadAccess (rd rs1 : HzReg) (off : Word) (h : (u.thr t.val).warden = false)
      (g : (u.attr ((u.thr t.val).get rs1.val + off).toNat).tr = false) :
      Traps u t iw (.loadInstruction t iw .byte rd rs1 off) 3 ((u.thr t.val).get rs1.val + off)
  | storeAccess (rs2 rs1 : HzReg) (off : Word) (h : (u.thr t.val).warden = false)
      (g : (u.attr ((u.thr t.val).get rs1.val + off).toNat).tw = false) :
      Traps u t iw (.storeInstruction t iw .byte rs2 rs1 off) 3 ((u.thr t.val).get rs1.val + off)
  | atomicPlace (rd rs1 : HzReg) (h : ((u.thr t.val).get rs1.val).toNat % 4 = 0)
      (g : inRam ((u.thr t.val).get rs1.val).toNat = false) :
      Traps u t iw (.swap t iw rd rs1) 3 ((u.thr t.val).get rs1.val)

/-- An entry of a store buffer goes to SRAM: `bs` at `a`, not through the cache. -/
def SbEntry.plain (e : SbEntry) (a : Nat) (bs : List Byte) : Prop :=
  e.cacheable = false ∧ bs ≠ [] ∧ ∃ o, e.addr + o = a ∧ e.bytes = (List.range bs.length).map (fun k => (o + k, bs.getD k 0))

/-- A run of bytes of SRAM that a core reads and writes without its cache. -/
abbrev State.open_ (s : State) (a n : Nat) : Prop :=
  s.inRam a n ∧ s.live 7 = true ∧ ∀ k, k < n → (s.attr (a + k)).dev = false ∧ (s.attr (a + k)).cache = false

/-- A count of two words, low word first. -/
def State.wide (s : State) (lo hi : Nat) : Nat := s.regN lo + 2 ^ 32 * s.regN hi

/-- The state at the end of the second that the learner closes: its temperature is formed and an Almanac created if it is
time (R129, R130). -/
def State.secondEnd (s : State) : State := (s.advanceTo (s.hld.secAt + 1000000000)).closeY.2.closeTemp.createAlmanac

/-- The frame in service has left the responder's input queue (R34). -/
def State.taken (s : State) : State := s.withNq { s.nq with waiting := s.nq.waiting - 1 }

/-- A protected frame passes R43 and R44 in the session `x`: its port, a higher SEQ below the limit, a good tag. -/
abbrev State.admits (s : State) (port : Nat) (f : NqFrame) (x : Session) : Prop :=
  s.session f.session = some x ∧ f.prot = true ∧ x.port = port ∧ x.seqIn < f.seq ∧ f.seq < 0xFFFFFFFF ∧
    (gcmDecrypt x.key.toNat (nqIv x.id 0 f.seq) f.header f.payload).2 = f.tag

/-- The payload of a protected frame in the clear. -/
def NqFrame.clear (f : NqFrame) (x : Session) : List Byte :=
  (gcmDecrypt x.key.toNat (nqIv x.id 0 f.seq) f.header f.payload).1

/-- The responder has taken a good frame of a session off its queue. -/
def State.heard (s : State) (x : Session) (f : NqFrame) : State :=
  s.taken.modSession x.id (fun y => { y with seqIn := f.seq, lastAt := s.now })

/-- A session with a request under way. -/
def State.engaged (s : State) (id : Nat) : State := s.modSession id (fun y => { y with busy := true })

/-- What a health-test failure of the entropy pool does (R374 to R376): it is reported; a start-up begins, which empties and zeroes
what the pool and the DRBG hold, or with two failures in the second before it the pool halts. -/
def State.poolFails (s t : State) : Prop :=
  let n := (s.trn.fails.filter (fun x => s.now < x + 1000000000)).length
  t.tmp = { s.tmp with reports := s.tmp.reports ++ [⟨15, 0, 0, 0⟩] } ∧
    (2 ≤ n ∨ s.flag R.TRN_STAT_HALT = false → t.trn.fifo = [] ∧ t.trn.drbg = {} ∧ t.trn.out = [] ∧
      t.flag R.TRN_STAT_DRBG_OK = false ∧ t.flag R.TRN_STAT_STARTUP_OK = false ∧ t.flag R.TRN_STAT_EST_VALID = false) ∧
    (2 ≤ n → t.flag R.TRN_STAT_HALT = true ∧ t.trn.starting = none) ∧
    (n < 2 → t.flag R.TRN_STAT_HALT = s.flag R.TRN_STAT_HALT ∧
      (s.flag R.TRN_STAT_HALT = false → t.trn.starting = some s.now))

/-- The result the store refuses a firmware operation with when it starts, 0 when it runs (R383, R385, R389, R390, R392 to R394);
the checks come in this order. -/
def State.storeResult (s : State) (rid : Rid) : NvsOp → Nat
  | .badRange => 5
  | .read p => if p < 2 then 4 else 0
  | .write p =>
    if p < 16 ∨ wardenCore rid = false ∨ (p < 32 ∧ s.flag R.NVS_CFG_BOOTWE = false) then 4
    else if s.band ≠ some 1 ∧ s.band ≠ some 2 then 2
    else if p ∈ s.nvs.readOnly then 3
    else 0
  | .inc c =>
    if wardenCore rid = false then 4
    else if s.band ≠ some 1 ∧ s.band ≠ some 2 then 2
    else if tget 0 s.nvs.mc c = 0xFFFFFFFF then 3
    else 0
  | .roleKey role _ =>
    if wardenCore rid = false ∨ (s.nvs.keys.getD role none).isSome = true then 4
    else if s.band ≠ some 1 ∧ s.band ≠ some 2 then 2
    else if (if s.olderSlotB then 1 else 0) ∈ s.nvs.readOnly then 3
    else 0
  | _ => 0

/-- A hit of tamper source k reaches the supervisor (R397): the mesh, glitch, clock, light and temperature sources hit by
themselves; of the others the oldest report is taken. `v` is the state the filter sees, with the hit's details. -/
def State.hitBy (s v : State) (k detail detail2 unit : Nat) : Prop :=
  ((k ≤ 4 ∨ k = 9) ∧ v = s ∧ detail = 0 ∧ detail2 = 0 ∧ unit = 0) ∨
    (4 < k ∧ k ≠ 9 ∧ ∃ r, s.tmp.reports.find? (fun x => x.source == k) = some r ∧ detail = r.detail ∧ detail2 = r.detail2 ∧
      unit = r.unit ∧ v = s.withTmp { s.tmp with reports := s.tmp.reports.erase r })

/-- The hits of source k the filter holds with one more now, at most 255. -/
def State.hitsNow (s : State) (k : Nat) : List Nat :=
  let h := s.tmpHits k ++ [s.us]
  h.drop (h.length - 255)

/-- Whether a hit of source k now trips its filter (R398): the last N hits lie within W. -/
abbrev State.trips (s : State) (k : Nat) : Prop :=
  let n := max 1 (s.fld (R.TMP_SRC_RESP_N k))
  let h := s.hitsNow k
  n ≤ h.length ∧ s.us - h.getD (h.length - n) 0 ≤ s.fld (R.TMP_SRC_WIN_W k)

/-- A log entry of the tamper supervisor (R405). -/
def State.logEntry (s : State) (k cls detail detail2 : Nat) (restore wipe reset : Bool) : TmpEntry :=
  { w0 := BitVec.ofNat 32 s.rtcSec, w1 := BitVec.ofNat 32 (s.tmp.seq % 65536 * 65536 + s.rtcFrac),
    w2 := BitVec.ofNat 32 (b2n restore * 2 ^ 31 + b2n wipe * 2 ^ 30 + b2n reset * 2 ^ 29 + k * 2 ^ 24 + cls * 2 ^ 20 + detail % 65536),
    w3 := BitVec.ofNat 32 detail2 }

/-- The registers a trip of source k may change beside those of its response. -/
def tripRegs (k : Nat) : List Nat := [R.TMP_LAST, R.EVT_PEND 3] ++ (C.TMP_HIT k).regs ++ C.TMP_TRIPS.regs

/-- The state as housekeeping enters the slot of its next conversion, 0.5 µs long. -/
def State.slotEnd (s : State) : State := s.advanceTo (s.convStart + 500)

/-- What the word of a conversion shows (R413 to R417): code and range flags from the input, SUSPECT inside a recovery window, and
for a voltage the value in mV, divider included, rounded either way. -/
def State.converted (s : State) (w ch code rng start : Nat) : Prop :=
  let ovr := decide (6 ≤ ch) && (rng == 1 || rng == 2)
  let unr := decide (6 ≤ ch) && (rng == 3 || rng == 4)
  nbits w 11 0 = (if ovr then 4095 else if unr then 0 else code) ∧ nbit w 15 = ovr ∧ nbit w 14 = unr ∧
    nbit w 13 = decide (start < s.hk.susUntil) ∧
    (6 ≤ ch → ch ≠ 18 → ch ≠ 19 →
      let mv := (if ovr then 4096 else if unr then 0 else code) * 1800 * hkDivider ch
      mv / 4096 ≤ nbits w 31 16 ∧ 4096 * nbits w 31 16 < mv + 4096)

/-- A read of word `w` finds an uncorrectable error, and the DRAM controller freezes (R450, R451): FROZEN, the count and E96, the
snapshot with its source, or MULTI while an older snapshot stands. -/
def State.freezes (s t : State) (w src : Nat) : Prop :=
  t.flag R.DMC_STAT_FROZEN = true ∧ t.regN C.DMC_UECNT.addr = (s.regN C.DMC_UECNT.addr + 1) % 2 ^ 32 ∧
    t.dmc.failLine = 8 * w / 64 * 64 ∧ t.flag R.DMC_SNAP0_VALID = true ∧ (s.live 7 = true → t.pends 96 = true) ∧
    (s.flag R.DMC_SNAP0_VALID = true → t.flag R.DMC_SNAP0_MULTI = true ∧ t.reg R.DMC_SNAP1 = s.reg R.DMC_SNAP1 ∧
      t.reg R.DMC_SNAP3 = s.reg R.DMC_SNAP3 ∧ t.reg R.DMC_SNAP7 = s.reg R.DMC_SNAP7) ∧
    (s.flag R.DMC_SNAP0_VALID = false → t.fld R.DMC_SNAP0_SOURCE = src ∧ t.regN R.DMC_SNAP1 = 8 * w % 2 ^ 32 ∧
      t.regN R.DMC_SNAP2 = 8 * w / 2 ^ 32 % 2 ∧ t.regN R.DMC_SNAP3 = s.dmcWhere (8 * w) ∧ t.regN R.DMC_SNAP7 = s.calNs)

/-- The registers a freeze may change. -/
def freezeRegs : List Nat :=
  [R.DMC_STAT, R.DMC_SNAP0, R.DMC_SNAP1, R.DMC_SNAP2, R.DMC_SNAP3, R.DMC_SNAP4, R.DMC_SNAP5, R.DMC_SNAP6, R.DMC_SNAP7, R.EVT_PEND 3] ++
    C.DMC_UECNT.regs

/-- A single-bit error of word `w` is corrected in the data returned (R449): counted, its address kept while the log is empty, with
E97 once in a millisecond. -/
def State.corrects (s t : State) (w : Nat) : Prop :=
  t.regN C.DMC_CECNT.addr = (s.regN C.DMC_CECNT.addr + 1) % 2 ^ 32 ∧ t.flag R.DMC_CELOG0_VALID = true ∧
    (s.flag R.DMC_CELOG0_VALID = true → t.reg R.DMC_CELOG0 = s.reg R.DMC_CELOG0 ∧ t.reg R.DMC_CELOG1 = s.reg R.DMC_CELOG1) ∧
    (s.flag R.DMC_CELOG0_VALID = false → t.regN R.DMC_CELOG1 = 8 * w % 2 ^ 32 ∧ nbit (t.regN R.DMC_CELOG0) 0 = nbit (8 * w) 32) ∧
    ((∀ x, s.dmc.ceAt = some x → x + 1000000 ≤ s.now) → s.live 7 = true → t.pends 97 = true)

/-- The registers a correction may change. -/
def correctRegs : List Nat := [R.DMC_CELOG0, R.DMC_CELOG1, R.EVT_PEND 3] ++ C.DMC_CECNT.regs

/-- The interval of all-bank refreshes in ns, and whether timing set H applies, under a thermal band (R443). -/
def refreshes (band : Option Nat) (interval : Nat) (h : Bool) : Prop :=
  ((band = some 0 ∨ band = some 1) → interval = 7800 ∧ h = false) ∧ (band = some 2 → interval = 3900 ∧ h = true) ∧
    ((band = some 3 ∨ band = none) → interval = 1950 ∧ h = true)

/-- The identity card is deactivated: every pin low, STATE OFF (R467). -/
def State.cardOff (t : State) : Prop :=
  t.idc.ven = false ∧ t.idc.vsel = 0 ∧ t.idc.rst = false ∧ t.idc.clock = false ∧ t.fld R.IDC_STAT_STATE = 0

/-- An operation of the identity-card interface ends with a result (R462): DONE with E149 for OK, else ERR with E150. -/
def State.idcSays (s t : State) (res : Nat) : Prop :=
  t.fld R.IDC_RESULT_RESULT = res ∧
    (res = 0 → t.flag R.IDC_EVT_DONE = true ∧ (s.live 7 = true → t.pends 149 = true)) ∧
    (res ≠ 0 → t.flag R.IDC_EVT_ERR = true ∧ (s.live 7 = true → t.pends 150 = true))

/-- The registers the end of an operation of the identity-card interface may change. -/
def idcRegs : List Nat := [R.IDC_STAT, R.IDC_RESULT, R.IDC_EVT, R.EVT_PEND 4]

/-- The first class enabled from class `k` on (R457): 0 C, 1 B, 2 A. -/
abbrev State.classFrom (s : State) (k c : Nat) : Prop :=
  k ≤ c ∧ c < 3 ∧ nbit (s.fld R.IDC_CFG_CLASSEN) c = true ∧ ∀ j, k ≤ j → j < c → nbit (s.fld R.IDC_CFG_CLASSEN) j = false

/-- No class is enabled from class `k` on. -/
abbrev State.noClass (s : State) (k : Nat) : Prop := ∀ j, k ≤ j → j < 3 → nbit (s.fld R.IDC_CFG_CLASSEN) j = false

/-- Activation in class `c` begins in the state `u` (R457, R458). -/
def State.activates (u t : State) (c : Nat) : Prop :=
  t.idc = { u.idc with ven := true, vsel := c, rst := false, clock := false, classNow := c, retryAt := none,
                       stepAt := u.now + max 1 (u.fld R.IDC_VWAIT_WAIT) * 10000 + u.idcCycles 500 } ∧
    t.fld R.IDC_STAT_STATE = 1 ∧ t.fld R.IDC_STAT_CLASS = c ∧ t.flag R.IDC_STAT_CONV = false

/-- A transfer of the identity card ends (R462, R465, R466): READY, BWTX 1 again after a block of T=1, and with OK or PROC the
response in the receive buffer with its length, else a length of 0 and the buffer as it was. -/
def State.idcEnds (s t : State) (res : Nat) (resp : List Byte) : Prop :=
  s.idcSays t res ∧ t.fld R.IDC_STAT_STATE = 4 ∧ (s.fld R.IDC_STAT_PROTO = 1 → t.regN R.IDC_BWTX = 1) ∧
    (s.fld R.IDC_STAT_PROTO = 0 → t.reg R.IDC_BWTX = s.reg R.IDC_BWTX) ∧
    (res = 0 ∨ res = 7 → t.reg R.IDC_RXLEN = BitVec.ofNat 32 resp.length ∧
      (∀ k, k < resp.length → tget 0 t.idc.rx k = resp.getD k 0) ∧ t.idc = { s.idc with rx := t.idc.rx }) ∧
    (res ≠ 0 → res ≠ 7 → t.regN R.IDC_RXLEN = 0 ∧ t.idc = s.idc)

/-- An SD operation ends with a result (R470, R472): DONE with E152 for OK, else ERR with E153. -/
def State.sdSays (s t : State) (res : Nat) : Prop :=
  t.fld R.SDH_RESULT_RESULT = res ∧
    (res = 0 → t.flag R.SDH_EVT_DONE = true ∧ (s.live 7 = true → t.pends 152 = true)) ∧
    (res ≠ 0 → t.flag R.SDH_EVT_ERR = true ∧ (s.live 7 = true → t.pends 153 = true)) ∧
    t.regN C.SDH_CRCCNT.addr = (s.regN C.SDH_CRCCNT.addr + b2n (res == 2 || res == 4)) % 2 ^ 32 ∧
    t.regN C.SDH_TOCNT.addr = (s.regN C.SDH_TOCNT.addr + b2n (res == 1 || res == 3 || res == 6 || res == 14)) % 2 ^ 32

/-- The registers the end of an SD operation may change. -/
def sdRegs : List Nat :=
  [R.SDH_CTRL, R.SDH_STAT, R.SDH_RESULT, R.SDH_EVT, R.EVT_PEND 4] ++ C.SDH_CRCCNT.regs ++ C.SDH_TOCNT.regs

/-- The SD card is powered off: the supply off, 3.3 V, STATE OFF (R477). -/
def State.sdCardOff (t : State) : Prop :=
  t.sdh.pwren = false ∧ t.sdh.vsel = false ∧ t.fld R.SDH_STAT_STATE = 0 ∧ t.flag R.SDH_STAT_V18 = false

/-- The mode that steps 6 and 7 of R470 select: the highest the card, the signalling and MAXMODE allow, SDR50 where tuning of SDR104
finds no phase. -/
def State.sdMode (s : State) (v18 : Bool) (r : SdInitResult) : Nat :=
  let m := min (min r.mode.val (s.fld R.SDH_CFG_MAXMODE)) (if v18 then 3 else 1)
  if m = 3 ∧ r.tuned = false then 2 else m

/-- A power request ends (R483): PWR_RESULT, the counts, and E154 for DONE or E155 for a refusal. -/
def State.pwrEnds (s t : State) (r : PwrReq) (internal : Bool) (status : Nat) (changed : Bool) : Prop :=
  t.regN R.PWR_RESULT = 2 ^ 31 + b2n internal * 2 ^ 30 + r.domain % 32 * 2 ^ 16 + r.action % 4 * 2 ^ 8 + status ∧
    t.regN C.PWR_SWITCHES.addr = (s.regN C.PWR_SWITCHES.addr + b2n (status == 0 && changed)) % 2 ^ 32 ∧
    t.regN C.PWR_REFUSED.addr = (s.regN C.PWR_REFUSED.addr + b2n (status != 0)) % 2 ^ 32 ∧
    (t.live 7 = true → t.pends (if status = 0 then 154 else 155) = true)

/-- The registers the end of a power request may change. -/
def pwrRegs : List Nat := [R.PWR_RESULT, R.EVT_PEND 4] ++ C.PWR_SWITCHES.regs ++ C.PWR_REFUSED.regs

/-- The registers that show the states of the domains. -/
def domRegs : List Nat := [R.PWR_STATE0, R.PWR_STATE1]

/-- The next power request: Vigil's first that is not met already, else the first of the queue (R482, R486). -/
def State.nextPower (s : State) (r : PwrReq) (internal : Bool) (vigil queue : List PwrReq) : Prop :=
  (internal = true ∧ queue = s.pwr.queue ∧ ∃ met, s.pwr.vigil = met ++ r :: vigil ∧ (∀ x ∈ met, s.dom x.domain = x.action) ∧
      s.dom r.domain ≠ r.action) ∨
    (internal = false ∧ vigil = [] ∧ (∀ x ∈ s.pwr.vigil, s.dom x.domain = x.action) ∧ s.pwr.queue = r :: queue)

/-- A power request is invalid (R483). -/
abbrev State.pwrInvalid (s : State) (r : PwrReq) : Prop :=
  r.domain = 0 ∨ 23 < r.domain ∨ 2 < r.action ∨ (r.action = 2 ∧ ((r.domain ≠ 5 ∧ r.domain ≠ 6) ∨ s.dom r.domain = 0))

/-- A system reset of a cause begins (R500 to R502): recorded in PD0, RST_OUT_N low, the domains in scope held, the request queue
empty; sessions stay. -/
def State.resets (u t : State) (cause : Nat) : Prop :=
  let timing := cause = 1 ∨ cause = 2 ∨ cause = 7 ∨ u.flag R.RST_CFG_KEEP_TIMING = false
  t.inHold = true ∧ t.regN R.RST_LAST = cause ∧ nbit (t.regN R.RST_CAUSE) cause = true ∧
    t.regN R.RST_COUNT = (u.regN R.RST_COUNT + 1) % 2 ^ 32 ∧ t.flag R.RST_REMAP_REMAP = false ∧ t.flag R.RST_WDOG_CFG_EN = false ∧
    t.rst.rstOutHigh = false ∧ t.pwr.queue = [] ∧ t.tmp.reports = u.tmp.reports ++ [⟨19, 0, 0, 0⟩] ∧
    t.nq.sessions = u.nq.sessions ∧ t.sram = u.sram ∧ t.nvs = u.nvs ∧ t.fus = u.fus ∧ (∀ d, d < 24 → t.dom d = u.dom d) ∧
    (∀ d, (3 ≤ d ∧ d ≤ 20) ∨ d = 22 → t.up d = false) ∧
    (∀ d, d = 1 ∨ d = 2 ∨ d = 21 → (timing → t.up d = false) ∧ (¬ timing → t.up d = u.up d)) ∧
    (cause = 7 → t.up 23 = false) ∧ (cause ≠ 7 → t.up 23 = u.up 23) ∧ ∀ n, n < 8 → t.thr n = {}

/-- Vigil asks for the boot set, once VDD_CORE is good (R487, R498). -/
def State.asksBootSet (s t : State) : Prop :=
  (s.rst.coreGood = true → t.rst.phase = .bootSet ∧ t.flag R.RST_STAT_CORE_WAIT = false ∧
      ∀ d, d < 24 → d ≠ 0 → nbit (s.regN R.PWR_BOOTSET) d = true → (s.isAN = true → d ≠ 8 ∧ d ≠ 9) → (⟨d, 1⟩ : PwrReq) ∈ t.pwr.vigil) ∧
    (s.rst.coreGood = false → t.rst.phase = .waitCore ∧ t.flag R.RST_STAT_CORE_WAIT = true)

/-- The boot ROM runs on T0 and tries its source `src` (R511): 1 store, 2 SD, 3 Niquevor. -/
abbrev State.romTries (s : State) (src : Nat) : Prop :=
  s.romRuns = true ∧ src ≠ 0 ∧ s.rst.boot.sources.getD s.rst.boot.index 0 = src

end Sys2Proof.Machine
end

