-- ==== Sys2Proof/Certificates/Slice0/Obligations.lean ====
section
/-!
DEFINITION. The statements about the row's block, one `Prop` each, for the provers. Each docstring names the rules of the
specification it rests on. A clause of the form "for every state that meets these conditions there is a `t` with
`exec c s = .next t`" says that the command completes and what it leaves; `State.framed` says what else stays.
-/

open Sys2Proof Sys2Proof.Machine


/-! ### The queue, reset, and what every step keeps -/

/-- A step takes the command at the front of the queue and has its effect with the rest of the queue waiting; with no command waiting,
1 ns passes (the model's choice, log entry 54). Every command answers a next state and leaves the queue as it was, so no run stops. -/
def Obligations.StepTakesFront : Prop :=
  (∀ (s : State) (c : Instr) (rest : List Instr), s.pending = c :: rest →
    step s = exec c { s with pending := rest }) ∧
  (∀ (s : State) (c : Instr), ∃ t, exec c s = .next t ∧ t.pending = s.pending) ∧
  (∀ (s : State), s.pending = [] → ∃ t, step s = .next t ∧ t.now = s.now + 1 ∧ t.pending = [] ∧
    (s.live 1 = false → s.framed t [.now] []) ∧
    (s.live 1 = true → s.flag R.CAL_STEP_PEND = false → t.cal = { s.cal with t := s.cal.t + s.calRate }))

/-- R92, R479, R497, R498 and the reset columns: after the power-on reset PD0 alone is ON, the queue, the sessions, the tamper log and the
role keys are empty, and the registers of reset and power hold their reset values; the memories are in canonical form. That SRAM
and DRAM list nothing then is the model's choice (log entry 55). -/
def Obligations.ResetState : Prop :=
  State.reset.pending = [] ∧ State.reset.canonical ∧ State.reset.dom 0 = 1 ∧
    (∀ d, d < 24 → 0 < d → State.reset.dom d = 0) ∧ State.reset.vigil = true ∧ State.reset.sram = [] ∧ State.reset.dmc.mem = [] ∧
    State.reset.regN R.RST_CAUSE = 1 ∧ State.reset.regN R.RST_LAST = 0 ∧ State.reset.regN R.RST_COUNT = 0 ∧
    State.reset.fld R.RST_CFG_OUTEXT = 10 ∧ State.reset.flag R.RST_CFG_KEEP_TIMING = true ∧ State.reset.flag R.RST_CFG_DF_POL = false ∧
    State.reset.flag R.RST_STAT_PIN_ARMED = true ∧ State.reset.flag R.RST_STAT_CORE_WAIT = true ∧
    State.reset.flag R.RST_REMAP_REMAP = false ∧ State.reset.fld R.RST_WDOG_CFG_TIMEOUT = 60 ∧
    State.reset.flag R.RST_WDOG_CFG_EN = false ∧ State.reset.regN R.PWR_BOOTSET = 0x002000EF ∧ State.reset.pwr = {} ∧
    State.reset.flag R.TMP_STAT_LOAD_FAIL = true ∧ State.reset.tmp.log = [] ∧ State.reset.nvs.keys = [none, none, none] ∧
    State.reset.nq.sessions = [] ∧ State.reset.cip.pages = [] ∧ State.reset.trn.starting = some 0 ∧
    (∀ n, n < 8 → (State.reset.thr n).run = 0) ∧ State.reset.fld R.HK_PERIOD_US = 1000 ∧ State.reset.flag R.HK_CTRL_EN = true

/-- Every step keeps the canonical form: SRAM and DRAM list their bytes in rising order and none that reads as an unlisted one, and the
register table is in rising order. -/
def Obligations.CanonicalKept : Prop :=
  ∀ (s t : State), s.canonical → step s = .next t → t.canonical

/-! ### Niquevor -/

/-- R36, R38, R39, R47: on the field port, outside a session, a READ of an object of at most 16 bytes queues one Response with
status OK and the value; a SEGMENT_START for a read of an object opens a transfer of its bytes; a SEGMENT of a read sends the
next part of it, LAST on the final one; an ABORT ends the transfer. Nothing but the responder changes. -/
def Obligations.FieldPortReads : Prop :=
  (∀ (s : State) (b : List Byte) (f : NqFrame) (r : ObjRow) (i sub : Nat),
    s.vigil = true → nqParse 24 b = some f → f.kind = 1 → f.prot = false → f.session = 0 → nqShape 1 f.payload = true →
    i = beNat (f.payload.take 2) → sub = ((f.payload.drop 2).headD 0).toNat →
    s.taken.objLook i sub false none = .obj r → (s.taken.objBytes r i sub).length ≤ 16 →
    ∃ t m, exec (.read 24 b) s = .next t ∧ m ≠ 0 ∧
      t.nq.out = s.nq.out ++ [⟨24, 0, 3, m, nqPlain 3 false 0 0 (nqObj i sub 0 ++ s.taken.objBytes r i sub)⟩] ∧
      s.framed t [.nq] []) ∧
  (∀ (s : State) (b : List Byte) (f : NqFrame) (r : ObjRow) (i sub : Nat),
    s.vigil = true → nqParse 24 b = some f → f.kind = 4 → f.prot = false → f.session = 0 → nqShape 4 f.payload = true →
    i = beNat (f.payload.take 2) → sub = ((f.payload.drop 2).headD 0).toNat → (f.payload.drop 3).headD 0 = 0 →
    (s.taken.endXfer 24 0).objLook i sub false none = .obj r →
    ∃ t m x, exec (.segmentStart 24 b) s = .next t ∧ t.xfer 24 0 = some x ∧ x.index = i ∧ x.sub = sub ∧
      x.data = (s.taken.endXfer 24 0).objBytes r i sub ∧ x.isWrite = false ∧ x.offset = 0 ∧ x.total = x.data.length ∧
      t.nq.out = s.nq.out ++ [⟨24, 0, 3, m, nqPlain 3 false 0 0 (nqObj i sub 0 ++ beBytes 4 x.total)⟩] ∧
      s.framed t [.nq] []) ∧
  (∀ (s : State) (b : List Byte) (f : NqFrame) (x : Transfer) (r : ObjRow) (needs : List Nat),
    s.vigil = true → nqParse 24 b = some f → f.kind = 5 → f.prot = false → f.session = 0 → nqShape 5 f.payload = true →
    f.payload.length = 8 → s.xfer 24 0 = some x → x.isWrite = false → x.fw = false →
    x.index = beNat (f.payload.take 2) → x.sub = ((f.payload.drop 2).headD 0).toNat →
    x.offset = beNat ((f.payload.drop 4).take 4) → objFind s.isAN x.index x.sub = .obj r needs →
    s.objUp needs x.index = true → x.total ≤ 1024 ∨ s.objMarker x.index x.sub = x.marker →
    let part := (x.data.drop x.offset).take 1024
    let last := decide (x.total ≤ x.offset + part.length)
    ∃ t, exec (.segment 24 b) s = .next t ∧
      t.nq.out = s.nq.out ++
        [⟨24, 0, 5, 1, nqPlain 5 last 0 0 (nqObj x.index x.sub 0 ++ beBytes 4 x.offset ++ part)⟩] ∧
      t.xfer 24 0 = (if last then none else some { x with offset := x.offset + part.length, at_ := s.now, port := 24, session := 0 }) ∧
      s.framed t [.nq] []) ∧
  (∀ (s : State) (b : List Byte) (f : NqFrame),
    s.vigil = true → nqParse 24 b = some f → f.kind = 12 → f.prot = false → f.session = 0 → nqShape 12 f.payload = true →
    ∃ t, exec (.abort 24 b) s = .next t ∧ t.xfer 24 0 = none ∧
      (∀ p id, (p, id) ≠ (24, 0) → t.xfer p id = s.xfer p id) ∧ t.nq.out = s.nq.out ∧ s.framed t [.nq] [])

/-- R37, R40, R42 to R46: within a session, a WRITE of a value of at most 16 bytes is stored by the object's rule and its status
answered; an ANSWER with the nonce opens the session and sends Accept; a CLOSE removes the session and its transfers. A
SESSION_OPEN outside a lockout, with the keys installed and fewer than four sessions, makes a session with the key of R43 and
sends Challenge. -/
def Obligations.SessionFrames : Prop :=
  (∀ (s : State) (port : Fin 25) (b : List Byte) (f : NqFrame) (x : Session) (r : ObjRow) (i sub : Nat),
    s.vigil = true → nqParse port.val b = some f → f.kind = 2 → s.admits port.val f x → x.isOpen = true → x.busy = false →
    nqShape 2 (f.clear x) = true → i = beNat ((f.clear x).take 2) → sub = (((f.clear x).drop 2).headD 0).toNat →
    ((s.heard x f).engaged x.id).objLook i sub true (some x.role) = .obj r → ((f.clear x).drop 4).length ≤ 16 →
    let w := ((s.heard x f).engaged x.id).objStore r i sub ((f.clear x).drop 4)
    exec (.write port b) s = .next (w.2.nqRespond port.val x.id i sub w.1 [])) ∧
  (∀ (s : State) (port : Fin 25) (b : List Byte) (f : NqFrame) (x : Session),
    s.vigil = true → nqParse port.val b = some f → f.kind = 9 → s.admits port.val f x → x.isOpen = false →
    nqShape 9 (f.clear x) = true → beNat (f.clear x) = x.nd.toNat → (s.heard x f).openSessions < 4 →
    x.seqOut < 0xFFFFFFFE →
    ∃ t y, exec (.answer port b) s = .next t ∧ t.session x.id = some y ∧ y.isOpen = true ∧ y.seqIn = f.seq ∧
      y.seqOut = x.seqOut + 1 ∧ y.key = x.key ∧ s.framed t [.nq] []) ∧
  (∀ (s : State) (port : Fin 25) (b : List Byte) (f : NqFrame) (x : Session),
    s.vigil = true → nqParse port.val b = some f → f.kind = 11 → s.admits port.val f x → x.isOpen = true →
    nqShape 11 (f.clear x) = true →
    ∃ t, exec (.close port b) s = .next t ∧ t.session x.id = none ∧ (∀ p, t.xfer p x.id = none) ∧
      (∀ id, id ≠ x.id → t.session id = s.session id) ∧ s.framed t [.nq] []) ∧
  (∀ (s s1 s2 : State) (port : Fin 25) (b : List Byte) (f : NqFrame) (k wk : BitVec 256) (nd id : Nat),
    s.vigil = true → nqParse port.val b = some f → f.kind = 7 → f.prot = false → f.session = 0 →
    nqShape 7 f.payload = true → tget 0 s.nq.lockUntil port.val ≤ s.now → s.nvs.keys.getD 2 none = some wk →
    s.nvs.keys.getD (f.payload.headD 0).toNat none = some k → s.openSessions < 4 →
    s.taken.nqNonce = some (nd, s1) → s1.freeSession = (some id, s2) →
    ∃ t, exec (.sessionOpen port b) s = .next t ∧
      (∃ x ∈ t.nq.sessions, x.id = id ∧ x.role = (f.payload.headD 0).toNat ∧ x.port = port.val ∧ x.isOpen = false ∧
        x.key = sessionKey k.toNat (beNat (f.payload.drop 1)) nd id) ∧
      t.nq.sessions.length = s.nq.sessions.length + 1 ∧
      (port.val = 24 → t.nq.out = s.nq.out ++ [⟨24, id, 8, 0, nqPlain 8 false id 0 (beBytes 16 nd)⟩]) ∧
      s.framed t [.free, .trn, .nq] [])

/-- R39, R45, R46, R54, R55, R57: when a segment gap exceeds 1 s the transfer ends with an Abort TIMEOUT; at the idle limit a
session is gone; at the end of a lockout its port takes Session opens again; a bulletin instance that falls due enters the
queue while it holds fewer than 32; a transmit opportunity sends the oldest frame, or the oldest bulletin when no other frame
waits; a delegated request unanswered for 1.5 ms is answered BUSY. The time is that of the event; besides the responder, only
NQ_STAT changes then. -/
def Obligations.ResponderTimers : Prop :=
  (∀ (s : State) (port : Fin 25) (session : BitVec 16) (x : Transfer),
    s.vigil = true → s.xfer port.val session.toNat = some x →
    let u := s.advanceTo (x.at_ + 1000000001)
    ∃ t, exec (.segmentGapTimeout port session) s = .next t ∧ t.xfer port.val session.toNat = none ∧ u.framed t [.nq] [] ∧
      (port.val = 24 → session = 0 →
        t.nq.out = s.nq.out ++ [⟨24, 0, 12, 0, nqPlain 12 false 0 0 (nqObj x.index x.sub 0x0B)⟩])) ∧
  (∀ (s : State) (session : BitVec 16) (x : Session),
    s.vigil = true → s.session session.toNat = some x →
    let u := s.advanceTo (x.lastAt + s.idleLimit * 1000000000)
    ∃ t, exec (.sessionIdleLimit session) s = .next t ∧ t.session session.toNat = none ∧
      (∀ p, t.xfer p session.toNat = none) ∧ u.framed t [.nq] []) ∧
  (∀ (s : State) (port : Fin 25),
    s.vigil = true → s.nq.lockUntil.any (fun p => p.1 == port.val) = true →
    let u := s.advanceTo (tget 0 s.nq.lockUntil port.val)
    ∃ t, exec (.sessionOpenLockoutEnd port) s = .next t ∧ tget 0 t.nq.lockUntil port.val = 0 ∧
      t.nq.sessions = s.nq.sessions ∧ u.framed t [.nq] []) ∧
  (∀ (s : State) (n : Fin 16) (k due : Nat),
    s.vigil = true → s.bulOn n.val = true → s.nq.nextDue.find? (fun p => p.1 == n.val) = some (k, due) →
    s.nq.bulQueue.length < 32 →
    let u := s.advanceTo due
    ∃ t, exec (.bulletinDue n) s = .next t ∧ t.nq.bulQueue.length = s.nq.bulQueue.length + 1 ∧
      (∃ x ∈ t.nq.bulQueue, x.number = n.val ∧ x.due = due) ∧
      tget 0 t.nq.nextDue n.val = due + u.objVal (0x1041 + n.val) 1 * 1000000 ∧ u.framed t [.nq] []) ∧
  (∀ (s : State) (o : NqOut) (outs : List NqOut),
    s.vigil = true → s.nq.bulQueue = [] → s.nq.out = o :: outs →
    ∃ t, exec .transmitOpportunity s = .next t ∧ t.nq.out = outs ∧ t.nq.sent = some o ∧
      (o.mark ≠ 0 → ∀ y, t.session o.session = some y → y.busy = false) ∧ s.framed t [.nq] []) ∧
  (∀ (s : State) (x : BulInst) (rest : List BulInst),
    s.vigil = true → s.nq.bulQueue = x :: rest → s.nq.out = [] → s.now ≤ x.due + 1000000 → s.nq.backlog = [] →
    ∃ t o, exec .transmitOpportunity s = .next t ∧ t.nq.sent = some o ∧ o.port = 24 ∧ o.kind = 6 ∧ t.nq.bulQueue = rest ∧
      t.nq.bulSeq = (s.nq.bulSeq + 1) % 2 ^ 32 ∧ s.framed t [.nq] []) ∧
  (∀ (s : State) (d : Delegation),
    s.vigil = true → s.nq.deleg = [d] → d.dead = false → d.op ≤ 1 → d.port = 24 → d.session = 0 →
    let u := s.advanceTo (d.at_ + 1500000)
    ∃ t m, exec .delegationTimeout s = .next t ∧ t.flag R.NQ_STAT_DLG_TIMEOUT = true ∧
      t.nq.deleg = [{ d with dead := true }] ∧
      t.nq.out = s.nq.out ++ [⟨24, 0, 3, m, nqPlain 3 false 0 0 (nqObj d.index d.sub 8)⟩] ∧
      u.framed t [.regs, .nq] [R.NQ_STAT])

/-- R52, R57, R453, R528, R532, R535, R537: a Warden session's SAVE_PERSISTENT queues the save to the store, RESTORE_DEFAULTS
pends, a role key is queued to the store, UNFREEZE_OBJECT gives the sequence of R453 whole, COMMIT_REQUEST_OBJECT with GO begins
a commit when the matrix is idle; each is answered OK. The last segment of an Eve image begins its copy; when the copy is
done, the table holds the image and OK is answered. Advancing
the tail of the delegation ring releases the entries it passes and answers those that wait from what firmware put there. -/
def Obligations.ObjectCommands : Prop :=
  (∀ (s : State) (id : BitVec 16) (x : Session) (r : ObjRow),
    s.vigil = true → s.session id.toNat = some x → x.isOpen = true → x.busy = false →
    (s.engaged x.id).objLook 0x1010 1 true (some x.role) = .obj r → r.acc ≠ .rwp → r.size = 4 →
    s.nq.restorePend = false → s.nq.saveState ≠ 1 → s.storeBand = true → s.persistReadOnly = false →
    exec (.savePersistent id) s =
      .next ((State.nvsRequest ((s.engaged x.id).withNq { (s.engaged x.id).nq with saveState := 1 }) .responder
        .persistSave).nqRespond x.port x.id 0x1010 1 0 [])) ∧
  (∀ (s : State) (id : BitVec 16) (x : Session) (r : ObjRow),
    s.vigil = true → s.session id.toNat = some x → x.isOpen = true → x.busy = false →
    (s.engaged x.id).objLook 0x1011 1 true (some x.role) = .obj r → r.acc ≠ .rwp → r.size = 4 →
    exec (.restoreDefaults id) s =
      .next (((s.engaged x.id).withNq { (s.engaged x.id).nq with restorePend := true }).nqRespond x.port x.id 0x1011 1 0 [])) ∧
  (∀ (s : State) (id : BitVec 16) (role : Fin 3) (key : BitVec 256) (x : Session) (r : ObjRow),
    s.vigil = true → s.session id.toNat = some x → x.isOpen = true → x.busy = false →
    (s.engaged x.id).objLook 0x4030 (role.val + 1) true (some x.role) = .obj r → s.storeBand = true →
    (s.nvsTargets (.roleKey role.val key)).any (fun p => s.nvs.readOnly.contains p) = false →
    exec (.roleKeyWrite id role key) s =
      .next (((s.engaged x.id).nvsRequest .responder (.roleKey role.val key)).nqRespond x.port x.id 0x4030 (role.val + 1)
        0 [])) ∧
  (∀ (s : State) (id : BitVec 16) (data : Word) (x : Session) (r : ObjRow),
    s.vigil = true → s.session id.toNat = some x → x.isOpen = true → x.busy = false →
    (s.engaged x.id).objLook 0x7050 5 true (some x.role) = .obj r → r.acc ≠ .rwp → r.size = 4 →
    data = 0x5AFE0005 → s.flag R.DMC_STAT_FROZEN = true → s.dmc.resuming = false → s.dmc.unf = none →
    exec (.unfreezeObject id data) s =
      .next (((s.engaged x.id).withDmc { s.dmc with resuming := true }).nqRespond x.port x.id 0x7050 5 0 [])) ∧
  (∀ (s : State) (id : BitVec 16) (data : Word) (x : Session) (r : ObjRow),
    s.vigil = true → s.session id.toNat = some x → x.isOpen = true → x.busy = false →
    (s.engaged x.id).objLook 0x3011 2 true (some x.role) = .obj r → r.acc ≠ .rwp → r.size = 4 →
    data.getLsbD 0 = true → data.getLsbD 1 = false → data.getLsbD 2 = false → data.getLsbD 8 = false →
    data.extractLsb' 4 2 ≠ 3 →
    s.mtxState = 0 → s.flag R.MTX_STAT_EVE_BUSY = false →
    ∃ t, exec (.commitRequestObject id data) s = .next t ∧ t.mtxState = 1 ∧
      (x.port = 24 → x.seqOut < 0xFFFFFFFE → ∃ o, t.nq.out = s.nq.out ++ [o] ∧ o.kind = 3 ∧ o.session = x.id)) ∧
  (∀ (s : State) (id : BitVec 16) (data : List Byte) (x : Session) (y : Transfer),
    s.vigil = true → s.session id.toNat = some x → x.isOpen = true → x.busy = false → s.xfer x.port x.id = some y →
    y.index = 0x3011 → y.sub = 1 → y.isWrite = true → y.fw = false → y.offset + data.length = y.total → data.length ≤ 1024 →
    y.total < 2 ^ 32 → s.objUp [6, 7, 12] 0x3011 = true →
    let w := if data = [] then (false, s.engaged x.id)
      else (s.engaged x.id).memWrite ridResponder (0x101F0000 + y.offset) data
    w.1 = false → w.2.eveOpen = true →
    ∃ t, exec (.eveImageWrite id data) s = .next t ∧ t.nq.eveImage = some (x.port, x.id) ∧ t.flag R.MTX_STAT_EVE_BUSY = true ∧
      t.xfer x.port x.id = none ∧ w.2.framed t [.regs, .nq] [R.MTX_STAT]) ∧
  (∀ (s : State) (port id : Nat),
    s.vigil = true → s.nq.eveImage = some (port, id) → s.live 12 = true → s.flag R.MTX_STAT_EVE_BUSY = true →
    let r := (s.withNq { s.nq with eveImage := none }).memRead ridResponder 0x101F0000 49152
    r.1.2 = false →
    ∃ t, exec .eveImageCopyDone s = .next t ∧ t.nq.eveImage = none ∧ t.mtx.eve = imageTable 0 r.1.1 ∧
      t.flag R.MTX_STAT_EVE_BUSY = false ∧ t.nq.eveMark = s.nq.eveMark + 1 ∧ t.mtx.day = s.mtx.day ∧
      r.2.framed t [.regs, .mtx, .nq] [R.MTX_STAT]) ∧
  (∀ (s : State) (rid : Rid) (tail : BitVec 3),
    let n := (tail.toNat + 8 - s.fld R.NQ_DLG_TAIL_TAIL) % 8
    s.serves rid 0 → (s.nq.deleg.take n).all (·.dead) = true →
    ∃ t, exec (.delegationAnswer rid tail) s = .next t ∧ t.fld R.NQ_DLG_TAIL_TAIL = tail.toNat ∧
      t.nq.deleg = s.nq.deleg.drop n ∧ t.nq.out = s.nq.out ∧ s.framed t [.regs, .answer, .nq] [R.NQ_DLG_TAIL]) ∧
  (∀ (s : State) (rid : Rid) (tail : BitVec 3) (d : Delegation) (rest : List Delegation),
    s.serves rid 0 → tail.toNat = (s.fld R.NQ_DLG_TAIL_TAIL + 1) % 8 → s.nq.deleg = d :: rest → d.dead = false → d.op = 0 →
    d.port = 24 → d.session = 0 →
    ∃ t u, exec (.delegationAnswer rid tail) s = .next t ∧ u.fld R.NQ_DLG_TAIL_TAIL = tail.toNat ∧ u.nq.deleg = rest ∧
      s.framed u [.regs, .answer, .nq] [R.NQ_DLG_TAIL] ∧
      let r := u.memRead 0xE0 (u.ringAddr d.entry) 64
      let st := ((r.1.1.drop 5).headD 0).toNat
      t = r.2.nqRespond 24 0 d.index d.sub st
        (if st = 0 then slice r.1.1 8 (min (leNat ((r.1.1.drop 6).take 2)) 16) else []))

/-! ### Register behaviour -/

/-- R65, R66, R69, R71, R86: a register write stores each bit by its access code, a masked write only the bits of its mask, an
alias write sets, clears or toggles the writable bits alone; what the block then does it does with the register so changed. -/
def Obligations.RegisterWrites : Prop :=
  (∀ (s : State) (rid : Rid) (addr data : Word) (b : BlockDesc) (r : RegDesc) (c : Instr),
    c = .registerWrite rid addr data ∨ c = .stagedCounterLoad rid addr data →
    s.serves rid b.domain → regSpace addr.toNat = true → blockAt addr.toNat = some b → addr.toNat % 4 = 0 →
    b.form addr.toNat = .own r → mayWrite b rid = true → b.masked = false → r.shadowed = false →
    ¬ (b.base + 0x3F0 ≤ addr.toNat ∧ addr.toNat < b.base + 0x400) → s.locked b = false ∨ r.bits .rwl = 0 →
    ∃ u, exec c s = .next (blockWrite b.code rid addr.toNat data (s.reg addr.toNat) u).settleDma ∧
      (∀ i, i < 32 →
        (u.reg addr.toNat).getLsbD i = s.writtenBit b r (s.reg addr.toNat) data 0xFFFFFFFF i) ∧
      s.framed u [.regs, .answer] [addr.toNat]) ∧
  (∀ (s : State) (rid : Rid) (addr data : Word) (b : BlockDesc) (r : RegDesc),
    s.serves rid b.domain → regSpace addr.toNat = true → blockAt addr.toNat = some b → addr.toNat % 4 = 0 →
    b.form addr.toNat = .own r → mayWrite b rid = true → b.masked = true → data.toNat / 2 ^ 16 ≠ 0 → r.shadowed = false →
    ¬ (b.base + 0x3F0 ≤ addr.toNat ∧ addr.toNat < b.base + 0x400) → s.locked b = false ∨ r.bits .rwl = 0 →
    ∃ u, exec (.maskedWrite rid addr data) s = .next (blockWrite b.code rid addr.toNat data (s.reg addr.toNat) u).settleDma ∧
      (∀ i, i < 32 →
        (u.reg addr.toNat).getLsbD i = s.writtenBit b r (s.reg addr.toNat) (data &&& 0xFFFF) (data >>> 16) i) ∧
      s.framed u [.regs, .answer] [addr.toNat]) ∧
  (∀ (s : State) (rid : Rid) (addr data : Word) (b : BlockDesc) (r : RegDesc) (form x : Nat),
    s.serves rid b.domain → regSpace addr.toNat = true → blockAt addr.toNat = some b → addr.toNat % 4 = 0 →
    b.form addr.toNat = .aliasForm r form x → mayWrite b rid = true → s.rwMask b r ≠ 0 →
    s.locked b = false ∨ r.bits .rwl = 0 →
    ∃ u, exec (.aliasWrite rid addr data) s =
        .next (blockWrite b.code rid x (u.reg x &&& s.rwMask b r) (s.reg x) u).settleDma ∧
      (∀ i, i < 32 → (u.reg x).getLsbD i =
        if (s.rwMask b r).getLsbD i then
          (if form = 1 then (s.reg x).getLsbD i || data.getLsbD i
           else if form = 2 then (s.reg x).getLsbD i && !data.getLsbD i
           else (s.reg x).getLsbD i ^^ data.getLsbD i)
        else (s.reg x).getLsbD i && !(r.bits .wo).getLsbD i) ∧
      s.framed u [.regs, .answer] [x])

/-- R71, R83, R85, R88: a read clears the RC fields of its register and answers its value; a read of the low word of a counter
of two words keeps the high word of that instant; a LOCK sets the lock of its block and nothing else. R62, R63, R74, R75: an access that nothing decodes is logged with its address while the log is empty, counted, and raises
E40; one to an unavailable target gets an error response, is logged, counted and raises E41, and so does one whose crossing has
not completed in 4 µs. -/
def Obligations.ReadsAndRefusals : Prop :=
  (∀ (s : State) (rid : Rid) (addr : Word) (b : BlockDesc) (r : RegDesc),
    s.serves rid b.domain → regSpace addr.toNat = true → blockAt addr.toNat = some b → addr.toNat % 4 = 0 →
    b.form addr.toNat = .own r → isWideHigh addr.toNat = false → wideHigh addr.toNat = none →
    let v := regRead b r rid addr.toNat (s.withAnswer { rid := rid })
    ∃ t, exec (.rcRead rid addr) s = .next t ∧ t.answer.data = v.1 ∧
      (∀ i, i < 32 → (t.reg addr.toNat).getLsbD i = ((v.2.reg addr.toNat).getLsbD i && !(r.bits .rc).getLsbD i)) ∧
      v.2.framed t [.regs, .answer] [addr.toNat]) ∧
  (∀ (s : State) (rid : Rid) (addr : Word) (b : BlockDesc) (r : RegDesc) (h : Nat),
    s.serves rid b.domain → regSpace addr.toNat = true → blockAt addr.toNat = some b → addr.toNat % 4 = 0 →
    b.form addr.toNat = .own r → isWideHigh addr.toNat = false → wideHigh addr.toNat = some h → r.bits .rc = 0 →
    let v := regRead b r rid addr.toNat (s.withAnswer { rid := rid })
    ∃ t, exec (.counterLowWordRead rid addr) s = .next t ∧ t.answer.data = v.1 ∧ tget 0 t.snaps h = v.2.reg h ∧
      v.2.framed t [.answer, .snaps] []) ∧
  (∀ (s : State) (rid : Rid) (addr : Word) (b : BlockDesc),
    s.serves rid b.domain → regSpace addr.toNat = true → blockAt addr.toNat = some b → mayWrite b rid = true →
    ∃ t, exec (.lock rid addr) s = .next t ∧ t.locked b = true ∧ s.framed t [.regs, .answer] [b.base + 0x3F0]) ∧
  (∀ (s : State) (rid : Rid) (addr : Word) (write size : Bool),
    s.reaches rid = true → s.live 7 = true → s.decodes addr.toNat size = false →
    ∃ t, exec (.decodeError rid addr write size) s = .next t ∧ nbit (t.regN R.IC_DECLOG0) 31 = true ∧
      (nbit (s.regN R.IC_DECLOG0) 31 = false → t.regN R.IC_DECLOG1 = addr.toNat ∧ nbit (t.regN R.IC_DECLOG0) 28 = write ∧
        nbits (t.regN R.IC_DECLOG0) 15 8 = rid.toNat) ∧
      (nbit (s.regN R.IC_DECLOG0) 31 = true → t.regN R.IC_DECLOG1 = s.regN R.IC_DECLOG1 ∧
        nbit (t.regN R.IC_DECLOG0) 30 = true) ∧
      t.pends 40 = true ∧
      s.framed t [.regs, .dict, .answer, .evt] ([R.IC_DECLOG0, R.IC_DECLOG1, R.EVT_PEND 1] ++ C.IC_DECCNT.regs)) ∧
  (∀ (s : State) (rid : Rid) (addr : Word) (write : Bool),
    s.reaches rid = true → s.live 7 = true → s.isUnavailable addr.toNat = true →
    ∃ t, exec (.unavailableBlockAccess rid addr write) s = .next t ∧ t.answer.err = true ∧
      nbit (t.regN R.IC_UNAVLOG0) 31 = true ∧
      (nbit (s.regN R.IC_UNAVLOG0) 31 = false → t.regN R.IC_UNAVLOG1 = addr.toNat) ∧ t.pends 41 = true ∧
      s.framed t [.regs, .dict, .answer, .evt] ([R.IC_UNAVLOG0, R.IC_UNAVLOG1, R.EVT_PEND 1] ++ C.IC_UNAVCNT.regs)) ∧
  (∀ (s : State) (rid : Rid) (addr : Word) (write : Bool) (b : BlockDesc),
    s.reaches rid = true → s.target addr.toNat = .regs → blockAt addr.toNat = some b → s.live b.domain = true →
    let u := s.advance 4000
    u.live 7 = true →
    ∃ t, exec (.crossingWatchdog rid addr write) s = .next t ∧ t.answer.err = true ∧
      (nbit (u.regN R.IC_UNAVLOG0) 31 = false → t.regN R.IC_UNAVLOG1 = addr.toNat ∧ nbit (t.regN R.IC_UNAVLOG0) 29 = true) ∧
      t.pends 41 = true ∧
      u.framed t [.regs, .dict, .answer, .evt] ([R.IC_UNAVLOG0, R.IC_UNAVLOG1, R.EVT_PEND 1] ++ C.IC_UNAVCNT.regs))

/-- R78, R80 to R82: a vote that outvotes a copy sets VOTE_DIS and counts; the first write of a shadow pair leaves the shadowed
fields as they were and pends; the second, its complement from the same master, makes them take effect; a pair not completed in
its window fails; a shadow mismatch brings the reset value back. Each fault raises its event and is reported to the tamper
supervisor. -/
def Obligations.VotedAndShadowed : Prop :=
  (∀ (s : State) (addr : Word) (b : BlockDesc) (r : RegDesc),
    regDescAt addr.toNat = some (b, r) → s.live b.domain = true → s.live 7 = true → r.bits .rwv ≠ 0 →
    ∃ t, exec (.voteDisagreement addr) s = .next t ∧ nbit (t.regN (b.base + 0x3F8)) 0 = true ∧
      nbits (t.regN (b.base + 0x3F8)) 15 8 = min 255 (nbits (s.regN (b.base + 0x3F8)) 15 8 + 1) ∧
      t.regN (b.base + 0x3F4) = 2 ^ 12 + (addr.toNat - b.base) % 2 ^ 12 ∧ t.pends 113 = true ∧
      t.tmp.reports = s.tmp.reports ++ [⟨10, b.code * 256 + 1, addr.toNat - b.base, b.base⟩] ∧
      s.framed t [.regs, .tmp, .evt] [b.base + 0x3F8, b.base + 0x3F4, R.EVT_PEND 3]) ∧
  (∀ (s : State) (rid : Rid) (addr data : Word) (b : BlockDesc) (r : RegDesc),
    s.serves rid b.domain → regSpace addr.toNat = true → blockAt addr.toNat = some b → addr.toNat % 4 = 0 →
    b.form addr.toNat = .own r → mayWrite b rid = true → b.masked = false → r.shadowed = true →
    ¬ (b.base + 0x3F0 ≤ addr.toNat ∧ addr.toNat < b.base + 0x400) → s.locked b = false ∨ r.bits .rwl = 0 →
    ∃ u, exec (.shadowPairStart rid addr data) s =
        .next (blockWrite b.code rid addr.toNat data (s.reg addr.toNat) u).settleDma ∧
      u.pairs = [⟨addr.toNat, rid, data, s.now⟩] ∧
      (∀ i, i < 32 → (u.reg addr.toNat).getLsbD i = s.writtenBit b r (s.reg addr.toNat) data 0xFFFFFFFF i) ∧
      s.framed u [.regs, .answer, .pairs] [addr.toNat]) ∧
  (∀ (s : State) (rid : Rid) (addr data : Word) (b : BlockDesc) (r : RegDesc) (x : Nat) (p : ShadowPair),
    s.opens rid b.domain → regSpace addr.toNat = true → blockAt addr.toNat = some b → addr.toNat % 4 = 0 →
    b.form addr.toNat = .port r x → mayWrite b rid = true → s.pairs = [p] → p.addr = x → s.now ≤ p.at_ + pairWindow →
    master p.rid = master rid → data = ~~~p.value → b.code ≠ 0x07 ∨ s.locked b = false →
    ∃ u, exec (.shadowPortWrite rid addr data) s = .next (blockWrite b.code rid x p.value (s.reg x) u).settleDma ∧
      u.pairs = [] ∧
      (∀ i, i < 32 → (u.reg x).getLsbD i =
        if (r.bits .rws).getLsbD i then p.value.getLsbD i else (s.reg x).getLsbD i) ∧
      s.framed u [.regs, .answer, .pairs] [x]) ∧
  (∀ (s : State) (addr : Word) (p : ShadowPair) (b : BlockDesc),
    s.pairs.find? (fun p => p.addr == addr.toNat) = some p → blockAt addr.toNat = some b →
    let u := s.advanceTo (p.at_ + pairWindow + 1)
    u.live 7 = true →
    ∃ t, exec (.shadowPairTimeout addr) s = .next t ∧ (∀ q ∈ t.pairs, q.addr ≠ addr.toNat) ∧
      nbit (t.regN (b.base + 0x3F8)) 2 = true ∧ t.regN (b.base + 0x3F4) = 3 * 2 ^ 12 + (addr.toNat - b.base) % 2 ^ 12 ∧
      t.pends 114 = true ∧ t.tmp.reports = s.tmp.reports ++ [⟨11, b.code * 256 + 3, addr.toNat - b.base, b.base⟩] ∧
      u.framed t [.regs, .pairs, .tmp, .evt] [b.base + 0x3F8, b.base + 0x3F4, R.EVT_PEND 3]) ∧
  (∀ (s : State) (addr : Word) (f : Fin 4) (b : BlockDesc) (r : RegDesc) (x : FieldDesc),
    regDescAt addr.toNat = some (b, r) → s.live b.domain = true → s.live 7 = true → addr.toNat < b.base + 0x3F0 →
    addr.toNat ≠ R.EVT_PEND 3 → (r.fields.filter (fun x => x.acc == .rws))[f.val]? = some x → x.lo ≤ x.hi → x.hi < 32 →
    ∃ u, exec (.shadowMismatch addr f) s =
        .next (blockWrite b.code ridResponder addr.toNat (u.reg addr.toNat) (s.reg addr.toNat) u) ∧
      (∀ i, i < 32 → (u.reg addr.toNat).getLsbD i =
        if x.lo ≤ i ∧ i ≤ x.hi then (resetWord addr.toNat).getLsbD i else (s.reg addr.toNat).getLsbD i) ∧
      nbit (u.regN (b.base + 0x3F8)) 1 = true ∧ u.pends 114 = true ∧
      u.tmp.reports = s.tmp.reports ++ [⟨11, b.code * 256 + 2, addr.toNat - b.base, b.base⟩] ∧
      s.framed u [.regs, .tmp, .evt] [addr.toNat, b.base + 0x3F8, b.base + 0x3F4, R.EVT_PEND 3])

/-! ### Calends -/

/-- R94, R97 to R99: a read of CAL_NS answers the nanoseconds and keeps the whole time in its four registers. A step takes
effect at one instant: mode 0b00 sets the time CAL_SET names, mode 0b10 moves it by CAL_ADJ nanoseconds, mode 0b01 leaves the
step pending until the rollover, where the second is replaced; each step that is taken is counted and raises E126, an absolute
one makes the time VALID. At the end of the second CAL_LEAP_SEC names, the offset moves by one and LEAP returns to zero. -/
def Obligations.CalendsSteps : Prop :=
  (∀ (s : State) (rid : Rid), s.serves rid 1 →
    ∃ t, exec (.calNsRead rid) s = .next t ∧ t.answer.data = BitVec.ofNat 32 s.calNs ∧ t.regN R.CAL_NS = s.calNs ∧
      t.regN R.CAL_FRAC = s.cal.t / 2 ^ 16 % 2 ^ 32 ∧ t.regN R.CAL_SEC_LO = s.calSec % 2 ^ 32 ∧
      t.regN R.CAL_SEC_HI = s.calSec / 2 ^ 32 % 65536 ∧
      s.framed t [.regs, .answer] [R.CAL_NS, R.CAL_FRAC, R.CAL_SEC_LO, R.CAL_SEC_HI]) ∧
  (∀ (s : State) (rid : Rid), s.serves rid 1 →
    ∃ t, exec (.stepImmediate rid) s = .next t ∧ t.cal.t = s.calSet ∧ t.flag R.CAL_STAT_VALID = true ∧
      t.flag R.CAL_STEP_PEND = false ∧ t.fld R.CAL_STAT_STEP_CNT = (s.fld R.CAL_STAT_STEP_CNT + 1) % 256 ∧
      (s.live 7 = true → t.pends 126 = true) ∧ Same [.regs, .dict, .answer, .cal, .hld, .mtx, .convs, .evt] s t) ∧
  (∀ (s : State) (rid : Rid), s.serves rid 1 →
    ∃ t, exec (.stepAtRollover rid) s = .next t ∧ t.flag R.CAL_STEP_PEND = true ∧ t.fld R.CAL_STEP_MODE = 1 ∧
      t.cal = s.cal ∧ s.framed t [.regs, .answer] [R.CAL_STEP]) ∧
  (∀ (s : State) (rid : Rid), s.serves rid 1 →
    ∃ t, exec (.stepRelative rid) s = .next t ∧
      t.cal.t = ((s.cal.t : Int) + sgn 32 (s.regN R.CAL_ADJ) * 2 ^ 48).toNat ∧ t.flag R.CAL_STEP_PEND = false ∧
      t.fld R.CAL_STAT_STEP_CNT = (s.fld R.CAL_STAT_STEP_CNT + 1) % 256 ∧ (s.live 7 = true → t.pends 126 = true) ∧
      Same [.regs, .dict, .answer, .cal, .hld, .mtx, .convs, .evt] s t) ∧
  (∀ (s : State), s.live 1 = true → s.flag R.CAL_STEP_PEND = true →
    let b := (s.cal.t / calSecond + 1) * calSecond
    let d := s.nsUntil b
    ∃ t, exec .pendingStepApplied s = .next t ∧ t.now = s.now + d ∧ b ≤ s.cal.t + d * s.calRate ∧
      t.cal.t = s.calSet + (s.cal.t + d * s.calRate - b) ∧ t.flag R.CAL_STEP_PEND = false ∧
      t.flag R.CAL_STAT_VALID = true ∧ Same [.now, .regs, .dict, .cal, .hld, .mtx, .convs, .evt] s t) ∧
  (∀ (s : State), s.live 1 = true → s.flag R.CAL_STEP_PEND = false → s.fld R.CAL_UTC_LEAP = 1 ∨ s.fld R.CAL_UTC_LEAP = 2 →
    ∃ t, exec .leapApplied s = .next t ∧ s.calSec < t.calSec ∧
      t.fld R.CAL_UTC_OFFSET = (s.fld R.CAL_UTC_OFFSET + (if s.fld R.CAL_UTC_LEAP = 1 then 1 else 65535)) % 65536 ∧
      t.fld R.CAL_UTC_LEAP = 0 ∧ (s.live 7 = true → t.pends 124 = true) ∧
      s.framed t [.now, .regs, .cal, .evt] [R.CAL_UTC, R.EVT_PEND 3])

/-- R96, R114 to R116: losing REFCLK sets REF_LOST, raises E122 and takes the DPLL to HOLDOVER from LOCKED, to FREE otherwise;
its return clears the flag no earlier than 10 ms later. A source that has been good for QUAL seconds becomes qualified and one
that missed MISS updates is not any more, each with E120; at the end of the wait to restore, the selection is that of R116.
A write of CAL_PTPOFS is an update of S8 with that phase error. -/
def Obligations.CalendsSources : Prop :=
  (∀ (s : State), s.live 1 = true → s.live 7 = true → s.flag R.CAL_STAT_REF_LOST = false →
    ∃ t, exec .refclkLost s = .next t ∧ t.flag R.CAL_STAT_REF_LOST = true ∧ t.dpll = (if s.dpll = 2 then 3 else 0) ∧
      t.pends 122 = true ∧ t.cal.t = s.cal.t ∧ Same [.free, .regs, .nvs, .cal, .hld, .evt] s t) ∧
  (∀ (s : State), s.live 1 = true → s.flag R.CAL_STAT_REF_LOST = true →
    ∃ t, exec .refclkReturn s = .next t ∧ t.flag R.CAL_STAT_REF_LOST = false ∧ s.now + 10000000 ≤ t.now ∧
      Same [.now, .regs, .dict, .cal, .hld, .mtx, .convs, .evt] s t) ∧
  (∀ (s : State) (n : Fin 9) (g : Nat), s.live 1 = true → s.live 7 = true → s.srcEnabled n.val = true →
    s.qualified n.val = false → (s.src n.val).goodFrom = some g →
    g + max 1 (min 600 (s.fld (R.CAL_SRC_CFG_QUAL n.val))) * 1000000000 ≤ (s.src n.val).lastAt →
    ∃ t, exec (.sourceQualified n) s = .next t ∧ t.qualified n.val = true ∧ (t.src n.val).qualifiedAt = some s.now ∧
      t.pends 120 = true ∧ (∀ m : Fin 9, m ≠ n → t.qualified m.val = s.qualified m.val) ∧
      Same [.free, .regs, .nvs, .cal, .hld, .evt] s t) ∧
  (∀ (s : State) (n : Fin 9), s.live 1 = true → s.qualified n.val = true →
    let due := (s.src n.val).lastAt + max 1 (s.fld (R.CAL_SRC_CFG_MISS n.val)) * srcNominal n.val
    let u := if max 1 (s.fld (R.CAL_SRC_CFG_MISS n.val)) ≤ (s.src n.val).badRun then s else s.advanceTo due
    u.live 7 = true →
    ∃ t, exec (.sourceDisqualified n) s = .next t ∧ t.qualified n.val = false ∧ (t.src n.val).qualifiedAt = none ∧
      t.pends 120 = true ∧ (∀ m : Fin 9, m ≠ n → t.qualified m.val = u.qualified m.val) ∧
      Same [.free, .regs, .nvs, .cal, .hld, .evt] u t) ∧
  (∀ (s : State) (n : Fin 9) (q : Nat), s.live 1 = true → s.qualified n.val = true →
    (s.src n.val).qualifiedAt = some q →
    let u := s.advanceTo (q + s.fld R.CAL_DPLL2_WTR * 1000000000)
    ∃ t, exec (.waitToRestoreExpiry n) s = .next t ∧ t.fld R.CAL_STAT_SEL = u.calChoice.getD 15 ∧
      (u.calChoice.getD 15 ≠ u.fld R.CAL_STAT_SEL → u.live 7 = true → t.pends 121 = true) ∧
      Same [.free, .regs, .nvs, .cal, .hld, .evt] u t) ∧
  (∀ (s : State) (rid : Rid) (data : Word), s.serves rid 1 → s.srcEnabled 8 = true →
    ∃ t, exec (.s8Update rid data) s = .next t ∧ (t.src 8).last = some (s.cal.t / 2 ^ 32) ∧
      (t.src 8).err = sgn 32 data.toNat ∧ (t.src 8).lastAt = s.now ∧
      (s.fld R.CAL_STAT_SEL = 8 ∨ s.fld R.CAL_STAT_SEL = 15 → t.reg R.CAL_PHERR = data) ∧
      s.framed t [.regs, .answer, .cal, .hld] [R.CAL_PTPOFS, R.CAL_PHERR])

/-- R101, R102, R104: a capture joins its queue of 16, or is dropped with OVF and E123, and updates its source either way; a
read of CAL_TDCn_NS moves the oldest capture into the latch and answers its nanoseconds; at the end of its calibration a
lane's status holds CAL_DONE and the alignment. -/
def Obligations.CalendsCaptures : Prop :=
  (∀ (s : State) (n : Fin 8), s.live 1 = true → s.tdcPresent n.val = true →
    let q := tget [] s.cal.tdcQueue n.val
    ∃ t, exec (.tdcCapture n) s = .next t ∧
      (q.length < 16 → tget [] t.cal.tdcQueue n.val =
        q ++ [⟨s.calSec % 2 ^ 32, s.calNs, s.cal.t / 2 ^ 32 % 65536⟩]) ∧
      (16 ≤ q.length → tget [] t.cal.tdcQueue n.val = q ∧ t.flag (R.CAL_TDC_CFG_OVF n.val) = true ∧
        (s.live 7 = true → t.pends 123 = true)) ∧
      (s.srcEnabled n.val = true → (t.src n.val).last = some (s.cal.t / 2 ^ 32) ∧ (t.src n.val).lastAt = s.now) ∧
      s.framed t [.regs, .cal, .hld, .evt] [R.CAL_PHERR, R.CAL_TDC_CFG n.val, R.EVT_PEND 3]) ∧
  (∀ (s : State) (rid : Rid) (n : Fin 8) (c : TdcCapture) (r : List TdcCapture), s.serves rid 1 →
    tget [] s.cal.tdcQueue n.val = c :: r → c.ns < 2 ^ 30 →
    ∃ t, exec (.tdcRead rid n) s = .next t ∧ t.answer.data.toNat = c.ns ∧ tget [] t.cal.tdcQueue n.val = r ∧
      tget {} t.cal.tdcLatch n.val = c ∧ s.framed t [.answer, .cal] []) ∧
  (∀ (s : State) (rid : Rid) (n : Fin 8), s.serves rid 1 → tget [] s.cal.tdcQueue n.val = [] →
    ∃ t, exec (.tdcRead rid n) s = .next t ∧ nbit t.answer.data.toNat 31 = true ∧ s.framed t [.answer] []) ∧
  (∀ (s : State) (n : Fin 24) (align : BitVec 16), s.live 1 = true → s.laneLocked n.val = true →
    ∃ t, exec (.laneCalibrationDone n align) s = .next t ∧ t.flag (R.PTP_PSTAT_CAL_DONE n.val) = true ∧
      t.regN (R.PTP_PSTAT n.val) % 65536 = align.toNat ∧ s.framed t [.regs] [R.PTP_PSTAT n.val])

/-- R118, R120: an update steers the DPLL in LOCKED by the free value its loop filter gives, counts updates in the lock window
in ACQUIRE and locks at the sixteenth, and brings a DPLL that is in FREE or HOLDOVER with a selected source into ACQUIRE; the
step of an acquisition moves Calends by the negated phase error once. -/
def Obligations.DpllUpdates : Prop :=
  (∀ (s : State), s.live 1 = true → s.qualified (s.fld R.CAL_STAT_SEL) = true → s.flag R.CAL_STAT_REF_LOST = false →
    s.dpll = 2 →
    ∃ t v, exec .dpllUpdate s = .next t ∧ -(2 ^ 31) ≤ v ∧ v ≤ 2 ^ 31 - 1 ∧ t.cal.preset = 33 * v ∧ t.dpll = 2 ∧
      t.free = s.free + 1 ∧
      s.framed t [.free, .regs, .cal, .hld]
        [R.CAL_RATE, R.HLD_DAC_CODE 0, R.HLD_DAC_CODE 1, R.HLD_DAC_STAT 0, R.HLD_DAC_STAT 1]) ∧
  (∀ (s : State), s.live 1 = true → s.qualified (s.fld R.CAL_STAT_SEL) = true → s.flag R.CAL_STAT_REF_LOST = false →
    s.dpll = 1 →
    ∃ t, exec .dpllUpdate s = .next t ∧
      (s.inWindow s.lockSource = true → 15 ≤ s.cal.lockRun → t.dpll = 2 ∧ t.fld R.HLD_STAT_STATE = 1) ∧
      (s.inWindow s.lockSource = true → s.cal.lockRun < 15 → t.dpll = 1 ∧ t.cal.lockRun = s.cal.lockRun + 1) ∧
      (s.inWindow s.lockSource = false → t.dpll = 1 ∧ t.cal.lockRun = 0) ∧ Same [.free, .regs, .cal, .hld, .evt] s t) ∧
  (∀ (s : State), s.live 1 = true → s.live 7 = true → s.qualified (s.fld R.CAL_STAT_SEL) = true →
    s.flag R.CAL_STAT_REF_LOST = false → s.dpll = 0 ∨ s.dpll = 3 →
    ∃ t, exec .dpllUpdate s = .next t ∧ t.dpll = 1 ∧ t.cal.acqFrom = s.dpll ∧ t.pends 122 = true ∧
      t.flag R.HLD_STAT_ACQ = true ∧ Same [.free, .regs, .cal, .hld, .evt] s t) ∧
  (∀ (s : State) (e : Int), s.live 1 = true → s.dpll = 1 → s.cal.acqStep = some e →
    ∃ t, exec .acquisitionStep s = .next t ∧ t.cal.t = ((s.cal.t : Int) - e * 2 ^ 48 / 1000).toNat ∧ t.cal.acqStep = none ∧
      t.dpll = 1 ∧ t.fld R.CAL_STAT_STEP_CNT = (s.fld R.CAL_STAT_STEP_CNT + 1) % 256 ∧
      Same [.regs, .dict, .cal, .hld, .mtx, .convs, .evt] s t)

/-- R107 to R111: PTP_CTRL.EN and PTP_TXHEAD take what is written; a confirmed frame goes whole into the entry of the receive
ring at its head and the head moves on; the transmit entry at the tail leaves by its port and the tail moves on, a capture
writing the egress stamp into words 1 to 3 first; an entry that cannot be sent completes with ERR. No byte outside the entry
changes. -/
def Obligations.PtpEngine : Prop :=
  (∀ (s : State) (rid : Rid), s.serves rid 1 → s.dmaRun 15 = none →
    ∃ t, exec (.ptpEnable rid) s = .next t ∧ t.flag R.PTP_CTRL_EN = true ∧ s.framed t [.regs, .answer] [R.PTP_CTRL]) ∧
  (∀ (s : State) (rid : Rid) (data : Word), s.serves rid 1 →
    ∃ t, exec (.ptpTxHeadAdvance rid data) s = .next t ∧ t.regN R.PTP_TXHEAD % 32 = data.toNat % 32 ∧
      s.framed t [.regs, .answer] [R.PTP_TXHEAD]) ∧
  (∀ (s : State) (w0 stamp : Word) (sec : Nat) (bytes : List Byte) (r : List (Word × Nat × Word × List Byte)),
    let head := s.regN R.PTP_RXHEAD % 32
    let addr := s.fld R.PTP_RXBASE_BASE * 8192 + 256 * head
    s.live 1 = true → s.cal.ptpRxWait = (w0, sec, stamp, bytes) :: r → s.flag R.PTP_CTRL_EN = true →
    (head + 1) % 32 ≠ s.regN R.PTP_RXTAIL % 32 → 0x10000000 ≤ addr → addr < 0x10200000 → s.live (sramDomain addr) = true →
    ∃ t, exec .ptpRxFrame s = .next t ∧ t.regN R.PTP_RXHEAD = (head + 1) % 32 ∧ t.cal.ptpRxWait = r ∧
      (∀ k, k < 240 → t.sramByte (addr + 16 + k) = (bytes.getD k 0)) ∧
      (∀ k, k < 4 → t.sramByte (addr + 12 + k) = BitVec.ofNat 8 (stamp.toNat / 256 ^ k)) ∧
      (∀ x, x < addr ∨ addr + 256 ≤ x → t.sramByte x = s.sramByte x) ∧
      s.framed t [.regs, .cal, .sram] [R.PTP_RXHEAD]) ∧
  (∀ (s : State) (w0 stamp : Word) (sec : Nat) (bytes : List Byte) (r : List (Word × Nat × Word × List Byte)),
    let head := s.regN R.PTP_RXHEAD % 32
    s.live 1 = true → s.live 7 = true → s.cal.ptpRxWait = (w0, sec, stamp, bytes) :: r → s.flag R.PTP_CTRL_EN = true →
    (head + 1) % 32 = s.regN R.PTP_RXTAIL % 32 →
    ∃ t, exec .ptpRxFrame s = .next t ∧ t.cal.ptpRxWait = r ∧ t.pends 125 = true ∧
      s.framed t [.regs, .dict, .cal, .evt] (R.EVT_PEND 3 :: C.PTP_RXDROP.regs)) ∧
  (∀ (s : State) (sec : BitVec 48) (stamp : Word),
    let tail := s.regN R.PTP_TXTAIL % 32
    let addr := s.fld R.PTP_TXBASE_BASE * 8192 + 256 * tail
    let e := (List.range 256).map (fun k => s.sramByte (addr + k))
    let w0 := leNat (slice e 0 4)
    s.live 1 = true → s.flag R.PTP_CTRL_EN = true → tail ≠ s.regN R.PTP_TXHEAD % 32 →
    0x10000000 ≤ addr → addr < 0x10200000 → s.live (sramDomain addr) = true → s.ptpPortUp 24 = true →
    nbits w0 24 20 = 24 → 1 ≤ nbits w0 10 0 → nbits w0 10 0 ≤ 240 → nbits w0 29 28 < 2 →
    ∃ t, exec (.ptpTxComplete sec stamp) s = .next t ∧ t.regN R.PTP_TXTAIL = (tail + 1) % 32 ∧
      t.nq.sentBytes = slice e 16 (nbits w0 10 0) ∧
      (nbits w0 29 28 = 0 → ∀ x, t.sramByte x = s.sramByte x) ∧
      (nbits w0 29 28 = 1 → (∀ k, k < 4 → t.sramByte (addr + 4 + k) = BitVec.ofNat 8 (sec.toNat / 256 ^ k) ∧
          t.sramByte (addr + 8 + k) = BitVec.ofNat 8 (sec.toNat / 2 ^ 32 / 256 ^ k) ∧
          t.sramByte (addr + 12 + k) = BitVec.ofNat 8 (stamp.toNat / 256 ^ k)) ∧
        ∀ x, x < addr ∨ addr + 16 ≤ x → t.sramByte x = s.sramByte x) ∧
      s.framed t [.regs, .sram, .nq] [R.PTP_TXTAIL]) ∧
  (∀ (s : State) (sec : BitVec 48) (stamp : Word),
    let tail := s.regN R.PTP_TXTAIL % 32
    let addr := s.fld R.PTP_TXBASE_BASE * 8192 + 256 * tail
    let e := (List.range 256).map (fun k => s.sramByte (addr + k))
    let w0 := leNat (slice e 0 4)
    s.live 1 = true → s.flag R.PTP_CTRL_EN = true → tail ≠ s.regN R.PTP_TXHEAD % 32 →
    0x10000000 ≤ addr → addr < 0x10200000 → s.live (sramDomain addr) = true → s.ptpPortUp (nbits w0 24 20) = false →
    ∃ t, exec (.ptpTxComplete sec stamp) s = .next t ∧ t.regN R.PTP_TXTAIL = (tail + 1) % 32 ∧
      nbit (t.sramByte (addr + 3)).toNat 7 = true ∧ (∀ x, x < addr ∨ addr + 4 ≤ x → t.sramByte x = s.sramByte x) ∧
      s.framed t [.regs, .sram] [R.PTP_TXTAIL])

/-! ### Holdover -/

/-- R129, R132, R136 to R138, R131: each second closes its temperature; while the learner runs on a clean second it counts one
accepted update and keeps new estimates, or rejects the second. A minute without a valid temperature sets TEMP_LOST. In
holdover the model drives the steering element every 1 ms with its prediction, and every second moves HLD_ELAPSED on and ends
the holdover when the budget is used up. -/
def Obligations.HoldoverRunning : Prop :=
  (∀ (s : State), s.live 1 = true →
    ∃ t, exec .learnerUpdate s = .next t ∧ t.hld.secAt = t.now ∧ t.hld.tSum = 0 ∧ t.hld.tCount = 0 ∧
      t.hld.tValid = decide (500 ≤ (s.advanceTo (s.hld.secAt + 1000000000)).hld.tCount) ∧
      (s.secondEnd.learning = true → s.secondEnd.hld.work.isSome = true →
        s.secondEnd.fld R.CAL_STAT_STEP_CNT = s.secondEnd.hld.stepCnt → s.secondEnd.hld.missed = false →
        s.secondEnd.hld.tValid = true ∨ s.secondEnd.flag R.HLD_STAT_TEMP_LOST = true →
        (t.wide R.HLD_SAMPLES R.HLD_SAMPLES_HI = (s.secondEnd.wide R.HLD_SAMPLES R.HLD_SAMPLES_HI + 1) % 2 ^ 64 ∧
          t.hld.changed = true ∧ t.hld.work.isSome = true) ∨
        (t.dictN R.HLD_REJECT 0 = (s.secondEnd.dictN R.HLD_REJECT 0 + 1) % 2 ^ 32 ∧ t.hld.work = s.secondEnd.hld.work)) ∧
      Same [.now, .regs, .dict, .cal, .hld, .mtx, .convs, .evt] s t) ∧
  (∀ (s : State), s.live 1 = true → s.flag R.HLD_STAT_TEMP_LOST = false →
    let u := s.advanceTo (s.hld.lastValidAt + 60000000000)
    ∃ t, exec .tempLost s = .next t ∧ t.flag R.HLD_STAT_TEMP_LOST = true ∧ t.fld R.HLD_TEMP_DTDT = 0 ∧
      t.fld R.HLD_TEMP_T = u.fld R.HLD_TEMP_T ∧ (u.live 7 = true → t.pends 132 = true) ∧
      u.framed t [.regs, .evt] [R.HLD_STAT, R.HLD_TEMP, R.EVT_PEND 4]) ∧
  (∀ (s : State) (c : SteerCopy) (code : Nat), s.live 1 = true → s.modelSteers = true →
    let u := s.advanceTo (s.hld.modelAt + 1000000)
    u.hld.steer = some c → u.modelSteers = true → u.fld R.CAL_DPLL_MODE < 2 → u.flag R.CAL_DPLL_STEER = false →
    u.dacHold u.steerDac = none → fBad (u.modelY c) = false →
    dacCode u.kdac (u.fld (R.HLD_DAC_CFG_RANGE u.steerDac))
      ((fSplit (u.modelY c)).1 * (2 ^ (fSplit (u.modelY c)).2 : Nat)) (2 ^ 149) = some code →
    ∃ t, exec .modelCorrection s = .next t ∧ t.fld (R.HLD_DAC_CODE_CODE u.steerDac) = code ∧
      t.fld (R.HLD_DAC_STAT_INIT u.steerDac) = 2 ∧ t.hld.modelAt = u.now ∧
      u.framed t [.regs, .hld] [R.HLD_DAC_CODE u.steerDac, R.HLD_DAC_STAT u.steerDac]) ∧
  (∀ (s : State) (c : SteerCopy), s.live 1 = true → s.hld.steer = some c → s.regN R.HLD_ELAPSED + 1 < 2 ^ 32 →
    let tau := s.regN R.HLD_ELAPSED + 1
    let u := s.advanceTo (s.hld.entryAt + tau * 1000000000)
    let phase := max 100 (u.fld R.HLD_BUDGET_PHASE)
    let hours := max 1 (min 72 (u.fld (if c.seasoned then R.HLD_BUDGET_TMAX_S else R.HLD_BUDGET_TMAX_U)))
    ∃ t, exec .holdoverSecond s = .next t ∧ t.regN R.HLD_ELAPSED = tau ∧ t.hld.steer = some c ∧
      (u.dpll = 3 → 2 ≤ u.fld R.HLD_STAT_STATE → phase < t.regN R.HLD_UNC ∨ 3600 * hours ≤ tau →
        t.fld R.HLD_STAT_STATE = 0 ∧ (u.live 7 = true → t.pends 128 = true)) ∧
      (u.dpll = 3 → 2 ≤ u.fld R.HLD_STAT_STATE → t.regN R.HLD_UNC ≤ phase → tau < 3600 * hours →
        t.fld R.HLD_STAT_STATE = u.fld R.HLD_STAT_STATE) ∧
      Same [.regs, .hld, .evt] u t)

/-- R140 to R145: the retention copy is written every 60 s; a persistent write is asked for every 6 h while the working copy
has changed, or deferred in the Cold and Hot bands; a day boundary advances the history; a load takes the first good copy; a
clear empties the working copy and the retention copy. -/
def Obligations.AlmanacKept : Prop :=
  (∀ (s : State), s.live 1 = true →
    let u := s.advanceTo (s.hld.retAt + 60000000000)
    ∃ t, exec .retentionCopyWrite s = .next t ∧ t.hld.retention = some (u.hld.work.getD {}) ∧ t.hld.retentionBad = false ∧
      t.hld.retAt = u.now ∧ t.hld.work = u.hld.work ∧ u.framed t [.hld] []) ∧
  (∀ (s : State), s.live 1 = true →
    let u := s.advanceTo (s.hld.persistAt + 21600000000000)
    ∃ t, exec .almanacPersistRequest s = .next t ∧ t.hld.persistAt = u.now ∧
      (u.hld.changed = true → u.band = some 0 ∨ u.band = some 3 →
        t.flag R.HLD_STAT_PERSIST_DEFER = true ∧ t.nvs = u.nvs) ∧
      (u.hld.changed = true → u.storeBand = true → u.nvs.queue = [] → u.nvs.current = none →
        t.nvs.queue = [⟨.hld, .almanac⟩]) ∧
      (u.hld.changed = false → t.nvs = u.nvs) ∧ u.framed t [.regs, .hld, .nvs] [R.HLD_STAT]) ∧
  (∀ (s : State), s.live 1 = true →
    let u := s.advance (s.nsUntil ((s.taiDay + 1) * 86400 * calSecond))
    ∃ t, exec .taiDayBoundary s = .next t ∧ t.hld.work = u.hld.work.map (fun w => w.toDay u.taiDay) ∧ t.cal = u.cal ∧
      Same [.regs, .hld, .evt] u t) ∧
  (∀ (s : State) (a : Almanac) (src : Nat), s.live 1 = true → s.hld.loaded = false → s.dpll ≠ 0 →
    s.almanacPick = some (a, src) → a.created = true → a.staleAt s.calSec = false → a.lastLocked ≤ s.calSec → src < 4 →
    ∃ t, exec .almanacLoad s = .next t ∧ t.hld.loaded = true ∧ t.hld.work = some (a.toDay s.taiDay) ∧
      t.fld R.HLD_ALM_STAT_SRC = src ∧ t.reg R.HLD_KDAC = a.kdac ∧ t.flag R.HLD_STAT_AGE_UNK = false ∧
      (s.live 7 = true → s.almanacRetention = none → t.pends 130 = true) ∧ Same [.regs, .hld, .evt] s t) ∧
  (∀ (s : State), s.live 1 = true → s.hld.loaded = false → s.dpll ≠ 0 → s.almanacPick = none →
    ∃ t, exec .almanacLoad s = .next t ∧ t.hld.loaded = true ∧ t.hld.work = s.hld.work ∧ t.fld R.HLD_ALM_STAT_BAD = 7 ∧
      (s.live 7 = true → t.pends 130 = true) ∧ Same [.regs, .hld, .evt] s t) ∧
  (∀ (s : State) (rid : Rid), s.serves rid 1 →
    ∃ t, exec (.clearAlmanac rid) s = .next t ∧ t.hld.work = none ∧ t.hld.retention = some {} ∧
      t.hld.retentionBad = false ∧ t.wide R.HLD_SAMPLES R.HLD_SAMPLES_HI = 0 ∧ t.flag R.HLD_ALM_CTRL_CLEAR = false ∧
      t.pairs = [] ∧ Same [.regs, .answer, .pairs, .nvs, .hld, .evt] s t)

/-- R148, R150, R151: a code written to a DAC that nothing else drives is its code; the write is ignored with WR_IGN when that DAC
is steered or in its hold. A change of range holds the output and keeps the voltage by rescaling the code, which the end of the
hold applies; a change the voltage or the supply forbids is refused with RANGE_ERR. -/
def Obligations.TuningDacs : Prop :=
  (∀ (s : State) (rid : Rid) (n : Fin 2) (data : Word), s.serves rid 1 → s.dacHold n.val = none →
    s.steerDac ≠ n.val ∨ s.flag R.CAL_DPLL_STEER = true ∨ 2 ≤ s.fld R.CAL_DPLL_MODE →
    ∃ t, exec (.dacCodeWrite rid n data) s = .next t ∧ t.fld (R.HLD_DAC_CODE_CODE n.val) = data.toNat % 2 ^ 20 ∧
      t.fld (R.HLD_DAC_STAT_INIT n.val) = 2 ∧
      s.framed t [.regs, .answer, .hld] [R.HLD_DAC_CODE n.val, R.HLD_DAC_STAT n.val]) ∧
  (∀ (s : State) (rid : Rid) (n : Fin 2) (data : Word), s.serves rid 1 →
    (s.dacHold n.val).isSome = true ∨
      (s.steerDac = n.val ∧ s.flag R.CAL_DPLL_STEER = false ∧ s.fld R.CAL_DPLL_MODE < 2) →
    ∃ t, exec (.dacCodeWrite rid n data) s = .next t ∧ t.flag (R.HLD_DAC_STAT_WR_IGN n.val) = true ∧
      t.hld = s.hld ∧ s.framed t [.regs, .answer] [R.HLD_DAC_STAT n.val]) ∧
  (∀ (s : State) (rid : Rid) (n : Fin 2) (data : Word) (efc : Bool),
    let code := s.fld (R.HLD_DAC_CODE_CODE n.val)
    let new := data.toNat % 2
    s.serves rid 1 → s.dacHold n.val = none → new ≠ s.fld (R.HLD_DAC_CFG_RANGE n.val) →
    (new = 0 → 50 * code ≤ 33 * 2 ^ 20) → (new = 1 → efc = true) →
    ∃ t, exec (.dacRangeChange rid n data efc) s = .next t ∧ t.fld (R.HLD_DAC_CFG_RANGE n.val) = new ∧
      t.flag (R.HLD_DAC_STAT_RANGE_BUSY n.val) = true ∧
      t.dacHold n.val = some ⟨new, min 1048575 (dacRescale new code)⟩ ∧ t.fld (R.HLD_DAC_CODE_CODE n.val) = code ∧
      s.framed t [.regs, .answer, .hld] [R.HLD_DAC_CFG n.val, R.HLD_DAC_STAT n.val]) ∧
  (∀ (s : State) (rid : Rid) (n : Fin 2) (data : Word) (efc : Bool),
    let code := s.fld (R.HLD_DAC_CODE_CODE n.val)
    let new := data.toNat % 2
    s.serves rid 1 → s.dacHold n.val = none → new ≠ s.fld (R.HLD_DAC_CFG_RANGE n.val) →
    (new = 0 ∧ 33 * 2 ^ 20 < 50 * code) ∨ (new = 1 ∧ efc = false) →
    ∃ t, exec (.dacRangeChange rid n data efc) s = .next t ∧
      t.fld (R.HLD_DAC_CFG_RANGE n.val) = s.fld (R.HLD_DAC_CFG_RANGE n.val) ∧
      t.flag (R.HLD_DAC_STAT_RANGE_ERR n.val) = true ∧ t.dacHold n.val = none ∧
      s.framed t [.regs, .answer, .hld] [R.HLD_DAC_CFG n.val, R.HLD_DAC_STAT n.val]) ∧
  (∀ (s : State) (n : Fin 2) (h : DacHold), s.live 1 = true → s.dacHold n.val = some h → h.code < 2 ^ 20 →
    ∃ t, exec (.dacRangeChangeDone n) s = .next t ∧ t.fld (R.HLD_DAC_CODE_CODE n.val) = h.code ∧
      t.flag (R.HLD_DAC_STAT_RANGE_BUSY n.val) = false ∧ t.dacHold n.val = none ∧
      (s.live 7 = true → t.pends 133 = true) ∧
      s.framed t [.regs, .hld, .evt] [R.HLD_DAC_CODE n.val, R.HLD_DAC_STAT n.val, R.EVT_PEND 4])

/-! ### Saltern -/

/-- R155, R157 to R159, R187, R188: a word written to the Eve window while no commit and no copy is under way changes that word of the Eve
table and no other; at any other time the write is refused and changes nothing. COPY sets EVE_BUSY, and at its end the Eve table
holds the Day table; a COPY while a commit is under way is ignored. MTX_DAYRD_SEL copies one Day entry. A capture
begins with the container and the count it is given. -/
def Obligations.MatrixTables : Prop :=
  (∀ (s : State) (rid : Rid) (off : Fin 12288) (data : Word), s.serves rid 12 → s.mtxState = 0 →
    s.flag R.MTX_STAT_EVE_BUSY = false →
    ∃ t, exec (.eveWrite rid off data) s = .next t ∧ tget 0 t.mtx.eve off.val = data ∧
      (∀ k, k ≠ off.val → tget 0 t.mtx.eve k = tget 0 s.mtx.eve k) ∧ t.mtx.day = s.mtx.day ∧
      t.mtx.boundary = s.mtx.boundary ∧ t.answer.err = false ∧ s.framed t [.regs, .answer, .mtx, .nq] []) ∧
  (∀ (s : State) (rid : Rid) (off : Fin 12288) (data : Word), s.serves rid 12 →
    s.mtxState ≠ 0 ∨ s.flag R.MTX_STAT_EVE_BUSY = true →
    ∃ t, exec (.eveWrite rid off data) s = .next t ∧ t.answer.err = true ∧ t.flag R.MTX_STAT_EVE_WR_REJ = true ∧
      (s.live 7 = true → t.pends 54 = true) ∧
      s.framed t [.regs, .answer, .evt] [R.MTX_STAT, R.EVT_PEND 1]) ∧
  (∀ (s : State) (rid : Rid), s.serves rid 12 → s.mtxState = 0 →
    ∃ t, exec (.copy rid) s = .next t ∧ t.flag R.MTX_STAT_EVE_BUSY = true ∧ t.flag R.MTX_COMMIT_COPY = false ∧
      s.framed t [.regs, .answer] [R.MTX_STAT, R.MTX_COMMIT]) ∧
  (∀ (s : State) (rid : Rid), s.serves rid 12 → s.mtxState ≠ 0 →
    ∃ t, exec (.copy rid) s = .next t ∧ t.flag R.MTX_STAT_EVE_BUSY = s.flag R.MTX_STAT_EVE_BUSY ∧
      t.flag R.MTX_STAT_GO_REJ = true ∧ s.framed t [.regs, .answer] [R.MTX_STAT, R.MTX_COMMIT]) ∧
  (∀ (s : State), s.live 12 = true → s.flag R.MTX_STAT_EVE_BUSY = true → s.nq.eveImage = none →
    ∃ t, exec .copyDone s = .next t ∧ t.mtx.eve = s.mtx.day ∧ t.mtx.day = s.mtx.day ∧
      t.flag R.MTX_STAT_EVE_BUSY = false ∧ s.framed t [.regs, .mtx, .nq] [R.MTX_STAT]) ∧
  (∀ (s : State) (rid : Rid) (data : Word), s.serves rid 12 →
    let g := data.toNat % 2048
    ∃ t, exec (.dayReadSelect rid data) s = .next t ∧ t.fld R.MTX_DAYRD_SEL_ENTRY = g ∧
      (∀ k, k < 8 → t.reg (R.MTX_DAYRD_W k) = if g < 1536 then tget 0 s.mtx.day (8 * g + k) else 0) ∧
      s.framed t [.regs, .answer] (R.MTX_DAYRD_SEL :: (List.range 8).map R.MTX_DAYRD_W)) ∧
  (∀ (s : State) (rid : Rid) (data : Word), s.serves rid 12 →
    ∃ t, exec (.captureGo rid data) s = .next t ∧ t.fld R.MTX_CAP_STAT_STATE = 1 ∧ t.fld R.MTX_CAP_STAT_CNT = 0 ∧
      t.fld R.MTX_CAP_STAT_RESULT = 0 ∧ t.flag R.MTX_CAP_CTRL_GO = false ∧
      t.fld R.MTX_CAP_CTRL_CONT = data.toNat % 2048 ∧ t.flag R.MTX_CAP_CTRL_DIR = data.getLsbD 11 ∧
      t.fld R.MTX_CAP_CTRL_COUNT = data.toNat / 2 ^ 12 % 2 ^ 12 ∧ t.flag R.MTX_CAP_CTRL_TRIG = data.getLsbD 24 ∧
      t.mtx.capHeld = [] ∧ t.mtx.capTaken = 0 ∧ t.mtx.eve = s.mtx.eve ∧ t.mtx.day = s.mtx.day ∧
      (data.getLsbD 24 = true → s.calNow ≤ t.mtx.capFrom ∧ t.mtx.capFrom < s.calNow + 10000000) ∧
      s.framed t [.regs, .answer, .mtx] [R.MTX_CAP_CTRL, R.MTX_CAP_STAT])

/-- R153, R154, R163 to R166: a sample that arrives in order, with no unit unconfirmed, is unpacked into every skew buffer that its
container feeds; one that is late is counted and discarded; a silent source lapses after MTX_SRCTO. A container with one direct
source forms its sample from the source's sample of that time and its gain, waits while it has not arrived, and is blank while
its route is off. A delay line gives back its sample at its output instant, or a blank one. -/
def Obligations.MatrixSamples : Prop :=
  (∀ (s : State) (c : Fin 1536) (time : Nat) (e : BitVec 4) (i q : BitVec 16) (blank : Bool), s.live 12 = true →
    s.laneLocked (c.val / 64) = true → s.contOn 0 c.val = true → s.flag (R.LNE_CTRL_PRBS (c.val / 64)) = false →
    tget [] s.mtx.units c.val = [] → (s.recv c.val).next = none ∨ (s.recv c.val).next = some time →
    s.fld R.MTX_CAP_STAT_STATE = 0 → (s.skewKeys c.val time).Nodup →
    (∀ k ∈ s.skewKeys c.val time, (tget [] s.mtx.skew k).length < 256) →
    let x : RxSample := ⟨time, if blank then 0 else unpackCode (s.cont 0 c.val) i.toNat e.toNat,
      if blank then 0 else unpackCode (s.cont 0 c.val) q.toNat e.toNat, blank, 0⟩
    ∃ t, exec (.sourceSampleArrival c time e i q blank false false) s = .next t ∧
      t.recv c.val = ⟨some (time + s.period 0 c.val), s.now, false⟩ ∧
      (∀ k, tget [] t.mtx.skew k = if k ∈ s.skewKeys c.val time then tget [] s.mtx.skew k ++ [x] else tget [] s.mtx.skew k) ∧
      s.framed t [.mtx] []) ∧
  (∀ (s : State) (c : Fin 1536) (time n : Nat) (e : BitVec 4) (i q : BitVec 16) (blank : Bool), s.live 12 = true →
    s.laneLocked (c.val / 64) = true → s.contOn 0 c.val = true → s.flag (R.LNE_CTRL_PRBS (c.val / 64)) = false →
    tget [] s.mtx.units c.val = [] → (s.recv c.val).next = some n → time < n →
    ∃ t, exec (.sourceSampleArrival c time e i q blank false false) s = .next t ∧
      t.regN C.MTX_GAP.addr = (s.regN C.MTX_GAP.addr + 1) % 2 ^ 32 ∧ s.framed t [.regs, .dict] C.MTX_GAP.regs) ∧
  (∀ (s : State) (g : Fin 1536) (slot : Fin 4),
    let c := nbits (entryWord s.mtx.day g.val (2 + slot.val)) 10 0
    let u := s.advanceTo ((s.recv c).lastAt + 1000 * s.srcTimeout)
    s.live 12 = true → routeEn s.mtx.day g.val = true → s.srcAbsent c = false →
    ∃ t, exec (.sourceTimeout g slot) s = .next t ∧ (t.recv c).lapsed = true ∧ t.srcAbsent c = true ∧
      (∀ d, d ≠ c → t.recv d = u.recv d) ∧ t.regN C.MTX_GAP.addr = (u.regN C.MTX_GAP.addr + 1) % 2 ^ 32 ∧
      u.framed t [.regs, .dict, .mtx] C.MTX_GAP.regs) ∧
  (∀ (s : State) (g : Fin 1536), s.live 12 = true → s.mtxState ≠ 2 → s.fld R.MTX_CAP_STAT_STATE = 0 →
    s.laneSends (g.val / 64) = true → s.flag R.MTX_CTRL_EN = false ∨ routeEn s.mtx.day g.val = false →
    routeEn s.mtx.day g.val = false ∨ nbit (entryWord s.mtx.day g.val 0) 27 = false →
    ∃ t, exec (.transmitSampleFormed g) s = .next t ∧
      (t.tx g.val).next = some (s.txNext g.val + s.period 1 g.val) ∧
      (t.tx g.val).out = (s.tx g.val).out ++ [⟨s.txNext g.val, 0, 0, true, []⟩] ∧ s.framed t [.mtx] []) ∧
  (∀ (s : State) (g : Fin 1536) (r : RouteSrc) (x : RxSample) (n : Nat),
    let time := s.txNext g.val
    let y := fun (v : Int) => roundAway (v * gainOf r.gain) (2 ^ 60)
    s.live 12 = true → s.mtxState ≠ 2 → s.flag R.MTX_CTRL_EN = true → routeEn s.mtx.day g.val = true →
    nbit (entryWord s.mtx.day g.val 0) 27 = false → s.fld R.MTX_CAP_STAT_STATE = 0 → s.laneSends (g.val / 64) = true →
    routeSources s.mtx.day g.val = [r] → r.conv = none → s.srcAbsent r.src = false →
    (s.recv r.src).next = some n → time < n →
    (tget [] s.mtx.skew (slotKey false g.val r.slot)).find? (fun z => z.time == time) = some x →
    x.blank = false → x.unit = 0 → -8388608 ≤ y x.i → y x.i ≤ 8388607 → -8388608 ≤ y x.q → y x.q ≤ 8388607 →
    ∃ t, exec (.transmitSampleFormed g) s = .next t ∧ (t.tx g.val).next = some (time + s.period 1 g.val) ∧
      (t.tx g.val).out = (s.tx g.val).out ++ [⟨time, y x.i, y x.q, false, []⟩] ∧ s.framed t [.mtx] []) ∧
  (∀ (s : State) (g : Fin 1536) (r : RouteSrc) (n : Nat),
    s.live 12 = true → s.mtxState ≠ 2 → s.flag R.MTX_CTRL_EN = true → routeEn s.mtx.day g.val = true →
    routeSources s.mtx.day g.val = [r] → r.conv = none → s.srcAbsent r.src = false →
    (s.recv r.src).next = some n → n ≤ s.txNext g.val →
    exec (.transmitSampleFormed g) s = .next s) ∧
  (∀ (s : State) (line : Fin 384) (l : LineSt) (due : Nat) (e : LineEnt), s.live 12 = true → tget {} s.mtx.lines line.val = l →
    l.next = some due → l.ents.find? (fun x => x.due == due) = some e →
    e.place = 4 ∨ (e.place = 3 ∧ s.flag R.DMC_STAT_FROZEN = false) → s.fld R.MTX_CAP_STAT_STATE = 0 →
    s.laneSends (l.cont / 64) = true →
    ∃ t, exec (.delayLineOutput line) s = .next t ∧
      (t.tx l.cont).out = (s.tx l.cont).out ++ [{ e.smp with time := due }] ∧
      (tget {} t.mtx.lines line.val).next = some (due + s.period 1 l.cont) ∧ s.framed t [.mtx] []) ∧
  (∀ (s : State) (line : Fin 384) (l : LineSt) (due : Nat) (e : LineEnt), s.live 12 = true → tget {} s.mtx.lines line.val = l →
    l.next = some due → l.ents.find? (fun x => x.due == due) = some e →
    e.place < 3 ∨ (e.place = 3 ∧ s.flag R.DMC_STAT_FROZEN = true) → s.fld R.MTX_CAP_STAT_STATE = 0 →
    s.laneSends (l.cont / 64) = true →
    ∃ t, exec (.delayLineOutput line) s = .next t ∧
      (t.tx l.cont).out = (s.tx l.cont).out ++ [⟨due, 0, 0, true, []⟩] ∧
      t.regN C.MTX_DLY_LOST.addr = (s.regN C.MTX_DLY_LOST.addr + 1) % 2 ^ 32 ∧
      (tget {} t.mtx.lines line.val).next = some (due + s.period 1 l.cont) ∧
      s.framed t [.regs, .dict, .mtx, .evt] (R.EVT_PEND 1 :: C.MTX_DLY_LOST.regs))

/-- R167 to R171, R176: GO in the idle state fixes the boundary, the first of its class at or after GO + 30 µs + MTX_ADV (or at or
after MTX_CTIME, LATE where that is too early), and starts validation; at any other time it is ignored. Validation refuses the
commit with its first failing entry, neither table changing, or arms it. ABORT cancels before the arming point and is late from
then on. At the end of the window the Day table takes the Eve contents. -/
def Obligations.MatrixCommit : Prop :=
  (∀ (s : State) (rid : Rid) (data : Word), s.serves rid 12 → s.mtxState = 0 → s.flag R.MTX_STAT_EVE_BUSY = false →
    data.toNat / 16 % 4 ≠ 3 → data &&& 6 = 0 →
    let p := boundaryPeriod (data.toNat / 16 % 4) (data.toNat / 64 % 4)
    let lead := s.calNow + 30000 + s.mtxAdv
    let ask := (s.calSec / 2 ^ 32 * 2 ^ 32 + s.regN R.MTX_CTIME_SEC) * 1000000000 + s.fld R.MTX_CTIME_NS_NS
    let at_ := data.getLsbD 8
    ∃ t, exec (.commitGo rid data) s = .next t ∧
      ((at_ = true ∧ t.mtxState = 0 ∧ t.fld R.MTX_COMMIT_STAT_RESULT = 1 ∧ (s.live 7 = true → t.pends 49 = true) ∧
          s.framed t [.regs, .answer, .evt] [R.MTX_COMMIT, R.MTX_COMMIT_STAT, R.EVT_PEND 1]) ∨
        (t.mtxState = 1 ∧ lead ≤ t.mtx.boundary ∧ (at_ = true → ask ≤ t.mtx.boundary) ∧
          t.mtx.boundary < (if at_ then ask else lead) + p ∧
          ((t.mtx.boundary : Int) - sgn 24 (s.fld R.MTX_FOFS_FOFS)) % (p : Int) = 0 ∧
          t.regN R.MTX_TARGET_NS = t.mtx.boundary % 1000000000 ∧
          t.regN R.MTX_TARGET_SEC = t.mtx.boundary / 1000000000 % 2 ^ 32 ∧ t.mtx.day = s.mtx.day ∧ t.mtx.eve = s.mtx.eve ∧
          s.framed t [.regs, .answer, .mtx] [R.MTX_COMMIT, R.MTX_COMMIT_STAT, R.MTX_TARGET_NS, R.MTX_TARGET_SEC]))) ∧
  (∀ (s : State) (rid : Rid) (data : Word), s.serves rid 12 → data &&& 6 = 0 →
    s.mtxState ≠ 0 ∨ s.flag R.MTX_STAT_EVE_BUSY = true ∨ data.toNat / 16 % 4 = 3 →
    ∃ t, exec (.commitGo rid data) s = .next t ∧ t.flag R.MTX_STAT_GO_REJ = true ∧ t.mtxState = s.mtxState ∧
      (s.live 7 = true → t.pends 49 = true) ∧
      s.framed t [.regs, .answer, .evt] [R.MTX_COMMIT, R.MTX_STAT, R.EVT_PEND 1]) ∧
  (∀ (s : State) (g k : Nat), s.live 12 = true → s.mtxState = 1 →
    s.checkEve (enabledRoutes s.mtx.eve) [] 0 = some (g, k) → g < 2048 →
    ∃ t, exec .validationDone s = .next t ∧ t.mtxState = 0 ∧ t.fld R.MTX_COMMIT_STAT_RESULT = k ∧
      t.fld R.MTX_COMMIT_STAT_ERR_ENTRY = g ∧ t.regN C.MTX_REFUSED.addr = (s.regN C.MTX_REFUSED.addr + 1) % 2 ^ 32 ∧
      (s.live 7 = true → t.pends 49 = true) ∧ t.mtx.day = s.mtx.day ∧ t.mtx.eve = s.mtx.eve ∧
      Same [.regs, .dict, .mtx, .convs, .evt] s t) ∧
  (∀ (s : State), s.live 12 = true → s.mtxState = 1 → s.checkEve (enabledRoutes s.mtx.eve) [] 0 = none →
    s.mtx.changed ≠ [] →
    ∃ t, exec .validationDone s = .next t ∧ t.mtxState = 2 ∧ t.mtx = s.mtx ∧ Same [.regs, .dict, .convs] s t) ∧
  (∀ (s : State) (rid : Rid), s.serves rid 12 → s.mtxState ≠ 0 → s.calNow + s.mtxAdv + 20000 < s.mtx.boundary →
    ∃ t, exec (.commitAbort rid) s = .next t ∧ t.mtxState = 0 ∧ t.fld R.MTX_COMMIT_STAT_RESULT = 9 ∧
      (s.live 7 = true → t.pends 49 = true) ∧ t.mtx.day = s.mtx.day ∧ t.mtx.eve = s.mtx.eve ∧
      Same [.regs, .dict, .answer, .mtx, .convs, .evt] s t) ∧
  (∀ (s : State) (rid : Rid), s.serves rid 12 → s.mtxState ≠ 0 → s.mtx.boundary ≤ s.calNow + s.mtxAdv + 20000 →
    ∃ t, exec (.commitAbort rid) s = .next t ∧ t.mtxState = s.mtxState ∧ t.flag R.MTX_STAT_ABORT_LATE = true ∧
      s.framed t [.regs, .answer] [R.MTX_COMMIT, R.MTX_STAT]) ∧
  (∀ (s : State) (rid : Rid), s.serves rid 12 → s.mtxState = 0 →
    ∃ t, exec (.commitAbort rid) s = .next t ∧ t.mtxState = 0 ∧ s.framed t [.regs, .answer] [R.MTX_COMMIT]) ∧
  (∀ (s : State), s.live 12 = true → s.live 1 = true → s.mtxState ≠ 0 → 0 < s.calRate →
    ∃ t, exec .armingPoint s = .next t ∧ t = s.advance (t.now - s.now) ∧
      (s.flag R.CAL_STEP_PEND = false → s.mtx.boundary ≤ t.calNow + s.mtxAdv + 20000)) ∧
  (∀ (s : State), s.live 12 = true → s.live 1 = true → s.mtxState = 2 →
    let u := s.advance (s.nsUntil ((s.mtx.boundary + s.switchWindow) * calUnit))
    u.mtxState = 2 →
    ∃ t, exec .switchWindowExpiry s = .next t ∧ t.mtxState = 0 ∧ t.fld R.MTX_COMMIT_STAT_RESULT = 0 ∧
      t.mtx.day = u.mtx.eve ∧ t.mtx.eve = u.mtx.eve ∧
      t.fld R.MTX_COMP_FORCED = (u.mtx.changed.filter (fun g => !u.mtx.switched.contains g)).length % 2 ^ 16 ∧
      t.regN C.MTX_COMMITS.addr = (u.regN C.MTX_COMMITS.addr + 1) % 2 ^ 32 ∧ (u.live 7 = true → t.pends 48 = true) ∧
      Same [.regs, .dict, .mtx, .convs, .evt] u t)

/-! ### Lanes -/

/-- R193, R202, R214: enabling brings a lane's transmitter out of idle, at its programmed phase or, with IMMEDIATE timing in a
Varlas mode, measuring one; REPHASE measures again, and the end of the measurement sets φ and reports it (its value is left
open). Disabling ends what is sent in a Bittern code and drops the locks. A container's EN is set or refused with CFG_REJ. -/
def Obligations.LaneControl : Prop :=
  (∀ (s : State) (rid : Rid) (n : Fin 24), s.serves rid (laneDomain n.val) → s.laneMode n.val < 4 →
    s.flag (R.LNE_CTRL_EN n.val) = false →
    ∃ t, exec (.laneEnable rid n) s = .next t ∧ t.flag (R.LNE_CTRL_EN n.val) = true ∧ t.laneMode n.val = s.laneMode n.val ∧
      (t.lane n.val).bittern = false ∧ (t.lane n.val).conts = (s.lane n.val).conts ∧
      ((s.varlas n.val && s.flag (R.LNE_CTRL_TXTIM n.val)) = true →
        (t.lane n.val).tx = .phasing ∧ (t.lane n.val).phaseAt = s.now ∧ (t.lane n.val).phi = (s.lane n.val).phi) ∧
      ((s.varlas n.val && s.flag (R.LNE_CTRL_TXTIM n.val)) = false →
        (t.lane n.val).tx = .sending ∧ (t.lane n.val).phi = s.regN (R.LNE_TXPH n.val)) ∧
      (∀ m, m ≠ n.val → t.lane m = s.lane m) ∧ s.framed t [.regs, .answer, .lanes] [R.LNE_CTRL n.val]) ∧
  (∀ (s : State) (rid : Rid) (n : Fin 24), s.serves rid (laneDomain n.val) → s.laneMode n.val < 4 →
    s.flag (R.LNE_CTRL_EN n.val) = true → s.flag (R.LNE_CTRL_REPHASE n.val) = false →
    ∃ t, exec (.laneEnable rid n) s = .next t ∧ t.lane n.val = s.lane n.val ∧
      t.flag (R.LNE_CTRL_EN n.val) = true ∧ s.framed t [.regs, .answer, .lanes] [R.LNE_CTRL n.val]) ∧
  (∀ (s : State) (rid : Rid) (n : Fin 24), s.serves rid (laneDomain n.val) → s.laneMode n.val < 4 →
    s.flag (R.LNE_CTRL_EN n.val) = true →
    ∃ t, exec (.laneDisable rid n) s = .next t ∧ t.flag (R.LNE_CTRL_EN n.val) = false ∧
      t.flag (R.LNE_STAT_BLOCK_LOCK n.val) = false ∧
      (s.flag (R.LNE_STAT_BLOCK_LOCK n.val) = true → t.flag (R.LNE_STAT_SF_LOCK n.val) = false) ∧
      (t.lane n.val).tx = .idle ∧ (t.lane n.val).rx = none ∧ (t.lane n.val).conts = (s.lane n.val).conts ∧
      ((s.lane n.val).tx = .sending → (t.lane n.val).bittern = true) ∧ t.laneSends n.val = false ∧
      Same (.answer :: lossParts) s t) ∧
  (∀ (s : State) (rid : Rid) (n : Fin 24), s.serves rid (laneDomain n.val) → s.laneMode n.val < 4 →
    s.flag (R.LNE_CTRL_EN n.val) = false →
    ∃ t, exec (.laneDisable rid n) s = .next t ∧ t.flag (R.LNE_CTRL_EN n.val) = false ∧
      s.framed t [.regs, .answer] [R.LNE_CTRL n.val]) ∧
  (∀ (s : State) (rid : Rid) (n : Fin 24), s.serves rid (laneDomain n.val) → s.flag (R.LNE_CTRL_EN n.val) = true →
    s.varlas n.val = true → s.flag (R.LNE_CTRL_TXTIM n.val) = true →
    ∃ t, exec (.rephase rid n) s = .next t ∧ (t.lane n.val).tx = .phasing ∧ (t.lane n.val).phaseAt = s.now ∧
      (t.lane n.val).phi = (s.lane n.val).phi ∧ t.flag (R.LNE_CTRL_REPHASE n.val) = false ∧
      (∀ m, m ≠ n.val → t.lane m = s.lane m) ∧ s.framed t [.regs, .answer, .lanes] [R.LNE_CTRL n.val]) ∧
  (∀ (s : State) (rid : Rid) (n : Fin 24), s.serves rid (laneDomain n.val) → s.laneMode n.val < 4 →
    s.flag (R.LNE_CTRL_EN n.val) = false ∨ s.varlas n.val = false ∨ s.flag (R.LNE_CTRL_TXTIM n.val) = false →
    ∃ t, exec (.rephase rid n) s = .next t ∧ t.flag (R.LNE_CTRL_REPHASE n.val) = false ∧
      s.framed t [.regs, .answer] [R.LNE_CTRL n.val]) ∧
  (∀ (s : State) (n : Fin 24), s.live (laneDomain n.val) = true → (s.lane n.val).tx = .phasing →
    let u := s.advanceTo ((s.lane n.val).phaseAt + 100000)
    ∃ t v, exec (.rephaseDone n) s = .next t ∧ t.regN (R.LNE_TXPH_MEAS n.val) = v ∧ v < 2 ^ 16 ∧
      (t.lane n.val).tx = .sending ∧ (t.lane n.val).phi = v ∧ (∀ m, m ≠ n.val → t.lane m = u.lane m) ∧
      u.framed t [.free, .regs, .lanes] [R.LNE_TXPH_MEAS n.val]) ∧
  (∀ (s : State) (rid : Rid) (n : Fin 24) (dir : Bool) (c : Fin 64), s.serves rid (laneDomain n.val) →
    let d := b2n dir
    let k := s.contCfg n.val d c.val
    let k' : ContCfg := { k with fmt := BitVec.ofNat 32 (nput k.fmt.toNat 15 15 1 &&& 0xC7F0) }
    k.en = false → s.contBad n.val d c.val k' = false →
    ∃ t, exec (.containerEnable rid n dir c) s = .next t ∧ t.contCfg n.val d c.val = k' ∧ (t.contCfg n.val d c.val).en = true ∧
      (∀ j, j ≠ 64 * d + c.val → tget {} (t.lane n.val).conts j = tget {} (s.lane n.val).conts j) ∧
      s.framed t [.regs, .answer, .lanes] [R.LNE_CSEL n.val]) ∧
  (∀ (s : State) (rid : Rid) (n : Fin 24) (dir : Bool) (c : Fin 64), s.serves rid (laneDomain n.val) →
    let d := b2n dir
    let k := s.contCfg n.val d c.val
    let k' : ContCfg := { k with fmt := BitVec.ofNat 32 (nput k.fmt.toNat 15 15 1 &&& 0xC7F0) }
    k.en = false → s.contBad n.val d c.val k' = true →
    ∃ t, exec (.containerEnable rid n dir c) s = .next t ∧ t.lanes = s.lanes ∧ s.laneSays t n.val 3 ∧
      s.framed t [.regs, .answer, .evt] (R.LNE_CSEL n.val :: laneEvents n.val)) ∧
  (∀ (s : State) (rid : Rid) (n : Fin 24) (dir : Bool) (c : Fin 64), s.serves rid (laneDomain n.val) →
    let k := s.contCfg n.val (b2n dir) c.val
    k.en = true → k.fmt.toNat &&& 0xC7F0 = k.fmt.toNat →
    ∃ t, exec (.containerEnable rid n dir c) s = .next t ∧ t.lanes = s.lanes ∧
      s.framed t [.regs, .answer] [R.LNE_CSEL n.val])

/-- R208 to R213: 64 good headers give block lock; its loss ends superframe lock, fails every unconfirmed unit and counts. The
search keeps at most four candidates and drops one whose expected marker is not there; three markers give superframe lock; a bad
marker counts, and the fourth in a row ends the lock. The test pattern's checker locks, and an equaliser steps towards its
preset. -/
def Obligations.LaneLocks : Prop :=
  (∀ (s : State) (n : Fin 24), s.receives n.val = true → s.flag (R.LNE_STAT_BLOCK_LOCK n.val) = false →
    ∃ t, exec (.blockLock n) s = .next t ∧ t.flag (R.LNE_STAT_BLOCK_LOCK n.val) = true ∧
      t.flag (R.LNE_STAT_HI_BER n.val) = false ∧ s.laneSays t n.val 0 ∧ (t.lane n.val).cands = [] ∧
      (∀ m, m ≠ n.val → t.lane m = s.lane m) ∧
      s.framed t [.regs, .lanes, .evt] (R.LNE_STAT n.val :: laneEvents n.val)) ∧
  (∀ (s : State) (n : Fin 24) (hiBer : Bool), s.receives n.val = true → s.flag (R.LNE_STAT_BLOCK_LOCK n.val) = true →
    ∃ t, exec (.blockLockLoss n hiBer) s = .next t ∧ t.flag (R.LNE_STAT_BLOCK_LOCK n.val) = false ∧
      t.flag (R.LNE_STAT_SF_LOCK n.val) = false ∧ t.flag (R.LNE_STAT_HI_BER n.val) = (hiBer || s.flag (R.LNE_STAT_HI_BER n.val)) ∧
      s.laneSays t n.val 0 ∧ (t.lane n.val).rx = none ∧
      (∀ c, c < 64 → tget [] t.mtx.units (64 * n.val + c) = []) ∧
      t.regN (C.LNE_BLKLOSS n.val).addr = (s.regN (C.LNE_BLKLOSS n.val).addr + 1) % 2 ^ 32 ∧
      (s.flag (R.LNE_STAT_SF_LOCK n.val) = true →
        t.regN (C.LNE_SFLOSS n.val).addr = (s.regN (C.LNE_SFLOSS n.val).addr + 1) % 2 ^ 32) ∧
      (s.live 1 = true → t.flag (R.PTP_PSTAT_CAL_DONE n.val) = false) ∧ Same lossParts s t) ∧
  (∀ (s : State) (n : Fin 24) (block : Nat) (good : Bool) (count : Byte), s.searching n.val = true →
    let cs := (s.lane n.val).cands
    ∃ t, exec (.markerCandidate n block good count) s = .next t ∧
      (∀ c ∈ cs, c.block + 256 ≠ block → c ∈ (t.lane n.val).cands) ∧
      (∀ c ∈ cs, c.block + 256 = block → good = true → count.toNat = (c.count + 1) % s.epochLen n.val →
        ⟨block, count.toNat, c.seen + 1⟩ ∈ (t.lane n.val).cands) ∧
      (∀ c ∈ (t.lane n.val).cands, c.block + 256 ≠ block) ∧
      (good = true → cs.length < 4 → (∀ c ∈ cs, c.block % 256 ≠ block % 256) →
        (t.lane n.val).cands = cs ++ [⟨block, count.toNat, 1⟩]) ∧
      (cs.length ≤ 4 → (t.lane n.val).cands.length ≤ 4) ∧
      (∀ m, m ≠ n.val → t.lane m = s.lane m) ∧ s.framed t [.lanes] []) ∧
  (∀ (s : State) (n : Fin 24) (c : Candidate), s.searching n.val = true →
    (s.lane n.val).cands.find? (fun c => 3 ≤ c.seen) = some c →
    ∃ t, exec (.superframeLock n) s = .next t ∧ t.flag (R.LNE_STAT_SF_LOCK n.val) = true ∧ s.laneSays t n.val 1 ∧
      (t.lane n.val).cands = [] ∧ (t.lane n.val).badRun = 0 ∧ (t.lane n.val).expCount = (c.count + 1) % s.epochLen n.val ∧
      (∀ m, m ≠ n.val → t.lane m = s.lane m) ∧
      s.framed t [.regs, .lanes, .evt] (R.LNE_STAT n.val :: laneEvents n.val)) ∧
  (∀ (s : State) (n : Fin 24), s.receives n.val = true → s.flag (R.LNE_STAT_SF_LOCK n.val) = true →
    (s.lane n.val).badRun < 3 →
    ∃ t, exec (.badMarker n) s = .next t ∧ t.regN (C.LNE_SFBAD n.val).addr = (s.regN (C.LNE_SFBAD n.val).addr + 1) % 2 ^ 32 ∧
      (t.lane n.val).badRun = (s.lane n.val).badRun + 1 ∧
      (t.lane n.val).expCount = ((s.lane n.val).expCount + 1) % s.epochLen n.val ∧
      t.flag (R.LNE_STAT_SF_LOCK n.val) = true ∧
      s.framed t [.regs, .dict, .lanes, .evt] ((C.LNE_SFBAD n.val).regs ++ laneEvents n.val)) ∧
  (∀ (s : State) (n : Fin 24), s.receives n.val = true → s.flag (R.LNE_STAT_SF_LOCK n.val) = true →
    3 ≤ (s.lane n.val).badRun →
    ∃ t, exec (.badMarker n) s = .next t ∧ t.regN (C.LNE_SFBAD n.val).addr = (s.regN (C.LNE_SFBAD n.val).addr + 1) % 2 ^ 32 ∧
      t.flag (R.LNE_STAT_SF_LOCK n.val) = false ∧ s.laneSays t n.val 1 ∧
      t.flag (R.LNE_STAT_BLOCK_LOCK n.val) = s.flag (R.LNE_STAT_BLOCK_LOCK n.val) ∧
      t.regN (C.LNE_SFLOSS n.val).addr = (s.regN (C.LNE_SFLOSS n.val).addr + 1) % 2 ^ 32 ∧ (t.lane n.val).cands = [] ∧
      Same lossParts s t) ∧
  (∀ (s : State) (n : Fin 24), s.live (laneDomain n.val) = true → s.flag (R.LNE_CTRL_EN n.val) = true →
    s.flag (R.LNE_CTRL_PRBS n.val) = true →
    ∃ t, exec (.prbsCheckerLock n) s = .next t ∧ t.flag (R.LNE_STAT_PRBS_LOCK n.val) = true ∧
      s.framed t [.regs] [R.LNE_STAT n.val]) ∧
  (∀ (s : State) (n : Fin 24) (p : Nat), s.live (laneDomain n.val) = true → s.flag (R.LNE_EQ_FW n.val) = false →
    (s.lane n.val).eqTarget = some p → p < 2 ^ 14 →
    let u := s.advanceTo (s.lane n.val).eqAt
    let near := fun (a b c : Nat) => (a < b → c = a + 1) ∧ (b < a → c + 1 = a) ∧ (a = b → c = a)
    ∃ t, exec (.equalisationStep n) s = .next t ∧
      near (u.fld (R.LNE_EQ_PRE n.val)) (nbits p 13 10) (t.fld (R.LNE_EQ_PRE n.val)) ∧
      near (u.fld (R.LNE_EQ_POST n.val)) (nbits p 9 5) (t.fld (R.LNE_EQ_POST n.val)) ∧
      near (u.fld (R.LNE_EQ_CTLE n.val)) (nbits p 4 0) (t.fld (R.LNE_EQ_CTLE n.val)) ∧
      (t.lane n.val).eqAt = (s.lane n.val).eqAt + 10000 ∧
      ((t.lane n.val).eqTarget = none ↔ nbits (t.regN (R.LNE_EQ n.val)) 13 0 = p) ∧
      u.framed t [.regs, .lanes] [R.LNE_EQ n.val])

/-- R177, R190, R191, R204, R207, R211: a frame whose FCS is good and that holds no Bittern code is confirmed and counts in
LNE_RXUNIT; any other fails, counts in LNE_RXFAIL, a Bittern code in LNE_RXBTN too, and leaves memory as it was. A superframe whose
every check is good confirms one unit for each container; a failed check fails them all. -/
def Obligations.LaneReceives : Prop :=
  (∀ (s : State) (n : Fin 24) (p : Fin 25) (cor unc : Byte), p.val = n.val → s.receives n.val = true → s.varlas n.val = false →
    s.flag (R.LNE_STAT_BLOCK_LOCK n.val) = true → (s.lane n.val).rx.any (fun f => f.bad) = false →
    ∃ t, exec (.ethernetFrameReceived p true false cor unc none) s = .next t ∧
      t.regN (C.LNE_RXUNIT n.val).addr = (s.regN (C.LNE_RXUNIT n.val).addr + 1) % 2 ^ 32 ∧ (t.lane n.val).rx = none ∧
      (s.laneMode n.val = 1 →
        t.regN (C.LNE_FECCOR n.val).addr = (s.regN (C.LNE_FECCOR n.val).addr + cor.toNat) % 2 ^ 32 ∧
        t.regN (C.LNE_FECUNC n.val).addr = (s.regN (C.LNE_FECUNC n.val).addr + unc.toNat) % 2 ^ 32) ∧
      Same ([.cal, .cls, .nq] ++ lossParts) s t) ∧
  (∀ (s : State) (n : Fin 24) (p : Fin 25) (fcs bittern : Bool) (cor unc : Byte), p.val = n.val → s.receives n.val = true →
    s.varlas n.val = false → s.flag (R.LNE_STAT_BLOCK_LOCK n.val) = true → (fcs && !bittern) = false →
    ∃ t, exec (.ethernetFrameReceived p fcs bittern cor unc none) s = .next t ∧
      t.regN (C.LNE_RXFAIL n.val).addr = (s.regN (C.LNE_RXFAIL n.val).addr + 1) % 2 ^ 32 ∧
      t.regN (C.LNE_RXUNIT n.val).addr = s.regN (C.LNE_RXUNIT n.val).addr ∧
      (bittern = true → t.regN (C.LNE_RXBTN n.val).addr = (s.regN (C.LNE_RXBTN n.val).addr + 1) % 2 ^ 32) ∧
      (t.lane n.val).rx = none ∧ t.sram = s.sram ∧ Same [.regs, .dict, .mtx, .lanes, .convs, .aut, .evt] s t) ∧
  (∀ (s : State) (fcs bittern : Bool) (cor unc : Byte), s.vigil = true →
    ∃ t, exec (.ethernetFrameReceived 24 fcs bittern cor unc none) s = .next t ∧ (t.lane 24).rx = none ∧
      Same ([.cal, .cls, .nq] ++ lossParts) s t) ∧
  (∀ (s : State) (n : Fin 24) (sf : Superframe), s.receives n.val = true → s.varlas n.val = true →
    s.flag (R.LNE_STAT_SF_LOCK n.val) = true → s.laneProt n.val 0 = false → sf.syncErrs = 0 → sf.control = false →
    sf.crcOk = true → sf.markerOk = true → sf.bittern = [] →
    ∃ t, exec (.superframeReceived n sf) s = .next t ∧
      t.regN (C.LNE_RXUNIT n.val).addr = (s.regN (C.LNE_RXUNIT n.val).addr +
        ((List.range 64).filter (fun c => (s.contCfg n.val 0 c).en)).length) % 2 ^ 32 ∧
      (t.lane n.val).badRun = 0 ∧ (t.lane n.val).expCount = ((s.lane n.val).expCount + 1) % s.epochLen n.val ∧
      Same lossParts s t) ∧
  (∀ (s : State) (n : Fin 24) (sf : Superframe), s.receives n.val = true → s.varlas n.val = true →
    s.flag (R.LNE_STAT_SF_LOCK n.val) = true → s.laneProt n.val 0 = false →
    sf.syncErrs ≠ 0 ∨ sf.control = true ∨ sf.crcOk = false ∨ sf.markerOk = false →
    ∃ t, exec (.superframeReceived n sf) s = .next t ∧
      t.regN (C.LNE_RXFAIL n.val).addr = (s.regN (C.LNE_RXFAIL n.val).addr +
        ((List.range 64).filter (fun c => (s.contCfg n.val 0 c).en)).length) % 2 ^ 32 ∧
      t.regN (C.LNE_RXUNIT n.val).addr = s.regN (C.LNE_RXUNIT n.val).addr ∧ Same lossParts s t)

/-- R195, R200, R203, R206: SPP samples of a container leave in one RoE packet. A container's position in a superframe carries its
data block, zeros when it has none or its samples are late (counted in LNE_TXLATE), or the Bittern code that is due, and zeros
after it; the lane never delays a position. -/
def Obligations.LaneTransmits : Prop :=
  (∀ (s : State) (n : Fin 24) (c : Fin 64),
    let g := 64 * n.val + c.val
    let k := s.cont 1 g
    let spp := nbits k.cnt.toNat 9 0
    let p := (s.packOut g ((s.tx g).out.take spp)).1
    let payload := beBytes ((p.2 + 7) / 8) (p.1 * 2 ^ (8 * ((p.2 + 7) / 8) - p.2))
    let first := ((s.tx g).out.head?.map (·.time)).getD 0
    s.laneSends n.val = true → s.varlas n.val = false → s.laneProt n.val 1 = false → k.en = true → 0 < spp →
    spp ≤ (s.tx g).out.length →
    ∃ t, exec (.roePacketTransmit n c) s = .next t ∧
      (t.lane n.val).lastTx =
        s.roeFrame n.val (nbits k.pos.toNat 7 0) (first % ticksPerSecond / s.period 1 g) k.agn payload ∧
      (t.lane n.val).bittern = false ∧ (t.tx g).out = (s.tx g).out.drop spp ∧
      t.regN (C.LNE_TXUNIT n.val).addr = (s.regN (C.LNE_TXUNIT n.val).addr + 1) % 2 ^ 32 ∧
      s.framed t [.regs, .dict, .mtx, .lanes, .evt]
        ((C.SRC_GSAT g).regs ++ (C.LNE_TXUNIT n.val).regs ++ laneEvents n.val)) ∧
  (∀ (s : State) (n : Fin 24) (c : Fin 64),
    let g := 64 * n.val + c.val
    s.laneSends n.val = true → s.varlas n.val = true → (s.cont 1 g).en = true → (s.tx g).epoch ≠ 0 → (s.tx g).bittern = 1 →
    ∃ t, exec (.transmitDataBlock n c) s = .next t ∧ (t.lane n.val).lastTx = bitternBlock ∧ (t.lane n.val).bittern = true ∧
      s.framed t [.regs, .dict, .mtx, .lanes, .evt] ((C.LNE_TXUNIT n.val).regs ++ laneEvents n.val)) ∧
  (∀ (s : State) (n : Fin 24) (c : Fin 64),
    let g := 64 * n.val + c.val
    s.laneSends n.val = true → s.varlas n.val = true → (s.cont 1 g).en = true → (s.tx g).epoch ≠ 0 → (s.tx g).bittern = 2 →
    ∃ t, exec (.transmitDataBlock n c) s = .next t ∧ (t.lane n.val).lastTx = List.replicate 8 0 ∧
      (t.lane n.val).bittern = false ∧
      s.framed t [.regs, .dict, .mtx, .lanes, .evt] ((C.LNE_TXUNIT n.val).regs ++ laneEvents n.val)) ∧
  (∀ (s : State) (n : Fin 24) (c : Fin 64) (m v : Nat) (sat : Nat),
    let g := 64 * n.val + c.val
    let k := s.cont 1 g
    let total := s.epochLen n.val * max 1 k.kPos
    s.laneSends n.val = true → s.varlas n.val = true → k.en = true → (s.tx g).epoch ≠ 0 → (s.tx g).bittern = 0 →
    dataBlocks k ≤ total → m < dataBlocks k → (s.tx g).pos = m * total / dataBlocks k →
    s.dataBlock g m (s.tx g).epoch = some (v, sat) →
    ∃ t, exec (.transmitDataBlock n c) s = .next t ∧ (t.lane n.val).lastTx = beBytes 8 v ∧ (t.lane n.val).bittern = false ∧
      ((s.tx g).pos + 1 < total → (t.tx g).pos = (s.tx g).pos + 1 ∧ (t.tx g).epoch = (s.tx g).epoch) ∧
      ((s.tx g).pos + 1 = total → (t.tx g).pos = 0 ∧ (t.tx g).epoch = (s.tx g).epoch + ticksPerEpoch) ∧
      s.framed t [.regs, .dict, .mtx, .lanes, .evt]
        ((C.SRC_GSAT g).regs ++ (C.LNE_TXUNIT n.val).regs ++ laneEvents n.val)) ∧
  (∀ (s : State) (n : Fin 24) (c : Fin 64) (m : Nat),
    let g := 64 * n.val + c.val
    let k := s.cont 1 g
    let total := s.epochLen n.val * max 1 k.kPos
    s.laneSends n.val = true → s.varlas n.val = true → k.en = true → (s.tx g).epoch ≠ 0 → (s.tx g).bittern = 0 →
    dataBlocks k ≤ total → m < dataBlocks k → (s.tx g).pos = m * total / dataBlocks k →
    s.dataBlock g m (s.tx g).epoch = none →
    ∃ t, exec (.transmitDataBlock n c) s = .next t ∧ (t.lane n.val).lastTx = List.replicate 8 0 ∧
      t.regN (C.LNE_TXLATEC n.val).addr = (s.regN (C.LNE_TXLATEC n.val).addr + 1) % 2 ^ 32 ∧ s.laneSays t n.val 4 ∧
      s.framed t [.regs, .dict, .mtx, .lanes, .evt]
        ((C.LNE_TXLATEC n.val).regs ++ (C.LNE_TXUNIT n.val).regs ++ laneEvents n.val)) ∧
  (∀ (s : State) (n : Fin 24) (c : Fin 64),
    let g := 64 * n.val + c.val
    let k := s.cont 1 g
    let total := s.epochLen n.val * max 1 k.kPos
    s.laneSends n.val = true → s.varlas n.val = true → k.en = true → (s.tx g).epoch ≠ 0 → (s.tx g).bittern = 0 →
    (∀ m, m < dataBlocks k → m * total / dataBlocks k ≠ (s.tx g).pos) →
    ∃ t, exec (.transmitDataBlock n c) s = .next t ∧ (t.lane n.val).lastTx = List.replicate 8 0 ∧
      s.framed t [.regs, .dict, .mtx, .lanes, .evt] ((C.LNE_TXUNIT n.val).regs ++ laneEvents n.val))

/-! ### Rate converters and Harvest -/

/-- R221, R225 to R229: a commit request copies the staging bank into the active one, at once and with its history cleared where
the Day table does not name the converter, with its history kept where it runs, and on unstall where it is stalled; it is refused
where the program breaks its limits or changes the rates of a converter in use, and held during a Saltern commit that names it.
A forced commit discards the history. The test port runs its samples through the active program. -/
def Obligations.ConverterCommits : Prop :=
  (∀ (s : State) (rid : Rid) (c : Instr), c = .converterCommitRequest rid ∨ c = .converterForcedCommit rid → s.serves rid 13 →
    let x := s.conv s.csel
    progLegal x.stg.toNat x.stgStep.toNat = false ∨
      (convUses s.mtx.day s.csel ≠ [] ∧
        (progIn x.stg.toNat ≠ progIn x.act.toNat ∨ progOut x.stg.toNat ≠ progOut x.act.toNat)) →
    ∃ t, exec c s = .next t ∧ t.conv s.csel = { x with rej := true } ∧ (∀ k, k ≠ s.csel → t.conv k = s.conv k) ∧
      s.framed t [.regs, .answer, .convs] [R.SRC_CMT]) ∧
  (∀ (s : State) (rid : Rid), s.serves rid 13 →
    let x := s.conv s.csel
    progLegal x.stg.toNat x.stgStep.toNat = true → s.mtxState = 0 → convUses s.mtx.day s.csel = [] →
    ∃ t, exec (.converterCommitRequest rid) s = .next t ∧ (t.conv s.csel).act = x.stg ∧ (t.conv s.csel).actStep = x.stgStep ∧
      (t.conv s.csel).actCoef = x.stgCoef ∧ (t.conv s.csel).hist = [] ∧ (t.conv s.csel).pend = 0 ∧
      (∀ k, k ≠ s.csel → t.conv k = s.conv k) ∧ s.framed t [.regs, .answer, .convs] [R.SRC_CMT]) ∧
  (∀ (s : State) (rid : Rid), s.serves rid 13 →
    let x := s.conv s.csel
    progLegal x.stg.toNat x.stgStep.toNat = true → s.mtxState = 0 → convUses s.mtx.day s.csel ≠ [] →
    progIn x.stg.toNat = progIn x.act.toNat → progOut x.stg.toNat = progOut x.act.toNat → s.convStalled s.csel = false →
    ∃ t, exec (.converterCommitRequest rid) s = .next t ∧ (t.conv s.csel).act = x.stg ∧ (t.conv s.csel).actStep = x.stgStep ∧
      (t.conv s.csel).actCoef = x.stgCoef ∧ (t.conv s.csel).hist = x.hist ∧ (t.conv s.csel).pend = 0 ∧
      (∀ k, k ≠ s.csel → t.conv k = s.conv k) ∧ s.framed t [.regs, .answer, .convs] [R.SRC_CMT]) ∧
  (∀ (s : State) (rid : Rid), s.serves rid 13 →
    let x := s.conv s.csel
    progLegal x.stg.toNat x.stgStep.toNat = true → s.mtxState = 0 → convUses s.mtx.day s.csel ≠ [] →
    progIn x.stg.toNat = progIn x.act.toNat → progOut x.stg.toNat = progOut x.act.toNat → s.convStalled s.csel = true →
    ∃ t, exec (.converterCommitRequest rid) s = .next t ∧
      t.conv s.csel = { x with pend := 1, held := false, stalledAt := some s.now } ∧
      (∀ k, k ≠ s.csel → t.conv k = s.conv k) ∧ s.framed t [.regs, .answer, .convs] [R.SRC_CMT]) ∧
  (∀ (s : State) (rid : Rid), s.serves rid 13 →
    let x := s.conv s.csel
    progLegal x.stg.toNat x.stgStep.toNat = true → convUses s.mtx.day s.csel = [] → s.mtxState ≠ 0 →
    (convUses s.mtx.eve s.csel).any (fun u => s.mtx.changed.contains u.1) = true →
    (∃ t, exec (.converterCommitRequest rid) s = .next t ∧ t.conv s.csel = { x with pend := max x.pend 1, held := true } ∧
      (∀ k, k ≠ s.csel → t.conv k = s.conv k) ∧ s.framed t [.regs, .answer, .convs] [R.SRC_CMT]) ∧
    (∃ t, exec (.converterForcedCommit rid) s = .next t ∧ t.conv s.csel = { x with pend := max x.pend 2, held := true } ∧
      (∀ k, k ≠ s.csel → t.conv k = s.conv k) ∧ s.framed t [.regs, .answer, .convs] [R.SRC_CMT])) ∧
  (∀ (s : State) (rid : Rid), s.serves rid 13 →
    let x := s.conv s.csel
    progLegal x.stg.toNat x.stgStep.toNat = true → s.mtxState = 0 →
    convUses s.mtx.day s.csel = [] ∨
      (progIn x.stg.toNat = progIn x.act.toNat ∧ progOut x.stg.toNat = progOut x.act.toNat) →
    ∃ t, exec (.converterForcedCommit rid) s = .next t ∧ (t.conv s.csel).act = x.stg ∧ (t.conv s.csel).actCoef = x.stgCoef ∧
      (t.conv s.csel).hist = [] ∧ (t.conv s.csel).disc = x.hist.length ∧ (t.conv s.csel).trunc = true ∧
      (t.conv s.csel).pend = 0 ∧ (t.conv s.csel).void = s.convStalled s.csel ∧
      t.regN C.SRC_FORCED.addr = (s.regN C.SRC_FORCED.addr + 1) % 2 ^ 32 ∧ (∀ k, k ≠ s.csel → t.conv k = s.conv k) ∧
      s.framed t [.regs, .dict, .answer, .convs] (R.SRC_CMT :: C.SRC_FORCED.regs)) ∧
  (∀ (s : State) (n : Fin 256) (since : Nat), s.live 13 = true → (s.conv n.val).pend ≠ 0 → (s.conv n.val).held = false →
    (s.conv n.val).stalledAt = some since →
    let u := s.advanceTo (since + 1000 * s.stallLimit)
    u.convStalled n.val = true →
    ∃ t, exec (.converterStallLimit n) s = .next t ∧ (t.conv n.val).act = (u.conv n.val).stg ∧ (t.conv n.val).hist = [] ∧
      (t.conv n.val).pend = 0 ∧ (t.conv n.val).trunc = true ∧ (t.conv n.val).disc = (u.conv n.val).hist.length ∧
      t.regN C.SRC_FORCED.addr = (u.regN C.SRC_FORCED.addr + 1) % 2 ^ 32 ∧
      u.framed t [.regs, .dict, .convs] C.SRC_FORCED.regs) ∧
  (∀ (s : State) (n : Fin 256) (g m : Nat) (r : RouteSrc),
    let x := s.conv n.val
    let pin := ratePeriod (progIn x.act.toNat)
    let tin := s.txNext g / pin * pin
    s.live 13 = true → s.live 12 = true → x.pend ≠ 0 → x.held = false → x.stalledAt.isSome = true → x.void = false →
    convUses s.mtx.day n.val = [(g, r)] → routeSources s.mtx.day g = [r] → r.conv = some n.val → s.convStalled n.val = false →
    s.mtxState ≠ 2 → s.flag R.MTX_CTRL_EN = true → routeEn s.mtx.day g = true → s.srcAbsent r.src = false →
    (s.recv r.src).next = some m → tin < m →
    ∃ t, exec (.converterUnstall n) s = .next t ∧ (t.conv n.val).act = x.stg ∧ (t.conv n.val).pend = 0 ∧
      (t.conv n.val).stalledAt = none ∧
      (t.conv n.val).hist = takeInputs x.hist (tget [] s.mtx.skew (slotKey false g r.slot)) pin tin ∧
      (t.tx g).next = some (s.txNext g + s.period 1 g) ∧ (∀ k, k ≠ n.val → t.conv k = s.conv k) ∧
      Same [.regs, .dict, .mtx, .convs, .evt] s t) ∧
  (∀ (s : State) (rid : Rid), s.serves rid 13 →
    let x := s.conv s.csel
    let n := s.fld R.SRC_TEST_CTRL_COUNT
    let xs := (List.range n).map (fun j => testIn (s.regN (R.SRC_TIN j)))
    x.en = true → convUses s.mtx.day s.csel = [] → nbit x.act.toNat 29 = false → progIn x.act.toNat = progOut x.act.toNat →
    1 ≤ n → n ≤ 256 →
    ∃ t, exec (.converterTestGo rid) s = .next t ∧ t.fld R.SRC_TEST_STAT_OUTCNT = n ∧ t.flag R.SRC_TEST_CTRL_GO = false ∧
      (∀ j, j < n → t.regN (R.SRC_TOUT j) = testOut (s.convSat (x.fir 0 (testHist xs j))).1) ∧
      s.framed t [.regs, .dict, .answer]
        ([R.SRC_TEST_CTRL, R.SRC_TEST_STAT] ++ C.SRC_CONVSAT.regs ++ (List.range n).map R.SRC_TOUT)) ∧
  (∀ (s : State) (rid : Rid), s.serves rid 13 → (s.conv s.csel).en = false ∨ convUses s.mtx.day s.csel ≠ [] →
    ∃ t, exec (.converterTestGo rid) s = .next t ∧ t.conv s.csel = { s.conv s.csel with rej := true } ∧
      (∀ k, k ≠ s.csel → t.conv k = s.conv k) ∧ s.framed t [.regs, .answer, .convs] [R.SRC_TEST_CTRL])

/-- R231 to R237: a companion word begins, extends or abandons a message of its slot, and an idle word is discarded. Harvest sends
the message of the next owned descriptor and clears OWN in memory, or completes it with ERR. A slot is enabled at ring index 0, or
refused with CFG_REJ; disabling one abandons its message and leaves its descriptor owned. -/
def Obligations.HarvestMessages : Prop :=
  (∀ (s : State) (n : Fin 24) (j : Fin 8) (fin : Bool) (word : BitVec 64),
    let k := hvsSlot n.val j.val 0
    let u := s.engTapWord (8 * n.val + j.val) (beBytes 8 word.toNat) true fin (s.epochNs n.val)
    let w1 := s.ramWord (s.slotDesc k + 4)
    s.slotOn k = true → s.laneLocked n.val = true → (s.slot k).active = false → s.inRam (s.slotDesc k) 16 →
    ∃ t, exec (.companionWordReceived n j true fin word) s = .next t ∧ (t.slot k).active = true ∧
      (t.slot k).bytes = beBytes 8 word.toNat ∧ (t.slot k).fin = fin ∧ (t.slot k).written = 0 ∧
      (t.slot k).stamp = s.epochNs n.val ∧ (t.slot k).desc = nbit w1 31 ∧ (∀ i, i ≠ k → t.slot i = s.slot i) ∧
      u.framed t [.hvs] []) ∧
  (∀ (s : State) (n : Fin 24) (j : Fin 8) (fin : Bool) (word : BitVec 64),
    let k := hvsSlot n.val j.val 0
    let u := s.engTapWord (8 * n.val + j.val) (beBytes 8 word.toNat) true fin (s.epochNs n.val)
    s.slotOn k = true → s.laneLocked n.val = true → (s.slot k).active = true → s.inRam (s.slotDesc k) 16 →
    ∃ t, exec (.companionWordReceived n j true fin word) s = .next t ∧ (t.slot k).bytes = beBytes 8 word.toNat ∧
      t.regN (C.HVS_FAIL k).addr = (s.regN (C.HVS_FAIL k).addr + 1) % 2 ^ 32 ∧ (s.live 7 = true → t.pends 59 = true) ∧
      u.framed t [.regs, .dict, .hvs, .evt] (R.EVT_PEND 1 :: (C.HVS_FAIL k).regs)) ∧
  (∀ (s : State) (n : Fin 24) (j : Fin 8) (fin : Bool) (word : BitVec 64),
    let k := hvsSlot n.val j.val 0
    let u := s.engTapWord (8 * n.val + j.val) (beBytes 8 word.toNat) false fin (s.epochNs n.val)
    s.slotOn k = true → s.laneLocked n.val = true → (s.slot k).active = true →
    ∃ t, exec (.companionWordReceived n j false fin word) s = .next t ∧
      t.slot k = { s.slot k with bytes := (s.slot k).bytes ++ beBytes 8 word.toNat, fin := (s.slot k).fin || fin } ∧
      (∀ i, i ≠ k → t.slot i = s.slot i) ∧ u.framed t [.hvs] []) ∧
  (∀ (s : State) (n : Fin 24) (j : Fin 8) (fin : Bool) (word : BitVec 64), s.laneLocked n.val = true →
    s.slotOn (hvsSlot n.val j.val 0) = true → (s.slot (hvsSlot n.val j.val 0)).active = false →
    exec (.companionWordReceived n j false fin word) s =
      .next (s.engTapWord (8 * n.val + j.val) (beBytes 8 word.toNat) false fin (s.epochNs n.val))) ∧
  (∀ (s : State) (n : Fin 24) (j : Fin 8),
    let k := hvsSlot n.val j.val 1
    let a := s.slotDesc k
    let buf := s.ramWord a
    let w1 := s.ramWord (a + 4)
    let len := w1 % 65536
    s.slotOn k = true → s.laneSends n.val = true → s.varlas n.val = true → s.inRam a 16 → nbit w1 31 = true → 0 < len →
    len % 8 = 0 → s.inRam buf len →
    ∃ t, exec (.harvestTransmit n j) s = .next t ∧ (t.lane n.val).lastTx = s.ram buf len ∧
      t.ramWord (a + 4) = nput w1 31 31 0 ∧ t.ramWord (a + 12) = s.epochNs n.val ∧ s.ramKept t [(a + 4, 4), (a + 12, 4)] ∧
      t.fld (R.HVS_SLOT2_IDX k) = (s.fld (R.HVS_SLOT2_IDX k) + 1) % max 2 (min 256 (s.fld (R.HVS_SLOT2_SIZE k))) ∧
      t.regN (C.HVS_MSGS k).addr = (s.regN (C.HVS_MSGS k).addr + 1) % 2 ^ 32 ∧
      (s.flag (R.HVS_SLOT0_IRQ k) = true → s.live 7 = true → t.pends 56 = true) ∧
      s.framed t [.regs, .dict, .sram, .lanes, .hvs, .evt] (R.HVS_SLOT2 k :: R.EVT_PEND 1 :: (C.HVS_MSGS k).regs)) ∧
  (∀ (s : State) (n : Fin 24) (j : Fin 8),
    let k := hvsSlot n.val j.val 1
    let a := s.slotDesc k
    let w1 := s.ramWord (a + 4)
    let len := w1 % 65536
    s.slotOn k = true → s.laneSends n.val = true → s.inRam a 16 → nbit w1 31 = true →
    len = 0 ∨ (s.varlas n.val = true ∧ len % 8 ≠ 0) ∨ (s.varlas n.val = false ∧ (len < 60 ∨ 1514 < len)) →
    ∃ t, exec (.harvestTransmit n j) s = .next t ∧ t.ramWord (a + 4) = nput (nput w1 31 31 0) 30 30 1 ∧
      s.ramKept t [(a + 4, 4)] ∧ s.framed t [.regs, .sram] [R.HVS_SLOT2 k]) ∧
  (∀ (s : State) (n : Fin 24) (j : Fin 8),
    let k := hvsSlot n.val j.val 1
    s.slotOn k = true → s.laneSends n.val = true → s.inRam (s.slotDesc k) 16 → nbit (s.ramWord (s.slotDesc k + 4)) 31 = false →
    exec (.harvestTransmit n j) s = .next s) ∧
  (∀ (s : State) (rid : Rid) (n : Fin 384) (data : Word),
    let a := R.HVS_SLOT0 n.val
    let v := (s.reg a &&& ~~~0xC0FF1F00) ||| ((data ||| 0x80000000) &&& 0xC0FF1F00)
    s.serves rid 12 → s.flag (R.HVS_SLOT0_EN n.val) = false → (s.setReg a v).slotBad n.val = false →
    ∃ t, exec (.harvestSlotEnable rid n data) s = .next t ∧ t.reg a = v ∧ t.fld (R.HVS_SLOT2_IDX n.val) = 0 ∧
      t.slot n.val = {} ∧ (∀ i, i ≠ n.val → t.slot i = s.slot i) ∧
      s.framed t [.regs, .answer, .hvs] [a, R.HVS_SLOT2 n.val]) ∧
  (∀ (s : State) (rid : Rid) (n : Fin 384) (data : Word),
    let a := R.HVS_SLOT0 n.val
    let v := (s.reg a &&& ~~~0xC0FF1F00) ||| ((data ||| 0x80000000) &&& 0xC0FF1F00)
    s.serves rid 12 → s.flag (R.HVS_SLOT0_EN n.val) = true ∨ (s.setReg a v).slotBad n.val = true →
    ∃ t, exec (.harvestSlotEnable rid n data) s = .next t ∧
      t.flag (R.HVS_SLOT0_EN n.val) = s.flag (R.HVS_SLOT0_EN n.val) ∧
      (s.flag (R.HVS_SLOT0_EN n.val) = true → t.reg a = s.reg a) ∧ t.flag R.HVS_STAT_CFG_REJ = true ∧
      s.framed t [.regs, .answer] [a, R.HVS_STAT]) ∧
  (∀ (s : State) (rid : Rid) (n : Fin 384), s.serves rid 12 → s.flag (R.HVS_SLOT0_EN n.val) = true →
    ∃ t, exec (.harvestSlotDisable rid n) s = .next t ∧ t.flag (R.HVS_SLOT0_EN n.val) = false ∧ t.slot n.val = {} ∧
      (∀ i, i ≠ n.val → t.slot i = s.slot i) ∧ t.sram = s.sram ∧
      s.framed t [.regs, .answer, .hvs] [R.HVS_SLOT0 n.val])

/-! ### Classifier and Crystallizer engines -/

/-- R243 (R241 in part): the winner of a search matches: it is valid, not suspect, its row group is enabled and passes its test, the key
agrees with it in every compared bit, and its enabled ranges are true. No other matching entry has a higher priority, and none of
equal priority a lower number; and there is a winner where any entry matches. Where none does, the frame takes the miss action of its
port. -/
def Obligations.ClassifierWinner : Prop :=
  (∀ (s : State) (k : KeyParts) (e : Nat), tsorted s.cls.entries = true → s.winner k = some e →
    let c := s.cslot e
    let prio := fun (x : Nat) => nbits (s.cslot x).arr.attr.toNat 27 16
    c.valid = true ∧ s.suspect e = false ∧ s.flag (R.CLS_RG_EN (e / 128)) = true ∧
      (∀ i, i < 192 → c.arr.mask.getLsbD i = true → k.bits.getLsbD i = c.arr.value.getLsbD i) ∧
      (nbit c.arr.attr.toNat 6 = true → s.rangeTrue k (nbits c.arr.attr.toNat 5 0) = true) ∧
      (nbit c.arr.attr.toNat 14 = true → s.rangeTrue k (nbits c.arr.attr.toNat 13 8) = true) ∧
      ∀ x, x ≠ e → (s.cslot x).valid = true → s.matches_ k x (s.cslot x) = true → prio x < prio e ∨ (prio x = prio e ∧ e < x)) ∧
  (∀ (s : State) (k : KeyParts) (e : Nat), tsorted s.cls.entries = true → s.matches_ k e (s.cslot e) = true →
    (s.winner k).isSome = true) ∧
  (∀ (s : State) (p : Fin 25) (frame : List Byte) (sec : BitVec 48) (stamp : Word),
    let k := keyParts p.val false frame (s.fld (R.CLS_PORT_CFG_WOFS p.val))
    let d := s.applicable k (s.fld (R.CLS_PORT_CFG_MISS_DEST p.val))
    s.searches p.val → s.mgmtFrame (keyParts p.val false frame 0) = false → s.winner k = none → d.1 ≠ 1 →
    ∃ t, exec (.classifierSearch p frame sec stamp none) s = .next t ∧
      (t.lane p.val).rx = some
        { bytes := frame, sec := sec.toNat, stamp := stamp.toNat, dest := d.1, arg := s.fld (R.CLS_PORT_CFG_MISS_ARG p.val),
          wins := [none], drop := d.2 } ∧ t.cls.entries = s.cls.entries ∧
      s.framed t [.lanes, .cls] []) ∧
  (∀ (s : State) (p : Fin 25) (frame : List Byte) (sec : BitVec 48) (stamp : Word),
    let k := keyParts p.val false frame (s.fld (R.CLS_PORT_CFG_WOFS p.val))
    s.searches p.val → s.mgmtFrame (keyParts p.val false frame 0) = false → s.winner k = none →
    (s.applicable k (s.fld (R.CLS_PORT_CFG_MISS_DEST p.val))).1 = 1 →
    ∃ u, Same [.cls] s u ∧ u.cls.entries = s.cls.entries ∧ exec (.classifierSearch p frame sec stamp none) s = .next (u.steer p.val
      { bytes := frame, sec := sec.toNat, stamp := stamp.toNat, dest := 1, arg := s.fld (R.CLS_PORT_CFG_MISS_ARG p.val),
        wins := [none] }))

/-- R240, R243 to R246, R248, R249, R253: a frame goes where its winner's action says; management
frames and field-port frames go to the responder; one that finds eight keys waiting is dropped. A winner that differs from its
stored copy becomes suspect, with E72. A confirmed frame is written whole into its firmware queue, or dropped at a full ring. -/
def Obligations.ClassifierFrames : Prop :=
  (∀ (s : State) (p : Fin 25) (frame : List Byte) (sec : BitVec 48) (stamp : Word) (e : Nat),
    let k := keyParts p.val false frame (s.fld (R.CLS_PORT_CFG_WOFS p.val))
    let act := (s.cslot e).arr.action.toNat
    let d := s.applicable k (nbits act 31 28)
    s.searches p.val → s.mgmtFrame (keyParts p.val false frame 0) = false → s.winner k = some e → (s.cslot e).wrong = false →
    d.1 ≠ 1 → nbit act 19 = false →
    ∃ t, exec (.classifierSearch p frame sec stamp none) s = .next t ∧
      (t.lane p.val).rx = some
        { bytes := frame, sec := sec.toNat, stamp := stamp.toNat, dest := d.1, arg := nbits act 27 20, entry := some e,
          wins := [some e], drop := d.2 } ∧ t.cls.entries = s.cls.entries ∧ s.framed t [.lanes, .cls] []) ∧
  (∀ (s : State) (p : Fin 25) (frame : List Byte) (sec : BitVec 48) (stamp : Word),
    s.searches p.val → s.mgmtFrame (keyParts p.val false frame 0) = true →
    ∃ t, exec (.classifierSearch p frame sec stamp none) s = .next t ∧
      (t.lane p.val).rx = some { bytes := frame, sec := sec.toNat, stamp := stamp.toNat, dest := 6 } ∧
      s.framed t [.lanes, .cls] []) ∧
  (∀ (s : State) (frame : List Byte) (sec : BitVec 48) (stamp : Word) (u : Option EntryUpset), s.vigil = true →
    etherOff frame = 12 → be16 frame 12 = 0x88B5 →
    ∃ t, exec (.classifierSearch 24 frame sec stamp u) s = .next t ∧
      (t.lane 24).rx = some { bytes := frame, sec := sec.toNat, stamp := stamp.toNat, dest := 6 } ∧ s.framed t [.lanes] []) ∧
  (∀ (s : State) (p : Fin 25) (frame : List Byte) (sec : BitVec 48) (stamp : Word), p.val < 24 → s.receives p.val = true →
    s.varlas p.val = false → s.live 11 = true → s.flag R.CLS_CTRL_EN = true → s.now < s.cls.freeAt →
    8 ≤ tget 0 s.cls.keys p.val → s.mgmtFrame (keyParts p.val false frame 0) = false →
    ∃ t, exec (.classifierSearch p frame sec stamp none) s = .next t ∧ t.flag R.CLS_STAT_KEYDROP = true ∧
      (t.lane p.val).rx = some { bytes := frame, sec := sec.toNat, stamp := stamp.toNat, drop := 1 } ∧
      (s.live 7 = true → s.cls.dropAt = none → t.pends 67 = true) ∧
      s.framed t [.regs, .lanes, .cls, .evt] [R.CLS_STAT, R.EVT_PEND 2]) ∧
  (∀ (s : State) (p : Fin 25) (frame : List Byte) (sec : BitVec 48) (stamp : Word) (e i : Nat),
    s.searches p.val → s.mgmtFrame (keyParts p.val false frame 0) = false →
    s.winner (keyParts p.val false frame (s.fld (R.CLS_PORT_CFG_WOFS p.val))) = some e → e < 4096 →
    (s.cslot e).uncor = false → (s.cslot e).wrong = true → i < 16 → s.flag (R.CLS_SUSPT_VALID i) = false →
    ∃ t, exec (.classifierSearch p frame sec stamp none) s = .next t ∧ t.suspect e = true ∧
      (s.live 7 = true → t.pends 72 = true) ∧
      (∀ f, (t.lane p.val).rx = some f → f.entry ≠ some e) ∧
      Same [.free, .regs, .dict, .mtx, .lanes, .cls, .aut, .evt] s t) ∧
  (∀ (s : State) (q : Nat) (w0 : Word) (f : RxFrame) (r : List (Nat × Word × RxFrame)),
    let size := max 4 (min 64 (s.fld (R.CLS_FQ_CFG_SIZE q)))
    let head := s.fld (R.CLS_FQ_HEAD_IDX q) % size
    let a := s.fld (R.CLS_FQ_BASE_BASE q) * 2048 + 2048 * head
    let n := min 2032 f.bytes.length
    s.live 11 = true → s.cls.fqWait = (q, w0, f) :: r → q < 4 → s.flag (R.CLS_FQ_CFG_EN q) = true →
    (head + 1) % size ≠ s.fld (R.CLS_FQ_TAIL_IDX q) → s.inRam a 2048 →
    ∃ t, exec .fqEntryWritten s = .next t ∧ t.cls.fqWait = r ∧ t.ramWord a = w0.toNat ∧
      t.ramWord (a + 4) = f.sec % 2 ^ 32 ∧ t.ramWord (a + 8) = f.sec / 2 ^ 32 % 65536 ∧ t.ramWord (a + 12) = f.stamp % 2 ^ 32 ∧
      t.ram (a + 16) n = f.bytes.take n ∧ s.ramKept t [(a, 2048)] ∧ t.regN (R.CLS_FQ_HEAD q) = (head + 1) % size ∧
      (s.live 7 = true → t.pends 64 = true) ∧
      s.framed t [.regs, .sram, .cls, .evt] [R.CLS_FQ_HEAD q, R.EVT_PEND 2]) ∧
  (∀ (s : State) (q : Nat) (w0 : Word) (f : RxFrame) (r : List (Nat × Word × RxFrame)),
    let size := max 4 (min 64 (s.fld (R.CLS_FQ_CFG_SIZE q)))
    s.live 11 = true → s.cls.fqWait = (q, w0, f) :: r → s.flag (R.CLS_FQ_CFG_EN q) = true →
    (s.fld (R.CLS_FQ_HEAD_IDX q) % size + 1) % size = s.fld (R.CLS_FQ_TAIL_IDX q) →
    ∃ t, exec .fqEntryWritten s = .next t ∧ t.cls.fqWait = r ∧
      t.regN C.CLS_FQDROP.addr = (s.regN C.CLS_FQDROP.addr + 1) % 2 ^ 32 ∧ (s.live 7 = true → t.pends 65 = true) ∧
      s.framed t [.regs, .dict, .cls, .evt] (R.EVT_PEND 2 :: C.CLS_FQDROP.regs))

/-- R250 to R255: an entry command is taken for the selected entry, or refused with BUSY while one is in progress. At its end READ
copies the stored copy into the staging registers, WRITE writes an invalid entry as value AND mask, INVALIDATE and VALIDATE clear
and set its valid bit; a refused command changes nothing but ERR. Rake rewrites a suspect entry from its stored copy, and repairs
a mismatch it meets in the background. -/
def Obligations.ClassifierEntries : Prop :=
  (∀ (s : State) (rid : Rid) (c : Instr) (cmd : Nat), s.serves rid 11 →
    (c = .entryRead rid ∧ cmd = 1) ∨ (c = .entryWrite rid ∧ cmd = 2) ∨ (c = .entryInvalidate rid ∧ cmd = 3) ∨
      (c = .entryValidate rid ∧ cmd = 4) →
    (s.flag R.CLS_ECSTAT_BUSY = false →
      ∃ t, exec c s = .next t ∧ t.flag R.CLS_ECSTAT_BUSY = true ∧
        t.cls = { s.cls with command := some (cmd, s.fld R.CLS_ESEL_ENTRY) } ∧
        s.framed t [.regs, .answer, .cls] [R.CLS_ECMD, R.CLS_ECSTAT]) ∧
    (s.flag R.CLS_ECSTAT_BUSY = true →
      ∃ t, exec c s = .next t ∧ t.fld R.CLS_ECSTAT_ERR = 4 ∧ t.flag R.CLS_ECSTAT_BUSY = true ∧
        s.framed t [.regs, .answer, .evt] [R.CLS_ECMD, R.CLS_ECSTAT, R.EVT_PEND 2])) ∧
  (∀ (s : State) (cmd e : Nat), s.live 11 = true → s.cls.command = some (cmd, e) →
    ∃ t, exec .entryCommandDone s = .next t ∧ t.flag R.CLS_ECSTAT_BUSY = false ∧ t.cls.command = none ∧
      (s.live 7 = true → t.pends 66 = true) ∧ (∀ x, x ≠ e → t.cslot x = s.cslot x) ∧
      (cmd = 1 → t.cslot e = s.cslot e ∧ t.reg R.CLS_EATTR = (s.cslot e).stored.attr ∧
        t.reg R.CLS_EACT = (s.cslot e).stored.action ∧ t.staged192 R.CLS_EVAL = (s.cslot e).stored.value ∧
        t.staged192 R.CLS_EMSK = (s.cslot e).stored.mask) ∧
      (cmd = 2 → (s.cslot e).valid = false → s.fld R.CLS_EACT_DEST < 7 → s.fld R.CLS_EACT_DEST ≠ 3 ∨ s.isAN = false →
        let x : ClsEntry := ⟨s.staged192 R.CLS_EVAL &&& s.staged192 R.CLS_EMSK, s.staged192 R.CLS_EMSK, s.reg R.CLS_EATTR,
          s.reg R.CLS_EACT⟩
        t.cslot e = { arr := x, stored := x }) ∧
      (cmd = 2 → (s.cslot e).valid = true ∨ 6 < s.fld R.CLS_EACT_DEST ∨ (s.fld R.CLS_EACT_DEST = 3 ∧ s.isAN = true) →
        t.cslot e = s.cslot e ∧ t.fld R.CLS_ECSTAT_ERR ≠ 0) ∧
      (cmd = 3 → t.cslot e = { s.cslot e with valid := false } ∧ t.suspect e = false) ∧
      (cmd = 4 → (s.cslot e).uncor = false → t.cslot e = { s.cslot e with valid := true }) ∧
      (cmd = 4 → (s.cslot e).uncor = true → t.cslot e = s.cslot e ∧ t.fld R.CLS_ECSTAT_ERR = 5) ∧
      s.framed t [.regs, .cls, .evt] ([R.CLS_ECSTAT, R.EVT_PEND 2, R.CLS_EATTR, R.CLS_EACT, R.CLS_STAT] ++
        (List.range 6).map R.CLS_EVAL ++ (List.range 6).map R.CLS_EMSK ++ (List.range 16).map R.CLS_SUSPT)) ∧
  (∀ (s : State) (i : Fin 16), s.live 11 = true → s.flag (R.CLS_SUSPT_VALID i.val) = true →
    let e := s.fld (R.CLS_SUSPT_ENTRY i.val)
    (s.cslot e).uncor = false →
    ∃ t, exec (.rakeRepairDone i) s = .next t ∧ t.cslot e = { s.cslot e with arr := (s.cslot e).stored } ∧
      t.suspect e = false ∧ (∀ x, x ≠ e → t.cslot x = s.cslot x) ∧
      s.framed t [.regs, .cls] (R.CLS_STAT :: (List.range 16).map R.CLS_SUSPT)) ∧
  (∀ (s : State) (i : Fin 16), s.live 11 = true → s.flag (R.CLS_SUSPT_VALID i.val) = true →
    let e := s.fld (R.CLS_SUSPT_ENTRY i.val)
    (s.cslot e).uncor = true →
    ∃ t, exec (.rakeRepairDone i) s = .next t ∧ (t.cslot e).valid = false ∧ t.fld R.CLS_UNCOR_E_ENTRY = e ∧
      t.flag R.CLS_STAT_UNCOR = true ∧ (s.live 7 = true → t.pends 73 = true) ∧
      s.framed t [.regs, .cls, .evt] ([R.CLS_STAT, R.CLS_UNCOR_E, R.EVT_PEND 2] ++ (List.range 16).map R.CLS_SUSPT)) ∧
  (∀ (s : State) (e : Nat) (c : ClsSlot), s.live 11 = true → s.flag R.CLS_CTRL_RAKE_EN = true →
    let u := s.advanceTo s.cls.rakeDue
    u.cls.command = none → u.cls.freeAt ≤ u.now → tsorted u.cls.entries = true →
    u.cls.entries.find? (fun p => p.2.valid && u.cls.rakeAt ≤ p.1) = some (e, c) → c.uncor = false →
    ∃ t, exec .rakeBackgroundStep s = .next t ∧ t.cls.rakeAt = (e + 1) % 4096 ∧ t.cls.rakeDue = u.now + 1000 ∧
      t.cslot e = (if c.wrong then { c with arr := c.stored } else c) ∧
      (c.wrong = true → u.live 7 = true → t.pends 74 = true) ∧ (∀ x, x ≠ e → t.cslot x = u.cslot x) ∧
      u.framed t [.regs, .cls, .evt] [R.EVT_PEND 2]) ∧
  (∀ (s : State), s.live 11 = true → s.flag R.CLS_CTRL_RAKE_EN = true →
    let u := s.advanceTo s.cls.rakeDue
    u.cls.command.isSome = true ∨ u.now < u.cls.freeAt → u.cls.rakeDefer < 64 →
    ∃ t, exec .rakeBackgroundStep s = .next t ∧ t.cls.rakeDefer = u.cls.rakeDefer + 1 ∧ t.cls.entries = u.cls.entries ∧
      u.framed t [.cls] [])

/-- R257, R259: an engine consumes the next word of its input byte by byte, each byte moving it by its class through the row of its
state, from START at a message's first word; a byte that reaches an accepting state makes a report, which is held; where the report
queue is full the engine stalls before that byte, and goes on once there is room. Held reports are posted once their message is
confirmed and discarded when it failed; a read of AUT_RPT0 pops the oldest. -/
def Obligations.EngineScans : Prop :=
  (∀ (s : State) (n : Fin 8) (w : AutWord) (r : List AutWord),
    let e := s.eng n.val
    let from_ := if w.start then s.fld (R.AUT_PROG_ACT_START n.val) else e.state
    s.engOn n.val = true → e.stalledAt = none → e.inq = w :: r → e.skip ≠ some w.no → e.validated = false →
    w.bytes.length ≤ 8 → (∀ st ∈ e.visits from_ w.bytes, nbit (e.record true st) 31 = false) →
    ∃ t, exec (.engineWord n) s = .next t ∧ (t.eng n.val).inq = r ∧
      (t.eng n.val).state = ((e.visits from_ w.bytes).getLast?).getD from_ ∧
      (t.eng n.val).offset = (if w.start then 0 else e.offset) + w.bytes.length ∧ (t.eng n.val).shift = [] ∧
      (t.eng n.val).inMsg = !w.fin ∧ (t.eng n.val).heldReports = e.heldReports ∧ (t.eng n.val).posted = e.posted ∧
      (∀ m, m ≠ n.val → t.eng m = s.eng m) ∧ s.framed t [.aut] []) ∧
  (∀ (s : State) (n : Fin 8) (w : AutWord) (r : List AutWord) (b : Byte),
    let e := s.eng n.val
    let from_ := if w.start then s.fld (R.AUT_PROG_ACT_START n.val) else e.state
    let at_ := if w.start then 0 else e.offset
    let st := { e with state := from_ }.move b
    s.engOn n.val = true → e.stalledAt = none → e.inq = w :: r → e.skip ≠ some w.no → e.validated = false → w.bytes = [b] →
    nbit (e.record true st) 31 = true → e.heldReports.length + e.posted.length < 64 →
    ∃ t stamp, exec (.engineWord n) s = .next t ∧ (t.eng n.val).state = st ∧
      (t.eng n.val).heldReports = e.heldReports ++ [⟨st, nbits (e.record true st) 30 23, at_ + 1, w.no, stamp⟩] ∧
      s.framed t [.aut] []) ∧
  (∀ (s : State) (n : Fin 8) (w : AutWord) (r : List AutWord) (b : Byte) (l : List Byte),
    let e := s.eng n.val
    let from_ := if w.start then s.fld (R.AUT_PROG_ACT_START n.val) else e.state
    let st := { e with state := from_ }.move b
    s.engOn n.val = true → e.stalledAt = none → e.inq = w :: r → e.skip ≠ some w.no → w.bytes = b :: l →
    nbit (e.record true st) 31 = true → 64 ≤ e.heldReports.length + e.posted.length →
    ∃ t, exec (.engineWord n) s = .next t ∧ (t.eng n.val).stalledAt = some s.now ∧ (t.eng n.val).shift = b :: l ∧
      (t.eng n.val).state = from_ ∧ t.flag (R.AUT_CMSTAT_STALLED n.val) = true ∧ (s.live 7 = true → t.pends 69 = true) ∧
      t.regN (C.AUT_RPTOVF n.val).addr = (s.regN (C.AUT_RPTOVF n.val).addr + 1) % 2 ^ 32 ∧
      s.framed t [.regs, .dict, .aut, .evt] ([R.AUT_CMSTAT n.val, R.EVT_PEND 2] ++ (C.AUT_RPTOVF n.val).regs)) ∧
  (∀ (s : State) (n : Fin 8) (since : Nat),
    let e := s.eng n.val
    s.engOn n.val = true → e.stalledAt = some since → e.heldReports.length + e.posted.length < 64 → e.validated = false →
    e.shift.length ≤ 8 → (∀ st ∈ e.visits e.state e.shift, nbit (e.record true st) 31 = false) →
    ∃ t, exec (.engineUnstall n) s = .next t ∧ (t.eng n.val).stalledAt = none ∧ (t.eng n.val).shift = [] ∧
      (t.eng n.val).state = ((e.visits e.state e.shift).getLast?).getD e.state ∧
      t.flag (R.AUT_CMSTAT_STALLED n.val) = false ∧ s.framed t [.regs, .aut] [R.AUT_CMSTAT n.val]) ∧
  (∀ (s : State) (n : Fin 8), s.live 11 = true →
    let e := s.eng n.val
    let ends := fun (r : AutReport) => ((e.msgs.find? (fun m => m.no == r.msg)).map (·.outcome)).getD 2
    let good := e.heldReports.filter (fun r => ends r == 1)
    ∃ t, exec (.engineReportPosted n) s = .next t ∧ (t.eng n.val).posted = e.posted ++ good ∧
      (t.eng n.val).heldReports = e.heldReports.filter (fun r => ends r == 0) ∧
      t.regN (R.AUT_REPORTS n.val) = (s.regN (R.AUT_REPORTS n.val) + good.length) % 2 ^ 32 ∧
      (good ≠ [] → s.live 7 = true → t.pends 68 = true) ∧ (∀ m, m ≠ n.val → t.eng m = s.eng m) ∧
      s.framed t [.regs, .aut, .evt] [R.AUT_REPORTS n.val, R.EVT_PEND 2]) ∧
  (∀ (s : State) (rid : Rid) (n : Fin 8) (x : AutReport) (r : List AutReport), s.serves rid 11 →
    (s.eng n.val).posted = x :: r →
    ∃ t, exec (.reportRead rid n) s = .next t ∧ (t.eng n.val).posted = r ∧ t.answer.data = t.reg (R.AUT_RPT0 n.val) ∧
      t.flag (R.AUT_RPT0_VALID n.val) = true ∧ t.fld (R.AUT_RPT0_STATE n.val) = x.state % 2 ^ 14 ∧
      t.fld (R.AUT_RPT0_CODE n.val) = x.code % 256 ∧ t.fld (R.AUT_RPT1_OFFSET n.val) = x.offset % 65536 ∧
      t.fld (R.AUT_RPT1_MSG n.val) = x.msg % 65536 ∧ t.fld (R.AUT_RPT2_STAMP n.val) = x.stamp % 2 ^ 30 ∧
      s.framed t [.regs, .answer, .aut] [R.AUT_RPT0 n.val, R.AUT_RPT1 n.val, R.AUT_RPT2 n.val]) ∧
  (∀ (s : State) (rid : Rid) (n : Fin 8), s.serves rid 11 → (s.eng n.val).posted = [] →
    ∃ t, exec (.reportRead rid n) s = .next t ∧ t.flag (R.AUT_RPT0_VALID n.val) = false ∧
      nbit t.answer.data.toNat 31 = false ∧ s.framed t [.regs, .answer] [R.AUT_RPT0 n.val])

/-- R260 to R263: a request has the staging program validated; one that fails is refused with ERR and REJ. A valid commit exchanges
the banks: at once where the engine is disabled or between messages, at the word boundary with MIDMSG within a message, at the end
of the word of a stalled engine. A forced commit discards the shift register and the rest of the message. -/
def Obligations.EngineCommits : Prop :=
  (∀ (s : State) (rid : Rid) (n : Fin 8) (c : Instr) (kind : Nat), s.serves rid 11 → (s.eng n.val).pend = 0 →
    (c = .engineCommitRequest rid n ∧ kind = 1) ∨ (c = .engineForcedCommit rid n ∧ kind = 2) →
    ∃ t, exec c s = .next t ∧ t.eng n.val = { s.eng n.val with pend := kind } ∧ t.flag (R.AUT_CMSTAT_PEND n.val) = true ∧
      t.fld (R.AUT_CMSTAT_ERR n.val) = 0 ∧ (∀ m, m ≠ n.val → t.eng m = s.eng m) ∧
      s.framed t [.regs, .answer, .aut] [R.AUT_CMT n.val, R.AUT_CMSTAT n.val]) ∧
  (∀ (s : State) (rid : Rid) (n : Fin 8), s.serves rid 11 → (s.eng n.val).pend ≠ 0 → (s.eng n.val).validated = true →
    ∃ t, exec (.engineForcedCommit rid n) s = .next t ∧ (t.eng n.val).active1 = !(s.eng n.val).active1 ∧
      (t.eng n.val).pend = 0 ∧ (t.eng n.val).shift = [] ∧ t.flag (R.AUT_CMSTAT_TRUNC n.val) = true ∧
      t.fld (R.AUT_CMSTAT_DISC n.val) = min 8 (s.eng n.val).shift.length ∧
      t.regN (C.AUT_FORCED n.val).addr = (s.regN (C.AUT_FORCED n.val).addr + 1) % 2 ^ 32 ∧
      (s.live 7 = true → t.pends 70 = true) ∧
      s.framed t [.regs, .dict, .answer, .aut, .evt] ([R.AUT_CMT n.val, R.AUT_CMSTAT n.val, R.AUT_PROG_STG n.val,
        R.AUT_PROG_ACT n.val, R.EVT_PEND 2] ++ (C.AUT_FORCED n.val).regs)) ∧
  (∀ (s : State) (n : Fin 8),
    let e := s.eng n.val
    let err := e.check (s.fld (R.AUT_PROG_STG_START n.val)) (s.fld (R.AUT_PROG_STG_NSTATES n.val))
    s.live 11 = true → e.pend ≠ 0 → e.validated = false → err ≠ 0 →
    ∃ t, exec (.engineValidationDone n) s = .next t ∧ (t.eng n.val) = { e with pend := 0 } ∧
      t.flag (R.AUT_CMSTAT_PEND n.val) = false ∧ t.fld (R.AUT_CMSTAT_ERR n.val) = err ∧
      t.flag (R.AUT_CMSTAT_REJ n.val) = true ∧ (s.live 7 = true → t.pends 71 = true) ∧
      s.framed t [.regs, .aut, .evt] [R.AUT_CMSTAT n.val, R.EVT_PEND 2]) ∧
  (∀ (s : State) (n : Fin 8),
    let e := s.eng n.val
    s.live 11 = true → e.pend = 1 → e.validated = false → e.stalledAt = none ∨ s.engOn n.val = false →
    e.check (s.fld (R.AUT_PROG_STG_START n.val)) (s.fld (R.AUT_PROG_STG_NSTATES n.val)) = 0 →
    ∃ t, exec (.engineValidationDone n) s = .next t ∧ (t.eng n.val).active1 = !e.active1 ∧ (t.eng n.val).pend = 0 ∧
      (t.eng n.val).validated = false ∧ t.reg (R.AUT_PROG_ACT n.val) = s.reg (R.AUT_PROG_STG n.val) ∧
      t.reg (R.AUT_PROG_STG n.val) = s.reg (R.AUT_PROG_ACT n.val) ∧ (s.live 7 = true → t.pends 70 = true) ∧
      (s.engOn n.val = true → e.inMsg = true → t.flag (R.AUT_CMSTAT_MIDMSG n.val) = true ∧
        (t.eng n.val).state = t.fld (R.AUT_PROG_ACT_START n.val)) ∧
      s.framed t [.regs, .aut, .evt] [R.AUT_CMSTAT n.val, R.AUT_PROG_STG n.val, R.AUT_PROG_ACT n.val, R.EVT_PEND 2]) ∧
  (∀ (s : State) (n : Fin 8) (since : Nat),
    let e := s.eng n.val
    s.engOn n.val = true → e.pend = 1 → e.validated = false → e.stalledAt = some since → s.now ≤ since + s.engStall n.val →
    e.check (s.fld (R.AUT_PROG_STG_START n.val)) (s.fld (R.AUT_PROG_STG_NSTATES n.val)) = 0 →
    ∃ t, exec (.engineValidationDone n) s = .next t ∧ t.eng n.val = { e with validated := true } ∧ s.framed t [.aut] []) ∧
  (∀ (s : State) (n : Fin 8) (since : Nat), s.engOn n.val = true → (s.eng n.val).validated = true →
    (s.eng n.val).stalledAt = some since →
    let u := s.advanceTo (since + s.engStall n.val + 1)
    ∃ t, exec (.engineStallLimit n) s = .next t ∧ (t.eng n.val).active1 = !(u.eng n.val).active1 ∧ (t.eng n.val).pend = 0 ∧
      (t.eng n.val).shift = [] ∧ (t.eng n.val).stalledAt = none ∧ t.flag (R.AUT_CMSTAT_TRUNC n.val) = true ∧
      t.fld (R.AUT_CMSTAT_DISC n.val) = min 8 (u.eng n.val).shift.length ∧
      t.regN (C.AUT_FORCED n.val).addr = (u.regN (C.AUT_FORCED n.val).addr + 1) % 2 ^ 32 ∧ (u.live 7 = true → t.pends 70 = true) ∧
      u.framed t [.regs, .dict, .aut, .evt] ([R.AUT_CMSTAT n.val, R.AUT_PROG_STG n.val, R.AUT_PROG_ACT n.val, R.EVT_PEND 2] ++
        (C.AUT_FORCED n.val).regs))

/-! ### Line cipher, key pages, PKA -/

/-- R264, R266 to R269: RXEN and TXEN of a lane are set while the pipeline has room and its domain is up, else they stay 0 with
LANE_REJ; a direction that stops spoils the frame in progress. A frame leaves a protected lane with SecTAG and ICV under the SA of
its AN, which advances its PN, raises E82 at the threshold and E83 when it is used up; frames of EtherType 0x888E go in the
clear, and frames without a usable SA or pipeline are dropped and counted. -/
def Obligations.CipherTransmits : Prop :=
  (∀ (s : State) (rid : Rid) (n : Fin 24) (data : Word) (tx : Bool), s.serves rid 8 →
    s.flag (R.CIP_LANE_CFG_RXEN n.val) = false → s.flag (R.CIP_LANE_CFG_TXEN n.val) = false →
    nbit data.toNat 31 = !tx → nbit data.toNat 30 = tx → s.varlas n.val = false →
    let p := if tx then nbits data.toNat 27 26 else nbits data.toNat 29 28
    (s.pipeLoad p + s.laneLoad n.val ≤ 160 ∧ s.live (pipeDomain p) = true →
      ∃ t, exec (.laneProtectConfig rid n data) s = .next t ∧ t.reg (R.CIP_LANE_CFG n.val) = data &&& 0xFF000003 ∧
        s.framed t [.regs, .answer] [R.CIP_LANE_CFG n.val]) ∧
    (160 < s.pipeLoad p + s.laneLoad n.val ∨ s.live (pipeDomain p) = false →
      ∃ t, exec (.laneProtectConfig rid n data) s = .next t ∧ t.reg (R.CIP_LANE_CFG n.val) = data &&& 0x3F000003 ∧
        t.flag R.CIP_STAT_LANE_REJ = true ∧ s.framed t [.regs, .answer] [R.CIP_LANE_CFG n.val, R.CIP_STAT])) ∧
  (∀ (s : State) (rid : Rid) (n : Fin 24) (data : Word), s.serves rid 8 → s.flag (R.CIP_LANE_CFG_RXEN n.val) = true →
    ∃ t, exec (.laneProtectConfig rid n data) s = .next t ∧
      t.fld (R.CIP_LANE_CFG_RXPIPE n.val) = s.fld (R.CIP_LANE_CFG_RXPIPE n.val) ∧
      t.fld (R.CIP_LANE_CFG_TXPIPE n.val) = s.fld (R.CIP_LANE_CFG_TXPIPE n.val) ∧
      (t.flag (R.CIP_LANE_CFG_RXEN n.val) = nbit data.toNat 31) ∧
      (nbit data.toNat 31 = false → s.varlas n.val = false → ∀ f, (s.lane n.val).rx = some f → f.dest = 3 ∨ f.pass = true →
        (t.lane n.val).rx = some { f with bad := true }) ∧
      Same [.free, .regs, .dict, .answer, .sram, .mtx, .lanes, .convs, .hvs, .aut, .evt, .dmc] s t) ∧
  (∀ (s : State) (n : Fin 24) (frame : List Byte) (whole : Bool), s.laneSends n.val = true → s.varlas n.val = false →
    s.laneProt n.val 1 = false ∨ be16 frame (etherOff frame) = 0x888E →
    ∃ t, exec (.protectedFrameTransmit n frame whole) s = .next t ∧ (t.lane n.val).lastTx = frame ∧
      (t.lane n.val).bittern = !whole ∧ (∀ m, m ≠ n.val → t.lane m = s.lane m) ∧ s.framed t [.lanes] []) ∧
  (∀ (s : State) (n : Fin 24) (frame : List Byte) (whole : Bool), s.laneSends n.val = true → s.varlas n.val = false →
    s.laneProt n.val 1 = true → be16 frame (etherOff frame) ≠ 0x888E →
    let a := 256 + 4 * n.val + s.fld (R.CIP_LANE_CFG_TX_AN n.val)
    let pn := s.saPn a
    let out := s.secFrame n.val a pn frame
    s.flag (R.CIP_SA0_EN a) = true → s.flag (R.CIP_SA0_EXH a) = false → s.pipeUp (s.lanePipe n.val 1) = true →
    ∃ t, exec (.protectedFrameTransmit n frame whole) s = .next t ∧ t.saPn a = (pn + 1) % 2 ^ 64 ∧
      (whole = true → (t.lane n.val).lastTx = out ∧ (t.lane n.val).bittern = false) ∧
      (whole = false → (t.lane n.val).lastTx = out.take (out.length - 16) ∧ (t.lane n.val).bittern = true ∧
        t.regN C.CIP_TXABORT.addr = (s.regN C.CIP_TXABORT.addr + 1) % 2 ^ 32) ∧
      (pn = s.pnMax a - s.regN (R.CIP_SA_THRESH a) → s.live 7 = true → t.pends 82 = true) ∧
      (s.pnMax a ≤ pn → t.flag (R.CIP_SA0_EXH a) = true ∧ (s.live 7 = true → t.pends 83 = true)) ∧
      (pn < s.pnMax a → t.flag (R.CIP_SA0_EXH a) = false) ∧ (∀ m, m ≠ n.val → t.lane m = s.lane m) ∧
      s.framed t [.regs, .dict, .lanes, .evt]
        ([R.CIP_SA_PNLO a, R.CIP_SA_PNHI a, R.CIP_SA0 a, R.EVT_PEND 2] ++ C.CIP_TXABORT.regs)) ∧
  (∀ (s : State) (n : Fin 24) (frame : List Byte) (whole : Bool), s.laneSends n.val = true → s.varlas n.val = false →
    s.laneProt n.val 1 = true → be16 frame (etherOff frame) ≠ 0x888E →
    let a := 256 + 4 * n.val + s.fld (R.CIP_LANE_CFG_TX_AN n.val)
    s.flag (R.CIP_SA0_EN a) = false ∨ s.flag (R.CIP_SA0_EXH a) = true ∨ s.pipeUp (s.lanePipe n.val 1) = false →
    ∃ t, exec (.protectedFrameTransmit n frame whole) s = .next t ∧
      t.fld (R.CIP_SAC_DROP_DROP a) = (s.fld (R.CIP_SAC_DROP_DROP a) + 1) % 2 ^ 16 ∧
      s.framed t [.regs, .dict] [R.CIP_SAC_DROP a]) ∧
  (∀ (s : State) (n : Fin 24) (epoch : Nat) (count : Byte) (marker : BitVec 64) (payload : List (BitVec 64)),
    s.laneSends n.val = true → s.varlas n.val = true → s.laneProt n.val 1 = true →
    let a := s.varlasSa n.val 1 epoch
    let sfn := epoch * s.epochLen n.val + count.toNat
    let text := (List.range 252).flatMap (fun i => beBytes 8 (payload.getD i 0).toNat)
    let c := gcmEncrypt (s.saKey a) (s.saSalt a / 2 ^ 64 * 2 ^ 64 + sfn % 2 ^ 64) (beBytes 8 marker.toNat) text
    let blank := fun (l : List Byte) => l.drop 2016 = List.replicate 16 0 ∧
      ∀ i ∈ s.heldIndices n.val 1, i < 252 → slice l (8 * i) 8 = List.replicate 8 0
    (s.flag (R.CIP_SA0_EN a) = true → s.pipeUp (s.lanePipe n.val 1) = true → s.saPn a < sfn → sfn < 2 ^ 64 →
      ∃ t, exec (.varlasSuperframeEncrypt n epoch count marker payload) s = .next t ∧ t.saPn a = sfn ∧
        (t.lane n.val).lastTx = c.1 ++ beBytes 16 c.2 ∧ s.framed t [.regs, .lanes] [R.CIP_SA_PNLO a, R.CIP_SA_PNHI a]) ∧
    (s.flag (R.CIP_SA0_EN a) = true → s.pipeUp (s.lanePipe n.val 1) = true → sfn ≤ s.saPn a →
      ∃ t, exec (.varlasSuperframeEncrypt n epoch count marker payload) s = .next t ∧ blank (t.lane n.val).lastTx ∧
        t.fld (R.CIP_SAC_DROP_DROP a) = (s.fld (R.CIP_SAC_DROP_DROP a) + 1) % 2 ^ 16 ∧
        t.regN C.CIP_IVSKIP.addr = (s.regN C.CIP_IVSKIP.addr + 1) % 2 ^ 32 ∧ (s.live 7 = true → t.pends 86 = true) ∧
        s.framed t [.regs, .dict, .lanes, .evt] (R.CIP_SAC_DROP a :: R.EVT_PEND 2 :: C.CIP_IVSKIP.regs)) ∧
    (s.flag (R.CIP_SA0_EN a) = false ∨ s.pipeUp (s.lanePipe n.val 1) = false →
      ∃ t, exec (.varlasSuperframeEncrypt n epoch count marker payload) s = .next t ∧ blank (t.lane n.val).lastTx ∧
        t.fld (R.CIP_SAC_DROP_DROP a) = (s.fld (R.CIP_SAC_DROP_DROP a) + 1) % 2 ^ 16 ∧
        s.framed t [.regs, .dict, .lanes] [R.CIP_SAC_DROP a]))

/-- R270, R271, R283, R284: a received protected frame is dropped and counted when its lane or SA is not enabled, its SecTAG does
not fit or its PN is too low; any other is decrypted and searched again, bad unless its ICV verifies. Masking goes without a
reseed at most 15 times in a row, and a pipeline starts when its known-answer test passes. -/
def Obligations.CipherReceives : Prop :=
  (∀ (s : State) (n : Fin 24) (f : RxFrame), s.live 8 = true → (s.lane n.val).rx = some f → f.dest = 3 → f.pass = false →
    let a := f.arg
    let on := s.laneProt n.val 0 = true ∧ s.flag (R.CIP_SA0_EN a) = true ∧ s.pipeUp (s.lanePipe n.val 0) = true
    let g : RxFrame := { f with dest := 0 }
    let o := s.secOff n.val f.bytes
    let bad := fun (t : SecTag) => t.e ≠ t.c ∨ t.an ≠ s.fld (R.CIP_SA0_AN a) ∨ t.sci.getD (s.saSci a) ≠ s.saSci a
    let opened := fun (t : SecTag) =>
      let iv := s.saIv a (t.sci.getD (s.saSci a)) (recoverPn (s.flag (R.CIP_SA0_XPN a)) (s.saPn a) t.pn)
      let head := f.bytes.take (o + t.len)
      let data := slice f.bytes (o + t.len) (f.bytes.length - (o + t.len + 16))
      if t.e then gcmDecrypt (s.saKey a) iv head data else (data, (gcmDecrypt (s.saKey a) iv (head ++ data) []).2)
    let icv := beNat (f.bytes.drop (f.bytes.length - 16))
    (s.laneProt n.val 0 = false ∨ s.flag (R.CIP_SA0_EN a) = false →
      ∃ t, exec (.protectedFrameReceive n) s = .next t ∧ (t.lane n.val).rx = some g ∧
        t.regN C.CIP_RXNOSA.addr = (s.regN C.CIP_RXNOSA.addr + 1) % 2 ^ 32 ∧
        s.framed t [.regs, .dict, .lanes] C.CIP_RXNOSA.regs) ∧
    (on → (∀ x, secTag f.bytes o = some x → bad x) →
      ∃ t, exec (.protectedFrameReceive n) s = .next t ∧ (t.lane n.val).rx = some g ∧
        t.fld (R.CIP_SAC_DROP_BADTAG a) = (s.fld (R.CIP_SAC_DROP_BADTAG a) + 1) % 2 ^ 16 ∧
        s.framed t [.regs, .dict, .lanes] [R.CIP_SAC_DROP a]) ∧
    (∀ x, secTag f.bytes o = some x → on → ¬ bad x → s.flag (R.CIP_SA0_REPLAY a) = true →
      recoverPn (s.flag (R.CIP_SA0_XPN a)) (s.saPn a) x.pn < s.saPn a →
      ∃ t, exec (.protectedFrameReceive n) s = .next t ∧ (t.lane n.val).rx = some g ∧ t.saPn a = s.saPn a ∧
        ((opened x).2 = icv → t.regN (R.CIP_SAC_LATE a) = (s.regN (R.CIP_SAC_LATE a) + 1) % 2 ^ 32) ∧
        ((opened x).2 ≠ icv → t.regN (R.CIP_SAC_ICVFAIL a) = (s.regN (R.CIP_SAC_ICVFAIL a) + 1) % 2 ^ 32) ∧
        s.framed t [.regs, .dict, .lanes, .cip, .evt] [R.CIP_SAC_LATE a, R.CIP_SAC_ICVFAIL a, R.EVT_PEND 2]) ∧
    (∀ x, secTag f.bytes o = some x → on → ¬ bad x → s.flag (R.CIP_SA0_REPLAY a) = false →
      ∃ t h, exec (.protectedFrameReceive n) s = .next t ∧ (t.lane n.val).rx = some h ∧
        h.bytes = f.bytes.take o ++ (opened x).1 ∧ h.pass = true ∧ (h.bad = true ↔ (opened x).2 ≠ icv) ∧ t.saPn a = s.saPn a ∧
        ((opened x).2 = icv → t.regN (R.CIP_SAC_OK a) = (s.regN (R.CIP_SAC_OK a) + 1) % 2 ^ 32) ∧
        ((opened x).2 ≠ icv → t.regN (R.CIP_SAC_ICVFAIL a) = (s.regN (R.CIP_SAC_ICVFAIL a) + 1) % 2 ^ 32) ∧
        Same [.free, .regs, .dict, .mtx, .lanes, .cls, .aut, .cip, .evt] s t)) ∧
  (∀ (s : State) (p : Fin 4), s.live 8 = true → s.live (pipeDomain p.val) = true →
    let m := tget 0 s.cip.missed p.val
    (∀ b r, s.trn.fifo = b :: r → m < 16 →
      ∃ t, exec (.maskReseed p) s = .next t ∧ t.trn.fifo = r ∧ tget 0 t.cip.missed p.val = 0 ∧ s.framed t [.trn, .cip] []) ∧
    (∀ b r, s.trn.fifo = b :: r → 16 ≤ m → tget 0 s.cip.good p.val = 1 →
      ∃ t, exec (.maskReseed p) s = .next t ∧ t.trn.fifo = r ∧ nbit (t.fld R.CIP_STAT_PIPE_UP) p.val = true ∧
        s.framed t [.regs, .trn, .cip] [R.CIP_STAT]) ∧
    (s.trn.fifo = [] → m < 15 →
      ∃ t, exec (.maskReseed p) s = .next t ∧ tget 0 t.cip.missed p.val = m + 1 ∧ s.framed t [.cip] []) ∧
    (s.trn.fifo = [] → m = 15 → s.pipeUp p.val = true →
      ∃ t, exec (.maskReseed p) s = .next t ∧ tget 0 t.cip.missed p.val = 16 ∧ t.pipeUp p.val = false ∧
        t.flag R.CIP_STAT_MASK_STARVE = true ∧ (s.live 7 = true → t.pends 84 = true) ∧
        Same [.free, .regs, .dict, .sram, .mtx, .lanes, .convs, .hvs, .aut, .cip, .evt, .dmc] s t)) ∧
  (∀ (s : State) (p : Fin 4), s.live 8 = true → p.val ∈ s.cip.tests →
    (∃ t, exec (.cipherSelfTest p true) s = .next t ∧ nbit (t.fld R.CIP_STAT_PIPE_UP) p.val = true ∧ p.val ∉ t.cip.tests ∧
      s.framed t [.regs, .cip] [R.CIP_STAT]) ∧
    (∃ t, exec (.cipherSelfTest p false) s = .next t ∧ t.fld R.CIP_STAT_PIPE_UP = s.fld R.CIP_STAT_PIPE_UP ∧
      t.flag R.CIP_STAT_SELFTEST_FAIL = true ∧ p.val ∉ t.cip.tests ∧ (s.live 7 = true → t.pends 87 = true) ∧
      s.framed t [.regs, .cip, .evt] [R.CIP_STAT, R.EVT_PEND 2]))

/-- R277, R279 to R282: CLAIM gives a free page to M0 or M1, LOAD and RELEASE are its owner's, WIPE a Warden's; a refused command
sets ERR and raises E90, and every command zeroes the staging words. An SA is enabled with a loaded page of the writer's that no
other enabled Varlas SA names. -/
def Obligations.KeyPages : Prop :=
  (∀ (s : State) (rid : Rid) (page : Fin 32), s.serves rid 10 →
    let k := s.page page.val
    let clean := fun (t : State) (err : Nat) =>
      t.regN R.PKA_KPSTAT = err ∧ (∀ i, i < 16 → t.regN (R.PKA_KSTG i) = 0) ∧
        (err ≠ 0 → s.live 7 = true → t.pends 90 = true) ∧ (∀ p, p ≠ page.val → t.page p = s.page p)
    let staged := (List.range 16).foldl (fun a i => a + s.regN (R.PKA_KSTG i) * 2 ^ (32 * i)) 0
    let isolated := fun (t : State) => (s.live 7 = true → t.pends 85 = true) ∧
      (s.live 8 = true → t.regN R.CIP_ISOLOG = 2 ^ 31 + rid.toNat * 256 + page.val)
    let at_ := [R.PKA_KPCMD, R.PKA_KPSTAT, R.CIP_ISOLOG, R.EVT_PEND 2] ++ (List.range 16).map R.PKA_KSTG
    let parts : List Part := [.regs, .answer, .tmp, .cip, .evt]
    (master rid < 2 → k.claimed = false → ∃ t, exec (.claim rid page) s = .next t ∧
      t.page page.val = { claimed := true, owner := rid } ∧ clean t 0 ∧ s.framed t parts at_) ∧
    (1 < master rid → ∃ t, exec (.claim rid page) s = .next t ∧ t.page page.val = k ∧ clean t 4 ∧ s.framed t parts at_) ∧
    (master rid < 2 → k.claimed = true → ∃ t, exec (.claim rid page) s = .next t ∧ t.page page.val = k ∧ clean t 2 ∧
      s.framed t parts at_) ∧
    (k.claimed = true → k.owner = rid → ∃ t, exec (.load rid page) s = .next t ∧
      t.page page.val = { k with bits := BitVec.ofNat 512 staged, loaded := true } ∧ clean t 0 ∧ s.framed t parts at_) ∧
    (k.claimed = false ∨ k.owner ≠ rid →
      (∃ t, exec (.load rid page) s = .next t ∧ t.page page.val = k ∧ clean t 1 ∧ isolated t ∧ s.framed t parts at_) ∧
      ∃ t, exec (.release rid page) s = .next t ∧ t.page page.val = k ∧ clean t 1 ∧ isolated t ∧ s.framed t parts at_) ∧
    (k.claimed = true → k.owner = rid → s.pageInUse page.val = false → ∃ t, exec (.release rid page) s = .next t ∧
      t.page page.val = {} ∧ clean t 0 ∧ s.framed t parts at_) ∧
    (k.claimed = true → k.owner = rid → s.pageInUse page.val = true → ∃ t, exec (.release rid page) s = .next t ∧
      t.page page.val = k ∧ clean t 3 ∧ s.framed t parts at_) ∧
    (warden rid = true → ∃ t, exec (.wipe rid page) s = .next t ∧ t.page page.val = {} ∧ clean t 0 ∧
      (k.claimed = true → s.live 7 = true → t.pends 91 = true) ∧ (∀ a, a < 400 → t.saNames page.val a = false) ∧
      Same [.free, .regs, .dict, .answer, .sram, .mtx, .lanes, .convs, .hvs, .aut, .cip, .evt, .dmc] s t) ∧
    (warden rid = false → ∃ t, exec (.wipe rid page) s = .next t ∧ t.page page.val = k ∧ clean t 1 ∧ s.framed t parts at_)) ∧
  (∀ (s : State) (rid : Rid) (n : Fin 400) (data : Word), s.serves rid 8 → s.flag (R.CIP_SA0_EN n.val) = false →
    let k := s.page (nbits data.toNat 20 16)
    let other := ∃ b, b < 400 ∧ b ≠ n.val ∧ s.saNames (nbits data.toNat 20 16) b = true ∧ s.flag (R.CIP_SA0_VARLAS b) = true
    (k.claimed = true → k.loaded = true → k.owner = rid → ¬ other →
      ∃ t, exec (.saEnable rid n data) s = .next t ∧ t.flag (R.CIP_SA0_EN n.val) = true ∧
        t.fld (R.CIP_SA0_KP n.val) = nbits data.toNat 20 16 ∧ t.flag (R.CIP_SA0_EXH n.val) = false ∧
        s.framed t [.regs, .answer] [R.CIP_SA0 n.val]) ∧
    (k.claimed = false ∨ k.loaded = false ∨ k.owner ≠ rid ∨ other →
      ∃ t, exec (.saEnable rid n data) s = .next t ∧ t.flag R.CIP_STAT_SA_REJ = true ∧ t.answer.err = true ∧
        (k.claimed = true → k.owner ≠ rid → s.live 7 = true → t.pends 85 = true) ∧
        t.reg (R.CIP_SA0 n.val) = s.reg (R.CIP_SA0 n.val) ∧
        s.framed t [.regs, .answer, .tmp, .evt] [R.CIP_STAT, R.CIP_ISOLOG, R.EVT_PEND 2]))

/-- R285, R286, R555: a GO while a command runs is refused with BUSY; the conditions before a command are judged in order, and
the first that holds is reported; otherwise the command runs. At its end the outputs stand in the operand window, in a page or in
the digest, d is zero, and E88 or E89 is raised. -/
def Obligations.PkaCommands : Prop :=
  (∀ (s : State) (rid : Rid) (data : Word) (c : Instr) (op : Nat), s.serves rid 10 →
    (c = .ecdsaSign rid data ∧ op = 1) ∨ (c = .ecdsaVerify rid data ∧ op = 2) ∨ (c = .ecdh rid data ∧ op = 3) ∨
      (c = .keyGeneration rid data ∧ op = 4) ∨
      (c = .shaHash rid data ∧ op = (if nbits data.toNat 3 0 = 9 ∨ nbits data.toNat 3 0 = 10 then nbits data.toNat 3 0 else 8)) →
    let w := nput (data.toNat % 2 ^ 31) 3 0 op
    let k := pkaCmd w
    (s.cip.pkaRun.isSome = true → ∃ t, exec c s = .next t ∧ t.fld R.PKA_STAT_ERR = 1 ∧ t.cip = s.cip ∧
      (s.live 7 = true → t.pends 89 = true) ∧ s.framed t [.regs, .answer, .evt] [R.PKA_CMD, R.PKA_STAT, R.EVT_PEND 2]) ∧
    (s.cip.pkaRun = none → s.pkaCheck rid k = 0 → ∃ t v, exec c s = .next t ∧ t.cip.pkaRun = some (v, rid) ∧
      pkaCmd v.toNat = k ∧ t.regN R.PKA_STAT = 2 ^ 31 ∧ t.cip.pages = s.cip.pages ∧
      s.framed t [.regs, .answer, .cip] [R.PKA_CMD, R.PKA_STAT]) ∧
    (s.cip.pkaRun = none → s.pkaCheck rid k ≠ 0 → ∃ t, exec c s = .next t ∧ t.cip.pkaRun = none ∧
      t.regN R.PKA_STAT = s.pkaCheck rid k ∧ t.cip.pages = s.cip.pages ∧ (s.live 7 = true → t.pends 89 = true) ∧
      (s.pkaCheck rid k = 4 → s.live 7 = true → t.pends 85 = true) ∧
      s.framed t [.regs, .answer, .tmp, .cip, .evt]
        ([R.PKA_CMD, R.PKA_STAT, R.CIP_ISOLOG, R.EVT_PEND 2] ++ (List.range 16).map R.PKA_D))) ∧
  (∀ (s : State) (w : Word) (rid : Rid), s.live 10 = true → s.cip.pkaRun = some (w, rid) →
    let c := pkaCmd w.toNat
    let x := s.operand R.PKA_QX
    let y := s.operand R.PKA_QY
    let ended := fun (u t : State) (err : Nat) => t.cip.pkaRun = none ∧ t.regN R.PKA_STAT = err ∧ t.operand R.PKA_D = 0 ∧
      (u.live 7 = true → t.pends (if err = 0 then 88 else 89) = true) ∧
      t.regN R.PKA_OPS = (u.regN R.PKA_OPS + (if err = 0 then 1 else 0)) % 2 ^ 32
    let words := fun (r : Nat → Nat) => (List.range 16).map r
    let at_ := [R.PKA_STAT, R.PKA_OPS, R.EVT_PEND 2] ++ words R.PKA_D
    (c.op = 2 → ∃ t, exec .pkaCommandDone s = .next t ∧
      ended s t (if c.curve.verify x y (s.operand R.PKA_E) (s.operand R.PKA_R) (s.operand R.PKA_S) then 0 else 6) ∧
      t.cip.pages = s.cip.pages ∧ s.framed t [.regs, .cip, .evt] at_) ∧
    (c.op = 3 → ∀ v z, c.curve.times (s.scalar c) (some (x, y)) = some (v, z) → v < 2 ^ 512 →
      ∃ t, exec .pkaCommandDone s = .next t ∧ ended s t 0 ∧
        (c.outKp = false → t.operand R.PKA_OX = v ∧ t.cip.pages = s.cip.pages) ∧
        (c.outKp = true → t.page c.kpOut = { s.page c.kpOut with bits := BitVec.ofNat 512 v, loaded := true } ∧
          ∀ p, p ≠ c.kpOut → t.page p = s.page p) ∧
        s.framed t [.regs, .cip, .evt] (at_ ++ words R.PKA_OX)) ∧
    (c.op = 1 → ∀ d u r z, s.randScalar c.curve = some (d, u) →
      c.curve.sign (u.scalar c) (u.operand R.PKA_E) d = some (r, z) → r < 2 ^ 512 → z < 2 ^ 512 →
      ∃ t, exec .pkaCommandDone s = .next t ∧ ended u t 0 ∧ t.operand R.PKA_R = r ∧ t.operand R.PKA_S = z ∧
        t.cip.pages = s.cip.pages ∧ Same [.free, .regs, .dict, .trn, .cip, .evt, .dmc] s t) ∧
    (c.op = 4 → ∀ d u qx qy, s.randScalar c.curve = some (d, u) → c.curve.times d c.curve.base = some (qx, qy) →
      qx < 2 ^ 512 → qy < 2 ^ 512 →
      ∃ t, exec .pkaCommandDone s = .next t ∧ ended u t 0 ∧ t.operand R.PKA_OX = qx ∧ t.operand R.PKA_OY = qy ∧
        t.page c.kp = { s.page c.kp with bits := BitVec.ofNat 512 d, loaded := true } ∧
        (∀ p, p ≠ c.kp → t.page p = s.page p) ∧ Same [.free, .regs, .dict, .trn, .cip, .evt, .dmc] s t) ∧
    (c.op = 8 → c.cont = false → c.final = true → s.inRam (s.regN R.PKA_HADDR) (s.regN R.PKA_HLEN) →
      let m := s.ram (s.regN R.PKA_HADDR) (s.regN R.PKA_HLEN)
      ∃ t, exec .pkaCommandDone s = .next t ∧ ended s t 0 ∧
        (List.range 8).flatMap (fun i => leBytes 4 (t.regN (R.PKA_DIGEST i))) = sha256 m ∧ t.cip.hashOp = none ∧
        t.cip.pages = s.cip.pages ∧ Same [.free, .regs, .dict, .trn, .cip, .evt, .dmc] s t))

/-! ### Haerzer threads -/

/-- R289, R294: what an instruction writes: an arithmetic instruction its result to rd; a branch, a call and a jump the pc, traced,
with the return address in d0 or rd. h0 reads zero and ignores writes; every other register keeps what is written. -/
def Obligations.HzArithmetic : Prop :=
  (∀ (s : State) (t : Nat) (iw : Word), s.ready t iw → s.open_ (s.thr t).pc.toNat 4 →
    let u := s.fetched t
    u.thr t = { s.thr t with pcs := (s.thr t).pc } ∧ s.onlyThread u t ∧ s.framed u [.answer, .threads] []) ∧
  (∀ (x : Thread) (r q : Nat) (v : Word), r < 32 → q < 32 →
    (x.set r v).get q = if q = r ∧ r ≠ 0 then v else x.get q) ∧
  (∀ (a b : Word),
    alu .sra a b = a.sshiftRight (b.toNat % 32) ∧ alu .sll a b = a <<< (b.toNat % 32) ∧ alu .srl a b = a >>> (b.toNat % 32) ∧
      (alu .slt a b = 1 ↔ a.toInt < b.toInt) ∧ (alu .sltu a b = 1 ↔ a.toNat < b.toNat) ∧
      (alu .sge a b = 1 ↔ b.toInt ≤ a.toInt) ∧ (alu .seq a b = 1 ↔ a = b) ∧
      (b ≠ 0 → (alu .divu a b).toNat = a.toNat / b.toNat ∧ (alu .remu a b).toNat = a.toNat % b.toNat) ∧
      (b ≠ 0 → ¬ (a.toInt = -2 ^ 31 ∧ b.toInt = -1) →
        (alu .div a b).toInt = a.toInt.tdiv b.toInt ∧ (alu .rem a b).toInt = a.toInt.tmod b.toInt)) ∧
  (∀ (s : State) (t : Fin 8) (iw : Word) (op : AluOp) (rd rs1 : HzReg) (src : HzSrc), s.ready t.val iw →
    let u := s.fetched t.val
    let x := u.thr t.val
    ∃ v, exec (.aluInstruction t iw op rd rs1 src) s = .next v ∧
      v.thr t.val = (x.set rd.val (alu op (x.get rs1.val) (x.src src))).next ∧ u.onlyThread v t.val ∧ u.framed v [.threads] []) ∧
  (∀ (s : State) (t : Fin 8) (iw : Word) (c : HzCond) (rs1 : HzReg) (src : HzSrc) (off : Word), s.ready t.val iw →
    let u := s.fetched t.val
    let x := u.thr t.val
    ∃ v, exec (.conditionalBranch t iw c rs1 src off) s = .next v ∧
      (condHolds c (x.get rs1.val) (x.src src) = true → v.thr t.val = { x with pc := (x.pc + off) &&& 0xFFFFFFFC }) ∧
      (condHolds c (x.get rs1.val) (x.src src) = false → v.thr t.val = x.next) ∧ u.onlyThread v t.val ∧
      u.framed v [.regs, .dict, .threads, .trc] C.TRC_LOST.regs) ∧
  (∀ (s : State) (t : Fin 8) (iw : Word) (off : Word), s.ready t.val iw →
    let u := s.fetched t.val
    let x := u.thr t.val
    ∃ v, exec (.call t iw off) s = .next v ∧
      v.thr t.val = { x.set 24 (x.pc + 4) with pc := (x.pc + off) &&& 0xFFFFFFFC } ∧ u.onlyThread v t.val ∧
      u.framed v [.threads] []) ∧
  (∀ (s : State) (t : Fin 8) (iw : Word) (rd rs1 : HzReg) (off : Word), s.ready t.val iw →
    let u := s.fetched t.val
    let x := u.thr t.val
    ∃ v, exec (.jumpAndLink t iw rd rs1 off) s = .next v ∧
      v.thr t.val = { x.set rd.val (x.pc + 4) with pc := (x.get rs1.val + off) &&& 0xFFFFFFFC } ∧ u.onlyThread v t.val ∧
      u.framed v [.regs, .dict, .threads, .trc] C.TRC_LOST.regs)

/-- R302 to R306, R318 to R323, R326, R327: a synchronous trap below HX and the mask level enters its handler with the registers of
R322; at HX = 1, or at a mask level that reaches the cause's, it is a double fault: the thread halts with every register as it
was, the fault is logged, counted and raised as E0 or E1, when another thread can handle it. XRET takes the interrupted state back. -/
def Obligations.HzTraps : Prop :=
  (∀ (s : State) (t : Fin 8) (iw : Word) (c : Instr) (cause : Nat) (info : Word), s.ready t.val iw →
    let u := s.fetched t.val
    let x := u.thr t.val
    Traps u t iw c cause info → x.hx = false → x.ml < nbits (u.regN R.EVT_SLVL) (3 * cause - 1) (3 * cause - 3) →
    ∃ v, exec c s = .next v ∧
      u.trapped v t.val (if cause = 8 then x.pc + 4 else x.pc) (BitVec.ofNat 32 cause) info x.ml
        (if cause = 6 then 0 else if cause = 7 then 0x40 else if cause = 8 then 0xC0 else 0x80) ∧
      u.framed v [.regs, .dict, .threads, .trc] C.TRC_LOST.regs) ∧
  (∀ (s : State) (t : Fin 8) (iw : Word) (c : Instr) (cause : Nat) (info : Word), s.ready t.val iw →
    let u := s.fetched t.val
    let x := u.thr t.val
    Traps u t iw c cause info → x.hx = true ∨ nbits (u.regN R.EVT_SLVL) (3 * cause - 1) (3 * cause - 3) ≤ x.ml →
    u.live 7 = true → u.flag R.EVT_DFLOG0_VALID = false → (∃ k, k < 8 ∧ k ≠ t.val ∧ u.watched k = true ∧ (u.thr k).hx = false) →
    ∃ v, exec c s = .next v ∧ v.thr t.val = { x with run := 3, wtimFrom := u.now, waitAt := u.now } ∧ u.onlyThread v t.val ∧ v.flag R.EVT_DFLOG0_VALID = true ∧ v.fld R.EVT_DFLOG0_THREAD = t.val ∧
      v.flag R.EVT_DFLOG0_ESC = !x.hx ∧ v.regN R.EVT_DFLOG1 = cause ∧ v.reg R.EVT_DFLOG2 = x.pc ∧ v.reg R.EVT_DFLOG3 = info ∧
      v.regN C.EVT_DFCNT.addr = (u.regN C.EVT_DFCNT.addr + 1) % 2 ^ 32 ∧ v.pends (t.val / 4) = true ∧
      u.framed v [.regs, .dict, .threads, .evt, .trc] ([R.EVT_DFLOG0, R.EVT_DFLOG1, R.EVT_DFLOG2, R.EVT_DFLOG3, R.EVT_PEND 0] ++
        C.EVT_DFCNT.regs ++ C.TRC_LOST.regs)) ∧
  (∀ (s : State) (t : Fin 8) (iw : Word), s.ready t.val iw →
    let u := s.fetched t.val
    let x := u.thr t.val
    let e := x.estate.toNat
    x.warden = true → x.hx = true → x.hdepth = 0 → e % 16 ≤ 11 →
    ∃ v, exec (.xret t iw) s = .next v ∧
      v.thr t.val = { x with warden := nbit e 4, ml := nbits e 10 8, wptr := e % 16, hx := false, pc := x.epc &&& 0xFFFFFFFC } ∧
      u.onlyThread v t.val ∧ u.framed v [.regs, .dict, .threads, .trc] C.TRC_LOST.regs) ∧
  (∀ (s : State) (t : Fin 8) (iw : Word) (n : Byte), s.ready t.val iw →
    let u := s.fetched t.val
    let x := u.thr t.val
    x.hx = false → x.ml < nbits (u.regN R.EVT_SLVL) 23 21 →
    ∃ v, exec (.trapN t iw n) s = .next v ∧ (v.thr t.val).epc = x.pc + 4 ∧ (v.thr t.val).ecause = 8 ∧
      (v.thr t.val).einfo = n.setWidth 32 ∧ (v.thr t.val).warden = true ∧ (v.thr t.val).pc = x.evec + 0xC0)

/-- R304, R305, R310, R314, R315, R320, R360, R361: a load takes buffered bytes, the cached line or the target; a store enters the
buffer and is seen by later loads; the buffer's oldest entry goes to its target. An atomic reads and writes the target at once; one
whose lock is force-released traps with memory as it was; a store that gets an error is lost, logged and raised as E44. -/
def Obligations.HzMemory : Prop :=
  (∀ (s : State) (t : Fin 8) (iw : Word) (sz : MemSize) (rd rs1 : HzReg) (off : Word), s.ready t.val iw →
    let u := s.fetched t.val
    let x := u.thr t.val
    let c := t.val / 4
    let a := (x.get rs1.val + off).toNat
    let n := sizeBytes sz
    let got := fun (v : Nat) (y : Thread) =>
      (sz ≠ .double → y = (x.set rd.val (loadExtend sz v)).next) ∧
        (sz = .double → y = ((x.set (rd.val / 2 * 2) (BitVec.ofNat 32 v)).set (rd.val / 2 * 2 + 1)
          (BitVec.ofNat 32 (v / 2 ^ 32))).next)
    a % n = 0 → x.warden = true ∨ (u.attr a).tr = true →
    (u.open_ a n → (u.core c).sb = [] →
      ∃ v, exec (.loadInstruction t iw sz rd rs1 off) s = .next v ∧ got (leNat (u.ram a n)) (v.thr t.val) ∧
        u.onlyThread v t.val ∧ u.framed v [.answer, .threads] []) ∧
    (∀ l, (u.attr a).dev = false → (u.attr a).cache = true → (u.core c).sb = [] → u.dline c (a / 64 * 64) = some l →
      ∃ v, exec (.loadInstruction t iw sz rd rs1 off) s = .next v ∧ got (leNat (l.part (a % 64) n)) (v.thr t.val) ∧
        u.onlyThread v t.val ∧ u.framed v [.threads] []) ∧
    (∀ b : Nat → Byte, (u.attr a).dev = false → (∀ k, k < n → u.buffered c (a + k) = some (b k)) →
      ∃ v, exec (.loadInstruction t iw sz rd rs1 off) s = .next v ∧
        got (leNat ((List.range n).map b)) (v.thr t.val) ∧ u.onlyThread v t.val ∧ u.framed v [.threads] [])) ∧
  (∀ (s : State) (t : Fin 8) (iw : Word) (sz : MemSize) (rs2 rs1 : HzReg) (off : Word), s.ready t.val iw →
    let u := s.fetched t.val
    let x := u.thr t.val
    let c := t.val / 4
    let a := (x.get rs1.val + off).toNat
    let n := sizeBytes sz
    let bs := if sz = .double then leBytes 4 (x.get (rs2.val / 2 * 2)).toNat ++ leBytes 4 (x.get (rs2.val / 2 * 2 + 1)).toNat
      else leBytes n (x.get rs2.val).toNat
    a % n = 0 → x.warden = true ∨ (u.attr a).tw = true → (u.core c).sb.length < 8 →
    ∃ v, exec (.storeInstruction t iw sz rs2 rs1 off) s = .next v ∧ v.thr t.val = x.next ∧ u.onlyThread v t.val ∧
      (∀ y, v.buffered c y = if a ≤ y ∧ y < a + n then some (bs.getD (y - a) 0) else u.buffered c y) ∧
      v.core c = { u.core c with sb := (v.core c).sb } ∧ v.core (1 - c) = u.core (1 - c) ∧
      u.framed v [.threads, .cores] []) ∧
  (∀ (s : State) (c : Fin 2) (e : SbEntry) (r : List SbEntry) (a : Nat) (bs : List Byte), s.coreUp c.val = true →
    (s.core c.val).sb = e :: r → e.plain a bs → s.inRam a bs.length → s.live 7 = true →
    s.ic.dma.any (fun p => p.2.abort) = false →
    ∃ v, exec (.storeDrain c) s = .next v ∧ (v.core c.val).sb = r ∧ v.ram a bs.length = bs ∧ s.ramKept v [(a, bs.length)] ∧
      s.framed v [.sram, .answer, .cores] []) ∧
  (∀ (s : State) (c : Fin 2) (e : SbEntry) (r : List SbEntry), s.coreUp c.val = true → (s.core c.val).sb = e :: r →
    s.live 7 = true → s.flag R.EVT_IMPLOG0_VALID = false → e.thread < 8 → (∀ p ∈ e.bytes, p.1 < 16) →
    ∃ v, exec (.impreciseStoreError c) s = .next v ∧ (v.core c.val).sb = r ∧ v.sram = s.sram ∧
      v.flag R.EVT_IMPLOG0_VALID = true ∧ v.fld R.EVT_IMPLOG0_THREAD = e.thread ∧ v.fld R.EVT_IMPLOG0_MASTER = e.thread / 4 ∧
      v.regN R.EVT_IMPLOG1 = e.addr % 2 ^ 32 ∧ v.regN C.EVT_IMPCNT.addr = (s.regN C.EVT_IMPCNT.addr + 1) % 2 ^ 32 ∧
      v.pends 44 = true ∧ s.framed v [.regs, .dict, .cores, .evt] ([R.EVT_IMPLOG0, R.EVT_IMPLOG1, R.EVT_PEND 1] ++ C.EVT_IMPCNT.regs)) ∧
  (∀ (s : State) (t : Fin 8) (iw : Word) (rd rs1 rs2 : HzReg) (c : Instr), s.ready t.val iw →
    let u := s.fetched t.val
    let x := u.thr t.val
    let a := (x.get rs1.val).toNat
    let old := u.ramWord a
    let new := fun (c : Instr) =>
      if c = .swap t iw rd rs1 then (x.get rd.val).toNat
      else if c = .cas t iw rd rs1 rs2 then (if old = (x.get rs2.val).toNat then (x.get rd.val).toNat else old)
      else (old + (x.get rs2.val).toNat) % 2 ^ 32
    c ∈ [.swap t iw rd rs1, .cas t iw rd rs1 rs2, .fadd t iw rd rs1 rs2] →
    a % 4 = 0 → u.open_ a 4 → x.warden = true ∨ ((u.attr a).tr = true ∧ (u.attr a).tw = true) → (u.core (t.val / 4)).sb = [] →
    ∃ v, exec c s = .next v ∧ v.thr t.val = (x.set rd.val (BitVec.ofNat 32 old)).next ∧ v.ramWord a = new c ∧
      u.ramKept v [(a, 4)] ∧ u.onlyThread v t.val ∧ u.framed v [.sram, .answer, .threads] []) ∧
  (∀ (s : State) (t : Fin 8) (iw : Word) (rs1 : HzReg), s.ready t.val iw →
    let u := s.fetched t.val
    let x := u.thr t.val
    let a := (x.get rs1.val).toNat
    a % 4 = 0 → u.open_ a 4 → x.warden = true → (u.core (t.val / 4)).sb = [] → x.hx = false →
    x.ml < nbits ((u.advance 107).regN R.EVT_SLVL) 14 12 →
    ∃ v, exec (.lockForcedRelease t iw rs1) s = .next v ∧ (v.thr t.val).ecause = 5 ∧ (v.thr t.val).einfo = x.get rs1.val ∧
      (v.thr t.val).epc = x.pc ∧ (v.thr t.val).pc = x.evec + 0x80 ∧ v.pends 42 = true ∧
      v.regN C.IC_LOCKREL.addr = ((u.advance 107).regN C.IC_LOCKREL.addr + 1) % 2 ^ 32 ∧
      Same [.now, .regs, .dict, .answer, .cal, .hld, .mtx, .convs, .threads, .evt, .trc] u v)

/-- R296 (R297 to R301 in part): SAVE and RESTORE move the window pointer in the ring, and DEPTH with it; the caller's down registers are the
callee's up registers; SAVE with DEPTH 9 and RESTORE with DEPTH 0 leave DEPTH as it was. WPUSH stores the oldest resident window at
WSP, WPULL loads it back, WDRAIN stores them all. -/
def Obligations.HzWindows : Prop :=
  (∀ (x : Thread) (k : Nat), x.wptr < 11 → k < 8 → ({ x with wptr := (x.wptr + 1) % 11 } : Thread).get (8 + k) = x.get (24 + k)) ∧
  (∀ (s : State) (t : Fin 8) (iw : Word), s.ready t.val iw →
    let u := s.fetched t.val
    let x := u.thr t.val
    let b := if x.wptr = 11 then x.estate.toNat % 16 else x.wptr
    (x.depth < 9 →
      ∃ v, exec (.save t iw) s = .next v ∧
        v.thr t.val = { x with wptr := (b + 1) % 11, depth := x.depth + 1,
                               hdepth := if x.hx then (x.hdepth + 1) % 16 else x.hdepth, pc := x.pc + 4 } ∧
        u.onlyThread v t.val ∧ u.framed v [.threads] []) ∧
    (9 ≤ x.depth → ∃ v, exec (.save t iw) s = .next v ∧ (v.thr t.val).depth = x.depth) ∧
    (x.depth = 0 → ∃ v, exec (.restore t iw) s = .next v ∧ (v.thr t.val).depth = 0) ∧
    (0 < x.depth → x.hx = true → x.hdepth = 0 →
      ∃ v, exec (.restore t iw) s = .next v ∧
        v.thr t.val = { x with wptr := (x.wptr + 10) % 11, depth := x.depth - 1, hdepth := (v.thr t.val).hdepth, pc := x.pc + 4 } ∧
        u.onlyThread v t.val ∧ u.framed v [.threads] []) ∧
    (0 < x.depth → x.hx = false ∨ 0 < x.hdepth →
      ∃ v, exec (.restore t iw) s = .next v ∧
        v.thr t.val = { x with wptr := if x.hx && x.hdepth == 1 then 11 else (x.wptr + 10) % 11, depth := x.depth - 1,
                               hdepth := if x.hx then (x.hdepth + 15) % 16 else x.hdepth, pc := x.pc + 4 } ∧
        u.onlyThread v t.val ∧ u.framed v [.threads] []) ∧
    (x.warden = true → 0 < x.depth → x.wsp.toNat % 64 = 0 → u.open_ x.wsp.toNat 64 → (u.core (t.val / 4)).sb = [] →
      ∃ v, exec (.wpush t iw) s = .next v ∧
        v.thr t.val = { x with wsp := x.wsp + 64, depth := x.depth - 1, pc := x.pc + 4 } ∧
        v.ram x.wsp.toNat 64 = x.window ((b + 33 - x.depth) % 11) ∧ u.ramKept v [(x.wsp.toNat, 64)] ∧ u.onlyThread v t.val ∧
        u.framed v [.sram, .threads] []) ∧
    (x.warden = true → x.depth < 9 → x.wsp.toNat % 64 = 0 → 64 ≤ x.wsp.toNat → u.open_ (x.wsp.toNat - 64) 64 →
      (u.core (t.val / 4)).sb = [] →
      ∃ v, exec (.wpull t iw) s = .next v ∧
        v.thr t.val = { x with wsp := x.wsp - 64, depth := x.depth + 1, pc := x.pc + 4, win := (v.thr t.val).win } ∧
        (v.thr t.val).window ((b + 33 - (x.depth + 1)) % 11) = u.ram (x.wsp.toNat - 64) 64 ∧
        (∀ w, w < 11 → w ≠ (b + 33 - (x.depth + 1)) % 11 → (v.thr t.val).window w = x.window w) ∧ u.onlyThread v t.val ∧
        u.framed v [.answer, .threads] []) ∧
    (x.warden = true → x.depth ≤ 9 → x.wsp.toNat % 64 = 0 → u.open_ x.wsp.toNat (64 * x.depth) → (u.core (t.val / 4)).sb = [] →
      ∃ v, exec (.wdrain t iw) s = .next v ∧
        v.thr t.val = { x with wsp := x.wsp + BitVec.ofNat 32 (64 * x.depth), depth := 0, pc := x.pc + 4 } ∧
        (∀ k, k < x.depth → v.ram (x.wsp.toNat + 64 * k) 64 = x.window ((b + 33 - (x.depth - k)) % 11)) ∧
        u.ramKept v [(x.wsp.toNat, 64 * x.depth)] ∧ u.onlyThread v t.val ∧ u.framed v [.sram, .threads] []))

/-- R288, R291 to R293, R295, R299, R306 to R308: special registers are read and written as their layouts say; HALT, EWAIT and
its wake conditions, signals, start and stop, and doze. -/
def Obligations.HzThreads : Prop :=
  (∀ (s : State) (t : Fin 8) (iw : Word) (rd : HzReg) (num : Byte), s.ready t.val iw →
    let u := s.fetched t.val
    let x := u.thr t.val
    isSpecial num.toNat = true → x.warden = true ∨ num.toNat < 2 ∨ 7 < num.toNat → num.toNat ≠ 0x0E →
    ∃ v, exec (.rdsr t iw rd num) s = .next v ∧ v.thr t.val = (x.set rd.val (u.special t.val num.toNat)).next ∧
      u.onlyThread v t.val ∧ u.framed v [.threads] []) ∧
  (∀ (s : State) (t : Fin 8) (iw : Word) (num : Byte) (rs1 : HzReg), s.ready t.val iw →
    let u := s.fetched t.val
    let x := u.thr t.val
    let w := x.get rs1.val
    let n := num.toNat
    n ≤ 0x0A → x.warden = true ∨ n = 0x0A → n = 1 → badWst x.hx w.toNat = false →
    ∃ v, exec (.wrsr t iw num rs1) s = .next v ∧ v.special t.val 1 = w &&& 0x0F0F000F ∧
      (∀ k, k ≤ 0x0A → k ≠ 1 → v.special t.val k = u.special t.val k) ∧ (v.thr t.val).pc = x.pc + 4 ∧
      (v.thr t.val).win = x.win ∧ (v.thr t.val).globals = x.globals ∧ u.onlyThread v t.val ∧ u.framed v [.threads] []) ∧
  (∀ (s : State) (t : Fin 8) (iw : Word) (num : Byte) (rs1 : HzReg), s.ready t.val iw →
    let u := s.fetched t.val
    let x := u.thr t.val
    let w := x.get rs1.val
    let n := num.toNat
    let mask : Word := [0x73, 0, 0xFFFFFFFF, 0xFFFFFFFF, 0xFFFFFFFF, 0x71F, 0xFFFFFF00, 0xFFFFFFC0, 0xFFFF, 0x1FFFFFF,
      0xFFFFFFFF].getD n 0
    n ≤ 0x0A → n ≠ 1 → x.warden = true ∨ n = 0x0A →
    ∃ v, exec (.wrsr t iw num rs1) s = .next v ∧ v.special t.val n = w &&& mask ∧
      (∀ k, k ≤ 0x0A → k ≠ n → v.special t.val k = u.special t.val k) ∧ (v.thr t.val).pc = x.pc + 4 ∧
      (v.thr t.val).win = x.win ∧ (v.thr t.val).globals = x.globals ∧ u.onlyThread v t.val ∧ u.framed v [.threads] []) ∧
  (∀ (s : State) (t : Fin 8) (iw : Word), s.ready t.val iw →
    let u := s.fetched t.val
    let x := u.thr t.val
    x.warden = true →
    ∃ v, exec (.halt t iw) s = .next v ∧ v.thr t.val = { x with run := 3, pc := x.pc + 4, wtimFrom := u.now, waitAt := u.now } ∧
      u.onlyThread v t.val ∧ u.framed v [.regs, .dict, .threads, .trc] C.TRC_LOST.regs) ∧
  (∀ (s : State) (t : Fin 8) (iw : Word) (rd rs1 : HzReg), s.ready t.val iw →
    let u := s.fetched t.val
    let x := u.thr t.val
    let m := x.get rs1.val
    u.deliverable t.val = none → (∀ k ∈ u.evsOf t.val, nbit m.toNat (16 + u.evLevel k) = false) → m ≠ 0 →
    (x.sig &&& m.setWidth 16 = 0 → (nbit m.toNat 24 = true → x.wtim ≠ 0) →
      ∃ v, exec (.ewait t iw rd rs1) s = .next v ∧
        v.thr t.val = { x with run := 2, pc := x.pc + 4, wmask := m.setWidth 25, waitRd := rd.val, wtimFrom := u.now,
                               waitAt := u.now } ∧ u.onlyThread v t.val ∧ u.framed v [.regs, .dict, .threads, .trc] C.TRC_LOST.regs) ∧
    (x.sig &&& m.setWidth 16 ≠ 0 → rd.val ≠ 0 →
      ∃ v, exec (.ewait t iw rd rs1) s = .next v ∧ (v.thr t.val).run = 1 ∧
        (v.thr t.val).sig = x.sig &&& ~~~(m.setWidth 16) ∧ (v.thr t.val).pc = x.pc + 4 ∧
        ((v.thr t.val).get rd.val).setWidth 16 = x.sig &&& m.setWidth 16 ∧
        nbits ((v.thr t.val).get rd.val).toNat 31 25 = 0 ∧ u.onlyThread v t.val ∧ u.framed v [.threads] [])) ∧
  (∀ (s : State) (t : Fin 8), s.coreUp (t.val / 4) = true → (s.thr t.val).run = 2 → s.deliverable t.val = none →
    s.wakeHolds t.val = true → (s.thr t.val).waitRd < 32 →
    let x := s.thr t.val
    let m := x.wmask.setWidth 16
    ∃ v, exec (.ewaitWake t) s = .next v ∧ (v.thr t.val).run = 1 ∧ (v.thr t.val).sig = x.sig &&& ~~~m ∧
      (v.core (t.val / 4)).dozing = false ∧
      (x.waitRd ≠ 0 → ((v.thr t.val).get x.waitRd).setWidth 16 = x.sig &&& m ∧ nbit ((v.thr t.val).get x.waitRd).toNat 25 = false) ∧
      s.onlyThread v t.val ∧ s.framed v [.regs, .dict, .threads, .cores, .trc] C.TRC_LOST.regs) ∧
  (∀ (s : State) (t : Fin 8), s.coreUp (t.val / 4) = true → (s.thr t.val).run = 2 → nbit (s.thr t.val).wmask.toNat 24 = true →
    0 < (s.thr t.val).waitRd → (s.thr t.val).waitRd < 32 →
    let u := s.advanceTo ((s.thr t.val).wtimFrom + ((s.thr t.val).wtim.toNat * 5 + 5) / 6)
    u.deliverable t.val = none →
    ∃ v, exec (.wtimExpiry t) s = .next v ∧ (v.thr t.val).run = 1 ∧ (v.thr t.val).wtim = 0 ∧
      nbit ((v.thr t.val).get (s.thr t.val).waitRd).toNat 24 = true ∧ u.onlyThread v t.val ∧
      u.framed v [.regs, .dict, .threads, .cores, .trc] C.TRC_LOST.regs) ∧
  (∀ (s : State) (t : Fin 8) (iw : Word) (rs1 rs2 : HzReg), s.ready t.val iw →
    let u := s.fetched t.val
    let x := u.thr t.val
    let k := (x.get rs1.val).toNat % 8
    x.warden = true ∨ nbit (u.fld (R.HZ_TCTRL_TSIG k)) t.val = true → (u.core (t.val / 4)).sb = [] → u.coreUp (k / 4) = true →
    ∃ v, exec (.esig t iw rs1 rs2) s = .next v ∧ (v.thr k).sig = (u.thr k).sig ||| (x.get rs2.val).setWidth 16 ∧
      (v.thr t.val).pc = x.pc + 4 ∧ (∀ j, j ≠ k → j ≠ t.val → v.thr j = u.thr j) ∧
      u.framed v [.threads] []) ∧
  (∀ (s : State) (rid : Rid) (t : Fin 8) (data : Word), s.serves rid 7 →
    (s.coreUp (t.val / 4) = true →
      ∃ v, exec (.signalWrite rid t data) s = .next v ∧
        v.thr t.val = { s.thr t.val with sig := (s.thr t.val).sig ||| data.setWidth 16 } ∧ s.onlyThread v t.val ∧
        s.framed v [.regs, .answer, .threads] [R.HZ_TSIG t.val]) ∧
    (s.coreUp (t.val / 4) = false →
      ∃ v, exec (.signalWrite rid t data) s = .next v ∧ v.pends 5 = true ∧
        v.regN C.HZ_SIGLOST.addr = (s.regN C.HZ_SIGLOST.addr + 1) % 2 ^ 32 ∧
        s.framed v [.regs, .dict, .answer, .evt] (R.HZ_TSIG t.val :: R.EVT_PEND 0 :: C.HZ_SIGLOST.regs))) ∧
  (∀ (s : State) (rid : Rid) (t : Fin 8), s.serves rid 7 →
    let x := s.thr t.val
    let pc := s.reg (R.HZ_TPC t.val)
    s.flag (R.HZ_TCTRL_START t.val) = false → s.flag (R.HZ_TCTRL_STOP t.val) = false →
    (s.coreUp (t.val / 4) = true → x.run = 0 ∨ x.run = 3 →
      ∃ v, exec (.threadStart rid t) s = .next v ∧
        v.thr t.val = { x with run := 1, pc := pc, warden := true, hx := false, ml := 7, wptr := 0, depth := 0, hdepth := 0,
                               wtimFrom := s.now, waitAt := s.now } ∧ s.onlyThread v t.val ∧
        s.framed v [.regs, .dict, .answer, .threads, .trc] (R.HZ_TCTRL t.val :: C.TRC_LOST.regs)) ∧
    (s.coreUp (t.val / 4) = false ∨ x.run = 1 ∨ x.run = 2 →
      ∃ v, exec (.threadStart rid t) s = .next v ∧ v.flag (R.HZ_TSTAT_START_REJ t.val) = true ∧
        s.framed v [.regs, .answer] [R.HZ_TCTRL t.val, R.HZ_TSTAT t.val]) ∧
    (x.run = 1 →
      ∃ v, exec (.threadStop rid t) s = .next v ∧ v.thr t.val = { x with run := 0, wtimFrom := s.now, waitAt := s.now } ∧
        s.onlyThread v t.val ∧ s.framed v [.regs, .dict, .answer, .threads, .trc] (R.HZ_TCTRL t.val :: C.TRC_LOST.regs))) ∧
  (∀ (s : State) (c : Fin 2), s.coreUp c.val = true → s.flag (if c.val = 0 then R.HZ_CTRL_DOZE0 else R.HZ_CTRL_DOZE1) = true →
    (s.core c.val).dozing = false → (s.core c.val).sb = [] → (∀ k, k < 4 → (s.thr (4 * c.val + k)).run ≠ 1) →
    ∃ v, exec (.dozeEntry c) s = .next v ∧ v.core c.val = { s.core c.val with dozing := true, dozeAt := s.now } ∧
      (s.live 23 = true → tget [] v.trc.queues c.val = []) ∧ Same [.regs, .dict, .cores, .evt, .trc] s v) ∧
  (∀ (s : State) (c : Fin 2) (k : Nat), s.coreUp c.val = true → (s.core c.val).dozing = true → k < 4 →
    (s.thr (4 * c.val + k)).run = 1 ∨ ((s.thr (4 * c.val + k)).run = 2 ∧ s.wakeHolds (4 * c.val + k) = true) →
    ∃ v, exec (.dozeExit c) s = .next v ∧ (v.core c.val).dozing = false ∧ (v.core c.val).sb = (s.core c.val).sb ∧
      s.framed v [.regs, .dict, .cores, .trc] C.TRC_LOST.regs)

/-- R310, R311, R313, R316: a fence drains the core's buffer; a maintenance operation cleans, flushes or invalidates a line, or all
of them; errors of the caches are counted, and a dirty line that is lost raises E2 or E3. -/
def Obligations.HzCaches : Prop :=
  (∀ (s : State) (t : Fin 8) (iw : Word) (c : Instr) (f : SbEntry → Nat × List Byte), s.ready t.val iw →
    let u := s.fetched t.val
    let k := t.val / 4
    c = .fence t iw ∨ c = .fenceI t iw → (u.core k).sb.length ≤ 8 → u.live 7 = true →
    (∀ e ∈ (u.core k).sb, e.plain (f e).1 (f e).2 ∧ u.inRam (f e).1 (f e).2.length) →
    ∃ v, exec c s = .next v ∧ (v.core k).sb = [] ∧ v.thr t.val = (u.thr t.val).next ∧
      u.ramKept v ((u.core k).sb.map (fun e => ((f e).1, (f e).2.length))) ∧ u.onlyThread v t.val ∧
      u.framed v [.sram, .answer, .threads, .cores] []) ∧
  (∀ (s : State) (t : Fin 8) (iw : Word) (rs1 : HzReg) (off : Word), s.ready t.val iw →
    let u := s.fetched t.val
    let x := u.thr t.val
    let k := t.val / 4
    let a := (x.get rs1.val + off).toNat
    let la := a / 64 * 64
    x.warden = true ∨ (u.attr a).tr = true → (u.attr a).cache = true → (u.core k).sb = [] →
    (∃ v, exec (.iinvL t iw rs1 off) s = .next v ∧ v.core k = { u.core k with icache := tdel (u.core k).icache la } ∧
      v.thr t.val = x.next ∧ v.core (1 - k) = u.core (1 - k) ∧ u.framed v [.threads, .cores] []) ∧
    (x.warden = true →
      ∃ v, exec (.dinvL t iw rs1 off) s = .next v ∧ v.core k = { u.core k with dcache := tdel (u.core k).dcache la } ∧
        v.thr t.val = x.next ∧ v.core (1 - k) = u.core (1 - k) ∧ u.framed v [.threads, .cores] []) ∧
    (∀ l, u.dline k la = some l → l.dirty = true → u.inRam la 64 →
      (∃ v, exec (.dclnL t iw rs1 off) s = .next v ∧ v.dline k la = some { l with dirty := false } ∧ v.ram la 64 = l.all ∧
        u.ramKept v [(la, 64)] ∧ v.thr t.val = x.next ∧ u.framed v [.sram, .threads, .cores] []) ∧
      (∃ v, exec (.dflsL t iw rs1 off) s = .next v ∧ v.dline k la = none ∧ v.ram la 64 = l.all ∧ u.ramKept v [(la, 64)] ∧
        v.thr t.val = x.next ∧ u.framed v [.sram, .threads, .cores] []))) ∧
  (∀ (s : State) (t : Fin 8) (iw : Word), s.ready t.val iw →
    let u := s.fetched t.val
    let x := u.thr t.val
    let k := t.val / 4
    x.warden = true → (u.core k).sb = [] →
    (∃ v, exec (.iinvAll t iw) s = .next v ∧ v.core k = { u.core k with icache := [] } ∧ v.thr t.val = x.next ∧
      v.core (1 - k) = u.core (1 - k) ∧ u.framed v [.threads, .cores] []) ∧
    (∃ v, exec (.dinvAll t iw) s = .next v ∧ v.core k = { u.core k with dcache := [] } ∧ v.thr t.val = x.next ∧
      v.core (1 - k) = u.core (1 - k) ∧ u.framed v [.threads, .cores] []) ∧
    (tsorted (u.core k).dcache = true → (∀ p ∈ (u.core k).dcache, p.1 % 64 = 0 ∧ u.inRam p.1 64) →
      let saved := fun (v : State) => ∀ la l, u.dline k la = some l → l.dirty = true → v.ram la 64 = l.all
      (∃ v, exec (.dclnAll t iw) s = .next v ∧ saved v ∧ (∀ la l, v.dline k la = some l → l.dirty = false) ∧
        (∀ la, (v.dline k la).isSome = (u.dline k la).isSome) ∧ v.thr t.val = x.next ∧ u.framed v [.sram, .threads, .cores] []) ∧
      (∃ v, exec (.dflsAll t iw) s = .next v ∧ saved v ∧ (v.core k).dcache = [] ∧ v.thr t.val = x.next ∧
        u.framed v [.sram, .threads, .cores] []))) ∧
  (∀ (s : State) (t : Fin 8) (addr : Word) (access : Bool) (l : CacheLine), s.coreUp (t.val / 4) = true → s.live 7 = true →
    let c := t.val / 4
    let la := addr.toNat / 64 * 64
    (s.dline c la = some l →
      ∃ v, exec (.cacheError t addr .single access) s = .next v ∧
        v.regN (if c = 0 then C.HZ_C0_DCOR else C.HZ_C1_DCOR).addr =
          (s.regN (if c = 0 then C.HZ_C0_DCOR else C.HZ_C1_DCOR).addr + 1) % 2 ^ 32 ∧
        s.framed v [.regs, .dict] (if c = 0 then C.HZ_C0_DCOR else C.HZ_C1_DCOR).regs) ∧
    (s.dline c la = some l → l.dirty = true →
      ∃ v, exec (.cacheError t addr .double false) s = .next v ∧ v.dline c la = none ∧ v.pends (2 + c) = true ∧
        v.regN (if c = 0 then C.HZ_C0_DUNC else C.HZ_C1_DUNC).addr =
          (s.regN (if c = 0 then C.HZ_C0_DUNC else C.HZ_C1_DUNC).addr + 1) % 2 ^ 32 ∧
        s.framed v [.regs, .dict, .cores, .evt] (R.EVT_PEND 0 :: (if c = 0 then C.HZ_C0_DUNC else C.HZ_C1_DUNC).regs)) ∧
    (s.dline c la = some l → l.dirty = true → (s.thr t.val).run = 1 → (s.core c).dozing = false →
      s.deliverable t.val = none → (s.thr t.val).hx = false → (s.thr t.val).ml < nbits (s.regN R.EVT_SLVL) 14 12 →
      ∃ v, exec (.cacheError t addr .double true) s = .next v ∧ v.dline c la = none ∧ v.pends (2 + c) = true ∧
        (v.thr t.val).ecause = 5 ∧ (v.thr t.val).einfo = addr ∧ (v.thr t.val).epc = (s.thr t.val).pc ∧
        Same [.regs, .dict, .threads, .cores, .evt, .trc] s v) ∧
    (s.iline c la = some l → s.inRam la 64 → ((s.core c).icache.filter (fun p => sameSet p.1 la && p.1 != la)).length < 4 →
      ∃ v, exec (.cacheError t addr .ipar access) s = .next v ∧ v.iline c la = some (lineOf (s.ram la 64) false) ∧
        v.regN (if c = 0 then C.HZ_C0_IPAR else C.HZ_C1_IPAR).addr =
          (s.regN (if c = 0 then C.HZ_C0_IPAR else C.HZ_C1_IPAR).addr + 1) % 2 ^ 32 ∧
        s.framed v [.regs, .dict, .cores] (if c = 0 then C.HZ_C0_IPAR else C.HZ_C1_IPAR).regs))

/-- R325, R331 to R337: an event sets its pending bit; a thread takes the highest deliverable one, whose bit clears; a level-7
event whose target cannot take it is redirected; E6 forces the first watched thread out of an all-wait. -/
def Obligations.HzEvents : Prop :=
  (∀ (s : State) (k : Fin 160), s.live 7 = true → eventReserved k.val = false →
    ∃ v, exec (.eventRaised k) s = .next v ∧ v.pends k.val = true ∧
      (∀ j, j < 160 → j ≠ k.val → v.pends j = s.pends j) ∧ s.framed v [.regs, .evt] [R.EVT_PEND (k.val / 32)]) ∧
  (∀ (s : State) (rid : Rid) (data : Word), s.serves rid 7 →
    ∃ v, exec (.softwareEvent rid data) s = .next v ∧
      (∀ m, m < 8 → nbit (s.regN R.EVT_SWSET) m = false → v.pends (8 + m) = (s.pends (8 + m) || nbit data.toNat m)) ∧
      v.regN R.EVT_SWSET = 0 ∧ s.framed v [.regs, .answer, .evt] [R.EVT_SWSET, R.EVT_PEND 0]) ∧
  (∀ (s : State) (t : Fin 8) (k : Nat), s.coreUp (t.val / 4) = true → (s.thr t.val).run = 1 →
    (s.core (t.val / 4)).dozing = false → s.deliverable t.val = some k →
    ∃ v, exec (.eventTrap t) s = .next v ∧
      s.trapped v t.val (s.thr t.val).pc (BitVec.ofNat 32 (2 ^ 31 + k)) (BitVec.ofNat 32 (s.evLevel k)) (s.evLevel k) 0x100 ∧
      v.pends k = false ∧ (∀ j, j < 160 → j ≠ k → v.pends j = s.pends j) ∧
      s.framed v [.regs, .dict, .threads, .evt, .trc] (R.EVT_PEND (k / 32) :: C.TRC_LOST.regs)) ∧
  (∀ (s : State) (t : Nat) (k : Nat), s.deliverable t = some k →
    (s.thr t).hx = false ∧ s.pends k = true ∧ s.flag (R.EVT_SRC_EN k) = true ∧ s.evTarget k = some t ∧ 0 < s.evLevel k ∧
      ((s.thr t).ml < s.evLevel k ∨ s.evLevel k = 7) ∧
      ∀ j, j < 160 → s.pends j = true → s.flag (R.EVT_SRC_EN j) = true → s.evTarget j = some t →
        ((s.thr t).ml < s.evLevel j ∨ s.evLevel j = 7) → s.evLevel j < s.evLevel k ∨ (s.evLevel j = s.evLevel k ∧ k ≤ j)) ∧
  (∀ (s : State) (k : Fin 160) (t u : Nat), s.live 7 = true → s.pends k.val = true → s.flag (R.EVT_SRC_EN k.val) = true →
    s.evLevel k.val = 7 → 1 < k.val → s.evTarget k.val = some t → s.watched t = false →
    (List.range 8).find? (fun j => j != t && s.watched j && !(s.thr j).hx) = some u →
    ∃ v, exec (.level7Redirection k) s = .next v ∧ (k.val ≠ 6 → v.evTarget k.val = some u) ∧ v.pends 4 = true ∧
      v.regN C.EVT_L7REDIR.addr = (s.regN C.EVT_L7REDIR.addr + 1) % 2 ^ 32 ∧
      s.framed v [.regs, .dict, .evt] (R.EVT_PEND 0 :: C.EVT_L7REDIR.regs)) ∧
  (∀ (s : State) (t : Nat), s.live 7 = true → s.allWait = true → s.allWaitTarget = some t →
    let u := s.advanceTo (s.allWaitFrom + 854)
    let x := u.thr t
    u.flag (R.EVT_SRC_EN 6) = true → u.evLevel 6 = 6 → u.evsOf t = [] → x.hx = false → x.waitRd < 32 →
    (x.ml < 6 → 0 < x.waitRd → x.wptr < 11 →
      ∃ v, exec .allWaitConfirmed s = .next v ∧ v.regN C.EVT_AWCNT.addr = (u.regN C.EVT_AWCNT.addr + 1) % 2 ^ 32 ∧
        (v.thr t).run = 1 ∧ (v.thr t).ecause = 0x80000006 ∧ (v.thr t).einfo = 6 ∧ (v.thr t).ml = 6 ∧ (v.thr t).epc = x.pc ∧
        (v.thr t).pc = x.evec + 0x100 ∧
        nbits (({ v.thr t with wptr := x.wptr } : Thread).get x.waitRd).toNat 26 25 = 3 ∧ v.pends 6 = false ∧
        u.framed v [.regs, .dict, .threads, .cores, .evt, .trc] (R.EVT_PEND 0 :: C.EVT_AWCNT.regs ++ C.TRC_LOST.regs)) ∧
    (6 ≤ x.ml → (∃ k, k < 8 ∧ k ≠ t ∧ u.watched k = true ∧ (u.thr k).hx = false) → u.flag R.EVT_DFLOG0_VALID = false →
      ∃ v, exec .allWaitConfirmed s = .next v ∧ v.regN C.EVT_AWCNT.addr = (u.regN C.EVT_AWCNT.addr + 1) % 2 ^ 32 ∧
        (v.thr t).run = 3 ∧ v.regN R.EVT_DFLOG1 = 0x80000006 ∧ v.pends (t / 4) = true ∧
        u.framed v [.regs, .dict, .threads, .cores, .evt, .trc] ([R.EVT_DFLOG0, R.EVT_DFLOG1, R.EVT_DFLOG2, R.EVT_DFLOG3, R.EVT_PEND 0] ++
          C.EVT_DFCNT.regs ++ C.EVT_AWCNT.regs ++ C.TRC_LOST.regs)))

/-! ### Trace, debug, interconnect, DMA -/

/-- R341 to R343: the oldest packet of a core's queue goes to the buffer, after an OVERFLOW packet when some were lost; in STOP and
STREAM a packet that does not fit is lost and counted, with FULL in STOP, and E156. A burst of the buffer goes to the DRAM ring
unless it would reach the read pointer. CLEAR empties the buffer. -/
def Obligations.TraceBuffer : Prop :=
  (∀ (s : State) (c : Fin 2) (p : TracePkt) (r : List TracePkt), s.live 23 = true → tget [] s.trc.queues c.val = p :: r →
    let lost := tget 0 s.trc.lostPend c.val
    let all := (if lost = 0 then [] else BitVec.ofNat 8 (8 * 16 + c.val * 8) :: leBytes 2 (min lost 65535)) ++ p.bytes
    let w := s.regN R.TRC_WPTR
    let mode := s.fld R.TRC_CTRL_MODE
    w < 65536 → all.length ≤ 65536 →
    (mode = 0 ∨ mode = 3 ∨ (s.trc.fill + all.length ≤ 65536 ∧ (mode = 1 → s.flag R.TRC_STAT_FULL = false)) →
      ∃ t, exec (.tracePacketWrite c) s = .next t ∧ tget [] t.trc.queues c.val = r ∧ tget 0 t.trc.lostPend c.val = 0 ∧
        t.regN R.TRC_WPTR = (w + all.length) % 65536 ∧
        (∀ k, k < all.length → tget 0 t.trc.buf ((w + k) % 65536) = all.getD k 0) ∧
        (∀ x, x < 65536 → (∀ k, k < all.length → x ≠ (w + k) % 65536) → tget 0 t.trc.buf x = tget 0 s.trc.buf x) ∧
        s.framed t [.regs, .trc] [R.TRC_WPTR]) ∧
    (mode = 1 ∨ mode = 2 → 65536 < s.trc.fill + all.length →
      ∃ t, exec (.tracePacketWrite c) s = .next t ∧ tget [] t.trc.queues c.val = r ∧ t.trc.buf = s.trc.buf ∧
        tget 0 t.trc.lostPend c.val = lost + 1 ∧ t.regN C.TRC_LOST.addr = (s.regN C.TRC_LOST.addr + 1) % 2 ^ 32 ∧
        (mode = 1 → t.flag R.TRC_STAT_FULL = true) ∧ (s.live 7 = true → t.pends 156 = true) ∧
        s.framed t [.regs, .dict, .evt, .trc] (R.TRC_STAT :: R.EVT_PEND 4 :: C.TRC_LOST.regs))) ∧
  (∀ (s : State), s.live 23 = true → s.flag R.TRC_CTRL_EN = true → s.fld R.TRC_CTRL_MODE = 2 → 0 < s.trc.fill →
    let size := 2 ^ max 12 (min 28 (s.fld R.TRC_DSIZE_SIZE))
    let w := s.regN R.TRC_DWPTR
    let a := s.regN R.TRC_DBASE + w
    let n := min 64 s.trc.fill
    ((w + 64) % size ≠ s.regN R.TRC_DRPTR → w % 64 = 0 → s.regN R.TRC_DBASE % 64 = 0 → s.inDram a 64 →
      ∃ t, exec .traceStreamBurst s = .next t ∧
        t.dramBytes (s.dramAt a) 64 = s.traceBytes (s.regN R.TRC_WPTR + 65536 - s.trc.fill) n ++ List.replicate (64 - n) 0 ∧
        s.dramKept t [(s.dramAt a, 64)] ∧ t.trc = { s.trc with fill := s.trc.fill - n } ∧
        t.regN R.TRC_DWPTR = (w + 64) % size ∧ s.framed t [.regs, .trc, .dmc] [R.TRC_DWPTR]) ∧
    ((w + 64) % size = s.regN R.TRC_DRPTR → ∃ t, exec .traceStreamBurst s = .next t ∧ s.framed t [] [])) ∧
  (∀ (s : State) (rid : Rid), s.serves rid 23 →
    ∃ t, exec (.traceClear rid) s = .next t ∧ t.trc = { s.trc with buf := [], fill := 0 } ∧ t.flag R.TRC_STAT_FULL = false ∧
      t.regN R.TRC_WPTR = 0 ∧ s.framed t [.regs, .answer, .trc] [R.TRC_CTRL, R.TRC_STAT, R.TRC_WPTR])

/-- R348 to R352: a nonce serves one attempt; a session opens when the key hash and the signature agree, at the level asked for
capped by DBGLOCK, with E157; without DRBG or PD10, or with a wrong signature, the attempt fails, is reported, and the third
failure in 60 s refuses attempts for 10 s. DBGEND and TRST_N end a session; a level-2 session halts threads. The boundary-scan
instructions are selected; EXTEST holds every domain but PD0 and PD23 in reset. -/
def Obligations.DebugPort : Prop :=
  (∀ (s : State), s.live 23 = true → s.fld R.FUS_POLICY_DBGLOCK ≠ 0 → s.debugRefused = false →
    let v := s.withTrc { s.trc with tapIr := 8, extest := false }
    (∀ n u, s.flag R.TRN_STAT_DRBG_OK = true → v.randNat 4 = some (n, u) →
      ∃ t, exec .dbgauthNonce s = .next t ∧ t.trc.nonce = some (BitVec.ofNat 128 n) ∧ t.trc.level = s.trc.level ∧
        Same [.free, .regs, .dict, .trn, .evt, .trc, .dmc] s t) ∧
    (s.flag R.TRN_STAT_DRBG_OK = false →
      ∃ t, exec .dbgauthNonce s = .next t ∧ t.trc = { s.trc with tapIr := 8, extest := false, nonce := none } ∧
        s.framed t [.trc] [])) ∧
  (∀ (s : State) (level : Byte) (qx qy r sg : BitVec 256), s.live 23 = true → s.fld R.FUS_POLICY_DBGLOCK ≠ 0 →
    s.debugRefused = false → s.trc.attempt = none →
    let key := beBytes 32 qx.toNat ++ beBytes 32 qy.toNat
    let failed := fun (t : State) (err : Nat) => t.trc.attempt = none ∧ t.trc.dbgErr = err ∧ t.trc.level = s.trc.level ∧
      t.tmp.reports = s.tmp.reports ++ [⟨18, 0, 0, 0⟩]
    (∀ n, s.flag R.TRN_STAT_DRBG_OK = true → s.live 10 = true → s.trc.nonce = some n →
      let e := beNat (sha256 (beBytes 16 n.toNat ++ s.uidBytes ++ [level]))
      ∃ t ok, exec (.dbgauthAttempt level qx qy r sg) s = .next t ∧ t.trc.attempt = some (level.toNat, ok) ∧
        t.trc.nonce = none ∧ t.trc.level = s.trc.level ∧
        (ok = true ↔ sha256 key = s.debugKey ∧ p256.on qx.toNat qy.toNat = true ∧
          p256.verify qx.toNat qy.toNat e r.toNat sg.toNat = true) ∧ s.framed t [.trc] []) ∧
    (s.flag R.TRN_STAT_DRBG_OK = false →
      ∃ t, exec (.dbgauthAttempt level qx qy r sg) s = .next t ∧ failed t 1 ∧ s.framed t [.tmp, .trc] []) ∧
    (s.flag R.TRN_STAT_DRBG_OK = true → s.live 10 = false →
      ∃ t, exec (.dbgauthAttempt level qx qy r sg) s = .next t ∧ failed t 2 ∧ s.framed t [.tmp, .trc] [])) ∧
  (∀ (s : State) (l : Nat) (ok : Bool), s.live 23 = true → s.trc.attempt = some (l, ok) → s.live 10 = true →
    (ok = true → ∃ t, exec .dbgauthDone s = .next t ∧ t.trc.level = min l s.debugCap ∧ t.trc.attempt = none ∧
      (s.live 7 = true → t.pends 157 = true) ∧ s.framed t [.regs, .evt, .trc] [R.EVT_PEND 4]) ∧
    (ok = false → ∃ t, exec .dbgauthDone s = .next t ∧ t.trc.level = s.trc.level ∧ t.trc.attempt = none ∧
      t.tmp.reports = s.tmp.reports ++ [⟨18, 0, 0, 0⟩] ∧
      (2 ≤ (s.trc.dbgFails.filter (fun x => s.now < x + 60000000000)).length →
        t.trc.lockUntil = some (s.now + 10000000000)) ∧ s.framed t [.tmp, .trc] [])) ∧
  (∀ (s : State) (x : Nat), s.trc.lockUntil = some x →
    let u := s.advanceTo x
    ∃ t, exec .dbgauthLockoutEnd s = .next t ∧ t.trc = { s.trc with lockUntil := none } ∧ u.framed t [.trc] []) ∧
  (∀ (s : State) (c : Instr) (ir : Nat), s.live 23 = true → (c = .dbgend ∧ ir = 0x0A) ∨ (c = .trstNLow ∧ ir = 1) →
    ∃ t, exec c s = .next t ∧
      t.trc = { s.trc with tapIr := ir, extest := false, level := 0, nonce := none, attempt := none } ∧ s.framed t [.trc] []) ∧
  (∀ (s : State) (t : Fin 8), s.live 23 = true → 2 ≤ s.trc.level → s.coreUp (t.val / 4) = true →
    (s.thr t.val).run = 1 ∨ (s.thr t.val).run = 2 →
    ∃ v, exec (.debugHalt t) s = .next v ∧ (v.thr t.val).run = 3 ∧ (v.thr t.val).pc = (s.thr t.val).pc ∧
      (v.thr t.val).win = (s.thr t.val).win ∧ s.onlyThread v t.val ∧ (s.live 7 = true → v.pends 158 = true) ∧
      s.framed v [.regs, .dict, .threads, .cores, .evt, .trc] (R.EVT_PEND 4 :: C.TRC_LOST.regs)) ∧
  (∀ (s : State) (addr data : Word), s.live 23 = true → s.fld R.FUS_POLICY_DBGLOCK ≠ 0 →
    let v := s.withTrc { s.trc with tapIr := 9, extest := false }
    let rid : Rid := if s.trc.level = 3 then 0xC4 else 0xC0
    (2 ≤ s.trc.level →
      (∃ t, exec (.dbgacc addr true data) s = .next t ∧ t = v.write rid addr.toNat data) ∧
      (∃ t, exec (.dbgacc addr false data) s = .next t ∧ t.trc.dbgData = (v.read rid addr.toNat).answer.data ∧
        Same [.trc] (v.read rid addr.toNat) t)) ∧
    (s.trc.level = 0 ∨ (s.trc.level = 1 ∧ (addr.toNat < 0x40006000 ∨ 0x40007000 ≤ addr.toNat)) →
      ∀ write, ∃ t, exec (.dbgacc addr write data) s = .next t ∧ t = v)) ∧
  (∀ (s : State) (cells : List Bool), s.live 23 = true →
    (∃ t, exec .idcode s = .next t ∧
      t.trc = { s.trc with tapIr := 1, extest := false,
                           dbgData := BitVec.ofNat 32 (0x16024001 + s.fld R.FUS_MFR_MFR * 2) } ∧ s.framed t [.trc] []) ∧
    (∃ t, exec (.samplePreload cells) s = .next t ∧ t.trc = { s.trc with tapIr := 2, extest := false, boundary := cells } ∧
      s.framed t [.trc] []) ∧
    (∃ t, exec .bypass s = .next t ∧ t.trc = { s.trc with tapIr := 0x1F, extest := false } ∧ s.framed t [.trc] []) ∧
    (∃ t, exec .extest s = .next t ∧ t.trc.extest = true ∧ t.trc.tapIr = 3 ∧
      (∀ d, 0 < d → d < 23 → t.up d = false) ∧ (∀ a, a < 0x40002000 → t.reg a = s.reg a) ∧ t.nq = s.nq ∧ t.nvs = s.nvs ∧
      t.fus = s.fus ∧ t.sram = s.sram))

/-- R354, R355, R362, R363: a transaction reads or writes the bytes it names; one bit wrong is corrected and counted, any other error
at the target performs nothing; both errors answer an error, are logged in IC_INTLOG, raise E43 and are reported. -/
def Obligations.BusTransactions : Prop :=
  (∀ (s : State) (rid : Rid) (addr : Word) (len : BitVec 9) (data : List Byte), s.reaches rid = true →
    formed addr.toNat len.toNat = true → s.inRam addr.toNat len.toNat → s.ic.dma.any (fun p => p.2.abort) = false →
    let a := addr.toNat
    let n := len.toNat
    (∃ t, exec (.busTransaction rid addr len false data .good) s = .next t ∧ t.answer.rid = rid ∧ t.answer.err = false ∧
      t.answer.bytes = s.ram a n ∧ s.framed t [.answer] []) ∧
    (∃ t, exec (.busTransaction rid addr len true data .good) s = .next t ∧ t.answer.err = false ∧ t.ram a n = slice data 0 n ∧
      s.ramKept t [(a, n)] ∧ s.framed t [.answer, .sram] []) ∧
    (s.live 7 = true →
      (∃ t, exec (.busTransaction rid addr len true data .corrected) s = .next t ∧ t.answer.err = false ∧
        t.ram a n = slice data 0 n ∧ s.ramKept t [(a, n)] ∧
        t.regN C.IC_INTCOR.addr = (s.regN C.IC_INTCOR.addr + 1) % 2 ^ 32 ∧
        s.framed t [.regs, .dict, .answer, .sram] C.IC_INTCOR.regs) ∧
      (∀ (write : Bool) (k : Integrity), k = .targetData ∨ k = .targetAddr →
        ∃ t, exec (.busTransaction rid addr len write data k) s = .next t ∧ t.answer.err = true ∧ t.answer.data = 0 ∧
          t.regN C.IC_INTUNC.addr = (s.regN C.IC_INTUNC.addr + 1) % 2 ^ 32 ∧ t.pends 43 = true ∧
          (nbit (s.regN R.IC_INTLOG0) 31 = false → t.regN R.IC_INTLOG1 = a ∧ nbit (t.regN R.IC_INTLOG0) 31 = true ∧
            nbit (t.regN R.IC_INTLOG0) 29 = false ∧ nbit (t.regN R.IC_INTLOG0) 28 = (k == .targetAddr) ∧
            nbits (t.regN R.IC_INTLOG0) 26 24 = master rid) ∧
          s.framed t [.regs, .dict, .answer, .tmp, .evt] ([R.IC_INTLOG0, R.IC_INTLOG1, R.EVT_PEND 1] ++ C.IC_INTUNC.regs)) ∧
      (∀ (k : Integrity), k = .master ∨ k = .masterCtrl →
        ∃ t, exec (.busTransaction rid addr len true data k) s = .next t ∧ t.answer.err = true ∧ t.ram a n = slice data 0 n ∧
          s.ramKept t [(a, n)] ∧ t.regN C.IC_INTUNC.addr = (s.regN C.IC_INTUNC.addr + 1) % 2 ^ 32 ∧ t.pends 43 = true ∧
          (nbit (s.regN R.IC_INTLOG0) 31 = false → nbit (t.regN R.IC_INTLOG0) 29 = true) ∧
          s.framed t [.regs, .dict, .answer, .sram, .tmp, .evt]
            ([R.IC_INTLOG0, R.IC_INTLOG1, R.EVT_PEND 1] ++ C.IC_INTUNC.regs))))

/-- R366 to R370: GO starts an idle channel with its registers or its descriptor, and is rejected on a busy or reserved one; a
transfer copies its bytes, sets DMA_DONE and raises E45; an error stops the channel with its kind, address and remainder and
raises E46; ABORT stops it at a burst boundary, DMA_DONE as it was. -/
def Obligations.DmaChannels : Prop :=
  (∀ (s : State) (rid : Rid) (n : Fin 16) (data : Word), s.serves rid 7 →
    let c := n.val
    (s.dmaReserved c = false → s.dmaBusy c = false → s.flag R.DMA_CTRL_EN = true → nbit data.toNat 30 = false →
      (nbit data.toNat 6 = false → 0 < s.regN (R.DMA_LEN c) →
        ∃ t, exec (.dmaGo rid n data) s = .next t ∧
          t.dmaRun c = some { src := s.regN (R.DMA_SRC c), dst := s.regN (R.DMA_DST c), left := s.regN (R.DMA_LEN c),
                              sfix := nbit data.toNat 2, dfix := nbit data.toNat 3, irq := true } ∧
          (∀ k, k ≠ c → t.dmaRun k = s.dmaRun k) ∧
          s.framed t [.regs, .answer, .ic] [R.DMA_CFG c, R.DMA_CSTAT c, R.DMA_ERRADDR c]) ∧
      (nbit data.toNat 6 = false → s.regN (R.DMA_LEN c) = 0 →
        ∃ t, exec (.dmaGo rid n data) s = .next t ∧ t.ic = s.ic ∧ nbit (t.regN R.DMA_DONE) c = true ∧
          s.framed t [.regs, .answer, .evt] [R.DMA_CFG c, R.DMA_CSTAT c, R.DMA_ERRADDR c, R.DMA_DONE, R.EVT_PEND 1]) ∧
      (nbit data.toNat 6 = true →
        ∃ t, exec (.dmaGo rid n data) s = .next t ∧
          t.dmaRun c = some { next := some (s.regN (R.DMA_NEXT c)), loading := true } ∧
          (∀ k, k ≠ c → t.dmaRun k = s.dmaRun k) ∧
          s.framed t [.regs, .answer, .ic] [R.DMA_CFG c, R.DMA_CSTAT c, R.DMA_ERRADDR c])) ∧
    (s.dmaReserved c = true ∨ (s.dmaBusy c = true ∧ nbit data.toNat 30 = false) →
      ∃ t, exec (.dmaGo rid n data) s = .next t ∧ t.ic = s.ic ∧ t.flag R.DMA_STAT_REJ = true ∧
        s.framed t [.regs, .answer] [R.DMA_STAT])) ∧
  (∀ (s : State) (n : Fin 16) (d : DmaRun) (a : Nat), s.live 7 = true → s.dmaRun n.val = some d → d.loading = true →
    d.next = some a → a % 16 = 0 → s.inRam a 16 →
    let w := fun k => s.ramWord (a + 4 * k)
    0 < nbits (w 2) 23 0 →
    ∃ t, exec (.dmaDescriptorLoad n) s = .next t ∧
      t.dmaRun n.val = some { src := w 0, dst := w 1, left := nbits (w 2) 23 0, sfix := nbit (w 2) 29, dfix := nbit (w 2) 28,
                              irq := nbit (w 2) 31, next := if nbit (w 2) 30 then none else some (w 3 / 16 * 16) } ∧
      (∀ k, k ≠ n.val → t.dmaRun k = s.dmaRun k) ∧ s.framed t [.ic] []) ∧
  (∀ (s : State) (n : Fin 16) (d : DmaRun) (a : Nat), s.live 7 = true → s.dmaRun n.val = some d → d.loading = true →
    d.next = some a → a % 16 ≠ 0 ∨ regSpace a = true →
    ∃ t, exec (.dmaDescriptorLoad n) s = .next t ∧ t.dmaRun n.val = none ∧ nbit (t.regN R.DMA_ERR) n.val = true ∧
      t.fld (R.DMA_CSTAT_ERRKIND n.val) = 4 ∧ t.pends 46 = true ∧
      s.framed t [.regs, .ic, .evt] [R.DMA_CSTAT n.val, R.DMA_ERRADDR n.val, R.DMA_ERR, R.EVT_PEND 1]) ∧
  (∀ (s : State) (n : Fin 16) (d : DmaRun), s.live 7 = true → s.dmaRun n.val = some d → d.loading = false → d.abort = false →
    s.ic.dma.any (fun p => p.2.abort) = false → 0 < d.left →
    (d.sfix = true → d.src % 4 = 0 ∧ d.left % 4 = 0) → (d.dfix = true → d.dst % 4 = 0 ∧ d.left % 4 = 0) →
    s.inRam d.src (if d.sfix then 4 else d.left) → s.inRam d.dst (if d.dfix then 4 else d.left) →
    let dest := [(d.dst, if d.dfix then 4 else d.left)]
    (d.irq = true → d.next = none →
      ∃ t, exec (.dmaTransferDone n) s = .next t ∧ t.dmaRun n.val = none ∧ nbit (t.regN R.DMA_DONE) n.val = true ∧
        (nbit (s.regN R.DMA_DONE) n.val = false → t.pends 45 = true) ∧ s.ramKept t dest ∧
        (d.sfix = false → d.dfix = false → d.src + d.left ≤ d.dst ∨ d.dst + d.left ≤ d.src →
          t.ram d.dst d.left = s.ram d.src d.left) ∧ (∀ k, k ≠ n.val → t.dmaRun k = s.dmaRun k) ∧
        s.framed t [.regs, .answer, .sram, .ic, .evt] [R.DMA_DONE, R.EVT_PEND 1]) ∧
    (∀ (write : Bool) (moved : BitVec 24), moved.toNat < d.left → d.left < 2 ^ 24 →
      ∃ t, exec (.dmaError n write moved) s = .next t ∧ t.dmaRun n.val = none ∧ nbit (t.regN R.DMA_ERR) n.val = true ∧
        t.fld (R.DMA_CSTAT_ERRKIND n.val) = (if write then 2 else 1) ∧ d.left - moved.toNat ≤ t.fld (R.DMA_CSTAT_REMAIN n.val) ∧
        t.fld (R.DMA_CSTAT_REMAIN n.val) ≤ d.left ∧ t.pends 46 = true ∧ s.ramKept t dest ∧ t.regN R.DMA_DONE = s.regN R.DMA_DONE ∧
        s.framed t [.regs, .answer, .sram, .ic, .evt] [R.DMA_CSTAT n.val, R.DMA_ERRADDR n.val, R.DMA_ERR, R.EVT_PEND 1]) ∧
    (∀ (rid : Rid), s.serves rid 7 → s.dmaReserved n.val = false → d.left < 2 ^ 24 →
      ∃ t, exec (.dmaAbort rid n) s = .next t ∧ t.dmaRun n.val = none ∧ t.flag (R.DMA_CSTAT_ABORTED n.val) = true ∧
        t.fld (R.DMA_CSTAT_REMAIN n.val) ≤ d.left ∧ s.ramKept t dest ∧ t.regN R.DMA_DONE = s.regN R.DMA_DONE ∧
        s.framed t [.free, .regs, .answer, .sram, .ic] [R.DMA_CSTAT n.val, R.DMA_STAT]))

/-! ### Entropy, store, fuses -/

/-- R373 to R381: rings outside their range or locked together, failed tests and a failed start-up are health-test failures; a
start-up that passes enables conditioning; estimates are judged against their limits; 512 samples make a block; two blocks
instantiate the DRBG; RETRY starts a start-up, and clears HALT for a Warden; reads give each random word once, and zero without
the DRBG or past a due reseed. -/
def Obligations.EntropySource : Prop :=
  (∀ (s : State) (fast slow : BitVec 16) (same : Bool), s.vigil = true →
    let dead := decide (fast.toNat < 900 ∨ 2700 < fast.toNat ∨ slow.toNat < 320 ∨ 960 < slow.toNat)
    let shows := fun (t : State) => t.regN R.TRN_FREQ = fast.toNat * 2 ^ 16 + slow.toNat ∧ t.flag R.TRN_STAT_DEAD = dead ∧
      t.flag R.TRN_STAT_LOCKED = same
    ((dead = false ∧ same = false) ∨ s.flag R.TRN_STAT_DEAD = true ∨ s.flag R.TRN_STAT_LOCKED = true →
      ∃ t, exec (.ringMeasurement fast slow same) s = .next t ∧ shows t ∧ s.framed t [.regs] [R.TRN_FREQ, R.TRN_STAT]) ∧
    (dead = true ∨ same = true → s.flag R.TRN_STAT_DEAD = false → s.flag R.TRN_STAT_LOCKED = false →
      ∃ t, exec (.ringMeasurement fast slow same) s = .next t ∧ shows t ∧ s.poolFails t ∧ (s.live 7 = true → t.pends 94 = true) ∧
        s.framed t [.regs, .tmp, .trn, .evt] [R.TRN_FREQ, R.TRN_STAT, R.TRN_BIAS, R.TRN_CORR, R.EVT_PEND 2])) ∧
  (∀ (s : State) (apt : Bool), s.vigil = true →
    let c := if apt then C.TRN_APTFAIL else C.TRN_RCTFAIL
    ∃ t, exec (.healthTestFailure apt) s = .next t ∧ s.poolFails t ∧ t.regN c.addr = (s.regN c.addr + 1) % 2 ^ 32 ∧
      (s.live 7 = true → t.pends 93 = true) ∧
      s.framed t [.regs, .dict, .tmp, .trn, .evt] ([R.TRN_STAT, R.TRN_BIAS, R.TRN_CORR, R.EVT_PEND 2] ++ c.regs)) ∧
  (∀ (s : State) (x : Nat), s.vigil = true → s.trn.starting = some x → s.flag R.TRN_STAT_HALT = false →
    let u := s.advanceTo (x + 6400)
    (u.flag R.TRN_STAT_DEAD = false → u.flag R.TRN_STAT_LOCKED = false →
      ∃ t, exec .startupTestDone s = .next t ∧ t.trn = { u.trn with starting := none } ∧ t.flag R.TRN_STAT_STARTUP_OK = true ∧
        u.framed t [.regs, .trn] [R.TRN_STAT]) ∧
    (u.flag R.TRN_STAT_DEAD = true ∨ u.flag R.TRN_STAT_LOCKED = true →
      ∃ t, exec .startupTestDone s = .next t ∧ u.poolFails t ∧ (u.live 7 = true → t.pends 94 = true) ∧
        u.framed t [.regs, .tmp, .trn, .evt] [R.TRN_STAT, R.TRN_BIAS, R.TRN_CORR, R.EVT_PEND 2])) ∧
  (∀ (s : State) (ones : Fin 65537) (corr : BitVec 16), s.vigil = true → s.flag R.TRN_STAT_HALT = false →
    let bias : Int := min ((ones.val : Int) - 32768) 32767
    let c : Int := if ones.val = 0 ∨ ones.val = 65536 then 32767 else sgn 16 corr.toNat
    let out := decide (s.fld R.TRN_LIM_BIAS_LIM < bias.natAbs ∨ s.fld R.TRN_LIM_CORR_LIM < c.natAbs)
    ∃ t, exec (.estimateBlockEnd ones corr) s = .next t ∧ sgn 16 (t.regN R.TRN_BIAS) = bias ∧ sgn 16 (t.regN R.TRN_CORR) = c ∧
      t.flag R.TRN_STAT_EST_VALID = true ∧ t.flag R.TRN_STAT_EST_OUT = out ∧
      (out = true → s.flag R.TRN_STAT_EST_OUT = false → s.live 7 = true → t.pends 95 = true) ∧
      (out = false ∨ s.flag R.TRN_STAT_EST_OUT = true → t.evt = s.evt ∧ t.reg (R.EVT_PEND 2) = s.reg (R.EVT_PEND 2)) ∧
      s.framed t [.regs, .evt] [R.TRN_BIAS, R.TRN_CORR, R.TRN_STAT, R.EVT_PEND 2]) ∧
  (∀ (s : State) (samples : BitVec 512), s.vigil = true → s.flag R.TRN_STAT_STARTUP_OK = true → s.trn.fifo.length < 16 →
    ∃ t, exec (.conditionedBlock samples) s = .next t ∧
      t.trn = { s.trn with fifo := s.trn.fifo ++ [BitVec.ofNat 256 (beNat (blockCipherDf (beBytes 64 samples.toNat) 32))] } ∧
      s.framed t [.trn] []) ∧
  (∀ (s : State) (e n : BitVec 256) (r : List (BitVec 256)), s.vigil = true → s.flag R.TRN_STAT_STARTUP_OK = true →
    s.flag R.TRN_STAT_DRBG_OK = false → s.trn.fifo = e :: n :: r →
    let id := leBytes 4 (s.regN R.FUS_UID_LO) ++ leBytes 4 (s.regN R.FUS_UID_HI)
    ∃ t, exec .drbgInstantiate s = .next t ∧
      t.trn = { s.trn with fifo := r, out := [], drbg := drbgInstantiate (beBytes 32 e.toNat) (beBytes 32 n.toNat) id } ∧
      t.flag R.TRN_STAT_DRBG_OK = true ∧ (s.live 7 = true → t.pends 92 = true) ∧
      s.framed t [.regs, .trn, .evt] [R.TRN_STAT, R.EVT_PEND 2]) ∧
  (∀ (s : State) (rid : Rid), s.serves rid 0 →
    (s.flag R.TRN_STAT_HALT = true → warden rid = false →
      ∃ t, exec (.entropyRetry rid) s = .next t ∧ s.framed t [.regs, .answer] [R.TRN_CTRL]) ∧
    (s.flag R.TRN_STAT_HALT = false ∨ warden rid = true →
      ∃ t, exec (.entropyRetry rid) s = .next t ∧ t.trn.starting = some s.now ∧ t.trn.fifo = [] ∧ t.trn.drbg = {} ∧
        t.trn.out = [] ∧ t.flag R.TRN_STAT_DRBG_OK = false ∧ t.flag R.TRN_STAT_STARTUP_OK = false ∧
        t.flag R.TRN_STAT_HALT = false ∧ s.framed t [.regs, .answer, .trn] [R.TRN_CTRL, R.TRN_STAT, R.TRN_BIAS, R.TRN_CORR])) ∧
  (∀ (s : State) (rid : Rid), s.serves rid 0 →
    let under := fun (t : State) => t.answer.data = 0 ∧ t.answer.err = false ∧
      t.regN C.TRN_UNDER.addr = (s.regN C.TRN_UNDER.addr + 1) % 2 ^ 32 ∧ s.framed t [.regs, .dict, .answer] C.TRN_UNDER.regs
    (∀ w r, s.flag R.TRN_STAT_DRBG_OK = true → s.trn.out = w :: r →
      ∃ t, exec (.trnRandRead rid) s = .next t ∧ t.answer.data = w ∧ t.trn = { s.trn with out := r } ∧
        s.framed t [.answer, .trn] []) ∧
    (s.flag R.TRN_STAT_DRBG_OK = false → ∃ t, exec (.trnRandRead rid) s = .next t ∧ under t) ∧
    (s.flag R.TRN_STAT_DRBG_OK = true → s.trn.out = [] → s.trn.fifo = [] →
      s.flag R.TRN_CTRL_PR = true ∨ max 1 (min 1000000 (s.fld R.TRN_RSINT_RSINT)) < s.trn.drbg.calls →
      ∃ t, exec (.trnRandRead rid) s = .next t ∧ under t)) ∧
  (∀ (s : State) (rid : Rid) (raw : BitVec 18), s.serves rid 0 → s.trn.raw = [] →
    ∃ t, exec (.trnRawRead rid raw) s = .next t ∧ t.answer.err = false ∧
      t.answer.data = (if s.flag R.TRN_CTRL_RAWTAP then BitVec.ofNat 32 (2 ^ 31 + raw.toNat) else 0) ∧
      s.framed t [.answer] [])

/-- R384, R385, R392, R393: a command of a Warden is queued and sets BUSY, one written while BUSY is refused, one of any other
requester ignored; so the buffer port, whose accesses advance BUFADDR. When an operation starts it is refused for its range, its
owner, the temperature or exhaustion, in this order, with the events of the last two, or it runs. -/
def Obligations.StoreCommands : Prop :=
  (∀ (s : State) (rid : Rid) (page : Byte) (c : Instr) (op : NvsOp), s.serves rid 0 →
    (c, op) ∈ [(Instr.nvsRead rid page, NvsOp.read page.toNat), (.nvsWrite rid page, .write page.toNat),
      (.inc rid page, if page.toNat < 32 then .inc page.toNat else .badRange),
      (.rolekey rid page, if page.toNat < 3 then .roleKey page.toNat 0 else .badRange)] →
    (warden rid = true → s.flag R.NVS_STAT_BUSY = false → (∀ r ∈ s.nvs.queue, ∀ x, r.who ≠ .firmware x) →
      (∀ r, s.nvs.current = some r → ∀ x, r.who ≠ .firmware x) →
      ∃ t, exec c s = .next t ∧ t.nvs = { s.nvs with queue := s.nvs.queue ++ [⟨.firmware rid, op⟩] } ∧
        t.flag R.NVS_STAT_BUSY = true ∧ s.framed t [.regs, .answer, .nvs] [R.NVS_CMD, R.NVS_STAT]) ∧
    (warden rid = true → s.flag R.NVS_STAT_BUSY = true →
      ∃ t, exec c s = .next t ∧ t.fld R.NVS_STAT_RESULT = 1 ∧ t.flag R.NVS_STAT_BUSY = true ∧
        t.regN C.NVS_REFUSED.addr = (s.regN C.NVS_REFUSED.addr + 1) % 2 ^ 32 ∧
        s.framed t [.regs, .dict, .answer] ([R.NVS_CMD, R.NVS_STAT] ++ C.NVS_REFUSED.regs)) ∧
    (warden rid = false → ∃ t, exec c s = .next t ∧ s.framed t [.regs, .answer] [])) ∧
  (∀ (s : State) (rid : Rid) (data : Word), s.serves rid 0 →
    let p := 4 * s.fld R.NVS_BUFADDR_ADDR
    (warden rid = true →
      (∃ t, exec (.nvsBufdataAccess rid true data) s = .next t ∧ (∀ k, k < 4 → tget 0 t.nvs.buf (p + k) = (leBytes 4 data.toNat).getD k 0) ∧
        (∀ x, x < p ∨ p + 4 ≤ x → tget 0 t.nvs.buf x = tget 0 s.nvs.buf x) ∧ t.nvs = { s.nvs with buf := t.nvs.buf } ∧
        t.fld R.NVS_BUFADDR_ADDR = (p / 4 + 1) % 256 ∧ s.framed t [.regs, .answer, .nvs] [R.NVS_BUFDATA, R.NVS_BUFADDR]) ∧
      (∃ t, exec (.nvsBufdataAccess rid false data) s = .next t ∧
        t.answer.data.toNat = leNat ((List.range 4).map (fun k => tget 0 s.nvs.buf (p + k))) ∧
        t.fld R.NVS_BUFADDR_ADDR = (p / 4 + 1) % 256 ∧ s.framed t [.regs, .answer] [R.NVS_BUFADDR])) ∧
    (warden rid = false →
      (∃ t, exec (.nvsBufdataAccess rid true data) s = .next t ∧ s.framed t [.regs, .answer] [R.NVS_BUFDATA]) ∧
      (∃ t, exec (.nvsBufdataAccess rid false data) s = .next t ∧ t.answer.data = 0 ∧ s.framed t [.answer] []))) ∧
  (∀ (s : State) (rid : Rid) (op : NvsOp) (q : List NvsReq), s.vigil = true → s.nvs.current = none → s.nvs.rotation = none →
    s.nvs.rotations = [] → s.nvs.queue = ⟨.firmware rid, op⟩ :: q → s.nvs.held = [] →
    (op = .badRange ∨ (∃ p, op = .read p ∨ op = .write p ∨ op = .inc p) ∨ ∃ r k, op = .roleKey r k) →
    let j := s.storeResult rid op
    let stage := BitVec.ofNat 256 ((List.range 8).foldl (fun n i => n * 2 ^ 32 + s.regN (R.NVS_RKSTG i)) 0)
    (j = 0 → ∃ t, exec .nvsOperationStart s = .next t ∧
      t.nvs.current = some ⟨.firmware rid, match op with
        | .roleKey role _ => .roleKey role stage
        | x => x⟩ ∧ t.nvs.queue = q ∧ t.nvs.data = s.nvs.data ∧ s.framed t [.nvs] []) ∧
    (j ≠ 0 → ∃ t, exec .nvsOperationStart s = .next t ∧ t.fld R.NVS_STAT_RESULT = j ∧ t.flag R.NVS_STAT_BUSY = false ∧
      t.regN C.NVS_REFUSED.addr = (s.regN C.NVS_REFUSED.addr + 1) % 2 ^ 32 ∧
      (s.live 7 = true → (j = 2 → t.pends 105 = true) ∧ (j = 3 → ∀ c, op = .inc c → t.pends 108 = true) ∧
        (j = 3 → ∀ p, op = .write p → t.pends 112 = true)) ∧
      (∀ role k, op = .roleKey role k → ∀ i, i < 8 → t.regN (R.NVS_RKSTG i) = 0) ∧
      t.nvs = { s.nvs with queue := q, mcExh := t.nvs.mcExh } ∧
      (j = 3 → ∀ c, op = .inc c → nbit t.nvs.mcExh c = true) ∧
      s.framed t [.regs, .dict, .nvs, .evt]
        ([R.NVS_STAT, R.EVT_PEND 3] ++ C.NVS_REFUSED.regs ++ (List.range 8).map R.NVS_RKSTG)))

/-- R382, R387 to R389, R391, R394 to R396: a read fills the buffer, or empties it for a failing page; a write counts and raises
E104, and wears the page out at 100,000; INC adds one; an install writes the older slot; a rotation ends with a fresh page. A
shadow of the fuses that differs is reloaded and reported; a good FUS_PGM programs bits that were 0, any other sets PGM_ERR. -/
def Obligations.StoreAndFuses : Prop :=
  (∀ (s : State) (rid : Rid) (op : NvsOp), s.vigil = true → s.nvs.current = some ⟨.firmware rid, op⟩ → s.nvs.held = [] →
    s.nvs.rotation = none → s.nvs.rotations = [] →
    let ends := fun (t : State) (res : Nat) => t.fld R.NVS_STAT_RESULT = res ∧ t.flag R.NVS_STAT_BUSY = false ∧
      t.nvs.current = none ∧ t.nvs.queue = s.nvs.queue
    (∀ p, op = .read p → p ∉ s.nvs.bad →
      ∃ t, exec .nvsOperationComplete s = .next t ∧ ends t 0 ∧ (∀ k, k < 1024 → tget 0 t.nvs.buf k = tget 0 s.nvs.data (1024 * p + k)) ∧
        t.nvs.data = s.nvs.data ∧ s.framed t [.regs, .nvs] [R.NVS_STAT]) ∧
    (∀ p, op = .read p → p ∈ s.nvs.bad →
      ∃ t, exec .nvsOperationComplete s = .next t ∧ ends t 6 ∧ t.nvs.buf = [] ∧ t.nvs.data = s.nvs.data ∧
        t.regN C.NVS_INTERR.addr = (s.regN C.NVS_INTERR.addr + 1) % 2 ^ 32 ∧ (s.live 7 = true → t.pends 109 = true) ∧
        t.tmp = { s.tmp with reports := s.tmp.reports ++ [⟨16, 0, 0, 0⟩] } ∧
        s.framed t [.regs, .dict, .tmp, .nvs, .evt] ([R.NVS_STAT, R.EVT_PEND 3] ++ C.NVS_INTERR.regs)) ∧
    (∀ p bs, op = .write p → s.nvs.images = [(p, bs)] →
      let n := tget 0 s.nvs.counts p + 1
      ∃ t, exec .nvsOperationComplete s = .next t ∧ ends t 0 ∧
        (∀ k, k < 1024 → tget 0 t.nvs.data (1024 * p + k) = bs.getD k 0) ∧
        (∀ x, x < 1024 * p ∨ 1024 * p + 1024 ≤ x → tget 0 t.nvs.data x = tget 0 s.nvs.data x) ∧
        tget 0 t.nvs.counts p = n ∧ t.regN C.NVS_WRITES.addr = (s.regN C.NVS_WRITES.addr + 1) % 2 ^ 32 ∧
        (s.live 7 = true → t.pends 104 = true) ∧ t.nvs.mc = s.nvs.mc ∧ t.nvs.keys = s.nvs.keys ∧
        (n < 100000 → t.nvs.rotation = none ∧ t.nvs.readOnly = s.nvs.readOnly) ∧
        (100000 ≤ n → 0 < s.nvs.spares → t.nvs.rotation = some p ∧ t.nvs.rotAt = s.now ∧ t.flag R.NVS_STAT_ROT = true) ∧
        (100000 ≤ n → s.nvs.spares = 0 → t.nvs.readOnly = s.nvs.readOnly ++ [p] ∧ (s.live 7 = true → t.pends 112 = true)) ∧
        s.framed t [.regs, .dict, .nvs, .evt] ([R.NVS_STAT, R.EVT_PEND 3] ++ C.NVS_WRITES.regs)) ∧
    (∀ c, op = .inc c →
      ∃ t, exec .nvsOperationComplete s = .next t ∧ ends t 0 ∧ tget 0 t.nvs.mc c = tget 0 s.nvs.mc c + 1 ∧
        (∀ k, k ≠ c → tget 0 t.nvs.mc k = tget 0 s.nvs.mc k) ∧ t.nvs.data = s.nvs.data ∧ (s.live 7 = true → t.pends 104 = true) ∧
        s.framed t [.regs, .nvs, .evt] [R.NVS_STAT, R.EVT_PEND 3]) ∧
    (∀ role key, op = .roleKey role key → role < s.nvs.keys.length →
      ∃ t, exec .nvsOperationComplete s = .next t ∧ ends t 0 ∧ t.nvs.keys = s.nvs.keys.set role (some key) ∧ t.nvs.lost = false ∧
        (if s.olderSlotB then t.nvs.slotB.keys = t.nvs.keys ∧ t.nvs.slotB.good = true ∧ t.nvs.slotA = s.nvs.slotA
          else t.nvs.slotA.keys = t.nvs.keys ∧ t.nvs.slotA.good = true ∧ t.nvs.slotB = s.nvs.slotB) ∧
        (∀ i, i < 8 → t.regN (R.NVS_RKSTG i) = 0) ∧ (s.live 7 = true → t.pends 104 = true) ∧
        s.framed t [.regs, .dict, .nvs, .evt]
          ([R.NVS_STAT, R.EVT_PEND 3] ++ C.NVS_WRITES.regs ++ (List.range 8).map R.NVS_RKSTG))) ∧
  (∀ (s : State) (p : Nat), s.vigil = true → s.nvs.rotation = some p → s.nvs.rotations = [] →
    let u := s.advanceTo (s.nvs.rotAt + 4000000)
    ∃ t, exec .wearRotationDone s = .next t ∧ t.nvs.rotation = none ∧ t.nvs.spares = s.nvs.spares - 1 ∧
      tget 0 t.nvs.counts p = 1 ∧ t.nvs.data = s.nvs.data ∧ t.flag R.NVS_STAT_ROT = false ∧
      (u.live 7 = true → t.pends 106 = true ∧ (s.nvs.spares ≤ 5 → t.pends 107 = true)) ∧
      u.framed t [.regs, .nvs, .evt] [R.NVS_STAT, R.EVT_PEND 3]) ∧
  (∀ (s : State), s.vigil = true →
    let wrong := fun i => i ∈ fuseIndices ∧ i ∉ s.fus.fresh ∧ s.reg (R.FUS_ID + 4 * i) ≠ s.fuseWord i
    ((∀ i, ¬ wrong i) → ∃ t, exec .fuseCompare s = .next t ∧ s.framed t [] []) ∧
    ((∃ i, wrong i) → ∃ t, exec .fuseCompare s = .next t ∧
      (∀ i ∈ fuseIndices, i ∉ s.fus.fresh → t.reg (R.FUS_ID + 4 * i) = s.fuseWord i) ∧
      (∀ i ∈ s.fus.fresh, i ∈ fuseIndices → t.reg (R.FUS_ID + 4 * i) = s.reg (R.FUS_ID + 4 * i)) ∧ t.flag R.FUS_STAT_MISMATCH = true ∧
      (s.live 7 = true → t.pends 118 = true) ∧ t.tmp = { s.tmp with reports := s.tmp.reports ++ [⟨13, 0, 0, 0⟩] } ∧
      s.framed t [.regs, .tmp, .evt] ([R.FUS_STAT, R.EVT_PEND 3] ++ fuseIndices.map (fun i => R.FUS_ID + 4 * i)))) ∧
  (∀ (s : State) (rid : Rid) (data : Word), s.serves rid 0 →
    let w := nbits data.toNat 7 0
    let good := nbits data.toNat 31 24 = 0xA5 ∧ (w = 4 ∨ (8 ≤ w ∧ w < 24)) ∧ wardenCore rid = true ∧ s.band = some 1 ∧
      s.flag R.FUS_STAT_PGM_BUSY = false
    (good → ∃ t, exec (.fuseProgram rid data) s = .next t ∧
      t.fus = { s.fus with program := some (w, s.reg R.FUS_PGMDATA &&& ~~~(s.fuseWord w), s.now) } ∧
      t.flag R.FUS_STAT_PGM_BUSY = true ∧ s.framed t [.regs, .answer, .fus] [R.FUS_PGM, R.FUS_STAT]) ∧
    (¬ good → ∃ t, exec (.fuseProgram rid data) s = .next t ∧ t.flag R.FUS_STAT_PGM_ERR = true ∧
      s.framed t [.regs, .answer] [R.FUS_PGM, R.FUS_STAT])) ∧
  (∀ (s : State) (w : Nat) (bits : Word) (x : Nat), s.vigil = true → s.fus.program = some (w, bits, x) →
    let d := ((List.range 32).filter (fun i => bits.getLsbD i)).length
    ∃ t, exec .fuseProgramDone s = .next t ∧ (s.advanceTo (x + 10000 * d)).framed t [.regs, .fus] [R.FUS_STAT] ∧
      t.fuseWord w = s.fuseWord w ||| bits ∧ (∀ k, k ≠ w → t.fuseWord k = s.fuseWord k) ∧ t.fus.program = none ∧
      t.flag R.FUS_STAT_PGM_BUSY = false)

/-! ### Tamper supervision -/

/-- R397, R398, R400 to R402: every hit counts, and on an enabled source the filter trips when its last N hits lie within W, else the
hit is held. A trip applies its class: a log entry with E110, the reset of a unit, or a system reset of cause TAMPER, for class 3
with the key pages zeroed, the sessions closed and the memories due to be zeroed. -/
def Obligations.TamperHits : Prop :=
  ∀ (s : State) (k : Fin 20), s.vigil = true →
    ((4 < k.val ∧ k.val ≠ 9 ∧ ∀ r ∈ s.tmp.reports, r.source ≠ k.val) → ∃ t, exec (.tamperHit k) s = .next t ∧ s.framed t [] []) ∧
    (∀ v d d2 x, s.hitBy v k.val d d2 x →
      let hit := fun (t : State) => t.regN (C.TMP_HIT k.val).addr = (s.regN (C.TMP_HIT k.val).addr + 1) % 2 ^ 32
      let hits := fun (t : State) => hit t ∧ (1 ≤ k.val → k.val ≤ 4 → s.live 7 = true → t.pends 116 = true)
      let cls := classApplied k.val (s.fld (R.TMP_SRC_RESP_CLASS k.val)) d
      let counted := fun (t : State) (c : Nat) => t.regN C.TMP_TRIPS.addr = (s.regN C.TMP_TRIPS.addr + 1) % 2 ^ 32 ∧
        t.regN R.TMP_LAST = k.val * 2 ^ 24 + c * 2 ^ 20 + s.tmp.seq ∧ t.tmpHits k.val = [] ∧
        t.tmp.seq = (s.tmp.seq + 1) % 65536 ∧ (k = 19 → c = 0 → s.live 7 = true → t.pends 117 = true)
      (s.flag (R.TMP_SRC_RESP_EN k.val) = false →
        ∃ t, exec (.tamperHit k) s = .next t ∧ t.tmp = v.tmp ∧ hits t ∧
          v.framed t [.regs, .dict, .evt] (R.EVT_PEND 3 :: (C.TMP_HIT k.val).regs)) ∧
      (s.flag (R.TMP_SRC_RESP_EN k.val) = true → ¬ v.trips k.val →
        ∃ t, exec (.tamperHit k) s = .next t ∧ t.tmp = { v.tmp with hits := t.tmp.hits } ∧ t.tmpHits k.val = v.hitsNow k.val ∧
          (∀ j, j ≠ k.val → t.tmpHits j = s.tmpHits j) ∧ hits t ∧
          v.framed t [.regs, .dict, .tmp, .evt] (R.EVT_PEND 3 :: (C.TMP_HIT k.val).regs)) ∧
      (s.flag (R.TMP_SRC_RESP_EN k.val) = true → v.trips k.val → s.tmp.seq < 65536 → s.tmp.log.length < 120 → s.inHold = false →
        (cls = 0 → ∃ t, exec (.tamperHit k) s = .next t ∧ hits t ∧ counted t 0 ∧
          t.tmp.log = s.tmp.log ++ [s.logEntry k.val 0 d d2 false false false] ∧ (s.live 7 = true → t.pends 110 = true) ∧
          v.framed t [.regs, .dict, .tmp, .evt] (tripRegs k.val)) ∧
        (cls = 1 → k.val = 17 → ∃ t, exec (.tamperHit k) s = .next t ∧ hits t ∧ counted t 1 ∧
          t.tmp.log = s.tmp.log ++ [s.logEntry 17 1 d d2 false false false] ∧
          t.nq.sessions = s.nq.sessions.filter (fun y => y.port ≠ d) ∧ (s.live 7 = true → t.pends 110 = true) ∧
          v.framed t [.regs, .dict, .tmp, .nvs, .evt, .nq] (tripRegs 17)) ∧
        (cls = 1 → k.val = 18 → ∃ t, exec (.tamperHit k) s = .next t ∧ hits t ∧ counted t 1 ∧
          t.trc = { s.trc with level := 0, nonce := none, attempt := none } ∧
          v.framed t [.regs, .dict, .tmp, .nvs, .evt, .trc] (tripRegs 18)) ∧
        (cls = 1 → k.val = 14 → let n := 4 * nbits d 7 5 + nbits d 4 3
          ∃ t, exec (.tamperHit k) s = .next t ∧ hits t ∧ counted t 1 ∧ ((s.thr n).run < 3 → (t.thr n).run = 0) ∧
            (t.thr n).pc = (s.thr n).pc ∧ s.onlyThread t n ∧
            v.framed t [.regs, .dict, .tmp, .nvs, .evt, .trc, .threads] (C.TRC_LOST.regs ++ tripRegs 14)) ∧
        (cls = 1 → k.val = 1 ∨ k.val = 3 → ∃ t, exec (.tamperHit k) s = .next t ∧ hits t ∧ counted t 1 ∧
          t.tmp.log = s.tmp.log ++ [s.logEntry k.val 1 d d2 false false true] ∧ (∀ n, n < 8 → t.thr n = {}) ∧
          (∀ c, c < 2 → t.core c = {}) ∧ v.framed t [.regs, .dict, .tmp, .nvs, .evt, .threads, .cores] (tripRegs k.val)) ∧
        (cls = 1 → k.val = 10 ∨ k.val = 11 → ∀ b, blockAt x = some b → b.code ≠ 4 → b.code ≠ 7 →
          ∃ t, exec (.tamperHit k) s = .next t ∧ hits t ∧ counted t 1 ∧ (s.live 7 = true → t.pends 110 = true) ∧
            (∀ a, a < b.base ∨ b.base + b.size ≤ a → a ∉ tripRegs k.val → t.reg a = s.reg a) ∧
            t.threads = s.threads ∧ t.sram = s.sram ∧ t.rst = s.rst ∧ t.pwr = s.pwr) ∧
        (2 ≤ cls → ∃ t, exec (.tamperHit k) s = .next t ∧ hit t ∧ counted t cls ∧ t.inHold = true ∧ t.regN R.RST_LAST = 7 ∧
          nbit (t.regN R.RST_CAUSE) 7 = true ∧ t.rst.rstOutHigh = false ∧ (∀ n, 0 < n → n < 24 → t.up n = false) ∧
          t.tmp.log = s.tmp.log ++ [s.logEntry k.val cls d d2 false (cls == 3) true] ∧
          (cls = 3 → t.nq.sessions = [] ∧ t.cip.pages = [] ∧ t.flag R.TMP_STAT_WIPED = true ∧
            t.rst.sys.any (fun r => r.zeroing) = true) ∧ (cls = 2 → t.nq.sessions = s.nq.sessions) ∧
          t.nvs.data = s.nvs.data ∧ t.nvs.keys = s.nvs.keys ∧ t.fus = s.fus)))

/-- R400, R404, R406, R407: zeroing ends with SRAM, the PKA window and the DRBG empty; an accepted change of a loop shows and raises
E115, OPEN and SHORT report a hit, and a return of an enabled loop to NORMAL is logged; a persistent write is asked for 60 s after
the first unwritten entry; a Warden clears the log through the shadow pair. -/
def Obligations.TamperLog : Prop :=
  (∀ (s : State) (r : SysReset), s.inHold = true → s.rst.sys = some r → r.zeroing = true →
    ∃ t, exec .sramZeroingDone s = .next t ∧ t.sram = [] ∧ t.trn.drbg = {} ∧ t.trn.fifo = [] ∧ t.trn.out = [] ∧
      t.trn.starting = some s.now ∧ t.flag R.TRN_STAT_DRBG_OK = false ∧
      (∀ a, R.PKA_E 0 ≤ a → a < R.PKA_DIGEST 16 → t.reg a = resetWord a) ∧ t.rst = { s.rst with sys := some { r with zeroing := false } } ∧
      Same [.regs, .snaps, .dict, .staged, .pairs, .sram, .rst, .trn] s t) ∧
  (∀ (s : State) (n : Fin 4) (st : Fin 3), s.vigil = true →
    let cur := nbits (s.regN R.TMP_LOOPSTAT) (2 * n.val + 1) (2 * n.val)
    let shows := fun (t : State) => nbits (t.regN R.TMP_LOOPSTAT) (2 * n.val + 1) (2 * n.val) = st.val ∧
      (∀ m, m < 4 → m ≠ n.val → nbits (t.regN R.TMP_LOOPSTAT) (2 * m + 1) (2 * m) = nbits (s.regN R.TMP_LOOPSTAT) (2 * m + 1) (2 * m)) ∧
      (s.live 7 = true → t.pends 115 = true)
    let en := s.flag (R.TMP_SRC_RESP_EN (5 + n.val))
    (cur = st.val → ∃ t, exec (.loopStateChange n st) s = .next t ∧ s.framed t [] []) ∧
    (cur ≠ st.val → st.val ≠ 0 → ∃ t, exec (.loopStateChange n st) s = .next t ∧ shows t ∧
      t.tmp = { s.tmp with reports := s.tmp.reports ++ [⟨5 + n.val, st.val, 0, 0⟩] } ∧
      s.framed t [.regs, .tmp, .evt] [R.TMP_LOOPSTAT, R.EVT_PEND 3]) ∧
    (cur ≠ st.val → st.val = 0 → en = false → ∃ t, exec (.loopStateChange n st) s = .next t ∧ shows t ∧
      s.framed t [.regs, .evt] [R.TMP_LOOPSTAT, R.EVT_PEND 3]) ∧
    (cur ≠ st.val → st.val = 0 → en = true → ∃ t, exec (.loopStateChange n st) s = .next t ∧ shows t ∧
      (s.live 7 = true → t.pends 110 = true) ∧
      t.tmp.log.getLast? = some (s.logEntry (5 + n.val) 0 0 0 true false false) ∧
      (s.tmp.log.length < 120 → t.tmp.log.dropLast = s.tmp.log) ∧
      (s.tmp.log.length = 120 → t.tmp.log.length = 120 ∧ t.regN C.TMP_LOGLOST.addr = (s.regN C.TMP_LOGLOST.addr + 1) % 2 ^ 32 ∧
        ((∀ e ∈ s.tmp.log, nbits e.w2.toNat 21 20 ≠ 0) → t.tmp.log.dropLast = s.tmp.log.drop 1)) ∧
      (s.tmp.log.length = 89 → s.live 7 = true → t.pends 111 = true) ∧
      s.framed t [.regs, .dict, .tmp, .evt] ([R.TMP_LOOPSTAT, R.EVT_PEND 3] ++ C.TMP_LOGLOST.regs))) ∧
  (∀ (s : State) (x : Nat), s.vigil = true → s.tmp.unwritten = some x → s.flag R.TMP_STAT_PERSIST_DEFER = false →
    (∀ r ∈ s.nvs.queue ++ s.nvs.held, r.who ≠ .tamper) → (∀ r, s.nvs.current = some r → r.who ≠ .tamper) →
    let u := s.advanceTo (x + 60000000000)
    ∃ t, exec .logPersistRequest s = .next t ∧ t.tmp = { u.tmp with unwritten := none } ∧
      t.nvs = { u.nvs with queue := u.nvs.queue ++ [⟨.tamper, .tamperLog⟩] } ∧ u.framed t [.tmp, .nvs] []) ∧
  (∀ (s : State) (rid : Rid), s.serves rid 0 →
    (wardenCore rid = false → master rid ≠ 7 → ∃ t, exec (.clearLog rid) s = .next t ∧ s.framed t [.answer] []) ∧
    (wardenCore rid = true ∨ master rid = 7 → s.flag R.TMP_LOCK_LOCK = false →
      s.flag R.TMP_STAT_PERSIST_DEFER = false → s.nvs.queue = [] → s.nvs.held = [] → s.nvs.current = none →
      ∃ t, exec (.clearLog rid) s = .next t ∧ t.tmp.log = [] ∧ t.tmp.seq = s.tmp.seq ∧ t.tmp.hits = s.tmp.hits ∧
        t.flag R.TMP_LOGCLR_CLEAR = false ∧ t.nvs = { s.nvs with queue := [⟨.tamper, .tamperLog⟩] } ∧
        s.framed t [.regs, .answer, .tmp, .nvs] [R.TMP_LOGCLR]))

/-! ### Housekeeping -/

/-- R411, R412, R414 to R421: a round starts when it is due; EN and the period are written with their bounds; each conversion writes its
channel's word, flagged outside the span and inside a recovery window, and counts; a foreground conversion goes to HK_FGRES; a
calibration step takes a free slot, is deferred, or is forced after 16 deferrals. -/
def Obligations.HousekeepingRounds : Prop :=
  (∀ (s : State), s.live 21 = true → s.flag R.HK_CTRL_EN = true → s.hk.inRound = false →
    let due := match s.hk.startAt, s.hk.roundAt with
      | some x, _ => x
      | none, some x => x + s.fld R.HK_PERIOD_US * 1000
      | none, none => s.now
    let u := s.advanceTo due
    ∃ t, exec .roundStart s = .next t ∧
      t.hk = { u.hk with inRound := true, nextCh := 0, rangeThisRound := false, startAt := none, roundAt := some u.now } ∧
      u.framed t [.hk] []) ∧
  (∀ (s : State) (rid : Rid) (data : Word), s.serves rid 21 →
    (data.toNat % 2 = 0 → ∃ t, exec (.hkEnable rid data) s = .next t ∧ t.flag R.HK_CTRL_EN = false ∧
      t.hk = { s.hk with startAt := none, again := false } ∧ t.flag R.HK_STAT_SCAP_CHG = false ∧
      s.framed t [.regs, .answer, .hk] [R.HK_CTRL, R.HK_STAT]) ∧
    (data.toNat % 2 = 1 → ∃ t, exec (.hkEnable rid data) s = .next t ∧ t.flag R.HK_CTRL_EN = true ∧
      t.flag R.HK_CTRL_CRIT_ACT = nbit data.toNat 1 ∧ t.flag R.HK_CTRL_SCAP_SRC = nbit data.toNat 2 ∧
      (s.flag R.HK_CTRL_EN = true → t.hk = s.hk) ∧
      (s.flag R.HK_CTRL_EN = false → s.hk.inRound = true → t.hk = { s.hk with again := true }) ∧
      (s.flag R.HK_CTRL_EN = false → s.hk.inRound = false → t.hk = { s.hk with startAt := some s.now }) ∧
      s.framed t [.regs, .answer, .hk] [R.HK_CTRL]) ∧
    (∃ t, exec (.hkPeriodWrite rid data) s = .next t ∧ t.fld R.HK_PERIOD_US = min 50000 (max 100 (data.toNat % 2 ^ 16)) ∧
      s.framed t [.regs, .answer] [R.HK_PERIOD]) ∧
    (s.flag R.HK_FG_BUSY = false → ∃ t, exec (.foregroundGo rid data) s = .next t ∧
      t.hk = { s.hk with fgAt := some s.now, fgCh := data.toNat % 32 } ∧ t.flag R.HK_FG_BUSY = true ∧
      t.flag R.HK_FG_REJ = s.flag R.HK_FG_REJ ∧ s.framed t [.regs, .answer, .hk] [R.HK_FG]) ∧
    (s.flag R.HK_FG_BUSY = true → ∃ t, exec (.foregroundGo rid data) s = .next t ∧ t.hk = s.hk ∧
      t.flag R.HK_FG_BUSY = true ∧ t.flag R.HK_FG_REJ = true ∧ s.framed t [.regs, .answer] [R.HK_FG])) ∧
  (∀ (s : State) (code : BitVec 12) (rng : Fin 5), s.live 21 = true →
    let u := s.slotEnd
    let bad := fun (ch : Nat) => 6 ≤ ch ∧ rng.val ≠ 0
    let counts := fun (t : State) (ch : Nat) =>
      t.regN C.HK_SUSPCNT.addr = (u.regN C.HK_SUSPCNT.addr + b2n (decide (s.convStart < s.hk.susUntil))) % 2 ^ 32 ∧
      (bad ch → t.regN C.HK_RANGECNT.addr = (u.regN C.HK_RANGECNT.addr + 1) % 2 ^ 32 ∧
        t.hk.susUntil = max s.hk.susUntil (s.convStart + (if rng.val % 2 = 1 then 1500 else 2500)) ∧
        (s.hk.rangeThisRound = false → u.live 7 = true → t.pends 137 = true)) ∧
      (¬ bad ch → t.hk.susUntil = s.hk.susUntil)
    (s.fgNext = true → ∃ t, exec (.conversionComplete code rng) s = .next t ∧
      s.converted (t.regN R.HK_FGRES) s.hk.fgCh code.toNat rng.val s.convStart ∧ counts t s.hk.fgCh ∧ t.hk.fgAt = none ∧
      t.hk.nextCh = s.hk.nextCh ∧ t.hk.slotAt = s.convStart + 500 ∧ t.flag R.HK_FG_BUSY = false ∧
      t.regN C.HK_FGCNT.addr = (u.regN C.HK_FGCNT.addr + 1) % 2 ^ 32 ∧ (u.live 7 = true → t.pends 143 = true) ∧
      u.framed t [.free, .regs, .dict, .hk, .evt]
        ([R.HK_FGRES, R.HK_FG, R.EVT_PEND 4] ++ C.HK_SUSPCNT.regs ++ C.HK_RANGECNT.regs ++ C.HK_FGCNT.regs)) ∧
    (s.fgNext = false → s.hk.inRound = true → s.hk.nextCh < 31 → s.hk.nextCh ≠ 18 →
      let ch := s.hk.nextCh
      ∃ t, exec (.conversionComplete code rng) s = .next t ∧
        s.converted (t.regN (R.HK_CH ch)) ch code.toNat rng.val s.convStart ∧ counts t ch ∧ t.hk.nextCh = ch + 1 ∧
        t.hk.inRound = true ∧ t.hk.slotAt = s.convStart + 500 ∧
        u.framed t [.free, .regs, .dict, .hk, .evt]
          ([R.HK_CH ch, R.HK_SUPSTAT, R.HK_AINSTAT, R.EVT_PEND 4] ++ C.HK_SUSPCNT.regs ++ C.HK_RANGECNT.regs)) ∧
    (s.fgNext = false → s.hk.inRound = true → s.hk.nextCh = 31 →
      ∃ t, exec (.conversionComplete code rng) s = .next t ∧
        s.converted (t.regN (R.HK_CH 31)) 31 code.toNat rng.val s.convStart ∧ t.hk.inRound = false ∧ t.hk.nextCh = 0 ∧
        t.regN C.HK_ROUNDS.addr = (u.regN C.HK_ROUNDS.addr + 1) % 2 ^ 32 ∧ (u.live 7 = true → t.pends 136 = true) ∧
        t.sram = s.sram ∧ t.threads = s.threads ∧ t.tmp = s.tmp ∧ t.fus = s.fus)) ∧
  (∀ (s : State) (k : Nat), s.live 21 = true → s.hk.calStep = some k → k < 8 →
    let taken := fun (t : State) (start : Nat) => t.hk.slotAt = start + 500 ∧
      (start < s.hk.susUntil → t.hk.calStep = some k ∧ t.reg R.HK_CAL = s.reg R.HK_CAL) ∧
      (s.hk.susUntil ≤ start → k < 7 → t.hk.calStep = some (k + 1) ∧ t.reg R.HK_CAL = s.reg R.HK_CAL) ∧
      (s.hk.susUntil ≤ start → k = 7 → t.hk.calStep = none ∧ t.flag R.HK_STAT_CAL_BUSY = false)
    (s.hk.inRound = false → s.hk.fgAt = none →
      let start := max s.hk.slotAt s.now
      ∃ t, exec .calibrationStep s = .next t ∧ taken t start ∧
        (s.advanceTo (start + 500)).framed t [.free, .regs, .hk] [R.HK_CAL, R.HK_STAT]) ∧
    (s.hk.inRound = true ∨ s.hk.fgAt ≠ none → s.hk.calDefer < 16 → s.hk.calSeen ≠ some s.convStart →
      ∃ t, exec .calibrationStep s = .next t ∧ t.hk = { s.hk with calDefer := s.hk.calDefer + 1, calSeen := some s.convStart } ∧
        t.regN C.HK_CALDEFER.addr = (s.regN C.HK_CALDEFER.addr + 1) % 2 ^ 32 ∧
        s.framed t [.regs, .dict, .hk] C.HK_CALDEFER.regs) ∧
    (s.hk.inRound = true ∨ s.hk.fgAt ≠ none → 16 ≤ s.hk.calDefer →
      ∃ t, exec .calibrationStep s = .next t ∧ taken t s.convStart ∧ (s.live 7 = true → t.pends 142 = true) ∧
        t.regN C.HK_CALFORCED.addr = (s.regN C.HK_CALFORCED.addr + 1) % 2 ^ 32))

/-- R422 to R424, R427 to R430, at the end of the last conversion of a round or at a sample: the first round sets the band at once;
a warmer band needs four rounds; four rounds above HK_TCRIT set CRIT; a rate above its limit, two samples outside a supply
window, and a sample beyond an input threshold each set their bit with their event. -/
def Obligations.ThermalPolicy : Prop :=
  (∀ (s : State) (code : BitVec 12) (rng : Fin 5) (n : Nat) (tj : Int), s.live 21 = true → s.fgNext = false → s.hk.inRound = true →
    s.hk.nextCh = 31 → s.slotEnd.live 7 = true → hottest s.slotEnd.dieSamples = some (n, tj) →
    let u := s.slotEnd
    let b := bandOf tj
    let moved := fun (t : State) => t.hk.vigilBand = some b ∧ t.fld R.HK_STAT_BAND = b ∧ t.flag R.HK_STAT_BAND_VALID = true ∧
      t.pends 139 = true ∧ (b = 3 → t.pends 141 = true) ∧ (u.live 20 = true → t.dmc.band = some b)
    let hot := (s.fld R.HK_TCRIT_TCRIT : Int) * 256 < tj
    ∃ t, exec (.conversionComplete code rng) s = .next t ∧ t.regN R.HK_JUNC = n * 2 ^ 16 + unsgn 16 tj ∧
      (s.hk.judged = false → s.hk.vigilBand ≠ some b → moved t) ∧
      (s.hk.judged = true → u.fld R.HK_STAT_BAND < b → s.hk.bandDir = b → 3 ≤ s.hk.bandRun → moved t) ∧
      (s.hk.judged = true → b < u.fld R.HK_STAT_BAND → s.hk.bandDir = b → 63 ≤ s.hk.bandRun → moved t) ∧
      (s.hk.judged = true → b = u.fld R.HK_STAT_BAND ∨ (s.hk.bandRun = 0 ∧ b ≠ u.fld R.HK_STAT_BAND) →
        t.hk.vigilBand = s.hk.vigilBand ∧ t.fld R.HK_STAT_BAND = u.fld R.HK_STAT_BAND) ∧
      (hot → 3 ≤ s.hk.critRun → s.hk.crit = false →
        t.hk.crit = true ∧ t.hk.forbid = s.flag R.HK_CTRL_CRIT_ACT ∧ t.pends 141 = true) ∧
      (tj ≤ (s.fld R.HK_TCRIT_TCRIT : Int) * 256 - 2560 → 63 ≤ s.hk.coolRun → t.hk.crit = false ∧ t.hk.forbid = false) ∧
      (¬ hot → s.hk.crit = false → t.hk.crit = false)) ∧
  (∀ (s : State), s.live 21 = true →
    let u := s.advanceTo (s.hk.rorAt + 100000000)
    let judged := fun (n : Nat) => let cur := tget ((0 : Int), 0) s.hk.rorSum n
      0 < cur.2 ∧ s.hk.rorRounds ≤ 2 * cur.2
    let steep := fun (n : Nat) =>
      let cur := tget ((0 : Int), 0) s.hk.rorSum n
      let prev := tget ((0 : Int), 0) s.hk.rorPrev n
      0 < prev.2 ∧ (s.fld (R.HK_ROR_LIMIT n) : Int) * 256 * cur.2 * prev.2 < (cur.1 * prev.2 - prev.1 * cur.2) * 100
    ∃ t, exec .rateOfRise s = .next t ∧ t.hk.rorSum = [] ∧ t.hk.rorRounds = 0 ∧
      (∀ n, n < 8 → judged n → steep n → s.flag (R.HK_ROR_EN n) = true →
        nbit (t.regN R.HK_RORSTAT) n = true ∧ (nbit (s.regN R.HK_RORSTAT) n = false → u.live 7 = true → t.pends 140 = true)) ∧
      (∀ n, n < 8 → ¬ judged n ∨ ¬ steep n ∨ s.flag (R.HK_ROR_EN n) = false →
        nbit (t.regN R.HK_RORSTAT) n = nbit (s.regN R.HK_RORSTAT) n) ∧
      u.framed t [.regs, .hk, .evt] [R.HK_RORSTAT, R.EVT_PEND 4]) ∧
  (∀ (s : State) (code : BitVec 12), s.live 21 = true → s.fgNext = false → s.hk.inRound = true →
    s.hk.susUntil ≤ s.convStart →
    let ch := s.hk.nextCh
    let u := s.slotEnd
    (∀ n, ch = 6 + n → n < 12 →
      let out := decide (code.toNat < s.fld (R.HK_SUP_LO_CODE n) ∨ s.fld (R.HK_SUP_HI_CODE n) < code.toNat)
      ∃ t, exec (.conversionComplete code 0) s = .next t ∧
        (1 ≤ tget 0 s.hk.supRun (if out then 2 * n else 2 * n + 1) → nbit (t.regN R.HK_SUPSTAT) n = out ∧
          (out = true → nbit (s.regN R.HK_SUPSTAT) n = false → u.live 7 = true → t.pends 138 = true)) ∧
        (tget 0 s.hk.supRun (if out then 2 * n else 2 * n + 1) = 0 → t.reg R.HK_SUPSTAT = s.reg R.HK_SUPSTAT) ∧
        (∀ m, m < 12 → m ≠ n → nbit (t.regN R.HK_SUPSTAT) m = nbit (s.regN R.HK_SUPSTAT) m)) ∧
    (∀ n, ch = 20 + n → n < 4 →
      let thr := s.fld (R.HK_AIN_THR_THR n)
      let up := s.flag (R.HK_AIN_THR_DIR n)
      let beyond := if up then thr ≤ code.toNat else code.toNat ≤ thr
      let back := if up then code.toNat + 16 ≤ thr else thr + 16 ≤ code.toNat
      ∃ t, exec (.conversionComplete code 0) s = .next t ∧
        (beyond → s.flag (R.HK_AIN_THR_EN n) = true → nbit (t.regN R.HK_AINSTAT) n = true ∧
          (nbit (s.regN R.HK_AINSTAT) n = false → u.live 7 = true → t.pends 145 = true)) ∧
        (back → nbit (t.regN R.HK_AINSTAT) n = false) ∧
        (¬ beyond → ¬ back → nbit (t.regN R.HK_AINSTAT) n = nbit (s.regN R.HK_AINSTAT) n)))

/-! ### DRAM -/

/-- R434 to R454: INIT starts training of a valid geometry and fills the record; the non-real-time port serves reads and writes
with their ECC and refuses writes to the delay region; the real-time port stores and fetches bursts of samples, blank when the
controller is off, untrained or frozen; panic, refresh, ZQ calibration and Rake keep their rules; the unfreeze sequence resumes. -/
def Obligations.DramCommands : Prop :=
  (∀ (s : State) (rid : Rid), s.serves rid 20 →
    let good := s.flag R.DMC_CTRL_RESTORE && s.recordGood
    (s.flag R.DMC_STAT_READY = true ∨ s.flag R.DMC_STAT_TRAINING = true →
      ∃ t, exec (.dramInit rid) s = .next t ∧ s.framed t [.regs, .answer] [R.DMC_CTRL]) ∧
    (s.flag R.DMC_STAT_READY = false → s.flag R.DMC_STAT_TRAINING = false → dmcGeometry (s.regN R.DMC_CFG) = none →
      ∃ t, exec (.dramInit rid) s = .next t ∧ t.fld R.DMC_STAT_RESULT = 3 ∧ t.flag R.DMC_STAT_READY = false ∧
        t.flag R.DMC_STAT_TRAINING = false ∧ s.framed t [.regs, .answer] [R.DMC_CTRL, R.DMC_STAT]) ∧
    (s.flag R.DMC_STAT_READY = false → s.flag R.DMC_STAT_TRAINING = false → (dmcGeometry (s.regN R.DMC_CFG)).isSome = true →
      ∃ t, exec (.dramInit rid) s = .next t ∧ t.fld R.DMC_STAT_RESULT = 0 ∧ t.flag R.DMC_STAT_READY = false ∧
        t.flag R.DMC_STAT_TRAINING = true ∧ t.dmc = { s.dmc with restore := good } ∧
        (s.flag R.DMC_CTRL_RESTORE = true → good = false → t.flag R.DMC_STAT_RESTORE_FB = true) ∧
        s.framed t [.regs, .answer, .dmc] [R.DMC_CTRL, R.DMC_STAT])) ∧
  (∀ (s : State) (step : BitVec 3) (lane : BitVec 4) (vals : List Byte), s.live 20 = true → s.flag R.DMC_STAT_TRAINING = true →
    (∃ t, exec (.trainingDone true step lane vals) s = .next t ∧ t.flag R.DMC_STAT_TRAINING = false ∧
      t.flag R.DMC_STAT_READY = true ∧ t.fld R.DMC_STAT_RESULT = 1 ∧ (s.live 7 = true → t.pends 98 = true) ∧
      t.dmc = { s.dmc with mem := [], badWords := [], softWords := [], scrubAt := 0, scrubDefer := 0, restore := false, zqAt := s.now } ∧
      (s.dmc.restore = true → s.framed t [.regs, .dmc, .evt] [R.DMC_STAT, R.EVT_PEND 3]) ∧
      (s.dmc.restore = false → t.trainBytes = s.trainRecord vals ∧
        s.framed t [.regs, .dmc, .evt] ([R.DMC_STAT, R.EVT_PEND 3] ++ (List.range 64).map R.DMC_TRAINW))) ∧
    (s.dmc.restore = true → ∃ t, exec (.trainingDone false step lane vals) s = .next t ∧ t.flag R.DMC_STAT_TRAINING = true ∧
      t.flag R.DMC_STAT_RESTORE_FB = true ∧ t.dmc = { s.dmc with restore := false } ∧ s.framed t [.regs, .dmc] [R.DMC_STAT]) ∧
    (s.dmc.restore = false → ∃ t, exec (.trainingDone false step lane vals) s = .next t ∧ t.flag R.DMC_STAT_TRAINING = false ∧
      t.flag R.DMC_STAT_READY = s.flag R.DMC_STAT_READY ∧ t.fld R.DMC_STAT_RESULT = 2 ∧ t.fld R.DMC_STAT_FAILSTEP = step.toNat ∧
      t.fld R.DMC_STAT_FAILLANE = lane.toNat ∧ (s.live 7 = true → t.pends 98 = true) ∧
      s.framed t [.regs, .evt] [R.DMC_STAT, R.EVT_PEND 3])) ∧
  (∀ (s : State) (rid : Rid) (addr : Word) (len : BitVec 9) (upset : Fin 3), s.live 7 = true → 0 < len.toNat →
    0x80000000 ≤ addr.toNat → addr.toNat + len.toNat ≤ 0x100000000 → s.dramAt addr.toNat + len.toNat ≤ s.dmcSize →
    s.live 20 = true → s.flag R.DMC_STAT_READY = true → s.dmc.badWords = [] → s.dmc.softWords = [] →
    let at_ := s.dramAt addr.toNat
    let word := BitVec.ofNat 32 (leNat (slice (s.dramBytes at_ len.toNat) 0 4))
    (s.flag R.DMC_STAT_FROZEN = true → ∀ w data, data.length = len.toNat → ∃ t, exec (.nrtAccess rid addr len w data upset) s = .next t ∧
      t.answer.err = true ∧ t.answer.data = 0 ∧ s.framed t [.answer, .dmc] [] ∧ t.dmc.mem = s.dmc.mem) ∧
    (s.flag R.DMC_STAT_FROZEN = false → ∀ data,
      (upset = 0 → ∃ t, exec (.nrtAccess rid addr len false data upset) s = .next t ∧ t.answer.err = false ∧ t.answer.data = word ∧
        s.framed t [.answer] []) ∧
      (upset = 1 → ∃ t, exec (.nrtAccess rid addr len false data upset) s = .next t ∧ t.answer.err = false ∧ t.answer.data = word ∧
        s.corrects t (at_ / 8) ∧ t.dmc.mem = s.dmc.mem ∧ t.dmc.softWords = [at_ / 8] ∧
        s.framed t [.regs, .dict, .answer, .dmc, .evt] correctRegs) ∧
      (upset = 2 → ∃ t, exec (.nrtAccess rid addr len false data upset) s = .next t ∧ t.answer.err = true ∧ t.answer.data = 0 ∧
        s.freezes t (at_ / 8) 0 ∧ t.dmc.mem = s.dmc.mem ∧
        s.framed t [.free, .regs, .dict, .answer, .dmc, .evt] freezeRegs)) ∧
    (s.flag R.DMC_STAT_FROZEN = false → ∀ data : List Byte, data.length = len.toNat →
      s.inDelayRegion at_ (min len.toNat (64 - addr.toNat % 64)) = true →
      ∃ t, exec (.nrtAccess rid addr len true data 0) s = .next t ∧ t.answer.err = true ∧ t.flag R.DMC_STAT_RTREG_WR = true ∧
        s.framed t [.regs, .answer] [R.DMC_STAT]) ∧
    (s.flag R.DMC_STAT_FROZEN = false → ∀ data : List Byte, data.length = len.toNat → s.inDelayRegion at_ len.toNat = false →
      ∃ t, exec (.nrtAccess rid addr len true data 0) s = .next t ∧ t.answer.err = false ∧
        (∀ k, k < len.toNat → t.dramByte (at_ + k) = data.getD k 0) ∧ s.dramKept t [(at_, len.toNat)] ∧
        t.dmc = { s.dmc with mem := t.dmc.mem } ∧ s.framed t [.answer, .dmc] [])) ∧
  (∀ (s : State) (line : Fin 384) (write : Bool) (upset : Fin 3) (f : LineEnt) (r : List LineEnt), s.live 12 = true →
    s.flag R.MTX_DLY_CTRL_EN = true →
    let k := line.val
    let l := tget {} s.mtx.lines k
    s.burstOf k l (if write then 1 else 2) = f :: r →
    let es := f :: r
    let ready := s.live 20 && s.flag R.DMC_STAT_READY
    let put := fun (t : State) (g : LineEnt → LineEnt) =>
      tget {} t.mtx.lines k = { l with ents := l.ents.map (fun e => if es.contains e then g e else e) } ∧
      ∀ j, j ≠ k → tget {} t.mtx.lines j = tget {} s.mtx.lines j
    let blank := fun (t : State) => put t LineEnt.lost ∧
      t.regN C.MTX_DLY_LOST.addr = (s.regN C.MTX_DLY_LOST.addr + es.length) % 2 ^ 32
    (write = true → ready = false → exec (.rtRequest line write upset) s = .next s) ∧
    ((write = false ∧ ready = false) ∨ (ready = true ∧ s.flag R.DMC_STAT_FROZEN = true) →
      ∃ t, exec (.rtRequest line write upset) s = .next t ∧ blank t ∧
        s.framed t [.regs, .dict, .mtx, .evt] (R.EVT_PEND 1 :: C.MTX_DLY_LOST.regs)) ∧
    (ready = true → s.flag R.DMC_STAT_FROZEN = false → s.dmc.badWords = [] → s.dmc.softWords = [] →
      (write = true → ∃ t, exec (.rtRequest line write upset) s = .next t ∧ put t (fun e => { e with place := 2 }) ∧
        (∀ e ∈ es, (∀ x ∈ es, s.lineAddr k l x = s.lineAddr k l e → x = e) → ∀ i, i < 8 →
          t.dramByte (s.lineAddr k l e + i) = e.image.getD i 0) ∧
        s.dramKept t (es.map (fun e => (s.lineAddr k l e, 8))) ∧ t.dmc = { s.dmc with mem := t.dmc.mem } ∧
        s.framed t [.mtx, .dmc] []) ∧
      (write = false → upset = 0 → ∃ t, exec (.rtRequest line write upset) s = .next t ∧ put t (fun e => { e with place := 3 }) ∧
        s.framed t [.mtx] []) ∧
      (write = false → upset = 2 → ∃ t, exec (.rtRequest line write upset) s = .next t ∧ blank t ∧
        s.freezes t (s.lineAddr k l f / 8) 1 ∧ t.dmc.mem = s.dmc.mem ∧
        s.framed t [.free, .regs, .dict, .mtx, .dmc, .evt] (freezeRegs ++ R.EVT_PEND 1 :: C.MTX_DLY_LOST.regs)))) ∧
  (∀ (s : State), s.live 20 = true →
    let on := max 1 (s.fld R.DMC_PANIC_ON)
    (s.flag R.DMC_STAT_PANIC = false → on ≤ s.rtLevel → ∃ t, exec .panicStart s = .next t ∧ t.flag R.DMC_STAT_PANIC = true ∧
      (s.live 7 = true → t.pends 99 = true) ∧ t.regN C.DMC_PANICCNT.addr = (s.regN C.DMC_PANICCNT.addr + 1) % 2 ^ 32 ∧
      s.framed t [.regs, .dict, .evt] ([R.DMC_STAT, R.EVT_PEND 3] ++ C.DMC_PANICCNT.regs)) ∧
    (s.flag R.DMC_STAT_PANIC = true → s.rtLevel < min on (s.fld R.DMC_PANIC_OFF) →
      ∃ t, exec .panicEnd s = .next t ∧ t.flag R.DMC_STAT_PANIC = false ∧ s.framed t [.regs] [R.DMC_STAT]) ∧
    (∃ t, exec .refresh s = .next t ∧ refreshes s.dmc.band t.dmc.interval t.dmc.timingH ∧
      t.dmc = { s.dmc with interval := t.dmc.interval, timingH := t.dmc.timingH } ∧
      ((t.dmc.interval, t.dmc.timingH) ≠ (s.dmc.interval, s.dmc.timingH) → s.live 7 = true → t.pends 100 = true) ∧
      ((t.dmc.interval, t.dmc.timingH) = (s.dmc.interval, s.dmc.timingH) → t = s) ∧
      s.framed t [.regs, .dmc, .evt] [R.EVT_PEND 3]) ∧
    (s.flag R.DMC_STAT_READY = true →
      let u := s.advanceTo (s.dmc.zqAt + max 1 (s.fld R.DMC_ZQINT_MS) * 1000000)
      let late := decide (s.dmc.zqAt + 128000000 < u.now)
      ∃ t, exec .zqCalibration s = .next t ∧ t.dmc.zqAt = u.now ∧ refreshes s.dmc.band t.dmc.interval t.dmc.timingH ∧
        (late = true → t.flag R.DMC_STAT_ZQLATE = true ∧ (s.live 7 = true → t.pends 102 = true)) ∧
        (late = false → t.reg R.DMC_STAT = s.reg R.DMC_STAT) ∧
        u.framed t [.regs, .dmc, .evt] [R.DMC_STAT, R.EVT_PEND 3])) ∧
  (∀ (s : State) (waiting : Bool) (upset : Fin 3), s.live 20 = true → s.flag R.DMC_STAT_READY = true →
    s.flag R.DMC_CTRL_SCRUB_EN = true → s.flag R.DMC_STAT_FROZEN = false →
    let busy := waiting || s.flag R.DMC_STAT_PANIC
    let next := if s.dmc.scrubAt + 64 < s.dmcSize then s.dmc.scrubAt + 64 else 0
    let forced := fun (t : State) => t.regN C.DMC_SCRUBFORCED.addr = (s.regN C.DMC_SCRUBFORCED.addr + b2n busy) % 2 ^ 32
    let wraps := fun (t : State) => t.regN C.DMC_SCRUBPASS.addr = (s.regN C.DMC_SCRUBPASS.addr + b2n (decide (next = 0))) % 2 ^ 32 ∧
      (next = 0 → s.live 7 = true → t.pends 101 = true)
    (busy = true → s.dmc.scrubDefer < 64 → ∃ t, exec (.scrubStep waiting upset) s = .next t ∧
      t.dmc = { s.dmc with scrubDefer := s.dmc.scrubDefer + 1 } ∧
      t.regN C.DMC_SCRUBDEF.addr = (s.regN C.DMC_SCRUBDEF.addr + 1) % 2 ^ 32 ∧ s.framed t [.regs, .dict, .dmc] C.DMC_SCRUBDEF.regs) ∧
    (busy = false ∨ 64 ≤ s.dmc.scrubDefer → s.dmc.badWords = [] → s.dmc.softWords = [] →
      (upset = 0 → ∃ t, exec (.scrubStep waiting upset) s = .next t ∧ forced t ∧ wraps t ∧
        t.dmc = { s.dmc with scrubDefer := 0, scrubAt := next } ∧
        s.framed t [.regs, .dict, .dmc, .evt] (R.EVT_PEND 3 :: (C.DMC_SCRUBFORCED.regs ++ C.DMC_SCRUBPASS.regs))) ∧
      (upset = 1 → ∃ t, exec (.scrubStep waiting upset) s = .next t ∧ forced t ∧ wraps t ∧ s.corrects t (s.dmc.scrubAt / 8) ∧
        t.dmc = { s.dmc with scrubDefer := 0, scrubAt := next, ceAt := t.dmc.ceAt } ∧
        s.framed t [.regs, .dict, .dmc, .evt] (correctRegs ++ C.DMC_SCRUBFORCED.regs ++ C.DMC_SCRUBPASS.regs)) ∧
      (upset = 2 → ∃ t, exec (.scrubStep waiting upset) s = .next t ∧ forced t ∧ s.freezes t (s.dmc.scrubAt / 8) 2 ∧
        t.dmc.scrubAt = s.dmc.scrubAt ∧ t.dmc.mem = s.dmc.mem ∧
        s.framed t [.free, .regs, .dict, .dmc, .evt] (freezeRegs ++ C.DMC_SCRUBFORCED.regs)))) ∧
  (∀ (s : State) (rid : Rid) (data : Word), s.serves rid 20 →
    let start := data = 0xA5C30F96#32 ∧ warden rid = true
    let does := fun (u : Option (Rid × Nat)) (go bad : Bool) => ∃ t, exec (.unfreeze rid data) s = .next t ∧
      t.dmc = { s.dmc with unf := u, resuming := go || s.dmc.resuming } ∧
      t.flag R.DMC_STAT_UNF_ERR = (bad || s.flag R.DMC_STAT_UNF_ERR) ∧ t.flag R.DMC_STAT_FROZEN = s.flag R.DMC_STAT_FROZEN ∧
      s.framed t [.regs, .answer, .dmc] [R.DMC_STAT, R.DMC_UNFREEZE]
    (s.flag R.DMC_STAT_FROZEN = false ∨ s.dmc.resuming = true → does none false true) ∧
    (s.flag R.DMC_STAT_FROZEN = true → s.dmc.resuming = false →
      (s.dmc.unf = none → start → does (some (rid, s.now)) false false) ∧
      (s.dmc.unf = none → ¬ start → does none false true) ∧
      (∀ x, s.dmc.unf = some (rid, x) → s.now ≤ x + 106 → data = 0x5A3CF069#32 → does none true false) ∧
      (∀ q x, s.dmc.unf = some (q, x) → (data ≠ 0x5A3CF069#32 ∨ q ≠ rid ∨ x + 106 < s.now) →
        (start → does (some (rid, s.now)) false true) ∧ (¬ start → does none false true)))) ∧
  (∀ (s : State), s.live 20 = true → s.dmc.resuming = true →
    ∃ t, exec .dramResume s = .next t ∧ t.flag R.DMC_STAT_FROZEN = false ∧ t.regN R.DMC_SNAP_TR = s.calNs ∧ t.dmc.resuming = false ∧
      t.dmc.scrubAt = (if s.dmc.failLine + 64 < s.dmcSize then s.dmc.failLine + 64 else 0) ∧ t.dmc.mem = s.dmc.mem ∧
      t.dmc.badWords = s.dmc.badWords ∧ refreshes s.dmc.band t.dmc.interval t.dmc.timingH ∧ (s.live 7 = true → t.pends 103 = true) ∧
      s.framed t [.regs, .dmc, .evt] [R.DMC_STAT, R.DMC_SNAP_TR, R.EVT_PEND 3]) ∧
  (∀ (s : State) (rid : Rid) (data : Word), s.serves rid 20 →
    ∃ t, exec (.apertureWrite rid data) s = .next t ∧
      (∀ a, t.dramAt a = data.toNat % 32 * 2 ^ 28 + (a - 0x80000000)) ∧ s.framed t [.regs, .answer] [R.DMC_APERTURE])

/-! ### Cards -/

/-- R455 to R467: an accepted change at the slot shows with E148; ACT begins activation in the first enabled class or is rejected; an
ATR is stored and judged, and the card is ready, sends a PPS request, is tried in the next class or fails; GO begins a transfer
within the limits of its protocol; procedure bytes, T=1 blocks and expiries move or end it; DEACT, WARM and removal end what is in
progress. -/
def Obligations.IdentityCards : Prop :=
  (∀ (s : State), s.live 22 = true →
    (s.flag R.IDC_STAT_PRESENT = false → ∃ t, exec (.cardInserted false) s = .next t ∧ t.flag R.IDC_STAT_PRESENT = true ∧
      t.flag R.IDC_EVT_INSERTED = true ∧ (s.live 7 = true → t.pends 148 = true) ∧ t.fld R.IDC_STAT_STATE = s.fld R.IDC_STAT_STATE ∧
      s.framed t [.regs, .evt] [R.IDC_STAT, R.IDC_EVT, R.EVT_PEND 4]) ∧
    (s.flag R.IDC_STAT_PRESENT = true → exec (.cardInserted false) s = .next s) ∧
    (s.flag R.IDC_STAT_PRESENT = false → exec (.cardRemoved false) s = .next s) ∧
    (s.flag R.IDC_STAT_PRESENT = true → ∃ t, exec (.cardRemoved false) s = .next t ∧ t.flag R.IDC_STAT_PRESENT = false ∧
      t.flag R.IDC_EVT_REMOVED = true ∧ (s.live 7 = true → t.pends 148 = true) ∧ t.cardOff ∧ t.idc.retryAt = none ∧
      (s.idcBusy = true → s.idcSays t 8) ∧ (s.idcBusy = false → t.reg R.IDC_RESULT = s.reg R.IDC_RESULT) ∧
      (s.fld R.IDC_STAT_STATE = 5 → t.regN R.IDC_RXLEN = 0) ∧ t.idc.rx = s.idc.rx ∧ t.idc.tx = s.idc.tx ∧
      s.framed t [.regs, .idc, .evt] (R.IDC_RXLEN :: idcRegs))) ∧
  (∀ (s : State) (rid : Rid), s.serves rid 22 →
    let st := s.fld R.IDC_STAT_STATE
    let present := s.flag R.IDC_STAT_PRESENT
    (∀ c, st = 0 → present = true → s.classFrom 0 c → ∃ t, exec (.act rid) s = .next t ∧ s.activates t c ∧
      s.framed t [.regs, .answer, .idc] [R.IDC_CTRL, R.IDC_STAT]) ∧
    (st = 0 → present = true → s.noClass 0 → ∃ t, exec (.act rid) s = .next t ∧ s.idcSays t 1 ∧
      s.framed t [.regs, .answer, .evt] [R.IDC_CTRL, R.IDC_RESULT, R.IDC_EVT, R.EVT_PEND 4]) ∧
    (st ≠ 0 ∨ present = false → ∃ t, exec (.act rid) s = .next t ∧ t.fld R.IDC_RESULT_RESULT = 10 ∧
      (st ≠ 1 → t.fld R.IDC_STAT_STATE = st ∧ t.idc = s.idc) ∧
      s.framed t [.regs, .answer, .idc] [R.IDC_CTRL, R.IDC_STAT, R.IDC_RESULT]) ∧
    (∃ t, exec (.deact rid) s = .next t ∧ t.cardOff ∧ t.idc.retryAt = none ∧ (s.idcBusy = true → s.idcSays t 9) ∧
      (s.idcBusy = false → t.reg R.IDC_RESULT = s.reg R.IDC_RESULT) ∧ (st = 5 → t.regN R.IDC_RXLEN = 0) ∧ t.idc.rx = s.idc.rx ∧
      s.framed t [.regs, .answer, .idc, .evt] ([R.IDC_CTRL, R.IDC_RXLEN] ++ idcRegs)) ∧
    (st ≠ 0 → ∃ t, exec (.warm rid) s = .next t ∧ t.fld R.IDC_STAT_STATE = 1 ∧
      t.idc = { s.idc with rst := false, clock := true, stepAt := s.now + s.idcCycles 500, retryAt := none } ∧
      (s.idcBusy = true → s.idcSays t 9) ∧ (s.idcBusy = false → t.reg R.IDC_RESULT = s.reg R.IDC_RESULT) ∧
      (st = 5 → t.regN R.IDC_RXLEN = 0) ∧ s.framed t [.regs, .answer, .idc, .evt] ([R.IDC_CTRL, R.IDC_RXLEN] ++ idcRegs)) ∧
    (st = 0 → ∃ t, exec (.warm rid) s = .next t ∧ s.framed t [.regs, .answer] [R.IDC_CTRL]) ∧
    let len := s.fld R.IDC_XFER_LEN
    let t1 := s.fld R.IDC_STAT_PROTO = 1
    let dirIn := s.flag R.IDC_XFER_IN
    let fits := (t1 ∧ 3 ≤ len ∧ len ≤ 257) ∨ (¬ t1 ∧ dirIn = true ∧ len = 5) ∨ (¬ t1 ∧ dirIn = false ∧ 5 ≤ len ∧ len ≤ 260)
    let left := if t1 then 0 else if dirIn then (if s.idcTx 4 = 0 then 256 else s.idcTx 4) else len - 5
    (st = 4 → fits → ∃ t, exec (.idcGo rid) s = .next t ∧ t.fld R.IDC_STAT_STATE = 5 ∧
      t.idc = { s.idc with rxBytes := [], dataLeft := left, inDir := dirIn } ∧
      s.framed t [.regs, .answer, .idc] [R.IDC_CTRL, R.IDC_STAT]) ∧
    (st ≠ 4 ∨ ¬ fits → ∃ t, exec (.idcGo rid) s = .next t ∧ t.fld R.IDC_RESULT_RESULT = 10 ∧
      (st ≠ 1 → t.fld R.IDC_STAT_STATE = st ∧ t.idc = s.idc) ∧
      s.framed t [.regs, .answer, .idc] [R.IDC_CTRL, R.IDC_STAT, R.IDC_RESULT])) ∧
  (∀ (s : State) (atr : List Byte) (parity : Bool), s.live 22 = true →
    s.fld R.IDC_STAT_STATE = 1 ∨ s.fld R.IDC_STAT_STATE = 2 →
    let u := s.advanceTo s.idc.stepAt
    let a := readAtr atr
    let bad := parity = true ∨ a.good = false ∨ 33 < atr.length
    let excluded := ∃ ci, a.of 15 0 = some ci ∧ nbit ci (2 - s.idc.classNow) = false
    let stored := fun (t : State) => t.regN R.IDC_ATRLEN = min 33 atr.length ∧
      (∀ i, i < 9 → t.regN (R.IDC_ATRW i) = leNat (slice (atr.take 33) (4 * i) 4))
    let regs := [R.IDC_ATRLEN, R.IDC_PARAMS] ++ idcRegs ++ (List.range 9).map R.IDC_ATRW ++ C.IDC_PARCNT.regs
    let first := a.protos.headD 0
    let ta1 := (a.byte 1 0).getD 0x11
    let want := s.fld R.IDC_CFG_T
    let pps := a.byte 2 0 = none ∧ s.flag R.IDC_CFG_PPS_EN = true ∧ (ta1 ≠ 0x11 ∨ want ≠ first)
    let ready := fun (t : State) (proto fd : Nat) => u.idcSays t 0 ∧ t.fld R.IDC_STAT_STATE = 4 ∧
      t.fld R.IDC_STAT_PROTO = proto % 2 ∧ t.fld R.IDC_PARAMS_FI = fd / 16 % 16 ∧ t.fld R.IDC_PARAMS_DI = fd % 16
    ∃ t, exec (.atrComplete atr parity) s = .next t ∧ stored t ∧ u.framed t [.regs, .dict, .idc, .evt] regs ∧
      t.regN C.IDC_PARCNT.addr = (u.regN C.IDC_PARCNT.addr + b2n parity) % 2 ^ 32 ∧
      (bad → t.cardOff ∧ u.idcSays t 2) ∧
      (¬ bad → excluded → t.cardOff ∧ t.fld R.IDC_RESULT_RESULT = 1 ∧
        ((∃ c, s.classFrom (s.idc.classNow + 1) c) → t.idc.retryAt = some (u.now + 10000000)) ∧
        (s.noClass (s.idc.classNow + 1) → u.idcSays t 1)) ∧
      (¬ bad → ¬ excluded →
        t.fld R.IDC_PARAMS_N = (a.byte 1 2).getD 0 % 256 ∧ t.fld R.IDC_PARAMS_WI = (a.byte 2 2).getD 10 % 256 ∧
        t.fld R.IDC_PARAMS_BWI = (a.of 1 1).getD 0x4D / 16 % 16 ∧ t.fld R.IDC_PARAMS_CWI = (a.of 1 1).getD 0x4D % 16 ∧
        t.idc.edcCrc = nbit ((a.of 1 2).getD 0) 0 ∧
        (∀ ta2, a.byte 2 0 = some ta2 → ready t (ta2 % 16) (if nbit ta2 4 then 0x11 else ta1)) ∧
        (a.byte 2 0 = none → ¬ pps → ready t first 0x11) ∧
        (pps → want ∉ a.protos → t.cardOff ∧ u.idcSays t 3) ∧
        (pps → want ∈ a.protos → t.fld R.IDC_STAT_STATE = 3 ∧
          ∃ p1, t.idc.ppsReq = [0xFF#8, BitVec.ofNat 8 (0x10 + want), p1, 0xFF#8 ^^^ BitVec.ofNat 8 (0x10 + want) ^^^ p1] ∧
            (diOf (ta1 % 16) ≠ 0 → diOf (ta1 % 16) ≤ diOf (s.fld R.IDC_CFG_DMAX) → p1 = BitVec.ofNat 8 ta1) ∧
            (diOf (s.fld R.IDC_CFG_DMAX) < diOf (ta1 % 16) → p1 = 0x11)))) ∧
  (∀ (s : State), s.live 22 = true → s.fld R.IDC_STAT_STATE = 1 ∨ s.fld R.IDC_STAT_STATE = 2 →
    let u := s.advanceTo (s.idc.stepAt + s.idcCycles 40000)
    (∃ t, exec .noAtrTimeout s = .next t ∧ t.cardOff ∧ t.fld R.IDC_RESULT_RESULT = 1 ∧
      ((∃ c, s.classFrom (s.idc.classNow + 1) c) → t.idc.retryAt = some (u.now + 10000000)) ∧
      (s.noClass (s.idc.classNow + 1) → u.idcSays t 1) ∧ u.framed t [.regs, .idc, .evt] idcRegs) ∧
    let v := s.advanceTo s.idc.stepAt
    ∃ t, exec .atrGapTimeout s = .next t ∧ t.cardOff ∧ v.idcSays t 2 ∧ v.framed t [.regs, .idc, .evt] idcRegs) ∧
  (∀ (s : State) (x : Nat), s.live 22 = true → s.idc.retryAt = some x →
    let u := s.advanceTo x
    (∀ c, s.classFrom (s.idc.classNow + 1) c → ∃ t, exec .nextClassActivation s = .next t ∧ u.activates t c ∧
      u.framed t [.regs, .idc] [R.IDC_STAT]) ∧
    (s.noClass (s.idc.classNow + 1) → ∃ t, exec .nextClassActivation s = .next t ∧ u.idcSays t 1 ∧ t.idc.retryAt = none ∧
      u.framed t [.regs, .idc, .evt] [R.IDC_RESULT, R.IDC_EVT, R.EVT_PEND 4])) ∧
  (∀ (s : State) (resp : List Byte) (t0 p1 pck : Byte), s.live 22 = true → s.fld R.IDC_STAT_STATE = 3 →
    s.idc.ppsReq = [0xFF#8, t0, p1, pck] →
    let proto := BitVec.ofNat 8 (t0.toNat % 16)
    let short := [0xFF#8, proto, 0xFF#8 ^^^ proto]
    let ready := fun (t : State) (fd : Nat) => s.idcSays t 0 ∧ t.fld R.IDC_STAT_STATE = 4 ∧ t.fld R.IDC_STAT_PROTO = t0.toNat % 2 ∧
      t.fld R.IDC_PARAMS_FI = fd / 16 ∧ t.fld R.IDC_PARAMS_DI = fd % 16 ∧ s.framed t [.regs, .evt] (R.IDC_PARAMS :: idcRegs)
    (resp = s.idc.ppsReq → ∃ t, exec (.ppsExchange resp) s = .next t ∧ ready t p1.toNat) ∧
    (resp = short → ∃ t, exec (.ppsExchange resp) s = .next t ∧ ready t 0x11) ∧
    (resp ≠ s.idc.ppsReq → resp ≠ short → ∃ t, exec (.ppsExchange resp) s = .next t ∧ t.cardOff ∧ s.idcSays t 3 ∧
      s.framed t [.regs, .idc, .evt] idcRegs)) ∧
  (∀ (s : State) (b : Byte) (follow : List Byte) (errs : Fin 8), s.live 22 = true → s.fld R.IDC_STAT_STATE = 5 →
    s.fld R.IDC_STAT_PROTO = 0 →
    let ins := s.idcTx 1
    let counted := fun (t : State) => t.regN C.IDC_PARCNT.addr = (s.regN C.IDC_PARCNT.addr + errs.val) % 2 ^ 32
    let moved := fun (n : Nat) => ∃ t, exec (.procedureByte b follow errs) s = .next t ∧ counted t ∧
      (s.idc.inDir = true → t.idc = { s.idc with rxBytes := s.idc.rxBytes ++ follow.take n,
                                                 dataLeft := s.idc.dataLeft - (follow.take n).length }) ∧
      (s.idc.inDir = false → t.idc = { s.idc with dataLeft := s.idc.dataLeft - n }) ∧
      s.framed t [.regs, .dict, .idc] C.IDC_PARCNT.regs
    let ends := fun (res : Nat) (resp : List Byte) => ∃ t, exec (.procedureByte b follow errs) s = .next t ∧ counted t ∧
      s.idcEnds t res resp ∧ s.framed t [.regs, .dict, .idc, .evt] (R.IDC_RXLEN :: (idcRegs ++ C.IDC_PARCNT.regs))
    let kept := errs.val ≤ min 4 (s.fld R.IDC_CFG_REP)
    (¬ kept → ends 4 []) ∧
    (kept → b = 0x60#8 → ∃ t, exec (.procedureByte b follow errs) s = .next t ∧ counted t ∧
      s.framed t [.regs, .dict] C.IDC_PARCNT.regs) ∧
    (kept → b ≠ 0x60#8 → b.toNat = ins → moved s.idc.dataLeft) ∧
    (kept → b ≠ 0x60#8 → b.toNat ≠ ins → b.toNat = 255 - ins → moved (min 1 s.idc.dataLeft)) ∧
    (kept → b ≠ 0x60#8 → b.toNat ≠ ins → b.toNat ≠ 255 - ins → b.toNat / 16 = 6 ∨ b.toNat / 16 = 9 →
      ends 0 (s.idc.rxBytes ++ [b, follow.headD 0])) ∧
    (kept → b.toNat ≠ ins → b.toNat ≠ 255 - ins → b.toNat / 16 ≠ 6 → b.toNat / 16 ≠ 9 → ends 7 (s.idc.rxBytes ++ [b]))) ∧
  (∀ (s : State) (blk : List Byte) (errs : Fin 8), s.live 22 = true → s.fld R.IDC_STAT_STATE = 5 → s.fld R.IDC_STAT_PROTO = 1 →
    let n := if s.idc.edcCrc then 2 else 1
    let body := blk.take (blk.length - n)
    let good := 3 + n ≤ blk.length ∧
      (if s.idc.edcCrc then beNat (blk.drop (blk.length - 2)) = crc16 body else blk.foldl (fun (x y : Byte) => x ^^^ y) 0 = 0)
    let ends := fun (c : Ctr) (k res : Nat) (resp : List Byte) => ∃ t, exec (.t1BlockReceived blk errs) s = .next t ∧
      s.idcEnds t res resp ∧ t.regN c.addr = (s.regN c.addr + k) % 2 ^ 32 ∧
      s.framed t [.regs, .dict, .idc, .evt] ([R.IDC_RXLEN, R.IDC_BWTX] ++ idcRegs ++ c.regs)
    (errs.val ≠ 0 → ends C.IDC_PARCNT errs.val 4 []) ∧ (errs.val = 0 → ¬ good → ends C.IDC_EDCCNT 1 6 []) ∧
    (errs.val = 0 → good → ends C.IDC_EDCCNT 0 0 body)) ∧
  (∀ (s : State), s.live 22 = true → s.fld R.IDC_STAT_STATE = 5 → ∃ t, exec .waitingTimeExpiry s = .next t ∧ s.idcEnds t 5 [] ∧
    t.regN C.IDC_TOCNT.addr = (s.regN C.IDC_TOCNT.addr + 1) % 2 ^ 32 ∧
    s.framed t [.regs, .dict, .evt] ([R.IDC_RXLEN, R.IDC_BWTX] ++ idcRegs ++ C.IDC_TOCNT.regs))

/-- R455, R470 to R477: an accepted change at the SD slot shows with E151; INIT begins initialisation, whose end leaves the card
ready in the highest mode allowed, locked, or off; READ and WRITE begin with their checks, each block moves memory or ends the
transfer, STOP ends it at the next block; a command or a password operation ends as the card answers, the password zeroed; removal
and PWROFF end what runs and switch the card off. -/
def Obligations.SdCards : Prop :=
  let pwd := (List.range 16).map R.SDH_PWD
  (∀ (s : State), s.live 22 = true →
    (s.flag R.SDH_STAT_PRESENT = false → ∃ t, exec (.cardInserted true) s = .next t ∧ t.flag R.SDH_STAT_PRESENT = true ∧
      t.flag R.SDH_EVT_INSERTED = true ∧ (s.live 7 = true → t.pends 151 = true) ∧ t.fld R.SDH_STAT_STATE = s.fld R.SDH_STAT_STATE ∧
      s.framed t [.regs, .evt] [R.SDH_STAT, R.SDH_EVT, R.EVT_PEND 4]) ∧
    (s.flag R.SDH_STAT_PRESENT = true → exec (.cardInserted true) s = .next s) ∧
    (s.flag R.SDH_STAT_PRESENT = false → exec (.cardRemoved true) s = .next s) ∧
    (s.flag R.SDH_STAT_PRESENT = true → ∃ t, exec (.cardRemoved true) s = .next t ∧ t.flag R.SDH_STAT_PRESENT = false ∧
      t.flag R.SDH_EVT_REMOVED = true ∧ (s.live 7 = true → t.pends 151 = true) ∧ t.sdCardOff ∧ t.sdh.op = 0 ∧
      (s.sdh.op ≠ 0 → s.sdSays t 8) ∧ (s.sdh.op = 0 → t.reg R.SDH_RESULT = s.reg R.SDH_RESULT) ∧
      t.reg R.SDH_DONEBLK = s.reg R.SDH_DONEBLK ∧ s.framed t [.regs, .dict, .sdh, .evt] (sdRegs ++ pwd))) ∧
  (∀ (s : State) (rid : Rid), s.serves rid 22 →
    let st := s.fld R.SDH_STAT_STATE
    (∃ t, exec (.pwroff rid) s = .next t ∧ t.sdCardOff ∧ t.sdh.op = 0 ∧ t.fld R.SDH_RESULT_RESULT = 11 ∧
      (s.sdh.op ≠ 0 → s.sdSays t 11) ∧ s.framed t [.regs, .dict, .answer, .sdh, .evt] (sdRegs ++ pwd)) ∧
    (∃ t, exec (.sdStop rid) s = .next t ∧ (s.sdh.op = 1 ∨ s.sdh.op = 2 → t.sdh = { s.sdh with stop := true }) ∧
      (s.sdh.op ≠ 1 → s.sdh.op ≠ 2 → t.sdh = s.sdh) ∧ s.framed t [.regs, .answer, .sdh] [R.SDH_CTRL]) ∧
    (st = 0 → s.flag R.SDH_STAT_PRESENT = true → ∃ t, exec (.sdInit rid) s = .next t ∧ t.fld R.SDH_STAT_STATE = 1 ∧
      t.sdh = { s.sdh with op := 15, pwren := true } ∧ s.framed t [.regs, .answer, .sdh] [R.SDH_CTRL, R.SDH_STAT]) ∧
    (st ≠ 0 ∨ s.flag R.SDH_STAT_PRESENT = false → ∃ t, exec (.sdInit rid) s = .next t ∧ t.fld R.SDH_RESULT_RESULT = 12 ∧
      s.framed t [.regs, .answer] [R.SDH_CTRL, R.SDH_RESULT]) ∧
    (∀ ok phase, s.sdh.op = 0 →
      (st = 3 → s.fld R.SDH_STAT_MODE = 3 → ∃ t, exec (.tune rid ok phase) s = .next t ∧ t.sdh = s.sdh ∧
        (ok = true → t.fld R.SDH_STAT_PHASE = phase.toNat ∧ t.fld R.SDH_STAT_MODE = 3) ∧
        (ok = false → t.fld R.SDH_STAT_MODE = 2 ∧ t.fld R.SDH_STAT_PHASE = s.fld R.SDH_STAT_PHASE) ∧
        s.framed t [.regs, .answer, .sdh] [R.SDH_CTRL, R.SDH_STAT]) ∧
      (st ≠ 3 ∨ s.fld R.SDH_STAT_MODE ≠ 3 → ∃ t, exec (.tune rid ok phase) s = .next t ∧
        s.framed t [.regs, .answer] [R.SDH_CTRL])) ∧
    (∀ c op, (c, op) ∈ [(Instr.sdRead rid, 1), (.sdWrite rid, 2)] →
      let n := s.fld R.SDH_BLKCNT_CNT
      let lba := s.fld R.SDH_LBA_HI_LBA * 2 ^ 16 + s.fld R.SDH_LBA_LO_LBA
      let a := s.fld R.SDH_ADDR_HI_ADDR * 2 ^ 16 + s.fld R.SDH_ADDR_LO_ADDR * 16
      let good := ((0x10000000 ≤ a ∧ a < 0x10200000) ∨ 0x80000000 ≤ a) ∧ 1 ≤ n ∧ lba + n ≤ s.sdh.capacity
      let refused := fun (res : Nat) => ∃ t, exec c s = .next t ∧ t.fld R.SDH_RESULT_RESULT = res ∧
        s.framed t [.regs, .answer] [R.SDH_OP, R.SDH_CTRL, R.SDH_RESULT]
      (s.sdh.op = 0 → st = 3 → good → ∃ t, exec c s = .next t ∧ t.fld R.SDH_STAT_STATE = 4 ∧ t.regN R.SDH_DONEBLK = 0 ∧
        t.sdh = { s.sdh with op := op, addr := a, left := n, stop := false } ∧
        s.framed t [.regs, .answer, .sdh] [R.SDH_OP, R.SDH_CTRL, R.SDH_STAT, R.SDH_DONEBLK]) ∧
      (s.sdh.op = 0 → st = 2 → refused 10) ∧
      (s.sdh.op ≠ 0 ∨ (st ≠ 2 ∧ (st ≠ 3 ∨ ¬ good)) → refused 12))) ∧
  (∀ (s : State) (rid : Rid) (data : Word) (reply : SdReply), s.serves rid 22 →
    let st := s.fld R.SDH_STAT_STATE
    let word := fun (i : Nat) => BitVec.ofNat 32 (reply.resp.toNat / 2 ^ (32 * i))
    let ended := fun (t : State) (typ : Nat) =>
      let res := if typ = 0 ∨ reply.kind = 0 then 0 else if reply.kind = 1 then 1 else if reply.kind = 2 then 2 else 7
      s.sdSays t res ∧ t.sdh.op = 0 ∧
      ((typ = 1 ∨ typ = 2) ∧ (res = 0 ∨ res = 7) → t.reg (R.SDH_RESP 0) = word 0 ∧ ∀ i, 0 < i → i < 4 → t.reg (R.SDH_RESP i) = s.reg (R.SDH_RESP i)) ∧
      (typ = 3 ∧ (res = 0 ∨ res = 7) → ∀ i, i < 4 → t.reg (R.SDH_RESP i) = word i) ∧
      (typ = 0 ∨ res = 1 ∨ res = 2 → ∀ i, i < 4 → t.reg (R.SDH_RESP i) = s.reg (R.SDH_RESP i))
    let regs := R.SDH_OP :: (sdRegs ++ (List.range 4).map R.SDH_RESP)
    (s.sdh.op = 0 → st = 2 ∨ st = 3 → ∃ t, exec (.sdCmd rid data reply) s = .next t ∧ ended t (data.toNat / 256 % 4) ∧
      t.fld R.SDH_OP_OP = 3 ∧ t.fld R.SDH_OP_CMD = data.toNat % 64 ∧
      t.fld R.SDH_STAT_STATE = (if s.sdh.locked then 2 else 3) ∧ s.framed t [.regs, .dict, .answer, .sdh, .evt] regs) ∧
    (∀ c op, (c, op) ∈ [(Instr.setpwd rid reply, 4), (.clrpwd rid reply, 5), (.lockCard rid reply, 6)] → s.sdh.op = 0 → st = 3 →
      ∃ t, exec c s = .next t ∧ ended t 1 ∧ t.fld R.SDH_OP_OP = op ∧ (∀ i, i < 16 → t.reg (R.SDH_PWD i) = 0) ∧
        t.fld R.SDH_STAT_STATE = (if s.sdh.locked then 2 else 3) ∧ s.framed t [.regs, .dict, .answer, .sdh, .evt] (regs ++ pwd)) ∧
    (∀ (nego : SdInitResult) c op, (c, op) ∈ [(Instr.unlock rid reply nego, 7), (.forceErase rid reply nego, 8)] →
      s.sdh.op = 0 → st = 2 →
      ∃ t, exec c s = .next t ∧ ended t 1 ∧ t.fld R.SDH_OP_OP = op ∧ (∀ i, i < 16 → t.reg (R.SDH_PWD i) = 0) ∧
        (reply.kind = 0 → t.fld R.SDH_STAT_STATE = 3 ∧ t.sdh.locked = false ∧ t.fld R.SDH_STAT_MODE = s.sdMode s.sdh.vsel nego ∧
          (s.sdMode s.sdh.vsel nego = 3 → t.fld R.SDH_STAT_PHASE = nego.phase.toNat)) ∧
        (reply.kind ≠ 0 → t.fld R.SDH_STAT_STATE = (if s.sdh.locked then 2 else 3) ∧ t.sdh.locked = s.sdh.locked) ∧
        s.framed t [.regs, .dict, .answer, .sdh, .evt] (regs ++ pwd)) ∧
    (∀ (nego : SdInitResult) c, c ∈ [Instr.sdCmd rid data reply, .setpwd rid reply, .clrpwd rid reply, .lockCard rid reply,
        .unlock rid reply nego, .forceErase rid reply nego] →
      s.sdh.op ≠ 0 ∨ (st ≠ 2 ∧ st ≠ 3) ∨ (st = 2 ∧ c ∈ [Instr.setpwd rid reply, .clrpwd rid reply, .lockCard rid reply]) ∨
        (st = 3 ∧ c ∈ [Instr.unlock rid reply nego, .forceErase rid reply nego]) →
      ∃ t, exec c s = .next t ∧ t.fld R.SDH_RESULT_RESULT = 12 ∧ s.framed t [.regs, .answer] [R.SDH_OP, R.SDH_CTRL, R.SDH_RESULT])) ∧
  (∀ (s : State) (r : SdInitResult), s.live 22 = true → s.sdh.op = 15 →
    (r.result ≠ 0 → ∃ t, exec (.sdInitDone r) s = .next t ∧ s.sdSays t r.result.toNat ∧ t.sdCardOff ∧ t.sdh.op = 0 ∧
      s.framed t [.regs, .dict, .sdh, .evt] sdRegs) ∧
    (r.result = 0 →
      let v18 := r.v18 && s.flag R.SDH_CFG_UHS_EN
      let win := leBytes 16 r.cid.toNat ++ leBytes 16 r.csd.toNat
      ∃ t, exec (.sdInitDone r) s = .next t ∧ s.sdSays t 0 ∧
        t.sdh = { s.sdh with op := 0, left := 0, stop := false, vsel := v18, capacity := r.blocks, locked := r.locked } ∧
        t.flag R.SDH_STAT_V18 = v18 ∧ t.fld R.SDH_STAT_RCA = r.rca.toNat ∧
        (∀ i, i < 8 → t.regN (R.SDH_CIDCSD i) = leNat (slice win (4 * i) 4)) ∧
        (r.locked = true → t.fld R.SDH_STAT_STATE = 2) ∧
        (r.locked = false → t.fld R.SDH_STAT_STATE = 3 ∧ t.fld R.SDH_STAT_MODE = s.sdMode v18 r ∧
          (s.sdMode v18 r = 3 → t.fld R.SDH_STAT_PHASE = r.phase.toNat)) ∧
        s.framed t [.regs, .dict, .sdh, .evt] (sdRegs ++ (List.range 8).map R.SDH_CIDCSD))) ∧
  (∀ (s : State) (data : List Byte) (ok : Bool), s.live 22 = true → data.length = 512 →
    let a := s.sdh.addr
    let goes := fun (t : State) => t.regN R.SDH_DONEBLK = (s.regN R.SDH_DONEBLK + 1) % 2 ^ 32 ∧ t.sdh.addr = a + 512 ∧
      (s.sdh.stop = true → s.sdSays t 11 ∧ t.sdh.op = 0) ∧
      (s.sdh.stop = false → s.sdh.left ≤ 1 → s.sdSays t 0 ∧ t.sdh.op = 0) ∧
      (s.sdh.stop = false → 1 < s.sdh.left → t.sdh = { s.sdh with addr := a + 512, left := s.sdh.left - 1 } ∧
        t.reg R.SDH_RESULT = s.reg R.SDH_RESULT ∧ t.evt = s.evt)
    let ends := fun (res : Nat) => ∃ t, exec (.sdBlock data ok) s = .next t ∧ s.sdSays t res ∧ t.sdh.op = 0 ∧
      t.sdh.addr = a ∧ s.framed t [.regs, .dict, .sdh, .evt] sdRegs
    (s.sdh.op = 1 → ok = true → s.inRam a 512 → ∃ t, exec (.sdBlock data ok) s = .next t ∧ goes t ∧ t.ram a 512 = data ∧
      s.ramKept t [(a, 512)] ∧ s.framed t [.regs, .dict, .sdh, .sram, .evt] (R.SDH_DONEBLK :: sdRegs)) ∧
    (s.sdh.op = 1 → ok = true → s.inDram a 512 → ∃ t, exec (.sdBlock data ok) s = .next t ∧ goes t ∧
      t.dramBytes (s.dramAt a) 512 = data ∧ s.dramKept t [(s.dramAt a, 512)] ∧
      s.framed t [.regs, .dict, .sdh, .dmc, .evt] (R.SDH_DONEBLK :: sdRegs)) ∧
    (s.sdh.op = 1 → ok = false → ends 4) ∧
    (s.sdh.op = 1 → ok = true → 0x10000000 ≤ a → a < 0x10100000 → s.live 5 = false → s.live 7 = true →
      ∃ t, exec (.sdBlock data ok) s = .next t ∧ s.sdSays t 13 ∧ t.sdh.op = 0 ∧ t.regN R.SDH_ERRADDR = a ∧ t.sram = s.sram ∧
        t.reg R.SDH_DONEBLK = s.reg R.SDH_DONEBLK) ∧
    (s.sdh.op = 2 → s.inRam a 512 ∨ s.inDram a 512 →
      (ok = true → ∃ t, exec (.sdBlock data ok) s = .next t ∧ goes t ∧ s.framed t [.regs, .dict, .sdh, .evt] (R.SDH_DONEBLK :: sdRegs)) ∧
      (ok = false → ends 5))) ∧
  (∀ (s : State) (kind : Fin 3), s.live 22 = true →
    let op := s.sdh.op
    let res := if kind = 0 then 1 else if kind = 1 then 3 else 6
    ((kind = 0 ∧ op ≠ 0 ∧ op ≠ 14) ∨ (kind = 1 ∧ op = 1) ∨ (kind = 2 ∧ (op = 2 ∨ (4 ≤ op ∧ op ≤ 8))) →
      ∃ t, exec (.sdTimeout kind) s = .next t ∧ s.sdSays t res ∧ t.sdh.op = 0 ∧
        (op = 15 → t.sdCardOff) ∧ t.reg R.SDH_DONEBLK = s.reg R.SDH_DONEBLK ∧
        s.framed t [.regs, .dict, .sdh, .evt] (sdRegs ++ (if 4 ≤ op ∧ op ≤ 8 then pwd else []))))

/-! ### Power -/

/-- R478 to R486: a request of a Warden core or of M7 is queued, or refused with BUSY; the next request, Vigil's first, ends with
the first condition that holds, or its domain is switching; a good rail is noted, its absence for 200 µs ends the switch with
NOSUPPLY; at its end the domain is ON, OFF or in RET. -/
def Obligations.PowerRequests : Prop :=
  (∀ (s : State) (rid : Rid) (d : Fin 32) (c : Instr) (action : Nat), s.serves rid 0 →
    (c, action) ∈ [(Instr.pwrReqOff rid d, 0), (.pwrReqOn rid d, 1), (.pwrReqRet rid d, 2)] →
    let may := wardenCore rid = true ∨ master rid = 7
    (may → s.pwr.queue.length < 8 → ∃ t, exec c s = .next t ∧ t.pwr = { s.pwr with queue := s.pwr.queue ++ [⟨d.val, action⟩] } ∧
      s.framed t [.regs, .answer, .pwr] [R.PWR_REQ]) ∧
    (may → 8 ≤ s.pwr.queue.length → ∃ t, exec c s = .next t ∧ s.pwrEnds t ⟨d.val, action⟩ false 4 false ∧
      s.framed t [.regs, .dict, .answer, .evt] (R.PWR_REQ :: pwrRegs)) ∧
    (¬ may → ∃ t, exec c s = .next t ∧ s.framed t [.regs, .answer] [R.PWR_REQ])) ∧
  (∀ (s : State) (r : PwrReq) (internal : Bool) (vigil queue : List PwrReq), s.vigil = true → s.pwr.active = none →
    s.nextPower r internal vigil queue →
    let d := r.domain
    let left := fun (t : State) => t.pwr = { s.pwr with vigil := vigil, queue := queue }
    let ends := fun (status : Nat) => ∃ t, exec .requestTaken s = .next t ∧ left t ∧ s.pwrEnds t r internal status false ∧
      s.framed t [.regs, .dict, .pwr, .evt] pwrRegs
    let met := s.dom d = r.action
    let variant := r.action = 1 ∧ s.isAN = true ∧ (d = 8 ∨ d = 9)
    let thermal := r.action = 1 ∧ s.hk.forbid = true ∧ d ≠ 1 ∧ d ≠ 2 ∧ d ≠ 21
    let depends := (r.action = 1 ∧ ∃ n ∈ domainNeeds d, s.isOn n = false) ∨
      (r.action ≠ 1 ∧ ∃ x, x < 24 ∧ d ∈ domainNeeds x ∧ s.dom x ≠ 0)
    let begins := fun (t : State) => t.dom d = 3 ∧ (∀ x, x < 24 → x ≠ d → t.dom x = s.dom x) ∧
      t.pwr = { s.pwr with vigil := vigil, queue := queue, active := some ⟨r, internal, s.now, false⟩ }
    (s.pwrInvalid r → ends 6) ∧ (¬ s.pwrInvalid r → met → ends 0) ∧
    (¬ s.pwrInvalid r → ¬ met → variant → ends 2) ∧ (¬ s.pwrInvalid r → ¬ met → ¬ variant → thermal → ends 3) ∧
    (¬ s.pwrInvalid r → ¬ met → ¬ variant → ¬ thermal → depends → ends 1) ∧
    (¬ s.pwrInvalid r → ¬ met → ¬ variant → ¬ thermal → ¬ depends →
      (r.action ≠ 0 ∨ s.dom d ≠ 1 ∨ d ∈ [1, 2, 5, 6, 7, 11, 12, 13, 20, 21, 23] →
        ∃ t, exec .requestTaken s = .next t ∧ begins t ∧ s.framed t [.regs, .pwr] domRegs) ∧
      (r.action = 0 → s.dom d = 1 → d = 3 ∨ d = 4 → ∃ t, exec .requestTaken s = .next t ∧ begins t ∧
        (∀ k, k < 4 → (t.thr (4 * (d - 3) + k)).run = 0)) ∧
      (r.action = 0 → s.dom d = 1 → d = 10 → ∃ t, exec .requestTaken s = .next t ∧ begins t ∧ t.sram = s.sram) ∧
      (r.action = 0 → s.dom d = 1 → d = 22 → ∃ t, exec .requestTaken s = .next t ∧ begins t ∧ t.cardOff ∧ t.sdCardOff ∧
        t.sdh.op = 0 ∧ t.sram = s.sram))) ∧
  (∀ (s : State), s.vigil = true → s.pwr.active = none → (∀ x ∈ s.pwr.vigil, s.dom x.domain = x.action) → s.pwr.queue = [] →
    ∃ t, exec .requestTaken s = .next t ∧ t.pwr = { s.pwr with vigil := [] } ∧ s.framed t [.pwr] []) ∧
  (∀ (s : State) (w : PwrSwitch), s.pwr.active = some w → 0 < w.req.domain → w.req.domain < 24 →
    let d := w.req.domain
    let idle := fun (t : State) => (s.pwr.shed = false → t.pwr = { s.pwr with active := none }) ∧
      (s.pwr.shed = true → t.pwr.active = none ∧ t.pwr.queue = [] ∧ t.pwr.shed = false ∧ ∀ x ∈ s.pwr.vigil, x ∈ t.pwr.vigil)
    let ends := fun (c : Instr) (st status : Nat) => ∃ t, exec c s = .next t ∧ idle t ∧ t.dom d = st ∧
      (∀ x, x < 24 → x ≠ d → t.dom x = s.dom x) ∧ (s.pwr.shed = false → s.pwrEnds t w.req w.internal status true)
    (w.req.action = 1 → ∃ t, exec .railGood s = .next t ∧ t.pwr = { s.pwr with active := some { w with rails := true } } ∧
      s.framed t [.pwr] []) ∧
    (w.req.action = 1 → w.rails = false → ends .railGoodTimeout 0 5 ∧ exec .switchOnDone s = .next s) ∧
    (w.req.action = 1 → w.rails = true → ends .switchOnDone 1 0 ∧ exec .railGoodTimeout s = .next s) ∧
    (w.req.action = 0 → ends .drainDone 0 0) ∧ (w.req.action = 2 → ends .retEntryDone 2 0) ∧
    (w.req.action = 2 → s.pwr.shed = false → ∃ t, exec .retEntryDone s = .next t ∧
      s.framed t [.regs, .dict, .pwr, .evt] (domRegs ++ pwrRegs)) ∧
    (w.req.action = 0 → d = 5 ∨ d = 6 → ∃ t, exec .drainDone s = .next t ∧
      ∀ a, t.sramByte a = (if sramDomain a = d ∧ 0x10000000 ≤ a ∧ a < 0x10200000 then 0 else s.sramByte a)))

/-! ### Reset and boot -/

/-- R487, R495 to R503, R505 to R508, R536, R556: the power-on reset puts every domain OFF; at its release the fuses, the keys and the sets
are loaded and the boot set is asked for once VDD_CORE is good; each cause begins a system reset; at the end of the hold the boot
set comes up, T0 enters RUN, and RST_OUT_N rises; the watchdog restarts with a kick and resets at zero; the pin follows its
filter; the slow clock and the real-time clock keep their rules. -/
def Obligations.ResetCommands : Prop :=
  (∀ (s : State), s.vigil = true → ∃ t, exec .porAssert s = .next t ∧ t.vigil = false ∧ (∀ d, 0 < d → d < 24 → t.dom d = 0) ∧
    t.rst.heldBy = [] ∧ t.rst.rstOutHigh = false ∧ t.pwr = {} ∧ t.nq = {} ∧ t.trn = {} ∧ t.tmp = { marker := s.tmp.marker } ∧
    (∀ a, 0x10000000 ≤ a → a < 0x10200000 → t.sramByte a = 0) ∧ (∀ n, n < 8 → t.thr n = {}) ∧ t.lanes.all (fun p => decide (24 ≤ p.1)) = true ∧
    t.rst.rtcZero = s.rst.rtcZero ∧ t.nvs.keys = [none, none, none] ∧ t.regN R.RST_CAUSE = 1 ∧ t.regN R.RST_COUNT = 0) ∧
  (∀ (s : State), s.vigil = false → s.rst.pinLow = false → s.rst.slowLostAt = none →
    ∃ t, exec .porRelease s = .next t ∧ t.vigil = true ∧ t.flag R.RST_STAT_RTC_LOST = s.rst.rtcLostNext ∧
      t.flag R.RST_STAT_PIN_LOW = false ∧ t.rst.rtcLostNext = false ∧ t.rst.rtcZero = s.rst.rtcZero ∧ t.trn.starting = some s.now ∧
      (s.rst.coreGood = true → t.rst.phase = .bootSet) ∧ (s.rst.coreGood = false → t.rst.phase = .waitCore ∧
        t.flag R.RST_STAT_CORE_WAIT = true) ∧ t.sram = s.sram ∧ t.threads = s.threads ∧ t.fus = { s.fus with fresh := [] } ∧ t.nvs.data = s.nvs.data) ∧
  (∀ (s : State),
    (∃ t, exec .vscapLow s = .next t ∧ t.rst = { s.rst with rtcZero := s.now, rtcLostNext := true } ∧ s.framed t [.rst] []) ∧
    (s.vigil = true → (∃ t, exec .slowClockLoss s = .next t ∧ t.flag R.RST_STAT_SLOW_FB = true ∧ s.framed t [.regs] [R.RST_STAT]) ∧
      (∃ t, exec .slowClockReturn s = .next t ∧ t.flag R.RST_STAT_SLOW_FB = false ∧ s.framed t [.regs] [R.RST_STAT])) ∧
    (s.vigil = false → s.rst.slowLostAt = none →
      ∃ t, exec .slowClockLoss s = .next t ∧ t.rst = { s.rst with slowLostAt := some s.now } ∧ s.framed t [.rst] []) ∧
    (s.rst.coreGood = false → s.rst.phase = .waitCore → ∃ t, exec .vddCoreGood s = .next t ∧
      t.rst = { s.rst with coreGood := true, coreAt := s.now, phase := .bootSet } ∧ t.flag R.RST_STAT_CORE_WAIT = false ∧
      (∀ d, d < 24 → d ≠ 0 → nbit (s.regN R.PWR_BOOTSET) d = true → (s.isAN = true → d ≠ 8 ∧ d ≠ 9) →
        (⟨d, 1⟩ : PwrReq) ∈ t.pwr.vigil ∧ ∀ n ∈ domainNeeds d, n ≠ 0 → (⟨n, 1⟩ : PwrReq) ∈ t.pwr.vigil) ∧
      s.framed t [.regs, .pwr, .rst] [R.RST_STAT]) ∧
    (s.rst.coreGood = false → s.rst.phase ≠ .waitCore → ∃ t, exec .vddCoreGood s = .next t ∧
      t.rst = { s.rst with coreGood := true, coreAt := s.now } ∧ s.framed t [.rst] []) ∧
    (∃ t, exec .realTimeClockAlarm s = .next t ∧ (s.live 7 = true → t.pends 159 = true) ∧
      s.framed t [.regs, .evt] [R.EVT_PEND 4])) ∧
  (∀ (s : State) (rid : Rid), s.serves rid 0 →
    (wardenCore rid = true → s.inHold = false → ∃ t, exec (.softReset rid) s = .next t ∧ s.resets t 3) ∧
    (wardenCore rid = false → ∃ t, exec (.softReset rid) s = .next t ∧ s.framed t [.regs, .answer] [R.RST_SYSRST]) ∧
    (s.flag R.RST_WDOG_CFG_EN = false → ∃ t, exec (.watchdogEnable rid) s = .next t ∧ t.flag R.RST_WDOG_CFG_EN = true ∧
      t.fld R.RST_WDOG_CFG_TIMEOUT = s.fld R.RST_WDOG_CFG_TIMEOUT ∧ t.rst = { s.rst with wdogFrom := s.now } ∧
      s.framed t [.regs, .answer, .rst] [R.RST_WDOG_CFG]) ∧
    (s.flag R.RST_WDOG_CFG_EN = true → ∃ t, exec (.watchdogEnable rid) s = .next t ∧ t.flag R.RST_WDOG_CFG_EN = true ∧
      t.fld R.RST_WDOG_CFG_TIMEOUT = s.fld R.RST_WDOG_CFG_TIMEOUT ∧ s.framed t [.regs, .answer] [R.RST_WDOG_CFG]) ∧
    (∃ t, exec (.watchdogKick rid) s = .next t ∧
      t.rst = { s.rst with wdogFrom := if s.flag R.RST_WDOG_CFG_EN then s.now else s.rst.wdogFrom } ∧
      s.framed t [.regs, .answer, .rst] [R.RST_WDOG_KICK])) ∧
  (∀ (s : State), s.vigil = true → s.inHold = false →
    (s.rst.coreGood = true → ∃ t, exec .brownout s = .next t ∧ s.resets t 2 ∧ t.rst.coreGood = false ∧ t.rst.brown = true) ∧
    (∀ x, s.nq.resetAt = some x → ∃ t, exec .niquevorReset s = .next t ∧ (s.advanceTo x).resets t 4 ∧ t.nq.resetAt = none) ∧
    (s.flag R.RST_WDOG_CFG_EN = true →
      let u := s.advanceTo (s.rst.wdogFrom + max 1 (s.fld R.RST_WDOG_CFG_TIMEOUT) * 1000000000)
      ∃ t, exec .watchdogExpiry s = .next t ∧ u.resets t 6) ∧
    (s.rst.pinLow = false → s.flag R.RST_STAT_PIN_ARMED = true → ∃ t, exec .resetNLow s = .next t ∧ s.resets t 1 ∧
      t.rst.pinLow = true ∧ t.flag R.RST_STAT_PIN_LOW = true)) ∧
  (∀ (s : State), s.vigil = true →
    (s.rst.pinLow = false → s.flag R.RST_STAT_PIN_ARMED = false → ∃ t, exec .resetNLow s = .next t ∧
      t.rst = { s.rst with pinLow := true, pinSince := s.now - 10000000 } ∧ t.flag R.RST_STAT_PIN_LOW = true ∧
      s.framed t [.regs, .rst] [R.RST_STAT]) ∧
    (s.rst.pinLow = true → ∃ t, exec .resetNHigh s = .next t ∧
      t.rst = { s.rst with pinLow := false, pinSince := s.now - 10000000 } ∧ t.flag R.RST_STAT_PIN_LOW = false ∧
      s.framed t [.regs, .rst] [R.RST_STAT]) ∧
    (s.rst.pinLow = true → let u := s.advanceTo (s.rst.pinSince + 20000000000)
      ∃ t, exec .resetNStuck s = .next t ∧ t.flag R.RST_STAT_STUCK = true ∧
        t.flag R.RST_STAT_PIN_ARMED = (s.flag R.RST_STAT_PIN_ARMED && s.flag R.RST_STAT_RSTPOL) ∧ u.framed t [.regs] [R.RST_STAT]) ∧
    (s.rst.pinLow = false → s.flag R.RST_STAT_PIN_ARMED = false → let u := s.advanceTo (s.rst.pinSince + 1000000000)
      ∃ t, exec .resetNRearm s = .next t ∧ t.flag R.RST_STAT_PIN_ARMED = true ∧ t.flag R.RST_STAT_STUCK = s.flag R.RST_STAT_STUCK ∧
        u.framed t [.regs] [R.RST_STAT])) ∧
  (∀ (s : State) (r : SysReset), s.inHold = true → s.rst.sys = some r → s.pwr.active = none → r.zeroing = false →
    s.rst.pinLow = false ∨ s.flag R.RST_STAT_PIN_ARMED = false → s.rst.brown = false ∨ s.rst.coreGood = true →
    s.trc.extest = false → s.nq.restoreDue = false →
    let u := s.advanceTo (max (r.at_ + 10000) (if s.rst.brown then s.rst.coreAt + 1000000 else 0))
    ∃ t, exec .systemResetHoldEnd s = .next t ∧ u.asksBootSet t ∧ t.rst.sys = none ∧ t.now = u.now ∧
      (∀ d, d ∈ r.scope → 0 < d → d < 24 → s.bootDomains.contains d = false → s.dom d ≠ 0 → (⟨d, 0⟩ : PwrReq) ∈ t.pwr.vigil ∧
        t.up d = false) ∧
      (∀ d, d ∈ r.scope → 0 < d → d < 24 → s.bootDomains.contains d = true → s.isOn d = true → t.up d = true)) ∧
  (∀ (s : State), s.rst.phase = .bootSet → s.pwr.active = none → (∀ x ∈ s.pwr.vigil, s.dom x.domain = x.action) →
    ∃ t, exec .bootEntry s = .next t ∧ t.rst.phase = .running ∧ t.rst.outAt = some (s.now + s.fld R.RST_CFG_OUTEXT * 1000000) ∧
      t.pwr = { s.pwr with vigil := [] } ∧
      (s.up 3 = true → (t.thr 0).run = 1 ∧ (t.thr 0).pc = (s.thr 0).pc ∧ t.regN R.RST_BOOT = 0 ∧ t.rst.boot.active = true ∧
        t.rst.boot.index = 0 ∧ t.rst.boot.sources = (match s.fld R.FUS_POLICY_BOOTPOL with
          | 0 => [1, 2]
          | 1 => [1]
          | 2 => [2, 1]
          | 3 => [2]
          | 4 => [3]
          | 5 => [1, 3]
          | _ => [])) ∧
      (s.up 3 = false → s.framed t [.pwr, .rst] [])) ∧
  (∀ (s : State) (x : Nat), s.rst.outAt = some x → let u := s.advanceTo x
    ∃ t, exec .rstOutRelease s = .next t ∧ t.rst = { u.rst with rstOutHigh := true, outAt := none } ∧ u.framed t [.rst] [])

/-- R510 to R520: the boot ROM asks for the domains its source needs, reads the store or the card and records the result, keeps the
entry point of an image that passes, or waits for one over Niquevor, at most 600 s; it then jumps to the image, or halts T0. -/
def Obligations.BootRom : Prop :=
  (∀ (s : State) (image : List Byte) (mediaErr : Bool) (src : Nat), s.romTries src → s.flag R.RST_BOOT_WAIT_NQ = false →
    s.live 6 = true →
    let asks := fun (d : Nat) => d ∈ [10, 22] ∧ (d = 22 → src = 2) ∧ s.isOn d = false ∧ d ∉ s.rst.boot.asked
    let c := Instr.bootSourceAttempt image mediaErr
    (asks 10 → asks 22 → s.pwr.queue.length < 7 → ∃ t, exec c s = .next t ∧
      t.pwr = { s.pwr with queue := s.pwr.queue ++ [⟨10, 1⟩, ⟨22, 1⟩] } ∧
      t.rst = { s.rst with boot := { s.rst.boot with asked := s.rst.boot.asked ++ [10, 22] } } ∧ s.framed t [.pwr, .rst] []) ∧
    (∀ d e, asks d → ¬ asks e → (d = 10 ∧ e = 22) ∨ (d = 22 ∧ e = 10) → s.pwr.queue.length < 8 → ∃ t, exec c s = .next t ∧
      t.pwr = { s.pwr with queue := s.pwr.queue ++ [⟨d, 1⟩] } ∧
      t.rst = { s.rst with boot := { s.rst.boot with asked := s.rst.boot.asked ++ [d] } } ∧ s.framed t [.pwr, .rst] []) ∧
    (¬ asks 10 → ¬ asks 22 → s.romWaits 10 = false → s.romWaits 22 = false →
      let field := if s.rst.boot.index = 0 then R.RST_BOOT_RESULT_A else R.RST_BOOT_RESULT_B
      let fails := fun (t : State) (code : Nat) => t.fld field = code ∧
        t.rst = { s.rst with boot := { s.rst.boot with index := s.rst.boot.index + 1 } }
      let passes := fun (t : State) (h : List Byte) => t.fld field = 0 ∧
        t.rst = { s.rst with boot := { s.rst.boot with entry := some (0x10000000 + leNat (slice h 12 4)) } }
      (src = 3 → ∃ t, exec c s = .next t ∧ t.flag R.RST_BOOT_WAIT_NQ = true ∧ t.rst.boot.waitFrom = s.now ∧
        s.framed t [.regs, .rst] [R.RST_BOOT]) ∧
      (src = 2 → s.isOn 22 = false ∨ (s.flag R.SDH_STAT_PRESENT = true ∧ mediaErr = true) →
        ∃ t, exec c s = .next t ∧ fails t 6 ∧ s.framed t [.regs, .rst] [R.RST_BOOT]) ∧
      (src = 2 → s.isOn 22 = true → s.flag R.SDH_STAT_PRESENT = false →
        ∃ t, exec c s = .next t ∧ fails t 1 ∧ s.framed t [.regs, .rst] [R.RST_BOOT]) ∧
      (src = 2 → s.isOn 22 = true → s.flag R.SDH_STAT_PRESENT = true → mediaErr = false →
        let h := slice image 0 256
        let body := slice image 256 (bodyLen h)
        (headerCode h 2080768 ≠ 0 → ∃ t, exec c s = .next t ∧ fails t (headerCode h 2080768) ∧
          s.framed t [.regs, .rst] [R.RST_BOOT]) ∧
        (headerCode h 2080768 = 0 → s.inRam 0x10000000 (bodyLen h) → ∃ t, exec c s = .next t ∧
          (∀ k, k < bodyLen h → t.sramByte (0x10000000 + k) = body.getD k 0) ∧ s.ramKept t [(0x10000000, bodyLen h)] ∧
          (s.imageCode h body = 0 → passes t h) ∧ (s.imageCode h body ≠ 0 → fails t (s.imageCode h body)) ∧
          s.framed t [.regs, .rst, .sram] [R.RST_BOOT])) ∧
      (src = 1 → 16 ∈ s.nvs.bad → ∃ t, exec c s = .next t ∧ t.fld field = 6 ∧ t.rst.boot.index = s.rst.boot.index + 1 ∧
        t.sram = s.sram) ∧
      (src = 1 → s.nvs.bad = [] →
        let h := (s.nvsPage 16).take 256
        let body := (List.range (bodyLen h)).map (fun k => (s.nvsPage (16 + (256 + k) / 1024)).getD ((256 + k) % 1024) 0)
        (headerCode h 16128 ≠ 0 → ∃ t, exec c s = .next t ∧ fails t (headerCode h 16128) ∧ t.sram = s.sram) ∧
        (headerCode h 16128 = 0 → s.inRam 0x10000000 (bodyLen h) → ∃ t, exec c s = .next t ∧
          (∀ k, k < bodyLen h → t.sramByte (0x10000000 + k) = body.getD k 0) ∧ s.ramKept t [(0x10000000, bodyLen h)] ∧
          (s.imageCode h body = 0 → passes t h) ∧ (s.imageCode h body ≠ 0 → fails t (s.imageCode h body)))))) ∧
  (∀ (s : State) (total : Nat), s.romRuns = true → s.flag R.RST_BOOT_WAIT_NQ = true → s.rst.boot.received = some total →
    s.inRam 0x101FC000 256 →
    let h := s.ram 0x101FC000 256
    let body := s.ram 0x10000000 (bodyLen h)
    let head := if headerCode h 2080768 = 0 ∧ total ≠ 256 + bodyLen h then 2 else headerCode h 2080768
    let code := if head = 0 then s.imageCode h body else head
    let field := if s.rst.boot.index = 0 then R.RST_BOOT_RESULT_A else R.RST_BOOT_RESULT_B
    ∃ t, exec .bootImageReceived s = .next t ∧ t.fld field = code ∧
      (code = 0 → t.flag R.RST_BOOT_WAIT_NQ = false ∧ t.rst.boot.entry = some (0x10000000 + leNat (slice h 12 4))) ∧
      (code ≠ 0 → t.flag R.RST_BOOT_WAIT_NQ = true ∧
        t.rst = { s.rst with boot := { s.rst.boot with received := none, checked := true } }) ∧
      s.framed t [.regs, .rst] [R.RST_BOOT]) ∧
  (∀ (s : State), s.romRuns = true → s.flag R.RST_BOOT_WAIT_NQ = true →
    let u := s.advanceTo (s.rst.boot.waitFrom + 600000000000)
    ∃ t, exec .niquevorBootTimeout s = .next t ∧ t.flag R.RST_BOOT_WAIT_NQ = false ∧ t.rst.boot.index = s.rst.boot.index + 1 ∧
      u.framed t [.regs, .rst] [R.RST_BOOT]) ∧
  (∀ (s : State) (e : Nat), s.rst.boot.active = true → s.live 3 = true → (s.thr 0).run = 1 → s.rst.boot.entry = some e →
    (s.core 0).sb = [] → (s.core 0).dcache = [] →
    let off := s.rst.boot.asked.contains 22 && s.isOn 22
    ∃ t, exec .bootImageAccepted s = .next t ∧ t.rst.boot = {} ∧ t.fld R.RST_BOOT_USED = s.bootSource % 16 ∧
      t.flag R.RST_BOOT_AUTH = s.keyed ∧ (t.core 0).icache = [] ∧
      t.thr 0 = { s.thr 0 with pc := BitVec.ofNat 32 e, warden := true, ml := 7, hx := false, evec := 0, wsp := 0 } ∧
      s.onlyThread t 0 ∧ t.sram = s.sram ∧
      (off = true → s.pwr.queue.length < 8 → t.pwr = { s.pwr with queue := s.pwr.queue ++ [⟨22, 0⟩] }) ∧
      (off = false → t.pwr = s.pwr)) ∧
  (∀ (s : State), s.romRuns = true → s.bootSource = 0 →
    ∃ t, exec .bootFail s = .next t ∧ (t.thr 0).run = 3 ∧ (t.thr 0).pc = (s.thr 0).pc ∧ s.onlyThread t 0 ∧ t.rst.boot = {} ∧
      (∀ d, d ∈ s.rst.boot.asked → s.isOn d = true → s.pwr.queue.length + s.rst.boot.asked.length ≤ 8 → (⟨d, 0⟩ : PwrReq) ∈ t.pwr.queue) ∧
      t.sram = s.sram) ∧
  (∀ (s : State) (rid : Rid) (data : Word), s.serves rid 0 →
    ∃ t, exec (.remapWrite rid data) s = .next t ∧ t.flag R.RST_REMAP_REMAP = data.getLsbD 0 ∧
      s.framed t [.regs, .answer] [R.RST_REMAP])
end

