-- ==== Sys2Proof/Laws/Bits.lean ====
section
/-! SUPPORT. Laws of the bit fields of numbers: a field reads back what was put into it, and putting one field leaves the others. -/

-- Theorems one after another: a thread for each would take more memory than there is.
set_option Elab.async false

namespace Sys2Proof.Machine

/-- The bits of a field. -/
theorem testBit_nbits (v hi lo i : Nat) : (nbits v hi lo).testBit i = (decide (i < hi + 1 - lo) && v.testBit (lo + i)) := by
  unfold nbits
  rw [Nat.testBit_mod_two_pow, Nat.testBit_div_two_pow, Nat.add_comm i lo]

/-- A number is its low part, a field, and the rest. -/
theorem nput_eq (w hi lo x : Nat) (h : lo ≤ hi + 1) :
    nput w hi lo x = (w / 2 ^ (hi + 1) * 2 ^ (hi + 1 - lo) + x % 2 ^ (hi + 1 - lo)) * 2 ^ lo + w % 2 ^ lo := by
  have e : 2 ^ (hi + 1) = 2 ^ (hi + 1 - lo) * 2 ^ lo := by rw [← Nat.pow_add]; congr 1; omega
  have d : w / 2 ^ (hi + 1) = w / 2 ^ lo / 2 ^ (hi + 1 - lo) := by
    rw [e, Nat.mul_comm, Nat.div_div_eq_div_mul]
  have a := Nat.div_add_mod w (2 ^ lo)
  have b := Nat.div_add_mod (w / 2 ^ lo) (2 ^ (hi + 1 - lo))
  have c : 2 ^ lo * (w / 2 ^ lo) = w / 2 ^ lo / 2 ^ (hi + 1 - lo) * 2 ^ (hi + 1 - lo) * 2 ^ lo
      + w / 2 ^ lo % 2 ^ (hi + 1 - lo) * 2 ^ lo := by
    conv => lhs; rw [← b]
    ring
  unfold nput nbits
  rw [d, Nat.add_mul]
  omega

/-- The bits of a number after a field is put into it. -/
theorem testBit_nput (w hi lo x i : Nat) (h : lo ≤ hi + 1) :
    (nput w hi lo x).testBit i = if lo ≤ i ∧ i ≤ hi then x.testBit (i - lo) else w.testBit i := by
  rw [nput_eq _ _ _ _ h, Nat.mul_comm _ (2 ^ lo), Nat.testBit_two_pow_mul_add _ (Nat.mod_lt _ (Nat.two_pow_pos lo))]
  by_cases h1 : i < lo
  · have : ¬ (lo ≤ i ∧ i ≤ hi) := by omega
    simp [h1, this, Nat.testBit_mod_two_pow]
  · rw [if_neg h1, Nat.mul_comm _ (2 ^ (hi + 1 - lo)),
      Nat.testBit_two_pow_mul_add _ (Nat.mod_lt _ (Nat.two_pow_pos _)), Nat.testBit_mod_two_pow]
    by_cases h2 : i ≤ hi
    · have h3 : i - lo < hi + 1 - lo := by omega
      have h4 : lo ≤ i ∧ i ≤ hi := by omega
      simp [h3, h4]
    · have h3 : ¬ (i - lo < hi + 1 - lo) := by omega
      have h4 : ¬ (lo ≤ i ∧ i ≤ hi) := by omega
      rw [if_neg h3, if_neg h4, Nat.testBit_div_two_pow]
      congr 1
      omega

/-- A field reads back what was put into it. -/
theorem nbits_nput_same (w hi lo x : Nat) (h : lo ≤ hi + 1) : nbits (nput w hi lo x) hi lo = x % 2 ^ (hi + 1 - lo) := by
  apply Nat.eq_of_testBit_eq
  intro i
  rw [testBit_nbits, testBit_nput _ _ _ _ _ h, Nat.testBit_mod_two_pow]
  by_cases h1 : i < hi + 1 - lo
  · have h2 : lo ≤ lo + i ∧ lo + i ≤ hi := by omega
    simp [h1, h2]
  · simp [h1]

/-- Putting one field leaves a disjoint one. -/
theorem nbits_nput_other (w hi lo x hi' lo' : Nat) (h : lo ≤ hi + 1) (d : hi < lo' ∨ hi' < lo) :
    nbits (nput w hi lo x) hi' lo' = nbits w hi' lo' := by
  apply Nat.eq_of_testBit_eq
  intro i
  rw [testBit_nbits, testBit_nbits, testBit_nput _ _ _ _ _ h]
  by_cases h1 : i < hi' + 1 - lo'
  · have h2 : ¬ (lo ≤ lo' + i ∧ lo' + i ≤ hi) := by omega
    simp [h2]
  · simp [h1]

/-- A field inside the low 32 bits does not see the bits above. -/
theorem nbits_mod (v hi lo : Nat) (h : hi < 32) : nbits (v % 2 ^ 32) hi lo = nbits v hi lo := by
  apply Nat.eq_of_testBit_eq
  intro i
  rw [testBit_nbits, testBit_nbits, Nat.testBit_mod_two_pow]
  by_cases h1 : i < hi + 1 - lo
  · have : lo + i < 32 := by omega
    simp [this]
  · simp [h1]

/-- A field is smaller than its width allows. -/
theorem nbits_lt (v hi lo : Nat) : nbits v hi lo < 2 ^ (hi + 1 - lo) := Nat.mod_lt _ (Nat.two_pow_pos _)

end Sys2Proof.Machine
end

