-- ==== Sys2Proof/Laws/State.lean ====
section
/-! SUPPORT. What each field of the state is after each named update: one lemma per field and update, so that no proof unfolds
a record update; and what registers, fields and domains are after an update of something else. -/

-- Theorems one after another: a thread for each would take more memory than there is.
set_option Elab.async false

namespace Sys2Proof.Machine

/-! ### `withPending` -/

@[simp] theorem State.withPending_pending (s : State) (x : List Instr) : (s.withPending x).pending = x := rfl
@[simp] theorem State.withPending_now (s : State) (x : List Instr) : (s.withPending x).now = s.now := rfl
@[simp] theorem State.withPending_free (s : State) (x : List Instr) : (s.withPending x).free = s.free := rfl
@[simp] theorem State.withPending_regs (s : State) (x : List Instr) : (s.withPending x).regs = s.regs := rfl
@[simp] theorem State.withPending_snaps (s : State) (x : List Instr) : (s.withPending x).snaps = s.snaps := rfl
@[simp] theorem State.withPending_dict (s : State) (x : List Instr) : (s.withPending x).dict = s.dict := rfl
@[simp] theorem State.withPending_staged (s : State) (x : List Instr) : (s.withPending x).staged = s.staged := rfl
@[simp] theorem State.withPending_pairs (s : State) (x : List Instr) : (s.withPending x).pairs = s.pairs := rfl
@[simp] theorem State.withPending_answer (s : State) (x : List Instr) : (s.withPending x).answer = s.answer := rfl
@[simp] theorem State.withPending_sram (s : State) (x : List Instr) : (s.withPending x).sram = s.sram := rfl
@[simp] theorem State.withPending_pwr (s : State) (x : List Instr) : (s.withPending x).pwr = s.pwr := rfl
@[simp] theorem State.withPending_rst (s : State) (x : List Instr) : (s.withPending x).rst = s.rst := rfl
@[simp] theorem State.withPending_tmp (s : State) (x : List Instr) : (s.withPending x).tmp = s.tmp := rfl
@[simp] theorem State.withPending_nvs (s : State) (x : List Instr) : (s.withPending x).nvs = s.nvs := rfl
@[simp] theorem State.withPending_fus (s : State) (x : List Instr) : (s.withPending x).fus = s.fus := rfl
@[simp] theorem State.withPending_trn (s : State) (x : List Instr) : (s.withPending x).trn = s.trn := rfl
@[simp] theorem State.withPending_cal (s : State) (x : List Instr) : (s.withPending x).cal = s.cal := rfl
@[simp] theorem State.withPending_hld (s : State) (x : List Instr) : (s.withPending x).hld = s.hld := rfl
@[simp] theorem State.withPending_mtx (s : State) (x : List Instr) : (s.withPending x).mtx = s.mtx := rfl
@[simp] theorem State.withPending_lanes (s : State) (x : List Instr) : (s.withPending x).lanes = s.lanes := rfl
@[simp] theorem State.withPending_convs (s : State) (x : List Instr) : (s.withPending x).convs = s.convs := rfl
@[simp] theorem State.withPending_hvs (s : State) (x : List Instr) : (s.withPending x).hvs = s.hvs := rfl
@[simp] theorem State.withPending_cls (s : State) (x : List Instr) : (s.withPending x).cls = s.cls := rfl
@[simp] theorem State.withPending_aut (s : State) (x : List Instr) : (s.withPending x).aut = s.aut := rfl
@[simp] theorem State.withPending_cip (s : State) (x : List Instr) : (s.withPending x).cip = s.cip := rfl
@[simp] theorem State.withPending_threads (s : State) (x : List Instr) : (s.withPending x).threads = s.threads := rfl
@[simp] theorem State.withPending_cores (s : State) (x : List Instr) : (s.withPending x).cores = s.cores := rfl
@[simp] theorem State.withPending_evt (s : State) (x : List Instr) : (s.withPending x).evt = s.evt := rfl
@[simp] theorem State.withPending_trc (s : State) (x : List Instr) : (s.withPending x).trc = s.trc := rfl
@[simp] theorem State.withPending_ic (s : State) (x : List Instr) : (s.withPending x).ic = s.ic := rfl
@[simp] theorem State.withPending_hk (s : State) (x : List Instr) : (s.withPending x).hk = s.hk := rfl
@[simp] theorem State.withPending_dmc (s : State) (x : List Instr) : (s.withPending x).dmc = s.dmc := rfl
@[simp] theorem State.withPending_idc (s : State) (x : List Instr) : (s.withPending x).idc = s.idc := rfl
@[simp] theorem State.withPending_sdh (s : State) (x : List Instr) : (s.withPending x).sdh = s.sdh := rfl
@[simp] theorem State.withPending_nq (s : State) (x : List Instr) : (s.withPending x).nq = s.nq := rfl
@[simp] theorem State.withPending_reg (s : State) (x : List Instr) (a : Nat) : (s.withPending x).reg a = s.reg a := rfl
@[simp] theorem State.withPending_regN (s : State) (x : List Instr) (a : Nat) : (s.withPending x).regN a = s.regN a := rfl
@[simp] theorem State.withPending_fld (s : State) (x : List Instr) (f : Fld) : (s.withPending x).fld f = s.fld f := rfl
@[simp] theorem State.withPending_flag (s : State) (x : List Instr) (f : Fld) : (s.withPending x).flag f = s.flag f := rfl
@[simp] theorem State.withPending_dom (s : State) (x : List Instr) (d : Nat) : (s.withPending x).dom d = s.dom d := rfl
@[simp] theorem State.withPending_isOn (s : State) (x : List Instr) (d : Nat) : (s.withPending x).isOn d = s.isOn d := rfl
@[simp] theorem State.withPending_up (s : State) (x : List Instr) (d : Nat) : (s.withPending x).up d = s.up d := rfl
@[simp] theorem State.withPending_live (s : State) (x : List Instr) (d : Nat) : (s.withPending x).live d = s.live d := rfl
@[simp] theorem State.withPending_vigil (s : State) (x : List Instr) : (s.withPending x).vigil = s.vigil := rfl

/-! ### `withNow` -/

@[simp] theorem State.withNow_pending (s : State) (x : Nat) : (s.withNow x).pending = s.pending := rfl
@[simp] theorem State.withNow_now (s : State) (x : Nat) : (s.withNow x).now = x := rfl
@[simp] theorem State.withNow_free (s : State) (x : Nat) : (s.withNow x).free = s.free := rfl
@[simp] theorem State.withNow_regs (s : State) (x : Nat) : (s.withNow x).regs = s.regs := rfl
@[simp] theorem State.withNow_snaps (s : State) (x : Nat) : (s.withNow x).snaps = s.snaps := rfl
@[simp] theorem State.withNow_dict (s : State) (x : Nat) : (s.withNow x).dict = s.dict := rfl
@[simp] theorem State.withNow_staged (s : State) (x : Nat) : (s.withNow x).staged = s.staged := rfl
@[simp] theorem State.withNow_pairs (s : State) (x : Nat) : (s.withNow x).pairs = s.pairs := rfl
@[simp] theorem State.withNow_answer (s : State) (x : Nat) : (s.withNow x).answer = s.answer := rfl
@[simp] theorem State.withNow_sram (s : State) (x : Nat) : (s.withNow x).sram = s.sram := rfl
@[simp] theorem State.withNow_pwr (s : State) (x : Nat) : (s.withNow x).pwr = s.pwr := rfl
@[simp] theorem State.withNow_rst (s : State) (x : Nat) : (s.withNow x).rst = s.rst := rfl
@[simp] theorem State.withNow_tmp (s : State) (x : Nat) : (s.withNow x).tmp = s.tmp := rfl
@[simp] theorem State.withNow_nvs (s : State) (x : Nat) : (s.withNow x).nvs = s.nvs := rfl
@[simp] theorem State.withNow_fus (s : State) (x : Nat) : (s.withNow x).fus = s.fus := rfl
@[simp] theorem State.withNow_trn (s : State) (x : Nat) : (s.withNow x).trn = s.trn := rfl
@[simp] theorem State.withNow_cal (s : State) (x : Nat) : (s.withNow x).cal = s.cal := rfl
@[simp] theorem State.withNow_hld (s : State) (x : Nat) : (s.withNow x).hld = s.hld := rfl
@[simp] theorem State.withNow_mtx (s : State) (x : Nat) : (s.withNow x).mtx = s.mtx := rfl
@[simp] theorem State.withNow_lanes (s : State) (x : Nat) : (s.withNow x).lanes = s.lanes := rfl
@[simp] theorem State.withNow_convs (s : State) (x : Nat) : (s.withNow x).convs = s.convs := rfl
@[simp] theorem State.withNow_hvs (s : State) (x : Nat) : (s.withNow x).hvs = s.hvs := rfl
@[simp] theorem State.withNow_cls (s : State) (x : Nat) : (s.withNow x).cls = s.cls := rfl
@[simp] theorem State.withNow_aut (s : State) (x : Nat) : (s.withNow x).aut = s.aut := rfl
@[simp] theorem State.withNow_cip (s : State) (x : Nat) : (s.withNow x).cip = s.cip := rfl
@[simp] theorem State.withNow_threads (s : State) (x : Nat) : (s.withNow x).threads = s.threads := rfl
@[simp] theorem State.withNow_cores (s : State) (x : Nat) : (s.withNow x).cores = s.cores := rfl
@[simp] theorem State.withNow_evt (s : State) (x : Nat) : (s.withNow x).evt = s.evt := rfl
@[simp] theorem State.withNow_trc (s : State) (x : Nat) : (s.withNow x).trc = s.trc := rfl
@[simp] theorem State.withNow_ic (s : State) (x : Nat) : (s.withNow x).ic = s.ic := rfl
@[simp] theorem State.withNow_hk (s : State) (x : Nat) : (s.withNow x).hk = s.hk := rfl
@[simp] theorem State.withNow_dmc (s : State) (x : Nat) : (s.withNow x).dmc = s.dmc := rfl
@[simp] theorem State.withNow_idc (s : State) (x : Nat) : (s.withNow x).idc = s.idc := rfl
@[simp] theorem State.withNow_sdh (s : State) (x : Nat) : (s.withNow x).sdh = s.sdh := rfl
@[simp] theorem State.withNow_nq (s : State) (x : Nat) : (s.withNow x).nq = s.nq := rfl
@[simp] theorem State.withNow_reg (s : State) (x : Nat) (a : Nat) : (s.withNow x).reg a = s.reg a := rfl
@[simp] theorem State.withNow_regN (s : State) (x : Nat) (a : Nat) : (s.withNow x).regN a = s.regN a := rfl
@[simp] theorem State.withNow_fld (s : State) (x : Nat) (f : Fld) : (s.withNow x).fld f = s.fld f := rfl
@[simp] theorem State.withNow_flag (s : State) (x : Nat) (f : Fld) : (s.withNow x).flag f = s.flag f := rfl
@[simp] theorem State.withNow_dom (s : State) (x : Nat) (d : Nat) : (s.withNow x).dom d = s.dom d := rfl
@[simp] theorem State.withNow_isOn (s : State) (x : Nat) (d : Nat) : (s.withNow x).isOn d = s.isOn d := rfl
@[simp] theorem State.withNow_up (s : State) (x : Nat) (d : Nat) : (s.withNow x).up d = s.up d := rfl
@[simp] theorem State.withNow_live (s : State) (x : Nat) (d : Nat) : (s.withNow x).live d = s.live d := rfl
@[simp] theorem State.withNow_vigil (s : State) (x : Nat) : (s.withNow x).vigil = s.vigil := rfl

/-! ### `withFree` -/

@[simp] theorem State.withFree_pending (s : State) (x : Nat) : (s.withFree x).pending = s.pending := rfl
@[simp] theorem State.withFree_now (s : State) (x : Nat) : (s.withFree x).now = s.now := rfl
@[simp] theorem State.withFree_free (s : State) (x : Nat) : (s.withFree x).free = x := rfl
@[simp] theorem State.withFree_regs (s : State) (x : Nat) : (s.withFree x).regs = s.regs := rfl
@[simp] theorem State.withFree_snaps (s : State) (x : Nat) : (s.withFree x).snaps = s.snaps := rfl
@[simp] theorem State.withFree_dict (s : State) (x : Nat) : (s.withFree x).dict = s.dict := rfl
@[simp] theorem State.withFree_staged (s : State) (x : Nat) : (s.withFree x).staged = s.staged := rfl
@[simp] theorem State.withFree_pairs (s : State) (x : Nat) : (s.withFree x).pairs = s.pairs := rfl
@[simp] theorem State.withFree_answer (s : State) (x : Nat) : (s.withFree x).answer = s.answer := rfl
@[simp] theorem State.withFree_sram (s : State) (x : Nat) : (s.withFree x).sram = s.sram := rfl
@[simp] theorem State.withFree_pwr (s : State) (x : Nat) : (s.withFree x).pwr = s.pwr := rfl
@[simp] theorem State.withFree_rst (s : State) (x : Nat) : (s.withFree x).rst = s.rst := rfl
@[simp] theorem State.withFree_tmp (s : State) (x : Nat) : (s.withFree x).tmp = s.tmp := rfl
@[simp] theorem State.withFree_nvs (s : State) (x : Nat) : (s.withFree x).nvs = s.nvs := rfl
@[simp] theorem State.withFree_fus (s : State) (x : Nat) : (s.withFree x).fus = s.fus := rfl
@[simp] theorem State.withFree_trn (s : State) (x : Nat) : (s.withFree x).trn = s.trn := rfl
@[simp] theorem State.withFree_cal (s : State) (x : Nat) : (s.withFree x).cal = s.cal := rfl
@[simp] theorem State.withFree_hld (s : State) (x : Nat) : (s.withFree x).hld = s.hld := rfl
@[simp] theorem State.withFree_mtx (s : State) (x : Nat) : (s.withFree x).mtx = s.mtx := rfl
@[simp] theorem State.withFree_lanes (s : State) (x : Nat) : (s.withFree x).lanes = s.lanes := rfl
@[simp] theorem State.withFree_convs (s : State) (x : Nat) : (s.withFree x).convs = s.convs := rfl
@[simp] theorem State.withFree_hvs (s : State) (x : Nat) : (s.withFree x).hvs = s.hvs := rfl
@[simp] theorem State.withFree_cls (s : State) (x : Nat) : (s.withFree x).cls = s.cls := rfl
@[simp] theorem State.withFree_aut (s : State) (x : Nat) : (s.withFree x).aut = s.aut := rfl
@[simp] theorem State.withFree_cip (s : State) (x : Nat) : (s.withFree x).cip = s.cip := rfl
@[simp] theorem State.withFree_threads (s : State) (x : Nat) : (s.withFree x).threads = s.threads := rfl
@[simp] theorem State.withFree_cores (s : State) (x : Nat) : (s.withFree x).cores = s.cores := rfl
@[simp] theorem State.withFree_evt (s : State) (x : Nat) : (s.withFree x).evt = s.evt := rfl
@[simp] theorem State.withFree_trc (s : State) (x : Nat) : (s.withFree x).trc = s.trc := rfl
@[simp] theorem State.withFree_ic (s : State) (x : Nat) : (s.withFree x).ic = s.ic := rfl
@[simp] theorem State.withFree_hk (s : State) (x : Nat) : (s.withFree x).hk = s.hk := rfl
@[simp] theorem State.withFree_dmc (s : State) (x : Nat) : (s.withFree x).dmc = s.dmc := rfl
@[simp] theorem State.withFree_idc (s : State) (x : Nat) : (s.withFree x).idc = s.idc := rfl
@[simp] theorem State.withFree_sdh (s : State) (x : Nat) : (s.withFree x).sdh = s.sdh := rfl
@[simp] theorem State.withFree_nq (s : State) (x : Nat) : (s.withFree x).nq = s.nq := rfl
@[simp] theorem State.withFree_reg (s : State) (x : Nat) (a : Nat) : (s.withFree x).reg a = s.reg a := rfl
@[simp] theorem State.withFree_regN (s : State) (x : Nat) (a : Nat) : (s.withFree x).regN a = s.regN a := rfl
@[simp] theorem State.withFree_fld (s : State) (x : Nat) (f : Fld) : (s.withFree x).fld f = s.fld f := rfl
@[simp] theorem State.withFree_flag (s : State) (x : Nat) (f : Fld) : (s.withFree x).flag f = s.flag f := rfl
@[simp] theorem State.withFree_dom (s : State) (x : Nat) (d : Nat) : (s.withFree x).dom d = s.dom d := rfl
@[simp] theorem State.withFree_isOn (s : State) (x : Nat) (d : Nat) : (s.withFree x).isOn d = s.isOn d := rfl
@[simp] theorem State.withFree_up (s : State) (x : Nat) (d : Nat) : (s.withFree x).up d = s.up d := rfl
@[simp] theorem State.withFree_live (s : State) (x : Nat) (d : Nat) : (s.withFree x).live d = s.live d := rfl
@[simp] theorem State.withFree_vigil (s : State) (x : Nat) : (s.withFree x).vigil = s.vigil := rfl

/-! ### `withRegs` -/

@[simp] theorem State.withRegs_pending (s : State) (x : List (Nat × Word)) : (s.withRegs x).pending = s.pending := rfl
@[simp] theorem State.withRegs_now (s : State) (x : List (Nat × Word)) : (s.withRegs x).now = s.now := rfl
@[simp] theorem State.withRegs_free (s : State) (x : List (Nat × Word)) : (s.withRegs x).free = s.free := rfl
@[simp] theorem State.withRegs_regs (s : State) (x : List (Nat × Word)) : (s.withRegs x).regs = x := rfl
@[simp] theorem State.withRegs_snaps (s : State) (x : List (Nat × Word)) : (s.withRegs x).snaps = s.snaps := rfl
@[simp] theorem State.withRegs_dict (s : State) (x : List (Nat × Word)) : (s.withRegs x).dict = s.dict := rfl
@[simp] theorem State.withRegs_staged (s : State) (x : List (Nat × Word)) : (s.withRegs x).staged = s.staged := rfl
@[simp] theorem State.withRegs_pairs (s : State) (x : List (Nat × Word)) : (s.withRegs x).pairs = s.pairs := rfl
@[simp] theorem State.withRegs_answer (s : State) (x : List (Nat × Word)) : (s.withRegs x).answer = s.answer := rfl
@[simp] theorem State.withRegs_sram (s : State) (x : List (Nat × Word)) : (s.withRegs x).sram = s.sram := rfl
@[simp] theorem State.withRegs_pwr (s : State) (x : List (Nat × Word)) : (s.withRegs x).pwr = s.pwr := rfl
@[simp] theorem State.withRegs_rst (s : State) (x : List (Nat × Word)) : (s.withRegs x).rst = s.rst := rfl
@[simp] theorem State.withRegs_tmp (s : State) (x : List (Nat × Word)) : (s.withRegs x).tmp = s.tmp := rfl
@[simp] theorem State.withRegs_nvs (s : State) (x : List (Nat × Word)) : (s.withRegs x).nvs = s.nvs := rfl
@[simp] theorem State.withRegs_fus (s : State) (x : List (Nat × Word)) : (s.withRegs x).fus = s.fus := rfl
@[simp] theorem State.withRegs_trn (s : State) (x : List (Nat × Word)) : (s.withRegs x).trn = s.trn := rfl
@[simp] theorem State.withRegs_cal (s : State) (x : List (Nat × Word)) : (s.withRegs x).cal = s.cal := rfl
@[simp] theorem State.withRegs_hld (s : State) (x : List (Nat × Word)) : (s.withRegs x).hld = s.hld := rfl
@[simp] theorem State.withRegs_mtx (s : State) (x : List (Nat × Word)) : (s.withRegs x).mtx = s.mtx := rfl
@[simp] theorem State.withRegs_lanes (s : State) (x : List (Nat × Word)) : (s.withRegs x).lanes = s.lanes := rfl
@[simp] theorem State.withRegs_convs (s : State) (x : List (Nat × Word)) : (s.withRegs x).convs = s.convs := rfl
@[simp] theorem State.withRegs_hvs (s : State) (x : List (Nat × Word)) : (s.withRegs x).hvs = s.hvs := rfl
@[simp] theorem State.withRegs_cls (s : State) (x : List (Nat × Word)) : (s.withRegs x).cls = s.cls := rfl
@[simp] theorem State.withRegs_aut (s : State) (x : List (Nat × Word)) : (s.withRegs x).aut = s.aut := rfl
@[simp] theorem State.withRegs_cip (s : State) (x : List (Nat × Word)) : (s.withRegs x).cip = s.cip := rfl
@[simp] theorem State.withRegs_threads (s : State) (x : List (Nat × Word)) : (s.withRegs x).threads = s.threads := rfl
@[simp] theorem State.withRegs_cores (s : State) (x : List (Nat × Word)) : (s.withRegs x).cores = s.cores := rfl
@[simp] theorem State.withRegs_evt (s : State) (x : List (Nat × Word)) : (s.withRegs x).evt = s.evt := rfl
@[simp] theorem State.withRegs_trc (s : State) (x : List (Nat × Word)) : (s.withRegs x).trc = s.trc := rfl
@[simp] theorem State.withRegs_ic (s : State) (x : List (Nat × Word)) : (s.withRegs x).ic = s.ic := rfl
@[simp] theorem State.withRegs_hk (s : State) (x : List (Nat × Word)) : (s.withRegs x).hk = s.hk := rfl
@[simp] theorem State.withRegs_dmc (s : State) (x : List (Nat × Word)) : (s.withRegs x).dmc = s.dmc := rfl
@[simp] theorem State.withRegs_idc (s : State) (x : List (Nat × Word)) : (s.withRegs x).idc = s.idc := rfl
@[simp] theorem State.withRegs_sdh (s : State) (x : List (Nat × Word)) : (s.withRegs x).sdh = s.sdh := rfl
@[simp] theorem State.withRegs_nq (s : State) (x : List (Nat × Word)) : (s.withRegs x).nq = s.nq := rfl

/-! ### `withSnaps` -/

@[simp] theorem State.withSnaps_pending (s : State) (x : List (Nat × Word)) : (s.withSnaps x).pending = s.pending := rfl
@[simp] theorem State.withSnaps_now (s : State) (x : List (Nat × Word)) : (s.withSnaps x).now = s.now := rfl
@[simp] theorem State.withSnaps_free (s : State) (x : List (Nat × Word)) : (s.withSnaps x).free = s.free := rfl
@[simp] theorem State.withSnaps_regs (s : State) (x : List (Nat × Word)) : (s.withSnaps x).regs = s.regs := rfl
@[simp] theorem State.withSnaps_snaps (s : State) (x : List (Nat × Word)) : (s.withSnaps x).snaps = x := rfl
@[simp] theorem State.withSnaps_dict (s : State) (x : List (Nat × Word)) : (s.withSnaps x).dict = s.dict := rfl
@[simp] theorem State.withSnaps_staged (s : State) (x : List (Nat × Word)) : (s.withSnaps x).staged = s.staged := rfl
@[simp] theorem State.withSnaps_pairs (s : State) (x : List (Nat × Word)) : (s.withSnaps x).pairs = s.pairs := rfl
@[simp] theorem State.withSnaps_answer (s : State) (x : List (Nat × Word)) : (s.withSnaps x).answer = s.answer := rfl
@[simp] theorem State.withSnaps_sram (s : State) (x : List (Nat × Word)) : (s.withSnaps x).sram = s.sram := rfl
@[simp] theorem State.withSnaps_pwr (s : State) (x : List (Nat × Word)) : (s.withSnaps x).pwr = s.pwr := rfl
@[simp] theorem State.withSnaps_rst (s : State) (x : List (Nat × Word)) : (s.withSnaps x).rst = s.rst := rfl
@[simp] theorem State.withSnaps_tmp (s : State) (x : List (Nat × Word)) : (s.withSnaps x).tmp = s.tmp := rfl
@[simp] theorem State.withSnaps_nvs (s : State) (x : List (Nat × Word)) : (s.withSnaps x).nvs = s.nvs := rfl
@[simp] theorem State.withSnaps_fus (s : State) (x : List (Nat × Word)) : (s.withSnaps x).fus = s.fus := rfl
@[simp] theorem State.withSnaps_trn (s : State) (x : List (Nat × Word)) : (s.withSnaps x).trn = s.trn := rfl
@[simp] theorem State.withSnaps_cal (s : State) (x : List (Nat × Word)) : (s.withSnaps x).cal = s.cal := rfl
@[simp] theorem State.withSnaps_hld (s : State) (x : List (Nat × Word)) : (s.withSnaps x).hld = s.hld := rfl
@[simp] theorem State.withSnaps_mtx (s : State) (x : List (Nat × Word)) : (s.withSnaps x).mtx = s.mtx := rfl
@[simp] theorem State.withSnaps_lanes (s : State) (x : List (Nat × Word)) : (s.withSnaps x).lanes = s.lanes := rfl
@[simp] theorem State.withSnaps_convs (s : State) (x : List (Nat × Word)) : (s.withSnaps x).convs = s.convs := rfl
@[simp] theorem State.withSnaps_hvs (s : State) (x : List (Nat × Word)) : (s.withSnaps x).hvs = s.hvs := rfl
@[simp] theorem State.withSnaps_cls (s : State) (x : List (Nat × Word)) : (s.withSnaps x).cls = s.cls := rfl
@[simp] theorem State.withSnaps_aut (s : State) (x : List (Nat × Word)) : (s.withSnaps x).aut = s.aut := rfl
@[simp] theorem State.withSnaps_cip (s : State) (x : List (Nat × Word)) : (s.withSnaps x).cip = s.cip := rfl
@[simp] theorem State.withSnaps_threads (s : State) (x : List (Nat × Word)) : (s.withSnaps x).threads = s.threads := rfl
@[simp] theorem State.withSnaps_cores (s : State) (x : List (Nat × Word)) : (s.withSnaps x).cores = s.cores := rfl
@[simp] theorem State.withSnaps_evt (s : State) (x : List (Nat × Word)) : (s.withSnaps x).evt = s.evt := rfl
@[simp] theorem State.withSnaps_trc (s : State) (x : List (Nat × Word)) : (s.withSnaps x).trc = s.trc := rfl
@[simp] theorem State.withSnaps_ic (s : State) (x : List (Nat × Word)) : (s.withSnaps x).ic = s.ic := rfl
@[simp] theorem State.withSnaps_hk (s : State) (x : List (Nat × Word)) : (s.withSnaps x).hk = s.hk := rfl
@[simp] theorem State.withSnaps_dmc (s : State) (x : List (Nat × Word)) : (s.withSnaps x).dmc = s.dmc := rfl
@[simp] theorem State.withSnaps_idc (s : State) (x : List (Nat × Word)) : (s.withSnaps x).idc = s.idc := rfl
@[simp] theorem State.withSnaps_sdh (s : State) (x : List (Nat × Word)) : (s.withSnaps x).sdh = s.sdh := rfl
@[simp] theorem State.withSnaps_nq (s : State) (x : List (Nat × Word)) : (s.withSnaps x).nq = s.nq := rfl
@[simp] theorem State.withSnaps_reg (s : State) (x : List (Nat × Word)) (a : Nat) : (s.withSnaps x).reg a = s.reg a := rfl
@[simp] theorem State.withSnaps_regN (s : State) (x : List (Nat × Word)) (a : Nat) : (s.withSnaps x).regN a = s.regN a := rfl
@[simp] theorem State.withSnaps_fld (s : State) (x : List (Nat × Word)) (f : Fld) : (s.withSnaps x).fld f = s.fld f := rfl
@[simp] theorem State.withSnaps_flag (s : State) (x : List (Nat × Word)) (f : Fld) : (s.withSnaps x).flag f = s.flag f := rfl
@[simp] theorem State.withSnaps_dom (s : State) (x : List (Nat × Word)) (d : Nat) : (s.withSnaps x).dom d = s.dom d := rfl
@[simp] theorem State.withSnaps_isOn (s : State) (x : List (Nat × Word)) (d : Nat) : (s.withSnaps x).isOn d = s.isOn d := rfl
@[simp] theorem State.withSnaps_up (s : State) (x : List (Nat × Word)) (d : Nat) : (s.withSnaps x).up d = s.up d := rfl
@[simp] theorem State.withSnaps_live (s : State) (x : List (Nat × Word)) (d : Nat) : (s.withSnaps x).live d = s.live d := rfl
@[simp] theorem State.withSnaps_vigil (s : State) (x : List (Nat × Word)) : (s.withSnaps x).vigil = s.vigil := rfl

/-! ### `withDict` -/

@[simp] theorem State.withDict_pending (s : State) (x : List (Nat × Nat)) : (s.withDict x).pending = s.pending := rfl
@[simp] theorem State.withDict_now (s : State) (x : List (Nat × Nat)) : (s.withDict x).now = s.now := rfl
@[simp] theorem State.withDict_free (s : State) (x : List (Nat × Nat)) : (s.withDict x).free = s.free := rfl
@[simp] theorem State.withDict_regs (s : State) (x : List (Nat × Nat)) : (s.withDict x).regs = s.regs := rfl
@[simp] theorem State.withDict_snaps (s : State) (x : List (Nat × Nat)) : (s.withDict x).snaps = s.snaps := rfl
@[simp] theorem State.withDict_dict (s : State) (x : List (Nat × Nat)) : (s.withDict x).dict = x := rfl
@[simp] theorem State.withDict_staged (s : State) (x : List (Nat × Nat)) : (s.withDict x).staged = s.staged := rfl
@[simp] theorem State.withDict_pairs (s : State) (x : List (Nat × Nat)) : (s.withDict x).pairs = s.pairs := rfl
@[simp] theorem State.withDict_answer (s : State) (x : List (Nat × Nat)) : (s.withDict x).answer = s.answer := rfl
@[simp] theorem State.withDict_sram (s : State) (x : List (Nat × Nat)) : (s.withDict x).sram = s.sram := rfl
@[simp] theorem State.withDict_pwr (s : State) (x : List (Nat × Nat)) : (s.withDict x).pwr = s.pwr := rfl
@[simp] theorem State.withDict_rst (s : State) (x : List (Nat × Nat)) : (s.withDict x).rst = s.rst := rfl
@[simp] theorem State.withDict_tmp (s : State) (x : List (Nat × Nat)) : (s.withDict x).tmp = s.tmp := rfl
@[simp] theorem State.withDict_nvs (s : State) (x : List (Nat × Nat)) : (s.withDict x).nvs = s.nvs := rfl
@[simp] theorem State.withDict_fus (s : State) (x : List (Nat × Nat)) : (s.withDict x).fus = s.fus := rfl
@[simp] theorem State.withDict_trn (s : State) (x : List (Nat × Nat)) : (s.withDict x).trn = s.trn := rfl
@[simp] theorem State.withDict_cal (s : State) (x : List (Nat × Nat)) : (s.withDict x).cal = s.cal := rfl
@[simp] theorem State.withDict_hld (s : State) (x : List (Nat × Nat)) : (s.withDict x).hld = s.hld := rfl
@[simp] theorem State.withDict_mtx (s : State) (x : List (Nat × Nat)) : (s.withDict x).mtx = s.mtx := rfl
@[simp] theorem State.withDict_lanes (s : State) (x : List (Nat × Nat)) : (s.withDict x).lanes = s.lanes := rfl
@[simp] theorem State.withDict_convs (s : State) (x : List (Nat × Nat)) : (s.withDict x).convs = s.convs := rfl
@[simp] theorem State.withDict_hvs (s : State) (x : List (Nat × Nat)) : (s.withDict x).hvs = s.hvs := rfl
@[simp] theorem State.withDict_cls (s : State) (x : List (Nat × Nat)) : (s.withDict x).cls = s.cls := rfl
@[simp] theorem State.withDict_aut (s : State) (x : List (Nat × Nat)) : (s.withDict x).aut = s.aut := rfl
@[simp] theorem State.withDict_cip (s : State) (x : List (Nat × Nat)) : (s.withDict x).cip = s.cip := rfl
@[simp] theorem State.withDict_threads (s : State) (x : List (Nat × Nat)) : (s.withDict x).threads = s.threads := rfl
@[simp] theorem State.withDict_cores (s : State) (x : List (Nat × Nat)) : (s.withDict x).cores = s.cores := rfl
@[simp] theorem State.withDict_evt (s : State) (x : List (Nat × Nat)) : (s.withDict x).evt = s.evt := rfl
@[simp] theorem State.withDict_trc (s : State) (x : List (Nat × Nat)) : (s.withDict x).trc = s.trc := rfl
@[simp] theorem State.withDict_ic (s : State) (x : List (Nat × Nat)) : (s.withDict x).ic = s.ic := rfl
@[simp] theorem State.withDict_hk (s : State) (x : List (Nat × Nat)) : (s.withDict x).hk = s.hk := rfl
@[simp] theorem State.withDict_dmc (s : State) (x : List (Nat × Nat)) : (s.withDict x).dmc = s.dmc := rfl
@[simp] theorem State.withDict_idc (s : State) (x : List (Nat × Nat)) : (s.withDict x).idc = s.idc := rfl
@[simp] theorem State.withDict_sdh (s : State) (x : List (Nat × Nat)) : (s.withDict x).sdh = s.sdh := rfl
@[simp] theorem State.withDict_nq (s : State) (x : List (Nat × Nat)) : (s.withDict x).nq = s.nq := rfl
@[simp] theorem State.withDict_reg (s : State) (x : List (Nat × Nat)) (a : Nat) : (s.withDict x).reg a = s.reg a := rfl
@[simp] theorem State.withDict_regN (s : State) (x : List (Nat × Nat)) (a : Nat) : (s.withDict x).regN a = s.regN a := rfl
@[simp] theorem State.withDict_fld (s : State) (x : List (Nat × Nat)) (f : Fld) : (s.withDict x).fld f = s.fld f := rfl
@[simp] theorem State.withDict_flag (s : State) (x : List (Nat × Nat)) (f : Fld) : (s.withDict x).flag f = s.flag f := rfl
@[simp] theorem State.withDict_dom (s : State) (x : List (Nat × Nat)) (d : Nat) : (s.withDict x).dom d = s.dom d := rfl
@[simp] theorem State.withDict_isOn (s : State) (x : List (Nat × Nat)) (d : Nat) : (s.withDict x).isOn d = s.isOn d := rfl
@[simp] theorem State.withDict_up (s : State) (x : List (Nat × Nat)) (d : Nat) : (s.withDict x).up d = s.up d := rfl
@[simp] theorem State.withDict_live (s : State) (x : List (Nat × Nat)) (d : Nat) : (s.withDict x).live d = s.live d := rfl
@[simp] theorem State.withDict_vigil (s : State) (x : List (Nat × Nat)) : (s.withDict x).vigil = s.vigil := rfl

/-! ### `withStaged` -/

@[simp] theorem State.withStaged_pending (s : State) (x : List (Nat × Word)) : (s.withStaged x).pending = s.pending := rfl
@[simp] theorem State.withStaged_now (s : State) (x : List (Nat × Word)) : (s.withStaged x).now = s.now := rfl
@[simp] theorem State.withStaged_free (s : State) (x : List (Nat × Word)) : (s.withStaged x).free = s.free := rfl
@[simp] theorem State.withStaged_regs (s : State) (x : List (Nat × Word)) : (s.withStaged x).regs = s.regs := rfl
@[simp] theorem State.withStaged_snaps (s : State) (x : List (Nat × Word)) : (s.withStaged x).snaps = s.snaps := rfl
@[simp] theorem State.withStaged_dict (s : State) (x : List (Nat × Word)) : (s.withStaged x).dict = s.dict := rfl
@[simp] theorem State.withStaged_staged (s : State) (x : List (Nat × Word)) : (s.withStaged x).staged = x := rfl
@[simp] theorem State.withStaged_pairs (s : State) (x : List (Nat × Word)) : (s.withStaged x).pairs = s.pairs := rfl
@[simp] theorem State.withStaged_answer (s : State) (x : List (Nat × Word)) : (s.withStaged x).answer = s.answer := rfl
@[simp] theorem State.withStaged_sram (s : State) (x : List (Nat × Word)) : (s.withStaged x).sram = s.sram := rfl
@[simp] theorem State.withStaged_pwr (s : State) (x : List (Nat × Word)) : (s.withStaged x).pwr = s.pwr := rfl
@[simp] theorem State.withStaged_rst (s : State) (x : List (Nat × Word)) : (s.withStaged x).rst = s.rst := rfl
@[simp] theorem State.withStaged_tmp (s : State) (x : List (Nat × Word)) : (s.withStaged x).tmp = s.tmp := rfl
@[simp] theorem State.withStaged_nvs (s : State) (x : List (Nat × Word)) : (s.withStaged x).nvs = s.nvs := rfl
@[simp] theorem State.withStaged_fus (s : State) (x : List (Nat × Word)) : (s.withStaged x).fus = s.fus := rfl
@[simp] theorem State.withStaged_trn (s : State) (x : List (Nat × Word)) : (s.withStaged x).trn = s.trn := rfl
@[simp] theorem State.withStaged_cal (s : State) (x : List (Nat × Word)) : (s.withStaged x).cal = s.cal := rfl
@[simp] theorem State.withStaged_hld (s : State) (x : List (Nat × Word)) : (s.withStaged x).hld = s.hld := rfl
@[simp] theorem State.withStaged_mtx (s : State) (x : List (Nat × Word)) : (s.withStaged x).mtx = s.mtx := rfl
@[simp] theorem State.withStaged_lanes (s : State) (x : List (Nat × Word)) : (s.withStaged x).lanes = s.lanes := rfl
@[simp] theorem State.withStaged_convs (s : State) (x : List (Nat × Word)) : (s.withStaged x).convs = s.convs := rfl
@[simp] theorem State.withStaged_hvs (s : State) (x : List (Nat × Word)) : (s.withStaged x).hvs = s.hvs := rfl
@[simp] theorem State.withStaged_cls (s : State) (x : List (Nat × Word)) : (s.withStaged x).cls = s.cls := rfl
@[simp] theorem State.withStaged_aut (s : State) (x : List (Nat × Word)) : (s.withStaged x).aut = s.aut := rfl
@[simp] theorem State.withStaged_cip (s : State) (x : List (Nat × Word)) : (s.withStaged x).cip = s.cip := rfl
@[simp] theorem State.withStaged_threads (s : State) (x : List (Nat × Word)) : (s.withStaged x).threads = s.threads := rfl
@[simp] theorem State.withStaged_cores (s : State) (x : List (Nat × Word)) : (s.withStaged x).cores = s.cores := rfl
@[simp] theorem State.withStaged_evt (s : State) (x : List (Nat × Word)) : (s.withStaged x).evt = s.evt := rfl
@[simp] theorem State.withStaged_trc (s : State) (x : List (Nat × Word)) : (s.withStaged x).trc = s.trc := rfl
@[simp] theorem State.withStaged_ic (s : State) (x : List (Nat × Word)) : (s.withStaged x).ic = s.ic := rfl
@[simp] theorem State.withStaged_hk (s : State) (x : List (Nat × Word)) : (s.withStaged x).hk = s.hk := rfl
@[simp] theorem State.withStaged_dmc (s : State) (x : List (Nat × Word)) : (s.withStaged x).dmc = s.dmc := rfl
@[simp] theorem State.withStaged_idc (s : State) (x : List (Nat × Word)) : (s.withStaged x).idc = s.idc := rfl
@[simp] theorem State.withStaged_sdh (s : State) (x : List (Nat × Word)) : (s.withStaged x).sdh = s.sdh := rfl
@[simp] theorem State.withStaged_nq (s : State) (x : List (Nat × Word)) : (s.withStaged x).nq = s.nq := rfl
@[simp] theorem State.withStaged_reg (s : State) (x : List (Nat × Word)) (a : Nat) : (s.withStaged x).reg a = s.reg a := rfl
@[simp] theorem State.withStaged_regN (s : State) (x : List (Nat × Word)) (a : Nat) : (s.withStaged x).regN a = s.regN a := rfl
@[simp] theorem State.withStaged_fld (s : State) (x : List (Nat × Word)) (f : Fld) : (s.withStaged x).fld f = s.fld f := rfl
@[simp] theorem State.withStaged_flag (s : State) (x : List (Nat × Word)) (f : Fld) : (s.withStaged x).flag f = s.flag f := rfl
@[simp] theorem State.withStaged_dom (s : State) (x : List (Nat × Word)) (d : Nat) : (s.withStaged x).dom d = s.dom d := rfl
@[simp] theorem State.withStaged_isOn (s : State) (x : List (Nat × Word)) (d : Nat) : (s.withStaged x).isOn d = s.isOn d := rfl
@[simp] theorem State.withStaged_up (s : State) (x : List (Nat × Word)) (d : Nat) : (s.withStaged x).up d = s.up d := rfl
@[simp] theorem State.withStaged_live (s : State) (x : List (Nat × Word)) (d : Nat) : (s.withStaged x).live d = s.live d := rfl
@[simp] theorem State.withStaged_vigil (s : State) (x : List (Nat × Word)) : (s.withStaged x).vigil = s.vigil := rfl

/-! ### `withPairs` -/

@[simp] theorem State.withPairs_pending (s : State) (x : List ShadowPair) : (s.withPairs x).pending = s.pending := rfl
@[simp] theorem State.withPairs_now (s : State) (x : List ShadowPair) : (s.withPairs x).now = s.now := rfl
@[simp] theorem State.withPairs_free (s : State) (x : List ShadowPair) : (s.withPairs x).free = s.free := rfl
@[simp] theorem State.withPairs_regs (s : State) (x : List ShadowPair) : (s.withPairs x).regs = s.regs := rfl
@[simp] theorem State.withPairs_snaps (s : State) (x : List ShadowPair) : (s.withPairs x).snaps = s.snaps := rfl
@[simp] theorem State.withPairs_dict (s : State) (x : List ShadowPair) : (s.withPairs x).dict = s.dict := rfl
@[simp] theorem State.withPairs_staged (s : State) (x : List ShadowPair) : (s.withPairs x).staged = s.staged := rfl
@[simp] theorem State.withPairs_pairs (s : State) (x : List ShadowPair) : (s.withPairs x).pairs = x := rfl
@[simp] theorem State.withPairs_answer (s : State) (x : List ShadowPair) : (s.withPairs x).answer = s.answer := rfl
@[simp] theorem State.withPairs_sram (s : State) (x : List ShadowPair) : (s.withPairs x).sram = s.sram := rfl
@[simp] theorem State.withPairs_pwr (s : State) (x : List ShadowPair) : (s.withPairs x).pwr = s.pwr := rfl
@[simp] theorem State.withPairs_rst (s : State) (x : List ShadowPair) : (s.withPairs x).rst = s.rst := rfl
@[simp] theorem State.withPairs_tmp (s : State) (x : List ShadowPair) : (s.withPairs x).tmp = s.tmp := rfl
@[simp] theorem State.withPairs_nvs (s : State) (x : List ShadowPair) : (s.withPairs x).nvs = s.nvs := rfl
@[simp] theorem State.withPairs_fus (s : State) (x : List ShadowPair) : (s.withPairs x).fus = s.fus := rfl
@[simp] theorem State.withPairs_trn (s : State) (x : List ShadowPair) : (s.withPairs x).trn = s.trn := rfl
@[simp] theorem State.withPairs_cal (s : State) (x : List ShadowPair) : (s.withPairs x).cal = s.cal := rfl
@[simp] theorem State.withPairs_hld (s : State) (x : List ShadowPair) : (s.withPairs x).hld = s.hld := rfl
@[simp] theorem State.withPairs_mtx (s : State) (x : List ShadowPair) : (s.withPairs x).mtx = s.mtx := rfl
@[simp] theorem State.withPairs_lanes (s : State) (x : List ShadowPair) : (s.withPairs x).lanes = s.lanes := rfl
@[simp] theorem State.withPairs_convs (s : State) (x : List ShadowPair) : (s.withPairs x).convs = s.convs := rfl
@[simp] theorem State.withPairs_hvs (s : State) (x : List ShadowPair) : (s.withPairs x).hvs = s.hvs := rfl
@[simp] theorem State.withPairs_cls (s : State) (x : List ShadowPair) : (s.withPairs x).cls = s.cls := rfl
@[simp] theorem State.withPairs_aut (s : State) (x : List ShadowPair) : (s.withPairs x).aut = s.aut := rfl
@[simp] theorem State.withPairs_cip (s : State) (x : List ShadowPair) : (s.withPairs x).cip = s.cip := rfl
@[simp] theorem State.withPairs_threads (s : State) (x : List ShadowPair) : (s.withPairs x).threads = s.threads := rfl
@[simp] theorem State.withPairs_cores (s : State) (x : List ShadowPair) : (s.withPairs x).cores = s.cores := rfl
@[simp] theorem State.withPairs_evt (s : State) (x : List ShadowPair) : (s.withPairs x).evt = s.evt := rfl
@[simp] theorem State.withPairs_trc (s : State) (x : List ShadowPair) : (s.withPairs x).trc = s.trc := rfl
@[simp] theorem State.withPairs_ic (s : State) (x : List ShadowPair) : (s.withPairs x).ic = s.ic := rfl
@[simp] theorem State.withPairs_hk (s : State) (x : List ShadowPair) : (s.withPairs x).hk = s.hk := rfl
@[simp] theorem State.withPairs_dmc (s : State) (x : List ShadowPair) : (s.withPairs x).dmc = s.dmc := rfl
@[simp] theorem State.withPairs_idc (s : State) (x : List ShadowPair) : (s.withPairs x).idc = s.idc := rfl
@[simp] theorem State.withPairs_sdh (s : State) (x : List ShadowPair) : (s.withPairs x).sdh = s.sdh := rfl
@[simp] theorem State.withPairs_nq (s : State) (x : List ShadowPair) : (s.withPairs x).nq = s.nq := rfl
@[simp] theorem State.withPairs_reg (s : State) (x : List ShadowPair) (a : Nat) : (s.withPairs x).reg a = s.reg a := rfl
@[simp] theorem State.withPairs_regN (s : State) (x : List ShadowPair) (a : Nat) : (s.withPairs x).regN a = s.regN a := rfl
@[simp] theorem State.withPairs_fld (s : State) (x : List ShadowPair) (f : Fld) : (s.withPairs x).fld f = s.fld f := rfl
@[simp] theorem State.withPairs_flag (s : State) (x : List ShadowPair) (f : Fld) : (s.withPairs x).flag f = s.flag f := rfl
@[simp] theorem State.withPairs_dom (s : State) (x : List ShadowPair) (d : Nat) : (s.withPairs x).dom d = s.dom d := rfl
@[simp] theorem State.withPairs_isOn (s : State) (x : List ShadowPair) (d : Nat) : (s.withPairs x).isOn d = s.isOn d := rfl
@[simp] theorem State.withPairs_up (s : State) (x : List ShadowPair) (d : Nat) : (s.withPairs x).up d = s.up d := rfl
@[simp] theorem State.withPairs_live (s : State) (x : List ShadowPair) (d : Nat) : (s.withPairs x).live d = s.live d := rfl
@[simp] theorem State.withPairs_vigil (s : State) (x : List ShadowPair) : (s.withPairs x).vigil = s.vigil := rfl

/-! ### `withAnswer` -/

@[simp] theorem State.withAnswer_pending (s : State) (x : Answer) : (s.withAnswer x).pending = s.pending := rfl
@[simp] theorem State.withAnswer_now (s : State) (x : Answer) : (s.withAnswer x).now = s.now := rfl
@[simp] theorem State.withAnswer_free (s : State) (x : Answer) : (s.withAnswer x).free = s.free := rfl
@[simp] theorem State.withAnswer_regs (s : State) (x : Answer) : (s.withAnswer x).regs = s.regs := rfl
@[simp] theorem State.withAnswer_snaps (s : State) (x : Answer) : (s.withAnswer x).snaps = s.snaps := rfl
@[simp] theorem State.withAnswer_dict (s : State) (x : Answer) : (s.withAnswer x).dict = s.dict := rfl
@[simp] theorem State.withAnswer_staged (s : State) (x : Answer) : (s.withAnswer x).staged = s.staged := rfl
@[simp] theorem State.withAnswer_pairs (s : State) (x : Answer) : (s.withAnswer x).pairs = s.pairs := rfl
@[simp] theorem State.withAnswer_answer (s : State) (x : Answer) : (s.withAnswer x).answer = x := rfl
@[simp] theorem State.withAnswer_sram (s : State) (x : Answer) : (s.withAnswer x).sram = s.sram := rfl
@[simp] theorem State.withAnswer_pwr (s : State) (x : Answer) : (s.withAnswer x).pwr = s.pwr := rfl
@[simp] theorem State.withAnswer_rst (s : State) (x : Answer) : (s.withAnswer x).rst = s.rst := rfl
@[simp] theorem State.withAnswer_tmp (s : State) (x : Answer) : (s.withAnswer x).tmp = s.tmp := rfl
@[simp] theorem State.withAnswer_nvs (s : State) (x : Answer) : (s.withAnswer x).nvs = s.nvs := rfl
@[simp] theorem State.withAnswer_fus (s : State) (x : Answer) : (s.withAnswer x).fus = s.fus := rfl
@[simp] theorem State.withAnswer_trn (s : State) (x : Answer) : (s.withAnswer x).trn = s.trn := rfl
@[simp] theorem State.withAnswer_cal (s : State) (x : Answer) : (s.withAnswer x).cal = s.cal := rfl
@[simp] theorem State.withAnswer_hld (s : State) (x : Answer) : (s.withAnswer x).hld = s.hld := rfl
@[simp] theorem State.withAnswer_mtx (s : State) (x : Answer) : (s.withAnswer x).mtx = s.mtx := rfl
@[simp] theorem State.withAnswer_lanes (s : State) (x : Answer) : (s.withAnswer x).lanes = s.lanes := rfl
@[simp] theorem State.withAnswer_convs (s : State) (x : Answer) : (s.withAnswer x).convs = s.convs := rfl
@[simp] theorem State.withAnswer_hvs (s : State) (x : Answer) : (s.withAnswer x).hvs = s.hvs := rfl
@[simp] theorem State.withAnswer_cls (s : State) (x : Answer) : (s.withAnswer x).cls = s.cls := rfl
@[simp] theorem State.withAnswer_aut (s : State) (x : Answer) : (s.withAnswer x).aut = s.aut := rfl
@[simp] theorem State.withAnswer_cip (s : State) (x : Answer) : (s.withAnswer x).cip = s.cip := rfl
@[simp] theorem State.withAnswer_threads (s : State) (x : Answer) : (s.withAnswer x).threads = s.threads := rfl
@[simp] theorem State.withAnswer_cores (s : State) (x : Answer) : (s.withAnswer x).cores = s.cores := rfl
@[simp] theorem State.withAnswer_evt (s : State) (x : Answer) : (s.withAnswer x).evt = s.evt := rfl
@[simp] theorem State.withAnswer_trc (s : State) (x : Answer) : (s.withAnswer x).trc = s.trc := rfl
@[simp] theorem State.withAnswer_ic (s : State) (x : Answer) : (s.withAnswer x).ic = s.ic := rfl
@[simp] theorem State.withAnswer_hk (s : State) (x : Answer) : (s.withAnswer x).hk = s.hk := rfl
@[simp] theorem State.withAnswer_dmc (s : State) (x : Answer) : (s.withAnswer x).dmc = s.dmc := rfl
@[simp] theorem State.withAnswer_idc (s : State) (x : Answer) : (s.withAnswer x).idc = s.idc := rfl
@[simp] theorem State.withAnswer_sdh (s : State) (x : Answer) : (s.withAnswer x).sdh = s.sdh := rfl
@[simp] theorem State.withAnswer_nq (s : State) (x : Answer) : (s.withAnswer x).nq = s.nq := rfl
@[simp] theorem State.withAnswer_reg (s : State) (x : Answer) (a : Nat) : (s.withAnswer x).reg a = s.reg a := rfl
@[simp] theorem State.withAnswer_regN (s : State) (x : Answer) (a : Nat) : (s.withAnswer x).regN a = s.regN a := rfl
@[simp] theorem State.withAnswer_fld (s : State) (x : Answer) (f : Fld) : (s.withAnswer x).fld f = s.fld f := rfl
@[simp] theorem State.withAnswer_flag (s : State) (x : Answer) (f : Fld) : (s.withAnswer x).flag f = s.flag f := rfl
@[simp] theorem State.withAnswer_dom (s : State) (x : Answer) (d : Nat) : (s.withAnswer x).dom d = s.dom d := rfl
@[simp] theorem State.withAnswer_isOn (s : State) (x : Answer) (d : Nat) : (s.withAnswer x).isOn d = s.isOn d := rfl
@[simp] theorem State.withAnswer_up (s : State) (x : Answer) (d : Nat) : (s.withAnswer x).up d = s.up d := rfl
@[simp] theorem State.withAnswer_live (s : State) (x : Answer) (d : Nat) : (s.withAnswer x).live d = s.live d := rfl
@[simp] theorem State.withAnswer_vigil (s : State) (x : Answer) : (s.withAnswer x).vigil = s.vigil := rfl

/-! ### `withSram` -/

@[simp] theorem State.withSram_pending (s : State) (x : List Host.Cell) : (s.withSram x).pending = s.pending := rfl
@[simp] theorem State.withSram_now (s : State) (x : List Host.Cell) : (s.withSram x).now = s.now := rfl
@[simp] theorem State.withSram_free (s : State) (x : List Host.Cell) : (s.withSram x).free = s.free := rfl
@[simp] theorem State.withSram_regs (s : State) (x : List Host.Cell) : (s.withSram x).regs = s.regs := rfl
@[simp] theorem State.withSram_snaps (s : State) (x : List Host.Cell) : (s.withSram x).snaps = s.snaps := rfl
@[simp] theorem State.withSram_dict (s : State) (x : List Host.Cell) : (s.withSram x).dict = s.dict := rfl
@[simp] theorem State.withSram_staged (s : State) (x : List Host.Cell) : (s.withSram x).staged = s.staged := rfl
@[simp] theorem State.withSram_pairs (s : State) (x : List Host.Cell) : (s.withSram x).pairs = s.pairs := rfl
@[simp] theorem State.withSram_answer (s : State) (x : List Host.Cell) : (s.withSram x).answer = s.answer := rfl
@[simp] theorem State.withSram_sram (s : State) (x : List Host.Cell) : (s.withSram x).sram = x := rfl
@[simp] theorem State.withSram_pwr (s : State) (x : List Host.Cell) : (s.withSram x).pwr = s.pwr := rfl
@[simp] theorem State.withSram_rst (s : State) (x : List Host.Cell) : (s.withSram x).rst = s.rst := rfl
@[simp] theorem State.withSram_tmp (s : State) (x : List Host.Cell) : (s.withSram x).tmp = s.tmp := rfl
@[simp] theorem State.withSram_nvs (s : State) (x : List Host.Cell) : (s.withSram x).nvs = s.nvs := rfl
@[simp] theorem State.withSram_fus (s : State) (x : List Host.Cell) : (s.withSram x).fus = s.fus := rfl
@[simp] theorem State.withSram_trn (s : State) (x : List Host.Cell) : (s.withSram x).trn = s.trn := rfl
@[simp] theorem State.withSram_cal (s : State) (x : List Host.Cell) : (s.withSram x).cal = s.cal := rfl
@[simp] theorem State.withSram_hld (s : State) (x : List Host.Cell) : (s.withSram x).hld = s.hld := rfl
@[simp] theorem State.withSram_mtx (s : State) (x : List Host.Cell) : (s.withSram x).mtx = s.mtx := rfl
@[simp] theorem State.withSram_lanes (s : State) (x : List Host.Cell) : (s.withSram x).lanes = s.lanes := rfl
@[simp] theorem State.withSram_convs (s : State) (x : List Host.Cell) : (s.withSram x).convs = s.convs := rfl
@[simp] theorem State.withSram_hvs (s : State) (x : List Host.Cell) : (s.withSram x).hvs = s.hvs := rfl
@[simp] theorem State.withSram_cls (s : State) (x : List Host.Cell) : (s.withSram x).cls = s.cls := rfl
@[simp] theorem State.withSram_aut (s : State) (x : List Host.Cell) : (s.withSram x).aut = s.aut := rfl
@[simp] theorem State.withSram_cip (s : State) (x : List Host.Cell) : (s.withSram x).cip = s.cip := rfl
@[simp] theorem State.withSram_threads (s : State) (x : List Host.Cell) : (s.withSram x).threads = s.threads := rfl
@[simp] theorem State.withSram_cores (s : State) (x : List Host.Cell) : (s.withSram x).cores = s.cores := rfl
@[simp] theorem State.withSram_evt (s : State) (x : List Host.Cell) : (s.withSram x).evt = s.evt := rfl
@[simp] theorem State.withSram_trc (s : State) (x : List Host.Cell) : (s.withSram x).trc = s.trc := rfl
@[simp] theorem State.withSram_ic (s : State) (x : List Host.Cell) : (s.withSram x).ic = s.ic := rfl
@[simp] theorem State.withSram_hk (s : State) (x : List Host.Cell) : (s.withSram x).hk = s.hk := rfl
@[simp] theorem State.withSram_dmc (s : State) (x : List Host.Cell) : (s.withSram x).dmc = s.dmc := rfl
@[simp] theorem State.withSram_idc (s : State) (x : List Host.Cell) : (s.withSram x).idc = s.idc := rfl
@[simp] theorem State.withSram_sdh (s : State) (x : List Host.Cell) : (s.withSram x).sdh = s.sdh := rfl
@[simp] theorem State.withSram_nq (s : State) (x : List Host.Cell) : (s.withSram x).nq = s.nq := rfl
@[simp] theorem State.withSram_reg (s : State) (x : List Host.Cell) (a : Nat) : (s.withSram x).reg a = s.reg a := rfl
@[simp] theorem State.withSram_regN (s : State) (x : List Host.Cell) (a : Nat) : (s.withSram x).regN a = s.regN a := rfl
@[simp] theorem State.withSram_fld (s : State) (x : List Host.Cell) (f : Fld) : (s.withSram x).fld f = s.fld f := rfl
@[simp] theorem State.withSram_flag (s : State) (x : List Host.Cell) (f : Fld) : (s.withSram x).flag f = s.flag f := rfl
@[simp] theorem State.withSram_dom (s : State) (x : List Host.Cell) (d : Nat) : (s.withSram x).dom d = s.dom d := rfl
@[simp] theorem State.withSram_isOn (s : State) (x : List Host.Cell) (d : Nat) : (s.withSram x).isOn d = s.isOn d := rfl
@[simp] theorem State.withSram_up (s : State) (x : List Host.Cell) (d : Nat) : (s.withSram x).up d = s.up d := rfl
@[simp] theorem State.withSram_live (s : State) (x : List Host.Cell) (d : Nat) : (s.withSram x).live d = s.live d := rfl
@[simp] theorem State.withSram_vigil (s : State) (x : List Host.Cell) : (s.withSram x).vigil = s.vigil := rfl

/-! ### `withPwr` -/

@[simp] theorem State.withPwr_pending (s : State) (x : PwrSt) : (s.withPwr x).pending = s.pending := rfl
@[simp] theorem State.withPwr_now (s : State) (x : PwrSt) : (s.withPwr x).now = s.now := rfl
@[simp] theorem State.withPwr_free (s : State) (x : PwrSt) : (s.withPwr x).free = s.free := rfl
@[simp] theorem State.withPwr_regs (s : State) (x : PwrSt) : (s.withPwr x).regs = s.regs := rfl
@[simp] theorem State.withPwr_snaps (s : State) (x : PwrSt) : (s.withPwr x).snaps = s.snaps := rfl
@[simp] theorem State.withPwr_dict (s : State) (x : PwrSt) : (s.withPwr x).dict = s.dict := rfl
@[simp] theorem State.withPwr_staged (s : State) (x : PwrSt) : (s.withPwr x).staged = s.staged := rfl
@[simp] theorem State.withPwr_pairs (s : State) (x : PwrSt) : (s.withPwr x).pairs = s.pairs := rfl
@[simp] theorem State.withPwr_answer (s : State) (x : PwrSt) : (s.withPwr x).answer = s.answer := rfl
@[simp] theorem State.withPwr_sram (s : State) (x : PwrSt) : (s.withPwr x).sram = s.sram := rfl
@[simp] theorem State.withPwr_pwr (s : State) (x : PwrSt) : (s.withPwr x).pwr = x := rfl
@[simp] theorem State.withPwr_rst (s : State) (x : PwrSt) : (s.withPwr x).rst = s.rst := rfl
@[simp] theorem State.withPwr_tmp (s : State) (x : PwrSt) : (s.withPwr x).tmp = s.tmp := rfl
@[simp] theorem State.withPwr_nvs (s : State) (x : PwrSt) : (s.withPwr x).nvs = s.nvs := rfl
@[simp] theorem State.withPwr_fus (s : State) (x : PwrSt) : (s.withPwr x).fus = s.fus := rfl
@[simp] theorem State.withPwr_trn (s : State) (x : PwrSt) : (s.withPwr x).trn = s.trn := rfl
@[simp] theorem State.withPwr_cal (s : State) (x : PwrSt) : (s.withPwr x).cal = s.cal := rfl
@[simp] theorem State.withPwr_hld (s : State) (x : PwrSt) : (s.withPwr x).hld = s.hld := rfl
@[simp] theorem State.withPwr_mtx (s : State) (x : PwrSt) : (s.withPwr x).mtx = s.mtx := rfl
@[simp] theorem State.withPwr_lanes (s : State) (x : PwrSt) : (s.withPwr x).lanes = s.lanes := rfl
@[simp] theorem State.withPwr_convs (s : State) (x : PwrSt) : (s.withPwr x).convs = s.convs := rfl
@[simp] theorem State.withPwr_hvs (s : State) (x : PwrSt) : (s.withPwr x).hvs = s.hvs := rfl
@[simp] theorem State.withPwr_cls (s : State) (x : PwrSt) : (s.withPwr x).cls = s.cls := rfl
@[simp] theorem State.withPwr_aut (s : State) (x : PwrSt) : (s.withPwr x).aut = s.aut := rfl
@[simp] theorem State.withPwr_cip (s : State) (x : PwrSt) : (s.withPwr x).cip = s.cip := rfl
@[simp] theorem State.withPwr_threads (s : State) (x : PwrSt) : (s.withPwr x).threads = s.threads := rfl
@[simp] theorem State.withPwr_cores (s : State) (x : PwrSt) : (s.withPwr x).cores = s.cores := rfl
@[simp] theorem State.withPwr_evt (s : State) (x : PwrSt) : (s.withPwr x).evt = s.evt := rfl
@[simp] theorem State.withPwr_trc (s : State) (x : PwrSt) : (s.withPwr x).trc = s.trc := rfl
@[simp] theorem State.withPwr_ic (s : State) (x : PwrSt) : (s.withPwr x).ic = s.ic := rfl
@[simp] theorem State.withPwr_hk (s : State) (x : PwrSt) : (s.withPwr x).hk = s.hk := rfl
@[simp] theorem State.withPwr_dmc (s : State) (x : PwrSt) : (s.withPwr x).dmc = s.dmc := rfl
@[simp] theorem State.withPwr_idc (s : State) (x : PwrSt) : (s.withPwr x).idc = s.idc := rfl
@[simp] theorem State.withPwr_sdh (s : State) (x : PwrSt) : (s.withPwr x).sdh = s.sdh := rfl
@[simp] theorem State.withPwr_nq (s : State) (x : PwrSt) : (s.withPwr x).nq = s.nq := rfl
@[simp] theorem State.withPwr_reg (s : State) (x : PwrSt) (a : Nat) : (s.withPwr x).reg a = s.reg a := rfl
@[simp] theorem State.withPwr_regN (s : State) (x : PwrSt) (a : Nat) : (s.withPwr x).regN a = s.regN a := rfl
@[simp] theorem State.withPwr_fld (s : State) (x : PwrSt) (f : Fld) : (s.withPwr x).fld f = s.fld f := rfl
@[simp] theorem State.withPwr_flag (s : State) (x : PwrSt) (f : Fld) : (s.withPwr x).flag f = s.flag f := rfl
@[simp] theorem State.withPwr_dom (s : State) (x : PwrSt) (d : Nat) : (s.withPwr x).dom d = s.dom d := rfl
@[simp] theorem State.withPwr_isOn (s : State) (x : PwrSt) (d : Nat) : (s.withPwr x).isOn d = s.isOn d := rfl
@[simp] theorem State.withPwr_up (s : State) (x : PwrSt) (d : Nat) : (s.withPwr x).up d = s.up d := rfl
@[simp] theorem State.withPwr_live (s : State) (x : PwrSt) (d : Nat) : (s.withPwr x).live d = s.live d := rfl
@[simp] theorem State.withPwr_vigil (s : State) (x : PwrSt) : (s.withPwr x).vigil = s.vigil := rfl

/-! ### `withRst` -/

@[simp] theorem State.withRst_pending (s : State) (x : RstSt) : (s.withRst x).pending = s.pending := rfl
@[simp] theorem State.withRst_now (s : State) (x : RstSt) : (s.withRst x).now = s.now := rfl
@[simp] theorem State.withRst_free (s : State) (x : RstSt) : (s.withRst x).free = s.free := rfl
@[simp] theorem State.withRst_regs (s : State) (x : RstSt) : (s.withRst x).regs = s.regs := rfl
@[simp] theorem State.withRst_snaps (s : State) (x : RstSt) : (s.withRst x).snaps = s.snaps := rfl
@[simp] theorem State.withRst_dict (s : State) (x : RstSt) : (s.withRst x).dict = s.dict := rfl
@[simp] theorem State.withRst_staged (s : State) (x : RstSt) : (s.withRst x).staged = s.staged := rfl
@[simp] theorem State.withRst_pairs (s : State) (x : RstSt) : (s.withRst x).pairs = s.pairs := rfl
@[simp] theorem State.withRst_answer (s : State) (x : RstSt) : (s.withRst x).answer = s.answer := rfl
@[simp] theorem State.withRst_sram (s : State) (x : RstSt) : (s.withRst x).sram = s.sram := rfl
@[simp] theorem State.withRst_pwr (s : State) (x : RstSt) : (s.withRst x).pwr = s.pwr := rfl
@[simp] theorem State.withRst_rst (s : State) (x : RstSt) : (s.withRst x).rst = x := rfl
@[simp] theorem State.withRst_tmp (s : State) (x : RstSt) : (s.withRst x).tmp = s.tmp := rfl
@[simp] theorem State.withRst_nvs (s : State) (x : RstSt) : (s.withRst x).nvs = s.nvs := rfl
@[simp] theorem State.withRst_fus (s : State) (x : RstSt) : (s.withRst x).fus = s.fus := rfl
@[simp] theorem State.withRst_trn (s : State) (x : RstSt) : (s.withRst x).trn = s.trn := rfl
@[simp] theorem State.withRst_cal (s : State) (x : RstSt) : (s.withRst x).cal = s.cal := rfl
@[simp] theorem State.withRst_hld (s : State) (x : RstSt) : (s.withRst x).hld = s.hld := rfl
@[simp] theorem State.withRst_mtx (s : State) (x : RstSt) : (s.withRst x).mtx = s.mtx := rfl
@[simp] theorem State.withRst_lanes (s : State) (x : RstSt) : (s.withRst x).lanes = s.lanes := rfl
@[simp] theorem State.withRst_convs (s : State) (x : RstSt) : (s.withRst x).convs = s.convs := rfl
@[simp] theorem State.withRst_hvs (s : State) (x : RstSt) : (s.withRst x).hvs = s.hvs := rfl
@[simp] theorem State.withRst_cls (s : State) (x : RstSt) : (s.withRst x).cls = s.cls := rfl
@[simp] theorem State.withRst_aut (s : State) (x : RstSt) : (s.withRst x).aut = s.aut := rfl
@[simp] theorem State.withRst_cip (s : State) (x : RstSt) : (s.withRst x).cip = s.cip := rfl
@[simp] theorem State.withRst_threads (s : State) (x : RstSt) : (s.withRst x).threads = s.threads := rfl
@[simp] theorem State.withRst_cores (s : State) (x : RstSt) : (s.withRst x).cores = s.cores := rfl
@[simp] theorem State.withRst_evt (s : State) (x : RstSt) : (s.withRst x).evt = s.evt := rfl
@[simp] theorem State.withRst_trc (s : State) (x : RstSt) : (s.withRst x).trc = s.trc := rfl
@[simp] theorem State.withRst_ic (s : State) (x : RstSt) : (s.withRst x).ic = s.ic := rfl
@[simp] theorem State.withRst_hk (s : State) (x : RstSt) : (s.withRst x).hk = s.hk := rfl
@[simp] theorem State.withRst_dmc (s : State) (x : RstSt) : (s.withRst x).dmc = s.dmc := rfl
@[simp] theorem State.withRst_idc (s : State) (x : RstSt) : (s.withRst x).idc = s.idc := rfl
@[simp] theorem State.withRst_sdh (s : State) (x : RstSt) : (s.withRst x).sdh = s.sdh := rfl
@[simp] theorem State.withRst_nq (s : State) (x : RstSt) : (s.withRst x).nq = s.nq := rfl
@[simp] theorem State.withRst_reg (s : State) (x : RstSt) (a : Nat) : (s.withRst x).reg a = s.reg a := rfl
@[simp] theorem State.withRst_regN (s : State) (x : RstSt) (a : Nat) : (s.withRst x).regN a = s.regN a := rfl
@[simp] theorem State.withRst_fld (s : State) (x : RstSt) (f : Fld) : (s.withRst x).fld f = s.fld f := rfl
@[simp] theorem State.withRst_flag (s : State) (x : RstSt) (f : Fld) : (s.withRst x).flag f = s.flag f := rfl
@[simp] theorem State.withRst_dom (s : State) (x : RstSt) (d : Nat) : (s.withRst x).dom d = s.dom d := rfl
@[simp] theorem State.withRst_isOn (s : State) (x : RstSt) (d : Nat) : (s.withRst x).isOn d = s.isOn d := rfl

/-! ### `withTmp` -/

@[simp] theorem State.withTmp_pending (s : State) (x : TmpSt) : (s.withTmp x).pending = s.pending := rfl
@[simp] theorem State.withTmp_now (s : State) (x : TmpSt) : (s.withTmp x).now = s.now := rfl
@[simp] theorem State.withTmp_free (s : State) (x : TmpSt) : (s.withTmp x).free = s.free := rfl
@[simp] theorem State.withTmp_regs (s : State) (x : TmpSt) : (s.withTmp x).regs = s.regs := rfl
@[simp] theorem State.withTmp_snaps (s : State) (x : TmpSt) : (s.withTmp x).snaps = s.snaps := rfl
@[simp] theorem State.withTmp_dict (s : State) (x : TmpSt) : (s.withTmp x).dict = s.dict := rfl
@[simp] theorem State.withTmp_staged (s : State) (x : TmpSt) : (s.withTmp x).staged = s.staged := rfl
@[simp] theorem State.withTmp_pairs (s : State) (x : TmpSt) : (s.withTmp x).pairs = s.pairs := rfl
@[simp] theorem State.withTmp_answer (s : State) (x : TmpSt) : (s.withTmp x).answer = s.answer := rfl
@[simp] theorem State.withTmp_sram (s : State) (x : TmpSt) : (s.withTmp x).sram = s.sram := rfl
@[simp] theorem State.withTmp_pwr (s : State) (x : TmpSt) : (s.withTmp x).pwr = s.pwr := rfl
@[simp] theorem State.withTmp_rst (s : State) (x : TmpSt) : (s.withTmp x).rst = s.rst := rfl
@[simp] theorem State.withTmp_tmp (s : State) (x : TmpSt) : (s.withTmp x).tmp = x := rfl
@[simp] theorem State.withTmp_nvs (s : State) (x : TmpSt) : (s.withTmp x).nvs = s.nvs := rfl
@[simp] theorem State.withTmp_fus (s : State) (x : TmpSt) : (s.withTmp x).fus = s.fus := rfl
@[simp] theorem State.withTmp_trn (s : State) (x : TmpSt) : (s.withTmp x).trn = s.trn := rfl
@[simp] theorem State.withTmp_cal (s : State) (x : TmpSt) : (s.withTmp x).cal = s.cal := rfl
@[simp] theorem State.withTmp_hld (s : State) (x : TmpSt) : (s.withTmp x).hld = s.hld := rfl
@[simp] theorem State.withTmp_mtx (s : State) (x : TmpSt) : (s.withTmp x).mtx = s.mtx := rfl
@[simp] theorem State.withTmp_lanes (s : State) (x : TmpSt) : (s.withTmp x).lanes = s.lanes := rfl
@[simp] theorem State.withTmp_convs (s : State) (x : TmpSt) : (s.withTmp x).convs = s.convs := rfl
@[simp] theorem State.withTmp_hvs (s : State) (x : TmpSt) : (s.withTmp x).hvs = s.hvs := rfl
@[simp] theorem State.withTmp_cls (s : State) (x : TmpSt) : (s.withTmp x).cls = s.cls := rfl
@[simp] theorem State.withTmp_aut (s : State) (x : TmpSt) : (s.withTmp x).aut = s.aut := rfl
@[simp] theorem State.withTmp_cip (s : State) (x : TmpSt) : (s.withTmp x).cip = s.cip := rfl
@[simp] theorem State.withTmp_threads (s : State) (x : TmpSt) : (s.withTmp x).threads = s.threads := rfl
@[simp] theorem State.withTmp_cores (s : State) (x : TmpSt) : (s.withTmp x).cores = s.cores := rfl
@[simp] theorem State.withTmp_evt (s : State) (x : TmpSt) : (s.withTmp x).evt = s.evt := rfl
@[simp] theorem State.withTmp_trc (s : State) (x : TmpSt) : (s.withTmp x).trc = s.trc := rfl
@[simp] theorem State.withTmp_ic (s : State) (x : TmpSt) : (s.withTmp x).ic = s.ic := rfl
@[simp] theorem State.withTmp_hk (s : State) (x : TmpSt) : (s.withTmp x).hk = s.hk := rfl
@[simp] theorem State.withTmp_dmc (s : State) (x : TmpSt) : (s.withTmp x).dmc = s.dmc := rfl
@[simp] theorem State.withTmp_idc (s : State) (x : TmpSt) : (s.withTmp x).idc = s.idc := rfl
@[simp] theorem State.withTmp_sdh (s : State) (x : TmpSt) : (s.withTmp x).sdh = s.sdh := rfl
@[simp] theorem State.withTmp_nq (s : State) (x : TmpSt) : (s.withTmp x).nq = s.nq := rfl
@[simp] theorem State.withTmp_reg (s : State) (x : TmpSt) (a : Nat) : (s.withTmp x).reg a = s.reg a := rfl
@[simp] theorem State.withTmp_regN (s : State) (x : TmpSt) (a : Nat) : (s.withTmp x).regN a = s.regN a := rfl
@[simp] theorem State.withTmp_fld (s : State) (x : TmpSt) (f : Fld) : (s.withTmp x).fld f = s.fld f := rfl
@[simp] theorem State.withTmp_flag (s : State) (x : TmpSt) (f : Fld) : (s.withTmp x).flag f = s.flag f := rfl
@[simp] theorem State.withTmp_dom (s : State) (x : TmpSt) (d : Nat) : (s.withTmp x).dom d = s.dom d := rfl
@[simp] theorem State.withTmp_isOn (s : State) (x : TmpSt) (d : Nat) : (s.withTmp x).isOn d = s.isOn d := rfl
@[simp] theorem State.withTmp_up (s : State) (x : TmpSt) (d : Nat) : (s.withTmp x).up d = s.up d := rfl
@[simp] theorem State.withTmp_live (s : State) (x : TmpSt) (d : Nat) : (s.withTmp x).live d = s.live d := rfl
@[simp] theorem State.withTmp_vigil (s : State) (x : TmpSt) : (s.withTmp x).vigil = s.vigil := rfl

/-! ### `withNvs` -/

@[simp] theorem State.withNvs_pending (s : State) (x : NvsSt) : (s.withNvs x).pending = s.pending := rfl
@[simp] theorem State.withNvs_now (s : State) (x : NvsSt) : (s.withNvs x).now = s.now := rfl
@[simp] theorem State.withNvs_free (s : State) (x : NvsSt) : (s.withNvs x).free = s.free := rfl
@[simp] theorem State.withNvs_regs (s : State) (x : NvsSt) : (s.withNvs x).regs = s.regs := rfl
@[simp] theorem State.withNvs_snaps (s : State) (x : NvsSt) : (s.withNvs x).snaps = s.snaps := rfl
@[simp] theorem State.withNvs_dict (s : State) (x : NvsSt) : (s.withNvs x).dict = s.dict := rfl
@[simp] theorem State.withNvs_staged (s : State) (x : NvsSt) : (s.withNvs x).staged = s.staged := rfl
@[simp] theorem State.withNvs_pairs (s : State) (x : NvsSt) : (s.withNvs x).pairs = s.pairs := rfl
@[simp] theorem State.withNvs_answer (s : State) (x : NvsSt) : (s.withNvs x).answer = s.answer := rfl
@[simp] theorem State.withNvs_sram (s : State) (x : NvsSt) : (s.withNvs x).sram = s.sram := rfl
@[simp] theorem State.withNvs_pwr (s : State) (x : NvsSt) : (s.withNvs x).pwr = s.pwr := rfl
@[simp] theorem State.withNvs_rst (s : State) (x : NvsSt) : (s.withNvs x).rst = s.rst := rfl
@[simp] theorem State.withNvs_tmp (s : State) (x : NvsSt) : (s.withNvs x).tmp = s.tmp := rfl
@[simp] theorem State.withNvs_nvs (s : State) (x : NvsSt) : (s.withNvs x).nvs = x := rfl
@[simp] theorem State.withNvs_fus (s : State) (x : NvsSt) : (s.withNvs x).fus = s.fus := rfl
@[simp] theorem State.withNvs_trn (s : State) (x : NvsSt) : (s.withNvs x).trn = s.trn := rfl
@[simp] theorem State.withNvs_cal (s : State) (x : NvsSt) : (s.withNvs x).cal = s.cal := rfl
@[simp] theorem State.withNvs_hld (s : State) (x : NvsSt) : (s.withNvs x).hld = s.hld := rfl
@[simp] theorem State.withNvs_mtx (s : State) (x : NvsSt) : (s.withNvs x).mtx = s.mtx := rfl
@[simp] theorem State.withNvs_lanes (s : State) (x : NvsSt) : (s.withNvs x).lanes = s.lanes := rfl
@[simp] theorem State.withNvs_convs (s : State) (x : NvsSt) : (s.withNvs x).convs = s.convs := rfl
@[simp] theorem State.withNvs_hvs (s : State) (x : NvsSt) : (s.withNvs x).hvs = s.hvs := rfl
@[simp] theorem State.withNvs_cls (s : State) (x : NvsSt) : (s.withNvs x).cls = s.cls := rfl
@[simp] theorem State.withNvs_aut (s : State) (x : NvsSt) : (s.withNvs x).aut = s.aut := rfl
@[simp] theorem State.withNvs_cip (s : State) (x : NvsSt) : (s.withNvs x).cip = s.cip := rfl
@[simp] theorem State.withNvs_threads (s : State) (x : NvsSt) : (s.withNvs x).threads = s.threads := rfl
@[simp] theorem State.withNvs_cores (s : State) (x : NvsSt) : (s.withNvs x).cores = s.cores := rfl
@[simp] theorem State.withNvs_evt (s : State) (x : NvsSt) : (s.withNvs x).evt = s.evt := rfl
@[simp] theorem State.withNvs_trc (s : State) (x : NvsSt) : (s.withNvs x).trc = s.trc := rfl
@[simp] theorem State.withNvs_ic (s : State) (x : NvsSt) : (s.withNvs x).ic = s.ic := rfl
@[simp] theorem State.withNvs_hk (s : State) (x : NvsSt) : (s.withNvs x).hk = s.hk := rfl
@[simp] theorem State.withNvs_dmc (s : State) (x : NvsSt) : (s.withNvs x).dmc = s.dmc := rfl
@[simp] theorem State.withNvs_idc (s : State) (x : NvsSt) : (s.withNvs x).idc = s.idc := rfl
@[simp] theorem State.withNvs_sdh (s : State) (x : NvsSt) : (s.withNvs x).sdh = s.sdh := rfl
@[simp] theorem State.withNvs_nq (s : State) (x : NvsSt) : (s.withNvs x).nq = s.nq := rfl
@[simp] theorem State.withNvs_reg (s : State) (x : NvsSt) (a : Nat) : (s.withNvs x).reg a = s.reg a := rfl
@[simp] theorem State.withNvs_regN (s : State) (x : NvsSt) (a : Nat) : (s.withNvs x).regN a = s.regN a := rfl
@[simp] theorem State.withNvs_fld (s : State) (x : NvsSt) (f : Fld) : (s.withNvs x).fld f = s.fld f := rfl
@[simp] theorem State.withNvs_flag (s : State) (x : NvsSt) (f : Fld) : (s.withNvs x).flag f = s.flag f := rfl
@[simp] theorem State.withNvs_dom (s : State) (x : NvsSt) (d : Nat) : (s.withNvs x).dom d = s.dom d := rfl
@[simp] theorem State.withNvs_isOn (s : State) (x : NvsSt) (d : Nat) : (s.withNvs x).isOn d = s.isOn d := rfl
@[simp] theorem State.withNvs_up (s : State) (x : NvsSt) (d : Nat) : (s.withNvs x).up d = s.up d := rfl
@[simp] theorem State.withNvs_live (s : State) (x : NvsSt) (d : Nat) : (s.withNvs x).live d = s.live d := rfl
@[simp] theorem State.withNvs_vigil (s : State) (x : NvsSt) : (s.withNvs x).vigil = s.vigil := rfl

/-! ### `withFus` -/

@[simp] theorem State.withFus_pending (s : State) (x : FusSt) : (s.withFus x).pending = s.pending := rfl
@[simp] theorem State.withFus_now (s : State) (x : FusSt) : (s.withFus x).now = s.now := rfl
@[simp] theorem State.withFus_free (s : State) (x : FusSt) : (s.withFus x).free = s.free := rfl
@[simp] theorem State.withFus_regs (s : State) (x : FusSt) : (s.withFus x).regs = s.regs := rfl
@[simp] theorem State.withFus_snaps (s : State) (x : FusSt) : (s.withFus x).snaps = s.snaps := rfl
@[simp] theorem State.withFus_dict (s : State) (x : FusSt) : (s.withFus x).dict = s.dict := rfl
@[simp] theorem State.withFus_staged (s : State) (x : FusSt) : (s.withFus x).staged = s.staged := rfl
@[simp] theorem State.withFus_pairs (s : State) (x : FusSt) : (s.withFus x).pairs = s.pairs := rfl
@[simp] theorem State.withFus_answer (s : State) (x : FusSt) : (s.withFus x).answer = s.answer := rfl
@[simp] theorem State.withFus_sram (s : State) (x : FusSt) : (s.withFus x).sram = s.sram := rfl
@[simp] theorem State.withFus_pwr (s : State) (x : FusSt) : (s.withFus x).pwr = s.pwr := rfl
@[simp] theorem State.withFus_rst (s : State) (x : FusSt) : (s.withFus x).rst = s.rst := rfl
@[simp] theorem State.withFus_tmp (s : State) (x : FusSt) : (s.withFus x).tmp = s.tmp := rfl
@[simp] theorem State.withFus_nvs (s : State) (x : FusSt) : (s.withFus x).nvs = s.nvs := rfl
@[simp] theorem State.withFus_fus (s : State) (x : FusSt) : (s.withFus x).fus = x := rfl
@[simp] theorem State.withFus_trn (s : State) (x : FusSt) : (s.withFus x).trn = s.trn := rfl
@[simp] theorem State.withFus_cal (s : State) (x : FusSt) : (s.withFus x).cal = s.cal := rfl
@[simp] theorem State.withFus_hld (s : State) (x : FusSt) : (s.withFus x).hld = s.hld := rfl
@[simp] theorem State.withFus_mtx (s : State) (x : FusSt) : (s.withFus x).mtx = s.mtx := rfl
@[simp] theorem State.withFus_lanes (s : State) (x : FusSt) : (s.withFus x).lanes = s.lanes := rfl
@[simp] theorem State.withFus_convs (s : State) (x : FusSt) : (s.withFus x).convs = s.convs := rfl
@[simp] theorem State.withFus_hvs (s : State) (x : FusSt) : (s.withFus x).hvs = s.hvs := rfl
@[simp] theorem State.withFus_cls (s : State) (x : FusSt) : (s.withFus x).cls = s.cls := rfl
@[simp] theorem State.withFus_aut (s : State) (x : FusSt) : (s.withFus x).aut = s.aut := rfl
@[simp] theorem State.withFus_cip (s : State) (x : FusSt) : (s.withFus x).cip = s.cip := rfl
@[simp] theorem State.withFus_threads (s : State) (x : FusSt) : (s.withFus x).threads = s.threads := rfl
@[simp] theorem State.withFus_cores (s : State) (x : FusSt) : (s.withFus x).cores = s.cores := rfl
@[simp] theorem State.withFus_evt (s : State) (x : FusSt) : (s.withFus x).evt = s.evt := rfl
@[simp] theorem State.withFus_trc (s : State) (x : FusSt) : (s.withFus x).trc = s.trc := rfl
@[simp] theorem State.withFus_ic (s : State) (x : FusSt) : (s.withFus x).ic = s.ic := rfl
@[simp] theorem State.withFus_hk (s : State) (x : FusSt) : (s.withFus x).hk = s.hk := rfl
@[simp] theorem State.withFus_dmc (s : State) (x : FusSt) : (s.withFus x).dmc = s.dmc := rfl
@[simp] theorem State.withFus_idc (s : State) (x : FusSt) : (s.withFus x).idc = s.idc := rfl
@[simp] theorem State.withFus_sdh (s : State) (x : FusSt) : (s.withFus x).sdh = s.sdh := rfl
@[simp] theorem State.withFus_nq (s : State) (x : FusSt) : (s.withFus x).nq = s.nq := rfl
@[simp] theorem State.withFus_reg (s : State) (x : FusSt) (a : Nat) : (s.withFus x).reg a = s.reg a := rfl
@[simp] theorem State.withFus_regN (s : State) (x : FusSt) (a : Nat) : (s.withFus x).regN a = s.regN a := rfl
@[simp] theorem State.withFus_fld (s : State) (x : FusSt) (f : Fld) : (s.withFus x).fld f = s.fld f := rfl
@[simp] theorem State.withFus_flag (s : State) (x : FusSt) (f : Fld) : (s.withFus x).flag f = s.flag f := rfl
@[simp] theorem State.withFus_dom (s : State) (x : FusSt) (d : Nat) : (s.withFus x).dom d = s.dom d := rfl
@[simp] theorem State.withFus_isOn (s : State) (x : FusSt) (d : Nat) : (s.withFus x).isOn d = s.isOn d := rfl
@[simp] theorem State.withFus_up (s : State) (x : FusSt) (d : Nat) : (s.withFus x).up d = s.up d := rfl
@[simp] theorem State.withFus_live (s : State) (x : FusSt) (d : Nat) : (s.withFus x).live d = s.live d := rfl
@[simp] theorem State.withFus_vigil (s : State) (x : FusSt) : (s.withFus x).vigil = s.vigil := rfl

/-! ### `withTrn` -/

@[simp] theorem State.withTrn_pending (s : State) (x : TrnSt) : (s.withTrn x).pending = s.pending := rfl
@[simp] theorem State.withTrn_now (s : State) (x : TrnSt) : (s.withTrn x).now = s.now := rfl
@[simp] theorem State.withTrn_free (s : State) (x : TrnSt) : (s.withTrn x).free = s.free := rfl
@[simp] theorem State.withTrn_regs (s : State) (x : TrnSt) : (s.withTrn x).regs = s.regs := rfl
@[simp] theorem State.withTrn_snaps (s : State) (x : TrnSt) : (s.withTrn x).snaps = s.snaps := rfl
@[simp] theorem State.withTrn_dict (s : State) (x : TrnSt) : (s.withTrn x).dict = s.dict := rfl
@[simp] theorem State.withTrn_staged (s : State) (x : TrnSt) : (s.withTrn x).staged = s.staged := rfl
@[simp] theorem State.withTrn_pairs (s : State) (x : TrnSt) : (s.withTrn x).pairs = s.pairs := rfl
@[simp] theorem State.withTrn_answer (s : State) (x : TrnSt) : (s.withTrn x).answer = s.answer := rfl
@[simp] theorem State.withTrn_sram (s : State) (x : TrnSt) : (s.withTrn x).sram = s.sram := rfl
@[simp] theorem State.withTrn_pwr (s : State) (x : TrnSt) : (s.withTrn x).pwr = s.pwr := rfl
@[simp] theorem State.withTrn_rst (s : State) (x : TrnSt) : (s.withTrn x).rst = s.rst := rfl
@[simp] theorem State.withTrn_tmp (s : State) (x : TrnSt) : (s.withTrn x).tmp = s.tmp := rfl
@[simp] theorem State.withTrn_nvs (s : State) (x : TrnSt) : (s.withTrn x).nvs = s.nvs := rfl
@[simp] theorem State.withTrn_fus (s : State) (x : TrnSt) : (s.withTrn x).fus = s.fus := rfl
@[simp] theorem State.withTrn_trn (s : State) (x : TrnSt) : (s.withTrn x).trn = x := rfl
@[simp] theorem State.withTrn_cal (s : State) (x : TrnSt) : (s.withTrn x).cal = s.cal := rfl
@[simp] theorem State.withTrn_hld (s : State) (x : TrnSt) : (s.withTrn x).hld = s.hld := rfl
@[simp] theorem State.withTrn_mtx (s : State) (x : TrnSt) : (s.withTrn x).mtx = s.mtx := rfl
@[simp] theorem State.withTrn_lanes (s : State) (x : TrnSt) : (s.withTrn x).lanes = s.lanes := rfl
@[simp] theorem State.withTrn_convs (s : State) (x : TrnSt) : (s.withTrn x).convs = s.convs := rfl
@[simp] theorem State.withTrn_hvs (s : State) (x : TrnSt) : (s.withTrn x).hvs = s.hvs := rfl
@[simp] theorem State.withTrn_cls (s : State) (x : TrnSt) : (s.withTrn x).cls = s.cls := rfl
@[simp] theorem State.withTrn_aut (s : State) (x : TrnSt) : (s.withTrn x).aut = s.aut := rfl
@[simp] theorem State.withTrn_cip (s : State) (x : TrnSt) : (s.withTrn x).cip = s.cip := rfl
@[simp] theorem State.withTrn_threads (s : State) (x : TrnSt) : (s.withTrn x).threads = s.threads := rfl
@[simp] theorem State.withTrn_cores (s : State) (x : TrnSt) : (s.withTrn x).cores = s.cores := rfl
@[simp] theorem State.withTrn_evt (s : State) (x : TrnSt) : (s.withTrn x).evt = s.evt := rfl
@[simp] theorem State.withTrn_trc (s : State) (x : TrnSt) : (s.withTrn x).trc = s.trc := rfl
@[simp] theorem State.withTrn_ic (s : State) (x : TrnSt) : (s.withTrn x).ic = s.ic := rfl
@[simp] theorem State.withTrn_hk (s : State) (x : TrnSt) : (s.withTrn x).hk = s.hk := rfl
@[simp] theorem State.withTrn_dmc (s : State) (x : TrnSt) : (s.withTrn x).dmc = s.dmc := rfl
@[simp] theorem State.withTrn_idc (s : State) (x : TrnSt) : (s.withTrn x).idc = s.idc := rfl
@[simp] theorem State.withTrn_sdh (s : State) (x : TrnSt) : (s.withTrn x).sdh = s.sdh := rfl
@[simp] theorem State.withTrn_nq (s : State) (x : TrnSt) : (s.withTrn x).nq = s.nq := rfl
@[simp] theorem State.withTrn_reg (s : State) (x : TrnSt) (a : Nat) : (s.withTrn x).reg a = s.reg a := rfl
@[simp] theorem State.withTrn_regN (s : State) (x : TrnSt) (a : Nat) : (s.withTrn x).regN a = s.regN a := rfl
@[simp] theorem State.withTrn_fld (s : State) (x : TrnSt) (f : Fld) : (s.withTrn x).fld f = s.fld f := rfl
@[simp] theorem State.withTrn_flag (s : State) (x : TrnSt) (f : Fld) : (s.withTrn x).flag f = s.flag f := rfl
@[simp] theorem State.withTrn_dom (s : State) (x : TrnSt) (d : Nat) : (s.withTrn x).dom d = s.dom d := rfl
@[simp] theorem State.withTrn_isOn (s : State) (x : TrnSt) (d : Nat) : (s.withTrn x).isOn d = s.isOn d := rfl
@[simp] theorem State.withTrn_up (s : State) (x : TrnSt) (d : Nat) : (s.withTrn x).up d = s.up d := rfl
@[simp] theorem State.withTrn_live (s : State) (x : TrnSt) (d : Nat) : (s.withTrn x).live d = s.live d := rfl
@[simp] theorem State.withTrn_vigil (s : State) (x : TrnSt) : (s.withTrn x).vigil = s.vigil := rfl

/-! ### `withCal` -/

@[simp] theorem State.withCal_pending (s : State) (x : CalSt) : (s.withCal x).pending = s.pending := rfl
@[simp] theorem State.withCal_now (s : State) (x : CalSt) : (s.withCal x).now = s.now := rfl
@[simp] theorem State.withCal_free (s : State) (x : CalSt) : (s.withCal x).free = s.free := rfl
@[simp] theorem State.withCal_regs (s : State) (x : CalSt) : (s.withCal x).regs = s.regs := rfl
@[simp] theorem State.withCal_snaps (s : State) (x : CalSt) : (s.withCal x).snaps = s.snaps := rfl
@[simp] theorem State.withCal_dict (s : State) (x : CalSt) : (s.withCal x).dict = s.dict := rfl
@[simp] theorem State.withCal_staged (s : State) (x : CalSt) : (s.withCal x).staged = s.staged := rfl
@[simp] theorem State.withCal_pairs (s : State) (x : CalSt) : (s.withCal x).pairs = s.pairs := rfl
@[simp] theorem State.withCal_answer (s : State) (x : CalSt) : (s.withCal x).answer = s.answer := rfl
@[simp] theorem State.withCal_sram (s : State) (x : CalSt) : (s.withCal x).sram = s.sram := rfl
@[simp] theorem State.withCal_pwr (s : State) (x : CalSt) : (s.withCal x).pwr = s.pwr := rfl
@[simp] theorem State.withCal_rst (s : State) (x : CalSt) : (s.withCal x).rst = s.rst := rfl
@[simp] theorem State.withCal_tmp (s : State) (x : CalSt) : (s.withCal x).tmp = s.tmp := rfl
@[simp] theorem State.withCal_nvs (s : State) (x : CalSt) : (s.withCal x).nvs = s.nvs := rfl
@[simp] theorem State.withCal_fus (s : State) (x : CalSt) : (s.withCal x).fus = s.fus := rfl
@[simp] theorem State.withCal_trn (s : State) (x : CalSt) : (s.withCal x).trn = s.trn := rfl
@[simp] theorem State.withCal_cal (s : State) (x : CalSt) : (s.withCal x).cal = x := rfl
@[simp] theorem State.withCal_hld (s : State) (x : CalSt) : (s.withCal x).hld = s.hld := rfl
@[simp] theorem State.withCal_mtx (s : State) (x : CalSt) : (s.withCal x).mtx = s.mtx := rfl
@[simp] theorem State.withCal_lanes (s : State) (x : CalSt) : (s.withCal x).lanes = s.lanes := rfl
@[simp] theorem State.withCal_convs (s : State) (x : CalSt) : (s.withCal x).convs = s.convs := rfl
@[simp] theorem State.withCal_hvs (s : State) (x : CalSt) : (s.withCal x).hvs = s.hvs := rfl
@[simp] theorem State.withCal_cls (s : State) (x : CalSt) : (s.withCal x).cls = s.cls := rfl
@[simp] theorem State.withCal_aut (s : State) (x : CalSt) : (s.withCal x).aut = s.aut := rfl
@[simp] theorem State.withCal_cip (s : State) (x : CalSt) : (s.withCal x).cip = s.cip := rfl
@[simp] theorem State.withCal_threads (s : State) (x : CalSt) : (s.withCal x).threads = s.threads := rfl
@[simp] theorem State.withCal_cores (s : State) (x : CalSt) : (s.withCal x).cores = s.cores := rfl
@[simp] theorem State.withCal_evt (s : State) (x : CalSt) : (s.withCal x).evt = s.evt := rfl
@[simp] theorem State.withCal_trc (s : State) (x : CalSt) : (s.withCal x).trc = s.trc := rfl
@[simp] theorem State.withCal_ic (s : State) (x : CalSt) : (s.withCal x).ic = s.ic := rfl
@[simp] theorem State.withCal_hk (s : State) (x : CalSt) : (s.withCal x).hk = s.hk := rfl
@[simp] theorem State.withCal_dmc (s : State) (x : CalSt) : (s.withCal x).dmc = s.dmc := rfl
@[simp] theorem State.withCal_idc (s : State) (x : CalSt) : (s.withCal x).idc = s.idc := rfl
@[simp] theorem State.withCal_sdh (s : State) (x : CalSt) : (s.withCal x).sdh = s.sdh := rfl
@[simp] theorem State.withCal_nq (s : State) (x : CalSt) : (s.withCal x).nq = s.nq := rfl
@[simp] theorem State.withCal_reg (s : State) (x : CalSt) (a : Nat) : (s.withCal x).reg a = s.reg a := rfl
@[simp] theorem State.withCal_regN (s : State) (x : CalSt) (a : Nat) : (s.withCal x).regN a = s.regN a := rfl
@[simp] theorem State.withCal_fld (s : State) (x : CalSt) (f : Fld) : (s.withCal x).fld f = s.fld f := rfl
@[simp] theorem State.withCal_flag (s : State) (x : CalSt) (f : Fld) : (s.withCal x).flag f = s.flag f := rfl
@[simp] theorem State.withCal_dom (s : State) (x : CalSt) (d : Nat) : (s.withCal x).dom d = s.dom d := rfl
@[simp] theorem State.withCal_isOn (s : State) (x : CalSt) (d : Nat) : (s.withCal x).isOn d = s.isOn d := rfl
@[simp] theorem State.withCal_up (s : State) (x : CalSt) (d : Nat) : (s.withCal x).up d = s.up d := rfl
@[simp] theorem State.withCal_live (s : State) (x : CalSt) (d : Nat) : (s.withCal x).live d = s.live d := rfl
@[simp] theorem State.withCal_vigil (s : State) (x : CalSt) : (s.withCal x).vigil = s.vigil := rfl

/-! ### `withHld` -/

@[simp] theorem State.withHld_pending (s : State) (x : HldSt) : (s.withHld x).pending = s.pending := rfl
@[simp] theorem State.withHld_now (s : State) (x : HldSt) : (s.withHld x).now = s.now := rfl
@[simp] theorem State.withHld_free (s : State) (x : HldSt) : (s.withHld x).free = s.free := rfl
@[simp] theorem State.withHld_regs (s : State) (x : HldSt) : (s.withHld x).regs = s.regs := rfl
@[simp] theorem State.withHld_snaps (s : State) (x : HldSt) : (s.withHld x).snaps = s.snaps := rfl
@[simp] theorem State.withHld_dict (s : State) (x : HldSt) : (s.withHld x).dict = s.dict := rfl
@[simp] theorem State.withHld_staged (s : State) (x : HldSt) : (s.withHld x).staged = s.staged := rfl
@[simp] theorem State.withHld_pairs (s : State) (x : HldSt) : (s.withHld x).pairs = s.pairs := rfl
@[simp] theorem State.withHld_answer (s : State) (x : HldSt) : (s.withHld x).answer = s.answer := rfl
@[simp] theorem State.withHld_sram (s : State) (x : HldSt) : (s.withHld x).sram = s.sram := rfl
@[simp] theorem State.withHld_pwr (s : State) (x : HldSt) : (s.withHld x).pwr = s.pwr := rfl
@[simp] theorem State.withHld_rst (s : State) (x : HldSt) : (s.withHld x).rst = s.rst := rfl
@[simp] theorem State.withHld_tmp (s : State) (x : HldSt) : (s.withHld x).tmp = s.tmp := rfl
@[simp] theorem State.withHld_nvs (s : State) (x : HldSt) : (s.withHld x).nvs = s.nvs := rfl
@[simp] theorem State.withHld_fus (s : State) (x : HldSt) : (s.withHld x).fus = s.fus := rfl
@[simp] theorem State.withHld_trn (s : State) (x : HldSt) : (s.withHld x).trn = s.trn := rfl
@[simp] theorem State.withHld_cal (s : State) (x : HldSt) : (s.withHld x).cal = s.cal := rfl
@[simp] theorem State.withHld_hld (s : State) (x : HldSt) : (s.withHld x).hld = x := rfl
@[simp] theorem State.withHld_mtx (s : State) (x : HldSt) : (s.withHld x).mtx = s.mtx := rfl
@[simp] theorem State.withHld_lanes (s : State) (x : HldSt) : (s.withHld x).lanes = s.lanes := rfl
@[simp] theorem State.withHld_convs (s : State) (x : HldSt) : (s.withHld x).convs = s.convs := rfl
@[simp] theorem State.withHld_hvs (s : State) (x : HldSt) : (s.withHld x).hvs = s.hvs := rfl
@[simp] theorem State.withHld_cls (s : State) (x : HldSt) : (s.withHld x).cls = s.cls := rfl
@[simp] theorem State.withHld_aut (s : State) (x : HldSt) : (s.withHld x).aut = s.aut := rfl
@[simp] theorem State.withHld_cip (s : State) (x : HldSt) : (s.withHld x).cip = s.cip := rfl
@[simp] theorem State.withHld_threads (s : State) (x : HldSt) : (s.withHld x).threads = s.threads := rfl
@[simp] theorem State.withHld_cores (s : State) (x : HldSt) : (s.withHld x).cores = s.cores := rfl
@[simp] theorem State.withHld_evt (s : State) (x : HldSt) : (s.withHld x).evt = s.evt := rfl
@[simp] theorem State.withHld_trc (s : State) (x : HldSt) : (s.withHld x).trc = s.trc := rfl
@[simp] theorem State.withHld_ic (s : State) (x : HldSt) : (s.withHld x).ic = s.ic := rfl
@[simp] theorem State.withHld_hk (s : State) (x : HldSt) : (s.withHld x).hk = s.hk := rfl
@[simp] theorem State.withHld_dmc (s : State) (x : HldSt) : (s.withHld x).dmc = s.dmc := rfl
@[simp] theorem State.withHld_idc (s : State) (x : HldSt) : (s.withHld x).idc = s.idc := rfl
@[simp] theorem State.withHld_sdh (s : State) (x : HldSt) : (s.withHld x).sdh = s.sdh := rfl
@[simp] theorem State.withHld_nq (s : State) (x : HldSt) : (s.withHld x).nq = s.nq := rfl
@[simp] theorem State.withHld_reg (s : State) (x : HldSt) (a : Nat) : (s.withHld x).reg a = s.reg a := rfl
@[simp] theorem State.withHld_regN (s : State) (x : HldSt) (a : Nat) : (s.withHld x).regN a = s.regN a := rfl
@[simp] theorem State.withHld_fld (s : State) (x : HldSt) (f : Fld) : (s.withHld x).fld f = s.fld f := rfl
@[simp] theorem State.withHld_flag (s : State) (x : HldSt) (f : Fld) : (s.withHld x).flag f = s.flag f := rfl
@[simp] theorem State.withHld_dom (s : State) (x : HldSt) (d : Nat) : (s.withHld x).dom d = s.dom d := rfl
@[simp] theorem State.withHld_isOn (s : State) (x : HldSt) (d : Nat) : (s.withHld x).isOn d = s.isOn d := rfl
@[simp] theorem State.withHld_up (s : State) (x : HldSt) (d : Nat) : (s.withHld x).up d = s.up d := rfl
@[simp] theorem State.withHld_live (s : State) (x : HldSt) (d : Nat) : (s.withHld x).live d = s.live d := rfl
@[simp] theorem State.withHld_vigil (s : State) (x : HldSt) : (s.withHld x).vigil = s.vigil := rfl

/-! ### `withMtx` -/

@[simp] theorem State.withMtx_pending (s : State) (x : MtxSt) : (s.withMtx x).pending = s.pending := rfl
@[simp] theorem State.withMtx_now (s : State) (x : MtxSt) : (s.withMtx x).now = s.now := rfl
@[simp] theorem State.withMtx_free (s : State) (x : MtxSt) : (s.withMtx x).free = s.free := rfl
@[simp] theorem State.withMtx_regs (s : State) (x : MtxSt) : (s.withMtx x).regs = s.regs := rfl
@[simp] theorem State.withMtx_snaps (s : State) (x : MtxSt) : (s.withMtx x).snaps = s.snaps := rfl
@[simp] theorem State.withMtx_dict (s : State) (x : MtxSt) : (s.withMtx x).dict = s.dict := rfl
@[simp] theorem State.withMtx_staged (s : State) (x : MtxSt) : (s.withMtx x).staged = s.staged := rfl
@[simp] theorem State.withMtx_pairs (s : State) (x : MtxSt) : (s.withMtx x).pairs = s.pairs := rfl
@[simp] theorem State.withMtx_answer (s : State) (x : MtxSt) : (s.withMtx x).answer = s.answer := rfl
@[simp] theorem State.withMtx_sram (s : State) (x : MtxSt) : (s.withMtx x).sram = s.sram := rfl
@[simp] theorem State.withMtx_pwr (s : State) (x : MtxSt) : (s.withMtx x).pwr = s.pwr := rfl
@[simp] theorem State.withMtx_rst (s : State) (x : MtxSt) : (s.withMtx x).rst = s.rst := rfl
@[simp] theorem State.withMtx_tmp (s : State) (x : MtxSt) : (s.withMtx x).tmp = s.tmp := rfl
@[simp] theorem State.withMtx_nvs (s : State) (x : MtxSt) : (s.withMtx x).nvs = s.nvs := rfl
@[simp] theorem State.withMtx_fus (s : State) (x : MtxSt) : (s.withMtx x).fus = s.fus := rfl
@[simp] theorem State.withMtx_trn (s : State) (x : MtxSt) : (s.withMtx x).trn = s.trn := rfl
@[simp] theorem State.withMtx_cal (s : State) (x : MtxSt) : (s.withMtx x).cal = s.cal := rfl
@[simp] theorem State.withMtx_hld (s : State) (x : MtxSt) : (s.withMtx x).hld = s.hld := rfl
@[simp] theorem State.withMtx_mtx (s : State) (x : MtxSt) : (s.withMtx x).mtx = x := rfl
@[simp] theorem State.withMtx_lanes (s : State) (x : MtxSt) : (s.withMtx x).lanes = s.lanes := rfl
@[simp] theorem State.withMtx_convs (s : State) (x : MtxSt) : (s.withMtx x).convs = s.convs := rfl
@[simp] theorem State.withMtx_hvs (s : State) (x : MtxSt) : (s.withMtx x).hvs = s.hvs := rfl
@[simp] theorem State.withMtx_cls (s : State) (x : MtxSt) : (s.withMtx x).cls = s.cls := rfl
@[simp] theorem State.withMtx_aut (s : State) (x : MtxSt) : (s.withMtx x).aut = s.aut := rfl
@[simp] theorem State.withMtx_cip (s : State) (x : MtxSt) : (s.withMtx x).cip = s.cip := rfl
@[simp] theorem State.withMtx_threads (s : State) (x : MtxSt) : (s.withMtx x).threads = s.threads := rfl
@[simp] theorem State.withMtx_cores (s : State) (x : MtxSt) : (s.withMtx x).cores = s.cores := rfl
@[simp] theorem State.withMtx_evt (s : State) (x : MtxSt) : (s.withMtx x).evt = s.evt := rfl
@[simp] theorem State.withMtx_trc (s : State) (x : MtxSt) : (s.withMtx x).trc = s.trc := rfl
@[simp] theorem State.withMtx_ic (s : State) (x : MtxSt) : (s.withMtx x).ic = s.ic := rfl
@[simp] theorem State.withMtx_hk (s : State) (x : MtxSt) : (s.withMtx x).hk = s.hk := rfl
@[simp] theorem State.withMtx_dmc (s : State) (x : MtxSt) : (s.withMtx x).dmc = s.dmc := rfl
@[simp] theorem State.withMtx_idc (s : State) (x : MtxSt) : (s.withMtx x).idc = s.idc := rfl
@[simp] theorem State.withMtx_sdh (s : State) (x : MtxSt) : (s.withMtx x).sdh = s.sdh := rfl
@[simp] theorem State.withMtx_nq (s : State) (x : MtxSt) : (s.withMtx x).nq = s.nq := rfl
@[simp] theorem State.withMtx_reg (s : State) (x : MtxSt) (a : Nat) : (s.withMtx x).reg a = s.reg a := rfl
@[simp] theorem State.withMtx_regN (s : State) (x : MtxSt) (a : Nat) : (s.withMtx x).regN a = s.regN a := rfl
@[simp] theorem State.withMtx_fld (s : State) (x : MtxSt) (f : Fld) : (s.withMtx x).fld f = s.fld f := rfl
@[simp] theorem State.withMtx_flag (s : State) (x : MtxSt) (f : Fld) : (s.withMtx x).flag f = s.flag f := rfl
@[simp] theorem State.withMtx_dom (s : State) (x : MtxSt) (d : Nat) : (s.withMtx x).dom d = s.dom d := rfl
@[simp] theorem State.withMtx_isOn (s : State) (x : MtxSt) (d : Nat) : (s.withMtx x).isOn d = s.isOn d := rfl
@[simp] theorem State.withMtx_up (s : State) (x : MtxSt) (d : Nat) : (s.withMtx x).up d = s.up d := rfl
@[simp] theorem State.withMtx_live (s : State) (x : MtxSt) (d : Nat) : (s.withMtx x).live d = s.live d := rfl
@[simp] theorem State.withMtx_vigil (s : State) (x : MtxSt) : (s.withMtx x).vigil = s.vigil := rfl

/-! ### `withLanes` -/

@[simp] theorem State.withLanes_pending (s : State) (x : List (Nat × LaneSt)) : (s.withLanes x).pending = s.pending := rfl
@[simp] theorem State.withLanes_now (s : State) (x : List (Nat × LaneSt)) : (s.withLanes x).now = s.now := rfl
@[simp] theorem State.withLanes_free (s : State) (x : List (Nat × LaneSt)) : (s.withLanes x).free = s.free := rfl
@[simp] theorem State.withLanes_regs (s : State) (x : List (Nat × LaneSt)) : (s.withLanes x).regs = s.regs := rfl
@[simp] theorem State.withLanes_snaps (s : State) (x : List (Nat × LaneSt)) : (s.withLanes x).snaps = s.snaps := rfl
@[simp] theorem State.withLanes_dict (s : State) (x : List (Nat × LaneSt)) : (s.withLanes x).dict = s.dict := rfl
@[simp] theorem State.withLanes_staged (s : State) (x : List (Nat × LaneSt)) : (s.withLanes x).staged = s.staged := rfl
@[simp] theorem State.withLanes_pairs (s : State) (x : List (Nat × LaneSt)) : (s.withLanes x).pairs = s.pairs := rfl
@[simp] theorem State.withLanes_answer (s : State) (x : List (Nat × LaneSt)) : (s.withLanes x).answer = s.answer := rfl
@[simp] theorem State.withLanes_sram (s : State) (x : List (Nat × LaneSt)) : (s.withLanes x).sram = s.sram := rfl
@[simp] theorem State.withLanes_pwr (s : State) (x : List (Nat × LaneSt)) : (s.withLanes x).pwr = s.pwr := rfl
@[simp] theorem State.withLanes_rst (s : State) (x : List (Nat × LaneSt)) : (s.withLanes x).rst = s.rst := rfl
@[simp] theorem State.withLanes_tmp (s : State) (x : List (Nat × LaneSt)) : (s.withLanes x).tmp = s.tmp := rfl
@[simp] theorem State.withLanes_nvs (s : State) (x : List (Nat × LaneSt)) : (s.withLanes x).nvs = s.nvs := rfl
@[simp] theorem State.withLanes_fus (s : State) (x : List (Nat × LaneSt)) : (s.withLanes x).fus = s.fus := rfl
@[simp] theorem State.withLanes_trn (s : State) (x : List (Nat × LaneSt)) : (s.withLanes x).trn = s.trn := rfl
@[simp] theorem State.withLanes_cal (s : State) (x : List (Nat × LaneSt)) : (s.withLanes x).cal = s.cal := rfl
@[simp] theorem State.withLanes_hld (s : State) (x : List (Nat × LaneSt)) : (s.withLanes x).hld = s.hld := rfl
@[simp] theorem State.withLanes_mtx (s : State) (x : List (Nat × LaneSt)) : (s.withLanes x).mtx = s.mtx := rfl
@[simp] theorem State.withLanes_lanes (s : State) (x : List (Nat × LaneSt)) : (s.withLanes x).lanes = x := rfl
@[simp] theorem State.withLanes_convs (s : State) (x : List (Nat × LaneSt)) : (s.withLanes x).convs = s.convs := rfl
@[simp] theorem State.withLanes_hvs (s : State) (x : List (Nat × LaneSt)) : (s.withLanes x).hvs = s.hvs := rfl
@[simp] theorem State.withLanes_cls (s : State) (x : List (Nat × LaneSt)) : (s.withLanes x).cls = s.cls := rfl
@[simp] theorem State.withLanes_aut (s : State) (x : List (Nat × LaneSt)) : (s.withLanes x).aut = s.aut := rfl
@[simp] theorem State.withLanes_cip (s : State) (x : List (Nat × LaneSt)) : (s.withLanes x).cip = s.cip := rfl
@[simp] theorem State.withLanes_threads (s : State) (x : List (Nat × LaneSt)) : (s.withLanes x).threads = s.threads := rfl
@[simp] theorem State.withLanes_cores (s : State) (x : List (Nat × LaneSt)) : (s.withLanes x).cores = s.cores := rfl
@[simp] theorem State.withLanes_evt (s : State) (x : List (Nat × LaneSt)) : (s.withLanes x).evt = s.evt := rfl
@[simp] theorem State.withLanes_trc (s : State) (x : List (Nat × LaneSt)) : (s.withLanes x).trc = s.trc := rfl
@[simp] theorem State.withLanes_ic (s : State) (x : List (Nat × LaneSt)) : (s.withLanes x).ic = s.ic := rfl
@[simp] theorem State.withLanes_hk (s : State) (x : List (Nat × LaneSt)) : (s.withLanes x).hk = s.hk := rfl
@[simp] theorem State.withLanes_dmc (s : State) (x : List (Nat × LaneSt)) : (s.withLanes x).dmc = s.dmc := rfl
@[simp] theorem State.withLanes_idc (s : State) (x : List (Nat × LaneSt)) : (s.withLanes x).idc = s.idc := rfl
@[simp] theorem State.withLanes_sdh (s : State) (x : List (Nat × LaneSt)) : (s.withLanes x).sdh = s.sdh := rfl
@[simp] theorem State.withLanes_nq (s : State) (x : List (Nat × LaneSt)) : (s.withLanes x).nq = s.nq := rfl
@[simp] theorem State.withLanes_reg (s : State) (x : List (Nat × LaneSt)) (a : Nat) : (s.withLanes x).reg a = s.reg a := rfl
@[simp] theorem State.withLanes_regN (s : State) (x : List (Nat × LaneSt)) (a : Nat) : (s.withLanes x).regN a = s.regN a := rfl
@[simp] theorem State.withLanes_fld (s : State) (x : List (Nat × LaneSt)) (f : Fld) : (s.withLanes x).fld f = s.fld f := rfl
@[simp] theorem State.withLanes_flag (s : State) (x : List (Nat × LaneSt)) (f : Fld) : (s.withLanes x).flag f = s.flag f := rfl
@[simp] theorem State.withLanes_dom (s : State) (x : List (Nat × LaneSt)) (d : Nat) : (s.withLanes x).dom d = s.dom d := rfl
@[simp] theorem State.withLanes_isOn (s : State) (x : List (Nat × LaneSt)) (d : Nat) : (s.withLanes x).isOn d = s.isOn d := rfl
@[simp] theorem State.withLanes_up (s : State) (x : List (Nat × LaneSt)) (d : Nat) : (s.withLanes x).up d = s.up d := rfl
@[simp] theorem State.withLanes_live (s : State) (x : List (Nat × LaneSt)) (d : Nat) : (s.withLanes x).live d = s.live d := rfl
@[simp] theorem State.withLanes_vigil (s : State) (x : List (Nat × LaneSt)) : (s.withLanes x).vigil = s.vigil := rfl

/-! ### `withConvs` -/

@[simp] theorem State.withConvs_pending (s : State) (x : List (Nat × ConvSt)) : (s.withConvs x).pending = s.pending := rfl
@[simp] theorem State.withConvs_now (s : State) (x : List (Nat × ConvSt)) : (s.withConvs x).now = s.now := rfl
@[simp] theorem State.withConvs_free (s : State) (x : List (Nat × ConvSt)) : (s.withConvs x).free = s.free := rfl
@[simp] theorem State.withConvs_regs (s : State) (x : List (Nat × ConvSt)) : (s.withConvs x).regs = s.regs := rfl
@[simp] theorem State.withConvs_snaps (s : State) (x : List (Nat × ConvSt)) : (s.withConvs x).snaps = s.snaps := rfl
@[simp] theorem State.withConvs_dict (s : State) (x : List (Nat × ConvSt)) : (s.withConvs x).dict = s.dict := rfl
@[simp] theorem State.withConvs_staged (s : State) (x : List (Nat × ConvSt)) : (s.withConvs x).staged = s.staged := rfl
@[simp] theorem State.withConvs_pairs (s : State) (x : List (Nat × ConvSt)) : (s.withConvs x).pairs = s.pairs := rfl
@[simp] theorem State.withConvs_answer (s : State) (x : List (Nat × ConvSt)) : (s.withConvs x).answer = s.answer := rfl
@[simp] theorem State.withConvs_sram (s : State) (x : List (Nat × ConvSt)) : (s.withConvs x).sram = s.sram := rfl
@[simp] theorem State.withConvs_pwr (s : State) (x : List (Nat × ConvSt)) : (s.withConvs x).pwr = s.pwr := rfl
@[simp] theorem State.withConvs_rst (s : State) (x : List (Nat × ConvSt)) : (s.withConvs x).rst = s.rst := rfl
@[simp] theorem State.withConvs_tmp (s : State) (x : List (Nat × ConvSt)) : (s.withConvs x).tmp = s.tmp := rfl
@[simp] theorem State.withConvs_nvs (s : State) (x : List (Nat × ConvSt)) : (s.withConvs x).nvs = s.nvs := rfl
@[simp] theorem State.withConvs_fus (s : State) (x : List (Nat × ConvSt)) : (s.withConvs x).fus = s.fus := rfl
@[simp] theorem State.withConvs_trn (s : State) (x : List (Nat × ConvSt)) : (s.withConvs x).trn = s.trn := rfl
@[simp] theorem State.withConvs_cal (s : State) (x : List (Nat × ConvSt)) : (s.withConvs x).cal = s.cal := rfl
@[simp] theorem State.withConvs_hld (s : State) (x : List (Nat × ConvSt)) : (s.withConvs x).hld = s.hld := rfl
@[simp] theorem State.withConvs_mtx (s : State) (x : List (Nat × ConvSt)) : (s.withConvs x).mtx = s.mtx := rfl
@[simp] theorem State.withConvs_lanes (s : State) (x : List (Nat × ConvSt)) : (s.withConvs x).lanes = s.lanes := rfl
@[simp] theorem State.withConvs_convs (s : State) (x : List (Nat × ConvSt)) : (s.withConvs x).convs = x := rfl
@[simp] theorem State.withConvs_hvs (s : State) (x : List (Nat × ConvSt)) : (s.withConvs x).hvs = s.hvs := rfl
@[simp] theorem State.withConvs_cls (s : State) (x : List (Nat × ConvSt)) : (s.withConvs x).cls = s.cls := rfl
@[simp] theorem State.withConvs_aut (s : State) (x : List (Nat × ConvSt)) : (s.withConvs x).aut = s.aut := rfl
@[simp] theorem State.withConvs_cip (s : State) (x : List (Nat × ConvSt)) : (s.withConvs x).cip = s.cip := rfl
@[simp] theorem State.withConvs_threads (s : State) (x : List (Nat × ConvSt)) : (s.withConvs x).threads = s.threads := rfl
@[simp] theorem State.withConvs_cores (s : State) (x : List (Nat × ConvSt)) : (s.withConvs x).cores = s.cores := rfl
@[simp] theorem State.withConvs_evt (s : State) (x : List (Nat × ConvSt)) : (s.withConvs x).evt = s.evt := rfl
@[simp] theorem State.withConvs_trc (s : State) (x : List (Nat × ConvSt)) : (s.withConvs x).trc = s.trc := rfl
@[simp] theorem State.withConvs_ic (s : State) (x : List (Nat × ConvSt)) : (s.withConvs x).ic = s.ic := rfl
@[simp] theorem State.withConvs_hk (s : State) (x : List (Nat × ConvSt)) : (s.withConvs x).hk = s.hk := rfl
@[simp] theorem State.withConvs_dmc (s : State) (x : List (Nat × ConvSt)) : (s.withConvs x).dmc = s.dmc := rfl
@[simp] theorem State.withConvs_idc (s : State) (x : List (Nat × ConvSt)) : (s.withConvs x).idc = s.idc := rfl
@[simp] theorem State.withConvs_sdh (s : State) (x : List (Nat × ConvSt)) : (s.withConvs x).sdh = s.sdh := rfl
@[simp] theorem State.withConvs_nq (s : State) (x : List (Nat × ConvSt)) : (s.withConvs x).nq = s.nq := rfl
@[simp] theorem State.withConvs_reg (s : State) (x : List (Nat × ConvSt)) (a : Nat) : (s.withConvs x).reg a = s.reg a := rfl
@[simp] theorem State.withConvs_regN (s : State) (x : List (Nat × ConvSt)) (a : Nat) : (s.withConvs x).regN a = s.regN a := rfl
@[simp] theorem State.withConvs_fld (s : State) (x : List (Nat × ConvSt)) (f : Fld) : (s.withConvs x).fld f = s.fld f := rfl
@[simp] theorem State.withConvs_flag (s : State) (x : List (Nat × ConvSt)) (f : Fld) : (s.withConvs x).flag f = s.flag f := rfl
@[simp] theorem State.withConvs_dom (s : State) (x : List (Nat × ConvSt)) (d : Nat) : (s.withConvs x).dom d = s.dom d := rfl
@[simp] theorem State.withConvs_isOn (s : State) (x : List (Nat × ConvSt)) (d : Nat) : (s.withConvs x).isOn d = s.isOn d := rfl
@[simp] theorem State.withConvs_up (s : State) (x : List (Nat × ConvSt)) (d : Nat) : (s.withConvs x).up d = s.up d := rfl
@[simp] theorem State.withConvs_live (s : State) (x : List (Nat × ConvSt)) (d : Nat) : (s.withConvs x).live d = s.live d := rfl
@[simp] theorem State.withConvs_vigil (s : State) (x : List (Nat × ConvSt)) : (s.withConvs x).vigil = s.vigil := rfl

/-! ### `withHvs` -/

@[simp] theorem State.withHvs_pending (s : State) (x : List (Nat × HvsMsg)) : (s.withHvs x).pending = s.pending := rfl
@[simp] theorem State.withHvs_now (s : State) (x : List (Nat × HvsMsg)) : (s.withHvs x).now = s.now := rfl
@[simp] theorem State.withHvs_free (s : State) (x : List (Nat × HvsMsg)) : (s.withHvs x).free = s.free := rfl
@[simp] theorem State.withHvs_regs (s : State) (x : List (Nat × HvsMsg)) : (s.withHvs x).regs = s.regs := rfl
@[simp] theorem State.withHvs_snaps (s : State) (x : List (Nat × HvsMsg)) : (s.withHvs x).snaps = s.snaps := rfl
@[simp] theorem State.withHvs_dict (s : State) (x : List (Nat × HvsMsg)) : (s.withHvs x).dict = s.dict := rfl
@[simp] theorem State.withHvs_staged (s : State) (x : List (Nat × HvsMsg)) : (s.withHvs x).staged = s.staged := rfl
@[simp] theorem State.withHvs_pairs (s : State) (x : List (Nat × HvsMsg)) : (s.withHvs x).pairs = s.pairs := rfl
@[simp] theorem State.withHvs_answer (s : State) (x : List (Nat × HvsMsg)) : (s.withHvs x).answer = s.answer := rfl
@[simp] theorem State.withHvs_sram (s : State) (x : List (Nat × HvsMsg)) : (s.withHvs x).sram = s.sram := rfl
@[simp] theorem State.withHvs_pwr (s : State) (x : List (Nat × HvsMsg)) : (s.withHvs x).pwr = s.pwr := rfl
@[simp] theorem State.withHvs_rst (s : State) (x : List (Nat × HvsMsg)) : (s.withHvs x).rst = s.rst := rfl
@[simp] theorem State.withHvs_tmp (s : State) (x : List (Nat × HvsMsg)) : (s.withHvs x).tmp = s.tmp := rfl
@[simp] theorem State.withHvs_nvs (s : State) (x : List (Nat × HvsMsg)) : (s.withHvs x).nvs = s.nvs := rfl
@[simp] theorem State.withHvs_fus (s : State) (x : List (Nat × HvsMsg)) : (s.withHvs x).fus = s.fus := rfl
@[simp] theorem State.withHvs_trn (s : State) (x : List (Nat × HvsMsg)) : (s.withHvs x).trn = s.trn := rfl
@[simp] theorem State.withHvs_cal (s : State) (x : List (Nat × HvsMsg)) : (s.withHvs x).cal = s.cal := rfl
@[simp] theorem State.withHvs_hld (s : State) (x : List (Nat × HvsMsg)) : (s.withHvs x).hld = s.hld := rfl
@[simp] theorem State.withHvs_mtx (s : State) (x : List (Nat × HvsMsg)) : (s.withHvs x).mtx = s.mtx := rfl
@[simp] theorem State.withHvs_lanes (s : State) (x : List (Nat × HvsMsg)) : (s.withHvs x).lanes = s.lanes := rfl
@[simp] theorem State.withHvs_convs (s : State) (x : List (Nat × HvsMsg)) : (s.withHvs x).convs = s.convs := rfl
@[simp] theorem State.withHvs_hvs (s : State) (x : List (Nat × HvsMsg)) : (s.withHvs x).hvs = x := rfl
@[simp] theorem State.withHvs_cls (s : State) (x : List (Nat × HvsMsg)) : (s.withHvs x).cls = s.cls := rfl
@[simp] theorem State.withHvs_aut (s : State) (x : List (Nat × HvsMsg)) : (s.withHvs x).aut = s.aut := rfl
@[simp] theorem State.withHvs_cip (s : State) (x : List (Nat × HvsMsg)) : (s.withHvs x).cip = s.cip := rfl
@[simp] theorem State.withHvs_threads (s : State) (x : List (Nat × HvsMsg)) : (s.withHvs x).threads = s.threads := rfl
@[simp] theorem State.withHvs_cores (s : State) (x : List (Nat × HvsMsg)) : (s.withHvs x).cores = s.cores := rfl
@[simp] theorem State.withHvs_evt (s : State) (x : List (Nat × HvsMsg)) : (s.withHvs x).evt = s.evt := rfl
@[simp] theorem State.withHvs_trc (s : State) (x : List (Nat × HvsMsg)) : (s.withHvs x).trc = s.trc := rfl
@[simp] theorem State.withHvs_ic (s : State) (x : List (Nat × HvsMsg)) : (s.withHvs x).ic = s.ic := rfl
@[simp] theorem State.withHvs_hk (s : State) (x : List (Nat × HvsMsg)) : (s.withHvs x).hk = s.hk := rfl
@[simp] theorem State.withHvs_dmc (s : State) (x : List (Nat × HvsMsg)) : (s.withHvs x).dmc = s.dmc := rfl
@[simp] theorem State.withHvs_idc (s : State) (x : List (Nat × HvsMsg)) : (s.withHvs x).idc = s.idc := rfl
@[simp] theorem State.withHvs_sdh (s : State) (x : List (Nat × HvsMsg)) : (s.withHvs x).sdh = s.sdh := rfl
@[simp] theorem State.withHvs_nq (s : State) (x : List (Nat × HvsMsg)) : (s.withHvs x).nq = s.nq := rfl
@[simp] theorem State.withHvs_reg (s : State) (x : List (Nat × HvsMsg)) (a : Nat) : (s.withHvs x).reg a = s.reg a := rfl
@[simp] theorem State.withHvs_regN (s : State) (x : List (Nat × HvsMsg)) (a : Nat) : (s.withHvs x).regN a = s.regN a := rfl
@[simp] theorem State.withHvs_fld (s : State) (x : List (Nat × HvsMsg)) (f : Fld) : (s.withHvs x).fld f = s.fld f := rfl
@[simp] theorem State.withHvs_flag (s : State) (x : List (Nat × HvsMsg)) (f : Fld) : (s.withHvs x).flag f = s.flag f := rfl
@[simp] theorem State.withHvs_dom (s : State) (x : List (Nat × HvsMsg)) (d : Nat) : (s.withHvs x).dom d = s.dom d := rfl
@[simp] theorem State.withHvs_isOn (s : State) (x : List (Nat × HvsMsg)) (d : Nat) : (s.withHvs x).isOn d = s.isOn d := rfl
@[simp] theorem State.withHvs_up (s : State) (x : List (Nat × HvsMsg)) (d : Nat) : (s.withHvs x).up d = s.up d := rfl
@[simp] theorem State.withHvs_live (s : State) (x : List (Nat × HvsMsg)) (d : Nat) : (s.withHvs x).live d = s.live d := rfl
@[simp] theorem State.withHvs_vigil (s : State) (x : List (Nat × HvsMsg)) : (s.withHvs x).vigil = s.vigil := rfl

/-! ### `withCls` -/

@[simp] theorem State.withCls_pending (s : State) (x : ClsSt) : (s.withCls x).pending = s.pending := rfl
@[simp] theorem State.withCls_now (s : State) (x : ClsSt) : (s.withCls x).now = s.now := rfl
@[simp] theorem State.withCls_free (s : State) (x : ClsSt) : (s.withCls x).free = s.free := rfl
@[simp] theorem State.withCls_regs (s : State) (x : ClsSt) : (s.withCls x).regs = s.regs := rfl
@[simp] theorem State.withCls_snaps (s : State) (x : ClsSt) : (s.withCls x).snaps = s.snaps := rfl
@[simp] theorem State.withCls_dict (s : State) (x : ClsSt) : (s.withCls x).dict = s.dict := rfl
@[simp] theorem State.withCls_staged (s : State) (x : ClsSt) : (s.withCls x).staged = s.staged := rfl
@[simp] theorem State.withCls_pairs (s : State) (x : ClsSt) : (s.withCls x).pairs = s.pairs := rfl
@[simp] theorem State.withCls_answer (s : State) (x : ClsSt) : (s.withCls x).answer = s.answer := rfl
@[simp] theorem State.withCls_sram (s : State) (x : ClsSt) : (s.withCls x).sram = s.sram := rfl
@[simp] theorem State.withCls_pwr (s : State) (x : ClsSt) : (s.withCls x).pwr = s.pwr := rfl
@[simp] theorem State.withCls_rst (s : State) (x : ClsSt) : (s.withCls x).rst = s.rst := rfl
@[simp] theorem State.withCls_tmp (s : State) (x : ClsSt) : (s.withCls x).tmp = s.tmp := rfl
@[simp] theorem State.withCls_nvs (s : State) (x : ClsSt) : (s.withCls x).nvs = s.nvs := rfl
@[simp] theorem State.withCls_fus (s : State) (x : ClsSt) : (s.withCls x).fus = s.fus := rfl
@[simp] theorem State.withCls_trn (s : State) (x : ClsSt) : (s.withCls x).trn = s.trn := rfl
@[simp] theorem State.withCls_cal (s : State) (x : ClsSt) : (s.withCls x).cal = s.cal := rfl
@[simp] theorem State.withCls_hld (s : State) (x : ClsSt) : (s.withCls x).hld = s.hld := rfl
@[simp] theorem State.withCls_mtx (s : State) (x : ClsSt) : (s.withCls x).mtx = s.mtx := rfl
@[simp] theorem State.withCls_lanes (s : State) (x : ClsSt) : (s.withCls x).lanes = s.lanes := rfl
@[simp] theorem State.withCls_convs (s : State) (x : ClsSt) : (s.withCls x).convs = s.convs := rfl
@[simp] theorem State.withCls_hvs (s : State) (x : ClsSt) : (s.withCls x).hvs = s.hvs := rfl
@[simp] theorem State.withCls_cls (s : State) (x : ClsSt) : (s.withCls x).cls = x := rfl
@[simp] theorem State.withCls_aut (s : State) (x : ClsSt) : (s.withCls x).aut = s.aut := rfl
@[simp] theorem State.withCls_cip (s : State) (x : ClsSt) : (s.withCls x).cip = s.cip := rfl
@[simp] theorem State.withCls_threads (s : State) (x : ClsSt) : (s.withCls x).threads = s.threads := rfl
@[simp] theorem State.withCls_cores (s : State) (x : ClsSt) : (s.withCls x).cores = s.cores := rfl
@[simp] theorem State.withCls_evt (s : State) (x : ClsSt) : (s.withCls x).evt = s.evt := rfl
@[simp] theorem State.withCls_trc (s : State) (x : ClsSt) : (s.withCls x).trc = s.trc := rfl
@[simp] theorem State.withCls_ic (s : State) (x : ClsSt) : (s.withCls x).ic = s.ic := rfl
@[simp] theorem State.withCls_hk (s : State) (x : ClsSt) : (s.withCls x).hk = s.hk := rfl
@[simp] theorem State.withCls_dmc (s : State) (x : ClsSt) : (s.withCls x).dmc = s.dmc := rfl
@[simp] theorem State.withCls_idc (s : State) (x : ClsSt) : (s.withCls x).idc = s.idc := rfl
@[simp] theorem State.withCls_sdh (s : State) (x : ClsSt) : (s.withCls x).sdh = s.sdh := rfl
@[simp] theorem State.withCls_nq (s : State) (x : ClsSt) : (s.withCls x).nq = s.nq := rfl
@[simp] theorem State.withCls_reg (s : State) (x : ClsSt) (a : Nat) : (s.withCls x).reg a = s.reg a := rfl
@[simp] theorem State.withCls_regN (s : State) (x : ClsSt) (a : Nat) : (s.withCls x).regN a = s.regN a := rfl
@[simp] theorem State.withCls_fld (s : State) (x : ClsSt) (f : Fld) : (s.withCls x).fld f = s.fld f := rfl
@[simp] theorem State.withCls_flag (s : State) (x : ClsSt) (f : Fld) : (s.withCls x).flag f = s.flag f := rfl
@[simp] theorem State.withCls_dom (s : State) (x : ClsSt) (d : Nat) : (s.withCls x).dom d = s.dom d := rfl
@[simp] theorem State.withCls_isOn (s : State) (x : ClsSt) (d : Nat) : (s.withCls x).isOn d = s.isOn d := rfl
@[simp] theorem State.withCls_up (s : State) (x : ClsSt) (d : Nat) : (s.withCls x).up d = s.up d := rfl
@[simp] theorem State.withCls_live (s : State) (x : ClsSt) (d : Nat) : (s.withCls x).live d = s.live d := rfl
@[simp] theorem State.withCls_vigil (s : State) (x : ClsSt) : (s.withCls x).vigil = s.vigil := rfl

/-! ### `withAut` -/

@[simp] theorem State.withAut_pending (s : State) (x : List (Nat × AutSt)) : (s.withAut x).pending = s.pending := rfl
@[simp] theorem State.withAut_now (s : State) (x : List (Nat × AutSt)) : (s.withAut x).now = s.now := rfl
@[simp] theorem State.withAut_free (s : State) (x : List (Nat × AutSt)) : (s.withAut x).free = s.free := rfl
@[simp] theorem State.withAut_regs (s : State) (x : List (Nat × AutSt)) : (s.withAut x).regs = s.regs := rfl
@[simp] theorem State.withAut_snaps (s : State) (x : List (Nat × AutSt)) : (s.withAut x).snaps = s.snaps := rfl
@[simp] theorem State.withAut_dict (s : State) (x : List (Nat × AutSt)) : (s.withAut x).dict = s.dict := rfl
@[simp] theorem State.withAut_staged (s : State) (x : List (Nat × AutSt)) : (s.withAut x).staged = s.staged := rfl
@[simp] theorem State.withAut_pairs (s : State) (x : List (Nat × AutSt)) : (s.withAut x).pairs = s.pairs := rfl
@[simp] theorem State.withAut_answer (s : State) (x : List (Nat × AutSt)) : (s.withAut x).answer = s.answer := rfl
@[simp] theorem State.withAut_sram (s : State) (x : List (Nat × AutSt)) : (s.withAut x).sram = s.sram := rfl
@[simp] theorem State.withAut_pwr (s : State) (x : List (Nat × AutSt)) : (s.withAut x).pwr = s.pwr := rfl
@[simp] theorem State.withAut_rst (s : State) (x : List (Nat × AutSt)) : (s.withAut x).rst = s.rst := rfl
@[simp] theorem State.withAut_tmp (s : State) (x : List (Nat × AutSt)) : (s.withAut x).tmp = s.tmp := rfl
@[simp] theorem State.withAut_nvs (s : State) (x : List (Nat × AutSt)) : (s.withAut x).nvs = s.nvs := rfl
@[simp] theorem State.withAut_fus (s : State) (x : List (Nat × AutSt)) : (s.withAut x).fus = s.fus := rfl
@[simp] theorem State.withAut_trn (s : State) (x : List (Nat × AutSt)) : (s.withAut x).trn = s.trn := rfl
@[simp] theorem State.withAut_cal (s : State) (x : List (Nat × AutSt)) : (s.withAut x).cal = s.cal := rfl
@[simp] theorem State.withAut_hld (s : State) (x : List (Nat × AutSt)) : (s.withAut x).hld = s.hld := rfl
@[simp] theorem State.withAut_mtx (s : State) (x : List (Nat × AutSt)) : (s.withAut x).mtx = s.mtx := rfl
@[simp] theorem State.withAut_lanes (s : State) (x : List (Nat × AutSt)) : (s.withAut x).lanes = s.lanes := rfl
@[simp] theorem State.withAut_convs (s : State) (x : List (Nat × AutSt)) : (s.withAut x).convs = s.convs := rfl
@[simp] theorem State.withAut_hvs (s : State) (x : List (Nat × AutSt)) : (s.withAut x).hvs = s.hvs := rfl
@[simp] theorem State.withAut_cls (s : State) (x : List (Nat × AutSt)) : (s.withAut x).cls = s.cls := rfl
@[simp] theorem State.withAut_aut (s : State) (x : List (Nat × AutSt)) : (s.withAut x).aut = x := rfl
@[simp] theorem State.withAut_cip (s : State) (x : List (Nat × AutSt)) : (s.withAut x).cip = s.cip := rfl
@[simp] theorem State.withAut_threads (s : State) (x : List (Nat × AutSt)) : (s.withAut x).threads = s.threads := rfl
@[simp] theorem State.withAut_cores (s : State) (x : List (Nat × AutSt)) : (s.withAut x).cores = s.cores := rfl
@[simp] theorem State.withAut_evt (s : State) (x : List (Nat × AutSt)) : (s.withAut x).evt = s.evt := rfl
@[simp] theorem State.withAut_trc (s : State) (x : List (Nat × AutSt)) : (s.withAut x).trc = s.trc := rfl
@[simp] theorem State.withAut_ic (s : State) (x : List (Nat × AutSt)) : (s.withAut x).ic = s.ic := rfl
@[simp] theorem State.withAut_hk (s : State) (x : List (Nat × AutSt)) : (s.withAut x).hk = s.hk := rfl
@[simp] theorem State.withAut_dmc (s : State) (x : List (Nat × AutSt)) : (s.withAut x).dmc = s.dmc := rfl
@[simp] theorem State.withAut_idc (s : State) (x : List (Nat × AutSt)) : (s.withAut x).idc = s.idc := rfl
@[simp] theorem State.withAut_sdh (s : State) (x : List (Nat × AutSt)) : (s.withAut x).sdh = s.sdh := rfl
@[simp] theorem State.withAut_nq (s : State) (x : List (Nat × AutSt)) : (s.withAut x).nq = s.nq := rfl
@[simp] theorem State.withAut_reg (s : State) (x : List (Nat × AutSt)) (a : Nat) : (s.withAut x).reg a = s.reg a := rfl
@[simp] theorem State.withAut_regN (s : State) (x : List (Nat × AutSt)) (a : Nat) : (s.withAut x).regN a = s.regN a := rfl
@[simp] theorem State.withAut_fld (s : State) (x : List (Nat × AutSt)) (f : Fld) : (s.withAut x).fld f = s.fld f := rfl
@[simp] theorem State.withAut_flag (s : State) (x : List (Nat × AutSt)) (f : Fld) : (s.withAut x).flag f = s.flag f := rfl
@[simp] theorem State.withAut_dom (s : State) (x : List (Nat × AutSt)) (d : Nat) : (s.withAut x).dom d = s.dom d := rfl
@[simp] theorem State.withAut_isOn (s : State) (x : List (Nat × AutSt)) (d : Nat) : (s.withAut x).isOn d = s.isOn d := rfl
@[simp] theorem State.withAut_up (s : State) (x : List (Nat × AutSt)) (d : Nat) : (s.withAut x).up d = s.up d := rfl
@[simp] theorem State.withAut_live (s : State) (x : List (Nat × AutSt)) (d : Nat) : (s.withAut x).live d = s.live d := rfl
@[simp] theorem State.withAut_vigil (s : State) (x : List (Nat × AutSt)) : (s.withAut x).vigil = s.vigil := rfl

/-! ### `withCip` -/

@[simp] theorem State.withCip_pending (s : State) (x : CipSt) : (s.withCip x).pending = s.pending := rfl
@[simp] theorem State.withCip_now (s : State) (x : CipSt) : (s.withCip x).now = s.now := rfl
@[simp] theorem State.withCip_free (s : State) (x : CipSt) : (s.withCip x).free = s.free := rfl
@[simp] theorem State.withCip_regs (s : State) (x : CipSt) : (s.withCip x).regs = s.regs := rfl
@[simp] theorem State.withCip_snaps (s : State) (x : CipSt) : (s.withCip x).snaps = s.snaps := rfl
@[simp] theorem State.withCip_dict (s : State) (x : CipSt) : (s.withCip x).dict = s.dict := rfl
@[simp] theorem State.withCip_staged (s : State) (x : CipSt) : (s.withCip x).staged = s.staged := rfl
@[simp] theorem State.withCip_pairs (s : State) (x : CipSt) : (s.withCip x).pairs = s.pairs := rfl
@[simp] theorem State.withCip_answer (s : State) (x : CipSt) : (s.withCip x).answer = s.answer := rfl
@[simp] theorem State.withCip_sram (s : State) (x : CipSt) : (s.withCip x).sram = s.sram := rfl
@[simp] theorem State.withCip_pwr (s : State) (x : CipSt) : (s.withCip x).pwr = s.pwr := rfl
@[simp] theorem State.withCip_rst (s : State) (x : CipSt) : (s.withCip x).rst = s.rst := rfl
@[simp] theorem State.withCip_tmp (s : State) (x : CipSt) : (s.withCip x).tmp = s.tmp := rfl
@[simp] theorem State.withCip_nvs (s : State) (x : CipSt) : (s.withCip x).nvs = s.nvs := rfl
@[simp] theorem State.withCip_fus (s : State) (x : CipSt) : (s.withCip x).fus = s.fus := rfl
@[simp] theorem State.withCip_trn (s : State) (x : CipSt) : (s.withCip x).trn = s.trn := rfl
@[simp] theorem State.withCip_cal (s : State) (x : CipSt) : (s.withCip x).cal = s.cal := rfl
@[simp] theorem State.withCip_hld (s : State) (x : CipSt) : (s.withCip x).hld = s.hld := rfl
@[simp] theorem State.withCip_mtx (s : State) (x : CipSt) : (s.withCip x).mtx = s.mtx := rfl
@[simp] theorem State.withCip_lanes (s : State) (x : CipSt) : (s.withCip x).lanes = s.lanes := rfl
@[simp] theorem State.withCip_convs (s : State) (x : CipSt) : (s.withCip x).convs = s.convs := rfl
@[simp] theorem State.withCip_hvs (s : State) (x : CipSt) : (s.withCip x).hvs = s.hvs := rfl
@[simp] theorem State.withCip_cls (s : State) (x : CipSt) : (s.withCip x).cls = s.cls := rfl
@[simp] theorem State.withCip_aut (s : State) (x : CipSt) : (s.withCip x).aut = s.aut := rfl
@[simp] theorem State.withCip_cip (s : State) (x : CipSt) : (s.withCip x).cip = x := rfl
@[simp] theorem State.withCip_threads (s : State) (x : CipSt) : (s.withCip x).threads = s.threads := rfl
@[simp] theorem State.withCip_cores (s : State) (x : CipSt) : (s.withCip x).cores = s.cores := rfl
@[simp] theorem State.withCip_evt (s : State) (x : CipSt) : (s.withCip x).evt = s.evt := rfl
@[simp] theorem State.withCip_trc (s : State) (x : CipSt) : (s.withCip x).trc = s.trc := rfl
@[simp] theorem State.withCip_ic (s : State) (x : CipSt) : (s.withCip x).ic = s.ic := rfl
@[simp] theorem State.withCip_hk (s : State) (x : CipSt) : (s.withCip x).hk = s.hk := rfl
@[simp] theorem State.withCip_dmc (s : State) (x : CipSt) : (s.withCip x).dmc = s.dmc := rfl
@[simp] theorem State.withCip_idc (s : State) (x : CipSt) : (s.withCip x).idc = s.idc := rfl
@[simp] theorem State.withCip_sdh (s : State) (x : CipSt) : (s.withCip x).sdh = s.sdh := rfl
@[simp] theorem State.withCip_nq (s : State) (x : CipSt) : (s.withCip x).nq = s.nq := rfl
@[simp] theorem State.withCip_reg (s : State) (x : CipSt) (a : Nat) : (s.withCip x).reg a = s.reg a := rfl
@[simp] theorem State.withCip_regN (s : State) (x : CipSt) (a : Nat) : (s.withCip x).regN a = s.regN a := rfl
@[simp] theorem State.withCip_fld (s : State) (x : CipSt) (f : Fld) : (s.withCip x).fld f = s.fld f := rfl
@[simp] theorem State.withCip_flag (s : State) (x : CipSt) (f : Fld) : (s.withCip x).flag f = s.flag f := rfl
@[simp] theorem State.withCip_dom (s : State) (x : CipSt) (d : Nat) : (s.withCip x).dom d = s.dom d := rfl
@[simp] theorem State.withCip_isOn (s : State) (x : CipSt) (d : Nat) : (s.withCip x).isOn d = s.isOn d := rfl
@[simp] theorem State.withCip_up (s : State) (x : CipSt) (d : Nat) : (s.withCip x).up d = s.up d := rfl
@[simp] theorem State.withCip_live (s : State) (x : CipSt) (d : Nat) : (s.withCip x).live d = s.live d := rfl
@[simp] theorem State.withCip_vigil (s : State) (x : CipSt) : (s.withCip x).vigil = s.vigil := rfl

/-! ### `withThreads` -/

@[simp] theorem State.withThreads_pending (s : State) (x : List (Nat × Thread)) : (s.withThreads x).pending = s.pending := rfl
@[simp] theorem State.withThreads_now (s : State) (x : List (Nat × Thread)) : (s.withThreads x).now = s.now := rfl
@[simp] theorem State.withThreads_free (s : State) (x : List (Nat × Thread)) : (s.withThreads x).free = s.free := rfl
@[simp] theorem State.withThreads_regs (s : State) (x : List (Nat × Thread)) : (s.withThreads x).regs = s.regs := rfl
@[simp] theorem State.withThreads_snaps (s : State) (x : List (Nat × Thread)) : (s.withThreads x).snaps = s.snaps := rfl
@[simp] theorem State.withThreads_dict (s : State) (x : List (Nat × Thread)) : (s.withThreads x).dict = s.dict := rfl
@[simp] theorem State.withThreads_staged (s : State) (x : List (Nat × Thread)) : (s.withThreads x).staged = s.staged := rfl
@[simp] theorem State.withThreads_pairs (s : State) (x : List (Nat × Thread)) : (s.withThreads x).pairs = s.pairs := rfl
@[simp] theorem State.withThreads_answer (s : State) (x : List (Nat × Thread)) : (s.withThreads x).answer = s.answer := rfl
@[simp] theorem State.withThreads_sram (s : State) (x : List (Nat × Thread)) : (s.withThreads x).sram = s.sram := rfl
@[simp] theorem State.withThreads_pwr (s : State) (x : List (Nat × Thread)) : (s.withThreads x).pwr = s.pwr := rfl
@[simp] theorem State.withThreads_rst (s : State) (x : List (Nat × Thread)) : (s.withThreads x).rst = s.rst := rfl
@[simp] theorem State.withThreads_tmp (s : State) (x : List (Nat × Thread)) : (s.withThreads x).tmp = s.tmp := rfl
@[simp] theorem State.withThreads_nvs (s : State) (x : List (Nat × Thread)) : (s.withThreads x).nvs = s.nvs := rfl
@[simp] theorem State.withThreads_fus (s : State) (x : List (Nat × Thread)) : (s.withThreads x).fus = s.fus := rfl
@[simp] theorem State.withThreads_trn (s : State) (x : List (Nat × Thread)) : (s.withThreads x).trn = s.trn := rfl
@[simp] theorem State.withThreads_cal (s : State) (x : List (Nat × Thread)) : (s.withThreads x).cal = s.cal := rfl
@[simp] theorem State.withThreads_hld (s : State) (x : List (Nat × Thread)) : (s.withThreads x).hld = s.hld := rfl
@[simp] theorem State.withThreads_mtx (s : State) (x : List (Nat × Thread)) : (s.withThreads x).mtx = s.mtx := rfl
@[simp] theorem State.withThreads_lanes (s : State) (x : List (Nat × Thread)) : (s.withThreads x).lanes = s.lanes := rfl
@[simp] theorem State.withThreads_convs (s : State) (x : List (Nat × Thread)) : (s.withThreads x).convs = s.convs := rfl
@[simp] theorem State.withThreads_hvs (s : State) (x : List (Nat × Thread)) : (s.withThreads x).hvs = s.hvs := rfl
@[simp] theorem State.withThreads_cls (s : State) (x : List (Nat × Thread)) : (s.withThreads x).cls = s.cls := rfl
@[simp] theorem State.withThreads_aut (s : State) (x : List (Nat × Thread)) : (s.withThreads x).aut = s.aut := rfl
@[simp] theorem State.withThreads_cip (s : State) (x : List (Nat × Thread)) : (s.withThreads x).cip = s.cip := rfl
@[simp] theorem State.withThreads_threads (s : State) (x : List (Nat × Thread)) : (s.withThreads x).threads = x := rfl
@[simp] theorem State.withThreads_cores (s : State) (x : List (Nat × Thread)) : (s.withThreads x).cores = s.cores := rfl
@[simp] theorem State.withThreads_evt (s : State) (x : List (Nat × Thread)) : (s.withThreads x).evt = s.evt := rfl
@[simp] theorem State.withThreads_trc (s : State) (x : List (Nat × Thread)) : (s.withThreads x).trc = s.trc := rfl
@[simp] theorem State.withThreads_ic (s : State) (x : List (Nat × Thread)) : (s.withThreads x).ic = s.ic := rfl
@[simp] theorem State.withThreads_hk (s : State) (x : List (Nat × Thread)) : (s.withThreads x).hk = s.hk := rfl
@[simp] theorem State.withThreads_dmc (s : State) (x : List (Nat × Thread)) : (s.withThreads x).dmc = s.dmc := rfl
@[simp] theorem State.withThreads_idc (s : State) (x : List (Nat × Thread)) : (s.withThreads x).idc = s.idc := rfl
@[simp] theorem State.withThreads_sdh (s : State) (x : List (Nat × Thread)) : (s.withThreads x).sdh = s.sdh := rfl
@[simp] theorem State.withThreads_nq (s : State) (x : List (Nat × Thread)) : (s.withThreads x).nq = s.nq := rfl
@[simp] theorem State.withThreads_reg (s : State) (x : List (Nat × Thread)) (a : Nat) : (s.withThreads x).reg a = s.reg a := rfl
@[simp] theorem State.withThreads_regN (s : State) (x : List (Nat × Thread)) (a : Nat) : (s.withThreads x).regN a = s.regN a := rfl
@[simp] theorem State.withThreads_fld (s : State) (x : List (Nat × Thread)) (f : Fld) : (s.withThreads x).fld f = s.fld f := rfl
@[simp] theorem State.withThreads_flag (s : State) (x : List (Nat × Thread)) (f : Fld) : (s.withThreads x).flag f = s.flag f := rfl
@[simp] theorem State.withThreads_dom (s : State) (x : List (Nat × Thread)) (d : Nat) : (s.withThreads x).dom d = s.dom d := rfl
@[simp] theorem State.withThreads_isOn (s : State) (x : List (Nat × Thread)) (d : Nat) : (s.withThreads x).isOn d = s.isOn d := rfl
@[simp] theorem State.withThreads_up (s : State) (x : List (Nat × Thread)) (d : Nat) : (s.withThreads x).up d = s.up d := rfl
@[simp] theorem State.withThreads_live (s : State) (x : List (Nat × Thread)) (d : Nat) : (s.withThreads x).live d = s.live d := rfl
@[simp] theorem State.withThreads_vigil (s : State) (x : List (Nat × Thread)) : (s.withThreads x).vigil = s.vigil := rfl

/-! ### `withCores` -/

@[simp] theorem State.withCores_pending (s : State) (x : List (Nat × CoreSt)) : (s.withCores x).pending = s.pending := rfl
@[simp] theorem State.withCores_now (s : State) (x : List (Nat × CoreSt)) : (s.withCores x).now = s.now := rfl
@[simp] theorem State.withCores_free (s : State) (x : List (Nat × CoreSt)) : (s.withCores x).free = s.free := rfl
@[simp] theorem State.withCores_regs (s : State) (x : List (Nat × CoreSt)) : (s.withCores x).regs = s.regs := rfl
@[simp] theorem State.withCores_snaps (s : State) (x : List (Nat × CoreSt)) : (s.withCores x).snaps = s.snaps := rfl
@[simp] theorem State.withCores_dict (s : State) (x : List (Nat × CoreSt)) : (s.withCores x).dict = s.dict := rfl
@[simp] theorem State.withCores_staged (s : State) (x : List (Nat × CoreSt)) : (s.withCores x).staged = s.staged := rfl
@[simp] theorem State.withCores_pairs (s : State) (x : List (Nat × CoreSt)) : (s.withCores x).pairs = s.pairs := rfl
@[simp] theorem State.withCores_answer (s : State) (x : List (Nat × CoreSt)) : (s.withCores x).answer = s.answer := rfl
@[simp] theorem State.withCores_sram (s : State) (x : List (Nat × CoreSt)) : (s.withCores x).sram = s.sram := rfl
@[simp] theorem State.withCores_pwr (s : State) (x : List (Nat × CoreSt)) : (s.withCores x).pwr = s.pwr := rfl
@[simp] theorem State.withCores_rst (s : State) (x : List (Nat × CoreSt)) : (s.withCores x).rst = s.rst := rfl
@[simp] theorem State.withCores_tmp (s : State) (x : List (Nat × CoreSt)) : (s.withCores x).tmp = s.tmp := rfl
@[simp] theorem State.withCores_nvs (s : State) (x : List (Nat × CoreSt)) : (s.withCores x).nvs = s.nvs := rfl
@[simp] theorem State.withCores_fus (s : State) (x : List (Nat × CoreSt)) : (s.withCores x).fus = s.fus := rfl
@[simp] theorem State.withCores_trn (s : State) (x : List (Nat × CoreSt)) : (s.withCores x).trn = s.trn := rfl
@[simp] theorem State.withCores_cal (s : State) (x : List (Nat × CoreSt)) : (s.withCores x).cal = s.cal := rfl
@[simp] theorem State.withCores_hld (s : State) (x : List (Nat × CoreSt)) : (s.withCores x).hld = s.hld := rfl
@[simp] theorem State.withCores_mtx (s : State) (x : List (Nat × CoreSt)) : (s.withCores x).mtx = s.mtx := rfl
@[simp] theorem State.withCores_lanes (s : State) (x : List (Nat × CoreSt)) : (s.withCores x).lanes = s.lanes := rfl
@[simp] theorem State.withCores_convs (s : State) (x : List (Nat × CoreSt)) : (s.withCores x).convs = s.convs := rfl
@[simp] theorem State.withCores_hvs (s : State) (x : List (Nat × CoreSt)) : (s.withCores x).hvs = s.hvs := rfl
@[simp] theorem State.withCores_cls (s : State) (x : List (Nat × CoreSt)) : (s.withCores x).cls = s.cls := rfl
@[simp] theorem State.withCores_aut (s : State) (x : List (Nat × CoreSt)) : (s.withCores x).aut = s.aut := rfl
@[simp] theorem State.withCores_cip (s : State) (x : List (Nat × CoreSt)) : (s.withCores x).cip = s.cip := rfl
@[simp] theorem State.withCores_threads (s : State) (x : List (Nat × CoreSt)) : (s.withCores x).threads = s.threads := rfl
@[simp] theorem State.withCores_cores (s : State) (x : List (Nat × CoreSt)) : (s.withCores x).cores = x := rfl
@[simp] theorem State.withCores_evt (s : State) (x : List (Nat × CoreSt)) : (s.withCores x).evt = s.evt := rfl
@[simp] theorem State.withCores_trc (s : State) (x : List (Nat × CoreSt)) : (s.withCores x).trc = s.trc := rfl
@[simp] theorem State.withCores_ic (s : State) (x : List (Nat × CoreSt)) : (s.withCores x).ic = s.ic := rfl
@[simp] theorem State.withCores_hk (s : State) (x : List (Nat × CoreSt)) : (s.withCores x).hk = s.hk := rfl
@[simp] theorem State.withCores_dmc (s : State) (x : List (Nat × CoreSt)) : (s.withCores x).dmc = s.dmc := rfl
@[simp] theorem State.withCores_idc (s : State) (x : List (Nat × CoreSt)) : (s.withCores x).idc = s.idc := rfl
@[simp] theorem State.withCores_sdh (s : State) (x : List (Nat × CoreSt)) : (s.withCores x).sdh = s.sdh := rfl
@[simp] theorem State.withCores_nq (s : State) (x : List (Nat × CoreSt)) : (s.withCores x).nq = s.nq := rfl
@[simp] theorem State.withCores_reg (s : State) (x : List (Nat × CoreSt)) (a : Nat) : (s.withCores x).reg a = s.reg a := rfl
@[simp] theorem State.withCores_regN (s : State) (x : List (Nat × CoreSt)) (a : Nat) : (s.withCores x).regN a = s.regN a := rfl
@[simp] theorem State.withCores_fld (s : State) (x : List (Nat × CoreSt)) (f : Fld) : (s.withCores x).fld f = s.fld f := rfl
@[simp] theorem State.withCores_flag (s : State) (x : List (Nat × CoreSt)) (f : Fld) : (s.withCores x).flag f = s.flag f := rfl
@[simp] theorem State.withCores_dom (s : State) (x : List (Nat × CoreSt)) (d : Nat) : (s.withCores x).dom d = s.dom d := rfl
@[simp] theorem State.withCores_isOn (s : State) (x : List (Nat × CoreSt)) (d : Nat) : (s.withCores x).isOn d = s.isOn d := rfl
@[simp] theorem State.withCores_up (s : State) (x : List (Nat × CoreSt)) (d : Nat) : (s.withCores x).up d = s.up d := rfl
@[simp] theorem State.withCores_live (s : State) (x : List (Nat × CoreSt)) (d : Nat) : (s.withCores x).live d = s.live d := rfl
@[simp] theorem State.withCores_vigil (s : State) (x : List (Nat × CoreSt)) : (s.withCores x).vigil = s.vigil := rfl

/-! ### `withEvt` -/

@[simp] theorem State.withEvt_pending (s : State) (x : EvtSt) : (s.withEvt x).pending = s.pending := rfl
@[simp] theorem State.withEvt_now (s : State) (x : EvtSt) : (s.withEvt x).now = s.now := rfl
@[simp] theorem State.withEvt_free (s : State) (x : EvtSt) : (s.withEvt x).free = s.free := rfl
@[simp] theorem State.withEvt_regs (s : State) (x : EvtSt) : (s.withEvt x).regs = s.regs := rfl
@[simp] theorem State.withEvt_snaps (s : State) (x : EvtSt) : (s.withEvt x).snaps = s.snaps := rfl
@[simp] theorem State.withEvt_dict (s : State) (x : EvtSt) : (s.withEvt x).dict = s.dict := rfl
@[simp] theorem State.withEvt_staged (s : State) (x : EvtSt) : (s.withEvt x).staged = s.staged := rfl
@[simp] theorem State.withEvt_pairs (s : State) (x : EvtSt) : (s.withEvt x).pairs = s.pairs := rfl
@[simp] theorem State.withEvt_answer (s : State) (x : EvtSt) : (s.withEvt x).answer = s.answer := rfl
@[simp] theorem State.withEvt_sram (s : State) (x : EvtSt) : (s.withEvt x).sram = s.sram := rfl
@[simp] theorem State.withEvt_pwr (s : State) (x : EvtSt) : (s.withEvt x).pwr = s.pwr := rfl
@[simp] theorem State.withEvt_rst (s : State) (x : EvtSt) : (s.withEvt x).rst = s.rst := rfl
@[simp] theorem State.withEvt_tmp (s : State) (x : EvtSt) : (s.withEvt x).tmp = s.tmp := rfl
@[simp] theorem State.withEvt_nvs (s : State) (x : EvtSt) : (s.withEvt x).nvs = s.nvs := rfl
@[simp] theorem State.withEvt_fus (s : State) (x : EvtSt) : (s.withEvt x).fus = s.fus := rfl
@[simp] theorem State.withEvt_trn (s : State) (x : EvtSt) : (s.withEvt x).trn = s.trn := rfl
@[simp] theorem State.withEvt_cal (s : State) (x : EvtSt) : (s.withEvt x).cal = s.cal := rfl
@[simp] theorem State.withEvt_hld (s : State) (x : EvtSt) : (s.withEvt x).hld = s.hld := rfl
@[simp] theorem State.withEvt_mtx (s : State) (x : EvtSt) : (s.withEvt x).mtx = s.mtx := rfl
@[simp] theorem State.withEvt_lanes (s : State) (x : EvtSt) : (s.withEvt x).lanes = s.lanes := rfl
@[simp] theorem State.withEvt_convs (s : State) (x : EvtSt) : (s.withEvt x).convs = s.convs := rfl
@[simp] theorem State.withEvt_hvs (s : State) (x : EvtSt) : (s.withEvt x).hvs = s.hvs := rfl
@[simp] theorem State.withEvt_cls (s : State) (x : EvtSt) : (s.withEvt x).cls = s.cls := rfl
@[simp] theorem State.withEvt_aut (s : State) (x : EvtSt) : (s.withEvt x).aut = s.aut := rfl
@[simp] theorem State.withEvt_cip (s : State) (x : EvtSt) : (s.withEvt x).cip = s.cip := rfl
@[simp] theorem State.withEvt_threads (s : State) (x : EvtSt) : (s.withEvt x).threads = s.threads := rfl
@[simp] theorem State.withEvt_cores (s : State) (x : EvtSt) : (s.withEvt x).cores = s.cores := rfl
@[simp] theorem State.withEvt_evt (s : State) (x : EvtSt) : (s.withEvt x).evt = x := rfl
@[simp] theorem State.withEvt_trc (s : State) (x : EvtSt) : (s.withEvt x).trc = s.trc := rfl
@[simp] theorem State.withEvt_ic (s : State) (x : EvtSt) : (s.withEvt x).ic = s.ic := rfl
@[simp] theorem State.withEvt_hk (s : State) (x : EvtSt) : (s.withEvt x).hk = s.hk := rfl
@[simp] theorem State.withEvt_dmc (s : State) (x : EvtSt) : (s.withEvt x).dmc = s.dmc := rfl
@[simp] theorem State.withEvt_idc (s : State) (x : EvtSt) : (s.withEvt x).idc = s.idc := rfl
@[simp] theorem State.withEvt_sdh (s : State) (x : EvtSt) : (s.withEvt x).sdh = s.sdh := rfl
@[simp] theorem State.withEvt_nq (s : State) (x : EvtSt) : (s.withEvt x).nq = s.nq := rfl
@[simp] theorem State.withEvt_reg (s : State) (x : EvtSt) (a : Nat) : (s.withEvt x).reg a = s.reg a := rfl
@[simp] theorem State.withEvt_regN (s : State) (x : EvtSt) (a : Nat) : (s.withEvt x).regN a = s.regN a := rfl
@[simp] theorem State.withEvt_fld (s : State) (x : EvtSt) (f : Fld) : (s.withEvt x).fld f = s.fld f := rfl
@[simp] theorem State.withEvt_flag (s : State) (x : EvtSt) (f : Fld) : (s.withEvt x).flag f = s.flag f := rfl
@[simp] theorem State.withEvt_dom (s : State) (x : EvtSt) (d : Nat) : (s.withEvt x).dom d = s.dom d := rfl
@[simp] theorem State.withEvt_isOn (s : State) (x : EvtSt) (d : Nat) : (s.withEvt x).isOn d = s.isOn d := rfl
@[simp] theorem State.withEvt_up (s : State) (x : EvtSt) (d : Nat) : (s.withEvt x).up d = s.up d := rfl
@[simp] theorem State.withEvt_live (s : State) (x : EvtSt) (d : Nat) : (s.withEvt x).live d = s.live d := rfl
@[simp] theorem State.withEvt_vigil (s : State) (x : EvtSt) : (s.withEvt x).vigil = s.vigil := rfl

/-! ### `withTrc` -/

@[simp] theorem State.withTrc_pending (s : State) (x : TrcSt) : (s.withTrc x).pending = s.pending := rfl
@[simp] theorem State.withTrc_now (s : State) (x : TrcSt) : (s.withTrc x).now = s.now := rfl
@[simp] theorem State.withTrc_free (s : State) (x : TrcSt) : (s.withTrc x).free = s.free := rfl
@[simp] theorem State.withTrc_regs (s : State) (x : TrcSt) : (s.withTrc x).regs = s.regs := rfl
@[simp] theorem State.withTrc_snaps (s : State) (x : TrcSt) : (s.withTrc x).snaps = s.snaps := rfl
@[simp] theorem State.withTrc_dict (s : State) (x : TrcSt) : (s.withTrc x).dict = s.dict := rfl
@[simp] theorem State.withTrc_staged (s : State) (x : TrcSt) : (s.withTrc x).staged = s.staged := rfl
@[simp] theorem State.withTrc_pairs (s : State) (x : TrcSt) : (s.withTrc x).pairs = s.pairs := rfl
@[simp] theorem State.withTrc_answer (s : State) (x : TrcSt) : (s.withTrc x).answer = s.answer := rfl
@[simp] theorem State.withTrc_sram (s : State) (x : TrcSt) : (s.withTrc x).sram = s.sram := rfl
@[simp] theorem State.withTrc_pwr (s : State) (x : TrcSt) : (s.withTrc x).pwr = s.pwr := rfl
@[simp] theorem State.withTrc_rst (s : State) (x : TrcSt) : (s.withTrc x).rst = s.rst := rfl
@[simp] theorem State.withTrc_tmp (s : State) (x : TrcSt) : (s.withTrc x).tmp = s.tmp := rfl
@[simp] theorem State.withTrc_nvs (s : State) (x : TrcSt) : (s.withTrc x).nvs = s.nvs := rfl
@[simp] theorem State.withTrc_fus (s : State) (x : TrcSt) : (s.withTrc x).fus = s.fus := rfl
@[simp] theorem State.withTrc_trn (s : State) (x : TrcSt) : (s.withTrc x).trn = s.trn := rfl
@[simp] theorem State.withTrc_cal (s : State) (x : TrcSt) : (s.withTrc x).cal = s.cal := rfl
@[simp] theorem State.withTrc_hld (s : State) (x : TrcSt) : (s.withTrc x).hld = s.hld := rfl
@[simp] theorem State.withTrc_mtx (s : State) (x : TrcSt) : (s.withTrc x).mtx = s.mtx := rfl
@[simp] theorem State.withTrc_lanes (s : State) (x : TrcSt) : (s.withTrc x).lanes = s.lanes := rfl
@[simp] theorem State.withTrc_convs (s : State) (x : TrcSt) : (s.withTrc x).convs = s.convs := rfl
@[simp] theorem State.withTrc_hvs (s : State) (x : TrcSt) : (s.withTrc x).hvs = s.hvs := rfl
@[simp] theorem State.withTrc_cls (s : State) (x : TrcSt) : (s.withTrc x).cls = s.cls := rfl
@[simp] theorem State.withTrc_aut (s : State) (x : TrcSt) : (s.withTrc x).aut = s.aut := rfl
@[simp] theorem State.withTrc_cip (s : State) (x : TrcSt) : (s.withTrc x).cip = s.cip := rfl
@[simp] theorem State.withTrc_threads (s : State) (x : TrcSt) : (s.withTrc x).threads = s.threads := rfl
@[simp] theorem State.withTrc_cores (s : State) (x : TrcSt) : (s.withTrc x).cores = s.cores := rfl
@[simp] theorem State.withTrc_evt (s : State) (x : TrcSt) : (s.withTrc x).evt = s.evt := rfl
@[simp] theorem State.withTrc_trc (s : State) (x : TrcSt) : (s.withTrc x).trc = x := rfl
@[simp] theorem State.withTrc_ic (s : State) (x : TrcSt) : (s.withTrc x).ic = s.ic := rfl
@[simp] theorem State.withTrc_hk (s : State) (x : TrcSt) : (s.withTrc x).hk = s.hk := rfl
@[simp] theorem State.withTrc_dmc (s : State) (x : TrcSt) : (s.withTrc x).dmc = s.dmc := rfl
@[simp] theorem State.withTrc_idc (s : State) (x : TrcSt) : (s.withTrc x).idc = s.idc := rfl
@[simp] theorem State.withTrc_sdh (s : State) (x : TrcSt) : (s.withTrc x).sdh = s.sdh := rfl
@[simp] theorem State.withTrc_nq (s : State) (x : TrcSt) : (s.withTrc x).nq = s.nq := rfl
@[simp] theorem State.withTrc_reg (s : State) (x : TrcSt) (a : Nat) : (s.withTrc x).reg a = s.reg a := rfl
@[simp] theorem State.withTrc_regN (s : State) (x : TrcSt) (a : Nat) : (s.withTrc x).regN a = s.regN a := rfl
@[simp] theorem State.withTrc_fld (s : State) (x : TrcSt) (f : Fld) : (s.withTrc x).fld f = s.fld f := rfl
@[simp] theorem State.withTrc_flag (s : State) (x : TrcSt) (f : Fld) : (s.withTrc x).flag f = s.flag f := rfl
@[simp] theorem State.withTrc_dom (s : State) (x : TrcSt) (d : Nat) : (s.withTrc x).dom d = s.dom d := rfl
@[simp] theorem State.withTrc_isOn (s : State) (x : TrcSt) (d : Nat) : (s.withTrc x).isOn d = s.isOn d := rfl
@[simp] theorem State.withTrc_up (s : State) (x : TrcSt) (d : Nat) : (s.withTrc x).up d = s.up d := rfl
@[simp] theorem State.withTrc_live (s : State) (x : TrcSt) (d : Nat) : (s.withTrc x).live d = s.live d := rfl
@[simp] theorem State.withTrc_vigil (s : State) (x : TrcSt) : (s.withTrc x).vigil = s.vigil := rfl

/-! ### `withIc` -/

@[simp] theorem State.withIc_pending (s : State) (x : IcSt) : (s.withIc x).pending = s.pending := rfl
@[simp] theorem State.withIc_now (s : State) (x : IcSt) : (s.withIc x).now = s.now := rfl
@[simp] theorem State.withIc_free (s : State) (x : IcSt) : (s.withIc x).free = s.free := rfl
@[simp] theorem State.withIc_regs (s : State) (x : IcSt) : (s.withIc x).regs = s.regs := rfl
@[simp] theorem State.withIc_snaps (s : State) (x : IcSt) : (s.withIc x).snaps = s.snaps := rfl
@[simp] theorem State.withIc_dict (s : State) (x : IcSt) : (s.withIc x).dict = s.dict := rfl
@[simp] theorem State.withIc_staged (s : State) (x : IcSt) : (s.withIc x).staged = s.staged := rfl
@[simp] theorem State.withIc_pairs (s : State) (x : IcSt) : (s.withIc x).pairs = s.pairs := rfl
@[simp] theorem State.withIc_answer (s : State) (x : IcSt) : (s.withIc x).answer = s.answer := rfl
@[simp] theorem State.withIc_sram (s : State) (x : IcSt) : (s.withIc x).sram = s.sram := rfl
@[simp] theorem State.withIc_pwr (s : State) (x : IcSt) : (s.withIc x).pwr = s.pwr := rfl
@[simp] theorem State.withIc_rst (s : State) (x : IcSt) : (s.withIc x).rst = s.rst := rfl
@[simp] theorem State.withIc_tmp (s : State) (x : IcSt) : (s.withIc x).tmp = s.tmp := rfl
@[simp] theorem State.withIc_nvs (s : State) (x : IcSt) : (s.withIc x).nvs = s.nvs := rfl
@[simp] theorem State.withIc_fus (s : State) (x : IcSt) : (s.withIc x).fus = s.fus := rfl
@[simp] theorem State.withIc_trn (s : State) (x : IcSt) : (s.withIc x).trn = s.trn := rfl
@[simp] theorem State.withIc_cal (s : State) (x : IcSt) : (s.withIc x).cal = s.cal := rfl
@[simp] theorem State.withIc_hld (s : State) (x : IcSt) : (s.withIc x).hld = s.hld := rfl
@[simp] theorem State.withIc_mtx (s : State) (x : IcSt) : (s.withIc x).mtx = s.mtx := rfl
@[simp] theorem State.withIc_lanes (s : State) (x : IcSt) : (s.withIc x).lanes = s.lanes := rfl
@[simp] theorem State.withIc_convs (s : State) (x : IcSt) : (s.withIc x).convs = s.convs := rfl
@[simp] theorem State.withIc_hvs (s : State) (x : IcSt) : (s.withIc x).hvs = s.hvs := rfl
@[simp] theorem State.withIc_cls (s : State) (x : IcSt) : (s.withIc x).cls = s.cls := rfl
@[simp] theorem State.withIc_aut (s : State) (x : IcSt) : (s.withIc x).aut = s.aut := rfl
@[simp] theorem State.withIc_cip (s : State) (x : IcSt) : (s.withIc x).cip = s.cip := rfl
@[simp] theorem State.withIc_threads (s : State) (x : IcSt) : (s.withIc x).threads = s.threads := rfl
@[simp] theorem State.withIc_cores (s : State) (x : IcSt) : (s.withIc x).cores = s.cores := rfl
@[simp] theorem State.withIc_evt (s : State) (x : IcSt) : (s.withIc x).evt = s.evt := rfl
@[simp] theorem State.withIc_trc (s : State) (x : IcSt) : (s.withIc x).trc = s.trc := rfl
@[simp] theorem State.withIc_ic (s : State) (x : IcSt) : (s.withIc x).ic = x := rfl
@[simp] theorem State.withIc_hk (s : State) (x : IcSt) : (s.withIc x).hk = s.hk := rfl
@[simp] theorem State.withIc_dmc (s : State) (x : IcSt) : (s.withIc x).dmc = s.dmc := rfl
@[simp] theorem State.withIc_idc (s : State) (x : IcSt) : (s.withIc x).idc = s.idc := rfl
@[simp] theorem State.withIc_sdh (s : State) (x : IcSt) : (s.withIc x).sdh = s.sdh := rfl
@[simp] theorem State.withIc_nq (s : State) (x : IcSt) : (s.withIc x).nq = s.nq := rfl
@[simp] theorem State.withIc_reg (s : State) (x : IcSt) (a : Nat) : (s.withIc x).reg a = s.reg a := rfl
@[simp] theorem State.withIc_regN (s : State) (x : IcSt) (a : Nat) : (s.withIc x).regN a = s.regN a := rfl
@[simp] theorem State.withIc_fld (s : State) (x : IcSt) (f : Fld) : (s.withIc x).fld f = s.fld f := rfl
@[simp] theorem State.withIc_flag (s : State) (x : IcSt) (f : Fld) : (s.withIc x).flag f = s.flag f := rfl
@[simp] theorem State.withIc_dom (s : State) (x : IcSt) (d : Nat) : (s.withIc x).dom d = s.dom d := rfl
@[simp] theorem State.withIc_isOn (s : State) (x : IcSt) (d : Nat) : (s.withIc x).isOn d = s.isOn d := rfl
@[simp] theorem State.withIc_up (s : State) (x : IcSt) (d : Nat) : (s.withIc x).up d = s.up d := rfl
@[simp] theorem State.withIc_live (s : State) (x : IcSt) (d : Nat) : (s.withIc x).live d = s.live d := rfl
@[simp] theorem State.withIc_vigil (s : State) (x : IcSt) : (s.withIc x).vigil = s.vigil := rfl

/-! ### `withHk` -/

@[simp] theorem State.withHk_pending (s : State) (x : HkSt) : (s.withHk x).pending = s.pending := rfl
@[simp] theorem State.withHk_now (s : State) (x : HkSt) : (s.withHk x).now = s.now := rfl
@[simp] theorem State.withHk_free (s : State) (x : HkSt) : (s.withHk x).free = s.free := rfl
@[simp] theorem State.withHk_regs (s : State) (x : HkSt) : (s.withHk x).regs = s.regs := rfl
@[simp] theorem State.withHk_snaps (s : State) (x : HkSt) : (s.withHk x).snaps = s.snaps := rfl
@[simp] theorem State.withHk_dict (s : State) (x : HkSt) : (s.withHk x).dict = s.dict := rfl
@[simp] theorem State.withHk_staged (s : State) (x : HkSt) : (s.withHk x).staged = s.staged := rfl
@[simp] theorem State.withHk_pairs (s : State) (x : HkSt) : (s.withHk x).pairs = s.pairs := rfl
@[simp] theorem State.withHk_answer (s : State) (x : HkSt) : (s.withHk x).answer = s.answer := rfl
@[simp] theorem State.withHk_sram (s : State) (x : HkSt) : (s.withHk x).sram = s.sram := rfl
@[simp] theorem State.withHk_pwr (s : State) (x : HkSt) : (s.withHk x).pwr = s.pwr := rfl
@[simp] theorem State.withHk_rst (s : State) (x : HkSt) : (s.withHk x).rst = s.rst := rfl
@[simp] theorem State.withHk_tmp (s : State) (x : HkSt) : (s.withHk x).tmp = s.tmp := rfl
@[simp] theorem State.withHk_nvs (s : State) (x : HkSt) : (s.withHk x).nvs = s.nvs := rfl
@[simp] theorem State.withHk_fus (s : State) (x : HkSt) : (s.withHk x).fus = s.fus := rfl
@[simp] theorem State.withHk_trn (s : State) (x : HkSt) : (s.withHk x).trn = s.trn := rfl
@[simp] theorem State.withHk_cal (s : State) (x : HkSt) : (s.withHk x).cal = s.cal := rfl
@[simp] theorem State.withHk_hld (s : State) (x : HkSt) : (s.withHk x).hld = s.hld := rfl
@[simp] theorem State.withHk_mtx (s : State) (x : HkSt) : (s.withHk x).mtx = s.mtx := rfl
@[simp] theorem State.withHk_lanes (s : State) (x : HkSt) : (s.withHk x).lanes = s.lanes := rfl
@[simp] theorem State.withHk_convs (s : State) (x : HkSt) : (s.withHk x).convs = s.convs := rfl
@[simp] theorem State.withHk_hvs (s : State) (x : HkSt) : (s.withHk x).hvs = s.hvs := rfl
@[simp] theorem State.withHk_cls (s : State) (x : HkSt) : (s.withHk x).cls = s.cls := rfl
@[simp] theorem State.withHk_aut (s : State) (x : HkSt) : (s.withHk x).aut = s.aut := rfl
@[simp] theorem State.withHk_cip (s : State) (x : HkSt) : (s.withHk x).cip = s.cip := rfl
@[simp] theorem State.withHk_threads (s : State) (x : HkSt) : (s.withHk x).threads = s.threads := rfl
@[simp] theorem State.withHk_cores (s : State) (x : HkSt) : (s.withHk x).cores = s.cores := rfl
@[simp] theorem State.withHk_evt (s : State) (x : HkSt) : (s.withHk x).evt = s.evt := rfl
@[simp] theorem State.withHk_trc (s : State) (x : HkSt) : (s.withHk x).trc = s.trc := rfl
@[simp] theorem State.withHk_ic (s : State) (x : HkSt) : (s.withHk x).ic = s.ic := rfl
@[simp] theorem State.withHk_hk (s : State) (x : HkSt) : (s.withHk x).hk = x := rfl
@[simp] theorem State.withHk_dmc (s : State) (x : HkSt) : (s.withHk x).dmc = s.dmc := rfl
@[simp] theorem State.withHk_idc (s : State) (x : HkSt) : (s.withHk x).idc = s.idc := rfl
@[simp] theorem State.withHk_sdh (s : State) (x : HkSt) : (s.withHk x).sdh = s.sdh := rfl
@[simp] theorem State.withHk_nq (s : State) (x : HkSt) : (s.withHk x).nq = s.nq := rfl
@[simp] theorem State.withHk_reg (s : State) (x : HkSt) (a : Nat) : (s.withHk x).reg a = s.reg a := rfl
@[simp] theorem State.withHk_regN (s : State) (x : HkSt) (a : Nat) : (s.withHk x).regN a = s.regN a := rfl
@[simp] theorem State.withHk_fld (s : State) (x : HkSt) (f : Fld) : (s.withHk x).fld f = s.fld f := rfl
@[simp] theorem State.withHk_flag (s : State) (x : HkSt) (f : Fld) : (s.withHk x).flag f = s.flag f := rfl
@[simp] theorem State.withHk_dom (s : State) (x : HkSt) (d : Nat) : (s.withHk x).dom d = s.dom d := rfl
@[simp] theorem State.withHk_isOn (s : State) (x : HkSt) (d : Nat) : (s.withHk x).isOn d = s.isOn d := rfl
@[simp] theorem State.withHk_up (s : State) (x : HkSt) (d : Nat) : (s.withHk x).up d = s.up d := rfl
@[simp] theorem State.withHk_live (s : State) (x : HkSt) (d : Nat) : (s.withHk x).live d = s.live d := rfl
@[simp] theorem State.withHk_vigil (s : State) (x : HkSt) : (s.withHk x).vigil = s.vigil := rfl

/-! ### `withDmc` -/

@[simp] theorem State.withDmc_pending (s : State) (x : DmcSt) : (s.withDmc x).pending = s.pending := rfl
@[simp] theorem State.withDmc_now (s : State) (x : DmcSt) : (s.withDmc x).now = s.now := rfl
@[simp] theorem State.withDmc_free (s : State) (x : DmcSt) : (s.withDmc x).free = s.free := rfl
@[simp] theorem State.withDmc_regs (s : State) (x : DmcSt) : (s.withDmc x).regs = s.regs := rfl
@[simp] theorem State.withDmc_snaps (s : State) (x : DmcSt) : (s.withDmc x).snaps = s.snaps := rfl
@[simp] theorem State.withDmc_dict (s : State) (x : DmcSt) : (s.withDmc x).dict = s.dict := rfl
@[simp] theorem State.withDmc_staged (s : State) (x : DmcSt) : (s.withDmc x).staged = s.staged := rfl
@[simp] theorem State.withDmc_pairs (s : State) (x : DmcSt) : (s.withDmc x).pairs = s.pairs := rfl
@[simp] theorem State.withDmc_answer (s : State) (x : DmcSt) : (s.withDmc x).answer = s.answer := rfl
@[simp] theorem State.withDmc_sram (s : State) (x : DmcSt) : (s.withDmc x).sram = s.sram := rfl
@[simp] theorem State.withDmc_pwr (s : State) (x : DmcSt) : (s.withDmc x).pwr = s.pwr := rfl
@[simp] theorem State.withDmc_rst (s : State) (x : DmcSt) : (s.withDmc x).rst = s.rst := rfl
@[simp] theorem State.withDmc_tmp (s : State) (x : DmcSt) : (s.withDmc x).tmp = s.tmp := rfl
@[simp] theorem State.withDmc_nvs (s : State) (x : DmcSt) : (s.withDmc x).nvs = s.nvs := rfl
@[simp] theorem State.withDmc_fus (s : State) (x : DmcSt) : (s.withDmc x).fus = s.fus := rfl
@[simp] theorem State.withDmc_trn (s : State) (x : DmcSt) : (s.withDmc x).trn = s.trn := rfl
@[simp] theorem State.withDmc_cal (s : State) (x : DmcSt) : (s.withDmc x).cal = s.cal := rfl
@[simp] theorem State.withDmc_hld (s : State) (x : DmcSt) : (s.withDmc x).hld = s.hld := rfl
@[simp] theorem State.withDmc_mtx (s : State) (x : DmcSt) : (s.withDmc x).mtx = s.mtx := rfl
@[simp] theorem State.withDmc_lanes (s : State) (x : DmcSt) : (s.withDmc x).lanes = s.lanes := rfl
@[simp] theorem State.withDmc_convs (s : State) (x : DmcSt) : (s.withDmc x).convs = s.convs := rfl
@[simp] theorem State.withDmc_hvs (s : State) (x : DmcSt) : (s.withDmc x).hvs = s.hvs := rfl
@[simp] theorem State.withDmc_cls (s : State) (x : DmcSt) : (s.withDmc x).cls = s.cls := rfl
@[simp] theorem State.withDmc_aut (s : State) (x : DmcSt) : (s.withDmc x).aut = s.aut := rfl
@[simp] theorem State.withDmc_cip (s : State) (x : DmcSt) : (s.withDmc x).cip = s.cip := rfl
@[simp] theorem State.withDmc_threads (s : State) (x : DmcSt) : (s.withDmc x).threads = s.threads := rfl
@[simp] theorem State.withDmc_cores (s : State) (x : DmcSt) : (s.withDmc x).cores = s.cores := rfl
@[simp] theorem State.withDmc_evt (s : State) (x : DmcSt) : (s.withDmc x).evt = s.evt := rfl
@[simp] theorem State.withDmc_trc (s : State) (x : DmcSt) : (s.withDmc x).trc = s.trc := rfl
@[simp] theorem State.withDmc_ic (s : State) (x : DmcSt) : (s.withDmc x).ic = s.ic := rfl
@[simp] theorem State.withDmc_hk (s : State) (x : DmcSt) : (s.withDmc x).hk = s.hk := rfl
@[simp] theorem State.withDmc_dmc (s : State) (x : DmcSt) : (s.withDmc x).dmc = x := rfl
@[simp] theorem State.withDmc_idc (s : State) (x : DmcSt) : (s.withDmc x).idc = s.idc := rfl
@[simp] theorem State.withDmc_sdh (s : State) (x : DmcSt) : (s.withDmc x).sdh = s.sdh := rfl
@[simp] theorem State.withDmc_nq (s : State) (x : DmcSt) : (s.withDmc x).nq = s.nq := rfl
@[simp] theorem State.withDmc_reg (s : State) (x : DmcSt) (a : Nat) : (s.withDmc x).reg a = s.reg a := rfl
@[simp] theorem State.withDmc_regN (s : State) (x : DmcSt) (a : Nat) : (s.withDmc x).regN a = s.regN a := rfl
@[simp] theorem State.withDmc_fld (s : State) (x : DmcSt) (f : Fld) : (s.withDmc x).fld f = s.fld f := rfl
@[simp] theorem State.withDmc_flag (s : State) (x : DmcSt) (f : Fld) : (s.withDmc x).flag f = s.flag f := rfl
@[simp] theorem State.withDmc_dom (s : State) (x : DmcSt) (d : Nat) : (s.withDmc x).dom d = s.dom d := rfl
@[simp] theorem State.withDmc_isOn (s : State) (x : DmcSt) (d : Nat) : (s.withDmc x).isOn d = s.isOn d := rfl
@[simp] theorem State.withDmc_up (s : State) (x : DmcSt) (d : Nat) : (s.withDmc x).up d = s.up d := rfl
@[simp] theorem State.withDmc_live (s : State) (x : DmcSt) (d : Nat) : (s.withDmc x).live d = s.live d := rfl
@[simp] theorem State.withDmc_vigil (s : State) (x : DmcSt) : (s.withDmc x).vigil = s.vigil := rfl

/-! ### `withIdc` -/

@[simp] theorem State.withIdc_pending (s : State) (x : IdcSt) : (s.withIdc x).pending = s.pending := rfl
@[simp] theorem State.withIdc_now (s : State) (x : IdcSt) : (s.withIdc x).now = s.now := rfl
@[simp] theorem State.withIdc_free (s : State) (x : IdcSt) : (s.withIdc x).free = s.free := rfl
@[simp] theorem State.withIdc_regs (s : State) (x : IdcSt) : (s.withIdc x).regs = s.regs := rfl
@[simp] theorem State.withIdc_snaps (s : State) (x : IdcSt) : (s.withIdc x).snaps = s.snaps := rfl
@[simp] theorem State.withIdc_dict (s : State) (x : IdcSt) : (s.withIdc x).dict = s.dict := rfl
@[simp] theorem State.withIdc_staged (s : State) (x : IdcSt) : (s.withIdc x).staged = s.staged := rfl
@[simp] theorem State.withIdc_pairs (s : State) (x : IdcSt) : (s.withIdc x).pairs = s.pairs := rfl
@[simp] theorem State.withIdc_answer (s : State) (x : IdcSt) : (s.withIdc x).answer = s.answer := rfl
@[simp] theorem State.withIdc_sram (s : State) (x : IdcSt) : (s.withIdc x).sram = s.sram := rfl
@[simp] theorem State.withIdc_pwr (s : State) (x : IdcSt) : (s.withIdc x).pwr = s.pwr := rfl
@[simp] theorem State.withIdc_rst (s : State) (x : IdcSt) : (s.withIdc x).rst = s.rst := rfl
@[simp] theorem State.withIdc_tmp (s : State) (x : IdcSt) : (s.withIdc x).tmp = s.tmp := rfl
@[simp] theorem State.withIdc_nvs (s : State) (x : IdcSt) : (s.withIdc x).nvs = s.nvs := rfl
@[simp] theorem State.withIdc_fus (s : State) (x : IdcSt) : (s.withIdc x).fus = s.fus := rfl
@[simp] theorem State.withIdc_trn (s : State) (x : IdcSt) : (s.withIdc x).trn = s.trn := rfl
@[simp] theorem State.withIdc_cal (s : State) (x : IdcSt) : (s.withIdc x).cal = s.cal := rfl
@[simp] theorem State.withIdc_hld (s : State) (x : IdcSt) : (s.withIdc x).hld = s.hld := rfl
@[simp] theorem State.withIdc_mtx (s : State) (x : IdcSt) : (s.withIdc x).mtx = s.mtx := rfl
@[simp] theorem State.withIdc_lanes (s : State) (x : IdcSt) : (s.withIdc x).lanes = s.lanes := rfl
@[simp] theorem State.withIdc_convs (s : State) (x : IdcSt) : (s.withIdc x).convs = s.convs := rfl
@[simp] theorem State.withIdc_hvs (s : State) (x : IdcSt) : (s.withIdc x).hvs = s.hvs := rfl
@[simp] theorem State.withIdc_cls (s : State) (x : IdcSt) : (s.withIdc x).cls = s.cls := rfl
@[simp] theorem State.withIdc_aut (s : State) (x : IdcSt) : (s.withIdc x).aut = s.aut := rfl
@[simp] theorem State.withIdc_cip (s : State) (x : IdcSt) : (s.withIdc x).cip = s.cip := rfl
@[simp] theorem State.withIdc_threads (s : State) (x : IdcSt) : (s.withIdc x).threads = s.threads := rfl
@[simp] theorem State.withIdc_cores (s : State) (x : IdcSt) : (s.withIdc x).cores = s.cores := rfl
@[simp] theorem State.withIdc_evt (s : State) (x : IdcSt) : (s.withIdc x).evt = s.evt := rfl
@[simp] theorem State.withIdc_trc (s : State) (x : IdcSt) : (s.withIdc x).trc = s.trc := rfl
@[simp] theorem State.withIdc_ic (s : State) (x : IdcSt) : (s.withIdc x).ic = s.ic := rfl
@[simp] theorem State.withIdc_hk (s : State) (x : IdcSt) : (s.withIdc x).hk = s.hk := rfl
@[simp] theorem State.withIdc_dmc (s : State) (x : IdcSt) : (s.withIdc x).dmc = s.dmc := rfl
@[simp] theorem State.withIdc_idc (s : State) (x : IdcSt) : (s.withIdc x).idc = x := rfl
@[simp] theorem State.withIdc_sdh (s : State) (x : IdcSt) : (s.withIdc x).sdh = s.sdh := rfl
@[simp] theorem State.withIdc_nq (s : State) (x : IdcSt) : (s.withIdc x).nq = s.nq := rfl
@[simp] theorem State.withIdc_reg (s : State) (x : IdcSt) (a : Nat) : (s.withIdc x).reg a = s.reg a := rfl
@[simp] theorem State.withIdc_regN (s : State) (x : IdcSt) (a : Nat) : (s.withIdc x).regN a = s.regN a := rfl
@[simp] theorem State.withIdc_fld (s : State) (x : IdcSt) (f : Fld) : (s.withIdc x).fld f = s.fld f := rfl
@[simp] theorem State.withIdc_flag (s : State) (x : IdcSt) (f : Fld) : (s.withIdc x).flag f = s.flag f := rfl
@[simp] theorem State.withIdc_dom (s : State) (x : IdcSt) (d : Nat) : (s.withIdc x).dom d = s.dom d := rfl
@[simp] theorem State.withIdc_isOn (s : State) (x : IdcSt) (d : Nat) : (s.withIdc x).isOn d = s.isOn d := rfl
@[simp] theorem State.withIdc_up (s : State) (x : IdcSt) (d : Nat) : (s.withIdc x).up d = s.up d := rfl
@[simp] theorem State.withIdc_live (s : State) (x : IdcSt) (d : Nat) : (s.withIdc x).live d = s.live d := rfl
@[simp] theorem State.withIdc_vigil (s : State) (x : IdcSt) : (s.withIdc x).vigil = s.vigil := rfl

/-! ### `withSdh` -/

@[simp] theorem State.withSdh_pending (s : State) (x : SdhSt) : (s.withSdh x).pending = s.pending := rfl
@[simp] theorem State.withSdh_now (s : State) (x : SdhSt) : (s.withSdh x).now = s.now := rfl
@[simp] theorem State.withSdh_free (s : State) (x : SdhSt) : (s.withSdh x).free = s.free := rfl
@[simp] theorem State.withSdh_regs (s : State) (x : SdhSt) : (s.withSdh x).regs = s.regs := rfl
@[simp] theorem State.withSdh_snaps (s : State) (x : SdhSt) : (s.withSdh x).snaps = s.snaps := rfl
@[simp] theorem State.withSdh_dict (s : State) (x : SdhSt) : (s.withSdh x).dict = s.dict := rfl
@[simp] theorem State.withSdh_staged (s : State) (x : SdhSt) : (s.withSdh x).staged = s.staged := rfl
@[simp] theorem State.withSdh_pairs (s : State) (x : SdhSt) : (s.withSdh x).pairs = s.pairs := rfl
@[simp] theorem State.withSdh_answer (s : State) (x : SdhSt) : (s.withSdh x).answer = s.answer := rfl
@[simp] theorem State.withSdh_sram (s : State) (x : SdhSt) : (s.withSdh x).sram = s.sram := rfl
@[simp] theorem State.withSdh_pwr (s : State) (x : SdhSt) : (s.withSdh x).pwr = s.pwr := rfl
@[simp] theorem State.withSdh_rst (s : State) (x : SdhSt) : (s.withSdh x).rst = s.rst := rfl
@[simp] theorem State.withSdh_tmp (s : State) (x : SdhSt) : (s.withSdh x).tmp = s.tmp := rfl
@[simp] theorem State.withSdh_nvs (s : State) (x : SdhSt) : (s.withSdh x).nvs = s.nvs := rfl
@[simp] theorem State.withSdh_fus (s : State) (x : SdhSt) : (s.withSdh x).fus = s.fus := rfl
@[simp] theorem State.withSdh_trn (s : State) (x : SdhSt) : (s.withSdh x).trn = s.trn := rfl
@[simp] theorem State.withSdh_cal (s : State) (x : SdhSt) : (s.withSdh x).cal = s.cal := rfl
@[simp] theorem State.withSdh_hld (s : State) (x : SdhSt) : (s.withSdh x).hld = s.hld := rfl
@[simp] theorem State.withSdh_mtx (s : State) (x : SdhSt) : (s.withSdh x).mtx = s.mtx := rfl
@[simp] theorem State.withSdh_lanes (s : State) (x : SdhSt) : (s.withSdh x).lanes = s.lanes := rfl
@[simp] theorem State.withSdh_convs (s : State) (x : SdhSt) : (s.withSdh x).convs = s.convs := rfl
@[simp] theorem State.withSdh_hvs (s : State) (x : SdhSt) : (s.withSdh x).hvs = s.hvs := rfl
@[simp] theorem State.withSdh_cls (s : State) (x : SdhSt) : (s.withSdh x).cls = s.cls := rfl
@[simp] theorem State.withSdh_aut (s : State) (x : SdhSt) : (s.withSdh x).aut = s.aut := rfl
@[simp] theorem State.withSdh_cip (s : State) (x : SdhSt) : (s.withSdh x).cip = s.cip := rfl
@[simp] theorem State.withSdh_threads (s : State) (x : SdhSt) : (s.withSdh x).threads = s.threads := rfl
@[simp] theorem State.withSdh_cores (s : State) (x : SdhSt) : (s.withSdh x).cores = s.cores := rfl
@[simp] theorem State.withSdh_evt (s : State) (x : SdhSt) : (s.withSdh x).evt = s.evt := rfl
@[simp] theorem State.withSdh_trc (s : State) (x : SdhSt) : (s.withSdh x).trc = s.trc := rfl
@[simp] theorem State.withSdh_ic (s : State) (x : SdhSt) : (s.withSdh x).ic = s.ic := rfl
@[simp] theorem State.withSdh_hk (s : State) (x : SdhSt) : (s.withSdh x).hk = s.hk := rfl
@[simp] theorem State.withSdh_dmc (s : State) (x : SdhSt) : (s.withSdh x).dmc = s.dmc := rfl
@[simp] theorem State.withSdh_idc (s : State) (x : SdhSt) : (s.withSdh x).idc = s.idc := rfl
@[simp] theorem State.withSdh_sdh (s : State) (x : SdhSt) : (s.withSdh x).sdh = x := rfl
@[simp] theorem State.withSdh_nq (s : State) (x : SdhSt) : (s.withSdh x).nq = s.nq := rfl
@[simp] theorem State.withSdh_reg (s : State) (x : SdhSt) (a : Nat) : (s.withSdh x).reg a = s.reg a := rfl
@[simp] theorem State.withSdh_regN (s : State) (x : SdhSt) (a : Nat) : (s.withSdh x).regN a = s.regN a := rfl
@[simp] theorem State.withSdh_fld (s : State) (x : SdhSt) (f : Fld) : (s.withSdh x).fld f = s.fld f := rfl
@[simp] theorem State.withSdh_flag (s : State) (x : SdhSt) (f : Fld) : (s.withSdh x).flag f = s.flag f := rfl
@[simp] theorem State.withSdh_dom (s : State) (x : SdhSt) (d : Nat) : (s.withSdh x).dom d = s.dom d := rfl
@[simp] theorem State.withSdh_isOn (s : State) (x : SdhSt) (d : Nat) : (s.withSdh x).isOn d = s.isOn d := rfl
@[simp] theorem State.withSdh_up (s : State) (x : SdhSt) (d : Nat) : (s.withSdh x).up d = s.up d := rfl
@[simp] theorem State.withSdh_live (s : State) (x : SdhSt) (d : Nat) : (s.withSdh x).live d = s.live d := rfl
@[simp] theorem State.withSdh_vigil (s : State) (x : SdhSt) : (s.withSdh x).vigil = s.vigil := rfl

/-! ### `withNq` -/

@[simp] theorem State.withNq_pending (s : State) (x : NqSt) : (s.withNq x).pending = s.pending := rfl
@[simp] theorem State.withNq_now (s : State) (x : NqSt) : (s.withNq x).now = s.now := rfl
@[simp] theorem State.withNq_free (s : State) (x : NqSt) : (s.withNq x).free = s.free := rfl
@[simp] theorem State.withNq_regs (s : State) (x : NqSt) : (s.withNq x).regs = s.regs := rfl
@[simp] theorem State.withNq_snaps (s : State) (x : NqSt) : (s.withNq x).snaps = s.snaps := rfl
@[simp] theorem State.withNq_dict (s : State) (x : NqSt) : (s.withNq x).dict = s.dict := rfl
@[simp] theorem State.withNq_staged (s : State) (x : NqSt) : (s.withNq x).staged = s.staged := rfl
@[simp] theorem State.withNq_pairs (s : State) (x : NqSt) : (s.withNq x).pairs = s.pairs := rfl
@[simp] theorem State.withNq_answer (s : State) (x : NqSt) : (s.withNq x).answer = s.answer := rfl
@[simp] theorem State.withNq_sram (s : State) (x : NqSt) : (s.withNq x).sram = s.sram := rfl
@[simp] theorem State.withNq_pwr (s : State) (x : NqSt) : (s.withNq x).pwr = s.pwr := rfl
@[simp] theorem State.withNq_rst (s : State) (x : NqSt) : (s.withNq x).rst = s.rst := rfl
@[simp] theorem State.withNq_tmp (s : State) (x : NqSt) : (s.withNq x).tmp = s.tmp := rfl
@[simp] theorem State.withNq_nvs (s : State) (x : NqSt) : (s.withNq x).nvs = s.nvs := rfl
@[simp] theorem State.withNq_fus (s : State) (x : NqSt) : (s.withNq x).fus = s.fus := rfl
@[simp] theorem State.withNq_trn (s : State) (x : NqSt) : (s.withNq x).trn = s.trn := rfl
@[simp] theorem State.withNq_cal (s : State) (x : NqSt) : (s.withNq x).cal = s.cal := rfl
@[simp] theorem State.withNq_hld (s : State) (x : NqSt) : (s.withNq x).hld = s.hld := rfl
@[simp] theorem State.withNq_mtx (s : State) (x : NqSt) : (s.withNq x).mtx = s.mtx := rfl
@[simp] theorem State.withNq_lanes (s : State) (x : NqSt) : (s.withNq x).lanes = s.lanes := rfl
@[simp] theorem State.withNq_convs (s : State) (x : NqSt) : (s.withNq x).convs = s.convs := rfl
@[simp] theorem State.withNq_hvs (s : State) (x : NqSt) : (s.withNq x).hvs = s.hvs := rfl
@[simp] theorem State.withNq_cls (s : State) (x : NqSt) : (s.withNq x).cls = s.cls := rfl
@[simp] theorem State.withNq_aut (s : State) (x : NqSt) : (s.withNq x).aut = s.aut := rfl
@[simp] theorem State.withNq_cip (s : State) (x : NqSt) : (s.withNq x).cip = s.cip := rfl
@[simp] theorem State.withNq_threads (s : State) (x : NqSt) : (s.withNq x).threads = s.threads := rfl
@[simp] theorem State.withNq_cores (s : State) (x : NqSt) : (s.withNq x).cores = s.cores := rfl
@[simp] theorem State.withNq_evt (s : State) (x : NqSt) : (s.withNq x).evt = s.evt := rfl
@[simp] theorem State.withNq_trc (s : State) (x : NqSt) : (s.withNq x).trc = s.trc := rfl
@[simp] theorem State.withNq_ic (s : State) (x : NqSt) : (s.withNq x).ic = s.ic := rfl
@[simp] theorem State.withNq_hk (s : State) (x : NqSt) : (s.withNq x).hk = s.hk := rfl
@[simp] theorem State.withNq_dmc (s : State) (x : NqSt) : (s.withNq x).dmc = s.dmc := rfl
@[simp] theorem State.withNq_idc (s : State) (x : NqSt) : (s.withNq x).idc = s.idc := rfl
@[simp] theorem State.withNq_sdh (s : State) (x : NqSt) : (s.withNq x).sdh = s.sdh := rfl
@[simp] theorem State.withNq_nq (s : State) (x : NqSt) : (s.withNq x).nq = x := rfl
@[simp] theorem State.withNq_reg (s : State) (x : NqSt) (a : Nat) : (s.withNq x).reg a = s.reg a := rfl
@[simp] theorem State.withNq_regN (s : State) (x : NqSt) (a : Nat) : (s.withNq x).regN a = s.regN a := rfl
@[simp] theorem State.withNq_fld (s : State) (x : NqSt) (f : Fld) : (s.withNq x).fld f = s.fld f := rfl
@[simp] theorem State.withNq_flag (s : State) (x : NqSt) (f : Fld) : (s.withNq x).flag f = s.flag f := rfl
@[simp] theorem State.withNq_dom (s : State) (x : NqSt) (d : Nat) : (s.withNq x).dom d = s.dom d := rfl
@[simp] theorem State.withNq_isOn (s : State) (x : NqSt) (d : Nat) : (s.withNq x).isOn d = s.isOn d := rfl
@[simp] theorem State.withNq_up (s : State) (x : NqSt) (d : Nat) : (s.withNq x).up d = s.up d := rfl
@[simp] theorem State.withNq_live (s : State) (x : NqSt) (d : Nat) : (s.withNq x).live d = s.live d := rfl
@[simp] theorem State.withNq_vigil (s : State) (x : NqSt) : (s.withNq x).vigil = s.vigil := rfl

end Sys2Proof.Machine
end

