-- ==== Sys2Proof/Laws/Tab.lean ====
section
/-! SUPPORT. Laws of the sparse tables: what a table holds after a change, and that the canonical form is kept. -/

-- Theorems one after another: a thread for each would take more memory than there is.
set_option Elab.async false

namespace Sys2Proof.Machine

/-- Reading after setting a key. -/
theorem tget_tput {α : Type} (d : α) (m : List (Nat × α)) (k j : Nat) (v : α) :
    tget d (tput m k v) j = if k = j then v else tget d m j := by
  induction m with
  | nil => simp [tput, tget]
  | cons p r ih =>
    obtain ⟨a, w⟩ := p
    by_cases h1 : k < a
    · simp [tput, h1, tget]
    · by_cases h2 : k = a
      · subst h2
        by_cases h3 : k = j <;> simp [tput, tget, h3]
      · simp only [tput, h1, h2, if_false, tget, ih]
        by_cases h3 : a = j
        · have h4 : k ≠ j := by omega
          simp [h3, h4]
        · simp [h3]

@[simp] theorem tget_tput_same {α : Type} (d : α) (m : List (Nat × α)) (k : Nat) (v : α) : tget d (tput m k v) k = v := by
  simp [tget_tput]

theorem tget_tput_other {α : Type} (d : α) (m : List (Nat × α)) (k j : Nat) (v : α) (h : k ≠ j) :
    tget d (tput m k v) j = tget d m j := by
  simp [tget_tput, h]

/-- Reading after dropping keys: a kept key reads as before, a dropped one as unlisted. -/
theorem tget_filter {α : Type} (d : α) (f : Nat → Bool) (m : List (Nat × α)) (j : Nat) :
    tget d (m.filter (fun p => f p.1)) j = if f j then tget d m j else d := by
  induction m with
  | nil => simp [tget]
  | cons p r ih =>
    obtain ⟨a, w⟩ := p
    by_cases h1 : f a
    · by_cases h2 : a = j
      · subst h2; simp [tget, h1]
      · simp only [List.filter_cons, h1, if_true, tget, h2, if_false, ih]
    · by_cases h2 : a = j
      · subst h2; simp [h1, ih]
      · simp only [List.filter_cons, h1, tget, h2, if_false]; simpa using ih

/-- Reading after deleting a key. -/
theorem tget_tdel {α : Type} (d : α) (m : List (Nat × α)) (k j : Nat) :
    tget d (tdel m k) j = if k = j then d else tget d m j := by
  rw [tdel, tget_filter d (fun x => x != k) m j]
  by_cases h : k = j
  · simp [h]
  · have : j ≠ k := fun e => h e.symm
    simp [h, this]

/-- Reading after setting a key in canonical form. -/
theorem tget_tset {α : Type} [DecidableEq α] (d : α) (m : List (Nat × α)) (k j : Nat) (v : α) :
    tget d (tset d m k v) j = if k = j then v else tget d m j := by
  unfold tset
  split
  · next h => rw [tget_tdel, h]
  · rw [tget_tput]

/-- Reading after clearing a range of keys. -/
theorem tget_tclear {α : Type} (d : α) (m : List (Nat × α)) (lo hi j : Nat) :
    tget d (tclear m lo hi) j = if j < lo ∨ hi ≤ j then tget d m j else d := by
  rw [tclear, tget_filter d (fun x => decide (x < lo) || decide (hi ≤ x)) m j]
  by_cases h1 : j < lo <;> by_cases h2 : hi ≤ j <;> simp [h1, h2]

/-! ### Order -/

/-- A table is sorted when its head is below every later key and its tail is sorted. -/
theorem tsorted_cons {α : Type} (a : Nat) (w : α) (r : List (Nat × α)) :
    tsorted ((a, w) :: r) = true ↔ (∀ p ∈ r, a < p.1) ∧ tsorted r = true := by
  induction r generalizing a w with
  | nil => simp [tsorted]
  | cons q t ih =>
    obtain ⟨b, x⟩ := q
    simp only [tsorted, Bool.and_eq_true, decide_eq_true_eq, List.mem_cons, forall_eq_or_imp]
    constructor
    · rintro ⟨h1, h2⟩
      exact ⟨⟨h1, fun p hp => Nat.lt_trans h1 (((ih b x).1 h2).1 p hp)⟩, h2⟩
    · rintro ⟨⟨h1, -⟩, h2⟩
      exact ⟨h1, h2⟩

/-- Every entry after setting a key is an old one or the new one. -/
theorem mem_tput {α : Type} {m : List (Nat × α)} {k : Nat} {v : α} {p : Nat × α} (h : p ∈ tput m k v) :
    p = (k, v) ∨ p ∈ m := by
  induction m with
  | nil => simpa [tput] using h
  | cons q r ih =>
    obtain ⟨a, w⟩ := q
    unfold tput at h
    split at h
    · simpa using h
    · split at h
      · rcases List.mem_cons.1 h with h | h
        · exact .inl h
        · exact .inr (List.mem_cons_of_mem _ h)
      · rcases List.mem_cons.1 h with h | h
        · exact .inr (h ▸ List.mem_cons_self)
        · exact (ih h).imp id (List.mem_cons_of_mem _)

/-- Setting a key keeps the order. -/
theorem tsorted_tput {α : Type} (m : List (Nat × α)) (k : Nat) (v : α) (h : tsorted m = true) :
    tsorted (tput m k v) = true := by
  induction m with
  | nil => simp [tput, tsorted]
  | cons q r ih =>
    obtain ⟨a, w⟩ := q
    have hr := (tsorted_cons a w r).1 h
    unfold tput
    split
    · next h1 =>
      refine (tsorted_cons _ _ _).2 ⟨fun p hp => ?_, h⟩
      rcases List.mem_cons.1 hp with e | e
      · subst e; exact h1
      · exact Nat.lt_trans h1 (hr.1 p e)
    · split
      · next h2 =>
        subst h2
        exact (tsorted_cons _ _ _).2 hr
      · next h1 h2 =>
        refine (tsorted_cons _ _ _).2 ⟨fun p hp => ?_, ih hr.2⟩
        rcases mem_tput hp with e | e
        · subst e; simp only; omega
        · exact hr.1 p e

/-- Dropping entries keeps the order. -/
theorem tsorted_filter {α : Type} (f : Nat × α → Bool) (m : List (Nat × α)) (h : tsorted m = true) :
    tsorted (m.filter f) = true := by
  induction m with
  | nil => simp [tsorted]
  | cons q r ih =>
    obtain ⟨a, w⟩ := q
    have hr := (tsorted_cons a w r).1 h
    by_cases hf : f (a, w)
    · rw [List.filter_cons_of_pos hf]
      exact (tsorted_cons _ _ _).2 ⟨fun p hp => hr.1 p (List.mem_filter.1 hp).1, ih hr.2⟩
    · rw [List.filter_cons_of_neg hf]
      exact ih hr.2

/-! ### The canonical form -/

/-- A table in canonical form is sorted and lists no value an unlisted key reads as. -/
theorem tcanon_iff {α : Type} [DecidableEq α] (d : α) (m : List (Nat × α)) :
    tcanon d m = true ↔ tsorted m = true ∧ ∀ p ∈ m, p.2 ≠ d := by
  simp [tcanon, List.all_eq_true]

/-- Setting a key keeps the canonical form. -/
theorem tcanon_tset {α : Type} [DecidableEq α] (d : α) (m : List (Nat × α)) (k : Nat) (v : α) (h : tcanon d m = true) :
    tcanon d (tset d m k v) = true := by
  rw [tcanon_iff] at *
  unfold tset
  split
  · exact ⟨tsorted_filter _ _ h.1, fun p hp => h.2 p (List.mem_filter.1 hp).1⟩
  · next hv =>
    refine ⟨tsorted_tput _ _ _ h.1, fun p hp => ?_⟩
    rcases mem_tput hp with e | e
    · subst e; exact hv
    · exact h.2 p e

/-- Clearing a range of keys keeps the canonical form. -/
theorem tcanon_tclear {α : Type} [DecidableEq α] (d : α) (m : List (Nat × α)) (lo hi : Nat) (h : tcanon d m = true) :
    tcanon d (tclear m lo hi) = true := by
  rw [tcanon_iff] at *
  exact ⟨tsorted_filter _ _ h.1, fun p hp => h.2 p (List.mem_filter.1 hp).1⟩

/-- Two tables in canonical form that read alike at every key are equal. -/
theorem tcanon_ext {α : Type} [DecidableEq α] (d : α) (m n : List (Nat × α)) (hm : tcanon d m = true) (hn : tcanon d n = true)
    (h : ∀ k, tget d m k = tget d n k) : m = n := by
  induction m generalizing n with
  | nil =>
    cases n with
    | nil => rfl
    | cons q t =>
      obtain ⟨b, x⟩ := q
      have := h b
      rw [tcanon_iff] at hn
      simp [tget] at this
      exact absurd this.symm (hn.2 (b, x) List.mem_cons_self)
  | cons p r ih =>
    obtain ⟨a, w⟩ := p
    have hm' := (tcanon_iff d _).1 hm
    have hs := (tsorted_cons a w r).1 hm'.1
    have low : ∀ (l : List (Nat × α)) (k : Nat), (∀ p ∈ l, k < p.1) → tget d l k = d := by
      intro l k hl
      induction l with
      | nil => rfl
      | cons q t iht =>
        obtain ⟨b, x⟩ := q
        have hb : k < b := hl (b, x) List.mem_cons_self
        have : b ≠ k := by omega
        simp [tget, this, iht (fun p hp => hl p (List.mem_cons_of_mem _ hp))]
    cases n with
    | nil =>
      have := h a
      simp [tget] at this
      exact absurd this (hm'.2 (a, w) List.mem_cons_self)
    | cons q t =>
      obtain ⟨b, x⟩ := q
      have hn' := (tcanon_iff d _).1 hn
      have ht := (tsorted_cons b x t).1 hn'.1
      have e : a = b := by
        rcases Nat.lt_trichotomy a b with g | g | g
        · have := h a
          rw [low ((b, x) :: t) a (fun p hp => by
            rcases List.mem_cons.1 hp with e | e
            · subst e; exact g
            · exact Nat.lt_trans g (ht.1 p e))] at this
          simp [tget] at this
          exact absurd this (hm'.2 (a, w) List.mem_cons_self)
        · exact g
        · have := h b
          rw [low ((a, w) :: r) b (fun p hp => by
            rcases List.mem_cons.1 hp with e | e
            · subst e; exact g
            · exact Nat.lt_trans g (hs.1 p e))] at this
          simp [tget] at this
          exact absurd this.symm (hn'.2 (b, x) List.mem_cons_self)
      subst e
      have ew : w = x := by simpa [tget] using h a
      subst ew
      have key : ∀ k, tget d r k = tget d t k := by
        intro k
        by_cases hk : a = k
        · subst hk; rw [low r a hs.1, low t a ht.1]
        · have := h k
          simpa [tget, hk] using this
      rw [ih t ((tcanon_iff d _).2 ⟨hs.2, fun p hp => hm'.2 p (List.mem_cons_of_mem _ hp)⟩)
        ((tcanon_iff d _).2 ⟨ht.2, fun p hp => hn'.2 p (List.mem_cons_of_mem _ hp)⟩) key]

end Sys2Proof.Machine
end

