-- ==== Sys2Proof/Laws/Ops.lean ====
section
/-! SUPPORT. Laws of the named operations: what a register or a field reads as after a change. -/

-- Theorems one after another: a thread for each would take more memory than there is.
set_option Elab.async false

namespace Sys2Proof.Machine

/-! ### Registers -/

/-- Reading a register after setting one. -/
theorem reg_setReg (s : State) (a b : Nat) (w : Word) : (s.setReg a w).reg b = if a = b then w else s.reg b := by
  simp only [State.reg, State.setReg, State.withRegs_regs, tget_tput]

@[simp] theorem reg_setReg_same (s : State) (a : Nat) (w : Word) : (s.setReg a w).reg a = w := by simp [reg_setReg]

theorem reg_setReg_other (s : State) (a b : Nat) (w : Word) (h : a ≠ b) : (s.setReg a w).reg b = s.reg b := by
  simp [reg_setReg, h]

@[simp] theorem regN_setRegN_same (s : State) (a v : Nat) : (s.setRegN a v).regN a = v % 2 ^ 32 := by
  simp [State.regN, State.setRegN]

theorem regN_setRegN_other (s : State) (a b v : Nat) (h : a ≠ b) : (s.setRegN a v).regN b = s.regN b := by
  simp [State.regN, State.setRegN, reg_setReg, h]

/-! ### Fields -/

/-- A field reads back what was set. -/
theorem fld_setFld_same (s : State) (f : Fld) (v : Nat) (h : f.lo ≤ f.hi) (h31 : f.hi < 32) :
    (s.setFld f v).fld f = v % 2 ^ (f.hi + 1 - f.lo) := by
  rw [State.fld, State.setFld, regN_setRegN_same, nbits_mod _ _ _ h31, nbits_nput_same _ _ _ _ (by omega)]

/-- Setting a field leaves every field of another register. -/
theorem fld_setFld_reg (s : State) (f g : Fld) (v : Nat) (h : f.addr ≠ g.addr) : (s.setFld f v).fld g = s.fld g := by
  rw [State.fld, State.setFld, regN_setRegN_other _ _ _ _ h, State.fld]

/-- Setting a field leaves a disjoint field of the same register. -/
theorem fld_setFld_disjoint (s : State) (f g : Fld) (v : Nat) (a : f.addr = g.addr) (h : f.lo ≤ f.hi) (g31 : g.hi < 32)
    (d : f.hi < g.lo ∨ g.hi < f.lo) : (s.setFld f v).fld g = s.fld g := by
  rw [State.fld, State.setFld, a, regN_setRegN_same, nbits_mod _ _ _ g31,
    nbits_nput_other _ _ _ _ _ _ (by omega) d, State.fld]

/-- Setting a field leaves every other register. -/
theorem regN_setFld_other (s : State) (f : Fld) (v a : Nat) (h : f.addr ≠ a) : (s.setFld f v).regN a = s.regN a := by
  rw [State.setFld, regN_setRegN_other _ _ _ _ h]

end Sys2Proof.Machine
end

