-- ==== Sys2Proof/Laws/Bus.lean ====
section
/-! SUPPORT. Laws of register accesses over the interconnect: a write at a register's own offset reaches its block. -/

-- Theorems one after another: a thread for each would take more memory than there is.
set_option Elab.async false

namespace Sys2Proof.Machine

/-- Register addresses lead to registers whatever the remap bit and the aperture say. -/
theorem target_regs (s : State) (a : Nat) (h : regSpace a = true) : s.target a = .regs := by
  have h' := h
  simp only [regSpace, Bool.or_eq_true, Bool.and_eq_true, decide_eq_true_eq] at h'
  unfold State.target
  rw [if_neg (by omega), if_neg (by omega), if_neg (by simp only [Bool.and_eq_true, decide_eq_true_eq]; omega), if_pos h]

/-- Without a channel told to stop nothing is settled. -/
theorem settleDma_idle (s : State) (h : s.ic.dma = []) : s.settleDma = s := by simp [State.settleDma, h]

/-- A write of a word to a register of a live block of the alias class. -/
theorem busWrite_own (s : State) (rid : Rid) (a : Nat) (data : Word) (b : BlockDesc) (r : RegDesc) (hr : s.reaches rid = true)
    (ht : regSpace a = true) (hb : blockAt a = some b) (hl : s.live b.domain = true) (h4 : a % 4 = 0)
    (hf : b.form a = .own r) (hw : mayWrite b rid = true) (hm : b.masked = false) :
    s.busWrite rid a data = (s.withAnswer { rid := rid }).plainWrite b r rid a data 0xFFFFFFFF data := by
  simp [State.busWrite, hr, target_regs s a ht, State.regBusWrite, hb, hl, h4, hf, hw, hm, State.ownWrite, writableWide]

/-- A write of a word to a register of a live block of the masked class, with a mask. -/
theorem busWrite_masked (s : State) (rid : Rid) (a : Nat) (data : Word) (b : BlockDesc) (r : RegDesc)
    (hr : s.reaches rid = true) (ht : regSpace a = true) (hb : blockAt a = some b) (hl : s.live b.domain = true)
    (h4 : a % 4 = 0) (hf : b.form a = .own r) (hw : mayWrite b rid = true) (hm : b.masked = true)
    (hk : data.toNat / 2 ^ 16 ≠ 0) :
    s.busWrite rid a data = (s.withAnswer { rid := rid }).plainWrite b r rid a (data &&& 0xFFFF)
      (BitVec.ofNat 32 (data.toNat / 2 ^ 16)) data := by
  have hk' : ¬ (data.toNat / 65536 = 0) := hk
  simp [State.busWrite, hr, target_regs s a ht, State.regBusWrite, hb, hl, h4, hf, hw, hm, State.ownWrite, writableWide, hk']

/-- With no pair pending and no header register, a write stores the fields and does what the block does with it. -/
theorem plainWrite_simple (s : State) (b : BlockDesc) (r : RegDesc) (rid : Rid) (a : Nat) (data en raw : Word)
    (hp : s.pairs = []) (hs : r.shadowed = false) (hh : ¬ (b.base + 0x3F0 ≤ a ∧ a < b.base + 0x400))
    (hl : r.bits .rwl = 0) :
    s.plainWrite b r rid a data en raw =
      blockWrite b.code rid a raw (s.reg a)
        (s.setReg a ((s.reg a &&& ~~~(s.rwMask b r &&& en) &&& ~~~(r.bits .w1c &&& (data &&& en)) &&& ~~~(r.bits .wo)) |||
          ((data &&& en) &&& (s.rwMask b r &&& en)) ||| ((data &&& en) &&& r.bits .w1s) ||| ((data &&& en) &&& r.bits .wo))) := by
  have hl' : BitVec.ofNat 32 (r.maskOf (fun x => x == .rwl)) = 0 := hl
  have hlw : ∀ old new : Word, s.lockedWrite b r old new = s := by
    intro old new
    simp [State.lockedWrite, hl']
  simp only [State.plainWrite, State.pairLate, State.pairBreak, hp, List.any_nil, hlw, hs, if_neg hh, Bool.false_and,
    Bool.false_eq_true, if_false]

end Sys2Proof.Machine
end

