-- ==== Sys2Proof/Laws/Same.lean ====
section
/-! SUPPORT. Laws of `Same`: how what operations leave as it was goes together. -/

-- Theorems one after another: a thread for each would take more memory than there is.
set_option Elab.async false

namespace Sys2Proof.Machine

theorem Same.refl (l : List Part) (s : State) : Same l s s := ⟨fun _ _ => rfl⟩

/-- An operation that changes some of the parts comes after others. -/
theorem Same.step {l m : List Part} {s t u : State} (h : Same m t u) (g : Same l s t) (hs : m ⊆ l := by decide) : Same l s u :=
  ⟨fun k hk => (h.eq k (fun hm => hk (hs hm))).trans (g.eq k hk)⟩

theorem Same.ite {l : List Part} {s t u : State} {c : Prop} [Decidable c] (ht : Same l s t) (hu : Same l s u) :
    Same l s (if c then t else u) := by split <;> assumption

theorem Same.ite2 {α : Type} {l : List Part} {s : State} {p q : α × State} {c : Prop} [Decidable c] (hp : Same l s p.2)
    (hq : Same l s q.2) : Same l s (if c then p else q).2 := by split <;> assumption

theorem Same.getD {l : List Part} {s d : State} {o : Option State} (h : ∀ r, o = some r → Same l s r) (hd : Same l s d) :
    Same l s (o.getD d) := by cases o with
  | none => exact hd
  | some r => exact h r rfl

theorem Same.elim {α : Type} {l : List Part} {s d : State} {f : α → State} {o : Option α} (hd : Same l s d)
    (h : ∀ r, o = some r → Same l s (f r)) : Same l s (o.elim d f) := by cases o with
  | none => exact hd
  | some r => exact h r rfl

theorem Same.foldl {α : Type} {l : List Part} {s : State} {f : State → α → State} (xs : List α)
    (h : ∀ t x, Same l s t → Same l s (f t x)) : ∀ t, Same l s t → Same l s (xs.foldl f t) := by
  induction xs with
  | nil => intro t ht; exact ht
  | cons x r ih => intro t ht; exact ih _ (h t x ht)

/-- If a command answers a next state, it differs from the given one at most in the listed parts. -/
def After (l : List Part) (s : State) : Host.Outcome State Fault Refusal → Prop
  | .next t => Same l s t
  | .fault _ => True
  | .refused _ => True

theorem After.next {l : List Part} {s t : State} (h : Same l s t) : After l s (.next t) := h

theorem After.mono {l m : List Part} {s : State} {o : Host.Outcome State Fault Refusal} (h : After m s o)
    (hs : m ⊆ l := by decide) : After l s o := by
  cases o with
  | next t => exact .step (l := l) h (.refl ..) hs
  | fault f => trivial
  | refused f => trivial

/-- What a next state keeps. -/
theorem After.of_next {l : List Part} {s t : State} {o : Host.Outcome State Fault Refusal} (h : After l s o) (e : o = .next t) :
    Same l s t := by subst e; exact h

theorem After.ite {l : List Part} {s : State} {o p : Host.Outcome State Fault Refusal} {c : Prop} [Decidable c]
    (ho : After l s o) (hp : After l s p) : After l s (if c then o else p) := by split <;> assumption

/-! The parts by their fields. -/

section
variable {l : List Part} {s t : State} (h : Same l s t)
include h
theorem Same.pending (k : Part.pending ∉ l) : t.pending = s.pending := h.eq _ k
theorem Same.now (k : Part.now ∉ l) : t.now = s.now := h.eq _ k
theorem Same.free (k : Part.free ∉ l) : t.free = s.free := h.eq _ k
theorem Same.regs (k : Part.regs ∉ l) : t.regs = s.regs := h.eq _ k
theorem Same.snaps (k : Part.snaps ∉ l) : t.snaps = s.snaps := h.eq _ k
theorem Same.dict (k : Part.dict ∉ l) : t.dict = s.dict := h.eq _ k
theorem Same.staged (k : Part.staged ∉ l) : t.staged = s.staged := h.eq _ k
theorem Same.pairs (k : Part.pairs ∉ l) : t.pairs = s.pairs := h.eq _ k
theorem Same.answer (k : Part.answer ∉ l) : t.answer = s.answer := h.eq _ k
theorem Same.sram (k : Part.sram ∉ l) : t.sram = s.sram := h.eq _ k
theorem Same.pwr (k : Part.pwr ∉ l) : t.pwr = s.pwr := h.eq _ k
theorem Same.rst (k : Part.rst ∉ l) : t.rst = s.rst := h.eq _ k
theorem Same.tmp (k : Part.tmp ∉ l) : t.tmp = s.tmp := h.eq _ k
theorem Same.nvs (k : Part.nvs ∉ l) : t.nvs = s.nvs := h.eq _ k
theorem Same.fus (k : Part.fus ∉ l) : t.fus = s.fus := h.eq _ k
theorem Same.trn (k : Part.trn ∉ l) : t.trn = s.trn := h.eq _ k
theorem Same.cal (k : Part.cal ∉ l) : t.cal = s.cal := h.eq _ k
theorem Same.hld (k : Part.hld ∉ l) : t.hld = s.hld := h.eq _ k
theorem Same.mtx (k : Part.mtx ∉ l) : t.mtx = s.mtx := h.eq _ k
theorem Same.lanes (k : Part.lanes ∉ l) : t.lanes = s.lanes := h.eq _ k
theorem Same.convs (k : Part.convs ∉ l) : t.convs = s.convs := h.eq _ k
theorem Same.hvs (k : Part.hvs ∉ l) : t.hvs = s.hvs := h.eq _ k
theorem Same.cls (k : Part.cls ∉ l) : t.cls = s.cls := h.eq _ k
theorem Same.aut (k : Part.aut ∉ l) : t.aut = s.aut := h.eq _ k
theorem Same.cip (k : Part.cip ∉ l) : t.cip = s.cip := h.eq _ k
theorem Same.threads (k : Part.threads ∉ l) : t.threads = s.threads := h.eq _ k
theorem Same.cores (k : Part.cores ∉ l) : t.cores = s.cores := h.eq _ k
theorem Same.evt (k : Part.evt ∉ l) : t.evt = s.evt := h.eq _ k
theorem Same.trc (k : Part.trc ∉ l) : t.trc = s.trc := h.eq _ k
theorem Same.ic (k : Part.ic ∉ l) : t.ic = s.ic := h.eq _ k
theorem Same.hk (k : Part.hk ∉ l) : t.hk = s.hk := h.eq _ k
theorem Same.dmc (k : Part.dmc ∉ l) : t.dmc = s.dmc := h.eq _ k
theorem Same.idc (k : Part.idc ∉ l) : t.idc = s.idc := h.eq _ k
theorem Same.sdh (k : Part.sdh ∉ l) : t.sdh = s.sdh := h.eq _ k
theorem Same.nq (k : Part.nq ∉ l) : t.nq = s.nq := h.eq _ k
end

/-! The named updates. -/

theorem State.withPending_same (s x) : Same [.pending] s (State.withPending s x) := ⟨fun k hk => by cases k <;> first | rfl | simp at hk⟩
theorem State.withNow_same (s x) : Same [.now] s (State.withNow s x) := ⟨fun k hk => by cases k <;> first | rfl | simp at hk⟩
theorem State.withFree_same (s x) : Same [.free] s (State.withFree s x) := ⟨fun k hk => by cases k <;> first | rfl | simp at hk⟩
theorem State.withRegs_same (s x) : Same [.regs] s (State.withRegs s x) := ⟨fun k hk => by cases k <;> first | rfl | simp at hk⟩
theorem State.withSnaps_same (s x) : Same [.snaps] s (State.withSnaps s x) := ⟨fun k hk => by cases k <;> first | rfl | simp at hk⟩
theorem State.withDict_same (s x) : Same [.dict] s (State.withDict s x) := ⟨fun k hk => by cases k <;> first | rfl | simp at hk⟩
theorem State.withStaged_same (s x) : Same [.staged] s (State.withStaged s x) := ⟨fun k hk => by cases k <;> first | rfl | simp at hk⟩
theorem State.withPairs_same (s x) : Same [.pairs] s (State.withPairs s x) := ⟨fun k hk => by cases k <;> first | rfl | simp at hk⟩
theorem State.withAnswer_same (s x) : Same [.answer] s (State.withAnswer s x) := ⟨fun k hk => by cases k <;> first | rfl | simp at hk⟩
theorem State.withSram_same (s x) : Same [.sram] s (State.withSram s x) := ⟨fun k hk => by cases k <;> first | rfl | simp at hk⟩
theorem State.withPwr_same (s x) : Same [.pwr] s (State.withPwr s x) := ⟨fun k hk => by cases k <;> first | rfl | simp at hk⟩
theorem State.withRst_same (s x) : Same [.rst] s (State.withRst s x) := ⟨fun k hk => by cases k <;> first | rfl | simp at hk⟩
theorem State.withTmp_same (s x) : Same [.tmp] s (State.withTmp s x) := ⟨fun k hk => by cases k <;> first | rfl | simp at hk⟩
theorem State.withNvs_same (s x) : Same [.nvs] s (State.withNvs s x) := ⟨fun k hk => by cases k <;> first | rfl | simp at hk⟩
theorem State.withFus_same (s x) : Same [.fus] s (State.withFus s x) := ⟨fun k hk => by cases k <;> first | rfl | simp at hk⟩
theorem State.withTrn_same (s x) : Same [.trn] s (State.withTrn s x) := ⟨fun k hk => by cases k <;> first | rfl | simp at hk⟩
theorem State.withCal_same (s x) : Same [.cal] s (State.withCal s x) := ⟨fun k hk => by cases k <;> first | rfl | simp at hk⟩
theorem State.withHld_same (s x) : Same [.hld] s (State.withHld s x) := ⟨fun k hk => by cases k <;> first | rfl | simp at hk⟩
theorem State.withMtx_same (s x) : Same [.mtx] s (State.withMtx s x) := ⟨fun k hk => by cases k <;> first | rfl | simp at hk⟩
theorem State.withLanes_same (s x) : Same [.lanes] s (State.withLanes s x) := ⟨fun k hk => by cases k <;> first | rfl | simp at hk⟩
theorem State.withConvs_same (s x) : Same [.convs] s (State.withConvs s x) := ⟨fun k hk => by cases k <;> first | rfl | simp at hk⟩
theorem State.withHvs_same (s x) : Same [.hvs] s (State.withHvs s x) := ⟨fun k hk => by cases k <;> first | rfl | simp at hk⟩
theorem State.withCls_same (s x) : Same [.cls] s (State.withCls s x) := ⟨fun k hk => by cases k <;> first | rfl | simp at hk⟩
theorem State.withAut_same (s x) : Same [.aut] s (State.withAut s x) := ⟨fun k hk => by cases k <;> first | rfl | simp at hk⟩
theorem State.withCip_same (s x) : Same [.cip] s (State.withCip s x) := ⟨fun k hk => by cases k <;> first | rfl | simp at hk⟩
theorem State.withThreads_same (s x) : Same [.threads] s (State.withThreads s x) := ⟨fun k hk => by cases k <;> first | rfl | simp at hk⟩
theorem State.withCores_same (s x) : Same [.cores] s (State.withCores s x) := ⟨fun k hk => by cases k <;> first | rfl | simp at hk⟩
theorem State.withEvt_same (s x) : Same [.evt] s (State.withEvt s x) := ⟨fun k hk => by cases k <;> first | rfl | simp at hk⟩
theorem State.withTrc_same (s x) : Same [.trc] s (State.withTrc s x) := ⟨fun k hk => by cases k <;> first | rfl | simp at hk⟩
theorem State.withIc_same (s x) : Same [.ic] s (State.withIc s x) := ⟨fun k hk => by cases k <;> first | rfl | simp at hk⟩
theorem State.withHk_same (s x) : Same [.hk] s (State.withHk s x) := ⟨fun k hk => by cases k <;> first | rfl | simp at hk⟩
theorem State.withDmc_same (s x) : Same [.dmc] s (State.withDmc s x) := ⟨fun k hk => by cases k <;> first | rfl | simp at hk⟩
theorem State.withIdc_same (s x) : Same [.idc] s (State.withIdc s x) := ⟨fun k hk => by cases k <;> first | rfl | simp at hk⟩
theorem State.withSdh_same (s x) : Same [.sdh] s (State.withSdh s x) := ⟨fun k hk => by cases k <;> first | rfl | simp at hk⟩
theorem State.withNq_same (s x) : Same [.nq] s (State.withNq s x) := ⟨fun k hk => by cases k <;> first | rfl | simp at hk⟩

end Sys2Proof.Machine
end

