-- ==== Sys2Proof/Laws/SameBase.lean ====
section
/-! SUPPORT. Which parts of the state the operations leave as they were: the shared operations, memory, trace, the store queue, the commit states and time. -/

-- Theorems one after another: a thread for each would take more memory than there is.
set_option Elab.async false

namespace Sys2Proof.Machine

/-! ### Ops -/

theorem State.setReg_same (s x1 x2) : Same [.regs] s (State.setReg s x1 x2) := by
  unfold State.setReg
  exact .step (State.withRegs_same ..) (.refl ..)

theorem State.setRegN_same (s x1 x2) : Same [.regs] s (State.setRegN s x1 x2) := by
  unfold State.setRegN
  exact .step (State.setReg_same ..) (.refl ..)

theorem State.setFld_same (s x1 x2) : Same [.regs] s (State.setFld s x1 x2) := by
  unfold State.setFld
  exact .step (State.setRegN_same ..) (.refl ..)

theorem State.raise_same (s x1) : Same [.regs, .evt] s (State.raise s x1) := by
  unfold State.raise
  refine .ite ?_ ?_
  · refine .step (State.setRegN_same ..) ?_
    refine .ite ?_ ?_
    · exact .refl ..
    · exact .step (State.withEvt_same ..) (.refl ..)
  · exact .refl ..

theorem State.countDict_same (s x1 x2 x3) : Same [.dict] s (State.countDict s x1 x2 x3) := by
  unfold State.countDict
  exact .step (State.withDict_same ..) (.refl ..)

theorem State.countN_same (s x1 x2) : Same [.regs, .dict] s (State.countN s x1 x2) := by
  unfold State.countN
  refine .ite ?_ ?_
  · exact .step (State.setRegN_same ..) (.step (State.countDict_same ..) (.refl ..))
  · refine .ite ?_ ?_
    · exact .step (State.setRegN_same ..) (.step (State.countDict_same ..) (.refl ..))
    · dsimp only
      split
      · exact .step (State.setFld_same ..) (.step (State.setRegN_same ..) (.step (State.countDict_same ..) (.refl ..)))
      · exact .step (State.setRegN_same ..) (.step (State.countDict_same ..) (.refl ..))

theorem State.count_same (s x1) : Same [.regs, .dict] s (State.count s x1) := by
  unfold State.count
  exact .step (State.countN_same ..) (.refl ..)

theorem State.modLane_same (s x1 x2) : Same [.lanes] s (State.modLane s x1 x2) := by
  unfold State.modLane
  exact .step (State.withLanes_same ..) (.refl ..)

theorem State.draw_same (s) : Same [.free] s (State.draw s).2 := by
  unfold State.draw
  exact .step (State.withFree_same ..) (.refl ..)

theorem State.setFlag_same (s x1 x2) : Same [.regs] s (State.setFlag s x1 x2) := by
  unfold State.setFlag
  exact .step (State.setFld_same ..) (.refl ..)

theorem State.reportAt_same (s x1 x2 x3 x4) : Same [.tmp] s (State.reportAt s x1 x2 x3 x4) := by
  unfold State.reportAt
  exact .step (State.withTmp_same ..) (.refl ..)

theorem State.report_same (s x1 x2 x3) : Same [.tmp] s (State.report s x1 x2 x3) := by
  unfold State.report
  exact .step (State.reportAt_same ..) (.refl ..)

theorem State.countWide_same (s x1 x2 x3) : Same [.regs] s (State.countWide s x1 x2 x3) := by
  unfold State.countWide
  exact .step (State.setRegN_same ..) (.step (State.setRegN_same ..) (.refl ..))

theorem State.countFld_same (s x1 x2) : Same [.regs, .dict] s (State.countFld s x1 x2) := by
  unfold State.countFld
  exact .step (State.setFld_same ..) (.step (State.countDict_same ..) (.refl ..))

theorem State.clearRegs_same (s x1 x2) : Same [.regs, .snaps, .dict, .staged, .pairs] s (State.clearRegs s x1 x2) := by
  unfold State.clearRegs
  exact .step (State.withPairs_same ..) (.step (State.withDict_same ..) (.step (State.withStaged_same ..) (.step
    (State.withSnaps_same ..) (.step (State.withRegs_same ..) (.refl ..)))))

theorem State.drawIn_same (s x1 x2) : Same [.free] s (State.drawIn s x1 x2).2 := by
  unfold State.drawIn
  exact .step (State.withFree_same ..) (.refl ..)

theorem State.setDom_same (s x1 x2) : Same [.regs] s (State.setDom s x1 x2) := by
  unfold State.setDom
  refine .ite ?_ ?_
  · exact .step (State.setRegN_same ..) (.refl ..)
  · exact .step (State.setRegN_same ..) (.refl ..)

theorem State.countFldSat_same (s x1 x2) : Same [.regs] s (State.countFldSat s x1 x2) := by
  unfold State.countFldSat
  exact .step (State.setFld_same ..) (.refl ..)

/-! ### Memory -/

theorem State.icLog_same (s x1 x2 x3 x4 x5 x6) : Same [.regs] s (State.icLog s x1 x2 x3 x4 x5 x6) := by
  unfold State.icLog
  refine .ite ?_ ?_
  · exact .step (State.setRegN_same ..) (.refl ..)
  · exact .step (State.setRegN_same ..) (.step (State.setRegN_same ..) (.refl ..))

theorem State.unavailable_same (s x1 x2 x3 x4) : Same [.regs, .dict, .evt] s (State.unavailable s x1 x2 x3 x4) := by
  unfold State.unavailable
  refine .ite ?_ ?_
  · exact .step (State.raise_same ..) (.step (State.count_same ..) (.step (State.icLog_same ..) (.refl ..)))
  · exact .refl ..

theorem State.decodeError_same (s x1 x2 x3 x4) : Same [.regs, .dict, .evt] s (State.decodeError s x1 x2 x3 x4) := by
  unfold State.decodeError
  refine .ite ?_ ?_
  · exact .step (State.raise_same ..) (.step (State.count_same ..) (.step (State.icLog_same ..) (.refl ..)))
  · exact .refl ..

theorem State.dmcFreeze_same (s x1 x2 x3 x4) : Same [.free, .regs, .dict, .evt, .dmc] s (State.dmcFreeze s x1 x2 x3 x4) := by
  unfold State.dmcFreeze
  refine .step (State.raise_same ..) ?_
  refine .step (State.count_same ..) ?_
  refine .step (State.setFld_same ..) ?_
  refine .ite ?_ ?_
  · exact .step (State.setFld_same ..) (.step (State.withDmc_same ..) (.refl ..))
  · exact .step (State.setRegN_same ..) (.step (State.setRegN_same ..) (.step (State.setRegN_same ..) (.step (State.setRegN_same ..)
      (.step (State.setRegN_same ..) (.step (State.setRegN_same ..) (.step (State.setRegN_same ..) (.step (State.setRegN_same ..)
      (.step (State.draw_same ..) (.step (State.draw_same ..) (.step (State.draw_same ..) (.step (State.withDmc_same ..) (.refl ..))))))))))))

theorem State.dmcCorrected_same (s x1) : Same [.regs, .dict, .evt, .dmc] s (State.dmcCorrected s x1) := by
  unfold State.dmcCorrected
  dsimp only
  split
  · refine .ite ?_ ?_
    · refine .ite ?_ ?_
      · exact .step (State.count_same ..) (.refl ..)
      · exact .step (State.setRegN_same ..) (.step (State.setRegN_same ..) (.step (State.count_same ..) (.refl ..)))
    · refine .step (State.raise_same ..) ?_
      refine .step (State.withDmc_same ..) ?_
      refine .ite ?_ ?_
      · exact .step (State.count_same ..) (.refl ..)
      · exact .step (State.setRegN_same ..) (.step (State.setRegN_same ..) (.step (State.count_same ..) (.refl ..)))
  · refine .step (State.raise_same ..) ?_
    refine .step (State.withDmc_same ..) ?_
    refine .ite ?_ ?_
    · exact .step (State.count_same ..) (.refl ..)
    · exact .step (State.setRegN_same ..) (.step (State.setRegN_same ..) (.step (State.count_same ..) (.refl ..)))

theorem State.dmcCheck_same (s x1 x2 x3 x4) : Same [.free, .regs, .dict, .evt, .dmc] s (State.dmcCheck s x1 x2 x3 x4).2 := by
  induction x4 generalizing s x3 with
  | zero => exact .refl ..
  | succ n ih =>
    unfold dmcCheck
    refine .ite2 (.step (dmcFreeze_same ..) (.refl ..)) (.step (ih ..) (.ite (.step (dmcCorrected_same ..) (.refl ..)) (.refl ..)))

theorem State.dmcRead_same (s x1 x2 x3) : Same [.free, .regs, .dict, .evt, .dmc] s (State.dmcRead s x1 x2 x3).2 := by
  unfold State.dmcRead
  refine .ite2 ?_ ?_
  · exact .refl ..
  · refine .ite2 ?_ ?_
    · exact .step (State.dmcCheck_same ..) (.refl ..)
    · exact .step (State.dmcCheck_same ..) (.refl ..)

theorem State.lineRead_same (s x1 x2 x3) : Same [.free, .regs, .dict, .evt, .dmc] s (State.lineRead s x1 x2 x3).2 := by
  unfold State.lineRead
  dsimp only
  split
  · exact .refl ..
  · refine .ite2 ?_ ?_
    · exact .refl ..
    · exact .step (State.unavailable_same ..) (.refl ..)
  · refine .ite2 ?_ ?_
    · exact .step (State.dmcRead_same ..) (.refl ..)
    · exact .step (State.unavailable_same ..) (.refl ..)
  · refine .ite2 ?_ ?_
    · exact .step (State.decodeError_same ..) (.refl ..)
    · exact .step (State.unavailable_same ..) (.refl ..)
  · exact .step (State.decodeError_same ..) (.refl ..)
  · exact .step (State.decodeError_same ..) (.refl ..)

theorem State.memReadFuel_same (x0 x1 s x3 x4) :
    Same [.free, .regs, .dict, .evt, .dmc] s (State.memReadFuel x0 x1 s x3 x4).2 := by
  induction x1 generalizing s x3 x4 with
  | zero => exact .refl ..
  | succ n ih =>
    unfold memReadFuel
    refine .ite2 (.refl ..) (.ite2 (.step (lineRead_same ..) (.refl ..)) (.step (ih ..) (.step (lineRead_same ..) (.refl ..))))

theorem State.memRead_same (s x1 x2 x3) : Same [.free, .regs, .dict, .evt, .dmc] s (State.memRead s x1 x2 x3).2 := by
  unfold State.memRead
  exact .step (State.memReadFuel_same ..) (.refl ..)

theorem State.memWord_same (s x1 x2) : Same [.free, .regs, .dict, .evt, .dmc] s (State.memWord s x1 x2).2 := by
  unfold State.memWord
  exact .step (State.memRead_same ..) (.refl ..)

theorem State.setSramByte_same (s x1 x2) : Same [.sram] s (State.setSramByte s x1 x2) := by
  unfold State.setSramByte
  exact .step (State.withSram_same ..) (.refl ..)

theorem State.setSramBytes_same (s x1 x2) : Same [.sram] s (State.setSramBytes s x1 x2) := by
  induction x2 generalizing s x1 with
  | nil => exact .refl ..
  | cons b r ih => exact .step (ih ..) (.step (setSramByte_same ..) (.refl ..))

theorem State.setDramByte_same (s x1 x2) : Same [.dmc] s (State.setDramByte s x1 x2) := by
  unfold State.setDramByte
  exact .step (State.withDmc_same ..) (.refl ..)

theorem State.setDramBytes_same (s x1 x2) : Same [.dmc] s (State.setDramBytes s x1 x2) := by
  induction x2 generalizing s x1 with
  | nil => exact .refl ..
  | cons b r ih => exact .step (ih ..) (.step (setDramByte_same ..) (.refl ..))

theorem State.dmcCheckList_same (s x1 x2) : Same [.free, .regs, .dict, .evt, .dmc] s (State.dmcCheckList s x1 x2).2 := by
  induction x2 generalizing s with
  | nil => exact .refl ..
  | cons b r ih =>
    unfold dmcCheckList
    exact .ite2 (.step (dmcCheck_same ..) (.refl ..)) (.step (ih ..) (.step (dmcCheck_same ..) (.refl ..)))

theorem State.dmcWrite_same (s x1 x2 x3) : Same [.free, .regs, .dict, .evt, .dmc] s (State.dmcWrite s x1 x2 x3).2 := by
  unfold State.dmcWrite
  refine .ite2 ?_ ?_
  · exact .refl ..
  · refine .ite2 ?_ ?_
    · exact .step (State.setFld_same ..) (.refl ..)
    · refine .ite2 ?_ ?_
      · exact .step (State.dmcCheckList_same ..) (.refl ..)
      · exact .step (State.setDramBytes_same ..) (.step (State.withDmc_same ..) (.step (State.dmcCheckList_same ..) (.refl ..)))

theorem State.lineWrite_same (s x1 x2 x3) : Same [.free, .regs, .dict, .sram, .evt, .dmc] s (State.lineWrite s x1 x2 x3).2 := by
  unfold State.lineWrite
  split
  · exact .refl ..
  · refine .ite2 ?_ ?_
    · exact .step (State.setSramBytes_same ..) (.refl ..)
    · exact .step (State.unavailable_same ..) (.refl ..)
  · refine .ite2 ?_ ?_
    · exact .step (State.dmcWrite_same ..) (.refl ..)
    · exact .step (State.unavailable_same ..) (.refl ..)
  · refine .ite2 ?_ ?_
    · exact .step (State.decodeError_same ..) (.refl ..)
    · exact .step (State.unavailable_same ..) (.refl ..)
  · exact .step (State.decodeError_same ..) (.refl ..)
  · exact .step (State.decodeError_same ..) (.refl ..)

theorem State.memWriteFuel_same (x0 x1 s x3 x4) :
    Same [.free, .regs, .dict, .sram, .evt, .dmc] s (State.memWriteFuel x0 x1 s x3 x4).2 := by
  induction x1 generalizing s x3 x4 with
  | zero => exact .refl ..
  | succ n ih =>
    unfold memWriteFuel
    exact .ite2 (.refl ..) (.ite2 (.step (lineWrite_same ..) (.refl ..)) (.step (ih ..) (.step (lineWrite_same ..) (.refl ..))))

theorem State.memWrite_same (s x1 x2 x3) : Same [.free, .regs, .dict, .sram, .evt, .dmc] s (State.memWrite s x1 x2 x3).2 := by
  unfold State.memWrite
  exact .step (State.memWriteFuel_same ..) (.refl ..)

/-! ### Trace -/

theorem State.traceStore_same (s x1) : Same [.regs, .trc] s (State.traceStore s x1) := by
  induction x1 generalizing s with
  | nil => exact .refl ..
  | cons b r ih => exact .step (ih _) (.step (withTrc_same ..) (.step (setRegN_same ..) (.refl ..)))

theorem State.traceLost_same (s x1) : Same [.regs, .dict, .trc] s (State.traceLost s x1) := by
  unfold State.traceLost
  exact .step (State.withTrc_same ..) (.step (State.count_same ..) (.refl ..))

theorem State.traceWrite_same (s x1 x2) : Same [.regs, .dict, .evt, .trc] s (State.traceWrite s x1 x2) := by
  unfold State.traceWrite
  refine .ite ?_ ?_
  · refine .step (State.raise_same ..) ?_
    refine .step (State.traceLost_same ..) ?_
    refine .ite ?_ ?_
    · exact .step (State.setFld_same ..) (.refl ..)
    · exact .refl ..
  · refine .ite ?_ ?_
    · exact .step (State.traceLost_same ..) (.refl ..)
    · exact .step (State.traceStore_same ..) (.step (State.withTrc_same ..) (.refl ..))

theorem State.tracePacket_same (s x1) : Same [.regs, .dict, .evt, .trc] s (State.tracePacket s x1) := by
  unfold State.tracePacket
  refine .ite ?_ ?_
  · exact .refl ..
  · split
    · exact .refl ..
    · exact .step (State.traceWrite_same ..) (.step (State.withTrc_same ..) (.refl ..))

theorem State.traceRead_same (s) : Same [.regs] s (State.traceRead s).2 := by
  unfold State.traceRead
  exact .step (State.setRegN_same ..) (.refl ..)

theorem State.traceQueue_same (s x1 x2) : Same [.regs, .dict, .trc] s (State.traceQueue s x1 x2) := by
  unfold State.traceQueue
  refine .ite ?_ ?_
  · exact .refl ..
  · refine .ite ?_ ?_
    · exact .step (State.traceLost_same ..) (.refl ..)
    · exact .step (State.withTrc_same ..) (.refl ..)

theorem State.traceCold_same (s x1) : Same [.regs, .dict, .trc] s (State.traceCold s x1) := by
  unfold State.traceCold
  refine .ite ?_ ?_
  · exact .step (State.traceQueue_same ..) (.step (State.withTrc_same ..) (.refl ..))
  · exact .refl ..

theorem State.traceFlush_same (s x1) : Same [.regs, .dict, .trc] s (State.traceFlush s x1) := by
  unfold State.traceFlush
  refine .ite ?_ ?_
  · exact .refl ..
  · exact .step (State.traceQueue_same ..) (.step (State.withTrc_same ..) (.refl ..))

theorem State.traceCounted_same (s x1 x2) : Same [.regs, .dict, .trc] s (State.traceCounted s x1 x2) := by
  unfold State.traceCounted
  refine .ite ?_ ?_
  · exact .step (State.traceQueue_same ..) (.step (State.withTrc_same ..) (.refl ..))
  · exact .step (State.withTrc_same ..) (.refl ..)

theorem State.trace_same (s x1 x2 x3 x4) : Same [.regs, .dict, .trc] s (State.trace s x1 x2 x3 x4) := by
  unfold State.trace
  refine .ite ?_ ?_
  · exact .refl ..
  · exact .step (State.traceCounted_same ..) (.step (State.traceQueue_same ..) (.step (State.traceFlush_same ..) (.step
      (State.traceCold_same ..) (.refl ..))))

theorem State.traceSyncAll_same (s x1) : Same [.regs, .dict, .trc] s (State.traceSyncAll s x1) := by
  unfold State.traceSyncAll
  refine .foldl _ (fun _ _ _ => ?_) _ ?_
  · refine .ite ?_ ?_
    · exact .step (State.trace_same ..) ‹_›
    · assumption
  · exact .refl ..

theorem State.traceClear_same (s) : Same [.regs, .trc] s (State.traceClear s) := by
  unfold State.traceClear
  exact .step (State.setRegN_same ..) (.step (State.setFld_same ..) (.step (State.withTrc_same ..) (.refl ..)))

theorem trcWrite_same (x0 x1 x2 x3 s) : Same [.regs, .dict, .trc] s (trcWrite x0 x1 x2 x3 s) := by
  unfold trcWrite
  refine .ite ?_ ?_
  · refine .ite ?_ ?_
    · refine .step (State.traceSyncAll_same ..) ?_
      refine .ite ?_ ?_
      · refine .step (State.traceSyncAll_same ..) ?_
        refine .ite ?_ ?_
        · refine .step (State.traceClear_same ..) ?_
          refine .step (State.setFld_same ..) ?_
          refine .ite ?_ ?_
          · exact .step (State.setFld_same ..) (.refl ..)
          · exact .refl ..
        · refine .step (State.setFld_same ..) ?_
          refine .ite ?_ ?_
          · exact .step (State.setFld_same ..) (.refl ..)
          · exact .refl ..
      · refine .ite ?_ ?_
        · refine .step (State.traceClear_same ..) ?_
          refine .step (State.setFld_same ..) ?_
          refine .ite ?_ ?_
          · exact .step (State.setFld_same ..) (.refl ..)
          · exact .refl ..
        · refine .step (State.setFld_same ..) ?_
          refine .ite ?_ ?_
          · exact .step (State.setFld_same ..) (.refl ..)
          · exact .refl ..
    · refine .ite ?_ ?_
      · refine .step (State.traceSyncAll_same ..) ?_
        refine .ite ?_ ?_
        · refine .step (State.traceClear_same ..) ?_
          refine .step (State.setFld_same ..) ?_
          refine .ite ?_ ?_
          · exact .step (State.setFld_same ..) (.refl ..)
          · exact .refl ..
        · refine .step (State.setFld_same ..) ?_
          refine .ite ?_ ?_
          · exact .step (State.setFld_same ..) (.refl ..)
          · exact .refl ..
      · refine .ite ?_ ?_
        · refine .step (State.traceClear_same ..) ?_
          refine .step (State.setFld_same ..) ?_
          refine .ite ?_ ?_
          · exact .step (State.setFld_same ..) (.refl ..)
          · exact .refl ..
        · refine .step (State.setFld_same ..) ?_
          refine .ite ?_ ?_
          · exact .step (State.setFld_same ..) (.refl ..)
          · exact .refl ..
  · refine .ite ?_ ?_
    · refine .ite ?_ ?_
      · exact .step (State.setReg_same ..) (.refl ..)
      · exact .refl ..
    · exact .refl ..

theorem State.traceDrain_same (s x1) : Same [.regs, .dict, .evt, .trc] s (State.traceDrain s x1) := by
  unfold State.traceDrain
  refine .foldl _ (fun _ _ _ => ?_) _ ?_
  · exact .step (State.tracePacket_same ..) ‹_›
  · exact .refl ..

theorem State.traceBurst_same (s) : Same [.free, .regs, .dict, .sram, .evt, .trc, .dmc] s (State.traceBurst s) := by
  unfold State.traceBurst
  refine .ite ?_ ?_
  · exact .refl ..
  · refine .ite ?_ ?_
    · exact .refl ..
    · exact .step (State.setRegN_same ..) (.step (State.withTrc_same ..) (.step (State.memWrite_same ..) (.refl ..)))

theorem execTraceStreamBurst_same (s) : After [.free, .regs, .dict, .sram, .evt, .trc, .dmc] s (execTraceStreamBurst s) := by
  unfold execTraceStreamBurst
  refine .next ?_
  exact .step (State.traceBurst_same ..) (.refl ..)

theorem execTracePacketWrite_same (x0 s) : After [.regs, .dict, .evt, .trc] s (execTracePacketWrite x0 s) := by
  unfold execTracePacketWrite
  refine .next ?_
  exact .step (State.tracePacket_same ..) (.refl ..)

theorem State.traceBranch_same (s x1 x2 x3) : Same [.regs, .dict, .trc] s (State.traceBranch s x1 x2 x3) := by
  unfold State.traceBranch
  refine .ite ?_ ?_
  · exact .refl ..
  · refine .ite ?_ ?_
    · exact .step (State.traceCounted_same ..) (.step (State.traceFlush_same ..) (.step (State.traceCold_same ..) (.step
        (State.withTrc_same ..) (.refl ..))))
    · exact .step (State.withTrc_same ..) (.refl ..)

theorem State.traceCore_same (s x1 x2 x3) : Same [.regs, .dict, .trc] s (State.traceCore s x1 x2 x3) := by
  unfold State.traceCore
  refine .ite ?_ ?_
  · exact .refl ..
  · exact .step (State.traceQueue_same ..) (.step (State.traceCold_same ..) (.refl ..))

/-! ### StoreQueue -/

theorem State.nvsRequest_same (s x1 x2) : Same [.nvs] s (State.nvsRequest s x1 x2) := by
  unfold State.nvsRequest
  refine .ite ?_ ?_
  · exact .step (State.withNvs_same ..) (.refl ..)
  · refine .ite ?_ ?_
    · exact .refl ..
    · exact .step (State.withNvs_same ..) (.refl ..)

theorem State.nvsRelease_same (s x1) : Same [.nvs] s (State.nvsRelease s x1) := by
  unfold State.nvsRelease
  split
  · exact .refl ..
  · exact .step (State.withNvs_same ..) (.refl ..)

/-! ### Commit -/

theorem State.errResp_same (s) : Same [.answer] s (State.errResp s) := by
  unfold State.errResp
  exact .step (State.withAnswer_same ..) (.refl ..)

theorem State.modConv_same (s x1 x2) : Same [.convs] s (State.modConv s x1 x2) := by
  unfold State.modConv
  exact .step (State.withConvs_same ..) (.refl ..)

theorem State.convForce_same (s x1) : Same [.regs, .dict, .convs] s (State.convForce s x1) := by
  unfold State.convForce
  exact .step (State.count_same ..) (.step (State.modConv_same ..) (.refl ..))

theorem State.convAct_same (s x1 x2) : Same [.regs, .dict, .convs] s (State.convAct s x1 x2) := by
  unfold State.convAct
  refine .ite ?_ ?_
  · exact .step (State.convForce_same ..) (.refl ..)
  · refine .ite ?_ ?_
    · exact .step (State.modConv_same ..) (.refl ..)
    · refine .ite ?_ ?_
      · exact .step (State.modConv_same ..) (.refl ..)
      · exact .step (State.modConv_same ..) (.refl ..)

theorem State.convRequest_same (s x1 x2) : Same [.regs, .dict, .convs] s (State.convRequest s x1 x2) := by
  unfold State.convRequest
  refine .ite ?_ ?_
  · exact .step (State.modConv_same ..) (.refl ..)
  · refine .ite ?_ ?_
    · exact .step (State.modConv_same ..) (.refl ..)
    · exact .step (State.convAct_same ..) (.refl ..)

theorem State.releaseHeld_same (s) : Same [.regs, .dict, .convs] s (State.releaseHeld s) := by
  unfold State.releaseHeld
  refine .foldl _ (fun _ _ _ => ?_) _ ?_
  · exact .step (State.convAct_same ..) ‹_›
  · exact .refl ..

theorem State.mtxCancel_same (s x1) : Same [.regs, .dict, .mtx, .convs, .evt] s (State.mtxCancel s x1) := by
  unfold State.mtxCancel
  exact .step (State.releaseHeld_same ..) (.step (State.raise_same ..) (.step (State.withMtx_same ..) (.step (State.setFld_same ..)
    (.step (State.setFld_same ..) (.refl ..)))))

theorem State.mtxStepped_same (s) : Same [.regs, .dict, .mtx, .convs, .evt] s (State.mtxStepped s) := by
  unfold State.mtxStepped
  refine .ite ?_ ?_
  · exact .step (State.mtxCancel_same ..) (.refl ..)
  · exact .refl ..

/-! ### Almanac -/

theorem State.hldBandChange_same (s) : Same [.regs, .nvs] s (State.hldBandChange s) := by
  unfold State.hldBandChange
  refine .ite ?_ ?_
  · exact .step (State.nvsRequest_same ..) (.step (State.setFld_same ..) (.refl ..))
  · exact .refl ..

theorem State.showAlmanac_same (s) : Same [.regs] s (State.showAlmanac s) := by
  unfold State.showAlmanac
  split
  · refine .step (State.setRegN_same ..) ?_
    refine .step (State.setRegN_same ..) ?_
    refine .step (State.setRegN_same ..) ?_
    refine .step (State.setFld_same ..) ?_
    refine .step (State.setRegN_same ..) ?_
    refine .foldl _ (fun _ _ _ => ?_) _ ?_
    · exact .step (State.setRegN_same ..) ‹_›
    · exact .refl ..
  · refine .step (State.setRegN_same ..) ?_
    refine .step (State.setRegN_same ..) ?_
    refine .step (State.setRegN_same ..) ?_
    refine .step (State.setFlag_same ..) ?_
    refine .step (State.setRegN_same ..) ?_
    refine .foldl _ (fun _ _ _ => ?_) _ ?_
    · exact .step (State.setReg_same ..) ‹_›
    · exact .refl ..

theorem State.hldPersist_same (s) : Same [.regs, .nvs] s (State.hldPersist s) := by
  unfold State.hldPersist
  refine .ite ?_ ?_
  · exact .step (State.setFld_same ..) (.refl ..)
  · exact .step (State.nvsRequest_same ..) (.refl ..)

theorem State.judgeClass_same (s) : Same [.regs, .evt] s (State.judgeClass s) := by
  unfold State.judgeClass
  refine .ite ?_ ?_
  · exact .refl ..
  · exact .step (State.raise_same ..) (.step (State.setFlag_same ..) (.refl ..))

theorem State.emptyAlmanac_same (s) : Same [.regs, .hld, .evt] s (State.emptyAlmanac s) := by
  unfold State.emptyAlmanac
  exact .step (State.judgeClass_same ..) (.step (State.showAlmanac_same ..) (.step (State.setRegN_same ..) (.step
    (State.setRegN_same ..) (.step (State.withHld_same ..) (.refl ..)))))

theorem State.clearAlmanac_same (s) : Same [.regs, .nvs, .hld, .evt] s (State.clearAlmanac s) := by
  unfold State.clearAlmanac
  exact .step (State.setFld_same ..) (.step (State.hldPersist_same ..) (.step (State.withHld_same ..) (.step
    (State.emptyAlmanac_same ..) (.refl ..))))

theorem State.judgeAge_same (s) : Same [.regs, .hld, .evt] s (State.judgeAge s) := by
  unfold State.judgeAge
  refine .ite ?_ ?_
  · exact .refl ..
  · split
    · refine .ite ?_ ?_
      · exact .refl ..
      · refine .ite ?_ ?_
        · exact .step (State.setFld_same ..) (.step (State.emptyAlmanac_same ..) (.step (State.setFld_same ..) (.refl ..)))
        · exact .step (State.judgeClass_same ..) (.step (State.showAlmanac_same ..) (.step (State.setFld_same ..) (.refl ..)))
    · exact .step (State.setFld_same ..) (.refl ..)

theorem State.hldStoreEnd_same (s x1) : Same [.regs, .hld, .evt] s (State.hldStoreEnd s x1) := by
  unfold State.hldStoreEnd
  refine .ite ?_ ?_
  · exact .step (State.setFld_same ..) (.step (State.withHld_same ..) (.refl ..))
  · exact .step (State.raise_same ..) (.step (State.setFld_same ..) (.refl ..))

/-! ### Time -/

theorem State.dpllAcquire_same (s) : Same [.regs, .cal, .evt] s (State.dpllAcquire s) := by
  unfold State.dpllAcquire
  exact .step (State.raise_same ..) (.step (State.setFld_same ..) (.step (State.setFld_same ..) (.step (State.setFld_same ..)
    (.step (State.withCal_same ..) (.refl ..)))))

theorem State.leapPast_same (s x1 x2) : Same [.regs, .evt] s (State.leapPast s x1 x2) := by
  unfold State.leapPast
  refine .ite ?_ ?_
  · exact .step (State.raise_same ..) (.step (State.setFld_same ..) (.step (State.setFld_same ..) (.refl ..)))
  · exact .refl ..

theorem State.calStepTo_same (s x1 x2 x3) :
    Same [.regs, .dict, .cal, .hld, .mtx, .convs, .evt] s (State.calStepTo s x1 x2 x3) := by
  unfold State.calStepTo
  refine .ite ?_ ?_
  · refine .step (State.dpllAcquire_same ..) ?_
    refine .ite ?_ ?_
    · refine .step (State.judgeAge_same ..) ?_
      refine .ite ?_ ?_
      · exact .step (State.setFld_same ..) (.step (State.leapPast_same ..) (.step (State.raise_same ..) (.step
          (State.countFld_same ..) (.step (State.withCal_same ..) (.step (State.mtxStepped_same ..) (.refl ..))))))
      · exact .step (State.leapPast_same ..) (.step (State.raise_same ..) (.step (State.countFld_same ..) (.step
          (State.withCal_same ..) (.step (State.mtxStepped_same ..) (.refl ..)))))
    · refine .ite ?_ ?_
      · exact .step (State.setFld_same ..) (.step (State.leapPast_same ..) (.step (State.raise_same ..) (.step
          (State.countFld_same ..) (.step (State.withCal_same ..) (.step (State.mtxStepped_same ..) (.refl ..))))))
      · exact .step (State.leapPast_same ..) (.step (State.raise_same ..) (.step (State.countFld_same ..) (.step
          (State.withCal_same ..) (.step (State.mtxStepped_same ..) (.refl ..)))))
  · refine .ite ?_ ?_
    · refine .step (State.judgeAge_same ..) ?_
      refine .ite ?_ ?_
      · exact .step (State.setFld_same ..) (.step (State.leapPast_same ..) (.step (State.raise_same ..) (.step
          (State.countFld_same ..) (.step (State.withCal_same ..) (.step (State.mtxStepped_same ..) (.refl ..))))))
      · exact .step (State.leapPast_same ..) (.step (State.raise_same ..) (.step (State.countFld_same ..) (.step
          (State.withCal_same ..) (.step (State.mtxStepped_same ..) (.refl ..)))))
    · refine .ite ?_ ?_
      · exact .step (State.setFld_same ..) (.step (State.leapPast_same ..) (.step (State.raise_same ..) (.step
          (State.countFld_same ..) (.step (State.withCal_same ..) (.step (State.mtxStepped_same ..) (.refl ..))))))
      · exact .step (State.leapPast_same ..) (.step (State.raise_same ..) (.step (State.countFld_same ..) (.step
          (State.withCal_same ..) (.step (State.mtxStepped_same ..) (.refl ..)))))

theorem State.calGo_same (s) : Same [.regs, .dict, .cal, .hld, .mtx, .convs, .evt] s (State.calGo s) := by
  unfold State.calGo
  split
  · exact .step (State.calStepTo_same ..) (.step (State.setFld_same ..) (.refl ..))
  · exact .step (State.setFld_same ..) (.refl ..)
  · exact .step (State.calStepTo_same ..) (.step (State.setFld_same ..) (.refl ..))
  · exact .refl ..

theorem State.calRun_same (s x1) : Same [.regs, .dict, .cal, .hld, .mtx, .convs, .evt] s (State.calRun s x1) := by
  unfold State.calRun
  refine .ite ?_ ?_
  · exact .step (State.withCal_same ..) (.step (State.calStepTo_same ..) (.step (State.setFld_same ..) (.step
      (State.leapPast_same ..) (.step (State.withCal_same ..) (.refl ..)))))
  · exact .step (State.leapPast_same ..) (.step (State.withCal_same ..) (.refl ..))

theorem State.advance_same (s x1) : Same [.now, .regs, .dict, .cal, .hld, .mtx, .convs, .evt] s (State.advance s x1) := by
  unfold State.advance
  refine .ite ?_ ?_
  · exact .step (State.calRun_same ..) (.step (State.withNow_same ..) (.refl ..))
  · exact .step (State.withNow_same ..) (.refl ..)

theorem State.advanceTo_same (s x1) : Same [.now, .regs, .dict, .cal, .hld, .mtx, .convs, .evt] s (State.advanceTo s x1) := by
  unfold State.advanceTo
  refine .ite ?_ ?_
  · exact .step (State.advance_same ..) (.refl ..)
  · exact .refl ..

theorem execPendingStepApplied_same (s) :
    After [.now, .regs, .dict, .cal, .hld, .mtx, .convs, .evt] s (execPendingStepApplied s) := by
  unfold execPendingStepApplied
  refine .ite ?_ ?_
  · refine .next ?_
    exact .step (State.advance_same ..) (.refl ..)
  · refine .next ?_
    exact .refl ..

theorem execLeapApplied_same (s) : After [.now, .regs, .dict, .cal, .hld, .mtx, .convs, .evt] s (execLeapApplied s) := by
  unfold execLeapApplied
  refine .ite ?_ ?_
  · refine .next ?_
    exact .step (State.advance_same ..) (.refl ..)
  · refine .next ?_
    exact .refl ..

end Sys2Proof.Machine
end

