-- ==== Sys2Proof/Laws/Memory.lean ====
section
/-! SUPPORT. Laws of the memories: reading after writing, and that every memory operation keeps the canonical form. -/

-- Theorems one after another: a thread for each would take more memory than there is.
set_option Elab.async false

namespace Sys2Proof.Machine

/-! ### Reading after writing -/

theorem sramByte_setSramByte (s : State) (a b : Nat) (v : Byte) :
    (s.setSramByte a v).sramByte b = if a = b then v else s.sramByte b := by
  simp [State.sramByte, State.setSramByte, tget_tset]

theorem dramByte_setDramByte (s : State) (a b : Nat) (v : Byte) :
    (s.setDramByte a v).dramByte b = if a = b then v else s.dramByte b := by
  simp [State.dramByte, State.setDramByte, tget_tset]

/-- Writing a run of bytes of SRAM changes the bytes of the run alone. -/
theorem sramByte_setSramBytes (s : State) (a b : Nat) (l : List Byte) :
    (s.setSramBytes a l).sramByte b = if a ≤ b ∧ b < a + l.length then l.getD (b - a) 0 else s.sramByte b := by
  induction l generalizing s a with
  | nil => rw [State.setSramBytes, if_neg (by simp)]
  | cons v r ih =>
    rw [State.setSramBytes, ih, sramByte_setSramByte]
    by_cases h1 : a = b
    · subst h1; rw [if_neg (by omega), if_pos rfl, if_pos (by simp)]; simp
    · by_cases h2 : a + 1 ≤ b ∧ b < a + 1 + r.length
      · have e : b - a = (b - (a + 1)) + 1 := by omega
        rw [if_pos h2, if_pos (by simp; omega), e, List.getD_cons_succ]
      · rw [if_neg h2, if_neg h1, if_neg (by simp; omega)]

/-- Writing a run of bytes of DRAM changes the bytes of the run alone. -/
theorem dramByte_setDramBytes (s : State) (a b : Nat) (l : List Byte) :
    (s.setDramBytes a l).dramByte b = if a ≤ b ∧ b < a + l.length then l.getD (b - a) 0 else s.dramByte b := by
  induction l generalizing s a with
  | nil => rw [State.setDramBytes, if_neg (by simp)]
  | cons v r ih =>
    rw [State.setDramBytes, ih, dramByte_setDramByte]
    by_cases h1 : a = b
    · subst h1; rw [if_neg (by omega), if_pos rfl, if_pos (by simp)]; simp
    · by_cases h2 : a + 1 ≤ b ∧ b < a + 1 + r.length
      · have e : b - a = (b - (a + 1)) + 1 := by omega
        rw [if_pos h2, if_pos (by simp; omega), e, List.getD_cons_succ]
      · rw [if_neg h2, if_neg h1, if_neg (by simp; omega)]

/-! ### The canonical form -/

/-- The memories keep the canonical form from one state to another. -/
def MemKept (s t : State) : Prop :=
  (Memory.wf s.sram = true → Memory.wf t.sram = true) ∧ (Memory.wf s.dmc.mem = true → Memory.wf t.dmc.mem = true)

theorem MemKept.refl (s : State) : MemKept s s := ⟨id, id⟩

theorem MemKept.trans {s t u : State} (h : MemKept s t) (g : MemKept t u) : MemKept s u :=
  ⟨fun x => g.1 (h.1 x), fun x => g.2 (h.2 x)⟩

/-- What changes neither memory keeps the form. -/
theorem MemKept.of_same {l : List Part} {s t : State} (h : Same l s t) (a : Part.sram ∉ l := by decide)
    (b : Part.dmc ∉ l := by decide) : MemKept s t :=
  ⟨fun x => by rw [h.sram a]; exact x, fun x => by rw [h.dmc b]; exact x⟩

theorem setSramByte_kept (s : State) (a : Nat) (b : Byte) : MemKept s (s.setSramByte a b) :=
  ⟨fun h => tcanon_tset _ _ _ _ h, id⟩

theorem setDramByte_kept (s : State) (a : Nat) (b : Byte) : MemKept s (s.setDramByte a b) :=
  ⟨id, fun h => tcanon_tset _ _ _ _ h⟩

theorem setSramBytes_kept (s : State) (a : Nat) (l : List Byte) : MemKept s (s.setSramBytes a l) := by
  induction l generalizing s a with
  | nil => exact .refl _
  | cons v r ih => exact (setSramByte_kept s a v).trans (ih _ _)

theorem setDramBytes_kept (s : State) (a : Nat) (l : List Byte) : MemKept s (s.setDramBytes a l) := by
  induction l generalizing s a with
  | nil => exact .refl _
  | cons v r ih => exact (setDramByte_kept s a v).trans (ih _ _)

/-- An update of the controller's own state that leaves its cells keeps the form. -/
theorem withDmc_kept (s : State) (x : DmcSt) (h : x.mem = s.dmc.mem) : MemKept s (s.withDmc x) :=
  ⟨id, fun k => by rw [State.withDmc_dmc, h]; exact k⟩

/-- An operation that changes neither memory comes after others. -/
theorem MemKept.step {m : List Part} {s t u : State} (h : Same m t u) (g : MemKept s t) (a : Part.sram ∉ m := by decide)
    (b : Part.dmc ∉ m := by decide) : MemKept s u := g.trans (.of_same h a b)

theorem MemKept.ite {s t u : State} {c : Prop} [Decidable c] (ht : MemKept s t) (hu : MemKept s u) :
    MemKept s (if c then t else u) := by split <;> assumption

theorem MemKept.ite2 {α : Type} {s : State} {p q : α × State} {c : Prop} [Decidable c] (hp : MemKept s p.2)
    (hq : MemKept s q.2) : MemKept s (if c then p else q).2 := by split <;> assumption

theorem dmcFreeze_kept (s : State) (a src : Nat) (rid : Rid) (beat : Nat) : MemKept s (s.dmcFreeze a src rid beat) := by
  have h0 := withDmc_kept s { s.dmc with failLine := a / 64 * 64 } rfl
  unfold State.dmcFreeze
  refine .step (State.raise_same ..) (.step (State.count_same ..) (.step (State.setFld_same ..) ?_))
  refine .ite (.step (State.setFld_same ..) h0) ?_
  exact .step (State.setRegN_same ..) (.step (State.setRegN_same ..) (.step (State.setRegN_same ..) (.step (State.setRegN_same ..)
    (.step (State.setRegN_same ..) (.step (State.setRegN_same ..) (.step (State.setRegN_same ..) (.step (State.setRegN_same ..)
    (.step (State.draw_same ..) (.step (State.draw_same ..) (.step (State.draw_same ..) h0))))))))))

theorem dmcCorrected_kept (s : State) (a : Nat) : MemKept s (s.dmcCorrected a) := by
  have h1 := MemKept.of_same (State.count_same s C.DMC_CECNT)
  have h2 : MemKept s (if (s.count C.DMC_CECNT).flag R.DMC_CELOG0_VALID then s.count C.DMC_CECNT
    else ((s.count C.DMC_CECNT).setRegN R.DMC_CELOG0 (2 ^ 31 + a / 2 ^ 32 % 2)).setRegN R.DMC_CELOG1 (a % 2 ^ 32)) :=
    .ite h1 (.step (State.setRegN_same ..) (.step (State.setRegN_same ..) h1))
  unfold State.dmcCorrected
  dsimp only
  split
  · exact .ite h2 (.step (State.raise_same ..) (h2.trans (withDmc_kept _ _ rfl)))
  · exact .step (State.raise_same ..) (h2.trans (withDmc_kept _ _ rfl))

theorem dmcCheck_kept (s : State) (src : Nat) (rid : Rid) (w n : Nat) : MemKept s (s.dmcCheck src rid w n).2 := by
  induction n generalizing s w with
  | zero => exact .refl _
  | succ n ih =>
    unfold State.dmcCheck
    exact .ite2 (dmcFreeze_kept ..) ((MemKept.ite (dmcCorrected_kept ..) (.refl _)).trans (ih _ _))

theorem dmcCheckList_kept (s : State) (rid : Rid) (l : List Nat) : MemKept s (s.dmcCheckList rid l).2 := by
  induction l generalizing s with
  | nil => exact .refl _
  | cons w r ih =>
    unfold State.dmcCheckList
    exact .ite2 (dmcCheck_kept ..) ((dmcCheck_kept ..).trans (ih _))

theorem dmcRead_kept (s : State) (rid : Rid) (a n : Nat) : MemKept s (s.dmcRead rid a n).2 := by
  unfold State.dmcRead
  exact .ite2 (.refl _) (.ite2 (dmcCheck_kept ..) (dmcCheck_kept ..))

theorem dmcWrite_kept (s : State) (rid : Rid) (a : Nat) (bs : List Byte) : MemKept s (s.dmcWrite rid a bs).2 := by
  unfold State.dmcWrite
  refine .ite2 (.refl _) (.ite2 (.of_same (State.setFld_same ..)) (.ite2 (dmcCheckList_kept ..) ?_))
  refine .trans ?_ (setDramBytes_kept ..)
  exact (dmcCheckList_kept ..).trans (withDmc_kept _ _ rfl)

theorem lineRead_kept (s : State) (rid : Rid) (a n : Nat) : MemKept s (s.lineRead rid a n).2 := by
  unfold State.lineRead
  dsimp only
  split
  · exact .refl _
  · exact .ite2 (.refl _) (.of_same (State.unavailable_same ..))
  · exact .ite2 (dmcRead_kept ..) (.of_same (State.unavailable_same ..))
  · exact .ite2 (.of_same (State.decodeError_same ..)) (.of_same (State.unavailable_same ..))
  · exact .of_same (State.decodeError_same ..)
  · exact .of_same (State.decodeError_same ..)

theorem lineWrite_kept (s : State) (rid : Rid) (a : Nat) (bs : List Byte) : MemKept s (s.lineWrite rid a bs).2 := by
  unfold State.lineWrite
  split
  · exact .refl _
  · exact .ite2 (setSramBytes_kept ..) (.of_same (State.unavailable_same ..))
  · exact .ite2 (dmcWrite_kept ..) (.of_same (State.unavailable_same ..))
  · exact .ite2 (.of_same (State.decodeError_same ..)) (.of_same (State.unavailable_same ..))
  · exact .of_same (State.decodeError_same ..)
  · exact .of_same (State.decodeError_same ..)

/-- Reading memory keeps the canonical form. -/
theorem memRead_kept (s : State) (rid : Rid) (a n : Nat) : MemKept s (s.memRead rid a n).2 := by
  have h : ∀ (k : Nat) (s : State) (a n : Nat), MemKept s (State.memReadFuel rid k s a n).2 := by
    intro k
    induction k with
    | zero => exact fun s _ _ => .refl s
    | succ k ih =>
      intro s a n
      unfold State.memReadFuel
      exact .ite2 (.refl _) (.ite2 (lineRead_kept ..) ((lineRead_kept ..).trans (ih ..)))
  exact h ..

/-- Writing memory keeps the canonical form. -/
theorem memWrite_kept (s : State) (rid : Rid) (a : Nat) (bs : List Byte) : MemKept s (s.memWrite rid a bs).2 := by
  have h : ∀ (k : Nat) (s : State) (a : Nat) (bs : List Byte), MemKept s (State.memWriteFuel rid k s a bs).2 := by
    intro k
    induction k with
    | zero => exact fun s _ _ => .refl s
    | succ k ih =>
      intro s a bs
      unfold State.memWriteFuel
      exact .ite2 (.refl _) (.ite2 (lineWrite_kept ..) ((lineWrite_kept ..).trans (ih ..)))
  exact h ..

/-- Losing a range of SRAM keeps the canonical form. -/
theorem tclear_sram_kept (s : State) (lo hi : Nat) : MemKept s (s.withSram (tclear s.sram lo hi)) :=
  ⟨fun h => tcanon_tclear _ _ _ _ h, id⟩

/-- Registers stay in rising order when one is set. -/
theorem setReg_sorted (s : State) (a : Nat) (w : Word) (h : tsorted s.regs = true) : tsorted (s.setReg a w).regs = true :=
  tsorted_tput _ _ _ h

end Sys2Proof.Machine
end

