-- ==== Sys2Proof/Laws/Niquevor.lean ====
section
/-! SUPPORT. Laws of the hardware responder: looking up sessions and transfers, queueing frames, and which function serves a
frame. -/

-- Theorems one after another: a thread for each would take more memory than there is.
set_option Elab.async false

namespace Sys2Proof.Machine

theorem framed_of_withNq (s : State) (n : NqSt) : s.framed (s.withNq n) [.nq] [] :=
  ⟨⟨fun k hk => by cases k <;> first | rfl | simp at hk⟩, fun _ _ => rfl⟩

/-! ### Sessions -/

@[simp] theorem session_zero (s : State) : s.session 0 = none := by simp [State.session]
@[simp] theorem modSession_zero (s : State) (f : Session → Session) : s.modSession 0 f = s := by simp [State.modSession]

theorem session_some {s : State} {id : Nat} {x : Session} (h : s.session id = some x) : x.id = id ∧ id ≠ 0 ∧ x ∈ s.nq.sessions := by
  unfold State.session at h
  split at h
  · cases h
  · rename_i h0
    have := List.find?_some h
    exact ⟨by simpa using this, h0, List.mem_of_find?_eq_some h⟩

theorem find_map_id (l : List Session) (f : Session → Session) (hf : ∀ y, (f y).id = y.id) (id k : Nat) :
    (l.map (fun x => if x.id = k then f x else x)).find? (fun x => x.id == id) =
      (l.find? (fun x => x.id == id)).map (fun x => if x.id = k then f x else x) := by
  induction l with
  | nil => rfl
  | cons a r ih =>
    simp only [List.map_cons, List.find?_cons]
    have : ((if a.id = k then f a else a).id == id) = (a.id == id) := by split <;> simp [hf]
    rw [this]
    cases a.id == id <;> simp [ih]

theorem session_modSession (s : State) (k id : Nat) (f : Session → Session) (hf : ∀ y, (f y).id = y.id) :
    (s.modSession k f).session id = (s.session id).map (fun x => if x.id = k then f x else x) := by
  unfold State.session State.modSession
  by_cases h0 : k = 0
  · subst h0
    by_cases hi : id = 0
    · simp [hi]
    · simp only [if_true, if_neg hi]
      cases h : s.nq.sessions.find? (fun x => x.id == id) with
      | none => simp
      | some x =>
        have := List.find?_some h
        have hx : x.id ≠ 0 := by simp at this; omega
        simp [hx]
  · by_cases hi : id = 0
    · simp [hi]
    · simp [h0, hi, find_map_id _ _ hf]

/-! ### Frames that are queued -/

theorem nqPush_field (s : State) (o : NqOut) (h : o.port = 24) : s.nqPush o = s.withNq { s.nq with out := s.nq.out ++ [o] } := by
  simp [State.nqPush, h]

theorem nqEmit_plain (s : State) (k : Nat) (last : Bool) (p : List Byte) (m : Nat) :
    s.nqEmit 24 0 k last p m = s.withNq { s.nq with out := s.nq.out ++ [⟨24, 0, k, m, nqPlain k last 0 0 p⟩] } := by
  simp [State.nqEmit, State.nqPush]

theorem nqRespond_plain (s : State) (i sub st : Nat) (v : List Byte) :
    s.nqRespond 24 0 i sub st v = s.withNq { s.nq with out := s.nq.out ++
      [⟨24, 0, 3, if i = 0x6010 && sub = 1 && st = 0 then 2 else 1, nqPlain 3 false 0 0 (nqObj i sub st ++ v)⟩] } := by
  simp [State.nqRespond, nqEmit_plain]

/-! ### Transfers -/

theorem xfer_endXfer_same (s : State) (p id : Nat) : (s.endXfer p id).xfer p id = none := by
  simp only [State.xfer, State.endXfer, State.withNq_nq, List.find?_eq_none, List.mem_filter]
  intro x hx
  have h2 := hx.2
  simpa [imp_iff_not_or] using h2

theorem xfer_endXfer_other (s : State) (p id q jd : Nat) (h : (q, jd) ≠ (p, id)) : (s.endXfer p id).xfer q jd = s.xfer q jd := by
  simp only [State.xfer, State.endXfer, State.withNq_nq, List.find?_filter]
  congr 1
  funext x
  by_cases hx : x.port = q ∧ x.session = jd
  · obtain ⟨rfl, rfl⟩ := hx
    have e : ¬ (x.port = p ∧ x.session = id) := fun e => h (by rw [e.1, e.2])
    simpa using not_and_or.1 e
  · have : (x.port == q && x.session == jd) = false := by simpa using hx
    simp [this]

theorem xfer_putXfer_same (s : State) (x : Transfer) : (s.putXfer x).xfer x.port x.session = some x := by
  have h := xfer_endXfer_same s x.port x.session
  unfold State.xfer at h
  unfold State.putXfer
  simp only [State.xfer, State.withNq_nq, List.find?_append, h]
  simp

/-! ### Which function serves a frame -/

/-- A frame with P = 0 on the field port, of the kinds that need no session. -/
theorem nqFrame_field (s : State) (b : List Byte) (f : NqFrame) (k : Nat) (hv : s.vigil = true) (hp : nqParse 24 b = some f)
    (hk : f.kind = k) (hpr : f.prot = false) (hs0 : f.session = 0) (hsh : nqShape k f.payload = true)
    (h : k = 1 ∨ k = 2 ∨ k = 4 ∨ k = 5) : s.nqFrame k 24 b = s.taken.serve 24 0 k f.last f.payload := by
  subst hk
  have h7 : f.kind ≠ 7 := by omega
  have h9 : f.kind ≠ 9 := by omega
  have h11 : f.kind ≠ 11 := by omega
  have h12 : f.kind ≠ 12 := by omega
  simp [State.nqFrame, hv, hp, hpr, State.servePlain, hsh, hs0, h7, h9, h11, h12, State.taken]

/-- A frame that a session admits. -/
theorem nqFrame_admitted (s : State) (port : Nat) (b : List Byte) (f : NqFrame) (x : Session) (hv : s.vigil = true)
    (hp : nqParse port b = some f) (ha : s.admits port f x) (hsh : nqShape f.kind (f.clear x) = true)
    (ho : x.isOpen = true ∨ f.kind = 9) :
    s.nqFrame f.kind port b =
      (if !x.isOpen then (s.heard x f).answerTaken x (f.clear x)
       else if f.kind = 11 then (s.heard x f).closeSession x.id
       else if f.kind = 12 then (s.heard x f).endXfer port x.id
       else if f.kind = 7 || f.kind = 9 then s.heard x f
       else (s.heard x f).serve port x.id f.kind f.last (f.clear x)) := by
  obtain ⟨h1, h2, h3, h4, h5, h6⟩ := ha
  have h1' : (s.withNq { s.nq with waiting := s.nq.waiting - 1 }).session f.session = some x := h1
  have hs : ¬ f.seq ≤ x.seqIn := by omega
  have hl : ¬ 0xFFFFFFFF ≤ f.seq := by omega
  have hc : (!x.isOpen && f.kind ≠ 9) = false := by rcases ho with h | h <;> simp [h]
  unfold State.nqFrame
  simp only [hv, hp, h2, State.serveProtected, h1', if_neg hs, if_neg hl, hc, h6]
  simp only [Bool.not_true, Bool.false_eq_true, if_false, ne_eq, not_true_eq_false, if_true]
  simp only [h3, not_true_eq_false, if_false]
  have hsh' : (!nqShape f.kind (gcmDecrypt x.key.toNat (nqIv x.id 0 f.seq) f.header f.payload).1) = false := by
    simpa [NqFrame.clear] using hsh
  rw [if_neg (by rw [hsh']; simp)]
  rfl

end Sys2Proof.Machine
end

