-- ==== Sys2Proof/Laws/SameStream.lean ====
section
/-! SUPPORT. Which parts of the state the operations leave as they were: the stream side: automata, matrix, classifier, containers, harvest, lanes, ciphers. -/

-- Theorems one after another: a thread for each would take more memory than there is.
set_option Elab.async false

namespace Sys2Proof.Machine

/-! ### Automata -/

theorem State.modEng_same (s x1 x2) : Same [.aut] s (State.modEng s x1 x2) := by
  unfold State.modEng
  exact .step (State.withAut_same ..) (.refl ..)

theorem State.reportRead_same (s x1) : Same [.regs, .aut] s (State.reportRead s x1).2 := by
  unfold State.reportRead
  dsimp only
  split
  · exact .step (State.setFld_same ..) (.refl ..)
  · exact .step (State.setRegN_same ..) (.step (State.setRegN_same ..) (.step (State.setRegN_same ..) (.step (State.modEng_same ..)
      (.refl ..))))

theorem autRead_same (x0 x1 s) : Same [.regs, .aut] s (autRead x0 x1 s).2 := by
  unfold autRead
  refine .ite2 ?_ ?_
  · exact .refl ..
  · refine .ite2 ?_ ?_
    · exact .refl ..
    · refine .ite2 ?_ ?_
      · exact .refl ..
      · split
        · exact .step (State.reportRead_same ..) (.refl ..)
        · exact .refl ..

theorem State.engOutcome_same (s x1 x2) : Same [.regs, .dict, .aut] s (State.engOutcome s x1 x2) := by
  unfold State.engOutcome
  split
  · exact .refl ..
  · refine .ite ?_ ?_
    · exact .refl ..
    · refine .ite ?_ ?_
      · exact .step (State.count_same ..) (.step (State.modEng_same ..) (.refl ..))
      · exact .step (State.modEng_same ..) (.refl ..)

theorem State.engTapEnd_same (s x1 x2) : Same [.regs, .dict, .aut] s (State.engTapEnd s x1 x2) := by
  unfold State.engTapEnd
  refine .foldl _ (fun _ _ _ => ?_) _ ?_
  · refine .ite ?_ ?_
    · exact .step (State.engOutcome_same ..) ‹_›
    · assumption
  · exact .refl ..

theorem State.engReject_same (s x1 x2) : Same [.regs, .answer] s (State.engReject s x1 x2) := by
  unfold State.engReject
  refine .step (State.errResp_same ..) ?_
  refine .ite ?_ ?_
  · exact .step (State.setFld_same ..) (.refl ..)
  · exact .refl ..

theorem State.engSwap_same (s x1) : Same [.regs, .aut, .evt] s (State.engSwap s x1) := by
  unfold State.engSwap
  exact .step (State.raise_same ..) (.step (State.modEng_same ..) (.step (State.setFld_same ..) (.step (State.setReg_same ..)
    (.step (State.setReg_same ..) (.refl ..)))))

theorem State.engForce_same (s x1) : Same [.regs, .dict, .aut, .evt] s (State.engForce s x1) := by
  unfold State.engForce
  exact .step (State.engSwap_same ..) (.step (State.modEng_same ..) (.step (State.setFld_same ..) (.step (State.count_same ..)
    (.step (State.setFld_same ..) (.step (State.setFld_same ..) (.refl ..))))))

theorem State.engRequest_same (s x1 x2) : Same [.regs, .dict, .aut, .evt] s (State.engRequest s x1 x2) := by
  unfold State.engRequest
  refine .ite ?_ ?_
  · exact .step (State.engForce_same ..) (.step (State.setFld_same ..) (.step (State.modEng_same ..) (.refl ..)))
  · refine .ite ?_ ?_
    · exact .step (State.setFld_same ..) (.step (State.setFld_same ..) (.step (State.modEng_same ..) (.refl ..)))
    · exact .step (State.setFld_same ..) (.step (State.modEng_same ..) (.refl ..))

theorem autWrite_same (x0 x1 x2 x3 s) : Same [.regs, .dict, .answer, .aut, .evt] s (autWrite x0 x1 x2 x3 s) := by
  unfold autWrite
  refine .ite ?_ ?_
  · refine .ite ?_ ?_
    · exact .step (State.engReject_same ..) (.step (State.setReg_same ..) (.refl ..))
    · refine .ite ?_ ?_
      · exact .step (State.engReject_same ..) (.step (State.setReg_same ..) (.refl ..))
      · exact .step (State.modEng_same ..) (.step (State.setReg_same ..) (.refl ..))
  · refine .ite ?_ ?_
    · exact .step (State.engReject_same ..) (.refl ..)
    · refine .ite ?_ ?_
      · refine .ite ?_ ?_
        · exact .step (State.engReject_same ..) (.step (State.setReg_same ..) (.refl ..))
        · exact .step (State.modEng_same ..) (.step (State.setReg_same ..) (.refl ..))
      · refine .ite ?_ ?_
        · refine .ite ?_ ?_
          · refine .ite ?_ ?_
            · refine .ite ?_ ?_
              · exact .step (State.engSwap_same ..) (.step (State.modEng_same ..) (.step (State.setFld_same ..) (.refl ..)))
              · exact .step (State.modEng_same ..) (.step (State.setFld_same ..) (.refl ..))
            · exact .refl ..
          · refine .ite ?_ ?_
            · refine .ite ?_ ?_
              · exact .step (State.engReject_same ..) (.step (State.setReg_same ..) (.refl ..))
              · exact .refl ..
            · refine .ite ?_ ?_
              · refine .ite ?_ ?_
                · exact .step (State.engRequest_same ..) (.step (State.setReg_same ..) (.refl ..))
                · refine .ite ?_ ?_
                  · exact .step (State.engRequest_same ..) (.step (State.setReg_same ..) (.refl ..))
                  · exact .step (State.setReg_same ..) (.refl ..)
              · refine .ite ?_ ?_
                · exact .step (State.setFld_same ..) (.refl ..)
                · exact .refl ..
        · exact .refl ..

theorem State.engFrame_same (s x1 x2 x3) : Same [.aut] s (State.engFrame s x1 x2 x3) := by
  unfold State.engFrame
  refine .ite ?_ ?_
  · exact .step (State.modEng_same ..) (.refl ..)
  · exact .refl ..

theorem State.engTapMsg_same (s x1 x2 x3) : Same [.regs, .dict, .aut] s (State.engTapMsg s x1 x2 x3) := by
  unfold State.engTapMsg
  refine .foldl _ (fun _ _ _ => ?_) _ ?_
  · refine .ite ?_ ?_
    · exact .step (State.engOutcome_same ..) (.step (State.modEng_same ..) ‹_›)
    · assumption
  · exact .refl ..

theorem State.engBoundary_same (s x1) : Same [.regs, .aut, .evt] s (State.engBoundary s x1) := by
  unfold State.engBoundary
  refine .ite ?_ ?_
  · exact .refl ..
  · refine .ite ?_ ?_
    · exact .step (State.modEng_same ..) (.step (State.setFld_same ..) (.step (State.engSwap_same ..) (.refl ..)))
    · exact .step (State.engSwap_same ..) (.refl ..)

theorem State.engRun_same (x0 x1 s) : Same [.regs, .dict, .aut, .evt] s (State.engRun x0 x1 s) := by
  induction x1 generalizing s with
  | zero => exact .refl ..
  | succ n ih =>
    unfold engRun
    dsimp only
    split
    · exact .step (engBoundary_same ..) (.step (modEng_same ..) (.refl ..))
    · refine .ite ?_ (.step (ih ..) (.step (modEng_same ..) (.refl ..)))
      exact .step (raise_same ..) (.step (count_same ..) (.step (setFld_same ..) (.step (modEng_same ..) (.refl ..))))

theorem execEngineWord_same (x0 s) : After [.regs, .dict, .aut, .evt] s (execEngineWord x0 s) := by
  unfold execEngineWord
  dsimp only
  split
  · refine .ite ?_ ?_
    · refine .next ?_
      exact .step (State.modEng_same ..) (.step (State.modEng_same ..) (.refl ..))
    · refine .next ?_
      exact .step (State.engRun_same ..) (.step (State.modEng_same ..) (.step (State.modEng_same ..) (.refl ..)))
  · refine .next ?_
    exact .refl ..

theorem execEngineUnstall_same (x0 s) : After [.regs, .dict, .aut, .evt] s (execEngineUnstall x0 s) := by
  unfold execEngineUnstall
  refine .ite ?_ ?_
  · refine .next ?_
    exact .refl ..
  · refine .next ?_
    exact .step (State.engRun_same ..) (.step (State.setFld_same ..) (.step (State.modEng_same ..) (.refl ..)))

theorem State.engAct_same (s x1) : Same [.regs, .dict, .aut, .evt] s (State.engAct s x1) := by
  unfold State.engAct
  refine .ite ?_ ?_
  · exact .step (State.engForce_same ..) (.refl ..)
  · refine .ite ?_ ?_
    · exact .step (State.engSwap_same ..) (.refl ..)
    · split
      · refine .ite ?_ ?_
        · exact .step (State.engForce_same ..) (.refl ..)
        · exact .refl ..
      · exact .step (State.engBoundary_same ..) (.refl ..)

theorem execEngineValidationDone_same (x0 s) : After [.regs, .dict, .aut, .evt] s (execEngineValidationDone x0 s) := by
  unfold execEngineValidationDone
  refine .ite ?_ ?_
  · refine .next ?_
    exact .refl ..
  · refine .ite ?_ ?_
    · refine .next ?_
      exact .step (State.engAct_same ..) (.step (State.modEng_same ..) (.refl ..))
    · refine .next ?_
      exact .step (State.raise_same ..) (.step (State.setFld_same ..) (.step (State.setFld_same ..) (.step (State.setFld_same ..)
        (.step (State.modEng_same ..) (.refl ..)))))

theorem execEngineReportPosted_same (x0 s) : After [.regs, .aut, .evt] s (execEngineReportPosted x0 s) := by
  unfold execEngineReportPosted
  refine .ite ?_ ?_
  · refine .next ?_
    exact .refl ..
  · refine .ite ?_ ?_
    · refine .next ?_
      exact .step (State.modEng_same ..) (.refl ..)
    · refine .next ?_
      exact .step (State.raise_same ..) (.step (State.setRegN_same ..) (.step (State.modEng_same ..) (.refl ..)))

theorem execEngineStallLimit_same (x0 s) :
    After [.now, .regs, .dict, .cal, .hld, .mtx, .convs, .aut, .evt] s (execEngineStallLimit x0 s) := by
  unfold execEngineStallLimit
  dsimp only
  split
  · refine .next ?_
    exact .step (State.engForce_same ..) (.step (State.advanceTo_same ..) (.refl ..))
  · refine .next ?_
    exact .refl ..

theorem State.engTapWord_same (s x1 x2 x3 x4 x5) : Same [.aut] s (State.engTapWord s x1 x2 x3 x4 x5) := by
  unfold State.engTapWord
  refine .foldl _ (fun _ _ _ => ?_) _ ?_
  · refine .ite ?_ ?_
    · exact .step (State.modEng_same ..) ‹_›
    · assumption
  · exact .refl ..

/-! ### Matrix -/

theorem mtxRead_same (x0 x1 s) : Same [] s (mtxRead x0 x1 s).2 := by
  unfold mtxRead
  refine .ite2 ?_ ?_
  · exact .refl ..
  · exact .refl ..

theorem State.convSat_same (s x1) : Same [.regs, .dict] s (State.convSat s x1).2 := by
  unfold State.convSat
  refine .ite ?_ ?_
  · exact .refl ..
  · exact .step (State.countN_same ..) (.refl ..)

theorem State.modTx_same (s x1 x2) : Same [.mtx] s (State.modTx s x1 x2) := by
  unfold State.modTx
  exact .step (State.withMtx_same ..) (.refl ..)

theorem State.raiseLimited_same (s x1) : Same [.regs, .mtx, .evt] s (State.raiseLimited s x1) := by
  unfold State.raiseLimited
  dsimp only
  split
  · refine .ite ?_ ?_
    · exact .refl ..
    · exact .step (State.raise_same ..) (.step (State.withMtx_same ..) (.refl ..))
  · exact .step (State.raise_same ..) (.step (State.withMtx_same ..) (.refl ..))

theorem State.txBittern_same (s x1) : Same [.regs, .dict, .mtx, .lanes, .evt] s (State.txBittern s x1) := by
  unfold State.txBittern
  refine .ite ?_ ?_
  · exact .step (State.modTx_same ..) (.step (State.raiseLimited_same ..) (.step (State.count_same ..) (.refl ..)))
  · refine .step (State.modLane_same ..) ?_
    refine .ite ?_ ?_
    · exact .step (State.count_same ..) (.step (State.raiseLimited_same ..) (.step (State.count_same ..) (.refl ..)))
    · exact .step (State.raiseLimited_same ..) (.step (State.count_same ..) (.refl ..))

theorem State.capStop_same (s x1) : Same [.regs, .mtx, .evt] s (State.capStop s x1) := by
  unfold State.capStop
  exact .step (State.raise_same ..) (.step (State.withMtx_same ..) (.step (State.setFld_same ..) (.step (State.setFld_same ..)
    (.refl ..))))

theorem State.capStore_same (s x1) : Same [.regs] s (State.capStore s x1) := by
  unfold State.capStore
  refine .step (State.setFld_same ..) ?_
  refine .step (State.setRegN_same ..) ?_
  refine .ite ?_ ?_
  · exact .step (State.setRegN_same ..) (.step (State.setRegN_same ..) (.refl ..))
  · exact .refl ..

theorem State.capFlush_same (s) : Same [.regs, .mtx, .evt] s (State.capFlush s) := by
  unfold State.capFlush
  refine .ite ?_ ?_
  · exact .refl ..
  · refine .ite ?_ ?_
    · refine .step (State.capStop_same ..) ?_
      refine .foldl _ (fun _ _ _ => ?_) _ ?_
      · exact .step (State.capStore_same ..) ‹_›
      · exact .step (State.withMtx_same ..) (.refl ..)
    · refine .foldl _ (fun _ _ _ => ?_) _ ?_
      · exact .step (State.capStore_same ..) ‹_›
      · exact .step (State.withMtx_same ..) (.refl ..)

theorem State.delayLost_same (s x1) : Same [.regs, .dict, .mtx, .evt] s (State.delayLost s x1) := by
  unfold State.delayLost
  refine .ite ?_ ?_
  · exact .refl ..
  · exact .step (State.raiseLimited_same ..) (.step (State.countN_same ..) (.refl ..))

theorem State.settleLines_same (s) : Same [.regs, .dict, .mtx, .evt] s (State.settleLines s) := by
  unfold State.settleLines
  refine .foldl _ (fun _ _ _ => ?_) _ ?_
  · exact .step (State.delayLost_same ..) (.step (State.withMtx_same ..) ‹_›)
  · exact .refl ..

theorem State.capSample_same (s x1 x2 x3) : Same [.regs, .mtx, .evt] s (State.capSample s x1 x2 x3) := by
  unfold State.capSample
  refine .ite ?_ ?_
  · exact .refl ..
  · exact .step (State.capFlush_same ..) (.step (State.withMtx_same ..) (.step (State.setFld_same ..) (.refl ..)))

theorem State.skewPut_same (s x1 x2) : Same [.regs, .dict, .mtx] s (State.skewPut s x1 x2) := by
  unfold State.skewPut
  refine .ite ?_ ?_
  · exact .step (State.count_same ..) (.refl ..)
  · exact .step (State.withMtx_same ..) (.refl ..)

theorem State.deliver_same (s x1 x2) : Same [.regs, .dict, .mtx, .evt] s (State.deliver s x1 x2) := by
  unfold State.deliver
  refine .ite ?_ ?_
  · exact .step (State.count_same ..) (.refl ..)
  · refine .foldl _ (fun _ _ _ => ?_) _ ?_
    · exact .step (State.skewPut_same ..) ‹_›
    · refine .ite ?_ ?_
      · refine .step (State.capSample_same ..) ?_
        refine .step (State.withMtx_same ..) ?_
        refine .ite ?_ ?_
        · exact .step (State.count_same ..) (.refl ..)
        · exact .refl ..
      · refine .step (State.withMtx_same ..) ?_
        refine .step (State.capSample_same ..) ?_
        refine .step (State.withMtx_same ..) ?_
        refine .ite ?_ ?_
        · exact .step (State.count_same ..) (.refl ..)
        · exact .refl ..

theorem State.unitEnd_same (s x1 x2) : Same [.regs, .dict, .mtx, .lanes, .convs, .evt] s (State.unitEnd s x1 x2) := by
  unfold State.unitEnd
  split
  · exact .refl ..
  · refine .ite ?_ ?_
    · have hd : ∀ (l : List RxSample) (f : RxSample → RxSample) (u : State), Same [.regs, .dict, .mtx, .lanes, .convs, .evt] s u →
          Same [.regs, .dict, .mtx, .lanes, .convs, .evt] s (l.foldl (fun s x => s.deliver x1 (f x)) u) := fun l f u h =>
        .foldl _ (fun _ _ _ => .step (State.deliver_same ..) ‹_›) _ h
      exact .ite (.step (State.countWide_same ..) (hd _ _ _ (.step (State.withMtx_same ..) (.refl ..))))
        (hd _ _ _ (.step (State.withMtx_same ..) (.refl ..)))
    · refine .ite ?_ ?_
      · refine .ite ?_ ?_
        · refine .step (State.countWide_same ..) ?_
          refine .ite ?_ ?_
          · refine .ite ?_ ?_
            · exact .step (State.capStop_same ..) (.step (State.capFlush_same ..) (.step (State.settleLines_same ..) (.step
                (State.withMtx_same ..) (.step (State.withConvs_same ..) (.step (State.withMtx_same ..) (.refl ..))))))
            · exact .step (State.capFlush_same ..) (.step (State.settleLines_same ..) (.step (State.withMtx_same ..) (.step
                (State.withConvs_same ..) (.step (State.withMtx_same ..) (.refl ..)))))
          · exact .step (State.capFlush_same ..) (.step (State.settleLines_same ..) (.step (State.withMtx_same ..) (.step
              (State.withConvs_same ..) (.step (State.withMtx_same ..) (.refl ..)))))
        · refine .ite ?_ ?_
          · refine .ite ?_ ?_
            · exact .step (State.capStop_same ..) (.step (State.capFlush_same ..) (.step (State.settleLines_same ..) (.step
                (State.withMtx_same ..) (.step (State.withConvs_same ..) (.step (State.withMtx_same ..) (.refl ..))))))
            · exact .step (State.capFlush_same ..) (.step (State.settleLines_same ..) (.step (State.withMtx_same ..) (.step
                (State.withConvs_same ..) (.step (State.withMtx_same ..) (.refl ..)))))
          · exact .step (State.capFlush_same ..) (.step (State.settleLines_same ..) (.step (State.withMtx_same ..) (.step
              (State.withConvs_same ..) (.step (State.withMtx_same ..) (.refl ..)))))
      · refine .foldl _ (fun _ _ _ => ?_) _ ?_
        · exact .step (State.txBittern_same ..) ‹_›
        · refine .ite ?_ ?_
          · refine .ite ?_ ?_
            · exact .step (State.capStop_same ..) (.step (State.capFlush_same ..) (.step (State.settleLines_same ..) (.step
                (State.withMtx_same ..) (.step (State.withConvs_same ..) (.step (State.withMtx_same ..) (.refl ..))))))
            · exact .step (State.capFlush_same ..) (.step (State.settleLines_same ..) (.step (State.withMtx_same ..) (.step
                (State.withConvs_same ..) (.step (State.withMtx_same ..) (.refl ..)))))
          · exact .step (State.capFlush_same ..) (.step (State.settleLines_same ..) (.step (State.withMtx_same ..) (.step
              (State.withConvs_same ..) (.step (State.withMtx_same ..) (.refl ..)))))

theorem State.unitFailAll_same (s x1) : Same [.regs, .dict, .mtx, .lanes, .convs, .evt] s (State.unitFailAll s x1) := by
  unfold State.unitFailAll
  refine .foldl _ (fun _ _ _ => ?_) _ ?_
  · exact .step (State.unitEnd_same ..) ‹_›
  · exact .refl ..

theorem State.capLost_same (s x1) : Same [.regs, .mtx, .evt] s (State.capLost s x1) := by
  unfold State.capLost
  refine .ite ?_ ?_
  · exact .step (State.capStop_same ..) (.refl ..)
  · exact .refl ..

theorem State.capStart_same (s) : Same [.regs, .mtx] s (State.capStart s) := by
  unfold State.capStart
  exact .step (State.setFld_same ..) (.step (State.setFld_same ..) (.step (State.setFld_same ..) (.step (State.withMtx_same ..)
    (.refl ..))))

theorem State.eveChanged_same (s) : Same [.nq] s (State.eveChanged s) := by
  unfold State.eveChanged
  exact .step (State.withNq_same ..) (.refl ..)

theorem State.mtxCopy_same (s) : Same [.regs] s (State.mtxCopy s) := by
  unfold State.mtxCopy
  refine .ite ?_ ?_
  · exact .step (State.setFld_same ..) (.refl ..)
  · exact .step (State.setFld_same ..) (.refl ..)

theorem State.goRejected_same (s) : Same [.regs, .evt] s (State.goRejected s) := by
  unfold State.goRejected
  exact .step (State.raise_same ..) (.step (State.setFld_same ..) (.refl ..))

theorem State.mtxGo_same (s) : Same [.regs, .mtx, .evt] s (State.mtxGo s) := by
  unfold State.mtxGo
  refine .ite ?_ ?_
  · exact .step (State.goRejected_same ..) (.refl ..)
  · refine .ite ?_ ?_
    · exact .step (State.raise_same ..) (.step (State.setFld_same ..) (.refl ..))
    · exact .step (State.setFld_same ..) (.step (State.withMtx_same ..) (.step (State.setRegN_same ..) (.step (State.setRegN_same ..)
        (.refl ..))))

theorem State.mtxAbort_same (s) : Same [.regs, .dict, .mtx, .convs, .evt] s (State.mtxAbort s) := by
  unfold State.mtxAbort
  refine .ite ?_ ?_
  · exact .refl ..
  · refine .ite ?_ ?_
    · exact .step (State.mtxCancel_same ..) (.refl ..)
    · exact .step (State.setFld_same ..) (.refl ..)

theorem mtxWrite_same (x0 x1 x2 x3 s) : Same [.regs, .dict, .answer, .mtx, .convs, .evt, .nq] s (mtxWrite x0 x1 x2 x3 s) := by
  unfold mtxWrite
  refine .ite ?_ ?_
  · refine .ite ?_ ?_
    · refine .step (State.mtxGo_same ..) ?_
      refine .ite ?_ ?_
      · refine .step (State.mtxCopy_same ..) ?_
        refine .ite ?_ ?_
        · exact .step (State.mtxAbort_same ..) (.step (State.setRegN_same ..) (.refl ..))
        · exact .step (State.setRegN_same ..) (.refl ..)
      · refine .ite ?_ ?_
        · exact .step (State.mtxAbort_same ..) (.step (State.setRegN_same ..) (.refl ..))
        · exact .step (State.setRegN_same ..) (.refl ..)
    · refine .ite ?_ ?_
      · refine .step (State.mtxCopy_same ..) ?_
        refine .ite ?_ ?_
        · exact .step (State.mtxAbort_same ..) (.step (State.setRegN_same ..) (.refl ..))
        · exact .step (State.setRegN_same ..) (.refl ..)
      · refine .ite ?_ ?_
        · exact .step (State.mtxAbort_same ..) (.step (State.setRegN_same ..) (.refl ..))
        · exact .step (State.setRegN_same ..) (.refl ..)
  · refine .ite ?_ ?_
    · refine .ite ?_ ?_
      · exact .refl ..
      · exact .step (State.setReg_same ..) (.refl ..)
    · refine .ite ?_ ?_
      · refine .ite ?_ ?_
        · exact .step (State.setRegN_same ..) (.refl ..)
        · exact .step (State.setReg_same ..) (.refl ..)
      · refine .ite ?_ ?_
        · refine .ite ?_ ?_
          · exact .step (State.setRegN_same ..) (.refl ..)
          · exact .step (State.setReg_same ..) (.refl ..)
        · refine .ite ?_ ?_
          · exact .step (State.setRegN_same ..) (.refl ..)
          · refine .ite ?_ ?_
            · refine .ite ?_ ?_
              · exact .step (State.setReg_same ..) (.refl ..)
              · exact .refl ..
            · refine .ite ?_ ?_
              · refine .foldl _ (fun _ _ _ => ?_) _ ?_
                · exact .step (State.setRegN_same ..) ‹_›
                · exact .refl ..
              · refine .ite ?_ ?_
                · refine .ite ?_ ?_
                  · exact .step (State.capStart_same ..) (.step (State.setFld_same ..) (.refl ..))
                  · exact .refl ..
                · refine .ite ?_ ?_
                  · refine .ite ?_ ?_
                    · exact .step (State.eveChanged_same ..) (.step (State.withMtx_same ..) (.step (State.setReg_same ..) (.refl ..)))
                    · exact .step (State.errResp_same ..) (.step (State.raise_same ..) (.step (State.setFld_same ..) (.step
                        (State.setReg_same ..) (.refl ..))))
                  · exact .refl ..

theorem State.unitOpen_same (s x1) : Same [.regs, .dict, .mtx, .evt] s (State.unitOpen s x1) := by
  unfold State.unitOpen
  refine .ite ?_ ?_
  · exact .step (State.raise_same ..) (.step (State.count_same ..) (.step (State.setFld_same ..) (.step (State.withMtx_same ..)
      (.refl ..))))
  · exact .step (State.withMtx_same ..) (.refl ..)

theorem State.sampleIn_same (s x1 x2 x3 x4 x5) : Same [.regs, .dict, .mtx, .evt] s (State.sampleIn s x1 x2 x3 x4 x5) := by
  unfold State.sampleIn
  dsimp only
  split
  · refine .ite ?_ ?_
    · exact .step (State.withMtx_same ..) (.refl ..)
    · exact .step (State.deliver_same ..) (.refl ..)
  · exact .step (State.deliver_same ..) (.refl ..)

theorem State.mtxComplete_same (s x1) : Same [.regs, .dict, .mtx, .convs, .evt] s (State.mtxComplete s x1) := by
  unfold State.mtxComplete
  exact .step (State.releaseHeld_same ..) (.step (State.raise_same ..) (.step (State.setFld_same ..) (.step (State.count_same ..)
    (.step (State.setFld_same ..) (.step (State.setFld_same ..) (.step (State.withConvs_same ..) (.step (State.withMtx_same ..)
    (.refl ..))))))))

theorem State.noteUse_same (s x1 x2) : Same [.mtx] s (State.noteUse s x1 x2) := by
  unfold State.noteUse
  refine .ite ?_ ?_
  · exact .refl ..
  · exact .step (State.withMtx_same ..) (.refl ..)

theorem State.lineInsert_same (s x1 x2 x3 x4 x5) : Same [.regs, .dict, .mtx, .evt] s (State.lineInsert s x1 x2 x3 x4 x5) := by
  unfold State.lineInsert
  exact .step (State.settleLines_same ..) (.step (State.withMtx_same ..) (.step (State.countN_same ..) (.refl ..)))

theorem State.contribute_same (s x1 x2 x3 x4) :
    ∀ r, State.contribute s x1 x2 x3 x4 = some r → Same [.regs, .dict, .mtx, .convs] s r.2 := by
  intro r h
  unfold contribute at h
  dsimp only at h
  split at h
  · split at h
    · cases h
      exact .step (withMtx_same ..) (.refl ..)
    · split at h
      · cases h
      · split at h
        · cases h
        · split at h
          · cases h
            exact .step (withMtx_same ..) (.refl ..)
          · split at h <;> cases h <;> exact .step (withMtx_same ..) (.refl ..)
  · split at h
    · cases h
      exact .step (modConv_same ..) (.refl ..)
    · split at h
      · cases h
        exact .refl ..
      · split at h
        · cases h
        · split at h
          · cases h
          · split at h <;> cases h <;>
              exact .step (withMtx_same ..) (.step (modConv_same ..) (.step (convSat_same ..) (.refl ..)))

theorem State.contributeAll_same (x0 x1 x2 x3 s) :
    ∀ r, State.contributeAll x0 x1 x2 x3 s = some r → Same [.regs, .dict, .mtx, .convs] s r.2 := by
  induction x3 generalizing s with
  | nil =>
    intro r h
    cases h
    exact .refl ..
  | cons x l ih =>
    intro r h
    unfold contributeAll at h
    split at h
    · cases h
    · split at h
      · cases h
      · cases h
        rename_i c _ _ _ a
        have i := ih _ _ a
        have j := contribute_same _ _ _ _ _ _ c
        exact .step i j

theorem State.mixSample_same (s x1 x2 x3 x4) :
    ∀ r, State.mixSample s x1 x2 x3 x4 = some r → Same [.regs, .dict, .mtx, .convs] s r.2 := by
  intro r h
  unfold mixSample at h
  split at h
  · cases h
    exact .refl ..
  · split at h
    · cases h
    · rename_i e
      have c := contributeAll_same _ _ _ _ _ _ e
      cases h
      exact .ite (.step (count_same ..) c) c

theorem State.emit_same (s x1 x2) : Same [.regs, .mtx, .evt] s (State.emit s x1 x2) := by
  unfold State.emit
  refine .ite ?_ ?_
  · exact .step (State.modTx_same ..) (.step (State.capSample_same ..) (.refl ..))
  · exact .step (State.capSample_same ..) (.refl ..)

theorem State.formSample_same (s x1) : ∀ r, State.formSample s x1 = some r → Same [.regs, .dict, .mtx, .convs, .evt] s r := by
  intro r h
  unfold formSample at h
  dsimp only at h
  split at h
  · cases h
  · rename_i x s1 heq
    have hs : Same [.regs, .dict, .mtx, .convs, .evt] s s1 := .step (mixSample_same _ _ _ _ _ _ heq) (.refl ..)
    have hm : ∀ d f, Same [.regs, .dict, .mtx, .convs, .evt] s ((s1.noteUse x1 d).modTx x1 f) := fun d f =>
      .step (modTx_same ..) (.step (noteUse_same ..) hs)
    have e := Option.some.inj ((apply_ite some _ _ _).trans h)
    subst e
    refine .ite (.ite (.step (mtxComplete_same ..) (.step (withMtx_same ..) ?_)) (.step (withMtx_same ..) ?_)) ?_ <;>
      exact .ite (.step (lineInsert_same ..) (hm _ _)) (.step (emit_same ..) (hm _ _))

theorem execTransmitSampleFormed_same (x0 s) : After [.regs, .dict, .mtx, .convs, .evt] s (execTransmitSampleFormed x0 s) := by
  unfold execTransmitSampleFormed
  refine .ite ?_ ?_
  · refine .next ?_
    refine .getD (fun _ h => .step (State.formSample_same _ _ _ h) ?_) ?_
    · exact .refl ..
    · exact .refl ..
  · refine .next ?_
    exact .refl ..

theorem execArmingPoint_same (s) : After [.now, .regs, .dict, .cal, .hld, .mtx, .convs, .evt] s (execArmingPoint s) := by
  unfold execArmingPoint
  refine .ite ?_ ?_
  · refine .next ?_
    exact .step (State.advance_same ..) (.refl ..)
  · refine .next ?_
    exact .refl ..

theorem execDelayLineOutput_same (x0 s) : After [.regs, .dict, .mtx, .evt] s (execDelayLineOutput x0 s) := by
  unfold execDelayLineOutput
  dsimp only
  split
  · split
    · refine .ite ?_ ?_
      · refine .next ?_
        exact .step (State.emit_same ..) (.step (State.withMtx_same ..) (.refl ..))
      · refine .next ?_
        exact .step (State.emit_same ..) (.step (State.delayLost_same ..) (.step (State.withMtx_same ..) (.refl ..)))
    · refine .next ?_
      exact .step (State.emit_same ..) (.step (State.withMtx_same ..) (.refl ..))
  · refine .next ?_
    exact .refl ..

theorem execSourceTimeout_same (x0 x1 s) :
    After [.now, .regs, .dict, .cal, .hld, .mtx, .convs, .evt] s (execSourceTimeout x0 x1 s) := by
  unfold execSourceTimeout
  refine .ite ?_ ?_
  · refine .next ?_
    exact .refl ..
  · refine .next ?_
    exact .step (State.count_same ..) (.step (State.withMtx_same ..) (.step (State.advanceTo_same ..) (.refl ..)))

theorem execValidationDone_same (s) : After [.regs, .dict, .mtx, .convs, .evt] s (execValidationDone s) := by
  unfold execValidationDone
  refine .ite ?_ ?_
  · refine .next ?_
    exact .refl ..
  · split
    · refine .next ?_
      exact .step (State.mtxCancel_same ..) (.step (State.count_same ..) (.step (State.setFld_same ..) (.refl ..)))
    · refine .next ?_
      refine .ite ?_ ?_
      · refine .step (State.mtxComplete_same ..) ?_
        refine .ite ?_ ?_
        · refine .foldl _ (fun _ _ _ => ?_) _ ?_
          · split
            · exact .step (State.modConv_same ..) ‹_›
            · assumption
          · exact .step (State.setFld_same ..) (.refl ..)
        · refine .step (State.countN_same ..) ?_
          refine .foldl _ (fun _ _ _ => ?_) _ ?_
          · split
            · exact .step (State.modConv_same ..) ‹_›
            · assumption
          · exact .step (State.setFld_same ..) (.refl ..)
      · refine .ite ?_ ?_
        · refine .foldl _ (fun _ _ _ => ?_) _ ?_
          · split
            · exact .step (State.modConv_same ..) ‹_›
            · assumption
          · exact .step (State.setFld_same ..) (.refl ..)
        · refine .step (State.countN_same ..) ?_
          refine .foldl _ (fun _ _ _ => ?_) _ ?_
          · split
            · exact .step (State.modConv_same ..) ‹_›
            · assumption
          · exact .step (State.setFld_same ..) (.refl ..)

theorem execSourceSampleArrival_same (x0 x1 x2 x3 x4 x5 x6 x7 s) :
    After [.regs, .dict, .mtx, .evt] s (execSourceSampleArrival x0 x1 x2 x3 x4 x5 x6 x7 s) := by
  unfold execSourceSampleArrival
  refine .ite ?_ ?_
  · refine .next ?_
    exact .refl ..
  · refine .next ?_
    refine .step (State.sampleIn_same ..) ?_
    refine .ite ?_ ?_
    · refine .step (State.count_same ..) ?_
      refine .ite ?_ ?_
      · exact .step (State.unitOpen_same ..) (.refl ..)
      · exact .refl ..
    · refine .ite ?_ ?_
      · exact .step (State.unitOpen_same ..) (.refl ..)
      · exact .refl ..

theorem execSwitchWindowExpiry_same (s) :
    After [.now, .regs, .dict, .cal, .hld, .mtx, .convs, .evt] s (execSwitchWindowExpiry s) := by
  unfold execSwitchWindowExpiry
  refine .ite ?_ ?_
  · refine .next ?_
    refine .ite ?_ ?_
    · exact .step (State.mtxComplete_same ..) (.step (State.advance_same ..) (.refl ..))
    · exact .step (State.advance_same ..) (.refl ..)
  · refine .next ?_
    exact .refl ..

theorem execCopyDone_same (s) : After [.regs, .mtx, .nq] s (execCopyDone s) := by
  unfold execCopyDone
  refine .ite ?_ ?_
  · refine .next ?_
    exact .step (State.setFld_same ..) (.step (State.eveChanged_same ..) (.step (State.withMtx_same ..) (.refl ..)))
  · refine .next ?_
    exact .refl ..

/-! ### Reserve -/

theorem State.dmaStop_same (s x1) : Same [.ic] s (State.dmaStop s x1) := by
  unfold State.dmaStop
  exact .step (State.withIc_same ..) (.refl ..)

theorem State.dmaPreempt_same (s x1) : Same [.regs, .evt, .ic] s (State.dmaPreempt s x1) := by
  unfold State.dmaPreempt
  refine .ite ?_ ?_
  · exact .step (State.raise_same ..) (.step (State.setFld_same ..) (.step (State.dmaStop_same ..) (.refl ..)))
  · exact .refl ..

/-! ### Classifier -/

theorem clsRead_same (x0 x1 s) : Same [.regs] s (clsRead x0 x1 s).2 := by
  unfold clsRead
  refine .ite2 ?_ ?_
  · exact .step (State.setFlag_same ..) (.step (State.setFlag_same ..) (.refl ..))
  · exact .refl ..

theorem State.clsRefuse_same (s x1) : Same [.regs, .evt] s (State.clsRefuse s x1) := by
  unfold State.clsRefuse
  exact .step (State.raise_same ..) (.step (State.setFld_same ..) (.refl ..))

theorem State.clsCommand_same (s x1) : Same [.regs, .cls, .evt] s (State.clsCommand s x1) := by
  unfold State.clsCommand
  refine .ite ?_ ?_
  · exact .step (State.clsRefuse_same ..) (.refl ..)
  · exact .step (State.setFld_same ..) (.step (State.withCls_same ..) (.refl ..))

theorem clsWrite_same (x0 x1 x2 x3 s) : Same [.regs, .cls, .evt, .ic] s (clsWrite x0 x1 x2 x3 s) := by
  unfold clsWrite
  refine .ite ?_ ?_
  · exact .step (State.clsCommand_same ..) (.step (State.setRegN_same ..) (.refl ..))
  · refine .ite ?_ ?_
    · refine .ite ?_ ?_
      · exact .step (State.setFld_same ..) (.refl ..)
      · exact .refl ..
    · refine .ite ?_ ?_
      · refine .ite ?_ ?_
        · exact .step (State.setReg_same ..) (.refl ..)
        · exact .refl ..
      · refine .ite ?_ ?_
        · refine .ite ?_ ?_
          · exact .step (State.dmaPreempt_same ..) (.refl ..)
          · exact .refl ..
        · exact .refl ..

theorem State.modSlotC_same (s x1 x2) : Same [.cls] s (State.modSlotC s x1 x2) := by
  unfold State.modSlotC
  exact .step (State.withCls_same ..) (.refl ..)

theorem State.suspCount_same (s) : Same [.regs] s (State.suspCount s) := by
  unfold State.suspCount
  exact .step (State.setFld_same ..) (.refl ..)

theorem State.falseHit_same (s x1) : Same [.regs, .cls, .evt] s (State.falseHit s x1) := by
  unfold State.falseHit
  split
  · exact .step (State.raise_same ..) (.step (State.suspCount_same ..) (.step (State.setRegN_same ..) (.refl ..)))
  · exact .step (State.raise_same ..) (.step (State.raise_same ..) (.step (State.setFld_same ..) (.step (State.modSlotC_same ..)
      (.refl ..))))

theorem State.setRx_same (s x1 x2) : Same [.lanes] s (State.setRx s x1 x2) := by
  unfold State.setRx
  exact .step (State.modLane_same ..) (.refl ..)

theorem State.upsetEntry_same (s x1) : Same [.cls] s (State.upsetEntry s x1) := by
  unfold State.upsetEntry
  split
  · exact .refl ..
  · exact .step (State.modSlotC_same ..) (.refl ..)

theorem State.roeSamples_same (s x1 x2 x3 x4 x5) : Same [.regs, .dict, .mtx, .evt] s (State.roeSamples s x1 x2 x3 x4 x5) := by
  unfold State.roeSamples
  refine .ite ?_ ?_
  · exact .refl ..
  · refine .foldl _ (fun _ _ _ => ?_) _ ?_
    · exact .step (State.sampleIn_same ..) ‹_›
    · refine .step (State.unitOpen_same ..) ?_
      refine .ite ?_ ?_
      · exact .refl ..
      · exact .step (State.countN_same ..) (.refl ..)

theorem State.steer_same (s x1 x2) : Same [.free, .regs, .dict, .mtx, .lanes, .evt] s (State.steer s x1 x2) := by
  unfold State.steer
  refine .ite ?_ ?_
  · exact .step (State.setRx_same ..) (.refl ..)
  · refine .ite ?_ ?_
    · exact .step (State.setRx_same ..) (.step (State.draw_same ..) (.refl ..))
    · split
      · exact .step (State.setRx_same ..) (.step (State.roeSamples_same ..) (.refl ..))
      · exact .step (State.setRx_same ..) (.refl ..)

theorem State.suspDrop_same (s x1) : Same [.regs] s (State.suspDrop s x1) := by
  unfold State.suspDrop
  refine .step (State.suspCount_same ..) ?_
  refine .foldl _ (fun _ _ _ => ?_) _ ?_
  · refine .ite ?_ ?_
    · exact .step (State.setRegN_same ..) ‹_›
    · assumption
  · exact .refl ..

theorem State.entryUncor_same (s x1) : Same [.regs, .cls, .evt] s (State.entryUncor s x1) := by
  unfold State.entryUncor
  exact .step (State.raise_same ..) (.step (State.setFld_same ..) (.step (State.setRegN_same ..) (.step (State.suspDrop_same ..)
    (.step (State.modSlotC_same ..) (.refl ..)))))

theorem State.lookup_same (x0 x1 s x3) : Same [.regs, .cls, .evt] s (State.lookup x0 x1 s x3).2 := by
  induction x1 generalizing s x3 with
  | zero => exact .step (setFld_same ..) (.refl ..)
  | succ n ih =>
    unfold lookup
    split
    · exact .refl ..
    · exact .ite2 (.step (ih ..) (.step (entryUncor_same ..) (.refl ..)))
        (.ite2 (.step (ih ..) (.step (falseHit_same ..) (.refl ..))) (.refl ..))

theorem State.classify_same (s x1 x2) :
    Same [.free, .regs, .dict, .mtx, .lanes, .cls, .aut, .evt] s (State.classify s x1 x2) := by
  unfold State.classify
  refine .step (State.steer_same ..) ?_
  split
  · exact .step (State.engFrame_same ..) (.step (State.withCls_same ..) (.step (State.lookup_same ..) (.refl ..)))
  · exact .step (State.withCls_same ..) (.step (State.lookup_same ..) (.refl ..))

theorem execClassifierSearch_same (x0 x1 x2 x3 x4 s) :
    After [.free, .regs, .dict, .mtx, .lanes, .cls, .aut, .evt] s (execClassifierSearch x0 x1 x2 x3 x4 s) := by
  unfold execClassifierSearch
  refine .ite ?_ ?_
  · refine .next ?_
    exact .refl ..
  · refine .ite ?_ ?_
    · refine .next ?_
      exact .refl ..
    · refine .ite ?_ ?_
      · refine .next ?_
        exact .step (State.setRx_same ..) (.refl ..)
      · refine .ite ?_ ?_
        · refine .next ?_
          refine .ite ?_ ?_
          · exact .refl ..
          · exact .step (State.setRx_same ..) (.refl ..)
        · refine .ite ?_ ?_
          · refine .next ?_
            exact .step (State.setRx_same ..) (.step (State.upsetEntry_same ..) (.refl ..))
          · refine .ite ?_ ?_
            · refine .next ?_
              exact .step (State.setRx_same ..) (.step (State.upsetEntry_same ..) (.refl ..))
            · refine .ite ?_ ?_
              · dsimp only
                split
                · refine .next ?_
                  refine .ite ?_ ?_
                  · refine .step (State.setRx_same ..) ?_
                    refine .step (State.setFld_same ..) ?_
                    refine .ite ?_ ?_
                    · exact .step (State.withCls_same ..) (.step (State.upsetEntry_same ..) (.refl ..))
                    · exact .step (State.withCls_same ..) (.step (State.upsetEntry_same ..) (.refl ..))
                  · refine .step (State.raise_same ..) ?_
                    refine .step (State.withCls_same ..) ?_
                    refine .step (State.setRx_same ..) ?_
                    refine .step (State.setFld_same ..) ?_
                    refine .ite ?_ ?_
                    · exact .step (State.withCls_same ..) (.step (State.upsetEntry_same ..) (.refl ..))
                    · exact .step (State.withCls_same ..) (.step (State.upsetEntry_same ..) (.refl ..))
                · refine .next ?_
                  refine .step (State.raise_same ..) ?_
                  refine .step (State.withCls_same ..) ?_
                  refine .step (State.setRx_same ..) ?_
                  refine .step (State.setFld_same ..) ?_
                  refine .ite ?_ ?_
                  · exact .step (State.withCls_same ..) (.step (State.upsetEntry_same ..) (.refl ..))
                  · exact .step (State.withCls_same ..) (.step (State.upsetEntry_same ..) (.refl ..))
              · refine .next ?_
                refine .step (State.classify_same ..) ?_
                refine .ite ?_ ?_
                · exact .step (State.withCls_same ..) (.step (State.upsetEntry_same ..) (.refl ..))
                · exact .step (State.withCls_same ..) (.step (State.upsetEntry_same ..) (.refl ..))

theorem State.fqPut_same (s x1 x2) : Same [.cls] s (State.fqPut s x1 x2) := by
  unfold State.fqPut
  exact .step (State.withCls_same ..) (.refl ..)

theorem State.repair_same (s x1) : Same [.cls] s (State.repair s x1) := by
  unfold State.repair
  exact .step (State.modSlotC_same ..) (.refl ..)

theorem execRakeRepairDone_same (x0 s) : After [.regs, .cls, .evt] s (execRakeRepairDone x0 s) := by
  unfold execRakeRepairDone
  refine .ite ?_ ?_
  · refine .next ?_
    exact .refl ..
  · refine .ite ?_ ?_
    · refine .next ?_
      exact .step (State.entryUncor_same ..) (.refl ..)
    · refine .next ?_
      exact .step (State.suspDrop_same ..) (.step (State.repair_same ..) (.refl ..))

theorem State.clsWriteEntry_same (s x1) : Same [.cls] s (State.clsWriteEntry s x1) := by
  unfold State.clsWriteEntry
  exact .step (State.modSlotC_same ..) (.refl ..)

theorem execFqEntryWritten_same (s) : After [.free, .regs, .dict, .sram, .cls, .evt, .dmc] s (execFqEntryWritten s) := by
  unfold execFqEntryWritten
  split
  · refine .ite ?_ ?_
    · refine .next ?_
      exact .step (State.count_same ..) (.step (State.withCls_same ..) (.refl ..))
    · refine .ite ?_ ?_
      · refine .next ?_
        exact .step (State.raise_same ..) (.step (State.count_same ..) (.step (State.withCls_same ..) (.refl ..)))
      · refine .next ?_
        exact .step (State.raise_same ..) (.step (State.setRegN_same ..) (.step (State.memWrite_same ..) (.step
          (State.withCls_same ..) (.refl ..))))
  · refine .next ?_
    exact .refl ..

theorem State.clsReadEntry_same (s x1) : Same [.regs] s (State.clsReadEntry s x1) := by
  unfold State.clsReadEntry
  refine .step (State.setReg_same ..) ?_
  refine .step (State.setReg_same ..) ?_
  refine .foldl _ (fun _ _ _ => ?_) _ ?_
  · exact .step (State.setRegN_same ..) (.step (State.setRegN_same ..) ‹_›)
  · exact .refl ..

theorem execEntryCommandDone_same (s) : After [.regs, .cls, .evt] s (execEntryCommandDone s) := by
  unfold execEntryCommandDone
  split
  · refine .next ?_
    split
    · exact .step (State.raise_same ..) (.step (State.clsReadEntry_same ..) (.step (State.setFld_same ..) (.step
        (State.withCls_same ..) (.refl ..))))
    · refine .ite ?_ ?_
      · exact .step (State.clsRefuse_same ..) (.step (State.setFld_same ..) (.step (State.withCls_same ..) (.refl ..)))
      · refine .ite ?_ ?_
        · exact .step (State.clsRefuse_same ..) (.step (State.setFld_same ..) (.step (State.withCls_same ..) (.refl ..)))
        · refine .ite ?_ ?_
          · exact .step (State.clsRefuse_same ..) (.step (State.setFld_same ..) (.step (State.withCls_same ..) (.refl ..)))
          · exact .step (State.raise_same ..) (.step (State.clsWriteEntry_same ..) (.step (State.setFld_same ..) (.step
              (State.withCls_same ..) (.refl ..))))
    · exact .step (State.raise_same ..) (.step (State.suspDrop_same ..) (.step (State.modSlotC_same ..) (.step (State.setFld_same ..)
        (.step (State.withCls_same ..) (.refl ..)))))
    · refine .ite ?_ ?_
      · exact .step (State.clsRefuse_same ..) (.step (State.setFld_same ..) (.step (State.withCls_same ..) (.refl ..)))
      · exact .step (State.raise_same ..) (.step (State.modSlotC_same ..) (.step (State.setFld_same ..) (.step
          (State.withCls_same ..) (.refl ..))))
    · exact .step (State.clsRefuse_same ..) (.step (State.setFld_same ..) (.step (State.withCls_same ..) (.refl ..)))
  · refine .next ?_
    exact .refl ..

theorem execRakeBackgroundStep_same (s) :
    After [.now, .regs, .dict, .cal, .hld, .mtx, .convs, .cls, .evt] s (execRakeBackgroundStep s) := by
  unfold execRakeBackgroundStep
  refine .ite ?_ ?_
  · refine .next ?_
    exact .refl ..
  · refine .ite ?_ ?_
    · refine .next ?_
      exact .step (State.withCls_same ..) (.step (State.withCls_same ..) (.step (State.advanceTo_same ..) (.refl ..)))
    · dsimp only
      split
      · refine .next ?_
        exact .step (State.withCls_same ..) (.step (State.withCls_same ..) (.step (State.advanceTo_same ..) (.refl ..)))
      · refine .ite ?_ ?_
        · refine .next ?_
          exact .step (State.entryUncor_same ..) (.step (State.withCls_same ..) (.step (State.withCls_same ..) (.step
            (State.withCls_same ..) (.step (State.advanceTo_same ..) (.refl ..)))))
        · refine .ite ?_ ?_
          · refine .next ?_
            exact .step (State.raise_same ..) (.step (State.repair_same ..) (.step (State.withCls_same ..) (.step
              (State.withCls_same ..) (.step (State.withCls_same ..) (.step (State.advanceTo_same ..) (.refl ..))))))
          · refine .next ?_
            exact .step (State.withCls_same ..) (.step (State.withCls_same ..) (.step (State.withCls_same ..) (.step
              (State.advanceTo_same ..) (.refl ..))))

/-! ### Container -/

theorem State.laneEvent_same (s x1 x2) : Same [.regs, .evt] s (State.laneEvent s x1 x2) := by
  unfold State.laneEvent
  refine .ite ?_ ?_
  · exact .refl ..
  · refine .ite ?_ ?_
    · exact .step (State.raise_same ..) (.step (State.setRegN_same ..) (.refl ..))
    · exact .step (State.setRegN_same ..) (.refl ..)

theorem State.laneCount_same (s x1 x2 x3) : Same [.regs, .dict, .evt] s (State.laneCount s x1 x2 x3) := by
  unfold State.laneCount
  refine .ite ?_ ?_
  · exact .refl ..
  · refine .ite ?_ ?_
    · exact .step (State.laneEvent_same ..) (.step (State.countN_same ..) (.refl ..))
    · exact .step (State.countN_same ..) (.refl ..)

theorem State.packOut_same (s x1 x2) : Same [.regs, .dict] s (State.packOut s x1 x2).2 := by
  unfold State.packOut
  exact .step (State.countN_same ..) (.refl ..)

/-! ### Secure -/

theorem State.setSaPn_same (s x1 x2) : Same [.regs] s (State.setSaPn s x1 x2) := by
  unfold State.setSaPn
  exact .step (State.setRegN_same ..) (.step (State.setRegN_same ..) (.refl ..))

theorem State.lineRaw_same (s x1 x2) : Same [.lanes, .nq] s (State.lineRaw s x1 x2) := by
  unfold State.lineRaw
  refine .ite ?_ ?_
  · exact .step (State.withNq_same ..) (.refl ..)
  · exact .step (State.modLane_same ..) (.refl ..)

theorem State.protectTx_same (s x1 x2 x3) : Same [.regs, .dict, .evt] s (State.protectTx s x1 x2 x3).2 := by
  unfold State.protectTx
  refine .ite2 ?_ ?_
  · exact .refl ..
  · refine .ite2 ?_ ?_
    · exact .step (State.countFld_same ..) (.refl ..)
    · refine .ite2 ?_ ?_
      · refine .ite ?_ ?_
        · refine .step (State.raise_same ..) ?_
          refine .step (State.setFld_same ..) ?_
          refine .ite ?_ ?_
          · exact .step (State.raise_same ..) (.step (State.setSaPn_same ..) (.refl ..))
          · exact .step (State.setSaPn_same ..) (.refl ..)
        · refine .ite ?_ ?_
          · exact .step (State.raise_same ..) (.step (State.setSaPn_same ..) (.refl ..))
          · exact .step (State.setSaPn_same ..) (.refl ..)
      · refine .step (State.count_same ..) ?_
        refine .ite ?_ ?_
        · refine .step (State.raise_same ..) ?_
          refine .step (State.setFld_same ..) ?_
          refine .ite ?_ ?_
          · exact .step (State.raise_same ..) (.step (State.setSaPn_same ..) (.refl ..))
          · exact .step (State.setSaPn_same ..) (.refl ..)
        · refine .ite ?_ ?_
          · exact .step (State.raise_same ..) (.step (State.setSaPn_same ..) (.refl ..))
          · exact .step (State.setSaPn_same ..) (.refl ..)

theorem State.lineSend_same (s x1 x2) : Same [.regs, .dict, .lanes, .evt, .nq] s (State.lineSend s x1 x2) := by
  unfold State.lineSend
  dsimp only
  split
  · exact .step (State.lineRaw_same ..) (.step (State.protectTx_same ..) (.refl ..))
  · exact .step (State.protectTx_same ..) (.refl ..)

/-! ### Harvest -/

theorem State.modSlot_same (s x1 x2) : Same [.hvs] s (State.modSlot s x1 x2) := by
  unfold State.modSlot
  exact .step (State.withHvs_same ..) (.refl ..)

theorem State.msgFail_same (s x1) : Same [.regs, .dict, .evt] s (State.msgFail s x1) := by
  unfold State.msgFail
  exact .step (State.raise_same ..) (.step (State.count_same ..) (.refl ..))

theorem State.msgLost_same (s x1) : Same [.regs, .dict, .hvs, .evt] s (State.msgLost s x1) := by
  unfold State.msgLost
  refine .ite ?_ ?_
  · exact .refl ..
  · exact .step (State.msgFail_same ..) (.step (State.modSlot_same ..) (.refl ..))

theorem State.slotStop_same (s x1) : Same [.regs, .hvs] s (State.slotStop s x1) := by
  unfold State.slotStop
  exact .step (State.modSlot_same ..) (.step (State.setFld_same ..) (.refl ..))

theorem State.slotRingError_same (s x1) : Same [.regs, .hvs, .evt] s (State.slotRingError s x1) := by
  unfold State.slotRingError
  exact .step (State.raise_same ..) (.step (State.slotStop_same ..) (.refl ..))

theorem State.slotBusError_same (s x1) : Same [.regs, .hvs, .evt] s (State.slotBusError s x1) := by
  unfold State.slotBusError
  exact .step (State.raise_same ..) (.step (State.setFld_same ..) (.step (State.slotStop_same ..) (.refl ..)))

theorem State.slotFetch_same (s x1) : Same [.free, .regs, .dict, .hvs, .evt, .dmc] s (State.slotFetch s x1).2 := by
  unfold State.slotFetch
  refine .ite2 ?_ ?_
  · exact .step (State.slotRingError_same ..) (.refl ..)
  · refine .ite2 ?_ ?_
    · exact .step (State.slotBusError_same ..) (.step (State.memRead_same ..) (.refl ..))
    · exact .step (State.memRead_same ..) (.refl ..)

theorem State.slotWrite_same (s x1 x2 x3) :
    Same [.free, .regs, .dict, .sram, .hvs, .evt, .dmc] s (State.slotWrite s x1 x2 x3) := by
  unfold State.slotWrite
  refine .ite ?_ ?_
  · exact .step (State.slotBusError_same ..) (.step (State.memWrite_same ..) (.refl ..))
  · exact .step (State.memWrite_same ..) (.refl ..)

theorem State.slotNext_same (s x1) : Same [.regs] s (State.slotNext s x1) := by
  unfold State.slotNext
  exact .step (State.setFld_same ..) (.refl ..)

theorem State.msgDone_same (s x1 x2 x3 x4 x5) :
    Same [.free, .regs, .dict, .sram, .hvs, .evt, .dmc] s (State.msgDone s x1 x2 x3 x4 x5) := by
  unfold State.msgDone
  refine .ite ?_ ?_
  · exact .step (State.slotWrite_same ..) (.refl ..)
  · refine .ite ?_ ?_
    · exact .step (State.slotWrite_same ..) (.step (State.slotWrite_same ..) (.refl ..))
    · refine .ite ?_ ?_
      · exact .step (State.raise_same ..) (.step (State.count_same ..) (.step (State.modSlot_same ..) (.step (State.slotNext_same ..)
          (.step (State.slotWrite_same ..) (.step (State.slotWrite_same ..) (.refl ..))))))
      · exact .step (State.count_same ..) (.step (State.modSlot_same ..) (.step (State.slotNext_same ..) (.step
          (State.slotWrite_same ..) (.step (State.slotWrite_same ..) (.refl ..)))))

theorem State.msgConfirm_same (s x1) : Same [.free, .regs, .dict, .sram, .hvs, .evt, .dmc] s (State.msgConfirm s x1) := by
  unfold State.msgConfirm
  refine .ite ?_ ?_
  · exact .refl ..
  · refine .ite ?_ ?_
    · refine .step (State.modSlot_same ..) ?_
      refine .ite ?_ ?_
      · exact .refl ..
      · exact .step (State.raise_same ..) (.step (State.count_same ..) (.refl ..))
    · dsimp only
      split
      · exact .step (State.slotFetch_same ..) (.refl ..)
      · refine .ite ?_ ?_
        · exact .step (State.slotRingError_same ..) (.step (State.slotFetch_same ..) (.refl ..))
        · refine .ite ?_ ?_
          · exact .step (State.slotWrite_same ..) (.step (State.slotFetch_same ..) (.refl ..))
          · refine .ite ?_ ?_
            · refine .step (State.msgDone_same ..) ?_
              refine .step (State.modSlot_same ..) ?_
              refine .ite ?_ ?_
              · exact .step (State.raise_same ..) (.step (State.slotWrite_same ..) (.step (State.slotFetch_same ..) (.refl ..)))
              · exact .step (State.slotWrite_same ..) (.step (State.slotFetch_same ..) (.refl ..))
            · refine .step (State.modSlot_same ..) ?_
              refine .ite ?_ ?_
              · exact .step (State.raise_same ..) (.step (State.slotWrite_same ..) (.step (State.slotFetch_same ..) (.refl ..)))
              · exact .step (State.slotWrite_same ..) (.step (State.slotFetch_same ..) (.refl ..))

theorem State.hvsUnits_same (s x1 x2) :
    Same [.free, .regs, .dict, .sram, .hvs, .aut, .evt, .dmc] s (State.hvsUnits s x1 x2) := by
  unfold State.hvsUnits
  refine .foldl _ (fun _ _ _ => ?_) _ ?_
  · refine .ite ?_ ?_
    · exact .step (State.msgConfirm_same ..) (.step (State.engTapEnd_same ..) ‹_›)
    · exact .step (State.msgLost_same ..) (.step (State.engTapEnd_same ..) ‹_›)
  · exact .refl ..

theorem hvsWrite_same (x0 x1 x2 x3 s) : Same [.regs, .hvs] s (hvsWrite x0 x1 x2 x3 s) := by
  unfold hvsWrite
  refine .ite ?_ ?_
  · refine .ite ?_ ?_
    · refine .ite ?_ ?_
      · exact .step (State.setFld_same ..) (.step (State.setReg_same ..) (.refl ..))
      · exact .step (State.slotStop_same ..) (.step (State.setReg_same ..) (.refl ..))
    · refine .ite ?_ ?_
      · refine .ite ?_ ?_
        · exact .step (State.setFld_same ..) (.step (State.setFld_same ..) (.refl ..))
        · exact .step (State.modSlot_same ..) (.step (State.setFld_same ..) (.refl ..))
      · exact .refl ..
  · exact .refl ..

theorem State.msgBegin_same (s x1 x2) : Same [.free, .regs, .dict, .hvs, .evt, .dmc] s (State.msgBegin s x1 x2) := by
  unfold State.msgBegin
  dsimp only
  split
  · exact .step (State.slotFetch_same ..) (.refl ..)
  · exact .step (State.modSlot_same ..) (.step (State.slotFetch_same ..) (.refl ..))

theorem State.hvsFrame_same (s x1 x2 x3 x4) :
    Same [.free, .regs, .dict, .sram, .hvs, .aut, .evt, .dmc] s (State.hvsFrame s x1 x2 x3 x4) := by
  unfold State.hvsFrame
  refine .ite ?_ ?_
  · exact .step (State.engTapMsg_same ..) (.refl ..)
  · refine .ite ?_ ?_
    · exact .step (State.msgBegin_same ..) (.step (State.engTapMsg_same ..) (.refl ..))
    · exact .step (State.msgConfirm_same ..) (.step (State.modSlot_same ..) (.step (State.msgBegin_same ..) (.step
        (State.engTapMsg_same ..) (.refl ..))))

theorem execHarvestTransmit_same (x0 x1 s) :
    After [.now, .free, .regs, .dict, .sram, .cal, .hld, .mtx, .lanes, .convs, .hvs, .evt, .dmc, .nq] s (execHarvestTransmit x0 x1 s) := by
  unfold execHarvestTransmit
  refine .ite ?_ ?_
  · refine .next ?_
    exact .refl ..
  · dsimp only
    split
    · refine .next ?_
      exact .step (State.slotFetch_same ..) (.refl ..)
    · refine .ite ?_ ?_
      · refine .next ?_
        exact .step (State.slotFetch_same ..) (.refl ..)
      · refine .ite ?_ ?_
        · refine .next ?_
          refine .ite ?_ ?_
          · exact .step (State.slotNext_same ..) (.step (State.slotWrite_same ..) (.step (State.slotFetch_same ..) (.refl ..)))
          · exact .step (State.slotWrite_same ..) (.step (State.slotFetch_same ..) (.refl ..))
        · refine .ite ?_ ?_
          · refine .next ?_
            exact .step (State.slotRingError_same ..) (.step (State.slotFetch_same ..) (.refl ..))
          · refine .ite ?_ ?_
            · refine .next ?_
              exact .step (State.slotBusError_same ..) (.step (State.memRead_same ..) (.step (State.slotFetch_same ..) (.refl ..)))
            · refine .ite ?_ ?_
              · refine .next ?_
                refine .step (State.slotWrite_same ..) ?_
                refine .step (State.laneCount_same ..) ?_
                refine .step (State.modSlot_same ..) ?_
                refine .ite ?_ ?_
                · refine .step (State.lineRaw_same ..) ?_
                  refine .ite ?_ ?_
                  · exact .step (State.memRead_same ..) (.step (State.slotFetch_same ..) (.refl ..))
                  · exact .step (State.advanceTo_same ..) (.step (State.memRead_same ..) (.step (State.slotFetch_same ..) (.refl ..)))
                · refine .step (State.lineSend_same ..) ?_
                  refine .ite ?_ ?_
                  · exact .step (State.memRead_same ..) (.step (State.slotFetch_same ..) (.refl ..))
                  · exact .step (State.advanceTo_same ..) (.step (State.memRead_same ..) (.step (State.slotFetch_same ..) (.refl ..)))
              · refine .ite ?_ ?_
                · refine .next ?_
                  refine .step (State.slotWrite_same ..) ?_
                  refine .step (State.slotWrite_same ..) ?_
                  refine .step (State.laneCount_same ..) ?_
                  refine .step (State.modSlot_same ..) ?_
                  refine .ite ?_ ?_
                  · refine .step (State.lineRaw_same ..) ?_
                    refine .ite ?_ ?_
                    · exact .step (State.memRead_same ..) (.step (State.slotFetch_same ..) (.refl ..))
                    · exact .step (State.advanceTo_same ..) (.step (State.memRead_same ..) (.step (State.slotFetch_same ..)
                        (.refl ..)))
                  · refine .step (State.lineSend_same ..) ?_
                    refine .ite ?_ ?_
                    · exact .step (State.memRead_same ..) (.step (State.slotFetch_same ..) (.refl ..))
                    · exact .step (State.advanceTo_same ..) (.step (State.memRead_same ..) (.step (State.slotFetch_same ..)
                        (.refl ..)))
                · refine .next ?_
                  refine .ite ?_ ?_
                  · refine .step (State.raise_same ..) ?_
                    refine .step (State.count_same ..) ?_
                    refine .step (State.slotNext_same ..) ?_
                    refine .step (State.slotWrite_same ..) ?_
                    refine .step (State.slotWrite_same ..) ?_
                    refine .step (State.laneCount_same ..) ?_
                    refine .step (State.modSlot_same ..) ?_
                    refine .ite ?_ ?_
                    · refine .step (State.lineRaw_same ..) ?_
                      refine .ite ?_ ?_
                      · exact .step (State.memRead_same ..) (.step (State.slotFetch_same ..) (.refl ..))
                      · exact .step (State.advanceTo_same ..) (.step (State.memRead_same ..) (.step (State.slotFetch_same ..)
                          (.refl ..)))
                    · refine .step (State.lineSend_same ..) ?_
                      refine .ite ?_ ?_
                      · exact .step (State.memRead_same ..) (.step (State.slotFetch_same ..) (.refl ..))
                      · exact .step (State.advanceTo_same ..) (.step (State.memRead_same ..) (.step (State.slotFetch_same ..)
                          (.refl ..)))
                  · refine .step (State.count_same ..) ?_
                    refine .step (State.slotNext_same ..) ?_
                    refine .step (State.slotWrite_same ..) ?_
                    refine .step (State.slotWrite_same ..) ?_
                    refine .step (State.laneCount_same ..) ?_
                    refine .step (State.modSlot_same ..) ?_
                    refine .ite ?_ ?_
                    · refine .step (State.lineRaw_same ..) ?_
                      refine .ite ?_ ?_
                      · exact .step (State.memRead_same ..) (.step (State.slotFetch_same ..) (.refl ..))
                      · exact .step (State.advanceTo_same ..) (.step (State.memRead_same ..) (.step (State.slotFetch_same ..)
                          (.refl ..)))
                    · refine .step (State.lineSend_same ..) ?_
                      refine .ite ?_ ?_
                      · exact .step (State.memRead_same ..) (.step (State.slotFetch_same ..) (.refl ..))
                      · exact .step (State.advanceTo_same ..) (.step (State.memRead_same ..) (.step (State.slotFetch_same ..)
                          (.refl ..)))

theorem execCompanionWordReceived_same (x0 x1 x2 x3 x4 s) :
    After [.free, .regs, .dict, .hvs, .aut, .evt, .dmc] s (execCompanionWordReceived x0 x1 x2 x3 x4 s) := by
  unfold execCompanionWordReceived
  refine .ite ?_ ?_
  · refine .next ?_
    refine .ite ?_ ?_
    · exact .step (State.engTapWord_same ..) (.refl ..)
    · exact .refl ..
  · refine .ite ?_ ?_
    · refine .next ?_
      refine .ite ?_ ?_
      · refine .step (State.msgBegin_same ..) ?_
        refine .ite ?_ ?_
        · refine .step (State.msgFail_same ..) ?_
          refine .step (State.modSlot_same ..) ?_
          refine .ite ?_ ?_
          · exact .step (State.engTapWord_same ..) (.refl ..)
          · exact .refl ..
        · refine .ite ?_ ?_
          · exact .step (State.engTapWord_same ..) (.refl ..)
          · exact .refl ..
      · refine .ite ?_ ?_
        · refine .step (State.msgFail_same ..) ?_
          refine .step (State.modSlot_same ..) ?_
          refine .ite ?_ ?_
          · exact .step (State.engTapWord_same ..) (.refl ..)
          · exact .refl ..
        · refine .ite ?_ ?_
          · exact .step (State.engTapWord_same ..) (.refl ..)
          · exact .refl ..
    · refine .next ?_
      refine .step (State.modSlot_same ..) ?_
      refine .ite ?_ ?_
      · refine .step (State.msgBegin_same ..) ?_
        refine .ite ?_ ?_
        · refine .step (State.msgFail_same ..) ?_
          refine .step (State.modSlot_same ..) ?_
          refine .ite ?_ ?_
          · exact .step (State.engTapWord_same ..) (.refl ..)
          · exact .refl ..
        · refine .ite ?_ ?_
          · exact .step (State.engTapWord_same ..) (.refl ..)
          · exact .refl ..
      · refine .ite ?_ ?_
        · refine .step (State.msgFail_same ..) ?_
          refine .step (State.modSlot_same ..) ?_
          refine .ite ?_ ?_
          · exact .step (State.engTapWord_same ..) (.refl ..)
          · exact .refl ..
        · refine .ite ?_ ?_
          · exact .step (State.engTapWord_same ..) (.refl ..)
          · exact .refl ..

/-! ### Lane -/

theorem State.lanesBand_same (s x1) : Same [.lanes] s (State.lanesBand s x1) := by
  unfold State.lanesBand
  refine .foldl _ (fun _ _ _ => ?_) _ ?_
  · refine .ite ?_ ?_
    · exact .step (State.modLane_same ..) ‹_›
    · assumption
  · exact .refl ..

theorem lneRead_same (x0 x1 s) : Same [] s (lneRead x0 x1 s).2 := by
  unfold lneRead
  refine .ite2 ?_ ?_
  · exact .refl ..
  · refine .ite2 ?_ ?_
    · exact .refl ..
    · refine .ite2 ?_ ?_
      · exact .refl ..
      · exact .refl ..

theorem State.laneFailUnits_same (s x1) :
    Same [.free, .regs, .dict, .sram, .mtx, .lanes, .convs, .hvs, .aut, .evt, .dmc] s (State.laneFailUnits s x1) := by
  unfold State.laneFailUnits
  refine .step (State.laneCount_same ..) ?_
  refine .step (State.modLane_same ..) ?_
  refine .step (State.hvsUnits_same ..) ?_
  refine .foldl _ (fun _ _ _ => ?_) _ ?_
  · exact .step (State.unitFailAll_same ..) ‹_›
  · exact .refl ..

theorem State.sfLost_same (s x1) :
    Same [.free, .regs, .dict, .sram, .mtx, .lanes, .convs, .hvs, .aut, .evt, .dmc] s (State.sfLost s x1) := by
  unfold State.sfLost
  refine .ite ?_ ?_
  · exact .step (State.modLane_same ..) (.refl ..)
  · exact .step (State.capLost_same ..) (.step (State.modLane_same ..) (.step (State.laneCount_same ..) (.step
      (State.laneFailUnits_same ..) (.step (State.laneEvent_same ..) (.step (State.setFld_same ..) (.refl ..))))))

theorem State.blockLost_same (s x1) :
    Same [.free, .regs, .dict, .sram, .mtx, .lanes, .convs, .hvs, .aut, .evt, .dmc] s (State.blockLost s x1) := by
  unfold State.blockLost
  refine .ite ?_ ?_
  · exact .refl ..
  · refine .ite ?_ ?_
    · exact .step (State.setFld_same ..) (.step (State.capLost_same ..) (.step (State.laneCount_same ..) (.step
        (State.laneFailUnits_same ..) (.step (State.sfLost_same ..) (.step (State.laneEvent_same ..) (.step (State.setFld_same ..)
        (.refl ..)))))))
    · exact .step (State.capLost_same ..) (.step (State.laneCount_same ..) (.step (State.laneFailUnits_same ..) (.step
        (State.sfLost_same ..) (.step (State.laneEvent_same ..) (.step (State.setFld_same ..) (.refl ..))))))

theorem State.laneStop_same (s x1 x2) :
    Same [.free, .regs, .dict, .sram, .mtx, .lanes, .convs, .hvs, .aut, .evt, .dmc] s (State.laneStop s x1 x2) := by
  unfold State.laneStop
  exact .step (State.withMtx_same ..) (.step (State.modLane_same ..) (.step (State.setFld_same ..) (.step (State.setFld_same ..)
    (.step (State.setFld_same ..) (.step (State.blockLost_same ..) (.step (State.setReg_same ..) (.refl ..)))))))

theorem State.txStart_same (s x1) : Same [.lanes] s (State.txStart s x1) := by
  unfold State.txStart
  exact .step (State.modLane_same ..) (.refl ..)

theorem State.laneRej_same (s x1) : Same [.regs, .evt] s (State.laneRej s x1) := by
  unfold State.laneRej
  exact .step (State.laneEvent_same ..) (.refl ..)

theorem State.laneCtrl_same (s x1 x2) :
    Same [.free, .regs, .dict, .sram, .mtx, .lanes, .convs, .hvs, .aut, .evt, .dmc] s (State.laneCtrl s x1 x2) := by
  unfold State.laneCtrl
  refine .ite ?_ ?_
  · exact .step (State.laneRej_same ..) (.step (State.setReg_same ..) (.refl ..))
  · refine .ite ?_ ?_
    · exact .step (State.txStart_same ..) (.step (State.setFld_same ..) (.refl ..))
    · refine .ite ?_ ?_
      · exact .step (State.laneStop_same ..) (.step (State.setFld_same ..) (.refl ..))
      · refine .ite ?_ ?_
        · exact .step (State.txStart_same ..) (.step (State.setFld_same ..) (.refl ..))
        · exact .step (State.setFld_same ..) (.refl ..)

theorem State.contWrite_same (s x1 x2 x3) : Same [.regs, .mtx, .lanes, .evt] s (State.contWrite s x1 x2 x3) := by
  unfold State.contWrite
  dsimp only
  split
  · refine .ite ?_ ?_
    · refine .ite ?_ ?_
      · exact .refl ..
      · refine .ite ?_ ?_
        · refine .ite ?_ ?_
          · exact .step (State.modTx_same ..) (.step (State.modLane_same ..) (.refl ..))
          · exact .step (State.modLane_same ..) (.refl ..)
        · exact .step (State.laneRej_same ..) (.refl ..)
    · refine .ite ?_ ?_
      · refine .ite ?_ ?_
        · exact .step (State.laneRej_same ..) (.refl ..)
        · exact .step (State.modLane_same ..) (.refl ..)
      · exact .step (State.modLane_same ..) (.refl ..)
  · refine .ite ?_ ?_
    · refine .ite ?_ ?_
      · exact .refl ..
      · exact .step (State.laneRej_same ..) (.refl ..)
    · exact .step (State.modLane_same ..) (.refl ..)
  · refine .ite ?_ ?_
    · refine .ite ?_ ?_
      · exact .refl ..
      · exact .step (State.laneRej_same ..) (.refl ..)
    · exact .step (State.modLane_same ..) (.refl ..)

theorem lneWrite_same (x0 x1 x2 x3 s) :
    Same [.free, .regs, .dict, .sram, .mtx, .lanes, .convs, .hvs, .aut, .evt, .dmc] s (lneWrite x0 x1 x2 x3 s) := by
  unfold lneWrite
  refine .ite ?_ ?_
  · exact .step (State.laneCtrl_same ..) (.refl ..)
  · refine .ite ?_ ?_
    · refine .step (State.modLane_same ..) ?_
      refine .step (State.setFld_same ..) ?_
      refine .ite ?_ ?_
      · exact .refl ..
      · exact .step (State.setRegN_same ..) (.refl ..)
    · refine .ite ?_ ?_
      · refine .ite ?_ ?_
        · exact .refl ..
        · exact .step (State.modLane_same ..) (.refl ..)
      · refine .ite ?_ ?_
        · exact .step (State.contWrite_same ..) (.step (State.setReg_same ..) (.refl ..))
        · refine .ite ?_ ?_
          · exact .step (State.contWrite_same ..) (.step (State.setReg_same ..) (.refl ..))
          · refine .ite ?_ ?_
            · exact .step (State.contWrite_same ..) (.step (State.setReg_same ..) (.refl ..))
            · exact .refl ..

theorem execPrbsCheckerLock_same (x0 s) : After [.regs] s (execPrbsCheckerLock x0 s) := by
  unfold execPrbsCheckerLock
  refine .ite ?_ ?_
  · refine .next ?_
    exact .step (State.setFld_same ..) (.refl ..)
  · refine .next ?_
    exact .refl ..

theorem execBadMarker_same (x0 s) :
    After [.free, .regs, .dict, .sram, .mtx, .lanes, .convs, .hvs, .aut, .evt, .dmc] s (execBadMarker x0 s) := by
  unfold execBadMarker
  refine .ite ?_ ?_
  · refine .next ?_
    exact .refl ..
  · refine .next ?_
    refine .ite ?_ ?_
    · exact .step (State.sfLost_same ..) (.step (State.modLane_same ..) (.step (State.laneCount_same ..) (.refl ..)))
    · exact .step (State.modLane_same ..) (.step (State.laneCount_same ..) (.refl ..))

theorem execEqualisationStep_same (x0 s) :
    After [.now, .regs, .dict, .cal, .hld, .mtx, .lanes, .convs, .evt] s (execEqualisationStep x0 s) := by
  unfold execEqualisationStep
  split
  · refine .next ?_
    exact .step (State.modLane_same ..) (.step (State.setFld_same ..) (.step (State.setFld_same ..) (.step (State.setFld_same ..)
      (.step (State.advanceTo_same ..) (.refl ..)))))
  · refine .next ?_
    exact .refl ..

theorem execMarkerCandidate_same (x0 x1 x2 x3 s) : After [.lanes] s (execMarkerCandidate x0 x1 x2 x3 s) := by
  unfold execMarkerCandidate
  refine .ite ?_ ?_
  · refine .next ?_
    exact .refl ..
  · refine .next ?_
    exact .step (State.modLane_same ..) (.refl ..)

theorem execSuperframeLock_same (x0 s) : After [.regs, .lanes, .evt] s (execSuperframeLock x0 s) := by
  unfold execSuperframeLock
  split
  · refine .next ?_
    exact .step (State.modLane_same ..) (.step (State.laneEvent_same ..) (.step (State.setFld_same ..) (.refl ..)))
  · refine .next ?_
    exact .refl ..

theorem execBlockLock_same (x0 s) : After [.regs, .lanes, .evt] s (execBlockLock x0 s) := by
  unfold execBlockLock
  refine .ite ?_ ?_
  · refine .next ?_
    exact .refl ..
  · refine .next ?_
    exact .step (State.modLane_same ..) (.step (State.laneEvent_same ..) (.step (State.setFld_same ..) (.step (State.setFld_same ..)
      (.refl ..))))

theorem State.txAdvance_same (s x1 x2) : Same [.regs, .dict, .mtx, .evt] s (State.txAdvance s x1 x2) := by
  unfold State.txAdvance
  refine .ite ?_ ?_
  · refine .step (State.modTx_same ..) ?_
    refine .ite ?_ ?_
    · exact .step (State.laneCount_same ..) (.refl ..)
    · exact .refl ..
  · refine .step (State.modTx_same ..) ?_
    refine .ite ?_ ?_
    · exact .step (State.laneCount_same ..) (.refl ..)
    · exact .refl ..

theorem execTransmitDataBlock_same (x0 x1 s) : After [.regs, .dict, .mtx, .lanes, .evt] s (execTransmitDataBlock x0 x1 s) := by
  unfold execTransmitDataBlock
  refine .ite ?_ ?_
  · refine .next ?_
    exact .refl ..
  · refine .ite ?_ ?_
    · refine .next ?_
      refine .step (State.txAdvance_same ..) ?_
      refine .step (State.modLane_same ..) ?_
      refine .step (State.modTx_same ..) ?_
      refine .ite ?_ ?_
      · exact .step (State.modTx_same ..) (.refl ..)
      · exact .refl ..
    · refine .ite ?_ ?_
      · refine .next ?_
        refine .step (State.txAdvance_same ..) ?_
        refine .step (State.modLane_same ..) ?_
        refine .ite ?_ ?_
        · exact .step (State.modTx_same ..) (.refl ..)
        · exact .refl ..
      · refine .ite ?_ ?_
        · refine .next ?_
          refine .step (State.txAdvance_same ..) ?_
          refine .step (State.modLane_same ..) ?_
          refine .ite ?_ ?_
          · exact .step (State.modTx_same ..) (.refl ..)
          · exact .refl ..
        · split
          · refine .next ?_
            refine .step (State.txAdvance_same ..) ?_
            refine .step (State.modLane_same ..) ?_
            refine .ite ?_ ?_
            · refine .ite ?_ ?_
              · exact .step (State.modTx_same ..) (.refl ..)
              · exact .refl ..
            · refine .step (State.countN_same ..) ?_
              refine .ite ?_ ?_
              · exact .step (State.modTx_same ..) (.refl ..)
              · exact .refl ..
          · refine .next ?_
            refine .step (State.txAdvance_same ..) ?_
            refine .step (State.modLane_same ..) ?_
            refine .step (State.laneEvent_same ..) ?_
            refine .step (State.laneCount_same ..) ?_
            refine .ite ?_ ?_
            · exact .step (State.modTx_same ..) (.refl ..)
            · exact .refl ..

theorem execRoePacketTransmit_same (x0 x1 s) :
    After [.regs, .dict, .mtx, .lanes, .evt, .nq] s (execRoePacketTransmit x0 x1 s) := by
  unfold execRoePacketTransmit
  refine .ite ?_ ?_
  · refine .next ?_
    exact .refl ..
  · refine .next ?_
    exact .step (State.laneCount_same ..) (.step (State.lineSend_same ..) (.step (State.modTx_same ..) (.step (State.packOut_same ..)
      (.refl ..))))

theorem execBlockLockLoss_same (x0 x1 s) :
    After [.free, .regs, .dict, .sram, .mtx, .lanes, .convs, .hvs, .aut, .evt, .dmc] s (execBlockLockLoss x0 x1 s) := by
  unfold execBlockLockLoss
  refine .ite ?_ ?_
  · refine .next ?_
    exact .refl ..
  · refine .next ?_
    refine .ite ?_ ?_
    · exact .step (State.laneEvent_same ..) (.step (State.setFld_same ..) (.step (State.blockLost_same ..) (.refl ..)))
    · exact .step (State.blockLost_same ..) (.refl ..)

theorem execRephaseDone_same (x0 s) :
    After [.now, .free, .regs, .dict, .cal, .hld, .mtx, .lanes, .convs, .evt] s (execRephaseDone x0 s) := by
  unfold execRephaseDone
  refine .ite ?_ ?_
  · refine .next ?_
    exact .refl ..
  · refine .next ?_
    exact .step (State.modLane_same ..) (.step (State.setRegN_same ..) (.step (State.drawIn_same ..) (.step (State.advanceTo_same ..)
      (.refl ..))))

/-! ### Cipher -/

theorem cipRead_same (x0 x1 s) : Same [] s (cipRead x0 x1 s).2 := by
  unfold cipRead
  split
  · exact .refl ..
  · exact .refl ..

theorem State.isoFault_same (s x1 x2) : Same [.regs, .tmp, .evt] s (State.isoFault s x1 x2) := by
  unfold State.isoFault
  refine .step (State.report_same ..) ?_
  refine .step (State.raise_same ..) ?_
  refine .ite ?_ ?_
  · exact .step (State.setRegN_same ..) (.refl ..)
  · exact .refl ..

theorem State.dirStop_same (s x1 x2) :
    Same [.free, .regs, .dict, .sram, .mtx, .lanes, .convs, .hvs, .aut, .evt, .dmc] s (State.dirStop s x1 x2) := by
  unfold State.dirStop
  refine .ite ?_ ?_
  · refine .ite ?_ ?_
    · exact .step (State.laneFailUnits_same ..) (.refl ..)
    · exact .step (State.modLane_same ..) (.refl ..)
  · refine .ite ?_ ?_
    · refine .foldl _ (fun _ _ _ => ?_) _ ?_
      · refine .ite ?_ ?_
        · exact .step (State.modTx_same ..) ‹_›
        · assumption
      · exact .refl ..
    · exact .step (State.modLane_same ..) (.refl ..)

theorem State.saStop_same (s x1) :
    Same [.free, .regs, .dict, .sram, .mtx, .lanes, .convs, .hvs, .aut, .evt, .dmc] s (State.saStop s x1) := by
  unfold State.saStop
  refine .ite ?_ ?_
  · exact .refl ..
  · dsimp only
    split
    · exact .step (State.dirStop_same ..) (.step (State.setFld_same ..) (.refl ..))
    · refine .foldl _ (fun _ _ _ => ?_) _ ?_
      · exact .step (State.modLane_same ..) ‹_›
      · exact .step (State.setFld_same ..) (.refl ..)

theorem State.wipePages_same (s x1) :
    Same [.free, .regs, .dict, .sram, .mtx, .lanes, .convs, .hvs, .aut, .cip, .evt, .dmc] s (State.wipePages s x1) := by
  unfold State.wipePages
  refine .ite ?_ ?_
  · refine .step (State.raise_same ..) ?_
    refine .step (State.withCip_same ..) ?_
    refine .foldl _ (fun _ _ _ => ?_) _ ?_
    · refine .foldl _ (fun _ _ _ => ?_) _ ?_
      · exact .step (State.saStop_same ..) ‹_›
      · assumption
    · exact .refl ..
  · refine .step (State.withCip_same ..) ?_
    refine .foldl _ (fun _ _ _ => ?_) _ ?_
    · refine .foldl _ (fun _ _ _ => ?_) _ ?_
      · exact .step (State.saStop_same ..) ‹_›
      · assumption
    · exact .refl ..

theorem State.kpEnd_same (s x1) : Same [.regs, .evt] s (State.kpEnd s x1) := by
  unfold State.kpEnd
  refine .ite ?_ ?_
  · refine .step (State.setRegN_same ..) ?_
    refine .foldl _ (fun _ _ _ => ?_) _ ?_
    · exact .step (State.setRegN_same ..) ‹_›
    · exact .refl ..
  · refine .step (State.raise_same ..) ?_
    refine .step (State.setRegN_same ..) ?_
    refine .foldl _ (fun _ _ _ => ?_) _ ?_
    · exact .step (State.setRegN_same ..) ‹_›
    · exact .refl ..

theorem State.kpCommand_same (s x1 x2 x3) :
    Same [.free, .regs, .dict, .sram, .tmp, .mtx, .lanes, .convs, .hvs, .aut, .cip, .evt, .dmc] s (State.kpCommand s x1 x2 x3) := by
  unfold State.kpCommand
  dsimp only
  split
  · refine .ite ?_ ?_
    · exact .step (State.kpEnd_same ..) (.refl ..)
    · refine .ite ?_ ?_
      · exact .step (State.kpEnd_same ..) (.refl ..)
      · exact .step (State.kpEnd_same ..) (.step (State.withCip_same ..) (.refl ..))
  · refine .ite ?_ ?_
    · exact .step (State.kpEnd_same ..) (.step (State.isoFault_same ..) (.refl ..))
    · exact .step (State.kpEnd_same ..) (.step (State.withCip_same ..) (.refl ..))
  · refine .ite ?_ ?_
    · exact .step (State.kpEnd_same ..) (.step (State.isoFault_same ..) (.refl ..))
    · refine .ite ?_ ?_
      · exact .step (State.kpEnd_same ..) (.refl ..)
      · exact .step (State.kpEnd_same ..) (.step (State.withCip_same ..) (.refl ..))
  · refine .ite ?_ ?_
    · exact .step (State.kpEnd_same ..) (.step (State.wipePages_same ..) (.refl ..))
    · refine .step (State.kpEnd_same ..) ?_
      refine .ite ?_ ?_
      · exact .refl ..
      · exact .step (State.isoFault_same ..) (.refl ..)
  · exact .step (State.kpEnd_same ..) (.refl ..)

theorem State.pipeStop_same (s x1) :
    Same [.free, .regs, .dict, .sram, .mtx, .lanes, .convs, .hvs, .aut, .evt, .dmc] s (State.pipeStop s x1) := by
  unfold State.pipeStop
  refine .foldl _ (fun _ _ _ => ?_) _ ?_
  · refine .ite ?_ ?_
    · exact .step (State.dirStop_same ..) ‹_›
    · assumption
  · exact .refl ..

theorem State.pipeDown_same (s x1) :
    Same [.free, .regs, .dict, .sram, .mtx, .lanes, .convs, .hvs, .aut, .evt, .dmc] s (State.pipeDown s x1) := by
  unfold State.pipeDown
  refine .ite ?_ ?_
  · exact .step (State.setFld_same ..) (.step (State.pipeStop_same ..) (.refl ..))
  · exact .refl ..

theorem State.protSet_same (s x1 x2 x3) : Same [.regs] s (State.protSet s x1 x2 x3) := by
  unfold State.protSet
  refine .ite ?_ ?_
  · exact .step (State.setFld_same ..) (.step (State.setFld_same ..) (.refl ..))
  · exact .refl ..

theorem State.laneProtWrite_same (s x1 x2) :
    Same [.free, .regs, .dict, .sram, .mtx, .lanes, .convs, .hvs, .aut, .evt, .dmc] s (State.laneProtWrite s x1 x2) := by
  unfold State.laneProtWrite
  refine .ite ?_ ?_
  · refine .step (State.dirStop_same ..) ?_
    refine .ite ?_ ?_
    · refine .step (State.dirStop_same ..) ?_
      refine .ite ?_ ?_
      · exact .step (State.setFld_same ..) (.step (State.setFld_same ..) (.refl ..))
      · exact .refl ..
    · refine .ite ?_ ?_
      · refine .step (State.protSet_same ..) ?_
        refine .ite ?_ ?_
        · exact .step (State.setFld_same ..) (.step (State.setFld_same ..) (.refl ..))
        · exact .refl ..
      · refine .ite ?_ ?_
        · exact .step (State.setFld_same ..) (.step (State.setFld_same ..) (.refl ..))
        · exact .refl ..
  · refine .ite ?_ ?_
    · refine .step (State.protSet_same ..) ?_
      refine .ite ?_ ?_
      · refine .step (State.dirStop_same ..) ?_
        refine .ite ?_ ?_
        · exact .step (State.setFld_same ..) (.step (State.setFld_same ..) (.refl ..))
        · exact .refl ..
      · refine .ite ?_ ?_
        · refine .step (State.protSet_same ..) ?_
          refine .ite ?_ ?_
          · exact .step (State.setFld_same ..) (.step (State.setFld_same ..) (.refl ..))
          · exact .refl ..
        · refine .ite ?_ ?_
          · exact .step (State.setFld_same ..) (.step (State.setFld_same ..) (.refl ..))
          · exact .refl ..
    · refine .ite ?_ ?_
      · refine .step (State.dirStop_same ..) ?_
        refine .ite ?_ ?_
        · exact .step (State.setFld_same ..) (.step (State.setFld_same ..) (.refl ..))
        · exact .refl ..
      · refine .ite ?_ ?_
        · refine .step (State.protSet_same ..) ?_
          refine .ite ?_ ?_
          · exact .step (State.setFld_same ..) (.step (State.setFld_same ..) (.refl ..))
          · exact .refl ..
        · refine .ite ?_ ?_
          · exact .step (State.setFld_same ..) (.step (State.setFld_same ..) (.refl ..))
          · exact .refl ..

theorem State.saReject_same (s x1 x2) : Same [.regs, .answer] s (State.saReject s x1 x2) := by
  unfold State.saReject
  exact .step (State.errResp_same ..) (.step (State.setFld_same ..) (.step (State.setReg_same ..) (.refl ..)))

theorem State.saWrite_same (s x1 x2 x3) :
    Same [.free, .regs, .dict, .answer, .sram, .tmp, .mtx, .lanes, .convs, .hvs, .aut, .evt, .dmc] s (State.saWrite s x1 x2 x3) := by
  unfold State.saWrite
  refine .ite ?_ ?_
  · refine .ite ?_ ?_
    · exact .step (State.saReject_same ..) (.refl ..)
    · exact .refl ..
  · refine .ite ?_ ?_
    · refine .ite ?_ ?_
      · exact .step (State.saStop_same ..) (.step (State.setReg_same ..) (.refl ..))
      · exact .step (State.saReject_same ..) (.refl ..)
    · refine .ite ?_ ?_
      · exact .refl ..
      · refine .ite ?_ ?_
        · refine .step (State.saReject_same ..) ?_
          refine .ite ?_ ?_
          · exact .step (State.isoFault_same ..) (.refl ..)
          · exact .refl ..
        · refine .step (State.setFld_same ..) ?_
          refine .ite ?_ ?_
          · exact .step (State.isoFault_same ..) (.refl ..)
          · exact .refl ..

theorem cipWrite_same (x0 x1 x2 x3 s) :
    Same [.free, .regs, .dict, .answer, .sram, .tmp, .mtx, .lanes, .convs, .hvs, .aut, .cip, .evt, .dmc] s (cipWrite x0 x1 x2 x3 s) := by
  unfold cipWrite
  refine .ite ?_ ?_
  · refine .ite ?_ ?_
    · exact .step (State.withCip_same ..) (.refl ..)
    · refine .ite ?_ ?_
      · refine .step (State.withCip_same ..) ?_
        refine .foldl _ (fun _ _ _ => ?_) _ ?_
        · exact .step (State.pipeDown_same ..) ‹_›
        · exact .refl ..
      · exact .refl ..
  · refine .ite ?_ ?_
    · exact .step (State.saWrite_same ..) (.refl ..)
    · refine .ite ?_ ?_
      · exact .step (State.laneProtWrite_same ..) (.refl ..)
      · exact .refl ..

theorem State.raiseSlow_same (s x1) : Same [.regs, .cip, .evt] s (State.raiseSlow s x1) := by
  unfold State.raiseSlow
  split
  · refine .ite ?_ ?_
    · exact .refl ..
    · exact .step (State.raise_same ..) (.step (State.withCip_same ..) (.refl ..))
  · exact .step (State.raise_same ..) (.step (State.withCip_same ..) (.refl ..))

theorem State.varlasVerify_same (s x1 x2 x3 x4) : Same [.regs, .dict, .cip, .evt] s (State.varlasVerify s x1 x2 x3 x4).2 := by
  unfold State.varlasVerify
  refine .ite2 ?_ ?_
  · exact .refl ..
  · refine .ite2 ?_ ?_
    · exact .step (State.count_same ..) (.refl ..)
    · refine .ite2 ?_ ?_
      · exact .step (State.countFld_same ..) (.refl ..)
      · refine .ite2 ?_ ?_
        · exact .step (State.setSaPn_same ..) (.step (State.count_same ..) (.refl ..))
        · exact .step (State.raiseSlow_same ..) (.step (State.count_same ..) (.refl ..))

theorem execVarlasSuperframeEncrypt_same (x0 x1 x2 x3 x4 s) :
    After [.regs, .dict, .lanes, .evt, .nq] s (execVarlasSuperframeEncrypt x0 x1 x2 x3 x4 s) := by
  unfold execVarlasSuperframeEncrypt
  refine .ite ?_ ?_
  · refine .next ?_
    exact .refl ..
  · refine .ite ?_ ?_
    · refine .next ?_
      exact .step (State.lineRaw_same ..) (.step (State.countFld_same ..) (.refl ..))
    · refine .ite ?_ ?_
      · refine .next ?_
        exact .step (State.lineRaw_same ..) (.step (State.raise_same ..) (.step (State.count_same ..) (.step (State.countFld_same ..)
          (.refl ..))))
      · refine .next ?_
        exact .step (State.lineRaw_same ..) (.step (State.setSaPn_same ..) (.refl ..))

theorem State.pipesUp_same (s x1) : Same [.cip] s (State.pipesUp s x1) := by
  unfold State.pipesUp
  refine .ite ?_ ?_
  · exact .step (State.withCip_same ..) (.refl ..)
  · exact .refl ..

theorem State.pipeStart_same (s x1) : Same [.regs] s (State.pipeStart s x1) := by
  unfold State.pipeStart
  exact .step (State.setFld_same ..) (.refl ..)

theorem execMaskReseed_same (x0 s) :
    After [.free, .regs, .dict, .sram, .trn, .mtx, .lanes, .convs, .hvs, .aut, .cip, .evt, .dmc] s (execMaskReseed x0 s) := by
  unfold execMaskReseed
  refine .ite ?_ ?_
  · refine .next ?_
    exact .refl ..
  · dsimp only
    split
    · refine .ite ?_ ?_
      · refine .next ?_
        exact .step (State.withCip_same ..) (.step (State.withCip_same ..) (.step (State.withTrn_same ..) (.refl ..)))
      · refine .ite ?_ ?_
        · refine .next ?_
          exact .step (State.withCip_same ..) (.step (State.withCip_same ..) (.step (State.withTrn_same ..) (.refl ..)))
        · refine .next ?_
          exact .step (State.pipeStart_same ..) (.step (State.withCip_same ..) (.step (State.withCip_same ..) (.step
            (State.withTrn_same ..) (.refl ..))))
    · refine .ite ?_ ?_
      · refine .next ?_
        exact .step (State.raise_same ..) (.step (State.setFld_same ..) (.step (State.pipeDown_same ..) (.step
          (State.withCip_same ..) (.refl ..))))
      · refine .next ?_
        exact .step (State.withCip_same ..) (.refl ..)

theorem execProtectedFrameReceive_same (x0 s) :
    After [.free, .regs, .dict, .mtx, .lanes, .cls, .aut, .cip, .evt] s (execProtectedFrameReceive x0 s) := by
  unfold execProtectedFrameReceive
  split
  · refine .ite ?_ ?_
    · refine .next ?_
      exact .refl ..
    · refine .ite ?_ ?_
      · refine .next ?_
        exact .step (State.setRx_same ..) (.step (State.count_same ..) (.refl ..))
      · refine .ite ?_ ?_
        · refine .next ?_
          exact .step (State.setRx_same ..) (.step (State.countFld_same ..) (.refl ..))
        · dsimp only
          split
          · refine .next ?_
            exact .step (State.setRx_same ..) (.step (State.countFld_same ..) (.refl ..))
          · refine .ite ?_ ?_
            · refine .next ?_
              exact .step (State.setRx_same ..) (.step (State.countFld_same ..) (.refl ..))
            · refine .ite ?_ ?_
              · refine .next ?_
                refine .step (State.setRx_same ..) ?_
                refine .ite ?_ ?_
                · exact .step (State.raiseSlow_same ..) (.step (State.count_same ..) (.refl ..))
                · exact .step (State.raiseSlow_same ..) (.step (State.count_same ..) (.refl ..))
              · refine .next ?_
                refine .step (State.classify_same ..) ?_
                refine .ite ?_ ?_
                · exact .step (State.raiseSlow_same ..) (.step (State.count_same ..) (.refl ..))
                · refine .ite ?_ ?_
                  · exact .step (State.setSaPn_same ..) (.step (State.count_same ..) (.refl ..))
                  · exact .step (State.count_same ..) (.refl ..)
  · refine .next ?_
    exact .refl ..

theorem execProtectedFrameTransmit_same (x0 x1 x2 s) :
    After [.regs, .dict, .lanes, .evt, .nq] s (execProtectedFrameTransmit x0 x1 x2 s) := by
  unfold execProtectedFrameTransmit
  refine .ite ?_ ?_
  · refine .next ?_
    exact .refl ..
  · dsimp only
    split
    · refine .next ?_
      exact .step (State.protectTx_same ..) (.refl ..)
    · refine .next ?_
      refine .ite ?_ ?_
      · exact .step (State.lineRaw_same ..) (.step (State.protectTx_same ..) (.refl ..))
      · exact .step (State.modLane_same ..) (.step (State.lineRaw_same ..) (.step (State.protectTx_same ..) (.refl ..)))

theorem execCipherSelfTest_same (x0 x1 s) : After [.regs, .cip, .evt] s (execCipherSelfTest x0 x1 s) := by
  unfold execCipherSelfTest
  refine .ite ?_ ?_
  · refine .next ?_
    exact .refl ..
  · refine .next ?_
    refine .ite ?_ ?_
    · exact .step (State.pipeStart_same ..) (.step (State.withCip_same ..) (.refl ..))
    · exact .step (State.raise_same ..) (.step (State.setFld_same ..) (.step (State.withCip_same ..) (.refl ..)))

end Sys2Proof.Machine
end

