-- ==== Sys2Proof/Laws/SameGuard.lean ====
section
/-! SUPPORT. Which parts of the state the operations leave as they were: domains, entropy, tamper, holdover and housekeeping. -/

-- Theorems one after another: a thread for each would take more memory than there is.
set_option Elab.async false

namespace Sys2Proof.Machine

/-! ### Domain -/

theorem State.restoreNow_same (s) : Same [.nq] s (State.restoreNow s) := by
  unfold State.restoreNow
  refine .ite ?_ ?_
  · exact .step (State.withNq_same ..) (.refl ..)
  · exact .refl ..

theorem State.loadTrims_same (s x1 x2) : Same [.regs] s (State.loadTrims s x1 x2) := by
  unfold State.loadTrims
  refine .foldl _ (fun _ _ _ => ?_) _ ?_
  · refine .ite ?_ ?_
    · exact .step (State.setReg_same ..) ‹_›
    · assumption
  · exact .refl ..

theorem State.loadDacRange_same (s) : Same [.regs] s (State.loadDacRange s) := by
  unfold State.loadDacRange
  exact .step (State.setFld_same ..) (.step (State.setFld_same ..) (.refl ..))

theorem State.resetBlock_same (s x1) :
    Same [.regs, .snaps, .dict, .staged, .pairs, .cal, .hld, .mtx, .lanes, .convs, .hvs, .cls, .aut, .cip, .evt, .trc, .ic, .hk, .dmc, .idc, .sdh] s (State.resetBlock s x1) := by
  unfold State.resetBlock
  dsimp only
  split
  · exact .step (State.setReg_same ..) (.step (State.setReg_same ..) (.step (State.setReg_same ..) (.step (State.loadTrims_same ..)
      (.step (State.clearRegs_same ..) (.refl ..)))))
  · exact .step (State.withIc_same ..) (.step (State.loadTrims_same ..) (.step (State.clearRegs_same ..) (.refl ..)))
  · exact .step (State.withEvt_same ..) (.step (State.loadTrims_same ..) (.step (State.clearRegs_same ..) (.refl ..)))
  · exact .step (State.withTrc_same ..) (.step (State.loadTrims_same ..) (.step (State.clearRegs_same ..) (.refl ..)))
  · exact .step (State.withHk_same ..) (.step (State.loadTrims_same ..) (.step (State.clearRegs_same ..) (.refl ..)))
  · exact .step (State.withIdc_same ..) (.step (State.loadTrims_same ..) (.step (State.clearRegs_same ..) (.refl ..)))
  · exact .step (State.withSdh_same ..) (.step (State.loadTrims_same ..) (.step (State.clearRegs_same ..) (.refl ..)))
  · exact .step (State.withDmc_same ..) (.step (State.loadTrims_same ..) (.step (State.clearRegs_same ..) (.refl ..)))
  · exact .step (State.withIc_same ..) (.step (State.loadTrims_same ..) (.step (State.clearRegs_same ..) (.refl ..)))
  · exact .step (State.withCal_same ..) (.step (State.loadTrims_same ..) (.step (State.clearRegs_same ..) (.refl ..)))
  · exact .step (State.loadDacRange_same ..) (.step (State.withHld_same ..) (.step (State.loadTrims_same ..) (.step
      (State.clearRegs_same ..) (.refl ..))))
  · exact .step (State.withMtx_same ..) (.step (State.loadTrims_same ..) (.step (State.clearRegs_same ..) (.refl ..)))
  · exact .step (State.setRegN_same ..) (.step (State.withLanes_same ..) (.step (State.loadTrims_same ..) (.step
      (State.clearRegs_same ..) (.refl ..))))
  · exact .step (State.withConvs_same ..) (.step (State.loadTrims_same ..) (.step (State.clearRegs_same ..) (.refl ..)))
  · exact .step (State.withHvs_same ..) (.step (State.loadTrims_same ..) (.step (State.clearRegs_same ..) (.refl ..)))
  · exact .step (State.withCls_same ..) (.step (State.loadTrims_same ..) (.step (State.clearRegs_same ..) (.refl ..)))
  · exact .step (State.withAut_same ..) (.step (State.loadTrims_same ..) (.step (State.clearRegs_same ..) (.refl ..)))
  · exact .step (State.withCip_same ..) (.step (State.loadTrims_same ..) (.step (State.clearRegs_same ..) (.refl ..)))
  · exact .step (State.withCip_same ..) (.step (State.loadTrims_same ..) (.step (State.clearRegs_same ..) (.refl ..)))
  · exact .step (State.loadTrims_same ..) (.step (State.clearRegs_same ..) (.refl ..))

theorem State.resetCore_same (s x1) : Same [.threads, .cores] s (State.resetCore s x1) := by
  unfold State.resetCore
  exact .step (State.withCores_same ..) (.step (State.withThreads_same ..) (.refl ..))

theorem State.resetDomain_same (s x1) :
    Same [.regs, .snaps, .dict, .staged, .pairs, .cal, .hld, .mtx, .lanes, .convs, .hvs, .cls, .aut, .cip, .threads, .cores, .evt, .trc, .ic, .hk, .dmc, .idc, .sdh] s (State.resetDomain s x1) := by
  unfold State.resetDomain
  dsimp only
  split
  · refine .step (State.withHld_same ..) ?_
    refine .foldl _ (fun _ _ _ => ?_) _ ?_
    · exact .step (State.resetBlock_same ..) ‹_›
    · exact .refl ..
  · refine .step (State.resetCore_same ..) ?_
    refine .foldl _ (fun _ _ _ => ?_) _ ?_
    · exact .step (State.resetBlock_same ..) ‹_›
    · exact .refl ..
  · refine .step (State.resetCore_same ..) ?_
    refine .foldl _ (fun _ _ _ => ?_) _ ?_
    · exact .step (State.resetBlock_same ..) ‹_›
    · exact .refl ..
  · refine .step (State.withIc_same ..) ?_
    refine .step (State.withEvt_same ..) ?_
    refine .foldl _ (fun _ _ _ => ?_) _ ?_
    · exact .step (State.resetBlock_same ..) ‹_›
    · exact .refl ..
  · refine .step (State.withCip_same ..) ?_
    refine .foldl _ (fun _ _ _ => ?_) _ ?_
    · exact .step (State.resetBlock_same ..) ‹_›
    · exact .refl ..
  · refine .step (State.withCip_same ..) ?_
    refine .step (State.setFld_same ..) ?_
    refine .foldl _ (fun _ _ _ => ?_) _ ?_
    · exact .step (State.resetBlock_same ..) ‹_›
    · exact .refl ..
  · refine .foldl _ (fun _ _ _ => ?_) _ ?_
    · exact .step (State.resetBlock_same ..) ‹_›
    · exact .refl ..

theorem State.widerCause_same (s x1) : Same [.regs, .rst] s (State.widerCause s x1) := by
  unfold State.widerCause
  dsimp only
  split
  · refine .ite ?_ ?_
    · exact .step (State.withRst_same ..) (.step (State.setRegN_same ..) (.refl ..))
    · exact .refl ..
  · exact .refl ..

theorem State.recordCause_same (s x1) : Same [.regs, .tmp] s (State.recordCause s x1) := by
  unfold State.recordCause
  exact .step (State.setFld_same ..) (.step (State.setFld_same ..) (.step (State.report_same ..) (.step (State.setRegN_same ..)
    (.step (State.setRegN_same ..) (.step (State.setRegN_same ..) (.refl ..))))))

theorem State.systemReset_same (s x1 x2) :
    Same [.regs, .snaps, .dict, .staged, .pairs, .pwr, .rst, .tmp, .cal, .hld, .mtx, .lanes, .convs, .hvs, .cls, .aut, .cip, .threads, .cores, .evt, .trc, .ic, .hk, .dmc, .idc, .sdh, .nq] s (State.systemReset s x1 x2) := by
  unfold State.systemReset
  refine .ite ?_ ?_
  · exact .refl ..
  · refine .ite ?_ ?_
    · refine .step (State.withRst_same ..) ?_
      refine .foldl _ (fun _ _ _ => ?_) _ ?_
      · exact .step (State.resetDomain_same ..) ‹_›
      · exact .step (State.widerCause_same ..) (.step (State.setRegN_same ..) (.refl ..))
    · refine .step (State.withPwr_same ..) ?_
      refine .step (State.withRst_same ..) ?_
      refine .foldl _ (fun _ _ _ => ?_) _ ?_
      · exact .step (State.resetDomain_same ..) ‹_›
      · exact .step (State.restoreNow_same ..) (.step (State.recordCause_same ..) (.refl ..))

theorem State.loseDomain_same (s x1) :
    Same [.regs, .snaps, .dict, .staged, .pairs, .sram, .cal, .hld, .mtx, .lanes, .convs, .hvs, .cls, .aut, .cip, .threads, .cores, .evt, .trc, .ic, .hk, .dmc, .idc, .sdh] s (State.loseDomain s x1) := by
  unfold State.loseDomain
  dsimp only
  split
  · exact .step (State.withSram_same ..) (.step (State.resetDomain_same ..) (.refl ..))
  · exact .step (State.withSram_same ..) (.step (State.resetDomain_same ..) (.refl ..))
  · exact .step (State.withTrc_same ..) (.step (State.resetDomain_same ..) (.refl ..))
  · exact .step (State.resetDomain_same ..) (.refl ..)

/-! ### Entropy -/

theorem State.drbgCall_same (s) : ∀ r, State.drbgCall s = some r → Same [.trn] s r := by
  intro r h
  unfold drbgCall at h
  split at h
  · cases h
  · dsimp only at h
    split at h <;> cases h <;> exact .step (withTrn_same ..) (.refl ..)

theorem State.drbgTake_same (x0 x1 s) : ∀ r, State.drbgTake x0 x1 s = some r → Same [.trn] s r.2 := by
  induction x1 generalizing s with
  | zero =>
    intro r h
    unfold drbgTake at h
    split at h <;> cases h
    exact .step (withTrn_same ..) (.refl ..)
  | succ n ih =>
    intro r h
    unfold drbgTake at h
    split at h
    · cases h
    · split at h
      · cases h
        exact .step (withTrn_same ..) (.refl ..)
      · split at h
        · cases h
        · exact .step (ih _ _ h) (drbgCall_same _ _ ‹_›)

theorem State.randWords_same (s x1) : ∀ r, State.randWords s x1 = some r → Same [.trn] s r.2 :=
  fun _ h => drbgTake_same _ _ _ _ h

theorem State.trnRandRead_same (s) : Same [.regs, .dict, .trn] s (State.trnRandRead s).2 := by
  unfold State.trnRandRead
  split
  · exact .step (State.randWords_same _ _ _ ‹_›) (.refl ..)
  · exact .step (State.count_same ..) (.refl ..)

theorem State.trnRawRead_same (s) : Same [.free, .trn] s (State.trnRawRead s).2 := by
  unfold State.trnRawRead
  dsimp only
  split
  · refine .ite2 ?_ ?_
    · exact .step (State.withTrn_same ..) (.refl ..)
    · exact .step (State.withTrn_same ..) (.refl ..)
  · refine .ite2 ?_ ?_
    · exact .step (State.draw_same ..) (.refl ..)
    · exact .refl ..

theorem State.trnStartup_same (s) : Same [.regs, .trn] s (State.trnStartup s) := by
  unfold State.trnStartup
  exact .step (State.setRegN_same ..) (.step (State.setRegN_same ..) (.step (State.setFld_same ..) (.step (State.setFld_same ..)
    (.step (State.setFld_same ..) (.step (State.withTrn_same ..) (.refl ..))))))

theorem trnWrite_same (x0 x1 x2 x3 s) : Same [.regs, .trn] s (trnWrite x0 x1 x2 x3 s) := by
  unfold trnWrite
  refine .ite ?_ ?_
  · refine .ite ?_ ?_
    · refine .ite ?_ ?_
      · refine .ite ?_ ?_
        · refine .step (State.trnStartup_same ..) ?_
          refine .step (State.setFld_same ..) ?_
          refine .step (State.withTrn_same ..) ?_
          refine .step (State.setFld_same ..) ?_
          refine .ite ?_ ?_
          · exact .refl ..
          · exact .step (State.setFld_same ..) (.refl ..)
        · refine .step (State.setFld_same ..) ?_
          refine .ite ?_ ?_
          · exact .refl ..
          · exact .step (State.setFld_same ..) (.refl ..)
      · refine .step (State.trnStartup_same ..) ?_
        refine .step (State.setFld_same ..) ?_
        refine .ite ?_ ?_
        · exact .refl ..
        · exact .step (State.setFld_same ..) (.refl ..)
    · refine .step (State.setFld_same ..) ?_
      refine .ite ?_ ?_
      · exact .refl ..
      · exact .step (State.setFld_same ..) (.refl ..)
  · exact .refl ..

theorem State.randNat_same (s x1) : ∀ r, State.randNat s x1 = some r → Same [.trn] s r.2 := by
  intro r h
  simp only [randNat, Option.map_eq_some_iff] at h
  obtain ⟨p, hp, rfl⟩ := h
  exact randWords_same _ _ _ hp

theorem State.trnFailure_same (s) : Same [.regs, .tmp, .trn] s (State.trnFailure s) := by
  unfold State.trnFailure
  refine .ite ?_ ?_
  · exact .step (State.withTrn_same ..) (.step (State.setFld_same ..) (.step (State.trnStartup_same ..) (.step
      (State.withTrn_same ..) (.step (State.report_same ..) (.refl ..)))))
  · refine .ite ?_ ?_
    · exact .step (State.withTrn_same ..) (.step (State.report_same ..) (.refl ..))
    · exact .step (State.trnStartup_same ..) (.step (State.withTrn_same ..) (.step (State.report_same ..) (.refl ..)))

theorem execStartupTestDone_same (s) :
    After [.now, .regs, .dict, .tmp, .trn, .cal, .hld, .mtx, .convs, .evt] s (execStartupTestDone s) := by
  unfold execStartupTestDone
  split
  · refine .next ?_
    exact .refl ..
  · refine .ite ?_ ?_
    · refine .next ?_
      exact .refl ..
    · refine .next ?_
      refine .ite ?_ ?_
      · exact .step (State.trnFailure_same ..) (.step (State.raise_same ..) (.step (State.withTrn_same ..) (.step
          (State.advanceTo_same ..) (.refl ..))))
      · exact .step (State.setFld_same ..) (.step (State.withTrn_same ..) (.step (State.advanceTo_same ..) (.refl ..)))

theorem execConditionedBlock_same (x0 s) : After [.trn] s (execConditionedBlock x0 s) := by
  unfold execConditionedBlock
  refine .ite ?_ ?_
  · refine .next ?_
    exact .refl ..
  · refine .next ?_
    exact .step (State.withTrn_same ..) (.refl ..)

theorem execEstimateBlockEnd_same (x0 x1 s) : After [.regs, .evt] s (execEstimateBlockEnd x0 x1 s) := by
  unfold execEstimateBlockEnd
  refine .ite ?_ ?_
  · refine .next ?_
    exact .refl ..
  · refine .next ?_
    refine .ite ?_ ?_
    · exact .step (State.raise_same ..) (.step (State.setFlag_same ..) (.step (State.setFld_same ..) (.step (State.setRegN_same ..)
        (.step (State.setRegN_same ..) (.refl ..)))))
    · exact .step (State.setFlag_same ..) (.step (State.setFld_same ..) (.step (State.setRegN_same ..) (.step (State.setRegN_same ..)
        (.refl ..))))

theorem execDrbgInstantiate_same (s) : After [.regs, .trn, .evt] s (execDrbgInstantiate s) := by
  unfold execDrbgInstantiate
  split
  · refine .ite ?_ ?_
    · refine .next ?_
      exact .step (State.raise_same ..) (.step (State.setFld_same ..) (.step (State.withTrn_same ..) (.refl ..)))
    · refine .next ?_
      exact .refl ..
  · refine .next ?_
    exact .refl ..

theorem execRingMeasurement_same (x0 x1 x2 s) : After [.regs, .tmp, .trn, .evt] s (execRingMeasurement x0 x1 x2 s) := by
  unfold execRingMeasurement
  refine .ite ?_ ?_
  · refine .next ?_
    exact .refl ..
  · refine .next ?_
    refine .ite ?_ ?_
    · exact .step (State.trnFailure_same ..) (.step (State.raise_same ..) (.step (State.setFlag_same ..) (.step
        (State.setFlag_same ..) (.step (State.setRegN_same ..) (.refl ..)))))
    · exact .step (State.setFlag_same ..) (.step (State.setFlag_same ..) (.step (State.setRegN_same ..) (.refl ..)))

theorem execHealthTestFailure_same (x0 s) : After [.regs, .dict, .tmp, .trn, .evt] s (execHealthTestFailure x0 s) := by
  unfold execHealthTestFailure
  refine .ite ?_ ?_
  · refine .next ?_
    exact .refl ..
  · refine .next ?_
    refine .step (State.trnFailure_same ..) ?_
    refine .step (State.raise_same ..) ?_
    refine .ite ?_ ?_
    · exact .step (State.count_same ..) (.refl ..)
    · exact .step (State.count_same ..) (.refl ..)

/-! ### Shed -/

theorem State.modThr_same (s x1 x2) : Same [.threads] s (State.modThr s x1 x2) := by
  unfold State.modThr
  exact .step (State.withThreads_same ..) (.refl ..)

theorem State.setRun_same (s x1 x2) : Same [.regs, .dict, .threads, .trc] s (State.setRun s x1 x2) := by
  unfold State.setRun
  refine .ite ?_ ?_
  · exact .refl ..
  · exact .step (State.trace_same ..) (.step (State.modThr_same ..) (.refl ..))

theorem State.stopThread_same (s x1) : Same [.regs, .dict, .threads, .trc] s (State.stopThread s x1) := by
  unfold State.stopThread
  refine .ite ?_ ?_
  · exact .step (State.setRun_same ..) (.refl ..)
  · exact .refl ..

theorem State.pwrEnd_same (s x1 x2 x3 x4) : Same [.regs, .dict, .evt] s (State.pwrEnd s x1 x2 x3 x4) := by
  unfold State.pwrEnd
  refine .ite ?_ ?_
  · refine .step (State.raise_same ..) ?_
    refine .ite ?_ ?_
    · exact .step (State.count_same ..) (.step (State.setRegN_same ..) (.refl ..))
    · exact .step (State.setRegN_same ..) (.refl ..)
  · exact .step (State.raise_same ..) (.step (State.count_same ..) (.step (State.setRegN_same ..) (.refl ..)))

theorem State.closeSession_same (s x1) : Same [.nq] s (State.closeSession s x1) := by
  unfold State.closeSession
  exact .step (State.withNq_same ..) (.refl ..)

theorem State.shedNow_same (s) : Same [.regs, .dict, .pwr, .evt] s (State.shedNow s) := by
  unfold State.shedNow
  refine .step (State.withPwr_same ..) ?_
  refine .foldl _ (fun _ _ _ => ?_) _ ?_
  · exact .step (State.pwrEnd_same ..) ‹_›
  · exact .refl ..

theorem State.shed_same (s) : Same [.regs, .dict, .pwr, .evt] s (State.shed s) := by
  unfold State.shed
  refine .ite ?_ ?_
  · exact .step (State.withPwr_same ..) (.refl ..)
  · exact .step (State.shedNow_same ..) (.refl ..)

theorem State.endDebug_same (s) : Same [.trc] s (State.endDebug s) := by
  unfold State.endDebug
  exact .step (State.withTrc_same ..) (.refl ..)

theorem State.closeSessions_same (s x1) : Same [.nq] s (State.closeSessions s x1) := by
  unfold State.closeSessions
  refine .foldl _ (fun _ _ _ => ?_) _ ?_
  · exact .step (State.closeSession_same ..) ‹_›
  · exact .refl ..

/-! ### Tamper -/

theorem State.tmpBandChange_same (s) : Same [.regs, .nvs] s (State.tmpBandChange s) := by
  unfold State.tmpBandChange
  refine .ite ?_ ?_
  · exact .step (State.nvsRequest_same ..) (.step (State.setFld_same ..) (.refl ..))
  · exact .refl ..

theorem tmpRead_same (x0 x1 s) : Same [] s (tmpRead x0 x1 s).2 := by
  unfold tmpRead
  refine .ite2 ?_ ?_
  · exact .refl ..
  · refine .ite2 ?_ ?_
    · split
      · exact .refl ..
      · exact .refl ..
    · exact .refl ..

theorem State.tmpPersist_same (s) : Same [.nvs] s (State.tmpPersist s) := by
  unfold State.tmpPersist
  refine .ite ?_ ?_
  · exact .refl ..
  · exact .step (State.nvsRequest_same ..) (.refl ..)

theorem State.tmpClear_same (s) : Same [.tmp, .nvs] s (State.tmpClear s) := by
  unfold State.tmpClear
  exact .step (State.tmpPersist_same ..) (.step (State.withTmp_same ..) (.refl ..))

theorem State.tmpForget_same (s x1) : Same [.tmp] s (State.tmpForget s x1) := by
  unfold State.tmpForget
  exact .step (State.withTmp_same ..) (.refl ..)

theorem tmpWrite_same (x0 x1 x2 x3 s) : Same [.regs, .tmp, .nvs] s (tmpWrite x0 x1 x2 x3 s) := by
  unfold tmpWrite
  refine .ite ?_ ?_
  · exact .step (State.setReg_same ..) (.refl ..)
  · refine .ite ?_ ?_
    · refine .ite ?_ ?_
      · exact .step (State.tmpClear_same ..) (.step (State.setFld_same ..) (.refl ..))
      · exact .refl ..
    · refine .ite ?_ ?_
      · refine .ite ?_ ?_
        · refine .ite ?_ ?_
          · refine .ite ?_ ?_
            · refine .step (State.setFld_same ..) ?_
              refine .step (State.setFld_same ..) ?_
              refine .ite ?_ ?_
              · exact .step (State.setFld_same ..) (.refl ..)
              · exact .refl ..
            · refine .ite ?_ ?_
              · exact .step (State.setFld_same ..) (.refl ..)
              · exact .refl ..
          · refine .step (State.tmpForget_same ..) ?_
            refine .ite ?_ ?_
            · refine .step (State.setFld_same ..) ?_
              refine .step (State.setFld_same ..) ?_
              refine .ite ?_ ?_
              · exact .step (State.setFld_same ..) (.refl ..)
              · exact .refl ..
            · refine .ite ?_ ?_
              · exact .step (State.setFld_same ..) (.refl ..)
              · exact .refl ..
        · refine .ite ?_ ?_
          · exact .refl ..
          · exact .step (State.tmpForget_same ..) (.step (State.setFld_same ..) (.refl ..))
      · exact .refl ..

theorem State.bootStart_same (s) : Same [.regs, .dict, .rst, .threads, .trc] s (State.bootStart s) := by
  unfold State.bootStart
  exact .step (State.withRst_same ..) (.step (State.trace_same ..) (.step (State.setRun_same ..) (.step (State.setRegN_same ..)
    (.refl ..))))

theorem State.resetCores_same (s) :
    Same [.regs, .snaps, .dict, .staged, .pairs, .rst, .cal, .hld, .mtx, .lanes, .convs, .hvs, .cls, .aut, .cip, .threads, .cores, .evt, .trc, .ic, .hk, .dmc, .idc, .sdh, .nq] s (State.resetCores s) := by
  unfold State.resetCores
  refine .ite ?_ ?_
  · exact .step (State.bootStart_same ..) (.step (State.resetDomain_same ..) (.step (State.resetDomain_same ..) (.refl ..)))
  · exact .step (State.resetDomain_same ..) (.step (State.resetDomain_same ..) (.refl ..))

theorem State.tmpUnit_same (s x1 x2 x3) :
    Same [.regs, .snaps, .dict, .staged, .pairs, .rst, .cal, .hld, .mtx, .lanes, .convs, .hvs, .cls, .aut, .cip, .threads, .cores, .evt, .trc, .ic, .hk, .dmc, .idc, .sdh, .nq] s (State.tmpUnit s x1 x2 x3) := by
  unfold State.tmpUnit
  split
  · exact .step (State.resetCores_same ..) (.refl ..)
  · exact .step (State.resetCores_same ..) (.refl ..)
  · refine .elim ?_ (fun _ _ => ?_)
    · exact .refl ..
    · exact .step (State.resetBlock_same ..) (.refl ..)
  · refine .elim ?_ (fun _ _ => ?_)
    · exact .refl ..
    · exact .step (State.resetBlock_same ..) (.refl ..)
  · refine .ite ?_ ?_
    · exact .refl ..
    · exact .step (State.resetDomain_same ..) (.refl ..)
  · exact .step (State.stopThread_same ..) (.refl ..)
  · exact .step (State.closeSessions_same ..) (.refl ..)
  · exact .step (State.endDebug_same ..) (.refl ..)
  · exact .refl ..

theorem State.tmpWipe_same (s) :
    Same [.free, .regs, .dict, .sram, .mtx, .lanes, .convs, .hvs, .aut, .cip, .evt, .dmc] s (State.tmpWipe s) := by
  unfold State.tmpWipe
  exact .step (State.setFld_same ..) (.step (State.wipePages_same ..) (.refl ..))

theorem State.tmpLog_same (s x1 x2 x3 x4 x5 x6 x7) :
    Same [.regs, .dict, .tmp, .evt] s (State.tmpLog s x1 x2 x3 x4 x5 x6 x7) := by
  unfold State.tmpLog
  refine .step (State.withTmp_same ..) ?_
  refine .ite ?_ ?_
  · refine .step (State.raise_same ..) ?_
    refine .ite ?_ ?_
    · exact .step (State.count_same ..) (.refl ..)
    · exact .refl ..
  · refine .ite ?_ ?_
    · exact .step (State.count_same ..) (.refl ..)
    · exact .refl ..

theorem State.tmpTrip_same (s x1 x2 x3 x4) :
    Same [.free, .regs, .snaps, .dict, .staged, .pairs, .sram, .pwr, .rst, .tmp, .nvs, .cal, .hld, .mtx, .lanes, .convs, .hvs, .cls, .aut, .cip, .threads, .cores, .evt, .trc, .ic, .hk, .dmc, .idc, .sdh, .nq] s (State.tmpTrip s x1 x2 x3 x4) := by
  unfold State.tmpTrip
  refine .ite ?_ ?_
  · refine .step (State.tmpPersist_same ..) ?_
    refine .ite ?_ ?_
    · refine .step (State.withTmp_same ..) ?_
      refine .step (State.systemReset_same ..) ?_
      refine .ite ?_ ?_
      · refine .step (State.closeSessions_same ..) ?_
        refine .ite ?_ ?_
        · refine .step (State.tmpUnit_same ..) ?_
          refine .ite ?_ ?_
          · refine .step (State.raise_same ..) ?_
            refine .step (State.setRegN_same ..) ?_
            refine .step (State.tmpLog_same ..) ?_
            refine .ite ?_ ?_
            · refine .step (State.tmpWipe_same ..) ?_
              refine .ite ?_ ?_
              · exact .step (State.raise_same ..) (.step (State.count_same ..) (.refl ..))
              · exact .step (State.count_same ..) (.refl ..)
            · refine .ite ?_ ?_
              · exact .step (State.raise_same ..) (.step (State.count_same ..) (.refl ..))
              · exact .step (State.count_same ..) (.refl ..)
          · refine .step (State.setRegN_same ..) ?_
            refine .step (State.tmpLog_same ..) ?_
            refine .ite ?_ ?_
            · refine .step (State.tmpWipe_same ..) ?_
              refine .ite ?_ ?_
              · exact .step (State.raise_same ..) (.step (State.count_same ..) (.refl ..))
              · exact .step (State.count_same ..) (.refl ..)
            · refine .ite ?_ ?_
              · exact .step (State.raise_same ..) (.step (State.count_same ..) (.refl ..))
              · exact .step (State.count_same ..) (.refl ..)
        · refine .ite ?_ ?_
          · refine .step (State.raise_same ..) ?_
            refine .step (State.setRegN_same ..) ?_
            refine .step (State.tmpLog_same ..) ?_
            refine .ite ?_ ?_
            · refine .step (State.tmpWipe_same ..) ?_
              refine .ite ?_ ?_
              · exact .step (State.raise_same ..) (.step (State.count_same ..) (.refl ..))
              · exact .step (State.count_same ..) (.refl ..)
            · refine .ite ?_ ?_
              · exact .step (State.raise_same ..) (.step (State.count_same ..) (.refl ..))
              · exact .step (State.count_same ..) (.refl ..)
          · refine .step (State.setRegN_same ..) ?_
            refine .step (State.tmpLog_same ..) ?_
            refine .ite ?_ ?_
            · refine .step (State.tmpWipe_same ..) ?_
              refine .ite ?_ ?_
              · exact .step (State.raise_same ..) (.step (State.count_same ..) (.refl ..))
              · exact .step (State.count_same ..) (.refl ..)
            · refine .ite ?_ ?_
              · exact .step (State.raise_same ..) (.step (State.count_same ..) (.refl ..))
              · exact .step (State.count_same ..) (.refl ..)
      · refine .ite ?_ ?_
        · refine .step (State.tmpUnit_same ..) ?_
          refine .ite ?_ ?_
          · refine .step (State.raise_same ..) ?_
            refine .step (State.setRegN_same ..) ?_
            refine .step (State.tmpLog_same ..) ?_
            refine .ite ?_ ?_
            · refine .step (State.tmpWipe_same ..) ?_
              refine .ite ?_ ?_
              · exact .step (State.raise_same ..) (.step (State.count_same ..) (.refl ..))
              · exact .step (State.count_same ..) (.refl ..)
            · refine .ite ?_ ?_
              · exact .step (State.raise_same ..) (.step (State.count_same ..) (.refl ..))
              · exact .step (State.count_same ..) (.refl ..)
          · refine .step (State.setRegN_same ..) ?_
            refine .step (State.tmpLog_same ..) ?_
            refine .ite ?_ ?_
            · refine .step (State.tmpWipe_same ..) ?_
              refine .ite ?_ ?_
              · exact .step (State.raise_same ..) (.step (State.count_same ..) (.refl ..))
              · exact .step (State.count_same ..) (.refl ..)
            · refine .ite ?_ ?_
              · exact .step (State.raise_same ..) (.step (State.count_same ..) (.refl ..))
              · exact .step (State.count_same ..) (.refl ..)
        · refine .ite ?_ ?_
          · refine .step (State.raise_same ..) ?_
            refine .step (State.setRegN_same ..) ?_
            refine .step (State.tmpLog_same ..) ?_
            refine .ite ?_ ?_
            · refine .step (State.tmpWipe_same ..) ?_
              refine .ite ?_ ?_
              · exact .step (State.raise_same ..) (.step (State.count_same ..) (.refl ..))
              · exact .step (State.count_same ..) (.refl ..)
            · refine .ite ?_ ?_
              · exact .step (State.raise_same ..) (.step (State.count_same ..) (.refl ..))
              · exact .step (State.count_same ..) (.refl ..)
          · refine .step (State.setRegN_same ..) ?_
            refine .step (State.tmpLog_same ..) ?_
            refine .ite ?_ ?_
            · refine .step (State.tmpWipe_same ..) ?_
              refine .ite ?_ ?_
              · exact .step (State.raise_same ..) (.step (State.count_same ..) (.refl ..))
              · exact .step (State.count_same ..) (.refl ..)
            · refine .ite ?_ ?_
              · exact .step (State.raise_same ..) (.step (State.count_same ..) (.refl ..))
              · exact .step (State.count_same ..) (.refl ..)
    · refine .ite ?_ ?_
      · refine .step (State.withTmp_same ..) ?_
        refine .ite ?_ ?_
        · refine .step (State.closeSessions_same ..) ?_
          refine .ite ?_ ?_
          · refine .step (State.tmpUnit_same ..) ?_
            refine .ite ?_ ?_
            · refine .step (State.raise_same ..) ?_
              refine .step (State.setRegN_same ..) ?_
              refine .step (State.tmpLog_same ..) ?_
              refine .ite ?_ ?_
              · refine .step (State.tmpWipe_same ..) ?_
                refine .ite ?_ ?_
                · exact .step (State.raise_same ..) (.step (State.count_same ..) (.refl ..))
                · exact .step (State.count_same ..) (.refl ..)
              · refine .ite ?_ ?_
                · exact .step (State.raise_same ..) (.step (State.count_same ..) (.refl ..))
                · exact .step (State.count_same ..) (.refl ..)
            · refine .step (State.setRegN_same ..) ?_
              refine .step (State.tmpLog_same ..) ?_
              refine .ite ?_ ?_
              · refine .step (State.tmpWipe_same ..) ?_
                refine .ite ?_ ?_
                · exact .step (State.raise_same ..) (.step (State.count_same ..) (.refl ..))
                · exact .step (State.count_same ..) (.refl ..)
              · refine .ite ?_ ?_
                · exact .step (State.raise_same ..) (.step (State.count_same ..) (.refl ..))
                · exact .step (State.count_same ..) (.refl ..)
          · refine .ite ?_ ?_
            · refine .step (State.raise_same ..) ?_
              refine .step (State.setRegN_same ..) ?_
              refine .step (State.tmpLog_same ..) ?_
              refine .ite ?_ ?_
              · refine .step (State.tmpWipe_same ..) ?_
                refine .ite ?_ ?_
                · exact .step (State.raise_same ..) (.step (State.count_same ..) (.refl ..))
                · exact .step (State.count_same ..) (.refl ..)
              · refine .ite ?_ ?_
                · exact .step (State.raise_same ..) (.step (State.count_same ..) (.refl ..))
                · exact .step (State.count_same ..) (.refl ..)
            · refine .step (State.setRegN_same ..) ?_
              refine .step (State.tmpLog_same ..) ?_
              refine .ite ?_ ?_
              · refine .step (State.tmpWipe_same ..) ?_
                refine .ite ?_ ?_
                · exact .step (State.raise_same ..) (.step (State.count_same ..) (.refl ..))
                · exact .step (State.count_same ..) (.refl ..)
              · refine .ite ?_ ?_
                · exact .step (State.raise_same ..) (.step (State.count_same ..) (.refl ..))
                · exact .step (State.count_same ..) (.refl ..)
        · refine .ite ?_ ?_
          · refine .step (State.tmpUnit_same ..) ?_
            refine .ite ?_ ?_
            · refine .step (State.raise_same ..) ?_
              refine .step (State.setRegN_same ..) ?_
              refine .step (State.tmpLog_same ..) ?_
              refine .ite ?_ ?_
              · refine .step (State.tmpWipe_same ..) ?_
                refine .ite ?_ ?_
                · exact .step (State.raise_same ..) (.step (State.count_same ..) (.refl ..))
                · exact .step (State.count_same ..) (.refl ..)
              · refine .ite ?_ ?_
                · exact .step (State.raise_same ..) (.step (State.count_same ..) (.refl ..))
                · exact .step (State.count_same ..) (.refl ..)
            · refine .step (State.setRegN_same ..) ?_
              refine .step (State.tmpLog_same ..) ?_
              refine .ite ?_ ?_
              · refine .step (State.tmpWipe_same ..) ?_
                refine .ite ?_ ?_
                · exact .step (State.raise_same ..) (.step (State.count_same ..) (.refl ..))
                · exact .step (State.count_same ..) (.refl ..)
              · refine .ite ?_ ?_
                · exact .step (State.raise_same ..) (.step (State.count_same ..) (.refl ..))
                · exact .step (State.count_same ..) (.refl ..)
          · refine .ite ?_ ?_
            · refine .step (State.raise_same ..) ?_
              refine .step (State.setRegN_same ..) ?_
              refine .step (State.tmpLog_same ..) ?_
              refine .ite ?_ ?_
              · refine .step (State.tmpWipe_same ..) ?_
                refine .ite ?_ ?_
                · exact .step (State.raise_same ..) (.step (State.count_same ..) (.refl ..))
                · exact .step (State.count_same ..) (.refl ..)
              · refine .ite ?_ ?_
                · exact .step (State.raise_same ..) (.step (State.count_same ..) (.refl ..))
                · exact .step (State.count_same ..) (.refl ..)
            · refine .step (State.setRegN_same ..) ?_
              refine .step (State.tmpLog_same ..) ?_
              refine .ite ?_ ?_
              · refine .step (State.tmpWipe_same ..) ?_
                refine .ite ?_ ?_
                · exact .step (State.raise_same ..) (.step (State.count_same ..) (.refl ..))
                · exact .step (State.count_same ..) (.refl ..)
              · refine .ite ?_ ?_
                · exact .step (State.raise_same ..) (.step (State.count_same ..) (.refl ..))
                · exact .step (State.count_same ..) (.refl ..)
      · refine .ite ?_ ?_
        · refine .step (State.closeSessions_same ..) ?_
          refine .ite ?_ ?_
          · refine .step (State.tmpUnit_same ..) ?_
            refine .ite ?_ ?_
            · refine .step (State.raise_same ..) ?_
              refine .step (State.setRegN_same ..) ?_
              refine .step (State.tmpLog_same ..) ?_
              refine .ite ?_ ?_
              · refine .step (State.tmpWipe_same ..) ?_
                refine .ite ?_ ?_
                · exact .step (State.raise_same ..) (.step (State.count_same ..) (.refl ..))
                · exact .step (State.count_same ..) (.refl ..)
              · refine .ite ?_ ?_
                · exact .step (State.raise_same ..) (.step (State.count_same ..) (.refl ..))
                · exact .step (State.count_same ..) (.refl ..)
            · refine .step (State.setRegN_same ..) ?_
              refine .step (State.tmpLog_same ..) ?_
              refine .ite ?_ ?_
              · refine .step (State.tmpWipe_same ..) ?_
                refine .ite ?_ ?_
                · exact .step (State.raise_same ..) (.step (State.count_same ..) (.refl ..))
                · exact .step (State.count_same ..) (.refl ..)
              · refine .ite ?_ ?_
                · exact .step (State.raise_same ..) (.step (State.count_same ..) (.refl ..))
                · exact .step (State.count_same ..) (.refl ..)
          · refine .ite ?_ ?_
            · refine .step (State.raise_same ..) ?_
              refine .step (State.setRegN_same ..) ?_
              refine .step (State.tmpLog_same ..) ?_
              refine .ite ?_ ?_
              · refine .step (State.tmpWipe_same ..) ?_
                refine .ite ?_ ?_
                · exact .step (State.raise_same ..) (.step (State.count_same ..) (.refl ..))
                · exact .step (State.count_same ..) (.refl ..)
              · refine .ite ?_ ?_
                · exact .step (State.raise_same ..) (.step (State.count_same ..) (.refl ..))
                · exact .step (State.count_same ..) (.refl ..)
            · refine .step (State.setRegN_same ..) ?_
              refine .step (State.tmpLog_same ..) ?_
              refine .ite ?_ ?_
              · refine .step (State.tmpWipe_same ..) ?_
                refine .ite ?_ ?_
                · exact .step (State.raise_same ..) (.step (State.count_same ..) (.refl ..))
                · exact .step (State.count_same ..) (.refl ..)
              · refine .ite ?_ ?_
                · exact .step (State.raise_same ..) (.step (State.count_same ..) (.refl ..))
                · exact .step (State.count_same ..) (.refl ..)
        · refine .ite ?_ ?_
          · refine .step (State.tmpUnit_same ..) ?_
            refine .ite ?_ ?_
            · refine .step (State.raise_same ..) ?_
              refine .step (State.setRegN_same ..) ?_
              refine .step (State.tmpLog_same ..) ?_
              refine .ite ?_ ?_
              · refine .step (State.tmpWipe_same ..) ?_
                refine .ite ?_ ?_
                · exact .step (State.raise_same ..) (.step (State.count_same ..) (.refl ..))
                · exact .step (State.count_same ..) (.refl ..)
              · refine .ite ?_ ?_
                · exact .step (State.raise_same ..) (.step (State.count_same ..) (.refl ..))
                · exact .step (State.count_same ..) (.refl ..)
            · refine .step (State.setRegN_same ..) ?_
              refine .step (State.tmpLog_same ..) ?_
              refine .ite ?_ ?_
              · refine .step (State.tmpWipe_same ..) ?_
                refine .ite ?_ ?_
                · exact .step (State.raise_same ..) (.step (State.count_same ..) (.refl ..))
                · exact .step (State.count_same ..) (.refl ..)
              · refine .ite ?_ ?_
                · exact .step (State.raise_same ..) (.step (State.count_same ..) (.refl ..))
                · exact .step (State.count_same ..) (.refl ..)
          · refine .ite ?_ ?_
            · refine .step (State.raise_same ..) ?_
              refine .step (State.setRegN_same ..) ?_
              refine .step (State.tmpLog_same ..) ?_
              refine .ite ?_ ?_
              · refine .step (State.tmpWipe_same ..) ?_
                refine .ite ?_ ?_
                · exact .step (State.raise_same ..) (.step (State.count_same ..) (.refl ..))
                · exact .step (State.count_same ..) (.refl ..)
              · refine .ite ?_ ?_
                · exact .step (State.raise_same ..) (.step (State.count_same ..) (.refl ..))
                · exact .step (State.count_same ..) (.refl ..)
            · refine .step (State.setRegN_same ..) ?_
              refine .step (State.tmpLog_same ..) ?_
              refine .ite ?_ ?_
              · refine .step (State.tmpWipe_same ..) ?_
                refine .ite ?_ ?_
                · exact .step (State.raise_same ..) (.step (State.count_same ..) (.refl ..))
                · exact .step (State.count_same ..) (.refl ..)
              · refine .ite ?_ ?_
                · exact .step (State.raise_same ..) (.step (State.count_same ..) (.refl ..))
                · exact .step (State.count_same ..) (.refl ..)
  · refine .ite ?_ ?_
    · refine .step (State.withTmp_same ..) ?_
      refine .step (State.systemReset_same ..) ?_
      refine .ite ?_ ?_
      · refine .step (State.closeSessions_same ..) ?_
        refine .ite ?_ ?_
        · refine .step (State.tmpUnit_same ..) ?_
          refine .ite ?_ ?_
          · refine .step (State.raise_same ..) ?_
            refine .step (State.setRegN_same ..) ?_
            refine .step (State.tmpLog_same ..) ?_
            refine .ite ?_ ?_
            · refine .step (State.tmpWipe_same ..) ?_
              refine .ite ?_ ?_
              · exact .step (State.raise_same ..) (.step (State.count_same ..) (.refl ..))
              · exact .step (State.count_same ..) (.refl ..)
            · refine .ite ?_ ?_
              · exact .step (State.raise_same ..) (.step (State.count_same ..) (.refl ..))
              · exact .step (State.count_same ..) (.refl ..)
          · refine .step (State.setRegN_same ..) ?_
            refine .step (State.tmpLog_same ..) ?_
            refine .ite ?_ ?_
            · refine .step (State.tmpWipe_same ..) ?_
              refine .ite ?_ ?_
              · exact .step (State.raise_same ..) (.step (State.count_same ..) (.refl ..))
              · exact .step (State.count_same ..) (.refl ..)
            · refine .ite ?_ ?_
              · exact .step (State.raise_same ..) (.step (State.count_same ..) (.refl ..))
              · exact .step (State.count_same ..) (.refl ..)
        · refine .ite ?_ ?_
          · refine .step (State.raise_same ..) ?_
            refine .step (State.setRegN_same ..) ?_
            refine .step (State.tmpLog_same ..) ?_
            refine .ite ?_ ?_
            · refine .step (State.tmpWipe_same ..) ?_
              refine .ite ?_ ?_
              · exact .step (State.raise_same ..) (.step (State.count_same ..) (.refl ..))
              · exact .step (State.count_same ..) (.refl ..)
            · refine .ite ?_ ?_
              · exact .step (State.raise_same ..) (.step (State.count_same ..) (.refl ..))
              · exact .step (State.count_same ..) (.refl ..)
          · refine .step (State.setRegN_same ..) ?_
            refine .step (State.tmpLog_same ..) ?_
            refine .ite ?_ ?_
            · refine .step (State.tmpWipe_same ..) ?_
              refine .ite ?_ ?_
              · exact .step (State.raise_same ..) (.step (State.count_same ..) (.refl ..))
              · exact .step (State.count_same ..) (.refl ..)
            · refine .ite ?_ ?_
              · exact .step (State.raise_same ..) (.step (State.count_same ..) (.refl ..))
              · exact .step (State.count_same ..) (.refl ..)
      · refine .ite ?_ ?_
        · refine .step (State.tmpUnit_same ..) ?_
          refine .ite ?_ ?_
          · refine .step (State.raise_same ..) ?_
            refine .step (State.setRegN_same ..) ?_
            refine .step (State.tmpLog_same ..) ?_
            refine .ite ?_ ?_
            · refine .step (State.tmpWipe_same ..) ?_
              refine .ite ?_ ?_
              · exact .step (State.raise_same ..) (.step (State.count_same ..) (.refl ..))
              · exact .step (State.count_same ..) (.refl ..)
            · refine .ite ?_ ?_
              · exact .step (State.raise_same ..) (.step (State.count_same ..) (.refl ..))
              · exact .step (State.count_same ..) (.refl ..)
          · refine .step (State.setRegN_same ..) ?_
            refine .step (State.tmpLog_same ..) ?_
            refine .ite ?_ ?_
            · refine .step (State.tmpWipe_same ..) ?_
              refine .ite ?_ ?_
              · exact .step (State.raise_same ..) (.step (State.count_same ..) (.refl ..))
              · exact .step (State.count_same ..) (.refl ..)
            · refine .ite ?_ ?_
              · exact .step (State.raise_same ..) (.step (State.count_same ..) (.refl ..))
              · exact .step (State.count_same ..) (.refl ..)
        · refine .ite ?_ ?_
          · refine .step (State.raise_same ..) ?_
            refine .step (State.setRegN_same ..) ?_
            refine .step (State.tmpLog_same ..) ?_
            refine .ite ?_ ?_
            · refine .step (State.tmpWipe_same ..) ?_
              refine .ite ?_ ?_
              · exact .step (State.raise_same ..) (.step (State.count_same ..) (.refl ..))
              · exact .step (State.count_same ..) (.refl ..)
            · refine .ite ?_ ?_
              · exact .step (State.raise_same ..) (.step (State.count_same ..) (.refl ..))
              · exact .step (State.count_same ..) (.refl ..)
          · refine .step (State.setRegN_same ..) ?_
            refine .step (State.tmpLog_same ..) ?_
            refine .ite ?_ ?_
            · refine .step (State.tmpWipe_same ..) ?_
              refine .ite ?_ ?_
              · exact .step (State.raise_same ..) (.step (State.count_same ..) (.refl ..))
              · exact .step (State.count_same ..) (.refl ..)
            · refine .ite ?_ ?_
              · exact .step (State.raise_same ..) (.step (State.count_same ..) (.refl ..))
              · exact .step (State.count_same ..) (.refl ..)
    · refine .ite ?_ ?_
      · refine .step (State.withTmp_same ..) ?_
        refine .ite ?_ ?_
        · refine .step (State.closeSessions_same ..) ?_
          refine .ite ?_ ?_
          · refine .step (State.tmpUnit_same ..) ?_
            refine .ite ?_ ?_
            · refine .step (State.raise_same ..) ?_
              refine .step (State.setRegN_same ..) ?_
              refine .step (State.tmpLog_same ..) ?_
              refine .ite ?_ ?_
              · refine .step (State.tmpWipe_same ..) ?_
                refine .ite ?_ ?_
                · exact .step (State.raise_same ..) (.step (State.count_same ..) (.refl ..))
                · exact .step (State.count_same ..) (.refl ..)
              · refine .ite ?_ ?_
                · exact .step (State.raise_same ..) (.step (State.count_same ..) (.refl ..))
                · exact .step (State.count_same ..) (.refl ..)
            · refine .step (State.setRegN_same ..) ?_
              refine .step (State.tmpLog_same ..) ?_
              refine .ite ?_ ?_
              · refine .step (State.tmpWipe_same ..) ?_
                refine .ite ?_ ?_
                · exact .step (State.raise_same ..) (.step (State.count_same ..) (.refl ..))
                · exact .step (State.count_same ..) (.refl ..)
              · refine .ite ?_ ?_
                · exact .step (State.raise_same ..) (.step (State.count_same ..) (.refl ..))
                · exact .step (State.count_same ..) (.refl ..)
          · refine .ite ?_ ?_
            · refine .step (State.raise_same ..) ?_
              refine .step (State.setRegN_same ..) ?_
              refine .step (State.tmpLog_same ..) ?_
              refine .ite ?_ ?_
              · refine .step (State.tmpWipe_same ..) ?_
                refine .ite ?_ ?_
                · exact .step (State.raise_same ..) (.step (State.count_same ..) (.refl ..))
                · exact .step (State.count_same ..) (.refl ..)
              · refine .ite ?_ ?_
                · exact .step (State.raise_same ..) (.step (State.count_same ..) (.refl ..))
                · exact .step (State.count_same ..) (.refl ..)
            · refine .step (State.setRegN_same ..) ?_
              refine .step (State.tmpLog_same ..) ?_
              refine .ite ?_ ?_
              · refine .step (State.tmpWipe_same ..) ?_
                refine .ite ?_ ?_
                · exact .step (State.raise_same ..) (.step (State.count_same ..) (.refl ..))
                · exact .step (State.count_same ..) (.refl ..)
              · refine .ite ?_ ?_
                · exact .step (State.raise_same ..) (.step (State.count_same ..) (.refl ..))
                · exact .step (State.count_same ..) (.refl ..)
        · refine .ite ?_ ?_
          · refine .step (State.tmpUnit_same ..) ?_
            refine .ite ?_ ?_
            · refine .step (State.raise_same ..) ?_
              refine .step (State.setRegN_same ..) ?_
              refine .step (State.tmpLog_same ..) ?_
              refine .ite ?_ ?_
              · refine .step (State.tmpWipe_same ..) ?_
                refine .ite ?_ ?_
                · exact .step (State.raise_same ..) (.step (State.count_same ..) (.refl ..))
                · exact .step (State.count_same ..) (.refl ..)
              · refine .ite ?_ ?_
                · exact .step (State.raise_same ..) (.step (State.count_same ..) (.refl ..))
                · exact .step (State.count_same ..) (.refl ..)
            · refine .step (State.setRegN_same ..) ?_
              refine .step (State.tmpLog_same ..) ?_
              refine .ite ?_ ?_
              · refine .step (State.tmpWipe_same ..) ?_
                refine .ite ?_ ?_
                · exact .step (State.raise_same ..) (.step (State.count_same ..) (.refl ..))
                · exact .step (State.count_same ..) (.refl ..)
              · refine .ite ?_ ?_
                · exact .step (State.raise_same ..) (.step (State.count_same ..) (.refl ..))
                · exact .step (State.count_same ..) (.refl ..)
          · refine .ite ?_ ?_
            · refine .step (State.raise_same ..) ?_
              refine .step (State.setRegN_same ..) ?_
              refine .step (State.tmpLog_same ..) ?_
              refine .ite ?_ ?_
              · refine .step (State.tmpWipe_same ..) ?_
                refine .ite ?_ ?_
                · exact .step (State.raise_same ..) (.step (State.count_same ..) (.refl ..))
                · exact .step (State.count_same ..) (.refl ..)
              · refine .ite ?_ ?_
                · exact .step (State.raise_same ..) (.step (State.count_same ..) (.refl ..))
                · exact .step (State.count_same ..) (.refl ..)
            · refine .step (State.setRegN_same ..) ?_
              refine .step (State.tmpLog_same ..) ?_
              refine .ite ?_ ?_
              · refine .step (State.tmpWipe_same ..) ?_
                refine .ite ?_ ?_
                · exact .step (State.raise_same ..) (.step (State.count_same ..) (.refl ..))
                · exact .step (State.count_same ..) (.refl ..)
              · refine .ite ?_ ?_
                · exact .step (State.raise_same ..) (.step (State.count_same ..) (.refl ..))
                · exact .step (State.count_same ..) (.refl ..)
      · refine .ite ?_ ?_
        · refine .step (State.closeSessions_same ..) ?_
          refine .ite ?_ ?_
          · refine .step (State.tmpUnit_same ..) ?_
            refine .ite ?_ ?_
            · refine .step (State.raise_same ..) ?_
              refine .step (State.setRegN_same ..) ?_
              refine .step (State.tmpLog_same ..) ?_
              refine .ite ?_ ?_
              · refine .step (State.tmpWipe_same ..) ?_
                refine .ite ?_ ?_
                · exact .step (State.raise_same ..) (.step (State.count_same ..) (.refl ..))
                · exact .step (State.count_same ..) (.refl ..)
              · refine .ite ?_ ?_
                · exact .step (State.raise_same ..) (.step (State.count_same ..) (.refl ..))
                · exact .step (State.count_same ..) (.refl ..)
            · refine .step (State.setRegN_same ..) ?_
              refine .step (State.tmpLog_same ..) ?_
              refine .ite ?_ ?_
              · refine .step (State.tmpWipe_same ..) ?_
                refine .ite ?_ ?_
                · exact .step (State.raise_same ..) (.step (State.count_same ..) (.refl ..))
                · exact .step (State.count_same ..) (.refl ..)
              · refine .ite ?_ ?_
                · exact .step (State.raise_same ..) (.step (State.count_same ..) (.refl ..))
                · exact .step (State.count_same ..) (.refl ..)
          · refine .ite ?_ ?_
            · refine .step (State.raise_same ..) ?_
              refine .step (State.setRegN_same ..) ?_
              refine .step (State.tmpLog_same ..) ?_
              refine .ite ?_ ?_
              · refine .step (State.tmpWipe_same ..) ?_
                refine .ite ?_ ?_
                · exact .step (State.raise_same ..) (.step (State.count_same ..) (.refl ..))
                · exact .step (State.count_same ..) (.refl ..)
              · refine .ite ?_ ?_
                · exact .step (State.raise_same ..) (.step (State.count_same ..) (.refl ..))
                · exact .step (State.count_same ..) (.refl ..)
            · refine .step (State.setRegN_same ..) ?_
              refine .step (State.tmpLog_same ..) ?_
              refine .ite ?_ ?_
              · refine .step (State.tmpWipe_same ..) ?_
                refine .ite ?_ ?_
                · exact .step (State.raise_same ..) (.step (State.count_same ..) (.refl ..))
                · exact .step (State.count_same ..) (.refl ..)
              · refine .ite ?_ ?_
                · exact .step (State.raise_same ..) (.step (State.count_same ..) (.refl ..))
                · exact .step (State.count_same ..) (.refl ..)
        · refine .ite ?_ ?_
          · refine .step (State.tmpUnit_same ..) ?_
            refine .ite ?_ ?_
            · refine .step (State.raise_same ..) ?_
              refine .step (State.setRegN_same ..) ?_
              refine .step (State.tmpLog_same ..) ?_
              refine .ite ?_ ?_
              · refine .step (State.tmpWipe_same ..) ?_
                refine .ite ?_ ?_
                · exact .step (State.raise_same ..) (.step (State.count_same ..) (.refl ..))
                · exact .step (State.count_same ..) (.refl ..)
              · refine .ite ?_ ?_
                · exact .step (State.raise_same ..) (.step (State.count_same ..) (.refl ..))
                · exact .step (State.count_same ..) (.refl ..)
            · refine .step (State.setRegN_same ..) ?_
              refine .step (State.tmpLog_same ..) ?_
              refine .ite ?_ ?_
              · refine .step (State.tmpWipe_same ..) ?_
                refine .ite ?_ ?_
                · exact .step (State.raise_same ..) (.step (State.count_same ..) (.refl ..))
                · exact .step (State.count_same ..) (.refl ..)
              · refine .ite ?_ ?_
                · exact .step (State.raise_same ..) (.step (State.count_same ..) (.refl ..))
                · exact .step (State.count_same ..) (.refl ..)
          · refine .ite ?_ ?_
            · refine .step (State.raise_same ..) ?_
              refine .step (State.setRegN_same ..) ?_
              refine .step (State.tmpLog_same ..) ?_
              refine .ite ?_ ?_
              · refine .step (State.tmpWipe_same ..) ?_
                refine .ite ?_ ?_
                · exact .step (State.raise_same ..) (.step (State.count_same ..) (.refl ..))
                · exact .step (State.count_same ..) (.refl ..)
              · refine .ite ?_ ?_
                · exact .step (State.raise_same ..) (.step (State.count_same ..) (.refl ..))
                · exact .step (State.count_same ..) (.refl ..)
            · refine .step (State.setRegN_same ..) ?_
              refine .step (State.tmpLog_same ..) ?_
              refine .ite ?_ ?_
              · refine .step (State.tmpWipe_same ..) ?_
                refine .ite ?_ ?_
                · exact .step (State.raise_same ..) (.step (State.count_same ..) (.refl ..))
                · exact .step (State.count_same ..) (.refl ..)
              · refine .ite ?_ ?_
                · exact .step (State.raise_same ..) (.step (State.count_same ..) (.refl ..))
                · exact .step (State.count_same ..) (.refl ..)

theorem State.tmpHit_same (s x1 x2 x3 x4) :
    Same [.free, .regs, .snaps, .dict, .staged, .pairs, .sram, .pwr, .rst, .tmp, .nvs, .cal, .hld, .mtx, .lanes, .convs, .hvs, .cls, .aut, .cip, .threads, .cores, .evt, .trc, .ic, .hk, .dmc, .idc, .sdh, .nq] s (State.tmpHit s x1 x2 x3 x4) := by
  unfold State.tmpHit
  refine .ite ?_ ?_
  · refine .ite ?_ ?_
    · exact .step (State.raise_same ..) (.step (State.count_same ..) (.refl ..))
    · exact .step (State.count_same ..) (.refl ..)
  · refine .ite ?_ ?_
    · refine .step (State.tmpTrip_same ..) ?_
      refine .step (State.tmpForget_same ..) ?_
      refine .ite ?_ ?_
      · exact .step (State.raise_same ..) (.step (State.count_same ..) (.refl ..))
      · exact .step (State.count_same ..) (.refl ..)
    · refine .step (State.withTmp_same ..) ?_
      refine .ite ?_ ?_
      · exact .step (State.raise_same ..) (.step (State.count_same ..) (.refl ..))
      · exact .step (State.count_same ..) (.refl ..)

theorem State.tmpStarted_same (s) : Same [.tmp] s (State.tmpStarted s) := by
  unfold State.tmpStarted
  exact .step (State.withTmp_same ..) (.refl ..)

theorem State.tmpLoad_same (s) : Same [.regs, .tmp] s (State.tmpLoad s) := by
  unfold State.tmpLoad
  split
  · exact .step (State.setFld_same ..) (.refl ..)
  · exact .step (State.withTmp_same ..) (.refl ..)

theorem State.tmpStoreEnd_same (s x1) : Same [.regs, .tmp] s (State.tmpStoreEnd s x1) := by
  unfold State.tmpStoreEnd
  refine .ite ?_ ?_
  · exact .step (State.tmpStarted_same ..) (.step (State.setFld_same ..) (.refl ..))
  · refine .ite ?_ ?_
    · exact .step (State.tmpStarted_same ..) (.step (State.setFld_same ..) (.refl ..))
    · exact .refl ..

theorem execLoopStateChange_same (x0 x1 s) : After [.regs, .dict, .tmp, .evt] s (execLoopStateChange x0 x1 s) := by
  unfold execLoopStateChange
  refine .ite ?_ ?_
  · refine .next ?_
    exact .refl ..
  · refine .ite ?_ ?_
    · refine .next ?_
      exact .step (State.report_same ..) (.step (State.raise_same ..) (.step (State.setRegN_same ..) (.refl ..)))
    · refine .ite ?_ ?_
      · refine .next ?_
        exact .step (State.raise_same ..) (.step (State.tmpLog_same ..) (.step (State.raise_same ..) (.step (State.setRegN_same ..)
          (.refl ..))))
      · refine .next ?_
        exact .step (State.raise_same ..) (.step (State.setRegN_same ..) (.refl ..))

theorem execTamperHit_same (x0 s) :
    After [.free, .regs, .snaps, .dict, .staged, .pairs, .sram, .pwr, .rst, .tmp, .nvs, .cal, .hld, .mtx, .lanes, .convs, .hvs, .cls, .aut, .cip, .threads, .cores, .evt, .trc, .ic, .hk, .dmc, .idc, .sdh, .nq] s (execTamperHit x0 s) := by
  unfold execTamperHit
  refine .ite ?_ ?_
  · refine .next ?_
    exact .refl ..
  · refine .ite ?_ ?_
    · refine .next ?_
      exact .step (State.tmpHit_same ..) (.refl ..)
    · split
      · refine .next ?_
        exact .refl ..
      · refine .next ?_
        exact .step (State.tmpHit_same ..) (.step (State.withTmp_same ..) (.refl ..))

theorem execSramZeroingDone_same (s) :
    After [.regs, .snaps, .dict, .staged, .pairs, .sram, .rst, .trn] s (execSramZeroingDone s) := by
  unfold execSramZeroingDone
  split
  · refine .ite ?_ ?_
    · refine .next ?_
      exact .refl ..
    · refine .next ?_
      exact .step (State.trnStartup_same ..) (.step (State.clearRegs_same ..) (.step (State.withRst_same ..) (.step
        (State.withSram_same ..) (.refl ..))))
  · refine .next ?_
    exact .refl ..

theorem execLogPersistRequest_same (s) :
    After [.now, .regs, .dict, .tmp, .nvs, .cal, .hld, .mtx, .convs, .evt] s (execLogPersistRequest s) := by
  unfold execLogPersistRequest
  split
  · refine .next ?_
    exact .step (State.tmpPersist_same ..) (.step (State.tmpStarted_same ..) (.step (State.advanceTo_same ..) (.refl ..)))
  · refine .next ?_
    exact .refl ..

/-! ### NqSave -/

theorem State.nqEmptyWrite_same (s) : Same [.nvs, .nq] s (State.nqEmptyWrite s) := by
  unfold State.nqEmptyWrite
  refine .ite ?_ ?_
  · exact .step (State.nvsRequest_same ..) (.step (State.withNq_same ..) (.refl ..))
  · exact .refl ..

theorem State.nqBandChange_same (s) : Same [.nvs, .nq] s (State.nqBandChange s) := by
  unfold State.nqBandChange
  refine .ite ?_ ?_
  · exact .step (State.nqEmptyWrite_same ..) (.refl ..)
  · exact .refl ..

theorem State.nqSave_same (s) : Same [.nvs, .nq] s (State.nqSave s).2 := by
  unfold State.nqSave
  refine .ite2 ?_ ?_
  · exact .refl ..
  · refine .ite2 ?_ ?_
    · exact .refl ..
    · refine .ite2 ?_ ?_
      · exact .refl ..
      · refine .ite2 ?_ ?_
        · exact .refl ..
        · exact .step (State.nvsRequest_same ..) (.step (State.withNq_same ..) (.refl ..))

theorem State.nqStoreEnd_same (s x1 x2) : Same [.nq] s (State.nqStoreEnd s x1 x2) := by
  unfold State.nqStoreEnd
  split
  · exact .step (State.withNq_same ..) (.refl ..)
  · refine .ite ?_ ?_
    · exact .step (State.withNq_same ..) (.refl ..)
    · exact .step (State.withNq_same ..) (.refl ..)
  · exact .step (State.withNq_same ..) (.refl ..)
  · exact .refl ..

theorem State.nqLoad_same (s x1) : Same [.nq] s (State.nqLoad s x1) := by
  unfold State.nqLoad
  split
  · exact .refl ..
  · exact .step (State.withNq_same ..) (.refl ..)

/-! ### Holdover -/

theorem hldRead_same (x0 x1 s) : Same [.regs] s (hldRead x0 x1 s).2 := by
  unfold hldRead
  refine .ite2 ?_ ?_
  · exact .step (State.showAlmanac_same ..) (.refl ..)
  · exact .refl ..

theorem State.dacRangeWrite_same (s x1 x2) : Same [.regs, .hld] s (State.dacRangeWrite s x1 x2) := by
  unfold State.dacRangeWrite
  refine .ite ?_ ?_
  · exact .refl ..
  · refine .ite ?_ ?_
    · exact .step (State.setFld_same ..) (.step (State.setReg_same ..) (.refl ..))
    · exact .step (State.setFld_same ..) (.step (State.withHld_same ..) (.refl ..))

theorem State.yNote_same (s) : Same [.hld] s (State.yNote s) := by
  unfold State.yNote
  exact .step (State.withHld_same ..) (.refl ..)

theorem hldWrite_same (x0 x1 x2 x3 s) : Same [.regs, .nvs, .hld, .evt] s (hldWrite x0 x1 x2 x3 s) := by
  unfold hldWrite
  refine .ite ?_ ?_
  · refine .ite ?_ ?_
    · exact .step (State.setFld_same ..) (.step (State.setReg_same ..) (.refl ..))
    · exact .step (State.setFld_same ..) (.step (State.setReg_same ..) (.step (State.yNote_same ..) (.step (State.setReg_same ..)
        (.refl ..))))
  · refine .ite ?_ ?_
    · refine .ite ?_ ?_
      · exact .step (State.setFld_same ..) (.step (State.setReg_same ..) (.refl ..))
      · exact .step (State.setFld_same ..) (.step (State.setReg_same ..) (.step (State.yNote_same ..) (.step (State.setReg_same ..)
          (.refl ..))))
    · refine .ite ?_ ?_
      · exact .step (State.dacRangeWrite_same ..) (.refl ..)
      · refine .ite ?_ ?_
        · exact .step (State.dacRangeWrite_same ..) (.refl ..)
        · refine .ite ?_ ?_
          · exact .step (State.setReg_same ..) (.step (State.yNote_same ..) (.step (State.setReg_same ..) (.refl ..)))
          · refine .ite ?_ ?_
            · exact .step (State.clearAlmanac_same ..) (.refl ..)
            · exact .refl ..

theorem State.dacSteer_same (s x1 x2 x3) : Same [.regs, .hld] s (State.dacSteer s x1 x2 x3) := by
  unfold State.dacSteer
  split
  · split
    · exact .step (State.withHld_same ..) (.refl ..)
    · exact .refl ..
  · split
    · exact .step (State.setFld_same ..) (.step (State.setFld_same ..) (.refl ..))
    · exact .refl ..

theorem State.steerTo_same (s x1 x2) : Same [.regs, .hld] s (State.steerTo s x1 x2) := by
  unfold State.steerTo
  refine .ite ?_ ?_
  · exact .step (State.yNote_same ..) (.refl ..)
  · refine .ite ?_ ?_
    · exact .step (State.setRegN_same ..) (.step (State.yNote_same ..) (.refl ..))
    · exact .step (State.dacSteer_same ..) (.step (State.yNote_same ..) (.refl ..))

theorem State.steerToFloat_same (s x1) : Same [.regs, .hld] s (State.steerToFloat s x1) := by
  unfold State.steerToFloat
  refine .ite ?_ ?_
  · exact .refl ..
  · exact .step (State.steerTo_same ..) (.refl ..)

theorem State.modelApply_same (s) : Same [.regs, .hld] s (State.modelApply s) := by
  unfold State.modelApply
  split
  · refine .ite ?_ ?_
    · exact .step (State.steerToFloat_same ..) (.refl ..)
    · exact .refl ..
  · exact .refl ..

theorem State.resumeHoldover_same (s) : Same [.regs, .hld, .evt] s (State.resumeHoldover s) := by
  unfold State.resumeHoldover
  exact .step (State.modelApply_same ..) (.step (State.withHld_same ..) (.step (State.raise_same ..) (.step (State.setFld_same ..)
    (.refl ..))))

theorem State.anchorDelta_same (s x1) : Same [.free] s (State.anchorDelta s x1).2 := by
  unfold State.anchorDelta
  refine .ite2 ?_ ?_
  · exact .step (State.draw_same ..) (.refl ..)
  · exact .refl ..

theorem State.enterHoldover_same (s x1) : Same [.free, .regs, .nvs, .hld, .evt] s (State.enterHoldover s x1) := by
  unfold State.enterHoldover
  refine .step (State.modelApply_same ..) ?_
  refine .step (State.hldPersist_same ..) ?_
  refine .step (State.raise_same ..) ?_
  refine .step (State.setFld_same ..) ?_
  refine .step (State.setFld_same ..) ?_
  refine .step (State.setRegN_same ..) ?_
  refine .step (State.setRegN_same ..) ?_
  refine .step (State.withHld_same ..) ?_
  refine .ite2 ?_ ?_
  · exact .refl ..
  · exact .step (State.anchorDelta_same ..) (.refl ..)

theorem State.enterFreeRun_same (s) : Same [.regs, .evt] s (State.enterFreeRun s) := by
  unfold State.enterFreeRun
  refine .ite ?_ ?_
  · exact .step (State.setFld_same ..) (.step (State.setFld_same ..) (.refl ..))
  · exact .step (State.raise_same ..) (.step (State.setFld_same ..) (.step (State.setFld_same ..) (.refl ..)))

theorem State.hldFree_same (s) : Same [.free, .regs, .nvs, .hld, .evt] s (State.hldFree s) := by
  unfold State.hldFree
  refine .ite ?_ ?_
  · exact .step (State.enterHoldover_same ..) (.refl ..)
  · exact .step (State.enterFreeRun_same ..) (.step (State.withHld_same ..) (.refl ..))

theorem State.steerMoved_same (s) : Same [.regs, .hld] s (State.steerMoved s) := by
  unfold State.steerMoved
  refine .ite ?_ ?_
  · exact .refl ..
  · exact .step (State.steerTo_same ..) (.step (State.setRegN_same ..) (.refl ..))

theorem State.closeY_same (s) : Same [.hld] s (State.closeY s).2 := by
  unfold State.closeY
  exact .step (State.withHld_same ..) (.step (State.yNote_same ..) (.refl ..))

theorem State.hldSample_same (s x1 x2) : Same [.hld] s (State.hldSample s x1 x2) := by
  unfold State.hldSample
  refine .ite ?_ ?_
  · exact .refl ..
  · exact .step (State.withHld_same ..) (.refl ..)

theorem State.closeTemp_same (s) : Same [.regs, .hld] s (State.closeTemp s) := by
  unfold State.closeTemp
  refine .ite ?_ ?_
  · exact .step (State.withHld_same ..) (.step (State.withHld_same ..) (.refl ..))
  · refine .step (State.setFld_same ..) ?_
    refine .step (State.setFld_same ..) ?_
    refine .ite ?_ ?_
    · exact .step (State.setFld_same ..) (.step (State.withHld_same ..) (.step (State.withHld_same ..) (.refl ..)))
    · exact .step (State.withHld_same ..) (.step (State.withHld_same ..) (.refl ..))

theorem execHoldoverSecond_same (s) : After [.now, .regs, .dict, .cal, .hld, .mtx, .convs, .evt] s (execHoldoverSecond s) := by
  unfold execHoldoverSecond
  split
  · refine .ite ?_ ?_
    · refine .next ?_
      refine .step (State.setRegN_same ..) ?_
      refine .step (State.setRegN_same ..) ?_
      refine .step (State.withHld_same ..) ?_
      refine .ite ?_ ?_
      · exact .step (State.closeTemp_same ..) (.step (State.closeY_same ..) (.step (State.advanceTo_same ..) (.refl ..)))
      · exact .step (State.advanceTo_same ..) (.refl ..)
    · refine .next ?_
      refine .ite ?_ ?_
      · refine .step (State.enterFreeRun_same ..) ?_
        refine .ite ?_ ?_
        · refine .step (State.raise_same ..) ?_
          refine .step (State.withHld_same ..) ?_
          refine .step (State.setRegN_same ..) ?_
          refine .step (State.setRegN_same ..) ?_
          refine .step (State.withHld_same ..) ?_
          refine .ite ?_ ?_
          · exact .step (State.closeTemp_same ..) (.step (State.closeY_same ..) (.step (State.advanceTo_same ..) (.refl ..)))
          · exact .step (State.advanceTo_same ..) (.refl ..)
        · refine .step (State.setRegN_same ..) ?_
          refine .step (State.setRegN_same ..) ?_
          refine .step (State.withHld_same ..) ?_
          refine .ite ?_ ?_
          · exact .step (State.closeTemp_same ..) (.step (State.closeY_same ..) (.step (State.advanceTo_same ..) (.refl ..)))
          · exact .step (State.advanceTo_same ..) (.refl ..)
      · refine .ite ?_ ?_
        · refine .step (State.raise_same ..) ?_
          refine .step (State.withHld_same ..) ?_
          refine .step (State.setRegN_same ..) ?_
          refine .step (State.setRegN_same ..) ?_
          refine .step (State.withHld_same ..) ?_
          refine .ite ?_ ?_
          · exact .step (State.closeTemp_same ..) (.step (State.closeY_same ..) (.step (State.advanceTo_same ..) (.refl ..)))
          · exact .step (State.advanceTo_same ..) (.refl ..)
        · refine .step (State.setRegN_same ..) ?_
          refine .step (State.setRegN_same ..) ?_
          refine .step (State.withHld_same ..) ?_
          refine .ite ?_ ?_
          · exact .step (State.closeTemp_same ..) (.step (State.closeY_same ..) (.step (State.advanceTo_same ..) (.refl ..)))
          · exact .step (State.advanceTo_same ..) (.refl ..)
  · refine .next ?_
    exact .refl ..

theorem execTaiDayBoundary_same (s) : After [.now, .regs, .dict, .cal, .hld, .mtx, .convs, .evt] s (execTaiDayBoundary s) := by
  unfold execTaiDayBoundary
  refine .ite ?_ ?_
  · refine .next ?_
    exact .refl ..
  · refine .next ?_
    exact .step (State.judgeClass_same ..) (.step (State.showAlmanac_same ..) (.step (State.withHld_same ..) (.step
      (State.advance_same ..) (.refl ..))))

theorem State.learnAccept_same (s x1 x2 x3 x4 x5 x6) : Same [.regs, .hld, .evt] s (State.learnAccept s x1 x2 x3 x4 x5 x6) := by
  unfold State.learnAccept
  exact .step (State.judgeClass_same ..) (.step (State.showAlmanac_same ..) (.step (State.withHld_same ..) (.step
    (State.countWide_same ..) (.refl ..))))

theorem execRetentionCopyWrite_same (s) :
    After [.now, .regs, .dict, .cal, .hld, .mtx, .convs, .evt] s (execRetentionCopyWrite s) := by
  unfold execRetentionCopyWrite
  refine .ite ?_ ?_
  · refine .next ?_
    exact .refl ..
  · refine .next ?_
    exact .step (State.withHld_same ..) (.step (State.advanceTo_same ..) (.refl ..))

theorem execAlmanacPersistRequest_same (s) :
    After [.now, .regs, .dict, .nvs, .cal, .hld, .mtx, .convs, .evt] s (execAlmanacPersistRequest s) := by
  unfold execAlmanacPersistRequest
  refine .ite ?_ ?_
  · refine .next ?_
    exact .refl ..
  · refine .next ?_
    refine .ite ?_ ?_
    · exact .step (State.hldPersist_same ..) (.step (State.withHld_same ..) (.step (State.advanceTo_same ..) (.refl ..)))
    · exact .step (State.withHld_same ..) (.step (State.advanceTo_same ..) (.refl ..))

theorem State.dacPreset_same (s x1) : Same [.regs, .hld] s (State.dacPreset s x1) := by
  unfold State.dacPreset
  dsimp only
  split
  · exact .step (State.setFld_same ..) (.step (State.setFld_same ..) (.step (State.yNote_same ..) (.refl ..)))
  · exact .step (State.setFld_same ..) (.step (State.setFld_same ..) (.step (State.yNote_same ..) (.refl ..)))

theorem execDacRangeChangeDone_same (x0 s) : After [.regs, .hld, .evt] s (execDacRangeChangeDone x0 s) := by
  unfold execDacRangeChangeDone
  split
  · refine .next ?_
    exact .step (State.raise_same ..) (.step (State.setFld_same ..) (.step (State.setFld_same ..) (.step (State.withHld_same ..)
      (.step (State.yNote_same ..) (.refl ..)))))
  · refine .next ?_
    exact .refl ..

theorem execModelCorrection_same (s) :
    After [.now, .regs, .dict, .cal, .hld, .mtx, .convs, .evt] s (execModelCorrection s) := by
  unfold execModelCorrection
  refine .ite ?_ ?_
  · refine .next ?_
    exact .refl ..
  · refine .next ?_
    exact .step (State.withHld_same ..) (.step (State.modelApply_same ..) (.step (State.advanceTo_same ..) (.refl ..)))

theorem State.learnReject_same (s) : Same [.regs, .dict] s (State.learnReject s) := by
  unfold State.learnReject
  exact .step (State.count_same ..) (.refl ..)

theorem State.createAlmanac_same (s) : Same [.regs, .hld, .evt] s (State.createAlmanac s) := by
  unfold State.createAlmanac
  refine .ite ?_ ?_
  · exact .step (State.judgeClass_same ..) (.step (State.showAlmanac_same ..) (.step (State.withHld_same ..) (.refl ..)))
  · exact .refl ..

theorem State.learn_same (s x1 x2) : Same [.regs, .dict, .hld, .evt] s (State.learn s x1 x2) := by
  unfold State.learn
  refine .ite ?_ ?_
  · exact .step (State.learnReject_same ..) (.refl ..)
  · exact .step (State.learnAccept_same ..) (.refl ..)

theorem execLearnerUpdate_same (s) : After [.now, .regs, .dict, .cal, .hld, .mtx, .convs, .evt] s (execLearnerUpdate s) := by
  unfold execLearnerUpdate
  refine .ite ?_ ?_
  · refine .next ?_
    exact .refl ..
  · refine .ite ?_ ?_
    · refine .next ?_
      exact .step (State.withHld_same ..) (.step (State.createAlmanac_same ..) (.step (State.closeTemp_same ..) (.step
        (State.closeY_same ..) (.step (State.advanceTo_same ..) (.refl ..)))))
    · split
      · refine .next ?_
        exact .step (State.learnReject_same ..) (.step (State.withHld_same ..) (.step (State.createAlmanac_same ..) (.step
          (State.closeTemp_same ..) (.step (State.closeY_same ..) (.step (State.advanceTo_same ..) (.refl ..))))))
      · refine .ite ?_ ?_
        · refine .next ?_
          exact .step (State.learnReject_same ..) (.step (State.withHld_same ..) (.step (State.createAlmanac_same ..) (.step
            (State.closeTemp_same ..) (.step (State.closeY_same ..) (.step (State.advanceTo_same ..) (.refl ..))))))
        · refine .next ?_
          exact .step (State.learn_same ..) (.step (State.withHld_same ..) (.step (State.createAlmanac_same ..) (.step
            (State.closeTemp_same ..) (.step (State.closeY_same ..) (.step (State.advanceTo_same ..) (.refl ..))))))

theorem execTempLost_same (s) : After [.now, .regs, .dict, .cal, .hld, .mtx, .convs, .evt] s (execTempLost s) := by
  unfold execTempLost
  refine .ite ?_ ?_
  · refine .next ?_
    exact .refl ..
  · refine .next ?_
    exact .step (State.raise_same ..) (.step (State.setFld_same ..) (.step (State.setFld_same ..) (.step (State.advanceTo_same ..)
      (.refl ..))))

theorem State.takeAlmanac_same (s x1 x2) : Same [.regs, .hld] s (State.takeAlmanac s x1 x2) := by
  unfold State.takeAlmanac
  refine .ite ?_ ?_
  · exact .refl ..
  · refine .ite ?_ ?_
    · exact .step (State.setFld_same ..) (.step (State.setFld_same ..) (.refl ..))
    · exact .step (State.setReg_same ..) (.step (State.setFlag_same ..) (.step (State.withHld_same ..) (.step (State.setFld_same ..)
        (.refl ..))))

theorem execAlmanacLoad_same (s) : After [.free, .regs, .nvs, .hld, .evt] s (execAlmanacLoad s) := by
  unfold execAlmanacLoad
  refine .ite ?_ ?_
  · exact .next (.refl ..)
  · refine .next ?_
    have h : ∀ t : State, Same [.free, .regs, .nvs, .hld, .evt] s t → Same [.free, .regs, .nvs, .hld, .evt] s
        (if t.dpll = 0 then t.hldFree else t) := fun t ht => .ite (.step (State.hldFree_same ..) ht) ht
    refine h _ ?_
    refine .step (State.judgeClass_same ..) (.step (State.showAlmanac_same ..) ?_)
    split
    · refine .step (State.takeAlmanac_same ..) (.step (State.setFld_same ..) ?_)
      refine .foldl _ (fun _ _ ht => .ite (.step (State.raise_same ..) ht) ht) _ ?_
      exact .step (State.setFld_same ..) (.step (State.withHld_same ..) (.refl ..))
    · refine .ite ?_ (.step (State.setFld_same ..) ?_) <;>
      · refine .step (State.setFld_same ..) ?_
        refine .foldl _ (fun _ _ ht => .ite (.step (State.raise_same ..) ht) ht) _ ?_
        exact .step (State.setFld_same ..) (.step (State.withHld_same ..) (.refl ..))

/-! ### House -/

theorem State.bandChange_same (s x1) : Same [.regs, .nvs, .lanes, .evt, .hk, .dmc, .nq] s (State.bandChange s x1) := by
  unfold State.bandChange
  refine .step (State.nqBandChange_same ..) ?_
  refine .step (State.tmpBandChange_same ..) ?_
  refine .step (State.hldBandChange_same ..) ?_
  refine .step (State.lanesBand_same ..) ?_
  refine .ite ?_ ?_
  · refine .ite ?_ ?_
    · refine .step (State.withDmc_same ..) ?_
      refine .step (State.withHk_same ..) ?_
      refine .ite ?_ ?_
      · exact .step (State.raise_same ..) (.step (State.raise_same ..) (.step (State.setFld_same ..) (.step (State.setFld_same ..)
          (.refl ..))))
      · exact .step (State.raise_same ..) (.step (State.setFld_same ..) (.step (State.setFld_same ..) (.refl ..)))
    · refine .step (State.withHk_same ..) ?_
      refine .ite ?_ ?_
      · exact .step (State.raise_same ..) (.step (State.raise_same ..) (.step (State.setFld_same ..) (.step (State.setFld_same ..)
          (.refl ..))))
      · exact .step (State.raise_same ..) (.step (State.setFld_same ..) (.step (State.setFld_same ..) (.refl ..)))
  · refine .step (State.setFld_same ..) ?_
    refine .ite ?_ ?_
    · refine .step (State.withDmc_same ..) ?_
      refine .step (State.withHk_same ..) ?_
      refine .ite ?_ ?_
      · exact .step (State.raise_same ..) (.step (State.raise_same ..) (.step (State.setFld_same ..) (.step (State.setFld_same ..)
          (.refl ..))))
      · exact .step (State.raise_same ..) (.step (State.setFld_same ..) (.step (State.setFld_same ..) (.refl ..)))
    · refine .step (State.withHk_same ..) ?_
      refine .ite ?_ ?_
      · exact .step (State.raise_same ..) (.step (State.raise_same ..) (.step (State.setFld_same ..) (.step (State.setFld_same ..)
          (.refl ..))))
      · exact .step (State.raise_same ..) (.step (State.setFld_same ..) (.step (State.setFld_same ..) (.refl ..)))

theorem State.judgeBand_same (s x1) : Same [.regs, .nvs, .lanes, .evt, .hk, .dmc, .nq] s (State.judgeBand s x1) := by
  unfold State.judgeBand
  refine .ite ?_ ?_
  · refine .ite ?_ ?_
    · exact .step (State.setFld_same ..) (.step (State.setFld_same ..) (.step (State.withHk_same ..) (.refl ..)))
    · exact .step (State.bandChange_same ..) (.step (State.withHk_same ..) (.refl ..))
  · refine .ite ?_ ?_
    · exact .step (State.withHk_same ..) (.refl ..)
    · refine .ite ?_ ?_
      · exact .step (State.bandChange_same ..) (.step (State.withHk_same ..) (.refl ..))
      · exact .step (State.withHk_same ..) (.refl ..)

theorem hkRead_same (x0 x1 s) : Same [] s (hkRead x0 x1 s).2 := by
  unfold hkRead
  refine .ite2 ?_ ?_
  · exact .refl ..
  · exact .refl ..

theorem hkWrite_same (x0 x1 x2 x3 s) : Same [.regs, .hk] s (hkWrite x0 x1 x2 x3 s) := by
  unfold hkWrite
  refine .ite ?_ ?_
  · refine .ite ?_ ?_
    · exact .step (State.setFld_same ..) (.step (State.withHk_same ..) (.refl ..))
    · refine .ite ?_ ?_
      · exact .refl ..
      · refine .ite ?_ ?_
        · exact .step (State.withHk_same ..) (.refl ..)
        · exact .step (State.withHk_same ..) (.refl ..)
  · refine .ite ?_ ?_
    · exact .step (State.setFld_same ..) (.refl ..)
    · refine .ite ?_ ?_
      · refine .ite ?_ ?_
        · exact .refl ..
        · refine .ite ?_ ?_
          · exact .step (State.setFld_same ..) (.step (State.setFld_same ..) (.refl ..))
          · exact .step (State.setFld_same ..) (.step (State.withHk_same ..) (.step (State.setFld_same ..) (.refl ..)))
      · refine .ite ?_ ?_
        · exact .step (State.setFld_same ..) (.refl ..)
        · refine .ite ?_ ?_
          · exact .step (State.setFld_same ..) (.refl ..)
          · refine .ite ?_ ?_
            · exact .step (State.setFld_same ..) (.refl ..)
            · exact .refl ..

theorem State.judgeCharger_same (s) : Same [.regs] s (State.judgeCharger s) := by
  unfold State.judgeCharger
  exact .step (State.setFlag_same ..) (.refl ..)

theorem State.hkAin_same (s x1 x2) : Same [.regs, .evt] s (State.hkAin s x1 x2) := by
  unfold State.hkAin
  refine .ite ?_ ?_
  · exact .step (State.raise_same ..) (.step (State.setRegN_same ..) (.refl ..))
  · refine .ite ?_ ?_
    · exact .step (State.setRegN_same ..) (.refl ..)
    · exact .refl ..

theorem State.judgeRate_same (s x1) : Same [.regs, .evt, .hk] s (State.judgeRate s x1) := by
  unfold State.judgeRate
  refine .ite ?_ ?_
  · exact .step (State.withHk_same ..) (.refl ..)
  · refine .ite ?_ ?_
    · exact .step (State.raise_same ..) (.step (State.setRegN_same ..) (.step (State.withHk_same ..) (.refl ..)))
    · exact .step (State.withHk_same ..) (.refl ..)

theorem State.hkSupply_same (s x1 x2) : Same [.regs, .evt, .hk] s (State.hkSupply s x1 x2) := by
  unfold State.hkSupply
  refine .ite ?_ ?_
  · exact .step (State.withHk_same ..) (.refl ..)
  · refine .ite ?_ ?_
    · exact .step (State.raise_same ..) (.step (State.setRegN_same ..) (.step (State.withHk_same ..) (.refl ..)))
    · exact .step (State.setRegN_same ..) (.step (State.withHk_same ..) (.refl ..))

theorem State.hkRor_same (s x1 x2) : Same [.hk] s (State.hkRor s x1 x2) := by
  unfold State.hkRor
  exact .step (State.withHk_same ..) (.refl ..)

theorem State.hkUse_same (s x1 x2 x3 x4) : Same [.regs, .hld, .evt, .hk] s (State.hkUse s x1 x2 x3 x4) := by
  unfold State.hkUse
  refine .ite ?_ ?_
  · refine .ite ?_ ?_
    · exact .step (State.hldSample_same ..) (.refl ..)
    · exact .refl ..
  · refine .ite ?_ ?_
    · refine .step (State.hkRor_same ..) ?_
      refine .ite ?_ ?_
      · exact .step (State.hldSample_same ..) (.refl ..)
      · exact .refl ..
    · refine .ite ?_ ?_
      · refine .step (State.hkSupply_same ..) ?_
        refine .ite ?_ ?_
        · exact .step (State.hldSample_same ..) (.refl ..)
        · exact .refl ..
      · refine .ite ?_ ?_
        · refine .step (State.hkRor_same ..) ?_
          refine .ite ?_ ?_
          · exact .step (State.hldSample_same ..) (.refl ..)
          · exact .refl ..
        · refine .ite ?_ ?_
          · refine .step (State.hkRor_same ..) ?_
            refine .step (State.withHk_same ..) ?_
            refine .ite ?_ ?_
            · exact .step (State.hldSample_same ..) (.refl ..)
            · exact .refl ..
          · refine .ite ?_ ?_
            · refine .step (State.hkAin_same ..) ?_
              refine .ite ?_ ?_
              · exact .step (State.hldSample_same ..) (.refl ..)
              · exact .refl ..
            · refine .ite ?_ ?_
              · exact .step (State.hldSample_same ..) (.refl ..)
              · exact .refl ..

theorem State.judgeCrit_same (s x1) : Same [.regs, .dict, .pwr, .evt, .hk] s (State.judgeCrit s x1) := by
  unfold State.judgeCrit
  refine .ite ?_ ?_
  · refine .ite ?_ ?_
    · exact .step (State.shed_same ..) (.step (State.raise_same ..) (.step (State.withHk_same ..) (.step (State.withHk_same ..)
        (.refl ..))))
    · exact .step (State.raise_same ..) (.step (State.withHk_same ..) (.step (State.withHk_same ..) (.refl ..)))
  · refine .ite ?_ ?_
    · exact .step (State.withHk_same ..) (.step (State.withHk_same ..) (.refl ..))
    · exact .step (State.withHk_same ..) (.refl ..)

theorem State.judgeSpread_same (s x1) : Same [.regs, .evt, .hk] s (State.judgeSpread s x1) := by
  unfold State.judgeSpread
  refine .ite ?_ ?_
  · exact .step (State.raise_same ..) (.step (State.setFld_same ..) (.step (State.withHk_same ..) (.refl ..)))
  · refine .ite ?_ ?_
    · exact .step (State.setFld_same ..) (.step (State.withHk_same ..) (.refl ..))
    · exact .step (State.withHk_same ..) (.refl ..)

theorem State.roundEnd_same (s) : Same [.regs, .dict, .pwr, .nvs, .lanes, .evt, .hk, .dmc, .nq] s (State.roundEnd s) := by
  unfold State.roundEnd
  refine .ite ?_ ?_
  · refine .step (State.setFld_same ..) ?_
    refine .step (State.withHk_same ..) ?_
    refine .step (State.judgeCharger_same ..) ?_
    split
    · exact .step (State.withHk_same ..) (.step (State.raise_same ..) (.step (State.count_same ..) (.refl ..)))
    · exact .step (State.judgeCrit_same ..) (.step (State.judgeBand_same ..) (.step (State.judgeSpread_same ..) (.step
        (State.setRegN_same ..) (.step (State.withHk_same ..) (.step (State.raise_same ..) (.step (State.count_same ..) (.refl ..)))))))
  · refine .step (State.judgeCharger_same ..) ?_
    split
    · exact .step (State.withHk_same ..) (.step (State.raise_same ..) (.step (State.count_same ..) (.refl ..)))
    · exact .step (State.judgeCrit_same ..) (.step (State.judgeBand_same ..) (.step (State.judgeSpread_same ..) (.step
        (State.setRegN_same ..) (.step (State.withHk_same ..) (.step (State.raise_same ..) (.step (State.count_same ..) (.refl ..)))))))

theorem State.roundFree_same (s x1 x2) : Same [.free] s (State.roundFree s x1 x2).2 := by
  unfold roundFree
  exact .ite2 (.refl ..) (.step (drawIn_same s 0 1) (.refl ..))

theorem State.thermistor_same (s x1 x2) : Same [.free] s (State.thermistor s x1 x2).2 := by
  unfold State.thermistor
  exact .step (State.roundFree_same ..) (.refl ..)

theorem State.hkValue_same (s x1 x2 x3 x4) : Same [.free] s (State.hkValue s x1 x2 x3 x4).2 := by
  unfold State.hkValue
  refine .ite2 ?_ ?_
  · exact .refl ..
  · refine .ite2 ?_ ?_
    · exact .step (State.thermistor_same ..) (.refl ..)
    · exact .step (State.roundFree_same ..) (.refl ..)

theorem State.convert_same (s x1 x2 x3 x4) : Same [.free, .regs, .dict, .evt, .hk] s (State.convert s x1 x2 x3 x4).2 := by
  unfold State.convert
  refine .step (State.hkValue_same ..) ?_
  refine .ite ?_ ?_
  · refine .step (State.withHk_same ..) ?_
    refine .ite ?_ ?_
    · refine .step (State.count_same ..) ?_
      refine .ite ?_ ?_
      · exact .step (State.count_same ..) (.refl ..)
      · exact .refl ..
    · refine .step (State.raise_same ..) ?_
      refine .step (State.count_same ..) ?_
      refine .ite ?_ ?_
      · exact .step (State.count_same ..) (.refl ..)
      · exact .refl ..
  · refine .ite ?_ ?_
    · exact .step (State.count_same ..) (.refl ..)
    · exact .refl ..

theorem State.calTake_same (s x1 x2) :
    Same [.now, .free, .regs, .dict, .cal, .hld, .mtx, .convs, .evt, .hk] s (State.calTake s x1 x2) := by
  unfold State.calTake
  refine .ite ?_ ?_
  · exact .step (State.withHk_same ..) (.step (State.advanceTo_same ..) (.refl ..))
  · refine .ite ?_ ?_
    · exact .step (State.withHk_same ..) (.step (State.withHk_same ..) (.step (State.advanceTo_same ..) (.refl ..)))
    · exact .step (State.setFld_same ..) (.step (State.setRegN_same ..) (.step (State.withHk_same ..) (.step (State.drawIn_same ..)
        (.step (State.drawIn_same ..) (.step (State.withHk_same ..) (.step (State.advanceTo_same ..) (.refl ..)))))))

theorem execCalibrationStep_same (s) :
    After [.now, .free, .regs, .dict, .cal, .hld, .mtx, .convs, .evt, .hk] s (execCalibrationStep s) := by
  unfold execCalibrationStep
  split
  · refine .ite ?_ ?_
    · refine .next ?_
      exact .step (State.calTake_same ..) (.refl ..)
    · refine .ite ?_ ?_
      · refine .next ?_
        exact .step (State.calTake_same ..) (.step (State.raise_same ..) (.step (State.count_same ..) (.refl ..)))
      · refine .ite ?_ ?_
        · refine .next ?_
          exact .refl ..
        · refine .next ?_
          exact .step (State.count_same ..) (.step (State.withHk_same ..) (.refl ..))
  · refine .next ?_
    exact .refl ..

theorem execConversionComplete_same (x0 x1 s) :
    After [.now, .free, .regs, .dict, .pwr, .nvs, .cal, .hld, .mtx, .lanes, .convs, .evt, .hk, .dmc, .nq] s (execConversionComplete x0 x1 s) := by
  unfold execConversionComplete
  refine .ite ?_ ?_
  · refine .next ?_
    exact .refl ..
  · refine .ite ?_ ?_
    · refine .next ?_
      exact .step (State.raise_same ..) (.step (State.count_same ..) (.step (State.setFld_same ..) (.step (State.setRegN_same ..)
        (.step (State.withHk_same ..) (.step (State.convert_same ..) (.step (State.advanceTo_same ..) (.refl ..)))))))
    · refine .ite ?_ ?_
      · refine .next ?_
        refine .ite ?_ ?_
        · exact .step (State.roundEnd_same ..) (.step (State.hkUse_same ..) (.step (State.setRegN_same ..) (.step
            (State.withHk_same ..) (.step (State.convert_same ..) (.step (State.advanceTo_same ..) (.refl ..))))))
        · exact .step (State.hkUse_same ..) (.step (State.setRegN_same ..) (.step (State.withHk_same ..) (.step
            (State.convert_same ..) (.step (State.advanceTo_same ..) (.refl ..)))))
      · refine .next ?_
        exact .refl ..

theorem execRateOfRise_same (s) : After [.now, .regs, .dict, .cal, .hld, .mtx, .convs, .evt, .hk] s (execRateOfRise s) := by
  unfold execRateOfRise
  refine .ite ?_ ?_
  · refine .next ?_
    exact .refl ..
  · refine .next ?_
    refine .step (State.withHk_same ..) ?_
    refine .foldl _ (fun _ _ _ => ?_) _ ?_
    · exact .step (State.judgeRate_same ..) ‹_›
    · exact .step (State.advanceTo_same ..) (.refl ..)

theorem execRoundStart_same (s) : After [.now, .regs, .dict, .cal, .hld, .mtx, .convs, .evt, .hk] s (execRoundStart s) := by
  unfold execRoundStart
  refine .ite ?_ ?_
  · refine .next ?_
    exact .refl ..
  · refine .next ?_
    exact .step (State.withHk_same ..) (.step (State.advanceTo_same ..) (.refl ..))

theorem State.hkUp_same (s) : Same [.hk] s (State.hkUp s) := by
  unfold State.hkUp
  exact .step (State.withHk_same ..) (.refl ..)

end Sys2Proof.Machine
end

