-- ==== Sys2Proof/Laws/SameClock.lean ====
section
/-! SUPPORT. Which parts of the state the operations leave as they were: threads, the public-key engine, rate conversion, time base and media. -/

-- Theorems one after another: a thread for each would take more memory than there is.
set_option Elab.async false

namespace Sys2Proof.Machine

/-! ### Threads -/

theorem State.modCore_same (s x1 x2) : Same [.cores] s (State.modCore s x1 x2) := by
  unfold State.modCore
  exact .step (State.withCores_same ..) (.refl ..)

theorem evtRead_same (x0 x1 s) : Same [] s (evtRead x0 x1 s).2 := by
  unfold evtRead
  refine .ite2 ?_ ?_
  · split
    · exact .refl ..
    · exact .refl ..
  · refine .ite2 ?_ ?_
    · refine .ite2 ?_ ?_
      · exact .refl ..
      · exact .refl ..
    · exact .refl ..

theorem hzRead_same (x0 x1 s) : Same [] s (hzRead x0 x1 s).2 := by
  unfold hzRead
  refine .ite2 ?_ ?_
  · exact .refl ..
  · dsimp only
    split
    · refine .ite2 ?_ ?_
      · exact .refl ..
      · exact .refl ..
    · refine .ite2 ?_ ?_
      · exact .refl ..
      · refine .ite2 ?_ ?_
        · exact .refl ..
        · refine .ite2 ?_ ?_
          · exact .refl ..
          · refine .ite2 ?_ ?_
            · exact .refl ..
            · refine .ite2 ?_ ?_
              · exact .refl ..
              · refine .ite2 ?_ ?_
                · exact .refl ..
                · exact .refl ..

theorem State.startThread_same (s x1) : Same [.regs, .dict, .threads, .trc] s (State.startThread s x1) := by
  unfold State.startThread
  refine .ite ?_ ?_
  · exact .step (State.trace_same ..) (.step (State.setRun_same ..) (.step (State.modThr_same ..) (.refl ..)))
  · exact .step (State.setFld_same ..) (.refl ..)

theorem State.signal_same (s x1 x2) : Same [.regs, .dict, .threads, .evt] s (State.signal s x1 x2) := by
  unfold State.signal
  refine .ite ?_ ?_
  · exact .step (State.modThr_same ..) (.refl ..)
  · exact .step (State.raise_same ..) (.step (State.count_same ..) (.refl ..))

theorem hzWrite_same (x0 x1 x2 x3 s) : Same [.regs, .dict, .threads, .evt, .trc] s (hzWrite x0 x1 x2 x3 s) := by
  unfold hzWrite
  split
  · exact .refl ..
  · refine .ite ?_ ?_
    · refine .ite ?_ ?_
      · refine .step (State.stopThread_same ..) ?_
        refine .ite ?_ ?_
        · exact .step (State.startThread_same ..) (.step (State.setFld_same ..) (.step (State.setFld_same ..) (.refl ..)))
        · exact .step (State.setFld_same ..) (.step (State.setFld_same ..) (.refl ..))
      · refine .ite ?_ ?_
        · exact .step (State.startThread_same ..) (.step (State.setFld_same ..) (.step (State.setFld_same ..) (.refl ..)))
        · exact .step (State.setFld_same ..) (.step (State.setFld_same ..) (.refl ..))
    · refine .ite ?_ ?_
      · exact .step (State.signal_same ..) (.step (State.setRegN_same ..) (.refl ..))
      · exact .refl ..

theorem evtWrite_same (x0 x1 x2 x3 s) : Same [.regs, .evt] s (evtWrite x0 x1 x2 x3 s) := by
  unfold evtWrite
  refine .ite ?_ ?_
  · refine .ite ?_ ?_
    · exact .step (State.setReg_same ..) (.refl ..)
    · refine .ite ?_ ?_
      · exact .step (State.setRegN_same ..) (.refl ..)
      · exact .refl ..
  · refine .ite ?_ ?_
    · refine .foldl _ (fun _ _ _ => ?_) _ ?_
      · refine .ite ?_ ?_
        · exact .step (State.setRegN_same ..) ‹_›
        · assumption
      · exact .refl ..
    · refine .ite ?_ ?_
      · refine .foldl _ (fun _ _ _ => ?_) _ ?_
        · refine .ite ?_ ?_
          · exact .step (State.raise_same ..) ‹_›
          · assumption
        · exact .step (State.setRegN_same ..) (.refl ..)
      · exact .refl ..

theorem State.doubleFaultReset_same (s) :
    Same [.regs, .snaps, .dict, .staged, .pairs, .pwr, .rst, .tmp, .cal, .hld, .mtx, .lanes, .convs, .hvs, .cls, .aut, .cip, .threads, .cores, .evt, .trc, .ic, .hk, .dmc, .idc, .sdh, .nq] s (State.doubleFaultReset s) := by
  unfold State.doubleFaultReset
  refine .ite ?_ ?_
  · exact .step (State.setFld_same ..) (.refl ..)
  · exact .step (State.systemReset_same ..) (.refl ..)

theorem State.doubleFault_same (s x1 x2 x3 x4) :
    Same [.regs, .snaps, .dict, .staged, .pairs, .pwr, .rst, .tmp, .cal, .hld, .mtx, .lanes, .convs, .hvs, .cls, .aut, .cip, .threads, .cores, .evt, .trc, .ic, .hk, .dmc, .idc, .sdh, .nq] s (State.doubleFault s x1 x2 x3 x4) := by
  unfold State.doubleFault
  refine .ite ?_ ?_
  · refine .step (State.doubleFaultReset_same ..) ?_
    refine .step (State.raise_same ..) ?_
    refine .step (State.count_same ..) ?_
    refine .ite ?_ ?_
    · exact .step (State.setFld_same ..) (.step (State.setRun_same ..) (.refl ..))
    · exact .step (State.setReg_same ..) (.step (State.setReg_same ..) (.step (State.setReg_same ..) (.step (State.setRegN_same ..)
        (.step (State.setRun_same ..) (.refl ..)))))
  · refine .step (State.raise_same ..) ?_
    refine .step (State.count_same ..) ?_
    refine .ite ?_ ?_
    · exact .step (State.setFld_same ..) (.step (State.setRun_same ..) (.refl ..))
    · exact .step (State.setReg_same ..) (.step (State.setReg_same ..) (.step (State.setReg_same ..) (.step (State.setRegN_same ..)
        (.step (State.setRun_same ..) (.refl ..)))))

theorem State.trapEnter_same (s x1 x2 x3 x4 x5 x6) :
    Same [.regs, .dict, .threads, .trc] s (State.trapEnter s x1 x2 x3 x4 x5 x6) := by
  unfold State.trapEnter
  exact .step (State.trace_same ..) (.step (State.trace_same ..) (.step (State.modThr_same ..) (.refl ..)))

theorem State.trapSync_same (s x1 x2 x3) :
    Same [.regs, .snaps, .dict, .staged, .pairs, .pwr, .rst, .tmp, .cal, .hld, .mtx, .lanes, .convs, .hvs, .cls, .aut, .cip, .threads, .cores, .evt, .trc, .ic, .hk, .dmc, .idc, .sdh, .nq] s (State.trapSync s x1 x2 x3) := by
  unfold State.trapSync
  refine .ite ?_ ?_
  · exact .step (State.doubleFault_same ..) (.refl ..)
  · exact .step (State.trapEnter_same ..) (.refl ..)

theorem State.takeEvent_same (s x1 x2) : Same [.regs, .dict, .threads, .evt, .trc] s (State.takeEvent s x1 x2) := by
  unfold State.takeEvent
  exact .step (State.trapEnter_same ..) (.step (State.withEvt_same ..) (.step (State.setRegN_same ..) (.refl ..)))

theorem State.setThrReg_same (s x1 x2 x3) : Same [.threads] s (State.setThrReg s x1 x2 x3) := by
  unfold State.setThrReg
  exact .step (State.modThr_same ..) (.refl ..)

theorem State.wakeCore_same (s x1 x2) : Same [.regs, .dict, .cores, .trc] s (State.wakeCore s x1 x2) := by
  unfold State.wakeCore
  refine .ite ?_ ?_
  · exact .step (State.trace_same ..) (.step (State.modCore_same ..) (.refl ..))
  · exact .refl ..

theorem State.wake_same (s x1 x2) : Same [.regs, .dict, .threads, .cores, .evt, .trc] s (State.wake s x1 x2) := by
  unfold State.wake
  dsimp only
  split
  · exact .step (State.takeEvent_same ..) (.step (State.modThr_same ..) (.step (State.setRun_same ..) (.step (State.wakeCore_same ..)
      (.refl ..))))
  · exact .step (State.modThr_same ..) (.step (State.setRun_same ..) (.step (State.wakeCore_same ..) (.refl ..)))

theorem execEventTrap_same (x0 s) : After [.regs, .dict, .threads, .cores, .evt, .trc] s (execEventTrap x0 s) := by
  unfold execEventTrap
  refine .ite ?_ ?_
  · refine .next ?_
    exact .refl ..
  · refine .ite ?_ ?_
    · refine .next ?_
      refine .ite ?_ ?_
      · exact .step (State.wake_same ..) (.refl ..)
      · exact .refl ..
    · refine .ite ?_ ?_
      · split
        · refine .next ?_
          exact .step (State.takeEvent_same ..) (.step (State.wakeCore_same ..) (.refl ..))
        · refine .next ?_
          exact .refl ..
      · refine .next ?_
        exact .refl ..

theorem execAllWaitConfirmed_same (s) :
    After [.now, .regs, .snaps, .dict, .staged, .pairs, .pwr, .rst, .tmp, .cal, .hld, .mtx, .lanes, .convs, .hvs, .cls, .aut, .cip, .threads, .cores, .evt, .trc, .ic, .hk, .dmc, .idc, .sdh, .nq] s (execAllWaitConfirmed s) := by
  unfold execAllWaitConfirmed
  split
  · refine .next ?_
    refine .ite ?_ ?_
    · exact .step (State.doubleFault_same ..) (.step (State.wake_same ..) (.step (State.raise_same ..) (.step (State.count_same ..)
        (.step (State.advanceTo_same ..) (.refl ..)))))
    · exact .step (State.wake_same ..) (.step (State.raise_same ..) (.step (State.count_same ..) (.step (State.advanceTo_same ..)
        (.refl ..))))
  · refine .next ?_
    exact .refl ..

theorem execLevel7Redirection_same (x0 s) :
    After [.now, .regs, .dict, .cal, .hld, .mtx, .convs, .evt] s (execLevel7Redirection x0 s) := by
  unfold execLevel7Redirection
  dsimp only
  split
  · refine .ite ?_ ?_
    · refine .next ?_
      exact .refl ..
    · split
      · refine .next ?_
        refine .step (State.raise_same ..) ?_
        refine .step (State.count_same ..) ?_
        refine .step (State.withEvt_same ..) ?_
        refine .ite ?_ ?_
        · exact .step (State.advanceTo_same ..) (.refl ..)
        · exact .refl ..
      · refine .next ?_
        refine .ite ?_ ?_
        · exact .step (State.advanceTo_same ..) (.refl ..)
        · exact .refl ..
  · refine .next ?_
    exact .refl ..

theorem execEventRaised_same (x0 s) : After [.regs, .evt] s (execEventRaised x0 s) := by
  unfold execEventRaised
  refine .next ?_
  exact .step (State.raise_same ..) (.refl ..)

theorem execEwaitWake_same (x0 s) : After [.regs, .dict, .threads, .cores, .evt, .trc] s (execEwaitWake x0 s) := by
  unfold execEwaitWake
  refine .next ?_
  refine .ite ?_ ?_
  · exact .step (State.wake_same ..) (.refl ..)
  · exact .refl ..

theorem execWtimExpiry_same (x0 s) :
    After [.now, .regs, .dict, .cal, .hld, .mtx, .convs, .threads, .cores, .evt, .trc] s (execWtimExpiry x0 s) := by
  unfold execWtimExpiry
  refine .ite ?_ ?_
  · refine .next ?_
    exact .step (State.wake_same ..) (.step (State.advanceTo_same ..) (.refl ..))
  · refine .next ?_
    exact .refl ..

theorem execDozeEntry_same (x0 s) : After [.regs, .dict, .cores, .evt, .trc] s (execDozeEntry x0 s) := by
  unfold execDozeEntry
  refine .ite ?_ ?_
  · refine .next ?_
    exact .step (State.modCore_same ..) (.step (State.traceDrain_same ..) (.step (State.traceCore_same ..) (.refl ..)))
  · refine .next ?_
    exact .refl ..

theorem execDozeExit_same (x0 s) : After [.regs, .dict, .cores, .trc] s (execDozeExit x0 s) := by
  unfold execDozeExit
  split
  · refine .next ?_
    refine .ite ?_ ?_
    · exact .step (State.wakeCore_same ..) (.refl ..)
    · exact .refl ..
  · refine .next ?_
    exact .refl ..

/-! ### Pka -/

theorem pkaRead_same (x0 x1 s) : Same [] s (pkaRead x0 x1 s).2 := by
  unfold pkaRead
  refine .ite2 ?_ ?_
  · exact .refl ..
  · exact .refl ..

theorem State.setOperand_same (s x1 x2) : Same [.regs] s (State.setOperand s x1 x2) := by
  unfold State.setOperand
  refine .foldl _ (fun _ _ _ => ?_) _ ?_
  · exact .step (State.setRegN_same ..) ‹_›
  · exact .refl ..

theorem State.pkaEnd_same (s x1) : Same [.regs, .cip, .evt] s (State.pkaEnd s x1) := by
  unfold State.pkaEnd
  refine .ite ?_ ?_
  · exact .step (State.raise_same ..) (.step (State.setRegN_same ..) (.step (State.withCip_same ..) (.step (State.setRegN_same ..)
      (.step (State.setOperand_same ..) (.refl ..)))))
  · exact .step (State.raise_same ..) (.step (State.withCip_same ..) (.step (State.setRegN_same ..) (.step (State.setOperand_same ..)
      (.refl ..))))

theorem State.pkaGo_same (s x1) : Same [.regs, .tmp, .cip, .evt] s (State.pkaGo s x1) := by
  unfold State.pkaGo
  refine .ite ?_ ?_
  · exact .step (State.raise_same ..) (.step (State.setFld_same ..) (.step (State.setRegN_same ..) (.refl ..)))
  · refine .ite ?_ ?_
    · refine .step (State.pkaEnd_same ..) ?_
      refine .ite ?_ ?_
      · exact .step (State.isoFault_same ..) (.step (State.setRegN_same ..) (.refl ..))
      · exact .step (State.setRegN_same ..) (.refl ..)
    · refine .step (State.setRegN_same ..) ?_
      refine .step (State.withCip_same ..) ?_
      refine .step (State.withCip_same ..) ?_
      refine .ite ?_ ?_
      · exact .step (State.isoFault_same ..) (.step (State.setRegN_same ..) (.refl ..))
      · exact .step (State.setRegN_same ..) (.refl ..)

theorem pkaWrite_same (x0 x1 x2 x3 s) :
    Same [.free, .regs, .dict, .sram, .tmp, .mtx, .lanes, .convs, .hvs, .aut, .cip, .evt, .dmc] s (pkaWrite x0 x1 x2 x3 s) := by
  unfold pkaWrite
  refine .ite ?_ ?_
  · refine .ite ?_ ?_
    · exact .step (State.pkaGo_same ..) (.refl ..)
    · exact .refl ..
  · refine .ite ?_ ?_
    · exact .step (State.kpCommand_same ..) (.step (State.setRegN_same ..) (.refl ..))
    · exact .refl ..

theorem State.randScalar_same (s x1) : ∀ r, State.randScalar s x1 = some r → Same [.trn] s r.2 := by
  intro r h
  simp only [randScalar, Option.map_eq_some_iff] at h
  obtain ⟨p, hp, rfl⟩ := h
  exact randNat_same _ _ p hp

theorem State.setDigest_same (s x1) : Same [.regs] s (State.setDigest s x1) := by
  unfold State.setDigest
  refine .foldl _ (fun _ _ _ => ?_) _ ?_
  · exact .step (State.setRegN_same ..) ‹_›
  · exact .refl ..

theorem State.hashBytes_same (s x1 x2) : Same [.regs, .cip] s (State.hashBytes s x1 x2) := by
  unfold State.hashBytes
  refine .ite ?_ ?_
  · exact .step (State.withCip_same ..) (.step (State.setDigest_same ..) (.refl ..))
  · exact .step (State.withCip_same ..) (.refl ..)

theorem State.pageLoad_same (s x1 x2) : Same [.cip] s (State.pageLoad s x1 x2) := by
  unfold State.pageLoad
  exact .step (State.withCip_same ..) (.refl ..)

theorem execPkaCommandDone_same (s) : After [.free, .regs, .dict, .trn, .cip, .evt, .dmc] s (execPkaCommandDone s) := by
  unfold execPkaCommandDone
  split
  · dsimp only
    split
    · split
      · refine .next ?_
        exact .step (State.pkaEnd_same ..) (.refl ..)
      · split
        · refine .next ?_
          exact .step (State.pkaEnd_same ..) (.step (State.setOperand_same ..) (.step (State.setOperand_same ..) (.step
            (State.randScalar_same _ _ _ ‹_›) (.refl ..))))
        · refine .next ?_
          exact .step (State.randScalar_same _ _ _ ‹_›) (.refl ..)
    · refine .next ?_
      exact .step (State.pkaEnd_same ..) (.refl ..)
    · refine .next ?_
      refine .step (State.pkaEnd_same ..) ?_
      refine .ite ?_ ?_
      · exact .step (State.pageLoad_same ..) (.refl ..)
      · exact .step (State.setOperand_same ..) (.refl ..)
    · split
      · refine .next ?_
        exact .step (State.pkaEnd_same ..) (.refl ..)
      · split
        · refine .next ?_
          exact .step (State.pkaEnd_same ..) (.step (State.setOperand_same ..) (.step (State.setOperand_same ..) (.step
            (State.pageLoad_same ..) (.step (State.randScalar_same _ _ _ ‹_›) (.refl ..)))))
        · refine .next ?_
          exact .step (State.pkaEnd_same ..) (.step (State.pageLoad_same ..) (.step (State.randScalar_same _ _ _ ‹_›) (.refl ..)))
    · refine .ite ?_ ?_
      · refine .next ?_
        exact .step (State.pkaEnd_same ..) (.step (State.withCip_same ..) (.step (State.memRead_same ..) (.refl ..)))
      · refine .next ?_
        exact .step (State.pkaEnd_same ..) (.step (State.hashBytes_same ..) (.step (State.memRead_same ..) (.refl ..)))
  · refine .next ?_
    exact .refl ..

/-! ### DmaReg -/

theorem dmaRead_same (x0 x1 s) : Same [] s (dmaRead x0 x1 s).2 := by
  unfold dmaRead
  refine .ite2 ?_ ?_
  · exact .refl ..
  · refine .ite2 ?_ ?_
    · exact .refl ..
    · exact .refl ..

theorem State.dmaRej_same (s) : Same [.regs] s (State.dmaRej s) := by
  unfold State.dmaRej
  exact .step (State.setFld_same ..) (.refl ..)

theorem State.dmaDone_same (s x1) : Same [.regs, .evt] s (State.dmaDone s x1) := by
  unfold State.dmaDone
  refine .ite ?_ ?_
  · exact .refl ..
  · exact .step (State.raise_same ..) (.step (State.setRegN_same ..) (.refl ..))

theorem State.dmaStart_same (s x1) : Same [.regs, .evt, .ic] s (State.dmaStart s x1) := by
  unfold State.dmaStart
  refine .ite ?_ ?_
  · exact .step (State.withIc_same ..) (.step (State.setRegN_same ..) (.step (State.setRegN_same ..) (.refl ..)))
  · refine .ite ?_ ?_
    · exact .step (State.dmaDone_same ..) (.step (State.setRegN_same ..) (.step (State.setRegN_same ..) (.refl ..)))
    · exact .step (State.withIc_same ..) (.step (State.setRegN_same ..) (.step (State.setRegN_same ..) (.refl ..)))

theorem State.dmaCfg_same (s x1 x2 x3) : Same [.regs, .evt, .ic] s (State.dmaCfg s x1 x2 x3) := by
  unfold State.dmaCfg
  refine .ite ?_ ?_
  · refine .ite ?_ ?_
    · refine .step (State.dmaStop_same ..) ?_
      refine .step (State.setReg_same ..) ?_
      refine .ite ?_ ?_
      · exact .step (State.dmaRej_same ..) (.refl ..)
      · exact .refl ..
    · refine .step (State.setReg_same ..) ?_
      refine .ite ?_ ?_
      · exact .step (State.dmaRej_same ..) (.refl ..)
      · exact .refl ..
  · refine .ite ?_ ?_
    · refine .ite ?_ ?_
      · exact .step (State.dmaStop_same ..) (.step (State.dmaStart_same ..) (.step (State.setRegN_same ..) (.refl ..)))
      · exact .step (State.dmaStart_same ..) (.step (State.setRegN_same ..) (.refl ..))
    · exact .step (State.setRegN_same ..) (.refl ..)

theorem dmaWrite_same (x0 x1 x2 x3 s) : Same [.regs, .evt, .ic] s (dmaWrite x0 x1 x2 x3 s) := by
  unfold dmaWrite
  refine .ite ?_ ?_
  · refine .ite ?_ ?_
    · refine .foldl _ (fun _ _ _ => ?_) _ ?_
      · exact .step (State.dmaStop_same ..) ‹_›
      · exact .refl ..
    · exact .refl ..
  · refine .ite ?_ ?_
    · refine .ite ?_ ?_
      · exact .step (State.dmaRej_same ..) (.step (State.setReg_same ..) (.refl ..))
      · refine .ite ?_ ?_
        · exact .step (State.dmaCfg_same ..) (.refl ..)
        · refine .ite ?_ ?_
          · exact .step (State.dmaRej_same ..) (.step (State.setReg_same ..) (.refl ..))
          · exact .refl ..
    · exact .refl ..

theorem State.modDma_same (s x1 x2) : Same [.ic] s (State.modDma s x1 x2) := by
  unfold State.modDma
  exact .step (State.withIc_same ..) (.refl ..)

theorem State.dmaIdle_same (s x1) : Same [.ic] s (State.dmaIdle s x1) := by
  unfold State.dmaIdle
  exact .step (State.withIc_same ..) (.refl ..)

theorem State.dmaFail_same (s x1 x2 x3 x4) : Same [.regs, .evt, .ic] s (State.dmaFail s x1 x2 x3 x4) := by
  unfold State.dmaFail
  exact .step (State.raise_same ..) (.step (State.dmaIdle_same ..) (.step (State.setRegN_same ..) (.step (State.setRegN_same ..)
    (.step (State.setRegN_same ..) (.refl ..)))))

/-! ### Rate -/

theorem srcRead_same (x0 x1 s) : Same [] s (srcRead x0 x1 s).2 := by
  unfold srcRead
  refine .ite2 ?_ ?_
  · exact .refl ..
  · refine .ite2 ?_ ?_
    · exact .refl ..
    · refine .ite2 ?_ ?_
      · exact .refl ..
      · refine .ite2 ?_ ?_
        · exact .refl ..
        · refine .ite2 ?_ ?_
          · exact .refl ..
          · refine .ite2 ?_ ?_
            · exact .refl ..
            · refine .ite2 ?_ ?_
              · exact .refl ..
              · refine .ite2 ?_ ?_
                · exact .refl ..
                · exact .refl ..

theorem State.convRej_same (s) : Same [.convs] s (State.convRej s) := by
  unfold State.convRej
  exact .step (State.modConv_same ..) (.refl ..)

theorem State.stage_same (s x1) : Same [.answer, .convs] s (State.stage s x1) := by
  unfold State.stage
  refine .ite ?_ ?_
  · exact .step (State.errResp_same ..) (.step (State.convRej_same ..) (.refl ..))
  · exact .step (State.modConv_same ..) (.refl ..)

theorem State.testPut_same (s x1) : Same [.regs] s (State.testPut s x1) := by
  unfold State.testPut
  exact .step (State.setFld_same ..) (.step (State.setRegN_same ..) (.refl ..))

theorem State.testArb_same (s x1 x2 x3) : Same [.free, .regs, .dict] s (State.testArb s x1 x2 x3) := by
  unfold State.testArb
  refine .ite ?_ ?_
  · exact .step (State.setFld_same ..) (.step (State.setRegN_same ..) (.step (State.draw_same ..) (.refl ..)))
  · exact .step (State.testPut_same ..) (.step (State.convSat_same ..) (.refl ..))

theorem State.testFixed_same (s x1 x2 x3) : Same [.regs, .dict] s (State.testFixed s x1 x2 x3) := by
  unfold State.testFixed
  refine .ite ?_ ?_
  · exact .refl ..
  · refine .foldl _ (fun _ _ _ => ?_) _ ?_
    · exact .step (State.testPut_same ..) (.step (State.convSat_same ..) ‹_›)
    · exact .refl ..

theorem State.testRun_same (s x1) : Same [.free, .regs, .dict] s (State.testRun s x1) := by
  unfold State.testRun
  refine .ite ?_ ?_
  · refine .foldl _ (fun _ _ _ => ?_) _ ?_
    · exact .step (State.testArb_same ..) ‹_›
    · exact .step (State.setFld_same ..) (.refl ..)
  · refine .foldl _ (fun _ _ _ => ?_) _ ?_
    · exact .step (State.testFixed_same ..) ‹_›
    · exact .step (State.setFld_same ..) (.refl ..)

theorem srcWrite_same (x0 x1 x2 x3 s) : Same [.free, .regs, .dict, .answer, .convs] s (srcWrite x0 x1 x2 x3 s) := by
  unfold srcWrite
  refine .ite ?_ ?_
  · exact .step (State.setRegN_same ..) (.refl ..)
  · refine .ite ?_ ?_
    · exact .step (State.stage_same ..) (.step (State.setReg_same ..) (.refl ..))
    · refine .ite ?_ ?_
      · exact .step (State.stage_same ..) (.step (State.setReg_same ..) (.refl ..))
      · refine .ite ?_ ?_
        · exact .step (State.stage_same ..) (.step (State.setReg_same ..) (.refl ..))
        · refine .ite ?_ ?_
          · exact .step (State.errResp_same ..) (.step (State.convRej_same ..) (.refl ..))
          · refine .ite ?_ ?_
            · refine .ite ?_ ?_
              · exact .step (State.convRequest_same ..) (.step (State.setRegN_same ..) (.refl ..))
              · refine .ite ?_ ?_
                · exact .step (State.convRequest_same ..) (.step (State.setRegN_same ..) (.refl ..))
                · exact .step (State.setRegN_same ..) (.refl ..)
            · refine .ite ?_ ?_
              · exact .step (State.modConv_same ..) (.refl ..)
              · refine .ite ?_ ?_
                · refine .ite ?_ ?_
                  · exact .step (State.convRej_same ..) (.step (State.setReg_same ..) (.refl ..))
                  · exact .step (State.modConv_same ..) (.step (State.setReg_same ..) (.refl ..))
                · refine .ite ?_ ?_
                  · refine .ite ?_ ?_
                    · exact .step (State.testRun_same ..) (.step (State.setFld_same ..) (.refl ..))
                    · exact .step (State.convRej_same ..) (.step (State.setFld_same ..) (.refl ..))
                  · exact .refl ..

theorem execConverterStallLimit_same (x0 s) :
    After [.now, .regs, .dict, .cal, .hld, .mtx, .convs, .evt] s (execConverterStallLimit x0 s) := by
  unfold execConverterStallLimit
  dsimp only
  split
  · refine .next ?_
    refine .ite ?_ ?_
    · exact .step (State.convForce_same ..) (.step (State.advanceTo_same ..) (.refl ..))
    · exact .step (State.advanceTo_same ..) (.refl ..)
  · refine .next ?_
    exact .refl ..

theorem execConverterUnstall_same (x0 s) : After [.regs, .dict, .mtx, .convs, .evt] s (execConverterUnstall x0 s) := by
  unfold execConverterUnstall
  refine .ite ?_ ?_
  · refine .next ?_
    exact .refl ..
  · split
    · refine .next ?_
      refine .getD (fun _ h => .step (State.formSample_same _ _ _ h) ?_) ?_
      · exact .refl ..
      · exact .refl ..
    · refine .next ?_
      exact .refl ..

/-! ### Calends -/

theorem State.tdcRead_same (s x1 x2) : Same [.cal] s (State.tdcRead s x1 x2).2 := by
  unfold tdcRead
  generalize tget [] s.cal.tdcQueue x1 = q
  rcases x2 with _ | k
  · rcases q with _ | ⟨c, r⟩
    · exact .refl ..
    · exact .step (withCal_same ..) (.refl ..)
  · exact .refl ..

theorem calRead_same (x0 x1 s) : Same [.regs, .cal] s (calRead x0 x1 s).2 := by
  unfold calRead
  refine .ite2 ?_ ?_
  · exact .step (State.setRegN_same ..) (.step (State.setRegN_same ..) (.step (State.setRegN_same ..) (.step (State.setRegN_same ..)
      (.refl ..))))
  · refine .ite2 ?_ ?_
    · exact .step (State.tdcRead_same ..) (.refl ..)
    · exact .refl ..

theorem ptpWrite_same (x0 x1 x2 x3 s) : Same [.regs, .evt, .ic] s (ptpWrite x0 x1 x2 x3 s) := by
  unfold ptpWrite
  refine .ite ?_ ?_
  · exact .step (State.dmaPreempt_same ..) (.refl ..)
  · exact .refl ..

theorem State.dpllEnter_same (s x1) : Same [.regs, .cal, .hld, .evt] s (State.dpllEnter s x1) := by
  unfold State.dpllEnter
  refine .step (State.withCal_same ..) ?_
  refine .ite ?_ ?_
  · exact .step (State.dpllAcquire_same ..) (.refl ..)
  · split
    · exact .step (State.steerTo_same ..) (.step (State.dpllAcquire_same ..) (.refl ..))
    · exact .step (State.dpllAcquire_same ..) (.refl ..)

theorem State.dpllState_same (s x1) : Same [.regs, .cal, .evt] s (State.dpllState s x1) := by
  unfold State.dpllState
  exact .step (State.raise_same ..) (.step (State.setFld_same ..) (.step (State.setFld_same ..) (.step (State.withCal_same ..)
    (.refl ..))))

theorem State.dpllLoss_same (s) : Same [.free, .regs, .nvs, .cal, .hld, .evt] s (State.dpllLoss s) := by
  unfold State.dpllLoss
  split
  · exact .step (State.enterHoldover_same ..) (.step (State.dpllState_same ..) (.refl ..))
  · split
    · exact .step (State.resumeHoldover_same ..) (.step (State.dpllState_same ..) (.refl ..))
    · exact .step (State.enterHoldover_same ..) (.step (State.dpllState_same ..) (.refl ..))
    · exact .step (State.hldFree_same ..) (.step (State.dpllState_same ..) (.refl ..))
  · exact .refl ..

theorem State.calSelect_same (s x1) : Same [.free, .regs, .nvs, .cal, .hld, .evt] s (State.calSelect s x1) := by
  unfold State.calSelect
  dsimp only
  split
  · refine .step (State.dpllLoss_same ..) ?_
    refine .step (State.raise_same ..) ?_
    refine .step (State.setFld_same ..) ?_
    refine .foldl _ (fun _ _ _ => ?_) _ ?_
    · exact .step (State.setFlag_same ..) ‹_›
    · exact .refl ..
  · split
    · refine .ite ?_ ?_
      · refine .step (State.raise_same ..) ?_
        refine .step (State.setFld_same ..) ?_
        refine .foldl _ (fun _ _ _ => ?_) _ ?_
        · exact .step (State.setFlag_same ..) ‹_›
        · exact .refl ..
      · refine .step (State.dpllEnter_same ..) ?_
        refine .step (State.raise_same ..) ?_
        refine .step (State.setFld_same ..) ?_
        refine .foldl _ (fun _ _ _ => ?_) _ ?_
        · exact .step (State.setFlag_same ..) ‹_›
        · exact .refl ..
    · refine .ite ?_ ?_
      · refine .step (State.raise_same ..) ?_
        refine .step (State.setFld_same ..) ?_
        refine .foldl _ (fun _ _ _ => ?_) _ ?_
        · exact .step (State.setFlag_same ..) ‹_›
        · exact .refl ..
      · refine .step (State.dpllEnter_same ..) ?_
        refine .step (State.raise_same ..) ?_
        refine .step (State.setFld_same ..) ?_
        refine .foldl _ (fun _ _ _ => ?_) _ ?_
        · exact .step (State.setFlag_same ..) ‹_›
        · exact .refl ..
    · refine .step (State.withCal_same ..) ?_
      refine .step (State.raise_same ..) ?_
      refine .step (State.setFld_same ..) ?_
      refine .foldl _ (fun _ _ _ => ?_) _ ?_
      · exact .step (State.setFlag_same ..) ‹_›
      · exact .refl ..
    · refine .step (State.setFlag_same ..) ?_
      refine .step (State.raise_same ..) ?_
      refine .step (State.setFld_same ..) ?_
      refine .foldl _ (fun _ _ _ => ?_) _ ?_
      · exact .step (State.setFlag_same ..) ‹_›
      · exact .refl ..

theorem State.calReselect_same (s) : Same [.free, .regs, .nvs, .cal, .hld, .evt] s (State.calReselect s) := by
  unfold State.calReselect
  refine .ite ?_ ?_
  · exact .refl ..
  · exact .step (State.calSelect_same ..) (.refl ..)

theorem State.modSrc_same (s x1 x2) : Same [.cal] s (State.modSrc s x1 x2) := by
  unfold State.modSrc
  exact .step (State.withCal_same ..) (.refl ..)

theorem State.srcUpdate_same (s x1 x2 x3) : Same [.regs, .cal, .hld] s (State.srcUpdate s x1 x2 x3) := by
  unfold State.srcUpdate
  refine .ite ?_ ?_
  · exact .refl ..
  · dsimp only
    split
    · refine .step (State.modSrc_same ..) ?_
      refine .ite ?_ ?_
      · exact .step (State.setRegN_same ..) (.refl ..)
      · exact .refl ..
    · refine .ite ?_ ?_
      · refine .step (State.modSrc_same ..) ?_
        refine .ite ?_ ?_
        · exact .step (State.setRegN_same ..) (.refl ..)
        · exact .refl ..
      · refine .ite ?_ ?_
        · refine .step (State.withHld_same ..) ?_
          refine .step (State.modSrc_same ..) ?_
          refine .ite ?_ ?_
          · exact .step (State.setRegN_same ..) (.refl ..)
          · exact .refl ..
        · refine .step (State.modSrc_same ..) ?_
          refine .ite ?_ ?_
          · exact .step (State.setRegN_same ..) (.refl ..)
          · exact .refl ..

theorem State.s8_same (s x1) : Same [.regs, .cal, .hld] s (State.s8 s x1) := by
  unfold State.s8
  exact .step (State.srcUpdate_same ..) (.refl ..)

theorem State.srcDisqualify_same (s x1) : Same [.free, .regs, .nvs, .cal, .hld, .evt] s (State.srcDisqualify s x1) := by
  unfold State.srcDisqualify
  refine .step (State.calReselect_same ..) ?_
  refine .ite ?_ ?_
  · exact .step (State.withHld_same ..) (.step (State.raise_same ..) (.step (State.setFld_same ..) (.step (State.modSrc_same ..)
      (.refl ..))))
  · exact .step (State.raise_same ..) (.step (State.setFld_same ..) (.step (State.modSrc_same ..) (.refl ..)))

theorem calWrite_same (x0 x1 x2 x3 s) :
    Same [.free, .regs, .dict, .nvs, .cal, .hld, .mtx, .convs, .evt] s (calWrite x0 x1 x2 x3 s) := by
  unfold calWrite
  refine .ite ?_ ?_
  · refine .ite ?_ ?_
    · exact .step (State.calGo_same ..) (.step (State.setFld_same ..) (.refl ..))
    · exact .refl ..
  · refine .ite ?_ ?_
    · refine .ite ?_ ?_
      · exact .step (State.setReg_same ..) (.step (State.yNote_same ..) (.step (State.setReg_same ..) (.refl ..)))
      · exact .step (State.setReg_same ..) (.refl ..)
    · refine .ite ?_ ?_
      · exact .step (State.s8_same ..) (.refl ..)
      · refine .ite ?_ ?_
        · refine .step (State.calReselect_same ..) ?_
          refine .ite ?_ ?_
          · exact .step (State.steerMoved_same ..) (.refl ..)
          · exact .refl ..
        · refine .ite ?_ ?_
          · exact .step (State.calReselect_same ..) (.refl ..)
          · split
            · refine .ite ?_ ?_
              · exact .step (State.calReselect_same ..) (.refl ..)
              · refine .ite ?_ ?_
                · exact .step (State.srcDisqualify_same ..) (.refl ..)
                · exact .step (State.modSrc_same ..) (.refl ..)
            · exact .refl ..

theorem execAcquisitionStep_same (s) : After [.regs, .dict, .cal, .hld, .mtx, .convs, .evt] s (execAcquisitionStep s) := by
  unfold execAcquisitionStep
  split
  · refine .next ?_
    exact .step (State.calStepTo_same ..) (.step (State.withCal_same ..) (.refl ..))
  · refine .next ?_
    exact .refl ..

theorem execWaitToRestoreExpiry_same (x0 s) :
    After [.now, .free, .regs, .dict, .nvs, .cal, .hld, .mtx, .convs, .evt] s (execWaitToRestoreExpiry x0 s) := by
  unfold execWaitToRestoreExpiry
  split
  · refine .next ?_
    exact .step (State.calReselect_same ..) (.step (State.advanceTo_same ..) (.refl ..))
  · refine .next ?_
    exact .refl ..

theorem State.dpllLock_same (s x1) : Same [.regs, .cal, .hld, .evt] s (State.dpllLock s x1) := by
  unfold State.dpllLock
  refine .ite ?_ ?_
  · exact .step (State.setFld_same ..) (.step (State.setFld_same ..) (.step (State.withHld_same ..) (.step (State.withCal_same ..)
      (.step (State.setFlag_same ..) (.step (State.dpllState_same ..) (.refl ..))))))
  · exact .step (State.raise_same ..) (.step (State.setFld_same ..) (.step (State.setFld_same ..) (.step (State.withHld_same ..)
      (.step (State.withCal_same ..) (.step (State.setFlag_same ..) (.step (State.dpllState_same ..) (.refl ..)))))))

theorem execDpllUpdate_same (s) : After [.free, .regs, .cal, .hld, .evt] s (execDpllUpdate s) := by
  unfold execDpllUpdate
  refine .ite ?_ ?_
  · refine .next ?_
    exact .refl ..
  · dsimp only
    split
    · refine .next ?_
      refine .ite ?_ ?_
      · exact .step (State.dpllLock_same ..) (.step (State.withCal_same ..) (.step (State.steerTo_same ..) (.step
          (State.drawIn_same ..) (.refl ..))))
      · exact .step (State.withCal_same ..) (.step (State.steerTo_same ..) (.step (State.drawIn_same ..) (.refl ..)))
    · refine .next ?_
      exact .step (State.withCal_same ..) (.step (State.steerTo_same ..) (.step (State.drawIn_same ..) (.refl ..)))
    · refine .next ?_
      exact .step (State.dpllEnter_same ..) (.refl ..)

theorem execTdcCapture_same (x0 s) : After [.regs, .cal, .hld, .evt] s (execTdcCapture x0 s) := by
  unfold execTdcCapture
  refine .ite ?_ ?_
  · refine .next ?_
    exact .refl ..
  · refine .next ?_
    refine .step (State.srcUpdate_same ..) ?_
    refine .ite ?_ ?_
    · exact .step (State.withCal_same ..) (.refl ..)
    · exact .step (State.raise_same ..) (.step (State.setFld_same ..) (.refl ..))

theorem State.residence_same (s x1 x2 x3 x4 x5 x6 x7) : Same [.regs, .dict] s (State.residence s x1 x2 x3 x4 x5 x6 x7).2 := by
  unfold State.residence
  refine .ite2 ?_ ?_
  · exact .refl ..
  · dsimp only
    split
    · refine .ite2 ?_ ?_
      · exact .refl ..
      · refine .ite2 ?_ ?_
        · exact .step (State.count_same ..) (.refl ..)
        · exact .refl ..
    · exact .refl ..

theorem execPtpTxComplete_same (x0 x1 s) :
    After [.free, .regs, .dict, .sram, .lanes, .evt, .dmc, .nq] s (execPtpTxComplete x0 x1 s) := by
  unfold execPtpTxComplete
  refine .ite ?_ ?_
  · refine .next ?_
    exact .refl ..
  · refine .ite ?_ ?_
    · refine .next ?_
      exact .step (State.memRead_same ..) (.refl ..)
    · dsimp only
      split
      · refine .next ?_
        exact .step (State.setRegN_same ..) (.step (State.memWrite_same ..) (.step (State.memRead_same ..) (.refl ..)))
      · refine .next ?_
        refine .step (State.setRegN_same ..) ?_
        refine .ite ?_ ?_
        · exact .step (State.memWrite_same ..) (.step (State.lineSend_same ..) (.step (State.memRead_same ..) (.refl ..)))
        · exact .step (State.lineSend_same ..) (.step (State.memRead_same ..) (.refl ..))

theorem execRefclkReturn_same (s) : After [.now, .regs, .dict, .cal, .hld, .mtx, .convs, .evt] s (execRefclkReturn s) := by
  unfold execRefclkReturn
  refine .ite ?_ ?_
  · refine .next ?_
    exact .refl ..
  · refine .next ?_
    exact .step (State.setFld_same ..) (.step (State.advance_same ..) (.step (State.advance_same ..) (.refl ..)))

theorem execPtpRxFrame_same (s) : After [.free, .regs, .dict, .sram, .cal, .evt, .dmc] s (execPtpRxFrame s) := by
  unfold execPtpRxFrame
  split
  · refine .ite ?_ ?_
    · refine .next ?_
      exact .step (State.withCal_same ..) (.refl ..)
    · refine .ite ?_ ?_
      · refine .next ?_
        exact .step (State.raise_same ..) (.step (State.count_same ..) (.step (State.withCal_same ..) (.refl ..)))
      · refine .next ?_
        exact .step (State.setRegN_same ..) (.step (State.memWrite_same ..) (.step (State.withCal_same ..) (.refl ..)))
  · refine .next ?_
    exact .refl ..

theorem execSourceDisqualified_same (x0 s) :
    After [.now, .free, .regs, .dict, .nvs, .cal, .hld, .mtx, .convs, .evt] s (execSourceDisqualified x0 s) := by
  unfold execSourceDisqualified
  refine .ite ?_ ?_
  · refine .next ?_
    exact .refl ..
  · refine .next ?_
    refine .step (State.srcDisqualify_same ..) ?_
    refine .ite ?_ ?_
    · exact .refl ..
    · exact .step (State.advanceTo_same ..) (.refl ..)

theorem execSourceQualified_same (x0 s) : After [.free, .regs, .nvs, .cal, .hld, .evt] s (execSourceQualified x0 s) := by
  unfold execSourceQualified
  dsimp only
  split
  · refine .ite ?_ ?_
    · refine .next ?_
      exact .step (State.calReselect_same ..) (.step (State.raise_same ..) (.step (State.setFld_same ..) (.step
        (State.modSrc_same ..) (.refl ..))))
    · refine .next ?_
      exact .refl ..
  · refine .next ?_
    exact .refl ..

theorem execRefclkLost_same (s) : After [.free, .regs, .nvs, .cal, .hld, .evt] s (execRefclkLost s) := by
  unfold execRefclkLost
  refine .ite ?_ ?_
  · refine .next ?_
    exact .refl ..
  · refine .next ?_
    refine .ite ?_ ?_
    · exact .step (State.enterHoldover_same ..) (.step (State.dpllState_same ..) (.step (State.setFld_same ..) (.refl ..)))
    · refine .ite ?_ ?_
      · exact .step (State.raise_same ..) (.step (State.setFld_same ..) (.refl ..))
      · exact .step (State.hldFree_same ..) (.step (State.dpllState_same ..) (.step (State.setFld_same ..) (.refl ..)))

theorem execLaneCalibrationDone_same (x0 x1 s) : After [.regs] s (execLaneCalibrationDone x0 x1 s) := by
  unfold execLaneCalibrationDone
  refine .ite ?_ ?_
  · refine .next ?_
    exact .step (State.setRegN_same ..) (.refl ..)
  · refine .next ?_
    exact .refl ..

/-! ### Apply -/

theorem State.applyObj_same (s x1 x2) :
    Same [.free, .regs, .dict, .tmp, .nvs, .cal, .hld, .mtx, .convs, .evt, .hk] s (State.applyObj s x1 x2) := by
  unfold State.applyObj
  split
  · exact .refl ..
  · refine .ite ?_ ?_
    · exact .refl ..
    · refine .ite ?_ ?_
      · exact .step (calWrite_same ..) (.step (State.setFld_same ..) (.refl ..))
      · refine .ite ?_ ?_
        · exact .step (hldWrite_same ..) (.step (State.setFld_same ..) (.refl ..))
        · refine .ite ?_ ?_
          · exact .step (hkWrite_same ..) (.step (State.setFld_same ..) (.refl ..))
          · refine .ite ?_ ?_
            · exact .step (tmpWrite_same ..) (.step (State.setFld_same ..) (.refl ..))
            · refine .ite ?_ ?_
              · exact .step (State.setRegN_same ..) (.step (State.setFld_same ..) (.refl ..))
              · exact .step (State.setFld_same ..) (.refl ..)

theorem State.applyObjs_same (s x1) :
    Same [.free, .regs, .dict, .tmp, .nvs, .cal, .hld, .mtx, .convs, .evt, .hk] s (State.applyObjs s x1) := by
  unfold State.applyObjs
  refine .foldl _ (fun _ _ _ => ?_) _ ?_
  · split
    · refine .ite ?_ ?_
      · exact .step (State.applyObj_same ..) ‹_›
      · assumption
    · assumption
  · exact .refl ..

/-! ### Media -/

theorem State.idcSettle_same (s) : Same [.regs, .idc] s (State.idcSettle s) := by
  unfold State.idcSettle
  refine .ite ?_ ?_
  · exact .step (State.setFld_same ..) (.step (State.withIdc_same ..) (.refl ..))
  · exact .refl ..

theorem idcRead_same (x0 x1 s) : Same [.regs, .idc] s (idcRead x0 x1 s).2 := by
  unfold idcRead
  refine .ite2 ?_ ?_
  · exact .step (State.setFld_same ..) (.step (State.idcSettle_same ..) (.refl ..))
  · exact .step (State.idcSettle_same ..) (.refl ..)

theorem State.idcResult_same (s x1) : Same [.regs, .evt] s (State.idcResult s x1) := by
  unfold State.idcResult
  refine .ite ?_ ?_
  · exact .step (State.raise_same ..) (.step (State.setFld_same ..) (.step (State.setFld_same ..) (.refl ..)))
  · exact .step (State.raise_same ..) (.step (State.setFld_same ..) (.step (State.setFld_same ..) (.refl ..)))

theorem State.idcAbort_same (s x1) : Same [.regs, .evt, .idc] s (State.idcAbort s x1) := by
  unfold State.idcAbort
  refine .ite ?_ ?_
  · exact .refl ..
  · refine .step (State.idcResult_same ..) ?_
    refine .step (State.withIdc_same ..) ?_
    refine .ite ?_ ?_
    · exact .step (State.setRegN_same ..) (.refl ..)
    · exact .refl ..

theorem State.idcOff_same (s) : Same [.regs, .idc] s (State.idcOff s) := by
  unfold State.idcOff
  exact .step (State.setFld_same ..) (.step (State.withIdc_same ..) (.refl ..))

theorem State.idcDeact_same (s) : Same [.regs, .evt, .idc] s (State.idcDeact s) := by
  unfold State.idcDeact
  exact .step (State.idcOff_same ..) (.step (State.idcAbort_same ..) (.refl ..))

theorem State.idcGo_same (s) : Same [.regs, .idc] s (State.idcGo s) := by
  unfold State.idcGo
  refine .ite ?_ ?_
  · exact .step (State.setFld_same ..) (.refl ..)
  · exact .step (State.setFld_same ..) (.step (State.withIdc_same ..) (.refl ..))

theorem State.idcActivate_same (s x1) : Same [.regs, .idc] s (State.idcActivate s x1) := by
  unfold State.idcActivate
  exact .step (State.setFld_same ..) (.step (State.setFld_same ..) (.step (State.setFld_same ..) (.step (State.withIdc_same ..)
    (.refl ..))))

theorem State.idcAct_same (s) : Same [.regs, .evt, .idc] s (State.idcAct s) := by
  unfold State.idcAct
  refine .ite ?_ ?_
  · split
    · exact .step (State.idcActivate_same ..) (.refl ..)
    · exact .step (State.idcResult_same ..) (.refl ..)
  · exact .step (State.setFld_same ..) (.refl ..)

theorem State.idcWarm_same (s) : Same [.regs, .evt, .idc] s (State.idcWarm s) := by
  unfold State.idcWarm
  refine .ite ?_ ?_
  · exact .refl ..
  · exact .step (State.setFld_same ..) (.step (State.withIdc_same ..) (.step (State.idcAbort_same ..) (.refl ..)))

theorem idcWrite_same (x0 x1 x2 x3 s) : Same [.regs, .evt, .idc] s (idcWrite x0 x1 x2 x3 s) := by
  unfold idcWrite
  refine .ite ?_ ?_
  · refine .ite ?_ ?_
    · refine .step (State.idcGo_same ..) ?_
      refine .ite ?_ ?_
      · refine .step (State.idcAct_same ..) ?_
        refine .ite ?_ ?_
        · refine .step (State.idcWarm_same ..) ?_
          refine .ite ?_ ?_
          · exact .step (State.idcDeact_same ..) (.step (State.idcSettle_same ..) (.step (State.setRegN_same ..) (.refl ..)))
          · exact .step (State.idcSettle_same ..) (.step (State.setRegN_same ..) (.refl ..))
        · refine .ite ?_ ?_
          · exact .step (State.idcDeact_same ..) (.step (State.idcSettle_same ..) (.step (State.setRegN_same ..) (.refl ..)))
          · exact .step (State.idcSettle_same ..) (.step (State.setRegN_same ..) (.refl ..))
      · refine .ite ?_ ?_
        · refine .step (State.idcWarm_same ..) ?_
          refine .ite ?_ ?_
          · exact .step (State.idcDeact_same ..) (.step (State.idcSettle_same ..) (.step (State.setRegN_same ..) (.refl ..)))
          · exact .step (State.idcSettle_same ..) (.step (State.setRegN_same ..) (.refl ..))
        · refine .ite ?_ ?_
          · exact .step (State.idcDeact_same ..) (.step (State.idcSettle_same ..) (.step (State.setRegN_same ..) (.refl ..)))
          · exact .step (State.idcSettle_same ..) (.step (State.setRegN_same ..) (.refl ..))
    · refine .ite ?_ ?_
      · refine .step (State.idcAct_same ..) ?_
        refine .ite ?_ ?_
        · refine .step (State.idcWarm_same ..) ?_
          refine .ite ?_ ?_
          · exact .step (State.idcDeact_same ..) (.step (State.idcSettle_same ..) (.step (State.setRegN_same ..) (.refl ..)))
          · exact .step (State.idcSettle_same ..) (.step (State.setRegN_same ..) (.refl ..))
        · refine .ite ?_ ?_
          · exact .step (State.idcDeact_same ..) (.step (State.idcSettle_same ..) (.step (State.setRegN_same ..) (.refl ..)))
          · exact .step (State.idcSettle_same ..) (.step (State.setRegN_same ..) (.refl ..))
      · refine .ite ?_ ?_
        · refine .step (State.idcWarm_same ..) ?_
          refine .ite ?_ ?_
          · exact .step (State.idcDeact_same ..) (.step (State.idcSettle_same ..) (.step (State.setRegN_same ..) (.refl ..)))
          · exact .step (State.idcSettle_same ..) (.step (State.setRegN_same ..) (.refl ..))
        · refine .ite ?_ ?_
          · exact .step (State.idcDeact_same ..) (.step (State.idcSettle_same ..) (.step (State.setRegN_same ..) (.refl ..)))
          · exact .step (State.idcSettle_same ..) (.step (State.setRegN_same ..) (.refl ..))
  · refine .ite ?_ ?_
    · exact .step (State.setFld_same ..) (.refl ..)
    · refine .ite ?_ ?_
      · refine .step (State.setFld_same ..) ?_
        refine .step (State.setReg_same ..) ?_
        refine .ite ?_ ?_
        · exact .refl ..
        · exact .step (State.withIdc_same ..) (.refl ..)
      · exact .refl ..

theorem State.sdEnd_same (s x1) : Same [.regs, .evt, .sdh] s (State.sdEnd s x1) := by
  unfold State.sdEnd
  refine .ite ?_ ?_
  · refine .step (State.raise_same ..) ?_
    refine .step (State.setFld_same ..) ?_
    refine .step (State.setFld_same ..) ?_
    refine .ite ?_ ?_
    · refine .step (State.setFld_same ..) ?_
      refine .step (State.withSdh_same ..) ?_
      refine .ite ?_ ?_
      · refine .foldl _ (fun _ _ _ => ?_) _ ?_
        · exact .step (State.setRegN_same ..) ‹_›
        · exact .refl ..
      · exact .refl ..
    · refine .step (State.withSdh_same ..) ?_
      refine .ite ?_ ?_
      · refine .foldl _ (fun _ _ _ => ?_) _ ?_
        · exact .step (State.setRegN_same ..) ‹_›
        · exact .refl ..
      · exact .refl ..
  · refine .step (State.raise_same ..) ?_
    refine .step (State.setFld_same ..) ?_
    refine .step (State.setFld_same ..) ?_
    refine .ite ?_ ?_
    · refine .step (State.setFld_same ..) ?_
      refine .step (State.withSdh_same ..) ?_
      refine .ite ?_ ?_
      · refine .foldl _ (fun _ _ _ => ?_) _ ?_
        · exact .step (State.setRegN_same ..) ‹_›
        · exact .refl ..
      · exact .refl ..
    · refine .step (State.withSdh_same ..) ?_
      refine .ite ?_ ?_
      · refine .foldl _ (fun _ _ _ => ?_) _ ?_
        · exact .step (State.setRegN_same ..) ‹_›
        · exact .refl ..
      · exact .refl ..

theorem State.sdOff_same (s) : Same [.regs, .sdh] s (State.sdOff s) := by
  unfold State.sdOff
  exact .step (State.setFld_same ..) (.step (State.setFld_same ..) (.step (State.withSdh_same ..) (.refl ..)))

theorem State.sdAbort_same (s x1) : Same [.regs, .evt, .sdh] s (State.sdAbort s x1) := by
  unfold State.sdAbort
  refine .step (State.sdOff_same ..) ?_
  refine .ite ?_ ?_
  · exact .refl ..
  · exact .step (State.sdEnd_same ..) (.refl ..)

theorem State.sdTune_same (s) : Same [.sdh] s (State.sdTune s) := by
  unfold State.sdTune
  refine .ite ?_ ?_
  · exact .step (State.withSdh_same ..) (.refl ..)
  · exact .refl ..

theorem State.sdInit_same (s) : Same [.regs, .sdh] s (State.sdInit s) := by
  unfold State.sdInit
  refine .ite ?_ ?_
  · exact .step (State.setFld_same ..) (.step (State.withSdh_same ..) (.refl ..))
  · exact .step (State.setFld_same ..) (.refl ..)

theorem State.sdGo_same (s) : Same [.regs, .sdh] s (State.sdGo s) := by
  unfold State.sdGo
  refine .ite ?_ ?_
  · exact .step (State.setFld_same ..) (.refl ..)
  · refine .ite ?_ ?_
    · refine .ite ?_ ?_
      · exact .step (State.setFld_same ..) (.refl ..)
      · refine .ite ?_ ?_
        · exact .step (State.setFld_same ..) (.refl ..)
        · exact .step (State.withSdh_same ..) (.step (State.setRegN_same ..) (.step (State.setFld_same ..) (.step
            (State.withSdh_same ..) (.refl ..))))
    · refine .ite ?_ ?_
      · refine .ite ?_ ?_
        · exact .step (State.setFld_same ..) (.step (State.withSdh_same ..) (.refl ..))
        · exact .step (State.setFld_same ..) (.refl ..)
      · refine .ite ?_ ?_
        · refine .ite ?_ ?_
          · exact .step (State.setFld_same ..) (.step (State.withSdh_same ..) (.refl ..))
          · exact .step (State.setFld_same ..) (.refl ..)
        · refine .ite ?_ ?_
          · refine .ite ?_ ?_
            · exact .step (State.setFld_same ..) (.step (State.withSdh_same ..) (.refl ..))
            · exact .step (State.setFld_same ..) (.refl ..)
          · exact .step (State.setFld_same ..) (.refl ..)

theorem sdhWrite_same (x0 x1 x2 x3 s) : Same [.regs, .evt, .sdh] s (sdhWrite x0 x1 x2 x3 s) := by
  unfold sdhWrite
  refine .ite ?_ ?_
  · refine .ite ?_ ?_
    · refine .step (State.sdGo_same ..) ?_
      refine .ite ?_ ?_
      · refine .step (State.sdTune_same ..) ?_
        refine .ite ?_ ?_
        · refine .step (State.sdInit_same ..) ?_
          refine .ite ?_ ?_
          · refine .step (State.withSdh_same ..) ?_
            refine .ite ?_ ?_
            · exact .step (State.setFld_same ..) (.step (State.sdAbort_same ..) (.step (State.setRegN_same ..) (.refl ..)))
            · exact .step (State.setRegN_same ..) (.refl ..)
          · refine .ite ?_ ?_
            · exact .step (State.setFld_same ..) (.step (State.sdAbort_same ..) (.step (State.setRegN_same ..) (.refl ..)))
            · exact .step (State.setRegN_same ..) (.refl ..)
        · refine .ite ?_ ?_
          · refine .step (State.withSdh_same ..) ?_
            refine .ite ?_ ?_
            · exact .step (State.setFld_same ..) (.step (State.sdAbort_same ..) (.step (State.setRegN_same ..) (.refl ..)))
            · exact .step (State.setRegN_same ..) (.refl ..)
          · refine .ite ?_ ?_
            · exact .step (State.setFld_same ..) (.step (State.sdAbort_same ..) (.step (State.setRegN_same ..) (.refl ..)))
            · exact .step (State.setRegN_same ..) (.refl ..)
      · refine .ite ?_ ?_
        · refine .step (State.sdInit_same ..) ?_
          refine .ite ?_ ?_
          · refine .step (State.withSdh_same ..) ?_
            refine .ite ?_ ?_
            · exact .step (State.setFld_same ..) (.step (State.sdAbort_same ..) (.step (State.setRegN_same ..) (.refl ..)))
            · exact .step (State.setRegN_same ..) (.refl ..)
          · refine .ite ?_ ?_
            · exact .step (State.setFld_same ..) (.step (State.sdAbort_same ..) (.step (State.setRegN_same ..) (.refl ..)))
            · exact .step (State.setRegN_same ..) (.refl ..)
        · refine .ite ?_ ?_
          · refine .step (State.withSdh_same ..) ?_
            refine .ite ?_ ?_
            · exact .step (State.setFld_same ..) (.step (State.sdAbort_same ..) (.step (State.setRegN_same ..) (.refl ..)))
            · exact .step (State.setRegN_same ..) (.refl ..)
          · refine .ite ?_ ?_
            · exact .step (State.setFld_same ..) (.step (State.sdAbort_same ..) (.step (State.setRegN_same ..) (.refl ..)))
            · exact .step (State.setRegN_same ..) (.refl ..)
    · refine .ite ?_ ?_
      · refine .step (State.sdTune_same ..) ?_
        refine .ite ?_ ?_
        · refine .step (State.sdInit_same ..) ?_
          refine .ite ?_ ?_
          · refine .step (State.withSdh_same ..) ?_
            refine .ite ?_ ?_
            · exact .step (State.setFld_same ..) (.step (State.sdAbort_same ..) (.step (State.setRegN_same ..) (.refl ..)))
            · exact .step (State.setRegN_same ..) (.refl ..)
          · refine .ite ?_ ?_
            · exact .step (State.setFld_same ..) (.step (State.sdAbort_same ..) (.step (State.setRegN_same ..) (.refl ..)))
            · exact .step (State.setRegN_same ..) (.refl ..)
        · refine .ite ?_ ?_
          · refine .step (State.withSdh_same ..) ?_
            refine .ite ?_ ?_
            · exact .step (State.setFld_same ..) (.step (State.sdAbort_same ..) (.step (State.setRegN_same ..) (.refl ..)))
            · exact .step (State.setRegN_same ..) (.refl ..)
          · refine .ite ?_ ?_
            · exact .step (State.setFld_same ..) (.step (State.sdAbort_same ..) (.step (State.setRegN_same ..) (.refl ..)))
            · exact .step (State.setRegN_same ..) (.refl ..)
      · refine .ite ?_ ?_
        · refine .step (State.sdInit_same ..) ?_
          refine .ite ?_ ?_
          · refine .step (State.withSdh_same ..) ?_
            refine .ite ?_ ?_
            · exact .step (State.setFld_same ..) (.step (State.sdAbort_same ..) (.step (State.setRegN_same ..) (.refl ..)))
            · exact .step (State.setRegN_same ..) (.refl ..)
          · refine .ite ?_ ?_
            · exact .step (State.setFld_same ..) (.step (State.sdAbort_same ..) (.step (State.setRegN_same ..) (.refl ..)))
            · exact .step (State.setRegN_same ..) (.refl ..)
        · refine .ite ?_ ?_
          · refine .step (State.withSdh_same ..) ?_
            refine .ite ?_ ?_
            · exact .step (State.setFld_same ..) (.step (State.sdAbort_same ..) (.step (State.setRegN_same ..) (.refl ..)))
            · exact .step (State.setRegN_same ..) (.refl ..)
          · refine .ite ?_ ?_
            · exact .step (State.setFld_same ..) (.step (State.sdAbort_same ..) (.step (State.setRegN_same ..) (.refl ..)))
            · exact .step (State.setRegN_same ..) (.refl ..)
  · refine .ite ?_ ?_
    · exact .step (State.setRegN_same ..) (.refl ..)
    · exact .refl ..

theorem State.sdNegotiate_same (s x1) : Same [.regs] s (State.sdNegotiate s x1) := by
  unfold State.sdNegotiate
  refine .ite ?_ ?_
  · exact .step (State.setFld_same ..) (.step (State.setFld_same ..) (.step (State.setFld_same ..) (.refl ..)))
  · exact .step (State.setFld_same ..) (.step (State.setFld_same ..) (.refl ..))

theorem State.sdCount_same (s x1) : Same [.regs, .dict] s (State.sdCount s x1) := by
  unfold State.sdCount
  refine .ite ?_ ?_
  · exact .step (State.count_same ..) (.refl ..)
  · refine .ite ?_ ?_
    · exact .step (State.count_same ..) (.refl ..)
    · exact .refl ..

theorem State.sdReply_same (s x1) : Same [.regs, .dict, .evt, .sdh] s (State.sdReply s x1) := by
  unfold State.sdReply
  refine .ite ?_ ?_
  · exact .refl ..
  · refine .ite ?_ ?_
    · refine .step (State.sdEnd_same ..) ?_
      refine .ite ?_ ?_
      · exact .refl ..
      · refine .ite ?_ ?_
        · refine .foldl _ (fun _ _ _ => ?_) _ ?_
          · exact .step (State.setReg_same ..) ‹_›
          · exact .refl ..
        · exact .step (State.setReg_same ..) (.refl ..)
    · refine .ite ?_ ?_
      · exact .step (State.sdEnd_same ..) (.step (State.sdCount_same ..) (.refl ..))
      · refine .ite ?_ ?_
        · exact .step (State.sdEnd_same ..) (.step (State.sdCount_same ..) (.refl ..))
        · refine .step (State.sdEnd_same ..) ?_
          refine .ite ?_ ?_
          · exact .refl ..
          · refine .ite ?_ ?_
            · refine .foldl _ (fun _ _ _ => ?_) _ ?_
              · exact .step (State.setReg_same ..) ‹_›
              · exact .refl ..
            · exact .step (State.setReg_same ..) (.refl ..)

theorem execCardInserted_same (x0 s) : After [.regs, .evt] s (execCardInserted x0 s) := by
  unfold execCardInserted
  refine .ite ?_ ?_
  · refine .next ?_
    exact .refl ..
  · refine .ite ?_ ?_
    · refine .ite ?_ ?_
      · refine .next ?_
        exact .refl ..
      · refine .next ?_
        exact .step (State.raise_same ..) (.step (State.setFld_same ..) (.step (State.setFld_same ..) (.refl ..)))
    · refine .ite ?_ ?_
      · refine .next ?_
        exact .refl ..
      · refine .next ?_
        exact .step (State.raise_same ..) (.step (State.setFld_same ..) (.step (State.setFld_same ..) (.refl ..)))

theorem State.idcTryNext_same (s) : Same [.regs, .evt, .idc] s (State.idcTryNext s) := by
  unfold State.idcTryNext
  dsimp only
  split
  · exact .step (State.withIdc_same ..) (.step (State.idcOff_same ..) (.step (State.setFld_same ..) (.refl ..)))
  · exact .step (State.idcResult_same ..) (.step (State.idcOff_same ..) (.step (State.setFld_same ..) (.refl ..)))

theorem execNextClassActivation_same (s) :
    After [.now, .regs, .dict, .cal, .hld, .mtx, .convs, .evt, .idc] s (execNextClassActivation s) := by
  unfold execNextClassActivation
  split
  · dsimp only
    split
    · refine .next ?_
      exact .step (State.idcActivate_same ..) (.step (State.advanceTo_same ..) (.refl ..))
    · refine .next ?_
      exact .step (State.idcResult_same ..) (.step (State.withIdc_same ..) (.step (State.advanceTo_same ..) (.refl ..)))
  · refine .next ?_
    exact .refl ..

theorem execCardRemoved_same (x0 s) : After [.regs, .evt, .idc, .sdh] s (execCardRemoved x0 s) := by
  unfold execCardRemoved
  refine .ite ?_ ?_
  · refine .next ?_
    exact .refl ..
  · refine .ite ?_ ?_
    · refine .ite ?_ ?_
      · refine .next ?_
        exact .refl ..
      · refine .next ?_
        exact .step (State.sdAbort_same ..) (.step (State.raise_same ..) (.step (State.setFld_same ..) (.step (State.setFld_same ..)
          (.refl ..))))
    · refine .ite ?_ ?_
      · refine .next ?_
        exact .refl ..
      · refine .next ?_
        exact .step (State.idcOff_same ..) (.step (State.idcAbort_same ..) (.step (State.raise_same ..) (.step (State.setFld_same ..)
          (.step (State.setFld_same ..) (.refl ..)))))

theorem State.cardsOff_same (s) : Same [.regs, .evt, .idc, .sdh] s (State.cardsOff s) := by
  unfold State.cardsOff
  exact .step (State.sdAbort_same ..) (.step (State.idcOff_same ..) (.step (State.idcAbort_same ..) (.refl ..)))

theorem State.idcReady_same (s x1 x2) : Same [.regs, .evt] s (State.idcReady s x1 x2) := by
  unfold State.idcReady
  exact .step (State.idcResult_same ..) (.step (State.setFld_same ..) (.step (State.setFld_same ..) (.step (State.setFld_same ..)
    (.step (State.setFld_same ..) (.refl ..)))))

theorem State.idcFail_same (s x1) : Same [.regs, .evt, .idc] s (State.idcFail s x1) := by
  unfold State.idcFail
  exact .step (State.idcResult_same ..) (.step (State.idcOff_same ..) (.refl ..))

theorem execPpsExchange_same (x0 s) : After [.regs, .evt, .idc] s (execPpsExchange x0 s) := by
  unfold execPpsExchange
  refine .ite ?_ ?_
  · refine .next ?_
    exact .refl ..
  · refine .ite ?_ ?_
    · refine .next ?_
      exact .step (State.idcReady_same ..) (.refl ..)
    · refine .ite ?_ ?_
      · refine .next ?_
        exact .step (State.idcReady_same ..) (.refl ..)
      · refine .next ?_
        exact .step (State.idcFail_same ..) (.refl ..)

theorem State.idcEnd_same (s x1 x2) : Same [.regs, .evt, .idc] s (State.idcEnd s x1 x2) := by
  unfold State.idcEnd
  refine .step (State.idcResult_same ..) ?_
  refine .ite ?_ ?_
  · refine .step (State.setRegN_same ..) ?_
    refine .step (State.withIdc_same ..) ?_
    refine .ite ?_ ?_
    · exact .step (State.setRegN_same ..) (.step (State.setFld_same ..) (.refl ..))
    · exact .step (State.setFld_same ..) (.refl ..)
  · refine .step (State.setRegN_same ..) ?_
    refine .ite ?_ ?_
    · exact .step (State.setRegN_same ..) (.step (State.setFld_same ..) (.refl ..))
    · exact .step (State.setFld_same ..) (.refl ..)

theorem execT1BlockReceived_same (x0 x1 s) : After [.regs, .dict, .evt, .idc] s (execT1BlockReceived x0 x1 s) := by
  unfold execT1BlockReceived
  refine .ite ?_ ?_
  · refine .next ?_
    exact .refl ..
  · refine .ite ?_ ?_
    · refine .next ?_
      exact .step (State.idcEnd_same ..) (.step (State.countN_same ..) (.refl ..))
    · refine .ite ?_ ?_
      · refine .next ?_
        exact .step (State.idcEnd_same ..) (.step (State.count_same ..) (.refl ..))
      · refine .next ?_
        exact .step (State.idcEnd_same ..) (.refl ..)

theorem State.idcParams_same (s x1) : Same [.regs, .idc] s (State.idcParams s x1) := by
  unfold State.idcParams
  exact .step (State.withIdc_same ..) (.step (State.setRegN_same ..) (.refl ..))

theorem State.idcNegotiate_same (s x1) : Same [.regs, .evt, .idc] s (State.idcNegotiate s x1) := by
  unfold State.idcNegotiate
  dsimp only
  split
  · exact .step (State.idcReady_same ..) (.step (State.idcParams_same ..) (.refl ..))
  · refine .ite ?_ ?_
    · refine .ite ?_ ?_
      · exact .step (State.idcFail_same ..) (.step (State.idcParams_same ..) (.refl ..))
      · exact .step (State.setFld_same ..) (.step (State.withIdc_same ..) (.step (State.idcParams_same ..) (.refl ..)))
    · exact .step (State.idcReady_same ..) (.step (State.idcParams_same ..) (.refl ..))

theorem execAtrComplete_same (x0 x1 s) :
    After [.now, .regs, .dict, .cal, .hld, .mtx, .convs, .evt, .idc] s (execAtrComplete x0 x1 s) := by
  unfold execAtrComplete
  refine .ite ?_ ?_
  · refine .next ?_
    exact .refl ..
  · refine .ite ?_ ?_
    · refine .next ?_
      refine .step (State.idcFail_same ..) ?_
      refine .ite ?_ ?_
      · refine .step (State.count_same ..) ?_
        refine .step (State.setFlag_same ..) ?_
        refine .step (State.setRegN_same ..) ?_
        refine .foldl _ (fun _ _ _ => ?_) _ ?_
        · exact .step (State.setRegN_same ..) ‹_›
        · exact .step (State.idcSettle_same ..) (.step (State.advanceTo_same ..) (.refl ..))
      · refine .step (State.setFlag_same ..) ?_
        refine .step (State.setRegN_same ..) ?_
        refine .foldl _ (fun _ _ _ => ?_) _ ?_
        · exact .step (State.setRegN_same ..) ‹_›
        · exact .step (State.idcSettle_same ..) (.step (State.advanceTo_same ..) (.refl ..))
    · split
      · refine .ite ?_ ?_
        · refine .next ?_
          refine .step (State.idcNegotiate_same ..) ?_
          refine .ite ?_ ?_
          · refine .step (State.count_same ..) ?_
            refine .step (State.setFlag_same ..) ?_
            refine .step (State.setRegN_same ..) ?_
            refine .foldl _ (fun _ _ _ => ?_) _ ?_
            · exact .step (State.setRegN_same ..) ‹_›
            · exact .step (State.idcSettle_same ..) (.step (State.advanceTo_same ..) (.refl ..))
          · refine .step (State.setFlag_same ..) ?_
            refine .step (State.setRegN_same ..) ?_
            refine .foldl _ (fun _ _ _ => ?_) _ ?_
            · exact .step (State.setRegN_same ..) ‹_›
            · exact .step (State.idcSettle_same ..) (.step (State.advanceTo_same ..) (.refl ..))
        · refine .next ?_
          refine .step (State.idcTryNext_same ..) ?_
          refine .ite ?_ ?_
          · refine .step (State.count_same ..) ?_
            refine .step (State.setFlag_same ..) ?_
            refine .step (State.setRegN_same ..) ?_
            refine .foldl _ (fun _ _ _ => ?_) _ ?_
            · exact .step (State.setRegN_same ..) ‹_›
            · exact .step (State.idcSettle_same ..) (.step (State.advanceTo_same ..) (.refl ..))
          · refine .step (State.setFlag_same ..) ?_
            refine .step (State.setRegN_same ..) ?_
            refine .foldl _ (fun _ _ _ => ?_) _ ?_
            · exact .step (State.setRegN_same ..) ‹_›
            · exact .step (State.idcSettle_same ..) (.step (State.advanceTo_same ..) (.refl ..))
      · refine .next ?_
        refine .step (State.idcNegotiate_same ..) ?_
        refine .ite ?_ ?_
        · refine .step (State.count_same ..) ?_
          refine .step (State.setFlag_same ..) ?_
          refine .step (State.setRegN_same ..) ?_
          refine .foldl _ (fun _ _ _ => ?_) _ ?_
          · exact .step (State.setRegN_same ..) ‹_›
          · exact .step (State.idcSettle_same ..) (.step (State.advanceTo_same ..) (.refl ..))
        · refine .step (State.setFlag_same ..) ?_
          refine .step (State.setRegN_same ..) ?_
          refine .foldl _ (fun _ _ _ => ?_) _ ?_
          · exact .step (State.setRegN_same ..) ‹_›
          · exact .step (State.idcSettle_same ..) (.step (State.advanceTo_same ..) (.refl ..))

theorem execSdInitDone_same (x0 s) : After [.regs, .dict, .evt, .sdh] s (execSdInitDone x0 s) := by
  unfold execSdInitDone
  refine .ite ?_ ?_
  · refine .next ?_
    exact .refl ..
  · refine .ite ?_ ?_
    · refine .next ?_
      exact .step (State.sdOff_same ..) (.step (State.sdEnd_same ..) (.step (State.setFld_same ..) (.step (State.sdCount_same ..)
        (.refl ..))))
    · refine .next ?_
      refine .step (State.sdEnd_same ..) ?_
      refine .ite ?_ ?_
      · refine .step (State.setFld_same ..) ?_
        refine .foldl _ (fun _ _ _ => ?_) _ ?_
        · exact .step (State.setRegN_same ..) ‹_›
        · exact .step (State.setFld_same ..) (.step (State.setFlag_same ..) (.step (State.withSdh_same ..) (.refl ..)))
      · refine .step (State.sdNegotiate_same ..) ?_
        refine .foldl _ (fun _ _ _ => ?_) _ ?_
        · exact .step (State.setRegN_same ..) ‹_›
        · exact .step (State.setFld_same ..) (.step (State.setFlag_same ..) (.step (State.withSdh_same ..) (.refl ..)))

theorem State.sdUnlock_same (s x1 x2) : Same [.regs, .dict, .evt, .sdh] s (State.sdUnlock s x1 x2) := by
  unfold State.sdUnlock
  refine .ite ?_ ?_
  · exact .refl ..
  · refine .ite ?_ ?_
    · exact .step (State.sdReply_same ..) (.step (State.sdNegotiate_same ..) (.step (State.withSdh_same ..) (.refl ..)))
    · exact .step (State.sdReply_same ..) (.refl ..)

theorem State.sdBlockMoved_same (s) : Same [.regs, .evt, .sdh] s (State.sdBlockMoved s) := by
  unfold State.sdBlockMoved
  refine .ite ?_ ?_
  · exact .step (State.sdEnd_same ..) (.step (State.withSdh_same ..) (.step (State.setRegN_same ..) (.refl ..)))
  · refine .ite ?_ ?_
    · exact .step (State.sdEnd_same ..) (.step (State.withSdh_same ..) (.step (State.setRegN_same ..) (.refl ..)))
    · exact .step (State.withSdh_same ..) (.step (State.setRegN_same ..) (.refl ..))

theorem execSdBlock_same (x0 x1 s) : After [.free, .regs, .dict, .sram, .evt, .dmc, .sdh] s (execSdBlock x0 x1 s) := by
  unfold execSdBlock
  refine .ite ?_ ?_
  · refine .next ?_
    exact .refl ..
  · refine .ite ?_ ?_
    · refine .ite ?_ ?_
      · refine .next ?_
        exact .step (State.sdEnd_same ..) (.step (State.sdCount_same ..) (.refl ..))
      · refine .ite ?_ ?_
        · refine .next ?_
          exact .step (State.sdEnd_same ..) (.step (State.setRegN_same ..) (.step (State.memWrite_same ..) (.refl ..)))
        · refine .next ?_
          exact .step (State.sdBlockMoved_same ..) (.step (State.memWrite_same ..) (.refl ..))
    · refine .ite ?_ ?_
      · refine .ite ?_ ?_
        · refine .next ?_
          exact .step (State.sdEnd_same ..) (.step (State.setRegN_same ..) (.step (State.memRead_same ..) (.refl ..)))
        · refine .ite ?_ ?_
          · refine .next ?_
            exact .step (State.sdBlockMoved_same ..) (.step (State.memRead_same ..) (.refl ..))
          · refine .next ?_
            exact .step (State.sdEnd_same ..) (.step (State.memRead_same ..) (.refl ..))
      · refine .next ?_
        exact .refl ..

theorem State.sdTuned_same (s x1 x2) : Same [.regs, .sdh] s (State.sdTuned s x1 x2) := by
  unfold State.sdTuned
  refine .ite ?_ ?_
  · exact .refl ..
  · refine .ite ?_ ?_
    · exact .step (State.setFld_same ..) (.step (State.withSdh_same ..) (.refl ..))
    · exact .step (State.setFld_same ..) (.step (State.withSdh_same ..) (.refl ..))

theorem State.idcMove_same (s x1 x2) : Same [.idc] s (State.idcMove s x1 x2) := by
  unfold State.idcMove
  refine .ite ?_ ?_
  · exact .step (State.withIdc_same ..) (.refl ..)
  · exact .step (State.withIdc_same ..) (.refl ..)

theorem execProcedureByte_same (x0 x1 x2 s) : After [.regs, .dict, .evt, .idc] s (execProcedureByte x0 x1 x2 s) := by
  unfold execProcedureByte
  refine .ite ?_ ?_
  · refine .next ?_
    exact .refl ..
  · refine .ite ?_ ?_
    · refine .next ?_
      exact .step (State.idcEnd_same ..) (.step (State.countN_same ..) (.refl ..))
    · refine .ite ?_ ?_
      · refine .next ?_
        exact .step (State.countN_same ..) (.refl ..)
      · refine .ite ?_ ?_
        · refine .next ?_
          exact .step (State.idcMove_same ..) (.step (State.countN_same ..) (.refl ..))
        · refine .ite ?_ ?_
          · refine .next ?_
            exact .step (State.idcMove_same ..) (.step (State.countN_same ..) (.refl ..))
          · refine .ite ?_ ?_
            · refine .next ?_
              exact .step (State.idcEnd_same ..) (.step (State.countN_same ..) (.refl ..))
            · refine .next ?_
              exact .step (State.idcEnd_same ..) (.step (State.countN_same ..) (.refl ..))

theorem execAtrGapTimeout_same (s) :
    After [.now, .regs, .dict, .cal, .hld, .mtx, .convs, .evt, .idc] s (execAtrGapTimeout s) := by
  unfold execAtrGapTimeout
  refine .ite ?_ ?_
  · refine .next ?_
    exact .refl ..
  · refine .next ?_
    exact .step (State.idcFail_same ..) (.step (State.idcSettle_same ..) (.step (State.advanceTo_same ..) (.refl ..)))

theorem execSdTimeout_same (x0 s) : After [.regs, .dict, .evt, .sdh] s (execSdTimeout x0 s) := by
  unfold execSdTimeout
  refine .ite ?_ ?_
  · refine .next ?_
    exact .refl ..
  · refine .ite ?_ ?_
    · refine .ite ?_ ?_
      · refine .next ?_
        exact .step (State.sdOff_same ..) (.step (State.sdEnd_same ..) (.step (State.setFld_same ..) (.step (State.sdCount_same ..)
          (.refl ..))))
      · refine .next ?_
        exact .step (State.sdEnd_same ..) (.step (State.sdCount_same ..) (.refl ..))
    · refine .ite ?_ ?_
      · refine .ite ?_ ?_
        · refine .next ?_
          exact .step (State.sdEnd_same ..) (.step (State.sdCount_same ..) (.refl ..))
        · refine .next ?_
          exact .refl ..
      · refine .ite ?_ ?_
        · refine .next ?_
          exact .step (State.sdEnd_same ..) (.step (State.sdCount_same ..) (.refl ..))
        · refine .next ?_
          exact .refl ..

theorem execWaitingTimeExpiry_same (s) : After [.regs, .dict, .evt, .idc] s (execWaitingTimeExpiry s) := by
  unfold execWaitingTimeExpiry
  refine .ite ?_ ?_
  · refine .next ?_
    exact .refl ..
  · refine .next ?_
    exact .step (State.idcEnd_same ..) (.step (State.count_same ..) (.refl ..))

theorem execNoAtrTimeout_same (s) :
    After [.now, .regs, .dict, .cal, .hld, .mtx, .convs, .evt, .idc] s (execNoAtrTimeout s) := by
  unfold execNoAtrTimeout
  refine .ite ?_ ?_
  · refine .next ?_
    exact .refl ..
  · refine .next ?_
    exact .step (State.idcTryNext_same ..) (.step (State.idcSettle_same ..) (.step (State.advanceTo_same ..) (.refl ..)))

end Sys2Proof.Machine
end

