-- ==== Sys2Proof/Laws/SamePower.lean ====
section
/-! SUPPORT. Which parts of the state the operations leave as they were: power, reset, store, DRAM and Niquevor. -/

-- Theorems one after another: a thread for each would take more memory than there is.
set_option Elab.async false

namespace Sys2Proof.Machine

/-! ### NqOut -/

theorem State.modSession_same (s x1 x2) : Same [.nq] s (State.modSession s x1 x2) := by
  unfold State.modSession
  refine .ite ?_ ?_
  · exact .refl ..
  · exact .step (State.withNq_same ..) (.refl ..)

theorem State.endXfer_same (s x1 x2) : Same [.nq] s (State.endXfer s x1 x2) := by
  unfold State.endXfer
  exact .step (State.withNq_same ..) (.refl ..)

theorem State.nqSent_same (s x1) : Same [.nq] s (State.nqSent s x1) := by
  unfold State.nqSent
  refine .ite ?_ ?_
  · refine .step (State.withNq_same ..) ?_
    refine .ite ?_ ?_
    · exact .step (State.withNq_same ..) (.refl ..)
    · exact .step (State.modSession_same ..) (.step (State.withNq_same ..) (.refl ..))
  · refine .ite ?_ ?_
    · exact .step (State.withNq_same ..) (.refl ..)
    · exact .step (State.modSession_same ..) (.step (State.withNq_same ..) (.refl ..))

theorem State.nqPush_same (s x1) : Same [.nq] s (State.nqPush s x1) := by
  unfold State.nqPush
  refine .ite ?_ ?_
  · exact .step (State.withNq_same ..) (.refl ..)
  · exact .step (State.nqSent_same ..) (.refl ..)

theorem State.nqEmit_same (s x1 x2 x3 x4 x5 x6) : Same [.nq] s (State.nqEmit s x1 x2 x3 x4 x5 x6) := by
  unfold State.nqEmit
  refine .ite ?_ ?_
  · exact .step (State.nqPush_same ..) (.refl ..)
  · split
    · exact .refl ..
    · refine .ite ?_ ?_
      · exact .step (State.closeSession_same ..) (.step (State.nqPush_same ..) (.step (State.modSession_same ..) (.refl ..)))
      · exact .step (State.nqPush_same ..) (.step (State.modSession_same ..) (.refl ..))

theorem State.nqAbort_same (s x1 x2 x3 x4 x5) : Same [.nq] s (State.nqAbort s x1 x2 x3 x4 x5) := by
  unfold State.nqAbort
  exact .step (State.nqEmit_same ..) (.refl ..)

theorem State.delegate_same (s x1) : Same [.free, .regs, .dict, .sram, .evt, .dmc, .nq] s (State.delegate s x1).2 := by
  unfold State.delegate
  refine .ite2 ?_ ?_
  · exact .refl ..
  · refine .ite2 ?_ ?_
    · exact .refl ..
    · refine .ite2 ?_ ?_
      · exact .step (State.memWrite_same ..) (.refl ..)
      · exact .step (State.raise_same ..) (.step (State.setFld_same ..) (.step (State.withNq_same ..) (.step (State.memWrite_same ..)
          (.refl ..))))

theorem State.nqRespond_same (s x1 x2 x3 x4 x5 x6) : Same [.nq] s (State.nqRespond s x1 x2 x3 x4 x5 x6) := by
  unfold State.nqRespond
  exact .step (State.nqEmit_same ..) (.refl ..)

theorem State.putXfer_same (s x1) : Same [.nq] s (State.putXfer s x1) := by
  unfold State.putXfer
  exact .step (State.withNq_same ..) (.step (State.endXfer_same ..) (.refl ..))

theorem State.dlgWrite_same (s x1 x2 x3) :
    Same [.free, .regs, .dict, .sram, .evt, .dmc, .nq] s (State.dlgWrite s x1 x2 x3) := by
  unfold State.dlgWrite
  refine .ite ?_ ?_
  · exact .step (State.nqRespond_same ..) (.step (State.endXfer_same ..) (.refl ..))
  · refine .ite ?_ ?_
    · refine .ite ?_ ?_
      · exact .step (State.delegate_same ..) (.refl ..)
      · exact .step (State.nqRespond_same ..) (.step (State.endXfer_same ..) (.step (State.delegate_same ..) (.refl ..)))
    · refine .ite ?_ ?_
      · exact .step (State.nqAbort_same ..) (.step (State.endXfer_same ..) (.refl ..))
      · refine .step (State.nqRespond_same ..) ?_
        refine .ite ?_ ?_
        · exact .step (State.endXfer_same ..) (.refl ..)
        · exact .step (State.putXfer_same ..) (.refl ..)

theorem State.dlgRead_same (s x1 x2 x3 x4) :
    Same [.free, .regs, .dict, .sram, .evt, .dmc, .nq] s (State.dlgRead s x1 x2 x3 x4) := by
  unfold State.dlgRead
  refine .ite ?_ ?_
  · exact .step (State.nqAbort_same ..) (.step (State.endXfer_same ..) (.refl ..))
  · refine .ite ?_ ?_
    · refine .step (State.nqEmit_same ..) ?_
      refine .ite ?_ ?_
      · exact .step (State.endXfer_same ..) (.refl ..)
      · exact .step (State.putXfer_same ..) (.refl ..)
    · refine .ite ?_ ?_
      · exact .step (State.delegate_same ..) (.refl ..)
      · exact .step (State.nqAbort_same ..) (.step (State.endXfer_same ..) (.step (State.delegate_same ..) (.refl ..)))

theorem State.dlgStart_same (s x1 x2 x3) : Same [.nq] s (State.dlgStart s x1 x2 x3) := by
  unfold State.dlgStart
  refine .ite ?_ ?_
  · exact .step (State.nqRespond_same ..) (.refl ..)
  · exact .step (State.nqRespond_same ..) (.step (State.putXfer_same ..) (.refl ..))

theorem State.dlgEnd_same (s x1 x2 x3 x4) :
    Same [.free, .regs, .dict, .sram, .evt, .dmc, .nq] s (State.dlgEnd s x1 x2 x3 x4) := by
  unfold State.dlgEnd
  refine .ite ?_ ?_
  · exact .step (State.dlgStart_same ..) (.refl ..)
  · refine .ite ?_ ?_
    · exact .step (State.nqRespond_same ..) (.refl ..)
    · refine .ite ?_ ?_
      · exact .step (State.nqRespond_same ..) (.refl ..)
      · split
        · refine .ite ?_ ?_
          · refine .ite ?_ ?_
            · exact .step (State.dlgRead_same ..) (.refl ..)
            · exact .step (State.dlgWrite_same ..) (.refl ..)
          · exact .step (State.modSession_same ..) (.refl ..)
        · exact .step (State.modSession_same ..) (.refl ..)

theorem State.dlgAnswer_same (s x1) : Same [.free, .regs, .dict, .sram, .evt, .dmc, .nq] s (State.dlgAnswer s x1) := by
  unfold State.dlgAnswer
  refine .ite ?_ ?_
  · exact .refl ..
  · exact .step (State.dlgEnd_same ..) (.step (State.memRead_same ..) (.refl ..))

theorem State.dlgDrop_same (s x1 x2) : Same [.free, .regs, .dict, .sram, .evt, .dmc, .nq] s (State.dlgDrop s x1 x2) := by
  unfold State.dlgDrop
  refine .foldl _ (fun _ _ _ => ?_) _ ?_
  · exact .step (State.dlgEnd_same ..) ‹_›
  · exact .step (State.withNq_same ..) (.refl ..)

theorem State.nqCores_same (s) : Same [.free, .regs, .dict, .sram, .evt, .dmc, .nq] s (State.nqCores s) := by
  unfold State.nqCores
  refine .ite ?_ ?_
  · exact .refl ..
  · exact .step (State.dlgDrop_same ..) (.refl ..)

/-! ### Power -/

theorem pwrRead_same (x0 x1 s) : Same [] s (pwrRead x0 x1 s).2 := by
  unfold pwrRead
  refine .ite2 ?_ ?_
  · exact .refl ..
  · exact .refl ..

theorem State.pwrRequest_same (s x1) : Same [.regs, .dict, .pwr, .evt] s (State.pwrRequest s x1) := by
  unfold State.pwrRequest
  refine .ite ?_ ?_
  · exact .step (State.pwrEnd_same ..) (.refl ..)
  · exact .step (State.withPwr_same ..) (.refl ..)

theorem pwrWrite_same (x0 x1 x2 x3 s) : Same [.regs, .dict, .pwr, .evt] s (pwrWrite x0 x1 x2 x3 s) := by
  unfold pwrWrite
  refine .ite ?_ ?_
  · refine .ite ?_ ?_
    · exact .step (State.pwrRequest_same ..) (.refl ..)
    · exact .refl ..
  · refine .ite ?_ ?_
    · exact .step (State.setRegN_same ..) (.refl ..)
    · exact .refl ..

theorem State.drainDomain_same (s x1) :
    Same [.free, .regs, .dict, .sram, .mtx, .lanes, .convs, .hvs, .aut, .cip, .threads, .evt, .trc, .ic, .dmc, .idc, .sdh] s (State.drainDomain s x1) := by
  unfold State.drainDomain
  refine .ite ?_ ?_
  · dsimp only
    split
    · refine .ite ?_ ?_
      · refine .step (State.withIc_same ..) ?_
        refine .step (State.traceDrain_same ..) ?_
        refine .foldl _ (fun _ _ _ => ?_) _ ?_
        · exact .step (State.setRun_same ..) ‹_›
        · exact .refl ..
      · refine .step (State.traceDrain_same ..) ?_
        refine .foldl _ (fun _ _ _ => ?_) _ ?_
        · exact .step (State.setRun_same ..) ‹_›
        · exact .refl ..
    · refine .step (State.traceDrain_same ..) ?_
      refine .foldl _ (fun _ _ _ => ?_) _ ?_
      · exact .step (State.setRun_same ..) ‹_›
      · exact .refl ..
  · refine .ite ?_ ?_
    · exact .step (State.pipeStop_same ..) (.step (State.pipeStop_same ..) (.refl ..))
    · refine .ite ?_ ?_
      · exact .step (State.pipeStop_same ..) (.step (State.pipeStop_same ..) (.refl ..))
      · refine .ite ?_ ?_
        · exact .step (State.wipePages_same ..) (.refl ..)
        · refine .ite ?_ ?_
          · refine .foldl _ (fun _ _ _ => ?_) _ ?_
            · refine .ite ?_ ?_
              · exact .step (State.laneStop_same ..) ‹_›
              · assumption
            · exact .refl ..
          · refine .ite ?_ ?_
            · exact .step (State.cardsOff_same ..) (.refl ..)
            · exact .refl ..

theorem State.switchBegin_same (s x1 x2) :
    Same [.free, .regs, .dict, .sram, .pwr, .mtx, .lanes, .convs, .hvs, .aut, .cip, .threads, .evt, .trc, .ic, .dmc, .idc, .sdh] s (State.switchBegin s x1 x2) := by
  unfold State.switchBegin
  refine .step (State.withPwr_same ..) ?_
  refine .step (State.setDom_same ..) ?_
  refine .ite ?_ ?_
  · exact .step (State.drainDomain_same ..) (.refl ..)
  · exact .refl ..

theorem State.pwrTake_same (s x1 x2) :
    Same [.free, .regs, .dict, .sram, .pwr, .mtx, .lanes, .convs, .hvs, .aut, .cip, .threads, .evt, .trc, .ic, .dmc, .idc, .sdh] s (State.pwrTake s x1 x2) := by
  unfold State.pwrTake
  split
  · exact .step (State.pwrEnd_same ..) (.refl ..)
  · exact .step (State.switchBegin_same ..) (.refl ..)

theorem execRequestTaken_same (s) :
    After [.free, .regs, .dict, .sram, .pwr, .mtx, .lanes, .convs, .hvs, .aut, .cip, .threads, .evt, .trc, .ic, .dmc, .idc, .sdh] s (execRequestTaken s) := by
  unfold execRequestTaken
  refine .ite ?_ ?_
  · refine .next ?_
    exact .refl ..
  · split
    · refine .next ?_
      exact .step (State.pwrTake_same ..) (.step (State.withPwr_same ..) (.refl ..))
    · split
      · refine .next ?_
        exact .step (State.pwrTake_same ..) (.step (State.withPwr_same ..) (.refl ..))
      · refine .next ?_
        exact .step (State.withPwr_same ..) (.refl ..)

theorem execRailGood_same (s) : After [.pwr] s (execRailGood s) := by
  unfold execRailGood
  split
  · refine .next ?_
    refine .ite ?_ ?_
    · exact .step (State.withPwr_same ..) (.refl ..)
    · exact .refl ..
  · refine .next ?_
    exact .refl ..

theorem State.domainOff_same (s x1) :
    Same [.free, .regs, .snaps, .dict, .staged, .pairs, .sram, .rst, .cal, .hld, .mtx, .lanes, .convs, .hvs, .cls, .aut, .cip, .threads, .cores, .evt, .trc, .ic, .hk, .dmc, .idc, .sdh, .nq] s (State.domainOff s x1) := by
  unfold State.domainOff
  refine .ite ?_ ?_
  · exact .step (State.nqCores_same ..) (.step (State.withRst_same ..) (.step (State.setDom_same ..) (.step
      (State.loseDomain_same ..) (.refl ..))))
  · exact .step (State.withRst_same ..) (.step (State.setDom_same ..) (.step (State.loseDomain_same ..) (.refl ..)))

theorem State.switchEnd_same (s x1 x2) : Same [.regs, .dict, .pwr, .evt] s (State.switchEnd s x1 x2) := by
  unfold State.switchEnd
  refine .ite ?_ ?_
  · exact .step (State.shedNow_same ..) (.step (State.pwrEnd_same ..) (.step (State.withPwr_same ..) (.refl ..)))
  · exact .step (State.pwrEnd_same ..) (.step (State.withPwr_same ..) (.refl ..))

theorem execDrainDone_same (s) :
    After [.free, .regs, .snaps, .dict, .staged, .pairs, .sram, .pwr, .rst, .cal, .hld, .mtx, .lanes, .convs, .hvs, .cls, .aut, .cip, .threads, .cores, .evt, .trc, .ic, .hk, .dmc, .idc, .sdh, .nq] s (execDrainDone s) := by
  unfold execDrainDone
  split
  · refine .next ?_
    refine .ite ?_ ?_
    · exact .step (State.switchEnd_same ..) (.step (State.domainOff_same ..) (.refl ..))
    · exact .refl ..
  · refine .next ?_
    exact .refl ..

theorem execRetEntryDone_same (s) : After [.regs, .dict, .pwr, .evt] s (execRetEntryDone s) := by
  unfold execRetEntryDone
  split
  · refine .next ?_
    refine .ite ?_ ?_
    · exact .step (State.switchEnd_same ..) (.step (State.setDom_same ..) (.refl ..))
    · exact .refl ..
  · refine .next ?_
    exact .refl ..

theorem execRailGoodTimeout_same (s) :
    After [.now, .free, .regs, .snaps, .dict, .staged, .pairs, .sram, .pwr, .rst, .cal, .hld, .mtx, .lanes, .convs, .hvs, .cls, .aut, .cip, .threads, .cores, .evt, .trc, .ic, .hk, .dmc, .idc, .sdh, .nq] s (execRailGoodTimeout s) := by
  unfold execRailGoodTimeout
  split
  · refine .ite ?_ ?_
    · refine .next ?_
      exact .step (State.switchEnd_same ..) (.step (State.domainOff_same ..) (.step (State.advanceTo_same ..) (.refl ..)))
    · refine .next ?_
      exact .refl ..
  · refine .next ?_
    exact .refl ..

theorem State.coreCold_same (s x1) : Same [.cores, .trc] s (State.coreCold s x1) := by
  unfold State.coreCold
  exact .step (State.withTrc_same ..) (.step (State.withCores_same ..) (.refl ..))

theorem State.calStart_same (s) : Same [.regs, .cal] s (State.calStart s) := by
  unfold State.calStart
  exact .step (State.setRegN_same ..) (.step (State.setRegN_same ..) (.step (State.withCal_same ..) (.refl ..)))

theorem State.domainUp_same (s x1) :
    Same [.free, .regs, .dict, .tmp, .nvs, .cal, .hld, .mtx, .convs, .cip, .cores, .evt, .trc, .hk] s (State.domainUp s x1) := by
  unfold State.domainUp
  dsimp only
  split
  · exact .step (State.calStart_same ..) (.step (State.applyObjs_same ..) (.step (State.setDom_same ..) (.refl ..)))
  · exact .step (State.dacPreset_same ..) (.step (State.dacPreset_same ..) (.step (State.applyObjs_same ..) (.step
      (State.setDom_same ..) (.refl ..))))
  · exact .step (State.coreCold_same ..) (.step (State.applyObjs_same ..) (.step (State.setDom_same ..) (.refl ..)))
  · exact .step (State.coreCold_same ..) (.step (State.applyObjs_same ..) (.step (State.setDom_same ..) (.refl ..)))
  · exact .step (State.pipesUp_same ..) (.step (State.applyObjs_same ..) (.step (State.setDom_same ..) (.refl ..)))
  · exact .step (State.pipesUp_same ..) (.step (State.applyObjs_same ..) (.step (State.setDom_same ..) (.refl ..)))
  · exact .step (State.hkUp_same ..) (.step (State.applyObjs_same ..) (.step (State.setDom_same ..) (.refl ..)))
  · exact .step (State.applyObjs_same ..) (.step (State.setDom_same ..) (.refl ..))

theorem execSwitchOnDone_same (s) :
    After [.free, .regs, .dict, .pwr, .tmp, .nvs, .cal, .hld, .mtx, .convs, .cip, .cores, .evt, .trc, .hk] s (execSwitchOnDone s) := by
  unfold execSwitchOnDone
  split
  · refine .next ?_
    refine .ite ?_ ?_
    · exact .step (State.switchEnd_same ..) (.step (State.domainUp_same ..) (.refl ..))
    · exact .refl ..
  · refine .next ?_
    exact .refl ..

/-! ### Store -/

theorem nvsRead_same (x0 x1 s) : Same [.regs] s (nvsRead x0 x1 s).2 := by
  unfold nvsRead
  refine .ite2 ?_ ?_
  · refine .ite2 ?_ ?_
    · exact .refl ..
    · exact .step (State.setFld_same ..) (.refl ..)
  · refine .ite2 ?_ ?_
    · exact .refl ..
    · refine .ite2 ?_ ?_
      · exact .refl ..
      · refine .ite2 ?_ ?_
        · exact .refl ..
        · refine .ite2 ?_ ?_
          · exact .refl ..
          · refine .ite2 ?_ ?_
            · exact .refl ..
            · refine .ite2 ?_ ?_
              · exact .refl ..
              · refine .ite2 ?_ ?_
                · exact .refl ..
                · exact .refl ..

theorem fusWrite_same (x0 x1 x2 x3 s) : Same [.regs, .fus] s (fusWrite x0 x1 x2 x3 s) := by
  unfold fusWrite
  refine .ite ?_ ?_
  · refine .ite ?_ ?_
    · exact .step (State.setFld_same ..) (.refl ..)
    · exact .step (State.setFld_same ..) (.step (State.withFus_same ..) (.refl ..))
  · exact .refl ..

theorem nvsWrite_same (x0 x1 x2 x3 s) : Same [.regs, .dict, .nvs] s (nvsWrite x0 x1 x2 x3 s) := by
  unfold nvsWrite
  refine .ite ?_ ?_
  · refine .ite ?_ ?_
    · exact .step (State.setReg_same ..) (.refl ..)
    · refine .ite ?_ ?_
      · exact .step (State.count_same ..) (.step (State.setFld_same ..) (.refl ..))
      · exact .step (State.nvsRequest_same ..) (.step (State.setFld_same ..) (.refl ..))
  · refine .ite ?_ ?_
    · refine .ite ?_ ?_
      · exact .refl ..
      · exact .step (State.setReg_same ..) (.refl ..)
    · refine .ite ?_ ?_
      · refine .ite ?_ ?_
        · exact .refl ..
        · exact .step (State.setFld_same ..) (.step (State.withNvs_same ..) (.refl ..))
      · refine .ite ?_ ?_
        · refine .ite ?_ ?_
          · exact .refl ..
          · exact .step (State.setReg_same ..) (.refl ..)
        · exact .refl ..

theorem State.nextRotation_same (s) : Same [.regs, .nvs] s (State.nextRotation s) := by
  unfold State.nextRotation
  split
  · exact .step (State.setFld_same ..) (.step (State.setFld_same ..) (.step (State.withNvs_same ..) (.refl ..)))
  · exact .refl ..

theorem State.loadRoleKeys_same (s) : Same [.regs, .nvs, .evt] s (State.loadRoleKeys s) := by
  unfold State.loadRoleKeys
  refine .ite ?_ ?_
  · exact .step (State.withNvs_same ..) (.refl ..)
  · refine .ite ?_ ?_
    · exact .step (State.withNvs_same ..) (.refl ..)
    · exact .step (State.raise_same ..) (.step (State.withNvs_same ..) (.refl ..))

theorem State.fusePowerLoss_same (s) : Same [.free, .fus] s (State.fusePowerLoss s) := by
  unfold State.fusePowerLoss
  split
  · exact .refl ..
  · exact .step (State.withFus_same ..) (.step (State.drawIn_same ..) (.refl ..))

theorem State.nvsEnd_same (s x1 x2) : Same [.regs, .tmp, .nvs, .hld, .evt, .nq] s (State.nvsEnd s x1 x2) := by
  unfold State.nvsEnd
  refine .step (State.nvsRelease_same ..) ?_
  split
  · refine .step (State.setFld_same ..) ?_
    split
    · refine .foldl _ (fun _ _ _ => ?_) _ ?_
      · exact .step (State.setRegN_same ..) ‹_›
      · exact .step (State.setFld_same ..) (.refl ..)
    · exact .step (State.setFld_same ..) (.refl ..)
  · refine .step (State.hldStoreEnd_same ..) ?_
    split
    · refine .foldl _ (fun _ _ _ => ?_) _ ?_
      · exact .step (State.setRegN_same ..) ‹_›
      · exact .step (State.setFld_same ..) (.refl ..)
    · exact .step (State.setFld_same ..) (.refl ..)
  · refine .step (State.tmpStoreEnd_same ..) ?_
    split
    · refine .foldl _ (fun _ _ _ => ?_) _ ?_
      · exact .step (State.setRegN_same ..) ‹_›
      · exact .step (State.setFld_same ..) (.refl ..)
    · exact .step (State.setFld_same ..) (.refl ..)
  · refine .step (State.nqStoreEnd_same ..) ?_
    split
    · refine .foldl _ (fun _ _ _ => ?_) _ ?_
      · exact .step (State.setRegN_same ..) ‹_›
      · exact .step (State.setFld_same ..) (.refl ..)
    · exact .step (State.setFld_same ..) (.refl ..)

theorem State.nvsReadDone_same (s x1 x2) : Same [.regs, .dict, .tmp, .nvs, .hld, .evt, .nq] s (State.nvsReadDone s x1 x2) := by
  unfold State.nvsReadDone
  refine .ite ?_ ?_
  · exact .step (State.nvsEnd_same ..) (.step (State.report_same ..) (.step (State.raise_same ..) (.step (State.count_same ..)
      (.step (State.withNvs_same ..) (.refl ..)))))
  · exact .step (State.nvsEnd_same ..) (.step (State.withNvs_same ..) (.refl ..))

theorem State.pageWrite_same (s x1 x2) : Same [.regs, .dict, .nvs, .evt] s (State.pageWrite s x1 x2) := by
  unfold State.pageWrite
  refine .ite ?_ ?_
  · exact .step (State.count_same ..) (.step (State.withNvs_same ..) (.refl ..))
  · refine .ite ?_ ?_
    · exact .step (State.withNvs_same ..) (.step (State.count_same ..) (.step (State.withNvs_same ..) (.refl ..)))
    · exact .step (State.raise_same ..) (.step (State.withNvs_same ..) (.step (State.count_same ..) (.step (State.withNvs_same ..)
        (.refl ..))))

theorem State.roleKeyDone_same (s x1 x2) : Same [.regs, .dict, .nvs, .evt] s (State.roleKeyDone s x1 x2) := by
  unfold State.roleKeyDone
  exact .step (State.withNvs_same ..) (.step (State.pageWrite_same ..) (.refl ..))

theorem execNvsOperationComplete_same (s) :
    After [.regs, .dict, .tmp, .nvs, .hld, .evt, .nq] s (execNvsOperationComplete s) := by
  unfold execNvsOperationComplete
  split
  · dsimp only
    split
    · refine .next ?_
      exact .step (State.nvsReadDone_same ..) (.step (State.withNvs_same ..) (.refl ..))
    · refine .next ?_
      exact .step (State.nvsEnd_same ..) (.step (State.raise_same ..) (.step (State.withNvs_same ..) (.step (State.withNvs_same ..)
        (.refl ..))))
    · refine .next ?_
      exact .step (State.nextRotation_same ..) (.step (State.nvsEnd_same ..) (.step (State.raise_same ..) (.step
        (State.roleKeyDone_same ..) (.step (State.withNvs_same ..) (.refl ..)))))
    · refine .next ?_
      refine .step (State.nextRotation_same ..) ?_
      refine .step (State.nvsEnd_same ..) ?_
      refine .step (State.raise_same ..) ?_
      refine .foldl _ (fun _ _ _ => ?_) _ ?_
      · exact .step (State.pageWrite_same ..) ‹_›
      · exact .step (State.withNvs_same ..) (.refl ..)
  · refine .next ?_
    exact .refl ..

theorem State.nvsPowerLoss_same (s) : Same [.free, .nvs] s (State.nvsPowerLoss s) := by
  unfold State.nvsPowerLoss
  dsimp only
  split
  · exact .step (State.withNvs_same ..) (.step (State.drawIn_same ..) (.step (State.withNvs_same ..) (.refl ..)))
  · refine .ite ?_ ?_
    · exact .step (State.withNvs_same ..) (.step (State.withNvs_same ..) (.refl ..))
    · exact .step (State.withNvs_same ..) (.step (State.withNvs_same ..) (.refl ..))
  · exact .step (State.withNvs_same ..) (.step (State.withNvs_same ..) (.refl ..))
  · exact .step (State.withNvs_same ..) (.refl ..)

theorem execFuseProgramDone_same (s) :
    After [.now, .regs, .dict, .fus, .cal, .hld, .mtx, .convs, .evt] s (execFuseProgramDone s) := by
  unfold execFuseProgramDone
  split
  · refine .next ?_
    exact .step (State.setFld_same ..) (.step (State.withFus_same ..) (.step (State.advanceTo_same ..) (.refl ..)))
  · refine .next ?_
    exact .refl ..

theorem State.nvsRefused_same (s x1 x2) : Same [.regs, .dict, .nvs, .evt] s (State.nvsRefused s x1 x2) := by
  unfold State.nvsRefused
  refine .ite ?_ ?_
  · split
    · refine .step (State.raise_same ..) ?_
      refine .step (State.withNvs_same ..) ?_
      refine .ite ?_ ?_
      · exact .step (State.raise_same ..) (.step (State.count_same ..) (.refl ..))
      · exact .step (State.count_same ..) (.refl ..)
    · refine .step (State.raise_same ..) ?_
      refine .ite ?_ ?_
      · exact .step (State.raise_same ..) (.step (State.count_same ..) (.refl ..))
      · exact .step (State.count_same ..) (.refl ..)
  · refine .ite ?_ ?_
    · exact .step (State.raise_same ..) (.step (State.count_same ..) (.refl ..))
    · exact .step (State.count_same ..) (.refl ..)

theorem execNvsOperationStart_same (s) : After [.regs, .dict, .tmp, .nvs, .hld, .evt, .nq] s (execNvsOperationStart s) := by
  unfold execNvsOperationStart
  split
  · refine .ite ?_ ?_
    · refine .next ?_
      refine .ite ?_ ?_
      · exact .step (State.tmpStarted_same ..) (.step (State.withNvs_same ..) (.step (State.withNvs_same ..) (.refl ..)))
      · exact .step (State.withNvs_same ..) (.step (State.withNvs_same ..) (.refl ..))
    · refine .next ?_
      exact .step (State.nvsEnd_same ..) (.step (State.nvsRefused_same ..) (.step (State.withNvs_same ..) (.refl ..)))
  · refine .next ?_
    exact .refl ..

theorem State.rotationDone_same (s x1) : Same [.regs, .nvs, .evt] s (State.rotationDone s x1) := by
  unfold State.rotationDone
  refine .step (State.nextRotation_same ..) ?_
  refine .ite ?_ ?_
  · exact .step (State.raise_same ..) (.step (State.raise_same ..) (.step (State.setFld_same ..) (.step (State.setFld_same ..)
      (.step (State.withNvs_same ..) (.refl ..)))))
  · exact .step (State.raise_same ..) (.step (State.setFld_same ..) (.step (State.setFld_same ..) (.step (State.withNvs_same ..)
      (.refl ..))))

theorem execWearRotationDone_same (s) :
    After [.now, .regs, .dict, .nvs, .cal, .hld, .mtx, .convs, .evt] s (execWearRotationDone s) := by
  unfold execWearRotationDone
  split
  · refine .next ?_
    exact .step (State.rotationDone_same ..) (.step (State.advanceTo_same ..) (.refl ..))
  · refine .next ?_
    exact .refl ..

theorem execFuseCompare_same (s) : After [.regs, .tmp, .evt] s (execFuseCompare s) := by
  unfold execFuseCompare
  refine .ite ?_ ?_
  · refine .next ?_
    exact .refl ..
  · refine .ite ?_ ?_
    · refine .next ?_
      exact .refl ..
    · refine .next ?_
      refine .step (State.report_same ..) ?_
      refine .step (State.raise_same ..) ?_
      refine .step (State.setFld_same ..) ?_
      refine .foldl _ (fun _ _ _ => ?_) _ ?_
      · exact .step (State.setReg_same ..) ‹_›
      · exact .refl ..

theorem State.loadFuses_same (s) : Same [.regs, .fus] s (State.loadFuses s) := by
  unfold State.loadFuses
  refine .step (State.setFld_same ..) ?_
  refine .step (State.withFus_same ..) ?_
  refine .foldl _ (fun _ _ _ => ?_) _ ?_
  · exact .step (State.setReg_same ..) ‹_›
  · exact .refl ..

/-! ### Reset -/

theorem rstRead_same (x0 x1 s) : Same [] s (rstRead x0 x1 s).2 := by
  unfold rstRead
  refine .ite2 ?_ ?_
  · exact .refl ..
  · exact .refl ..

theorem rstWrite_same (x0 x1 x2 x3 s) :
    Same [.regs, .snaps, .dict, .staged, .pairs, .pwr, .rst, .tmp, .cal, .hld, .mtx, .lanes, .convs, .hvs, .cls, .aut, .cip, .threads, .cores, .evt, .trc, .ic, .hk, .dmc, .idc, .sdh, .nq] s (rstWrite x0 x1 x2 x3 s) := by
  unfold rstWrite
  refine .ite ?_ ?_
  · refine .ite ?_ ?_
    · exact .step (State.systemReset_same ..) (.refl ..)
    · exact .refl ..
  · refine .ite ?_ ?_
    · refine .ite ?_ ?_
      · exact .step (State.setFld_same ..) (.refl ..)
      · refine .ite ?_ ?_
        · exact .step (State.withRst_same ..) (.refl ..)
        · exact .refl ..
    · refine .ite ?_ ?_
      · refine .ite ?_ ?_
        · exact .step (State.withRst_same ..) (.refl ..)
        · exact .refl ..
      · exact .refl ..

theorem execRealTimeClockAlarm_same (s) : After [.regs, .evt] s (execRealTimeClockAlarm s) := by
  unfold execRealTimeClockAlarm
  refine .next ?_
  exact .step (State.raise_same ..) (.refl ..)

theorem State.startBootSet_same (s) : Same [.regs, .pwr, .rst] s (State.startBootSet s) := by
  unfold State.startBootSet
  refine .ite ?_ ?_
  · exact .step (State.setFld_same ..) (.step (State.withPwr_same ..) (.step (State.withRst_same ..) (.refl ..)))
  · exact .step (State.setFld_same ..) (.step (State.withRst_same ..) (.refl ..))

theorem execVddCoreGood_same (s) : After [.regs, .pwr, .rst] s (execVddCoreGood s) := by
  unfold execVddCoreGood
  refine .next ?_
  refine .ite ?_ ?_
  · refine .step (State.startBootSet_same ..) ?_
    refine .ite ?_ ?_
    · exact .refl ..
    · exact .step (State.withRst_same ..) (.refl ..)
  · refine .ite ?_ ?_
    · exact .refl ..
    · exact .step (State.withRst_same ..) (.refl ..)

theorem execWatchdogExpiry_same (s) :
    After [.now, .regs, .snaps, .dict, .staged, .pairs, .pwr, .rst, .tmp, .cal, .hld, .mtx, .lanes, .convs, .hvs, .cls, .aut, .cip, .threads, .cores, .evt, .trc, .ic, .hk, .dmc, .idc, .sdh, .nq] s (execWatchdogExpiry s) := by
  unfold execWatchdogExpiry
  refine .ite ?_ ?_
  · refine .next ?_
    exact .step (State.systemReset_same ..) (.step (State.advanceTo_same ..) (.refl ..))
  · refine .next ?_
    exact .refl ..

theorem State.pinReset_same (s) :
    Same [.regs, .snaps, .dict, .staged, .pairs, .pwr, .rst, .tmp, .cal, .hld, .mtx, .lanes, .convs, .hvs, .cls, .aut, .cip, .threads, .cores, .evt, .trc, .ic, .hk, .dmc, .idc, .sdh, .nq] s (State.pinReset s) := by
  unfold State.pinReset
  refine .ite ?_ ?_
  · exact .step (State.systemReset_same ..) (.refl ..)
  · exact .refl ..

theorem execResetNLow_same (s) :
    After [.regs, .snaps, .dict, .staged, .pairs, .pwr, .rst, .tmp, .cal, .hld, .mtx, .lanes, .convs, .hvs, .cls, .aut, .cip, .threads, .cores, .evt, .trc, .ic, .hk, .dmc, .idc, .sdh, .nq] s (execResetNLow s) := by
  unfold execResetNLow
  refine .ite ?_ ?_
  · refine .next ?_
    exact .refl ..
  · refine .next ?_
    refine .ite ?_ ?_
    · exact .step (State.pinReset_same ..) (.step (State.setFld_same ..) (.step (State.withRst_same ..) (.refl ..)))
    · exact .step (State.withRst_same ..) (.refl ..)

theorem execSlowClockLoss_same (s) : After [.regs, .rst] s (execSlowClockLoss s) := by
  unfold execSlowClockLoss
  refine .ite ?_ ?_
  · refine .next ?_
    exact .step (State.setFld_same ..) (.refl ..)
  · refine .next ?_
    exact .step (State.withRst_same ..) (.refl ..)

theorem execVscapLow_same (s) : After [.rst] s (execVscapLow s) := by
  unfold execVscapLow
  refine .next ?_
  exact .step (State.withRst_same ..) (.refl ..)

theorem execResetNHigh_same (s) : After [.regs, .rst] s (execResetNHigh s) := by
  unfold execResetNHigh
  refine .ite ?_ ?_
  · refine .next ?_
    exact .refl ..
  · refine .next ?_
    refine .ite ?_ ?_
    · exact .step (State.setFld_same ..) (.step (State.withRst_same ..) (.refl ..))
    · exact .step (State.withRst_same ..) (.refl ..)

theorem execPorAssert_same (s) :
    After [.free, .regs, .snaps, .dict, .staged, .pairs, .sram, .pwr, .rst, .tmp, .nvs, .fus, .trn, .cal, .hld, .mtx, .lanes, .convs, .hvs, .cls, .aut, .cip, .threads, .cores, .evt, .trc, .ic, .hk, .dmc, .idc, .sdh, .nq] s (execPorAssert s) := by
  unfold execPorAssert
  refine .ite ?_ ?_
  · refine .next ?_
    exact .refl ..
  · refine .next ?_
    refine .step (State.withNvs_same ..) ?_
    refine .step (State.withRst_same ..) ?_
    refine .step (State.withHld_same ..) ?_
    refine .step (State.withTrc_same ..) ?_
    refine .step (State.withNq_same ..) ?_
    refine .step (State.withHk_same ..) ?_
    refine .step (State.withTrn_same ..) ?_
    refine .step (State.withTmp_same ..) ?_
    refine .step (State.withPwr_same ..) ?_
    refine .foldl _ (fun _ _ _ => ?_) _ ?_
    · exact .step (State.resetBlock_same ..) ‹_›
    · refine .foldl _ (fun _ _ _ => ?_) _ ?_
      · exact .step (State.setDom_same ..) (.step (State.loseDomain_same ..) ‹_›)
      · exact .step (State.fusePowerLoss_same ..) (.step (State.nvsPowerLoss_same ..) (.refl ..))

theorem execRstOutRelease_same (s) :
    After [.now, .regs, .dict, .rst, .cal, .hld, .mtx, .convs, .evt] s (execRstOutRelease s) := by
  unfold execRstOutRelease
  split
  · refine .next ?_
    exact .step (State.withRst_same ..) (.step (State.advanceTo_same ..) (.refl ..))
  · refine .next ?_
    exact .refl ..

theorem execNiquevorReset_same (s) :
    After [.now, .regs, .snaps, .dict, .staged, .pairs, .pwr, .rst, .tmp, .cal, .hld, .mtx, .lanes, .convs, .hvs, .cls, .aut, .cip, .threads, .cores, .evt, .trc, .ic, .hk, .dmc, .idc, .sdh, .nq] s (execNiquevorReset s) := by
  unfold execNiquevorReset
  split
  · refine .next ?_
    exact .step (State.systemReset_same ..) (.step (State.withNq_same ..) (.step (State.advanceTo_same ..) (.refl ..)))
  · refine .next ?_
    exact .refl ..

theorem execBrownout_same (s) :
    After [.regs, .snaps, .dict, .staged, .pairs, .pwr, .rst, .tmp, .cal, .hld, .mtx, .lanes, .convs, .hvs, .cls, .aut, .cip, .threads, .cores, .evt, .trc, .ic, .hk, .dmc, .idc, .sdh, .nq] s (execBrownout s) := by
  unfold execBrownout
  refine .ite ?_ ?_
  · refine .next ?_
    exact .refl ..
  · refine .next ?_
    exact .step (State.systemReset_same ..) (.step (State.withRst_same ..) (.refl ..))

theorem State.restoreEnd_same (s x1) :
    Same [.free, .regs, .dict, .tmp, .nvs, .cal, .hld, .mtx, .convs, .evt, .hk, .nq] s (State.restoreEnd s x1) := by
  unfold State.restoreEnd
  refine .ite ?_ ?_
  · refine .step (State.nqEmptyWrite_same ..) ?_
    refine .step (State.withNq_same ..) ?_
    refine .foldl _ (fun _ _ _ => ?_) _ ?_
    · exact .step (State.applyObjs_same ..) ‹_›
    · exact .refl ..
  · exact .refl ..

theorem State.holdDone_same (s x1) :
    Same [.free, .regs, .dict, .pwr, .rst, .tmp, .nvs, .cal, .hld, .mtx, .convs, .cip, .cores, .evt, .trc, .hk, .nq] s (State.holdDone s x1) := by
  unfold State.holdDone
  refine .step (State.startBootSet_same ..) ?_
  refine .foldl _ (fun _ _ _ => ?_) _ ?_
  · exact .step (State.domainUp_same ..) ‹_›
  · exact .step (State.withPwr_same ..) (.step (State.withRst_same ..) (.step (State.restoreEnd_same ..) (.refl ..)))

theorem execSystemResetHoldEnd_same (s) :
    After [.now, .free, .regs, .dict, .pwr, .rst, .tmp, .nvs, .cal, .hld, .mtx, .convs, .cip, .cores, .evt, .trc, .hk, .nq] s (execSystemResetHoldEnd s) := by
  unfold execSystemResetHoldEnd
  split
  · refine .ite ?_ ?_
    · refine .next ?_
      exact .step (State.holdDone_same ..) (.step (State.advanceTo_same ..) (.refl ..))
    · refine .next ?_
      exact .refl ..
  · refine .next ?_
    exact .refl ..

theorem execResetNRearm_same (s) : After [.now, .regs, .dict, .cal, .hld, .mtx, .convs, .evt] s (execResetNRearm s) := by
  unfold execResetNRearm
  refine .ite ?_ ?_
  · refine .next ?_
    exact .step (State.setFld_same ..) (.step (State.advanceTo_same ..) (.refl ..))
  · refine .next ?_
    exact .refl ..

theorem execSlowClockReturn_same (s) : After [.regs] s (execSlowClockReturn s) := by
  unfold execSlowClockReturn
  refine .next ?_
  refine .ite ?_ ?_
  · exact .step (State.setFld_same ..) (.refl ..)
  · exact .refl ..

theorem execBootEntry_same (s) : After [.regs, .dict, .pwr, .rst, .threads, .trc] s (execBootEntry s) := by
  unfold execBootEntry
  refine .ite ?_ ?_
  · refine .next (.ite ?_ ?_)
    · exact .step (State.bootStart_same ..) (.step (State.withRst_same ..) (.step (State.withPwr_same ..) (.refl ..)))
    · exact .step (State.withRst_same ..) (.step (State.withPwr_same ..) (.refl ..))
  · refine .next ?_
    exact .refl ..

theorem execPorRelease_same (s) :
    After [.free, .regs, .snaps, .dict, .staged, .pairs, .pwr, .rst, .tmp, .nvs, .fus, .trn, .cal, .hld, .mtx, .lanes, .convs, .hvs, .cls, .aut, .cip, .threads, .cores, .evt, .trc, .ic, .hk, .dmc, .idc, .sdh, .nq] s (execPorRelease s) := by
  unfold execPorRelease
  refine .ite ?_ ?_
  · refine .next ?_
    exact .refl ..
  · refine .next ?_
    refine .step (State.nextRotation_same ..) ?_
    refine .step (State.pinReset_same ..) ?_
    refine .step (State.startBootSet_same ..) ?_
    refine .step (State.setFlag_same ..) ?_
    refine .step (State.applyObjs_same ..) ?_
    refine .step (State.tmpLoad_same ..) ?_
    refine .step (State.nqLoad_same ..) ?_
    refine .step (State.loadRoleKeys_same ..) ?_
    refine .step (State.trnStartup_same ..) ?_
    refine .step (State.withRst_same ..) ?_
    refine .step (State.setFlag_same ..) ?_
    refine .step (State.loadFuses_same ..) ?_
    refine .ite ?_ ?_
    · exact .step (State.withRst_same ..) (.step (State.withRst_same ..) (.refl ..))
    · exact .step (State.withRst_same ..) (.refl ..)

theorem execResetNStuck_same (s) : After [.now, .regs, .dict, .cal, .hld, .mtx, .convs, .evt] s (execResetNStuck s) := by
  unfold execResetNStuck
  refine .ite ?_ ?_
  · refine .next ?_
    refine .ite ?_ ?_
    · exact .step (State.setFld_same ..) (.step (State.advanceTo_same ..) (.refl ..))
    · exact .step (State.setFld_same ..) (.step (State.setFld_same ..) (.step (State.advanceTo_same ..) (.refl ..)))
  · refine .next ?_
    exact .refl ..

/-! ### Dram -/

theorem dmcRegRead_same (x0 x1 s) : Same [] s (dmcRegRead x0 x1 s).2 := by
  unfold dmcRegRead
  refine .ite2 ?_ ?_
  · exact .refl ..
  · exact .refl ..

theorem State.dmcUnfreeze_same (s x1 x2) : Same [.regs, .dmc] s (State.dmcUnfreeze s x1 x2) := by
  unfold State.dmcUnfreeze
  refine .ite ?_ ?_
  · exact .step (State.setFld_same ..) (.step (State.withDmc_same ..) (.refl ..))
  · split
    · refine .ite ?_ ?_
      · exact .step (State.withDmc_same ..) (.refl ..)
      · exact .step (State.setFld_same ..) (.step (State.withDmc_same ..) (.refl ..))
    · refine .ite ?_ ?_
      · exact .step (State.withDmc_same ..) (.refl ..)
      · exact .step (State.setFld_same ..) (.refl ..)

theorem State.dmcInit_same (s) : Same [.regs, .dmc] s (State.dmcInit s) := by
  unfold State.dmcInit
  refine .ite ?_ ?_
  · exact .refl ..
  · refine .ite ?_ ?_
    · exact .step (State.setFld_same ..) (.refl ..)
    · refine .step (State.setFld_same ..) ?_
      refine .step (State.setFld_same ..) ?_
      refine .step (State.withDmc_same ..) ?_
      refine .ite ?_ ?_
      · exact .step (State.setFld_same ..) (.refl ..)
      · exact .refl ..

theorem dmcRegWrite_same (x0 x1 x2 x3 s) : Same [.regs, .dmc] s (dmcRegWrite x0 x1 x2 x3 s) := by
  unfold dmcRegWrite
  refine .ite ?_ ?_
  · refine .ite ?_ ?_
    · exact .step (State.dmcInit_same ..) (.step (State.setFld_same ..) (.refl ..))
    · exact .refl ..
  · refine .ite ?_ ?_
    · refine .ite ?_ ?_
      · exact .step (State.setReg_same ..) (.refl ..)
      · exact .refl ..
    · refine .ite ?_ ?_
      · exact .step (State.dmcUnfreeze_same ..) (.refl ..)
      · refine .ite ?_ ?_
        · refine .ite ?_ ?_
          · exact .step (State.setReg_same ..) (.refl ..)
          · exact .refl ..
        · exact .refl ..

theorem execPanicStart_same (s) : After [.regs, .dict, .evt] s (execPanicStart s) := by
  unfold execPanicStart
  refine .ite ?_ ?_
  · refine .next ?_
    exact .step (State.count_same ..) (.step (State.raise_same ..) (.step (State.setFld_same ..) (.refl ..)))
  · refine .next ?_
    exact .refl ..

theorem State.burstPut_same (s x1 x2 x3 x4) : Same [.mtx] s (State.burstPut s x1 x2 x3 x4) := by
  unfold State.burstPut
  exact .step (State.withMtx_same ..) (.refl ..)

theorem execPanicEnd_same (s) : After [.regs] s (execPanicEnd s) := by
  unfold execPanicEnd
  refine .ite ?_ ?_
  · refine .next ?_
    exact .step (State.setFld_same ..) (.refl ..)
  · refine .next ?_
    exact .refl ..

theorem State.dmcRefresh_same (s) : Same [.regs, .evt, .dmc] s (State.dmcRefresh s) := by
  unfold State.dmcRefresh
  refine .ite ?_ ?_
  · exact .refl ..
  · exact .step (State.raise_same ..) (.step (State.withDmc_same ..) (.refl ..))

theorem execRefresh_same (s) : After [.regs, .evt, .dmc] s (execRefresh s) := by
  unfold execRefresh
  refine .ite ?_ ?_
  · refine .next ?_
    exact .step (State.dmcRefresh_same ..) (.refl ..)
  · refine .next ?_
    exact .refl ..

theorem State.dmcUpset_same (s x1 x2) : Same [.dmc] s (State.dmcUpset s x1 x2) := by
  unfold State.dmcUpset
  refine .ite ?_ ?_
  · exact .step (State.withDmc_same ..) (.refl ..)
  · refine .ite ?_ ?_
    · exact .step (State.withDmc_same ..) (.refl ..)
    · exact .refl ..

theorem State.scrubLine_same (s x1) : Same [.free, .regs, .dict, .evt, .dmc] s (State.scrubLine s x1) := by
  unfold State.scrubLine
  refine .ite ?_ ?_
  · exact .step (State.dmcCheck_same ..) (.step (State.dmcUpset_same ..) (.refl ..))
  · refine .ite ?_ ?_
    · exact .step (State.raise_same ..) (.step (State.count_same ..) (.step (State.withDmc_same ..) (.step (State.dmcCheck_same ..)
        (.step (State.dmcUpset_same ..) (.refl ..)))))
    · exact .step (State.withDmc_same ..) (.step (State.dmcCheck_same ..) (.step (State.dmcUpset_same ..) (.refl ..)))

theorem execScrubStep_same (x0 x1 s) : After [.free, .regs, .dict, .evt, .dmc] s (execScrubStep x0 x1 s) := by
  unfold execScrubStep
  refine .ite ?_ ?_
  · refine .next ?_
    exact .refl ..
  · refine .ite ?_ ?_
    · refine .next ?_
      exact .step (State.count_same ..) (.step (State.withDmc_same ..) (.refl ..))
    · refine .next ?_
      refine .step (State.scrubLine_same ..) ?_
      refine .step (State.withDmc_same ..) ?_
      refine .ite ?_ ?_
      · exact .step (State.count_same ..) (.refl ..)
      · exact .refl ..

theorem execNrtAccess_same (x0 x1 x2 x3 x4 x5 s) :
    After [.free, .regs, .dict, .answer, .sram, .evt, .dmc] s (execNrtAccess x0 x1 x2 x3 x4 x5 s) := by
  unfold execNrtAccess
  refine .ite ?_ ?_
  · refine .next ?_
    exact .refl ..
  · refine .ite ?_ ?_
    · refine .next ?_
      refine .step (State.withAnswer_same ..) ?_
      refine .step (State.memWrite_same ..) ?_
      split
      · exact .step (State.dmcUpset_same ..) (.refl ..)
      · exact .refl ..
    · refine .next ?_
      refine .step (State.withAnswer_same ..) ?_
      refine .step (State.memRead_same ..) ?_
      split
      · exact .step (State.dmcUpset_same ..) (.refl ..)
      · exact .refl ..

theorem State.burstStore_same (s x1 x2 x3) : Same [.dmc] s (State.burstStore s x1 x2 x3) := by
  unfold State.burstStore
  refine .foldl _ (fun _ _ _ => ?_) _ ?_
  · exact .step (State.withDmc_same ..) (.step (State.setDramBytes_same ..) ‹_›)
  · exact .refl ..

theorem execRtRequest_same (x0 x1 x2 s) : After [.free, .regs, .dict, .mtx, .evt, .dmc] s (execRtRequest x0 x1 x2 s) := by
  unfold execRtRequest
  refine .ite ?_ ?_
  · refine .next ?_
    exact .refl ..
  · dsimp only
    split
    · refine .next ?_
      exact .refl ..
    · refine .ite ?_ ?_
      · refine .next ?_
        exact .refl ..
      · refine .ite ?_ ?_
        · refine .next ?_
          exact .step (State.delayLost_same ..) (.step (State.burstPut_same ..) (.refl ..))
        · refine .ite ?_ ?_
          · refine .next ?_
            exact .step (State.burstPut_same ..) (.step (State.burstStore_same ..) (.refl ..))
          · refine .ite ?_ ?_
            · refine .next ?_
              exact .step (State.delayLost_same ..) (.step (State.burstPut_same ..) (.step (State.dmcCheck_same ..) (.step
                (State.dmcUpset_same ..) (.refl ..))))
            · refine .next ?_
              exact .step (State.burstPut_same ..) (.step (State.dmcCheck_same ..) (.step (State.dmcUpset_same ..) (.refl ..)))

theorem execDramResume_same (s) : After [.regs, .evt, .dmc] s (execDramResume s) := by
  unfold execDramResume
  refine .ite ?_ ?_
  · refine .next ?_
    exact .refl ..
  · refine .next ?_
    exact .step (State.raise_same ..) (.step (State.setFld_same ..) (.step (State.setRegN_same ..) (.step (State.dmcRefresh_same ..)
      (.step (State.withDmc_same ..) (.refl ..)))))

theorem State.setTrain_same (s x1) : Same [.regs] s (State.setTrain s x1) := by
  unfold State.setTrain
  refine .foldl _ (fun _ _ _ => ?_) _ ?_
  · exact .step (State.setRegN_same ..) ‹_›
  · exact .refl ..

theorem execTrainingDone_same (x0 x1 x2 x3 s) : After [.regs, .evt, .dmc] s (execTrainingDone x0 x1 x2 x3 s) := by
  unfold execTrainingDone
  refine .ite ?_ ?_
  · refine .next ?_
    exact .refl ..
  · refine .ite ?_ ?_
    · refine .next ?_
      refine .step (State.raise_same ..) ?_
      refine .step (State.setFld_same ..) ?_
      refine .step (State.setFld_same ..) ?_
      refine .step (State.setFld_same ..) ?_
      refine .step (State.withDmc_same ..) ?_
      refine .ite ?_ ?_
      · exact .refl ..
      · exact .step (State.setTrain_same ..) (.refl ..)
    · refine .ite ?_ ?_
      · refine .next ?_
        exact .step (State.setFld_same ..) (.step (State.withDmc_same ..) (.refl ..))
      · refine .next ?_
        exact .step (State.raise_same ..) (.step (State.setFld_same ..) (.step (State.setFld_same ..) (.step (State.setFld_same ..)
          (.step (State.setFld_same ..) (.refl ..)))))

theorem execZqCalibration_same (s) :
    After [.now, .regs, .dict, .cal, .hld, .mtx, .convs, .evt, .dmc] s (execZqCalibration s) := by
  unfold execZqCalibration
  refine .ite ?_ ?_
  · refine .next ?_
    exact .refl ..
  · refine .next ?_
    refine .ite ?_ ?_
    · exact .step (State.raise_same ..) (.step (State.setFld_same ..) (.step (State.dmcRefresh_same ..) (.step
        (State.withDmc_same ..) (.step (State.advanceTo_same ..) (.refl ..)))))
    · exact .step (State.dmcRefresh_same ..) (.step (State.withDmc_same ..) (.step (State.advanceTo_same ..) (.refl ..)))

/-! ### Peek -/

theorem trcRead_same (x0 x1 s) : Same [.regs] s (trcRead x0 x1 s).2 := by
  unfold trcRead
  refine .ite2 ?_ ?_
  · exact .step (State.traceRead_same ..) (.refl ..)
  · refine .ite2 ?_ ?_
    · exact .refl ..
    · exact .refl ..

theorem nqRead_same (x0 x1 s) : Same [] s (nqRead x0 x1 s).2 := by
  unfold nqRead
  refine .ite2 ?_ ?_
  · exact .refl ..
  · exact .refl ..

theorem trnRead_same (x0 x1 s) : Same [.free, .regs, .dict, .trn] s (trnRead x0 x1 s).2 := by
  unfold trnRead
  refine .ite2 ?_ ?_
  · exact .step (State.trnRandRead_same ..) (.refl ..)
  · refine .ite2 ?_ ?_
    · exact .step (State.trnRawRead_same ..) (.refl ..)
    · exact .refl ..

theorem blockRead_same (x0 x1 x2 s) : Same [.free, .regs, .dict, .trn, .cal, .aut, .idc] s (blockRead x0 x1 x2 s).2 := by
  unfold blockRead
  refine .ite2 ?_ ?_
  · exact .refl ..
  · split
    · exact .step (pwrRead_same ..) (.refl ..)
    · exact .step (rstRead_same ..) (.refl ..)
    · exact .step (evtRead_same ..) (.refl ..)
    · exact .step (hzRead_same ..) (.refl ..)
    · exact .step (trcRead_same ..) (.refl ..)
    · exact .step (tmpRead_same ..) (.refl ..)
    · exact .step (trnRead_same ..) (.refl ..)
    · exact .step (nvsRead_same ..) (.refl ..)
    · exact .step (hkRead_same ..) (.refl ..)
    · exact .step (nqRead_same ..) (.refl ..)
    · exact .step (idcRead_same ..) (.refl ..)
    · exact .step (dmcRegRead_same ..) (.refl ..)
    · exact .step (dmaRead_same ..) (.refl ..)
    · exact .step (calRead_same ..) (.refl ..)
    · exact .step (hldRead_same ..) (.refl ..)
    · exact .step (mtxRead_same ..) (.refl ..)
    · exact .step (lneRead_same ..) (.refl ..)
    · exact .step (srcRead_same ..) (.refl ..)
    · exact .step (clsRead_same ..) (.refl ..)
    · exact .step (autRead_same ..) (.refl ..)
    · exact .step (cipRead_same ..) (.refl ..)
    · exact .step (pkaRead_same ..) (.refl ..)
    · exact .refl ..

theorem regRead_same (x0 x1 x2 x3 s) : Same [.free, .regs, .dict, .trn, .cal, .aut, .idc] s (regRead x0 x1 x2 x3 s).2 := by
  unfold regRead
  exact .step (blockRead_same ..) (.refl ..)

/-! ### Flags -/

theorem State.integLog_same (s x1 x2 x3) : Same [.regs] s (State.integLog s x1 x2 x3) := by
  unfold State.integLog
  exact .step (State.setRegN_same ..) (.refl ..)

theorem State.setInteg_same (s x1 x2) : Same [.regs] s (State.setInteg s x1 x2) := by
  unfold State.setInteg
  exact .step (State.setRegN_same ..) (.refl ..)

theorem State.shadowFail_same (s x1 x2) : Same [.regs, .tmp, .evt] s (State.shadowFail s x1 x2) := by
  unfold State.shadowFail
  exact .step (State.reportAt_same ..) (.step (State.raise_same ..) (.step (State.integLog_same ..) (.step (State.setInteg_same ..)
    (.refl ..))))

theorem State.dropPair_same (s x1) : Same [.pairs] s (State.dropPair s x1) := by
  unfold State.dropPair
  exact .step (State.withPairs_same ..) (.refl ..)

theorem State.pairLate_same (s x1 x2) : Same [.regs, .pairs, .tmp, .evt] s (State.pairLate s x1 x2) := by
  unfold State.pairLate
  refine .ite ?_ ?_
  · exact .step (State.shadowFail_same ..) (.step (State.dropPair_same ..) (.refl ..))
  · exact .refl ..

theorem State.pairBreak_same (s x1 x2) : Same [.regs, .pairs, .tmp, .evt] s (State.pairBreak s x1 x2).2 := by
  unfold State.pairBreak
  refine .ite2 ?_ ?_
  · exact .step (State.shadowFail_same ..) (.step (State.dropPair_same ..) (.refl ..))
  · exact .refl ..

theorem State.lockedWrite_same (s x1 x2 x3 x4) : Same [.regs] s (State.lockedWrite s x1 x2 x3 x4) := by
  unfold State.lockedWrite
  refine .ite ?_ ?_
  · exact .step (State.setInteg_same ..) (.refl ..)
  · exact .refl ..

/-! ### NqTable -/

theorem State.setObjVal_same (s x1 x2 x3) : Same [.nq] s (State.setObjVal s x1 x2 x3) := by
  unfold State.setObjVal
  exact .step (State.withNq_same ..) (.refl ..)

/-! ### NqObjects -/

theorem State.bulReset_same (s x1) : Same [.nq] s (State.bulReset s x1) := by
  unfold State.bulReset
  exact .step (State.withNq_same ..) (.refl ..)

theorem State.rwpStore_same (s x1 x2 x3) :
    Same [.free, .regs, .dict, .tmp, .nvs, .cal, .hld, .mtx, .convs, .evt, .hk, .nq] s (State.rwpStore s x1 x2 x3).2 := by
  unfold State.rwpStore
  refine .ite2 ?_ ?_
  · exact .refl ..
  · refine .ite2 ?_ ?_
    · exact .refl ..
    · refine .ite2 ?_ ?_
      · exact .refl ..
      · refine .ite2 ?_ ?_
        · exact .refl ..
        · refine .ite2 ?_ ?_
          · exact .step (State.bulReset_same ..) (.step (State.applyObj_same ..) (.step (State.setObjVal_same ..) (.refl ..)))
          · exact .step (State.applyObj_same ..) (.step (State.setObjVal_same ..) (.refl ..))

theorem State.keyStore_same (s x1 x2) : Same [.nvs] s (State.keyStore s x1 x2).2 := by
  unfold State.keyStore
  refine .ite2 ?_ ?_
  · exact .refl ..
  · refine .ite2 ?_ ?_
    · exact .refl ..
    · exact .step (State.nvsRequest_same ..) (.refl ..)

theorem State.commitStore_same (s x1) : Same [.regs, .dict, .answer, .mtx, .convs, .evt, .nq] s (State.commitStore s x1).2 := by
  unfold commitStore
  refine .ite2 (.refl ..) ?_
  dsimp only
  exact .step (mtxWrite_same ..) (.step (setRegN_same ..) (.refl ..))

theorem State.objStore_same (s x1 x2 x3 x4) :
    Same [.free, .regs, .dict, .answer, .pwr, .tmp, .nvs, .cal, .hld, .mtx, .convs, .evt, .hk, .dmc, .nq] s (State.objStore s x1 x2 x3 x4).2 := by
  unfold State.objStore
  refine .ite2 ?_ ?_
  · exact .refl ..
  · refine .ite2 ?_ ?_
    · exact .step (State.rwpStore_same ..) (.refl ..)
    · dsimp only
      split
      · refine .ite2 ?_ ?_
        · exact .refl ..
        · exact .step (State.nqSave_same ..) (.refl ..)
      · refine .ite2 ?_ ?_
        · exact .refl ..
        · exact .step (State.withNq_same ..) (.refl ..)
      · refine .ite2 ?_ ?_
        · exact .refl ..
        · exact .step (State.clearAlmanac_same ..) (.refl ..)
      · exact .step (State.commitStore_same ..) (.refl ..)
      · exact .step (State.keyStore_same ..) (.refl ..)
      · refine .ite2 ?_ ?_
        · exact .refl ..
        · exact .step (State.tmpClear_same ..) (.refl ..)
      · refine .ite2 ?_ ?_
        · exact .refl ..
        · exact .step (State.pwrRequest_same ..) (.refl ..)
      · refine .ite2 ?_ ?_
        · exact .refl ..
        · exact .step (State.withNq_same ..) (.refl ..)
      · refine .ite2 ?_ ?_
        · exact .refl ..
        · refine .ite2 ?_ ?_
          · exact .refl ..
          · exact .step (State.dmcUnfreeze_same ..) (.step (State.dmcUnfreeze_same ..) (.refl ..))
      · exact .refl ..

/-! ### Niquevor -/

theorem State.dlgTail_same (s x1 x2) : Same [.free, .regs, .dict, .sram, .evt, .dmc, .nq] s (State.dlgTail s x1 x2) := by
  unfold State.dlgTail
  refine .foldl _ (fun _ _ _ => ?_) _ ?_
  · exact .step (State.dlgAnswer_same ..) ‹_›
  · exact .step (State.withNq_same ..) (.refl ..)

theorem nqWrite_same (x0 x1 x2 x3 s) : Same [.free, .regs, .dict, .sram, .evt, .dmc, .nq] s (nqWrite x0 x1 x2 x3 s) := by
  unfold nqWrite
  refine .ite ?_ ?_
  · exact .step (State.dlgTail_same ..) (.refl ..)
  · exact .refl ..

theorem State.nqNonce_same (s) : ∀ r, State.nqNonce s = some r → Same [.trn] s r.2 := by
  intro r h
  unfold nqNonce at h
  split at h
  · exact randNat_same _ _ _ h
  · split at h <;> cases h
    exact .step (withTrn_same ..) (.refl ..)

theorem State.reply_same (s x1 x2 x3) : Same [.nq] s (State.reply s x1 x2 x3) := by
  unfold State.reply
  exact .step (State.nqRespond_same ..) (.refl ..)

theorem State.stageImage_same (s x1 x2 x3) :
    Same [.free, .regs, .dict, .sram, .evt, .dmc] s (State.stageImage s x1 x2 x3).2 := by
  unfold State.stageImage
  refine .ite2 ?_ ?_
  · exact .step (State.memWrite_same ..) (.refl ..)
  · refine .ite2 ?_ ?_
    · refine .ite2 ?_ ?_
      · exact .refl ..
      · exact .step (State.memWrite_same ..) (.refl ..)
    · refine .step (State.memWrite_same ..) ?_
      refine .ite2 ?_ ?_
      · exact .refl ..
      · exact .step (State.memWrite_same ..) (.refl ..)

theorem State.segCommit_same (s x1 x2 x3 x4) :
    Same [.free, .regs, .dict, .answer, .pwr, .rst, .tmp, .nvs, .cal, .hld, .mtx, .convs, .evt, .hk, .dmc, .nq] s (State.segCommit s x1 x2 x3 x4) := by
  unfold State.segCommit
  refine .ite ?_ ?_
  · exact .step (State.reply_same ..) (.step (State.objStore_same ..) (.step (State.endXfer_same ..) (.refl ..)))
  · refine .ite ?_ ?_
    · refine .ite ?_ ?_
      · exact .step (State.setFld_same ..) (.step (State.withNq_same ..) (.step (State.endXfer_same ..) (.refl ..)))
      · exact .step (State.reply_same ..) (.step (State.endXfer_same ..) (.refl ..))
    · exact .step (State.reply_same ..) (.step (State.withRst_same ..) (.step (State.endXfer_same ..) (.refl ..)))

theorem State.segWrite_same (s x1 x2 x3 x4 x5) :
    Same [.free, .regs, .dict, .answer, .sram, .pwr, .rst, .tmp, .nvs, .cal, .hld, .mtx, .convs, .evt, .hk, .dmc, .nq] s (State.segWrite s x1 x2 x3 x4 x5) := by
  unfold State.segWrite
  refine .ite ?_ ?_
  · refine .step (State.reply_same ..) ?_
    refine .step (State.endXfer_same ..) ?_
    refine .ite2 ?_ ?_
    · exact .step (State.stageImage_same ..) (.refl ..)
    · exact .refl ..
  · refine .ite ?_ ?_
    · refine .step (State.segCommit_same ..) ?_
      refine .ite2 ?_ ?_
      · exact .step (State.stageImage_same ..) (.refl ..)
      · exact .refl ..
    · refine .step (State.reply_same ..) ?_
      refine .step (State.putXfer_same ..) ?_
      refine .ite2 ?_ ?_
      · exact .step (State.stageImage_same ..) (.refl ..)
      · exact .refl ..

theorem State.segAbort_same (s x1 x2) : Same [.nq] s (State.segAbort s x1 x2) := by
  unfold State.segAbort
  exact .step (State.nqAbort_same ..) (.step (State.endXfer_same ..) (.refl ..))

theorem State.segRead_same (s x1 x2) : Same [.nq] s (State.segRead s x1 x2) := by
  unfold State.segRead
  refine .step (State.nqEmit_same ..) ?_
  refine .ite ?_ ?_
  · exact .step (State.endXfer_same ..) (.refl ..)
  · exact .step (State.putXfer_same ..) (.refl ..)

theorem State.segment_same (s x1 x2 x3 x4) :
    Same [.free, .regs, .dict, .answer, .sram, .pwr, .rst, .tmp, .nvs, .cal, .hld, .mtx, .convs, .evt, .hk, .dmc, .nq] s (State.segment s x1 x2 x3 x4) := by
  unfold State.segment
  split
  · exact .step (State.nqAbort_same ..) (.refl ..)
  · refine .ite ?_ ?_
    · exact .step (State.segAbort_same ..) (.refl ..)
    · refine .ite ?_ ?_
      · refine .ite ?_ ?_
        · exact .step (State.delegate_same ..) (.refl ..)
        · refine .ite ?_ ?_
          · exact .step (State.reply_same ..) (.step (State.endXfer_same ..) (.step (State.delegate_same ..) (.refl ..)))
          · exact .step (State.segAbort_same ..) (.step (State.delegate_same ..) (.refl ..))
      · split
        · refine .ite ?_ ?_
          · refine .ite ?_ ?_
            · exact .step (State.reply_same ..) (.step (State.endXfer_same ..) (.refl ..))
            · exact .step (State.segAbort_same ..) (.refl ..)
          · refine .ite ?_ ?_
            · exact .step (State.segWrite_same ..) (.refl ..)
            · refine .ite ?_ ?_
              · exact .step (State.segAbort_same ..) (.refl ..)
              · exact .step (State.segRead_same ..) (.refl ..)
        · exact .step (State.segRead_same ..) (.refl ..)

theorem State.reqDelegate_same (s x1 x2 x3 x4) :
    Same [.free, .regs, .dict, .sram, .evt, .dmc, .nq] s (State.reqDelegate s x1 x2 x3 x4) := by
  unfold State.reqDelegate
  refine .ite ?_ ?_
  · exact .step (State.delegate_same ..) (.refl ..)
  · exact .step (State.reply_same ..) (.step (State.delegate_same ..) (.refl ..))

theorem State.serveWrite_same (s x1 x2) :
    Same [.free, .regs, .dict, .answer, .sram, .pwr, .tmp, .nvs, .cal, .hld, .mtx, .convs, .evt, .hk, .dmc, .nq] s (State.serveWrite s x1 x2) := by
  unfold State.serveWrite
  split
  · exact .step (State.reply_same ..) (.refl ..)
  · exact .step (State.reply_same ..) (.refl ..)
  · refine .ite ?_ ?_
    · exact .step (State.reply_same ..) (.refl ..)
    · exact .step (State.reqDelegate_same ..) (.refl ..)
  · refine .ite ?_ ?_
    · exact .step (State.reply_same ..) (.refl ..)
    · exact .step (State.reply_same ..) (.step (State.objStore_same ..) (.refl ..))

theorem State.segStart_same (s x1 x2 x3) :
    Same [.free, .regs, .dict, .sram, .rst, .evt, .dmc, .nq] s (State.segStart s x1 x2 x3) := by
  unfold State.segStart
  refine .ite ?_ ?_
  · exact .step (State.reply_same ..) (.step (State.endXfer_same ..) (.refl ..))
  · split
    · exact .step (State.reply_same ..) (.step (State.endXfer_same ..) (.refl ..))
    · exact .step (State.reqDelegate_same ..) (.step (State.endXfer_same ..) (.refl ..))
    · refine .ite ?_ ?_
      · exact .step (State.reply_same ..) (.step (State.endXfer_same ..) (.refl ..))
      · exact .step (State.reply_same ..) (.step (State.putXfer_same ..) (.step (State.endXfer_same ..) (.refl ..)))
    · refine .ite ?_ ?_
      · refine .ite ?_ ?_
        · exact .step (State.reply_same ..) (.step (State.endXfer_same ..) (.refl ..))
        · refine .step (State.reply_same ..) ?_
          refine .ite ?_ ?_
          · exact .step (State.withRst_same ..) (.step (State.putXfer_same ..) (.step (State.endXfer_same ..) (.refl ..)))
          · exact .step (State.putXfer_same ..) (.step (State.endXfer_same ..) (.refl ..))
      · exact .step (State.reply_same ..) (.step (State.putXfer_same ..) (.step (State.endXfer_same ..) (.refl ..)))

theorem State.serveRead_same (s x1) : Same [.free, .regs, .dict, .sram, .evt, .dmc, .nq] s (State.serveRead s x1) := by
  unfold State.serveRead
  split
  · exact .step (State.reply_same ..) (.refl ..)
  · exact .step (State.reqDelegate_same ..) (.refl ..)
  · exact .step (State.reply_same ..) (.refl ..)
  · refine .ite ?_ ?_
    · exact .step (State.reply_same ..) (.refl ..)
    · exact .step (State.reply_same ..) (.refl ..)

theorem State.serve_same (s x1 x2 x3 x4 x5) :
    Same [.free, .regs, .dict, .answer, .sram, .pwr, .rst, .tmp, .nvs, .cal, .hld, .mtx, .convs, .evt, .hk, .dmc, .nq] s (State.serve s x1 x2 x3 x4 x5) := by
  unfold State.serve
  refine .ite ?_ ?_
  · exact .step (State.nqEmit_same ..) (.refl ..)
  · dsimp only
    split
    · exact .step (State.serveRead_same ..) (.step (State.modSession_same ..) (.refl ..))
    · exact .step (State.serveWrite_same ..) (.step (State.modSession_same ..) (.refl ..))
    · exact .step (State.segStart_same ..) (.step (State.modSession_same ..) (.refl ..))
    · exact .step (State.segment_same ..) (.step (State.modSession_same ..) (.refl ..))

theorem State.sessionWrite_same (s x1 x2 x3 x4) :
    Same [.free, .regs, .dict, .answer, .sram, .pwr, .rst, .tmp, .nvs, .cal, .hld, .mtx, .convs, .evt, .hk, .dmc, .nq] s (State.sessionWrite s x1 x2 x3 x4) := by
  unfold State.sessionWrite
  split
  · refine .ite ?_ ?_
    · exact .step (State.serve_same ..) (.refl ..)
    · exact .refl ..
  · exact .refl ..

theorem execUnfreezeObject_same (x0 x1 s) :
    After [.free, .regs, .dict, .answer, .sram, .pwr, .rst, .tmp, .nvs, .cal, .hld, .mtx, .convs, .evt, .hk, .dmc, .nq] s (execUnfreezeObject x0 x1 s) := by
  unfold execUnfreezeObject
  refine .next ?_
  exact .step (State.sessionWrite_same ..) (.refl ..)

theorem State.refill_same (s) : Same [.nq] s (State.refill s) := by
  unfold State.refill
  split
  · exact .refl ..
  · exact .step (State.withNq_same ..) (.refl ..)

theorem State.sendBulletin_same (s x1 x2) : Same [.regs, .dict, .nq] s (State.sendBulletin s x1 x2) := by
  unfold State.sendBulletin
  refine .step (State.refill_same ..) ?_
  refine .step (State.nqSent_same ..) ?_
  refine .step (State.withNq_same ..) ?_
  refine .ite ?_ ?_
  · exact .step (State.count_same ..) (.refl ..)
  · exact .refl ..

theorem State.openRefused_same (s x1 x2) : Same [.nq] s (State.openRefused s x1 x2) := by
  unfold State.openRefused
  exact .step (State.nqEmit_same ..) (.refl ..)

theorem State.freeSession_same (s) : Same [.free] s (State.freeSession s).2 := by
  unfold State.freeSession
  exact .step (State.draw_same ..) (.refl ..)

theorem State.sessionOpen_same (s x1 x2) : Same [.free, .trn, .nq] s (State.sessionOpen s x1 x2) := by
  unfold sessionOpen
  dsimp only
  split
  · refine .ite (.step (openRefused_same ..) (.refl ..)) ?_
    split
    · exact .step (openRefused_same ..) (.refl ..)
    · split
      · rename_i hf
        have h := congrArg Prod.snd hf
        dsimp only at h
        subst h
        exact .step (openRefused_same ..) (.step (freeSession_same ..) (.step (nqNonce_same _ _ ‹_›) (.refl ..)))
      · rename_i hf
        have h := congrArg Prod.snd hf
        dsimp only at h
        subst h
        exact .step (nqPush_same ..) (.step (withNq_same ..) (.step (freeSession_same ..) (.step (nqNonce_same _ _ ‹_›) (.refl ..))))
  · exact .step (openRefused_same ..) (.refl ..)

theorem State.servePlain_same (s x1 x2) :
    Same [.free, .regs, .dict, .answer, .sram, .pwr, .rst, .tmp, .nvs, .trn, .cal, .hld, .mtx, .convs, .evt, .hk, .dmc, .nq] s (State.servePlain s x1 x2) := by
  unfold State.servePlain
  refine .ite ?_ ?_
  · exact .refl ..
  · refine .ite ?_ ?_
    · exact .step (State.sessionOpen_same ..) (.refl ..)
    · refine .ite ?_ ?_
      · exact .refl ..
      · refine .ite ?_ ?_
        · exact .step (State.endXfer_same ..) (.refl ..)
        · exact .step (State.serve_same ..) (.refl ..)

theorem State.nqDiscard_same (s) : Same [.regs, .dict] s (State.nqDiscard s) := by
  unfold State.nqDiscard
  exact .step (State.count_same ..) (.refl ..)

theorem State.answerFails_same (s x1) : Same [.regs, .dict, .tmp, .nq] s (State.answerFails s x1) := by
  unfold State.answerFails
  refine .ite ?_ ?_
  · exact .step (State.withNq_same ..) (.step (State.withNq_same ..) (.step (State.closeSession_same ..) (.step
      (State.report_same ..) (.step (State.nqDiscard_same ..) (.refl ..)))))
  · exact .step (State.withNq_same ..) (.step (State.closeSession_same ..) (.step (State.report_same ..) (.step
      (State.nqDiscard_same ..) (.refl ..))))

theorem State.answerTaken_same (s x1 x2) : Same [.regs, .dict, .tmp, .nq] s (State.answerTaken s x1 x2) := by
  unfold State.answerTaken
  refine .ite ?_ ?_
  · exact .step (State.openRefused_same ..) (.step (State.answerFails_same ..) (.refl ..))
  · refine .ite ?_ ?_
    · exact .step (State.openRefused_same ..) (.step (State.closeSession_same ..) (.refl ..))
    · exact .step (State.nqEmit_same ..) (.step (State.modSession_same ..) (.refl ..))

theorem State.serveProtected_same (s x1 x2) :
    Same [.free, .regs, .dict, .answer, .sram, .pwr, .rst, .tmp, .nvs, .cal, .hld, .mtx, .convs, .evt, .hk, .dmc, .nq] s (State.serveProtected s x1 x2) := by
  unfold State.serveProtected
  split
  · exact .step (State.nqDiscard_same ..) (.refl ..)
  · refine .ite ?_ ?_
    · exact .refl ..
    · refine .ite ?_ ?_
      · exact .step (State.nqDiscard_same ..) (.refl ..)
      · refine .ite ?_ ?_
        · exact .refl ..
        · refine .ite ?_ ?_
          · refine .ite ?_ ?_
            · exact .step (State.nqDiscard_same ..) (.refl ..)
            · exact .step (State.answerFails_same ..) (.refl ..)
          · refine .ite ?_ ?_
            · exact .refl ..
            · refine .ite ?_ ?_
              · refine .step (State.closeSession_same ..) ?_
                refine .ite ?_ ?_
                · exact .step (State.answerTaken_same ..) (.step (State.modSession_same ..) (.refl ..))
                · refine .ite ?_ ?_
                  · exact .step (State.closeSession_same ..) (.step (State.modSession_same ..) (.refl ..))
                  · refine .ite ?_ ?_
                    · exact .step (State.endXfer_same ..) (.step (State.modSession_same ..) (.refl ..))
                    · refine .ite ?_ ?_
                      · exact .step (State.modSession_same ..) (.refl ..)
                      · exact .step (State.serve_same ..) (.step (State.modSession_same ..) (.refl ..))
              · refine .ite ?_ ?_
                · exact .step (State.answerTaken_same ..) (.step (State.modSession_same ..) (.refl ..))
                · refine .ite ?_ ?_
                  · exact .step (State.closeSession_same ..) (.step (State.modSession_same ..) (.refl ..))
                  · refine .ite ?_ ?_
                    · exact .step (State.endXfer_same ..) (.step (State.modSession_same ..) (.refl ..))
                    · refine .ite ?_ ?_
                      · exact .step (State.modSession_same ..) (.refl ..)
                      · exact .step (State.serve_same ..) (.step (State.modSession_same ..) (.refl ..))

theorem State.nqFrame_same (s x1 x2 x3) :
    Same [.free, .regs, .dict, .answer, .sram, .pwr, .rst, .tmp, .nvs, .trn, .cal, .hld, .mtx, .convs, .evt, .hk, .dmc, .nq] s (State.nqFrame s x1 x2 x3) := by
  unfold State.nqFrame
  refine .ite ?_ ?_
  · exact .refl ..
  · split
    · exact .step (State.withNq_same ..) (.refl ..)
    · refine .ite ?_ ?_
      · exact .refl ..
      · refine .ite ?_ ?_
        · exact .step (State.serveProtected_same ..) (.step (State.withNq_same ..) (.refl ..))
        · exact .step (State.servePlain_same ..) (.step (State.withNq_same ..) (.refl ..))

theorem execAnswer_same (x0 x1 s) :
    After [.free, .regs, .dict, .answer, .sram, .pwr, .rst, .tmp, .nvs, .trn, .cal, .hld, .mtx, .convs, .evt, .hk, .dmc, .nq] s (execAnswer x0 x1 s) := by
  unfold execAnswer
  refine .next ?_
  exact .step (State.nqFrame_same ..) (.refl ..)

theorem execEveImageWrite_same (x0 x1 s) :
    After [.free, .regs, .dict, .answer, .sram, .pwr, .rst, .tmp, .nvs, .cal, .hld, .mtx, .convs, .evt, .hk, .dmc, .nq] s (execEveImageWrite x0 x1 s) := by
  unfold execEveImageWrite
  split
  · split
    · refine .ite ?_ ?_
      · refine .next ?_
        exact .step (State.serve_same ..) (.refl ..)
      · refine .next ?_
        exact .refl ..
    · refine .next ?_
      exact .refl ..
  · refine .next ?_
    exact .refl ..

theorem execSegmentGapTimeout_same (x0 x1 s) :
    After [.now, .regs, .dict, .cal, .hld, .mtx, .convs, .evt, .nq] s (execSegmentGapTimeout x0 x1 s) := by
  unfold execSegmentGapTimeout
  split
  · refine .next ?_
    exact .step (State.nqEmit_same ..) (.step (State.endXfer_same ..) (.step (State.advanceTo_same ..) (.refl ..)))
  · refine .next ?_
    exact .refl ..

theorem execRoleKeyWrite_same (x0 x1 x2 s) : After [.nvs, .nq] s (execRoleKeyWrite x0 x1 x2 s) := by
  unfold execRoleKeyWrite
  split
  · refine .ite ?_ ?_
    · refine .next ?_
      exact .refl ..
    · dsimp only
      split
      · refine .next ?_
        exact .step (State.reply_same ..) (.step (State.keyStore_same ..) (.step (State.modSession_same ..) (.refl ..)))
      · refine .next ?_
        exact .step (State.reply_same ..) (.step (State.modSession_same ..) (.refl ..))
      · refine .next ?_
        exact .step (State.modSession_same ..) (.refl ..)
  · refine .next ?_
    exact .refl ..

theorem execDelegationTimeout_same (s) :
    After [.now, .free, .regs, .dict, .sram, .cal, .hld, .mtx, .convs, .evt, .dmc, .nq] s (execDelegationTimeout s) := by
  unfold execDelegationTimeout
  split
  · refine .next ?_
    exact .step (State.dlgDrop_same ..) (.step (State.setFld_same ..) (.step (State.advanceTo_same ..) (.refl ..)))
  · refine .next ?_
    exact .refl ..

theorem execSessionIdleLimit_same (x0 s) :
    After [.now, .regs, .dict, .cal, .hld, .mtx, .convs, .evt, .nq] s (execSessionIdleLimit x0 s) := by
  unfold execSessionIdleLimit
  split
  · refine .next ?_
    refine .step (State.closeSession_same ..) ?_
    refine .ite ?_ ?_
    · exact .step (State.nqEmit_same ..) (.step (State.advanceTo_same ..) (.refl ..))
    · exact .step (State.advanceTo_same ..) (.refl ..)
  · refine .next ?_
    exact .refl ..

theorem execTransmitOpportunity_same (s) : After [.regs, .dict, .nq] s (execTransmitOpportunity s) := by
  unfold execTransmitOpportunity
  refine .ite ?_ ?_
  · refine .next ?_
    exact .refl ..
  · split
    · refine .next ?_
      exact .step (State.sendBulletin_same ..) (.refl ..)
    · refine .ite ?_ ?_
      · refine .next ?_
        exact .step (State.sendBulletin_same ..) (.refl ..)
      · refine .next ?_
        exact .step (State.nqSent_same ..) (.step (State.withNq_same ..) (.refl ..))
    · refine .next ?_
      exact .step (State.nqSent_same ..) (.step (State.withNq_same ..) (.refl ..))
    · refine .next ?_
      exact .refl ..

theorem execCommitRequestObject_same (x0 x1 s) :
    After [.free, .regs, .dict, .answer, .sram, .pwr, .rst, .tmp, .nvs, .cal, .hld, .mtx, .convs, .evt, .hk, .dmc, .nq] s (execCommitRequestObject x0 x1 s) := by
  unfold execCommitRequestObject
  refine .next ?_
  exact .step (State.sessionWrite_same ..) (.refl ..)

theorem execSegment_same (x0 x1 s) :
    After [.free, .regs, .dict, .answer, .sram, .pwr, .rst, .tmp, .nvs, .trn, .cal, .hld, .mtx, .convs, .evt, .hk, .dmc, .nq] s (execSegment x0 x1 s) := by
  unfold execSegment
  refine .next ?_
  exact .step (State.nqFrame_same ..) (.refl ..)

theorem execRead_same (x0 x1 s) :
    After [.free, .regs, .dict, .answer, .sram, .pwr, .rst, .tmp, .nvs, .trn, .cal, .hld, .mtx, .convs, .evt, .hk, .dmc, .nq] s (execRead x0 x1 s) := by
  unfold execRead
  refine .next ?_
  exact .step (State.nqFrame_same ..) (.refl ..)

theorem execSavePersistent_same (x0 s) :
    After [.free, .regs, .dict, .answer, .sram, .pwr, .rst, .tmp, .nvs, .cal, .hld, .mtx, .convs, .evt, .hk, .dmc, .nq] s (execSavePersistent x0 s) := by
  unfold execSavePersistent
  refine .next ?_
  exact .step (State.sessionWrite_same ..) (.refl ..)

theorem execSessionOpenLockoutEnd_same (x0 s) :
    After [.now, .regs, .dict, .cal, .hld, .mtx, .convs, .evt, .nq] s (execSessionOpenLockoutEnd x0 s) := by
  unfold execSessionOpenLockoutEnd
  refine .ite ?_ ?_
  · refine .next ?_
    exact .step (State.withNq_same ..) (.step (State.advanceTo_same ..) (.refl ..))
  · refine .next ?_
    exact .refl ..

theorem execBulletinDue_same (x0 s) :
    After [.now, .regs, .dict, .cal, .hld, .mtx, .convs, .evt, .nq] s (execBulletinDue x0 s) := by
  unfold execBulletinDue
  split
  · refine .ite ?_ ?_
    · refine .next ?_
      exact .step (State.withNq_same ..) (.step (State.withNq_same ..) (.step (State.advanceTo_same ..) (.refl ..)))
    · refine .ite ?_ ?_
      · refine .next ?_
        exact .step (State.withNq_same ..) (.step (State.withNq_same ..) (.step (State.advanceTo_same ..) (.refl ..)))
      · refine .next ?_
        exact .step (State.setFld_same ..) (.step (State.count_same ..) (.step (State.withNq_same ..) (.step
          (State.advanceTo_same ..) (.refl ..))))
  · refine .next ?_
    exact .refl ..

theorem execSegmentStart_same (x0 x1 s) :
    After [.free, .regs, .dict, .answer, .sram, .pwr, .rst, .tmp, .nvs, .trn, .cal, .hld, .mtx, .convs, .evt, .hk, .dmc, .nq] s (execSegmentStart x0 x1 s) := by
  unfold execSegmentStart
  refine .next ?_
  exact .step (State.nqFrame_same ..) (.refl ..)

theorem execWrite_same (x0 x1 s) :
    After [.free, .regs, .dict, .answer, .sram, .pwr, .rst, .tmp, .nvs, .trn, .cal, .hld, .mtx, .convs, .evt, .hk, .dmc, .nq] s (execWrite x0 x1 s) := by
  unfold execWrite
  refine .next ?_
  exact .step (State.nqFrame_same ..) (.refl ..)

theorem execAbort_same (x0 x1 s) :
    After [.free, .regs, .dict, .answer, .sram, .pwr, .rst, .tmp, .nvs, .trn, .cal, .hld, .mtx, .convs, .evt, .hk, .dmc, .nq] s (execAbort x0 x1 s) := by
  unfold execAbort
  refine .next ?_
  exact .step (State.nqFrame_same ..) (.refl ..)

theorem execSessionOpen_same (x0 x1 s) :
    After [.free, .regs, .dict, .answer, .sram, .pwr, .rst, .tmp, .nvs, .trn, .cal, .hld, .mtx, .convs, .evt, .hk, .dmc, .nq] s (execSessionOpen x0 x1 s) := by
  unfold execSessionOpen
  refine .next ?_
  exact .step (State.nqFrame_same ..) (.refl ..)

theorem execClose_same (x0 x1 s) :
    After [.free, .regs, .dict, .answer, .sram, .pwr, .rst, .tmp, .nvs, .trn, .cal, .hld, .mtx, .convs, .evt, .hk, .dmc, .nq] s (execClose x0 x1 s) := by
  unfold execClose
  refine .next ?_
  exact .step (State.nqFrame_same ..) (.refl ..)

theorem execRestoreDefaults_same (x0 s) :
    After [.free, .regs, .dict, .answer, .sram, .pwr, .rst, .tmp, .nvs, .cal, .hld, .mtx, .convs, .evt, .hk, .dmc, .nq] s (execRestoreDefaults x0 s) := by
  unfold execRestoreDefaults
  refine .next ?_
  exact .step (State.sessionWrite_same ..) (.refl ..)

theorem execEveImageCopyDone_same (s) : After [.free, .regs, .dict, .mtx, .evt, .dmc, .nq] s (execEveImageCopyDone s) := by
  unfold execEveImageCopyDone
  split
  · refine .ite ?_ ?_
    · refine .next ?_
      exact .step (State.nqRespond_same ..) (.step (State.withNq_same ..) (.refl ..))
    · refine .ite ?_ ?_
      · refine .next ?_
        exact .step (State.nqRespond_same ..) (.step (State.setFld_same ..) (.step (State.memRead_same ..) (.step
          (State.withNq_same ..) (.refl ..))))
      · refine .next ?_
        exact .step (State.nqRespond_same ..) (.step (State.eveChanged_same ..) (.step (State.withMtx_same ..) (.step
          (State.setFld_same ..) (.step (State.memRead_same ..) (.step (State.withNq_same ..) (.refl ..))))))
  · refine .next ?_
    exact .refl ..

end Sys2Proof.Machine
end

