-- ==== Sys2Proof/Laws/SameBus.lean ====
section
/-! SUPPORT. Which parts of the state the operations leave as they were: the bus, DMA and the Haerzer instructions. -/

-- Theorems one after another: a thread for each would take more memory than there is.
set_option Elab.async false

namespace Sys2Proof.Machine

/-! ### Bus -/

theorem State.ownRead_same (s x1 x2 x3 x4) :
    Same [.free, .regs, .snaps, .dict, .trn, .cal, .aut, .idc] s (State.ownRead s x1 x2 x3 x4).2 := by
  unfold State.ownRead
  refine .ite2 ?_ ?_
  · exact .refl ..
  · refine .ite ?_ ?_
    · split
      · exact .step (State.withSnaps_same ..) (.step (regRead_same ..) (.refl ..))
      · exact .step (regRead_same ..) (.refl ..)
    · refine .step (State.setReg_same ..) ?_
      split
      · exact .step (State.withSnaps_same ..) (.step (regRead_same ..) (.refl ..))
      · exact .step (regRead_same ..) (.refl ..)

theorem State.regBusRead_same (s x1 x2) :
    Same [.free, .regs, .snaps, .dict, .answer, .trn, .cal, .aut, .evt, .idc] s (State.regBusRead s x1 x2) := by
  unfold State.regBusRead
  dsimp only
  split
  · exact .step (State.decodeError_same ..) (.step (State.withAnswer_same ..) (.refl ..))
  · refine .ite ?_ ?_
    · exact .step (State.errResp_same ..) (.step (State.unavailable_same ..) (.step (State.withAnswer_same ..) (.refl ..)))
    · refine .ite ?_ ?_
      · exact .step (State.decodeError_same ..) (.step (State.withAnswer_same ..) (.refl ..))
      · split
        · exact .step (State.decodeError_same ..) (.step (State.withAnswer_same ..) (.refl ..))
        · exact .step (State.withAnswer_same ..) (.step (State.ownRead_same ..) (.step (State.withAnswer_same ..) (.refl ..)))
        · exact .step (State.withAnswer_same ..) (.step (State.withAnswer_same ..) (.refl ..))
        · exact .step (State.withAnswer_same ..) (.refl ..)

theorem State.busRead_same (s x1 x2) :
    Same [.free, .regs, .snaps, .dict, .answer, .trn, .cal, .aut, .evt, .dmc, .idc] s (State.busRead s x1 x2) := by
  unfold State.busRead
  refine .ite ?_ ?_
  · exact .refl ..
  · split
    · exact .step (State.regBusRead_same ..) (.refl ..)
    · exact .step (State.withAnswer_same ..) (.step (State.memWord_same ..) (.refl ..))

theorem blockWrite_same (x0 x1 x2 x3 x4 s) : Same Part.most s (blockWrite x0 x1 x2 x3 x4 s) := by
  unfold blockWrite
  split
  · exact .step (pwrWrite_same ..) (.refl ..)
  · exact .step (rstWrite_same ..) (.refl ..)
  · exact .step (evtWrite_same ..) (.refl ..)
  · exact .step (hzWrite_same ..) (.refl ..)
  · exact .step (trcWrite_same ..) (.refl ..)
  · exact .step (tmpWrite_same ..) (.refl ..)
  · exact .step (trnWrite_same ..) (.refl ..)
  · exact .step (nvsWrite_same ..) (.refl ..)
  · exact .step (hkWrite_same ..) (.refl ..)
  · exact .step (nqWrite_same ..) (.refl ..)
  · exact .step (idcWrite_same ..) (.refl ..)
  · exact .step (sdhWrite_same ..) (.refl ..)
  · exact .step (dmcRegWrite_same ..) (.refl ..)
  · exact .step (dmaWrite_same ..) (.refl ..)
  · exact .step (fusWrite_same ..) (.refl ..)
  · exact .step (calWrite_same ..) (.refl ..)
  · exact .step (hldWrite_same ..) (.refl ..)
  · exact .step (ptpWrite_same ..) (.refl ..)
  · exact .step (mtxWrite_same ..) (.refl ..)
  · exact .step (lneWrite_same ..) (.refl ..)
  · exact .step (srcWrite_same ..) (.refl ..)
  · exact .step (hvsWrite_same ..) (.refl ..)
  · exact .step (clsWrite_same ..) (.refl ..)
  · exact .step (autWrite_same ..) (.refl ..)
  · exact .step (cipWrite_same ..) (.refl ..)
  · exact .step (pkaWrite_same ..) (.refl ..)
  · exact .refl ..

theorem State.portWrite_same (s x1 x2 x3 x4 x5) : Same Part.most s (State.portWrite s x1 x2 x3 x4 x5) := by
  unfold State.portWrite
  dsimp only
  split
  · exact .step (State.shadowFail_same ..) (.step (State.pairLate_same ..) (.refl ..))
  · refine .ite ?_ ?_
    · exact .step (blockWrite_same ..) (.step (State.setReg_same ..) (.step (State.dropPair_same ..) (.step (State.pairLate_same ..)
        (.refl ..))))
    · exact .step (State.shadowFail_same ..) (.step (State.dropPair_same ..) (.step (State.pairLate_same ..) (.refl ..)))

theorem State.aliasWrite_same (s x1 x2 x3 x4 x5 x6) : Same Part.most s (State.aliasWrite s x1 x2 x3 x4 x5 x6) := by
  unfold State.aliasWrite
  refine .ite ?_ ?_
  · exact .step (State.lockedWrite_same ..) (.step (State.pairBreak_same ..) (.step (State.pairLate_same ..) (.refl ..)))
  · exact .step (blockWrite_same ..) (.step (State.setReg_same ..) (.step (State.lockedWrite_same ..) (.step
      (State.pairBreak_same ..) (.step (State.pairLate_same ..) (.refl ..)))))

theorem State.headerWrite_same (s x1 x2 x3) : Same [.regs, .pairs, .tmp, .evt] s (State.headerWrite s x1 x2 x3) := by
  unfold State.headerWrite
  refine .ite ?_ ?_
  · refine .ite ?_ ?_
    · refine .foldl _ (fun _ _ _ => ?_) _ ?_
      · exact .step (State.shadowFail_same ..) (.step (State.dropPair_same ..) ‹_›)
      · exact .refl ..
    · exact .refl ..
  · refine .ite ?_ ?_
    · refine .ite ?_ ?_
      · exact .step (State.setRegN_same ..) (.refl ..)
      · exact .refl ..
    · exact .refl ..

theorem State.plainWrite_same (s x1 x2 x3 x4 x5 x6 x7) : Same Part.most s (State.plainWrite s x1 x2 x3 x4 x5 x6 x7) := by
  unfold State.plainWrite
  refine .ite ?_ ?_
  · refine .step (State.headerWrite_same ..) ?_
    refine .ite ?_ ?_
    · exact .step (State.withPairs_same ..) (.step (State.setReg_same ..) (.step (State.lockedWrite_same ..) (.step
        (State.pairBreak_same ..) (.step (State.pairLate_same ..) (.refl ..)))))
    · exact .step (State.setReg_same ..) (.step (State.lockedWrite_same ..) (.step (State.pairBreak_same ..) (.step
        (State.pairLate_same ..) (.refl ..))))
  · refine .step (blockWrite_same ..) ?_
    refine .ite ?_ ?_
    · exact .step (State.withPairs_same ..) (.step (State.setReg_same ..) (.step (State.lockedWrite_same ..) (.step
        (State.pairBreak_same ..) (.step (State.pairLate_same ..) (.refl ..)))))
    · exact .step (State.setReg_same ..) (.step (State.lockedWrite_same ..) (.step (State.pairBreak_same ..) (.step
        (State.pairLate_same ..) (.refl ..))))

theorem State.ownWrite_same (s x1 x2 x3 x4 x5 x6 x7) : Same Part.most s (State.ownWrite s x1 x2 x3 x4 x5 x6 x7) := by
  unfold State.ownWrite
  refine .ite ?_ ?_
  · exact .step (State.withStaged_same ..) (.refl ..)
  · exact .step (State.plainWrite_same ..) (.refl ..)

theorem State.regBusWrite_same (s x1 x2 x3) : Same Part.most s (State.regBusWrite s x1 x2 x3) := by
  unfold State.regBusWrite
  dsimp only
  split
  · exact .step (State.decodeError_same ..) (.step (State.withAnswer_same ..) (.refl ..))
  · refine .ite ?_ ?_
    · exact .step (State.errResp_same ..) (.step (State.unavailable_same ..) (.step (State.withAnswer_same ..) (.refl ..)))
    · refine .ite ?_ ?_
      · exact .step (State.decodeError_same ..) (.step (State.withAnswer_same ..) (.refl ..))
      · split
        · exact .step (State.decodeError_same ..) (.step (State.withAnswer_same ..) (.refl ..))
        · refine .ite ?_ ?_
          · exact .step (State.withAnswer_same ..) (.refl ..)
          · refine .ite ?_ ?_
            · refine .ite ?_ ?_
              · exact .step (State.withAnswer_same ..) (.refl ..)
              · exact .step (State.ownWrite_same ..) (.step (State.withAnswer_same ..) (.refl ..))
            · exact .step (State.ownWrite_same ..) (.step (State.withAnswer_same ..) (.refl ..))
        · refine .ite ?_ ?_
          · exact .step (State.aliasWrite_same ..) (.step (State.withAnswer_same ..) (.refl ..))
          · exact .step (State.withAnswer_same ..) (.refl ..)
        · refine .ite ?_ ?_
          · exact .step (State.portWrite_same ..) (.step (State.withAnswer_same ..) (.refl ..))
          · exact .step (State.withAnswer_same ..) (.refl ..)

theorem State.busWrite_same (s x1 x2 x3) : Same Part.most s (State.busWrite s x1 x2 x3) := by
  unfold State.busWrite
  refine .ite ?_ ?_
  · exact .refl ..
  · split
    · exact .step (State.regBusWrite_same ..) (.refl ..)
    · exact .step (State.withAnswer_same ..) (.step (State.memWrite_same ..) (.refl ..))

/-! ### Dma -/

theorem State.wordsRead_same (x0 x1 s x3) :
    Same [.free, .regs, .snaps, .dict, .answer, .trn, .cal, .aut, .evt, .dmc, .idc] s (State.wordsRead x0 x1 s x3).2 := by
  induction x1 generalizing s x3 with
  | zero => exact .refl ..
  | succ n ih => exact .step (ih ..) (.step (busRead_same ..) (.refl ..))

theorem State.accessRead_same (s x1 x2 x3) :
    Same [.free, .regs, .snaps, .dict, .answer, .trn, .cal, .aut, .evt, .dmc, .idc] s (State.accessRead s x1 x2 x3).2 := by
  unfold State.accessRead
  refine .ite2 ?_ ?_
  · exact .step (State.wordsRead_same ..) (.refl ..)
  · exact .step (State.memRead_same ..) (.refl ..)

theorem State.fixedRead_same (x0 x1 s) :
    Same [.free, .regs, .snaps, .dict, .answer, .trn, .cal, .aut, .evt, .dmc, .idc] s (State.fixedRead x0 x1 s).2 := by
  induction x1 generalizing s with
  | zero => exact .refl ..
  | succ n ih =>
    unfold fixedRead
    exact .ite2 (.step (accessRead_same ..) (.refl ..)) (.step (ih ..) (.step (accessRead_same ..) (.refl ..)))

theorem State.wordsWrite_same (x0 x1 s x3 x4) : Same Part.most s (State.wordsWrite x0 x1 s x3 x4).2 := by
  induction x1 generalizing s x3 x4 with
  | zero => exact .refl ..
  | succ n ih => exact .step (ih ..) (.step (busWrite_same ..) (.refl ..))

theorem State.accessWrite_same (s x1 x2 x3) : Same Part.most s (State.accessWrite s x1 x2 x3).2 := by
  unfold State.accessWrite
  refine .ite2 ?_ ?_
  · exact .step (State.wordsWrite_same ..) (.refl ..)
  · exact .step (State.memWrite_same ..) (.refl ..)

theorem State.fixedWrite_same (x0 x1 s x3) : Same Part.most s (State.fixedWrite x0 x1 s x3).2 := by
  induction x1 generalizing s x3 with
  | zero => exact .refl ..
  | succ n ih =>
    unfold fixedWrite
    exact .ite2 (.step (accessWrite_same ..) (.refl ..)) (.step (ih ..) (.step (accessWrite_same ..) (.refl ..)))

theorem State.dmaBurst_same (s x1 x2) : Same Part.most s (State.dmaBurst s x1 x2) := by
  unfold State.dmaBurst
  refine .ite ?_ ?_
  · refine .step (State.dmaFail_same ..) ?_
    refine .ite2 ?_ ?_
    · exact .step (State.fixedRead_same ..) (.refl ..)
    · exact .step (State.accessRead_same ..) (.refl ..)
  · refine .ite ?_ ?_
    · refine .step (State.dmaFail_same ..) ?_
      refine .ite2 ?_ ?_
      · refine .step (State.fixedWrite_same ..) ?_
        refine .ite2 ?_ ?_
        · exact .step (State.fixedRead_same ..) (.refl ..)
        · exact .step (State.accessRead_same ..) (.refl ..)
      · refine .step (State.accessWrite_same ..) ?_
        refine .ite2 ?_ ?_
        · exact .step (State.fixedRead_same ..) (.refl ..)
        · exact .step (State.accessRead_same ..) (.refl ..)
    · refine .step (State.modDma_same ..) ?_
      refine .ite2 ?_ ?_
      · refine .step (State.fixedWrite_same ..) ?_
        refine .ite2 ?_ ?_
        · exact .step (State.fixedRead_same ..) (.refl ..)
        · exact .step (State.accessRead_same ..) (.refl ..)
      · refine .step (State.accessWrite_same ..) ?_
        refine .ite2 ?_ ?_
        · exact .step (State.fixedRead_same ..) (.refl ..)
        · exact .step (State.accessRead_same ..) (.refl ..)

theorem State.dmaBursts_same (x0 x1 x2 x3 s) : Same Part.most s (State.dmaBursts x0 x1 x2 x3 s) := by
  induction x3 generalizing s with
  | zero => exact .refl ..
  | succ n ih =>
    unfold dmaBursts
    split
    · exact .ite (.refl ..) (.step (ih ..) (.step (dmaBurst_same ..) (.refl ..)))
    · exact .refl ..

theorem State.dmaAborted_same (s x1) : Same Part.most s (State.dmaAborted s x1) := by
  unfold State.dmaAborted
  dsimp only
  split
  · exact .step (State.dmaIdle_same ..) (.step (State.setRegN_same ..) (.step (State.dmaBursts_same ..) (.step (State.draw_same ..)
      (.refl ..))))
  · exact .step (State.dmaBursts_same ..) (.step (State.draw_same ..) (.refl ..))

theorem State.settleDma_same (s) : Same Part.most s (State.settleDma s) := by
  unfold State.settleDma
  refine .ite ?_ ?_
  · refine .foldl _ (fun _ _ _ => ?_) _ ?_
    · split
      · refine .ite ?_ ?_
        · exact .step (State.dmaAborted_same ..) ‹_›
        · assumption
      · assumption
    · exact .refl ..
  · exact .refl ..

theorem State.write_same (s x1 x2 x3) : Same Part.most s (State.write s x1 x2 x3) := by
  unfold State.write
  exact .step (State.settleDma_same ..) (.step (State.busWrite_same ..) (.refl ..))

theorem State.read_same (s x1 x2) :
    Same [.free, .regs, .snaps, .dict, .answer, .trn, .cal, .aut, .evt, .dmc, .idc] s (State.read s x1 x2) := by
  unfold State.read
  exact .step (State.busRead_same ..) (.refl ..)

theorem State.dmaComplete_same (s x1 x2) : Same [.regs, .evt, .ic] s (State.dmaComplete s x1 x2) := by
  unfold State.dmaComplete
  dsimp only
  split
  · refine .step (State.modDma_same ..) ?_
    refine .ite ?_ ?_
    · exact .step (State.dmaDone_same ..) (.refl ..)
    · exact .refl ..
  · refine .step (State.dmaIdle_same ..) ?_
    refine .ite ?_ ?_
    · exact .step (State.dmaDone_same ..) (.refl ..)
    · exact .refl ..

theorem execDmaTransferDone_same (x0 s) : After Part.most s (execDmaTransferDone x0 s) := by
  unfold execDmaTransferDone
  dsimp only
  split
  · refine .ite ?_ ?_
    · refine .next ?_
      exact .refl ..
    · split
      · refine .next ?_
        refine .step (State.settleDma_same ..) ?_
        refine .ite ?_ ?_
        · exact .step (State.dmaComplete_same ..) (.step (State.dmaBursts_same ..) (.refl ..))
        · exact .step (State.dmaBursts_same ..) (.refl ..)
      · refine .next ?_
        exact .step (State.settleDma_same ..) (.step (State.dmaBursts_same ..) (.refl ..))
  · refine .next ?_
    exact .refl ..

theorem execDmaAbort_same (x0 x1 s) : After Part.most s (execDmaAbort x0 x1 s) := by
  unfold execDmaAbort
  refine .next ?_
  exact .step (State.write_same ..) (.refl ..)

theorem execDmaError_same (x0 x1 x2 s) : After Part.most s (execDmaError x0 x1 x2 s) := by
  unfold execDmaError
  dsimp only
  split
  · refine .ite ?_ ?_
    · refine .next ?_
      exact .refl ..
    · split
      · refine .next ?_
        refine .step (State.settleDma_same ..) ?_
        refine .ite ?_ ?_
        · exact .step (State.dmaBursts_same ..) (.refl ..)
        · exact .step (State.dmaFail_same ..) (.step (State.dmaBursts_same ..) (.refl ..))
      · refine .next ?_
        exact .step (State.settleDma_same ..) (.step (State.dmaBursts_same ..) (.refl ..))
  · refine .next ?_
    exact .refl ..

theorem execDmaGo_same (x0 x1 x2 s) : After Part.most s (execDmaGo x0 x1 x2 s) := by
  unfold execDmaGo
  refine .next ?_
  exact .step (State.write_same ..) (.refl ..)

theorem execDmaDescriptorLoad_same (x0 s) : After [.free, .regs, .dict, .evt, .ic, .dmc] s (execDmaDescriptorLoad x0 s) := by
  unfold execDmaDescriptorLoad
  dsimp only
  split
  · split
    · refine .ite ?_ ?_
      · refine .next ?_
        exact .step (State.dmaFail_same ..) (.refl ..)
      · refine .ite ?_ ?_
        · refine .next ?_
          exact .step (State.dmaFail_same ..) (.step (State.memRead_same ..) (.refl ..))
        · refine .next ?_
          refine .ite ?_ ?_
          · exact .step (State.dmaComplete_same ..) (.step (State.withIc_same ..) (.step (State.memRead_same ..) (.refl ..)))
          · exact .step (State.withIc_same ..) (.step (State.memRead_same ..) (.refl ..))
    · refine .next ?_
      exact .refl ..
  · refine .next ?_
    exact .refl ..

/-! ### HzMem -/

theorem State.setDline_same (s x1 x2 x3) : Same [.cores] s (State.setDline s x1 x2 x3) := by
  unfold State.setDline
  exact .step (State.modCore_same ..) (.refl ..)

theorem State.lostStore_same (s x1 x2 x3) : Same [.regs, .dict, .evt] s (State.lostStore s x1 x2 x3) := by
  unfold State.lostStore
  refine .ite ?_ ?_
  · exact .refl ..
  · refine .step (State.raise_same ..) ?_
    refine .step (State.count_same ..) ?_
    refine .ite ?_ ?_
    · exact .step (State.setFld_same ..) (.refl ..)
    · exact .step (State.setRegN_same ..) (.step (State.setRegN_same ..) (.refl ..))

theorem State.cleanLine_same (s x1 x2) : Same Part.most s (State.cleanLine s x1 x2) := by
  unfold State.cleanLine
  dsimp only
  split
  · refine .ite ?_ ?_
    · refine .ite ?_ ?_
      · exact .step (State.lostStore_same ..) (.step (State.accessWrite_same ..) (.step (State.setDline_same ..) (.refl ..)))
      · exact .step (State.accessWrite_same ..) (.step (State.setDline_same ..) (.refl ..))
    · exact .refl ..
  · exact .refl ..

theorem State.dropDline_same (s x1 x2) : Same [.cores] s (State.dropDline s x1 x2) := by
  unfold State.dropDline
  exact .step (State.modCore_same ..) (.refl ..)

theorem State.evictLine_same (s x1 x2) : Same Part.most s (State.evictLine s x1 x2) := by
  unfold State.evictLine
  refine .ite ?_ ?_
  · exact .refl ..
  · dsimp only
    split
    · exact .step (State.dropDline_same ..) (.step (State.cleanLine_same ..) (.step (State.draw_same ..) (.refl ..)))
    · exact .step (State.draw_same ..) (.refl ..)

theorem State.fillLine_same (s x1 x2) : Same Part.most s (State.fillLine s x1 x2).2 := by
  unfold State.fillLine
  dsimp only
  split
  · exact .refl ..
  · refine .ite2 ?_ ?_
    · exact .step (State.accessRead_same ..) (.refl ..)
    · exact .step (State.setDline_same ..) (.step (State.evictLine_same ..) (.step (State.accessRead_same ..) (.refl ..)))

theorem State.performStore_same (s x1) : Same Part.most s (State.performStore s x1).2 := by
  unfold State.performStore
  refine .ite2 ?_ ?_
  · refine .ite2 ?_ ?_
    · exact .step (State.fillLine_same ..) (.refl ..)
    · split
      · exact .step (State.setDline_same ..) (.step (State.fillLine_same ..) (.refl ..))
      · exact .step (State.fillLine_same ..) (.refl ..)
  · exact .step (State.accessWrite_same ..) (.refl ..)

theorem State.drainOne_same (s x1) : Same Part.most s (State.drainOne s x1) := by
  unfold State.drainOne
  split
  · exact .refl ..
  · refine .step (State.settleDma_same ..) ?_
    refine .ite ?_ ?_
    · exact .step (State.lostStore_same ..) (.step (State.performStore_same ..) (.step (State.modCore_same ..) (.refl ..)))
    · exact .step (State.performStore_same ..) (.step (State.modCore_same ..) (.refl ..))

theorem State.drainWhile_same (x0 x1 x2 s) : Same Part.most s (State.drainWhile x0 x1 x2 s) := by
  induction x2 generalizing s with
  | zero => exact .refl ..
  | succ n ih => exact .ite (.step (ih ..) (.step (drainOne_same ..) (.refl ..))) (.refl ..)

theorem State.drainCore_same (s x1) : Same Part.most s (State.drainCore s x1) := by
  unfold State.drainCore
  exact .step (State.drainWhile_same ..) (.refl ..)

theorem State.fillIline_same (s x1 x2) :
    Same [.free, .regs, .snaps, .dict, .answer, .trn, .cal, .aut, .cores, .evt, .dmc, .idc] s (State.fillIline s x1 x2).2 := by
  unfold State.fillIline
  dsimp only
  split
  · exact .refl ..
  · refine .ite2 ?_ ?_
    · exact .step (State.accessRead_same ..) (.refl ..)
    · refine .step (State.modCore_same ..) ?_
      split
      · refine .step (State.modCore_same ..) ?_
        refine .ite2 ?_ ?_
        · exact .step (State.accessRead_same ..) (.refl ..)
        · exact .step (State.draw_same ..) (.step (State.accessRead_same ..) (.refl ..))
      · refine .ite2 ?_ ?_
        · exact .step (State.accessRead_same ..) (.refl ..)
        · exact .step (State.draw_same ..) (.step (State.accessRead_same ..) (.refl ..))

theorem State.fetch_same (s x1) :
    Same [.free, .regs, .snaps, .dict, .answer, .trn, .cal, .aut, .cores, .evt, .dmc, .idc] s (State.fetch s x1).2 := by
  unfold State.fetch
  refine .ite2 ?_ ?_
  · exact .refl ..
  · refine .ite2 ?_ ?_
    · dsimp only
      split
      · exact .step (State.fillIline_same ..) (.refl ..)
      · exact .step (State.fillIline_same ..) (.refl ..)
    · refine .ite2 ?_ ?_
      · exact .step (State.accessRead_same ..) (.refl ..)
      · exact .step (State.accessRead_same ..) (.refl ..)

theorem State.drainThread_same (s x1) : Same Part.most s (State.drainThread s x1) := by
  unfold State.drainThread
  exact .step (State.drainWhile_same ..) (.refl ..)

theorem State.hzLoad_same (s x1 x2 x3) : Same Part.most s (State.hzLoad s x1 x2 x3).2 := by
  unfold State.hzLoad
  refine .ite2 ?_ ?_
  · exact .refl ..
  · refine .ite2 ?_ ?_
    · dsimp only
      split
      · refine .step (State.fillLine_same ..) ?_
        refine .step (State.drainWhile_same ..) ?_
        refine .ite ?_ ?_
        · exact .step (State.drainThread_same ..) (.refl ..)
        · exact .refl ..
      · refine .step (State.fillLine_same ..) ?_
        refine .step (State.drainWhile_same ..) ?_
        refine .ite ?_ ?_
        · exact .step (State.drainThread_same ..) (.refl ..)
        · exact .refl ..
    · refine .step (State.accessRead_same ..) ?_
      refine .step (State.drainWhile_same ..) ?_
      refine .ite ?_ ?_
      · exact .step (State.drainThread_same ..) (.refl ..)
      · exact .refl ..

theorem State.maintLine_same (s x1 x2 x3) : Same Part.most s (State.maintLine s x1 x2 x3) := by
  unfold State.maintLine
  split
  · exact .step (State.cleanLine_same ..) (.refl ..)
  · exact .step (State.dropDline_same ..) (.step (State.cleanLine_same ..) (.refl ..))
  · exact .step (State.dropDline_same ..) (.refl ..)

theorem execImpreciseStoreError_same (x0 s) : After [.regs, .dict, .cores, .evt] s (execImpreciseStoreError x0 s) := by
  unfold execImpreciseStoreError
  split
  · refine .next ?_
    exact .step (State.lostStore_same ..) (.step (State.modCore_same ..) (.refl ..))
  · refine .next ?_
    exact .refl ..

theorem execStoreDrain_same (x0 s) : After Part.most s (execStoreDrain x0 s) := by
  unfold execStoreDrain
  refine .next ?_
  refine .ite ?_ ?_
  · exact .step (State.drainOne_same ..) (.refl ..)
  · exact .refl ..

theorem State.cacheCount_same (s x1 x2) : Same [.regs, .dict] s (State.cacheCount s x1 x2) := by
  unfold State.cacheCount
  refine .ite ?_ ?_
  · exact .step (State.count_same ..) (.refl ..)
  · exact .refl ..

theorem execCacheError_same (x0 x1 x2 x3 s) : After Part.most s (execCacheError x0 x1 x2 x3 s) := by
  unfold execCacheError
  refine .ite ?_ ?_
  · refine .next ?_
    exact .refl ..
  · split
    · split
      · refine .next ?_
        exact .step (State.fillIline_same ..) (.step (State.cacheCount_same ..) (.step (State.modCore_same ..) (.refl ..)))
      · refine .next ?_
        exact .refl ..
    · split
      · refine .next ?_
        exact .step (State.cacheCount_same ..) (.refl ..)
      · refine .next ?_
        exact .refl ..
    · split
      · refine .next ?_
        exact .refl ..
      · refine .ite ?_ ?_
        · refine .next ?_
          exact .step (State.fillLine_same ..) (.step (State.cacheCount_same ..) (.step (State.dropDline_same ..) (.refl ..)))
        · refine .ite ?_ ?_
          · refine .next ?_
            exact .refl ..
          · refine .next ?_
            refine .ite ?_ ?_
            · exact .step (State.trapSync_same ..) (.step (State.raise_same ..) (.step (State.cacheCount_same ..) (.step
                (State.dropDline_same ..) (.refl ..))))
            · exact .step (State.raise_same ..) (.step (State.cacheCount_same ..) (.step (State.dropDline_same ..) (.refl ..)))

theorem State.maintAll_same (s x1 x2) : Same Part.most s (State.maintAll s x1 x2) := by
  unfold State.maintAll
  refine .foldl _ (fun _ _ _ => ?_) _ ?_
  · exact .step (State.maintLine_same ..) ‹_›
  · exact .refl ..

theorem State.bufferStore_same (s x1 x2 x3) : Same Part.most s (State.bufferStore s x1 x2 x3) := by
  unfold State.bufferStore
  dsimp only
  split
  · refine .ite ?_ ?_
    · exact .step (State.modCore_same ..) (.refl ..)
    · refine .step (State.modCore_same ..) ?_
      refine .ite ?_ ?_
      · exact .step (State.drainOne_same ..) (.refl ..)
      · exact .refl ..
  · exact .step (State.modCore_same ..) (.refl ..)

/-! ### Haerzer -/

theorem State.pushBlocks_same (x0 x1 s x3 x4) : Same Part.most s (State.pushBlocks x0 x1 s x3 x4).2 := by
  induction x1 generalizing s x3 x4 with
  | zero => exact .refl ..
  | succ n ih =>
    unfold pushBlocks
    have h := Same.step (performStore_same (drainCore s (x0 / 4)) ⟨x0, true, [], x3, (List.range 16).map (fun i => (i, x4.getD i 0)), ((drainCore s (x0 / 4)).attr x3).cache⟩)
      (.step (l := Part.most) (drainCore_same ..) (.refl ..))
    exact .ite2 h (.step (ih ..) h)

theorem State.nextPc_same (s x1) : Same [.threads] s (State.nextPc s x1) := by
  unfold State.nextPc
  exact .step (State.modThr_same ..) (.refl ..)

/-- The state in which an instruction ends. -/
def HzRes.st : HzRes → State
  | .ok s => s
  | .trap _ _ s => s

/-- An instruction leaves all but the listed parts as they were. -/
def HzRes.Keeps (l : List Part) (s : State) (r : HzRes) : Prop := Same l s r.st

theorem HzRes.Keeps.ok {l : List Part} {s t : State} (h : Same l s t) : HzRes.Keeps l s (.ok t) := h

theorem HzRes.Keeps.trap {l : List Part} {s t : State} {c : Nat} {w : Word} (h : Same l s t) : HzRes.Keeps l s (.trap c w t) := h

theorem HzRes.Keeps.ite {l : List Part} {s : State} {q r : HzRes} {c : Prop} [Decidable c] (hq : HzRes.Keeps l s q)
    (hr : HzRes.Keeps l s r) : HzRes.Keeps l s (if c then q else r) := by split <;> assumption

theorem State.privileged_same {l : List Part} {s u : State} {t : Nat} {iw : Word} {run : State → HzRes}
    (h : HzRes.Keeps l s (run u)) (g : Same l s u) : HzRes.Keeps l s (u.privileged t iw run) := .ite h (.trap g)

theorem State.issue_same {l : List Part} {s u : State} {t : Nat} {iw : Word} {run : State → HzRes}
    (h : ∀ v, Same l s v → HzRes.Keeps l s (run v)) (g : Same l s u) (hl : Part.most ⊆ l := by decide) :
    Same l s (u.issue t iw run) := by
  unfold issue
  refine .ite g ?_
  split
  · exact .step (l := l) (takeEvent_same ..) g (List.Subset.trans (by decide) hl)
  · have f : Same l s (u.fetch t).2 := .step (fetch_same ..) g (List.Subset.trans (by decide) hl)
    have m (x) : Same l s ((u.fetch t).2.modThr t x) := .step (modThr_same ..) f (List.Subset.trans (by decide) hl)
    have tr {v} (c i) (hv : Same l s v) : Same l s (v.trapSync t c i) :=
      .step (trapSync_same ..) hv (List.Subset.trans (by decide) hl)
    have sd {v} (hv : Same l s v) : Same l s v.settleDma := .step (settleDma_same ..) hv (List.Subset.trans (by decide) hl)
    dsimp only
    split
    · exact tr _ _ f
    · refine .ite (.ite (tr _ _ (m _)) g) (.ite g ?_)
      have k := h _ (m (fun x => { x with pcs := (u.thr t).pc }))
      split
      · rename_i e
        rw [e] at k
        exact sd k
      · rename_i e
        rw [e] at k
        exact sd (tr _ _ k)

theorem execLoadInstruction_same (x0 x1 x2 x3 x4 x5 s) : After Part.most s (execLoadInstruction x0 x1 x2 x3 x4 x5 s) := by
  unfold execLoadInstruction
  refine .next ?_
  refine State.issue_same (fun _ _ => ?_) ?_
  · refine .ite ?_ ?_
    · refine .trap ?_
      assumption
    · refine .ite ?_ ?_
      · refine .trap ?_
        assumption
      · refine .ite ?_ ?_
        · refine .trap ?_
          exact .step (State.hzLoad_same ..) ‹_›
        · refine .ok ?_
          refine .step (State.nextPc_same ..) ?_
          split
          · exact .step (State.setThrReg_same ..) (.step (State.setThrReg_same ..) (.step (State.hzLoad_same ..) ‹_›))
          · exact .step (State.setThrReg_same ..) (.step (State.hzLoad_same ..) ‹_›)
  · exact .refl ..

theorem execSave_same (x0 x1 s) : After Part.most s (execSave x0 x1 s) := by
  unfold execSave
  refine .next ?_
  refine State.issue_same (fun _ _ => ?_) ?_
  · refine .ite ?_ ?_
    · refine .trap ?_
      assumption
    · refine .ok ?_
      exact .step (State.nextPc_same ..) (.step (State.modThr_same ..) ‹_›)
  · exact .refl ..

theorem execRdsr_same (x0 x1 x2 x3 s) : After Part.most s (execRdsr x0 x1 x2 x3 s) := by
  unfold execRdsr
  refine .next ?_
  refine State.issue_same (fun _ _ => ?_) ?_
  · refine .ite ?_ ?_
    · refine .trap ?_
      assumption
    · refine .ite ?_ ?_
      · refine .trap ?_
        assumption
      · refine .ok ?_
        refine .step (State.nextPc_same ..) ?_
        refine .step (State.setThrReg_same ..) ?_
        refine .ite ?_ ?_
        · exact .step (State.modThr_same ..) ‹_›
        · assumption
  · exact .refl ..

theorem execTrapN_same (x0 x1 x2 s) : After Part.most s (execTrapN x0 x1 x2 s) := by
  unfold execTrapN
  refine .next ?_
  refine State.issue_same (fun _ _ => ?_) ?_
  · refine .trap ?_
    assumption
  · exact .refl ..

theorem execAluInstruction_same (x0 x1 x2 x3 x4 x5 s) : After Part.most s (execAluInstruction x0 x1 x2 x3 x4 x5 s) := by
  unfold execAluInstruction
  refine .next ?_
  refine State.issue_same (fun _ _ => ?_) ?_
  · refine .ok ?_
    exact .step (State.nextPc_same ..) (.step (State.setThrReg_same ..) ‹_›)
  · exact .refl ..

theorem State.pullWords_same (x0 x1 x2 s x4) : Same Part.most s (State.pullWords x0 x1 x2 s x4).2 := by
  induction x2 generalizing s x4 with
  | zero => exact .refl ..
  | succ n ih =>
    unfold pullWords
    have h : Same Part.most s (hzLoad s x0 x4 4).2 := .step (hzLoad_same ..) (.refl ..)
    refine .ite2 h ?_
    dsimp only
    split
    · exact .step (ih ..) h
    · exact .step (modThr_same ..) (.step (ih ..) h)

theorem execWpull_same (x0 x1 s) : After Part.most s (execWpull x0 x1 s) := by
  unfold execWpull
  refine .next ?_
  refine State.issue_same (fun _ _ => ?_) ?_
  · refine State.privileged_same ?_ ?_
    · refine .ite ?_ ?_
      · refine .trap ?_
        assumption
      · dsimp only
        split
        · refine .trap ?_
          exact .step (State.pullWords_same ..) ‹_›
        · refine .ok ?_
          exact .step (State.nextPc_same ..) (.step (State.modThr_same ..) (.step (State.pullWords_same ..) ‹_›))
    · assumption
  · exact .refl ..

theorem execLockForcedRelease_same (x0 x1 x2 s) :
    After [.now, .free, .regs, .snaps, .dict, .staged, .pairs, .answer, .sram, .pwr, .rst, .tmp, .nvs, .fus, .trn, .cal, .hld, .mtx, .lanes, .convs, .hvs, .cls, .aut, .cip, .threads, .cores, .evt, .trc, .ic, .hk, .dmc, .idc, .sdh, .nq] s (execLockForcedRelease x0 x1 x2 s) := by
  unfold execLockForcedRelease
  refine .next ?_
  refine State.issue_same (fun _ _ => ?_) ?_
  · refine .ite ?_ ?_
    · refine .trap ?_
      assumption
    · refine .ite ?_ ?_
      · refine .trap ?_
        assumption
      · refine .ite ?_ ?_
        · refine .trap ?_
          refine .step (State.accessRead_same ..) ?_
          refine .ite ?_ ?_
          · exact .step (State.maintLine_same ..) (.step (State.drainThread_same ..) ‹_›)
          · exact .step (State.drainThread_same ..) ‹_›
        · refine .trap ?_
          refine .ite ?_ ?_
          · refine .step (State.advance_same ..) ?_
            refine .step (State.accessRead_same ..) ?_
            refine .ite ?_ ?_
            · exact .step (State.maintLine_same ..) (.step (State.drainThread_same ..) ‹_›)
            · exact .step (State.drainThread_same ..) ‹_›
          · refine .step (State.raise_same ..) ?_
            refine .step (State.count_same ..) ?_
            refine .ite ?_ ?_
            · refine .step (State.advance_same ..) ?_
              refine .step (State.accessRead_same ..) ?_
              refine .ite ?_ ?_
              · exact .step (State.maintLine_same ..) (.step (State.drainThread_same ..) ‹_›)
              · exact .step (State.drainThread_same ..) ‹_›
            · refine .step (State.setRegN_same ..) ?_
              refine .step (State.setRegN_same ..) ?_
              refine .step (State.advance_same ..) ?_
              refine .step (State.accessRead_same ..) ?_
              refine .ite ?_ ?_
              · exact .step (State.maintLine_same ..) (.step (State.drainThread_same ..) ‹_›)
              · exact .step (State.drainThread_same ..) ‹_›
  · exact .refl ..

theorem execIinvAll_same (x0 x1 s) : After Part.most s (execIinvAll x0 x1 s) := by
  unfold execIinvAll
  refine .next ?_
  refine State.issue_same (fun _ _ => ?_) ?_
  · refine State.privileged_same ?_ ?_
    · refine .ok ?_
      exact .step (State.nextPc_same ..) (.step (State.modCore_same ..) ‹_›)
    · assumption
  · exact .refl ..

theorem State.byLine_same {s u : State} {t : Nat} {a : Word} {f : State → Nat → State}
    (h : Same Part.most s (f u (a.toNat / 64 * 64))) (g : Same Part.most s u) :
    HzRes.Keeps Part.most s (u.byLine t a f) := by
  unfold byLine
  exact .ite (.trap g) (.ok (.step (nextPc_same ..) (.ite h g)))

theorem execDinvL_same (x0 x1 x2 x3 s) : After Part.most s (execDinvL x0 x1 x2 x3 s) := by
  unfold execDinvL
  refine .next ?_
  refine State.issue_same (fun _ _ => ?_) ?_
  · refine State.privileged_same ?_ ?_
    · refine State.byLine_same ?_ ?_
      · exact .step (State.maintLine_same ..) (.step (State.drainThread_same ..) ‹_›)
      · assumption
    · assumption
  · exact .refl ..

theorem execFence_same (x0 x1 s) : After Part.most s (execFence x0 x1 s) := by
  unfold execFence
  refine .next ?_
  refine State.issue_same (fun _ _ => ?_) ?_
  · refine .ok ?_
    exact .step (State.nextPc_same ..) (.step (State.drainCore_same ..) ‹_›)
  · exact .refl ..

theorem State.jump_same (s x1 x2) : Same [.threads] s (State.jump s x1 x2) := by
  unfold State.jump
  exact .step (State.modThr_same ..) (.refl ..)

theorem State.setSpecial_same (s x1 x2 x3) : Same [.threads] s (State.setSpecial s x1 x2 x3) := by
  unfold State.setSpecial
  exact .step (State.modThr_same ..) (.refl ..)

theorem execDflsL_same (x0 x1 x2 x3 s) : After Part.most s (execDflsL x0 x1 x2 x3 s) := by
  unfold execDflsL
  refine .next ?_
  refine State.issue_same (fun _ _ => ?_) ?_
  · refine State.byLine_same ?_ ?_
    · exact .step (State.maintLine_same ..) (.step (State.drainThread_same ..) ‹_›)
    · assumption
  · exact .refl ..

theorem State.atomic_same {s u : State} {t : Nat} {rd : HzReg} {a : Word} {f : Word → Word} (g : Same Part.most s u) :
    HzRes.Keeps Part.most s (u.atomic t rd a f) := by
  unfold atomic
  refine .ite (.trap g) (.ite (.trap g) ?_)
  have d := Same.step (drainThread_same u t) g
  have e : Same Part.most s (if ((u.drainThread t).attr a.toNat).cache = true then
      (u.drainThread t).maintLine t (a.toNat / 64 * 64) .flush else u.drainThread t) := .ite (.step (maintLine_same ..) d) d
  dsimp only
  generalize (if ((u.drainThread t).attr a.toNat).cache = true then
      (u.drainThread t).maintLine t (a.toNat / 64 * 64) .flush else u.drainThread t) = v at e
  have r := Same.step (accessRead_same v (v.ridOf t) a.toNat 4) e
  refine .ite (.trap r) (.ite (.trap (.step (accessWrite_same ..) r)) (.ok ?_))
  exact .step (nextPc_same ..) (.step (setThrReg_same ..) (.step (accessWrite_same ..) r))

theorem execCas_same (x0 x1 x2 x3 x4 s) : After Part.most s (execCas x0 x1 x2 x3 x4 s) := by
  unfold execCas
  refine .next ?_
  refine State.issue_same (fun _ _ => ?_) ?_
  · refine State.atomic_same ?_
    assumption
  · exact .refl ..

theorem execCall_same (x0 x1 x2 s) : After Part.most s (execCall x0 x1 x2 s) := by
  unfold execCall
  refine .next ?_
  refine State.issue_same (fun _ _ => ?_) ?_
  · refine .ok ?_
    exact .step (State.jump_same ..) (.step (State.setThrReg_same ..) ‹_›)
  · exact .refl ..

theorem execEsig_same (x0 x1 x2 x3 s) : After Part.most s (execEsig x0 x1 x2 x3 s) := by
  unfold execEsig
  refine .next ?_
  refine State.issue_same (fun _ _ => ?_) ?_
  · refine .ite ?_ ?_
    · refine .trap ?_
      assumption
    · refine .ok ?_
      exact .step (State.nextPc_same ..) (.step (State.signal_same ..) (.step (State.drainThread_same ..) ‹_›))
  · exact .refl ..

theorem execFadd_same (x0 x1 x2 x3 x4 s) : After Part.most s (execFadd x0 x1 x2 x3 x4 s) := by
  unfold execFadd
  refine .next ?_
  refine State.issue_same (fun _ _ => ?_) ?_
  · refine State.atomic_same ?_
    assumption
  · exact .refl ..

theorem execHalt_same (x0 x1 s) : After Part.most s (execHalt x0 x1 s) := by
  unfold execHalt
  refine .next ?_
  refine State.issue_same (fun _ _ => ?_) ?_
  · refine State.privileged_same ?_ ?_
    · refine .ok ?_
      exact .step (State.setRun_same ..) (.step (State.nextPc_same ..) ‹_›)
    · assumption
  · exact .refl ..

theorem execXret_same (x0 x1 s) : After Part.most s (execXret x0 x1 s) := by
  unfold execXret
  refine .next ?_
  refine State.issue_same (fun _ _ => ?_) ?_
  · refine State.privileged_same ?_ ?_
    · refine .ite ?_ ?_
      · refine .trap ?_
        assumption
      · refine .ok ?_
        exact .step (State.trace_same ..) (.step (State.jump_same ..) (.step (State.modThr_same ..) ‹_›))
    · assumption
  · exact .refl ..

theorem execDinvAll_same (x0 x1 s) : After Part.most s (execDinvAll x0 x1 s) := by
  unfold execDinvAll
  refine .next ?_
  refine State.issue_same (fun _ _ => ?_) ?_
  · refine State.privileged_same ?_ ?_
    · refine .ok ?_
      exact .step (State.nextPc_same ..) (.step (State.maintAll_same ..) (.step (State.drainThread_same ..) ‹_›))
    · assumption
  · exact .refl ..

theorem execConditionalBranch_same (x0 x1 x2 x3 x4 x5 s) : After Part.most s (execConditionalBranch x0 x1 x2 x3 x4 x5 s) := by
  unfold execConditionalBranch
  refine .next ?_
  refine State.issue_same (fun _ _ => ?_) ?_
  · refine .ok ?_
    refine .step (State.traceBranch_same ..) ?_
    refine .ite ?_ ?_
    · exact .step (State.jump_same ..) ‹_›
    · exact .step (State.nextPc_same ..) ‹_›
  · exact .refl ..

theorem execDflsAll_same (x0 x1 s) : After Part.most s (execDflsAll x0 x1 s) := by
  unfold execDflsAll
  refine .next ?_
  refine State.issue_same (fun _ _ => ?_) ?_
  · refine State.privileged_same ?_ ?_
    · refine .ok ?_
      exact .step (State.nextPc_same ..) (.step (State.maintAll_same ..) (.step (State.drainThread_same ..) ‹_›))
    · assumption
  · exact .refl ..

theorem execDclnAll_same (x0 x1 s) : After Part.most s (execDclnAll x0 x1 s) := by
  unfold execDclnAll
  refine .next ?_
  refine State.issue_same (fun _ _ => ?_) ?_
  · refine State.privileged_same ?_ ?_
    · refine .ok ?_
      exact .step (State.nextPc_same ..) (.step (State.maintAll_same ..) (.step (State.drainThread_same ..) ‹_›))
    · assumption
  · exact .refl ..

theorem execDclnL_same (x0 x1 x2 x3 s) : After Part.most s (execDclnL x0 x1 x2 x3 s) := by
  unfold execDclnL
  refine .next ?_
  refine State.issue_same (fun _ _ => ?_) ?_
  · refine State.byLine_same ?_ ?_
    · exact .step (State.maintLine_same ..) (.step (State.drainThread_same ..) ‹_›)
    · assumption
  · exact .refl ..

theorem execWrsr_same (x0 x1 x2 x3 s) : After Part.most s (execWrsr x0 x1 x2 x3 s) := by
  unfold execWrsr
  refine .next ?_
  refine State.issue_same (fun _ _ => ?_) ?_
  · refine .ite ?_ ?_
    · refine .trap ?_
      assumption
    · refine .ite ?_ ?_
      · refine .trap ?_
        assumption
      · refine .ite ?_ ?_
        · refine .trap ?_
          assumption
        · refine .ok ?_
          exact .step (State.nextPc_same ..) (.step (State.setSpecial_same ..) ‹_›)
  · exact .refl ..

theorem State.push_same (s x1) : Same Part.most s (State.push s x1).2 := by
  unfold State.push
  dsimp only
  split
  · exact .step (State.pushBlocks_same ..) (.refl ..)
  · exact .step (State.modThr_same ..) (.step (State.pushBlocks_same ..) (.refl ..))

theorem execWpush_same (x0 x1 s) : After Part.most s (execWpush x0 x1 s) := by
  unfold execWpush
  refine .next ?_
  refine State.issue_same (fun _ _ => ?_) ?_
  · refine State.privileged_same ?_ ?_
    · refine .ite ?_ ?_
      · refine .trap ?_
        assumption
      · dsimp only
        split
        · refine .trap ?_
          exact .step (State.push_same ..) ‹_›
        · refine .ok ?_
          exact .step (State.nextPc_same ..) (.step (State.push_same ..) ‹_›)
    · assumption
  · exact .refl ..

theorem execFenceI_same (x0 x1 s) : After Part.most s (execFenceI x0 x1 s) := by
  unfold execFenceI
  refine .next ?_
  refine State.issue_same (fun _ _ => ?_) ?_
  · refine .ok ?_
    exact .step (State.nextPc_same ..) (.step (State.drainCore_same ..) ‹_›)
  · exact .refl ..

theorem execSwap_same (x0 x1 x2 x3 s) : After Part.most s (execSwap x0 x1 x2 x3 s) := by
  unfold execSwap
  refine .next ?_
  refine State.issue_same (fun _ _ => ?_) ?_
  · refine State.atomic_same ?_
    assumption
  · exact .refl ..

theorem execJumpAndLink_same (x0 x1 x2 x3 x4 s) : After Part.most s (execJumpAndLink x0 x1 x2 x3 x4 s) := by
  unfold execJumpAndLink
  refine .next ?_
  refine State.issue_same (fun _ _ => ?_) ?_
  · refine .ok ?_
    exact .step (State.trace_same ..) (.step (State.jump_same ..) (.step (State.setThrReg_same ..) ‹_›))
  · exact .refl ..

theorem execIinvL_same (x0 x1 x2 x3 s) : After Part.most s (execIinvL x0 x1 x2 x3 s) := by
  unfold execIinvL
  refine .next ?_
  refine State.issue_same (fun _ _ => ?_) ?_
  · refine State.byLine_same ?_ ?_
    · exact .step (State.modCore_same ..) ‹_›
    · assumption
  · exact .refl ..

theorem execEwait_same (x0 x1 x2 x3 s) : After Part.most s (execEwait x0 x1 x2 x3 s) := by
  unfold execEwait
  refine .next ?_
  refine State.issue_same (fun _ _ => ?_) ?_
  · refine .ite ?_ ?_
    · refine .trap ?_
      assumption
    · refine .ok ?_
      refine .ite ?_ ?_
      · exact .step (State.wake_same ..) (.step (State.nextPc_same ..) (.step (State.modThr_same ..) ‹_›))
      · exact .step (State.setRun_same ..) (.step (State.nextPc_same ..) (.step (State.modThr_same ..) ‹_›))
  · exact .refl ..

theorem State.pushAll_same (x0 x1 s) : Same Part.most s (State.pushAll x0 x1 s).2 := by
  induction x1 generalizing s with
  | zero => exact .refl ..
  | succ n ih =>
    unfold pushAll
    refine .ite2 (.refl ..) ?_
    dsimp only
    split
    · exact .step (push_same ..) (.refl ..)
    · exact .step (ih ..) (.step (push_same ..) (.refl ..))

theorem execWdrain_same (x0 x1 s) : After Part.most s (execWdrain x0 x1 s) := by
  unfold execWdrain
  refine .next ?_
  refine State.issue_same (fun _ _ => ?_) ?_
  · refine State.privileged_same ?_ ?_
    · dsimp only
      split
      · refine .trap ?_
        exact .step (State.pushAll_same ..) ‹_›
      · refine .ok ?_
        exact .step (State.nextPc_same ..) (.step (State.pushAll_same ..) ‹_›)
    · assumption
  · exact .refl ..

theorem execStoreInstruction_same (x0 x1 x2 x3 x4 x5 s) : After Part.most s (execStoreInstruction x0 x1 x2 x3 x4 x5 s) := by
  unfold execStoreInstruction
  refine .next ?_
  refine State.issue_same (fun _ _ => ?_) ?_
  · refine .ite ?_ ?_
    · refine .trap ?_
      assumption
    · refine .ite ?_ ?_
      · refine .trap ?_
        assumption
      · refine .ok ?_
        exact .step (State.nextPc_same ..) (.step (State.bufferStore_same ..) ‹_›)
  · exact .refl ..

theorem execRestore_same (x0 x1 s) : After Part.most s (execRestore x0 x1 s) := by
  unfold execRestore
  refine .next ?_
  refine State.issue_same (fun _ _ => ?_) ?_
  · refine .ite ?_ ?_
    · refine .trap ?_
      assumption
    · refine .ok ?_
      exact .step (State.nextPc_same ..) (.step (State.modThr_same ..) ‹_›)
  · exact .refl ..

end Sys2Proof.Machine
end

