-- ==== Sys2Proof/Laws/SameExec.lean ====
section
/-! SUPPORT. Which parts of the state the operations leave as they were: requests, boot, reception, accesses, debug, and every command. -/

-- Theorems one after another: a thread for each would take more memory than there is.
set_option Elab.async false

namespace Sys2Proof.Machine

/-! ### Operands -/

theorem State.writeN_same (s x1 x2 x3) : Same Part.most s (State.writeN s x1 x2 x3) := by
  unfold State.writeN
  exact .step (State.write_same ..) (.refl ..)

theorem State.maskAll_same (s x1 x2 x3) : Same Part.most s (State.maskAll s x1 x2 x3) := by
  unfold State.maskAll
  exact .step (State.write_same ..) (.refl ..)

theorem State.maskFld_same (s x1 x2 x3) : Same Part.most s (State.maskFld s x1 x2 x3) := by
  unfold State.maskFld
  exact .step (State.write_same ..) (.refl ..)

theorem State.writeFld_same (s x1 x2 x3) : Same Part.most s (State.writeFld s x1 x2 x3) := by
  unfold State.writeFld
  exact .step (State.write_same ..) (.refl ..)

theorem State.writePair_same (s x1 x2 x3) : Same Part.most s (State.writePair s x1 x2 x3) := by
  unfold State.writePair
  exact .step (State.write_same ..) (.step (State.write_same ..) (.refl ..))

/-! ### Requests -/

theorem execStepRelative_same (x0 s) : After Part.most s (execStepRelative x0 s) := by
  unfold execStepRelative
  refine .next ?_
  exact .step (State.writeN_same ..) (.refl ..)

theorem execContainerEnable_same (x0 x1 x2 x3 s) : After Part.most s (execContainerEnable x0 x1 x2 x3 s) := by
  unfold execContainerEnable
  refine .next ?_
  exact .step (State.maskFld_same ..) (.step (State.maskAll_same ..) (.refl ..))

theorem State.sdStart_same (s x1 x2) : Same Part.most s (State.sdStart s x1 x2) := by
  unfold State.sdStart
  exact .step (State.maskFld_same ..) (.step (State.maskFld_same ..) (.refl ..))

theorem execSdRead_same (x0 s) : After Part.most s (execSdRead x0 s) := by
  unfold execSdRead
  refine .next ?_
  exact .step (State.sdStart_same ..) (.refl ..)

theorem execTraceClear_same (x0 s) : After Part.most s (execTraceClear x0 s) := by
  unfold execTraceClear
  refine .next ?_
  exact .step (State.writeFld_same ..) (.refl ..)

theorem execSdCmd_same (x0 x1 x2 s) : After Part.most s (execSdCmd x0 x1 x2 s) := by
  unfold execSdCmd
  refine .next ?_
  refine .ite ?_ ?_
  · exact .step (State.sdReply_same ..) (.step (State.maskFld_same ..) (.step (State.maskAll_same ..) (.refl ..)))
  · exact .step (State.maskFld_same ..) (.step (State.maskAll_same ..) (.refl ..))

theorem execAct_same (x0 s) : After Part.most s (execAct x0 s) := by
  unfold execAct
  refine .next ?_
  exact .step (State.maskFld_same ..) (.refl ..)

theorem execEngineCommitRequest_same (x0 x1 s) : After Part.most s (execEngineCommitRequest x0 x1 s) := by
  unfold execEngineCommitRequest
  refine .next ?_
  exact .step (State.writeFld_same ..) (.refl ..)

theorem execNvsBufdataAccess_same (x0 x1 x2 s) : After Part.most s (execNvsBufdataAccess x0 x1 x2 s) := by
  unfold execNvsBufdataAccess
  refine .next ?_
  refine .ite ?_ ?_
  · exact .step (State.write_same ..) (.refl ..)
  · exact .step (State.read_same ..) (.refl ..)

theorem execStepImmediate_same (x0 s) : After Part.most s (execStepImmediate x0 s) := by
  unfold execStepImmediate
  refine .next ?_
  exact .step (State.writeN_same ..) (.refl ..)

theorem execClaim_same (x0 x1 s) : After Part.most s (execClaim x0 x1 s) := by
  unfold execClaim
  refine .next ?_
  exact .step (State.writeN_same ..) (.refl ..)

theorem execSoftwareEvent_same (x0 x1 s) : After Part.most s (execSoftwareEvent x0 x1 s) := by
  unfold execSoftwareEvent
  refine .next ?_
  exact .step (State.write_same ..) (.refl ..)

theorem execCalNsRead_same (x0 s) :
    After [.free, .regs, .snaps, .dict, .answer, .trn, .cal, .aut, .evt, .dmc, .idc] s (execCalNsRead x0 s) := by
  unfold execCalNsRead
  refine .next ?_
  exact .step (State.read_same ..) (.refl ..)

theorem execEcdsaSign_same (x0 x1 s) : After Part.most s (execEcdsaSign x0 x1 s) := by
  unfold execEcdsaSign
  refine .next ?_
  exact .step (State.writeN_same ..) (.refl ..)

theorem execSoftReset_same (x0 s) : After Part.most s (execSoftReset x0 s) := by
  unfold execSoftReset
  refine .next ?_
  exact .step (State.writeN_same ..) (.refl ..)

theorem State.sdPassword_same (s x1 x2 x3) : Same Part.most s (State.sdPassword s x1 x2 x3) := by
  unfold State.sdPassword
  refine .ite ?_ ?_
  · exact .step (State.sdReply_same ..) (.step (State.sdStart_same ..) (.refl ..))
  · exact .step (State.sdStart_same ..) (.refl ..)

theorem execLockCard_same (x0 x1 s) : After Part.most s (execLockCard x0 x1 s) := by
  unfold execLockCard
  refine .next ?_
  exact .step (State.sdPassword_same ..) (.refl ..)

theorem execNvsWrite_same (x0 x1 s) : After Part.most s (execNvsWrite x0 x1 s) := by
  unfold execNvsWrite
  refine .next ?_
  exact .step (State.writeN_same ..) (.refl ..)

theorem execLoad_same (x0 x1 s) : After Part.most s (execLoad x0 x1 s) := by
  unfold execLoad
  refine .next ?_
  exact .step (State.writeN_same ..) (.refl ..)

theorem execPtpEnable_same (x0 s) : After Part.most s (execPtpEnable x0 s) := by
  unfold execPtpEnable
  refine .next ?_
  exact .step (State.writeFld_same ..) (.refl ..)

theorem execSdStop_same (x0 s) : After Part.most s (execSdStop x0 s) := by
  unfold execSdStop
  refine .next ?_
  exact .step (State.maskFld_same ..) (.refl ..)

theorem execWatchdogEnable_same (x0 s) : After Part.most s (execWatchdogEnable x0 s) := by
  unfold execWatchdogEnable
  refine .next ?_
  exact .step (State.writeFld_same ..) (.refl ..)

theorem execConverterForcedCommit_same (x0 s) : After Part.most s (execConverterForcedCommit x0 s) := by
  unfold execConverterForcedCommit
  refine .next ?_
  exact .step (State.writeFld_same ..) (.refl ..)

theorem execDayReadSelect_same (x0 x1 s) : After Part.most s (execDayReadSelect x0 x1 s) := by
  unfold execDayReadSelect
  refine .next ?_
  exact .step (State.write_same ..) (.refl ..)

theorem execDeact_same (x0 s) : After Part.most s (execDeact x0 s) := by
  unfold execDeact
  refine .next ?_
  exact .step (State.maskFld_same ..) (.refl ..)

theorem execRelease_same (x0 x1 s) : After Part.most s (execRelease x0 x1 s) := by
  unfold execRelease
  refine .next ?_
  exact .step (State.writeN_same ..) (.refl ..)

theorem execEntryValidate_same (x0 s) : After Part.most s (execEntryValidate x0 s) := by
  unfold execEntryValidate
  refine .next ?_
  exact .step (State.writeN_same ..) (.refl ..)

theorem execHarvestSlotDisable_same (x0 x1 s) : After Part.most s (execHarvestSlotDisable x0 x1 s) := by
  unfold execHarvestSlotDisable
  refine .next ?_
  exact .step (State.writeFld_same ..) (.refl ..)

theorem execTdcRead_same (x0 x1 s) :
    After [.free, .regs, .snaps, .dict, .answer, .trn, .cal, .aut, .evt, .dmc, .idc] s (execTdcRead x0 x1 s) := by
  unfold execTdcRead
  refine .next ?_
  exact .step (State.read_same ..) (.refl ..)

theorem execLaneEnable_same (x0 x1 s) : After Part.most s (execLaneEnable x0 x1 s) := by
  unfold execLaneEnable
  refine .next ?_
  exact .step (State.maskFld_same ..) (.refl ..)

theorem execShaHash_same (x0 x1 s) : After Part.most s (execShaHash x0 x1 s) := by
  unfold execShaHash
  refine .next ?_
  exact .step (State.writeN_same ..) (.refl ..)

theorem execRephase_same (x0 x1 s) : After Part.most s (execRephase x0 x1 s) := by
  unfold execRephase
  refine .next ?_
  exact .step (State.maskFld_same ..) (.refl ..)

theorem execIdcGo_same (x0 s) : After Part.most s (execIdcGo x0 s) := by
  unfold execIdcGo
  refine .next ?_
  exact .step (State.maskFld_same ..) (.refl ..)

theorem execUnlock_same (x0 x1 x2 s) : After Part.most s (execUnlock x0 x1 x2 s) := by
  unfold execUnlock
  refine .next ?_
  refine .ite ?_ ?_
  · exact .step (State.sdUnlock_same ..) (.step (State.sdStart_same ..) (.refl ..))
  · exact .step (State.sdStart_same ..) (.refl ..)

theorem execEntryWrite_same (x0 s) : After Part.most s (execEntryWrite x0 s) := by
  unfold execEntryWrite
  refine .next ?_
  exact .step (State.writeN_same ..) (.refl ..)

theorem execForegroundGo_same (x0 x1 s) : After Part.most s (execForegroundGo x0 x1 s) := by
  unfold execForegroundGo
  refine .next ?_
  exact .step (State.writeN_same ..) (.refl ..)

theorem execInc_same (x0 x1 s) : After Part.most s (execInc x0 x1 s) := by
  unfold execInc
  refine .next ?_
  exact .step (State.writeN_same ..) (.refl ..)

theorem execNvsRead_same (x0 x1 s) : After Part.most s (execNvsRead x0 x1 s) := by
  unfold execNvsRead
  refine .next ?_
  exact .step (State.writeN_same ..) (.refl ..)

theorem execForceErase_same (x0 x1 x2 s) : After Part.most s (execForceErase x0 x1 x2 s) := by
  unfold execForceErase
  refine .next ?_
  refine .ite ?_ ?_
  · exact .step (State.sdUnlock_same ..) (.step (State.sdStart_same ..) (.refl ..))
  · exact .step (State.sdStart_same ..) (.refl ..)

theorem execTune_same (x0 x1 x2 s) : After Part.most s (execTune x0 x1 x2 s) := by
  unfold execTune
  refine .next ?_
  exact .step (State.sdTuned_same ..) (.step (State.maskFld_same ..) (.refl ..))

theorem execWarm_same (x0 s) : After Part.most s (execWarm x0 s) := by
  unfold execWarm
  refine .next ?_
  exact .step (State.maskFld_same ..) (.refl ..)

theorem execStepAtRollover_same (x0 s) : After Part.most s (execStepAtRollover x0 s) := by
  unfold execStepAtRollover
  refine .next ?_
  exact .step (State.writeN_same ..) (.refl ..)

theorem execPwrReqOff_same (x0 x1 s) : After Part.most s (execPwrReqOff x0 x1 s) := by
  unfold execPwrReqOff
  refine .next ?_
  exact .step (State.writeN_same ..) (.refl ..)

theorem execEntryInvalidate_same (x0 s) : After Part.most s (execEntryInvalidate x0 s) := by
  unfold execEntryInvalidate
  refine .next ?_
  exact .step (State.writeN_same ..) (.refl ..)

theorem execDelegationAnswer_same (x0 x1 s) : After Part.most s (execDelegationAnswer x0 x1 s) := by
  unfold execDelegationAnswer
  refine .next ?_
  exact .step (State.writeN_same ..) (.refl ..)

theorem execSdInit_same (x0 s) : After Part.most s (execSdInit x0 s) := by
  unfold execSdInit
  refine .next ?_
  exact .step (State.maskFld_same ..) (.refl ..)

theorem execCommitAbort_same (x0 s) : After Part.most s (execCommitAbort x0 s) := by
  unfold execCommitAbort
  refine .next ?_
  exact .step (State.writeFld_same ..) (.refl ..)

theorem execClearLog_same (x0 s) : After Part.most s (execClearLog x0 s) := by
  unfold execClearLog
  refine .next ?_
  exact .step (State.writePair_same ..) (.refl ..)

theorem execConverterCommitRequest_same (x0 s) : After Part.most s (execConverterCommitRequest x0 s) := by
  unfold execConverterCommitRequest
  refine .next ?_
  exact .step (State.writeFld_same ..) (.refl ..)

theorem execCopy_same (x0 s) : After Part.most s (execCopy x0 s) := by
  unfold execCopy
  refine .next ?_
  exact .step (State.writeFld_same ..) (.refl ..)

theorem execPtpTxHeadAdvance_same (x0 x1 s) : After Part.most s (execPtpTxHeadAdvance x0 x1 s) := by
  unfold execPtpTxHeadAdvance
  refine .next ?_
  exact .step (State.write_same ..) (.refl ..)

theorem execDacCodeWrite_same (x0 x1 x2 s) : After Part.most s (execDacCodeWrite x0 x1 x2 s) := by
  unfold execDacCodeWrite
  refine .next ?_
  exact .step (State.write_same ..) (.refl ..)

theorem execWipe_same (x0 x1 s) : After Part.most s (execWipe x0 x1 s) := by
  unfold execWipe
  refine .next ?_
  exact .step (State.writeN_same ..) (.refl ..)

theorem execUnfreeze_same (x0 x1 s) : After Part.most s (execUnfreeze x0 x1 s) := by
  unfold execUnfreeze
  refine .next ?_
  exact .step (State.write_same ..) (.refl ..)

theorem execConverterTestGo_same (x0 s) : After Part.most s (execConverterTestGo x0 s) := by
  unfold execConverterTestGo
  refine .next ?_
  exact .step (State.writeFld_same ..) (.refl ..)

theorem execEntryRead_same (x0 s) : After Part.most s (execEntryRead x0 s) := by
  unfold execEntryRead
  refine .next ?_
  exact .step (State.writeN_same ..) (.refl ..)

theorem execClrpwd_same (x0 x1 s) : After Part.most s (execClrpwd x0 x1 s) := by
  unfold execClrpwd
  refine .next ?_
  exact .step (State.sdPassword_same ..) (.refl ..)

theorem execCommitGo_same (x0 x1 s) : After Part.most s (execCommitGo x0 x1 s) := by
  unfold execCommitGo
  refine .next ?_
  exact .step (State.write_same ..) (.refl ..)

theorem execDramInit_same (x0 s) : After Part.most s (execDramInit x0 s) := by
  unfold execDramInit
  refine .next ?_
  exact .step (State.writeFld_same ..) (.refl ..)

theorem execS8Update_same (x0 x1 s) : After Part.most s (execS8Update x0 x1 s) := by
  unfold execS8Update
  refine .next ?_
  exact .step (State.write_same ..) (.refl ..)

theorem execKeyGeneration_same (x0 x1 s) : After Part.most s (execKeyGeneration x0 x1 s) := by
  unfold execKeyGeneration
  refine .next ?_
  exact .step (State.writeN_same ..) (.refl ..)

theorem execSignalWrite_same (x0 x1 x2 s) : After Part.most s (execSignalWrite x0 x1 x2 s) := by
  unfold execSignalWrite
  refine .next ?_
  exact .step (State.write_same ..) (.refl ..)

theorem execRemapWrite_same (x0 x1 s) : After Part.most s (execRemapWrite x0 x1 s) := by
  unfold execRemapWrite
  refine .next ?_
  exact .step (State.write_same ..) (.refl ..)

theorem execReportRead_same (x0 x1 s) :
    After [.free, .regs, .snaps, .dict, .answer, .trn, .cal, .aut, .evt, .dmc, .idc] s (execReportRead x0 x1 s) := by
  unfold execReportRead
  refine .next ?_
  exact .step (State.read_same ..) (.refl ..)

theorem execHkPeriodWrite_same (x0 x1 s) : After Part.most s (execHkPeriodWrite x0 x1 s) := by
  unfold execHkPeriodWrite
  refine .next ?_
  exact .step (State.maskAll_same ..) (.refl ..)

theorem execRolekey_same (x0 x1 s) : After Part.most s (execRolekey x0 x1 s) := by
  unfold execRolekey
  refine .next ?_
  exact .step (State.writeN_same ..) (.refl ..)

theorem execEngineForcedCommit_same (x0 x1 s) : After Part.most s (execEngineForcedCommit x0 x1 s) := by
  unfold execEngineForcedCommit
  refine .next ?_
  exact .step (State.writeFld_same ..) (.refl ..)

theorem execEcdsaVerify_same (x0 x1 s) : After Part.most s (execEcdsaVerify x0 x1 s) := by
  unfold execEcdsaVerify
  refine .next ?_
  exact .step (State.writeN_same ..) (.refl ..)

theorem execFuseProgram_same (x0 x1 s) : After Part.most s (execFuseProgram x0 x1 s) := by
  unfold execFuseProgram
  refine .next ?_
  exact .step (State.write_same ..) (.refl ..)

theorem execSetpwd_same (x0 x1 s) : After Part.most s (execSetpwd x0 x1 s) := by
  unfold execSetpwd
  refine .next ?_
  exact .step (State.sdPassword_same ..) (.refl ..)

theorem execLaneProtectConfig_same (x0 x1 x2 s) : After Part.most s (execLaneProtectConfig x0 x1 x2 s) := by
  unfold execLaneProtectConfig
  refine .next ?_
  exact .step (State.write_same ..) (.refl ..)

theorem execEveWrite_same (x0 x1 x2 s) : After Part.most s (execEveWrite x0 x1 x2 s) := by
  unfold execEveWrite
  refine .next ?_
  exact .step (State.write_same ..) (.refl ..)

theorem execClearAlmanac_same (x0 s) : After Part.most s (execClearAlmanac x0 s) := by
  unfold execClearAlmanac
  refine .next ?_
  exact .step (State.writePair_same ..) (.refl ..)

theorem execCaptureGo_same (x0 x1 s) : After Part.most s (execCaptureGo x0 x1 s) := by
  unfold execCaptureGo
  refine .next ?_
  exact .step (State.write_same ..) (.refl ..)

theorem execTrnRandRead_same (x0 s) :
    After [.free, .regs, .snaps, .dict, .answer, .trn, .cal, .aut, .evt, .dmc, .idc] s (execTrnRandRead x0 s) := by
  unfold execTrnRandRead
  refine .next ?_
  exact .step (State.read_same ..) (.refl ..)

theorem execTrnRawRead_same (x0 x1 s) :
    After [.free, .regs, .snaps, .dict, .answer, .trn, .cal, .aut, .evt, .dmc, .idc] s (execTrnRawRead x0 x1 s) := by
  unfold execTrnRawRead
  refine .next ?_
  exact .step (State.read_same ..) (.step (State.withTrn_same ..) (.refl ..))

theorem execWatchdogKick_same (x0 s) : After Part.most s (execWatchdogKick x0 s) := by
  unfold execWatchdogKick
  refine .next ?_
  exact .step (State.writeN_same ..) (.refl ..)

theorem execPwrReqRet_same (x0 x1 s) : After Part.most s (execPwrReqRet x0 x1 s) := by
  unfold execPwrReqRet
  refine .next ?_
  exact .step (State.writeN_same ..) (.refl ..)

theorem execThreadStart_same (x0 x1 s) : After Part.most s (execThreadStart x0 x1 s) := by
  unfold execThreadStart
  refine .next ?_
  exact .step (State.writeFld_same ..) (.refl ..)

theorem execSaEnable_same (x0 x1 x2 s) : After Part.most s (execSaEnable x0 x1 x2 s) := by
  unfold execSaEnable
  refine .next ?_
  exact .step (State.write_same ..) (.refl ..)

theorem execSdWrite_same (x0 s) : After Part.most s (execSdWrite x0 s) := by
  unfold execSdWrite
  refine .next ?_
  exact .step (State.sdStart_same ..) (.refl ..)

theorem execThreadStop_same (x0 x1 s) : After Part.most s (execThreadStop x0 x1 s) := by
  unfold execThreadStop
  refine .next ?_
  exact .step (State.writeFld_same ..) (.refl ..)

theorem execEcdh_same (x0 x1 s) : After Part.most s (execEcdh x0 x1 s) := by
  unfold execEcdh
  refine .next ?_
  exact .step (State.writeN_same ..) (.refl ..)

theorem execDacRangeChange_same (x0 x1 x2 x3 s) : After Part.most s (execDacRangeChange x0 x1 x2 x3 s) := by
  unfold execDacRangeChange
  refine .next ?_
  exact .step (State.write_same ..) (.step (State.withHld_same ..) (.refl ..))

theorem execHarvestSlotEnable_same (x0 x1 x2 s) : After Part.most s (execHarvestSlotEnable x0 x1 x2 s) := by
  unfold execHarvestSlotEnable
  refine .next ?_
  exact .step (State.write_same ..) (.refl ..)

theorem execPwrReqOn_same (x0 x1 s) : After Part.most s (execPwrReqOn x0 x1 s) := by
  unfold execPwrReqOn
  refine .next ?_
  exact .step (State.writeN_same ..) (.refl ..)

theorem execHkEnable_same (x0 x1 s) : After Part.most s (execHkEnable x0 x1 s) := by
  unfold execHkEnable
  refine .next ?_
  exact .step (State.maskAll_same ..) (.refl ..)

theorem execApertureWrite_same (x0 x1 s) : After Part.most s (execApertureWrite x0 x1 s) := by
  unfold execApertureWrite
  refine .next ?_
  exact .step (State.write_same ..) (.refl ..)

theorem execLaneDisable_same (x0 x1 s) : After Part.most s (execLaneDisable x0 x1 s) := by
  unfold execLaneDisable
  refine .next ?_
  exact .step (State.maskFld_same ..) (.refl ..)

theorem execEntropyRetry_same (x0 s) : After Part.most s (execEntropyRetry x0 s) := by
  unfold execEntropyRetry
  refine .next ?_
  exact .step (State.writeFld_same ..) (.refl ..)

theorem execPwroff_same (x0 s) : After Part.most s (execPwroff x0 s) := by
  unfold execPwroff
  refine .next ?_
  exact .step (State.maskFld_same ..) (.refl ..)

/-! ### Boot -/

theorem State.bootResult_same (s x1) : Same [.regs] s (State.bootResult s x1) := by
  unfold State.bootResult
  exact .step (State.setFld_same ..) (.refl ..)

theorem State.modBoot_same (s x1) : Same [.rst] s (State.modBoot s x1) := by
  unfold State.modBoot
  exact .step (State.withRst_same ..) (.refl ..)

theorem State.imageGood_same (s x1) : Same [.rst] s (State.imageGood s x1) := by
  unfold State.imageGood
  exact .step (State.modBoot_same ..) (.refl ..)

theorem execBootImageReceived_same (s) : After [.free, .regs, .dict, .rst, .evt, .dmc] s (execBootImageReceived s) := by
  unfold execBootImageReceived
  split
  · refine .ite ?_ ?_
    · refine .next ?_
      refine .step (State.imageGood_same ..) ?_
      refine .step (State.setFld_same ..) ?_
      refine .step (State.bootResult_same ..) ?_
      refine .ite2 ?_ ?_
      · exact .step (State.memRead_same ..) (.refl ..)
      · refine .ite2 ?_ ?_
        · exact .step (State.memRead_same ..) (.step (State.memRead_same ..) (.refl ..))
        · exact .step (State.memRead_same ..) (.step (State.memRead_same ..) (.refl ..))
    · refine .next ?_
      refine .step (State.modBoot_same ..) ?_
      refine .step (State.bootResult_same ..) ?_
      refine .ite2 ?_ ?_
      · exact .step (State.memRead_same ..) (.refl ..)
      · refine .ite2 ?_ ?_
        · exact .step (State.memRead_same ..) (.step (State.memRead_same ..) (.refl ..))
        · exact .step (State.memRead_same ..) (.step (State.memRead_same ..) (.refl ..))
  · refine .next ?_
    exact .refl ..

theorem execBootFail_same (s) : After [.regs, .dict, .pwr, .rst, .threads, .evt, .trc] s (execBootFail s) := by
  unfold execBootFail
  refine .ite ?_ ?_
  · refine .next ?_
    refine .step (State.modBoot_same ..) ?_
    refine .step (State.setRun_same ..) ?_
    refine .foldl _ (fun _ _ _ => ?_) _ ?_
    · exact .step (State.pwrRequest_same ..) ‹_›
    · exact .refl ..
  · refine .next ?_
    exact .refl ..

theorem execBootImageAccepted_same (s) : After Part.most s (execBootImageAccepted s) := by
  unfold execBootImageAccepted
  split
  · refine .next ?_
    refine .step (State.modBoot_same ..) ?_
    refine .step (State.modThr_same ..) ?_
    refine .ite ?_ ?_
    · exact .step (State.pwrRequest_same ..) (.step (State.setFlag_same ..) (.step (State.setFld_same ..) (.step
        (State.modCore_same ..) (.step (State.maintAll_same ..) (.step (State.drainCore_same ..) (.refl ..))))))
    · exact .step (State.setFlag_same ..) (.step (State.setFld_same ..) (.step (State.modCore_same ..) (.step
        (State.maintAll_same ..) (.step (State.drainCore_same ..) (.refl ..)))))
  · refine .next ?_
    exact .refl ..

theorem execNiquevorBootTimeout_same (s) :
    After [.now, .regs, .dict, .rst, .cal, .hld, .mtx, .convs, .evt] s (execNiquevorBootTimeout s) := by
  unfold execNiquevorBootTimeout
  refine .ite ?_ ?_
  · refine .next ?_
    refine .step (State.modBoot_same ..) ?_
    refine .ite ?_ ?_
    · exact .step (State.setFld_same ..) (.step (State.advanceTo_same ..) (.refl ..))
    · exact .step (State.bootResult_same ..) (.step (State.setFld_same ..) (.step (State.advanceTo_same ..) (.refl ..)))
  · refine .next ?_
    exact .refl ..

theorem State.romPages_same (x0 s) : Same [.regs, .dict, .tmp, .nvs, .hld, .evt, .nq] s (State.romPages x0 s).2 := by
  induction x0 generalizing s with
  | nil => exact .refl ..
  | cons x l ih =>
    unfold romPages
    exact .ite2 (.step (nvsReadDone_same ..) (.refl ..)) (.step (ih ..) (.step (nvsReadDone_same ..) (.refl ..)))

theorem State.loadImage_same (s x1 x2) : Same [.free, .regs, .dict, .sram, .evt, .dmc] s (State.loadImage s x1 x2).2 := by
  unfold State.loadImage
  refine .ite2 ?_ ?_
  · exact .step (State.memWrite_same ..) (.refl ..)
  · exact .step (State.memWrite_same ..) (.refl ..)

theorem State.bootStore_same (s) :
    Same [.free, .regs, .dict, .sram, .tmp, .nvs, .hld, .evt, .dmc, .nq] s (State.bootStore s).2.2 := by
  unfold bootStore
  dsimp only
  have f : Same [.free, .regs, .dict, .sram, .tmp, .nvs, .hld, .evt, .dmc, .nq] s (romPages [16] s).2 := .step (romPages_same ..) (.refl ..)
  split
  · exact f
  · split
    · exact f
    · split
      · exact .step (romPages_same ..) f
      · exact .step (loadImage_same ..) (.step (romPages_same ..) f)

theorem State.bootCard_same (s x1 x2) : Same [.free, .regs, .dict, .sram, .evt, .dmc] s (State.bootCard s x1 x2).2.2 := by
  unfold bootCard
  dsimp only
  split
  · exact .refl ..
  · split
    · exact .refl ..
    · split
      · exact .refl ..
      · split
        · exact .refl ..
        · exact .step (loadImage_same ..) (.refl ..)

theorem execBootSourceAttempt_same (x0 x1 s) :
    After [.free, .regs, .snaps, .dict, .staged, .pairs, .sram, .pwr, .rst, .tmp, .nvs, .cal, .hld, .mtx, .lanes, .convs, .hvs, .cls, .aut, .cip, .threads, .cores, .evt, .trc, .ic, .hk, .dmc, .idc, .sdh, .nq] s (execBootSourceAttempt x0 x1 s) := by
  unfold execBootSourceAttempt
  dsimp only
  refine .ite (.next (.refl ..)) (.ite (.next ?_) (.ite (.next ?_) (.ite (.next (.refl ..)) (.ite (.next ?_) (.next ?_)))))
  · exact .step (State.doubleFault_same ..) (.step (State.modBoot_same ..) (.refl ..))
  · exact .step (State.modBoot_same ..) (.foldl _ (fun _ _ h => .step (State.pwrRequest_same ..) h) _ (.refl ..))
  · exact .step (State.modBoot_same ..) (.step (State.setFld_same ..) (.refl ..))
  · have b : Same [.free, .regs, .snaps, .dict, .staged, .pairs, .sram, .pwr, .rst, .tmp, .nvs, .cal, .hld, .mtx, .lanes, .convs, .hvs, .cls, .aut, .cip, .threads, .cores, .evt, .trc, .ic, .hk, .dmc, .idc, .sdh, .nq] s (if s.bootSource = 1 then s.bootStore else s.bootCard x0 x1).2.2 := by
      split
      · exact .step (State.bootStore_same ..) (.refl ..)
      · exact .step (State.bootCard_same ..) (.refl ..)
    exact .ite (.step (State.imageGood_same ..) (.step (State.bootResult_same ..) b))
      (.step (State.modBoot_same ..) (.step (State.bootResult_same ..) b))

/-! ### Receive -/

theorem execSuperframeReceived_same (x0 x1 s) :
    After [.free, .regs, .dict, .sram, .mtx, .lanes, .convs, .hvs, .aut, .cip, .evt, .dmc] s (execSuperframeReceived x0 x1 s) := by
  unfold execSuperframeReceived
  refine .ite ?_ ?_
  · refine .next ?_
    exact .refl ..
  · refine .next ?_
    refine .ite ?_ ?_
    · refine .step (State.modLane_same ..) ?_
      refine .step (State.hvsUnits_same ..) ?_
      refine .foldl _ (fun _ _ _ => ?_) _ ?_
      · refine .step (State.unitEnd_same ..) ?_
        refine .ite ?_ ?_
        · exact .step (State.laneCount_same ..) (.step (State.laneCount_same ..) ‹_›)
        · exact .step (State.laneCount_same ..) ‹_›
      · exact .step (State.laneCount_same ..) (.step (State.varlasVerify_same ..) (.refl ..))
    · refine .step (State.hvsUnits_same ..) ?_
      refine .foldl _ (fun _ _ _ => ?_) _ ?_
      · refine .step (State.unitEnd_same ..) ?_
        refine .ite ?_ ?_
        · exact .step (State.laneCount_same ..) (.step (State.laneCount_same ..) ‹_›)
        · exact .step (State.laneCount_same ..) ‹_›
      · exact .step (State.laneCount_same ..) (.step (State.varlasVerify_same ..) (.refl ..))

theorem State.clsConfirm_same (s x1 x2) : Same [.regs, .dict, .evt] s (State.clsConfirm s x1 x2) := by
  unfold State.clsConfirm
  refine .ite ?_ ?_
  · refine .step (State.laneCount_same ..) ?_
    refine .ite ?_ ?_
    · exact .refl ..
    · dsimp only
      split
      · refine .step (State.count_same ..) ?_
        refine .ite ?_ ?_
        · refine .foldl _ (fun _ _ _ => ?_) _ ?_
          · split
            · exact .step (State.count_same ..) ‹_›
            · exact .step (State.count_same ..) ‹_›
          · refine .ite ?_ ?_
            · exact .refl ..
            · exact .step (State.countWide_same ..) (.refl ..)
        · refine .step (State.countN_same ..) ?_
          refine .foldl _ (fun _ _ _ => ?_) _ ?_
          · split
            · exact .step (State.count_same ..) ‹_›
            · exact .step (State.count_same ..) ‹_›
          · refine .ite ?_ ?_
            · exact .refl ..
            · exact .step (State.countWide_same ..) (.refl ..)
      · refine .step (State.count_same ..) ?_
        refine .ite ?_ ?_
        · refine .foldl _ (fun _ _ _ => ?_) _ ?_
          · split
            · exact .step (State.count_same ..) ‹_›
            · exact .step (State.count_same ..) ‹_›
          · refine .ite ?_ ?_
            · exact .refl ..
            · exact .step (State.countWide_same ..) (.refl ..)
        · refine .step (State.countN_same ..) ?_
          refine .foldl _ (fun _ _ _ => ?_) _ ?_
          · split
            · exact .step (State.count_same ..) ‹_›
            · exact .step (State.count_same ..) ‹_›
          · refine .ite ?_ ?_
            · exact .refl ..
            · exact .step (State.countWide_same ..) (.refl ..)
      · refine .step (State.count_same ..) ?_
        refine .ite ?_ ?_
        · refine .foldl _ (fun _ _ _ => ?_) _ ?_
          · split
            · exact .step (State.count_same ..) ‹_›
            · exact .step (State.count_same ..) ‹_›
          · refine .ite ?_ ?_
            · exact .refl ..
            · exact .step (State.countWide_same ..) (.refl ..)
        · refine .step (State.countN_same ..) ?_
          refine .foldl _ (fun _ _ _ => ?_) _ ?_
          · split
            · exact .step (State.count_same ..) ‹_›
            · exact .step (State.count_same ..) ‹_›
          · refine .ite ?_ ?_
            · exact .refl ..
            · exact .step (State.countWide_same ..) (.refl ..)
      · refine .ite ?_ ?_
        · refine .foldl _ (fun _ _ _ => ?_) _ ?_
          · split
            · exact .step (State.count_same ..) ‹_›
            · exact .step (State.count_same ..) ‹_›
          · refine .ite ?_ ?_
            · exact .refl ..
            · exact .step (State.countWide_same ..) (.refl ..)
        · refine .step (State.countN_same ..) ?_
          refine .foldl _ (fun _ _ _ => ?_) _ ?_
          · split
            · exact .step (State.count_same ..) ‹_›
            · exact .step (State.count_same ..) ‹_›
          · refine .ite ?_ ?_
            · exact .refl ..
            · exact .step (State.countWide_same ..) (.refl ..)
  · refine .ite ?_ ?_
    · exact .refl ..
    · dsimp only
      split
      · refine .step (State.count_same ..) ?_
        refine .ite ?_ ?_
        · refine .foldl _ (fun _ _ _ => ?_) _ ?_
          · split
            · exact .step (State.count_same ..) ‹_›
            · exact .step (State.count_same ..) ‹_›
          · refine .ite ?_ ?_
            · exact .refl ..
            · exact .step (State.countWide_same ..) (.refl ..)
        · refine .step (State.countN_same ..) ?_
          refine .foldl _ (fun _ _ _ => ?_) _ ?_
          · split
            · exact .step (State.count_same ..) ‹_›
            · exact .step (State.count_same ..) ‹_›
          · refine .ite ?_ ?_
            · exact .refl ..
            · exact .step (State.countWide_same ..) (.refl ..)
      · refine .step (State.count_same ..) ?_
        refine .ite ?_ ?_
        · refine .foldl _ (fun _ _ _ => ?_) _ ?_
          · split
            · exact .step (State.count_same ..) ‹_›
            · exact .step (State.count_same ..) ‹_›
          · refine .ite ?_ ?_
            · exact .refl ..
            · exact .step (State.countWide_same ..) (.refl ..)
        · refine .step (State.countN_same ..) ?_
          refine .foldl _ (fun _ _ _ => ?_) _ ?_
          · split
            · exact .step (State.count_same ..) ‹_›
            · exact .step (State.count_same ..) ‹_›
          · refine .ite ?_ ?_
            · exact .refl ..
            · exact .step (State.countWide_same ..) (.refl ..)
      · refine .step (State.count_same ..) ?_
        refine .ite ?_ ?_
        · refine .foldl _ (fun _ _ _ => ?_) _ ?_
          · split
            · exact .step (State.count_same ..) ‹_›
            · exact .step (State.count_same ..) ‹_›
          · refine .ite ?_ ?_
            · exact .refl ..
            · exact .step (State.countWide_same ..) (.refl ..)
        · refine .step (State.countN_same ..) ?_
          refine .foldl _ (fun _ _ _ => ?_) _ ?_
          · split
            · exact .step (State.count_same ..) ‹_›
            · exact .step (State.count_same ..) ‹_›
          · refine .ite ?_ ?_
            · exact .refl ..
            · exact .step (State.countWide_same ..) (.refl ..)
      · refine .ite ?_ ?_
        · refine .foldl _ (fun _ _ _ => ?_) _ ?_
          · split
            · exact .step (State.count_same ..) ‹_›
            · exact .step (State.count_same ..) ‹_›
          · refine .ite ?_ ?_
            · exact .refl ..
            · exact .step (State.countWide_same ..) (.refl ..)
        · refine .step (State.countN_same ..) ?_
          refine .foldl _ (fun _ _ _ => ?_) _ ?_
          · split
            · exact .step (State.count_same ..) ‹_›
            · exact .step (State.count_same ..) ‹_›
          · refine .ite ?_ ?_
            · exact .refl ..
            · exact .step (State.countWide_same ..) (.refl ..)

theorem State.nqArrive_same (s) : Same [.regs, .nq] s (State.nqArrive s) := by
  unfold State.nqArrive
  refine .ite ?_ ?_
  · exact .step (State.setFld_same ..) (.refl ..)
  · exact .step (State.withNq_same ..) (.refl ..)

theorem State.frameDeliver_same (s x1 x2) :
    Same [.free, .regs, .dict, .sram, .cal, .mtx, .lanes, .convs, .hvs, .cls, .aut, .evt, .dmc, .nq] s (State.frameDeliver s x1 x2) := by
  unfold State.frameDeliver
  split
  · split
    · exact .step (State.unitEnd_same ..) (.refl ..)
    · exact .refl ..
  · refine .ite ?_ ?_
    · exact .step (State.withCal_same ..) (.refl ..)
    · exact .refl ..
  · refine .ite ?_ ?_
    · exact .step (State.hvsFrame_same ..) (.refl ..)
    · exact .refl ..
  · refine .ite ?_ ?_
    · exact .step (State.fqPut_same ..) (.refl ..)
    · exact .refl ..
  · exact .step (State.nqArrive_same ..) (.refl ..)
  · exact .refl ..

theorem State.frameEnd_same (s x1 x2) :
    Same [.free, .regs, .dict, .sram, .cal, .mtx, .lanes, .convs, .hvs, .cls, .aut, .evt, .dmc, .nq] s (State.frameEnd s x1 x2) := by
  unfold State.frameEnd
  split
  · exact .refl ..
  · refine .ite ?_ ?_
    · refine .step (State.frameDeliver_same ..) ?_
      refine .step (State.clsConfirm_same ..) ?_
      split
      · refine .ite ?_ ?_
        · exact .step (State.engOutcome_same ..) (.step (State.modLane_same ..) (.refl ..))
        · exact .step (State.modLane_same ..) (.refl ..)
      · exact .step (State.modLane_same ..) (.refl ..)
    · split
      · refine .step (State.unitEnd_same ..) ?_
        split
        · refine .ite ?_ ?_
          · exact .step (State.engOutcome_same ..) (.step (State.modLane_same ..) (.refl ..))
          · exact .step (State.modLane_same ..) (.refl ..)
        · exact .step (State.modLane_same ..) (.refl ..)
      · split
        · refine .ite ?_ ?_
          · exact .step (State.engOutcome_same ..) (.step (State.modLane_same ..) (.refl ..))
          · exact .step (State.modLane_same ..) (.refl ..)
        · exact .step (State.modLane_same ..) (.refl ..)

theorem State.forward_same (s x1 x2 x3) : Same [.regs, .dict, .lanes, .evt, .nq] s (State.forward s x1 x2 x3) := by
  unfold State.forward
  refine .ite ?_ ?_
  · exact .refl ..
  · refine .ite ?_ ?_
    · exact .step (State.modLane_same ..) (.refl ..)
    · exact .step (State.lineSend_same ..) (.step (State.residence_same ..) (.refl ..))

theorem execEthernetFrameReceived_same (x0 x1 x2 x3 x4 x5 s) :
    After [.free, .regs, .dict, .sram, .cal, .mtx, .lanes, .convs, .hvs, .cls, .aut, .evt, .dmc, .nq] s (execEthernetFrameReceived x0 x1 x2 x3 x4 x5 s) := by
  unfold execEthernetFrameReceived
  refine .ite ?_ ?_
  · refine .next ?_
    refine .ite ?_ ?_
    · exact .step (State.frameEnd_same ..) (.refl ..)
    · exact .refl ..
  · refine .ite ?_ ?_
    · refine .next ?_
      exact .refl ..
    · refine .next ?_
      split
      · refine .step (State.forward_same ..) ?_
        refine .step (State.frameEnd_same ..) ?_
        refine .ite ?_ ?_
        · refine .step (State.laneCount_same ..) ?_
          refine .ite ?_ ?_
          · refine .step (State.laneCount_same ..) ?_
            refine .ite ?_ ?_
            · exact .step (State.laneCount_same ..) (.step (State.laneCount_same ..) (.refl ..))
            · exact .refl ..
          · refine .step (State.laneCount_same ..) ?_
            refine .ite ?_ ?_
            · exact .step (State.laneCount_same ..) (.step (State.laneCount_same ..) (.refl ..))
            · exact .refl ..
        · refine .ite ?_ ?_
          · refine .step (State.laneCount_same ..) ?_
            refine .ite ?_ ?_
            · exact .step (State.laneCount_same ..) (.step (State.laneCount_same ..) (.refl ..))
            · exact .refl ..
          · refine .step (State.laneCount_same ..) ?_
            refine .ite ?_ ?_
            · exact .step (State.laneCount_same ..) (.step (State.laneCount_same ..) (.refl ..))
            · exact .refl ..
      · refine .step (State.frameEnd_same ..) ?_
        refine .ite ?_ ?_
        · refine .step (State.laneCount_same ..) ?_
          refine .ite ?_ ?_
          · refine .step (State.laneCount_same ..) ?_
            refine .ite ?_ ?_
            · exact .step (State.laneCount_same ..) (.step (State.laneCount_same ..) (.refl ..))
            · exact .refl ..
          · refine .step (State.laneCount_same ..) ?_
            refine .ite ?_ ?_
            · exact .step (State.laneCount_same ..) (.step (State.laneCount_same ..) (.refl ..))
            · exact .refl ..
        · refine .ite ?_ ?_
          · refine .step (State.laneCount_same ..) ?_
            refine .ite ?_ ?_
            · exact .step (State.laneCount_same ..) (.step (State.laneCount_same ..) (.refl ..))
            · exact .refl ..
          · refine .step (State.laneCount_same ..) ?_
            refine .ite ?_ ?_
            · exact .step (State.laneCount_same ..) (.step (State.laneCount_same ..) (.refl ..))
            · exact .refl ..

/-! ### Access -/

theorem execMaskedWrite_same (x0 x1 x2 s) : After Part.most s (execMaskedWrite x0 x1 x2 s) := by
  unfold execMaskedWrite
  refine .next ?_
  exact .step (State.write_same ..) (.refl ..)

theorem execAliasWrite_same (x0 x1 x2 s) : After Part.most s (execAliasWrite x0 x1 x2 s) := by
  unfold execAliasWrite
  refine .next ?_
  exact .step (State.write_same ..) (.refl ..)

theorem execDecodeError_same (x0 x1 x2 x3 s) : After [.regs, .dict, .answer, .evt] s (execDecodeError x0 x1 x2 x3 s) := by
  unfold execDecodeError
  refine .ite ?_ ?_
  · refine .next ?_
    exact .refl ..
  · refine .next ?_
    exact .step (State.decodeError_same ..) (.step (State.withAnswer_same ..) (.refl ..))

theorem execVoteDisagreement_same (x0 s) : After [.regs, .tmp, .evt] s (execVoteDisagreement x0 s) := by
  unfold execVoteDisagreement
  dsimp only
  split
  · refine .ite ?_ ?_
    · refine .next ?_
      exact .step (State.reportAt_same ..) (.step (State.raise_same ..) (.step (State.setRegN_same ..) (.step
        (State.integLog_same ..) (.step (State.setInteg_same ..) (.refl ..)))))
    · refine .next ?_
      exact .refl ..
  · refine .next ?_
    exact .refl ..

theorem execShadowPairTimeout_same (x0 s) :
    After [.now, .regs, .dict, .pairs, .tmp, .cal, .hld, .mtx, .convs, .evt] s (execShadowPairTimeout x0 s) := by
  unfold execShadowPairTimeout
  dsimp only
  split
  · refine .next ?_
    exact .step (State.shadowFail_same ..) (.step (State.dropPair_same ..) (.step (State.advanceTo_same ..) (.refl ..)))
  · refine .next ?_
    exact .refl ..

theorem execShadowPairStart_same (x0 x1 x2 s) : After Part.most s (execShadowPairStart x0 x1 x2 s) := by
  unfold execShadowPairStart
  refine .next ?_
  exact .step (State.write_same ..) (.refl ..)

theorem execCounterLowWordRead_same (x0 x1 s) :
    After [.free, .regs, .snaps, .dict, .answer, .trn, .cal, .aut, .evt, .dmc, .idc] s (execCounterLowWordRead x0 x1 s) := by
  unfold execCounterLowWordRead
  refine .next ?_
  exact .step (State.read_same ..) (.refl ..)

theorem execShadowMismatch_same (x0 x1 s) : After Part.most s (execShadowMismatch x0 x1 s) := by
  unfold execShadowMismatch
  dsimp only
  split
  · split
    · refine .next ?_
      exact .step (blockWrite_same ..) (.step (State.reportAt_same ..) (.step (State.raise_same ..) (.step (State.integLog_same ..)
        (.step (State.setInteg_same ..) (.step (State.setRegN_same ..) (.refl ..))))))
    · refine .next ?_
      exact .refl ..
  · refine .next ?_
    exact .refl ..

theorem execUnavailableBlockAccess_same (x0 x1 x2 s) :
    After [.regs, .dict, .answer, .evt] s (execUnavailableBlockAccess x0 x1 x2 s) := by
  unfold execUnavailableBlockAccess
  refine .ite ?_ ?_
  · refine .next ?_
    exact .refl ..
  · refine .next ?_
    exact .step (State.unavailable_same ..) (.step (State.withAnswer_same ..) (.refl ..))

theorem execStagedCounterLoad_same (x0 x1 x2 s) : After Part.most s (execStagedCounterLoad x0 x1 x2 s) := by
  unfold execStagedCounterLoad
  refine .next ?_
  exact .step (State.write_same ..) (.refl ..)

theorem execLock_same (x0 x1 s) : After Part.most s (execLock x0 x1 s) := by
  unfold execLock
  split
  · refine .next ?_
    exact .step (State.write_same ..) (.refl ..)
  · refine .next ?_
    exact .refl ..

theorem execShadowPortWrite_same (x0 x1 x2 s) : After Part.most s (execShadowPortWrite x0 x1 x2 s) := by
  unfold execShadowPortWrite
  refine .next ?_
  exact .step (State.write_same ..) (.refl ..)

theorem execRcRead_same (x0 x1 s) :
    After [.free, .regs, .snaps, .dict, .answer, .trn, .cal, .aut, .evt, .dmc, .idc] s (execRcRead x0 x1 s) := by
  unfold execRcRead
  refine .next ?_
  exact .step (State.read_same ..) (.refl ..)

theorem execRegisterWrite_same (x0 x1 x2 s) : After Part.most s (execRegisterWrite x0 x1 x2 s) := by
  unfold execRegisterWrite
  refine .next ?_
  exact .step (State.write_same ..) (.refl ..)

theorem execCrossingWatchdog_same (x0 x1 x2 s) :
    After [.now, .regs, .dict, .answer, .cal, .hld, .mtx, .convs, .evt] s (execCrossingWatchdog x0 x1 x2 s) := by
  unfold execCrossingWatchdog
  dsimp only
  split
  · refine .ite ?_ ?_
    · refine .next ?_
      exact .refl ..
    · refine .next ?_
      exact .step (State.unavailable_same ..) (.step (State.withAnswer_same ..) (.step (State.advance_same ..) (.refl ..)))
  · refine .next ?_
    exact .refl ..

/-! ### Debug -/

theorem State.integrityError_same (s x1 x2 x3 x4) : Same [.regs, .dict, .tmp, .evt] s (State.integrityError s x1 x2 x3 x4) := by
  unfold State.integrityError
  refine .step (State.reportAt_same ..) ?_
  refine .ite ?_ ?_
  · exact .refl ..
  · refine .step (State.raise_same ..) ?_
    refine .step (State.count_same ..) ?_
    refine .ite ?_ ?_
    · exact .step (State.setRegN_same ..) (.refl ..)
    · exact .step (State.setRegN_same ..) (.step (State.setRegN_same ..) (.refl ..))

theorem State.transact_same (s x1 x2 x3 x4 x5) : Same Part.most s (State.transact s x1 x2 x3 x4 x5) := by
  unfold State.transact
  refine .ite ?_ ?_
  · exact .step (State.settleDma_same ..) (.step (State.withAnswer_same ..) (.step (State.accessWrite_same ..) (.refl ..)))
  · exact .step (State.withAnswer_same ..) (.step (State.accessRead_same ..) (.refl ..))

theorem execBusTransaction_same (x0 x1 x2 x3 x4 x5 s) : After Part.most s (execBusTransaction x0 x1 x2 x3 x4 x5 s) := by
  unfold execBusTransaction
  refine .ite ?_ ?_
  · refine .next ?_
    exact .refl ..
  · split
    · refine .next ?_
      exact .step (State.transact_same ..) (.refl ..)
    · refine .next ?_
      refine .step (State.transact_same ..) ?_
      refine .ite ?_ ?_
      · exact .step (State.count_same ..) (.refl ..)
      · exact .refl ..
    · refine .next ?_
      exact .step (State.integrityError_same ..) (.step (State.withAnswer_same ..) (.refl ..))
    · refine .next ?_
      exact .step (State.integrityError_same ..) (.step (State.withAnswer_same ..) (.refl ..))
    · refine .next ?_
      exact .step (State.integrityError_same ..) (.step (State.withAnswer_same ..) (.step (State.transact_same ..) (.refl ..)))
    · refine .next ?_
      exact .step (State.integrityError_same ..) (.step (State.withAnswer_same ..) (.step (State.transact_same ..) (.refl ..)))

theorem execExtest_same (s) :
    After [.regs, .snaps, .dict, .staged, .pairs, .rst, .cal, .hld, .mtx, .lanes, .convs, .hvs, .cls, .aut, .cip, .threads, .cores, .evt, .trc, .ic, .hk, .dmc, .idc, .sdh] s (execExtest s) := by
  unfold execExtest
  refine .ite ?_ ?_
  · refine .next ?_
    exact .refl ..
  · refine .next ?_
    refine .step (State.withRst_same ..) ?_
    refine .step (State.withTrc_same ..) ?_
    refine .foldl _ (fun _ _ _ => ?_) _ ?_
    · exact .step (State.resetDomain_same ..) ‹_›
    · exact .refl ..

theorem State.debugFails_same (s x1) : Same [.tmp, .trc] s (State.debugFails s x1) := by
  unfold State.debugFails
  refine .ite ?_ ?_
  · exact .step (State.withTrc_same ..) (.step (State.report_same ..) (.step (State.withTrc_same ..) (.refl ..)))
  · exact .step (State.report_same ..) (.step (State.withTrc_same ..) (.refl ..))

theorem State.tapLoad_same (s x1) : Same [.trc] s (State.tapLoad s x1) := by
  unfold State.tapLoad
  refine .ite ?_ ?_
  · exact .step (State.withTrc_same ..) (.refl ..)
  · exact .refl ..

theorem execTrstNLow_same (s) : After [.trc] s (execTrstNLow s) := by
  unfold execTrstNLow
  refine .next ?_
  refine .ite ?_ ?_
  · exact .step (State.endDebug_same ..) (.step (State.tapLoad_same ..) (.refl ..))
  · exact .refl ..

theorem execIdcode_same (s) : After [.trc] s (execIdcode s) := by
  unfold execIdcode
  refine .ite ?_ ?_
  · refine .next ?_
    exact .step (State.withTrc_same ..) (.step (State.tapLoad_same ..) (.refl ..))
  · refine .next ?_
    exact .refl ..

theorem execBypass_same (s) : After [.trc] s (execBypass s) := by
  unfold execBypass
  refine .next ?_
  exact .step (State.tapLoad_same ..) (.refl ..)

theorem execSamplePreload_same (x0 s) : After [.trc] s (execSamplePreload x0 s) := by
  unfold execSamplePreload
  refine .ite ?_ ?_
  · refine .next ?_
    exact .step (State.withTrc_same ..) (.step (State.tapLoad_same ..) (.refl ..))
  · refine .next ?_
    exact .refl ..

theorem execDbgauthLockoutEnd_same (s) :
    After [.now, .regs, .dict, .cal, .hld, .mtx, .convs, .evt, .trc] s (execDbgauthLockoutEnd s) := by
  unfold execDbgauthLockoutEnd
  split
  · refine .next ?_
    exact .step (State.withTrc_same ..) (.step (State.advanceTo_same ..) (.refl ..))
  · refine .next ?_
    exact .refl ..

theorem State.debugOpen_same (s) : Same [.trc] s (State.debugOpen s) := by
  unfold State.debugOpen
  refine .ite ?_ ?_
  · exact .step (State.withTrc_same ..) (.refl ..)
  · exact .refl ..

theorem execDbgauthNonce_same (s) : After [.trn, .trc] s (execDbgauthNonce s) := by
  unfold execDbgauthNonce
  refine .ite ?_ ?_
  · refine .next ?_
    exact .refl ..
  · refine .ite ?_ ?_
    · refine .next ?_
      exact .step (State.debugOpen_same ..) (.step (State.tapLoad_same ..) (.refl ..))
    · split
      · refine .next ?_
        exact .step (State.withTrc_same ..) (.step (State.randNat_same _ _ _ ‹_›) (.step (State.debugOpen_same ..) (.step
          (State.tapLoad_same ..) (.refl ..))))
      · refine .next ?_
        exact .step (State.withTrc_same ..) (.step (State.debugOpen_same ..) (.step (State.tapLoad_same ..) (.refl ..)))

theorem execDbgend_same (s) : After [.trc] s (execDbgend s) := by
  unfold execDbgend
  refine .next ?_
  refine .ite ?_ ?_
  · exact .step (State.endDebug_same ..) (.step (State.tapLoad_same ..) (.refl ..))
  · exact .refl ..

theorem execDbgauthDone_same (s) : After [.regs, .tmp, .evt, .trc] s (execDbgauthDone s) := by
  unfold execDbgauthDone
  split
  · refine .ite ?_ ?_
    · refine .next ?_
      exact .step (State.debugFails_same ..) (.refl ..)
    · refine .ite ?_ ?_
      · refine .next ?_
        exact .step (State.debugFails_same ..) (.refl ..)
      · refine .next ?_
        exact .step (State.raise_same ..) (.step (State.withTrc_same ..) (.refl ..))
  · refine .next ?_
    exact .refl ..

theorem execDbgacc_same (x0 x1 x2 s) : After Part.most s (execDbgacc x0 x1 x2 s) := by
  unfold execDbgacc
  refine .ite ?_ ?_
  · refine .next ?_
    exact .refl ..
  · refine .ite ?_ ?_
    · refine .ite ?_ ?_
      · refine .next ?_
        exact .step (State.write_same ..) (.step (State.debugOpen_same ..) (.step (State.tapLoad_same ..) (.refl ..)))
      · refine .next ?_
        exact .step (State.withTrc_same ..) (.step (State.read_same ..) (.step (State.debugOpen_same ..) (.step
          (State.tapLoad_same ..) (.refl ..))))
    · refine .next ?_
      exact .step (State.debugOpen_same ..) (.step (State.tapLoad_same ..) (.refl ..))

theorem execDebugHalt_same (x0 s) : After [.regs, .dict, .threads, .cores, .evt, .trc] s (execDebugHalt x0 s) := by
  unfold execDebugHalt
  refine .ite ?_ ?_
  · refine .next ?_
    exact .step (State.raise_same ..) (.step (State.setRun_same ..) (.step (State.wakeCore_same ..) (.refl ..)))
  · refine .next ?_
    exact .refl ..

theorem execDbgauthAttempt_same (x0 x1 x2 x3 x4 s) : After [.tmp, .trc] s (execDbgauthAttempt x0 x1 x2 x3 x4 s) := by
  unfold execDbgauthAttempt
  refine .ite ?_ ?_
  · refine .next ?_
    exact .refl ..
  · refine .ite ?_ ?_
    · refine .next ?_
      exact .step (State.debugFails_same ..) (.refl ..)
    · refine .ite ?_ ?_
      · refine .next ?_
        exact .step (State.debugFails_same ..) (.refl ..)
      · refine .next ?_
        exact .step (State.withTrc_same ..) (.refl ..)

/-! ### Dispatch -/

/-- A command changes at most the listed parts: all but the queue (a part of `step` alone). -/
theorem exec_same (x0 s) : After (.now :: Part.most) s (exec x0 s) := by
  cases x0 with
  | read _ _ => exact (execRead_same ..).mono
  | write _ _ => exact (execWrite_same ..).mono
  | segmentStart _ _ => exact (execSegmentStart_same ..).mono
  | segment _ _ => exact (execSegment_same ..).mono
  | sessionOpen _ _ => exact (execSessionOpen_same ..).mono
  | answer _ _ => exact (execAnswer_same ..).mono
  | close _ _ => exact (execClose_same ..).mono
  | abort _ _ => exact (execAbort_same ..).mono
  | segmentGapTimeout _ _ => exact (execSegmentGapTimeout_same ..).mono
  | sessionIdleLimit _ => exact (execSessionIdleLimit_same ..).mono
  | sessionOpenLockoutEnd _ => exact (execSessionOpenLockoutEnd_same ..).mono
  | transmitOpportunity => exact (execTransmitOpportunity_same ..).mono
  | bulletinDue _ => exact (execBulletinDue_same ..).mono
  | savePersistent _ => exact (execSavePersistent_same ..).mono
  | restoreDefaults _ => exact (execRestoreDefaults_same ..).mono
  | delegationAnswer _ _ => exact (execDelegationAnswer_same ..).mono
  | delegationTimeout => exact (execDelegationTimeout_same ..).mono
  | roleKeyWrite _ _ _ => exact (execRoleKeyWrite_same ..).mono
  | eveImageWrite _ _ => exact (execEveImageWrite_same ..).mono
  | eveImageCopyDone => exact (execEveImageCopyDone_same ..).mono
  | commitRequestObject _ _ => exact (execCommitRequestObject_same ..).mono
  | unfreezeObject _ _ => exact (execUnfreezeObject_same ..).mono
  | aliasWrite _ _ _ => exact (execAliasWrite_same ..).mono
  | maskedWrite _ _ _ => exact (execMaskedWrite_same ..).mono
  | registerWrite _ _ _ => exact (execRegisterWrite_same ..).mono
  | rcRead _ _ => exact (execRcRead_same ..).mono
  | counterLowWordRead _ _ => exact (execCounterLowWordRead_same ..).mono
  | stagedCounterLoad _ _ _ => exact (execStagedCounterLoad_same ..).mono
  | decodeError _ _ _ _ => exact (execDecodeError_same ..).mono
  | unavailableBlockAccess _ _ _ => exact (execUnavailableBlockAccess_same ..).mono
  | crossingWatchdog _ _ _ => exact (execCrossingWatchdog_same ..).mono
  | voteDisagreement _ => exact (execVoteDisagreement_same ..).mono
  | shadowPairStart _ _ _ => exact (execShadowPairStart_same ..).mono
  | shadowPortWrite _ _ _ => exact (execShadowPortWrite_same ..).mono
  | shadowPairTimeout _ => exact (execShadowPairTimeout_same ..).mono
  | shadowMismatch _ _ => exact (execShadowMismatch_same ..).mono
  | lock _ _ => exact (execLock_same ..).mono
  | calNsRead _ => exact (execCalNsRead_same ..).mono
  | stepImmediate _ => exact (execStepImmediate_same ..).mono
  | stepAtRollover _ => exact (execStepAtRollover_same ..).mono
  | stepRelative _ => exact (execStepRelative_same ..).mono
  | pendingStepApplied => exact (execPendingStepApplied_same ..).mono
  | leapApplied => exact (execLeapApplied_same ..).mono
  | refclkLost => exact (execRefclkLost_same ..).mono
  | refclkReturn => exact (execRefclkReturn_same ..).mono
  | tdcCapture _ => exact (execTdcCapture_same ..).mono
  | tdcRead _ _ => exact (execTdcRead_same ..).mono
  | laneCalibrationDone _ _ => exact (execLaneCalibrationDone_same ..).mono
  | ptpEnable _ => exact (execPtpEnable_same ..).mono
  | ptpRxFrame => exact (execPtpRxFrame_same ..).mono
  | ptpTxHeadAdvance _ _ => exact (execPtpTxHeadAdvance_same ..).mono
  | ptpTxComplete _ _ => exact (execPtpTxComplete_same ..).mono
  | s8Update _ _ => exact (execS8Update_same ..).mono
  | sourceQualified _ => exact (execSourceQualified_same ..).mono
  | sourceDisqualified _ => exact (execSourceDisqualified_same ..).mono
  | waitToRestoreExpiry _ => exact (execWaitToRestoreExpiry_same ..).mono
  | dpllUpdate => exact (execDpllUpdate_same ..).mono
  | acquisitionStep => exact (execAcquisitionStep_same ..).mono
  | learnerUpdate => exact (execLearnerUpdate_same ..).mono
  | tempLost => exact (execTempLost_same ..).mono
  | modelCorrection => exact (execModelCorrection_same ..).mono
  | holdoverSecond => exact (execHoldoverSecond_same ..).mono
  | retentionCopyWrite => exact (execRetentionCopyWrite_same ..).mono
  | almanacPersistRequest => exact (execAlmanacPersistRequest_same ..).mono
  | almanacLoad => exact (execAlmanacLoad_same ..).mono
  | taiDayBoundary => exact (execTaiDayBoundary_same ..).mono
  | clearAlmanac _ => exact (execClearAlmanac_same ..).mono
  | dacCodeWrite _ _ _ => exact (execDacCodeWrite_same ..).mono
  | dacRangeChange _ _ _ _ => exact (execDacRangeChange_same ..).mono
  | dacRangeChangeDone _ => exact (execDacRangeChangeDone_same ..).mono
  | eveWrite _ _ _ => exact (execEveWrite_same ..).mono
  | copy _ => exact (execCopy_same ..).mono
  | copyDone => exact (execCopyDone_same ..).mono
  | dayReadSelect _ _ => exact (execDayReadSelect_same ..).mono
  | sourceSampleArrival _ _ _ _ _ _ _ _ => exact (execSourceSampleArrival_same ..).mono
  | sourceTimeout _ _ => exact (execSourceTimeout_same ..).mono
  | transmitSampleFormed _ => exact (execTransmitSampleFormed_same ..).mono
  | commitGo _ _ => exact (execCommitGo_same ..).mono
  | validationDone => exact (execValidationDone_same ..).mono
  | commitAbort _ => exact (execCommitAbort_same ..).mono
  | armingPoint => exact (execArmingPoint_same ..).mono
  | switchWindowExpiry => exact (execSwitchWindowExpiry_same ..).mono
  | delayLineOutput _ => exact (execDelayLineOutput_same ..).mono
  | captureGo _ _ => exact (execCaptureGo_same ..).mono
  | laneEnable _ _ => exact (execLaneEnable_same ..).mono
  | laneDisable _ _ => exact (execLaneDisable_same ..).mono
  | rephase _ _ => exact (execRephase_same ..).mono
  | rephaseDone _ => exact (execRephaseDone_same ..).mono
  | ethernetFrameReceived _ _ _ _ _ _ => exact (execEthernetFrameReceived_same ..).mono
  | roePacketTransmit _ _ => exact (execRoePacketTransmit_same ..).mono
  | superframeReceived _ _ => exact (execSuperframeReceived_same ..).mono
  | transmitDataBlock _ _ => exact (execTransmitDataBlock_same ..).mono
  | blockLock _ => exact (execBlockLock_same ..).mono
  | blockLockLoss _ _ => exact (execBlockLockLoss_same ..).mono
  | markerCandidate _ _ _ _ => exact (execMarkerCandidate_same ..).mono
  | superframeLock _ => exact (execSuperframeLock_same ..).mono
  | badMarker _ => exact (execBadMarker_same ..).mono
  | equalisationStep _ => exact (execEqualisationStep_same ..).mono
  | containerEnable _ _ _ _ => exact (execContainerEnable_same ..).mono
  | converterCommitRequest _ => exact (execConverterCommitRequest_same ..).mono
  | converterForcedCommit _ => exact (execConverterForcedCommit_same ..).mono
  | converterStallLimit _ => exact (execConverterStallLimit_same ..).mono
  | converterUnstall _ => exact (execConverterUnstall_same ..).mono
  | converterTestGo _ => exact (execConverterTestGo_same ..).mono
  | companionWordReceived _ _ _ _ _ => exact (execCompanionWordReceived_same ..).mono
  | harvestTransmit _ _ => exact (execHarvestTransmit_same ..).mono
  | harvestSlotEnable _ _ _ => exact (execHarvestSlotEnable_same ..).mono
  | harvestSlotDisable _ _ => exact (execHarvestSlotDisable_same ..).mono
  | classifierSearch _ _ _ _ _ => exact (execClassifierSearch_same ..).mono
  | fqEntryWritten => exact (execFqEntryWritten_same ..).mono
  | entryRead _ => exact (execEntryRead_same ..).mono
  | entryWrite _ => exact (execEntryWrite_same ..).mono
  | entryInvalidate _ => exact (execEntryInvalidate_same ..).mono
  | entryValidate _ => exact (execEntryValidate_same ..).mono
  | entryCommandDone => exact (execEntryCommandDone_same ..).mono
  | rakeRepairDone _ => exact (execRakeRepairDone_same ..).mono
  | rakeBackgroundStep => exact (execRakeBackgroundStep_same ..).mono
  | engineWord _ => exact (execEngineWord_same ..).mono
  | engineReportPosted _ => exact (execEngineReportPosted_same ..).mono
  | reportRead _ _ => exact (execReportRead_same ..).mono
  | engineCommitRequest _ _ => exact (execEngineCommitRequest_same ..).mono
  | engineValidationDone _ => exact (execEngineValidationDone_same ..).mono
  | engineForcedCommit _ _ => exact (execEngineForcedCommit_same ..).mono
  | engineStallLimit _ => exact (execEngineStallLimit_same ..).mono
  | engineUnstall _ => exact (execEngineUnstall_same ..).mono
  | laneProtectConfig _ _ _ => exact (execLaneProtectConfig_same ..).mono
  | protectedFrameTransmit _ _ _ => exact (execProtectedFrameTransmit_same ..).mono
  | protectedFrameReceive _ => exact (execProtectedFrameReceive_same ..).mono
  | varlasSuperframeEncrypt _ _ _ _ _ => exact (execVarlasSuperframeEncrypt_same ..).mono
  | saEnable _ _ _ => exact (execSaEnable_same ..).mono
  | claim _ _ => exact (execClaim_same ..).mono
  | load _ _ => exact (execLoad_same ..).mono
  | release _ _ => exact (execRelease_same ..).mono
  | wipe _ _ => exact (execWipe_same ..).mono
  | maskReseed _ => exact (execMaskReseed_same ..).mono
  | cipherSelfTest _ _ => exact (execCipherSelfTest_same ..).mono
  | ecdsaSign _ _ => exact (execEcdsaSign_same ..).mono
  | ecdsaVerify _ _ => exact (execEcdsaVerify_same ..).mono
  | ecdh _ _ => exact (execEcdh_same ..).mono
  | keyGeneration _ _ => exact (execKeyGeneration_same ..).mono
  | shaHash _ _ => exact (execShaHash_same ..).mono
  | pkaCommandDone => exact (execPkaCommandDone_same ..).mono
  | aluInstruction _ _ _ _ _ _ => exact (execAluInstruction_same ..).mono
  | loadInstruction _ _ _ _ _ _ => exact (execLoadInstruction_same ..).mono
  | storeInstruction _ _ _ _ _ _ => exact (execStoreInstruction_same ..).mono
  | storeDrain _ => exact (execStoreDrain_same ..).mono
  | swap _ _ _ _ => exact (execSwap_same ..).mono
  | cas _ _ _ _ _ => exact (execCas_same ..).mono
  | fadd _ _ _ _ _ => exact (execFadd_same ..).mono
  | conditionalBranch _ _ _ _ _ _ => exact (execConditionalBranch_same ..).mono
  | call _ _ _ => exact (execCall_same ..).mono
  | jumpAndLink _ _ _ _ _ => exact (execJumpAndLink_same ..).mono
  | trapN _ _ _ => exact (execTrapN_same ..).mono
  | save _ _ => exact (execSave_same ..).mono
  | restore _ _ => exact (execRestore_same ..).mono
  | wpush _ _ => exact (execWpush_same ..).mono
  | wpull _ _ => exact (execWpull_same ..).mono
  | wdrain _ _ => exact (execWdrain_same ..).mono
  | rdsr _ _ _ _ => exact (execRdsr_same ..).mono
  | wrsr _ _ _ _ => exact (execWrsr_same ..).mono
  | xret _ _ => exact (execXret_same ..).mono
  | halt _ _ => exact (execHalt_same ..).mono
  | ewait _ _ _ _ => exact (execEwait_same ..).mono
  | ewaitWake _ => exact (execEwaitWake_same ..).mono
  | wtimExpiry _ => exact (execWtimExpiry_same ..).mono
  | esig _ _ _ _ => exact (execEsig_same ..).mono
  | fence _ _ => exact (execFence_same ..).mono
  | fenceI _ _ => exact (execFenceI_same ..).mono
  | iinvL _ _ _ _ => exact (execIinvL_same ..).mono
  | iinvAll _ _ => exact (execIinvAll_same ..).mono
  | dclnL _ _ _ _ => exact (execDclnL_same ..).mono
  | dflsL _ _ _ _ => exact (execDflsL_same ..).mono
  | dinvL _ _ _ _ => exact (execDinvL_same ..).mono
  | dclnAll _ _ => exact (execDclnAll_same ..).mono
  | dflsAll _ _ => exact (execDflsAll_same ..).mono
  | dinvAll _ _ => exact (execDinvAll_same ..).mono
  | cacheError _ _ _ _ => exact (execCacheError_same ..).mono
  | threadStart _ _ => exact (execThreadStart_same ..).mono
  | threadStop _ _ => exact (execThreadStop_same ..).mono
  | signalWrite _ _ _ => exact (execSignalWrite_same ..).mono
  | dozeEntry _ => exact (execDozeEntry_same ..).mono
  | dozeExit _ => exact (execDozeExit_same ..).mono
  | eventTrap _ => exact (execEventTrap_same ..).mono
  | impreciseStoreError _ => exact (execImpreciseStoreError_same ..).mono
  | allWaitConfirmed => exact (execAllWaitConfirmed_same ..).mono
  | eventRaised _ => exact (execEventRaised_same ..).mono
  | level7Redirection _ => exact (execLevel7Redirection_same ..).mono
  | softwareEvent _ _ => exact (execSoftwareEvent_same ..).mono
  | tracePacketWrite _ => exact (execTracePacketWrite_same ..).mono
  | traceStreamBurst => exact (execTraceStreamBurst_same ..).mono
  | traceClear _ => exact (execTraceClear_same ..).mono
  | dbgauthNonce => exact (execDbgauthNonce_same ..).mono
  | dbgauthAttempt _ _ _ _ _ => exact (execDbgauthAttempt_same ..).mono
  | dbgauthDone => exact (execDbgauthDone_same ..).mono
  | dbgauthLockoutEnd => exact (execDbgauthLockoutEnd_same ..).mono
  | dbgend => exact (execDbgend_same ..).mono
  | trstNLow => exact (execTrstNLow_same ..).mono
  | debugHalt _ => exact (execDebugHalt_same ..).mono
  | idcode => exact (execIdcode_same ..).mono
  | samplePreload _ => exact (execSamplePreload_same ..).mono
  | extest => exact (execExtest_same ..).mono
  | dbgacc _ _ _ => exact (execDbgacc_same ..).mono
  | bypass => exact (execBypass_same ..).mono
  | busTransaction _ _ _ _ _ _ => exact (execBusTransaction_same ..).mono
  | lockForcedRelease _ _ _ => exact (execLockForcedRelease_same ..).mono
  | dmaGo _ _ _ => exact (execDmaGo_same ..).mono
  | dmaDescriptorLoad _ => exact (execDmaDescriptorLoad_same ..).mono
  | dmaTransferDone _ => exact (execDmaTransferDone_same ..).mono
  | dmaError _ _ _ => exact (execDmaError_same ..).mono
  | dmaAbort _ _ => exact (execDmaAbort_same ..).mono
  | ringMeasurement _ _ _ => exact (execRingMeasurement_same ..).mono
  | healthTestFailure _ => exact (execHealthTestFailure_same ..).mono
  | startupTestDone => exact (execStartupTestDone_same ..).mono
  | estimateBlockEnd _ _ => exact (execEstimateBlockEnd_same ..).mono
  | conditionedBlock _ => exact (execConditionedBlock_same ..).mono
  | drbgInstantiate => exact (execDrbgInstantiate_same ..).mono
  | entropyRetry _ => exact (execEntropyRetry_same ..).mono
  | trnRandRead _ => exact (execTrnRandRead_same ..).mono
  | trnRawRead _ _ => exact (execTrnRawRead_same ..).mono
  | nvsRead _ _ => exact (execNvsRead_same ..).mono
  | nvsWrite _ _ => exact (execNvsWrite_same ..).mono
  | inc _ _ => exact (execInc_same ..).mono
  | rolekey _ _ => exact (execRolekey_same ..).mono
  | nvsBufdataAccess _ _ _ => exact (execNvsBufdataAccess_same ..).mono
  | nvsOperationStart => exact (execNvsOperationStart_same ..).mono
  | nvsOperationComplete => exact (execNvsOperationComplete_same ..).mono
  | wearRotationDone => exact (execWearRotationDone_same ..).mono
  | fuseCompare => exact (execFuseCompare_same ..).mono
  | fuseProgram _ _ => exact (execFuseProgram_same ..).mono
  | fuseProgramDone => exact (execFuseProgramDone_same ..).mono
  | tamperHit _ => exact (execTamperHit_same ..).mono
  | sramZeroingDone => exact (execSramZeroingDone_same ..).mono
  | loopStateChange _ _ => exact (execLoopStateChange_same ..).mono
  | logPersistRequest => exact (execLogPersistRequest_same ..).mono
  | clearLog _ => exact (execClearLog_same ..).mono
  | roundStart => exact (execRoundStart_same ..).mono
  | hkEnable _ _ => exact (execHkEnable_same ..).mono
  | hkPeriodWrite _ _ => exact (execHkPeriodWrite_same ..).mono
  | conversionComplete _ _ => exact (execConversionComplete_same ..).mono
  | foregroundGo _ _ => exact (execForegroundGo_same ..).mono
  | calibrationStep => exact (execCalibrationStep_same ..).mono
  | rateOfRise => exact (execRateOfRise_same ..).mono
  | dramInit _ => exact (execDramInit_same ..).mono
  | trainingDone _ _ _ _ => exact (execTrainingDone_same ..).mono
  | nrtAccess _ _ _ _ _ _ => exact (execNrtAccess_same ..).mono
  | rtRequest _ _ _ => exact (execRtRequest_same ..).mono
  | panicStart => exact (execPanicStart_same ..).mono
  | panicEnd => exact (execPanicEnd_same ..).mono
  | refresh => exact (execRefresh_same ..).mono
  | zqCalibration => exact (execZqCalibration_same ..).mono
  | scrubStep _ _ => exact (execScrubStep_same ..).mono
  | unfreeze _ _ => exact (execUnfreeze_same ..).mono
  | dramResume => exact (execDramResume_same ..).mono
  | apertureWrite _ _ => exact (execApertureWrite_same ..).mono
  | cardInserted _ => exact (execCardInserted_same ..).mono
  | cardRemoved _ => exact (execCardRemoved_same ..).mono
  | act _ => exact (execAct_same ..).mono
  | atrComplete _ _ => exact (execAtrComplete_same ..).mono
  | noAtrTimeout => exact (execNoAtrTimeout_same ..).mono
  | ppsExchange _ => exact (execPpsExchange_same ..).mono
  | idcGo _ => exact (execIdcGo_same ..).mono
  | procedureByte _ _ _ => exact (execProcedureByte_same ..).mono
  | t1BlockReceived _ _ => exact (execT1BlockReceived_same ..).mono
  | waitingTimeExpiry => exact (execWaitingTimeExpiry_same ..).mono
  | deact _ => exact (execDeact_same ..).mono
  | warm _ => exact (execWarm_same ..).mono
  | sdInit _ => exact (execSdInit_same ..).mono
  | sdInitDone _ => exact (execSdInitDone_same ..).mono
  | tune _ _ _ => exact (execTune_same ..).mono
  | sdRead _ => exact (execSdRead_same ..).mono
  | sdWrite _ => exact (execSdWrite_same ..).mono
  | sdCmd _ _ _ => exact (execSdCmd_same ..).mono
  | sdBlock _ _ => exact (execSdBlock_same ..).mono
  | sdTimeout _ => exact (execSdTimeout_same ..).mono
  | sdStop _ => exact (execSdStop_same ..).mono
  | pwroff _ => exact (execPwroff_same ..).mono
  | setpwd _ _ => exact (execSetpwd_same ..).mono
  | clrpwd _ _ => exact (execClrpwd_same ..).mono
  | lockCard _ _ => exact (execLockCard_same ..).mono
  | unlock _ _ _ => exact (execUnlock_same ..).mono
  | forceErase _ _ _ => exact (execForceErase_same ..).mono
  | pwrReqOff _ _ => exact (execPwrReqOff_same ..).mono
  | pwrReqOn _ _ => exact (execPwrReqOn_same ..).mono
  | pwrReqRet _ _ => exact (execPwrReqRet_same ..).mono
  | requestTaken => exact (execRequestTaken_same ..).mono
  | railGood => exact (execRailGood_same ..).mono
  | railGoodTimeout => exact (execRailGoodTimeout_same ..).mono
  | switchOnDone => exact (execSwitchOnDone_same ..).mono
  | drainDone => exact (execDrainDone_same ..).mono
  | retEntryDone => exact (execRetEntryDone_same ..).mono
  | porAssert => exact (execPorAssert_same ..).mono
  | porRelease => exact (execPorRelease_same ..).mono
  | vscapLow => exact (execVscapLow_same ..).mono
  | slowClockLoss => exact (execSlowClockLoss_same ..).mono
  | slowClockReturn => exact (execSlowClockReturn_same ..).mono
  | vddCoreGood => exact (execVddCoreGood_same ..).mono
  | systemResetHoldEnd => exact (execSystemResetHoldEnd_same ..).mono
  | bootEntry => exact (execBootEntry_same ..).mono
  | rstOutRelease => exact (execRstOutRelease_same ..).mono
  | brownout => exact (execBrownout_same ..).mono
  | softReset _ => exact (execSoftReset_same ..).mono
  | niquevorReset => exact (execNiquevorReset_same ..).mono
  | watchdogEnable _ => exact (execWatchdogEnable_same ..).mono
  | watchdogKick _ => exact (execWatchdogKick_same ..).mono
  | watchdogExpiry => exact (execWatchdogExpiry_same ..).mono
  | resetNLow => exact (execResetNLow_same ..).mono
  | resetNHigh => exact (execResetNHigh_same ..).mono
  | resetNStuck => exact (execResetNStuck_same ..).mono
  | resetNRearm => exact (execResetNRearm_same ..).mono
  | bootSourceAttempt _ _ => exact (execBootSourceAttempt_same ..).mono
  | bootImageAccepted => exact (execBootImageAccepted_same ..).mono
  | bootFail => exact (execBootFail_same ..).mono
  | bootImageReceived => exact (execBootImageReceived_same ..).mono
  | niquevorBootTimeout => exact (execNiquevorBootTimeout_same ..).mono
  | remapWrite _ _ => exact (execRemapWrite_same ..).mono
  | prbsCheckerLock _ => exact (execPrbsCheckerLock_same ..).mono
  | atrGapTimeout => exact (execAtrGapTimeout_same ..).mono
  | nextClassActivation => exact (execNextClassActivation_same ..).mono
  | realTimeClockAlarm => exact (execRealTimeClockAlarm_same ..).mono

end Sys2Proof.Machine
end

