-- ==== Sys2Proof/Tests/Slice0.lean ====
section
/-! SUPPORT. Tests: a state and operands for every hypothesis of a statement, ill-formed commands refused, and single steps whose
results the spec's worked examples give. -/

open Sys2Proof Sys2Proof.Machine

namespace Sys2Proof.Tests

set_option linter.unusedVariables false
set_option Elab.async false

/-- The bench: every domain on, every reset over. -/
def bench : State :=
  { State.reset with
    regs := tput (tput (tput (tput State.reset.regs R.PWR_STATE0 0x55555555#32) R.PWR_STATE1 0x5555#32) R.RST_STAT 0x48000000#32)
      R.TMP_STAT 0x20#32
    rst := { phase := .running } }

def idle1 : State := bench.withPending [.refclkLost]

def tick : State := bench.withNow 1

/-- The frames of a field port: a read, a segmented read and its next segment, an abort of object 0x1000.1. -/
def plainFrame (kind : Nat) (p : List Byte) : List Byte := nqPlain kind false 0 0 p

/-- The frame those bytes spell. -/
def plainRead (kind : Nat) (p : List Byte) : NqFrame :=
  { kind := kind, prot := false, last := false, session := 0, seq := 0, header := (plainFrame kind p).take 10, payload := p, tag := 0 }

/-- The row of an object. -/
def rowOf (index sub : Nat) : ObjRow :=
  (objRows.find? (fun r => r.has index && r.sub ≤ sub && sub < r.sub + r.subs)).getD ⟨0, 0, 0, 0, 0, .ro, 0, [], false⟩

def obj1000 : List Byte := [0x10, 0x00, 1, 0]

def xfer1000 : Transfer := { port := 24, session := 0, index := 0x1000, sub := 1, data := [7, 8], total := 2 }

/-- The bench with a read transfer of object 0x1000.1 under way. -/
def benchXfer : State :=
  bench.withNq { bench.nq with
    xfers := [xfer1000] }

/-- An open session of a Warden on the field port. -/
def sess : Session := { id := 5, role := 2, port := 24, key := 77, seqIn := 3, seqOut := 9, isOpen := true, nd := 12345 }

/-- The bench with it. -/
def benchSess : State := (bench.withNq { bench.nq with sessions := [sess] }).withHk { bench.hk with vigilBand := some 1 }

/-- The same session before its Session answer. -/
def sessNew : Session := { sess with isOpen := false, seqIn := 0, seqOut := 0 }

def benchNew : State := bench.withNq { bench.nq with sessions := [sessNew] }

/-- The protected frame of a session: its bytes, and the frame they spell. -/
def protFrame (x : Session) (kind seq : Nat) (p : List Byte) : List Byte :=
  let h := nqHeader kind true false x.id seq p.length
  let c := gcmEncrypt x.key.toNat (nqIv x.id 0 seq) h p
  h ++ c.1 ++ beBytes 16 c.2

def protRead (x : Session) (kind seq : Nat) (p : List Byte) : NqFrame :=
  let h := nqHeader kind true false x.id seq p.length
  let c := gcmEncrypt x.key.toNat (nqIv x.id 0 seq) h p
  { kind := kind, prot := true, last := false, session := x.id, seq := seq, header := h, payload := c.1, tag := c.2 }

/-- A WRITE of 0x1020.1. -/
def write1020 : List Byte := [0x10, 0x20, 1, 0, 0, 7]

/-- The bench with keys of two roles and one 256-bit output of the entropy source. -/
def benchKeys : State :=
  (bench.withNvs { bench.nvs with keys := [none, some 1, some 2] }).withTrn { bench.trn with fifo := [BitVec.ofNat 256 (2 ^ 200)] }

/-- The nonce of a Session open there, and the state that drew it. -/
def keysDrawn : Nat × State := (benchKeys.taken.nqNonce).getD (0, bench)

def openFrame : List Byte := 2 :: beBytes 16 99

/-- A transfer begun at 5 ns. -/
def xferOld : Transfer := { port := 24, session := 0, index := 0x1000, sub := 1, at_ := 5 }

/-- The bench with a transfer begun at 5 ns, a lockout of port 3 and a queued frame. -/
def benchWait : State :=
  benchSess.withNq { benchSess.nq with
    xfers := [xferOld], lockUntil := [(3, 77777)],
    out := [⟨24, 5, 3, 1, [1]⟩] }

/-- The bench with bulletin 2 on and due at 900 ns, and with one in the queue. -/
def benchBul : State := benchSess.withNq { benchSess.nq with nextDue := [(2, 900)], objects := [(0x1043 * 256 + 2, 1)] }

def bul2 : BulInst := { number := 2, due := 900 }

def benchBulOut : State := bench.withNq { bench.nq with bulQueue := [bul2] }

/-- A request delegated to the firmware at 7 ns. -/
def deleg1 : Delegation := { port := 24, session := 0, index := 0x8000, sub := 1, op := 0, at_ := 7, entry := 0 }

def benchDeleg : State := benchSess.withNq { benchSess.nq with deleg := [deleg1] }

/-- The Eve image's last segment is awaited. -/
def eveXfer : Transfer :=
  { port := 24, session := 5, index := 0x3011, sub := 1, isWrite := true, total := 49152, offset := 49152 - 4 }

def benchEve : State := benchSess.withNq { benchSess.nq with xfers := [eveXfer] }

/-- The Eve image's copy is under way. -/
def benchEveCopy : State := (benchSess.withNq { benchSess.nq with eveImage := some (24, 5) }).setFld R.MTX_STAT_EVE_BUSY 1

def benchFrozen : State := benchSess.setFld R.DMC_STAT_FROZEN 1

/-- The block and the register at an address that has one. -/
def blockOf (a : Nat) : BlockDesc := (blockAt a).getD ⟨"", 0, 0, 0, 0, false, []⟩

def regOf (a : Nat) : RegDesc := (((blockOf a).regAt (a - (blockOf a).base))).getD ⟨"", 0, 1, 0, []⟩

/-- The bench without PD12. -/
def benchNo12 : State := bench.setDom 12 0

/-- The first write of a shadowed pair is in. -/
def pair1 : ShadowPair := ⟨R.HLD_ALM_CTRL, 1, 1, 0⟩

def benchPair : State := bench.withPairs [pair1]

/-- A field of access RWS of a register. -/
def shadowField (a : Nat) : FieldDesc := (((regOf a).fields.filter (fun x => x.acc == .rws))[0]?).getD ⟨"", 0, 0, .ro, 0⟩

/-- The bench at 5.123456789 s of Calends, with a time to set. -/
def benchCal : State :=
  (((bench.withCal { bench.cal with t := 5 * calSecond + 123456789 * calUnit + 7 }).setRegN R.CAL_SET_SEC_LO 1000).setRegN
    R.CAL_SET_NS 55).withNow 10000

/-- Source 4 enabled, seen good from 0 to 700 s; and the same qualified. -/
def benchSrc : State :=
  (benchCal.setFld (R.CAL_SRC_CFG_EN 4) 1).withCal { benchCal.cal with
    sources := [(4, { last := some 5, lastAt := 700000000000, goodFrom := some 0, qualifiedAt := some 10000 })] }

def benchQual : State := (benchSrc.setFld (R.CAL_SRC_STAT_QUALIFIED 4) 1).setFld R.CAL_STAT_SEL 4

/-- Capture input 3 of a source that is enabled, empty, holding a capture, and full; and lane 5 locked. -/
def benchTdc : State := benchCal.setFld (R.CAL_SRC_CFG_EN 3) 1

def capture1 : TdcCapture := ⟨5, 123456789, 7⟩

def benchTdc1 : State := benchTdc.withCal { benchTdc.cal with tdcQueue := [(3, [capture1])] }

def benchLane5 : State := (benchCal.setFld (R.LNE_CTRL_EN 5) 1).setFld (R.LNE_STAT_BLOCK_LOCK 5) 1

/-- The loop with a qualified source: in each of its states, and with an acquisition step to take. -/
def benchDpll (d : Nat) : State := benchQual.setFld R.CAL_STAT_DPLL d

def benchAcq : State := (benchCal.setFld R.CAL_STAT_DPLL 1).withCal { benchCal.cal with acqStep := some (-5500) }

def bytes100 : List Byte := (List.range 100).map (fun k => BitVec.ofNat 8 (k + 1))

/-- A received PTP frame waits; its ring at 0x10002000 has room, and has none. -/
def benchPtpRx : State :=
  ((((benchCal.setFld R.PTP_CTRL_EN 1).setFld R.PTP_RXBASE_BASE (0x10002000 / 8192)).setRegN R.PTP_RXHEAD 5).withCal
    { benchCal.cal with ptpRxWait := [(7, 77, 0x1234, bytes100)] })

def benchPtpFull : State := benchPtpRx.setRegN R.PTP_RXTAIL 6

/-- A descriptor to send on the field port. -/
def benchPtpTx : State :=
  ((((benchCal.setFld R.PTP_CTRL_EN 1).setFld R.PTP_TXBASE_BASE (0x10002000 / 8192)).setRegN R.PTP_TXHEAD 5).setSramBytes
    0x10002000 (leBytes 4 (24 * 2 ^ 20 + 60) ++ List.replicate 12 0 ++ bytes100)).setFld (R.PTP_PCFG_EN 24) 1

def benchPtpDown : State := benchPtpTx.setFld (R.PTP_PCFG_EN 24) 0

/-- A steering copy, and holdover driven by it from 10000 ns. -/
def steer1 : SteerCopy := ⟨[0x50000000#32, 0, 0, 0, 0], List.replicate 15 0x3f800000#32, 0, 0, 0, 0, true⟩

def benchHold : State :=
  (((benchCal.setFld R.CAL_STAT_DPLL 3).setFld R.HLD_STAT_STATE 2).setRegN R.HLD_KDAC 0x100000).withHld
    { benchCal.hld with steer := some steer1, entryAt := 10000 }

/-- The code the model gives there. -/
def holdCode : Nat :=
  let u := benchHold.advanceTo (benchHold.hld.modelAt + 1000000)
  (dacCode u.kdac (u.fld (R.HLD_DAC_CFG_RANGE u.steerDac)) ((fSplit (u.modelY steer1)).1 * (2 ^ (fSplit (u.modelY steer1)).2 : Nat))
    (2 ^ 149)).getD 0

def almanac1 : Almanac := freshAlmanac 100 3 77

/-- The loop acquires and an Almanac stands in the retention copy; and with none anywhere. -/
def benchAlm : State := (benchCal.setFld R.CAL_STAT_DPLL 1).withHld { benchCal.hld with retention := some almanac1 }

/-- DAC 1 holds during a change of its range. -/
def hold1 : DacHold := { range := 1, code := 5 }

def benchDac : State := benchCal.withHld { benchCal.hld with hold := [(1, hold1)] }

/-- A lane that is locked and sends, with four containers. -/
def lanesOn (s : State) (n : Nat) : State :=
  (((s.setFld (R.LNE_CTRL_EN n) 1).setFld (R.LNE_STAT_BLOCK_LOCK n) 1)).modLane n (fun (l : LaneSt) =>
    { l with tx := .sending, conts := [(0, ⟨0x8200#32, 0, 0⟩), (2, ⟨0x8200#32, 0, 0⟩), (66, ⟨0x8200#32, 0, 0⟩), (64, ⟨0x8200#32, 0, 0⟩)] })

/-- A Day entry. -/
def setRoute (s : State) (g : Nat) (l : List Nat) : State :=
  s.withMtx { s.mtx with
    day := l.zipIdx.foldl (fun (m : List (Nat × Word)) p => tset 0 m (8 * g + p.2) (BitVec.ofNat 32 p.1)) s.mtx.day }

/-- The matrix on, with and without a route from container 64 to container 130. -/
def benchMtx : State := ((lanesOn (lanesOn bench 1) 2).setFld R.MTX_CTRL_EN 1).withNow 5000

def benchRoute : State := setRoute benchMtx 130 [0x80000000, 0, (0x1FF <<< 22) + (1200 <<< 11) + 64]

/-- A sample of container 64 has come for time 960. -/
def sample960 : RxSample := ⟨960, 0, 0, false, 0⟩

def benchSample : State :=
  benchRoute.withMtx { benchRoute.mtx with recv := [(64, ⟨some (960 + benchRoute.period 0 64), 5000, false⟩)], skew := [(520, [sample960])] }

/-- No sample of it is in yet. -/
def benchAhead : State := benchRoute.withMtx { benchRoute.mtx with recv := [(64, ⟨some 0, 5000, false⟩)] }

/-- A delay line with an entry due at 960, at a place. -/
def line960 (place : Nat) : LineSt := ⟨130, some 960, [⟨960, ⟨900, 5, 6, false, []⟩, place⟩]⟩

def benchLine (place : Nat) : State := benchRoute.withMtx { benchRoute.mtx with lines := [(3, line960 place)] }

/-- A changed Eve table, and the commit states. -/
def benchEdit : State :=
  let s := ((benchRoute.withCal { benchRoute.cal with t := 77 * calSecond + 250212000 * calUnit }).setFld R.MTX_FOFS_FOFS (2 ^ 24 - 100)).setFld
    R.MTX_ADV_ADV 200
  s.withMtx { s.mtx with
    eve := tset 0 (tset 0 s.mtx.day 1041 0) 1042 (BitVec.ofNat 32 ((0x1FF <<< 22) + (1100 <<< 11) + 64)), changed := [130] }

def benchCommit (st : Nat) : State :=
  (benchEdit.setFld R.MTX_COMMIT_STAT_STATE st).withMtx { benchEdit.mtx with boundary := 78000000000 }

/-- An Eve route that names no source. -/
def benchBad : State :=
  (benchCommit 1).withMtx { (benchCommit 1).mtx with eve := tset 0 benchEdit.mtx.eve 1042 (BitVec.ofNat 32 ((0x1FF <<< 22) + (1500 <<< 11) + 64)) }

/-- The boundary is near. -/
def benchLate : State := (benchCommit 1).withMtx { (benchCommit 1).mtx with boundary := 77250000000 }

/-- A lane that is enabled, locked and sends, in a mode; lane 2 in Ethernet and in Varlas mode. -/
def laneIn (s : State) (n mode : Nat) : State :=
  ((((s.setFld (R.LNE_CTRL_MODE n) mode).setFld (R.LNE_CTRL_EN n) 1).setFld (R.LNE_STAT_BLOCK_LOCK n) 1).setRegN (R.LNE_EVTEN n)
    0x3f).modLane n (fun (l : LaneSt) => { l with tx := .sending })

def benchEth : State := (laneIn bench 2 1).withNow 700

def benchVar : State := (laneIn bench 2 3).withNow 700

/-- Lane 2 with one container, 5. -/
def withCont (s : State) (x : ContCfg) : State := s.modLane 2 (fun (l : LaneSt) => { l with conts := [(5, x)] })

def cont5 : ContCfg := ⟨0x0380, 0x052A, 6⟩

def cont5on : ContCfg := ⟨0x8380, 0x052A, 6⟩

def benchPhasing : State := benchVar.modLane 2 (fun (l : LaneSt) => { l with tx := .phasing, phaseAt := 700 })

def benchNoLock : State := benchVar.setFld (R.LNE_STAT_BLOCK_LOCK 2) 0

/-- Superframe lock held, with no bad marker and with three; and searched for, with and without a third marker. -/
def benchSf : State := ((withCont benchVar cont5on).setFld (R.LNE_STAT_SF_LOCK 2) 1).setFld (R.PTP_PSTAT_CAL_DONE 2) 1

def benchSf3 : State := benchSf.modLane 2 (fun (l : LaneSt) => { l with badRun := 3 })

def benchSearch (seen : Nat) : State := benchVar.modLane 2 (fun (l : LaneSt) => { l with cands := [⟨266, 7, seen⟩] })

/-- Equalisation under way. -/
def benchEq : State :=
  (benchVar.modLane 2 (fun (l : LaneSt) => { l with eqTarget := some 0x1234, eqAt := 900 })).setRegN (R.LNE_EQ 2) 0x0FFF

def goodFrame : Superframe := ⟨0, false, true, true, true, 0, 0, []⟩

/-- Thirteen samples wait for container 5 of lane 2 in Ethernet mode; 1536 for it in Varlas mode, at the place of its next block. -/
def benchRoe : State :=
  (benchEth.modLane 2 (fun (l : LaneSt) => { l with conts := [(69, ⟨0x8300, 0x0007, 12⟩)] })).modTx 133 (fun (c : TxCont) =>
    { c with out := (List.range 13).map (fun j => ⟨960 + 4 * j, j * 1000, -5, false, []⟩) })

def benchBlock (count bittern pos : Nat) : State :=
  (benchVar.modLane 2 (fun (l : LaneSt) => { l with conts := [(69, cont5on)] })).modTx 133 (fun (c : TxCont) =>
    { c with epoch := 6144, bittern := bittern, pos := pos, out := (List.range count).map (fun j => ⟨6144 + 4 * j, j, -5, false, []⟩) })

/-- The same container without gain, at its first block. -/
def benchAgn (fmt : Nat) : State :=
  (benchVar.modLane 2 (fun (l : LaneSt) => { l with conts := [(69, { cont5on with fmt := BitVec.ofNat 32 fmt })] })).modTx 133 (fun (c : TxCont) =>
    { c with epoch := 6144, out := (List.range 64).map (fun j => ⟨6144 + j, j, -5, false, []⟩) })

/-- A converter program of input and output rate, taps and phases. -/
def program (ik ok taps : Nat) : Word := BitVec.ofNat 32 (ik * 2 ^ 26 + ok * 2 ^ 23 + (taps / 8) * 2 ^ 8)

/-- Converter 3, selected: not named by the Day table, named and running, named and stalled, with a commit pending. -/
def conv3 : ConvSt :=
  { stg := program 3 2 16, act := program 3 2 8, stgCoef := [(0, 5)], en := true, hist := [⟨4, 1, 2, false, 0⟩] }

def benchConv (c : ConvSt) : State := ((bench.setFld R.SRC_CSEL_SEL 3).withNow 5000).withConvs [(3, c)]

def convDay : List (Nat × Word) := [(8 * 130, 0x80000000), (8 * 130 + 2, BitVec.ofNat 32 ((3 <<< 22) + (1200 <<< 11) + 64))]

def benchConvDay (next : Nat) (c : ConvSt) : State :=
  let s := (lanesOn (lanesOn (benchConv c) 1) 2).setFld R.MTX_CTRL_EN 1
  s.withMtx { s.mtx with
    day := convDay, recv := [(64, ⟨some next, 0, false⟩)], conts := [(130, { next := some 960 })],
    skew := [(520, [⟨960, 100000, -5000, false, 0⟩])] }

def conv3wait : ConvSt := { conv3 with pend := 1, stalledAt := some 5000 }

/-- A Saltern commit whose Eve table names it is under way. -/
def benchConvHeld : State :=
  let s := (benchConv conv3).setFld R.MTX_COMMIT_STAT_STATE 2
  s.withMtx { s.mtx with eve := convDay, changed := [130] }

/-- A test run of three samples through equal rates. -/
def benchConvTest : State :=
  (benchConv { conv3 with act := program 2 2 8, actCoef := [(0, 0x10000), (1, 0x8000)] }).setFld R.SRC_TEST_CTRL_COUNT 3

/-- A descriptor ring of slot k at 0x10000100. -/
def ringAt (s : State) (k w0 w1 : Nat) : State :=
  ((s.setFld (R.HVS_SLOT1_BASE k) 0x1000010).setFld (R.HVS_SLOT2_SIZE k) 4).setSramBytes 0x10000100 (leBytes 4 w0 ++ leBytes 4 w1)

/-- Receive slot 1 of lane 2, idle and within a message; its transmit slot with a message to send, a wrong one and none. -/
def benchTap : State :=
  ringAt (((lanesOn bench 2).setFld R.HVS_CTRL_EN 1).setFld (R.HVS_SLOT0_EN (hvsSlot 2 1 0)) 1) (hvsSlot 2 1 0) 0x10000200 0x80000040

def benchTapMsg : State := benchTap.modSlot (hvsSlot 2 1 0) (fun (m : HvsMsg) => { m with active := true })

def benchHvs (w1 : Nat) : State :=
  ringAt ((((lanesOn bench 2).setFld R.HVS_CTRL_EN 1).setRegN (R.HVS_SLOT0 (hvsSlot 2 1 1)) 0xC0070100).setFld (R.LNE_CTRL_MODE 2) 3)
    (hvsSlot 2 1 1) 0x10000200 w1

def benchSlot9 : State := bench.setFld (R.LNE_CTRL_MODE 0) 3

/-- Lane 2 receives frames and the classifier searches. -/
def benchCls : State := ((bench.setFld (R.LNE_CTRL_EN 2) 1).setFld R.CLS_CTRL_EN 1).withNow 5000

def frame60 : List Byte :=
  List.replicate 6 0xAA ++ List.replicate 6 0x55 ++ [0x08, 0x00] ++ (List.range 46).map (fun k => BitVec.ofNat 8 k)

def key60 : KeyParts := keyParts 2 false frame60 0

/-- An entry that matches every key, with both range comparators, and one of lower priority. -/
def entryAll (attr : Word) : ClsEntry := { value := 0, mask := 0, attr := attr, action := 0x50200000 }

def slotAll (attr : Word) : ClsSlot := { arr := entryAll attr, stored := entryAll attr, valid := true }

/-- An entry that compares the first bit of the key. -/
def slotBit : ClsSlot :=
  let e : ClsEntry := { value := key60.bits &&& 1, mask := 1, attr := 0x00050000, action := 0x50200000 }
  { arr := e, stored := e, valid := true }

def withEntries (l : List (Nat × ClsSlot)) : State :=
  ((benchCls.setFld (R.CLS_RC_RANGE_HI 0) 0xFFFF).withCls { benchCls.cls with entries := l }).setFld (R.CLS_RG_EN 0) 1

def benchWin : State := withEntries [(5, slotAll 0x00054040), (9, slotAll 0)]

def benchFirst : State := withEntries [(5, slotBit)]

/-- No entry matches; the miss action sends to a queue. -/
def benchMiss : State := benchCls.setRegN (R.CLS_PORT_CFG 2) 0x50300000

/-- The same, the miss action being the way of radio packets; and a radio packet. -/
def benchMissRoe : State := benchCls.setRegN (R.CLS_PORT_CFG 2) 0x10000000

def frameRoe : List Byte := List.replicate 6 0xAA ++ List.replicate 6 0x55 ++ [0xFC, 0x3D] ++ (List.range 46).map (fun k => BitVec.ofNat 8 k)

/-- A management frame: VLAN 5, UDP to port 0x1234. -/
def mgmtUdp : List Byte :=
  List.replicate 12 0 ++ [0x81, 0x00, 0x00, 0x05, 0x08, 0x00, 0x45, 0, 0, 40, 0, 0, 0, 0, 64, 17] ++ List.replicate 10 0 ++
    [0x12, 0x34, 0x12, 0x34] ++ List.replicate 20 0

def benchMgmt : State := benchCls.withNq { benchCls.nq with objects := [(0x102001, 5), (0x102002, 0x1234), (0x102003, 4)] }

/-- A frame of the field port, keys that wait, and an entry whose copies differ. -/
def mgmt60 : List Byte := List.replicate 12 0 ++ [0x88, 0xB5] ++ List.replicate 46 0

def benchFull : State := benchCls.withCls { benchCls.cls with freeAt := 6000, keys := [(2, 8)] }

def benchWrong : State := withEntries [(5, { slotAll 0 with stored := { entryAll 0 with attr := 0x10000 } })]

/-- A frame waits for firmware queue 1, which has room, and has none. -/
def rx60 : RxFrame := { bytes := frame60, sec := 0x123456789, stamp := 0x4444, dest := 5, arg := 1, entry := some 5 }

def benchFq : State :=
  ((benchCls.setRegN (R.CLS_FQ_CFG 1) 0x80000010).setRegN (R.CLS_FQ_BASE 1) 0x10000800).withCls
    { benchCls.cls with fqWait := [(1, 7, rx60)] }

/-- An entry command waits; entry 5 is suspect, with and without an uncorrectable error; Rake runs. -/
def benchCmd : State := benchWin.withCls { benchWin.cls with command := some (2, 5) }

def benchSuspect (un : Bool) : State :=
  ((withEntries [(5, { slotAll 0 with uncor := un })]).setFld (R.CLS_SUSPT_VALID 0) 1).setFld (R.CLS_SUSPT_ENTRY 0) 5

def benchRake : State := (benchWrong.setFld R.CLS_CTRL_RAKE_EN 1).withCls { benchWrong.cls with rakeDue := 6000 }

def benchRakeBusy : State := benchRake.withCls { benchRake.cls with command := some (1, 5) }

/-- Engine 3 with a program of two states, of which state 1 reports. -/
def autBank (accept : Nat) : List (Nat × Word) :=
  [(0, 0), (1, BitVec.ofNat 32 (accept * 2 ^ 31 + 0x00800001)), (0x4000, 0x00000001), (0x4020, 0x00010000)]

def engine3 (accept : Nat) (w : AutWord) : AutSt :=
  { bank0 := autBank accept, map0 := [(0, 0)], inq := [w], msgs := [{ no := 4, stamp := 77, fin := true, fresh := true }] }

def withEngine (e : AutSt) : State := (benchCls.withAut [(3, e)]).setFld (R.AUT_ECFG_EN 3) 1

def word3 : AutWord := ⟨[1, 2, 3], 4, true, false⟩

def word1 : AutWord := ⟨[1], 4, true, false⟩

def report4 : AutReport := ⟨1, 2, 3, 4, 5⟩

def benchStalled : State := withEngine { engine3 0 word1 with stalledAt := some 100, shift := [1, 2] }

/-- A commit of engine 3 is pending: to be validated, in error, running, stalled, and validated. -/
def benchPend (start : Nat) (stalled : Option Nat) (validated : Bool) : State :=
  (withEngine { engine3 0 word1 with pend := 1, bank1 := autBank 1, stalledAt := stalled, validated := validated }).setRegN
    (R.AUT_PROG_STG 3) start

/-- Lane 2 with every pipeline up; protected transmission of association 265, its number free and used up; the same in a Varlas mode. -/
def benchPipes : State := benchEth.setFld R.CIP_STAT_PIPE_UP 0xF

def frame64 : List Byte := (List.range 64).map (fun k => BitVec.ofNat 8 k)

def page5 : KeyPage := { claimed := true, owner := 4, bits := 0x123456789, loaded := true }

def benchTx : State :=
  ((((benchPipes.setRegN (R.CIP_LANE_CFG 2) 0x41000001).setRegN (R.CIP_SA0 265) 0xA4050000).setSaPn 265 7).setRegN (R.CIP_SA_THRESH 265)
    0xfffffff8).withCip { benchPipes.cip with pages := [(5, page5)] }

def benchTxEnd : State := benchTx.setFld (R.CIP_SA0_EXH 265) 1

def benchVlTx : State :=
  (((((benchVar.setFld R.CIP_STAT_PIPE_UP 0xF).setRegN (R.CIP_LANE_CFG 2) 0x40000000).setRegN (R.CIP_SA0 264) 0x82050000).withCip
    { benchVar.cip with pages := [(5, { page5 with bits := 1 + 2 ^ 330 })] }).modLane 2 (fun (l : LaneSt) =>
      { l with conts := [(69, cont5on)] })).setRegN (R.CIP_LANE_VLSW 2) 0xffffffff

/-- A frame with a SecTAG of association number 1 and packet number 7, received for association 17. -/
def lineFrame : List Byte :=
  List.replicate 12 0 ++ [0x88, 0xE5, 0x0D, 0, 0, 0, 0, 7] ++ List.replicate 64 0

def rxOf (l : List Byte) : RxFrame := { bytes := l, dest := 3, arg := 17 }

def benchRx (sa : Nat) (l : List Byte) : State :=
  (((benchPipes.setRegN (R.CIP_LANE_CFG 2) 0x81000001).setRegN (R.CIP_SA0 17) sa).withCip
    { benchPipes.cip with pages := [(5, page5)] }).modLane 2 (fun (x : LaneSt) => { x with rx := some (rxOf l) })

def secTagOf (l : List Byte) : SecTag := (secTag l 12).getD {}

/-- The entropy for reseeding pipeline 1, and none left; and its self-test. -/
def benchSeed (missed : Nat) (fifo : List (BitVec 256)) : State :=
  (benchPipes.withTrn { benchPipes.trn with fifo := fifo }).withCip { benchPipes.cip with missed := [(1, missed)], good := [(1, 1)] }

def benchSelf : State := (benchPipes.withCip { benchPipes.cip with tests := [1, 2] }).setFld R.CIP_STAT_PIPE_UP 0

/-- Page 5 claimed by its owner, loaded, and not in use; in use by association 265. -/
def benchPage : State := bench.withCip { bench.cip with pages := [(5, page5)] }

/-- Page 5 holds the scalar 1; a command runs: verification, key agreement, signature, key generation, hash; the random words for
a scalar are at hand. -/
def page1 : KeyPage := { page5 with bits := 1 }

def benchRun (op : Nat) : State :=
  ((bench.withCip { bench.cip with pages := [(5, page1)], pkaRun := some (BitVec.ofNat 32 (0x50010 + op), 4) }).withTrn
    { bench.trn with out := List.replicate 16 0 }).setFld R.TRN_STAT_DRBG_OK 1

def benchHash : State :=
  (((benchRun 8).setRegN R.PKA_HADDR 0x10000100).setRegN R.PKA_HLEN 3).setSramBytes 0x10000100 [0x61, 0x62, 0x63]

def curveOf (op : Nat) : Curve := (pkaCmd (0x50010 + op)).curve

def drawn (op : Nat) : Nat × State := ((benchRun op).randScalar (curveOf op)).getD (0, bench)

/-- A fetched word that stands for any: commands carry what it means. -/
def anyWord : Word := 0x12345678

/-- A thread at 0x10000100. -/
def thread0 : Thread :=
  { run := 1, pc := 0x10000100, warden := true, globals := [(1, 7), (2, 0xFFFFFFF8), (3, 0x10000800), (4, 0x10000A00)],
    win := [(4, 99)], evec := 0x10001000, wsp := 0x10002000, wptr := 3, depth := 2, ml := 0 }

/-- A region of the address map. -/
def region (s : State) (r base limit attr : Nat) : State :=
  ((s.setRegN (R.HZ_RGN_BASE r) base).setRegN (R.HZ_RGN_LIMIT r) limit).setRegN (R.HZ_RGN_ATTR r) attr

/-- Thread 0 runs in SRAM, uncached; thread 1 too. -/
def benchHz (th : Thread) : State :=
  (((region bench 0 0x10000000 0x101FFFC0 0x4F).withNow 5000).setSramBytes 0x10000100 (leBytes 4 anyWord.toNat)).withThreads
    [(0, th), (1, { run := 1, ml := 0 })]

/-- Whether thread t is ready to execute its next instruction. -/
def readyB (s : State) (t : Nat) (iw : Word) : Bool :=
  s.issues t && s.deliverable t == none && iw != 0 && !s.ic.dma.any (fun p => p.2.abort) && (s.fetch t).1 == .word iw.toNat false

theorem ready_of {s : State} {t : Nat} {iw : Word} (h : readyB s t iw = true) : s.ready t iw := by
  simp only [readyB, Bool.and_eq_true, beq_iff_eq, bne_iff_ne, Bool.not_eq_true'] at h
  exact ⟨h.1.1.1.1, h.1.1.1.2, h.1.1.2, h.1.2, .inl h.2⟩

theorem ready_thread0 : (benchHz thread0).ready 0 anyWord := ready_of (by decide +kernel)

/-- Thread 0 at the limits of its windows, at a high level, within an exception, and as a tenant. -/
def benchDeep : State := benchHz { thread0 with depth := 9, ml := 6 }

def benchEmpty : State := benchHz { thread0 with depth := 0 }

def benchXret : State := benchHz { thread0 with hx := true, wptr := 11, estate := 0x514, epc := 0x10000207, ml := 7 }

def benchTenant : State := (benchHz { thread0 with warden := false }).setFld (R.HZ_TCTRL_TSIG 7) 0

/-- A cache line, and thread 0 over a region that is cacheable from 0x10100000 on. -/
def line1 : CacheLine := { bytes := [(3, 0xAB), (63, 0xCD)], dirty := true }

def benchCache (th : Thread) : State :=
  (region (benchHz th) 1 0x10100000 0x101FFFC0 0x5F).withCores
    [(0, { dcache := [(0x10100080, line1), (0x101000C0, { line1 with dirty := false })], icache := [(0x10100080, line1)] })]

def threadC : Thread := { thread0 with globals := [(3, 0x10100084)] }

/-- A store waits in core 0's buffer. -/
def store1 : SbEntry := { thread := 0, addr := 0x10000800, bytes := [(2, 7), (3, 9)] }

def benchStore : State := (benchHz thread0).withCores [(0, { sb := [store1] })]

/-- The byte of it at an address. -/
def storeByte (k : Nat) : Byte := if k = 0 then 7 else 9

theorem store1_plain : store1.plain 0x10000802 [7, 9] := ⟨rfl, by decide, 2, rfl, by decide⟩

/-- A handler's window; the last window. -/
def benchInner : State := benchHz { thread0 with hx := true, wptr := 11, depth := 3, ml := 7 }

def benchNine : State := benchHz { thread0 with depth := 9 }

/-- Nothing of the thread's windows is in memory but room for them. -/
def benchShallow : State := benchHz { thread0 with depth := 0 }

/-- Thread 0 with a signal; waiting, with its signal there, and for its timer; core 1 off; thread 5 halted; core 0 with no thread
running, and dozing with one that is to wake. -/
def benchSig : State := benchHz { thread0 with sig := 0x12 }

def benchWaiting : State :=
  ((benchHz thread0).withThreads [(0, { thread0 with run := 2, wmask := 7, sig := 0x12, waitRd := 5 })]).withCores
    [(0, { dozing := true, dozeAt := 4000 })]

def benchTimer : State :=
  (benchHz thread0).withThreads [(0, { thread0 with run := 2, wmask := 0x1000000, waitRd := 5, wtim := 1000, wtimFrom := 4900 })]

def benchHalted : State := ((benchHz thread0).setRegN (R.HZ_TPC 5) 0x10000400).withThreads [(5, { thread0 with run := 3, hx := true })]

def benchDoze : State := ((benchHz thread0).withThreads [(0, { thread0 with run := 2 })]).setRegN R.HZ_CTRL 1

/-- The store of an entry: where it goes, and its bytes. -/
def storeOf (_ : SbEntry) : Nat × List Byte := (0x10000802, [7, 9])

theorem store_fetched : ((benchStore.fetched 0).core 0).sb = [store1] := by decide +kernel

/-- Two sources pend for thread 0; a source of level 7 names a thread that does not watch; every thread waits. -/
def benchEvents : State :=
  ((((benchHz thread0).raise 44).raise 20).setRegN (R.EVT_SRC 44) 0x80000600).setRegN (R.EVT_SRC 20) 0x80000300

def benchSeven : State := ((benchHz thread0).raise 44).setRegN (R.EVT_SRC 44) 0x80000705

def benchAllWait (ml : Nat) : State :=
  (benchHz thread0).withThreads
    [(0, { thread0 with run := 2, wmask := 1, waitRd := 5, waitAt := 4000, ml := ml }), (1, { run := 2, wmask := 2, waitAt := 4500, ml := 0 })]

/-- Packets wait and the buffer is partly filled, or nearly full; its mode. -/
def benchTrc (mode fill : Nat) : State :=
  ((bench.setRegN R.TRC_CTRL (1 + 2 * mode)).withTrc
    { queues := [(0, [⟨[0x10, 1, 2, 3, 4]⟩, ⟨[0x20, 5]⟩])], lostPend := [(0, 3)], buf := [(5, 7), (65535, 9)],
      fill := fill }).setRegN R.TRC_WPTR 65533

def packet0 : TracePkt := ⟨[0x10, 1, 2, 3, 4]⟩

def packet1 : TracePkt := ⟨[0x20, 5]⟩

/-- The buffer streams into DRAM, and has caught up with its reader or not. -/
def benchStream (drptr : Nat) : State :=
  (((((benchTrc 2 100).setFld R.DMC_STAT_READY 1).setRegN R.TRC_DBASE 0x80001000).setRegN R.TRC_DSIZE 12).setRegN R.TRC_DWPTR
    4032).setRegN R.TRC_DRPTR drptr

/-- A part whose debug access is locked with a key, and one whose generator runs too. -/
def benchLock : State := bench.setFld R.FUS_POLICY_DBGLOCK 1

def benchDbg : State := benchLock.setFld R.TRN_STAT_DRBG_OK 1

def benchDraw : State := benchDbg.withTrc { benchDbg.trc with tapIr := 8, extest := false }

theorem some_pair {α β : Type} (o : Option (α × β)) (d : α × β) (h : o.isSome = true) :
    o = some ((o.getD d).1, (o.getD d).2) := by
  cases o with
  | none => cases h
  | some x => rfl

theorem nonce_drawn : benchDraw.randNat 4 = some (((benchDraw.randNat 4).getD (0, bench)).1, ((benchDraw.randNat 4).getD (0, bench)).2) :=
  some_pair _ _ (by decide +kernel)

def benchNonce : State := benchDbg.withTrc { benchDbg.trc with nonce := some 5 }

/-- An attempt is under way, at level 2. -/
def benchAttempt (ok : Bool) : State := benchDbg.withTrc { benchDbg.trc with attempt := some (3, ok), level := 2 }

def benchLockout : State := benchDbg.withTrc { benchDbg.trc with lockUntil := some 700 }

def benchHalt : State :=
  (benchAttempt true).withThreads [(0, { run := 2, pc := 0x1000, ml := 0 })]

/-- Bytes in SRAM. -/
def benchSram : State := bench.setSramBytes 0x10000100 ((List.range 40).map (fun n => BitVec.ofNat 8 (n + 1)))

/-- Channel 3 runs. -/
def benchDma (d : DmaRun) : State :=
  (benchSram.withIc { benchSram.ic with dma := [(3, d), (5, { left := 9 })] }).setRegN R.DMA_CTRL 1

def copy0 : DmaRun := { src := 0x10000100, dst := 0x10000801, left := 600, irq := true }

def load0 (a : Nat) : DmaRun := { next := some a, loading := true }

/-- A descriptor. -/
def benchLoad (a : Nat) : State :=
  (benchDma (load0 a)).setSramBytes 0x10000100 (leBytes 4 1 ++ leBytes 4 2 ++ leBytes 4 0xF0000003 ++ leBytes 4 0x17)

def benchGo (n : Nat) : State := (benchDma copy0).setRegN (R.DMA_LEN 2) n

/-- The entropy source has blocks, a generator and words to give. -/
def benchTrn : State :=
  ((bench.withNow 5000000000).setRegN R.TRN_STAT 0x4C).withTrn { fifo := [1, 2, 3], drbg := { calls := 3 }, out := [7, 8] }

def benchStart : State := benchTrn.withTrn { benchTrn.trn with starting := some 4999999000 }

def benchDry : State := (benchTrn.withTrn { benchTrn.trn with out := [], fifo := [] }).setRegN R.TRN_RSINT 2

/-- The store works for its owner, and other requests wait. -/
def benchNvs (op : NvsOp) : State :=
  let s := (bench.withNow 5000000000).withHk { bench.hk with vigilBand := some 1 }
  s.withNvs { s.nvs with queue := [⟨.firmware 4, op⟩, ⟨.hld, .almanac⟩], mc := [(5, 0xFFFFFFFF)] }

/-- An operation of the store is under way; a wear rotation; fuses, as loaded; and a word of them being programmed. -/
def benchStore1 (op : NvsOp) (bad : List Nat) : State :=
  let s := benchNvs .badRange
  s.withNvs { s.nvs with queue := [⟨.hld, .almanac⟩], current := some ⟨.firmware 4, op⟩, bad := bad, images := [(40, [5, 0, 6])],
                         data := [(40960, 1)] }

def benchRot : State :=
  let s := benchNvs .badRange
  s.withNvs { s.nvs with rotation := some 40, rotAt := 4999000000, spares := 5, counts := [(40, 100000)] }

def benchFuse : State :=
  let s := (benchNvs .badRange).loadFuses
  (s.withFus { s.fus with words := [(8, 0xFF)], fresh := [8] }).setRegN R.FUS_PGMDATA 0x1FF

def benchBurn : State := benchFuse.withFus { benchFuse.fus with program := some (8, 0x10100, 4999990000) }

/-- Tamper source k, its class, its enable and its count in the filter; what is reported. -/
def benchTmp (k cls en n : Nat) (r : List TmpReport) : State :=
  let s := (bench.withNow 70000000000).withTmp { bench.tmp with seq := 65535, reports := ⟨3, 0, 0, 0⟩ :: r, hits := [(2, [5]), (1, [69999500])] }
  ((s.setRegN (R.TMP_SRC_RESP k) (en * 2 ^ 31 + cls * 2 ^ 24 + n)).setRegN (R.TMP_SRC_WIN k) 1000).withThreads
    [(0, { run := 1, ml := 0 }), (5, { run := 2, pc := 7, ml := 0 })]

/-- The same once the filter has taken the report. -/
def benchSeen (k cls en n : Nat) (r : TmpReport) : State :=
  let s := benchTmp k cls en n [r]
  s.withTmp { s.tmp with reports := s.tmp.reports.erase r }

/-- A report of source k: from DET 0x2A, of the block at an address. -/
def report (k x : Nat) : TmpReport := ⟨k, 0x2A, 0x55, x⟩

theorem hit_self {k : Nat} (s : State) (h : k ≤ 4 ∨ k = 9) : s.hitBy s k 0 0 0 := .inl ⟨h, rfl, rfl, rfl, rfl⟩

theorem hit_report {k : Nat} (s v : State) (h : 4 < k) (h9 : k ≠ 9) (r : TmpReport)
    (hr : s.tmp.reports.find? (fun x => x.source == k) = some r)
    (hv : v = s.withTmp { s.tmp with reports := s.tmp.reports.erase r } := by rfl) : s.hitBy v k r.detail r.detail2 r.unit :=
  .inr ⟨h, h9, r, hr, rfl, rfl, rfl, hv⟩

/-- A system reset zeroes the SRAM; a loop that has changed; a log to write. -/
def benchZero : State := ((bench.systemReset 7 true).setSramByte 0x10000000 4).setRegN (R.PKA_E 1) 5

def zeroReset : SysReset := benchZero.rst.sys.getD {}

def benchLoop (en : Nat) : State := (bench.setRegN R.TMP_LOOPSTAT 0x61).setFld (R.TMP_SRC_RESP_EN 5) en

def benchLog : State :=
  (bench.withNow 70000000000).withTmp { bench.tmp with unwritten := some 60000000000, log := [⟨1, 2, 0x100000, 4⟩] }

def houseSt : HkSt :=
  { slotAt := 70000000100, rorAt := 69999950000, nextCh := 31, inRound := true, roundAt := some 69999999000 }

/-- Housekeeping is enabled, within a round or between rounds; with more of its own state. -/
def benchHk (f : HkSt → HkSt) : State :=
  ((bench.withNow 70000000000).withHk (f houseSt)).setFld R.HK_CTRL_EN 1

/-- The dies are hot. -/
def benchHot : State := (List.range 6).foldl (fun s n => s.setRegN (R.HK_CH n) ((110 * 256 - n) * 65536 + 100)) (benchHk id)

def hotJunction : Nat × Int := (hottest benchHot.slotEnd.dieSamples).getD (0, 0)

/-- DRAM under a thermal band, ready or not; with a delay line, frozen, resuming, and between the two writes of an unfreeze. -/
def benchDram : State :=
  (bench.withNow 70000000000).withDmc { bench.dmc with band := some 1, scrubAt := 128, zqAt := 69999000000, mem := [(5, 1), (64, 7), (130, 9)] }

def benchReady : State := benchDram.setFld R.DMC_STAT_READY 1

def sampleAt (due place : Nat) : LineEnt := { due := due, place := place, smp := { i := 5, q := -5 } }

def line7 : LineSt := { cont := 3, ents := [sampleAt 100 1, sampleAt 200 2] }

def benchDelay (s : State) : State := (s.setFld R.MTX_DLY_CTRL_EN 1).withMtx { s.mtx with lines := [(7, line7)] }

def benchIce (u : Option (Rid × Nat)) : State :=
  (benchReady.setFld R.DMC_STAT_FROZEN 1).withDmc { benchReady.dmc with unf := u }

/-- A training is under way, or a restore. -/
def benchTrain (r : Bool) : State := (benchDram.withDmc { benchDram.dmc with restore := r }).setFld R.DMC_STAT_TRAINING 1

/-- An identity card is there; the state of its interface and its protocol. -/
def cardSt : IdcSt :=
  { ven := true, vsel := 1, rst := true, clock := true, tx := [(0, 0xA0), (1, 0xB0), (2, 1), (3, 2), (4, 0)], rx := [(0, 9)],
    classNow := 0, stepAt := 70000000500, ppsReq := [0xFF#8, 0x11#8, 0x95#8, 0x7B#8] }

def benchIdc (st proto len : Nat) : State :=
  (((((bench.withNow 70000000000).setFld R.IDC_STAT_PRESENT 1).withIdc cardSt).setFld R.IDC_STAT_STATE st).setFld
    R.IDC_STAT_PROTO proto).setFld R.IDC_XFER_LEN len

def benchRetry (ce : Nat) : State :=
  ((benchIdc 0 0 0).withIdc { cardSt with retryAt := some 70000000900 }).setFld R.IDC_CFG_CLASSEN ce

/-- An SD card is there; the state of its interface and its operation. -/
def benchSd (st op : Nat) (a : Nat) : State :=
  let s := ((benchReady.setFld R.SDH_STAT_PRESENT 1).setFld R.SDH_STAT_STATE st).setFld R.SDH_STAT_MODE 3
  (((s.withSdh { pwren := true, op := op, addr := a, left := 3, capacity := 100 }).setFld R.SDH_ADDR_HI_ADDR 0x1000).setFld
    R.SDH_BLKCNT_CNT 1)

def reply0 : SdReply := ⟨0, 0x11112222333344445555666677778888⟩

def init0 (r : BitVec 4) : SdInitResult := ⟨r, false, 3, true, true, 11, 5, 6, 7, 100⟩

/-- A request waits for power control; the domains that are off. -/
def benchPwr (d action : Nat) (off : List Nat) : State :=
  off.foldl (fun s x => s.setDom x 0) ((bench.withNow 70000000000).withPwr { queue := [⟨d, action⟩, ⟨4, 1⟩], vigil := [⟨1, 1⟩] })

/-- A switch is under way. -/
def switch0 (d action : Nat) (rails : Bool) : PwrSwitch := ⟨⟨d, action⟩, false, 69999999000, rails⟩

def benchSwitch (d action : Nat) (rails : Bool) : State :=
  (bench.withNow 70000000000).withPwr { queue := [⟨5, 1⟩], vigil := [⟨6, 1⟩], active := some (switch0 d action rails) }

theorem next_first {s : State} (r : PwrReq) (queue : List PwrReq) (h : ∀ x ∈ s.pwr.vigil, s.dom x.domain = x.action)
    (hq : s.pwr.queue = r :: queue) : s.nextPower r false [] queue := .inr ⟨rfl, rfl, h, hq⟩

theorem no_depends (s : State) (r : PwrReq) (h1 : r.action = 1 → ∀ n ∈ domainNeeds r.domain, s.isOn n = true)
    (h0 : r.action ≠ 1 → ∀ x ∈ List.range 24, r.domain ∈ domainNeeds x → s.dom x = 0) :
    ¬ ((r.action = 1 ∧ ∃ n ∈ domainNeeds r.domain, s.isOn n = false) ∨
      (r.action ≠ 1 ∧ ∃ x, x < 24 ∧ r.domain ∈ domainNeeds x ∧ s.dom x ≠ 0)) := by
  rintro (⟨h, n, hn, hf⟩ | ⟨h, x, hx, hd, hs⟩)
  · exact absurd (h1 h n hn) (by simp [hf])
  · exact hs (h0 h x (List.mem_range.2 hx) hd)

/-- The machine runs with power good; held by the power-on reset; in a system reset; as its hold ends. -/
def benchRun1 : State := bench.withRst { bench.rst with coreGood := true, rstOutHigh := true, wdogFrom := 0, outAt := some 70010000000 }

def benchOff (p : StartPhase) : State :=
  bench.withRst { bench.rst with phase := p }

def benchHeld : State := (benchRun1.systemReset 3 false).withNq { benchRun1.nq with restoreDue := false }

def holdReset : SysReset := benchHeld.rst.sys.getD {}

/-- The header of an image, and an image. -/
def header (len entry : Nat) : List Byte :=
  leBytes 4 0x47544749 ++ leBytes 4 1 ++ leBytes 4 len ++ leBytes 4 entry ++ leBytes 2 0xFFFF ++ leBytes 2 0 ++ leBytes 4 7 ++
    List.replicate 232 0

def image0 : List Byte := header 8 4 ++ [1, 2, 3, 4, 5, 6, 7, 8]

/-- The boot ROM runs with its sources; what it has asked for. -/
def benchBoot (srcs asked : List Nat) (on22 : Nat) : State :=
  let s := (bench.withNow 70000000000).withThreads [(0, { run := 1, ml := 0 })]
  ((s.withRst { s.rst with boot := { active := true, sources := srcs, asked := asked } }).setDom 22 on22).setFld R.SDH_STAT_PRESENT 1

/-- The store holds an image. -/
def benchNvBoot (img : List Byte) (bad : List Nat) : State :=
  let s := benchBoot [1, 3] [10] 1
  s.withNvs { s.nvs with bad := bad, data := (img.zipIdx.filter (fun p => p.1 != 0)).map (fun p => (16384 + p.2, p.1)) }

/-- An image has come over Niquevor. -/
def benchNqBoot : State :=
  let s := (benchBoot [3] [10] 1).setFld R.RST_BOOT_WAIT_NQ 1
  (s.withRst { s.rst with boot := { s.rst.boot with received := some 264, waitFrom := 60000000000 } }).setSramBytes 0x101FC000 image0

def benchDone : State :=
  let s := benchBoot [2] [10, 22] 1
  s.withRst { s.rst with boot := { s.rst.boot with entry := some 0x10000104 } }

/-! ### Witnesses: the hypotheses of every statement can be met together -/

/-- Witnesses of StepTakesFront, clause by clause. -/
theorem witness_StepTakesFront :
  (∃ (s : State) (c : Instr) (rest : List Instr), s.pending = c :: rest) ∧
  (∃ (s : State), s.pending = []) :=
  ⟨⟨idle1, .refclkLost, [], by decide +kernel⟩,
   ⟨bench, by decide +kernel⟩⟩

/-- Witnesses of ResetState, clause by clause. -/
theorem witness_ResetState :
  (∃ (d : Nat), d < 24 ∧ 0 < d) ∧
  (∃ (n : Nat), n < 8) :=
  ⟨⟨23, by decide +kernel⟩,
   ⟨7, by decide +kernel⟩⟩

/-- Witness of CanonicalKept. -/
theorem witness_CanonicalKept :
  ∃ (s t : State), s.canonical ∧ step s = .next t :=
  ⟨{ bench with pending := [.slowClockLoss] }, _, by decide +kernel, rfl⟩

/-- Witnesses of FieldPortReads, clause by clause. -/
theorem witness_FieldPortReads :
  (∃ (s : State) (b : List Byte) (f : NqFrame) (r : ObjRow) (i sub : Nat), s.vigil = true ∧ nqParse 24 b = some f ∧
    f.kind = 1 ∧ f.prot = false ∧ f.session = 0 ∧ nqShape 1 f.payload = true ∧ i = beNat (f.payload.take 2) ∧
    sub = ((f.payload.drop 2).headD 0).toNat ∧ s.taken.objLook i sub false none = .obj r ∧
    (s.taken.objBytes r i sub).length ≤ 16) ∧
  (∃ (s : State) (b : List Byte) (f : NqFrame) (r : ObjRow) (i sub : Nat), s.vigil = true ∧ nqParse 24 b = some f ∧
    f.kind = 4 ∧ f.prot = false ∧ f.session = 0 ∧ nqShape 4 f.payload = true ∧ i = beNat (f.payload.take 2) ∧
    sub = ((f.payload.drop 2).headD 0).toNat ∧ (f.payload.drop 3).headD 0 = 0 ∧
    (s.taken.endXfer 24 0).objLook i sub false none = .obj r) ∧
  (∃ (s : State) (b : List Byte) (f : NqFrame) (x : Transfer) (r : ObjRow) (needs : List Nat), s.vigil = true ∧
    nqParse 24 b = some f ∧ f.kind = 5 ∧ f.prot = false ∧ f.session = 0 ∧ nqShape 5 f.payload = true ∧ f.payload.length = 8 ∧
    s.xfer 24 0 = some x ∧ x.isWrite = false ∧ x.fw = false ∧ x.index = beNat (f.payload.take 2) ∧
    x.sub = ((f.payload.drop 2).headD 0).toNat ∧ x.offset = beNat ((f.payload.drop 4).take 4) ∧
    objFind s.isAN x.index x.sub = .obj r needs ∧ s.objUp needs x.index = true ∧
    (x.total ≤ 1024 ∨ s.objMarker x.index x.sub = x.marker)) ∧
  (∃ (s : State) (b : List Byte) (f : NqFrame), s.vigil = true ∧ nqParse 24 b = some f ∧ f.kind = 12 ∧ f.prot = false ∧
    f.session = 0 ∧ nqShape 12 f.payload = true) :=
  ⟨⟨bench, plainFrame 1 obj1000, plainRead 1 obj1000, rowOf 0x1000 1, 0x1000, 1, by decide +kernel⟩,
   ⟨bench, plainFrame 4 (obj1000 ++ [0,0,0,0]), plainRead 4 (obj1000 ++ [0,0,0,0]), rowOf 0x1000 1, 0x1000, 1,
     by decide +kernel⟩,
   ⟨benchXfer, plainFrame 5 (obj1000 ++ [0,0,0,0]), plainRead 5 (obj1000 ++ [0,0,0,0]), xfer1000, rowOf 0x1000 1, [],
     by decide +kernel⟩,
   ⟨bench, plainFrame 12 obj1000, plainRead 12 obj1000, by decide +kernel⟩⟩

/-- With no session, the first free value is taken. -/
theorem freeSession_empty (s : State) (h : s.nq.sessions = []) :
    s.freeSession = (some (s.draw.1 % 0xFFFE + 1), s.draw.2) := by
  simp [State.freeSession, h, State.session]

/-- Witnesses of SessionFrames, clause by clause. -/
theorem witness_SessionFrames :
  (∃ (s : State) (port : Fin 25) (b : List Byte) (f : NqFrame) (x : Session) (r : ObjRow) (i sub : Nat), s.vigil = true ∧
    nqParse port.val b = some f ∧ f.kind = 2 ∧ s.admits port.val f x ∧ x.isOpen = true ∧ x.busy = false ∧
    nqShape 2 (f.clear x) = true ∧ i = beNat ((f.clear x).take 2) ∧ sub = (((f.clear x).drop 2).headD 0).toNat ∧
    ((s.heard x f).engaged x.id).objLook i sub true (some x.role) = .obj r ∧ ((f.clear x).drop 4).length ≤ 16) ∧
  (∃ (s : State) (port : Fin 25) (b : List Byte) (f : NqFrame) (x : Session), s.vigil = true ∧ nqParse port.val b = some f ∧
    f.kind = 9 ∧ s.admits port.val f x ∧ x.isOpen = false ∧ nqShape 9 (f.clear x) = true ∧ beNat (f.clear x) = x.nd.toNat ∧
    (s.heard x f).openSessions < 4 ∧ x.seqOut < 0xFFFFFFFE) ∧
  (∃ (s : State) (port : Fin 25) (b : List Byte) (f : NqFrame) (x : Session), s.vigil = true ∧ nqParse port.val b = some f ∧
    f.kind = 11 ∧ s.admits port.val f x ∧ x.isOpen = true ∧ nqShape 11 (f.clear x) = true) ∧
  (∃ (s s1 s2 : State) (port : Fin 25) (b : List Byte) (f : NqFrame) (k wk : BitVec 256) (nd id : Nat), s.vigil = true ∧
    nqParse port.val b = some f ∧ f.kind = 7 ∧ f.prot = false ∧ f.session = 0 ∧ nqShape 7 f.payload = true ∧
    tget 0 s.nq.lockUntil port.val ≤ s.now ∧ s.nvs.keys.getD 2 none = some wk ∧
    s.nvs.keys.getD (f.payload.headD 0).toNat none = some k ∧ s.openSessions < 4 ∧ s.taken.nqNonce = some (nd, s1) ∧
    s1.freeSession = (some id, s2)) :=
  ⟨⟨benchSess, 24, protFrame sess 2 4 write1020, protRead sess 2 4 write1020, sess, rowOf 0x1020 1, 0x1020, 1,
    by decide +kernel⟩,
   ⟨benchNew, 24, protFrame sessNew 9 1 (beBytes 16 12345), protRead sessNew 9 1 (beBytes 16 12345), sessNew,
     by decide +kernel⟩,
   ⟨benchSess, 24, protFrame sess 11 4 [], protRead sess 11 4 [], sess, by decide +kernel⟩,
   ⟨benchKeys, keysDrawn.2, keysDrawn.2.draw.2, 24, plainFrame 7 openFrame, plainRead 7 openFrame, 2, 2, keysDrawn.1,
     keysDrawn.2.draw.1 % 0xFFFE + 1, by
    refine ⟨by decide +kernel, by decide +kernel, by decide +kernel, by decide +kernel, by decide +kernel, by decide +kernel,
      by decide +kernel, by decide +kernel, by decide +kernel, by decide +kernel, rfl, freeSession_empty _ rfl⟩⟩⟩

/-- Witnesses of ResponderTimers, clause by clause. -/
theorem witness_ResponderTimers :
  (∃ (s : State) (port : Fin 25) (session : BitVec 16) (x : Transfer), s.vigil = true ∧
    s.xfer port.val session.toNat = some x) ∧
  (∃ (s : State) (session : BitVec 16) (x : Session), s.vigil = true ∧ s.session session.toNat = some x) ∧
  (∃ (s : State) (port : Fin 25), s.vigil = true ∧ s.nq.lockUntil.any (fun p => p.1 == port.val) = true) ∧
  (∃ (s : State) (n : Fin 16) (k due : Nat), s.vigil = true ∧ s.bulOn n.val = true ∧
    s.nq.nextDue.find? (fun p => p.1 == n.val) = some (k, due) ∧ s.nq.bulQueue.length < 32) ∧
  (∃ (s : State) (o : NqOut) (outs : List NqOut), s.vigil = true ∧ s.nq.bulQueue = [] ∧ s.nq.out = o :: outs) ∧
  (∃ (s : State) (x : BulInst) (rest : List BulInst), s.vigil = true ∧ s.nq.bulQueue = x :: rest ∧ s.nq.out = [] ∧
    s.now ≤ x.due + 1000000 ∧ s.nq.backlog = []) ∧
  (∃ (s : State) (d : Delegation), s.vigil = true ∧ s.nq.deleg = [d] ∧ d.dead = false ∧ d.op ≤ 1 ∧ d.port = 24 ∧
    d.session = 0) :=
  ⟨⟨benchWait, 24, 0, xferOld, by decide +kernel⟩,
   ⟨benchWait, 5, sess, by decide +kernel⟩,
   ⟨benchWait, 3, by decide +kernel⟩,
   ⟨benchBul, 2, 2, 900, by decide +kernel⟩,
   ⟨benchWait, ⟨24, 5, 3, 1, [1]⟩, [], by decide +kernel⟩,
   ⟨benchBulOut, bul2, [], by decide +kernel⟩,
   ⟨benchDeleg, deleg1, by decide +kernel⟩⟩

/-- Witnesses of ObjectCommands, clause by clause. -/
theorem witness_ObjectCommands :
  (∃ (s : State) (id : BitVec 16) (x : Session) (r : ObjRow), s.vigil = true ∧ s.session id.toNat = some x ∧
    x.isOpen = true ∧ x.busy = false ∧ (s.engaged x.id).objLook 0x1010 1 true (some x.role) = .obj r ∧ r.acc ≠ .rwp ∧
    r.size = 4 ∧ s.nq.restorePend = false ∧ s.nq.saveState ≠ 1 ∧ s.storeBand = true ∧ s.persistReadOnly = false) ∧
  (∃ (s : State) (id : BitVec 16) (x : Session) (r : ObjRow), s.vigil = true ∧ s.session id.toNat = some x ∧
    x.isOpen = true ∧ x.busy = false ∧ (s.engaged x.id).objLook 0x1011 1 true (some x.role) = .obj r ∧ r.acc ≠ .rwp ∧
    r.size = 4) ∧
  (∃ (s : State) (id : BitVec 16) (role : Fin 3) (key : BitVec 256) (x : Session) (r : ObjRow), s.vigil = true ∧
    s.session id.toNat = some x ∧ x.isOpen = true ∧ x.busy = false ∧
    (s.engaged x.id).objLook 0x4030 (role.val + 1) true (some x.role) = .obj r ∧ s.storeBand = true ∧
    (s.nvsTargets (.roleKey role.val key)).any (fun p => s.nvs.readOnly.contains p) = false) ∧
  (∃ (s : State) (id : BitVec 16) (data : Word) (x : Session) (r : ObjRow), s.vigil = true ∧ s.session id.toNat = some x ∧
    x.isOpen = true ∧ x.busy = false ∧ (s.engaged x.id).objLook 0x7050 5 true (some x.role) = .obj r ∧ r.acc ≠ .rwp ∧
    r.size = 4 ∧ data = 0x5AFE0005 ∧ s.flag R.DMC_STAT_FROZEN = true ∧ s.dmc.resuming = false ∧ s.dmc.unf = none) ∧
  (∃ (s : State) (id : BitVec 16) (data : Word) (x : Session) (r : ObjRow), s.vigil = true ∧ s.session id.toNat = some x ∧
    x.isOpen = true ∧ x.busy = false ∧ (s.engaged x.id).objLook 0x3011 2 true (some x.role) = .obj r ∧ r.acc ≠ .rwp ∧
    r.size = 4 ∧ data.getLsbD 0 = true ∧ data.getLsbD 1 = false ∧ data.getLsbD 2 = false ∧ data.getLsbD 8 = false ∧
    data.extractLsb' 4 2 ≠ 3 ∧ s.mtxState = 0 ∧ s.flag R.MTX_STAT_EVE_BUSY = false) ∧
  (∃ (s : State) (id : BitVec 16) (data : List Byte) (x : Session) (y : Transfer), s.vigil = true ∧
    s.session id.toNat = some x ∧ x.isOpen = true ∧ x.busy = false ∧ s.xfer x.port x.id = some y ∧ y.index = 0x3011 ∧
    y.sub = 1 ∧ y.isWrite = true ∧ y.fw = false ∧ y.offset + data.length = y.total ∧ data.length ≤ 1024 ∧ y.total < 2 ^ 32 ∧
    s.objUp [6, 7, 12] 0x3011 = true ∧
    let w := if data = [] then (false, s.engaged x.id) else (s.engaged x.id).memWrite ridResponder (0x101F0000 + y.offset) data
    w.1 = false ∧ w.2.eveOpen = true) ∧
  (∃ (s : State) (port id : Nat), s.vigil = true ∧ s.nq.eveImage = some (port, id) ∧ s.live 12 = true ∧
    s.flag R.MTX_STAT_EVE_BUSY = true ∧
    let r := (s.withNq { s.nq with eveImage := none }).memRead ridResponder 0x101F0000 49152
    r.1.2 = false) ∧
  (∃ (s : State) (rid : Rid) (tail : BitVec 3),
    let n := (tail.toNat + 8 - s.fld R.NQ_DLG_TAIL_TAIL) % 8
    s.serves rid 0 ∧ (s.nq.deleg.take n).all (·.dead) = true) ∧
  (∃ (s : State) (rid : Rid) (tail : BitVec 3) (d : Delegation) (rest : List Delegation), s.serves rid 0 ∧
    tail.toNat = (s.fld R.NQ_DLG_TAIL_TAIL + 1) % 8 ∧ s.nq.deleg = d :: rest ∧ d.dead = false ∧ d.op = 0 ∧ d.port = 24 ∧
    d.session = 0) :=
  ⟨⟨benchSess, 5, sess, rowOf 0x1010 1, by decide +kernel⟩,
   ⟨benchSess, 5, sess, rowOf 0x1011 1, by decide +kernel⟩,
   ⟨benchSess, 5, 1, 42, sess, rowOf 0x4030 2, by decide +kernel⟩,
   ⟨benchFrozen, 5, 0x5AFE0005, sess, rowOf 0x7050 5, by decide +kernel⟩,
   ⟨benchSess, 5, 1, sess, rowOf 0x3011 2, by decide +kernel⟩,
   ⟨benchEve, 5, [1, 2, 3, 4], sess, eveXfer, by decide +kernel⟩,
   ⟨benchEveCopy, 24, 5, by decide +kernel⟩,
   ⟨benchSess, 1, 3, by decide +kernel⟩,
   ⟨benchDeleg, 1, 1, deleg1, [], by decide +kernel⟩⟩

/-- Witnesses of RegisterWrites, clause by clause. -/
theorem witness_RegisterWrites :
  (∃ (s : State) (rid : Rid) (addr data : Word) (b : BlockDesc) (r : RegDesc) (c : Instr),
    (c = .registerWrite rid addr data ∨ c = .stagedCounterLoad rid addr data) ∧ s.serves rid b.domain ∧
    regSpace addr.toNat = true ∧ blockAt addr.toNat = some b ∧ addr.toNat % 4 = 0 ∧ b.form addr.toNat = .own r ∧
    mayWrite b rid = true ∧ b.masked = false ∧ r.shadowed = false ∧ (¬ (b.base + 0x3F0 ≤ addr.toNat ∧
    addr.toNat < b.base + 0x400)) ∧ (s.locked b = false ∨ r.bits .rwl = 0)) ∧
  (∃ (s : State) (rid : Rid) (addr data : Word) (b : BlockDesc) (r : RegDesc), s.serves rid b.domain ∧
    regSpace addr.toNat = true ∧ blockAt addr.toNat = some b ∧ addr.toNat % 4 = 0 ∧ b.form addr.toNat = .own r ∧
    mayWrite b rid = true ∧ b.masked = true ∧ data.toNat / 2 ^ 16 ≠ 0 ∧ r.shadowed = false ∧
    (¬ (b.base + 0x3F0 ≤ addr.toNat ∧ addr.toNat < b.base + 0x400)) ∧ (s.locked b = false ∨ r.bits .rwl = 0)) ∧
  (∃ (s : State) (rid : Rid) (addr : Word) (b : BlockDesc) (r : RegDesc) (form x : Nat), s.serves rid b.domain ∧
    regSpace addr.toNat = true ∧ blockAt addr.toNat = some b ∧ addr.toNat % 4 = 0 ∧ b.form addr.toNat = .aliasForm r form x ∧
    mayWrite b rid = true ∧ s.rwMask b r ≠ 0 ∧ (s.locked b = false ∨ r.bits .rwl = 0)) :=
  ⟨⟨bench, 1, BitVec.ofNat 32 R.PWR_BOOTSET, 0xDEADBEEF, blockOf R.PWR_BOOTSET, regOf R.PWR_BOOTSET,
    .registerWrite 1 (BitVec.ofNat 32 R.PWR_BOOTSET) 0xDEADBEEF, by decide +kernel⟩,
   ⟨bench, 1, BitVec.ofNat 32 R.HK_PERIOD, 0x00FF1234, blockOf R.HK_PERIOD, regOf R.HK_PERIOD, by decide +kernel⟩,
   ⟨bench, 1, BitVec.ofNat 32 (R.PWR_BOOTSET + 0x400), blockOf R.PWR_BOOTSET, regOf R.PWR_BOOTSET, 1, R.PWR_BOOTSET,
     by decide +kernel⟩⟩

/-- Witnesses of ReadsAndRefusals, clause by clause. -/
theorem witness_ReadsAndRefusals :
  (∃ (s : State) (rid : Rid) (addr : Word) (b : BlockDesc) (r : RegDesc), s.serves rid b.domain ∧
    regSpace addr.toNat = true ∧ blockAt addr.toNat = some b ∧ addr.toNat % 4 = 0 ∧ b.form addr.toNat = .own r ∧
    isWideHigh addr.toNat = false ∧ wideHigh addr.toNat = none) ∧
  (∃ (s : State) (rid : Rid) (addr : Word) (b : BlockDesc) (r : RegDesc) (h : Nat), s.serves rid b.domain ∧
    regSpace addr.toNat = true ∧ blockAt addr.toNat = some b ∧ addr.toNat % 4 = 0 ∧ b.form addr.toNat = .own r ∧
    isWideHigh addr.toNat = false ∧ wideHigh addr.toNat = some h ∧ r.bits .rc = 0) ∧
  (∃ (s : State) (rid : Rid) (addr : Word) (b : BlockDesc), s.serves rid b.domain ∧ regSpace addr.toNat = true ∧
    blockAt addr.toNat = some b ∧ mayWrite b rid = true) ∧
  (∃ (s : State) (rid : Rid) (addr : Word) (size : Bool), s.reaches rid = true ∧ s.live 7 = true ∧
    s.decodes addr.toNat size = false) ∧
  (∃ (s : State) (rid : Rid) (addr : Word), s.reaches rid = true ∧ s.live 7 = true ∧ s.isUnavailable addr.toNat = true) ∧
  (∃ (s : State) (rid : Rid) (addr : Word) (b : BlockDesc), s.reaches rid = true ∧ s.target addr.toNat = .regs ∧
    blockAt addr.toNat = some b ∧ s.live b.domain = true ∧
    let u := s.advance 4000
    u.live 7 = true) :=
  ⟨⟨bench, 1, BitVec.ofNat 32 R.PWR_BOOTSET, blockOf R.PWR_BOOTSET, regOf R.PWR_BOOTSET, by decide +kernel⟩,
   ⟨bench, 1, BitVec.ofNat 32 (R.MTX_FWD 3), blockOf (R.MTX_FWD 3), regOf (R.MTX_FWD 3), R.MTX_FWD 3 + 4, by decide +kernel⟩,
   ⟨bench, 1, BitVec.ofNat 32 R.PWR_BOOTSET, blockOf R.PWR_BOOTSET, by decide +kernel⟩,
   ⟨bench, 1, 0x30000000, false, by decide +kernel⟩,
   ⟨benchNo12, 1, BitVec.ofNat 32 R.MTX_COMMIT, by decide +kernel⟩,
   ⟨bench, 1, BitVec.ofNat 32 R.MTX_COMMIT, blockOf R.MTX_COMMIT, by decide +kernel⟩⟩

/-- Witnesses of VotedAndShadowed, clause by clause. -/
theorem witness_VotedAndShadowed :
  (∃ (s : State) (addr : Word) (b : BlockDesc) (r : RegDesc), regDescAt addr.toNat = some (b, r) ∧ s.live b.domain = true ∧
    s.live 7 = true ∧ r.bits .rwv ≠ 0) ∧
  (∃ (s : State) (rid : Rid) (addr : Word) (b : BlockDesc) (r : RegDesc), s.serves rid b.domain ∧
    regSpace addr.toNat = true ∧ blockAt addr.toNat = some b ∧ addr.toNat % 4 = 0 ∧ b.form addr.toNat = .own r ∧
    mayWrite b rid = true ∧ b.masked = false ∧ r.shadowed = true ∧ (¬ (b.base + 0x3F0 ≤ addr.toNat ∧
    addr.toNat < b.base + 0x400)) ∧ (s.locked b = false ∨ r.bits .rwl = 0)) ∧
  (∃ (s : State) (rid : Rid) (addr data : Word) (b : BlockDesc) (r : RegDesc) (x : Nat) (p : ShadowPair),
    s.opens rid b.domain ∧ regSpace addr.toNat = true ∧ blockAt addr.toNat = some b ∧ addr.toNat % 4 = 0 ∧
    b.form addr.toNat = .port r x ∧ mayWrite b rid = true ∧ s.pairs = [p] ∧ p.addr = x ∧ s.now ≤ p.at_ + pairWindow ∧
    master p.rid = master rid ∧ data = ~~~p.value ∧ (b.code ≠ 0x07 ∨ s.locked b = false)) ∧
  (∃ (s : State) (addr : Word) (p : ShadowPair) (b : BlockDesc), s.pairs.find? (fun p => p.addr == addr.toNat) = some p ∧
    blockAt addr.toNat = some b ∧
    let u := s.advanceTo (p.at_ + pairWindow + 1)
    u.live 7 = true) ∧
  (∃ (s : State) (addr : Word) (f : Fin 4) (b : BlockDesc) (r : RegDesc) (x : FieldDesc), regDescAt addr.toNat = some (b,
    r) ∧ s.live b.domain = true ∧ s.live 7 = true ∧ addr.toNat < b.base + 0x3F0 ∧ addr.toNat ≠ R.EVT_PEND 3 ∧
    (r.fields.filter (fun x => x.acc == .rws))[f.val]? = some x ∧ x.lo ≤ x.hi ∧ x.hi < 32) :=
  ⟨⟨bench, BitVec.ofNat 32 R.PWR_BOOTSET, blockOf R.PWR_BOOTSET, regOf R.PWR_BOOTSET, by decide +kernel⟩,
   ⟨bench, 1, BitVec.ofNat 32 R.HLD_ALM_CTRL, blockOf R.HLD_ALM_CTRL, regOf R.HLD_ALM_CTRL, by decide +kernel⟩,
   ⟨benchPair, 1, BitVec.ofNat 32 (R.HLD_ALM_CTRL + 0x200), 0xFFFFFFFE, blockOf R.HLD_ALM_CTRL, regOf R.HLD_ALM_CTRL,
     R.HLD_ALM_CTRL, pair1, by decide +kernel⟩,
   ⟨benchPair, BitVec.ofNat 32 R.HLD_ALM_CTRL, pair1, blockOf R.HLD_ALM_CTRL, by decide +kernel⟩,
   ⟨bench, BitVec.ofNat 32 R.HLD_ALM_CTRL, 0, blockOf R.HLD_ALM_CTRL, regOf R.HLD_ALM_CTRL, shadowField R.HLD_ALM_CTRL,
     by decide +kernel⟩⟩

/-- Witnesses of CalendsSteps, clause by clause. -/
theorem witness_CalendsSteps :
  (∃ (s : State) (rid : Rid), s.serves rid 1) ∧
  (∃ (s : State) (rid : Rid), s.serves rid 1) ∧
  (∃ (s : State) (rid : Rid), s.serves rid 1) ∧
  (∃ (s : State) (rid : Rid), s.serves rid 1) ∧
  (∃ (s : State), s.live 1 = true ∧ s.flag R.CAL_STEP_PEND = true) ∧
  (∃ (s : State), s.live 1 = true ∧ s.flag R.CAL_STEP_PEND = false ∧ (s.fld R.CAL_UTC_LEAP = 1 ∨ s.fld R.CAL_UTC_LEAP = 2)) :=
  ⟨⟨benchCal, 1, by decide +kernel⟩,
   ⟨benchCal, 1, by decide +kernel⟩,
   ⟨benchCal, 1, by decide +kernel⟩,
   ⟨benchCal, 1, by decide +kernel⟩,
   ⟨benchCal.setFld R.CAL_STEP_PEND 1, by decide +kernel⟩,
   ⟨benchCal.setFld R.CAL_UTC_LEAP 2, by decide +kernel⟩⟩

/-- Witnesses of CalendsSources, clause by clause. -/
theorem witness_CalendsSources :
  (∃ (s : State), s.live 1 = true ∧ s.live 7 = true ∧ s.flag R.CAL_STAT_REF_LOST = false) ∧
  (∃ (s : State), s.live 1 = true ∧ s.flag R.CAL_STAT_REF_LOST = true) ∧
  (∃ (s : State) (n : Fin 9) (g : Nat), s.live 1 = true ∧ s.live 7 = true ∧ s.srcEnabled n.val = true ∧
    s.qualified n.val = false ∧ (s.src n.val).goodFrom = some g ∧
    g + max 1 (min 600 (s.fld (R.CAL_SRC_CFG_QUAL n.val))) * 1000000000 ≤ (s.src n.val).lastAt) ∧
  (∃ (s : State) (n : Fin 9), s.live 1 = true ∧ s.qualified n.val = true ∧
    let due := (s.src n.val).lastAt + max 1 (s.fld (R.CAL_SRC_CFG_MISS n.val)) * srcNominal n.val
    let u := if max 1 (s.fld (R.CAL_SRC_CFG_MISS n.val)) ≤ (s.src n.val).badRun then s else s.advanceTo due
    u.live 7 = true) ∧
  (∃ (s : State) (n : Fin 9) (q : Nat), s.live 1 = true ∧ s.qualified n.val = true ∧ (s.src n.val).qualifiedAt = some q) ∧
  (∃ (s : State) (rid : Rid), s.serves rid 1 ∧ s.srcEnabled 8 = true) :=
  ⟨⟨benchCal, by decide +kernel⟩,
   ⟨benchCal.setFld R.CAL_STAT_REF_LOST 1, by decide +kernel⟩,
   ⟨benchSrc, 4, 0, by decide +kernel⟩,
   ⟨benchQual, 4, by decide +kernel⟩,
   ⟨benchQual, 4, 10000, by decide +kernel⟩,
   ⟨benchCal.setFld (R.CAL_SRC_CFG_EN 8) 1, 1, by decide +kernel⟩⟩

/-- Witnesses of CalendsCaptures, clause by clause. -/
theorem witness_CalendsCaptures :
  (∃ (s : State) (n : Fin 8), s.live 1 = true ∧ s.tdcPresent n.val = true) ∧
  (∃ (s : State) (rid : Rid) (n : Fin 8) (c : TdcCapture) (r : List TdcCapture), s.serves rid 1 ∧
    tget [] s.cal.tdcQueue n.val = c :: r ∧ c.ns < 2 ^ 30) ∧
  (∃ (s : State) (rid : Rid) (n : Fin 8), s.serves rid 1 ∧ tget [] s.cal.tdcQueue n.val = []) ∧
  (∃ (s : State) (n : Fin 24), s.live 1 = true ∧ s.laneLocked n.val = true) :=
  ⟨⟨benchTdc, 3, by decide +kernel⟩,
   ⟨benchTdc1, 1, 3, capture1, [], by decide +kernel⟩,
   ⟨benchTdc, 1, 3, by decide +kernel⟩,
   ⟨benchLane5, 5, by decide +kernel⟩⟩

/-- Witnesses of DpllUpdates, clause by clause. -/
theorem witness_DpllUpdates :
  (∃ (s : State), s.live 1 = true ∧ s.qualified (s.fld R.CAL_STAT_SEL) = true ∧ s.flag R.CAL_STAT_REF_LOST = false ∧
    s.dpll = 2) ∧
  (∃ (s : State), s.live 1 = true ∧ s.qualified (s.fld R.CAL_STAT_SEL) = true ∧ s.flag R.CAL_STAT_REF_LOST = false ∧
    s.dpll = 1) ∧
  (∃ (s : State), s.live 1 = true ∧ s.live 7 = true ∧ s.qualified (s.fld R.CAL_STAT_SEL) = true ∧
    s.flag R.CAL_STAT_REF_LOST = false ∧ (s.dpll = 0 ∨ s.dpll = 3)) ∧
  (∃ (s : State) (e : Int), s.live 1 = true ∧ s.dpll = 1 ∧ s.cal.acqStep = some e) :=
  ⟨⟨benchDpll 2, by decide +kernel⟩,
   ⟨benchDpll 1, by decide +kernel⟩,
   ⟨benchDpll 0, by decide +kernel⟩,
   ⟨benchAcq, -5500, by decide +kernel⟩⟩

/-- Witnesses of PtpEngine, clause by clause. -/
theorem witness_PtpEngine :
  (∃ (s : State) (rid : Rid), s.serves rid 1 ∧ s.dmaRun 15 = none) ∧
  (∃ (s : State) (rid : Rid), s.serves rid 1) ∧
  (∃ (s : State) (w0 stamp : Word) (sec : Nat) (bytes : List Byte) (r : List (Word × Nat × Word × List Byte)),
    let head := s.regN R.PTP_RXHEAD % 32
    let addr := s.fld R.PTP_RXBASE_BASE * 8192 + 256 * head
    s.live 1 = true ∧ s.cal.ptpRxWait = (w0, sec, stamp, bytes) :: r ∧ s.flag R.PTP_CTRL_EN = true ∧
      (head + 1) % 32 ≠ s.regN R.PTP_RXTAIL % 32 ∧ 0x10000000 ≤ addr ∧ addr < 0x10200000 ∧ s.live (sramDomain addr) = true) ∧
  (∃ (s : State) (w0 stamp : Word) (sec : Nat) (bytes : List Byte) (r : List (Word × Nat × Word × List Byte)),
    let head := s.regN R.PTP_RXHEAD % 32
    s.live 1 = true ∧ s.live 7 = true ∧ s.cal.ptpRxWait = (w0, sec, stamp, bytes) :: r ∧ s.flag R.PTP_CTRL_EN = true ∧
      (head + 1) % 32 = s.regN R.PTP_RXTAIL % 32) ∧
  (∃ (s : State),
    let tail := s.regN R.PTP_TXTAIL % 32
    let addr := s.fld R.PTP_TXBASE_BASE * 8192 + 256 * tail
    let e := (List.range 256).map (fun k => s.sramByte (addr + k))
    let w0 := leNat (slice e 0 4)
    s.live 1 = true ∧ s.flag R.PTP_CTRL_EN = true ∧ tail ≠ s.regN R.PTP_TXHEAD % 32 ∧ 0x10000000 ≤ addr ∧ addr < 0x10200000 ∧
      s.live (sramDomain addr) = true ∧ s.ptpPortUp 24 = true ∧ nbits w0 24 20 = 24 ∧ 1 ≤ nbits w0 10 0 ∧
      nbits w0 10 0 ≤ 240 ∧ nbits w0 29 28 < 2) ∧
  (∃ (s : State),
    let tail := s.regN R.PTP_TXTAIL % 32
    let addr := s.fld R.PTP_TXBASE_BASE * 8192 + 256 * tail
    let e := (List.range 256).map (fun k => s.sramByte (addr + k))
    let w0 := leNat (slice e 0 4)
    s.live 1 = true ∧ s.flag R.PTP_CTRL_EN = true ∧ tail ≠ s.regN R.PTP_TXHEAD % 32 ∧ 0x10000000 ≤ addr ∧ addr < 0x10200000 ∧
      s.live (sramDomain addr) = true ∧ s.ptpPortUp (nbits w0 24 20) = false) :=
  ⟨⟨benchCal, 1, by decide +kernel⟩,
   ⟨benchCal, 1, by decide +kernel⟩,
   ⟨benchPtpRx, 7, 0x1234, 77, bytes100, [], by decide +kernel⟩,
   ⟨benchPtpFull, 7, 0x1234, 77, bytes100, [], by decide +kernel⟩,
   ⟨benchPtpTx, by decide +kernel⟩,
   ⟨benchPtpDown, by decide +kernel⟩⟩

/-- Witnesses of HoldoverRunning, clause by clause. -/
theorem witness_HoldoverRunning :
  (∃ (s : State), s.live 1 = true) ∧
  (∃ (s : State), s.live 1 = true ∧ s.flag R.HLD_STAT_TEMP_LOST = false) ∧
  (∃ (s : State) (c : SteerCopy) (code : Nat), s.live 1 = true ∧ s.modelSteers = true ∧
    let u := s.advanceTo (s.hld.modelAt + 1000000)
    u.hld.steer = some c ∧ u.modelSteers = true ∧ u.fld R.CAL_DPLL_MODE < 2 ∧ u.flag R.CAL_DPLL_STEER = false ∧
      u.dacHold u.steerDac = none ∧ fBad (u.modelY c) = false ∧
      dacCode u.kdac (u.fld (R.HLD_DAC_CFG_RANGE u.steerDac)) ((fSplit (u.modelY c)).1 * (2 ^ (fSplit (u.modelY c)).2 : Nat))
      (2 ^ 149) = some code) ∧
  (∃ (s : State) (c : SteerCopy), s.live 1 = true ∧ s.hld.steer = some c ∧ s.regN R.HLD_ELAPSED + 1 < 2 ^ 32) :=
  ⟨⟨benchCal, by decide +kernel⟩,
   ⟨benchCal, by decide +kernel⟩,
   ⟨benchHold, steer1, holdCode, by decide +kernel⟩,
   ⟨benchHold, steer1, by decide +kernel⟩⟩

/-- Witnesses of AlmanacKept, clause by clause. -/
theorem witness_AlmanacKept :
  (∃ (s : State), s.live 1 = true) ∧
  (∃ (s : State), s.live 1 = true) ∧
  (∃ (s : State), s.live 1 = true) ∧
  (∃ (s : State) (a : Almanac) (src : Nat), s.live 1 = true ∧ s.hld.loaded = false ∧ s.dpll ≠ 0 ∧ s.almanacPick = some (a,
    src) ∧ a.created = true ∧ a.staleAt s.calSec = false ∧ a.lastLocked ≤ s.calSec ∧ src < 4) ∧
  (∃ (s : State), s.live 1 = true ∧ s.hld.loaded = false ∧ s.dpll ≠ 0 ∧ s.almanacPick = none) ∧
  (∃ (s : State) (rid : Rid), s.serves rid 1) :=
  ⟨⟨benchCal, by decide +kernel⟩,
   ⟨benchCal, by decide +kernel⟩,
   ⟨benchCal, by decide +kernel⟩,
   ⟨benchAlm, almanac1, 1, ⟨by decide +kernel, by decide +kernel, by decide +kernel, rfl, by decide +kernel⟩⟩,
   ⟨benchCal.setFld R.CAL_STAT_DPLL 1, by decide +kernel⟩,
   ⟨benchCal, 1, by decide +kernel⟩⟩

/-- Witnesses of TuningDacs, clause by clause. -/
theorem witness_TuningDacs :
  (∃ (s : State) (rid : Rid) (n : Fin 2), s.serves rid 1 ∧ s.dacHold n.val = none ∧
    (s.steerDac ≠ n.val ∨ s.flag R.CAL_DPLL_STEER = true ∨ 2 ≤ s.fld R.CAL_DPLL_MODE)) ∧
  (∃ (s : State) (rid : Rid) (n : Fin 2), s.serves rid 1 ∧ ((s.dacHold n.val).isSome = true ∨ (s.steerDac = n.val ∧
    s.flag R.CAL_DPLL_STEER = false ∧ s.fld R.CAL_DPLL_MODE < 2))) ∧
  (∃ (s : State) (rid : Rid) (n : Fin 2) (data : Word) (efc : Bool),
    let code := s.fld (R.HLD_DAC_CODE_CODE n.val)
    let new := data.toNat % 2
    s.serves rid 1 ∧ s.dacHold n.val = none ∧ new ≠ s.fld (R.HLD_DAC_CFG_RANGE n.val) ∧
      ((new = 0 → 50 * code ≤ 33 * 2 ^ 20)) ∧ ((new = 1 → efc = true))) ∧
  (∃ (s : State) (rid : Rid) (n : Fin 2) (data : Word) (efc : Bool),
    let code := s.fld (R.HLD_DAC_CODE_CODE n.val)
    let new := data.toNat % 2
    s.serves rid 1 ∧ s.dacHold n.val = none ∧ new ≠ s.fld (R.HLD_DAC_CFG_RANGE n.val) ∧ ((new = 0 ∧
      33 * 2 ^ 20 < 50 * code) ∨ (new = 1 ∧ efc = false))) ∧
  (∃ (s : State) (n : Fin 2) (h : DacHold), s.live 1 = true ∧ s.dacHold n.val = some h ∧ h.code < 2 ^ 20) :=
  ⟨⟨benchCal.setFld R.HLD_CTRL_SEL 0, 1, 1, by decide +kernel⟩,
   ⟨benchCal.setFld R.HLD_CTRL_SEL 0, 1, 0, by decide +kernel⟩,
   ⟨benchCal.setFld R.HLD_CTRL_SEL 0, 1, 1, 0x12345, true, by decide +kernel⟩,
   ⟨benchCal.setFld R.HLD_CTRL_SEL 0, 1, 1, 0x12345, false, by decide +kernel⟩,
   ⟨benchDac, 1, hold1, by decide +kernel⟩⟩

/-- Witnesses of MatrixTables, clause by clause. -/
theorem witness_MatrixTables :
  (∃ (s : State) (rid : Rid), s.serves rid 12 ∧ s.mtxState = 0 ∧ s.flag R.MTX_STAT_EVE_BUSY = false) ∧
  (∃ (s : State) (rid : Rid), s.serves rid 12 ∧ (s.mtxState ≠ 0 ∨ s.flag R.MTX_STAT_EVE_BUSY = true)) ∧
  (∃ (s : State) (rid : Rid), s.serves rid 12 ∧ s.mtxState = 0) ∧
  (∃ (s : State) (rid : Rid), s.serves rid 12 ∧ s.mtxState ≠ 0) ∧
  (∃ (s : State), s.live 12 = true ∧ s.flag R.MTX_STAT_EVE_BUSY = true ∧ s.nq.eveImage = none) ∧
  (∃ (s : State) (rid : Rid), s.serves rid 12) ∧
  (∃ (s : State) (rid : Rid), s.serves rid 12) :=
  ⟨⟨benchRoute, 1, by decide +kernel⟩,
   ⟨benchRoute.setFld R.MTX_STAT_EVE_BUSY 1, 1, by decide +kernel⟩,
   ⟨benchRoute, 1, by decide +kernel⟩,
   ⟨benchRoute.setFld R.MTX_COMMIT_STAT_STATE 2, 1, by decide +kernel⟩,
   ⟨benchRoute.setFld R.MTX_STAT_EVE_BUSY 1, by decide +kernel⟩,
   ⟨benchRoute, 1, by decide +kernel⟩,
   ⟨benchRoute, 1, by decide +kernel⟩⟩

/-- A zero component times any gain is in range. -/
theorem zero_gain (g : Nat) : -8388608 ≤ roundAway (0 * (g : Int)) (2 ^ 60) ∧ roundAway (0 * (g : Int)) (2 ^ 60) ≤ 8388607 := by
  simp [roundAway]

/-- Witnesses of MatrixSamples, clause by clause. -/
theorem witness_MatrixSamples :
  (∃ (s : State) (c : Fin 1536) (time : Nat), s.live 12 = true ∧ s.laneLocked (c.val / 64) = true ∧ s.contOn 0 c.val = true ∧
    s.flag (R.LNE_CTRL_PRBS (c.val / 64)) = false ∧ tget [] s.mtx.units c.val = [] ∧
    ((s.recv c.val).next = none ∨ (s.recv c.val).next = some time) ∧ s.fld R.MTX_CAP_STAT_STATE = 0 ∧
    (s.skewKeys c.val time).Nodup ∧ ((∀ k ∈ s.skewKeys c.val time, (tget [] s.mtx.skew k).length < 256))) ∧
  (∃ (s : State) (c : Fin 1536) (time n : Nat), s.live 12 = true ∧ s.laneLocked (c.val / 64) = true ∧
    s.contOn 0 c.val = true ∧ s.flag (R.LNE_CTRL_PRBS (c.val / 64)) = false ∧ tget [] s.mtx.units c.val = [] ∧
    (s.recv c.val).next = some n ∧ time < n) ∧
  (∃ (s : State) (g : Fin 1536) (slot : Fin 4),
    let c := nbits (entryWord s.mtx.day g.val (2 + slot.val)) 10 0
    s.live 12 = true ∧ routeEn s.mtx.day g.val = true ∧ s.srcAbsent c = false) ∧
  (∃ (s : State) (g : Fin 1536), s.live 12 = true ∧ s.mtxState ≠ 2 ∧ s.fld R.MTX_CAP_STAT_STATE = 0 ∧
    s.laneSends (g.val / 64) = true ∧ (s.flag R.MTX_CTRL_EN = false ∨ routeEn s.mtx.day g.val = false) ∧
    (routeEn s.mtx.day g.val = false ∨ nbit (entryWord s.mtx.day g.val 0) 27 = false)) ∧
  (∃ (s : State) (g : Fin 1536) (r : RouteSrc) (x : RxSample) (n : Nat),
    let time := s.txNext g.val
    let y := fun (v : Int) => roundAway (v * gainOf r.gain) (2 ^ 60)
    s.live 12 = true ∧ s.mtxState ≠ 2 ∧ s.flag R.MTX_CTRL_EN = true ∧ routeEn s.mtx.day g.val = true ∧
      nbit (entryWord s.mtx.day g.val 0) 27 = false ∧ s.fld R.MTX_CAP_STAT_STATE = 0 ∧ s.laneSends (g.val / 64) = true ∧
      routeSources s.mtx.day g.val = [r] ∧ r.conv = none ∧ s.srcAbsent r.src = false ∧ (s.recv r.src).next = some n ∧
      time < n ∧ (tget [] s.mtx.skew (slotKey false g.val r.slot)).find? (fun z => z.time == time) = some x ∧
      x.blank = false ∧ x.unit = 0 ∧ -8388608 ≤ y x.i ∧ y x.i ≤ 8388607 ∧ -8388608 ≤ y x.q ∧ y x.q ≤ 8388607) ∧
  (∃ (s : State) (g : Fin 1536) (r : RouteSrc) (n : Nat), s.live 12 = true ∧ s.mtxState ≠ 2 ∧ s.flag R.MTX_CTRL_EN = true ∧
    routeEn s.mtx.day g.val = true ∧ routeSources s.mtx.day g.val = [r] ∧ r.conv = none ∧ s.srcAbsent r.src = false ∧
    (s.recv r.src).next = some n ∧ n ≤ s.txNext g.val) ∧
  (∃ (s : State) (line : Fin 384) (l : LineSt) (due : Nat) (e : LineEnt), s.live 12 = true ∧
    tget {} s.mtx.lines line.val = l ∧ l.next = some due ∧ l.ents.find? (fun x => x.due == due) = some e ∧ e.place = 4 ∧
    s.fld R.MTX_CAP_STAT_STATE = 0 ∧ s.laneSends (l.cont / 64) = true) ∧
  (∃ (s : State) (line : Fin 384) (l : LineSt) (due : Nat) (e : LineEnt), s.live 12 = true ∧
    tget {} s.mtx.lines line.val = l ∧ l.next = some due ∧ l.ents.find? (fun x => x.due == due) = some e ∧ e.place = 3 ∧ s.flag R.DMC_STAT_FROZEN = false ∧
    s.fld R.MTX_CAP_STAT_STATE = 0 ∧ s.laneSends (l.cont / 64) = true) ∧
  (∃ (s : State) (line : Fin 384) (l : LineSt) (due : Nat) (e : LineEnt), s.live 12 = true ∧
    tget {} s.mtx.lines line.val = l ∧ l.next = some due ∧ l.ents.find? (fun x => x.due == due) = some e ∧ e.place < 3 ∧
    s.fld R.MTX_CAP_STAT_STATE = 0 ∧ s.laneSends (l.cont / 64) = true) ∧
  (∃ (s : State) (line : Fin 384) (l : LineSt) (due : Nat) (e : LineEnt), s.live 12 = true ∧
    tget {} s.mtx.lines line.val = l ∧ l.next = some due ∧ l.ents.find? (fun x => x.due == due) = some e ∧ e.place = 3 ∧ s.flag R.DMC_STAT_FROZEN = true ∧
    s.fld R.MTX_CAP_STAT_STATE = 0 ∧ s.laneSends (l.cont / 64) = true) :=
  ⟨⟨benchRoute, 64, 960, by decide +kernel⟩,
   ⟨benchSample, 64, 960, 960 + benchRoute.period 0 64, by decide +kernel⟩,
   ⟨benchRoute, 130, 0, by decide +kernel⟩,
   ⟨benchRoute.setFld R.MTX_CTRL_EN 0, 130, by decide +kernel⟩,
   ⟨benchSample, 130, ⟨0, none, 1200, 64⟩, sample960, 960 + benchRoute.period 0 64, ⟨by decide +kernel, by decide +kernel,
     by decide +kernel, by decide +kernel, by decide +kernel, by decide +kernel, by decide +kernel, by decide +kernel,
     by decide +kernel, by decide +kernel, by decide +kernel, by decide +kernel, by decide +kernel, by decide +kernel,
     by decide +kernel, (zero_gain _).1, (zero_gain _).2, (zero_gain _).1, (zero_gain _).2⟩⟩,
   ⟨benchAhead, 130, ⟨0, none, 1200, 64⟩, 0, by decide +kernel⟩,
   ⟨benchLine 4, 3, line960 4, 960, ⟨960, ⟨900, 5, 6, false, []⟩, 4⟩, by decide +kernel⟩,
   ⟨benchLine 3, 3, line960 3, 960, ⟨960, ⟨900, 5, 6, false, []⟩, 3⟩, by decide +kernel⟩,
   ⟨benchLine 2, 3, line960 2, 960, ⟨960, ⟨900, 5, 6, false, []⟩, 2⟩, by decide +kernel⟩,
   ⟨(benchLine 3).setFld R.DMC_STAT_FROZEN 1, 3, line960 3, 960, ⟨960, ⟨900, 5, 6, false, []⟩, 3⟩, by decide +kernel⟩⟩

/-- Witnesses of MatrixCommit, clause by clause. -/
theorem witness_MatrixCommit :
  (∃ (s : State) (rid : Rid) (data : Word), s.serves rid 12 ∧ s.mtxState = 0 ∧ s.flag R.MTX_STAT_EVE_BUSY = false ∧
    data.toNat / 16 % 4 ≠ 3 ∧ data &&& 6 = 0) ∧
  (∃ (s : State) (rid : Rid) (data : Word), s.serves rid 12 ∧ data &&& 6 = 0 ∧
    (s.mtxState ≠ 0 ∨ s.flag R.MTX_STAT_EVE_BUSY = true ∨ data.toNat / 16 % 4 = 3)) ∧
  (∃ (s : State) (g k : Nat), s.live 12 = true ∧ s.mtxState = 1 ∧ s.checkEve (enabledRoutes s.mtx.eve) [] 0 = some (g, k) ∧
    g < 2048) ∧
  (∃ (s : State), s.live 12 = true ∧ s.mtxState = 1 ∧ s.checkEve (enabledRoutes s.mtx.eve) [] 0 = none ∧ s.mtx.changed ≠ []) ∧
  (∃ (s : State) (rid : Rid), s.serves rid 12 ∧ s.mtxState ≠ 0 ∧ s.calNow + s.mtxAdv + 20000 < s.mtx.boundary) ∧
  (∃ (s : State) (rid : Rid), s.serves rid 12 ∧ s.mtxState ≠ 0 ∧ s.mtx.boundary ≤ s.calNow + s.mtxAdv + 20000) ∧
  (∃ (s : State) (rid : Rid), s.serves rid 12 ∧ s.mtxState = 0) ∧
  (∃ (s : State), s.live 12 = true ∧ s.live 1 = true ∧ s.mtxState ≠ 0 ∧ 0 < s.calRate) ∧
  (∃ (s : State), s.live 12 = true ∧ s.live 1 = true ∧ s.mtxState = 2 ∧
    let u := s.advance (s.nsUntil ((s.mtx.boundary + s.switchWindow) * calUnit))
    u.mtxState = 2) :=
  ⟨⟨benchEdit, 1, 0x21, by decide +kernel⟩,
   ⟨benchEdit, 1, 0x31, by decide +kernel⟩,
   ⟨benchBad, 130, 6, by decide +kernel⟩,
   ⟨benchCommit 1, by decide +kernel⟩,
   ⟨benchCommit 1, 1, by decide +kernel⟩,
   ⟨benchLate, 1, by decide +kernel⟩,
   ⟨benchEdit, 1, by decide +kernel⟩,
   ⟨benchCommit 1, by decide +kernel⟩,
   ⟨benchCommit 2, by decide +kernel⟩⟩

/-- Witnesses of LaneControl, clause by clause. -/
theorem witness_LaneControl :
  (∃ (s : State) (rid : Rid) (n : Fin 24), s.serves rid (laneDomain n.val) ∧ s.laneMode n.val < 4 ∧
    s.flag (R.LNE_CTRL_EN n.val) = false) ∧
  (∃ (s : State) (rid : Rid) (n : Fin 24), s.serves rid (laneDomain n.val) ∧ s.laneMode n.val < 4 ∧
    s.flag (R.LNE_CTRL_EN n.val) = true ∧ s.flag (R.LNE_CTRL_REPHASE n.val) = false) ∧
  (∃ (s : State) (rid : Rid) (n : Fin 24), s.serves rid (laneDomain n.val) ∧ s.laneMode n.val < 4 ∧
    s.flag (R.LNE_CTRL_EN n.val) = true) ∧
  (∃ (s : State) (rid : Rid) (n : Fin 24), s.serves rid (laneDomain n.val) ∧ s.laneMode n.val < 4 ∧
    s.flag (R.LNE_CTRL_EN n.val) = false) ∧
  (∃ (s : State) (rid : Rid) (n : Fin 24), s.serves rid (laneDomain n.val) ∧ s.flag (R.LNE_CTRL_EN n.val) = true ∧
    s.varlas n.val = true ∧ s.flag (R.LNE_CTRL_TXTIM n.val) = true) ∧
  (∃ (s : State) (rid : Rid) (n : Fin 24), s.serves rid (laneDomain n.val) ∧ s.laneMode n.val < 4 ∧
    (s.flag (R.LNE_CTRL_EN n.val) = false ∨ s.varlas n.val = false ∨ s.flag (R.LNE_CTRL_TXTIM n.val) = false)) ∧
  (∃ (s : State) (n : Fin 24), s.live (laneDomain n.val) = true ∧ (s.lane n.val).tx = .phasing) ∧
  (∃ (s : State) (rid : Rid) (n : Fin 24) (dir : Bool) (c : Fin 64), s.serves rid (laneDomain n.val) ∧
    let d := b2n dir
    let k := s.contCfg n.val d c.val
    let k' : ContCfg := { k with fmt := BitVec.ofNat 32 (nput k.fmt.toNat 15 15 1 &&& 0xC7F0) }
    k.en = false ∧ s.contBad n.val d c.val k' = false) ∧
  (∃ (s : State) (rid : Rid) (n : Fin 24) (dir : Bool) (c : Fin 64), s.serves rid (laneDomain n.val) ∧
    let d := b2n dir
    let k := s.contCfg n.val d c.val
    let k' : ContCfg := { k with fmt := BitVec.ofNat 32 (nput k.fmt.toNat 15 15 1 &&& 0xC7F0) }
    k.en = false ∧ s.contBad n.val d c.val k' = true) ∧
  (∃ (s : State) (rid : Rid) (n : Fin 24) (dir : Bool) (c : Fin 64), s.serves rid (laneDomain n.val) ∧
    let k := s.contCfg n.val (b2n dir) c.val
    k.en = true ∧ k.fmt.toNat &&& 0xC7F0 = k.fmt.toNat) :=
  ⟨⟨bench, 1, 2, by decide +kernel⟩,
   ⟨benchVar, 1, 2, by decide +kernel⟩,
   ⟨benchVar, 1, 2, by decide +kernel⟩,
   ⟨bench, 1, 2, by decide +kernel⟩,
   ⟨benchVar, 1, 2, by decide +kernel⟩,
   ⟨bench, 1, 2, by decide +kernel⟩,
   ⟨benchPhasing, 2, by decide +kernel⟩,
   ⟨withCont benchVar cont5, 1, 2, false, 5, by decide +kernel⟩,
   ⟨bench, 1, 2, false, 5, by decide +kernel⟩,
   ⟨withCont benchVar cont5on, 1, 2, false, 5, by decide +kernel⟩⟩

/-- Witnesses of LaneLocks, clause by clause. -/
theorem witness_LaneLocks :
  (∃ (s : State) (n : Fin 24), s.receives n.val = true ∧ s.flag (R.LNE_STAT_BLOCK_LOCK n.val) = false) ∧
  (∃ (s : State) (n : Fin 24), s.receives n.val = true ∧ s.flag (R.LNE_STAT_BLOCK_LOCK n.val) = true) ∧
  (∃ (s : State) (n : Fin 24), s.searching n.val = true) ∧
  (∃ (s : State) (n : Fin 24) (c : Candidate), s.searching n.val = true ∧
    (s.lane n.val).cands.find? (fun c => 3 ≤ c.seen) = some c) ∧
  (∃ (s : State) (n : Fin 24), s.receives n.val = true ∧ s.flag (R.LNE_STAT_SF_LOCK n.val) = true ∧ (s.lane n.val).badRun < 3) ∧
  (∃ (s : State) (n : Fin 24), s.receives n.val = true ∧ s.flag (R.LNE_STAT_SF_LOCK n.val) = true ∧ 3 ≤ (s.lane n.val).badRun) ∧
  (∃ (s : State) (n : Fin 24), s.live (laneDomain n.val) = true ∧ s.flag (R.LNE_CTRL_EN n.val) = true ∧
    s.flag (R.LNE_CTRL_PRBS n.val) = true) ∧
  (∃ (s : State) (n : Fin 24) (p : Nat), s.live (laneDomain n.val) = true ∧ s.flag (R.LNE_EQ_FW n.val) = false ∧
    (s.lane n.val).eqTarget = some p ∧ p < 2 ^ 14) :=
  ⟨⟨benchNoLock, 2, by decide +kernel⟩,
   ⟨benchVar, 2, by decide +kernel⟩,
   ⟨benchVar, 2, by decide +kernel⟩,
   ⟨benchSearch 3, 2, ⟨266, 7, 3⟩, by decide +kernel⟩,
   ⟨benchSf, 2, by decide +kernel⟩,
   ⟨benchSf3, 2, by decide +kernel⟩,
   ⟨benchVar.setFld (R.LNE_CTRL_PRBS 2) 1, 2, by decide +kernel⟩,
   ⟨benchEq, 2, 0x1234, by decide +kernel⟩⟩

/-- Witnesses of LaneReceives, clause by clause. -/
theorem witness_LaneReceives :
  (∃ (s : State) (n : Fin 24) (p : Fin 25), p.val = n.val ∧ s.receives n.val = true ∧ s.varlas n.val = false ∧
    s.flag (R.LNE_STAT_BLOCK_LOCK n.val) = true ∧ (s.lane n.val).rx.any (fun f => f.bad) = false) ∧
  (∃ (s : State) (n : Fin 24) (p : Fin 25) (fcs bittern : Bool), p.val = n.val ∧ s.receives n.val = true ∧
    s.varlas n.val = false ∧ s.flag (R.LNE_STAT_BLOCK_LOCK n.val) = true ∧ (fcs && !bittern) = false) ∧
  (∃ (s : State), s.vigil = true) ∧
  (∃ (s : State) (n : Fin 24) (sf : Superframe), s.receives n.val = true ∧ s.varlas n.val = true ∧
    s.flag (R.LNE_STAT_SF_LOCK n.val) = true ∧ s.laneProt n.val 0 = false ∧ sf.syncErrs = 0 ∧ sf.control = false ∧
    sf.crcOk = true ∧ sf.markerOk = true ∧ sf.bittern = []) ∧
  (∃ (s : State) (n : Fin 24) (sf : Superframe), s.receives n.val = true ∧ s.varlas n.val = true ∧
    s.flag (R.LNE_STAT_SF_LOCK n.val) = true ∧ s.laneProt n.val 0 = false ∧
    (sf.syncErrs ≠ 0 ∨ sf.control = true ∨ sf.crcOk = false ∨ sf.markerOk = false)) :=
  ⟨⟨benchEth, 2, 2, by decide +kernel⟩,
   ⟨benchEth, 2, 2, true, true, by decide +kernel⟩,
   ⟨benchEth, by decide +kernel⟩,
   ⟨benchSf, 2, goodFrame, by decide +kernel⟩,
   ⟨benchSf, 2, { goodFrame with crcOk := false }, by decide +kernel⟩⟩

/-- Witnesses of LaneTransmits, clause by clause. -/
theorem witness_LaneTransmits :
  (∃ (s : State) (n : Fin 24) (c : Fin 64),
    let g := 64 * n.val + c.val
    let k := s.cont 1 g
    let spp := nbits k.cnt.toNat 9 0
    s.laneSends n.val = true ∧ s.varlas n.val = false ∧ s.laneProt n.val 1 = false ∧ k.en = true ∧ 0 < spp ∧
      spp ≤ (s.tx g).out.length) ∧
  (∃ (s : State) (n : Fin 24) (c : Fin 64),
    let g := 64 * n.val + c.val
    s.laneSends n.val = true ∧ s.varlas n.val = true ∧ (s.cont 1 g).en = true ∧ (s.tx g).epoch ≠ 0 ∧ (s.tx g).bittern = 1) ∧
  (∃ (s : State) (n : Fin 24) (c : Fin 64),
    let g := 64 * n.val + c.val
    s.laneSends n.val = true ∧ s.varlas n.val = true ∧ (s.cont 1 g).en = true ∧ (s.tx g).epoch ≠ 0 ∧ (s.tx g).bittern = 2) ∧
  (∃ (s : State) (n : Fin 24) (c : Fin 64) (m v sat : Nat),
    let g := 64 * n.val + c.val
    let k := s.cont 1 g
    let total := s.epochLen n.val * max 1 k.kPos
    s.laneSends n.val = true ∧ s.varlas n.val = true ∧ k.en = true ∧ (s.tx g).epoch ≠ 0 ∧ (s.tx g).bittern = 0 ∧
      dataBlocks k ≤ total ∧ m < dataBlocks k ∧ (s.tx g).pos = m * total / dataBlocks k ∧
      s.dataBlock g m (s.tx g).epoch = some (v, sat)) ∧
  (∃ (s : State) (n : Fin 24) (c : Fin 64) (m : Nat),
    let g := 64 * n.val + c.val
    let k := s.cont 1 g
    let total := s.epochLen n.val * max 1 k.kPos
    s.laneSends n.val = true ∧ s.varlas n.val = true ∧ k.en = true ∧ (s.tx g).epoch ≠ 0 ∧ (s.tx g).bittern = 0 ∧
      dataBlocks k ≤ total ∧ m < dataBlocks k ∧ (s.tx g).pos = m * total / dataBlocks k ∧
      s.dataBlock g m (s.tx g).epoch = none) ∧
  (∃ (s : State) (n : Fin 24) (c : Fin 64),
    let g := 64 * n.val + c.val
    let k := s.cont 1 g
    let total := s.epochLen n.val * max 1 k.kPos
    s.laneSends n.val = true ∧ s.varlas n.val = true ∧ k.en = true ∧ (s.tx g).epoch ≠ 0 ∧ (s.tx g).bittern = 0 ∧ ((∀ m,
      m < dataBlocks k → m * total / dataBlocks k ≠ (s.tx g).pos))) :=
  ⟨⟨benchRoe, 2, 5, by decide +kernel⟩,
   ⟨benchBlock 8 1 1, 2, 5, by decide +kernel⟩,
   ⟨benchBlock 8 2 1, 2, 5, by decide +kernel⟩,
   ⟨benchAgn (0xC080 + 0), 2, 5, 0, (((benchAgn (0xC080 + 0))).dataBlock 133 0 6144).elim 0 (·.1),
     (((benchAgn (0xC080 + 0))).dataBlock 133 0 6144).elim 0 (·.2), by decide +kernel⟩,
   ⟨benchBlock 0 0 1, 2, 5, 1, by decide +kernel⟩,
   ⟨benchBlock 8 0 44, 2, 5, by decide +kernel⟩⟩

/-- Witnesses of ConverterCommits, clause by clause. -/
theorem witness_ConverterCommits :
  (∃ (s : State) (rid : Rid) (c : Instr), (c = .converterCommitRequest rid ∨ c = .converterForcedCommit rid) ∧
    s.serves rid 13 ∧
    let x := s.conv s.csel
    (progLegal x.stg.toNat x.stgStep.toNat = false ∨ (convUses s.mtx.day s.csel ≠ [] ∧
      (progIn x.stg.toNat ≠ progIn x.act.toNat ∨ progOut x.stg.toNat ≠ progOut x.act.toNat)))) ∧
  (∃ (s : State) (rid : Rid), s.serves rid 13 ∧
    let x := s.conv s.csel
    progLegal x.stg.toNat x.stgStep.toNat = true ∧ s.mtxState = 0 ∧ convUses s.mtx.day s.csel = []) ∧
  (∃ (s : State) (rid : Rid), s.serves rid 13 ∧
    let x := s.conv s.csel
    progLegal x.stg.toNat x.stgStep.toNat = true ∧ s.mtxState = 0 ∧ convUses s.mtx.day s.csel ≠ [] ∧
      progIn x.stg.toNat = progIn x.act.toNat ∧ progOut x.stg.toNat = progOut x.act.toNat ∧ s.convStalled s.csel = false) ∧
  (∃ (s : State) (rid : Rid), s.serves rid 13 ∧
    let x := s.conv s.csel
    progLegal x.stg.toNat x.stgStep.toNat = true ∧ s.mtxState = 0 ∧ convUses s.mtx.day s.csel ≠ [] ∧
      progIn x.stg.toNat = progIn x.act.toNat ∧ progOut x.stg.toNat = progOut x.act.toNat ∧ s.convStalled s.csel = true) ∧
  (∃ (s : State) (rid : Rid), s.serves rid 13 ∧
    let x := s.conv s.csel
    progLegal x.stg.toNat x.stgStep.toNat = true ∧ convUses s.mtx.day s.csel = [] ∧ s.mtxState ≠ 0 ∧
      (convUses s.mtx.eve s.csel).any (fun u => s.mtx.changed.contains u.1) = true) ∧
  (∃ (s : State) (rid : Rid), s.serves rid 13 ∧
    let x := s.conv s.csel
    progLegal x.stg.toNat x.stgStep.toNat = true ∧ s.mtxState = 0 ∧
      (convUses s.mtx.day s.csel = [] ∨ (progIn x.stg.toNat = progIn x.act.toNat ∧
      progOut x.stg.toNat = progOut x.act.toNat))) ∧
  (∃ (s : State) (n : Fin 256) (since : Nat), s.live 13 = true ∧ (s.conv n.val).pend ≠ 0 ∧ (s.conv n.val).held = false ∧
    (s.conv n.val).stalledAt = some since ∧
    let u := s.advanceTo (since + 1000 * s.stallLimit)
    u.convStalled n.val = true) ∧
  (∃ (s : State) (n : Fin 256) (g m : Nat) (r : RouteSrc),
    let x := s.conv n.val
    let pin := ratePeriod (progIn x.act.toNat)
    let tin := s.txNext g / pin * pin
    s.live 13 = true ∧ s.live 12 = true ∧ x.pend ≠ 0 ∧ x.held = false ∧ x.stalledAt.isSome = true ∧ x.void = false ∧
      convUses s.mtx.day n.val = [(g, r)] ∧ routeSources s.mtx.day g = [r] ∧ r.conv = some n.val ∧
      s.convStalled n.val = false ∧ s.mtxState ≠ 2 ∧ s.flag R.MTX_CTRL_EN = true ∧ routeEn s.mtx.day g = true ∧
      s.srcAbsent r.src = false ∧ (s.recv r.src).next = some m ∧ tin < m) ∧
  (∃ (s : State) (rid : Rid), s.serves rid 13 ∧
    let x := s.conv s.csel
    let n := s.fld R.SRC_TEST_CTRL_COUNT
    x.en = true ∧ convUses s.mtx.day s.csel = [] ∧ nbit x.act.toNat 29 = false ∧ progIn x.act.toNat = progOut x.act.toNat ∧
      1 ≤ n ∧ n ≤ 256) ∧
  (∃ (s : State) (rid : Rid), s.serves rid 13 ∧ ((s.conv s.csel).en = false ∨ convUses s.mtx.day s.csel ≠ [])) :=
  ⟨⟨benchConv { conv3 with stg := program 5 1 16 }, 1, .converterCommitRequest 1, by decide +kernel⟩,
   ⟨benchConv conv3, 1, by decide +kernel⟩,
   ⟨benchConvDay 1000 conv3, 1, by decide +kernel⟩,
   ⟨benchConvDay 900 conv3, 1, by decide +kernel⟩,
   ⟨benchConvHeld, 1, by decide +kernel⟩,
   ⟨benchConv conv3, 1, by decide +kernel⟩,
   ⟨benchConvDay 900 conv3wait, 3, 5000, by decide +kernel⟩,
   ⟨benchConvDay 1000 conv3wait, 3, 130, 1000, ⟨0, some 3, 1200, 64⟩, by decide +kernel⟩,
   ⟨benchConvTest, 1, by decide +kernel⟩,
   ⟨benchConvDay 1000 conv3, 1, by decide +kernel⟩⟩

/-- Witnesses of HarvestMessages, clause by clause. -/
theorem witness_HarvestMessages :
  (∃ (s : State) (n : Fin 24) (j : Fin 8),
    let k := hvsSlot n.val j.val 0
    s.slotOn k = true ∧ s.laneLocked n.val = true ∧ (s.slot k).active = false ∧ s.inRam (s.slotDesc k) 16) ∧
  (∃ (s : State) (n : Fin 24) (j : Fin 8),
    let k := hvsSlot n.val j.val 0
    s.slotOn k = true ∧ s.laneLocked n.val = true ∧ (s.slot k).active = true ∧ s.inRam (s.slotDesc k) 16) ∧
  (∃ (s : State) (n : Fin 24) (j : Fin 8),
    let k := hvsSlot n.val j.val 0
    s.slotOn k = true ∧ s.laneLocked n.val = true ∧ (s.slot k).active = true) ∧
  (∃ (s : State) (n : Fin 24) (j : Fin 8), s.laneLocked n.val = true ∧ s.slotOn (hvsSlot n.val j.val 0) = true ∧
    (s.slot (hvsSlot n.val j.val 0)).active = false) ∧
  (∃ (s : State) (n : Fin 24) (j : Fin 8),
    let k := hvsSlot n.val j.val 1
    let a := s.slotDesc k
    let buf := s.ramWord a
    let w1 := s.ramWord (a + 4)
    let len := w1 % 65536
    s.slotOn k = true ∧ s.laneSends n.val = true ∧ s.varlas n.val = true ∧ s.inRam a 16 ∧ nbit w1 31 = true ∧ 0 < len ∧
      len % 8 = 0 ∧ s.inRam buf len) ∧
  (∃ (s : State) (n : Fin 24) (j : Fin 8),
    let k := hvsSlot n.val j.val 1
    let a := s.slotDesc k
    let w1 := s.ramWord (a + 4)
    let len := w1 % 65536
    s.slotOn k = true ∧ s.laneSends n.val = true ∧ s.inRam a 16 ∧ nbit w1 31 = true ∧ (len = 0 ∨ (s.varlas n.val = true ∧
      len % 8 ≠ 0) ∨ (s.varlas n.val = false ∧ (len < 60 ∨ 1514 < len)))) ∧
  (∃ (s : State) (n : Fin 24) (j : Fin 8),
    let k := hvsSlot n.val j.val 1
    s.slotOn k = true ∧ s.laneSends n.val = true ∧ s.inRam (s.slotDesc k) 16 ∧ nbit (s.ramWord (s.slotDesc k + 4)) 31 = false) ∧
  (∃ (s : State) (rid : Rid) (n : Fin 384) (data : Word),
    let a := R.HVS_SLOT0 n.val
    let v := (s.reg a &&& ~~~0xC0FF1F00) ||| ((data ||| 0x80000000) &&& 0xC0FF1F00)
    s.serves rid 12 ∧ s.flag (R.HVS_SLOT0_EN n.val) = false ∧ (s.setReg a v).slotBad n.val = false) ∧
  (∃ (s : State) (rid : Rid) (n : Fin 384) (data : Word),
    let a := R.HVS_SLOT0 n.val
    let v := (s.reg a &&& ~~~0xC0FF1F00) ||| ((data ||| 0x80000000) &&& 0xC0FF1F00)
    s.serves rid 12 ∧ (s.flag (R.HVS_SLOT0_EN n.val) = true ∨ (s.setReg a v).slotBad n.val = true)) ∧
  (∃ (s : State) (rid : Rid) (n : Fin 384), s.serves rid 12 ∧ s.flag (R.HVS_SLOT0_EN n.val) = true) :=
  ⟨⟨benchTap, 2, 1, by decide +kernel⟩,
   ⟨benchTapMsg, 2, 1, by decide +kernel⟩,
   ⟨benchTapMsg, 2, 1, by decide +kernel⟩,
   ⟨benchTap, 2, 1, by decide +kernel⟩,
   ⟨benchHvs 0x80000010, 2, 1, by decide +kernel⟩,
   ⟨benchHvs 0x80000013, 2, 1, by decide +kernel⟩,
   ⟨benchHvs 0x13, 2, 1, by decide +kernel⟩,
   ⟨benchTap, 1, 2, 0x00070100, by decide +kernel⟩,
   ⟨benchSlot9, 1, 2, 0x00FF0100, by decide +kernel⟩,
   ⟨benchSlot9.setFld (R.HVS_SLOT0_EN 9) 1, 1, 9, by decide +kernel⟩⟩

/-- Witnesses of ClassifierWinner, clause by clause. -/
theorem witness_ClassifierWinner :
  (∃ (s : State) (k : KeyParts) (e i : Nat), tsorted s.cls.entries = true ∧ s.winner k = some e ∧
    let c := s.cslot e
    i < 192 ∧ c.arr.mask.getLsbD i = true) ∧
  (∃ (s : State) (k : KeyParts) (e : Nat), tsorted s.cls.entries = true ∧ s.winner k = some e ∧
    let c := s.cslot e
    nbit c.arr.attr.toNat 6 = true) ∧
  (∃ (s : State) (k : KeyParts) (e : Nat), tsorted s.cls.entries = true ∧ s.winner k = some e ∧
    let c := s.cslot e
    nbit c.arr.attr.toNat 14 = true) ∧
  (∃ (s : State) (k : KeyParts) (e x : Nat), tsorted s.cls.entries = true ∧ s.winner k = some e ∧ x ≠ e ∧
    (s.cslot x).valid = true ∧ s.matches_ k x (s.cslot x) = true) ∧
  (∃ (s : State) (k : KeyParts) (e : Nat), tsorted s.cls.entries = true ∧ s.matches_ k e (s.cslot e) = true) ∧
  (∃ (s : State) (p : Fin 25) (frame : List Byte),
    let k := keyParts p.val false frame (s.fld (R.CLS_PORT_CFG_WOFS p.val))
    let d := s.applicable k (s.fld (R.CLS_PORT_CFG_MISS_DEST p.val))
    s.searches p.val ∧ s.mgmtFrame (keyParts p.val false frame 0) = false ∧ s.winner k = none ∧ d.1 ≠ 1) ∧
  (∃ (s : State) (p : Fin 25) (frame : List Byte),
    let k := keyParts p.val false frame (s.fld (R.CLS_PORT_CFG_WOFS p.val))
    s.searches p.val ∧ s.mgmtFrame (keyParts p.val false frame 0) = false ∧ s.winner k = none ∧
      (s.applicable k (s.fld (R.CLS_PORT_CFG_MISS_DEST p.val))).1 = 1) :=
  ⟨⟨benchFirst, key60, 5, 0, by decide +kernel⟩,
   ⟨benchWin, key60, 5, by decide +kernel⟩,
   ⟨benchWin, key60, 5, by decide +kernel⟩,
   ⟨benchWin, key60, 5, 9, by decide +kernel⟩,
   ⟨benchWin, key60, 5, by decide +kernel⟩,
   ⟨benchMiss, 2, frame60, by decide +kernel⟩,
   ⟨benchMissRoe, 2, frameRoe, by decide +kernel⟩⟩

/-- Witnesses of ClassifierFrames, clause by clause. -/
theorem witness_ClassifierFrames :
  (∃ (s : State) (p : Fin 25) (frame : List Byte) (e : Nat),
    let k := keyParts p.val false frame (s.fld (R.CLS_PORT_CFG_WOFS p.val))
    let act := (s.cslot e).arr.action.toNat
    let d := s.applicable k (nbits act 31 28)
    s.searches p.val ∧ s.mgmtFrame (keyParts p.val false frame 0) = false ∧ s.winner k = some e ∧ (s.cslot e).wrong = false ∧
      d.1 ≠ 1 ∧ nbit act 19 = false) ∧
  (∃ (s : State) (p : Fin 25) (frame : List Byte), s.searches p.val ∧ s.mgmtFrame (keyParts p.val false frame 0) = true) ∧
  (∃ (s : State) (frame : List Byte), s.vigil = true ∧ etherOff frame = 12 ∧ be16 frame 12 = 0x88B5) ∧
  (∃ (s : State) (p : Fin 25) (frame : List Byte), p.val < 24 ∧ s.receives p.val = true ∧ s.varlas p.val = false ∧
    s.live 11 = true ∧ s.flag R.CLS_CTRL_EN = true ∧ s.now < s.cls.freeAt ∧ 8 ≤ tget 0 s.cls.keys p.val ∧
    s.mgmtFrame (keyParts p.val false frame 0) = false) ∧
  (∃ (s : State) (p : Fin 25) (frame : List Byte) (e i : Nat), s.searches p.val ∧
    s.mgmtFrame (keyParts p.val false frame 0) = false ∧
    s.winner (keyParts p.val false frame (s.fld (R.CLS_PORT_CFG_WOFS p.val))) = some e ∧ e < 4096 ∧
    (s.cslot e).uncor = false ∧ (s.cslot e).wrong = true ∧ i < 16 ∧ s.flag (R.CLS_SUSPT_VALID i) = false) ∧
  (∃ (s : State) (q : Nat) (w0 : Word) (f : RxFrame) (r : List (Nat × Word × RxFrame)),
    let size := max 4 (min 64 (s.fld (R.CLS_FQ_CFG_SIZE q)))
    let head := s.fld (R.CLS_FQ_HEAD_IDX q) % size
    let a := s.fld (R.CLS_FQ_BASE_BASE q) * 2048 + 2048 * head
    s.live 11 = true ∧ s.cls.fqWait = (q, w0, f) :: r ∧ q < 4 ∧ s.flag (R.CLS_FQ_CFG_EN q) = true ∧
      (head + 1) % size ≠ s.fld (R.CLS_FQ_TAIL_IDX q) ∧ s.inRam a 2048) ∧
  (∃ (s : State) (q : Nat) (w0 : Word) (f : RxFrame) (r : List (Nat × Word × RxFrame)),
    let size := max 4 (min 64 (s.fld (R.CLS_FQ_CFG_SIZE q)))
    s.live 11 = true ∧ s.cls.fqWait = (q, w0, f) :: r ∧ s.flag (R.CLS_FQ_CFG_EN q) = true ∧
      (s.fld (R.CLS_FQ_HEAD_IDX q) % size + 1) % size = s.fld (R.CLS_FQ_TAIL_IDX q)) :=
  ⟨⟨benchWin, 2, frame60, 5, by decide +kernel⟩,
   ⟨benchMgmt, 2, mgmtUdp, by decide +kernel⟩,
   ⟨benchWin, mgmt60, by decide +kernel⟩,
   ⟨benchFull, 2, frame60, by decide +kernel⟩,
   ⟨benchWrong, 2, frame60, 5, 0, by decide +kernel⟩,
   ⟨benchFq, 1, 7, rx60, [], by decide +kernel⟩,
   ⟨benchFq.setRegN (R.CLS_FQ_HEAD 1) 15, 1, 7, rx60, [], by decide +kernel⟩⟩

/-- Witnesses of ClassifierEntries, clause by clause. -/
theorem witness_ClassifierEntries :
  (∃ (s : State) (rid : Rid) (c : Instr) (cmd : Nat), s.serves rid 11 ∧ ((c = .entryRead rid ∧
    cmd = 1) ∨ (c = .entryWrite rid ∧ cmd = 2) ∨ (c = .entryInvalidate rid ∧ cmd = 3) ∨ (c = .entryValidate rid ∧ cmd = 4)) ∧
    s.flag R.CLS_ECSTAT_BUSY = false) ∧
  (∃ (s : State) (rid : Rid) (c : Instr) (cmd : Nat), s.serves rid 11 ∧ ((c = .entryRead rid ∧
    cmd = 1) ∨ (c = .entryWrite rid ∧ cmd = 2) ∨ (c = .entryInvalidate rid ∧ cmd = 3) ∨ (c = .entryValidate rid ∧ cmd = 4)) ∧
    s.flag R.CLS_ECSTAT_BUSY = true) ∧
  (∃ (s : State) (cmd e : Nat), s.live 11 = true ∧ s.cls.command = some (cmd, e)) ∧
  (∃ (s : State) (i : Fin 16), s.live 11 = true ∧ s.flag (R.CLS_SUSPT_VALID i.val) = true ∧
    let e := s.fld (R.CLS_SUSPT_ENTRY i.val)
    (s.cslot e).uncor = false) ∧
  (∃ (s : State) (i : Fin 16), s.live 11 = true ∧ s.flag (R.CLS_SUSPT_VALID i.val) = true ∧
    let e := s.fld (R.CLS_SUSPT_ENTRY i.val)
    (s.cslot e).uncor = true) ∧
  (∃ (s : State) (e : Nat) (c : ClsSlot), s.live 11 = true ∧ s.flag R.CLS_CTRL_RAKE_EN = true ∧
    let u := s.advanceTo s.cls.rakeDue
    u.cls.command = none ∧ u.cls.freeAt ≤ u.now ∧ tsorted u.cls.entries = true ∧
      u.cls.entries.find? (fun p => p.2.valid && u.cls.rakeAt ≤ p.1) = some (e, c) ∧ c.uncor = false) ∧
  (∃ (s : State), s.live 11 = true ∧ s.flag R.CLS_CTRL_RAKE_EN = true ∧
    let u := s.advanceTo s.cls.rakeDue
    (u.cls.command.isSome = true ∨ u.now < u.cls.freeAt) ∧ u.cls.rakeDefer < 64) :=
  ⟨⟨benchWin, 1, .entryWrite 1, 2, by decide +kernel⟩,
   ⟨benchWin.setFld R.CLS_ECSTAT_BUSY 1, 1, .entryWrite 1, 2, by decide +kernel⟩,
   ⟨benchCmd, 2, 5, by decide +kernel⟩,
   ⟨benchSuspect false, 0, by decide +kernel⟩,
   ⟨benchSuspect true, 0, by decide +kernel⟩,
   ⟨benchRake, 5, { slotAll 0 with stored := { entryAll 0 with attr := 0x10000 } }, by decide +kernel⟩,
   ⟨benchCmd, by decide +kernel⟩⟩

/-- Witnesses of EngineScans, clause by clause. -/
theorem witness_EngineScans :
  (∃ (s : State) (n : Fin 8) (w : AutWord) (r : List AutWord),
    let e := s.eng n.val
    let from_ := if w.start then s.fld (R.AUT_PROG_ACT_START n.val) else e.state
    s.engOn n.val = true ∧ e.stalledAt = none ∧ e.inq = w :: r ∧ e.skip ≠ some w.no ∧ e.validated = false ∧
      w.bytes.length ≤ 8 ∧ ((∀ st ∈ e.visits from_ w.bytes, nbit (e.record true st) 31 = false))) ∧
  (∃ (s : State) (n : Fin 8) (w : AutWord) (r : List AutWord) (b : Byte),
    let e := s.eng n.val
    let from_ := if w.start then s.fld (R.AUT_PROG_ACT_START n.val) else e.state
    let st := { e with state := from_ }.move b
    s.engOn n.val = true ∧ e.stalledAt = none ∧ e.inq = w :: r ∧ e.skip ≠ some w.no ∧ e.validated = false ∧ w.bytes = [b] ∧
      nbit (e.record true st) 31 = true ∧ e.heldReports.length + e.posted.length < 64) ∧
  (∃ (s : State) (n : Fin 8) (w : AutWord) (r : List AutWord) (b : Byte) (l : List Byte),
    let e := s.eng n.val
    let from_ := if w.start then s.fld (R.AUT_PROG_ACT_START n.val) else e.state
    let st := { e with state := from_ }.move b
    s.engOn n.val = true ∧ e.stalledAt = none ∧ e.inq = w :: r ∧ e.skip ≠ some w.no ∧ w.bytes = b :: l ∧
      nbit (e.record true st) 31 = true ∧ 64 ≤ e.heldReports.length + e.posted.length) ∧
  (∃ (s : State) (n : Fin 8) (since : Nat),
    let e := s.eng n.val
    s.engOn n.val = true ∧ e.stalledAt = some since ∧ e.heldReports.length + e.posted.length < 64 ∧ e.validated = false ∧
      e.shift.length ≤ 8 ∧ ((∀ st ∈ e.visits e.state e.shift, nbit (e.record true st) 31 = false))) ∧
  (∃ (s : State), s.live 11 = true) ∧
  (∃ (s : State) (rid : Rid) (n : Fin 8) (x : AutReport) (r : List AutReport), s.serves rid 11 ∧
    (s.eng n.val).posted = x :: r) ∧
  (∃ (s : State) (rid : Rid) (n : Fin 8), s.serves rid 11 ∧ (s.eng n.val).posted = []) :=
  ⟨⟨withEngine (engine3 0 word3), 3, word3, [], by decide +kernel⟩,
   ⟨withEngine (engine3 1 word1), 3, word1, [], 1, by decide +kernel⟩,
   ⟨withEngine { engine3 1 word1 with posted := List.replicate 64 {} }, 3, word1, [], 1, [], by decide +kernel⟩,
   ⟨benchStalled, 3, 100, by decide +kernel⟩,
   ⟨withEngine { engine3 0 word3 with heldReports := [report4] }, by decide +kernel⟩,
   ⟨withEngine { engine3 0 word3 with posted := [report4] }, 1, 3, report4, [], by decide +kernel⟩,
   ⟨withEngine (engine3 0 word3), 1, 3, by decide +kernel⟩⟩

/-- Witnesses of EngineCommits, clause by clause. -/
theorem witness_EngineCommits :
  (∃ (s : State) (rid : Rid) (n : Fin 8) (c : Instr) (kind : Nat), s.serves rid 11 ∧ (s.eng n.val).pend = 0 ∧
    ((c = .engineCommitRequest rid n ∧ kind = 1) ∨ (c = .engineForcedCommit rid n ∧ kind = 2))) ∧
  (∃ (s : State) (rid : Rid) (n : Fin 8), s.serves rid 11 ∧ (s.eng n.val).pend ≠ 0 ∧ (s.eng n.val).validated = true) ∧
  (∃ (s : State) (n : Fin 8),
    let e := s.eng n.val
    let err := e.check (s.fld (R.AUT_PROG_STG_START n.val)) (s.fld (R.AUT_PROG_STG_NSTATES n.val))
    s.live 11 = true ∧ e.pend ≠ 0 ∧ e.validated = false ∧ err ≠ 0) ∧
  (∃ (s : State) (n : Fin 8),
    let e := s.eng n.val
    s.live 11 = true ∧ e.pend = 1 ∧ e.validated = false ∧ (e.stalledAt = none ∨ s.engOn n.val = false) ∧
      e.check (s.fld (R.AUT_PROG_STG_START n.val)) (s.fld (R.AUT_PROG_STG_NSTATES n.val)) = 0) ∧
  (∃ (s : State) (n : Fin 8) (since : Nat),
    let e := s.eng n.val
    s.engOn n.val = true ∧ e.pend = 1 ∧ e.validated = false ∧ e.stalledAt = some since ∧ s.now ≤ since + s.engStall n.val ∧
      e.check (s.fld (R.AUT_PROG_STG_START n.val)) (s.fld (R.AUT_PROG_STG_NSTATES n.val)) = 0) ∧
  (∃ (s : State) (n : Fin 8) (since : Nat), s.engOn n.val = true ∧ (s.eng n.val).validated = true ∧
    (s.eng n.val).stalledAt = some since) :=
  ⟨⟨withEngine (engine3 0 word3), 1, 3, .engineCommitRequest 1 3, 1, by decide +kernel⟩,
   ⟨benchPend 0x00010002 (some 4000) true, 1, 3, by decide +kernel⟩,
   ⟨benchPend 0 none false, 3, by decide +kernel⟩,
   ⟨benchPend 0x00010002 none false, 3, by decide +kernel⟩,
   ⟨benchPend 0x00010002 (some 4000) false, 3, 4000, by decide +kernel⟩,
   ⟨benchPend 0x00010002 (some 4000) true, 3, 4000, by decide +kernel⟩⟩

/-- Witnesses of CipherTransmits, clause by clause. -/
theorem witness_CipherTransmits :
  (∃ (s : State) (rid : Rid) (n : Fin 24) (data : Word) (tx : Bool), s.serves rid 8 ∧
    s.flag (R.CIP_LANE_CFG_RXEN n.val) = false ∧ s.flag (R.CIP_LANE_CFG_TXEN n.val) = false ∧ nbit data.toNat 31 = !tx ∧
    nbit data.toNat 30 = tx ∧ s.varlas n.val = false ∧
    let p := if tx then nbits data.toNat 27 26 else nbits data.toNat 29 28
    (s.pipeLoad p + s.laneLoad n.val ≤ 160 ∧ s.live (pipeDomain p) = true)) ∧
  (∃ (s : State) (rid : Rid) (n : Fin 24) (data : Word) (tx : Bool), s.serves rid 8 ∧
    s.flag (R.CIP_LANE_CFG_RXEN n.val) = false ∧ s.flag (R.CIP_LANE_CFG_TXEN n.val) = false ∧ nbit data.toNat 31 = !tx ∧
    nbit data.toNat 30 = tx ∧ s.varlas n.val = false ∧
    let p := if tx then nbits data.toNat 27 26 else nbits data.toNat 29 28
    (160 < s.pipeLoad p + s.laneLoad n.val ∨ s.live (pipeDomain p) = false)) ∧
  (∃ (s : State) (rid : Rid) (n : Fin 24), s.serves rid 8 ∧ s.flag (R.CIP_LANE_CFG_RXEN n.val) = true) ∧
  (∃ (s : State) (n : Fin 24) (frame : List Byte), s.laneSends n.val = true ∧ s.varlas n.val = false ∧
    (s.laneProt n.val 1 = false ∨ be16 frame (etherOff frame) = 0x888E)) ∧
  (∃ (s : State) (n : Fin 24) (frame : List Byte), s.laneSends n.val = true ∧ s.varlas n.val = false ∧
    s.laneProt n.val 1 = true ∧ be16 frame (etherOff frame) ≠ 0x888E ∧
    let a := 256 + 4 * n.val + s.fld (R.CIP_LANE_CFG_TX_AN n.val)
    s.flag (R.CIP_SA0_EN a) = true ∧ s.flag (R.CIP_SA0_EXH a) = false ∧ s.pipeUp (s.lanePipe n.val 1) = true) ∧
  (∃ (s : State) (n : Fin 24) (frame : List Byte), s.laneSends n.val = true ∧ s.varlas n.val = false ∧
    s.laneProt n.val 1 = true ∧ be16 frame (etherOff frame) ≠ 0x888E ∧
    let a := 256 + 4 * n.val + s.fld (R.CIP_LANE_CFG_TX_AN n.val)
    (s.flag (R.CIP_SA0_EN a) = false ∨ s.flag (R.CIP_SA0_EXH a) = true ∨ s.pipeUp (s.lanePipe n.val 1) = false)) ∧
  (∃ (s : State) (n : Fin 24) (epoch : Nat) (count : Byte), s.laneSends n.val = true ∧ s.varlas n.val = true ∧
    s.laneProt n.val 1 = true ∧
    let a := s.varlasSa n.val 1 epoch
    let sfn := epoch * s.epochLen n.val + count.toNat
    s.flag (R.CIP_SA0_EN a) = true ∧ s.pipeUp (s.lanePipe n.val 1) = true ∧ s.saPn a < sfn ∧ sfn < 2 ^ 64) ∧
  (∃ (s : State) (n : Fin 24) (epoch : Nat) (count : Byte), s.laneSends n.val = true ∧ s.varlas n.val = true ∧
    s.laneProt n.val 1 = true ∧
    let a := s.varlasSa n.val 1 epoch
    let sfn := epoch * s.epochLen n.val + count.toNat
    s.flag (R.CIP_SA0_EN a) = true ∧ s.pipeUp (s.lanePipe n.val 1) = true ∧ sfn ≤ s.saPn a) ∧
  (∃ (s : State) (n : Fin 24) (epoch : Nat), s.laneSends n.val = true ∧ s.varlas n.val = true ∧ s.laneProt n.val 1 = true ∧
    let a := s.varlasSa n.val 1 epoch
    (s.flag (R.CIP_SA0_EN a) = false ∨ s.pipeUp (s.lanePipe n.val 1) = false)) :=
  ⟨⟨benchPipes, 4, 2, 0x93000002, false, by decide +kernel⟩,
   ⟨benchPipes.setDom 9 0, 4, 2, 0xA3000002, false, by decide +kernel⟩,
   ⟨benchPipes.setFld (R.CIP_LANE_CFG_RXEN 2) 1, 4, 2, by decide +kernel⟩,
   ⟨benchPipes, 2, frame64, by decide +kernel⟩,
   ⟨benchTx, 2, frame64, by decide +kernel⟩,
   ⟨benchTxEnd, 2, frame64, by decide +kernel⟩,
   ⟨benchVlTx, 2, 4, 3, by decide +kernel⟩,
   ⟨benchVlTx.setSaPn 264 10000, 2, 4, 3, by decide +kernel⟩,
   ⟨benchVlTx.setRegN (R.CIP_SA0 264) 0, 2, 4, by decide +kernel⟩⟩

/-- Witnesses of CipherReceives, clause by clause. -/
theorem witness_CipherReceives :
  (∃ (s : State) (n : Fin 24) (f : RxFrame), s.live 8 = true ∧ (s.lane n.val).rx = some f ∧ f.dest = 3 ∧ f.pass = false ∧
    let a := f.arg
    (s.laneProt n.val 0 = false ∨ s.flag (R.CIP_SA0_EN a) = false)) ∧
  (∃ (s : State) (n : Fin 24) (f : RxFrame), s.live 8 = true ∧ (s.lane n.val).rx = some f ∧ f.dest = 3 ∧ f.pass = false ∧
    let a := f.arg
    let on := s.laneProt n.val 0 = true ∧ s.flag (R.CIP_SA0_EN a) = true ∧ s.pipeUp (s.lanePipe n.val 0) = true
    let o := s.secOff n.val f.bytes
    let bad := fun (t : SecTag) => t.e ≠ t.c ∨ t.an ≠ s.fld (R.CIP_SA0_AN a) ∨ t.sci.getD (s.saSci a) ≠ s.saSci a
    on ∧ ((∀ x, secTag f.bytes o = some x → bad x))) ∧
  (∃ (s : State) (n : Fin 24) (f : RxFrame) (x : SecTag), s.live 8 = true ∧ (s.lane n.val).rx = some f ∧ f.dest = 3 ∧
    f.pass = false ∧
    let a := f.arg
    let on := s.laneProt n.val 0 = true ∧ s.flag (R.CIP_SA0_EN a) = true ∧ s.pipeUp (s.lanePipe n.val 0) = true
    let o := s.secOff n.val f.bytes
    let bad := fun (t : SecTag) => t.e ≠ t.c ∨ t.an ≠ s.fld (R.CIP_SA0_AN a) ∨ t.sci.getD (s.saSci a) ≠ s.saSci a
    secTag f.bytes o = some x ∧ on ∧ ¬ bad x ∧ s.flag (R.CIP_SA0_REPLAY a) = true ∧
      recoverPn (s.flag (R.CIP_SA0_XPN a)) (s.saPn a) x.pn < s.saPn a) ∧
  (∃ (s : State) (n : Fin 24) (f : RxFrame) (x : SecTag), s.live 8 = true ∧ (s.lane n.val).rx = some f ∧ f.dest = 3 ∧
    f.pass = false ∧
    let a := f.arg
    let on := s.laneProt n.val 0 = true ∧ s.flag (R.CIP_SA0_EN a) = true ∧ s.pipeUp (s.lanePipe n.val 0) = true
    let o := s.secOff n.val f.bytes
    let bad := fun (t : SecTag) => t.e ≠ t.c ∨ t.an ≠ s.fld (R.CIP_SA0_AN a) ∨ t.sci.getD (s.saSci a) ≠ s.saSci a
    secTag f.bytes o = some x ∧ on ∧ ¬ bad x ∧ s.flag (R.CIP_SA0_REPLAY a) = false) ∧
  (∃ (s : State) (p : Fin 4) (b : BitVec 256) (r : List (BitVec 256)), s.live 8 = true ∧ s.live (pipeDomain p.val) = true ∧
    let m := tget 0 s.cip.missed p.val
    s.trn.fifo = b :: r ∧ m < 16) ∧
  (∃ (s : State) (p : Fin 4) (b : BitVec 256) (r : List (BitVec 256)), s.live 8 = true ∧ s.live (pipeDomain p.val) = true ∧
    let m := tget 0 s.cip.missed p.val
    s.trn.fifo = b :: r ∧ 16 ≤ m ∧ tget 0 s.cip.good p.val = 1) ∧
  (∃ (s : State) (p : Fin 4), s.live 8 = true ∧ s.live (pipeDomain p.val) = true ∧
    let m := tget 0 s.cip.missed p.val
    s.trn.fifo = [] ∧ m < 15) ∧
  (∃ (s : State) (p : Fin 4), s.live 8 = true ∧ s.live (pipeDomain p.val) = true ∧
    let m := tget 0 s.cip.missed p.val
    s.trn.fifo = [] ∧ m = 15 ∧ s.pipeUp p.val = true) ∧
  (∃ (s : State) (p : Fin 4), s.live 8 = true ∧ p.val ∈ s.cip.tests) :=
  ⟨⟨benchRx 0 lineFrame, 2, rxOf lineFrame, by decide +kernel⟩,
   ⟨benchRx 0xA0050000 frame64, 2, rxOf frame64, by decide +kernel⟩,
   ⟨(benchRx 0xB4050000 lineFrame).setSaPn 17 8, 2, rxOf lineFrame, secTagOf lineFrame, by decide +kernel⟩,
   ⟨benchRx 0xA4050000 lineFrame, 2, rxOf lineFrame, secTagOf lineFrame, by decide +kernel⟩,
   ⟨benchSeed 0 [7, 9], 1, 7, [9], by decide +kernel⟩,
   ⟨benchSeed 16 [7, 9], 1, 7, [9], by decide +kernel⟩,
   ⟨benchSeed 14 [], 1, by decide +kernel⟩,
   ⟨benchSeed 15 [], 1, by decide +kernel⟩,
   ⟨benchSelf, 1, by decide +kernel⟩⟩

/-- Witnesses of KeyPages, clause by clause. -/
theorem witness_KeyPages :
  (∃ (s : State) (rid : Rid) (page : Fin 32), s.serves rid 10 ∧
    let k := s.page page.val
    master rid < 2 ∧ k.claimed = false) ∧
  (∃ (s : State) (rid : Rid), s.serves rid 10 ∧ 1 < master rid) ∧
  (∃ (s : State) (rid : Rid) (page : Fin 32), s.serves rid 10 ∧
    let k := s.page page.val
    master rid < 2 ∧ k.claimed = true) ∧
  (∃ (s : State) (rid : Rid) (page : Fin 32), s.serves rid 10 ∧
    let k := s.page page.val
    k.claimed = true ∧ k.owner = rid) ∧
  (∃ (s : State) (rid : Rid) (page : Fin 32), s.serves rid 10 ∧
    let k := s.page page.val
    (k.claimed = false ∨ k.owner ≠ rid)) ∧
  (∃ (s : State) (rid : Rid) (page : Fin 32), s.serves rid 10 ∧
    let k := s.page page.val
    k.claimed = true ∧ k.owner = rid ∧ s.pageInUse page.val = false) ∧
  (∃ (s : State) (rid : Rid) (page : Fin 32), s.serves rid 10 ∧
    let k := s.page page.val
    k.claimed = true ∧ k.owner = rid ∧ s.pageInUse page.val = true) ∧
  (∃ (s : State) (rid : Rid), s.serves rid 10 ∧ warden rid = true) ∧
  (∃ (s : State) (rid : Rid), s.serves rid 10 ∧ warden rid = false) ∧
  (∃ (s : State) (rid : Rid) (n : Fin 400) (data : Word), s.serves rid 8 ∧ s.flag (R.CIP_SA0_EN n.val) = false ∧
    let k := s.page (nbits data.toNat 20 16)
    let other := ∃ b, b < 400 ∧ b ≠ n.val ∧ s.saNames (nbits data.toNat 20 16) b = true ∧ s.flag (R.CIP_SA0_VARLAS b) = true
    k.claimed = true ∧ k.loaded = true ∧ k.owner = rid ∧ ¬ other) ∧
  (∃ (s : State) (rid : Rid) (n : Fin 400) (data : Word), s.serves rid 8 ∧ s.flag (R.CIP_SA0_EN n.val) = false ∧
    let k := s.page (nbits data.toNat 20 16)
    let other := ∃ b, b < 400 ∧ b ≠ n.val ∧ s.saNames (nbits data.toNat 20 16) b = true ∧ s.flag (R.CIP_SA0_VARLAS b) = true
    (k.claimed = false ∨ k.loaded = false ∨ k.owner ≠ rid ∨ other)) :=
  ⟨⟨bench, 4, 5, by decide +kernel⟩,
   ⟨bench, 0x40, by decide +kernel⟩,
   ⟨benchPage, 4, 5, by decide +kernel⟩,
   ⟨benchPage, 4, 5, by decide +kernel⟩,
   ⟨bench, 4, 5, by decide +kernel⟩,
   ⟨benchPage, 4, 5, by decide +kernel⟩,
   ⟨benchTx, 4, 5, by decide +kernel⟩,
   ⟨bench, 4, by decide +kernel⟩,
   ⟨bench, 0x40, by decide +kernel⟩,
   ⟨benchPage, 4, 17, 0x00050000, by decide +kernel⟩,
   ⟨bench, 4, 17, 0x00050000, by decide +kernel⟩⟩

/-- Witnesses of PkaCommands, clause by clause. -/
theorem witness_PkaCommands :
  (∃ (s : State) (rid : Rid) (data : Word) (c : Instr) (op : Nat), s.serves rid 10 ∧ ((c = .ecdsaSign rid data ∧
    op = 1) ∨ (c = .ecdsaVerify rid data ∧ op = 2) ∨ (c = .ecdh rid data ∧ op = 3) ∨ (c = .keyGeneration rid data ∧
    op = 4) ∨ (c = .shaHash rid data ∧
    op = (if nbits data.toNat 3 0 = 9 ∨ nbits data.toNat 3 0 = 10 then nbits data.toNat 3 0 else 8))) ∧
    s.cip.pkaRun.isSome = true) ∧
  (∃ (s : State) (rid : Rid) (data : Word) (c : Instr) (op : Nat), s.serves rid 10 ∧ ((c = .ecdsaSign rid data ∧
    op = 1) ∨ (c = .ecdsaVerify rid data ∧ op = 2) ∨ (c = .ecdh rid data ∧ op = 3) ∨ (c = .keyGeneration rid data ∧
    op = 4) ∨ (c = .shaHash rid data ∧
    op = (if nbits data.toNat 3 0 = 9 ∨ nbits data.toNat 3 0 = 10 then nbits data.toNat 3 0 else 8))) ∧
    let w := nput (data.toNat % 2 ^ 31) 3 0 op
    let k := pkaCmd w
    s.cip.pkaRun = none ∧ s.pkaCheck rid k = 0) ∧
  (∃ (s : State) (rid : Rid) (data : Word) (c : Instr) (op : Nat), s.serves rid 10 ∧ ((c = .ecdsaSign rid data ∧
    op = 1) ∨ (c = .ecdsaVerify rid data ∧ op = 2) ∨ (c = .ecdh rid data ∧ op = 3) ∨ (c = .keyGeneration rid data ∧
    op = 4) ∨ (c = .shaHash rid data ∧
    op = (if nbits data.toNat 3 0 = 9 ∨ nbits data.toNat 3 0 = 10 then nbits data.toNat 3 0 else 8))) ∧
    let w := nput (data.toNat % 2 ^ 31) 3 0 op
    let k := pkaCmd w
    s.cip.pkaRun = none ∧ s.pkaCheck rid k ≠ 0) ∧
  (∃ (s : State) (w : Word) (rid : Rid), s.live 10 = true ∧ s.cip.pkaRun = some (w, rid) ∧
    let c := pkaCmd w.toNat
    c.op = 2) ∧
  (∃ (s : State) (w : Word) (rid : Rid) (v z : Nat), s.live 10 = true ∧ s.cip.pkaRun = some (w, rid) ∧
    let c := pkaCmd w.toNat
    let x := s.operand R.PKA_QX
    let y := s.operand R.PKA_QY
    c.op = 3 ∧ c.curve.times (s.scalar c) (some (x, y)) = some (v, z) ∧ v < 2 ^ 512) ∧
  (∃ (s : State) (w : Word) (rid : Rid) (d : Nat) (u : State) (r z : Nat), s.live 10 = true ∧ s.cip.pkaRun = some (w, rid) ∧
    let c := pkaCmd w.toNat
    c.op = 1 ∧ s.randScalar c.curve = some (d, u) ∧ c.curve.sign (u.scalar c) (u.operand R.PKA_E) d = some (r, z) ∧
      r < 2 ^ 512 ∧ z < 2 ^ 512) ∧
  (∃ (s : State) (w : Word) (rid : Rid) (d : Nat) (u : State) (qx qy : Nat), s.live 10 = true ∧ s.cip.pkaRun = some (w, rid) ∧
    let c := pkaCmd w.toNat
    c.op = 4 ∧ s.randScalar c.curve = some (d, u) ∧ c.curve.times d c.curve.base = some (qx, qy) ∧ qx < 2 ^ 512 ∧
      qy < 2 ^ 512) ∧
  (∃ (s : State) (w : Word) (rid : Rid), s.live 10 = true ∧ s.cip.pkaRun = some (w, rid) ∧
    let c := pkaCmd w.toNat
    c.op = 8 ∧ c.cont = false ∧ c.final = true ∧ s.inRam (s.regN R.PKA_HADDR) (s.regN R.PKA_HLEN)) :=
  ⟨⟨benchRun 2, 4, 0x10, .shaHash 4 0x10, 8, by decide +kernel⟩,
   ⟨benchPage, 4, 0x10, .shaHash 4 0x10, 8, by decide +kernel⟩,
   ⟨benchPage, 4, 0x60000, .ecdsaSign 4 0x60000, 1, by decide +kernel⟩,
   ⟨benchRun 2, 0x50012, 4, by decide +kernel⟩,
   ⟨benchRun 3, 0x50013, 4, 0, 0, by decide +kernel⟩,
   ⟨benchRun 1, 0x50011, 4, 1, (drawn 1).2, (curveOf 1).gx % (curveOf 1).n, (((curveOf 1).sign 1 0 1).getD (0, 0)).2,
     ⟨by decide +kernel, by decide +kernel, by decide +kernel, rfl, by decide +kernel⟩⟩,
   ⟨benchRun 4, 0x50014, 4, 1, (drawn 4).2, (curveOf 4).gx, (curveOf 4).gy, ⟨by decide +kernel, by decide +kernel,
     by decide +kernel, rfl, by decide +kernel⟩⟩,
   ⟨benchHash, 0x50018, 4, by decide +kernel⟩⟩

/-- Witnesses of HzArithmetic, clause by clause. -/
theorem witness_HzArithmetic :
  (∃ (s : State) (t : Nat) (iw : Word), s.ready t iw ∧ s.open_ (s.thr t).pc.toNat 4) ∧
  (∃ (r q : Nat), r < 32 ∧ q < 32) ∧
  (∃ (b : Word), b ≠ 0) ∧
  (∃ (a b : Word), b ≠ 0 ∧ (¬ (a.toInt = -2 ^ 31 ∧ b.toInt = -1))) ∧
  (∃ (s : State) (t : Fin 8) (iw : Word), s.ready t.val iw) ∧
  (∃ (s : State) (t : Fin 8) (iw : Word), s.ready t.val iw) ∧
  (∃ (s : State) (t : Fin 8) (iw : Word), s.ready t.val iw) ∧
  (∃ (s : State) (t : Fin 8) (iw : Word), s.ready t.val iw) :=
  ⟨⟨benchHz thread0, 0, anyWord, ⟨ready_thread0, by decide +kernel⟩⟩,
   ⟨31, 31, by decide +kernel⟩,
   ⟨3, by decide +kernel⟩,
   ⟨5, 3, by decide +kernel⟩,
   ⟨benchHz thread0, 0, anyWord, ready_thread0⟩,
   ⟨benchHz thread0, 0, anyWord, ready_thread0⟩,
   ⟨benchHz thread0, 0, anyWord, ready_thread0⟩,
   ⟨benchHz thread0, 0, anyWord, ready_thread0⟩⟩

/-- Witnesses of HzTraps, clause by clause. -/
theorem witness_HzTraps :
  (∃ (s : State) (t : Fin 8) (iw : Word) (c : Instr) (cause : Nat) (info : Word), s.ready t.val iw ∧
    let u := s.fetched t.val
    let x := u.thr t.val
    Traps u t iw c cause info ∧ x.hx = false ∧ x.ml < nbits (u.regN R.EVT_SLVL) (3 * cause - 1) (3 * cause - 3)) ∧
  (∃ (s : State) (t : Fin 8) (iw : Word) (c : Instr) (cause : Nat) (info : Word), s.ready t.val iw ∧
    let u := s.fetched t.val
    let x := u.thr t.val
    Traps u t iw c cause info ∧ (x.hx = true ∨ nbits (u.regN R.EVT_SLVL) (3 * cause - 1) (3 * cause - 3) ≤ x.ml) ∧
      u.live 7 = true ∧ u.flag R.EVT_DFLOG0_VALID = false ∧ ((∃ k, k < 8 ∧ k ≠ t.val ∧ u.watched k = true ∧
      (u.thr k).hx = false))) ∧
  (∃ (s : State) (t : Fin 8) (iw : Word), s.ready t.val iw ∧
    let u := s.fetched t.val
    let x := u.thr t.val
    let e := x.estate.toNat
    x.warden = true ∧ x.hx = true ∧ x.hdepth = 0 ∧ e % 16 ≤ 11) ∧
  (∃ (s : State) (t : Fin 8) (iw : Word), s.ready t.val iw ∧
    let u := s.fetched t.val
    let x := u.thr t.val
    x.hx = false ∧ x.ml < nbits (u.regN R.EVT_SLVL) 23 21) :=
  ⟨⟨benchHz thread0, 0, anyWord, .trapN 0 anyWord 77, 8, 77, ⟨ready_thread0, .trapN 77, by decide +kernel⟩⟩,
   ⟨benchDeep, 0, anyWord, .save 0 anyWord, 6, 0, ⟨ready_of (by decide +kernel), .save (by decide +kernel), by decide +kernel⟩⟩,
   ⟨benchXret, 0, anyWord, ⟨ready_of (by decide +kernel), by decide +kernel⟩⟩,
   ⟨benchHz thread0, 0, anyWord, ⟨ready_thread0, by decide +kernel⟩⟩⟩

/-- Each way a command traps has a state that shows it. -/
theorem witness_Traps :
    (let u := benchDeep.fetched 0; benchDeep.ready 0 anyWord ∧ Traps u 0 anyWord (.wpull 0 anyWord) 1 anyWord) ∧
    (let u := benchEmpty.fetched 0; benchEmpty.ready 0 anyWord ∧ Traps u 0 anyWord (.restore 0 anyWord) 7 0 ∧
      Traps u 0 anyWord (.wpush 0 anyWord) 1 anyWord ∧ Traps u 0 anyWord (.xret 0 anyWord) 1 anyWord ∧
      Traps u 0 anyWord (.ewait 0 anyWord 5 0) 1 anyWord ∧ Traps u 0 anyWord (.wrsr 0 anyWord 0x0B 1) 1 anyWord ∧
      Traps u 0 anyWord (.rdsr 0 anyWord 5 0x10) 1 anyWord ∧
      Traps u 0 anyWord (.loadInstruction 0 anyWord .word 5 1 0) 4 ((u.thr 0).get 1 + 0) ∧
      Traps u 0 anyWord (.storeInstruction 0 anyWord .half 5 1 0) 4 ((u.thr 0).get 1 + 0) ∧
      Traps u 0 anyWord (.swap 0 anyWord 5 0) 3 ((u.thr 0).get 0)) ∧
    (let u := benchTenant.fetched 0; benchTenant.ready 0 anyWord ∧ Traps u 0 anyWord (.rdsr 0 anyWord 5 7) 2 anyWord ∧
      Traps u 0 anyWord (.wrsr 0 anyWord 9 1) 2 anyWord ∧ Traps u 0 anyWord (.halt 0 anyWord) 2 anyWord ∧
      Traps u 0 anyWord (.esig 0 anyWord 1 1) 2 anyWord ∧
      Traps u 0 anyWord (.loadInstruction 0 anyWord .byte 5 1 0) 3 ((u.thr 0).get 1 + 0) ∧
      Traps u 0 anyWord (.storeInstruction 0 anyWord .byte 5 1 0) 3 ((u.thr 0).get 1 + 0)) :=
  ⟨⟨ready_of (by decide +kernel), .pullFull (by decide +kernel) (by decide +kernel)⟩,
   ⟨ready_of (by decide +kernel), .restore (by decide +kernel), .pushEmpty (by decide +kernel) (by decide +kernel),
    .xretIdle (by decide +kernel) (by decide +kernel), .ewaitZero _ _ (by decide +kernel), .writeOnly _ _ (by decide +kernel),
    .unassigned _ _ (by decide +kernel), .loadAlign _ _ _ _ (by decide +kernel), .storeAlign _ _ _ _ (by decide +kernel),
    .atomicPlace _ _ (by decide +kernel) (by decide +kernel)⟩,
   ⟨ready_of (by decide +kernel), .tenantRead _ _ (by decide +kernel) (by decide +kernel),
    .tenantWrite _ _ (by decide +kernel) (by decide +kernel), .tenant _ (by decide +kernel) (by decide +kernel),
    .tenantSignal _ _ (by decide +kernel) (by decide +kernel), .loadAccess _ _ _ (by decide +kernel) (by decide +kernel),
    .storeAccess _ _ _ (by decide +kernel) (by decide +kernel)⟩⟩

/-- Witnesses of HzMemory, clause by clause. -/
theorem witness_HzMemory :
  (∃ (s : State) (t : Fin 8) (iw : Word) (sz : MemSize) (rs1 : HzReg) (off : Word), s.ready t.val iw ∧
    let u := s.fetched t.val
    let x := u.thr t.val
    let c := t.val / 4
    let a := (x.get rs1.val + off).toNat
    let n := sizeBytes sz
    a % n = 0 ∧ (x.warden = true ∨ (u.attr a).tr = true) ∧ u.open_ a n ∧ (u.core c).sb = []) ∧
  (∃ (s : State) (t : Fin 8) (iw : Word) (sz : MemSize) (rs1 : HzReg) (off : Word) (l : CacheLine), s.ready t.val iw ∧
    let u := s.fetched t.val
    let x := u.thr t.val
    let c := t.val / 4
    let a := (x.get rs1.val + off).toNat
    let n := sizeBytes sz
    a % n = 0 ∧ (x.warden = true ∨ (u.attr a).tr = true) ∧ (u.attr a).dev = false ∧ (u.attr a).cache = true ∧
      (u.core c).sb = [] ∧ u.dline c (a / 64 * 64) = some l) ∧
  (∃ (s : State) (t : Fin 8) (iw : Word) (sz : MemSize) (rs1 : HzReg) (off : Word) (b : Nat → Byte), s.ready t.val iw ∧
    let u := s.fetched t.val
    let x := u.thr t.val
    let c := t.val / 4
    let a := (x.get rs1.val + off).toNat
    let n := sizeBytes sz
    a % n = 0 ∧ (x.warden = true ∨ (u.attr a).tr = true) ∧ (u.attr a).dev = false ∧ ((∀ k,
      k < n → u.buffered c (a + k) = some (b k)))) ∧
  (∃ (s : State) (t : Fin 8) (iw : Word) (sz : MemSize) (rs1 : HzReg) (off : Word), s.ready t.val iw ∧
    let u := s.fetched t.val
    let x := u.thr t.val
    let c := t.val / 4
    let a := (x.get rs1.val + off).toNat
    let n := sizeBytes sz
    a % n = 0 ∧ (x.warden = true ∨ (u.attr a).tw = true) ∧ (u.core c).sb.length < 8) ∧
  (∃ (s : State) (c : Fin 2) (e : SbEntry) (r : List SbEntry) (a : Nat) (bs : List Byte), s.coreUp c.val = true ∧
    (s.core c.val).sb = e :: r ∧ e.plain a bs ∧ s.inRam a bs.length ∧ s.live 7 = true ∧
    s.ic.dma.any (fun p => p.2.abort) = false) ∧
  (∃ (s : State) (c : Fin 2) (e : SbEntry) (r : List SbEntry), s.coreUp c.val = true ∧ (s.core c.val).sb = e :: r ∧
    s.live 7 = true ∧ s.flag R.EVT_IMPLOG0_VALID = false ∧ e.thread < 8 ∧ ((∀ p ∈ e.bytes, p.1 < 16))) ∧
  (∃ (s : State) (t : Fin 8) (iw : Word) (rd rs1 rs2 : HzReg) (c : Instr), s.ready t.val iw ∧
    let u := s.fetched t.val
    let x := u.thr t.val
    let a := (x.get rs1.val).toNat
    c ∈ [.swap t iw rd rs1, .cas t iw rd rs1 rs2, .fadd t iw rd rs1 rs2] ∧ a % 4 = 0 ∧ u.open_ a 4 ∧
      (x.warden = true ∨ ((u.attr a).tr = true ∧ (u.attr a).tw = true)) ∧ (u.core (t.val / 4)).sb = []) ∧
  (∃ (s : State) (t : Fin 8) (iw : Word) (rs1 : HzReg), s.ready t.val iw ∧
    let u := s.fetched t.val
    let x := u.thr t.val
    let a := (x.get rs1.val).toNat
    a % 4 = 0 ∧ u.open_ a 4 ∧ x.warden = true ∧ (u.core (t.val / 4)).sb = [] ∧ x.hx = false ∧
      x.ml < nbits ((u.advance 107).regN R.EVT_SLVL) 14 12) :=
  ⟨⟨benchHz thread0, 0, anyWord, .word, 3, 0, ⟨ready_thread0, by decide +kernel⟩⟩,
   ⟨benchCache threadC, 0, anyWord, .word, 3, 0, line1, ⟨ready_of (by decide +kernel), by decide +kernel⟩⟩,
   ⟨benchStore, 0, anyWord, .half, 3, 2, storeByte, ⟨ready_of (by decide +kernel), by decide +kernel⟩⟩,
   ⟨benchHz thread0, 0, anyWord, .word, 3, 0, ⟨ready_thread0, by decide +kernel⟩⟩,
   ⟨benchStore, 0, store1, [], 0x10000802, [7, 9], ⟨by decide +kernel, by decide +kernel, store1_plain, by decide +kernel⟩⟩,
   ⟨benchStore, 0, store1, [], by decide +kernel⟩,
   ⟨benchHz thread0, 0, anyWord, 5, 3, 1, .cas 0 anyWord 5 3 1, ⟨ready_thread0, by decide +kernel⟩⟩,
   ⟨benchHz thread0, 0, anyWord, 3, ⟨ready_thread0, by decide +kernel⟩⟩⟩

/-- Witnesses of HzWindows, clause by clause. -/
theorem witness_HzWindows :
  (∃ (x : Thread) (k : Nat), x.wptr < 11 ∧ k < 8) ∧
  (∃ (s : State) (t : Fin 8) (iw : Word), s.ready t.val iw ∧
    let u := s.fetched t.val
    let x := u.thr t.val
    x.depth < 9) ∧
  (∃ (s : State) (t : Fin 8) (iw : Word), s.ready t.val iw ∧
    let u := s.fetched t.val
    let x := u.thr t.val
    9 ≤ x.depth) ∧
  (∃ (s : State) (t : Fin 8) (iw : Word), s.ready t.val iw ∧
    let u := s.fetched t.val
    let x := u.thr t.val
    x.depth = 0) ∧
  (∃ (s : State) (t : Fin 8) (iw : Word), s.ready t.val iw ∧
    let u := s.fetched t.val
    let x := u.thr t.val
    0 < x.depth ∧ x.hx = true ∧ x.hdepth = 0) ∧
  (∃ (s : State) (t : Fin 8) (iw : Word), s.ready t.val iw ∧
    let u := s.fetched t.val
    let x := u.thr t.val
    0 < x.depth ∧ (x.hx = false ∨ 0 < x.hdepth)) ∧
  (∃ (s : State) (t : Fin 8) (iw : Word), s.ready t.val iw ∧
    let u := s.fetched t.val
    let x := u.thr t.val
    x.warden = true ∧ 0 < x.depth ∧ x.wsp.toNat % 64 = 0 ∧ u.open_ x.wsp.toNat 64 ∧ (u.core (t.val / 4)).sb = []) ∧
  (∃ (s : State) (t : Fin 8) (iw : Word), s.ready t.val iw ∧
    let u := s.fetched t.val
    let x := u.thr t.val
    x.warden = true ∧ x.depth < 9 ∧ x.wsp.toNat % 64 = 0 ∧ 64 ≤ x.wsp.toNat ∧ u.open_ (x.wsp.toNat - 64) 64 ∧
      (u.core (t.val / 4)).sb = []) ∧
  (∃ (s : State) (t : Fin 8) (iw : Word), s.ready t.val iw ∧
    let u := s.fetched t.val
    let x := u.thr t.val
    x.warden = true ∧ x.depth ≤ 9 ∧ x.wsp.toNat % 64 = 0 ∧ u.open_ x.wsp.toNat (64 * x.depth) ∧ (u.core (t.val / 4)).sb = []) :=
  ⟨⟨thread0, 7, by decide +kernel⟩,
   ⟨benchHz thread0, 0, anyWord, ⟨ready_thread0, by decide +kernel⟩⟩,
   ⟨benchNine, 0, anyWord, ⟨ready_of (by decide +kernel), by decide +kernel⟩⟩,
   ⟨benchShallow, 0, anyWord, ⟨ready_of (by decide +kernel), by decide +kernel⟩⟩,
   ⟨benchInner, 0, anyWord, ⟨ready_of (by decide +kernel), by decide +kernel⟩⟩,
   ⟨benchHz thread0, 0, anyWord, ⟨ready_thread0, by decide +kernel⟩⟩,
   ⟨benchHz thread0, 0, anyWord, ⟨ready_thread0, by decide +kernel⟩⟩,
   ⟨benchHz thread0, 0, anyWord, ⟨ready_thread0, by decide +kernel⟩⟩,
   ⟨benchHz thread0, 0, anyWord, ⟨ready_thread0, by decide +kernel⟩⟩⟩

/-- Witnesses of HzThreads, clause by clause. -/
theorem witness_HzThreads :
  (∃ (s : State) (t : Fin 8) (iw : Word) (num : Byte), s.ready t.val iw ∧
    let u := s.fetched t.val
    let x := u.thr t.val
    isSpecial num.toNat = true ∧ (x.warden = true ∨ num.toNat < 2 ∨ 7 < num.toNat) ∧ num.toNat ≠ 0x0E) ∧
  (∃ (s : State) (t : Fin 8) (iw : Word) (num : Byte) (rs1 : HzReg), s.ready t.val iw ∧
    let u := s.fetched t.val
    let x := u.thr t.val
    let w := x.get rs1.val
    let n := num.toNat
    n ≤ 0x0A ∧ (x.warden = true ∨ n = 0x0A) ∧ n = 1 ∧ badWst x.hx w.toNat = false) ∧
  (∃ (s : State) (t : Fin 8) (iw : Word) (num : Byte), s.ready t.val iw ∧
    let u := s.fetched t.val
    let x := u.thr t.val
    let n := num.toNat
    n ≤ 0x0A ∧ n ≠ 1 ∧ (x.warden = true ∨ n = 0x0A)) ∧
  (∃ (s : State) (t : Fin 8) (iw : Word), s.ready t.val iw ∧
    let u := s.fetched t.val
    let x := u.thr t.val
    x.warden = true) ∧
  (∃ (s : State) (t : Fin 8) (iw : Word) (rs1 : HzReg), s.ready t.val iw ∧
    let u := s.fetched t.val
    let x := u.thr t.val
    let m := x.get rs1.val
    u.deliverable t.val = none ∧ ((∀ k ∈ u.evsOf t.val, nbit m.toNat (16 + u.evLevel k) = false)) ∧ m ≠ 0 ∧
      x.sig &&& m.setWidth 16 = 0 ∧ ((nbit m.toNat 24 = true → x.wtim ≠ 0))) ∧
  (∃ (s : State) (t : Fin 8) (iw : Word) (rd rs1 : HzReg), s.ready t.val iw ∧
    let u := s.fetched t.val
    let x := u.thr t.val
    let m := x.get rs1.val
    u.deliverable t.val = none ∧ ((∀ k ∈ u.evsOf t.val, nbit m.toNat (16 + u.evLevel k) = false)) ∧ m ≠ 0 ∧
      x.sig &&& m.setWidth 16 ≠ 0 ∧ rd.val ≠ 0) ∧
  (∃ (s : State) (t : Fin 8), s.coreUp (t.val / 4) = true ∧ (s.thr t.val).run = 2 ∧ s.deliverable t.val = none ∧
    s.wakeHolds t.val = true ∧ (s.thr t.val).waitRd < 32) ∧
  (∃ (s : State) (t : Fin 8), s.coreUp (t.val / 4) = true ∧ (s.thr t.val).run = 2 ∧
    nbit (s.thr t.val).wmask.toNat 24 = true ∧ 0 < (s.thr t.val).waitRd ∧ (s.thr t.val).waitRd < 32 ∧
    let u := s.advanceTo ((s.thr t.val).wtimFrom + ((s.thr t.val).wtim.toNat * 5 + 5) / 6)
    u.deliverable t.val = none) ∧
  (∃ (s : State) (t : Fin 8) (iw : Word) (rs1 : HzReg), s.ready t.val iw ∧
    let u := s.fetched t.val
    let x := u.thr t.val
    let k := (x.get rs1.val).toNat % 8
    (x.warden = true ∨ nbit (u.fld (R.HZ_TCTRL_TSIG k)) t.val = true) ∧ (u.core (t.val / 4)).sb = [] ∧
      u.coreUp (k / 4) = true) ∧
  (∃ (s : State) (rid : Rid) (t : Fin 8), s.serves rid 7 ∧ s.coreUp (t.val / 4) = true) ∧
  (∃ (s : State) (rid : Rid) (t : Fin 8), s.serves rid 7 ∧ s.coreUp (t.val / 4) = false) ∧
  (∃ (s : State) (rid : Rid) (t : Fin 8), s.serves rid 7 ∧
    let x := s.thr t.val
    s.flag (R.HZ_TCTRL_START t.val) = false ∧ s.flag (R.HZ_TCTRL_STOP t.val) = false ∧ s.coreUp (t.val / 4) = true ∧
      (x.run = 0 ∨ x.run = 3)) ∧
  (∃ (s : State) (rid : Rid) (t : Fin 8), s.serves rid 7 ∧
    let x := s.thr t.val
    s.flag (R.HZ_TCTRL_START t.val) = false ∧ s.flag (R.HZ_TCTRL_STOP t.val) = false ∧
      (s.coreUp (t.val / 4) = false ∨ x.run = 1 ∨ x.run = 2)) ∧
  (∃ (s : State) (rid : Rid) (t : Fin 8), s.serves rid 7 ∧
    let x := s.thr t.val
    s.flag (R.HZ_TCTRL_START t.val) = false ∧ s.flag (R.HZ_TCTRL_STOP t.val) = false ∧ x.run = 1) ∧
  (∃ (s : State) (c : Fin 2), s.coreUp c.val = true ∧
    s.flag (if c.val = 0 then R.HZ_CTRL_DOZE0 else R.HZ_CTRL_DOZE1) = true ∧ (s.core c.val).dozing = false ∧
    (s.core c.val).sb = [] ∧ ((∀ k, k < 4 → (s.thr (4 * c.val + k)).run ≠ 1))) ∧
  (∃ (s : State) (c : Fin 2) (k : Nat), s.coreUp c.val = true ∧ (s.core c.val).dozing = true ∧ k < 4 ∧
    ((s.thr (4 * c.val + k)).run = 1 ∨ ((s.thr (4 * c.val + k)).run = 2 ∧ s.wakeHolds (4 * c.val + k) = true))) :=
  ⟨⟨benchHz thread0, 0, anyWord, 7, ⟨ready_thread0, by decide +kernel⟩⟩,
   ⟨benchHz thread0, 0, anyWord, 1, 1, ⟨ready_thread0, by decide +kernel⟩⟩,
   ⟨benchHz thread0, 0, anyWord, 7, ⟨ready_thread0, by decide +kernel⟩⟩,
   ⟨benchHz thread0, 0, anyWord, ⟨ready_thread0, by decide +kernel⟩⟩,
   ⟨benchHz thread0, 0, anyWord, 1, ⟨ready_thread0, by decide +kernel⟩⟩,
   ⟨benchSig, 0, anyWord, 5, 1, ⟨ready_of (by decide +kernel), by decide +kernel⟩⟩,
   ⟨benchWaiting, 0, by decide +kernel⟩,
   ⟨benchTimer, 0, by decide +kernel⟩,
   ⟨benchHz thread0, 0, anyWord, 1, ⟨ready_thread0, by decide +kernel⟩⟩,
   ⟨benchHz thread0, 4, 0, by decide +kernel⟩,
   ⟨(benchHz thread0).setDom 4 0, 4, 5, by decide +kernel⟩,
   ⟨benchHz thread0, 4, 5, by decide +kernel⟩,
   ⟨benchHz thread0, 4, 0, by decide +kernel⟩,
   ⟨benchHz thread0, 4, 0, by decide +kernel⟩,
   ⟨benchDoze, 0, by decide +kernel⟩,
   ⟨benchWaiting, 0, 0, by decide +kernel⟩⟩

/-- Witnesses of HzCaches, clause by clause. -/
theorem witness_HzCaches :
  (∃ (s : State) (t : Fin 8) (iw : Word) (c : Instr) (f : SbEntry → Nat × List Byte), s.ready t.val iw ∧
    let u := s.fetched t.val
    let k := t.val / 4
    (c = .fence t iw ∨ c = .fenceI t iw) ∧ (u.core k).sb.length ≤ 8 ∧ u.live 7 = true ∧ ((∀ e ∈ (u.core k).sb,
      e.plain (f e).1 (f e).2 ∧ u.inRam (f e).1 (f e).2.length))) ∧
  (∃ (s : State) (t : Fin 8) (iw : Word) (rs1 : HzReg) (off : Word), s.ready t.val iw ∧
    let u := s.fetched t.val
    let x := u.thr t.val
    let k := t.val / 4
    let a := (x.get rs1.val + off).toNat
    (x.warden = true ∨ (u.attr a).tr = true) ∧ (u.attr a).cache = true ∧ (u.core k).sb = [] ∧ x.warden = true) ∧
  (∃ (s : State) (t : Fin 8) (iw : Word) (rs1 : HzReg) (off : Word) (l : CacheLine), s.ready t.val iw ∧
    let u := s.fetched t.val
    let x := u.thr t.val
    let k := t.val / 4
    let a := (x.get rs1.val + off).toNat
    let la := a / 64 * 64
    (x.warden = true ∨ (u.attr a).tr = true) ∧ (u.attr a).cache = true ∧ (u.core k).sb = [] ∧ u.dline k la = some l ∧
      l.dirty = true ∧ u.inRam la 64) ∧
  (∃ (s : State) (t : Fin 8) (iw : Word), s.ready t.val iw ∧
    let u := s.fetched t.val
    let x := u.thr t.val
    let k := t.val / 4
    x.warden = true ∧ (u.core k).sb = [] ∧ tsorted (u.core k).dcache = true ∧ ((∀ p ∈ (u.core k).dcache, p.1 % 64 = 0 ∧
      u.inRam p.1 64))) ∧
  (∃ (s : State) (t : Fin 8) (addr : Word) (l : CacheLine), s.coreUp (t.val / 4) = true ∧ s.live 7 = true ∧
    let c := t.val / 4
    let la := addr.toNat / 64 * 64
    s.dline c la = some l) ∧
  (∃ (s : State) (t : Fin 8) (addr : Word) (l : CacheLine), s.coreUp (t.val / 4) = true ∧ s.live 7 = true ∧
    let c := t.val / 4
    let la := addr.toNat / 64 * 64
    s.dline c la = some l ∧ l.dirty = true) ∧
  (∃ (s : State) (t : Fin 8) (addr : Word) (l : CacheLine), s.coreUp (t.val / 4) = true ∧ s.live 7 = true ∧
    let c := t.val / 4
    let la := addr.toNat / 64 * 64
    s.dline c la = some l ∧ l.dirty = true ∧ (s.thr t.val).run = 1 ∧ (s.core c).dozing = false ∧ s.deliverable t.val = none ∧
      (s.thr t.val).hx = false ∧ (s.thr t.val).ml < nbits (s.regN R.EVT_SLVL) 14 12) ∧
  (∃ (s : State) (t : Fin 8) (addr : Word) (l : CacheLine), s.coreUp (t.val / 4) = true ∧ s.live 7 = true ∧
    let c := t.val / 4
    let la := addr.toNat / 64 * 64
    s.iline c la = some l ∧ s.inRam la 64 ∧ ((s.core c).icache.filter (fun p => sameSet p.1 la && p.1 != la)).length < 4) :=
  ⟨⟨benchStore, 0, anyWord, .fence 0 anyWord, storeOf, ⟨ready_of (by decide +kernel), .inl rfl, by decide +kernel,
    by decide +kernel, fun e he => by
    have he' : e ∈ ((benchStore.fetched 0).core 0).sb := he
    rw [store_fetched] at he'
    rcases List.mem_singleton.1 he' with rfl
    exact ⟨store1_plain, by decide +kernel⟩⟩⟩,
   ⟨benchCache threadC, 0, anyWord, 3, 0, ⟨ready_of (by decide +kernel), by decide +kernel⟩⟩,
   ⟨benchCache threadC, 0, anyWord, 3, 0, line1, ⟨ready_of (by decide +kernel), by decide +kernel⟩⟩,
   ⟨benchCache threadC, 0, anyWord, ⟨ready_of (by decide +kernel), by decide +kernel⟩⟩,
   ⟨benchCache threadC, 0, 0x10100090, line1, by decide +kernel⟩,
   ⟨benchCache threadC, 0, 0x10100090, line1, by decide +kernel⟩,
   ⟨benchCache threadC, 0, 0x10100090, line1, by decide +kernel⟩,
   ⟨benchCache threadC, 0, 0x10100090, line1, by decide +kernel⟩⟩

/-- Witnesses of HzEvents, clause by clause. -/
theorem witness_HzEvents :
  (∃ (s : State) (k : Fin 160), s.live 7 = true ∧ eventReserved k.val = false) ∧
  (∃ (s : State) (rid : Rid), s.serves rid 7) ∧
  (∃ (s : State) (t : Fin 8) (k : Nat), s.coreUp (t.val / 4) = true ∧ (s.thr t.val).run = 1 ∧
    (s.core (t.val / 4)).dozing = false ∧ s.deliverable t.val = some k) ∧
  (∃ (s : State) (t k j : Nat), s.deliverable t = some k ∧ j < 160 ∧ s.pends j = true ∧ s.flag (R.EVT_SRC_EN j) = true ∧
    s.evTarget j = some t ∧ (((s.thr t).ml < s.evLevel j ∨ s.evLevel j = 7))) ∧
  (∃ (s : State) (k : Fin 160) (t u : Nat), s.live 7 = true ∧ s.pends k.val = true ∧ s.flag (R.EVT_SRC_EN k.val) = true ∧
    s.evLevel k.val = 7 ∧ 1 < k.val ∧ s.evTarget k.val = some t ∧ s.watched t = false ∧
    (List.range 8).find? (fun j => j != t && s.watched j && !(s.thr j).hx) = some u) ∧
  (∃ (s : State) (t : Nat), s.live 7 = true ∧ s.allWait = true ∧ s.allWaitTarget = some t ∧
    let u := s.advanceTo (s.allWaitFrom + 854)
    let x := u.thr t
    u.flag (R.EVT_SRC_EN 6) = true ∧ u.evLevel 6 = 6 ∧ u.evsOf t = [] ∧ x.hx = false ∧ x.waitRd < 32 ∧ x.ml < 6 ∧
      0 < x.waitRd ∧ x.wptr < 11) ∧
  (∃ (s : State) (t : Nat), s.live 7 = true ∧ s.allWait = true ∧ s.allWaitTarget = some t ∧
    let u := s.advanceTo (s.allWaitFrom + 854)
    let x := u.thr t
    u.flag (R.EVT_SRC_EN 6) = true ∧ u.evLevel 6 = 6 ∧ u.evsOf t = [] ∧ x.hx = false ∧ x.waitRd < 32 ∧ 6 ≤ x.ml ∧ ((∃ k,
      k < 8 ∧ k ≠ t ∧ u.watched k = true ∧ (u.thr k).hx = false)) ∧ u.flag R.EVT_DFLOG0_VALID = false) :=
  ⟨⟨benchEvents, 33, by decide +kernel⟩,
   ⟨benchEvents, 4, by decide +kernel⟩,
   ⟨benchEvents, 0, 44, by decide +kernel⟩,
   ⟨benchEvents, 0, 44, 20, by decide +kernel⟩,
   ⟨benchSeven, 44, 5, 0, by decide +kernel⟩,
   ⟨benchAllWait 3, 0, by decide +kernel⟩,
   ⟨benchAllWait 6, 0, by decide +kernel⟩⟩

/-- Witnesses of TraceBuffer, clause by clause. -/
theorem witness_TraceBuffer :
  (∃ (s : State) (c : Fin 2) (p : TracePkt) (r : List TracePkt), s.live 23 = true ∧ tget [] s.trc.queues c.val = p :: r ∧
    let lost := tget 0 s.trc.lostPend c.val
    let all := (if lost = 0 then [] else BitVec.ofNat 8 (8 * 16 + c.val * 8) :: leBytes 2 (min lost 65535)) ++ p.bytes
    let w := s.regN R.TRC_WPTR
    let mode := s.fld R.TRC_CTRL_MODE
    w < 65536 ∧ all.length ≤ 65536 ∧ (mode = 0 ∨ mode = 3 ∨ (s.trc.fill + all.length ≤ 65536 ∧
      (mode = 1 → s.flag R.TRC_STAT_FULL = false)))) ∧
  (∃ (s : State) (c : Fin 2) (p : TracePkt) (r : List TracePkt), s.live 23 = true ∧ tget [] s.trc.queues c.val = p :: r ∧
    let lost := tget 0 s.trc.lostPend c.val
    let all := (if lost = 0 then [] else BitVec.ofNat 8 (8 * 16 + c.val * 8) :: leBytes 2 (min lost 65535)) ++ p.bytes
    let w := s.regN R.TRC_WPTR
    let mode := s.fld R.TRC_CTRL_MODE
    w < 65536 ∧ all.length ≤ 65536 ∧ (mode = 1 ∨ mode = 2) ∧ 65536 < s.trc.fill + all.length) ∧
  (∃ (s : State), s.live 23 = true ∧ s.flag R.TRC_CTRL_EN = true ∧ s.fld R.TRC_CTRL_MODE = 2 ∧ 0 < s.trc.fill ∧
    let size := 2 ^ max 12 (min 28 (s.fld R.TRC_DSIZE_SIZE))
    let w := s.regN R.TRC_DWPTR
    let a := s.regN R.TRC_DBASE + w
    (w + 64) % size ≠ s.regN R.TRC_DRPTR ∧ w % 64 = 0 ∧ s.regN R.TRC_DBASE % 64 = 0 ∧ s.inDram a 64) ∧
  (∃ (s : State), s.live 23 = true ∧ s.flag R.TRC_CTRL_EN = true ∧ s.fld R.TRC_CTRL_MODE = 2 ∧ 0 < s.trc.fill ∧
    let size := 2 ^ max 12 (min 28 (s.fld R.TRC_DSIZE_SIZE))
    let w := s.regN R.TRC_DWPTR
    (w + 64) % size = s.regN R.TRC_DRPTR) ∧
  (∃ (s : State) (rid : Rid), s.serves rid 23) :=
  ⟨⟨benchTrc 0 100, 0, packet0, [packet1], by decide +kernel⟩,
   ⟨benchTrc 1 65530, 0, packet0, [packet1], by decide +kernel⟩,
   ⟨benchStream 128, by decide +kernel⟩,
   ⟨benchStream 0, by decide +kernel⟩,
   ⟨benchTrc 0 100, 4, by decide +kernel⟩⟩

/-- Witnesses of DebugPort, clause by clause. -/
theorem witness_DebugPort :
  (∃ (s : State) (n : Nat) (u : State), s.live 23 = true ∧ s.fld R.FUS_POLICY_DBGLOCK ≠ 0 ∧ s.debugRefused = false ∧
    let v := s.withTrc { s.trc with tapIr := 8, extest := false }
    s.flag R.TRN_STAT_DRBG_OK = true ∧ v.randNat 4 = some (n, u)) ∧
  (∃ (s : State), s.live 23 = true ∧ s.fld R.FUS_POLICY_DBGLOCK ≠ 0 ∧ s.debugRefused = false ∧
    s.flag R.TRN_STAT_DRBG_OK = false) ∧
  (∃ (s : State) (n : BitVec 128), s.live 23 = true ∧ s.fld R.FUS_POLICY_DBGLOCK ≠ 0 ∧ s.debugRefused = false ∧
    s.trc.attempt = none ∧ s.flag R.TRN_STAT_DRBG_OK = true ∧ s.live 10 = true ∧ s.trc.nonce = some n) ∧
  (∃ (s : State), s.live 23 = true ∧ s.fld R.FUS_POLICY_DBGLOCK ≠ 0 ∧ s.debugRefused = false ∧ s.trc.attempt = none ∧
    s.flag R.TRN_STAT_DRBG_OK = false) ∧
  (∃ (s : State), s.live 23 = true ∧ s.fld R.FUS_POLICY_DBGLOCK ≠ 0 ∧ s.debugRefused = false ∧ s.trc.attempt = none ∧
    s.flag R.TRN_STAT_DRBG_OK = true ∧ s.live 10 = false) ∧
  (∃ (s : State) (l : Nat) (ok : Bool), s.live 23 = true ∧ s.trc.attempt = some (l, ok) ∧ s.live 10 = true ∧ ok = true) ∧
  (∃ (s : State) (l : Nat) (ok : Bool), s.live 23 = true ∧ s.trc.attempt = some (l, ok) ∧ s.live 10 = true ∧ ok = false) ∧
  (∃ (s : State) (x : Nat), s.trc.lockUntil = some x) ∧
  (∃ (s : State) (c : Instr) (ir : Nat), s.live 23 = true ∧ ((c = .dbgend ∧ ir = 0x0A) ∨ (c = .trstNLow ∧ ir = 1))) ∧
  (∃ (s : State) (t : Fin 8), s.live 23 = true ∧ 2 ≤ s.trc.level ∧ s.coreUp (t.val / 4) = true ∧
    ((s.thr t.val).run = 1 ∨ (s.thr t.val).run = 2)) ∧
  (∃ (s : State), s.live 23 = true ∧ s.fld R.FUS_POLICY_DBGLOCK ≠ 0 ∧ 2 ≤ s.trc.level) ∧
  (∃ (s : State) (addr : Word), s.live 23 = true ∧ s.fld R.FUS_POLICY_DBGLOCK ≠ 0 ∧ (s.trc.level = 0 ∨ (s.trc.level = 1 ∧
    (addr.toNat < 0x40006000 ∨ 0x40007000 ≤ addr.toNat)))) ∧
  (∃ (s : State), s.live 23 = true) :=
  ⟨⟨benchDbg, ((benchDraw.randNat 4).getD (0, bench)).1, ((benchDraw.randNat 4).getD (0, bench)).2, ⟨by decide +kernel,
    by decide +kernel, by decide +kernel, by decide +kernel, nonce_drawn⟩⟩,
   ⟨benchLock, by decide +kernel⟩,
   ⟨benchNonce, 5, by decide +kernel⟩,
   ⟨benchLock, by decide +kernel⟩,
   ⟨benchDbg.setDom 10 0, by decide +kernel⟩,
   ⟨benchAttempt true, 3, true, by decide +kernel⟩,
   ⟨benchAttempt false, 3, false, by decide +kernel⟩,
   ⟨benchLockout, 700, by decide +kernel⟩,
   ⟨benchLock, .dbgend, 0x0A, ⟨by decide +kernel, .inl ⟨rfl, rfl⟩⟩⟩,
   ⟨benchHalt, 0, by decide +kernel⟩,
   ⟨benchAttempt true, by decide +kernel⟩,
   ⟨benchLock, 0x40000000, by decide +kernel⟩,
   ⟨benchLock, by decide +kernel⟩⟩

/-- Witnesses of BusTransactions, clause by clause. -/
theorem witness_BusTransactions :
  (∃ (s : State) (rid : Rid) (addr : Word) (len : BitVec 9) (k : Integrity), s.reaches rid = true ∧
    formed addr.toNat len.toNat = true ∧ s.inRam addr.toNat len.toNat ∧ s.ic.dma.any (fun p => p.2.abort) = false ∧
    s.live 7 = true ∧ (k = .targetData ∨ k = .targetAddr)) ∧
  (∃ (s : State) (rid : Rid) (addr : Word) (len : BitVec 9) (k : Integrity), s.reaches rid = true ∧
    formed addr.toNat len.toNat = true ∧ s.inRam addr.toNat len.toNat ∧ s.ic.dma.any (fun p => p.2.abort) = false ∧
    s.live 7 = true ∧ (k = .master ∨ k = .masterCtrl)) :=
  ⟨⟨benchSram, 0x24, 0x10000101, 7, .targetData, by decide +kernel⟩,
   ⟨benchSram, 0x24, 0x10000101, 7, .master, by decide +kernel⟩⟩

/-- Witnesses of DmaChannels, clause by clause. -/
theorem witness_DmaChannels :
  (∃ (s : State) (rid : Rid) (n : Fin 16) (data : Word), s.serves rid 7 ∧
    let c := n.val
    s.dmaReserved c = false ∧ s.dmaBusy c = false ∧ s.flag R.DMA_CTRL_EN = true ∧ nbit data.toNat 30 = false ∧
      nbit data.toNat 6 = false ∧ 0 < s.regN (R.DMA_LEN c)) ∧
  (∃ (s : State) (rid : Rid) (n : Fin 16) (data : Word), s.serves rid 7 ∧
    let c := n.val
    s.dmaReserved c = false ∧ s.dmaBusy c = false ∧ s.flag R.DMA_CTRL_EN = true ∧ nbit data.toNat 30 = false ∧
      nbit data.toNat 6 = false ∧ s.regN (R.DMA_LEN c) = 0) ∧
  (∃ (s : State) (rid : Rid) (n : Fin 16) (data : Word), s.serves rid 7 ∧
    let c := n.val
    s.dmaReserved c = false ∧ s.dmaBusy c = false ∧ s.flag R.DMA_CTRL_EN = true ∧ nbit data.toNat 30 = false ∧
      nbit data.toNat 6 = true) ∧
  (∃ (s : State) (rid : Rid) (n : Fin 16) (data : Word), s.serves rid 7 ∧
    let c := n.val
    (s.dmaReserved c = true ∨ (s.dmaBusy c = true ∧ nbit data.toNat 30 = false))) ∧
  (∃ (s : State) (n : Fin 16) (d : DmaRun) (a : Nat), s.live 7 = true ∧ s.dmaRun n.val = some d ∧ d.loading = true ∧
    d.next = some a ∧ a % 16 = 0 ∧ s.inRam a 16 ∧
    let w := fun k => s.ramWord (a + 4 * k)
    0 < nbits (w 2) 23 0) ∧
  (∃ (s : State) (n : Fin 16) (d : DmaRun) (a : Nat), s.live 7 = true ∧ s.dmaRun n.val = some d ∧ d.loading = true ∧
    d.next = some a ∧ (a % 16 ≠ 0 ∨ regSpace a = true)) ∧
  (∃ (s : State) (n : Fin 16) (d : DmaRun), s.live 7 = true ∧ s.dmaRun n.val = some d ∧ d.loading = false ∧ d.abort = false ∧
    s.ic.dma.any (fun p => p.2.abort) = false ∧ 0 < d.left ∧ ((d.sfix = true → d.src % 4 = 0 ∧ d.left % 4 = 0)) ∧
    ((d.dfix = true → d.dst % 4 = 0 ∧ d.left % 4 = 0)) ∧ s.inRam d.src (if d.sfix then 4 else d.left) ∧
    s.inRam d.dst (if d.dfix then 4 else d.left) ∧ d.irq = true ∧ d.next = none) ∧
  (∃ (s : State) (n : Fin 16) (d : DmaRun) (moved : BitVec 24), s.live 7 = true ∧ s.dmaRun n.val = some d ∧
    d.loading = false ∧ d.abort = false ∧ s.ic.dma.any (fun p => p.2.abort) = false ∧ 0 < d.left ∧
    ((d.sfix = true → d.src % 4 = 0 ∧ d.left % 4 = 0)) ∧ ((d.dfix = true → d.dst % 4 = 0 ∧ d.left % 4 = 0)) ∧
    s.inRam d.src (if d.sfix then 4 else d.left) ∧ s.inRam d.dst (if d.dfix then 4 else d.left) ∧ moved.toNat < d.left ∧
    d.left < 2 ^ 24) ∧
  (∃ (s : State) (n : Fin 16) (d : DmaRun) (rid : Rid), s.live 7 = true ∧ s.dmaRun n.val = some d ∧ d.loading = false ∧
    d.abort = false ∧ s.ic.dma.any (fun p => p.2.abort) = false ∧ 0 < d.left ∧ ((d.sfix = true → d.src % 4 = 0 ∧
    d.left % 4 = 0)) ∧ ((d.dfix = true → d.dst % 4 = 0 ∧ d.left % 4 = 0)) ∧ s.inRam d.src (if d.sfix then 4 else d.left) ∧
    s.inRam d.dst (if d.dfix then 4 else d.left) ∧ s.serves rid 7 ∧ s.dmaReserved n.val = false ∧ d.left < 2 ^ 24) :=
  ⟨⟨benchGo 100, 4, 2, 0x8000000C, by decide +kernel⟩,
   ⟨benchGo 0, 4, 2, 0x8000000C, by decide +kernel⟩,
   ⟨benchGo 100, 4, 2, 0x40, by decide +kernel⟩,
   ⟨benchGo 100, 4, 3, 0x8000000C, by decide +kernel⟩,
   ⟨benchLoad 0x10000100, 3, load0 0x10000100, 0x10000100, by decide +kernel⟩,
   ⟨benchLoad 0x10000104, 3, load0 0x10000104, 0x10000104, by decide +kernel⟩,
   ⟨benchGo 100, 3, copy0, by decide +kernel⟩,
   ⟨benchGo 100, 3, copy0, 300, by decide +kernel⟩,
   ⟨benchGo 100, 3, copy0, 4, by decide +kernel⟩⟩

/-- Witnesses of EntropySource, clause by clause. -/
theorem witness_EntropySource :
  (∃ (s : State) (fast slow : BitVec 16) (same : Bool), s.vigil = true ∧
    let dead := decide (fast.toNat < 900 ∨ 2700 < fast.toNat ∨ slow.toNat < 320 ∨ 960 < slow.toNat)
    ((dead = false ∧ same = false) ∨ s.flag R.TRN_STAT_DEAD = true ∨ s.flag R.TRN_STAT_LOCKED = true)) ∧
  (∃ (s : State) (fast slow : BitVec 16) (same : Bool), s.vigil = true ∧
    let dead := decide (fast.toNat < 900 ∨ 2700 < fast.toNat ∨ slow.toNat < 320 ∨ 960 < slow.toNat)
    (dead = true ∨ same = true) ∧ s.flag R.TRN_STAT_DEAD = false ∧ s.flag R.TRN_STAT_LOCKED = false) ∧
  (∃ (s : State), s.vigil = true) ∧
  (∃ (s : State) (x : Nat), s.vigil = true ∧ s.trn.starting = some x ∧ s.flag R.TRN_STAT_HALT = false ∧
    let u := s.advanceTo (x + 6400)
    u.flag R.TRN_STAT_DEAD = false ∧ u.flag R.TRN_STAT_LOCKED = false) ∧
  (∃ (s : State) (x : Nat), s.vigil = true ∧ s.trn.starting = some x ∧ s.flag R.TRN_STAT_HALT = false ∧
    let u := s.advanceTo (x + 6400)
    (u.flag R.TRN_STAT_DEAD = true ∨ u.flag R.TRN_STAT_LOCKED = true)) ∧
  (∃ (s : State), s.vigil = true ∧ s.flag R.TRN_STAT_HALT = false) ∧
  (∃ (s : State), s.vigil = true ∧ s.flag R.TRN_STAT_STARTUP_OK = true ∧ s.trn.fifo.length < 16) ∧
  (∃ (s : State) (e n : BitVec 256) (r : List (BitVec 256)), s.vigil = true ∧ s.flag R.TRN_STAT_STARTUP_OK = true ∧
    s.flag R.TRN_STAT_DRBG_OK = false ∧ s.trn.fifo = e :: n :: r) ∧
  (∃ (s : State) (rid : Rid), s.serves rid 0 ∧ s.flag R.TRN_STAT_HALT = true ∧ warden rid = false) ∧
  (∃ (s : State) (rid : Rid), s.serves rid 0 ∧ (s.flag R.TRN_STAT_HALT = false ∨ warden rid = true)) ∧
  (∃ (s : State) (rid : Rid) (w : Word) (r : List Word), s.serves rid 0 ∧ s.flag R.TRN_STAT_DRBG_OK = true ∧
    s.trn.out = w :: r) ∧
  (∃ (s : State) (rid : Rid), s.serves rid 0 ∧ s.flag R.TRN_STAT_DRBG_OK = false) ∧
  (∃ (s : State) (rid : Rid), s.serves rid 0 ∧ s.flag R.TRN_STAT_DRBG_OK = true ∧ s.trn.out = [] ∧ s.trn.fifo = [] ∧
    (s.flag R.TRN_CTRL_PR = true ∨ max 1 (min 1000000 (s.fld R.TRN_RSINT_RSINT)) < s.trn.drbg.calls)) ∧
  (∃ (s : State) (rid : Rid), s.serves rid 0 ∧ s.trn.raw = []) :=
  ⟨⟨benchTrn, 1800, 640, false, by decide +kernel⟩,
   ⟨benchTrn, 899, 640, false, by decide +kernel⟩,
   ⟨benchTrn, by decide +kernel⟩,
   ⟨benchStart, 4999999000, by decide +kernel⟩,
   ⟨benchStart.setFld R.TRN_STAT_LOCKED 1, 4999999000, by decide +kernel⟩,
   ⟨benchTrn, by decide +kernel⟩,
   ⟨benchTrn, by decide +kernel⟩,
   ⟨benchTrn.setFld R.TRN_STAT_DRBG_OK 0, 1, 2, [3], by decide +kernel⟩,
   ⟨benchTrn.setFld R.TRN_STAT_HALT 1, 0, by decide +kernel⟩,
   ⟨benchTrn, 0, by decide +kernel⟩,
   ⟨benchTrn, 0, 7, [8], by decide +kernel⟩,
   ⟨benchTrn.setFld R.TRN_STAT_DRBG_OK 0, 0, by decide +kernel⟩,
   ⟨benchDry, 0, by decide +kernel⟩,
   ⟨benchTrn, 0, by decide +kernel⟩⟩

/-- Witnesses of StoreCommands, clause by clause. -/
theorem witness_StoreCommands :
  (∃ (s : State) (rid : Rid) (page : Byte) (c : Instr) (op : NvsOp), s.serves rid 0 ∧ (c, op) ∈ [(Instr.nvsRead rid page,
    NvsOp.read page.toNat), (.nvsWrite rid page, .write page.toNat), (.inc rid page,
    if page.toNat < 32 then .inc page.toNat else .badRange), (.rolekey rid page,
    if page.toNat < 3 then .roleKey page.toNat 0 else .badRange)] ∧ warden rid = true ∧ s.flag R.NVS_STAT_BUSY = false ∧
    ((∀ r ∈ s.nvs.queue, ∀ x, r.who ≠ .firmware x)) ∧ ((∀ r, s.nvs.current = some r → ∀ x, r.who ≠ .firmware x))) ∧
  (∃ (s : State) (rid : Rid) (page : Byte) (c : Instr) (op : NvsOp), s.serves rid 0 ∧ (c, op) ∈ [(Instr.nvsRead rid page,
    NvsOp.read page.toNat), (.nvsWrite rid page, .write page.toNat), (.inc rid page,
    if page.toNat < 32 then .inc page.toNat else .badRange), (.rolekey rid page,
    if page.toNat < 3 then .roleKey page.toNat 0 else .badRange)] ∧ warden rid = true ∧ s.flag R.NVS_STAT_BUSY = true) ∧
  (∃ (s : State) (rid : Rid) (page : Byte) (c : Instr) (op : NvsOp), s.serves rid 0 ∧ (c, op) ∈ [(Instr.nvsRead rid page,
    NvsOp.read page.toNat), (.nvsWrite rid page, .write page.toNat), (.inc rid page,
    if page.toNat < 32 then .inc page.toNat else .badRange), (.rolekey rid page,
    if page.toNat < 3 then .roleKey page.toNat 0 else .badRange)] ∧ warden rid = false) ∧
  (∃ (s : State) (rid : Rid), s.serves rid 0 ∧ warden rid = true) ∧
  (∃ (s : State) (rid : Rid), s.serves rid 0 ∧ warden rid = false) ∧
  (∃ (s : State) (rid : Rid) (op : NvsOp) (q : List NvsReq), s.vigil = true ∧ s.nvs.current = none ∧ s.nvs.rotation = none ∧
    s.nvs.rotations = [] ∧ s.nvs.queue = ⟨.firmware rid, op⟩ :: q ∧ s.nvs.held = [] ∧ ((op = .badRange ∨ (∃ p,
    op = .read p ∨ op = .write p ∨ op = .inc p) ∨ ∃ r k, op = .roleKey r k)) ∧
    let j := s.storeResult rid op
    j = 0) ∧
  (∃ (s : State) (rid : Rid) (op : NvsOp) (q : List NvsReq), s.vigil = true ∧ s.nvs.current = none ∧ s.nvs.rotation = none ∧
    s.nvs.rotations = [] ∧ s.nvs.queue = ⟨.firmware rid, op⟩ :: q ∧ s.nvs.held = [] ∧ ((op = .badRange ∨ (∃ p,
    op = .read p ∨ op = .write p ∨ op = .inc p) ∨ ∃ r k, op = .roleKey r k)) ∧
    let j := s.storeResult rid op
    j ≠ 0) :=
  ⟨⟨(benchNvs (.read 3)).withNvs {}, 4, 3, .nvsRead (4) 3, .read 3, ⟨by decide +kernel, by decide +kernel, by decide +kernel,
    by decide +kernel, fun r hr => (nomatch hr), fun r hr => (nomatch hr)⟩⟩,
   ⟨(benchNvs .badRange).setFld R.NVS_STAT_BUSY 1, 4, 3, .nvsRead (4) 3, .read 3, by decide +kernel⟩,
   ⟨(benchNvs (.read 3)).withNvs {}, 0, 3, .nvsRead (0) 3, .read 3, by decide +kernel⟩,
   ⟨(benchNvs (.read 3)).withNvs {}, 4, by decide +kernel⟩,
   ⟨(benchNvs (.read 3)).withNvs {}, 0, by decide +kernel⟩,
   ⟨benchNvs (.read 3), 4, .read 3, [⟨.hld, .almanac⟩], ⟨by decide +kernel, by decide +kernel, by decide +kernel,
     by decide +kernel, by decide +kernel, by decide +kernel, .inr (.inl ⟨3, .inl rfl⟩), by decide +kernel⟩⟩,
   ⟨benchNvs (.inc 5), 4, .inc 5, [⟨.hld, .almanac⟩], ⟨by decide +kernel, by decide +kernel, by decide +kernel,
     by decide +kernel, by decide +kernel, by decide +kernel, .inr (.inl ⟨5, .inr (.inr rfl)⟩), by decide +kernel⟩⟩⟩

theorem noWrong : ∀ i ∈ fuseIndices, i ∉ benchFuse.fus.fresh → benchFuse.reg (R.FUS_ID + 4 * i) = benchFuse.fuseWord i := by
  decide +kernel

/-- Witnesses of StoreAndFuses, clause by clause. -/
theorem witness_StoreAndFuses :
  (∃ (s : State) (rid : Rid) (op : NvsOp) (p : Nat), s.vigil = true ∧ s.nvs.current = some ⟨.firmware rid, op⟩ ∧
    s.nvs.held = [] ∧ s.nvs.rotation = none ∧ s.nvs.rotations = [] ∧ op = .read p ∧ p ∉ s.nvs.bad) ∧
  (∃ (s : State) (rid : Rid) (op : NvsOp) (p : Nat), s.vigil = true ∧ s.nvs.current = some ⟨.firmware rid, op⟩ ∧
    s.nvs.held = [] ∧ s.nvs.rotation = none ∧ s.nvs.rotations = [] ∧ op = .read p ∧ p ∈ s.nvs.bad) ∧
  (∃ (s : State) (rid : Rid) (op : NvsOp) (p : Nat) (bs : List Byte), s.vigil = true ∧ s.nvs.current = some ⟨.firmware rid,
    op⟩ ∧ s.nvs.held = [] ∧ s.nvs.rotation = none ∧ s.nvs.rotations = [] ∧ op = .write p ∧ s.nvs.images = [(p, bs)]) ∧
  (∃ (s : State) (rid : Rid) (op : NvsOp) (c : Nat), s.vigil = true ∧ s.nvs.current = some ⟨.firmware rid, op⟩ ∧
    s.nvs.held = [] ∧ s.nvs.rotation = none ∧ s.nvs.rotations = [] ∧ op = .inc c) ∧
  (∃ (s : State) (rid : Rid) (op : NvsOp) (role : Nat) (key : BitVec 256), s.vigil = true ∧
    s.nvs.current = some ⟨.firmware rid, op⟩ ∧ s.nvs.held = [] ∧ s.nvs.rotation = none ∧ s.nvs.rotations = [] ∧
    op = .roleKey role key ∧ role < s.nvs.keys.length) ∧
  (∃ (s : State) (p : Nat), s.vigil = true ∧ s.nvs.rotation = some p ∧ s.nvs.rotations = []) ∧
  (∃ (s : State), s.vigil = true ∧
    let wrong := fun i => i ∈ fuseIndices ∧ i ∉ s.fus.fresh ∧ s.reg (R.FUS_ID + 4 * i) ≠ s.fuseWord i
    ((∀ i, ¬ wrong i))) ∧
  (∃ (s : State), s.vigil = true ∧
    let wrong := fun i => i ∈ fuseIndices ∧ i ∉ s.fus.fresh ∧ s.reg (R.FUS_ID + 4 * i) ≠ s.fuseWord i
    ((∃ i, wrong i))) ∧
  (∃ (s : State) (rid : Rid) (data : Word), s.serves rid 0 ∧
    let w := nbits data.toNat 7 0
    let good := nbits data.toNat 31 24 = 0xA5 ∧ (w = 4 ∨ (8 ≤ w ∧ w < 24)) ∧ wardenCore rid = true ∧ s.band = some 1 ∧
      s.flag R.FUS_STAT_PGM_BUSY = false
    good) ∧
  (∃ (s : State) (rid : Rid) (data : Word), s.serves rid 0 ∧
    let w := nbits data.toNat 7 0
    let good := nbits data.toNat 31 24 = 0xA5 ∧ (w = 4 ∨ (8 ≤ w ∧ w < 24)) ∧ wardenCore rid = true ∧ s.band = some 1 ∧
      s.flag R.FUS_STAT_PGM_BUSY = false
    ¬ good) ∧
  (∃ (s : State) (w : Nat) (bits : Word) (x : Nat), s.vigil = true ∧ s.fus.program = some (w, bits, x)) :=
  ⟨⟨benchStore1 (.read 40) [], 4, .read 40, 40, by decide +kernel⟩,
   ⟨benchStore1 (.read 40) [40], 4, .read 40, 40, by decide +kernel⟩,
   ⟨benchStore1 (.write 40) [], 4, .write 40, 40, [5, 0, 6], by decide +kernel⟩,
   ⟨benchStore1 (.inc 5) [], 4, .inc 5, 5, by decide +kernel⟩,
   ⟨benchStore1 (.roleKey 2 99) [], 4, .roleKey 2 99, 2, 99, by decide +kernel⟩,
   ⟨benchRot, 40, by decide +kernel⟩,
   ⟨benchFuse, ⟨by decide +kernel, fun i hi => absurd hi.2.2 (by have h := noWrong i hi.1 hi.2.1; exact not_not_intro h)⟩⟩,
   ⟨benchFuse.setRegN (R.FUS_ID + 8) 7, ⟨by decide +kernel, 2, by decide +kernel⟩⟩,
   ⟨benchStore1 (.read 40) [], 4, 0xA5000008, by decide +kernel⟩,
   ⟨benchStore1 (.read 40) [], 0x44, 0xA5000008, by decide +kernel⟩,
   ⟨benchBurn, 8, 0x10100, 4999990000, by decide +kernel⟩⟩

/-- Witnesses of TamperHits, clause by clause. -/
theorem witness_TamperHits :
  (∃ (s : State) (k : Fin 20), s.vigil = true ∧ ((4 < k.val ∧ k.val ≠ 9 ∧ ∀ r ∈ s.tmp.reports, r.source ≠ k.val))) ∧
  (∃ (s : State) (k : Fin 20) (v : State) (d d2 x : Nat), s.vigil = true ∧ s.hitBy v k.val d d2 x ∧
    s.flag (R.TMP_SRC_RESP_EN k.val) = false) ∧
  (∃ (s : State) (k : Fin 20) (v : State) (d d2 x : Nat), s.vigil = true ∧ s.hitBy v k.val d d2 x ∧
    s.flag (R.TMP_SRC_RESP_EN k.val) = true ∧ ¬ v.trips k.val) ∧
  (∃ (s : State) (k : Fin 20) (v : State) (d d2 x : Nat), s.vigil = true ∧ s.hitBy v k.val d d2 x ∧
    let cls := classApplied k.val (s.fld (R.TMP_SRC_RESP_CLASS k.val)) d
    s.flag (R.TMP_SRC_RESP_EN k.val) = true ∧ v.trips k.val ∧ s.tmp.seq < 65536 ∧ s.tmp.log.length < 120 ∧ s.inHold = false ∧
      cls = 0) ∧
  (∃ (s : State) (k : Fin 20) (v : State) (d d2 x : Nat), s.vigil = true ∧ s.hitBy v k.val d d2 x ∧
    let cls := classApplied k.val (s.fld (R.TMP_SRC_RESP_CLASS k.val)) d
    s.flag (R.TMP_SRC_RESP_EN k.val) = true ∧ v.trips k.val ∧ s.tmp.seq < 65536 ∧ s.tmp.log.length < 120 ∧ s.inHold = false ∧
      cls = 1 ∧ k.val = 17) ∧
  (∃ (s : State) (k : Fin 20) (v : State) (d d2 x : Nat), s.vigil = true ∧ s.hitBy v k.val d d2 x ∧
    let cls := classApplied k.val (s.fld (R.TMP_SRC_RESP_CLASS k.val)) d
    s.flag (R.TMP_SRC_RESP_EN k.val) = true ∧ v.trips k.val ∧ s.tmp.seq < 65536 ∧ s.tmp.log.length < 120 ∧ s.inHold = false ∧
      cls = 1 ∧ k.val = 18) ∧
  (∃ (s : State) (k : Fin 20) (v : State) (d d2 x : Nat), s.vigil = true ∧ s.hitBy v k.val d d2 x ∧
    let cls := classApplied k.val (s.fld (R.TMP_SRC_RESP_CLASS k.val)) d
    s.flag (R.TMP_SRC_RESP_EN k.val) = true ∧ v.trips k.val ∧ s.tmp.seq < 65536 ∧ s.tmp.log.length < 120 ∧ s.inHold = false ∧
      cls = 1 ∧ k.val = 14) ∧
  (∃ (s : State) (k : Fin 20) (v : State) (d d2 x : Nat), s.vigil = true ∧ s.hitBy v k.val d d2 x ∧
    let cls := classApplied k.val (s.fld (R.TMP_SRC_RESP_CLASS k.val)) d
    s.flag (R.TMP_SRC_RESP_EN k.val) = true ∧ v.trips k.val ∧ s.tmp.seq < 65536 ∧ s.tmp.log.length < 120 ∧ s.inHold = false ∧
      cls = 1 ∧ (k.val = 1 ∨ k.val = 3)) ∧
  (∃ (s : State) (k : Fin 20) (v : State) (d d2 x : Nat) (b : BlockDesc), s.vigil = true ∧ s.hitBy v k.val d d2 x ∧
    let cls := classApplied k.val (s.fld (R.TMP_SRC_RESP_CLASS k.val)) d
    s.flag (R.TMP_SRC_RESP_EN k.val) = true ∧ v.trips k.val ∧ s.tmp.seq < 65536 ∧ s.tmp.log.length < 120 ∧ s.inHold = false ∧
      cls = 1 ∧ (k.val = 10 ∨ k.val = 11) ∧ blockAt x = some b ∧ b.code ≠ 4 ∧ b.code ≠ 7) ∧
  (∃ (s : State) (k : Fin 20) (v : State) (d d2 x : Nat), s.vigil = true ∧ s.hitBy v k.val d d2 x ∧
    let cls := classApplied k.val (s.fld (R.TMP_SRC_RESP_CLASS k.val)) d
    s.flag (R.TMP_SRC_RESP_EN k.val) = true ∧ v.trips k.val ∧ s.tmp.seq < 65536 ∧ s.tmp.log.length < 120 ∧ s.inHold = false ∧
      2 ≤ cls) :=
  ⟨⟨benchTmp 5 0 0 1 [], 5, by decide +kernel⟩,
   ⟨benchTmp 1 0 0 1 [], 1, (benchTmp 1 0 0 1 []), 0, 0, 0, ⟨by decide +kernel, hit_self _ (by decide), by decide +kernel⟩⟩,
   ⟨benchTmp 1 0 1 3 [], 1, (benchTmp 1 0 1 3 []), 0, 0, 0, ⟨by decide +kernel, hit_self _ (by decide), by decide +kernel⟩⟩,
   ⟨benchTmp 1 0 1 2 [], 1, (benchTmp 1 0 1 2 []), 0, 0, 0, ⟨by decide +kernel, hit_self _ (by decide), by decide +kernel⟩⟩,
   ⟨benchTmp 17 1 1 1 [report 17 0], 17, benchSeen 17 1 1 1 (report 17 0), 0x2A, 0x55, 0, ⟨by decide +kernel,
     hit_report _ _ (by decide) (by decide) (report 17 0) (by decide +kernel), by decide +kernel⟩⟩,
   ⟨benchTmp 18 1 1 1 [report 18 0], 18, benchSeen 18 1 1 1 (report 18 0), 0x2A, 0x55, 0, ⟨by decide +kernel,
     hit_report _ _ (by decide) (by decide) (report 18 0) (by decide +kernel), by decide +kernel⟩⟩,
   ⟨benchTmp 14 1 1 1 [report 14 0], 14, benchSeen 14 1 1 1 (report 14 0), 0x2A, 0x55, 0, ⟨by decide +kernel,
     hit_report _ _ (by decide) (by decide) (report 14 0) (by decide +kernel), by decide +kernel⟩⟩,
   ⟨benchTmp 1 1 1 1 [], 1, (benchTmp 1 1 1 1 []), 0, 0, 0, ⟨by decide +kernel, hit_self _ (by decide), by decide +kernel⟩⟩,
   ⟨benchTmp 10 1 1 1 [report 10 0x42000000], 10, benchSeen 10 1 1 1 (report 10 0x42000000), 0x2A, 0x55, 0x42000000,
     (blockAt 0x42000000).getD (laneBlock 0), ⟨by decide +kernel,
     hit_report _ _ (by decide) (by decide) (report 10 0x42000000) (by decide +kernel), by decide +kernel⟩⟩,
   ⟨benchTmp 1 0 0 1 [], 4, (benchTmp 1 0 0 1 []), 0, 0, 0, ⟨by decide +kernel, hit_self _ (by decide), by decide +kernel⟩⟩⟩

/-- Witnesses of TamperLog, clause by clause. -/
theorem witness_TamperLog :
  (∃ (s : State) (r : SysReset), s.inHold = true ∧ s.rst.sys = some r ∧ r.zeroing = true) ∧
  (∃ (s : State) (n : Fin 4) (st : Fin 3), s.vigil = true ∧
    let cur := nbits (s.regN R.TMP_LOOPSTAT) (2 * n.val + 1) (2 * n.val)
    cur = st.val) ∧
  (∃ (s : State) (n : Fin 4) (st : Fin 3), s.vigil = true ∧
    let cur := nbits (s.regN R.TMP_LOOPSTAT) (2 * n.val + 1) (2 * n.val)
    cur ≠ st.val ∧ st.val ≠ 0) ∧
  (∃ (s : State) (n : Fin 4) (st : Fin 3), s.vigil = true ∧
    let cur := nbits (s.regN R.TMP_LOOPSTAT) (2 * n.val + 1) (2 * n.val)
    let en := s.flag (R.TMP_SRC_RESP_EN (5 + n.val))
    cur ≠ st.val ∧ st.val = 0 ∧ en = false) ∧
  (∃ (s : State) (n : Fin 4) (st : Fin 3), s.vigil = true ∧
    let cur := nbits (s.regN R.TMP_LOOPSTAT) (2 * n.val + 1) (2 * n.val)
    let en := s.flag (R.TMP_SRC_RESP_EN (5 + n.val))
    cur ≠ st.val ∧ st.val = 0 ∧ en = true) ∧
  (∃ (s : State) (x : Nat), s.vigil = true ∧ s.tmp.unwritten = some x ∧ s.flag R.TMP_STAT_PERSIST_DEFER = false ∧
    ((∀ r ∈ s.nvs.queue ++ s.nvs.held, r.who ≠ .tamper)) ∧ ((∀ r, s.nvs.current = some r → r.who ≠ .tamper))) ∧
  (∃ (s : State) (rid : Rid), s.serves rid 0 ∧ wardenCore rid = false ∧ master rid ≠ 7) ∧
  (∃ (s : State) (rid : Rid), s.serves rid 0 ∧ (wardenCore rid = true ∨ master rid = 7) ∧ s.flag R.TMP_LOCK_LOCK = false ∧
    s.flag R.TMP_STAT_PERSIST_DEFER = false ∧ s.nvs.queue = [] ∧ s.nvs.held = [] ∧ s.nvs.current = none) :=
  ⟨⟨benchZero, zeroReset, by decide +kernel⟩,
   ⟨benchZero, 0, 0, by decide +kernel⟩,
   ⟨benchZero, 0, 1, by decide +kernel⟩,
   ⟨benchLoop 0, 0, 0, by decide +kernel⟩,
   ⟨benchLoop 1, 0, 0, by decide +kernel⟩,
   ⟨benchLog, 60000000000, ⟨by decide +kernel, by decide +kernel, by decide +kernel, by decide +kernel,
     fun r hr => (nomatch hr)⟩⟩,
   ⟨benchLoop 0, 0x44, by decide +kernel⟩,
   ⟨benchLoop 0, 4, by decide +kernel⟩⟩

/-- Witnesses of HousekeepingRounds, clause by clause. -/
theorem witness_HousekeepingRounds :
  (∃ (s : State), s.live 21 = true ∧ s.flag R.HK_CTRL_EN = true ∧ s.hk.inRound = false) ∧
  (∃ (s : State) (rid : Rid) (data : Word), s.serves rid 21 ∧ data.toNat % 2 = 0) ∧
  (∃ (s : State) (rid : Rid) (data : Word), s.serves rid 21 ∧ data.toNat % 2 = 1) ∧
  (∃ (s : State) (rid : Rid), s.serves rid 21 ∧ s.flag R.HK_FG_BUSY = false) ∧
  (∃ (s : State) (rid : Rid), s.serves rid 21 ∧ s.flag R.HK_FG_BUSY = true) ∧
  (∃ (s : State), s.live 21 = true ∧ s.fgNext = true) ∧
  (∃ (s : State), s.live 21 = true ∧ s.fgNext = false ∧ s.hk.inRound = true ∧ s.hk.nextCh < 31 ∧ s.hk.nextCh ≠ 18) ∧
  (∃ (s : State), s.live 21 = true ∧ s.fgNext = false ∧ s.hk.inRound = true ∧ s.hk.nextCh = 31) ∧
  (∃ (s : State) (k : Nat), s.live 21 = true ∧ s.hk.calStep = some k ∧ k < 8 ∧ s.hk.inRound = false ∧ s.hk.fgAt = none) ∧
  (∃ (s : State) (k : Nat), s.live 21 = true ∧ s.hk.calStep = some k ∧ k < 8 ∧ (s.hk.inRound = true ∨ s.hk.fgAt ≠ none) ∧
    s.hk.calDefer < 16 ∧ s.hk.calSeen ≠ some s.convStart) ∧
  (∃ (s : State) (k : Nat), s.live 21 = true ∧ s.hk.calStep = some k ∧ k < 8 ∧ (s.hk.inRound = true ∨ s.hk.fgAt ≠ none) ∧
    16 ≤ s.hk.calDefer) :=
  ⟨⟨benchHk fun h => { h with inRound := false }, by decide +kernel⟩,
   ⟨benchHk id, 4, 0, by decide +kernel⟩,
   ⟨benchHk id, 4, 1, by decide +kernel⟩,
   ⟨benchHk id, 4, by decide +kernel⟩,
   ⟨(benchHk id).setFld R.HK_FG_BUSY 1, 4, by decide +kernel⟩,
   ⟨benchHk fun h => { h with nextCh := 3, fgAt := some 70000000050, fgCh := 7 }, by decide +kernel⟩,
   ⟨benchHk fun h => { h with nextCh := 7 }, by decide +kernel⟩,
   ⟨benchHk id, by decide +kernel⟩,
   ⟨benchHk fun h => { h with inRound := false, calStep := some 3 }, 3, by decide +kernel⟩,
   ⟨benchHk fun h => { h with calStep := some 3 }, 3, by decide +kernel⟩,
   ⟨benchHk fun h => { h with calStep := some 7, calDefer := 16 }, 7, by decide +kernel⟩⟩

/-- Witnesses of ThermalPolicy, clause by clause. -/
theorem witness_ThermalPolicy :
  (∃ (s : State) (n : Nat) (tj : Int), s.live 21 = true ∧ s.fgNext = false ∧ s.hk.inRound = true ∧ s.hk.nextCh = 31 ∧
    s.slotEnd.live 7 = true ∧ hottest s.slotEnd.dieSamples = some (n, tj)) ∧
  (∃ (s : State), s.live 21 = true) ∧
  (∃ (s : State) (n : Nat), s.live 21 = true ∧ s.fgNext = false ∧ s.hk.inRound = true ∧ s.hk.susUntil ≤ s.convStart ∧
    let ch := s.hk.nextCh
    ch = 6 + n ∧ n < 12) ∧
  (∃ (s : State) (n : Nat), s.live 21 = true ∧ s.fgNext = false ∧ s.hk.inRound = true ∧ s.hk.susUntil ≤ s.convStart ∧
    let ch := s.hk.nextCh
    ch = 20 + n ∧ n < 4) :=
  ⟨⟨benchHot, hotJunction.1, hotJunction.2, by decide +kernel⟩,
   ⟨benchHot, by decide +kernel⟩,
   ⟨benchHk fun h => { h with nextCh := 9 }, 3, by decide +kernel⟩,
   ⟨benchHk fun h => { h with nextCh := 21 }, 1, by decide +kernel⟩⟩

/-- Witnesses of DramCommands, clause by clause. -/
theorem witness_DramCommands :
  (∃ (s : State) (rid : Rid), s.serves rid 20 ∧ (s.flag R.DMC_STAT_READY = true ∨ s.flag R.DMC_STAT_TRAINING = true)) ∧
  (∃ (s : State) (rid : Rid), s.serves rid 20 ∧ s.flag R.DMC_STAT_READY = false ∧ s.flag R.DMC_STAT_TRAINING = false ∧
    dmcGeometry (s.regN R.DMC_CFG) = none) ∧
  (∃ (s : State) (rid : Rid), s.serves rid 20 ∧ s.flag R.DMC_STAT_READY = false ∧ s.flag R.DMC_STAT_TRAINING = false ∧
    (dmcGeometry (s.regN R.DMC_CFG)).isSome = true) ∧
  (∃ (s : State), s.live 20 = true ∧ s.flag R.DMC_STAT_TRAINING = true ∧ s.dmc.restore = true) ∧
  (∃ (s : State), s.live 20 = true ∧ s.flag R.DMC_STAT_TRAINING = true ∧ s.dmc.restore = false) ∧
  (∃ (s : State) (addr : Word) (len : BitVec 9) (data : List Byte), s.live 7 = true ∧ 0 < len.toNat ∧
    0x80000000 ≤ addr.toNat ∧ addr.toNat + len.toNat ≤ 0x100000000 ∧ s.dramAt addr.toNat + len.toNat ≤ s.dmcSize ∧
    s.live 20 = true ∧ s.flag R.DMC_STAT_READY = true ∧ s.dmc.badWords = [] ∧ s.dmc.softWords = [] ∧
    s.flag R.DMC_STAT_FROZEN = true ∧ data.length = len.toNat) ∧
  (∃ (s : State) (addr : Word) (len : BitVec 9) (upset : Fin 3), s.live 7 = true ∧ 0 < len.toNat ∧ 0x80000000 ≤ addr.toNat ∧
    addr.toNat + len.toNat ≤ 0x100000000 ∧ s.dramAt addr.toNat + len.toNat ≤ s.dmcSize ∧ s.live 20 = true ∧
    s.flag R.DMC_STAT_READY = true ∧ s.dmc.badWords = [] ∧ s.dmc.softWords = [] ∧ s.flag R.DMC_STAT_FROZEN = false ∧
    upset = 0) ∧
  (∃ (s : State) (addr : Word) (len : BitVec 9) (upset : Fin 3), s.live 7 = true ∧ 0 < len.toNat ∧ 0x80000000 ≤ addr.toNat ∧
    addr.toNat + len.toNat ≤ 0x100000000 ∧ s.dramAt addr.toNat + len.toNat ≤ s.dmcSize ∧ s.live 20 = true ∧
    s.flag R.DMC_STAT_READY = true ∧ s.dmc.badWords = [] ∧ s.dmc.softWords = [] ∧ s.flag R.DMC_STAT_FROZEN = false ∧
    upset = 1) ∧
  (∃ (s : State) (addr : Word) (len : BitVec 9) (upset : Fin 3), s.live 7 = true ∧ 0 < len.toNat ∧ 0x80000000 ≤ addr.toNat ∧
    addr.toNat + len.toNat ≤ 0x100000000 ∧ s.dramAt addr.toNat + len.toNat ≤ s.dmcSize ∧ s.live 20 = true ∧
    s.flag R.DMC_STAT_READY = true ∧ s.dmc.badWords = [] ∧ s.dmc.softWords = [] ∧ s.flag R.DMC_STAT_FROZEN = false ∧
    upset = 2) ∧
  (∃ (s : State) (addr : Word) (len : BitVec 9) (data : List Byte), s.live 7 = true ∧ 0 < len.toNat ∧
    0x80000000 ≤ addr.toNat ∧ addr.toNat + len.toNat ≤ 0x100000000 ∧ s.dramAt addr.toNat + len.toNat ≤ s.dmcSize ∧
    s.live 20 = true ∧ s.flag R.DMC_STAT_READY = true ∧ s.dmc.badWords = [] ∧ s.dmc.softWords = [] ∧
    let at_ := s.dramAt addr.toNat
    s.flag R.DMC_STAT_FROZEN = false ∧ data.length = len.toNat ∧
      s.inDelayRegion at_ (min len.toNat (64 - addr.toNat % 64)) = true) ∧
  (∃ (s : State) (addr : Word) (len : BitVec 9) (data : List Byte), s.live 7 = true ∧ 0 < len.toNat ∧
    0x80000000 ≤ addr.toNat ∧ addr.toNat + len.toNat ≤ 0x100000000 ∧ s.dramAt addr.toNat + len.toNat ≤ s.dmcSize ∧
    s.live 20 = true ∧ s.flag R.DMC_STAT_READY = true ∧ s.dmc.badWords = [] ∧ s.dmc.softWords = [] ∧
    let at_ := s.dramAt addr.toNat
    s.flag R.DMC_STAT_FROZEN = false ∧ data.length = len.toNat ∧ s.inDelayRegion at_ len.toNat = false) ∧
  (∃ (s : State) (line : Fin 384) (write : Bool) (f : LineEnt) (r : List LineEnt), s.live 12 = true ∧
    s.flag R.MTX_DLY_CTRL_EN = true ∧
    let k := line.val
    let l := tget {} s.mtx.lines k
    s.burstOf k l (if write then 1 else 2) = f :: r ∧
    let ready := s.live 20 && s.flag R.DMC_STAT_READY
    write = true ∧ ready = false) ∧
  (∃ (s : State) (line : Fin 384) (write : Bool) (f : LineEnt) (r : List LineEnt), s.live 12 = true ∧
    s.flag R.MTX_DLY_CTRL_EN = true ∧
    let k := line.val
    let l := tget {} s.mtx.lines k
    s.burstOf k l (if write then 1 else 2) = f :: r ∧
    let ready := s.live 20 && s.flag R.DMC_STAT_READY
    ((write = false ∧ ready = false) ∨ (ready = true ∧ s.flag R.DMC_STAT_FROZEN = true))) ∧
  (∃ (s : State) (line : Fin 384) (write : Bool) (f : LineEnt) (r : List LineEnt), s.live 12 = true ∧
    s.flag R.MTX_DLY_CTRL_EN = true ∧
    let k := line.val
    let l := tget {} s.mtx.lines k
    s.burstOf k l (if write then 1 else 2) = f :: r ∧
    let ready := s.live 20 && s.flag R.DMC_STAT_READY
    ready = true ∧ s.flag R.DMC_STAT_FROZEN = false ∧ s.dmc.badWords = [] ∧ s.dmc.softWords = [] ∧ write = true) ∧
  (∃ (s : State) (line : Fin 384) (write : Bool) (upset : Fin 3) (f : LineEnt) (r : List LineEnt), s.live 12 = true ∧
    s.flag R.MTX_DLY_CTRL_EN = true ∧
    let k := line.val
    let l := tget {} s.mtx.lines k
    s.burstOf k l (if write then 1 else 2) = f :: r ∧
    let ready := s.live 20 && s.flag R.DMC_STAT_READY
    ready = true ∧ s.flag R.DMC_STAT_FROZEN = false ∧ s.dmc.badWords = [] ∧ s.dmc.softWords = [] ∧ write = false ∧ upset = 0) ∧
  (∃ (s : State) (line : Fin 384) (write : Bool) (upset : Fin 3) (f : LineEnt) (r : List LineEnt), s.live 12 = true ∧
    s.flag R.MTX_DLY_CTRL_EN = true ∧
    let k := line.val
    let l := tget {} s.mtx.lines k
    s.burstOf k l (if write then 1 else 2) = f :: r ∧
    let ready := s.live 20 && s.flag R.DMC_STAT_READY
    ready = true ∧ s.flag R.DMC_STAT_FROZEN = false ∧ s.dmc.badWords = [] ∧ s.dmc.softWords = [] ∧ write = false ∧ upset = 2) ∧
  (∃ (s : State), s.live 20 = true ∧
    let on := max 1 (s.fld R.DMC_PANIC_ON)
    s.flag R.DMC_STAT_PANIC = false ∧ on ≤ s.rtLevel) ∧
  (∃ (s : State), s.live 20 = true ∧
    let on := max 1 (s.fld R.DMC_PANIC_ON)
    s.flag R.DMC_STAT_PANIC = true ∧ s.rtLevel < min on (s.fld R.DMC_PANIC_OFF)) ∧
  (∃ (s : State), s.live 20 = true ∧ s.flag R.DMC_STAT_READY = true) ∧
  (∃ (s : State) (waiting : Bool), s.live 20 = true ∧ s.flag R.DMC_STAT_READY = true ∧ s.flag R.DMC_CTRL_SCRUB_EN = true ∧
    s.flag R.DMC_STAT_FROZEN = false ∧
    let busy := waiting || s.flag R.DMC_STAT_PANIC
    busy = true ∧ s.dmc.scrubDefer < 64) ∧
  (∃ (s : State) (waiting : Bool) (upset : Fin 3), s.live 20 = true ∧ s.flag R.DMC_STAT_READY = true ∧
    s.flag R.DMC_CTRL_SCRUB_EN = true ∧ s.flag R.DMC_STAT_FROZEN = false ∧
    let busy := waiting || s.flag R.DMC_STAT_PANIC
    (busy = false ∨ 64 ≤ s.dmc.scrubDefer) ∧ s.dmc.badWords = [] ∧ s.dmc.softWords = [] ∧ upset = 0) ∧
  (∃ (s : State) (waiting : Bool) (upset : Fin 3), s.live 20 = true ∧ s.flag R.DMC_STAT_READY = true ∧
    s.flag R.DMC_CTRL_SCRUB_EN = true ∧ s.flag R.DMC_STAT_FROZEN = false ∧
    let busy := waiting || s.flag R.DMC_STAT_PANIC
    (busy = false ∨ 64 ≤ s.dmc.scrubDefer) ∧ s.dmc.badWords = [] ∧ s.dmc.softWords = [] ∧ upset = 1) ∧
  (∃ (s : State) (waiting : Bool) (upset : Fin 3), s.live 20 = true ∧ s.flag R.DMC_STAT_READY = true ∧
    s.flag R.DMC_CTRL_SCRUB_EN = true ∧ s.flag R.DMC_STAT_FROZEN = false ∧
    let busy := waiting || s.flag R.DMC_STAT_PANIC
    (busy = false ∨ 64 ≤ s.dmc.scrubDefer) ∧ s.dmc.badWords = [] ∧ s.dmc.softWords = [] ∧ upset = 2) ∧
  (∃ (s : State) (rid : Rid), s.serves rid 20 ∧ (s.flag R.DMC_STAT_FROZEN = false ∨ s.dmc.resuming = true)) ∧
  (∃ (s : State) (rid : Rid) (data : Word), s.serves rid 20 ∧
    let start := data = 0xA5C30F96#32 ∧ warden rid = true
    s.flag R.DMC_STAT_FROZEN = true ∧ s.dmc.resuming = false ∧ s.dmc.unf = none ∧ start) ∧
  (∃ (s : State) (rid : Rid) (data : Word), s.serves rid 20 ∧
    let start := data = 0xA5C30F96#32 ∧ warden rid = true
    s.flag R.DMC_STAT_FROZEN = true ∧ s.dmc.resuming = false ∧ s.dmc.unf = none ∧ ¬ start) ∧
  (∃ (s : State) (rid : Rid) (data : Word) (x : Nat), s.serves rid 20 ∧ s.flag R.DMC_STAT_FROZEN = true ∧
    s.dmc.resuming = false ∧ s.dmc.unf = some (rid, x) ∧ s.now ≤ x + 106 ∧ data = 0x5A3CF069#32) ∧
  (∃ (s : State) (rid : Rid) (data : Word) (q : Rid) (x : Nat), s.serves rid 20 ∧
    let start := data = 0xA5C30F96#32 ∧ warden rid = true
    s.flag R.DMC_STAT_FROZEN = true ∧ s.dmc.resuming = false ∧ s.dmc.unf = some (q, x) ∧
      ((data ≠ 0x5A3CF069#32 ∨ q ≠ rid ∨ x + 106 < s.now)) ∧ start) ∧
  (∃ (s : State) (rid : Rid) (data : Word) (q : Rid) (x : Nat), s.serves rid 20 ∧
    let start := data = 0xA5C30F96#32 ∧ warden rid = true
    s.flag R.DMC_STAT_FROZEN = true ∧ s.dmc.resuming = false ∧ s.dmc.unf = some (q, x) ∧
      ((data ≠ 0x5A3CF069#32 ∨ q ≠ rid ∨ x + 106 < s.now)) ∧ ¬ start) ∧
  (∃ (s : State), s.live 20 = true ∧ s.dmc.resuming = true) ∧
  (∃ (s : State) (rid : Rid), s.serves rid 20) :=
  ⟨⟨benchReady, 4, by decide +kernel⟩,
   ⟨benchDram.setRegN R.DMC_CFG 31, 4, by decide +kernel⟩,
   ⟨benchDram, 4, by decide +kernel⟩,
   ⟨benchTrain true, by decide +kernel⟩,
   ⟨benchTrain false, by decide +kernel⟩,
   ⟨benchReady.setFld R.DMC_STAT_FROZEN 1, 0x80000003, 7, [1, 2, 3, 4, 5, 6, 7], by decide +kernel⟩,
   ⟨benchReady, 0x80000003, 7, 0, by decide +kernel⟩,
   ⟨benchReady, 0x80000003, 7, 1, by decide +kernel⟩,
   ⟨benchReady, 0x80000003, 7, 2, by decide +kernel⟩,
   ⟨(benchReady.setFld R.MTX_DLY_CTRL_EN 1).setFld R.MTX_DLY_BASE_BASE 0, 0x80000003, 7, [1, 2, 3, 4, 5, 6, 7],
     by decide +kernel⟩,
   ⟨benchReady, 0x80000003, 7, [1, 2, 3, 4, 5, 6, 7], by decide +kernel⟩,
   ⟨benchDelay benchDram, 7, true, sampleAt 100 1, [], by decide +kernel⟩,
   ⟨benchDelay benchDram, 7, false, sampleAt 200 2, [], by decide +kernel⟩,
   ⟨benchDelay benchReady, 7, true, sampleAt 100 1, [], by decide +kernel⟩,
   ⟨benchDelay benchReady, 7, false, 0, sampleAt 200 2, [], by decide +kernel⟩,
   ⟨benchDelay benchReady, 7, false, 2, sampleAt 200 2, [], by decide +kernel⟩,
   ⟨(benchDelay benchDram).setFld R.DMC_PANIC_ON 0, by decide +kernel⟩,
   ⟨benchReady.setFld R.DMC_STAT_PANIC 1, by decide +kernel⟩,
   ⟨benchReady, by decide +kernel⟩,
   ⟨benchReady, true, by decide +kernel⟩,
   ⟨benchReady, false, 0, by decide +kernel⟩,
   ⟨benchReady, false, 1, by decide +kernel⟩,
   ⟨benchReady, false, 2, by decide +kernel⟩,
   ⟨benchReady, 4, by decide +kernel⟩,
   ⟨benchReady.setFld R.DMC_STAT_FROZEN 1, 4, 0xA5C30F96, by decide +kernel⟩,
   ⟨benchReady.setFld R.DMC_STAT_FROZEN 1, 4, 0x5A3CF069, by decide +kernel⟩,
   ⟨benchIce (some (4, 69999999990)), 4, 0x5A3CF069, 69999999990, by decide +kernel⟩,
   ⟨benchIce (some (4, 69999999990)), 4, 0xA5C30F96, 4, 69999999990, by decide +kernel⟩,
   ⟨benchIce (some (4, 69999999990)), 4, 7, 4, 69999999990, by decide +kernel⟩,
   ⟨benchReady.withDmc { benchReady.dmc with resuming := true }, by decide +kernel⟩,
   ⟨benchReady, 4, by decide +kernel⟩⟩

/-- Witnesses of IdentityCards, clause by clause. -/
theorem witness_IdentityCards :
  (∃ (s : State), s.live 22 = true ∧ s.flag R.IDC_STAT_PRESENT = false) ∧
  (∃ (s : State), s.live 22 = true ∧ s.flag R.IDC_STAT_PRESENT = true) ∧
  (∃ (s : State), s.live 22 = true ∧ s.flag R.IDC_STAT_PRESENT = false) ∧
  (∃ (s : State), s.live 22 = true ∧ s.flag R.IDC_STAT_PRESENT = true) ∧
  (∃ (s : State) (rid : Rid) (c : Nat), s.serves rid 22 ∧
    let st := s.fld R.IDC_STAT_STATE
    let present := s.flag R.IDC_STAT_PRESENT
    st = 0 ∧ present = true ∧ s.classFrom 0 c) ∧
  (∃ (s : State) (rid : Rid), s.serves rid 22 ∧
    let st := s.fld R.IDC_STAT_STATE
    let present := s.flag R.IDC_STAT_PRESENT
    st = 0 ∧ present = true ∧ s.noClass 0) ∧
  (∃ (s : State) (rid : Rid), s.serves rid 22 ∧
    let st := s.fld R.IDC_STAT_STATE
    let present := s.flag R.IDC_STAT_PRESENT
    (st ≠ 0 ∨ present = false)) ∧
  (∃ (s : State) (rid : Rid), s.serves rid 22 ∧
    let st := s.fld R.IDC_STAT_STATE
    st ≠ 0) ∧
  (∃ (s : State) (rid : Rid), s.serves rid 22 ∧
    let st := s.fld R.IDC_STAT_STATE
    st = 0) ∧
  (∃ (s : State) (rid : Rid), s.serves rid 22 ∧
    let st := s.fld R.IDC_STAT_STATE
    let len := s.fld R.IDC_XFER_LEN
    let t1 := s.fld R.IDC_STAT_PROTO = 1
    let dirIn := s.flag R.IDC_XFER_IN
    let fits := (t1 ∧ 3 ≤ len ∧ len ≤ 257) ∨ (¬ t1 ∧ dirIn = true ∧ len = 5) ∨ (¬ t1 ∧ dirIn = false ∧ 5 ≤ len ∧ len ≤ 260)
    st = 4 ∧ fits) ∧
  (∃ (s : State) (rid : Rid), s.serves rid 22 ∧
    let st := s.fld R.IDC_STAT_STATE
    let len := s.fld R.IDC_XFER_LEN
    let t1 := s.fld R.IDC_STAT_PROTO = 1
    let dirIn := s.flag R.IDC_XFER_IN
    let fits := (t1 ∧ 3 ≤ len ∧ len ≤ 257) ∨ (¬ t1 ∧ dirIn = true ∧ len = 5) ∨ (¬ t1 ∧ dirIn = false ∧ 5 ≤ len ∧ len ≤ 260)
    (st ≠ 4 ∨ ¬ fits)) ∧
  (∃ (s : State), s.live 22 = true ∧ (s.fld R.IDC_STAT_STATE = 1 ∨ s.fld R.IDC_STAT_STATE = 2)) ∧
  (∃ (s : State), s.live 22 = true ∧ (s.fld R.IDC_STAT_STATE = 1 ∨ s.fld R.IDC_STAT_STATE = 2)) ∧
  (∃ (s : State) (x c : Nat), s.live 22 = true ∧ s.idc.retryAt = some x ∧ s.classFrom (s.idc.classNow + 1) c) ∧
  (∃ (s : State) (x : Nat), s.live 22 = true ∧ s.idc.retryAt = some x ∧ s.noClass (s.idc.classNow + 1)) ∧
  (∃ (s : State) (resp : List Byte) (t0 p1 pck : Byte), s.live 22 = true ∧ s.fld R.IDC_STAT_STATE = 3 ∧
    s.idc.ppsReq = [0xFF#8, t0, p1, pck] ∧ resp = s.idc.ppsReq) ∧
  (∃ (s : State) (resp : List Byte) (t0 p1 pck : Byte), s.live 22 = true ∧ s.fld R.IDC_STAT_STATE = 3 ∧
    s.idc.ppsReq = [0xFF#8, t0, p1, pck] ∧
    let proto := BitVec.ofNat 8 (t0.toNat % 16)
    let short := [0xFF#8, proto, 0xFF#8 ^^^ proto]
    resp = short) ∧
  (∃ (s : State) (resp : List Byte) (t0 p1 pck : Byte), s.live 22 = true ∧ s.fld R.IDC_STAT_STATE = 3 ∧
    s.idc.ppsReq = [0xFF#8, t0, p1, pck] ∧
    let proto := BitVec.ofNat 8 (t0.toNat % 16)
    let short := [0xFF#8, proto, 0xFF#8 ^^^ proto]
    resp ≠ s.idc.ppsReq ∧ resp ≠ short) ∧
  (∃ (s : State) (errs : Fin 8), s.live 22 = true ∧ s.fld R.IDC_STAT_STATE = 5 ∧ s.fld R.IDC_STAT_PROTO = 0 ∧
    let kept := errs.val ≤ min 4 (s.fld R.IDC_CFG_REP)
    ¬ kept) ∧
  (∃ (s : State) (b : Byte) (errs : Fin 8), s.live 22 = true ∧ s.fld R.IDC_STAT_STATE = 5 ∧ s.fld R.IDC_STAT_PROTO = 0 ∧
    let kept := errs.val ≤ min 4 (s.fld R.IDC_CFG_REP)
    kept ∧ b = 0x60#8) ∧
  (∃ (s : State) (b : Byte) (errs : Fin 8), s.live 22 = true ∧ s.fld R.IDC_STAT_STATE = 5 ∧ s.fld R.IDC_STAT_PROTO = 0 ∧
    let ins := s.idcTx 1
    let kept := errs.val ≤ min 4 (s.fld R.IDC_CFG_REP)
    kept ∧ b ≠ 0x60#8 ∧ b.toNat = ins) ∧
  (∃ (s : State) (b : Byte) (errs : Fin 8), s.live 22 = true ∧ s.fld R.IDC_STAT_STATE = 5 ∧ s.fld R.IDC_STAT_PROTO = 0 ∧
    let ins := s.idcTx 1
    let kept := errs.val ≤ min 4 (s.fld R.IDC_CFG_REP)
    kept ∧ b ≠ 0x60#8 ∧ b.toNat ≠ ins ∧ b.toNat = 255 - ins) ∧
  (∃ (s : State) (b : Byte) (errs : Fin 8), s.live 22 = true ∧ s.fld R.IDC_STAT_STATE = 5 ∧ s.fld R.IDC_STAT_PROTO = 0 ∧
    let ins := s.idcTx 1
    let kept := errs.val ≤ min 4 (s.fld R.IDC_CFG_REP)
    kept ∧ b ≠ 0x60#8 ∧ b.toNat ≠ ins ∧ b.toNat ≠ 255 - ins ∧ (b.toNat / 16 = 6 ∨ b.toNat / 16 = 9)) ∧
  (∃ (s : State) (b : Byte) (errs : Fin 8), s.live 22 = true ∧ s.fld R.IDC_STAT_STATE = 5 ∧ s.fld R.IDC_STAT_PROTO = 0 ∧
    let ins := s.idcTx 1
    let kept := errs.val ≤ min 4 (s.fld R.IDC_CFG_REP)
    kept ∧ b.toNat ≠ ins ∧ b.toNat ≠ 255 - ins ∧ b.toNat / 16 ≠ 6 ∧ b.toNat / 16 ≠ 9) ∧
  (∃ (s : State) (errs : Fin 8), s.live 22 = true ∧ s.fld R.IDC_STAT_STATE = 5 ∧ s.fld R.IDC_STAT_PROTO = 1 ∧ errs.val ≠ 0) ∧
  (∃ (s : State) (blk : List Byte) (errs : Fin 8), s.live 22 = true ∧ s.fld R.IDC_STAT_STATE = 5 ∧ s.fld R.IDC_STAT_PROTO = 1 ∧
    let n := if s.idc.edcCrc then 2 else 1
    let body := blk.take (blk.length - n)
    let good := 3 + n ≤ blk.length ∧
      (if s.idc.edcCrc then beNat (blk.drop (blk.length - 2)) = crc16 body else blk.foldl (fun (x y : Byte) => x ^^^ y) 0 = 0)
    errs.val = 0 ∧ ¬ good) ∧
  (∃ (s : State) (blk : List Byte) (errs : Fin 8), s.live 22 = true ∧ s.fld R.IDC_STAT_STATE = 5 ∧ s.fld R.IDC_STAT_PROTO = 1 ∧
    let n := if s.idc.edcCrc then 2 else 1
    let body := blk.take (blk.length - n)
    let good := 3 + n ≤ blk.length ∧
      (if s.idc.edcCrc then beNat (blk.drop (blk.length - 2)) = crc16 body else blk.foldl (fun (x y : Byte) => x ^^^ y) 0 = 0)
    errs.val = 0 ∧ good) ∧
  (∃ (s : State), s.live 22 = true ∧ s.fld R.IDC_STAT_STATE = 5) :=
  ⟨⟨bench, by decide +kernel⟩,
   ⟨benchIdc 0 0 0, by decide +kernel⟩,
   ⟨bench, by decide +kernel⟩,
   ⟨benchIdc 0 0 0, by decide +kernel⟩,
   ⟨benchIdc 0 0 0, 0x21, 0, by decide +kernel⟩,
   ⟨(benchIdc 0 0 0).setFld R.IDC_CFG_CLASSEN 0, 0x21, by decide +kernel⟩,
   ⟨bench, 0x21, by decide +kernel⟩,
   ⟨benchIdc 4 0 5, 0x21, by decide +kernel⟩,
   ⟨bench, 0x21, by decide +kernel⟩,
   ⟨benchIdc 4 0 5, 0x21, by decide +kernel⟩,
   ⟨bench, 0x21, by decide +kernel⟩,
   ⟨benchIdc 1 0 5, by decide +kernel⟩,
   ⟨benchIdc 1 0 5, by decide +kernel⟩,
   ⟨benchRetry 6, 70000000900, 1, by decide +kernel⟩,
   ⟨benchRetry 1, 70000000900, by decide +kernel⟩,
   ⟨benchIdc 3 0 0, [0xFF#8, 0x11#8, 0x95#8, 0x7B#8], 0x11, 0x95, 0x7B, by decide +kernel⟩,
   ⟨benchIdc 3 0 0, [0xFF, 0x01, 0xFE], 0x11, 0x95, 0x7B, by decide +kernel⟩,
   ⟨benchIdc 3 0 0, [], 0x11, 0x95, 0x7B, by decide +kernel⟩,
   ⟨benchIdc 5 0 5, 7, by decide +kernel⟩,
   ⟨benchIdc 5 0 5, 0x60, 0, by decide +kernel⟩,
   ⟨benchIdc 5 0 5, 0xB0, 0, by decide +kernel⟩,
   ⟨benchIdc 5 0 5, 0x4F, 0, by decide +kernel⟩,
   ⟨benchIdc 5 0 5, 0x90, 0, by decide +kernel⟩,
   ⟨benchIdc 5 0 5, 0x20, 0, by decide +kernel⟩,
   ⟨benchIdc 5 1 5, 7, by decide +kernel⟩,
   ⟨benchIdc 5 1 5, [1], 0, by decide +kernel⟩,
   ⟨benchIdc 5 1 5, [0, 0, 0, 0], 0, by decide +kernel⟩,
   ⟨benchIdc 5 0 5, by decide +kernel⟩⟩

/-- Witnesses of SdCards, clause by clause. -/
theorem witness_SdCards :
  (∃ (s : State), s.live 22 = true ∧ s.flag R.SDH_STAT_PRESENT = false) ∧
  (∃ (s : State), s.live 22 = true ∧ s.flag R.SDH_STAT_PRESENT = true) ∧
  (∃ (s : State), s.live 22 = true ∧ s.flag R.SDH_STAT_PRESENT = false) ∧
  (∃ (s : State), s.live 22 = true ∧ s.flag R.SDH_STAT_PRESENT = true) ∧
  (∃ (s : State) (rid : Rid), s.serves rid 22 ∧
    let st := s.fld R.SDH_STAT_STATE
    st = 0 ∧ s.flag R.SDH_STAT_PRESENT = true) ∧
  (∃ (s : State) (rid : Rid), s.serves rid 22 ∧
    let st := s.fld R.SDH_STAT_STATE
    (st ≠ 0 ∨ s.flag R.SDH_STAT_PRESENT = false)) ∧
  (∃ (s : State) (rid : Rid), s.serves rid 22 ∧
    let st := s.fld R.SDH_STAT_STATE
    s.sdh.op = 0 ∧ st = 3 ∧ s.fld R.SDH_STAT_MODE = 3) ∧
  (∃ (s : State) (rid : Rid), s.serves rid 22 ∧
    let st := s.fld R.SDH_STAT_STATE
    s.sdh.op = 0 ∧ (st ≠ 3 ∨ s.fld R.SDH_STAT_MODE ≠ 3)) ∧
  (∃ (s : State) (rid : Rid) (c : Instr) (op : Nat), s.serves rid 22 ∧
    let st := s.fld R.SDH_STAT_STATE
    (c, op) ∈ [(Instr.sdRead rid, 1), (.sdWrite rid, 2)] ∧
    let n := s.fld R.SDH_BLKCNT_CNT
    let lba := s.fld R.SDH_LBA_HI_LBA * 2 ^ 16 + s.fld R.SDH_LBA_LO_LBA
    let a := s.fld R.SDH_ADDR_HI_ADDR * 2 ^ 16 + s.fld R.SDH_ADDR_LO_ADDR * 16
    let good := ((0x10000000 ≤ a ∧ a < 0x10200000) ∨ 0x80000000 ≤ a) ∧ 1 ≤ n ∧ lba + n ≤ s.sdh.capacity
    s.sdh.op = 0 ∧ st = 3 ∧ good) ∧
  (∃ (s : State) (rid : Rid) (c : Instr) (op : Nat), s.serves rid 22 ∧
    let st := s.fld R.SDH_STAT_STATE
    (c, op) ∈ [(Instr.sdRead rid, 1), (.sdWrite rid, 2)] ∧ s.sdh.op = 0 ∧ st = 2) ∧
  (∃ (s : State) (rid : Rid) (c : Instr) (op : Nat), s.serves rid 22 ∧
    let st := s.fld R.SDH_STAT_STATE
    (c, op) ∈ [(Instr.sdRead rid, 1), (.sdWrite rid, 2)] ∧
    let n := s.fld R.SDH_BLKCNT_CNT
    let lba := s.fld R.SDH_LBA_HI_LBA * 2 ^ 16 + s.fld R.SDH_LBA_LO_LBA
    let a := s.fld R.SDH_ADDR_HI_ADDR * 2 ^ 16 + s.fld R.SDH_ADDR_LO_ADDR * 16
    let good := ((0x10000000 ≤ a ∧ a < 0x10200000) ∨ 0x80000000 ≤ a) ∧ 1 ≤ n ∧ lba + n ≤ s.sdh.capacity
    (s.sdh.op ≠ 0 ∨ (st ≠ 2 ∧ (st ≠ 3 ∨ ¬ good)))) ∧
  (∃ (s : State) (rid : Rid), s.serves rid 22 ∧
    let st := s.fld R.SDH_STAT_STATE
    s.sdh.op = 0 ∧ (st = 2 ∨ st = 3)) ∧
  (∃ (s : State) (rid : Rid) (reply : SdReply) (c : Instr) (op : Nat), s.serves rid 22 ∧
    let st := s.fld R.SDH_STAT_STATE
    (c, op) ∈ [(Instr.setpwd rid reply, 4), (.clrpwd rid reply, 5), (.lockCard rid reply, 6)] ∧ s.sdh.op = 0 ∧ st = 3) ∧
  (∃ (s : State) (rid : Rid) (reply : SdReply) (nego : SdInitResult) (c : Instr) (op : Nat), s.serves rid 22 ∧
    let st := s.fld R.SDH_STAT_STATE
    (c, op) ∈ [(Instr.unlock rid reply nego, 7), (.forceErase rid reply nego, 8)] ∧ s.sdh.op = 0 ∧ st = 2) ∧
  (∃ (s : State) (rid : Rid) (data : Word) (reply : SdReply) (nego : SdInitResult) (c : Instr), s.serves rid 22 ∧
    let st := s.fld R.SDH_STAT_STATE
    c ∈ [Instr.sdCmd rid data reply, .setpwd rid reply, .clrpwd rid reply, .lockCard rid reply, .unlock rid reply nego,
      .forceErase rid reply nego] ∧ (s.sdh.op ≠ 0 ∨ (st ≠ 2 ∧ st ≠ 3) ∨ (st = 2 ∧ c ∈ [Instr.setpwd rid reply,
      .clrpwd rid reply, .lockCard rid reply]) ∨ (st = 3 ∧ c ∈ [Instr.unlock rid reply nego, .forceErase rid reply nego]))) ∧
  (∃ (s : State) (r : SdInitResult), s.live 22 = true ∧ s.sdh.op = 15 ∧ r.result ≠ 0) ∧
  (∃ (s : State) (r : SdInitResult), s.live 22 = true ∧ s.sdh.op = 15 ∧ r.result = 0) ∧
  (∃ (s : State) (data : List Byte) (ok : Bool), s.live 22 = true ∧ data.length = 512 ∧
    let a := s.sdh.addr
    s.sdh.op = 1 ∧ ok = true ∧ s.inRam a 512) ∧
  (∃ (s : State) (data : List Byte) (ok : Bool), s.live 22 = true ∧ data.length = 512 ∧
    let a := s.sdh.addr
    s.sdh.op = 1 ∧ ok = true ∧ s.inDram a 512) ∧
  (∃ (s : State) (data : List Byte) (ok : Bool), s.live 22 = true ∧ data.length = 512 ∧ s.sdh.op = 1 ∧ ok = false) ∧
  (∃ (s : State) (data : List Byte) (ok : Bool), s.live 22 = true ∧ data.length = 512 ∧
    let a := s.sdh.addr
    s.sdh.op = 1 ∧ ok = true ∧ 0x10000000 ≤ a ∧ a < 0x10100000 ∧ s.live 5 = false ∧ s.live 7 = true) ∧
  (∃ (s : State) (data : List Byte) (ok : Bool), s.live 22 = true ∧ data.length = 512 ∧
    let a := s.sdh.addr
    s.sdh.op = 2 ∧ (s.inRam a 512 ∨ s.inDram a 512) ∧ ok = true) ∧
  (∃ (s : State) (data : List Byte) (ok : Bool), s.live 22 = true ∧ data.length = 512 ∧
    let a := s.sdh.addr
    s.sdh.op = 2 ∧ (s.inRam a 512 ∨ s.inDram a 512) ∧ ok = false) ∧
  (∃ (s : State) (kind : Fin 3), s.live 22 = true ∧
    let op := s.sdh.op
    ((kind = 0 ∧ op ≠ 0 ∧ op ≠ 14) ∨ (kind = 1 ∧ op = 1) ∨ (kind = 2 ∧ (op = 2 ∨ (4 ≤ op ∧ op ≤ 8))))) :=
  ⟨⟨bench, by decide +kernel⟩,
   ⟨benchSd 0 0 0, by decide +kernel⟩,
   ⟨bench, by decide +kernel⟩,
   ⟨benchSd 0 0 0, by decide +kernel⟩,
   ⟨benchSd 0 0 0, 0x21, by decide +kernel⟩,
   ⟨bench, 0x21, by decide +kernel⟩,
   ⟨benchSd 3 0 0, 0x21, by decide +kernel⟩,
   ⟨bench, 0x21, by decide +kernel⟩,
   ⟨benchSd 3 0 0, 0x21, .sdRead (0x21), 1, by decide +kernel⟩,
   ⟨benchSd 2 0 0, 0x21, .sdRead (0x21), 1, by decide +kernel⟩,
   ⟨bench, 0x21, .sdRead (0x21), 1, by decide +kernel⟩,
   ⟨benchSd 3 0 0, 0x21, by decide +kernel⟩,
   ⟨benchSd 3 0 0, 0x21, reply0, .setpwd (0x21) (reply0), 4, by decide +kernel⟩,
   ⟨benchSd 2 0 0, 0x21, reply0, init0 0, .unlock (0x21) (reply0) (init0 0), 7, by decide +kernel⟩,
   ⟨benchSd 2 0 0, 0x21, 0x10D, reply0, init0 0, .setpwd (0x21) (reply0), by decide +kernel⟩,
   ⟨benchSd 1 15 0, init0 1, by decide +kernel⟩,
   ⟨benchSd 1 15 0, init0 0, by decide +kernel⟩,
   ⟨benchSd 4 1 0x10000200, List.replicate 512 3, true, by decide +kernel⟩,
   ⟨benchSd 4 1 0x80001000, List.replicate 512 3, true, by decide +kernel⟩,
   ⟨benchSd 4 1 0x10000200, List.replicate 512 3, false, by decide +kernel⟩,
   ⟨(benchSd 4 1 0x10000200).setDom 5 0, List.replicate 512 3, true, by decide +kernel⟩,
   ⟨benchSd 4 2 0x10000200, List.replicate 512 3, true, by decide +kernel⟩,
   ⟨benchSd 4 2 0x10000200, List.replicate 512 3, false, by decide +kernel⟩,
   ⟨benchSd 1 15 0, 0, by decide +kernel⟩⟩

/-- Witnesses of PowerRequests, clause by clause. -/
theorem witness_PowerRequests :
  (∃ (s : State) (rid : Rid) (d : Fin 32) (c : Instr) (action : Nat), s.serves rid 0 ∧ (c, action) ∈ [(Instr.pwrReqOff rid d,
    0), (.pwrReqOn rid d, 1), (.pwrReqRet rid d, 2)] ∧
    let may := wardenCore rid = true ∨ master rid = 7
    may ∧ s.pwr.queue.length < 8) ∧
  (∃ (s : State) (rid : Rid) (d : Fin 32) (c : Instr) (action : Nat), s.serves rid 0 ∧ (c, action) ∈ [(Instr.pwrReqOff rid d,
    0), (.pwrReqOn rid d, 1), (.pwrReqRet rid d, 2)] ∧
    let may := wardenCore rid = true ∨ master rid = 7
    may ∧ 8 ≤ s.pwr.queue.length) ∧
  (∃ (s : State) (rid : Rid) (d : Fin 32) (c : Instr) (action : Nat), s.serves rid 0 ∧ (c, action) ∈ [(Instr.pwrReqOff rid d,
    0), (.pwrReqOn rid d, 1), (.pwrReqRet rid d, 2)] ∧
    let may := wardenCore rid = true ∨ master rid = 7
    ¬ may) ∧
  (∃ (s : State) (r : PwrReq) (internal : Bool) (vigil queue : List PwrReq), s.vigil = true ∧ s.pwr.active = none ∧
    s.nextPower r internal vigil queue ∧ s.pwrInvalid r) ∧
  (∃ (s : State) (r : PwrReq) (internal : Bool) (vigil queue : List PwrReq), s.vigil = true ∧ s.pwr.active = none ∧
    s.nextPower r internal vigil queue ∧
    let d := r.domain
    let met := s.dom d = r.action
    ¬ s.pwrInvalid r ∧ met) ∧
  (∃ (s : State) (r : PwrReq) (internal : Bool) (vigil queue : List PwrReq), s.vigil = true ∧ s.pwr.active = none ∧
    s.nextPower r internal vigil queue ∧
    let d := r.domain
    let met := s.dom d = r.action
    let variant := r.action = 1 ∧ s.isAN = true ∧ (d = 8 ∨ d = 9)
    ¬ s.pwrInvalid r ∧ ¬ met ∧ variant) ∧
  (∃ (s : State) (r : PwrReq) (internal : Bool) (vigil queue : List PwrReq), s.vigil = true ∧ s.pwr.active = none ∧
    s.nextPower r internal vigil queue ∧
    let d := r.domain
    let met := s.dom d = r.action
    let variant := r.action = 1 ∧ s.isAN = true ∧ (d = 8 ∨ d = 9)
    let thermal := r.action = 1 ∧ s.hk.forbid = true ∧ d ≠ 1 ∧ d ≠ 2 ∧ d ≠ 21
    ¬ s.pwrInvalid r ∧ ¬ met ∧ ¬ variant ∧ thermal) ∧
  (∃ (s : State) (r : PwrReq) (internal : Bool) (vigil queue : List PwrReq), s.vigil = true ∧ s.pwr.active = none ∧
    s.nextPower r internal vigil queue ∧
    let d := r.domain
    let met := s.dom d = r.action
    let variant := r.action = 1 ∧ s.isAN = true ∧ (d = 8 ∨ d = 9)
    let thermal := r.action = 1 ∧ s.hk.forbid = true ∧ d ≠ 1 ∧ d ≠ 2 ∧ d ≠ 21
    let depends := (r.action = 1 ∧ ∃ n ∈ domainNeeds d, s.isOn n = false) ∨ (r.action ≠ 1 ∧ ∃ x, x < 24 ∧ d ∈ domainNeeds x ∧
      s.dom x ≠ 0)
    ¬ s.pwrInvalid r ∧ ¬ met ∧ ¬ variant ∧ ¬ thermal ∧ depends) ∧
  (∃ (s : State) (r : PwrReq) (internal : Bool) (vigil queue : List PwrReq), s.vigil = true ∧ s.pwr.active = none ∧
    s.nextPower r internal vigil queue ∧
    let d := r.domain
    let met := s.dom d = r.action
    let variant := r.action = 1 ∧ s.isAN = true ∧ (d = 8 ∨ d = 9)
    let thermal := r.action = 1 ∧ s.hk.forbid = true ∧ d ≠ 1 ∧ d ≠ 2 ∧ d ≠ 21
    let depends := (r.action = 1 ∧ ∃ n ∈ domainNeeds d, s.isOn n = false) ∨ (r.action ≠ 1 ∧ ∃ x, x < 24 ∧ d ∈ domainNeeds x ∧
      s.dom x ≠ 0)
    ¬ s.pwrInvalid r ∧ ¬ met ∧ ¬ variant ∧ ¬ thermal ∧ ¬ depends ∧ (r.action ≠ 0 ∨ s.dom d ≠ 1 ∨ d ∈ [1, 2, 5, 6, 7, 11, 12,
      13, 20, 21, 23])) ∧
  (∃ (s : State) (r : PwrReq) (internal : Bool) (vigil queue : List PwrReq), s.vigil = true ∧ s.pwr.active = none ∧
    s.nextPower r internal vigil queue ∧
    let d := r.domain
    let met := s.dom d = r.action
    let variant := r.action = 1 ∧ s.isAN = true ∧ (d = 8 ∨ d = 9)
    let thermal := r.action = 1 ∧ s.hk.forbid = true ∧ d ≠ 1 ∧ d ≠ 2 ∧ d ≠ 21
    let depends := (r.action = 1 ∧ ∃ n ∈ domainNeeds d, s.isOn n = false) ∨ (r.action ≠ 1 ∧ ∃ x, x < 24 ∧ d ∈ domainNeeds x ∧
      s.dom x ≠ 0)
    ¬ s.pwrInvalid r ∧ ¬ met ∧ ¬ variant ∧ ¬ thermal ∧ ¬ depends ∧ r.action = 0 ∧ s.dom d = 1 ∧ (d = 3 ∨ d = 4)) ∧
  (∃ (s : State) (r : PwrReq) (internal : Bool) (vigil queue : List PwrReq), s.vigil = true ∧ s.pwr.active = none ∧
    s.nextPower r internal vigil queue ∧
    let d := r.domain
    let met := s.dom d = r.action
    let variant := r.action = 1 ∧ s.isAN = true ∧ (d = 8 ∨ d = 9)
    let thermal := r.action = 1 ∧ s.hk.forbid = true ∧ d ≠ 1 ∧ d ≠ 2 ∧ d ≠ 21
    let depends := (r.action = 1 ∧ ∃ n ∈ domainNeeds d, s.isOn n = false) ∨ (r.action ≠ 1 ∧ ∃ x, x < 24 ∧ d ∈ domainNeeds x ∧
      s.dom x ≠ 0)
    ¬ s.pwrInvalid r ∧ ¬ met ∧ ¬ variant ∧ ¬ thermal ∧ ¬ depends ∧ r.action = 0 ∧ s.dom d = 1 ∧ d = 10) ∧
  (∃ (s : State) (r : PwrReq) (internal : Bool) (vigil queue : List PwrReq), s.vigil = true ∧ s.pwr.active = none ∧
    s.nextPower r internal vigil queue ∧
    let d := r.domain
    let met := s.dom d = r.action
    let variant := r.action = 1 ∧ s.isAN = true ∧ (d = 8 ∨ d = 9)
    let thermal := r.action = 1 ∧ s.hk.forbid = true ∧ d ≠ 1 ∧ d ≠ 2 ∧ d ≠ 21
    let depends := (r.action = 1 ∧ ∃ n ∈ domainNeeds d, s.isOn n = false) ∨ (r.action ≠ 1 ∧ ∃ x, x < 24 ∧ d ∈ domainNeeds x ∧
      s.dom x ≠ 0)
    ¬ s.pwrInvalid r ∧ ¬ met ∧ ¬ variant ∧ ¬ thermal ∧ ¬ depends ∧ r.action = 0 ∧ s.dom d = 1 ∧ d = 22) ∧
  (∃ (s : State), s.vigil = true ∧ s.pwr.active = none ∧ ((∀ x ∈ s.pwr.vigil, s.dom x.domain = x.action)) ∧ s.pwr.queue = []) ∧
  (∃ (s : State) (w : PwrSwitch), s.pwr.active = some w ∧ 0 < w.req.domain ∧ w.req.domain < 24 ∧ w.req.action = 1) ∧
  (∃ (s : State) (w : PwrSwitch), s.pwr.active = some w ∧ 0 < w.req.domain ∧ w.req.domain < 24 ∧ w.req.action = 1 ∧
    w.rails = false) ∧
  (∃ (s : State) (w : PwrSwitch), s.pwr.active = some w ∧ 0 < w.req.domain ∧ w.req.domain < 24 ∧ w.req.action = 1 ∧
    w.rails = true) ∧
  (∃ (s : State) (w : PwrSwitch), s.pwr.active = some w ∧ 0 < w.req.domain ∧ w.req.domain < 24 ∧ w.req.action = 0) ∧
  (∃ (s : State) (w : PwrSwitch), s.pwr.active = some w ∧ 0 < w.req.domain ∧ w.req.domain < 24 ∧ w.req.action = 2) ∧
  (∃ (s : State) (w : PwrSwitch), s.pwr.active = some w ∧ 0 < w.req.domain ∧ w.req.domain < 24 ∧ w.req.action = 2 ∧
    s.pwr.shed = false) ∧
  (∃ (s : State) (w : PwrSwitch), s.pwr.active = some w ∧ 0 < w.req.domain ∧ w.req.domain < 24 ∧
    let d := w.req.domain
    w.req.action = 0 ∧ (d = 5 ∨ d = 6)) :=
  ⟨⟨benchPwr 3 1 [], 4, 3, .pwrReqOn (4) (3), 1, by decide +kernel⟩,
   ⟨(benchPwr 3 1 []).withPwr { queue := List.replicate 8 ⟨3, 1⟩ }, 4, 3, .pwrReqOn (4) (3), 1, by decide +kernel⟩,
   ⟨benchPwr 3 1 [], 0x40, 3, .pwrReqOn (0x40) (3), 1, by decide +kernel⟩,
   ⟨benchPwr 3 2 [], ⟨3, 2⟩, false, [], [⟨4, 1⟩], ⟨by decide +kernel, by decide +kernel,
     next_first _ _ (by decide +kernel) (by decide +kernel), by decide +kernel⟩⟩,
   ⟨benchPwr 3 1 [], ⟨3, 1⟩, false, [], [⟨4, 1⟩], ⟨by decide +kernel, by decide +kernel,
     next_first _ _ (by decide +kernel) (by decide +kernel), by decide +kernel⟩⟩,
   ⟨(benchPwr 8 1 [8]).setFld R.FUS_ID_VAR 1, ⟨8, 1⟩, false, [], [⟨4, 1⟩], ⟨by decide +kernel, by decide +kernel,
     next_first _ _ (by decide +kernel) (by decide +kernel), by decide +kernel⟩⟩,
   ⟨(benchPwr 8 1 [8]).withHk { bench.hk with forbid := true }, ⟨8, 1⟩, false, [], [⟨4, 1⟩], ⟨by decide +kernel,
     by decide +kernel, next_first _ _ (by decide +kernel) (by decide +kernel), by decide +kernel⟩⟩,
   ⟨benchPwr 3 1 [3, 7], ⟨3, 1⟩, false, [], [⟨4, 1⟩], ⟨by decide +kernel, by decide +kernel,
     next_first _ _ (by decide +kernel) (by decide +kernel), by decide +kernel, by decide +kernel, by decide +kernel,
     by decide +kernel,
      .inl ⟨rfl, 7, by decide +kernel, by decide +kernel⟩⟩⟩,
   ⟨benchPwr 3 1 [3], ⟨3, 1⟩, false, [], [⟨4, 1⟩], ⟨by decide +kernel, by decide +kernel,
     next_first _ _ (by decide +kernel) (by decide +kernel), by decide +kernel,
      by decide +kernel, by decide +kernel, by decide +kernel, no_depends _ _ (by decide +kernel) (by decide +kernel),
        by decide +kernel⟩⟩,
   ⟨benchPwr 4 0 [], ⟨4, 0⟩, false, [], [⟨4, 1⟩], ⟨by decide +kernel, by decide +kernel,
     next_first _ _ (by decide +kernel) (by decide +kernel), by decide +kernel,
      by decide +kernel, by decide +kernel, by decide +kernel, no_depends _ _ (by decide +kernel) (by decide +kernel),
        by decide +kernel⟩⟩,
   ⟨benchPwr 10 0 [3, 4], ⟨10, 0⟩, false, [], [⟨4, 1⟩], ⟨by decide +kernel, by decide +kernel,
     next_first _ _ (by decide +kernel) (by decide +kernel), by decide +kernel,
      by decide +kernel, by decide +kernel, by decide +kernel, no_depends _ _ (by decide +kernel) (by decide +kernel),
        by decide +kernel⟩⟩,
   ⟨benchPwr 22 0 [], ⟨22, 0⟩, false, [], [⟨4, 1⟩], ⟨by decide +kernel, by decide +kernel,
     next_first _ _ (by decide +kernel) (by decide +kernel), by decide +kernel,
      by decide +kernel, by decide +kernel, by decide +kernel, no_depends _ _ (by decide +kernel) (by decide +kernel),
        by decide +kernel⟩⟩,
   ⟨(benchPwr 3 1 []).withPwr { vigil := [⟨1, 1⟩] }, by decide +kernel⟩,
   ⟨benchSwitch 3 1 false, switch0 3 1 false, by decide +kernel⟩,
   ⟨benchSwitch 3 1 false, switch0 3 1 false, by decide +kernel⟩,
   ⟨benchSwitch 3 1 true, switch0 3 1 true, by decide +kernel⟩,
   ⟨benchSwitch 3 0 false, switch0 3 0 false, by decide +kernel⟩,
   ⟨benchSwitch 5 2 false, switch0 5 2 false, by decide +kernel⟩,
   ⟨benchSwitch 5 2 false, switch0 5 2 false, by decide +kernel⟩,
   ⟨benchSwitch 5 0 false, switch0 5 0 false, by decide +kernel⟩⟩

/-- Witnesses of ResetCommands, clause by clause. -/
theorem witness_ResetCommands :
  (∃ (s : State), s.vigil = true) ∧
  (∃ (s : State), s.vigil = false ∧ s.rst.pinLow = false ∧ s.rst.slowLostAt = none) ∧
  (∃ (s : State), s.vigil = true) ∧
  (∃ (s : State), s.vigil = false ∧ s.rst.slowLostAt = none) ∧
  (∃ (s : State), s.rst.coreGood = false ∧ s.rst.phase = .waitCore) ∧
  (∃ (s : State), s.rst.coreGood = false ∧ s.rst.phase ≠ .waitCore) ∧
  (∃ (s : State) (rid : Rid), s.serves rid 0 ∧ wardenCore rid = true ∧ s.inHold = false) ∧
  (∃ (s : State) (rid : Rid), s.serves rid 0 ∧ wardenCore rid = false) ∧
  (∃ (s : State) (rid : Rid), s.serves rid 0 ∧ s.flag R.RST_WDOG_CFG_EN = false) ∧
  (∃ (s : State) (rid : Rid), s.serves rid 0 ∧ s.flag R.RST_WDOG_CFG_EN = true) ∧
  (∃ (s : State), s.vigil = true ∧ s.inHold = false ∧ s.rst.coreGood = true) ∧
  (∃ (s : State) (x : Nat), s.vigil = true ∧ s.inHold = false ∧ s.nq.resetAt = some x) ∧
  (∃ (s : State), s.vigil = true ∧ s.inHold = false ∧ s.flag R.RST_WDOG_CFG_EN = true) ∧
  (∃ (s : State), s.vigil = true ∧ s.inHold = false ∧ s.rst.pinLow = false ∧ s.flag R.RST_STAT_PIN_ARMED = true) ∧
  (∃ (s : State), s.vigil = true ∧ s.rst.pinLow = false ∧ s.flag R.RST_STAT_PIN_ARMED = false) ∧
  (∃ (s : State), s.vigil = true ∧ s.rst.pinLow = true) ∧
  (∃ (s : State), s.vigil = true ∧ s.rst.pinLow = true) ∧
  (∃ (s : State), s.vigil = true ∧ s.rst.pinLow = false ∧ s.flag R.RST_STAT_PIN_ARMED = false) ∧
  (∃ (s : State) (r : SysReset), s.inHold = true ∧ s.rst.sys = some r ∧ s.pwr.active = none ∧ r.zeroing = false ∧
    (s.rst.pinLow = false ∨ s.flag R.RST_STAT_PIN_ARMED = false) ∧ (s.rst.brown = false ∨ s.rst.coreGood = true) ∧
    s.trc.extest = false ∧ s.nq.restoreDue = false) ∧
  (∃ (s : State), s.rst.phase = .bootSet ∧ s.pwr.active = none ∧ ((∀ x ∈ s.pwr.vigil, s.dom x.domain = x.action))) ∧
  (∃ (s : State) (x : Nat), s.rst.outAt = some x) :=
  ⟨⟨benchRun1, by decide +kernel⟩,
   ⟨benchOff .por, by decide +kernel⟩,
   ⟨benchRun1, by decide +kernel⟩,
   ⟨benchOff .por, by decide +kernel⟩,
   ⟨benchOff .waitCore, by decide +kernel⟩,
   ⟨benchOff .por, by decide +kernel⟩,
   ⟨benchRun1, 4, by decide +kernel⟩,
   ⟨benchRun1, 0x40, by decide +kernel⟩,
   ⟨benchRun1, 4, by decide +kernel⟩,
   ⟨benchRun1.setFld R.RST_WDOG_CFG_EN 1, 4, by decide +kernel⟩,
   ⟨benchRun1, by decide +kernel⟩,
   ⟨benchRun1.withNq { bench.nq with resetAt := some 3000 }, 3000, by decide +kernel⟩,
   ⟨benchRun1.setFld R.RST_WDOG_CFG_EN 1, by decide +kernel⟩,
   ⟨benchRun1, by decide +kernel⟩,
   ⟨benchRun1.setFld R.RST_STAT_PIN_ARMED 0, by decide +kernel⟩,
   ⟨benchRun1.withRst { benchRun1.rst with pinLow := true }, by decide +kernel⟩,
   ⟨benchRun1.withRst { benchRun1.rst with pinLow := true }, by decide +kernel⟩,
   ⟨benchRun1.setFld R.RST_STAT_PIN_ARMED 0, by decide +kernel⟩,
   ⟨benchHeld, holdReset, by decide +kernel⟩,
   ⟨benchOff .bootSet, by decide +kernel⟩,
   ⟨benchRun1, 70010000000, by decide +kernel⟩⟩

/-- Witnesses of BootRom, clause by clause. -/
theorem witness_BootRom :
  (∃ (s : State) (src : Nat), s.romTries src ∧ s.flag R.RST_BOOT_WAIT_NQ = false ∧ s.live 6 = true ∧
    let asks := fun (d : Nat) => d ∈ [10, 22] ∧ (d = 22 → src = 2) ∧ s.isOn d = false ∧ d ∉ s.rst.boot.asked
    asks 10 ∧ asks 22 ∧ s.pwr.queue.length < 7) ∧
  (∃ (s : State) (src d e : Nat), s.romTries src ∧ s.flag R.RST_BOOT_WAIT_NQ = false ∧ s.live 6 = true ∧
    let asks := fun (d : Nat) => d ∈ [10, 22] ∧ (d = 22 → src = 2) ∧ s.isOn d = false ∧ d ∉ s.rst.boot.asked
    asks d ∧ ¬ asks e ∧ ((d = 10 ∧ e = 22) ∨ (d = 22 ∧ e = 10)) ∧ s.pwr.queue.length < 8) ∧
  (∃ (s : State) (src : Nat), s.romTries src ∧ s.flag R.RST_BOOT_WAIT_NQ = false ∧ s.live 6 = true ∧
    let asks := fun (d : Nat) => d ∈ [10, 22] ∧ (d = 22 → src = 2) ∧ s.isOn d = false ∧ d ∉ s.rst.boot.asked
    ¬ asks 10 ∧ ¬ asks 22 ∧ s.romWaits 10 = false ∧ s.romWaits 22 = false ∧ src = 3) ∧
  (∃ (s : State) (mediaErr : Bool) (src : Nat), s.romTries src ∧ s.flag R.RST_BOOT_WAIT_NQ = false ∧ s.live 6 = true ∧
    let asks := fun (d : Nat) => d ∈ [10, 22] ∧ (d = 22 → src = 2) ∧ s.isOn d = false ∧ d ∉ s.rst.boot.asked
    ¬ asks 10 ∧ ¬ asks 22 ∧ s.romWaits 10 = false ∧ s.romWaits 22 = false ∧ src = 2 ∧
      (s.isOn 22 = false ∨ (s.flag R.SDH_STAT_PRESENT = true ∧ mediaErr = true))) ∧
  (∃ (s : State) (src : Nat), s.romTries src ∧ s.flag R.RST_BOOT_WAIT_NQ = false ∧ s.live 6 = true ∧
    let asks := fun (d : Nat) => d ∈ [10, 22] ∧ (d = 22 → src = 2) ∧ s.isOn d = false ∧ d ∉ s.rst.boot.asked
    ¬ asks 10 ∧ ¬ asks 22 ∧ s.romWaits 10 = false ∧ s.romWaits 22 = false ∧ src = 2 ∧ s.isOn 22 = true ∧
      s.flag R.SDH_STAT_PRESENT = false) ∧
  (∃ (s : State) (image : List Byte) (mediaErr : Bool) (src : Nat), s.romTries src ∧ s.flag R.RST_BOOT_WAIT_NQ = false ∧
    s.live 6 = true ∧
    let asks := fun (d : Nat) => d ∈ [10, 22] ∧ (d = 22 → src = 2) ∧ s.isOn d = false ∧ d ∉ s.rst.boot.asked
    ¬ asks 10 ∧ ¬ asks 22 ∧ s.romWaits 10 = false ∧ s.romWaits 22 = false ∧ src = 2 ∧ s.isOn 22 = true ∧
      s.flag R.SDH_STAT_PRESENT = true ∧ mediaErr = false ∧
    let h := slice image 0 256
    headerCode h 2080768 ≠ 0) ∧
  (∃ (s : State) (image : List Byte) (mediaErr : Bool) (src : Nat), s.romTries src ∧ s.flag R.RST_BOOT_WAIT_NQ = false ∧
    s.live 6 = true ∧
    let asks := fun (d : Nat) => d ∈ [10, 22] ∧ (d = 22 → src = 2) ∧ s.isOn d = false ∧ d ∉ s.rst.boot.asked
    ¬ asks 10 ∧ ¬ asks 22 ∧ s.romWaits 10 = false ∧ s.romWaits 22 = false ∧ src = 2 ∧ s.isOn 22 = true ∧
      s.flag R.SDH_STAT_PRESENT = true ∧ mediaErr = false ∧
    let h := slice image 0 256
    headerCode h 2080768 = 0 ∧ s.inRam 0x10000000 (bodyLen h)) ∧
  (∃ (s : State) (src : Nat), s.romTries src ∧ s.flag R.RST_BOOT_WAIT_NQ = false ∧ s.live 6 = true ∧
    let asks := fun (d : Nat) => d ∈ [10, 22] ∧ (d = 22 → src = 2) ∧ s.isOn d = false ∧ d ∉ s.rst.boot.asked
    ¬ asks 10 ∧ ¬ asks 22 ∧ s.romWaits 10 = false ∧ s.romWaits 22 = false ∧ src = 1 ∧ 16 ∈ s.nvs.bad) ∧
  (∃ (s : State) (src : Nat), s.romTries src ∧ s.flag R.RST_BOOT_WAIT_NQ = false ∧ s.live 6 = true ∧
    let asks := fun (d : Nat) => d ∈ [10, 22] ∧ (d = 22 → src = 2) ∧ s.isOn d = false ∧ d ∉ s.rst.boot.asked
    ¬ asks 10 ∧ ¬ asks 22 ∧ s.romWaits 10 = false ∧ s.romWaits 22 = false ∧ src = 1 ∧ s.nvs.bad = [] ∧
    let h := (s.nvsPage 16).take 256
    headerCode h 16128 ≠ 0) ∧
  (∃ (s : State) (src : Nat), s.romTries src ∧ s.flag R.RST_BOOT_WAIT_NQ = false ∧ s.live 6 = true ∧
    let asks := fun (d : Nat) => d ∈ [10, 22] ∧ (d = 22 → src = 2) ∧ s.isOn d = false ∧ d ∉ s.rst.boot.asked
    ¬ asks 10 ∧ ¬ asks 22 ∧ s.romWaits 10 = false ∧ s.romWaits 22 = false ∧ src = 1 ∧ s.nvs.bad = [] ∧
    let h := (s.nvsPage 16).take 256
    headerCode h 16128 = 0 ∧ s.inRam 0x10000000 (bodyLen h)) ∧
  (∃ (s : State) (total : Nat), s.romRuns = true ∧ s.flag R.RST_BOOT_WAIT_NQ = true ∧ s.rst.boot.received = some total ∧
    s.inRam 0x101FC000 256) ∧
  (∃ (s : State), s.romRuns = true ∧ s.flag R.RST_BOOT_WAIT_NQ = true) ∧
  (∃ (s : State) (e : Nat), s.rst.boot.active = true ∧ s.live 3 = true ∧ (s.thr 0).run = 1 ∧ s.rst.boot.entry = some e ∧
    (s.core 0).sb = [] ∧ (s.core 0).dcache = []) ∧
  (∃ (s : State), s.romRuns = true ∧ s.bootSource = 0) ∧
  (∃ (s : State) (rid : Rid), s.serves rid 0) :=
  ⟨⟨(benchBoot [2] [] 0).setDom 10 0, 2, by decide +kernel⟩,
   ⟨(benchBoot [2] [10] 0), 2, 22, 10, by decide +kernel⟩,
   ⟨benchBoot [3] [10] 1, 3, by decide +kernel⟩,
   ⟨benchBoot [2] [10, 22] 1, true, 2, by decide +kernel⟩,
   ⟨(benchBoot [2] [10, 22] 1).setFld R.SDH_STAT_PRESENT 0, 2, by decide +kernel⟩,
   ⟨benchBoot [2] [10, 22] 1, [], false, 2, by decide +kernel⟩,
   ⟨benchBoot [2] [10, 22] 1, image0, false, 2, by decide +kernel⟩,
   ⟨benchNvBoot image0 [16], 1, by decide +kernel⟩,
   ⟨benchNvBoot [] [], 1, by decide +kernel⟩,
   ⟨benchNvBoot image0 [], 1, by decide +kernel⟩,
   ⟨benchNqBoot, 264, by decide +kernel⟩,
   ⟨benchNqBoot, by decide +kernel⟩,
   ⟨benchDone, 0x10000104, by decide +kernel⟩,
   ⟨benchBoot [] [10] 1, by decide +kernel⟩,
   ⟨benchBoot [3] [10] 1, 4, by decide +kernel⟩⟩

/-! ### Decoding and well-formedness -/

/-- No word spells a command. -/
theorem test_decode_none : decodeTableWord 32 0x12345678 = none ∧ decodeTableWord 0 0 = none := by decide

theorem test_wf_alias_write : (Instr.aliasWrite 4 (BitVec.ofNat 32 (R.EVT_SLVL + 0x400)) 1).wf = true ∧
    (Instr.aliasWrite 4 (BitVec.ofNat 32 R.EVT_SLVL) 1).wf = false ∧ (Instr.aliasWrite 4 0x4000A400 1).wf = false := by decide +kernel

theorem test_wf_masked_write : (Instr.maskedWrite 4 (BitVec.ofNat 32 R.HK_CTRL) 1).wf = true ∧
    (Instr.maskedWrite 4 (BitVec.ofNat 32 R.EVT_SLVL) 1).wf = false := by decide +kernel

theorem test_wf_rc_read : (Instr.rcRead 4 (BitVec.ofNat 32 C.IC_DECCNT.addr)).wf = true ∧
    (Instr.rcRead 4 (BitVec.ofNat 32 R.EVT_SLVL)).wf = false := by decide +kernel

theorem test_wf_vote : (Instr.voteDisagreement (BitVec.ofNat 32 R.EVT_SLVL)).wf = true ∧
    (Instr.voteDisagreement (BitVec.ofNat 32 R.HK_CTRL)).wf = false := by decide +kernel

theorem test_wf_shadow : (Instr.shadowPairStart 4 (BitVec.ofNat 32 R.TMP_LOGCLR) 1).wf = true ∧
    (Instr.shadowPairStart 4 (BitVec.ofNat 32 R.EVT_SLVL) 1).wf = false ∧
    (Instr.shadowPortWrite 4 (BitVec.ofNat 32 (R.TMP_LOGCLR + 0x200)) 1).wf = true ∧
    (Instr.shadowPortWrite 4 (BitVec.ofNat 32 R.TMP_LOGCLR) 1).wf = false ∧
    (Instr.shadowPairTimeout (BitVec.ofNat 32 R.EVT_SLVL)).wf = false ∧
    (Instr.shadowMismatch (BitVec.ofNat 32 R.EVT_SLVL) 0).wf = false := by decide +kernel

theorem test_wf_varlas_payload : (Instr.varlasSuperframeEncrypt 0 0 0 0 (List.replicate 252 0)).wf = true ∧
    (Instr.varlasSuperframeEncrypt 0 0 0 0 (List.replicate 251 0)).wf = false := by decide +kernel

/-- A transaction crosses no 4 KB boundary, is not empty, and a write carries its bytes. -/
theorem test_wf_bus : (Instr.busTransaction 4 0x10000FFC 4 false [] .good).wf = true ∧
    (Instr.busTransaction 4 0x10000FFC 5 false [] .good).wf = false ∧ (Instr.busTransaction 4 0x10000000 0 false [] .good).wf = false ∧
    (Instr.busTransaction 4 0x10000000 2 true [1] .good).wf = false := by decide +kernel

theorem test_wf_nrt : (Instr.nrtAccess 4 0x80000000 1 true [7] 0).wf = true ∧ (Instr.nrtAccess 4 0x7FFFFFFF 1 true [7] 0).wf = false ∧
    (Instr.nrtAccess 4 0x80000000 1 false [7] 0).wf = false := by decide +kernel

theorem test_wf_sd_block : (Instr.sdBlock (List.replicate 512 0) true).wf = true ∧ (Instr.sdBlock [] true).wf = false := by
  decide +kernel

/-! ### Worked examples of the spec -/

/-- Whether a command goes on to a state of which something holds. -/
def shows (o : Host.Outcome State Fault Refusal) (f : State → Bool) : Bool :=
  match o with
  | .next t => f t
  | _ => false

/-- Reset: the block boots held by the power-on reset, which a release ends (R495). -/
theorem test_por_release : shows (exec .porRelease State.reset) (fun t => t.vigil) = true := by decide +kernel

/-- Chapter 03's worked example: the high word comes from the snapshot of the low word's read, not from the live counter. -/
theorem test_snapshot :
    shows (exec (.counterLowWordRead 0x20 (BitVec.ofNat 32 R.HLD_SAMPLES))
        ((bench.setRegN R.HLD_SAMPLES 0xFFFFFFFE).setRegN R.HLD_SAMPLES_HI 1)) (fun t =>
      t.answer.data == 0xFFFFFFFE &&
        ((t.setRegN R.HLD_SAMPLES_HI 2).read 0x20 R.HLD_SAMPLES_HI).answer.data == 1) = true := by decide +kernel

/-- Chapter 06's worked example: GO at 250,212,000 ns with slots of 500 µs and MTX_ADV 200 µs aims at 250,500,000. -/
theorem test_commit_target :
    shows (exec (.commitGo 4 0x60) ((((benchEdit.setFld R.MTX_ADV_ADV 200).setRegN R.MTX_FOFS 0).setFld R.CAL_STAT_VALID 1).withCal
        { benchEdit.cal with t := 250212000 * 2 ^ 48 })) (fun t => t.regN R.MTX_TARGET_NS == 250500000) = true := by decide +kernel

/-- Chapter 08's worked example: I = −409,600 in 9-bit block floating point takes exponent 6 and mantissa 312; the block
begins 0b0110_1001_1100_0. -/
theorem test_bfp_block :
    (packGroup ⟨0x80, 0, 0⟩ ((-409600, 2000) :: (-1000, 0) :: List.replicate 10 (0, 0))).1 / 2 ^ 180 =
      ((6 * 512 + 312) * 512 + 1) * 2 ^ 18 := by decide +kernel

/-- Chapter 11's worked example: SAVE at DEPTH 9 traps with WST 0x0009_000B; WPUSH then stores window 9 and moves WSP. -/
theorem test_window_overflow :
    shows (exec (.save 0 anyWord) (benchHz { thread0 with wptr := 7, depth := 9, ml := 0 })) (fun t =>
      (t.thr 0).wptr == 11 && (t.thr 0).depth == 9 && (t.thr 0).hx && (t.thr 0).ecause == 6) = true := by decide +kernel

theorem test_wpush :
    shows (exec (.wpush 0 anyWord) (benchHz { thread0 with wptr := 11, depth := 9, hx := true, wsp := 0x10007E40, ml := 7 })) (fun t =>
      (t.thr 0).depth == 8 && (t.thr 0).wsp == 0x10007E80) = true := by decide +kernel

/-- Chapter 13's worked example: the DOZE packet of core 0 at 400,000,000 ns. -/
theorem test_doze_packet :
    shows (exec (.dozeEntry 0) (((benchDoze.setRegN R.TRC_CTRL 0x19).setFld R.CAL_STAT_VALID 1).withCal
        { bench.cal with t := 400000000 * 2 ^ 48 })) (fun t => t.traceBytes 0 5 == [0x50, 0x00, 0x84, 0xD7, 0x17]) = true := by
  decide +kernel

/-- Chapter 14's worked example: a descriptor of 4096 bytes from SB1 to SB3. -/
theorem test_descriptor :
    shows (exec (.dmaDescriptorLoad 3) ((benchDma (load0 0x10000400)).setSramBytes 0x10000400
        (leBytes 4 0x10080000 ++ leBytes 4 0x10180000 ++ leBytes 4 4096 ++ leBytes 4 0x10000410))) (fun t =>
      t.dmaRun 3 == some { src := 0x10080000, dst := 0x10180000, left := 4096, next := some 0x10000410 }) = true := by decide +kernel

/-- Chapter 15's worked example: the write that brings a page to 100,000 starts its rotation; E104. -/
theorem test_page_wears_out :
    shows (exec .nvsOperationComplete ((benchStore1 (.write 40) []).withNvs
        { (benchStore1 (.write 40) []).nvs with counts := [(40, 99999)], spares := 5 })) (fun t =>
      tget 0 t.nvs.counts 40 == 100000 && t.nvs.rotation == some 40 && t.flag R.NVS_STAT_ROT && t.pends 104) = true := by decide +kernel

/-- Chapter 16's worked example: LOOP0 opens: E115, and the supervisor hears of it with DETAIL 1. -/
theorem test_loop_opens :
    shows (exec (.loopStateChange 0 1) (bench.setFld (R.TMP_SRC_RESP_EN 5) 1)) (fun t =>
      t.pends 115 && t.tmp.reports == [⟨5, 1, 0, 0⟩]) = true := by decide +kernel

/-- Chapter 17's worked example: channel 23 at 2.05 V reads 0xFFF with OVR and VALUE 1800; E137; the next conversion, one slot
later, is SUSPECT. -/
theorem test_channel_over_range :
    shows (exec (.conversionComplete 0xFFF 1) (benchHk fun h => { h with nextCh := 23 })) (fun t =>
      t.regN (R.HK_CH 23) == 1800 * 2 ^ 16 + 0x8FFF && t.pends 137 &&
        shows (exec (.conversionComplete 100 0) t) (fun u => u.regN C.HK_SUSPCNT.addr == 1)) = true := by decide +kernel

/-! ### The standard algorithms: vectors their standards publish -/

theorem test_crc32 : crc32 [0x31, 0x32, 0x33, 0x34, 0x35, 0x36, 0x37, 0x38, 0x39] = 0xCBF43926 := by decide +kernel

theorem test_sha256 : beNat (sha256 [0x61, 0x62, 0x63]) =
    0xBA7816BF8F01CFEA414140DE5DAE2223B00361A396177A9CB410FF61F20015AD := by decide +kernel

theorem test_aes256 : aes256 0x000102030405060708090A0B0C0D0E0F101112131415161718191A1B1C1D1E1F 0x00112233445566778899AABBCCDDEEFF =
    0x8EA2B7CA516745BFEAFC49904B496089 := by decide +kernel

/-- The base points lie on their curves. -/
theorem test_curves : p256.on p256.gx p256.gy = true := by decide +kernel

end Sys2Proof.Tests
end

/-! The hardware responder: what serving a frame outside a session and within one comes to, and the proofs of the statements on
Niquevor access (chapters 02 and 22). -/

namespace Sys2Proof.Machine

/-! ### What the responder's operations leave as it was -/

/-- What differs at most in parts other than the registers is framed with no register named. -/
theorem framed_of_same {l : List Part} {s t : State} (h : Same l s t) (hr : Part.regs ∉ l := by decide) : s.framed t l [] :=
  ⟨h, fun a _ => by rw [State.reg, h.regs hr, State.reg]⟩

theorem taken_same (s : State) : Same [.nq] s s.taken := State.withNq_same ..

@[simp] theorem taken_session (s : State) (id : Nat) : s.taken.session id = s.session id := rfl
@[simp] theorem taken_xfer (s : State) (p id : Nat) : s.taken.xfer p id = s.xfer p id := rfl
@[simp] theorem taken_out (s : State) : s.taken.nq.out = s.nq.out := rfl
@[simp] theorem endXfer_out (s : State) (p id : Nat) : (s.endXfer p id).nq.out = s.nq.out := rfl
@[simp] theorem putXfer_out (s : State) (x : Transfer) : (s.putXfer x).nq.out = s.nq.out := rfl

/-! ### Serving a request -/

/-- The request a payload names. -/
def NqReq.ofPayload (port session : Nat) (p : List Byte) : NqReq :=
  ⟨port, session, beNat (p.take 2), ((p.drop 2).headD 0).toNat⟩

@[simp] theorem roleOf_zero (s : State) : s.roleOf 0 = none := by simp [State.roleOf]
@[simp] theorem engaged_zero (s : State) : s.engaged 0 = s := modSession_zero ..

section
variable (s : State) (port id : Nat) (last : Bool) (p : List Byte) (h : (s.session id).any (·.busy) = false)
include h

theorem serve_read : s.serve port id 1 last p = (s.engaged id).serveRead (.ofPayload port id p) := by
  simp [State.serve, h, State.engaged, NqReq.ofPayload]

theorem serve_write : s.serve port id 2 last p = (s.engaged id).serveWrite (.ofPayload port id p) (p.drop 4) := by
  simp [State.serve, h, State.engaged, NqReq.ofPayload]

theorem serve_segStart : s.serve port id 4 last p =
    (s.engaged id).segStart (.ofPayload port id p) ((p.drop 3).headD 0).toNat (beNat (p.drop 4)) := by
  simp [State.serve, h, State.engaged, NqReq.ofPayload]

theorem serve_segment : s.serve port id 5 last p =
    (s.engaged id).segment (.ofPayload port id p) (beNat ((p.drop 4).take 4)) (p.drop 8) last := by
  simp [State.serve, h, State.engaged, NqReq.ofPayload]

end

/-- A read of an object of at most 16 bytes answers its value (R36). -/
theorem serveRead_obj (s : State) (q : NqReq) (r : ObjRow) (h : s.objLook q.index q.sub false (s.roleOf q.session) = .obj r)
    (h16 : (s.objBytes r q.index q.sub).length ≤ 16) :
    s.serveRead q = s.reply q 0 (s.objBytes r q.index q.sub) := by
  simp [State.serveRead, h, Nat.not_lt.2 h16]

/-- A write of at most 16 bytes stores the value by the object's rule and answers the status (R37). -/
theorem serveWrite_obj (s : State) (q : NqReq) (r : ObjRow) (v : List Byte)
    (h : s.objLook q.index q.sub true (s.roleOf q.session) = .obj r) (h16 : v.length ≤ 16) :
    s.serveWrite q v = (s.objStore r q.index q.sub v).2.reply q (s.objStore r q.index q.sub v).1 [] := by
  simp [State.serveWrite, h, Nat.not_lt.2 h16]

/-- The transfer that a Segment start opens for a read of an object (R38). -/
def State.readXfer (s : State) (q : NqReq) (r : ObjRow) : Transfer :=
  { port := q.port, session := q.session, index := q.index, sub := q.sub, isWrite := false, at_ := s.now,
    total := (s.objBytes r q.index q.sub).length, data := s.objBytes r q.index q.sub,
    marker := s.objMarker q.index q.sub }

/-- A Segment start for a read ends the transfer its requester holds and opens one of the object's bytes. -/
theorem segStart_read (s : State) (q : NqReq) (total : Nat) (r : ObjRow)
    (h : (s.endXfer q.port q.session).objLook q.index q.sub false ((s.endXfer q.port q.session).roleOf q.session) = .obj r) :
    s.segStart q 0 total =
      let u := s.endXfer q.port q.session
      (u.putXfer (u.readXfer q r)).reply q 0 (beBytes 4 (u.readXfer q r).total) := by
  simp [State.segStart, h, State.readXfer]

/-- A Segment of a read that fits its transfer, of an object that is there and unchanged, sends the next part (R39, R531). -/
theorem segment_read (s : State) (q : NqReq) (x : Transfer) (last : Bool) (r : ObjRow) (needs : List Nat)
    (hx : s.xfer q.port q.session = some x) (hi : x.index = q.index) (hs : x.sub = q.sub) (hw : x.isWrite = false)
    (hf : x.fw = false) (ho : objFind s.isAN q.index q.sub = .obj r needs) (hu : s.objUp needs q.index = true)
    (hm : x.total ≤ 1024 ∨ s.objMarker q.index q.sub = x.marker) :
    s.segment q x.offset [] last = s.segRead q x := by
  have hc : ¬ (1024 < x.total ∧ s.objMarker q.index q.sub ≠ x.marker) := by
    rintro ⟨h1, h2⟩
    rcases hm with h | h
    · omega
    · exact h2 h
  have hc' : (decide (1024 < x.total) && decide (s.objMarker q.index q.sub ≠ x.marker)) = false := by simpa using hc
  simp only [State.segment, hx, hi, hs, hw, hf, ho, hu, hc']
  simp

/-! ### Transfers -/

theorem xfer_some {s : State} {p id : Nat} {x : Transfer} (h : s.xfer p id = some x) : x.port = p ∧ x.session = id := by
  simpa using List.find?_some h

/-- Outside a session on the field port, a Segment of a read queues the next part; the transfer ends with the last one and
else goes on behind it. -/
theorem segRead_field (s : State) (x : Transfer) (hx : s.xfer 24 0 = some x) (i sub : Nat) :
    let part := (x.data.drop x.offset).take 1024
    let last := decide (x.total ≤ x.offset + part.length)
    (s.segRead ⟨24, 0, i, sub⟩ x).nq.out = s.nq.out ++
        [⟨24, 0, 5, 1, nqPlain 5 last 0 0 (nqObj i sub 0 ++ beBytes 4 x.offset ++ part)⟩] ∧
      (s.segRead ⟨24, 0, i, sub⟩ x).xfer 24 0 =
        (if last then none else some { x with offset := x.offset + part.length, at_ := s.now, port := 24, session := 0 }) := by
  intro part last
  obtain ⟨hp, hs⟩ := xfer_some hx
  have he : s.segRead ⟨24, 0, i, sub⟩ x = (if last then s.endXfer 24 0
      else s.putXfer { x with offset := x.offset + part.length, at_ := s.now }).nqEmit 24 0 5 last
        (nqObj i sub 0 ++ beBytes 4 x.offset ++ part) 1 := rfl
  rw [he, nqEmit_plain]
  cases last with
  | true => exact ⟨rfl, xfer_endXfer_same s 24 0⟩
  | false =>
    have hput := xfer_putXfer_same s { x with offset := x.offset + part.length, at_ := s.now, port := 24, session := 0 }
    simp only [← hp, ← hs] at hput ⊢
    exact ⟨rfl, hput⟩

/-! ### Frames outside a session on the field port -/

section
variable (s : State) (b : List Byte) (f : NqFrame) (hv : s.vigil = true) (hp : nqParse 24 b = some f) (hpr : f.prot = false)
  (hs0 : f.session = 0)
include hv hp hpr hs0

/-- A Read (R36). -/
theorem exec_read_field (r : ObjRow) (hk : f.kind = 1) (hsh : nqShape 1 f.payload = true) (q : NqReq)
    (hq : q = .ofPayload 24 0 f.payload) (hl : s.taken.objLook q.index q.sub false none = .obj r)
    (h16 : (s.taken.objBytes r q.index q.sub).length ≤ 16) :
    exec (.read 24 b) s = .next (s.taken.reply q 0 (s.taken.objBytes r q.index q.sub)) := by
  subst hq
  refine congrArg _ ((nqFrame_field s b f 1 hv hp hk hpr hs0 hsh (by simp)).trans ?_)
  rw [serve_read _ _ _ _ _ (by simp), engaged_zero]
  exact serveRead_obj _ _ r (by simpa [NqReq.ofPayload] using hl) h16

/-- A Segment start for a read (R38). -/
theorem exec_segmentStart_field (r : ObjRow) (hk : f.kind = 4) (hsh : nqShape 4 f.payload = true) (q : NqReq)
    (hq : q = .ofPayload 24 0 f.payload) (hd : (f.payload.drop 3).headD 0 = 0)
    (hl : (s.taken.endXfer 24 0).objLook q.index q.sub false none = .obj r) :
    exec (.segmentStart 24 b) s = .next
      (((s.taken.endXfer 24 0).putXfer ((s.taken.endXfer 24 0).readXfer q r)).reply q 0
        (beBytes 4 ((s.taken.endXfer 24 0).readXfer q r).total)) := by
  subst hq
  refine congrArg _ ((nqFrame_field s b f 4 hv hp hk hpr hs0 hsh (by simp)).trans ?_)
  rw [serve_segStart _ _ _ _ _ (by simp), engaged_zero, hd]
  exact segStart_read s.taken (.ofPayload 24 0 f.payload) _ r (by simpa [NqReq.ofPayload] using hl)

/-- A Segment of a read (R39). -/
theorem exec_segment_field (x : Transfer) (r : ObjRow) (needs : List Nat) (hk : f.kind = 5)
    (hsh : nqShape 5 f.payload = true) (h8 : f.payload.length = 8) (hx : s.xfer 24 0 = some x) (hw : x.isWrite = false)
    (hf : x.fw = false) (hq : (⟨24, 0, x.index, x.sub⟩ : NqReq) = .ofPayload 24 0 f.payload)
    (ho : x.offset = beNat ((f.payload.drop 4).take 4)) (hfind : objFind s.isAN x.index x.sub = .obj r needs)
    (hu : s.objUp needs x.index = true) (hm : x.total ≤ 1024 ∨ s.objMarker x.index x.sub = x.marker) :
    exec (.segment 24 b) s = .next (s.taken.segRead ⟨24, 0, x.index, x.sub⟩ x) := by
  refine congrArg _ ((nqFrame_field s b f 5 hv hp hk hpr hs0 hsh (by simp)).trans ?_)
  rw [serve_segment _ _ _ _ _ (by simp), engaged_zero, ← hq, ← ho, List.drop_eq_nil_of_le (by omega)]
  exact segment_read s.taken ⟨24, 0, x.index, x.sub⟩ x f.last r needs hx rfl rfl hw hf hfind hu hm

/-- An Abort ends the field port's transfer (R31). -/
theorem exec_abort_field (hk : f.kind = 12) (hsh : nqShape 12 f.payload = true) :
    exec (.abort 24 b) s = .next (s.taken.endXfer 24 0) := by
  have h : s.nqFrame 12 24 b = s.taken.endXfer 24 0 := by
    simp [State.nqFrame, hv, hp, hk, hpr, State.servePlain, hsh, hs0, State.taken]
  exact congrArg _ h

end

/-- Settles O4: each frame comes to the reply, the transfer or the part its exec lemma names, and only the responder's part of the
state changes on the way. -/
theorem fieldPortReads : Obligations.FieldPortReads := by
  refine ⟨?read, ?start, ?segment, ?abort⟩
  case read =>
    intro s b f r i sub hv hp hk hpr hs0 hsh hi hsub hl h16
    refine ⟨_, if i = 0x6010 && sub = 1 && 0 = 0 then 2 else 1,
      exec_read_field s b f hv hp hpr hs0 r hk hsh ⟨24, 0, i, sub⟩ (by rw [hi, hsub]; rfl) hl h16, by split <;> decide, ?_,
      framed_of_same (.step (State.reply_same ..) (taken_same s))⟩
    rw [State.reply, nqRespond_plain]
    rfl
  case start =>
    intro s b f r i sub hv hp hk hpr hs0 hsh hi hsub hd hl
    let u := s.taken.endXfer 24 0
    let x := u.readXfer ⟨24, 0, i, sub⟩ r
    refine ⟨_, if i = 0x6010 && sub = 1 && 0 = 0 then 2 else 1, x,
      exec_segmentStart_field s b f hv hp hpr hs0 r hk hsh ⟨24, 0, i, sub⟩ (by rw [hi, hsub]; rfl) hd hl, ?_, rfl, rfl, rfl,
      rfl, rfl, rfl, ?_, framed_of_same (.step (State.reply_same ..) (.step (State.putXfer_same ..) (.step
        (State.endXfer_same ..) (taken_same s))))⟩
    · rw [State.reply, nqRespond_plain]
      exact xfer_putXfer_same u x
    · rw [State.reply, nqRespond_plain]
      rfl
  case segment =>
    intro s b f x r needs hv hp hk hpr hs0 hsh h8 hx hw hf hi hsub ho hfind hu hm
    have hq : (⟨24, 0, x.index, x.sub⟩ : NqReq) = .ofPayload 24 0 f.payload := by rw [hi, hsub]; rfl
    obtain ⟨hout, hxfer⟩ := segRead_field s.taken x hx x.index x.sub
    exact ⟨_, exec_segment_field s b f hv hp hpr hs0 x r needs hk hsh h8 hx hw hf hq ho hfind hu hm, hout, hxfer,
      framed_of_same (.step (State.segRead_same ..) (taken_same s))⟩
  case abort =>
    intro s b f hv hp hk hpr hs0 hsh
    exact ⟨_, exec_abort_field s b f hv hp hpr hs0 hk hsh, xfer_endXfer_same .., fun p id h => xfer_endXfer_other _ _ _ _ _ h,
      rfl, framed_of_same (.step (State.endXfer_same ..) (taken_same s))⟩

end Sys2Proof.Machine

namespace Sys2Proof.Machine

/-! ### Sessions -/

theorem session_congr {s t : State} (h : t.nq.sessions = s.nq.sessions) (id : Nat) : t.session id = s.session id := by
  rw [State.session, h, State.session]

theorem session_closeSession_same (s : State) (id : Nat) : (s.closeSession id).session id = none := by
  unfold State.session State.closeSession
  split
  · rfl
  · simp [List.find?_eq_none]

theorem session_closeSession_other (s : State) (id k : Nat) (h : k ≠ id) : (s.closeSession id).session k = s.session k := by
  unfold State.session State.closeSession
  split
  · rfl
  · rw [State.withNq_nq, List.find?_filter]
    congr 1
    funext x
    by_cases hx : x.id = k
    · simp [hx, h]
    · simp [hx]

theorem xfer_closeSession_same (s : State) (p id : Nat) : (s.closeSession id).xfer p id = none := by
  simp only [State.xfer, State.closeSession, State.withNq_nq, List.find?_eq_none, List.mem_filter]
  rintro x ⟨-, hx⟩
  simp_all

/-- A session that is changed. -/
theorem session_modSession_same {s : State} {id : Nat} {x : Session} (h : s.session id = some x) (f : Session → Session)
    (hf : ∀ y, (f y).id = y.id) : (s.modSession id f).session id = some (f x) := by
  rw [session_modSession _ _ _ _ hf, h]
  simp [(session_some h).1]

theorem session_modSession_other (s : State) (id k : Nat) (f : Session → Session) (hf : ∀ y, (f y).id = y.id) (hk : k ≠ id) :
    (s.modSession id f).session k = s.session k := by
  rw [session_modSession _ _ _ _ hf]
  cases hs : s.session k with
  | none => rfl
  | some y =>
    have hy : y.id ≠ id := by rw [(session_some hs).1]; exact hk
    simp [hy]

/-- The session that has sent a frame the responder hears. -/
theorem session_heard {s : State} {f : NqFrame} {x : Session} (h : s.session f.session = some x) :
    (s.heard x f).session x.id = some { x with seqIn := f.seq, lastAt := s.now } := by
  have hid : s.taken.session x.id = some x := (session_some h).1 ▸ h
  exact session_modSession_same hid _ (fun _ => rfl)

theorem session_heard_other (s : State) (f : NqFrame) (x : Session) (id : Nat) (h : id ≠ x.id) :
    (s.heard x f).session id = s.session id :=
  session_modSession_other s.taken _ _ _ (fun _ => rfl) h

theorem session_engaged {s : State} {id : Nat} {x : Session} (h : s.session id = some x) :
    (s.engaged id).session id = some { x with busy := true } :=
  session_modSession_same h _ (fun _ => rfl)

/-- A session keeps its role while its request is under way. -/
theorem roleOf_engaged {s : State} {id : Nat} {x : Session} (h : s.session id = some x) :
    (s.engaged id).roleOf id = some x.role := by
  rw [State.roleOf, session_engaged h]
  rfl

theorem heard_same (s : State) (x : Session) (f : NqFrame) : Same [.nq] s (s.heard x f) :=
  .step (State.modSession_same ..) (taken_same s)

/-! ### Frames that are sent -/

theorem nqSent_unmarked (s : State) (o : NqOut) (h : o.mark = 0) : s.nqSent o = s.withNq { s.nq with sent := some o } := by
  simp [State.nqSent, h]

/-- A frame that answers no request leaves the sessions as they were. -/
theorem nqPush_sessions (s : State) (o : NqOut) (h : o.mark = 0) : (s.nqPush o).nq.sessions = s.nq.sessions := by
  rw [State.nqPush]
  split
  · rfl
  · rw [nqSent_unmarked s o h]
    rfl

/-- A frame within a session whose SEQ is not used up takes the next SEQ and is queued (R44). -/
theorem nqEmit_session {s : State} {id : Nat} {x : Session} (h : s.session id = some x) (hq : x.seqOut < 0xFFFFFFFE)
    (port k : Nat) (last : Bool) (p : List Byte) (m : Nat) :
    s.nqEmit port id k last p m =
      (s.modSession id (fun y => { y with seqOut := x.seqOut + 1 })).nqPush
        ⟨port, id, k, m, nqProtected x k last (x.seqOut + 1) p⟩ := by
  obtain ⟨-, h0, -⟩ := session_some h
  have hlt : ¬ 0xFFFFFFFF ≤ x.seqOut + 1 := by omega
  simp only [State.nqEmit, if_neg h0, h, if_neg hlt]

/-! ### Frames within a session -/

section
variable (s : State) (port : Fin 25) (b : List Byte) (f : NqFrame) (x : Session) (hv : s.vigil = true)
  (hp : nqParse port.val b = some f) (ha : s.admits port.val f x)
include hv hp ha

/-- A Write in a session (R37). -/
theorem exec_write_session (r : ObjRow) (hk : f.kind = 2) (ho : x.isOpen = true) (hb : x.busy = false)
    (hsh : nqShape 2 (f.clear x) = true) (q : NqReq) (hq : q = .ofPayload port.val x.id (f.clear x))
    (hl : ((s.heard x f).engaged x.id).objLook q.index q.sub true (some x.role) = .obj r)
    (h16 : ((f.clear x).drop 4).length ≤ 16) :
    let w := ((s.heard x f).engaged x.id).objStore r q.index q.sub ((f.clear x).drop 4)
    exec (.write port b) s = .next (w.2.reply q w.1 []) := by
  have hs := session_heard ha.1
  have hframe := nqFrame_admitted s port.val b f x hv hp ha (hk ▸ hsh) (.inl ho)
  simp only [hk, ho] at hframe
  refine congrArg _ (hframe.trans ?_)
  subst hq
  exact (serve_write _ _ _ f.last _ (by simp [hs, hb])).trans (serveWrite_obj _ _ r _ (roleOf_engaged hs ▸ hl) h16)

/-- An Answer with the nonce opens its session and sends Accept (R42). -/
theorem exec_answer_session (hk : f.kind = 9) (ho : x.isOpen = false) (hsh : nqShape 9 (f.clear x) = true)
    (hn : beNat (f.clear x) = x.nd.toNat) (h4 : (s.heard x f).openSessions < 4) :
    exec (.answer port b) s = .next (((s.heard x f).modSession x.id (fun y => { y with isOpen := true })).nqEmit x.port x.id 0xA
      false (beBytes 2 (s.heard x f).idleLimit) 0) := by
  have hframe := nqFrame_admitted s port.val b f x hv hp ha (hk ▸ hsh) (.inr hk)
  simp only [hk, ho, Bool.not_false, if_true, State.answerTaken, hn, ne_eq, not_true_eq_false, if_false,
    if_neg (Nat.not_le.2 h4)] at hframe
  exact congrArg _ hframe

/-- A Close ends its session (R46). -/
theorem exec_close_session (hk : f.kind = 11) (ho : x.isOpen = true) (hsh : nqShape 11 (f.clear x) = true) :
    exec (.close port b) s = .next ((s.heard x f).closeSession x.id) := by
  have hframe := nqFrame_admitted s port.val b f x hv hp ha (hk ▸ hsh) (.inl ho)
  simp only [hk, ho] at hframe
  exact congrArg _ hframe

end

/-! ### The opening of a session -/

/-- The session that an accepted Session open makes (R42, R43). -/
def Session.fresh (s : State) (port id nd : Nat) (key : BitVec 256) (payload : List Byte) : Session :=
  { id := id, role := (payload.headD 0).toNat, port := port, nd := BitVec.ofNat 128 nd, lastAt := s.now,
    key := sessionKey key.toNat (beNat (payload.drop 1)) nd id }

/-- The state with one session more. -/
def State.addSession (s : State) (x : Session) : State := s.withNq { s.nq with sessions := s.nq.sessions ++ [x] }

/-- A Session open outside a lockout, with the keys installed, fewer than four sessions, a nonce and a free value (R41, R42). -/
theorem sessionOpen_accepted (s s1 s2 : State) (port nd id : Nat) (k wk : BitVec 256) (payload : List Byte)
    (hlock : tget 0 s.nq.lockUntil port ≤ s.now) (hwk : s.nvs.keys.getD 2 none = some wk)
    (hkey : s.nvs.keys.getD (payload.headD 0).toNat none = some k) (h4 : s.openSessions < 4)
    (hn : s.nqNonce = some (nd, s1)) (hid : s1.freeSession = (some id, s2)) :
    s.sessionOpen port payload =
      (s2.addSession (.fresh s2 port id nd k payload)).nqPush ⟨port, id, 8, 0, nqPlain 8 false id 0 (beBytes 16 nd)⟩ := by
  have hl : decide (s.now < tget 0 s.nq.lockUntil port) = false := by simpa using hlock
  simp only [State.sessionOpen, hl, hwk, hkey, if_neg (Nat.not_le.2 h4), hn, hid]
  rfl

/-- The nonce and the free value leave the responder as it was. -/
theorem nq_of_drawn {s s1 s2 : State} {nd : Nat} {o : Option Nat} (hn : s.nqNonce = some (nd, s1))
    (hid : s1.freeSession = (o, s2)) : s2.nq = s.nq := by
  have h1 := (State.nqNonce_same s _ hn).nq (by decide)
  have h2 := (State.freeSession_same s1).nq (by decide)
  rw [hid] at h2
  exact h2.trans h1

/-- A Session open that is accepted. -/
theorem exec_sessionOpen (s s1 s2 : State) (port : Fin 25) (b : List Byte) (f : NqFrame) (nd id : Nat) (k wk : BitVec 256)
    (hv : s.vigil = true) (hp : nqParse port.val b = some f) (hk : f.kind = 7) (hpr : f.prot = false) (hs0 : f.session = 0)
    (hsh : nqShape 7 f.payload = true) (hlock : tget 0 s.nq.lockUntil port.val ≤ s.now)
    (hwk : s.nvs.keys.getD 2 none = some wk) (hkey : s.nvs.keys.getD (f.payload.headD 0).toNat none = some k)
    (h4 : s.openSessions < 4) (hn : s.taken.nqNonce = some (nd, s1)) (hid : s1.freeSession = (some id, s2)) :
    exec (.sessionOpen port b) s = .next (s.taken.sessionOpen port.val f.payload) ∧
      s.taken.sessionOpen port.val f.payload =
        (s2.addSession (.fresh s2 port.val id nd k f.payload)).nqPush
          ⟨port.val, id, 8, 0, nqPlain 8 false id 0 (beBytes 16 nd)⟩ := by
  refine ⟨congrArg Host.Outcome.next ?_, sessionOpen_accepted s.taken s1 s2 _ nd id k wk _ hlock hwk hkey h4 hn hid⟩
  simp [State.nqFrame, hv, hp, hk, hpr, State.servePlain, hsh, hs0, State.taken]

/-- Settles O5: a protected frame is heard by its session and served as its kind says; a Session open that nothing refuses adds
its session and sends Challenge. -/
theorem sessionFrames : Obligations.SessionFrames := by
  refine ⟨?write, ?answer, ?close, ?opening⟩
  case write =>
    intro s port b f x r i sub hv hp hk ha ho hb hsh hi hsub hl h16
    exact exec_write_session s port b f x hv hp ha r hk ho hb hsh ⟨port.val, x.id, i, sub⟩ (by rw [hi, hsub]; rfl) hl h16
  case answer =>
    intro s port b f x hv hp hk ha ho hsh hn h4 hq
    let u := (s.heard x f).modSession x.id (fun y => { y with isOpen := true })
    have hu : u.session x.id = some { x with seqIn := f.seq, lastAt := s.now, isOpen := true } :=
      session_modSession_same (session_heard ha.1) _ (fun _ => rfl)
    refine ⟨_, { x with seqIn := f.seq, lastAt := s.now, isOpen := true, seqOut := x.seqOut + 1 },
      exec_answer_session s port b f x hv hp ha hk ho hsh hn h4, ?_, rfl, rfl, rfl, rfl,
      framed_of_same (.step (State.nqEmit_same ..) (.step (State.modSession_same ..) (heard_same s x f)))⟩
    rw [nqEmit_session hu hq, session_congr (nqPush_sessions _ _ rfl)]
    exact session_modSession_same hu _ (fun _ => rfl)
  case close =>
    intro s port b f x hv hp hk ha ho hsh
    exact ⟨_, exec_close_session s port b f x hv hp ha hk ho hsh, session_closeSession_same .., fun p => xfer_closeSession_same ..,
      fun id h => (session_closeSession_other _ _ _ h).trans (session_heard_other _ _ _ _ h),
      framed_of_same (.step (State.closeSession_same ..) (heard_same s x f))⟩
  case opening =>
    intro s s1 s2 port b f k wk nd id hv hp hk hpr hs0 hsh hlock hwk hkey h4 hn hid
    obtain ⟨hex, ht⟩ := exec_sessionOpen s s1 s2 port b f nd id k wk hv hp hk hpr hs0 hsh hlock hwk hkey h4 hn hid
    have hnq : s2.nq = s.taken.nq := nq_of_drawn hn hid
    have hsess : (s.taken.sessionOpen port.val f.payload).nq.sessions =
        s.nq.sessions ++ [.fresh s2 port.val id nd k f.payload] := by
      rw [ht, nqPush_sessions _ _ rfl, State.addSession, State.withNq_nq, hnq]
      rfl
    refine ⟨_, hex, ⟨.fresh s2 port.val id nd k f.payload, by rw [hsess]; simp, rfl, rfl, rfl, rfl, rfl⟩, by rw [hsess]; simp,
      fun h24 => ?_, framed_of_same (.step (State.sessionOpen_same ..) (.step (taken_same s) (.refl ..)))⟩
    rw [ht, nqPush_field _ _ h24, State.withNq_nq, State.addSession, State.withNq_nq, hnq, h24]
    rfl

end Sys2Proof.Machine

namespace Sys2Proof.Machine

/-! ### Registers that an operation sets -/

@[simp] theorem withNq_withNq (s : State) (a b : NqSt) : (s.withNq a).withNq b = s.withNq b := rfl
@[simp] theorem setFld_nq (s : State) (f : Fld) (v : Nat) : (s.setFld f v).nq = s.nq := rfl

/-- Setting a field changes its register alone. -/
theorem framed_setFld (s : State) (f : Fld) (v : Nat) (l : List Part) (hl : [.regs] ⊆ l := by decide) :
    s.framed (s.setFld f v) l [f.addr] :=
  ⟨.step (State.setFld_same ..) (.refl ..) hl, fun a ha => reg_setReg_other _ _ _ _ (by simp at ha; exact fun e => ha e.symm)⟩

/-- What an operation that sets no register adds to a frame. -/
theorem State.framed.step {l m : List Part} {A : List Nat} {s t u : State} (h : s.framed t l A) (g : Same m t u)
    (hm : m ⊆ l := by decide) (hr : Part.regs ∉ m := by decide) : s.framed u l A :=
  ⟨.step g h.1 hm, fun a ha => by rw [State.reg, g.regs hr]; exact h.2 a ha⟩

/-- A flag reads as set once it is set. -/
theorem flag_setFld_one (s : State) (f : Fld) (h : f.lo = f.hi) (h31 : f.hi < 32) : (s.setFld f 1).flag f = true := by
  rw [State.flag, fld_setFld_same _ _ _ (by omega) h31, h]
  simp

/-! ### What sending a frame changes of the responder -/

/-- Of the responder, at most the sessions, the frames and the time of a reset that was asked for differ, and transfers may have
ended: what sending a frame can do (R35, R44, R536). -/
structure Sends (s t : State) : Prop where
  kept : t.nq = { s.nq with sessions := t.nq.sessions, xfers := t.nq.xfers, out := t.nq.out, sent := t.nq.sent,
                            resetAt := t.nq.resetAt }
  xfers : ∀ x ∈ t.nq.xfers, x ∈ s.nq.xfers

theorem Sends.refl (s : State) : Sends s s := ⟨rfl, fun _ h => h⟩

theorem Sends.trans {s t u : State} (h : Sends s t) (g : Sends t u) : Sends s u :=
  ⟨g.kept.trans (by rw [h.kept]), fun x hx => h.xfers x (g.xfers x hx)⟩

theorem modSession_sends (s : State) (id : Nat) (f : Session → Session) : Sends s (s.modSession id f) := by
  unfold State.modSession
  split
  · exact .refl s
  · exact ⟨rfl, fun _ h => h⟩

theorem closeSession_sends (s : State) (id : Nat) : Sends s (s.closeSession id) :=
  ⟨rfl, fun _ h => (List.mem_filter.1 h).1⟩

/-- The request that a frame answers has ended once the frame is sent (R35). -/
def State.answered (s : State) (o : NqOut) : State :=
  if o.mark = 0 then s else s.modSession o.session (fun x => { x with busy := false })

theorem answered_sends (s : State) (o : NqOut) : Sends s (s.answered o) := by
  unfold State.answered
  split
  · exact .refl s
  · exact modSession_sends ..

/-- A frame leaves: it is the last one sent, the request it answers ends, and a reset may begin. -/
theorem nqSent_cases (s : State) (o : NqOut) :
    let u := (s.withNq { s.nq with sent := some o }).answered o
    s.nqSent o = u ∨ s.nqSent o = u.withNq { u.nq with resetAt := some u.now } := by
  intro u
  have he : s.nqSent o = if o.mark = 2 && u.nq.resetAt.isSome then u.withNq { u.nq with resetAt := some u.now } else u := rfl
  rw [he]
  split
  · exact .inr rfl
  · exact .inl rfl

theorem nqSent_sends (s : State) (o : NqOut) : Sends s (s.nqSent o) := by
  have hu : Sends s ((s.withNq { s.nq with sent := some o }).answered o) :=
    .trans (t := s.withNq { s.nq with sent := some o }) ⟨rfl, fun _ h => h⟩ (answered_sends ..)
  rcases nqSent_cases s o with h | h
  · exact h ▸ hu
  · exact h ▸ hu.trans ⟨rfl, fun _ h => h⟩

theorem nqPush_sends (s : State) (o : NqOut) : Sends s (s.nqPush o) := by
  unfold State.nqPush
  split
  · exact ⟨rfl, fun _ h => h⟩
  · exact nqSent_sends ..

theorem nqEmit_sends (s : State) (port id k : Nat) (last : Bool) (p : List Byte) (m : Nat) :
    Sends s (s.nqEmit port id k last p m) := by
  unfold State.nqEmit
  split
  · exact nqPush_sends ..
  · split
    · exact .refl s
    · dsimp only
      split
      · exact ((modSession_sends ..).trans (nqPush_sends ..)).trans (closeSession_sends ..)
      · exact (modSession_sends ..).trans (nqPush_sends ..)

theorem nqRespond_sends (s : State) (port id i sub st : Nat) (v : List Byte) : Sends s (s.nqRespond port id i sub st v) :=
  nqEmit_sends ..

/-- Sending opens no transfer. -/
theorem Sends.xfer_none {s t : State} (h : Sends s t) {p id : Nat} (hx : s.xfer p id = none) : t.xfer p id = none := by
  unfold State.xfer at *
  rw [List.find?_eq_none] at *
  exact fun x hx' => hx x (h.xfers x hx')

@[simp] theorem answered_sent (s : State) (o : NqOut) : (s.answered o).nq.sent = s.nq.sent := by
  unfold State.answered State.modSession
  split
  · rfl
  · split <;> rfl

@[simp] theorem answered_out (s : State) (o : NqOut) : (s.answered o).nq.out = s.nq.out := by
  unfold State.answered State.modSession
  split
  · rfl
  · split <;> rfl

@[simp] theorem nqSent_sent (s : State) (o : NqOut) : (s.nqSent o).nq.sent = some o := by
  rcases nqSent_cases s o with h | h <;> simp [h]

@[simp] theorem nqSent_out (s : State) (o : NqOut) : (s.nqSent o).nq.out = s.nq.out := by
  rcases nqSent_cases s o with h | h <;> simp [h]

/-- Once a Response is sent, its session has no request under way (R35). -/
theorem nqSent_unbusy (s : State) (o : NqOut) (hm : o.mark ≠ 0) (y : Session) (hy : (s.nqSent o).session o.session = some y) :
    y.busy = false := by
  let u := s.withNq { s.nq with sent := some o }
  have hs : (s.nqSent o).session o.session = (u.answered o).session o.session := by
    rcases nqSent_cases s o with h | h
    · rw [h]
    · rw [h]
      rfl
  rw [hs, State.answered, if_neg hm, session_modSession u _ _ (fun x => { x with busy := false }) (fun _ => rfl)] at hy
  obtain ⟨z, hz, rfl⟩ := Option.map_eq_some_iff.1 hy
  rw [if_pos (session_some hz).1]

/-! ### Times of the responder -/

/-- The passing of time leaves the responder as it was. -/
@[simp] theorem advanceTo_nq (s : State) (due : Nat) : (s.advanceTo due).nq = s.nq :=
  (State.advanceTo_same s due).nq (by decide)

section
variable {s u : State} (hv : s.vigil = true)
include hv

/-- A segment gap of more than 1 s ends the transfer with an Abort TIMEOUT (R39). -/
theorem exec_segmentGapTimeout (port : Fin 25) (session : BitVec 16) (x : Transfer)
    (hx : s.xfer port.val session.toNat = some x) (hu : s.advanceTo (x.at_ + 1000000001) = u) :
    exec (.segmentGapTimeout port session) s = .next ((u.endXfer port.val session.toNat).nqEmit
      port.val session.toNat 0xC false (nqObj x.index x.sub 0xB) 0) := by
  change execSegmentGapTimeout port session s = _
  simp only [execSegmentGapTimeout, hv, hx, hu]

/-- At the idle limit a session closes, an open one with a Close to its client (R46). -/
theorem exec_sessionIdleLimit (session : BitVec 16) (x : Session) (hx : s.session session.toNat = some x)
    (hu : s.advanceTo (x.lastAt + s.idleLimit * 1000000000) = u) :
    exec (.sessionIdleLimit session) s =
      .next ((if x.isOpen then u.nqEmit x.port x.id 0xB false [] 0 else u).closeSession session.toNat) := by
  change execSessionIdleLimit session s = _
  simp only [execSessionIdleLimit, hv, hx, hu, (session_some hx).1]

/-- The end of a lockout (R45). -/
theorem exec_sessionOpenLockoutEnd (port : Fin 25) (hl : s.nq.lockUntil.any (fun p => p.1 == port.val) = true)
    (hu : s.advanceTo (tget 0 s.nq.lockUntil port.val) = u) :
    exec (.sessionOpenLockoutEnd port) s = .next (u.withNq { u.nq with lockUntil := tdel u.nq.lockUntil port.val }) := by
  change execSessionOpenLockoutEnd port s = _
  simp only [execSessionOpenLockoutEnd, hv, hl, hu, Bool.and_self, if_true]

end

/-! ### Bulletins -/

theorem length_insertBul (x : BulInst) (l : List BulInst) : (insertBul x l).length = l.length + 1 := by
  induction l with
  | nil => rfl
  | cons y r ih =>
    unfold insertBul
    split
    · rfl
    · simp [ih]

theorem mem_insertBul (x : BulInst) (l : List BulInst) : x ∈ insertBul x l := by
  induction l with
  | nil => simp [insertBul]
  | cons y r ih =>
    unfold insertBul
    split
    · simp
    · exact List.mem_cons_of_mem _ ih

/-- The bulletin n that falls due (R54). -/
def State.dueBul (s : State) (n due : Nat) : BulInst := ⟨n, due, timeValue (s.timeNs - (s.now - due))⟩

/-- An enabled bulletin falls due while the queue has room (R54). -/
theorem exec_bulletinDue {s u : State} (n : Fin 16) (k due : Nat) (hv : s.vigil = true) (ho : s.bulOn n.val = true)
    (hd : s.nq.nextDue.find? (fun p => p.1 == n.val) = some (k, due)) (hu : s.advanceTo due = u)
    (h32 : u.nq.bulQueue.length < 32) :
    exec (.bulletinDue n) s = .next (u.withNq { u.nq with
      nextDue := tput u.nq.nextDue n.val (due + u.objVal (0x1041 + n.val) 1 * 1000000),
      bulQueue := insertBul (u.dueBul n.val due) u.nq.bulQueue }) := by
  change execBulletinDue n s = _
  simp only [execBulletinDue, hv, ho, hd, hu, Bool.and_self, State.withNq_nq, if_pos h32, withNq_withNq]
  rfl

/-- With no backlog nothing takes the place of a bulletin that was sent. -/
theorem refill_none (s : State) (h : s.nq.backlog = []) : s.refill = s := by
  simp [State.refill, State.firstBacklog, h]

/-- A bulletin that is not late is sent, and with no backlog none takes its place (R54, R55). -/
theorem sendBulletin_onTime (s : State) (x : BulInst) (rest : List BulInst) (hl : s.now ≤ x.due + 1000000)
    (hb : s.nq.backlog = []) : ∃ o, o.port = 24 ∧ o.kind = 6 ∧
    s.sendBulletin x rest = s.withNq { s.nq with
      bulQueue := rest, bulSeq := (s.nq.bulSeq + 1) % 2 ^ 32, sent := some o } := by
  have hlate : ¬ 1000000 < s.now - x.due := by omega
  simp only [State.sendBulletin, if_neg hlate, nqSent_unmarked, State.withNq_nq, withNq_withNq]
  rw [refill_none _ (by exact hb)]
  exact ⟨⟨24, 0, 6, 0, _⟩, rfl, rfl, rfl⟩

/-! ### Delegated requests -/

/-- An entry of the ring that has been answered for firmware. -/
def Delegation.expired (d : Delegation) : Delegation := { d with dead := true }

/-- The state with another delegation ring. -/
def State.withDeleg (s : State) (l : List Delegation) : State := s.withNq { s.nq with deleg := l }

/-- A delegated Read or Write is answered with a status (R57). -/
theorem dlgEnd_status (s : State) (d : Delegation) (st : Nat) (hst : st ≠ 0) (ho : d.op ≤ 1) :
    s.dlgEnd d st [] [] = s.nqRespond d.port d.session d.index d.sub st [] := by
  have hop : d.op = 0 ∨ d.op = 1 := by omega
  rcases hop with h | h <;> simp [State.dlgEnd, h, hst]

/-- The only entry of the ring, which waits, is answered without firmware. -/
theorem dlgDrop_single (s : State) (d : Delegation) (p : Delegation → Bool) (st : Nat) (hd : s.nq.deleg = [d])
    (ha : d.dead = false) (hp : p d = true) : s.dlgDrop p st = (s.withDeleg [d.expired]).dlgEnd d st [] [] := by
  simp [State.dlgDrop, hd, ha, hp, State.withDeleg, Delegation.expired]

/-- The only entry of the ring has not been answered in time (R57). -/
theorem exec_delegationTimeout {s u : State} (d : Delegation) (hv : s.vigil = true) (hd : s.nq.deleg = [d])
    (ha : d.dead = false) (hu : s.advanceTo (d.at_ + 1500000) = u) :
    exec .delegationTimeout s = .next
      (((u.setFld R.NQ_STAT_DLG_TIMEOUT 1).withDeleg [d.expired]).dlgEnd d 8 [] []) := by
  have hnq : u.nq.deleg = [d] := by rw [← hu, advanceTo_nq, hd]
  rw [← dlgDrop_single (u.setFld R.NQ_STAT_DLG_TIMEOUT 1) d (fun e => e.entry == d.entry && e.at_ == d.at_) 8 hnq ha (by simp)]
  change execDelegationTimeout s = _
  simp only [execDelegationTimeout, hv, hd, List.find?_cons, ha, Bool.not_false, hu]

/-- Settles O6: each time-out comes to the state its exec lemma names; time passing leaves the responder as it was. -/
theorem responderTimers : Obligations.ResponderTimers := by
  refine ⟨?gap, ?idle, ?lockout, ?due, ?frame, ?bulletin, ?delegation⟩
  case gap =>
    intro s port session x hv hx
    generalize hu : s.advanceTo (x.at_ + 1000000001) = u
    have hnq : u.nq = s.nq := by rw [← hu, advanceTo_nq]
    refine ⟨_, exec_segmentGapTimeout hv port session x hx hu, (nqEmit_sends ..).xfer_none (xfer_endXfer_same ..),
      framed_of_same (.step (State.nqEmit_same ..) (State.endXfer_same ..)), ?_⟩
    intro h24 h0
    have hid : session.toNat = 0 := by rw [h0]; rfl
    rw [h24, hid, nqEmit_plain, State.withNq_nq, endXfer_out, hnq]
  case idle =>
    intro s session x hv hx
    generalize hu : s.advanceTo (x.lastAt + s.idleLimit * 1000000000) = u
    exact ⟨_, exec_sessionIdleLimit hv session x hx hu, session_closeSession_same .., fun p => xfer_closeSession_same ..,
      framed_of_same (.step (State.closeSession_same ..) (.ite (State.nqEmit_same ..) (.refl ..)))⟩
  case lockout =>
    intro s port hv hl
    generalize hu : s.advanceTo (tget 0 s.nq.lockUntil port.val) = u
    have hnq : u.nq = s.nq := by rw [← hu, advanceTo_nq]
    exact ⟨_, exec_sessionOpenLockoutEnd hv port hl hu, by simp [tget_tdel], by simp [hnq], framed_of_withNq ..⟩
  case due =>
    intro s n k due hv ho hd h32
    generalize hu : s.advanceTo due = u
    have hnq : u.nq = s.nq := by rw [← hu, advanceTo_nq]
    exact ⟨_, exec_bulletinDue n k due hv ho hd hu (hnq ▸ h32), by simp [length_insertBul, hnq],
      ⟨_, mem_insertBul _ _, rfl, rfl⟩, tget_tput_same .., framed_of_withNq ..⟩
  case frame =>
    intro s o outs hv hq ho
    have hex : exec .transmitOpportunity s = .next ((s.withNq { s.nq with out := outs }).nqSent o) := by
      change execTransmitOpportunity s = _
      simp [execTransmitOpportunity, hv, hq, ho]
    exact ⟨_, hex, nqSent_out .., nqSent_sent .., nqSent_unbusy _ o,
      framed_of_same (.step (State.nqSent_same ..) (State.withNq_same ..))⟩
  case bulletin =>
    intro s x rest hv hq ho hl hb
    obtain ⟨o, hport, hkind, hsend⟩ := sendBulletin_onTime s x rest hl hb
    have hex : exec .transmitOpportunity s = .next (s.sendBulletin x rest) := by
      change execTransmitOpportunity s = _
      simp [execTransmitOpportunity, hv, hq, ho]
    rw [hsend] at hex
    exact ⟨_, o, hex, rfl, hport, hkind, rfl, by rw [State.withNq_nq], framed_of_withNq ..⟩
  case delegation =>
    intro s d hv hd ha ho hp hs
    generalize hu : s.advanceTo (d.at_ + 1500000) = u
    have hnq : u.nq = s.nq := by rw [← hu, advanceTo_nq]
    have hex := exec_delegationTimeout d hv hd ha hu
    rw [dlgEnd_status _ _ _ (by decide) ho, hp, hs, nqRespond_plain] at hex
    refine ⟨_, if d.index = 0x6010 && d.sub = 1 && 8 = 0 then 2 else 1, hex, ?_, rfl, ?_,
      ((framed_setFld u R.NQ_STAT_DLG_TIMEOUT 1 [.regs, .nq]).step (State.withNq_same ..)).step (State.withNq_same ..)⟩
    · rw [State.withNq_flag, State.withDeleg, State.withNq_flag]
      exact flag_setFld_one u R.NQ_STAT_DLG_TIMEOUT rfl (by decide)
    · rw [State.withNq_nq, State.withDeleg, State.withNq_nq, setFld_nq, hnq, List.append_nil]

end Sys2Proof.Machine

namespace Sys2Proof.Machine

/-! ### Numbers as bytes -/

theorem length_leBytes (n v : Nat) : (leBytes n v).length = n := by
  induction n generalizing v with
  | zero => rfl
  | succ n ih => simp [leBytes, ih]

@[simp] theorem length_beBytes (n v : Nat) : (beBytes n v).length = n := by simp [beBytes, length_leBytes]

theorem leNat_leBytes (n v : Nat) : leNat (leBytes n v) = v % 256 ^ n := by
  induction n generalizing v with
  | zero => simp [leBytes, leNat, Nat.mod_one]
  | succ n ih =>
    have hcons : leNat (leBytes (n + 1) v) = v % 256 + 256 * leNat (leBytes n (v / 256)) := by simp [leBytes, leNat]
    rw [hcons, ih, Nat.pow_succ, Nat.mul_comm (256 ^ n), Nat.mod_mul]

/-- A number reads back from its bytes. -/
theorem beNat_beBytes (n v : Nat) (h : v < 256 ^ n) : beNat (beBytes n v) = v := by
  have hrev : beNat (beBytes n v) = leNat (leBytes n v) := by
    simp [beNat, beBytes, leNat, List.foldl_reverse, Nat.add_comm]
  rw [hrev, leNat_leBytes, Nat.mod_eq_of_lt h]

@[simp] theorem length_nqObj (i sub st : Nat) : (nqObj i sub st).length = 4 := by simp [nqObj]

/-- The request of a payload that begins with an object. -/
theorem ofPayload_nqObj (port id i sub st : Nat) (v : List Byte) (hi : i < 2 ^ 16) (hs : sub < 2 ^ 8) :
    NqReq.ofPayload port id (nqObj i sub st ++ v) = ⟨port, id, i, sub⟩ := by
  have hindex : (nqObj i sub st ++ v).take 2 = beBytes 2 i := by simp [nqObj]
  have hsub : ((nqObj i sub st ++ v).drop 2).headD 0 = BitVec.ofNat 8 sub := by simp [nqObj]
  rw [NqReq.ofPayload, hindex, hsub, beNat_beBytes 2 i hi, BitVec.toNat_ofNat, Nat.mod_eq_of_lt hs]

/-! ### What a request under way leaves as it was -/

@[simp] theorem modSession_out (s : State) (id : Nat) (f : Session → Session) : (s.modSession id f).nq.out = s.nq.out := by
  unfold State.modSession
  split <;> rfl

theorem engaged_same (s : State) (id : Nat) : Same [.nq] s (s.engaged id) := State.modSession_same ..

theorem storeBand_congr {s t : State} (h : t.hk = s.hk) : t.storeBand = s.storeBand := by
  rw [State.storeBand, State.band, h, State.storeBand, State.band]

theorem slotGen_congr {s t : State} (h : t.nvs = s.nvs) (page n ident : Nat) : t.slotGen page n ident = s.slotGen page n ident := by
  have hb : ∀ a m, t.nvsBytes a m = s.nvsBytes a m := fun a m => by simp only [State.nvsBytes, State.nvsByte, h]
  rw [State.slotGen, h, hb, hb, State.slotGen]

theorem persistOlder_congr {s t : State} (h : t.nvs = s.nvs) : t.persistOlder = s.persistOlder := by
  have hn : t.persistNewer = s.persistNewer := by simp only [State.persistNewer, slotGen_congr h]
  rw [State.persistOlder, hn, State.persistOlder]

theorem persistReadOnly_congr {s t : State} (h : t.nvs = s.nvs) : t.persistReadOnly = s.persistReadOnly := by
  simp only [State.persistReadOnly, persistOlder_congr h, h]

@[simp] theorem engaged_storeBand (s : State) (id : Nat) : (s.engaged id).storeBand = s.storeBand :=
  storeBand_congr ((engaged_same s id).hk (by decide))

@[simp] theorem engaged_persistReadOnly (s : State) (id : Nat) : (s.engaged id).persistReadOnly = s.persistReadOnly :=
  persistReadOnly_congr ((engaged_same s id).nvs (by decide))

theorem fld_congr {s t : State} (h : t.regs = s.regs) (f : Fld) : t.fld f = s.fld f := by
  rw [State.fld, State.regN, State.reg, h]
  rfl

theorem flag_congr {s t : State} (h : t.regs = s.regs) (f : Fld) : t.flag f = s.flag f := by
  rw [State.flag, fld_congr h, State.flag]

@[simp] theorem engaged_flag (s : State) (id : Nat) (f : Fld) : (s.engaged id).flag f = s.flag f :=
  flag_congr ((engaged_same s id).regs (by decide)) f

@[simp] theorem engaged_dmc (s : State) (id : Nat) : (s.engaged id).dmc = s.dmc := (engaged_same s id).dmc (by decide)

/-! ### Writes of a session at the level of objects -/

section
variable {s : State} {id : BitVec 16} {x : Session} (hv : s.vigil = true) (hx : s.session id.toNat = some x)
  (ho : x.isOpen = true) (hb : x.busy = false)
include hv hx ho hb

/-- A write of a session to an object stores the value by the object's rule and answers the status. -/
theorem sessionWrite_obj (i sub : Nat) (v : List Byte) (r : ObjRow) (hi : i < 2 ^ 16) (hs : sub < 2 ^ 8) (h16 : v.length ≤ 16)
    (hl : (s.engaged x.id).objLook i sub true (some x.role) = .obj r) :
    s.sessionWrite id i sub v =
      ((s.engaged x.id).objStore r i sub v).2.nqRespond x.port x.id i sub ((s.engaged x.id).objStore r i sub v).1 [] := by
  have hx' : s.session x.id = some x := (session_some hx).1 ▸ hx
  have hserve : s.sessionWrite id i sub v = s.serve x.port x.id 2 false (nqObj i sub 0 ++ v) := by
    simp [State.sessionWrite, hv, hx, ho]
  rw [hserve, serve_write _ _ _ _ _ (by simp [hx', hb]), ofPayload_nqObj _ _ _ _ _ _ hi hs,
    List.drop_left' (length_nqObj i sub 0)]
  exact serveWrite_obj _ _ r _ (roleOf_engaged hx' ▸ hl) h16

end

/-! ### Objects whose write is a command -/

section
variable (s : State) (r : ObjRow) (ha : r.acc ≠ .rwp) (h4 : r.size = 4)
include ha h4

theorem objStore_save : s.objStore r 0x1010 1 (beBytes 4 0x5AFE0001) = s.nqSave := by
  simp [State.objStore, ha, h4, beNat_beBytes]

theorem objStore_restore :
    s.objStore r 0x1011 1 (beBytes 4 0x5AFE0002) = (0, s.withNq { s.nq with restorePend := true }) := by
  simp [State.objStore, ha, h4, beNat_beBytes]

theorem objStore_unfreeze (hf : s.flag R.DMC_STAT_FROZEN = true) : s.objStore r 0x7050 5 (beBytes 4 0x5AFE0005) =
    (0, (s.dmcUnfreeze ridResponder 0xA5C30F96).dmcUnfreeze ridResponder 0x5A3CF069) := by
  simp [State.objStore, ha, h4, beNat_beBytes, hf]

theorem objStore_commit (v : Nat) (hv : v < 2 ^ 32) : s.objStore r 0x3011 2 (beBytes 4 v) = s.commitStore v := by
  simp [State.objStore, ha, h4, beNat_beBytes 4 v hv]

end

/-- A save that nothing refuses is queued to the store (R51, R528). -/
theorem nqSave_accepted (s : State) (hr : s.nq.restorePend = false) (hs : s.nq.saveState ≠ 1) (hb : s.storeBand = true)
    (hw : s.persistReadOnly = false) :
    s.nqSave = (0, (s.withNq { s.nq with saveState := 1 }).nvsRequest .responder .persistSave) := by
  simp [State.nqSave, hr, hs, hb, hw]

/-- The two words of R453 from the responder unfreeze a frozen controller. -/
theorem dmcUnfreeze_sequence (s : State) (hf : s.flag R.DMC_STAT_FROZEN = true) (hr : s.dmc.resuming = false)
    (hu : s.dmc.unf = none) :
    (s.dmcUnfreeze ridResponder 0xA5C30F96).dmcUnfreeze ridResponder 0x5A3CF069 =
      s.withDmc { s.dmc with resuming := true } := by
  have hw : warden ridResponder = true := by decide
  have hfirst : s.dmcUnfreeze ridResponder 0xA5C30F96 = s.withDmc { s.dmc with unf := some (ridResponder, s.now) } := by
    simp [State.dmcUnfreeze, hf, hr, hu, hw]
  have hf' : (s.withDmc { s.dmc with unf := some (ridResponder, s.now) }).flag R.DMC_STAT_FROZEN = true := hf
  have hnow : (s.withDmc { s.dmc with unf := some (ridResponder, s.now) }).now = s.now := rfl
  rw [hfirst, State.dmcUnfreeze, hf', hnow, State.withDmc_dmc]
  simp [hr, hu]
  rfl

/-! ### A commit request -/

/-- A field of a word. -/
theorem nbits_toNat (w : Word) (hi lo : Nat) : nbits w.toNat hi lo = (w.extractLsb' lo (hi + 1 - lo)).toNat := by
  simp [nbits, Nat.shiftRight_eq_div_pow]

/-- A field of one bit. -/
theorem nbits_bit (w : Word) (i : Nat) : nbits w.toNat i i = (w.getLsbD i).toNat := by
  simp [nbits, BitVec.getLsbD, Nat.toNat_testBit]

/-- The bits of a word that MTX_COMMIT takes from a write. -/
theorem writable_commit (d : Word) : writable R.MTX_COMMIT d.toNat = (d &&& 0x1F7).toNat := by
  have hmask : (regDescAt R.MTX_COMMIT).map (fun p => p.2.maskOf (fun c => c != .ro && c != .rc)) = some 0x1F7 := by decide
  obtain ⟨⟨b, r⟩, hreg, hm⟩ := Option.map_eq_some_iff.1 hmask
  simp only at hm
  simp only [writable, hreg, BitVec.ofNat_toNat, BitVec.setWidth_eq, hm]
  rfl

/-- A write of MTX_COMMIT with GO alone of its three commands. -/
theorem mtxWrite_go (s : State) (rid : Rid) (d old : Word) (hg : s.flag R.MTX_COMMIT_GO = true)
    (ha : s.flag R.MTX_COMMIT_ABORT = false) (hc : s.flag R.MTX_COMMIT_COPY = false) :
    mtxWrite rid R.MTX_COMMIT d old s = (s.setRegN R.MTX_COMMIT (nput (s.regN R.MTX_COMMIT) 2 0 0)).mtxGo := by
  simp [mtxWrite, hg, ha, hc]

/-- A GO without AT that nothing ignores begins a commit (R168). -/
theorem mtxGo_validating (s : State) (h0 : s.mtxState = 0) (hb : s.flag R.MTX_STAT_EVE_BUSY = false)
    (hc : s.fld R.MTX_COMMIT_CLASS ≠ 3) (ha : s.flag R.MTX_COMMIT_AT = false) : s.mtxGo.mtxState = 1 := by
  simp only [State.mtxGo, h0, hb, hc, ha]
  exact fld_setFld_same _ _ _ (by decide) (by decide)

/-- The state in which a write has put a word into MTX_COMMIT. -/
def State.commitWord (s : State) (d : Word) : State := s.setReg R.MTX_COMMIT d

/-- The same with the three commands cleared. -/
def State.commitTaken (s : State) (d : Word) : State :=
  (s.commitWord d).setRegN R.MTX_COMMIT (nput d.toNat 2 0 0)

/-- A flag in the word that was put into MTX_COMMIT. -/
theorem flag_commitWord (s : State) (d : Word) (f : Fld) (hf : f.addr = R.MTX_COMMIT) (h1 : f.hi = f.lo) :
    (s.commitWord d).flag f = d.getLsbD f.lo := by
  rw [State.flag, State.fld, hf, State.regN, State.commitWord, reg_setReg_same, h1, nbits_bit]
  cases d.getLsbD f.lo <;> rfl

/-- A field above the commands stays when they are cleared. -/
theorem fld_commitTaken (s : State) (d : Word) (f : Fld) (hf : f.addr = R.MTX_COMMIT) (h31 : f.hi < 32) (hlo : 2 < f.lo) :
    (s.commitTaken d).fld f = nbits d.toNat f.hi f.lo := by
  rw [State.fld, hf, State.commitTaken, regN_setRegN_same, nbits_mod _ _ _ h31, nbits_nput_other _ _ _ _ _ _ (by omega) (.inl hlo)]

/-- A field of another register is none of the request's. -/
theorem fld_commitTaken_other (s : State) (d : Word) (f : Fld) (hf : R.MTX_COMMIT ≠ f.addr) :
    (s.commitTaken d).fld f = s.fld f := by
  rw [State.fld, State.commitTaken, regN_setRegN_other _ _ _ _ hf, State.commitWord, State.regN, reg_setReg_other _ _ _ _ hf]
  rfl

/-- A commit request with GO, without AT, ABORT and COPY, and of a class there is, begins a commit of the idle matrix (R537). -/
theorem commitStore_go (s : State) (d : Word) (h0 : s.mtxState = 0) (hb : s.flag R.MTX_STAT_EVE_BUSY = false)
    (hgo : d.getLsbD 0 = true) (hab : d.getLsbD 1 = false) (hcp : d.getLsbD 2 = false) (hat : d.getLsbD 8 = false)
    (hcls : d.extractLsb' 4 2 ≠ 3) :
    s.commitStore d.toNat = (0, (s.commitTaken (d &&& 0x1F7)).mtxGo) ∧ (s.commitTaken (d &&& 0x1F7)).mtxGo.mtxState = 1 := by
  have hwr := writable_commit d
  generalize hw : d &&& 0x1F7 = w at hwr ⊢
  have hgo' : w.getLsbD 0 = true := by simp [← hw, hgo]
  have hab' : w.getLsbD 1 = false := by rw [← hw, BitVec.getLsbD_and, hab, Bool.false_and]
  have hcp' : w.getLsbD 2 = false := by rw [← hw, BitVec.getLsbD_and, hcp, Bool.false_and]
  have hat' : w.getLsbD 8 = false := by rw [← hw, BitVec.getLsbD_and, hat, Bool.false_and]
  have hcls' : nbits w.toNat 5 4 ≠ 3 := by
    have hsub : w.extractLsb' 4 2 = d.extractLsb' 4 2 := by
      rw [← hw, BitVec.extractLsb'_and]
      exact BitVec.and_allOnes
    rw [nbits_toNat]
    intro h
    exact hcls (hsub ▸ BitVec.eq_of_toNat_eq h)
  constructor
  · have hreg : s.setRegN R.MTX_COMMIT w.toNat = s.commitWord w := by
      rw [State.setRegN, BitVec.ofNat_toNat, BitVec.setWidth_eq, State.commitWord]
    have hregN : (s.commitWord w).regN R.MTX_COMMIT = w.toNat := by
      rw [State.regN, State.commitWord, reg_setReg_same]
    have hgoes : ∀ d' old, mtxWrite ridResponder R.MTX_COMMIT d' old (s.commitWord w) = (s.commitTaken w).mtxGo := by
      intro d' old
      rw [mtxWrite_go _ _ _ _ ((flag_commitWord _ _ _ rfl rfl).trans hgo') ((flag_commitWord _ _ _ rfl rfl).trans hab')
        ((flag_commitWord _ _ _ rfl rfl).trans hcp'), hregN, State.commitTaken]
    have hgood : ¬ (nbits w.toNat R.MTX_COMMIT_CLASS.hi R.MTX_COMMIT_CLASS.lo = 3) := hcls'
    simp only [State.commitStore, hwr, hreg, hgoes, h0, hb, hgood]
    simp
  · refine mtxGo_validating _ ?_ ?_ ?_ ?_
    · exact (fld_commitTaken_other _ _ _ (by decide)).trans h0
    · rw [State.flag, fld_commitTaken_other _ _ _ (by decide)]
      exact hb
    · rw [fld_commitTaken _ _ _ rfl (by decide) (by decide)]
      exact hcls'
    · rw [State.flag, fld_commitTaken _ _ _ rfl (by decide) (by decide)]
      change (nbits w.toNat 8 8 != 0) = false
      rw [nbits_bit, hat']
      rfl

/-! ### The commands of a session -/

/-- A Response to a session of the field port is queued. -/
theorem nqRespond_session {s : State} {id : Nat} {x : Session} (h : s.session id = some x) (hq : x.seqOut < 0xFFFFFFFE)
    (i sub st : Nat) (v : List Byte) :
    ∃ o, (s.nqRespond 24 id i sub st v).nq.out = s.nq.out ++ [o] ∧ o.kind = 3 ∧ o.session = id := by
  rw [State.nqRespond, nqEmit_session h hq, nqPush_field _ _ rfl, State.withNq_nq, modSession_out]
  exact ⟨_, rfl, rfl, rfl⟩

theorem engaged_sends (s : State) (id : Nat) : Sends s (s.engaged id) := modSession_sends ..

theorem nvsTargets_roleKey_congr {s t : State} (h : t.nvs = s.nvs) (role : Nat) (key : BitVec 256) :
    t.nvsTargets (.roleKey role key) = s.nvsTargets (.roleKey role key) := by
  have hslot : t.olderSlotB = s.olderSlotB := by rw [State.olderSlotB, h, State.olderSlotB]
  rw [State.nvsTargets, hslot, State.nvsTargets]

/-- A role key that nothing refuses is queued to the store (R535). -/
theorem keyStore_accepted (s : State) (role : Nat) (key : BitVec 256) (hb : s.storeBand = true)
    (hr : (s.nvsTargets (.roleKey role key)).any (fun p => s.nvs.readOnly.contains p) = false) :
    s.keyStore role key = (0, s.nvsRequest .responder (.roleKey role key)) := by
  rw [State.keyStore, hr, hb]
  rfl

section
variable {s : State} {id : BitVec 16} {x : Session} {r : ObjRow} (hv : s.vigil = true)
  (hx : s.session id.toNat = some x) (ho : x.isOpen = true) (hb : x.busy = false)
include hv hx ho hb

/-- SAVE_PERSISTENT (R51, R528). -/
theorem exec_savePersistent (hl : (s.engaged x.id).objLook 0x1010 1 true (some x.role) = .obj r) (ha : r.acc ≠ .rwp)
    (h4 : r.size = 4) (hr : s.nq.restorePend = false) (hs : s.nq.saveState ≠ 1) (hband : s.storeBand = true)
    (hw : s.persistReadOnly = false) :
    exec (.savePersistent id) s =
      .next ((((s.engaged x.id).withNq { (s.engaged x.id).nq with saveState := 1 }).nvsRequest .responder
        .persistSave).nqRespond x.port x.id 0x1010 1 0 []) := by
  have hkept := (engaged_sends s x.id).kept
  refine congrArg _ ((sessionWrite_obj hv hx ho hb 0x1010 1 _ r (by decide) (by decide) (by simp) hl).trans ?_)
  rw [objStore_save _ _ ha h4, nqSave_accepted _ (by rw [hkept]; exact hr) (by rw [hkept]; exact hs)
    (by simpa using hband) (by simpa using hw)]

/-- RESTORE_DEFAULTS (R52). -/
theorem exec_restoreDefaults (hl : (s.engaged x.id).objLook 0x1011 1 true (some x.role) = .obj r) (ha : r.acc ≠ .rwp)
    (h4 : r.size = 4) :
    exec (.restoreDefaults id) s =
      .next (((s.engaged x.id).withNq { (s.engaged x.id).nq with restorePend := true }).nqRespond x.port x.id 0x1011 1 0 []) := by
  refine congrArg _ ((sessionWrite_obj hv hx ho hb 0x1011 1 _ r (by decide) (by decide) (by simp) hl).trans ?_)
  rw [objStore_restore _ _ ha h4]

/-- ROLE_KEY_WRITE (R535). -/
theorem exec_roleKeyWrite (role : Fin 3) (key : BitVec 256)
    (hl : (s.engaged x.id).objLook 0x4030 (role.val + 1) true (some x.role) = .obj r) (hband : s.storeBand = true)
    (hr : (s.nvsTargets (.roleKey role.val key)).any (fun p => s.nvs.readOnly.contains p) = false) :
    exec (.roleKeyWrite id role key) s =
      .next (((s.engaged x.id).nvsRequest .responder (.roleKey role.val key)).nqRespond x.port x.id 0x4030 (role.val + 1)
        0 []) := by
  have hnvs := (engaged_same s x.id).nvs (by decide)
  have hstore := keyStore_accepted (s.engaged x.id) role.val key (by simpa using hband)
    (by rw [nvsTargets_roleKey_congr hnvs, hnvs]; exact hr)
  change execRoleKeyWrite id role key s = _
  have hmod : s.modSession x.id (fun x => { x with busy := true }) = s.engaged x.id := rfl
  simp only [execRoleKeyWrite, hv, hx, ho, hb, hmod, hl, hstore, State.reply]
  rfl

/-- UNFREEZE_OBJECT (R453, R537). -/
theorem exec_unfreezeObject (hl : (s.engaged x.id).objLook 0x7050 5 true (some x.role) = .obj r) (ha : r.acc ≠ .rwp)
    (h4 : r.size = 4) (hf : s.flag R.DMC_STAT_FROZEN = true) (hr : s.dmc.resuming = false) (hu : s.dmc.unf = none) :
    exec (.unfreezeObject id 0x5AFE0005) s =
      .next (((s.engaged x.id).withDmc { s.dmc with resuming := true }).nqRespond x.port x.id 0x7050 5 0 []) := by
  have hf' : (s.engaged x.id).flag R.DMC_STAT_FROZEN = true := (engaged_flag ..).trans hf
  refine congrArg _ ((sessionWrite_obj hv hx ho hb 0x7050 5 _ r (by decide) (by decide) (by simp) hl).trans ?_)
  have hdata : (0x5AFE0005 : Word).toNat = 0x5AFE0005 := rfl
  rw [hdata, objStore_unfreeze _ _ ha h4 hf',
    dmcUnfreeze_sequence _ hf' (by rw [engaged_dmc]; exact hr) (by rw [engaged_dmc]; exact hu), engaged_dmc]

/-- COMMIT_REQUEST_OBJECT with GO (R537). -/
theorem exec_commitRequestObject (d : Word) (hl : (s.engaged x.id).objLook 0x3011 2 true (some x.role) = .obj r)
    (ha : r.acc ≠ .rwp) (h4 : r.size = 4) (hgo : d.getLsbD 0 = true) (hab : d.getLsbD 1 = false) (hcp : d.getLsbD 2 = false)
    (hat : d.getLsbD 8 = false) (hcls : d.extractLsb' 4 2 ≠ 3) (h0 : s.mtxState = 0)
    (heve : s.flag R.MTX_STAT_EVE_BUSY = false) :
    let u := ((s.engaged x.id).commitTaken (d &&& 0x1F7)).mtxGo
    exec (.commitRequestObject id d) s = .next (u.nqRespond x.port x.id 0x3011 2 0 []) ∧ u.mtxState = 1 ∧
      u.nq = (s.engaged x.id).nq := by
  have hregs := (engaged_same s x.id).regs (by decide)
  have h0' : (s.engaged x.id).mtxState = 0 := (fld_congr hregs _).trans h0
  obtain ⟨hstore, hstate⟩ := commitStore_go (s.engaged x.id) d h0' ((engaged_flag ..).trans heve) hgo hab hcp hat hcls
  refine ⟨congrArg _ ((sessionWrite_obj hv hx ho hb 0x3011 2 _ r (by decide) (by decide) (by simp) hl).trans ?_), hstate,
    (State.mtxGo_same _).nq (by decide)⟩
  rw [objStore_commit _ _ ha h4 _ d.isLt, hstore]

end

end Sys2Proof.Machine

namespace Sys2Proof.Machine

/-! ### The image of the Eve table (R532) -/

/-- The row of the Eve table in the dictionary. -/
def eveRow : ObjRow := ⟨0x3011, 1, 1, 1, 0, .rw, 2, [6, 7, 12], true⟩

theorem objFind_eve (an : Bool) : objFind an 0x3011 1 = .obj eveRow [6, 7, 12] := by
  cases an <;> decide

theorem objUp_engaged (s : State) (id : Nat) (needs : List Nat) (i : Nat) : (s.engaged id).objUp needs i = s.objUp needs i := by
  unfold State.engaged State.modSession
  split <;> rfl

/-- The last segment of a write to an object whose bytes are served by the device, at the transfer's offset (R39, R40). -/
theorem segment_writeLast (s : State) (q : NqReq) (x : Transfer) (data : List Byte) (r : ObjRow) (needs : List Nat)
    (hx : s.xfer q.port q.session = some x) (hi : x.index = q.index) (hs : x.sub = q.sub) (hw : x.isWrite = true)
    (hf : x.fw = false) (hn : x.offset + data.length = x.total) (hd : data.length ≤ 1024)
    (ho : objFind s.isAN q.index q.sub = .obj r needs) (hu : s.objUp needs q.index = true) :
    s.segment q x.offset data true = s.segWrite q x r data true := by
  simp [State.segment, hx, hi, hs, hw, hf, hn, ho, hu, Nat.not_lt.2 hd]

/-- The bytes of the last segment of an Eve image, staged. -/
def State.eveStaged (s : State) (off : Nat) (data : List Byte) : Bool × State :=
  if data = [] then (false, s) else s.memWrite ridResponder (0x101F0000 + off) data

/-- The state in which the copy of an Eve image has begun. -/
def State.eveCopying (s : State) (port id : Nat) : State :=
  let u := s.endXfer port id
  (u.withNq { u.nq with eveImage := some (port, id) }).setFld R.MTX_STAT_EVE_BUSY 1

/-- An Eve image that has arrived whole begins to be copied into an open table. -/
theorem segCommit_eve (s : State) (port id total : Nat) (ho : s.eveOpen = true) :
    s.segCommit ⟨port, id, 0x3011, 1⟩ eveRow [] total = s.eveCopying port id :=
  if_pos (c := (s.endXfer port id).eveOpen = true) ho

/-- With the last segment staged and the Eve table open, the copy begins. -/
theorem segWrite_eve (s : State) (port id : Nat) (x : Transfer) (data : List Byte)
    (hw : (s.eveStaged x.offset data).1 = false) (ho : (s.eveStaged x.offset data).2.eveOpen = true) :
    s.segWrite ⟨port, id, 0x3011, 1⟩ x eveRow data true = (s.eveStaged x.offset data).2.eveCopying port id := by
  have hst : (if eveRow.staged && !data.isEmpty then s.stageImage 0x3011 x.offset data else (false, s)) =
      s.eveStaged x.offset data := by
    cases data <;> simp [State.eveStaged, ObjRow.staged, eveRow, State.stageImage]
  rw [State.segWrite, hst, hw, ← segCommit_eve _ port id x.total ho]
  rfl

/-- While the copy runs its requester is known, EVE_BUSY is set and the transfer is over. -/
theorem eveCopying_spec (s : State) (port id : Nat) :
    let t := s.eveCopying port id
    t.nq.eveImage = some (port, id) ∧ t.flag R.MTX_STAT_EVE_BUSY = true ∧ t.xfer port id = none ∧
      s.framed t [.regs, .nq] [R.MTX_STAT] := by
  refine ⟨rfl, flag_setFld_one _ _ rfl (by decide), xfer_endXfer_same s port id,
    .step (State.setFld_same ..) (.step (State.withNq_same ..) (.step (State.endXfer_same s port id) (.refl ..))), fun a ha => ?_⟩
  exact (framed_setFld ((s.endXfer port id).withNq _) R.MTX_STAT_EVE_BUSY 1 [.regs]).2 a ha

@[simp] theorem engaged_xfer (s : State) (id p k : Nat) : (s.engaged id).xfer p k = s.xfer p k := by
  unfold State.engaged State.modSession
  split <;> rfl

/-- EVE_IMAGE_WRITE (R532). -/
theorem exec_eveImageWrite {s : State} {id : BitVec 16} {x : Session} {y : Transfer} (data : List Byte) (hv : s.vigil = true)
    (hx : s.session id.toNat = some x) (ho : x.isOpen = true) (hb : x.busy = false) (hy : s.xfer x.port x.id = some y)
    (hi : y.index = 0x3011) (hs : y.sub = 1) (hw : y.isWrite = true) (hf : y.fw = false)
    (hn : y.offset + data.length = y.total) (hd : data.length ≤ 1024) (ht : y.total < 2 ^ 32)
    (hu : s.objUp [6, 7, 12] 0x3011 = true) (hst : ((s.engaged x.id).eveStaged y.offset data).1 = false)
    (hopen : ((s.engaged x.id).eveStaged y.offset data).2.eveOpen = true) :
    exec (.eveImageWrite id data) s = .next (((s.engaged x.id).eveStaged y.offset data).2.eveCopying x.port x.id) := by
  have hx' : s.session x.id = some x := (session_some hx).1 ▸ hx
  have hserve : exec (.eveImageWrite id data) s =
      .next (s.serve x.port x.id 5 true (nqObj 0x3011 1 0 ++ beBytes 4 y.offset ++ data)) := by
    change execEveImageWrite id data s = _
    simp only [execEveImageWrite, hv, hx, hy, ho, hi, hw]
    rfl
  have hoff : ((nqObj 0x3011 1 0 ++ (beBytes 4 y.offset ++ data)).drop 4).take 4 = beBytes 4 y.offset := by
    rw [List.drop_left' (length_nqObj ..), List.take_left' (length_beBytes ..)]
  have hdata : (nqObj 0x3011 1 0 ++ (beBytes 4 y.offset ++ data)).drop 8 = data := by
    rw [← List.append_assoc, List.drop_left' (by simp)]
  rw [hserve, serve_segment _ _ _ _ _ (by simp [hx', hb]), List.append_assoc, ofPayload_nqObj _ _ _ _ _ _ (by decide) (by decide),
    hoff, hdata, beNat_beBytes 4 _ (by omega),
    segment_writeLast (s.engaged x.id) _ y data eveRow [6, 7, 12] (by simpa using hy) hi hs hw hf hn hd (objFind_eve _)
      (by simpa only [objUp_engaged] using hu), segWrite_eve _ _ _ _ _ hst hopen]

/-- The state in which an Eve image stands in the table. -/
def State.eveCopied (s : State) (table : List (Nat × Word)) : State :=
  let u := s.setFld R.MTX_STAT_EVE_BUSY 0
  (u.withMtx { u.mtx with eve := table }).eveChanged

/-- A flag reads as clear once it is cleared. -/
theorem flag_setFld_zero (s : State) (f : Fld) (h : f.lo ≤ f.hi) (h31 : f.hi < 32) : (s.setFld f 0).flag f = false := by
  rw [State.flag, fld_setFld_same _ _ _ h h31, Nat.zero_mod]
  rfl

theorem eveCopied_framed (s : State) (table : List (Nat × Word)) :
    s.framed (s.eveCopied table) [.regs, .mtx, .nq] [R.MTX_STAT] :=
  ⟨.step (State.withNq_same ..) (.step (State.withMtx_same ..) (.step (State.setFld_same s R.MTX_STAT_EVE_BUSY 0) (.refl ..))),
    (framed_setFld s R.MTX_STAT_EVE_BUSY 0 [.regs]).2⟩

/-- EVE_IMAGE_COPY_DONE (R532). -/
theorem exec_eveImageCopyDone {s : State} {port id : Nat} (hv : s.vigil = true) (he : s.nq.eveImage = some (port, id))
    (hl : s.live 12 = true) (hb : s.flag R.MTX_STAT_EVE_BUSY = true) (r : (List Byte × Bool) × State)
    (hr : (s.withNq { s.nq with eveImage := none }).memRead ridResponder 0x101F0000 49152 = r) (h0 : r.1.2 = false) :
    exec .eveImageCopyDone s = .next ((r.2.eveCopied (imageTable 0 r.1.1)).nqRespond port id 0x3011 1 0 []) := by
  have hl' : (s.withNq { s.nq with eveImage := none }).live 12 = true := hl
  have hb' : (s.withNq { s.nq with eveImage := none }).flag R.MTX_STAT_EVE_BUSY = true := hb
  change execEveImageCopyDone s = _
  simp only [execEveImageCopyDone, hv, he, hl', hb', hr, h0]
  rfl

end Sys2Proof.Machine

namespace Sys2Proof.Machine

/-! ### The tail of the delegation ring (R57) -/

/-- The block of the responder's registers. -/
def nqBlock : BlockDesc := ⟨"NQ", 0x4000b000, 0x1000, 0xb, 0, false, regsNq⟩

/-- The register NQ_DLG_TAIL. -/
def tailReg : RegDesc := ⟨"NQ_DLG_TAIL", 0xc, 1, 0, [⟨"TAIL", 2, 0, .rw, 0⟩]⟩

theorem blockAt_tail : blockAt R.NQ_DLG_TAIL = some nqBlock := by rfl

theorem form_tail : nqBlock.form R.NQ_DLG_TAIL = .own tailReg := by rfl

theorem rwMask_tail (s : State) : s.rwMask nqBlock tailReg = 7#32 := by
  simp [State.rwMask, RegDesc.maskOf, tailReg, FieldDesc.mask]

/-- NQ_DLG_TAIL after a write. -/
def tailWord (old data : Word) : Word := (old &&& ~~~7#32) ||| (data &&& 7#32)

theorem tailWord_tail (old : Word) (tail : BitVec 3) : nbits (tailWord old (BitVec.ofNat 32 tail.toNat)).toNat 2 0 = tail.toNat := by
  have hnew : (BitVec.ofNat 32 tail.toNat).extractLsb' 0 3 = tail := by
    apply BitVec.eq_of_toNat_eq
    simp
    omega
  have hold : (~~~7#32).extractLsb' 0 3 = 0#3 := by decide
  have hmask : (7#32).extractLsb' 0 3 = BitVec.allOnes 3 := by decide
  rw [nbits_toNat, tailWord, BitVec.extractLsb'_or, BitVec.extractLsb'_and, BitVec.extractLsb'_and, hnew, hold, hmask,
    BitVec.and_zero, BitVec.zero_or, BitVec.and_allOnes]

/-- The field TAIL is what its register reads modulo 8. -/
theorem fld_tail (s : State) : s.fld R.NQ_DLG_TAIL_TAIL = (s.reg R.NQ_DLG_TAIL).toNat % 8 := by
  rw [State.fld, State.regN, nbits, R.NQ_DLG_TAIL_TAIL]
  simp

/-- The register stores the three bits of a word that is written to it, and the responder takes the new tail. -/
theorem plainWrite_tail (s : State) (rid : Rid) (data : Word) (hp : s.pairs = []) :
    s.plainWrite nqBlock tailReg rid R.NQ_DLG_TAIL data 0xFFFFFFFF data =
      nqWrite rid R.NQ_DLG_TAIL data (s.reg R.NQ_DLG_TAIL)
        (s.setReg R.NQ_DLG_TAIL (tailWord (s.reg R.NQ_DLG_TAIL) data)) := by
  have hw1c : tailReg.bits .w1c = 0#32 := by decide
  have hw1s : tailReg.bits .w1s = 0#32 := by decide
  have hwo : tailReg.bits .wo = 0#32 := by decide
  have hall : (0xFFFFFFFF : Word) = BitVec.allOnes 32 := rfl
  rw [plainWrite_simple _ _ _ _ _ _ _ _ hp rfl (by decide) (by decide), hw1c, hw1s, hwo, rwMask_tail, hall]
  simp only [BitVec.and_allOnes, BitVec.zero_and, BitVec.and_zero, BitVec.not_zero, BitVec.or_zero]
  rfl

/-- The state in which firmware has written the tail. -/
def State.tailWritten (s : State) (rid : Rid) (tail : BitVec 3) : State :=
  (s.withAnswer { rid := rid }).setReg R.NQ_DLG_TAIL (tailWord (s.reg R.NQ_DLG_TAIL) (BitVec.ofNat 32 tail.toNat))

theorem tailWritten_fld (s : State) (rid : Rid) (tail : BitVec 3) :
    (s.tailWritten rid tail).fld R.NQ_DLG_TAIL_TAIL = tail.toNat := by
  have hreg : (s.tailWritten rid tail).regN R.NQ_DLG_TAIL = _ := congrArg BitVec.toNat (reg_setReg_same ..)
  exact (congrArg (nbits · 2 0) hreg).trans (tailWord_tail ..)

theorem tailWritten_framed (s : State) (rid : Rid) (tail : BitVec 3) :
    s.framed (s.tailWritten rid tail) [.regs, .answer, .nq] [R.NQ_DLG_TAIL] :=
  ⟨.step (State.setReg_same ..) (.step (State.withAnswer_same s { rid := rid }) (.refl ..)), fun a ha =>
    reg_setReg_other (s.withAnswer { rid := rid }) _ _ _ (fun e => ha (by simp [e]))⟩

/-- Without a channel told to stop nothing is settled. -/
theorem settleDma_none (s : State) (h : s.ic.dma.any (fun p => p.2.abort) = false) : s.settleDma = s := by
  simp only [State.settleDma, h]
  rfl

/-- DELEGATION_ANSWER (R57): the tail is written, and the responder goes on to the entries it passes. -/
theorem exec_delegationAnswer (s : State) (rid : Rid) (tail : BitVec 3) (h : s.serves rid 0) :
    exec (.delegationAnswer rid tail) s =
      .next ((s.tailWritten rid tail).dlgTail (s.fld R.NQ_DLG_TAIL_TAIL) tail.toNat) := by
  obtain ⟨⟨hr, hl, hdma⟩, hp⟩ := h
  have hbus : s.busWrite rid R.NQ_DLG_TAIL (BitVec.ofNat 32 tail.toNat) =
      nqWrite rid R.NQ_DLG_TAIL (BitVec.ofNat 32 tail.toNat) (s.reg R.NQ_DLG_TAIL) (s.tailWritten rid tail) :=
    (busWrite_own s rid R.NQ_DLG_TAIL _ nqBlock tailReg hr (by decide) blockAt_tail hl (by decide) form_tail rfl rfl).trans
      (plainWrite_tail (s.withAnswer { rid := rid }) rid _ hp)
  have hic : ((s.tailWritten rid tail).dlgTail (s.fld R.NQ_DLG_TAIL_TAIL) tail.toNat).ic = s.ic :=
    (State.dlgTail_same ..).ic (by decide)
  change Host.Outcome.next (s.busWrite rid R.NQ_DLG_TAIL (BitVec.ofNat 32 tail.toNat)).settleDma = _
  rw [hbus, nqWrite, if_pos rfl, tailWritten_fld, ← fld_tail, settleDma_none _ (hic ▸ hdma)]

theorem withDeleg_same (s : State) (l : List Delegation) : Same [.nq] s (s.withDeleg l) := State.withNq_same ..

/-! ### The entries that the tail passes -/

/-- Entries answered for firmware before are released only. -/
theorem dlgAnswer_dead (l : List Delegation) (s : State) (h : l.all (·.dead) = true) :
    l.foldl (fun (s : State) d => s.dlgAnswer d) s = s := by
  induction l generalizing s with
  | nil => rfl
  | cons d l ih =>
    simp only [List.all_cons, Bool.and_eq_true] at h
    have hd : s.dlgAnswer d = s := by simp [State.dlgAnswer, h.1]
    rw [List.foldl_cons, hd, ih s h.2]

/-- Passing entries that wait for nothing releases them. -/
theorem dlgTail_dead (s : State) (old new : Nat) (h : (s.nq.deleg.take ((new + 8 - old) % 8)).all (·.dead) = true) :
    s.dlgTail old new = s.withDeleg (s.nq.deleg.drop ((new + 8 - old) % 8)) :=
  dlgAnswer_dead _ _ h

/-- Passing one entry answers it. -/
theorem dlgTail_one (s : State) (old new : Nat) (d : Delegation) (rest : List Delegation) (hd : s.nq.deleg = d :: rest)
    (h : (new + 8 - old) % 8 = 1) : s.dlgTail old new = (s.withDeleg rest).dlgAnswer d := by
  simp [State.dlgTail, h, hd, State.withDeleg]

/-- Firmware's answer to a delegated Read is sent as it stands in the ring (R56, R57). -/
theorem dlgAnswer_read (s : State) (d : Delegation) (hd : d.dead = false) (ho : d.op = 0) :
    s.dlgAnswer d =
      let r := s.memRead 0xE0 (s.ringAddr d.entry) 64
      let st := ((r.1.1.drop 5).headD 0).toNat
      r.2.nqRespond d.port d.session d.index d.sub st
        (if st = 0 then slice r.1.1 8 (min (leNat ((r.1.1.drop 6).take 2)) 16) else []) := by
  simp [State.dlgAnswer, State.dlgEnd, hd, ho]

end Sys2Proof.Machine

namespace Sys2Proof.Machine

/-- Settles O7: each command comes to the state its exec lemma names; an answer sent after it keeps the registers and the
tables, and of the responder all but the frames and their sessions. -/
theorem objectCommands : Obligations.ObjectCommands := by
  refine ⟨?save, ?restore, ?roleKey, ?unfreeze, ?commit, ?eveWrite, ?eveDone, ?release, ?answer⟩
  case save =>
    intro s id x r hv hx ho hb hl ha h4 hr hs hband hw
    exact exec_savePersistent hv hx ho hb hl ha h4 hr hs hband hw
  case restore =>
    intro s id x r hv hx ho hb hl ha h4
    exact exec_restoreDefaults hv hx ho hb hl ha h4
  case roleKey =>
    intro s id role key x r hv hx ho hb hl hband hr
    exact exec_roleKeyWrite hv hx ho hb role key hl hband hr
  case unfreeze =>
    intro s id data x r hv hx ho hb hl ha h4 hd hf hr hu
    rw [hd]
    exact exec_unfreezeObject hv hx ho hb hl ha h4 hf hr hu
  case commit =>
    intro s id data x r hv hx ho hb hl ha h4 hgo hab hcp hat hcls h0 heve
    obtain ⟨hex, hstate, hnq⟩ := exec_commitRequestObject hv hx ho hb data hl ha h4 hgo hab hcp hat hcls h0 heve
    generalize ((s.engaged x.id).commitTaken (data &&& 0x1F7)).mtxGo = u at hex hstate hnq
    have hx' : s.session x.id = some x := (session_some hx).1 ▸ hx
    have hu : u.session x.id = some { x with busy := true } :=
      (session_congr (congrArg NqSt.sessions hnq) _).trans (session_engaged hx')
    refine ⟨_, hex, ?_, fun h24 hq => ?_⟩
    · exact (fld_congr ((State.nqRespond_same ..).regs (by decide)) _).trans hstate
    · obtain ⟨o, hout, hkind, hses⟩ := nqRespond_session hu hq 0x3011 2 0 []
      exact ⟨o, by rw [h24, hout, hnq, State.engaged, modSession_out], hkind, hses⟩
  case eveWrite =>
    intro s id data x y hv hx ho hb hy hi hs hw hf hn hd ht hu w hst hopen
    obtain ⟨himage, hbusy, hxfer, hframe⟩ := eveCopying_spec w.2 x.port x.id
    exact ⟨_, exec_eveImageWrite data hv hx ho hb hy hi hs hw hf hn hd ht hu hst hopen, himage, hbusy, hxfer, hframe⟩
  case eveDone =>
    intro s port id hv he hl hb r h0
    have hnq : r.2.nq = { s.nq with eveImage := none } := (State.memRead_same ..).nq (by decide)
    have hmark : r.2.nq.eveMark = s.nq.eveMark := by rw [hnq]
    have hday : r.2.mtx.day = s.mtx.day := congrArg MtxSt.day ((State.memRead_same ..).mtx (by decide))
    have hkept := (nqRespond_sends (r.2.eveCopied (imageTable 0 r.1.1)) port id 0x3011 1 0 []).kept
    have hsame := State.nqRespond_same (r.2.eveCopied (imageTable 0 r.1.1)) port id 0x3011 1 0 []
    refine ⟨_, exec_eveImageCopyDone hv he hl hb r rfl h0, ?_, ?_, ?_, ?_, ?_, (eveCopied_framed ..).step hsame⟩
    · rw [hkept]
      exact congrArg NqSt.eveImage hnq
    · rw [hsame.mtx (by decide)]
      rfl
    · rw [flag_congr (hsame.regs (by decide))]
      exact flag_setFld_zero _ _ (by decide) (by decide)
    · rw [hkept]
      exact congrArg (· + 1) hmark
    · exact (congrArg MtxSt.day (hsame.mtx (by decide))).trans hday
  case release =>
    intro s rid tail n h hdead
    exact ⟨_, (exec_delegationAnswer s rid tail h).trans (congrArg _ (dlgTail_dead _ _ _ hdead)), tailWritten_fld .., rfl, rfl,
      (tailWritten_framed s rid tail).step (withDeleg_same ..)⟩
  case answer =>
    intro s rid tail d rest h ht hd hdead ho hport hses
    have hone : (tail.toNat + 8 - s.fld R.NQ_DLG_TAIL_TAIL) % 8 = 1 := by
      have hlt : s.fld R.NQ_DLG_TAIL_TAIL < 8 := nbits_lt _ 2 0
      omega
    refine ⟨_, (s.tailWritten rid tail).withDeleg rest, (exec_delegationAnswer s rid tail h).trans
      (congrArg _ ((dlgTail_one (s.tailWritten rid tail) _ _ d rest hd hone).trans
        (dlgAnswer_read _ d hdead ho))), tailWritten_fld .., rfl,
      (tailWritten_framed s rid tail).step (withDeleg_same ..), ?_⟩
    rw [hport, hses]

end Sys2Proof.Machine

/-! Register behaviour (chapter 03): what a write comes to at a register's own offset, at an aliased address and at a shadow port,
what an integrity fault leaves, and the proofs of the statements on register writes, on voted and shadowed fields and on reset. -/

namespace Sys2Proof.Machine

/-! ### Frames that follow each other -/

/-- What two changes in a row leave. -/
theorem State.framed.trans {l m n : List Part} {A B C : List Nat} {s t u : State} (h : s.framed t l A) (g : t.framed u m B)
    (hl : l ⊆ n := by decide) (hm : m ⊆ n := by decide) (hA : A ⊆ C := by simp) (hB : B ⊆ C := by simp) : s.framed u n C :=
  ⟨.step g.1 (.step h.1 (.refl ..) hl) hm, fun a ha => (g.2 a (fun e => ha (hB e))).trans (h.2 a (fun e => ha (hA e)))⟩

/-- A register that a change does not list keeps its number. -/
theorem State.framed.regN {l : List Part} {A : List Nat} {s t : State} (h : s.framed t l A) {a : Nat} (ha : a ∉ A) :
    t.regN a = s.regN a := congrArg BitVec.toNat (h.2 a ha)

/-- A change that touches neither the states of the domains nor the reset leaves every domain as available as it was. -/
theorem State.framed.live {l : List Part} {A : List Nat} {s t : State} (h : s.framed t l A) (h0 : R.PWR_STATE0 ∉ A)
    (h1 : R.PWR_STATE1 ∉ A) (hr : Part.rst ∉ l := by decide) (d : Nat) : t.live d = s.live d := by
  simp only [State.live, State.vigil, State.up, State.isOn, State.dom, h.regN h0, h.regN h1, h.1.rst hr]

theorem setReg_framed (s : State) (a : Nat) (w : Word) : s.framed (s.setReg a w) [.regs] [a] :=
  ⟨State.setReg_same .., fun _ hc => reg_setReg_other _ _ _ _ (fun e => hc (e ▸ List.mem_singleton_self _))⟩

theorem withAnswer_framed (s : State) (x : Answer) : s.framed (s.withAnswer x) [.answer] [] :=
  framed_of_same (State.withAnswer_same ..)

theorem withPairs_framed (s : State) (x : List ShadowPair) : s.framed (s.withPairs x) [.pairs] [] :=
  framed_of_same (State.withPairs_same ..)

/-! ### The words that writes leave -/

/-- The word a write of the bits `en` leaves in a register (R71). -/
def State.writtenWord (s : State) (b : BlockDesc) (r : RegDesc) (old data en : Word) : Word :=
  (old &&& ~~~(s.rwMask b r &&& en) &&& ~~~(r.bits .w1c &&& (data &&& en)) &&& ~~~(r.bits .wo)) |||
    ((data &&& en) &&& (s.rwMask b r &&& en)) ||| ((data &&& en) &&& r.bits .w1s) ||| ((data &&& en) &&& r.bits .wo)

/-- The word a write at an aliased address leaves in a register (R65, R66). -/
def State.aliasWord (s : State) (b : BlockDesc) (r : RegDesc) (form : Nat) (old data : Word) : Word :=
  (old &&& ~~~(s.rwMask b r) &&& ~~~(r.bits .wo)) ||| (aliasValue form old data &&& s.rwMask b r)

/-- The word a completed shadow pair leaves in a register (R80). -/
def RegDesc.pairWord (r : RegDesc) (old value : Word) : Word := (old &&& ~~~(r.bits .rws)) ||| (value &&& r.bits .rws)

theorem writtenWord_getLsbD (s : State) (b : BlockDesc) (r : RegDesc) (old data en : Word) (i : Nat) (hi : i < 32) :
    (s.writtenWord b r old data en).getLsbD i = s.writtenBit b r old data en i := by
  simp only [State.writtenWord, State.writtenBit, BitVec.getLsbD_or, BitVec.getLsbD_and, BitVec.getLsbD_not, hi, decide_true,
    Bool.true_and]
  cases hwo : (r.bits .wo).getLsbD i
  case true => grind
  case false =>
    cases hrw : (s.rwMask b r).getLsbD i && en.getLsbD i <;> grind

theorem aliasValue_getLsbD (form : Nat) (old data : Word) (i : Nat) (hi : i < 32) :
    (aliasValue form old data).getLsbD i =
      if form = 1 then old.getLsbD i || data.getLsbD i
      else if form = 2 then old.getLsbD i && !data.getLsbD i
      else old.getLsbD i ^^ data.getLsbD i := by
  unfold aliasValue
  split <;> simp_all

theorem aliasWord_getLsbD (s : State) (b : BlockDesc) (r : RegDesc) (form : Nat) (old data : Word) (i : Nat) (hi : i < 32) :
    (s.aliasWord b r form old data).getLsbD i =
      if (s.rwMask b r).getLsbD i then
        (if form = 1 then old.getLsbD i || data.getLsbD i
         else if form = 2 then old.getLsbD i && !data.getLsbD i
         else old.getLsbD i ^^ data.getLsbD i)
      else old.getLsbD i && !(r.bits .wo).getLsbD i := by
  simp only [State.aliasWord, BitVec.getLsbD_or, BitVec.getLsbD_and, BitVec.getLsbD_not, hi, aliasValue_getLsbD]
  cases (s.rwMask b r).getLsbD i <;> simp

theorem pairWord_getLsbD (r : RegDesc) (old value : Word) (i : Nat) (hi : i < 32) :
    (r.pairWord old value).getLsbD i = if (r.bits .rws).getLsbD i then value.getLsbD i else old.getLsbD i := by
  simp only [RegDesc.pairWord, BitVec.getLsbD_or, BitVec.getLsbD_and, BitVec.getLsbD_not, hi]
  cases (r.bits .rws).getLsbD i <;> simp

/-! ### Writes over the interconnect -/

section
variable {s : State} {rid : Rid} {a : Nat} {data : Word} {b : BlockDesc} {r : RegDesc}

/-- With no pair pending, none is late. -/
theorem pairLate_none (hp : s.pairs = []) : s.pairLate b a = s := by simp [State.pairLate, hp]

/-- With no pair pending, a write ends none. -/
theorem pairBreak_none (hp : s.pairs = []) : s.pairBreak b a = (false, s) := by simp [State.pairBreak, hp]

/-- In a block that is not locked, or on a register with nothing to lock, a write finds nothing locked (R83). -/
theorem lockedWrite_open (hl : s.locked b = false ∨ r.bits .rwl = 0) (old new : Word) : s.lockedWrite b r old new = s := by
  rcases hl with h | h
  · simp [State.lockedWrite, h]
  · change BitVec.ofNat 32 (r.maskOf (fun x => x == .rwl)) = 0 at h
    simp [State.lockedWrite, h]

/-- The state in which a write of the bits `en` has stored its register; the first write of a shadow pair pends (R71, R80). -/
def State.stored (s : State) (b : BlockDesc) (r : RegDesc) (rid : Rid) (a : Nat) (data en : Word) : State :=
  let t := s.setReg a (s.writtenWord b r (s.reg a) data en)
  if r.shadowed then t.withPairs [⟨a, rid, data, s.now⟩] else t

/-- With no pair pending, nothing locked and no header register, a write stores its register, and the block goes on with that. -/
theorem plainWrite_stored (hp : s.pairs = []) (hh : ¬ (b.base + 0x3F0 ≤ a ∧ a < b.base + 0x400))
    (hl : s.locked b = false ∨ r.bits .rwl = 0) (en raw : Word) :
    s.plainWrite b r rid a data en raw = blockWrite b.code rid a raw (s.reg a) (s.stored b r rid a data en) := by
  simp only [State.plainWrite, pairLate_none hp, pairBreak_none hp, lockedWrite_open hl, if_neg hh, Bool.not_false,
    Bool.and_true, State.setReg, State.withRegs_pairs, hp, List.nil_append]
  rfl

theorem stored_plain (h : r.shadowed = false) (en : Word) :
    s.stored b r rid a data en = s.setReg a (s.writtenWord b r (s.reg a) data en) := by simp [State.stored, h]

theorem stored_shadowed (h : r.shadowed = true) (en : Word) :
    s.stored b r rid a data en =
      (s.setReg a (s.writtenWord b r (s.reg a) data en)).withPairs [⟨a, rid, data, s.now⟩] := by simp [State.stored, h]

/-- With no pair pending and nothing locked, a write at an aliased address stores the writable bits, and the block goes on with
those. -/
theorem aliasWrite_stored (hp : s.pairs = []) (hl : s.locked b = false ∨ r.bits .rwl = 0) (hw : s.rwMask b r ≠ 0) (form : Nat) :
    s.aliasWrite b r rid a form data =
      blockWrite b.code rid a (s.aliasWord b r form (s.reg a) data &&& s.rwMask b r) (s.reg a)
        (s.setReg a (s.aliasWord b r form (s.reg a) data)) := by
  simp only [State.aliasWrite, pairLate_none hp, pairBreak_none hp, lockedWrite_open hl, if_neg hw]
  rfl

/-- The second write of the one pending pair, its complement from the same master within the window, completes the pair. -/
theorem portWrite_completes {p : ShadowPair} (hp : s.pairs = [p]) (ha : p.addr = a) (hw : s.now ≤ p.at_ + pairWindow)
    (hm : master p.rid = master rid) (hd : data = ~~~p.value) (hl : b.code ≠ 0x07 ∨ s.locked b = false) :
    s.portWrite b r rid a data =
      blockWrite b.code rid a p.value (s.reg a) ((s.withPairs []).setReg a (r.pairWord (s.reg a) p.value)) := by
  have hlate : s.pairLate b a = s := by simp [State.pairLate, hp, Nat.not_lt.2 hw]
  have hfind : s.pairs.find? (fun q => q.addr == a) = some p := by simp [hp, ha]
  have hdrop : s.dropPair a = s.withPairs [] := by simp [State.dropPair, hp, ha]
  have hopen : (b.code = 0x07 && (s.withPairs []).locked b) = false := by
    rcases hl with h | h
    · simp [h]
    · simp [show (s.withPairs []).locked b = false from h]
  simp only [State.portWrite, hlate, hfind, hdrop, hm, hd, hopen]
  simp only [BEq.rfl, decide_true, Bool.not_false, Bool.and_true, if_true]
  rfl

variable (ho : s.opens rid b.domain) (ht : regSpace a = true) (hb : blockAt a = some b) (h4 : a % 4 = 0)
  (hw : mayWrite b rid = true)
include ho ht hb h4 hw

/-- A write of a word at an aliased address reaches the register it is aliased to. -/
theorem busWrite_aliased {form x : Nat} (hf : b.form a = .aliasForm r form x) :
    s.busWrite rid a data = (s.withAnswer { rid := rid }).aliasWrite b r rid x form data := by
  obtain ⟨hr, hl, -⟩ := ho
  simp [State.busWrite, hr, target_regs s a ht, State.regBusWrite, hb, hl, h4, hf, hw]

/-- A write of a word at a shadow port reaches the register whose port it is. -/
theorem busWrite_port {x : Nat} (hf : b.form a = .port r x) :
    s.busWrite rid a data = (s.withAnswer { rid := rid }).portWrite b r rid x data := by
  obtain ⟨hr, hl, -⟩ := ho
  simp [State.busWrite, hr, target_regs s a ht, State.regBusWrite, hb, hl, h4, hf, hw]

variable (hp : s.pairs = []) (hf : b.form a = .own r) (hh : ¬ (b.base + 0x3F0 ≤ a ∧ a < b.base + 0x400))
  (hl : s.locked b = false ∨ r.bits .rwl = 0)
include hp hf hh hl

/-- A write of a word to a register of a block without masks stores it, and the block goes on with that (R71). -/
theorem write_own (hm : b.masked = false) :
    s.write rid a data = (blockWrite b.code rid a data (s.reg a)
      ((s.withAnswer { rid := rid }).stored b r rid a data 0xFFFFFFFF)).settleDma :=
  congrArg State.settleDma ((busWrite_own s rid a data b r ho.1 ht hb ho.2.1 h4 hf hw hm).trans
    (plainWrite_stored (s := s.withAnswer { rid := rid }) hp hh hl _ _))

/-- A write of a word to a register of a block of masked writes stores the bits of its mask (R69). -/
theorem write_masked (hm : b.masked = true) (hk : data.toNat / 2 ^ 16 ≠ 0) :
    s.write rid a data = (blockWrite b.code rid a data (s.reg a)
      ((s.withAnswer { rid := rid }).stored b r rid a (data &&& 0xFFFF) (data >>> 16))).settleDma := by
  have hmask : BitVec.ofNat 32 (data.toNat / 2 ^ 16) = data >>> 16 := by
    apply BitVec.eq_of_toNat_eq
    simp [Nat.shiftRight_eq_div_pow]
    omega
  refine congrArg State.settleDma ((busWrite_masked s rid a data b r ho.1 ht hb ho.2.1 h4 hf hw hm hk).trans ?_)
  rw [hmask]
  exact plainWrite_stored (s := s.withAnswer { rid := rid }) hp hh hl _ _

end

/-- A write of a word at an aliased address stores the writable bits of the register, and the block goes on with those (R65,
R66). -/
theorem write_aliased {s : State} {rid : Rid} {a : Nat} {data : Word} {b : BlockDesc} {r : RegDesc} {form x : Nat}
    (h : s.serves rid b.domain) (ht : regSpace a = true) (hb : blockAt a = some b) (h4 : a % 4 = 0)
    (hf : b.form a = .aliasForm r form x) (hw : mayWrite b rid = true) (hrw : s.rwMask b r ≠ 0)
    (hl : s.locked b = false ∨ r.bits .rwl = 0) :
    s.write rid a data = (blockWrite b.code rid x (s.aliasWord b r form (s.reg x) data &&& s.rwMask b r) (s.reg x)
      ((s.withAnswer { rid := rid }).setReg x (s.aliasWord b r form (s.reg x) data))).settleDma :=
  congrArg State.settleDma ((busWrite_aliased h.1 ht hb h4 hw hf).trans
    (aliasWrite_stored (s := s.withAnswer { rid := rid }) h.2 hl hrw form))

/-- A write of a word at the shadow port of the one pending pair completes it (R80). -/
theorem write_port {s : State} {rid : Rid} {a : Nat} {data : Word} {b : BlockDesc} {r : RegDesc} {x : Nat} {p : ShadowPair}
    (ho : s.opens rid b.domain) (ht : regSpace a = true) (hb : blockAt a = some b) (h4 : a % 4 = 0)
    (hf : b.form a = .port r x) (hw : mayWrite b rid = true) (hp : s.pairs = [p]) (hx : p.addr = x)
    (hnow : s.now ≤ p.at_ + pairWindow) (hm : master p.rid = master rid) (hd : data = ~~~p.value)
    (hl : b.code ≠ 0x07 ∨ s.locked b = false) :
    s.write rid a data = (blockWrite b.code rid x p.value (s.reg x)
      (((s.withAnswer { rid := rid }).withPairs []).setReg x (r.pairWord (s.reg x) p.value))).settleDma :=
  congrArg State.settleDma ((busWrite_port ho ht hb h4 hw hf).trans
    (portWrite_completes (s := s.withAnswer { rid := rid }) hp hx hnow hm hd hl))

/-- Setting a register after an operation that sets none. -/
theorem framed_setReg {l m : List Part} {s t : State} (h : Same l s t) (a : Nat) (w : Word) (hl : l ⊆ m := by decide)
    (hm : [.regs] ⊆ m := by decide) (hr : Part.regs ∉ l := by decide) : s.framed (t.setReg a w) m [a] :=
  (framed_of_same h hr).trans (setReg_framed t a w) hl hm

theorem answered_setReg_framed (s : State) (x : Answer) (a : Nat) (w : Word) :
    s.framed ((s.withAnswer x).setReg a w) [.regs, .answer] [a] := framed_setReg (State.withAnswer_same ..) a w

/-- Settles O8: each write of the bus stores one register, by its access codes, and hands the block the state so changed; a staged
counter load acts as a plain register write, which is the model's choice (log entry 39). -/
theorem registerWrites : Obligations.RegisterWrites := by
  unfold Obligations.RegisterWrites
  refine ⟨?plain, ?masked, ?aliased⟩
  case plain =>
    intro s rid addr data b r c hc ⟨ho, hp⟩ ht hb h4 hf hw hm hs hh hl
    have hex : exec c s = .next (s.write rid addr.toNat data) := by rcases hc with rfl | rfl <;> rfl
    rw [write_own ho ht hb h4 hw hp hf hh hl hm, stored_plain hs] at hex
    refine ⟨_, hex, fun i hi => ?_, answered_setReg_framed ..⟩
    rw [reg_setReg_same]
    exact writtenWord_getLsbD _ _ _ _ _ _ i hi
  case masked =>
    intro s rid addr data b r ⟨ho, hp⟩ ht hb h4 hf hw hm hk hs hh hl
    have hex : exec (.maskedWrite rid addr data) s = .next (s.write rid addr.toNat data) := rfl
    rw [write_masked ho ht hb h4 hw hp hf hh hl hm hk, stored_plain hs] at hex
    refine ⟨_, hex, fun i hi => ?_, answered_setReg_framed ..⟩
    rw [reg_setReg_same]
    exact writtenWord_getLsbD _ _ _ _ _ _ i hi
  case aliased =>
    intro s rid addr data b r form x h ht hb h4 hf hw hrw hl
    have hex : exec (.aliasWrite rid addr data) s = .next (s.write rid addr.toNat data) := rfl
    rw [write_aliased h ht hb h4 hf hw hrw hl] at hex
    refine ⟨(s.withAnswer { rid := rid }).setReg x (s.aliasWord b r form (s.reg x) data), ?_, fun i hi => ?_,
      answered_setReg_framed ..⟩
    · rw [reg_setReg_same]
      exact hex
    · rw [reg_setReg_same]
      exact aliasWord_getLsbD _ _ _ _ _ _ i hi

/-! ### Numbers of one bit -/

theorem nbit_eq_testBit (v i : Nat) : nbit v i = v.testBit i := by
  rw [Nat.testBit_eq_decide_div_mod_eq]
  rfl

/-- A bit of a register reads as set once it is set. -/
theorem nbit_nput_one (w i : Nat) (hi : i < 32) : nbit (nput w i i 1 % 2 ^ 32) i = true := by
  rw [nbit_eq_testBit, Nat.testBit_mod_two_pow, testBit_nput _ _ _ _ _ (by omega)]
  simp [hi]

/-- A bit outside a field that is set stands. -/
theorem nbit_nput_other (w hi lo x i : Nat) (h : lo ≤ hi + 1) (hi32 : i < 32) (hd : i < lo ∨ hi < i) :
    nbit (nput w hi lo x % 2 ^ 32) i = nbit w i := by
  have : ¬ (lo ≤ i ∧ i ≤ hi) := by omega
  rw [nbit_eq_testBit, nbit_eq_testBit, Nat.testBit_mod_two_pow, testBit_nput _ _ _ _ _ h, if_neg this]
  simp [hi32]

/-- A word into which a field of another is put takes that field from it. -/
theorem getLsbD_nput (w v : Word) (hi lo i : Nat) (h : lo ≤ hi) (hi32 : i < 32) :
    (BitVec.ofNat 32 (nput w.toNat hi lo (nbits v.toNat hi lo))).getLsbD i =
      if lo ≤ i ∧ i ≤ hi then v.getLsbD i else w.getLsbD i := by
  rw [BitVec.getLsbD_ofNat, testBit_nput _ _ _ _ _ (by omega), testBit_nbits]
  by_cases hf : lo ≤ i ∧ i ≤ hi
  · have hin : i - lo < hi + 1 - lo := by omega
    have hsum : lo + (i - lo) = i := by omega
    simp [hf, hin, hsum, hi32, BitVec.testBit_toNat]
  · simp [hf, hi32, BitVec.testBit_toNat]

/-! ### The headers of the blocks -/

/-- Every register block starts at a multiple of 0x1000 (R61). -/
theorem blockAt_aligned {a : Nat} {b : BlockDesc} (h : blockAt a = some b) : b.base % 0x1000 = 0 := by
  have hfixed : ∀ x ∈ fixedBlocks, x.base % 0x1000 = 0 := by decide
  unfold blockAt at h
  split at h
  · obtain rfl := Option.some.inj h
    simp only [laneBlock]
    omega
  · exact hfixed b (List.mem_of_find?_eq_some h)

/-- The block a register's description names is the one at its address. -/
theorem regDescAt_block {a : Nat} {b : BlockDesc} {r : RegDesc} (h : regDescAt a = some (b, r)) : blockAt a = some b := by
  unfold regDescAt at h
  split at h
  · next x hx =>
    obtain ⟨y, -, hy⟩ := Option.map_eq_some_iff.1 h
    rw [hx, (Prod.mk.inj hy).1]
  · cases h

/-- The integrity registers of a block's header are apart from the states of the domains and from the pending bits of the
integrity faults' events. -/
theorem header_apart {a : Nat} {b : BlockDesc} (h : blockAt a = some b) {o : Nat} (ho : o = 0x3F4 ∨ o = 0x3F8) :
    R.PWR_STATE0 ≠ b.base + o ∧ R.PWR_STATE1 ≠ b.base + o ∧ b.base + o ≠ R.EVT_PEND 3 := by
  have := blockAt_aligned h
  simp only [R.PWR_STATE0, R.PWR_STATE1, R.EVT_PEND]
  omega

/-- A change of the integrity registers of a header leaves every domain as available as it was. -/
theorem State.framed.header_live {s t : State} {a : Nat} {b : BlockDesc}
    (h : s.framed t [.regs] [b.base + 0x3F8, b.base + 0x3F4]) (hb : blockAt a = some b) (d : Nat) : t.live d = s.live d := by
  obtain ⟨hinteg0, hinteg1, -⟩ := header_apart hb (.inr rfl)
  obtain ⟨hlog0, hlog1, -⟩ := header_apart hb (.inl rfl)
  exact h.live (by simp [hinteg0, hlog0]) (by simp [hinteg1, hlog1]) (d := d)

/-! ### Integrity faults (R78, R81, R82) -/

/-- A fault of the register at an address in its block's header: the flag and the log. -/
def State.faultLogged (s : State) (b : BlockDesc) (bit kind a : Nat) : State := (s.setInteg b bit).integLog b kind a

/-- The event of a fault, and its report to the tamper supervisor under a source. -/
def State.faultRaised (s : State) (b : BlockDesc) (kind a event source : Nat) : State :=
  (s.raise event).reportAt source (b.code * 256 + kind) (a - b.base) b.base

theorem shadowFail_eq (s : State) (b : BlockDesc) (a : Nat) :
    s.shadowFail b a = (s.faultLogged b 2 3 a).faultRaised b 3 a 114 11 := rfl

section
variable (s : State) (b : BlockDesc) (bit kind a : Nat)

theorem faultLogged_integ :
    (s.faultLogged b bit kind a).regN (b.base + 0x3F8) = nput (s.regN (b.base + 0x3F8)) bit bit 1 % 2 ^ 32 := by
  rw [State.faultLogged, State.integLog, regN_setRegN_other _ _ _ _ (by omega), State.setInteg, regN_setRegN_same]

theorem faultLogged_framed : s.framed (s.faultLogged b bit kind a) [.regs] [b.base + 0x3F8, b.base + 0x3F4] :=
  (setReg_framed s (b.base + 0x3F8) _).trans (setReg_framed (s.setInteg b bit) (b.base + 0x3F4) _)

end

section
variable (s : State) (b : BlockDesc) (kind a event source : Nat)

theorem raise_framed : s.framed (s.raise event) [.regs, .evt] [R.EVT_PEND (event / 32)] := by
  refine ⟨State.raise_same .., fun c hc => ?_⟩
  have hne : R.EVT_PEND (event / 32) ≠ c := fun e => hc (e ▸ List.mem_singleton_self _)
  unfold State.raise
  split
  · simp only [State.setRegN, reg_setReg_other _ _ _ _ hne]
    split <;> rfl
  · rfl

theorem faultRaised_reports : (s.faultRaised b kind a event source).tmp.reports =
    s.tmp.reports ++ [⟨source, b.code * 256 + kind, a - b.base, b.base⟩] := by
  have htmp : (s.raise event).tmp = s.tmp := (State.raise_same ..).tmp (by decide)
  exact congrArg (fun x : TmpSt => x.reports ++ _) htmp

theorem faultRaised_framed : s.framed (s.faultRaised b kind a event source) [.regs, .tmp, .evt] [R.EVT_PEND (event / 32)] :=
  (raise_framed s event).trans (framed_of_same (State.reportAt_same ..))

end

section
variable {s : State} {b : BlockDesc} {bit kind a event source : Nat}

/-- The flag of a fault is set. -/
theorem faultLogged_flag (hbit : bit < 32) : nbit ((s.faultLogged b bit kind a).regN (b.base + 0x3F8)) bit = true := by
  rw [faultLogged_integ]
  exact nbit_nput_one _ _ hbit

theorem faultLogged_log (hk : kind < 4) :
    (s.faultLogged b bit kind a).regN (b.base + 0x3F4) = kind * 2 ^ 12 + (a - b.base) % 2 ^ 12 := by
  rw [State.faultLogged, State.integLog, regN_setRegN_same]
  omega

/-- With the event block available, a source that is not reserved is pending once it is raised (R333). -/
theorem raise_pends (h7 : s.live 7 = true) (he : eventReserved event = false) : (s.raise event).pends event = true := by
  simp only [State.raise, State.pends, h7, he, Bool.not_false, Bool.and_true, if_true, regN_setRegN_same]
  exact nbit_nput_one _ _ (by omega)

theorem faultRaised_pends (h7 : s.live 7 = true) (he : eventReserved event = false) :
    (s.faultRaised b kind a event source).pends event = true := raise_pends h7 he

/-- The event and the report leave the flag and the log of the fault. -/
theorem faultRaised_header {c : Nat} (hb : blockAt c = some b) (he : event / 32 = 3) {o : Nat} (ho : o = 0x3F4 ∨ o = 0x3F8) :
    (s.faultRaised b kind a event source).regN (b.base + o) = s.regN (b.base + o) :=
  (faultRaised_framed s b kind a event source).regN (by simpa [he] using (header_apart hb ho).2.2)

end

/-! ### Votes and shadows -/

/-- A vote outvotes a copy of a field of the register at an address: flag, log and count (R78). -/
def State.voteCounted (s : State) (b : BlockDesc) (a : Nat) : State :=
  let u := s.faultLogged b 0 1 a
  u.setRegN (b.base + 0x3F8) (nput (u.regN (b.base + 0x3F8)) 15 8 (min 255 (nbits (u.regN (b.base + 0x3F8)) 15 8 + 1)))

/-- A field of the register at an address takes its reset value (R82). -/
def State.fieldReset (s : State) (a : Nat) (x : FieldDesc) : State :=
  s.setRegN a (nput (s.reg a).toNat x.hi x.lo (nbits (resetWord a).toNat x.hi x.lo))

theorem voteCounted_dis (s : State) (b : BlockDesc) (a : Nat) : nbit ((s.voteCounted b a).regN (b.base + 0x3F8)) 0 = true := by
  rw [State.voteCounted, regN_setRegN_same, nbit_nput_other _ _ _ _ _ (by omega) (by omega) (by omega), faultLogged_integ]
  exact nbit_nput_one _ _ (by omega)

theorem voteCounted_count (s : State) (b : BlockDesc) (a : Nat) : nbits ((s.voteCounted b a).regN (b.base + 0x3F8)) 15 8 =
    min 255 (nbits (s.regN (b.base + 0x3F8)) 15 8 + 1) := by
  have hold : nbits ((s.faultLogged b 0 1 a).regN (b.base + 0x3F8)) 15 8 = nbits (s.regN (b.base + 0x3F8)) 15 8 := by
    rw [faultLogged_integ, nbits_mod _ _ _ (by omega), nbits_nput_other _ _ _ _ _ _ (by omega) (by omega)]
  rw [State.voteCounted, regN_setRegN_same, nbits_mod _ _ _ (by omega), nbits_nput_same _ _ _ _ (by omega), hold]
  omega

theorem voteCounted_log (s : State) (b : BlockDesc) (a : Nat) :
    (s.voteCounted b a).regN (b.base + 0x3F4) = 2 ^ 12 + (a - b.base) % 2 ^ 12 := by
  rw [State.voteCounted, regN_setRegN_other _ _ _ _ (by omega), faultLogged_log (by omega), Nat.one_mul]

theorem voteCounted_framed (s : State) (b : BlockDesc) (a : Nat) :
    s.framed (s.voteCounted b a) [.regs] [b.base + 0x3F8, b.base + 0x3F4] :=
  (faultLogged_framed s b 0 1 a).trans (setReg_framed (s.faultLogged b 0 1 a) (b.base + 0x3F8) _)

theorem fieldReset_getLsbD (s : State) (a : Nat) (x : FieldDesc) (hx : x.lo ≤ x.hi) (i : Nat) (hi : i < 32) :
    ((s.fieldReset a x).reg a).getLsbD i = if x.lo ≤ i ∧ i ≤ x.hi then (resetWord a).getLsbD i else (s.reg a).getLsbD i := by
  rw [State.fieldReset, State.setRegN, reg_setReg_same]
  exact getLsbD_nput _ _ _ _ _ hx hi

theorem fieldReset_framed (s : State) (a : Nat) (x : FieldDesc) : s.framed (s.fieldReset a x) [.regs] [a] := setReg_framed ..

/-- The states of the domains have no shadowed field (chapter 20, Registers). -/
theorem shadowed_apart {a : Nat} {b : BlockDesc} {r : RegDesc} {n : Nat} {x : FieldDesc} (hd : regDescAt a = some (b, r))
    (hx : (r.fields.filter (fun x => x.acc == .rws))[n]? = some x) : a ≠ R.PWR_STATE0 ∧ a ≠ R.PWR_STATE1 := by
  have h0 : ∀ p ∈ regDescAt R.PWR_STATE0, p.2.fields.filter (fun x => x.acc == .rws) = [] := by decide
  have h1 : ∀ p ∈ regDescAt R.PWR_STATE1, p.2.fields.filter (fun x => x.acc == .rws) = [] := by decide
  constructor
  · rintro rfl
    simp [h0 _ hd] at hx
  · rintro rfl
    simp [h1 _ hd] at hx

/-! ### The commands -/

theorem exec_voteDisagreement {s : State} {addr : Word} {b : BlockDesc} {r : RegDesc} (hd : regDescAt addr.toNat = some (b, r))
    (hl : s.live b.domain = true) (hv : r.bits .rwv ≠ 0) :
    exec (.voteDisagreement addr) s = .next ((s.voteCounted b addr.toNat).faultRaised b 1 addr.toNat 113 10) := by
  change execVoteDisagreement addr s = _
  simp only [execVoteDisagreement, hd, hl, bne_iff_ne.2 hv, Bool.and_self, if_true]
  rfl

theorem exec_shadowPairTimeout {s : State} {addr : Word} {p : ShadowPair} {b : BlockDesc}
    (hp : s.pairs.find? (fun p => p.addr == addr.toNat) = some p) (hb : blockAt addr.toNat = some b) :
    exec (.shadowPairTimeout addr) s =
      .next (((s.advanceTo (p.at_ + pairWindow + 1)).dropPair addr.toNat).shadowFail b addr.toNat) := by
  change execShadowPairTimeout addr s = _
  simp only [execShadowPairTimeout, hp, hb]

theorem exec_shadowMismatch {s : State} {addr : Word} {f : Fin 4} {b : BlockDesc} {r : RegDesc} {x : FieldDesc}
    (hd : regDescAt addr.toNat = some (b, r)) (hl : s.live b.domain = true)
    (hx : (r.fields.filter (fun x => x.acc == .rws))[f.val]? = some x) :
    let u := ((s.fieldReset addr.toNat x).faultLogged b 1 2 addr.toNat).faultRaised b 2 addr.toNat 114 11
    exec (.shadowMismatch addr f) s =
      .next (blockWrite b.code ridResponder addr.toNat (u.reg addr.toNat) (s.reg addr.toNat) u) := by
  change execShadowMismatch addr f s = _
  simp only [execShadowMismatch, hd, hl, hx]
  rfl

/-- Settles O10: a write at a register's own offset or at its shadow port, and the three faults, each of which logs itself in its
block's header, raises its event and is reported. -/
theorem votedAndShadowed : Obligations.VotedAndShadowed := by
  unfold Obligations.VotedAndShadowed
  refine ⟨?vote, ?start, ?complete, ?timeout, ?mismatch⟩
  case vote =>
    intro s addr b r hd hl h7 hv
    have hb := regDescAt_block hd
    have hcount := voteCounted_framed s b addr.toNat
    have hlive : (s.voteCounted b addr.toNat).live 7 = true := (hcount.header_live hb 7).trans h7
    refine ⟨_, exec_voteDisagreement hd hl hv, ?_, ?_, ?_, faultRaised_pends hlive (by decide), ?_,
      hcount.trans (faultRaised_framed ..)⟩
    · rw [faultRaised_header hb rfl (.inr rfl), voteCounted_dis]
    · rw [faultRaised_header hb rfl (.inr rfl), voteCounted_count]
    · rw [faultRaised_header hb rfl (.inl rfl), voteCounted_log]
    · rw [faultRaised_reports, hcount.1.tmp (by decide)]
  case start =>
    intro s rid addr data b r ⟨ho, hp⟩ ht hb h4 hf hw hm hs hh hl
    have hex : exec (.shadowPairStart rid addr data) s = .next (s.write rid addr.toNat data) := rfl
    rw [write_own ho ht hb h4 hw hp hf hh hl hm, stored_shadowed hs] at hex
    refine ⟨_, hex, rfl, fun i hi => ?_, (answered_setReg_framed ..).trans (withPairs_framed ..)⟩
    exact (congrArg (·.getLsbD i) (reg_setReg_same ..)).trans (writtenWord_getLsbD _ _ _ _ _ _ i hi)
  case complete =>
    intro s rid addr data b r x p ho ht hb h4 hf hw hp hx hnow hm hd hl
    have hex : exec (.shadowPortWrite rid addr data) s = .next (s.write rid addr.toNat data) := rfl
    rw [write_port ho ht hb h4 hf hw hp hx hnow hm hd hl] at hex
    have hsame : Same [.answer, .pairs] s ((s.withAnswer { rid := rid }).withPairs []) :=
      .step (State.withPairs_same ..) (.step (State.withAnswer_same ..) (.refl ..))
    refine ⟨_, hex, rfl, fun i hi => ?_, framed_setReg hsame ..⟩
    rw [reg_setReg_same, pairWord_getLsbD _ _ _ i hi]
  case timeout =>
    intro s addr p b hp hb u h7
    have hlog := faultLogged_framed (u.dropPair addr.toNat) b 2 3 addr.toNat
    have hfault : u.framed _ [.regs, .pairs] [b.base + 0x3F8, b.base + 0x3F4] :=
      (withPairs_framed u (u.pairs.filter (fun p => p.addr != addr.toNat))).trans hlog
    have hlive : ((u.dropPair addr.toNat).faultLogged b 2 3 addr.toNat).live 7 = true := (hlog.header_live hb 7).trans h7
    rw [exec_shadowPairTimeout hp hb, shadowFail_eq]
    refine ⟨_, rfl, ?_, ?_, ?_, faultRaised_pends hlive (by decide), ?_, hfault.trans (faultRaised_framed ..)⟩
    · rw [(faultRaised_framed ..).1.pairs (by decide), hlog.1.pairs (by decide)]
      simp [State.dropPair]
    · rw [faultRaised_header hb rfl (.inr rfl), faultLogged_flag (by omega)]
    · rw [faultRaised_header hb rfl (.inl rfl), faultLogged_log (by omega)]
    · rw [faultRaised_reports, hfault.1.tmp (by decide), (State.advanceTo_same ..).tmp (by decide)]
  case mismatch =>
    intro s addr f b r x hd hl h7 hbelow hevt hx hlo h31
    have hb := regDescAt_block hd
    obtain ⟨ha0, ha1⟩ := shadowed_apart hd hx
    have hreset := fieldReset_framed s addr.toNat x
    have hlog := faultLogged_framed (s.fieldReset addr.toNat x) b 1 2 addr.toNat
    have hfault : s.framed _ [.regs] [addr.toNat, b.base + 0x3F8, b.base + 0x3F4] := hreset.trans hlog
    have hraised := faultRaised_framed ((s.fieldReset addr.toNat x).faultLogged b 1 2 addr.toNat) b 2 addr.toNat 114 11
    have hlive : ((s.fieldReset addr.toNat x).faultLogged b 1 2 addr.toNat).live 7 = true :=
      (hlog.header_live hb 7).trans ((hreset.live (by simp [ha0.symm]) (by simp [ha1.symm]) (d := 7)).trans h7)
    refine ⟨_, exec_shadowMismatch hd hl hx, fun i hi => ?_, ?_, faultRaised_pends hlive (by decide), ?_,
      hfault.trans hraised⟩
    · rw [hraised.2 _ (by simp [hevt]), hlog.2 _ (by simp; omega), fieldReset_getLsbD _ _ _ hlo i hi]
    · rw [faultRaised_header hb rfl (.inr rfl), faultLogged_flag (by omega)]
    · rw [faultRaised_reports, hfault.1.tmp (by decide)]

/-! ### The state after the power-on reset (R92, R479, R497, R498) -/

theorem reset_canonical : State.reset.canonical := by decide

theorem reset_powerStates : State.reset.regN R.PWR_STATE0 = 1 ∧ State.reset.regN R.PWR_STATE1 = 0 := by decide

/-- PD0 alone is ON: of the words of the domains' states, only the field of PD0 is not 0. -/
theorem reset_dom (d : Nat) : State.reset.dom d = if d = 0 then 1 else 0 := by
  obtain ⟨h0, h1⟩ := reset_powerStates
  rw [State.dom, h0, h1]
  rcases Nat.eq_zero_or_pos d with rfl | hd
  · rfl
  · have hlow : nbits 1 (2 * d + 1) (2 * d) = 0 := by
      rw [nbits, Nat.div_eq_of_lt (Nat.one_lt_two_pow (by omega)), Nat.zero_mod]
    have hhigh : nbits 0 (2 * (d - 16) + 1) (2 * (d - 16)) = 0 := by rw [nbits, Nat.zero_div, Nat.zero_mod]
    rw [hlow, hhigh, ite_self, if_neg (by omega)]

/-- Settles O2: the registers by their words, the rest as the reset state lists it; that SRAM and DRAM list nothing is the model's
choice (log entry 55). -/
theorem resetState : Obligations.ResetState := by
  unfold Obligations.ResetState
  refine ⟨rfl, reset_canonical, reset_dom 0, fun d _ hd => (reset_dom d).trans (if_neg (by omega)), rfl, rfl, rfl, ?_⟩
  decide

end Sys2Proof.Machine

/-! Calends (chapter 04): captures of the time-to-digital inputs. -/

namespace Sys2Proof.Machine

/-! ### An empty capture queue (R101) -/

/-- PD1 alone is on beside PD0, no capture waits, and the latch of TDC 0 holds 2³¹ ns: more than the 30 bits of NS can show, and
more than any capture puts there. -/
def wideLatch : State :=
  (State.reset.setReg R.PWR_STATE0 5).withCal { State.reset.cal with tdcLatch := [(0, { ns := 2 ^ 31 })] }

/-- The responder's own path reaches Calends there (R89). -/
theorem wideLatch_serves : wideLatch.serves 0xE0 1 := by decide

/-- The nanoseconds of the latch carry out of EMPTY: it reads 0 although the queue is empty. -/
theorem wideLatch_read : exec (.tdcRead 0xE0 0) wideLatch = .next (wideLatch.withAnswer { rid := 0xE0, data := 0 }) := by rfl

/-- Refutes O13: a read of an empty queue adds EMPTY to whatever nanoseconds the latch holds, and the clause on empty queues does not
bound them as the clause on a capture does; with 2³¹ ns in the latch, EMPTY reads 0. -/
theorem not_calendsCaptures : ¬ Obligations.CalendsCaptures := by
  rintro ⟨-, -, hempty, -⟩
  obtain ⟨t, hex, hbit, -⟩ := hempty wideLatch 0xE0 0 wideLatch_serves rfl
  rw [wideLatch_read] at hex
  obtain rfl := Host.Outcome.next.inj hex
  exact absurd hbit (by decide)

end Sys2Proof.Machine

/-! Calends (chapter 04): its sources and their selection, the reference clock, and the DPLL. -/

namespace Sys2Proof.Machine

-- Theorems one after another: a thread for each would take more memory than there is.
set_option Elab.async false

/-! ### Which registers an operation changes -/

/-- Of the registers, at most those of a list differ. -/
structure RegsKept (A : List Nat) (s t : State) : Prop where
  eq : ∀ a, a ∉ A → t.reg a = s.reg a

section
variable {A : List Nat} {s t u : State}

theorem RegsKept.refl (A : List Nat) (s : State) : RegsKept A s s := ⟨fun _ _ => rfl⟩

theorem RegsKept.trans (h : RegsKept A s t) (g : RegsKept A t u) : RegsKept A s u :=
  ⟨fun a ha => (g.eq a ha).trans (h.eq a ha)⟩

theorem RegsKept.mono {B : List Nat} (h : RegsKept A s t) (hs : A ⊆ B := by decide) : RegsKept B s t :=
  ⟨fun a ha => h.eq a (fun e => ha (hs e))⟩

theorem RegsKept.ite {c : Prop} [Decidable c] (ht : RegsKept A s t) (hu : RegsKept A s u) : RegsKept A s (if c then t else u) := by
  split <;> assumption

/-- A change of other parts of the state comes after. -/
theorem RegsKept.step {l : List Part} (g : Same l t u) (h : RegsKept A s t) (hr : Part.regs ∉ l := by decide) : RegsKept A s u :=
  ⟨fun a ha => by rw [State.reg, g.regs hr]; exact h.eq a ha⟩

theorem RegsKept.setReg (h : RegsKept A s t) {a : Nat} (w : Word) (ha : a ∈ A := by decide) : RegsKept A s (t.setReg a w) :=
  ⟨fun c hc => (reg_setReg_other _ _ _ _ (fun e : a = c => hc (e ▸ ha))).trans (h.eq c hc)⟩

theorem RegsKept.setFld (h : RegsKept A s t) {f : Fld} (v : Nat) (hf : f.addr ∈ A := by decide) : RegsKept A s (t.setFld f v) :=
  h.setReg _ hf

theorem RegsKept.raise (h : RegsKept A s t) {k : Nat} (hk : R.EVT_PEND (k / 32) ∈ A := by decide) : RegsKept A s (t.raise k) :=
  h.trans ⟨fun a ha => (raise_framed t k).2 a (fun e => ha (List.mem_singleton.1 e ▸ hk))⟩

theorem RegsKept.regN (h : RegsKept A s t) {a : Nat} (ha : a ∉ A := by decide) : t.regN a = s.regN a := congrArg BitVec.toNat (h.eq a ha)

theorem RegsKept.fld (h : RegsKept A s t) {f : Fld} (hf : f.addr ∉ A := by decide) : t.fld f = s.fld f := by
  rw [State.fld, h.regN hf, State.fld]

theorem RegsKept.flag (h : RegsKept A s t) {f : Fld} (hf : f.addr ∉ A := by decide) : t.flag f = s.flag f := by
  rw [State.flag, h.fld hf, State.flag]

/-- Domains are as available as they were when their states and the reset stand. -/
theorem RegsKept.live {l : List Part} (h : RegsKept A s t) (g : Same l s t) (d : Nat) (h0 : R.PWR_STATE0 ∉ A := by decide)
    (h1 : R.PWR_STATE1 ∉ A := by decide) (hr : Part.rst ∉ l := by decide) : t.live d = s.live d :=
  State.framed.live ⟨g, h.eq⟩ h0 h1 hr d

end

/-! ### Fields and events -/

/-- Two fields that share no bit. -/
abbrev Fld.apart (f g : Fld) : Prop := f.addr ≠ g.addr ∨ f.hi < g.lo ∨ g.hi < f.lo

theorem fld_setFld_apart (s : State) (f g : Fld) (v : Nat) (d : f.apart g) (h : f.lo ≤ f.hi := by decide)
    (g31 : g.hi < 32 := by decide) : (s.setFld f v).fld g = s.fld g := by
  by_cases ha : f.addr = g.addr
  · exact fld_setFld_disjoint s f g v ha h g31 (d.resolve_left (fun e => e ha))
  · exact fld_setFld_reg s f g v ha

theorem live_setFld (s : State) (f : Fld) (v d : Nat) (h0 : R.PWR_STATE0 ≠ f.addr := by decide)
    (h1 : R.PWR_STATE1 ≠ f.addr := by decide) : (s.setFld f v).live d = s.live d :=
  (framed_setFld s f v [.regs]).live (by simpa using h0) (by simpa using h1) (d := d)

/-- A field of no pending register stands when an event is raised. -/
theorem fld_raise (s : State) (k : Nat) (f : Fld) (h : f.addr ≠ R.EVT_PEND (k / 32)) : (s.raise k).fld f = s.fld f :=
  ((RegsKept.refl [R.EVT_PEND (k / 32)] s).raise (List.mem_singleton_self _)).fld (by simpa using h)

/-- Raising an event leaves every pending one pending. -/
theorem raise_keeps (s : State) (k j : Nat) (h : s.pends j = true) : (s.raise k).pends j = true := by
  by_cases hreg : j / 32 = k / 32
  · unfold State.pends State.raise
    rw [State.pends] at h
    split
    · rw [hreg, regN_setRegN_same]
      by_cases hbit : j % 32 = k % 32
      · rw [hbit, nbit_nput_one _ _ (by omega)]
      · rw [nbit_nput_other _ _ _ _ _ (by omega) (by omega) (by omega), ← hreg]
        split <;> exact h
    · exact h
  · have hne : R.EVT_PEND (j / 32) ∉ [R.EVT_PEND (k / 32)] := by simp only [R.EVT_PEND, List.mem_singleton]; omega
    rw [State.pends, (raise_framed s k).regN hne]
    exact h

/-! ### The steering element (R121, R127, R136) -/

/-- The registers through which a correction is realised. -/
def steerRegs : List Nat := [R.CAL_RATE, R.HLD_DAC_CODE 0, R.HLD_DAC_CODE 1, R.HLD_DAC_STAT 0, R.HLD_DAC_STAT 1]

theorem steerDac_cases (s : State) : s.steerDac = 0 ∨ s.steerDac = 1 := by
  have : s.steerDac < 2 := nbits_lt ..
  omega

theorem dacSteer_regs (s : State) {n : Nat} (hn : n = 0 ∨ n = 1) (num : Int) (den : Nat) :
    RegsKept steerRegs s (s.dacSteer n num den) := by
  unfold State.dacSteer
  split
  · split
    · exact .step (State.withHld_same ..) (.refl ..)
    · exact .refl ..
  · split
    · rcases hn with rfl | rfl <;> exact ((RegsKept.refl ..).setFld _).setFld _
    · exact .refl ..

theorem steerTo_regs (s : State) (num : Int) (den : Nat) : RegsKept steerRegs s (s.steerTo num den) := by
  have hnote : RegsKept steerRegs s s.yNote := .step (State.yNote_same s) (.refl ..)
  unfold State.steerTo
  exact .ite hnote (.ite (hnote.setReg _) (hnote.trans (dacSteer_regs _ (steerDac_cases _) num den)))

theorem modelApply_regs (s : State) : RegsKept steerRegs s s.modelApply := by
  unfold State.modelApply State.steerToFloat
  split
  · exact .ite (.ite (.refl ..) (steerTo_regs ..)) (.refl ..)
  · exact .refl ..

/-! ### What the DPLL and HLD leave of Calends -/

/-- The fields that say which sources are qualified. -/
def qualFlds : List Fld := (List.range 9).map R.CAL_SRC_STAT_QUALIFIED

/-- The same, which source is selected, and whether REFCLK is lost. -/
def selFlds : List Fld := [R.CAL_STAT_SEL, R.CAL_STAT_REF_LOST] ++ qualFlds

/-- The same and the state of the DPLL. -/
def dpllFlds : List Fld := R.CAL_STAT_DPLL :: selFlds

/-- The listed fields stand, Calends and its sources are as they were, and an event of the block that was pending still is. -/
structure Keeps (F : List Fld) (s t : State) : Prop where
  fld : ∀ f ∈ F, t.fld f = s.fld f
  time : t.cal.t = s.cal.t
  sources : t.cal.sources = s.cal.sources
  pends : ∀ k, k / 32 = 3 → s.pends k = true → t.pends k = true

section
variable {F : List Fld} {s t u : State}

theorem Keeps.refl (F : List Fld) (s : State) : Keeps F s s := ⟨fun _ _ => rfl, rfl, rfl, fun _ _ h => h⟩

theorem Keeps.trans (h : Keeps F s t) (g : Keeps F t u) : Keeps F s u :=
  ⟨fun f hf => (g.fld f hf).trans (h.fld f hf), g.time.trans h.time, g.sources.trans h.sources,
    fun k hk hs => g.pends k hk (h.pends k hk hs)⟩

theorem Keeps.mono {G : List Fld} (h : Keeps F s t) (hs : G ⊆ F := by decide) : Keeps G s t :=
  ⟨fun f hf => h.fld f (hs hf), h.time, h.sources, h.pends⟩

theorem Keeps.ite {c : Prop} [Decidable c] (ht : Keeps F s t) (hu : Keeps F s u) : Keeps F s (if c then t else u) := by
  split <;> assumption

/-- The loop filter's state changes. -/
theorem Keeps.withCal (h : Keeps F s t) {x : CalSt} (ht : x.t = t.cal.t := by rfl) (hs : x.sources = t.cal.sources := by rfl) :
    Keeps F s (t.withCal x) := h.trans ⟨fun _ _ => rfl, ht, hs, fun _ _ h => h⟩

/-- A change of another part of the state comes after. -/
theorem Keeps.step {l : List Part} (g : Same l t u) (h : Keeps F s t) (hr : Part.regs ∉ l := by decide)
    (hc : Part.cal ∉ l := by decide) : Keeps F s u :=
  h.trans ⟨fun f _ => fld_congr (g.regs hr) f, by rw [g.cal hc], by rw [g.cal hc], fun k _ hk => by
    rw [State.pends, State.regN, State.reg, g.regs hr]; exact hk⟩

theorem Keeps.setFld (h : Keeps F s t) {f : Fld} (v : Nat) (hF : ∀ g ∈ F, f.apart g ∧ g.hi < 32 := by decide)
    (hf : f.lo ≤ f.hi := by decide) (he : f.addr ≠ R.EVT_PEND 3 := by decide) : Keeps F s (t.setFld f v) :=
  h.trans ⟨fun g hg => fld_setFld_apart t f g v (hF g hg).1 hf (hF g hg).2, rfl, rfl, fun k hk hs => by
    rw [State.pends, hk, regN_setFld_other _ _ _ _ he, ← hk]; exact hs⟩

theorem Keeps.raise (h : Keeps F s t) {k : Nat} (hF : ∀ g ∈ F, g.addr ≠ R.EVT_PEND (k / 32) := by decide) : Keeps F s (t.raise k) :=
  have hcal : (t.raise k).cal = t.cal := (State.raise_same ..).cal (by decide)
  h.trans ⟨fun g hg => fld_raise t k g (hF g hg), by rw [hcal], by rw [hcal], fun j _ hj => raise_keeps t k j hj⟩

/-- An operation on other registers raises at most events. -/
theorem Keeps.of_regs {A : List Nat} {l : List Part} (h : RegsKept A s t) (g : Same l s t) (hF : ∀ f ∈ F, f.addr ∉ A := by decide)
    (he : R.EVT_PEND 3 ∉ A := by decide) (hc : Part.cal ∉ l := by decide) : Keeps F s t :=
  ⟨fun f hf => h.fld (hF f hf), by rw [g.cal hc], by rw [g.cal hc], fun k hk hs => by
    rw [State.pends, hk, h.regN he, ← hk]; exact hs⟩

end

/-! ### Entry to holdover and to Free-run (R122, R123, R126) -/

theorem steerTo_keeps (s : State) (num : Int) (den : Nat) : Keeps dpllFlds s (s.steerTo num den) :=
  .of_regs (steerTo_regs s num den) (State.steerTo_same s num den)

theorem modelApply_keeps (s : State) : Keeps dpllFlds s s.modelApply := .of_regs (modelApply_regs s) (State.modelApply_same s)

theorem setRegN_keeps (s : State) (a v : Nat) (hF : ∀ f ∈ dpllFlds, f.addr ≠ a := by decide) (ha : R.EVT_PEND 3 ≠ a := by decide) :
    Keeps dpllFlds s (s.setRegN a v) :=
  .of_regs (A := [a]) ((RegsKept.refl ..).setReg _ (List.mem_singleton_self _)) (State.setRegN_same ..) (by simpa using hF)
    (by simpa using ha)

theorem hldPersist_keeps (s : State) : Keeps dpllFlds s s.hldPersist := by
  unfold State.hldPersist
  exact .ite ((Keeps.refl ..).setFld _) (.step (State.nvsRequest_same ..) (.refl ..))

theorem enterHoldover_keeps (s : State) (fromFree : Bool) : Keeps dpllFlds s (s.enterHoldover fromFree) := by
  unfold State.enterHoldover
  refine .trans ?_ (modelApply_keeps _)
  refine .trans ?_ (hldPersist_keeps _)
  refine .raise (.setFld (.setFld (.trans (.trans (.step (State.withHld_same ..) ?_) (setRegN_keeps _ _ _)) (setRegN_keeps _ _ _)) _) _)
  exact .step (.ite2 (.refl ..) (State.anchorDelta_same ..)) (.refl ..)

theorem enterFreeRun_keeps (s : State) : Keeps dpllFlds s s.enterFreeRun := by
  have hset := ((Keeps.refl dpllFlds s).setFld (f := R.HLD_STAT_STATE) 0).setFld (f := R.HLD_STAT_ACQ) 0
  unfold State.enterFreeRun
  exact .ite hset hset.raise

theorem hldFree_keeps (s : State) : Keeps dpllFlds s s.hldFree := by
  unfold State.hldFree
  exact .ite (enterHoldover_keeps ..) ((Keeps.step (State.withHld_same ..) (.refl ..)).trans (enterFreeRun_keeps _))

theorem resumeHoldover_keeps (s : State) : Keeps dpllFlds s s.resumeHoldover := by
  unfold State.resumeHoldover
  exact (Keeps.step (State.withHld_same ..) ((Keeps.refl ..).setFld _).raise).trans (modelApply_keeps _)

/-! ### The DPLL changes its state (R118) -/

theorem dpllState_keeps (s : State) (new : Nat) : Keeps selFlds s (s.dpllState new) := by
  unfold State.dpllState
  exact ((Keeps.refl selFlds s).withCal.setFld _).setFld _ |>.raise

/-- The DPLL shows its new state. -/
theorem dpllState_dpll (s : State) (new : Nat) (h : new < 4) : (s.dpllState new).dpll = new := by
  unfold State.dpllState State.dpll
  rw [fld_raise _ _ _ (by decide), fld_setFld_apart _ _ _ _ (by decide), fld_setFld_same _ _ _ (by decide) (by decide)]
  exact Nat.mod_eq_of_lt h

/-- Its change raises E122. -/
theorem dpllState_pends (s : State) (new : Nat) (h7 : s.live 7 = true) : (s.dpllState new).pends 122 = true :=
  raise_pends ((live_setFld ..).trans ((live_setFld ..).trans h7)) (by decide)

theorem dpllAcquire_keeps (s : State) : Keeps selFlds s s.dpllAcquire := by
  unfold State.dpllAcquire
  exact (((Keeps.refl selFlds s).withCal.setFld _).setFld _).setFld _ |>.raise

theorem dpllEnter_keeps (s : State) (n : Nat) : Keeps selFlds s (s.dpllEnter n) := by
  unfold State.dpllEnter
  refine .withCal (.ite (dpllAcquire_keeps s) ?_)
  split
  · exact (dpllAcquire_keeps s).trans (steerTo_keeps ..).mono
  · exact dpllAcquire_keeps s

theorem dpllLoss_keeps (s : State) : Keeps selFlds s s.dpllLoss := by
  unfold State.dpllLoss
  split
  · exact (dpllState_keeps ..).trans (enterHoldover_keeps ..).mono
  · split
    · exact (dpllState_keeps ..).trans (resumeHoldover_keeps _).mono
    · exact (dpllState_keeps ..).trans (enterHoldover_keeps ..).mono
    · exact (dpllState_keeps ..).trans (hldFree_keeps _).mono
  · exact .refl ..

/-! ### The selection (R116) -/

/-- The new selection is shown: SELECTED of each source, SEL, E121. -/
def State.shown (s : State) (new : Option Nat) : State :=
  (((List.range 9).foldl (fun s n => s.setFlag (R.CAL_SRC_STAT_SELECTED n) (new == some n)) s).setFld R.CAL_STAT_SEL
    (new.getD 15)).raise 121

/-- Setting SELECTED of a source leaves QUALIFIED of every one. -/
theorem selected_keeps (s : State) (n : Nat) (b : Bool) : Keeps qualFlds s (s.setFlag (R.CAL_SRC_STAT_SELECTED n) b) := by
  refine (Keeps.refl ..).setFld _ (fun g hg => ?_) (le_refl 1) ?_
  · obtain ⟨m, -, rfl⟩ := List.mem_map.1 hg
    exact ⟨.inr (.inr Nat.zero_lt_one), Nat.zero_lt_succ 31⟩
  · simp only [R.CAL_SRC_STAT_SELECTED, R.CAL_SRC_STAT, R.EVT_PEND]
    omega

theorem selected_live (s : State) (n : Nat) (b : Bool) (d : Nat) : (s.setFlag (R.CAL_SRC_STAT_SELECTED n) b).live d = s.live d := by
  apply live_setFld <;> simp only [R.CAL_SRC_STAT_SELECTED, R.CAL_SRC_STAT, R.PWR_STATE0, R.PWR_STATE1] <;> omega

theorem selectedAll_spec (new : Option Nat) (l : List Nat) (s : State) :
    let t := l.foldl (fun s n => s.setFlag (R.CAL_SRC_STAT_SELECTED n) (new == some n)) s
    Keeps qualFlds s t ∧ ∀ d, t.live d = s.live d := by
  induction l generalizing s with
  | nil => exact ⟨.refl .., fun _ => rfl⟩
  | cons n l ih =>
    obtain ⟨hkeeps, hlive⟩ := ih (s.setFlag (R.CAL_SRC_STAT_SELECTED n) (new == some n))
    exact ⟨(selected_keeps ..).trans hkeeps, fun d => (hlive d).trans (selected_live ..)⟩

theorem shown_keeps (s : State) (new : Option Nat) : Keeps qualFlds s (s.shown new) :=
  (selectedAll_spec ..).1.setFld _ |>.raise

theorem shown_sel (s : State) (new : Option Nat) : (s.shown new).fld R.CAL_STAT_SEL = new.getD 15 % 16 :=
  (fld_raise _ _ _ (by decide)).trans (fld_setFld_same _ _ _ (by decide) (by decide))

theorem shown_pends (s : State) (new : Option Nat) (h7 : s.live 7 = true) : (s.shown new).pends 121 = true :=
  raise_pends ((live_setFld ..).trans (((selectedAll_spec ..).2 7).trans h7)) (by decide)

/-- Once the selection is shown, the DPLL follows it. -/
theorem calSelect_follows (s : State) (new : Option Nat) : Keeps selFlds (s.shown new) (s.calSelect new) := by
  cases new with
  | none => exact dpllLoss_keeps (s.shown none)
  | some n =>
    have he : s.calSelect (some n) =
        match (s.shown (some n)).dpll with
        | 0 => if (s.shown (some n)).flag R.CAL_STAT_REF_LOST then s.shown (some n) else (s.shown (some n)).dpllEnter n
        | 3 => if (s.shown (some n)).flag R.CAL_STAT_REF_LOST then s.shown (some n) else (s.shown (some n)).dpllEnter n
        | 1 => (s.shown (some n)).withCal { (s.shown (some n)).cal with lockRun := 0 }
        | _ => (s.shown (some n)).setFlag R.CAL_STAT_PHASE_TRACE (srcPhase n) := rfl
    rw [he]
    split
    · exact .ite (.refl ..) (dpllEnter_keeps ..)
    · exact .ite (.refl ..) (dpllEnter_keeps ..)
    · exact (Keeps.refl ..).withCal
    · exact (Keeps.refl ..).setFld _

theorem bestSrc_mem (s : State) (l : List Nat) (n : Nat) (h : s.bestSrc l = some n) : n ∈ l := by
  induction l generalizing n with
  | nil => cases h
  | cons a r ih =>
    unfold State.bestSrc at h
    cases hr : s.bestSrc r with
    | none => simp_all
    | some m =>
      rw [hr] at h
      have hm := ih m hr
      simp only [Option.some.injEq] at h
      split at h
      · exact h ▸ List.mem_cons_self
      · exact h ▸ List.mem_cons_of_mem _ hm

theorem qualified_lt {s : State} {n : Nat} (h : s.qualified n = true) : n < 9 := by
  simp only [State.qualified, Bool.and_eq_true, decide_eq_true_eq] at h
  exact h.1

/-- Only a source there is gets selected. -/
theorem calChoice_lt (s : State) (n : Nat) (h : s.calChoice = some n) : n < 9 := by
  unfold State.calChoice at h
  dsimp only at h
  split at h
  · split at h
    · next hq => exact Option.some.inj h ▸ qualified_lt hq
    · cases h
  · split at h
    · next hq => exact Option.some.inj h ▸ qualified_lt (Bool.and_eq_true_iff.1 hq).1
    · exact List.mem_range.1 (List.mem_filter.1 (bestSrc_mem s _ n h)).1

theorem calReselect_eq (s : State) : s.calReselect =
    if s.calChoice.getD 15 = s.fld R.CAL_STAT_SEL then s else s.calSelect s.calChoice := rfl

/-- SEL shows what R116 chooses now, 15 for none. -/
theorem calReselect_sel (s : State) : s.calReselect.fld R.CAL_STAT_SEL = s.calChoice.getD 15 := by
  rw [calReselect_eq]
  split
  · next h => exact h.symm
  · have hlt : s.calChoice.getD 15 < 16 := by
      cases hc : s.calChoice with
      | none => decide
      | some n => exact Nat.lt_trans (calChoice_lt s n hc) (by decide)
    rw [(calSelect_follows ..).fld _ (by decide), shown_sel, Nat.mod_eq_of_lt hlt]

/-- A new selection raises E121. -/
theorem calReselect_pends (s : State) (h : s.calChoice.getD 15 ≠ s.fld R.CAL_STAT_SEL) (h7 : s.live 7 = true) :
    s.calReselect.pends 121 = true := by
  rw [calReselect_eq, if_neg h]
  exact (calSelect_follows ..).pends 121 rfl (shown_pends s _ h7)

theorem calReselect_keeps (s : State) : Keeps qualFlds s s.calReselect := by
  rw [calReselect_eq]
  exact .ite (.refl ..) ((shown_keeps ..).trans (calSelect_follows ..).mono)

/-! ### Sources (R114, R115) -/

theorem src_modSrc_same (s : State) (n : Nat) (f : SrcSt → SrcSt) : (s.modSrc n f).src n = f (s.src n) := tget_tput_same ..

theorem src_congr {s t : State} (h : t.cal.sources = s.cal.sources) (n : Nat) : t.src n = s.src n := by
  rw [State.src, h, State.src]

/-- QUALIFIED of a source changes, with E120. -/
def State.sourceSays (s : State) (n v : Nat) : State := (s.setFld (R.CAL_SRC_STAT_QUALIFIED n) v).raise 120

section
variable (s : State) (n v : Nat)

theorem sourceSays_pends (h7 : s.live 7 = true) : (s.sourceSays n v).pends 120 = true := by
  refine raise_pends ((live_setFld _ _ _ _ ?_ ?_).trans h7) (by decide) <;>
    simp only [R.CAL_SRC_STAT_QUALIFIED, R.CAL_SRC_STAT, R.PWR_STATE0, R.PWR_STATE1] <;> omega

theorem sourceSays_cal : (s.sourceSays n v).cal = s.cal := (State.raise_same ..).cal (by decide)

theorem sourceSays_qualified (m : Nat) :
    (s.sourceSays n v).qualified m = if m = n then decide (n < 9) && v % 2 != 0 else s.qualified m := by
  have hraise : (s.sourceSays n v).fld (R.CAL_SRC_STAT_QUALIFIED m) =
      (s.setFld (R.CAL_SRC_STAT_QUALIFIED n) v).fld (R.CAL_SRC_STAT_QUALIFIED m) := by
    refine fld_raise _ _ _ ?_
    simp only [R.CAL_SRC_STAT_QUALIFIED, R.CAL_SRC_STAT, R.EVT_PEND]
    omega
  rw [State.qualified, State.flag, hraise]
  split
  · next h =>
    rw [h, fld_setFld_same _ _ _ (le_refl 0) (Nat.zero_lt_succ 31)]
    rfl
  · next h =>
    rw [fld_setFld_reg]
    · rfl
    · simp only [R.CAL_SRC_STAT_QUALIFIED, R.CAL_SRC_STAT]
      omega

end

/-- What is qualified stays so when the selection follows. -/
theorem Keeps.qualified {s t : State} (h : Keeps qualFlds s t) (n : Fin 9) : t.qualified n.val = s.qualified n.val := by
  have hmem : R.CAL_SRC_STAT_QUALIFIED n.val ∈ qualFlds := List.mem_map_of_mem (List.mem_range.2 n.isLt)
  rw [State.qualified, State.flag, h.fld _ hmem, State.qualified, State.flag]

/-- A source whose QUALIFIED has changed, once the selection has followed. -/
theorem sourceSays_reselect {s w : State} (n : Fin 9) (v : Nat) (hw : Same [.hld] (s.sourceSays n.val v) w)
    (h7 : s.live 7 = true) :
    let t := w.calReselect
    t.qualified n.val = (v % 2 != 0) ∧ t.src n.val = s.src n.val ∧ t.pends 120 = true ∧
      ∀ m : Fin 9, m ≠ n → t.qualified m.val = s.qualified m.val := by
  have hkeeps := (Keeps.step hw (.refl qualFlds _)).trans (calReselect_keeps w)
  refine ⟨?_, src_congr (hkeeps.sources.trans (by rw [sourceSays_cal])) _, hkeeps.pends 120 rfl (sourceSays_pends _ _ _ h7),
    fun m hm => ?_⟩
  · rw [hkeeps.qualified, sourceSays_qualified, if_pos rfl, decide_eq_true n.isLt, Bool.true_and]
  · rw [hkeeps.qualified, sourceSays_qualified, if_neg (fun e => hm (Fin.ext e))]

theorem exec_sourceQualified {s : State} {n : Fin 9} {g : Nat} (h1 : s.live 1 = true) (he : s.srcEnabled n.val = true)
    (hq : s.qualified n.val = false) (hg : (s.src n.val).goodFrom = some g)
    (hdue : g + max 1 (min 600 (s.fld (R.CAL_SRC_CFG_QUAL n.val))) * 1000000000 ≤ (s.src n.val).lastAt) :
    exec (.sourceQualified n) s =
      .next ((s.modSrc n.val (fun o => { o with qualifiedAt := some s.now })).sourceSays n.val 1).calReselect := by
  change execSourceQualified n s = _
  simp only [execSourceQualified, hg, h1, he, hq, hdue]
  rfl

/-- What a source loses when it is disqualified. -/
def SrcSt.forgotten (o : SrcSt) : SrcSt := { o with goodFrom := none, periods := 0, periodSum := 0, badRun := 0, qualifiedAt := none }

/-- A source is disqualified: the learner takes note when it was the selected one, and the selection follows. -/
theorem srcDisqualify_cases (s : State) (n : Nat) :
    let u := (s.modSrc n SrcSt.forgotten).sourceSays n 0
    ∃ v, Same [.hld] u v ∧ s.srcDisqualify n = v.calReselect := by
  intro u
  have he : s.srcDisqualify n =
      (if u.fld R.CAL_STAT_SEL = n then u.withHld { u.hld with missed := true } else u).calReselect := rfl
  exact ⟨_, .ite (State.withHld_same ..) (.refl ..), he⟩

theorem exec_sourceDisqualified {s : State} {n : Fin 9} (h1 : s.live 1 = true) (hq : s.qualified n.val = true) :
    let due := (s.src n.val).lastAt + max 1 (s.fld (R.CAL_SRC_CFG_MISS n.val)) * srcNominal n.val
    exec (.sourceDisqualified n) s =
      .next ((if max 1 (s.fld (R.CAL_SRC_CFG_MISS n.val)) ≤ (s.src n.val).badRun then s else s.advanceTo due).srcDisqualify
        n.val) := by
  change execSourceDisqualified n s = _
  simp only [execSourceDisqualified, h1, hq]
  rfl

theorem exec_waitToRestoreExpiry {s : State} {n : Fin 9} {q : Nat} (h1 : s.live 1 = true) (hq : s.qualified n.val = true)
    (hat : (s.src n.val).qualifiedAt = some q) :
    exec (.waitToRestoreExpiry n) s = .next (s.advanceTo (q + s.fld R.CAL_DPLL2_WTR * 1000000000)).calReselect := by
  change execWaitToRestoreExpiry n s = _
  simp only [execWaitToRestoreExpiry, h1, hq, hat, Bool.and_self]

/-! ### The reference clock (R96) -/

/-- REFCLK is lost: what the DPLL then does. -/
def State.refLost (s : State) : State :=
  let u := s.setFld R.CAL_STAT_REF_LOST 1
  if s.dpll = 2 then (u.dpllState 3).enterHoldover false else if s.dpll = 0 then u.raise 122 else (u.dpllState 0).hldFree

theorem exec_refclkLost {s : State} (h1 : s.live 1 = true) (hf : s.flag R.CAL_STAT_REF_LOST = false) :
    exec .refclkLost s = .next s.refLost := by
  have hd : (s.setFld R.CAL_STAT_REF_LOST 1).dpll = s.dpll := fld_setFld_apart _ _ _ _ (by decide)
  change execRefclkLost s = _
  simp only [execRefclkLost, h1, hf, hd]
  rfl

/-- The DPLL has gone to HOLDOVER from LOCKED and to FREE otherwise, with E122; REF_LOST and the time stand. -/
theorem refLost_spec (s : State) (h7 : s.live 7 = true) :
    s.refLost.dpll = (if s.dpll = 2 then 3 else 0) ∧ s.refLost.pends 122 = true ∧
      Keeps selFlds (s.setFld R.CAL_STAT_REF_LOST 1) s.refLost := by
  have h7' : (s.setFld R.CAL_STAT_REF_LOST 1).live 7 = true := (live_setFld ..).trans h7
  unfold State.refLost
  dsimp only
  generalize hu : s.setFld R.CAL_STAT_REF_LOST 1 = u at *
  split
  · have hkeeps := enterHoldover_keeps (u.dpllState 3) false
    exact ⟨(hkeeps.fld _ (by decide)).trans (dpllState_dpll u 3 (by decide)), hkeeps.pends 122 rfl (dpllState_pends u 3 h7'),
      (dpllState_keeps u 3).trans hkeeps.mono⟩
  · split
    · next h0 =>
      have hd : u.dpll = 0 := by rw [← hu]; exact (fld_setFld_apart _ _ _ _ (by decide)).trans h0
      exact ⟨(fld_raise _ _ _ (by decide)).trans hd, raise_pends h7' (by decide), (Keeps.refl ..).raise⟩
    · have hkeeps := hldFree_keeps (u.dpllState 0)
      exact ⟨(hkeeps.fld _ (by decide)).trans (dpllState_dpll u 0 (by decide)), hkeeps.pends 122 rfl (dpllState_pends u 0 h7'),
        (dpllState_keeps u 0).trans hkeeps.mono⟩

@[simp] theorem advance_now (s : State) (d : Nat) : (s.advance d).now = s.now + d := by
  unfold State.advance
  dsimp only
  split
  · exact (State.calRun_same ..).now (by decide)
  · rfl

/-- REFCLK has run for 10 ms and the nanoseconds of Calends have rolled over since. -/
def State.refBack (s : State) : State :=
  let u := s.advance 10000000
  u.advance (u.nsUntil ((u.cal.t / calSecond + 1) * calSecond))

theorem exec_refclkReturn {s : State} (h1 : s.live 1 = true) (hf : s.flag R.CAL_STAT_REF_LOST = true) :
    exec .refclkReturn s = .next (s.refBack.setFld R.CAL_STAT_REF_LOST 0) := by
  change execRefclkReturn s = _
  simp only [execRefclkReturn, h1, hf]
  rfl

/-! ### An update of a source (R114) -/

/-- CAL_PHERR shows the phase error of an update of the selected source, or of any source while none is selected. -/
def State.phaseShown (s : State) (n : Nat) (err : Int) : State :=
  if srcPhase n && (s.fld R.CAL_STAT_SEL = n || s.fld R.CAL_STAT_SEL = 15) then
    s.setRegN R.CAL_PHERR (unsgn 32 (clampI (-(2 ^ 31)) (2 ^ 31 - 1) err))
  else s

theorem phaseShown_regs (s : State) (n : Nat) (err : Int) : RegsKept [R.CAL_PHERR] s (s.phaseShown n err) := by
  unfold State.phaseShown
  exact .ite ((RegsKept.refl ..).setReg _) (.refl ..)

/-- An update of an enabled source keeps its time and its error. -/
theorem srcUpdate_cases (s : State) (n stamp : Nat) (err : Int) (he : s.srcEnabled n = true) :
    ∃ o : SrcSt, o.last = some stamp ∧ o.err = err ∧ o.lastAt = s.now ∧
      Same [.hld] ((s.phaseShown n err).modSrc n (fun _ => o)) (s.srcUpdate n stamp err) := by
  have hnow : (s.phaseShown n err).now = s.now := by unfold State.phaseShown; split <;> rfl
  unfold State.srcUpdate
  simp only [he, Bool.not_true]
  rw [if_neg (by decide)]
  cases (s.src n).last with
  | none => exact ⟨_, rfl, rfl, hnow, .refl ..⟩
  | some l =>
    change ∃ o : SrcSt, _ ∧ _ ∧ _ ∧ Same [.hld] _ (if (s.phaseShown n err).periodGood n (stamp - l) then _ else _)
    split
    · exact ⟨_, rfl, rfl, hnow, .refl ..⟩
    · exact ⟨_, rfl, rfl, hnow, .ite (State.withHld_same ..) (.refl ..)⟩

theorem srcUpdate_src (s : State) (n stamp : Nat) (err : Int) (he : s.srcEnabled n = true) :
    ((s.srcUpdate n stamp err).src n).last = some stamp ∧ ((s.srcUpdate n stamp err).src n).err = err ∧
      ((s.srcUpdate n stamp err).src n).lastAt = s.now := by
  obtain ⟨o, hlast, herr, hat, hsame⟩ := srcUpdate_cases s n stamp err he
  have hsrc : (s.srcUpdate n stamp err).src n = o :=
    (src_congr (by rw [hsame.cal (by decide)]) n).trans
      (src_modSrc_same (s.phaseShown n err) n (fun _ => o))
  exact ⟨hsrc ▸ hlast, hsrc ▸ herr, hsrc ▸ hat⟩

/-- CAL_PHERR shows the phase error; no other register changes. -/
theorem srcUpdate_shows (s : State) (n stamp : Nat) (err : Int) (he : s.srcEnabled n = true) (a : Nat) :
    (s.srcUpdate n stamp err).reg a = (s.phaseShown n err).reg a := by
  obtain ⟨o, -, -, -, hsame⟩ := srcUpdate_cases s n stamp err he
  rw [State.reg, hsame.regs (by decide)]
  rfl

/-- A word that is read as a signed number and shown again is the same word. -/
theorem unsgn_sgn (w : Word) : unsgn 32 (clampI (-(2 ^ 31)) (2 ^ 31 - 1) (sgn 32 w.toNat)) = w.toNat := by
  have := w.isLt
  unfold unsgn clampI sgn
  split <;> split <;> (try split) <;> omega

/-- CAL_PHERR takes the word whose number is the phase error. -/
theorem phaseShown_word (s : State) (n : Nat) (w : Word) (hn : srcPhase n = true)
    (hsel : s.fld R.CAL_STAT_SEL = n ∨ s.fld R.CAL_STAT_SEL = 15) : (s.phaseShown n (sgn 32 w.toNat)).reg R.CAL_PHERR = w := by
  have hc : (srcPhase n && (s.fld R.CAL_STAT_SEL = n || s.fld R.CAL_STAT_SEL = 15)) = true := by simpa [hn] using hsel
  rw [State.phaseShown, if_pos hc, State.setRegN, reg_setReg_same, unsgn_sgn, BitVec.ofNat_toNat, BitVec.setWidth_eq]

/-- The block of Calends' registers. -/
def calBlock : BlockDesc := ⟨"CAL", 0x41000000, 0x1000, 0x20, 1, false, regsCal⟩

/-- The register CAL_PTPOFS. -/
def ptpofsReg : RegDesc := ⟨"CAL_PTPOFS", 0x50, 1, 0, [⟨"OFS", 31, 0, .wo, 0⟩]⟩

/-- A write of CAL_PTPOFS stores the word and is an update of S8 (R114). -/
theorem exec_s8Update (s : State) (rid : Rid) (data : Word) (h : s.serves rid 1) :
    ∃ w, exec (.s8Update rid data) s = .next (((s.withAnswer { rid := rid }).setReg R.CAL_PTPOFS w).s8 data) := by
  obtain ⟨ho, hp⟩ := h
  have hex := write_own (a := R.CAL_PTPOFS) (data := data) (b := calBlock) (r := ptpofsReg) ho (by decide) rfl (by decide) rfl hp
    rfl (by decide) (.inr (by decide)) rfl
  rw [stored_plain (by decide), settleDma_none _ (by
    refine (congrArg (fun x : IcSt => x.dma.any _) ?_).trans ho.2.2
    exact (State.s8_same (((s.withAnswer { rid := rid }).setReg R.CAL_PTPOFS _)) data).ic (by decide))] at hex
  exact ⟨_, congrArg Host.Outcome.next hex⟩

/-- Settles O12: the DPLL and HLD leave the sources and the selection, and the selection leaves what is qualified, so that each
command's own change stands. -/
theorem calendsSources : Obligations.CalendsSources := by
  unfold Obligations.CalendsSources
  refine ⟨?lost, ?back, ?qualified, ?disqualified, ?restored, ?s8⟩
  case lost =>
    intro s h1 h7 hf
    obtain ⟨hdpll, hpend, hkeeps⟩ := refLost_spec s h7
    have hex := exec_refclkLost h1 hf
    refine ⟨_, hex, ?_, hdpll, hpend, hkeeps.time, (execRefclkLost_same s).of_next hex⟩
    rw [State.flag, hkeeps.fld _ (by decide)]
    exact flag_setFld_one s R.CAL_STAT_REF_LOST rfl (by decide)
  case back =>
    intro s h1 hf
    have hex := exec_refclkReturn h1 hf
    refine ⟨_, hex, flag_setFld_zero _ _ (by decide) (by decide), ?_, (execRefclkReturn_same s).of_next hex⟩
    change _ ≤ s.refBack.now
    rw [State.refBack, advance_now, advance_now]
    omega
  case qualified =>
    intro s n g h1 h7 he hq hg hdue
    have hex := exec_sourceQualified h1 he hq hg hdue
    obtain ⟨hqual, hsrc, hpend, hother⟩ := sourceSays_reselect (s := s.modSrc n.val _) n 1 (.refl ..) h7
    refine ⟨_, hex, hqual, ?_, hpend, hother, (execSourceQualified_same n s).of_next hex⟩
    rw [hsrc, src_modSrc_same]
  case disqualified =>
    intro s n h1 hq due u h7
    have hex : exec (.sourceDisqualified n) s = .next (u.srcDisqualify n.val) := exec_sourceDisqualified h1 hq
    obtain ⟨v, hv, hre⟩ := srcDisqualify_cases u n.val
    obtain ⟨hqual, hsrc, hpend, hother⟩ := sourceSays_reselect n 0 hv h7
    refine ⟨_, hex, ?_, ?_, ?_, ?_, State.srcDisqualify_same ..⟩ <;> rw [hre]
    · exact hqual
    · rw [hsrc, src_modSrc_same]
      rfl
    · exact hpend
    · exact hother
  case restored =>
    intro s n q h1 hq hat u
    exact ⟨_, exec_waitToRestoreExpiry h1 hq hat, calReselect_sel u, fun hne h7 => calReselect_pends u hne h7,
      State.calReselect_same u⟩
  case s8 =>
    intro s rid data h he
    obtain ⟨w, hex⟩ := exec_s8Update s rid data h
    have hwrite := answered_setReg_framed s { rid := rid } R.CAL_PTPOFS w
    have he' : ((s.withAnswer { rid := rid }).setReg R.CAL_PTPOFS w).srcEnabled 8 = true :=
      ((RegsKept.mk hwrite.2).flag (by decide)).trans he
    have hshow := srcUpdate_shows _ 8 (s.cal.t / 2 ^ 32) (sgn 32 data.toNat) he'
    obtain ⟨hlast, herr, hat⟩ := srcUpdate_src _ 8 (s.cal.t / 2 ^ 32) (sgn 32 data.toNat) he'
    refine ⟨_, hex, hlast, herr, hat, fun hsel => ?_, hwrite.trans (B := [R.CAL_PHERR]) ⟨State.s8_same .., fun a ha => ?_⟩⟩
    · refine (hshow _).trans (phaseShown_word _ 8 data rfl ?_)
      rw [(RegsKept.mk hwrite.2).fld (by decide)]
      exact hsel
    · exact (hshow a).trans ((phaseShown_regs ..).eq a ha)


/-! ### Free values -/

/-- A free value of a range lies in it. -/
theorem drawIn_bounds (s : State) (lo hi : Int) (h : lo ≤ hi) : lo ≤ (s.drawIn lo hi).1 ∧ (s.drawIn lo hi).1 ≤ hi := by
  have hlt : Config.freeNat s.free % (hi - lo + 1).toNat < (hi - lo + 1).toNat := Nat.mod_lt _ (by omega)
  change lo ≤ lo + ((Config.freeNat s.free % (hi - lo + 1).toNat : Nat) : Int) ∧
    lo + ((Config.freeNat s.free % (hi - lo + 1).toNat : Nat) : Int) ≤ hi
  omega

/-! ### Updates of the DPLL (R118, R120, R121) -/

/-- In LOCKED the DPLL realises what its loop filter gives, and keeps it as the preset of its next acquisition. -/
def State.lockedSteered (s : State) (v : Int) : State :=
  let u := s.withFree (s.free + 1)
  (u.steerTo v 1).withCal { u.cal with preset := 33 * v }

/-- In ACQUIRE the DPLL realises what its loop filter gives, within PSL of the preset. -/
def State.acquireSteered (s : State) : State :=
  let psl : Int := max 10 (min 10000 (s.fld R.CAL_DPLL_PSL))
  let lim := psl * (33 * 2 ^ 48) / 1000000000
  let got := s.drawIn (s.cal.preset - lim) (s.cal.preset + lim)
  got.2.steerTo got.1 33

/-- It then counts the update when its source is in the lock window, from none again when it is not. -/
def State.acquireCounted (s : State) : State :=
  let u := s.acquireSteered
  u.withCal { u.cal with lockRun := if u.inWindow s.lockSource then u.cal.lockRun + 1 else 0 }

section
variable {s : State} (h1 : s.live 1 = true) (hq : s.qualified (s.fld R.CAL_STAT_SEL) = true)
  (hf : s.flag R.CAL_STAT_REF_LOST = false)
include h1 hq hf

theorem exec_dpllUpdate_locked (hd : s.dpll = 2) :
    exec .dpllUpdate s = .next (s.lockedSteered (s.drawIn (-(2 ^ 31)) (2 ^ 31 - 1)).1) := by
  change execDpllUpdate s = _
  simp only [execDpllUpdate, h1, hq, hf, hd]
  rfl

theorem exec_dpllUpdate_acquire (hd : s.dpll = 1) :
    exec .dpllUpdate s = .next (if 16 ≤ s.acquireCounted.cal.lockRun then s.acquireCounted.dpllLock s.lockSource
      else s.acquireCounted) := by
  change execDpllUpdate s = _
  simp only [execDpllUpdate, h1, hq, hf, hd]
  rfl

theorem exec_dpllUpdate_enter (hd : s.dpll = 0 ∨ s.dpll = 3) :
    exec .dpllUpdate s = .next (s.dpllEnter (s.fld R.CAL_STAT_SEL)) := by
  change execDpllUpdate s = _
  rcases hd with hd | hd <;> simp only [execDpllUpdate, h1, hq, hf, hd] <;> rfl

end

theorem lockedSteered_regs (s : State) (v : Int) : RegsKept steerRegs s (s.lockedSteered v) :=
  .step (State.withCal_same ..) (.trans (.step (State.withFree_same ..) (.refl ..)) (steerTo_regs ..))

theorem lockedSteered_same (s : State) (v : Int) : Same [.free, .regs, .cal, .hld] s (s.lockedSteered v) :=
  .step (State.withCal_same ..) (.step (State.steerTo_same ..) (.step (State.withFree_same ..) (.refl ..)))

theorem lockedSteered_free (s : State) (v : Int) : (s.lockedSteered v).free = s.free + 1 :=
  (State.steerTo_same (s.withFree (s.free + 1)) v 1).free (by decide)

theorem acquireSteered_regs (s : State) : RegsKept steerRegs s s.acquireSteered :=
  .trans (.step (State.drawIn_same ..) (.refl ..)) (steerTo_regs ..)

theorem acquireSteered_cal (s : State) : s.acquireSteered.cal = s.cal := (State.steerTo_same ..).cal (by decide)

/-- Steering leaves the error of a source and its window. -/
theorem acquireSteered_inWindow (s : State) (n : Nat) : s.acquireSteered.inWindow n = s.inWindow n := by
  have hsrc : s.acquireSteered.src n = s.src n := src_congr (by rw [acquireSteered_cal]) n
  have hwin : s.acquireSteered.fld R.CAL_DPLL2_LWIN = s.fld R.CAL_DPLL2_LWIN := (acquireSteered_regs s).fld
  rw [State.inWindow, hsrc, hwin, State.inWindow]

theorem acquireCounted_run (s : State) :
    s.acquireCounted.cal.lockRun = if s.inWindow s.lockSource then s.cal.lockRun + 1 else 0 := by
  rw [State.acquireCounted, State.withCal_cal, acquireSteered_inWindow, acquireSteered_cal]

theorem acquireCounted_dpll (s : State) : s.acquireCounted.dpll = s.dpll := (acquireSteered_regs s).fld

/-- The DPLL locks, and HLD follows it (R118, R122). -/
theorem dpllLock_spec (s : State) (n : Nat) : (s.dpllLock n).dpll = 2 ∧ (s.dpllLock n).fld R.HLD_STAT_STATE = 1 := by
  let u := (s.dpllState 2).setFlag R.CAL_STAT_PHASE_TRACE (srcPhase n)
  let v := u.withCal { u.cal with lockedAt := u.now, preset := u.yNow }
  let w := v.withHld { v.hld with steer := none, fromFree := false }
  let x := (w.setFld R.HLD_STAT_STATE 1).setFld R.HLD_STAT_ACQ 0
  have he : s.dpllLock n = if w.fld R.HLD_STAT_STATE = 1 then x else x.raise 129 := rfl
  have hx : Keeps [R.CAL_STAT_DPLL] (s.dpllState 2) x :=
    .setFld (.setFld (.step (State.withHld_same ..) (.withCal (.setFld (.refl ..) _))) _) _
  have hstate : x.fld R.HLD_STAT_STATE = 1 :=
    (fld_setFld_apart _ _ _ _ (by decide)).trans (fld_setFld_same _ _ _ (by decide) (by decide))
  have hdpll : x.dpll = 2 := (hx.fld _ (by decide)).trans (dpllState_dpll s 2 (by decide))
  rw [he]
  split
  · exact ⟨hdpll, hstate⟩
  · exact ⟨(fld_raise _ _ _ (by decide)).trans hdpll, (fld_raise _ _ _ (by decide)).trans hstate⟩

/-- The DPLL shows ACQUIRE, HLD shows ACQ, and E122 is raised (R118, R122). -/
theorem dpllAcquire_spec (s : State) : s.dpllAcquire.dpll = 1 ∧ s.dpllAcquire.cal.acqFrom = s.dpll ∧
    s.dpllAcquire.flag R.HLD_STAT_ACQ = true ∧ (s.live 7 = true → s.dpllAcquire.pends 122 = true) := by
  let u := s.withCal { s.cal with acqFrom := s.dpll, lockRun := 0 }
  let v := (u.setFld R.CAL_STAT_DPLL 1).setFld R.CAL_STAT_PHASE_TRACE 0
  have he : s.dpllAcquire = (v.setFld R.HLD_STAT_ACQ 1).raise 122 := rfl
  refine ⟨?_, (congrArg CalSt.acqFrom ((State.raise_same ..).cal (by decide))), ?_, fun h7 => ?_⟩
  · rw [he, State.dpll, fld_raise _ _ _ (by decide), fld_setFld_apart _ _ _ _ (by decide), fld_setFld_apart _ _ _ _ (by decide)]
    exact fld_setFld_same _ _ _ (by decide) (by decide)
  · rw [he, State.flag, fld_raise _ _ _ (by decide)]
    exact flag_setFld_one v R.HLD_STAT_ACQ rfl (by decide)
  · exact raise_pends ((live_setFld ..).trans ((live_setFld ..).trans ((live_setFld ..).trans h7))) (by decide)

/-- After it has entered ACQUIRE the DPLL at most steers, and keeps what its loop filter starts from. -/
theorem dpllEnter_acquires (s : State) (n : Nat) :
    RegsKept steerRegs s.dpllAcquire (s.dpllEnter n) ∧ (s.dpllEnter n).cal.acqFrom = s.dpllAcquire.cal.acqFrom := by
  have hsteer : ∀ f, RegsKept steerRegs s.dpllAcquire (s.dpllAcquire.steerTo f 33) ∧
      (s.dpllAcquire.steerTo f 33).cal = s.dpllAcquire.cal :=
    fun f => ⟨steerTo_regs .., (State.steerTo_same ..).cal (by decide)⟩
  unfold State.dpllEnter
  dsimp only
  split
  · exact ⟨.step (State.withCal_same ..) (.refl ..), rfl⟩
  · split
    · exact ⟨.step (State.withCal_same ..) (hsteer _).1, (congrArg CalSt.acqFrom (hsteer _).2 :)⟩
    · exact ⟨.step (State.withCal_same ..) (.refl ..), rfl⟩

/-! ### Counters (R84) -/

/-- A count changes the counter, its overflow flag and the dictionary alone. -/
theorem count_regs (s : State) (c : Ctr) : RegsKept c.regs s (s.count c) := by
  have hdict : RegsKept c.regs s (s.countDict c.addr 0 1) := .step (State.countDict_same ..) (.refl ..)
  have haddr : c.addr ∈ c.regs := List.mem_cons_self
  unfold State.count State.countN
  refine .ite (hdict.setReg _ haddr) (.ite (hdict.setReg _ haddr) ?_)
  split
  · next f hf => exact (hdict.setReg _ haddr).setFld _ (by simp [Ctr.regs, hf])
  · exact hdict.setReg _ haddr

/-! ### A step of Calends and the matrix (R172, R228) -/

/-- The registers that a cancelled commit changes, with those of the converters it releases. -/
def cancelRegs : List Nat := [R.MTX_COMMIT_STAT, R.EVT_PEND 1] ++ C.SRC_FORCED.regs

theorem convAct_regs (s : State) (k kind : Nat) : RegsKept cancelRegs s (s.convAct k kind) := by
  have hmod : ∀ f, RegsKept cancelRegs s (s.modConv k f) := fun f => .step (State.modConv_same ..) (.refl ..)
  unfold State.convAct State.convForce
  exact .ite ((hmod _).trans (count_regs ..).mono) (.ite (hmod _) (.ite (hmod _) (hmod _)))

theorem releaseHeld_regs (s : State) : RegsKept cancelRegs s s.releaseHeld := by
  unfold State.releaseHeld
  generalize s.convs.filter (fun p => p.2.held) = l
  induction l generalizing s with
  | nil => exact .refl ..
  | cons p l ih => exact (convAct_regs ..).trans (ih _)

theorem mtxStepped_regs (s : State) : RegsKept cancelRegs s s.mtxStepped := by
  unfold State.mtxStepped State.mtxCancel
  exact .ite (.trans (.raise (.step (State.withMtx_same ..) (.setFld (.setFld (.refl ..) _) _))) (releaseHeld_regs _)) (.refl ..)

theorem leapPast_regs (s : State) (x y : Nat) : RegsKept [R.CAL_UTC, R.EVT_PEND 3] s (s.leapPast x y) := by
  unfold State.leapPast
  exact .ite (.raise (.setFld (.setFld (.refl ..) _) _)) (.refl ..)

/-- Calends takes a new time, and the source updates before it move with it. -/
def State.retimed (s : State) (t : Nat) : State :=
  s.withCal { s.cal with t := t, sources := s.cal.sources.map (fun (p : Nat × SrcSt) =>
    (p.1, { p.2 with last := p.2.last.map (fun l => ((l : Int) + ((t : Int) - (s.cal.t : Int)) / (2 ^ 32 : Nat)).toNat) })) }

/-- A step that is not absolute is counted, with E126, and passes a leap. -/
theorem calStepTo_relative (s : State) (t : Nat) : s.calStepTo t false false =
    (((s.mtxStepped.retimed t).countFld R.CAL_STAT_STEP_CNT 1).raise 126).leapPast (s.mtxStepped.cal.t / calSecond)
      (t / calSecond) := by
  simp only [State.calStepTo, Bool.false_and, Bool.false_eq_true, if_false]
  rfl

theorem calStepTo_relative_cal (s : State) (t : Nat) : (s.calStepTo t false false).cal = (s.mtxStepped.retimed t).cal := by
  rw [calStepTo_relative, (State.leapPast_same ..).cal (by decide), (State.raise_same ..).cal (by decide),
    (State.countFld_same ..).cal (by decide)]

theorem calStepTo_relative_count (s : State) (t : Nat) :
    (s.calStepTo t false false).fld R.CAL_STAT_STEP_CNT = (s.fld R.CAL_STAT_STEP_CNT + 1) % 256 := by
  have hmtx : s.mtxStepped.fld R.CAL_STAT_STEP_CNT = s.fld R.CAL_STAT_STEP_CNT := (mtxStepped_regs s).fld
  rw [calStepTo_relative, (leapPast_regs ..).fld, fld_raise _ _ _ (by decide), State.countFld,
    fld_setFld_same _ _ _ (by decide) (by decide), ← hmtx]
  rfl

theorem calStepTo_relative_dpll (s : State) (t : Nat) : (s.calStepTo t false false).dpll = s.dpll := by
  have hmtx : s.mtxStepped.dpll = s.dpll := (mtxStepped_regs s).fld
  rw [calStepTo_relative, State.dpll, (leapPast_regs ..).fld, fld_raise _ _ _ (by decide), State.countFld,
    fld_setFld_apart _ _ _ _ (by decide), ← hmtx]
  rfl

theorem exec_acquisitionStep {s : State} {e : Int} (h1 : s.live 1 = true) (hd : s.dpll = 1) (he : s.cal.acqStep = some e) :
    exec .acquisitionStep s = .next ((s.withCal { s.cal with acqStep := none }).calStepTo
      ((s.cal.t : Int) - e * 2 ^ 48 / 1000).toNat false false) := by
  have hunit : ((calUnit : Nat) : Int) = 2 ^ 48 := by norm_num [calUnit]
  have hbeq : (s.live 1 && s.dpll == 1) = true := by rw [h1, hd]; rfl
  change execAcquisitionStep s = _
  simp only [execAcquisitionStep, hbeq, he, hunit, State.withCal_cal]

/-- Settles O14: each update comes to the state its exec lemma names; steering changes the steering registers alone, and the step of
an acquisition changes of the DPLL only that it is no longer due. -/
theorem dpllUpdates : Obligations.DpllUpdates := by
  unfold Obligations.DpllUpdates
  refine ⟨?locked, ?acquire, ?enter, ?step⟩
  case locked =>
    intro s h1 hq hf hd
    obtain ⟨hlo, hhi⟩ := drawIn_bounds s (-(2 ^ 31)) (2 ^ 31 - 1) (by decide)
    exact ⟨_, _, exec_dpllUpdate_locked h1 hq hf hd, hlo, hhi, rfl, (lockedSteered_regs ..).fld.trans hd,
      lockedSteered_free .., lockedSteered_same .., (lockedSteered_regs ..).eq⟩
  case acquire =>
    intro s h1 hq hf hd
    have hex := exec_dpllUpdate_acquire h1 hq hf hd
    have hdpll : s.acquireCounted.dpll = 1 := (acquireCounted_dpll s).trans hd
    refine ⟨_, hex, fun hin h15 => ?_, fun hin h15 => ?_, fun hout => ?_, (execDpllUpdate_same s).of_next hex⟩
    · have hrun : 16 ≤ s.acquireCounted.cal.lockRun := by rw [acquireCounted_run, if_pos hin]; omega
      rw [if_pos hrun]
      exact dpllLock_spec ..
    · have hrun : s.acquireCounted.cal.lockRun = s.cal.lockRun + 1 := by rw [acquireCounted_run, if_pos hin]
      rw [if_neg (by omega)]
      exact ⟨hdpll, hrun⟩
    · have hrun : s.acquireCounted.cal.lockRun = 0 := by rw [acquireCounted_run, hout]; rfl
      rw [if_neg (by omega)]
      exact ⟨hdpll, hrun⟩
  case enter =>
    intro s h1 h7 hq hf hd
    have hex := exec_dpllUpdate_enter h1 hq hf hd
    obtain ⟨hdpll, hfrom, hacq, hpend⟩ := dpllAcquire_spec s
    obtain ⟨hregs, hkept⟩ := dpllEnter_acquires s (s.fld R.CAL_STAT_SEL)
    refine ⟨_, hex, hregs.fld.trans hdpll, hkept.trans hfrom, ?_, hregs.flag.trans hacq, (execDpllUpdate_same s).of_next hex⟩
    rw [State.pends, hregs.regN]
    exact hpend h7
  case step =>
    intro s e h1 hd he
    have hex := exec_acquisitionStep h1 hd he
    have hcal := calStepTo_relative_cal (s.withCal { s.cal with acqStep := none }) ((s.cal.t : Int) - e * 2 ^ 48 / 1000).toNat
    have hmtx : (s.withCal { s.cal with acqStep := none }).mtxStepped.cal = { s.cal with acqStep := none } :=
      (State.mtxStepped_same ..).cal (by decide)
    refine ⟨_, hex, by rw [hcal]; rfl, ?_, (calStepTo_relative_dpll ..).trans hd, calStepTo_relative_count ..,
      (execAcquisitionStep_same s).of_next hex⟩
    rw [hcal]
    exact congrArg CalSt.acqStep hmtx

end Sys2Proof.Machine

/-! The PTP engine (chapter 04): runs of bytes in SRAM, and the rings they hold. -/

namespace Sys2Proof.Machine

-- Theorems one after another: a thread for each would take more memory than there is.
set_option Elab.async false

/-! ### Runs of bytes -/

@[simp] theorem length_slice (l : List Byte) (off n : Nat) : (slice l off n).length = n := by
  simp only [slice, List.length_append, List.length_take, List.length_drop, List.length_replicate]
  omega

/-- A byte of a run; beyond the end of the list a run holds zeros. -/
theorem getD_slice (l : List Byte) (off n k : Nat) (hk : k < n) : (slice l off n).getD k 0 = l.getD (off + k) 0 := by
  by_cases h : off + k < l.length
  · have ht : k < ((l.drop off).take n).length := by rw [List.length_take, List.length_drop]; omega
    rw [slice, List.getD_append _ _ _ _ ht]
    simp [List.getD_eq_getElem?_getD, hk]
  · have ht : ((l.drop off).take n).length ≤ k := by rw [List.length_take, List.length_drop]; omega
    rw [slice, List.getD_append_right _ _ _ _ ht, List.getD_eq_default _ _ (Nat.not_lt.1 h), List.getD_replicate]
    rw [List.length_take, List.length_drop] at *
    omega

/-- A byte of a number. -/
theorem getD_leBytes (n v k : Nat) (hk : k < n) : (leBytes n v).getD k 0 = BitVec.ofNat 8 (v / 256 ^ k) := by
  induction n generalizing v k with
  | zero => omega
  | succ n ih =>
    cases k with
    | zero => simp [leBytes]
    | succ k =>
      rw [leBytes, List.getD_cons_succ, ih _ _ (by omega), Nat.div_div_eq_div_mul, Nat.pow_succ, Nat.mul_comm 256]

/-! ### SRAM over the interconnect (R59, R74) -/

/-- A run of bytes lies in SRAM banks that are available. -/
abbrev State.ramUp (s : State) (a n : Nat) : Prop :=
  0x10000000 ≤ a ∧ a + n ≤ 0x10200000 ∧ ∀ x, a ≤ x → x < a + n → s.live (sramDomain x) = true

theorem target_sram (s : State) (a : Nat) (h0 : 0x10000000 ≤ a) (h1 : a < 0x10200000) : s.target a = .sram a := by
  unfold State.target
  rw [if_neg (by omega), if_neg (by omega), if_pos (by simp only [Bool.and_eq_true, decide_eq_true_eq]; omega)]

/-- The parts that say whether a domain is available stand. -/
theorem live_of_same {l : List Part} {s t : State} (h : Same l s t) (d : Nat) (hr : Part.regs ∉ l := by decide)
    (hs : Part.rst ∉ l := by decide) : t.live d = s.live d :=
  (framed_of_same h hr).live (by simp) (by simp) hs d

theorem setSramBytes_append (s : State) (a : Nat) (l m : List Byte) :
    s.setSramBytes a (l ++ m) = (s.setSramBytes a l).setSramBytes (a + l.length) m := by
  induction l generalizing s a with
  | nil => rfl
  | cons b l ih => rw [List.cons_append, State.setSramBytes, ih, State.setSramBytes, List.length_cons, Nat.add_assoc a, Nat.add_comm 1]

section
variable {s : State} {a n : Nat} (h : s.ramUp a n)
include h

theorem ramUp_part {k m : Nat} (hk : k + m ≤ n) : s.ramUp (a + k) m := by
  obtain ⟨h0, h1, hl⟩ := h
  exact ⟨by omega, by omega, fun x hx hx' => hl x (by omega) (by omega)⟩

theorem ramUp_take {m : Nat} (hm : m ≤ n) : s.ramUp a m := ramUp_part (k := 0) h (by omega)

theorem lineRead_sram (rid : Rid) (hn : 0 < n) :
    s.lineRead rid a n = (((List.range n).map (fun k => s.sramByte (a + k)), false), s) := by
  obtain ⟨h0, h1, hl⟩ := h
  simp only [State.lineRead, target_sram s a h0 (by omega), hl a (by omega) (by omega), if_true]

end

theorem lineWrite_sram {s : State} {a : Nat} {bs : List Byte} (h : s.ramUp a bs.length) (rid : Rid) (hn : 0 < bs.length) :
    s.lineWrite rid a bs = (false, s.setSramBytes a bs) := by
  obtain ⟨h0, h1, hl⟩ := h
  simp only [State.lineWrite, target_sram s a h0 (by omega), hl a (by omega) (by omega), if_true]

/-- The part of a run in its first line, and the lines the rest needs. -/
theorem line_part (a n k : Nat) (hn : n ≠ 0) (hk : a % 64 + n ≤ 64 * (k + 1)) :
    let m := min n (64 - a % 64)
    0 < m ∧ m ≤ n ∧ (n - m = 0 ∨ (a + m) % 64 + (n - m) ≤ 64 * k) := by
  intro m
  rcases Nat.le_total n (64 - a % 64) with h | h
  · have hm : m = n := Nat.min_eq_left h
    omega
  · have hm : m = 64 - a % 64 := Nat.min_eq_right h
    omega

/-- A write of a run of available SRAM sets its bytes, line by line. -/
theorem memWriteFuel_sram (rid : Rid) (k : Nat) (s : State) (a : Nat) (bs : List Byte) (h : s.ramUp a bs.length)
    (hk : bs.length = 0 ∨ a % 64 + bs.length ≤ 64 * k) : State.memWriteFuel rid k s a bs = (false, s.setSramBytes a bs) := by
  induction k generalizing s a bs with
  | zero =>
    have hnil : bs = [] := List.eq_nil_of_length_eq_zero (by omega)
    rw [hnil]
    rfl
  | succ k ih =>
    by_cases hn : bs.length = 0
    · rw [List.eq_nil_of_length_eq_zero hn]
      rfl
    · obtain ⟨hm0, hmn, hmk⟩ := line_part a bs.length k hn (hk.resolve_left hn)
      rw [State.memWriteFuel, if_neg (fun e => hn (by rw [List.isEmpty_iff.1 e]; rfl))]
      dsimp only
      generalize min bs.length (64 - a % 64) = m at *
      have htake : (bs.take m).length = m := List.length_take_of_le hmn
      have hdrop : (bs.drop m).length = bs.length - m := List.length_drop
      obtain ⟨h0, h1, hl⟩ := ramUp_part (k := m) (m := (bs.drop m).length) h (by omega)
      have hrest : (s.setSramBytes a (bs.take m)).ramUp (a + m) (bs.drop m).length :=
        ⟨h0, h1, fun x hx hx' => (live_of_same (State.setSramBytes_same ..) _).trans (hl x hx hx')⟩
      rw [lineWrite_sram (ramUp_take h (by omega)) rid (by omega)]
      dsimp only
      rw [if_neg Bool.false_ne_true, ih _ _ _ hrest (hdrop ▸ hmk)]
      conv => rhs; rw [← List.take_append_drop m bs, setSramBytes_append, htake]

theorem memWrite_sram {s : State} {a : Nat} {bs : List Byte} (h : s.ramUp a bs.length) (rid : Rid) :
    s.memWrite rid a bs = (false, s.setSramBytes a bs) := memWriteFuel_sram rid _ s a bs h (.inr (by omega))

/-- A read of a run of available SRAM answers its bytes, line by line. -/
theorem memReadFuel_sram (rid : Rid) (k : Nat) (s : State) (a n : Nat) (h : s.ramUp a n)
    (hk : n = 0 ∨ a % 64 + n ≤ 64 * k) :
    State.memReadFuel rid k s a n = (((List.range n).map (fun j => s.sramByte (a + j)), false), s) := by
  induction k generalizing a n with
  | zero =>
    have hn : n = 0 := by omega
    rw [hn]
    rfl
  | succ k ih =>
    by_cases hn : n = 0
    · rw [hn]
      rfl
    · obtain ⟨hm0, hmn, hmk⟩ := line_part a n k hn (hk.resolve_left hn)
      rw [State.memReadFuel, if_neg hn]
      dsimp only
      generalize min n (64 - a % 64) = m at *
      have hsum : List.range n = List.range m ++ (List.range (n - m)).map (m + ·) := by
        rw [← List.range_add, Nat.add_sub_cancel' hmn]
      rw [lineRead_sram (ramUp_take h hmn) rid hm0, if_neg Bool.false_ne_true, ih (a + m) (n - m) (ramUp_part h (by omega)) hmk, hsum,
        List.map_append, List.map_map]
      simp only [Function.comp_def, Nat.add_assoc]

theorem memRead_sram {s : State} {a n : Nat} (h : s.ramUp a n) (rid : Rid) :
    s.memRead rid a n = (((List.range n).map (fun j => s.sramByte (a + j)), false), s) := memReadFuel_sram rid _ s a n h (.inr (by omega))

/-- Bytes of SRAM after a run of it is set. -/
theorem sramByte_set (s : State) (a : Nat) (bs : List Byte) {k : Nat} (hk : k < bs.length) :
    (s.setSramBytes a bs).sramByte (a + k) = bs.getD k 0 := by
  rw [sramByte_setSramBytes, if_pos (by omega), Nat.add_sub_cancel_left]

theorem sramByte_set_other (s : State) (a : Nat) (bs : List Byte) {x : Nat} (hx : x < a ∨ a + bs.length ≤ x) :
    (s.setSramBytes a bs).sramByte x = s.sramByte x := by
  rw [sramByte_setSramBytes, if_neg (by omega)]

/-! ### Writes of registers of RW fields -/

/-- A writable bit takes the data of a write of a whole word. -/
theorem writtenWord_rw {s : State} {b : BlockDesc} {r : RegDesc} {old data : Word} {i : Nat} (hi : i < 32)
    (hrw : (s.rwMask b r).getLsbD i = true) (hwo : r.bits .wo = 0) :
    (s.writtenWord b r old data 0xFFFFFFFF).getLsbD i = data.getLsbD i := by
  have hall : (0xFFFFFFFF : Word).getLsbD i = true := by
    rw [show (0xFFFFFFFF : Word) = BitVec.allOnes 32 from rfl, BitVec.getLsbD_allOnes]
    simpa using hi
  rw [writtenWord_getLsbD _ _ _ _ _ _ _ hi, State.writtenBit, hwo, hrw, hall]
  simp

/-- The block of the PTP engine's registers. -/
def ptpBlock : BlockDesc := ⟨"PTP", 0x41002000, 0x1000, 0x22, 1, false, regsPtp⟩

/-- The register PTP_CTRL. -/
def ptpCtrlReg : RegDesc := ⟨"PTP_CTRL", 0, 1, 0, [⟨"EN", 0, 0, .rw, 0⟩]⟩

/-- The register PTP_TXHEAD. -/
def ptpTxHeadReg : RegDesc := ⟨"PTP_TXHEAD", 0x14, 1, 0, [⟨"IDX", 4, 0, .rw, 0⟩]⟩

theorem rwMask_ptpCtrl (s : State) : s.rwMask ptpBlock ptpCtrlReg = 1#32 := by
  simp [State.rwMask, RegDesc.maskOf, ptpCtrlReg, FieldDesc.mask]

theorem rwMask_ptpTxHead (s : State) : s.rwMask ptpBlock ptpTxHeadReg = 0x1F#32 := by
  simp [State.rwMask, RegDesc.maskOf, ptpTxHeadReg, FieldDesc.mask]

/-- With channel 15 idle, enabling the engine stops no transfer. -/
theorem ptpWrite_idle (rid : Rid) (a : Nat) (data old : Word) (s : State) (hdma : s.dmaRun 15 = none) :
    ptpWrite rid a data old s = s := by
  have hidle : s.dmaBusy 15 = false := by
    rw [State.dmaRun, Option.map_eq_none_iff, List.find?_eq_none] at hdma
    simpa [State.dmaBusy] using hdma
  simp [ptpWrite, State.dmaPreempt, hidle]

/-- Away from PTP_CTRL a write stores its register only. -/
theorem ptpWrite_other (rid : Rid) (a : Nat) (data old : Word) (s : State) (ha : a ≠ R.PTP_CTRL) :
    ptpWrite rid a data old s = s := by
  simp [ptpWrite, ha]

/-- PTP_ENABLE (R107). -/
theorem exec_ptpEnable {s : State} {rid : Rid} (h : s.serves rid 1) (hdma : s.dmaRun 15 = none) :
    let data := BitVec.ofNat 32 (nput (s.rwPart R.PTP_CTRL) 0 0 1)
    exec (.ptpEnable rid) s = .next ((s.withAnswer { rid := rid }).setReg R.PTP_CTRL
      (s.writtenWord ptpBlock ptpCtrlReg (s.reg R.PTP_CTRL) data 0xFFFFFFFF)) := by
  intro data
  obtain ⟨ho, hp⟩ := h
  have hex := write_own (a := R.PTP_CTRL) (data := data) (b := ptpBlock) (r := ptpCtrlReg) ho (by decide) rfl (by decide) rfl hp
    rfl (by decide) (.inr (by decide)) rfl
  rw [stored_plain (by decide)] at hex
  exact congrArg Host.Outcome.next (hex.trans ((congrArg State.settleDma (ptpWrite_idle rid _ data _ ((s.withAnswer { rid := rid }).setReg _ _) hdma)).trans
    (settleDma_none _ ho.2.2)))

/-- PTP_TX_HEAD_ADVANCE (R109). -/
theorem exec_ptpTxHeadAdvance {s : State} {rid : Rid} (h : s.serves rid 1) (data : Word) :
    exec (.ptpTxHeadAdvance rid data) s = .next ((s.withAnswer { rid := rid }).setReg R.PTP_TXHEAD
      (s.writtenWord ptpBlock ptpTxHeadReg (s.reg R.PTP_TXHEAD) data 0xFFFFFFFF)) := by
  obtain ⟨ho, hp⟩ := h
  have hex := write_own (a := R.PTP_TXHEAD) (data := data) (b := ptpBlock) (r := ptpTxHeadReg) ho (by decide) rfl (by decide) rfl
    hp rfl (by decide) (.inr (by decide)) rfl
  rw [stored_plain (by decide)] at hex
  exact congrArg Host.Outcome.next (hex.trans ((congrArg State.settleDma (ptpWrite_other rid _ data _ _ (by decide))).trans
    (settleDma_none _ ho.2.2)))

@[simp] theorem sramByte_setRegN (s : State) (a v x : Nat) : (s.setRegN a v).sramByte x = s.sramByte x := rfl

/-! ### The rings of the PTP engine (R107 to R111) -/

/-- An entry of a ring lies in one bank. -/
theorem ramUp_entry {s : State} {a : Nat} (h256 : a % 256 = 0) (h0 : 0x10000000 ≤ a) (h1 : a < 0x10200000)
    (hl : s.live (sramDomain a) = true) : s.ramUp a 256 := by
  refine ⟨h0, by omega, fun x hx hx' => ?_⟩
  have hbank : sramDomain x = sramDomain a := by
    unfold sramDomain
    by_cases h : a < 0x10100000
    · rw [if_pos h, if_pos (by omega)]
    · rw [if_neg h, if_neg (by omega)]
  rw [hbank]
  exact hl

/-- An entry of the receive ring (R108): the word 0 of a frame, its stamp, and its bytes. -/
def rxEntry (w0 : Word) (sec : Nat) (stamp : Word) (bytes : List Byte) : List Byte :=
  leBytes 4 (w0.toNat + b2n (240 < bytes.length) * 2 ^ 29) ++ leBytes 4 sec ++ leBytes 4 (sec / 2 ^ 32 % 65536) ++
    leBytes 4 stamp.toNat ++ slice bytes 0 240

section
variable (w0 stamp : Word) (sec : Nat) (bytes : List Byte)

@[simp] theorem length_rxEntry : (rxEntry w0 sec stamp bytes).length = 256 := by simp [rxEntry, length_leBytes]

theorem rxEntry_bytes {k : Nat} (hk : k < 240) : (rxEntry w0 sec stamp bytes).getD (16 + k) 0 = bytes.getD k 0 := by
  rw [rxEntry, List.getD_append_right _ _ _ _ (by simp [length_leBytes])]
  simp only [List.length_append, length_leBytes, Nat.reduceAdd, Nat.add_sub_cancel_left]
  rw [getD_slice _ _ _ _ hk, Nat.zero_add]

theorem rxEntry_stamp {k : Nat} (hk : k < 4) :
    (rxEntry w0 sec stamp bytes).getD (12 + k) 0 = BitVec.ofNat 8 (stamp.toNat / 256 ^ k) := by
  rw [rxEntry, List.getD_append _ _ _ _ (by simp [length_leBytes]; omega), List.getD_append_right _ _ _ _ (by simp [length_leBytes])]
  simp only [List.length_append, length_leBytes, Nat.reduceAdd, Nat.add_sub_cancel_left]
  exact getD_leBytes _ _ _ hk

end

section
variable {s : State} {w0 stamp : Word} {sec : Nat} {bytes : List Byte} {r : List (Word × Nat × Word × List Byte)}
  (h1 : s.live 1 = true) (hw : s.cal.ptpRxWait = (w0, sec, stamp, bytes) :: r) (he : s.flag R.PTP_CTRL_EN = true)
include h1 hw he

/-- PTP_RX_FRAME with room in the ring. -/
theorem exec_ptpRxFrame_room (hroom : (s.regN R.PTP_RXHEAD % 32 + 1) % 32 ≠ s.regN R.PTP_RXTAIL % 32) {addr : Nat}
    (ha : s.fld R.PTP_RXBASE_BASE * 8192 + 256 * (s.regN R.PTP_RXHEAD % 32) = addr) (hup : s.ramUp addr 256) :
    exec .ptpRxFrame s = .next (((s.withCal { s.cal with ptpRxWait := r }).setSramBytes addr
      (rxEntry w0 sec stamp bytes)).setRegN R.PTP_RXHEAD ((s.regN R.PTP_RXHEAD % 32 + 1) % 32)) := by
  have hset := memWrite_sram (s := s.withCal { s.cal with ptpRxWait := r }) (a := addr) (bs := rxEntry w0 sec stamp bytes)
    ((length_rxEntry ..).symm ▸ hup) (engineRid 2)
  rw [rxEntry] at hset
  change execPtpRxFrame s = _
  simp only [execPtpRxFrame, h1, hw, State.withCal_regN, State.withCal_flag, State.withCal_fld, he, Bool.not_true, hroom, ha, hset]
  rfl

/-- PTP_RX_FRAME with the ring full. -/
theorem exec_ptpRxFrame_full (hfull : (s.regN R.PTP_RXHEAD % 32 + 1) % 32 = s.regN R.PTP_RXTAIL % 32) :
    exec .ptpRxFrame s = .next (((s.withCal { s.cal with ptpRxWait := r }).count C.PTP_RXDROP).raise 125) := by
  change execPtpRxFrame s = _
  simp only [execPtpRxFrame, h1, hw, State.withCal_regN, State.withCal_flag, he, Bool.not_true, hfull]
  rfl

end

/-- A frame that finds the ring full is counted and raises E125. -/
theorem rxDropped_spec {s : State} (r : List (Word × Nat × Word × List Byte)) (h7 : s.live 7 = true) :
    let t := ((s.withCal { s.cal with ptpRxWait := r }).count C.PTP_RXDROP).raise 125
    t.cal.ptpRxWait = r ∧ t.pends 125 = true ∧ s.framed t [.regs, .dict, .cal, .evt] (R.EVT_PEND 3 :: C.PTP_RXDROP.regs) := by
  have htake : s.framed (s.withCal { s.cal with ptpRxWait := r }) [.cal] [] := framed_of_same (State.withCal_same ..)
  have hcount : s.framed ((s.withCal { s.cal with ptpRxWait := r }).count C.PTP_RXDROP) [.regs, .dict, .cal] C.PTP_RXDROP.regs :=
    htake.trans ⟨State.count_same .., (count_regs ..).eq⟩
  refine ⟨?_, raise_pends ((hcount.live (by decide) (by decide) (by decide) 7).trans h7) (by decide), ?_⟩
  · rw [(State.raise_same ..).cal (by decide), (State.count_same ..).cal (by decide)]
    rfl
  · exact hcount.trans (raise_framed ..) (hA := List.subset_cons_self ..)

/-- The tail of the transmit ring moves on from an entry. -/
def State.txDone (s : State) (tail : Nat) : State := s.setRegN R.PTP_TXTAIL ((tail + 1) % 32)

theorem txDone_framed (s : State) (tail : Nat) : s.framed (s.txDone tail) [.regs] [R.PTP_TXTAIL] := setReg_framed ..

@[simp] theorem sramByte_txDone (s : State) (tail x : Nat) : (s.txDone tail).sramByte x = s.sramByte x := rfl

theorem txDone_tail (s : State) (tail : Nat) : (s.txDone tail).regN R.PTP_TXTAIL = (tail + 1) % 32 := by
  rw [State.txDone, regN_setRegN_same]
  omega

/-- A frame has left by the field port. -/
def State.fieldSent (s : State) (bytes : List Byte) : State := s.withNq { s.nq with sentBytes := bytes }

theorem fieldSent_same (s : State) (bytes : List Byte) : Same [.nq] s (s.fieldSent bytes) := State.withNq_same ..

@[simp] theorem fieldSent_sentBytes (s : State) (bytes : List Byte) : (s.fieldSent bytes).nq.sentBytes = bytes := rfl

@[simp] theorem sramByte_fieldSent (s : State) (bytes : List Byte) (x : Nat) : (s.fieldSent bytes).sramByte x = s.sramByte x := rfl

/-- What the field port's line carries; it is never protected (R266). -/
theorem lineSend_field (s : State) (bytes : List Byte) : s.lineSend 24 bytes = s.fieldSent bytes := by
  have hprot : s.laneProt 24 1 = false := rfl
  simp [State.lineSend, State.protectTx, State.lineRaw, State.fieldSent, hprot]

/-- Words 0 to 3 of an entry that is sent with a capture of its egress stamp (R110). -/
def captureWords (w0 : Nat) (sec : BitVec 48) (stamp : Word) : List Byte :=
  leBytes 4 (nput w0 30 30 0) ++ leBytes 4 sec.toNat ++ leBytes 4 (sec.toNat / 2 ^ 32) ++ leBytes 4 stamp.toNat

@[simp] theorem length_captureWords (w0 : Nat) (sec : BitVec 48) (stamp : Word) : (captureWords w0 sec stamp).length = 16 := by
  simp [captureWords, length_leBytes]

/-- Words 1 to 3 hold the egress stamp. -/
theorem captureWords_stamp (w0 : Nat) (sec : BitVec 48) (stamp : Word) {k : Nat} (hk : k < 4) :
    (captureWords w0 sec stamp).getD (4 + k) 0 = BitVec.ofNat 8 (sec.toNat / 256 ^ k) ∧
      (captureWords w0 sec stamp).getD (8 + k) 0 = BitVec.ofNat 8 (sec.toNat / 2 ^ 32 / 256 ^ k) ∧
      (captureWords w0 sec stamp).getD (12 + k) 0 = BitVec.ofNat 8 (stamp.toNat / 256 ^ k) := by
  have hword : ∀ (l m : List Byte) (v : Nat), (l ++ leBytes 4 v ++ m).getD (l.length + k) 0 = BitVec.ofNat 8 (v / 256 ^ k) := by
    intro l m v
    rw [List.append_assoc, List.getD_append_right _ _ _ _ (by omega), Nat.add_sub_cancel_left,
      List.getD_append _ _ _ _ (by rw [length_leBytes]; exact hk), getD_leBytes _ _ _ hk]
  have h1 := hword (leBytes 4 (nput w0 30 30 0)) (leBytes 4 (sec.toNat / 2 ^ 32) ++ leBytes 4 stamp.toNat) sec.toNat
  have h2 := hword (leBytes 4 (nput w0 30 30 0) ++ leBytes 4 sec.toNat) (leBytes 4 stamp.toNat) (sec.toNat / 2 ^ 32)
  have h3 := hword (leBytes 4 (nput w0 30 30 0) ++ leBytes 4 sec.toNat ++ leBytes 4 (sec.toNat / 2 ^ 32)) [] stamp.toNat
  simp only [List.length_append, length_leBytes, Nat.reduceAdd, List.append_nil, ← List.append_assoc] at h1 h2 h3
  exact ⟨h1, h2, h3⟩

/-- The highest bit of the entry's word 0 is ERR (R109). -/
theorem errWord_bit (w0 : Nat) : nbit ((leBytes 4 (nput w0 31 31 1)).getD 3 0).toNat 7 = true := by
  have hbyte : (leBytes 4 (nput w0 31 31 1)).getD 3 0 = BitVec.ofNat 8 (nput w0 31 31 1 / 2 ^ 24) := getD_leBytes _ _ _ (by omega)
  have hbit : (nput w0 31 31 1).testBit (7 + 24) = true := by rw [testBit_nput _ _ _ _ _ (by omega)]; simp
  rw [hbyte, nbit_eq_testBit, BitVec.toNat_ofNat, Nat.testBit_mod_two_pow, Nat.testBit_div_two_pow, hbit]
  rfl

theorem captured_stamp (s : State) (addr w0 : Nat) (sec : BitVec 48) (stamp : Word) {k : Nat} (hk : k < 4) :
    (s.setSramBytes addr (captureWords w0 sec stamp)).sramByte (addr + 4 + k) = BitVec.ofNat 8 (sec.toNat / 256 ^ k) ∧
      (s.setSramBytes addr (captureWords w0 sec stamp)).sramByte (addr + 8 + k) = BitVec.ofNat 8 (sec.toNat / 2 ^ 32 / 256 ^ k) ∧
      (s.setSramBytes addr (captureWords w0 sec stamp)).sramByte (addr + 12 + k) = BitVec.ofNat 8 (stamp.toNat / 256 ^ k) := by
  have hbyte : ∀ j, j + k < 16 → (s.setSramBytes addr (captureWords w0 sec stamp)).sramByte (addr + j + k) =
      (captureWords w0 sec stamp).getD (j + k) 0 := fun j hj => by
    rw [Nat.add_assoc]
    exact sramByte_set s addr _ (by rwa [length_captureWords])
  rw [hbyte 4 (by omega), hbyte 8 (by omega), hbyte 12 (by omega)]
  exact captureWords_stamp w0 sec stamp hk

section
variable {s : State} {addr : Nat} {e : List Byte} (sec : BitVec 48) (stamp : Word) (h1 : s.live 1 = true)
  (he : s.flag R.PTP_CTRL_EN = true) (hne : s.regN R.PTP_TXTAIL % 32 ≠ s.regN R.PTP_TXHEAD % 32)
  (ha : s.fld R.PTP_TXBASE_BASE * 8192 + 256 * (s.regN R.PTP_TXTAIL % 32) = addr) (hup : s.ramUp addr 256)
  (hentry : (List.range 256).map (fun k => s.sramByte (addr + k)) = e)
include h1 he hne ha hup hentry

/-- PTP_TX_COMPLETE of an entry whose port cannot send. -/
theorem exec_ptpTxComplete_down (hport : s.ptpPortUp (nbits (leNat (slice e 0 4)) 24 20) = false) :
    exec (.ptpTxComplete sec stamp) s =
      .next ((s.setSramBytes addr (leBytes 4 (nput (leNat (slice e 0 4)) 31 31 1))).txDone (s.regN R.PTP_TXTAIL % 32)) := by
  have hread := memRead_sram hup (engineRid 2)
  have hwrite := memWrite_sram (s := s) (a := addr) (bs := leBytes 4 (nput (leNat (slice e 0 4)) 31 31 1))
    (by rw [length_leBytes]; exact ramUp_take hup (by omega)) (engineRid 2)
  rw [hentry] at hread
  change execPtpTxComplete sec stamp s = _
  simp only [execPtpTxComplete, h1, he, hne, ha, hread, hport, hwrite, Bool.not_true, Bool.not_false, Bool.or_false, Bool.or_true,
    Bool.false_and, decide_false, Bool.false_eq_true, if_false, if_true, State.txDone]

/-- PTP_TX_COMPLETE of an entry for the field port, without insertion. -/
theorem exec_ptpTxComplete_field (hport : s.ptpPortUp 24 = true) {w0 : Nat} (hw0 : leNat (slice e 0 4) = w0)
    (h24 : nbits w0 24 20 = 24) (hlo : 1 ≤ nbits w0 10 0) (hhi : nbits w0 10 0 ≤ 240) (hact : nbits w0 29 28 < 2) :
    exec (.ptpTxComplete sec stamp) s =
      .next (if nbits w0 29 28 = 1 then ((s.fieldSent (slice e 16 (nbits w0 10 0))).setSramBytes addr (captureWords w0 sec stamp)).txDone
          (s.regN R.PTP_TXTAIL % 32)
        else (s.fieldSent (slice e 16 (nbits w0 10 0))).txDone (s.regN R.PTP_TXTAIL % 32)) := by
  let u := s.fieldSent (slice e 16 (nbits w0 10 0))
  have hread := memRead_sram hup (engineRid 2)
  have hwrite : u.memWrite (engineRid 2) addr (leBytes 4 (nput w0 30 30 (b2n (!u.calDone 24))) ++ leBytes 4 sec.toNat ++
      leBytes 4 (sec.toNat / 2 ^ 32) ++ leBytes 4 stamp.toNat) = (false, u.setSramBytes addr (captureWords w0 sec stamp)) :=
    memWrite_sram (bs := captureWords w0 sec stamp) (by rw [length_captureWords]; exact ramUp_take hup (by omega)) (engineRid 2)
  have hsend : s.lineSend 24 (slice e 16 (nbits w0 10 0)) = u := lineSend_field ..
  have hshort : nbits w0 10 0 ≠ 0 := by omega
  have hfits : ¬240 < nbits w0 10 0 := by omega
  have hkind : ¬2 ≤ nbits w0 29 28 := by omega
  have hodd : nbits w0 29 28 % 2 = nbits w0 29 28 := Nat.mod_eq_of_lt hact
  rw [hentry] at hread
  change execPtpTxComplete sec stamp s = _
  simp only [execPtpTxComplete, h1, he, hne, ha, hread, hw0, h24, hport, hshort, hfits, hkind, decide_false,
    Nat.lt_irrefl, Bool.not_true, Bool.or_false, Bool.and_false, Bool.false_and, Bool.false_eq_true, if_false, hsend, hodd, hwrite]
  split <;> rfl

/-- What an entry that cannot be sent leaves (R109). -/
theorem ptpTxComplete_down_spec (hport : s.ptpPortUp (nbits (leNat (slice e 0 4)) 24 20) = false) :
    ∃ t, exec (.ptpTxComplete sec stamp) s = .next t ∧ t.regN R.PTP_TXTAIL = (s.regN R.PTP_TXTAIL % 32 + 1) % 32 ∧
      nbit (t.sramByte (addr + 3)).toNat 7 = true ∧ (∀ x, x < addr ∨ addr + 4 ≤ x → t.sramByte x = s.sramByte x) ∧
      s.framed t [.regs, .sram] [R.PTP_TXTAIL] := by
  refine ⟨_, exec_ptpTxComplete_down sec stamp h1 he hne ha hup hentry hport, txDone_tail .., ?_, fun x hx => ?_, ?_⟩
  · rw [sramByte_txDone, sramByte_set _ _ _ (by rw [length_leBytes]; omega)]
    exact errWord_bit _
  · rw [sramByte_txDone, sramByte_set_other _ _ _ (by rwa [length_leBytes])]
  · exact (framed_of_same (State.setSramBytes_same ..)).trans (txDone_framed ..)

/-- What an entry sent by the field port leaves (R109, R110). -/
theorem ptpTxComplete_field_spec (hport : s.ptpPortUp 24 = true) {w0 : Nat} (hw0 : leNat (slice e 0 4) = w0)
    (h24 : nbits w0 24 20 = 24) (hlo : 1 ≤ nbits w0 10 0) (hhi : nbits w0 10 0 ≤ 240) (hact : nbits w0 29 28 < 2) :
    ∃ t, exec (.ptpTxComplete sec stamp) s = .next t ∧ t.regN R.PTP_TXTAIL = (s.regN R.PTP_TXTAIL % 32 + 1) % 32 ∧
      t.nq.sentBytes = slice e 16 (nbits w0 10 0) ∧ (nbits w0 29 28 = 0 → ∀ x, t.sramByte x = s.sramByte x) ∧
      (nbits w0 29 28 = 1 → (∀ k, k < 4 → t.sramByte (addr + 4 + k) = BitVec.ofNat 8 (sec.toNat / 256 ^ k) ∧
          t.sramByte (addr + 8 + k) = BitVec.ofNat 8 (sec.toNat / 2 ^ 32 / 256 ^ k) ∧
          t.sramByte (addr + 12 + k) = BitVec.ofNat 8 (stamp.toNat / 256 ^ k)) ∧
        ∀ x, x < addr ∨ addr + 16 ≤ x → t.sramByte x = s.sramByte x) ∧
      s.framed t [.regs, .sram, .nq] [R.PTP_TXTAIL] := by
  have hex := exec_ptpTxComplete_field sec stamp h1 he hne ha hup hentry hport hw0 h24 hlo hhi hact
  have hsent := fieldSent_same s (slice e 16 (nbits w0 10 0))
  by_cases hcap : nbits w0 29 28 = 1
  · rw [if_pos hcap] at hex
    have hset := Same.step (l := [.sram, .nq]) (State.setSramBytes_same _ addr (captureWords w0 sec stamp)) (.step hsent (.refl ..))
    refine ⟨_, hex, txDone_tail .., ?_, fun h => by omega, fun _ => ⟨fun k hk => ?_, fun x hx => ?_⟩, ?_⟩
    · rw [(txDone_framed ..).1.nq (by decide), (State.setSramBytes_same ..).nq (by decide), fieldSent_sentBytes]
    · rw [sramByte_txDone, sramByte_txDone, sramByte_txDone]
      exact captured_stamp _ addr w0 sec stamp hk
    · rw [sramByte_txDone, sramByte_set_other _ _ _ (by rwa [length_captureWords]), sramByte_fieldSent]
    · exact (framed_of_same hset).trans (txDone_framed ..)
  · rw [if_neg hcap] at hex
    refine ⟨_, hex, txDone_tail .., ?_, fun _ x => (sramByte_txDone ..).trans (sramByte_fieldSent s _ x), fun h => absurd h hcap, ?_⟩
    · rw [(txDone_framed ..).1.nq (by decide), fieldSent_sentBytes]
    · exact (framed_of_same hsent).trans (txDone_framed ..)

end

/-- Settles O15: every form is a case of its meaning, and the bytes of an entry are those that one access of SRAM sets. -/
theorem ptpEngine : Obligations.PtpEngine := by
  unfold Obligations.PtpEngine
  refine ⟨?enable, ?txHead, ?room, ?full, ?field, ?down⟩
  case enable =>
    intro s rid h hdma
    refine ⟨_, exec_ptpEnable h hdma, ?_, answered_setReg_framed ..⟩
    have hbit : (BitVec.ofNat 32 (nput (s.rwPart R.PTP_CTRL) 0 0 1)).getLsbD 0 = true := by
      rw [BitVec.getLsbD_ofNat, testBit_nput _ _ _ _ _ (by omega)]
      rfl
    have hword := (writtenWord_rw (s := s) (old := s.reg R.PTP_CTRL) (data := BitVec.ofNat 32 (nput (s.rwPart R.PTP_CTRL) 0 0 1))
      (i := 0) (by omega) (congrArg (·.getLsbD 0) (rwMask_ptpCtrl s)) (by decide)).trans hbit
    have hfld : ((s.withAnswer { rid := rid }).setReg R.PTP_CTRL (s.writtenWord ptpBlock ptpCtrlReg (s.reg R.PTP_CTRL)
        (BitVec.ofNat 32 (nput (s.rwPart R.PTP_CTRL) 0 0 1)) 0xFFFFFFFF)).fld R.PTP_CTRL_EN = 1 := by
      rw [State.fld, State.regN, show R.PTP_CTRL_EN.addr = R.PTP_CTRL from rfl, reg_setReg_same]
      exact (nbits_bit _ 0).trans (congrArg Bool.toNat hword)
    rw [State.flag, hfld]
    rfl
  case txHead =>
    intro s rid data h
    refine ⟨_, exec_ptpTxHeadAdvance h data, ?_, answered_setReg_framed ..⟩
    rw [State.regN, reg_setReg_same]
    refine Nat.eq_of_testBit_eq fun i => ?_
    rw [Nat.testBit_mod_two_pow _ 5, Nat.testBit_mod_two_pow _ 5]
    by_cases hi : i < 5
    · have hmask : (0x1F#32).getLsbD i = true := by revert i; decide
      simp only [hi, decide_true, Bool.true_and]
      exact writtenWord_rw (by omega) ((congrArg (·.getLsbD i) (rwMask_ptpTxHead s)).trans hmask) (by decide)
    · simp [hi]
  case room =>
    intro s w0 stamp sec bytes r head addr h1 hw he hroom h0 hlt hl
    have hup : s.ramUp addr 256 := ramUp_entry (by omega) h0 hlt hl
    let u := s.withCal { s.cal with ptpRxWait := r }
    let t := u.setSramBytes addr (rxEntry w0 sec stamp bytes)
    have hset : Same [.cal, .sram] s t := .step (State.setSramBytes_same ..) (.step (State.withCal_same ..) (.refl ..))
    refine ⟨_, exec_ptpRxFrame_room h1 hw he hroom rfl hup, ?_, ?_, ?_, ?_, ?_, ?_⟩
    · rw [regN_setRegN_same]
      omega
    · rw [(State.setRegN_same ..).cal (by decide), (State.setSramBytes_same ..).cal (by decide)]
      rfl
    · intro k hk
      rw [sramByte_setRegN, Nat.add_assoc, sramByte_set _ _ _ (by rw [length_rxEntry]; omega)]
      exact rxEntry_bytes _ _ _ _ hk
    · intro k hk
      rw [sramByte_setRegN, Nat.add_assoc, sramByte_set _ _ _ (by rw [length_rxEntry]; omega)]
      exact rxEntry_stamp _ _ _ _ hk
    · intro x hx
      rw [sramByte_setRegN, sramByte_set_other _ _ _ (by rwa [length_rxEntry])]
      rfl
    · exact (framed_of_same hset).trans (setReg_framed t ..)
  case full =>
    intro s w0 stamp sec bytes r head h1 h7 hw he hfull
    obtain ⟨hwait, hpend, hframe⟩ := rxDropped_spec r h7
    exact ⟨_, exec_ptpRxFrame_full h1 hw he hfull, hwait, hpend, hframe⟩
  case field =>
    intro s sec stamp tail addr e w0 h1 he hne h0 hlt hl hport h24 hlo hhi hact
    exact ptpTxComplete_field_spec sec stamp h1 he hne rfl (ramUp_entry (by omega) h0 hlt hl) rfl hport rfl h24 hlo hhi hact
  case down =>
    intro s sec stamp tail addr e w0 h1 he hne h0 hlt hl hport
    exact ptpTxComplete_down_spec sec stamp h1 he hne rfl (ramUp_entry (by omega) h0 hlt hl) rfl hport

end Sys2Proof.Machine

/-! Holdover (chapter 05): the codes and ranges of the tuning DACs. -/

namespace Sys2Proof.Machine

-- Theorems one after another: a thread for each would take more memory than there is.
set_option Elab.async false

/-! ### Words and tables -/

/-- A field of given bits reads back what was set. -/
theorem fld_setFld_bits (s : State) (a hi lo v : Nat) (h : lo ≤ hi := by decide) (h31 : hi < 32 := by decide) :
    (s.setFld ⟨a, hi, lo⟩ v).fld ⟨a, hi, lo⟩ = v % 2 ^ (hi + 1 - lo) := fld_setFld_same _ _ _ h h31

/-- A bit that is set reads as set. -/
theorem flag_setFld_bit (s : State) (a i : Nat) (h31 : i < 32 := by decide) : (s.setFld ⟨a, i, i⟩ 1).flag ⟨a, i, i⟩ = true :=
  flag_setFld_one _ _ rfl h31

/-- A field of a register that is set is one of its word. -/
theorem fld_setReg (s : State) (a hi lo : Nat) (w : Word) : (s.setReg a w).fld ⟨a, hi, lo⟩ = nbits w.toNat hi lo := by
  rw [State.fld, State.regN, reg_setReg_same]

/-- A field of writable bits takes the data of a write of a whole word. -/
theorem nbits_writtenWord {s : State} {b : BlockDesc} {r : RegDesc} (old data : Word) {hi lo : Nat} (h31 : hi < 32)
    (hrw : ∀ i, lo ≤ i → i ≤ hi → (s.rwMask b r).getLsbD i = true) (hwo : r.bits .wo = 0) :
    nbits (s.writtenWord b r old data 0xFFFFFFFF).toNat hi lo = nbits data.toNat hi lo := by
  refine Nat.eq_of_testBit_eq fun i => ?_
  rw [testBit_nbits, testBit_nbits, BitVec.testBit_toNat, BitVec.testBit_toNat]
  by_cases hi' : i < hi + 1 - lo
  · rw [writtenWord_rw (by omega) (hrw _ (by omega) (by omega)) hwo]
  · simp [hi']

/-- The entry that is put is found where there was none of its key. -/
theorem find_tput {α : Type} (l : List (Nat × α)) (k : Nat) (v : α) (h : l.find? (fun p => p.1 == k) = none) :
    (tput l k v).find? (fun p => p.1 == k) = some (k, v) := by
  induction l with
  | nil => simp [tput]
  | cons p l ih =>
    obtain ⟨j, w⟩ := p
    rw [List.find?_cons] at h
    split at h
    · cases h
    · next hne =>
      have hne : ¬j = k := by simpa using hne
      unfold tput
      split
      · simp
      · rw [if_neg (Ne.symm hne), List.find?_cons_of_neg (by simpa using hne)]
        exact ih h

/-- No entry of a key that is deleted is found. -/
theorem find_tdel {α : Type} (l : List (Nat × α)) (k : Nat) : (tdel l k).find? (fun p => p.1 == k) = none := by
  simp [tdel, List.find?_eq_none]


/-! ### The codes of the tuning DACs (R148) -/

/-- The block of the registers of HLD. -/
def hldBlock : BlockDesc := ⟨"HLD", 0x41001000, 0x1000, 0x21, 1, false, regsHld⟩

/-- The registers HLD_DACn_CODE. -/
def dacCodeReg : RegDesc := ⟨"HLD_DAC_CODE", 0x80, 2, 0x10, [⟨"CODE", 19, 0, .rw, 0⟩]⟩

/-- The registers HLD_DACn_CFG. -/
def dacCfgReg : RegDesc := ⟨"HLD_DAC_CFG", 0x84, 2, 0x10, [⟨"RANGE", 0, 0, .rw, 0⟩]⟩

theorem rwMask_dacCode (s : State) : s.rwMask hldBlock dacCodeReg = 0xFFFFF#32 := by
  simp [State.rwMask, RegDesc.maskOf, dacCodeReg, FieldDesc.mask]

theorem rwMask_dacCfg (s : State) : s.rwMask hldBlock dacCfgReg = 1#32 := by
  simp [State.rwMask, RegDesc.maskOf, dacCfgReg, FieldDesc.mask]

/-- HLD_DACn_CODE and HLD_DACn_CFG lie at their offsets in the block of HLD. -/
theorem dacRegs_at (n : Fin 2) :
    (blockAt (R.HLD_DAC_CODE n.val) = some hldBlock ∧ hldBlock.form (R.HLD_DAC_CODE n.val) = .own dacCodeReg) ∧
      blockAt (R.HLD_DAC_CFG n.val) = some hldBlock ∧ hldBlock.form (R.HLD_DAC_CFG n.val) = .own dacCfgReg := by
  match n with
  | 0 => exact ⟨⟨rfl, rfl⟩, rfl, rfl⟩
  | 1 => exact ⟨⟨rfl, rfl⟩, rfl, rfl⟩

/-- A register of HLD with its new word, as its block sees it. -/
def State.hldStored (s : State) (r : RegDesc) (rid : Rid) (a : Nat) (data : Word) : State :=
  (s.withAnswer { rid := rid }).setReg a (s.writtenWord hldBlock r (s.reg a) data 0xFFFFFFFF)

/-- A write of a word to an unlocked register of HLD stores it, and HLD goes on with that (R71). -/
theorem write_hld {s : State} {rid : Rid} {a : Nat} {r : RegDesc} (h : s.serves rid 1) (data : Word)
    (hat : blockAt a = some hldBlock ∧ hldBlock.form a = .own r) (ht : regSpace a = true) (h4 : a % 4 = 0)
    (hh : ¬ (hldBlock.base + 0x3F0 ≤ a ∧ a < hldBlock.base + 0x400)) (hl : r.bits .rwl = 0) (hs : r.shadowed = false) :
    s.write rid a data = hldWrite rid a data (s.reg a) (s.hldStored r rid a data) := by
  obtain ⟨ho, hp⟩ := h
  have hwrite := write_own (data := data) ho ht hat.1 h4 rfl hp hat.2 hh (.inr hl) rfl
  rw [stored_plain hs] at hwrite
  have hic : (hldWrite rid a data (s.reg a) (s.hldStored r rid a data)).ic = s.ic := by
    rw [(hldWrite_same ..).ic (by decide)]
    rfl
  refine hwrite.trans (settleDma_none _ ?_)
  exact (congrArg (fun x : IcSt => x.dma.any (fun p => p.2.abort)) hic).trans ho.2.2

/-- It changes that register alone. -/
theorem hldStored_framed (s : State) (r : RegDesc) (rid : Rid) (a : Nat) (data : Word) :
    s.framed (s.hldStored r rid a data) [.regs, .answer] [a] := answered_setReg_framed ..

theorem hldStored_hld (s : State) (r : RegDesc) (rid : Rid) (a : Nat) (data : Word) : (s.hldStored r rid a data).hld = s.hld := rfl

/-- A field of writable bits takes the data. -/
theorem hldStored_fld {s : State} {r : RegDesc} {hi lo : Nat} (rid : Rid) (a : Nat) (data : Word)
    (hrw : ∀ i, lo ≤ i → i ≤ hi → (s.rwMask hldBlock r).getLsbD i = true) (hwo : r.bits .wo = 0) (h31 : hi < 32) :
    (s.hldStored r rid a data).fld ⟨a, hi, lo⟩ = nbits data.toNat hi lo :=
  (fld_setReg ..).trans (nbits_writtenWord _ data h31 hrw hwo)

/-- A register that takes its old word again differs in nothing. -/
theorem restored_framed {s u : State} {l : List Part} {a : Nat} (h : s.framed u l [a]) (hl : [.regs] ⊆ l := by decide) :
    s.framed (u.setReg a (s.reg a)) l [] := by
  refine ⟨.step (l := l) (State.setReg_same ..) h.1 hl, fun c _ => ?_⟩
  rw [reg_setReg]
  split
  · next hc => rw [hc]
  · next hc => exact h.2 c (by simpa using Ne.symm hc)

theorem withHld_framed (s : State) (x : HldSt) : s.framed (s.withHld x) [.hld] [] := framed_of_same (State.withHld_same ..)

theorem yNote_framed (s : State) : s.framed s.yNote [.hld] [] := framed_of_same (State.yNote_same ..)

/-- Something else drives a DAC: it is the steering DAC and the DPLL steers it, or its range changes. -/
def State.dacTaken (s : State) (n : Nat) : Prop :=
  (s.dacHold n).isSome = true ∨ (s.steerDac = n ∧ s.flag R.CAL_DPLL_STEER = false ∧ s.fld R.CAL_DPLL_MODE < 2)

/-- A write to a DAC's own registers leaves what drives it. -/
theorem hldStored_dacTaken (s : State) (rid : Rid) (n : Fin 2) (data : Word) :
    (s.hldStored dacCodeReg rid (R.HLD_DAC_CODE n.val) data).dacTaken n.val ↔ s.dacTaken n.val := by
  have hkept : RegsKept [R.HLD_DAC_CODE n.val] s (s.hldStored dacCodeReg rid (R.HLD_DAC_CODE n.val) data) :=
    ⟨(hldStored_framed ..).2⟩
  have hapart := (by decide : ∀ n : Fin 2, R.HLD_CTRL ∉ [R.HLD_DAC_CODE n.val] ∧ R.CAL_DPLL ∉ [R.HLD_DAC_CODE n.val]) n
  have hsel := hkept.fld (f := R.HLD_CTRL_SEL) hapart.1
  have hsteer := hkept.flag (f := R.CAL_DPLL_STEER) hapart.2
  have hmode := hkept.fld (f := R.CAL_DPLL_MODE) hapart.2
  simp only [State.dacTaken, State.dacHold, State.steerDac, hldStored_hld, hsel, hsteer, hmode]

/-- What HLD makes of a write of a code. -/
theorem hldWrite_code (rid : Rid) (n : Fin 2) (data old : Word) (s : State) :
    (s.dacTaken n.val → hldWrite rid (R.HLD_DAC_CODE n.val) data old s =
      (s.setReg (R.HLD_DAC_CODE n.val) old).setFld (R.HLD_DAC_STAT_WR_IGN n.val) 1) ∧
    (¬ s.dacTaken n.val → hldWrite rid (R.HLD_DAC_CODE n.val) data old s =
      (((s.setReg (R.HLD_DAC_CODE n.val) old).yNote).setReg (R.HLD_DAC_CODE n.val) (s.reg (R.HLD_DAC_CODE n.val))).setFld
        (R.HLD_DAC_STAT_INIT n.val) 2) := by
  have htaken : s.dacTaken n.val ↔ ((s.steerDac == n.val && !s.flag R.CAL_DPLL_STEER && s.fld R.CAL_DPLL_MODE < 2) ||
      (s.dacHold n.val).isSome) = true := by
    simp only [State.dacTaken, Bool.or_eq_true, Bool.and_eq_true, beq_iff_eq, Bool.not_eq_true', decide_eq_true_eq, and_assoc]
    exact Or.comm
  rw [htaken]
  match n with
  | 0 => exact ⟨fun h => if_pos h, fun h => if_neg h⟩
  | 1 => exact ⟨fun h => if_pos h, fun h => if_neg h⟩

/-- A code that is written counts in y from now on, and INIT shows a written code. -/
def State.dacCoded (s : State) (rid : Rid) (n : Nat) (data : Word) : State :=
  let a := R.HLD_DAC_CODE n
  let u := s.hldStored dacCodeReg rid a data
  (((u.setReg a (s.reg a)).yNote).setReg a (u.reg a)).setFld (R.HLD_DAC_STAT_INIT n) 2

/-- A code that is ignored: its register stands, and WR_IGN is set. -/
def State.dacIgnored (s : State) (rid : Rid) (n : Nat) (data : Word) : State :=
  let a := R.HLD_DAC_CODE n
  ((s.hldStored dacCodeReg rid a data).setReg a (s.reg a)).setFld (R.HLD_DAC_STAT_WR_IGN n) 1

/-- DAC_CODE_WRITE (R148). -/
theorem exec_dacCodeWrite {s : State} {rid : Rid} (h : s.serves rid 1) (n : Fin 2) (data : Word) :
    (s.dacTaken n.val → exec (.dacCodeWrite rid n data) s = .next (s.dacIgnored rid n.val data)) ∧
      (¬ s.dacTaken n.val → exec (.dacCodeWrite rid n data) s = .next (s.dacCoded rid n.val data)) := by
  have hplace := (by decide : ∀ n : Fin 2, regSpace (R.HLD_DAC_CODE n.val) = true ∧ R.HLD_DAC_CODE n.val % 4 = 0 ∧
      ¬ (hldBlock.base + 0x3F0 ≤ R.HLD_DAC_CODE n.val ∧ R.HLD_DAC_CODE n.val < hldBlock.base + 0x400)) n
  obtain ⟨ht, h4, hh⟩ := hplace
  have hex : exec (.dacCodeWrite rid n data) s = .next (s.write rid (R.HLD_DAC_CODE n.val) data) := rfl
  rw [write_hld h data (dacRegs_at n).1 ht h4 hh (by decide) (by decide)] at hex
  obtain ⟨hignored, hcoded⟩ := hldWrite_code rid n data (s.reg (R.HLD_DAC_CODE n.val))
    (s.hldStored dacCodeReg rid (R.HLD_DAC_CODE n.val) data)
  rw [hldStored_dacTaken] at hignored hcoded
  exact ⟨fun hn => hex.trans (congrArg _ (hignored hn)), fun hn => hex.trans (congrArg _ (hcoded hn))⟩

theorem dacCoded_framed (s : State) (rid : Rid) (n : Nat) (data : Word) :
    s.framed (s.dacCoded rid n data) [.regs, .answer, .hld] [R.HLD_DAC_CODE n, R.HLD_DAC_STAT n] := by
  have hnoted : s.framed _ [.regs, .answer, .hld] [] :=
    (restored_framed (hldStored_framed s dacCodeReg rid (R.HLD_DAC_CODE n) data)).trans (yNote_framed _)
  have hcode : s.framed _ [.regs, .answer, .hld] [R.HLD_DAC_CODE n] :=
    hnoted.trans (setReg_framed _ (R.HLD_DAC_CODE n) ((s.hldStored dacCodeReg rid (R.HLD_DAC_CODE n) data).reg (R.HLD_DAC_CODE n)))
  exact hcode.trans (setReg_framed _ (R.HLD_DAC_STAT n) _)

theorem dacIgnored_framed (s : State) (rid : Rid) (n : Nat) (data : Word) :
    s.framed (s.dacIgnored rid n data) [.regs, .answer] [R.HLD_DAC_STAT n] :=
  (restored_framed (hldStored_framed s dacCodeReg rid (R.HLD_DAC_CODE n) data)).trans (setReg_framed _ (R.HLD_DAC_STAT n) _)

/-- The code of a DAC is the data written. -/
theorem dacCoded_code (s : State) (rid : Rid) (n : Nat) (data : Word) :
    (s.dacCoded rid n data).fld (R.HLD_DAC_CODE_CODE n) = data.toNat % 2 ^ 20 := by
  let u := s.hldStored dacCodeReg rid (R.HLD_DAC_CODE n) data
  have hmask : ∀ i, 0 ≤ i → i ≤ 19 → (s.rwMask hldBlock dacCodeReg).getLsbD i = true := fun i _ hi => by
    rw [rwMask_dacCode]
    revert i
    decide
  have hapart : R.HLD_DAC_STAT n ≠ R.HLD_DAC_CODE n := by
    simp only [R.HLD_DAC_STAT, R.HLD_DAC_CODE]
    omega
  have hstat : (s.dacCoded rid n data).fld (R.HLD_DAC_CODE_CODE n) = u.fld (R.HLD_DAC_CODE_CODE n) :=
    (fld_setFld_reg _ _ _ _ hapart).trans (fld_setReg ..)
  have hcode := hldStored_fld rid (R.HLD_DAC_CODE n) data hmask (by decide) (by decide)
  exact hstat.trans (hcode.trans (congrArg (· % 2 ^ 20) (Nat.div_one _)))

/-! ### The ranges of the tuning DACs (R150, R151) -/

theorem dacHold_hld {s t : State} (h : t.hld.hold = s.hld.hold) (n : Nat) : t.dacHold n = s.dacHold n := by
  simp only [State.dacHold, h]

/-- A change of range is refused: the output is over 3.3 V, or VDD_EFC is absent (R151). -/
abbrev rangeRefused (new code : Nat) (efc : Bool) : Prop := (new = 0 ∧ 33 * 2 ^ 20 < 50 * code) ∨ (new = 1 ∧ efc = false)

/-- The hold of a DAC that changes its range begins (R150). -/
def State.holdBegun (s : State) (n : Nat) (h : DacHold) : State :=
  (s.withHld { s.hld with hold := tput s.hld.hold n h }).setFld (R.HLD_DAC_STAT_RANGE_BUSY n) 1

/-- A DAC keeps its range, and RANGE_ERR is set. -/
def State.rangeKept (s : State) (n : Nat) (old : Word) : State :=
  (s.setReg (R.HLD_DAC_CFG n) old).setFld (R.HLD_DAC_STAT_RANGE_ERR n) 1

/-- What HLD makes of a new range of a DAC that is not in its hold. -/
theorem hldWrite_range {s : State} {n : Fin 2} (rid : Rid) (data : Word) {old : Word} (hh : s.dacHold n.val = none)
    (hne : s.fld (R.HLD_DAC_CFG_RANGE n.val) ≠ nbits old.toNat 0 0) :
    let new := s.fld (R.HLD_DAC_CFG_RANGE n.val)
    let code := s.fld (R.HLD_DAC_CODE_CODE n.val)
    hldWrite rid (R.HLD_DAC_CFG n.val) data old s = if rangeRefused new code s.hld.efc then s.rangeKept n.val old
      else s.holdBegun n.val ⟨new, min 1048575 (dacRescale new code)⟩ := by
  have hwrite : hldWrite rid (R.HLD_DAC_CFG n.val) data old s = s.dacRangeWrite n.val old := by
    match n with
    | 0 => rfl
    | 1 => rfl
  rw [hwrite]
  simp only [State.dacRangeWrite, if_neg hne, hh, Bool.or_eq_true, Bool.and_eq_true, decide_eq_true_eq, Bool.not_eq_true',
    rangeRefused]
  rfl

/-- HLD_DACn_CFG with its new word, with VDD_EFC present or absent. -/
def State.rangeStored (s : State) (rid : Rid) (n : Nat) (data : Word) (efc : Bool) : State :=
  (s.withHld { s.hld with efc := efc }).hldStored dacCfgReg rid (R.HLD_DAC_CFG n) data

theorem rangeStored_framed (s : State) (rid : Rid) (n : Nat) (data : Word) (efc : Bool) :
    s.framed (s.rangeStored rid n data efc) [.regs, .answer, .hld] [R.HLD_DAC_CFG n] :=
  (withHld_framed s { s.hld with efc := efc }).trans (hldStored_framed ..)

theorem rangeStored_code (s : State) (rid : Rid) (n : Nat) (data : Word) (efc : Bool) :
    (s.rangeStored rid n data efc).fld (R.HLD_DAC_CODE_CODE n) = s.fld (R.HLD_DAC_CODE_CODE n) := by
  refine (RegsKept.mk (rangeStored_framed s rid n data efc).2).fld ?_
  simp only [R.HLD_DAC_CODE_CODE, R.HLD_DAC_CODE, R.HLD_DAC_CFG, List.mem_singleton]
  omega

theorem rangeStored_range (s : State) (rid : Rid) (n : Nat) (data : Word) (efc : Bool) :
    (s.rangeStored rid n data efc).fld (R.HLD_DAC_CFG_RANGE n) = data.toNat % 2 := by
  have hmask : ∀ i, 0 ≤ i → i ≤ 0 → ((s.withHld { s.hld with efc := efc }).rwMask hldBlock dacCfgReg).getLsbD i = true :=
    fun i _ hi => by
      rw [rwMask_dacCfg, Nat.le_zero.1 hi]
      rfl
  have hcode := hldStored_fld rid (R.HLD_DAC_CFG n) data hmask (by decide) (by decide)
  exact hcode.trans (congrArg (· % 2) (Nat.div_one _))

/-- DAC_RANGE_CHANGE (R150, R151) to another range. -/
theorem exec_dacRangeChange {s : State} {rid : Rid} {n : Fin 2} {data : Word} {new code : Nat} (h : s.serves rid 1) (efc : Bool)
    (hh : s.dacHold n.val = none) (hnew : data.toNat % 2 = new) (hcode : s.fld (R.HLD_DAC_CODE_CODE n.val) = code)
    (hne : new ≠ s.fld (R.HLD_DAC_CFG_RANGE n.val)) :
    exec (.dacRangeChange rid n data efc) s = .next (if rangeRefused new code efc then
      (s.rangeStored rid n.val data efc).rangeKept n.val (s.reg (R.HLD_DAC_CFG n.val)) else
      (s.rangeStored rid n.val data efc).holdBegun n.val ⟨new, min 1048575 (dacRescale new code)⟩) := by
  have hplace := (by decide : ∀ n : Fin 2, regSpace (R.HLD_DAC_CFG n.val) = true ∧ R.HLD_DAC_CFG n.val % 4 = 0 ∧
      ¬ (hldBlock.base + 0x3F0 ≤ R.HLD_DAC_CFG n.val ∧ R.HLD_DAC_CFG n.val < hldBlock.base + 0x400)) n
  obtain ⟨ht, h4, hnh⟩ := hplace
  have hex : exec (.dacRangeChange rid n data efc) s =
      .next ((s.withHld { s.hld with efc := efc }).write rid (R.HLD_DAC_CFG n.val) data) := rfl
  have hhold : (s.rangeStored rid n.val data efc).dacHold n.val = none := hh
  have hrange := (rangeStored_range s rid n.val data efc).trans hnew
  rw [write_hld (s := s.withHld { s.hld with efc := efc }) h data (dacRegs_at n).2 ht h4 hnh (by decide) (by decide)] at hex
  have hwrite := hldWrite_range (s := s.rangeStored rid n.val data efc) rid data (old := s.reg (R.HLD_DAC_CFG n.val)) hhold
    (hrange ▸ hne)
  simp only [hrange, rangeStored_code, hcode] at hwrite
  exact hex.trans (congrArg _ hwrite)

theorem rangeKept_framed (s : State) (rid : Rid) (n : Nat) (data : Word) (efc : Bool) :
    s.framed ((s.rangeStored rid n data efc).rangeKept n (s.reg (R.HLD_DAC_CFG n))) [.regs, .answer, .hld] [R.HLD_DAC_STAT n] :=
  (restored_framed (rangeStored_framed s rid n data efc)).trans (setReg_framed _ (R.HLD_DAC_STAT n) _)

theorem holdBegun_framed (s : State) (n : Nat) (h : DacHold) : s.framed (s.holdBegun n h) [.regs, .hld] [R.HLD_DAC_STAT n] :=
  (withHld_framed s { s.hld with hold := tput s.hld.hold n h }).trans (setReg_framed _ (R.HLD_DAC_STAT n) _)

theorem holdBegun_hold {s : State} {n : Nat} (hh : s.dacHold n = none) (h : DacHold) : (s.holdBegun n h).dacHold n = some h := by
  have hfind := find_tput s.hld.hold n h (by simpa [State.dacHold] using hh)
  exact congrArg (Option.map (fun p : Nat × DacHold => p.2)) hfind

/-- The hold of a DAC ends: its code of the new range is applied (R150). -/
def State.holdEnded (s : State) (n : Nat) (code : Nat) : State :=
  let u := s.yNote
  ((u.withHld { u.hld with hold := tdel u.hld.hold n }).setFld (R.HLD_DAC_CODE_CODE n) code).setFld (R.HLD_DAC_STAT_RANGE_BUSY n) 0

theorem exec_dacRangeChangeDone {s : State} {n : Fin 2} {h : DacHold} (h1 : s.live 1 = true) (hh : s.dacHold n.val = some h) :
    exec (.dacRangeChangeDone n) s = .next ((s.holdEnded n.val h.code).raise 133) := by
  change execDacRangeChangeDone n s = _
  simp only [execDacRangeChangeDone, h1, hh]
  rfl

theorem holdEnded_framed (s : State) (n code : Nat) :
    s.framed (s.holdEnded n code) [.regs, .hld] [R.HLD_DAC_CODE n, R.HLD_DAC_STAT n] := by
  have hdropped : s.framed _ [.regs, .hld] [] :=
    (yNote_framed s).trans (withHld_framed s.yNote { s.yNote.hld with hold := tdel s.yNote.hld.hold n })
  have hcode : s.framed _ [.regs, .hld] [R.HLD_DAC_CODE n] := hdropped.trans (setReg_framed _ (R.HLD_DAC_CODE n)
    (BitVec.ofNat 32 (nput (s.regN (R.HLD_DAC_CODE n)) 19 0 code)))
  exact hcode.trans (setReg_framed _ (R.HLD_DAC_STAT n) _)

theorem holdEnded_hold (s : State) (n code : Nat) : (s.holdEnded n code).dacHold n = none :=
  congrArg (Option.map (fun p : Nat × DacHold => p.2)) (find_tdel s.hld.hold n)

/-- Settles O18: a write of HLD_DACn_CODE or HLD_DACn_CFG stores its word and HLD then takes or restores it; a hold that begins is
the one entry of its DAC in the list of holds, and its end leaves none. -/
theorem tuningDacs : Obligations.TuningDacs := by
  unfold Obligations.TuningDacs
  refine ⟨?applied, ?ignored, ?changed, ?refused, ?done⟩
  case applied =>
    intro s rid n data h hh hfree
    have hn : ¬ s.dacTaken n.val := by
      rintro (hsome | ⟨hsel, hsteer, hmode⟩)
      · simp [hh] at hsome
      · rcases hfree with hne | hs | hm
        · exact hne hsel
        · simp [hsteer] at hs
        · omega
    exact ⟨_, (exec_dacCodeWrite h n data).2 hn, dacCoded_code .., fld_setFld_bits ..,
      dacCoded_framed ..⟩
  case ignored =>
    intro s rid n data h hn
    exact ⟨_, (exec_dacCodeWrite h n data).1 hn, flag_setFld_bit .., rfl, dacIgnored_framed ..⟩
  case changed =>
    intro s rid n data efc code new h hh hne hlow hhigh
    have hex := exec_dacRangeChange h efc hh rfl rfl hne
    have hok : ¬ rangeRefused new code efc := by
      rintro (⟨h0, hover⟩ | ⟨h1, habsent⟩)
      · exact absurd (hlow h0) (by omega)
      · simp [hhigh h1] at habsent
    rw [if_neg hok] at hex
    have hbegun := holdBegun_framed (s.rangeStored rid n.val data efc) n.val ⟨new, min 1048575 (dacRescale new code)⟩
    have hapart := (by decide : ∀ n : Fin 2,
      R.HLD_DAC_CFG n.val ∉ [R.HLD_DAC_STAT n.val] ∧ R.HLD_DAC_CODE n.val ∉ [R.HLD_DAC_STAT n.val]) n
    refine ⟨_, hex, ?_, flag_setFld_bit .., holdBegun_hold hh _, ?_, (rangeStored_framed ..).trans hbegun⟩
    · exact ((RegsKept.mk hbegun.2).fld hapart.1).trans (rangeStored_range ..)
    · exact ((RegsKept.mk hbegun.2).fld hapart.2).trans (rangeStored_code ..)
  case refused =>
    intro s rid n data efc code new h hh hne hno
    have hex := exec_dacRangeChange h efc hh rfl rfl hne
    rw [if_pos hno] at hex
    have hkept := rangeKept_framed s rid n.val data efc
    have hapart := (by decide : ∀ n : Fin 2, R.HLD_DAC_CFG n.val ∉ [R.HLD_DAC_STAT n.val]) n
    refine ⟨_, hex, (RegsKept.mk hkept.2).fld hapart, flag_setFld_bit .., hh, hkept.1, fun a ha => hkept.2 a ?_⟩
    exact fun hm => ha (List.mem_cons_of_mem _ hm)
  case done =>
    intro s n h h1 hh hcode
    have hended := holdEnded_framed s n.val h.code
    have hraise := raise_framed (s.holdEnded n.val h.code) 133
    have hapart := (by decide : ∀ n : Fin 2, R.HLD_DAC_STAT n.val ≠ R.HLD_DAC_CODE n.val ∧
      R.HLD_DAC_CODE n.val ≠ R.EVT_PEND 4 ∧ R.HLD_DAC_STAT n.val ≠ R.EVT_PEND 4 ∧
      R.PWR_STATE0 ∉ [R.HLD_DAC_CODE n.val, R.HLD_DAC_STAT n.val] ∧
      R.PWR_STATE1 ∉ [R.HLD_DAC_CODE n.val, R.HLD_DAC_STAT n.val]) n
    obtain ⟨hcs, hce, hse, hp0, hp1⟩ := hapart
    refine ⟨_, exec_dacRangeChangeDone h1 hh, ?_, ?_, ?_, fun h7 => ?_, hended.trans hraise⟩
    · have hset : (s.holdEnded n.val h.code).fld (R.HLD_DAC_CODE_CODE n.val) = h.code % 2 ^ 20 :=
        (fld_setFld_reg _ _ _ _ hcs).trans (fld_setFld_bits ..)
      exact (fld_raise _ _ _ hce).trans (hset.trans (Nat.mod_eq_of_lt hcode))
    · have hclear : (s.holdEnded n.val h.code).fld (R.HLD_DAC_STAT_RANGE_BUSY n.val) = 0 := fld_setFld_bits ..
      rw [State.flag, fld_raise _ _ _ hse, hclear]
      rfl
    · rw [dacHold_hld (congrArg HldSt.hold (hraise.1.hld (by decide)))]
      exact holdEnded_hold ..
    · exact raise_pends ((hended.live hp0 hp1 (by decide) 7).trans h7) (by decide)

end Sys2Proof.Machine

/-! Holdover (chapter 05): the seconds of the learner and of a holdover, and the correction that the model gives. -/

namespace Sys2Proof.Machine

-- Theorems one after another: a thread for each would take more memory than there is.
set_option Elab.async false

/-! ### Which values of HLD an operation keeps -/

/-- A value of HLD's state beside its registers stands. -/
structure HldKept {α : Type} (f : HldSt → α) (s t : State) : Prop where
  eq : f t.hld = f s.hld

section
variable {α : Type} {f : HldSt → α} {s t u : State}

theorem HldKept.refl (f : HldSt → α) (s : State) : HldKept f s s := ⟨rfl⟩

theorem HldKept.trans (h : HldKept f s t) (g : HldKept f t u) : HldKept f s u := ⟨g.eq.trans h.eq⟩

theorem HldKept.ite {c : Prop} [Decidable c] (ht : HldKept f s t) (hu : HldKept f s u) : HldKept f s (if c then t else u) := by
  split <;> assumption

/-- A change of other parts of the state comes after. -/
theorem HldKept.step {l : List Part} (g : Same l t u) (h : HldKept f s t) (hl : Part.hld ∉ l := by decide) : HldKept f s u :=
  ⟨(congrArg f (g.hld hl)).trans h.eq⟩

/-- A change of other values of HLD comes after. -/
theorem HldKept.withHld (h : HldKept f s t) {x : HldSt} (hx : f x = f t.hld := by rfl) : HldKept f s (t.withHld x) :=
  ⟨hx.trans h.eq⟩

end

/-- The judgement of an Almanac of unknown age at most empties it (R143). -/
theorem judgeAge_steer (s : State) : HldKept HldSt.steer s s.judgeAge := by
  have hempty : ∀ u : State, HldKept HldSt.steer u u.emptyAlmanac := fun u =>
    .step (State.judgeClass_same ..) (.step (State.showAlmanac_same ..) (.step (State.setRegN_same ..)
      (.step (State.setRegN_same ..) (.withHld (.refl ..)))))
  have hknown : HldKept HldSt.steer s (s.setFld R.HLD_STAT_AGE_UNK 0) := .step (State.setFld_same ..) (.refl ..)
  unfold State.judgeAge
  refine .ite (.refl ..) ?_
  split
  · exact .ite (.refl ..) (.ite (.step (State.setFld_same ..) (hknown.trans (hempty _)))
      (.step (State.judgeClass_same ..) (.step (State.showAlmanac_same ..) hknown)))
  · exact hknown

theorem calStepTo_steer (s : State) (t : Nat) (absolute firmware : Bool) :
    HldKept HldSt.steer s (s.calStepTo t absolute firmware) := by
  have hacquire : ∀ u : State, HldKept HldSt.steer s u → HldKept HldSt.steer s u.dpllAcquire := fun _ =>
    .step (State.dpllAcquire_same ..)
  have hage : ∀ u : State, HldKept HldSt.steer s u → HldKept HldSt.steer s u.judgeAge := fun u h => h.trans (judgeAge_steer u)
  have hvalid : ∀ u : State, HldKept HldSt.steer s u →
      HldKept HldSt.steer s (if absolute then u.setFld R.CAL_STAT_VALID 1 else u) := fun _ h =>
    .ite (.step (State.setFld_same ..) h) h
  have hretimed : ∀ x a b, HldKept HldSt.steer s
      ((((s.mtxStepped.withCal x).countFld R.CAL_STAT_STEP_CNT 1).raise 126).leapPast a b) :=
    fun _ _ _ => .step (State.leapPast_same ..) (.step (State.raise_same ..) (.step (State.countFld_same ..)
      (.step (State.withCal_same ..) (.step (State.mtxStepped_same ..) (.refl ..)))))
  have hjudged := fun x a b => HldKept.ite (c := (absolute && !s.mtxStepped.flag R.CAL_STAT_VALID) = true)
    (hage _ (hvalid _ (hretimed x a b))) (hvalid _ (hretimed x a b))
  unfold State.calStepTo
  exact .ite (hacquire _ (hjudged ..)) (hjudged ..)

/-- The steering copy stands while time passes. -/
theorem advanceTo_steer (s : State) (due : Nat) : HldKept HldSt.steer s (s.advanceTo due) := by
  have hrun : ∀ (u : State) (t : Nat), HldKept HldSt.steer u (u.calRun t) := fun u t => by
    unfold State.calRun
    refine .ite (.step (State.withCal_same ..) (.trans ?_ (calStepTo_steer ..)))
      (.step (State.leapPast_same ..) (.step (State.withCal_same ..) (.refl ..)))
    exact .step (State.setFld_same ..) (.step (State.leapPast_same ..) (.step (State.withCal_same ..) (.refl ..)))
  unfold State.advanceTo State.advance
  exact .ite (.ite ((HldKept.step (State.withNow_same ..) (.refl ..)).trans (hrun ..)) (.step (State.withNow_same ..) (.refl ..)))
    (.refl ..)

/-! ### The second of the temperature (R129) -/

/-- When the present second began, its sum and number of temperatures, and whether the last one was valid. -/
def HldSt.second (h : HldSt) : Nat × Int × Nat × Bool := (h.secAt, h.tSum, h.tCount, h.tValid)

/-- A second begins, and the one before is valid with at least 500 temperatures. -/
def State.secondBegun (s : State) : State :=
  s.withHld { s.hld with tSum := 0, tCount := 0, secAt := s.now, tValid := decide (500 ≤ s.hld.tCount) }

/-- Beside what begins a second, the end of one changes the valid temperatures so far. -/
theorem closeTemp_kept {α : Type} (f : HldSt → α) (s : State)
    (hf : ∀ (h : HldSt) (temps : List (Nat × Int)) (at_ run : Nat),
      f { h with temps := temps, lastValidAt := at_, validRun := run } = f h) : HldKept f s.secondBegun s.closeTemp := by
  have hrun : ∀ temps at_ run, HldKept f s.secondBegun
      (s.secondBegun.withHld { s.secondBegun.hld with temps := temps, lastValidAt := at_, validRun := run }) :=
    fun temps at_ run => .withHld (.refl ..) (hf _ temps at_ run)
  unfold State.closeTemp
  refine .ite (hrun ..) (.step (State.setFld_same ..) (.step (State.setFld_same ..) ?_))
  exact .ite (.step (State.setFld_same ..) (hrun ..)) (hrun ..)

theorem closeTemp_steer (s : State) : HldKept HldSt.steer s s.closeTemp :=
  (HldKept.withHld (.refl ..)).trans (closeTemp_kept HldSt.steer s fun _ _ _ _ => rfl)

theorem closeTemp_second (s : State) : s.closeTemp.hld.second = (s.now, 0, 0, decide (500 ≤ s.hld.tCount)) :=
  (closeTemp_kept HldSt.second s fun _ _ _ _ => rfl).eq

theorem closeTemp_regs (s : State) : RegsKept [R.HLD_STAT, R.HLD_TEMP] s s.closeTemp := by
  have hbegun : ∀ x y, RegsKept [R.HLD_STAT, R.HLD_TEMP] s ((s.withHld x).withHld y) := fun _ _ =>
    .step (State.withHld_same ..) (.step (State.withHld_same ..) (.refl ..))
  unfold State.closeTemp
  exact .ite (hbegun ..) (.setFld (.setFld (.ite (.setFld (hbegun ..) _) (hbegun ..)) _) _)

theorem closeTemp_state (s : State) : Keeps [R.HLD_STAT_STATE] s s.closeTemp := by
  have hbegun : ∀ x y, Keeps [R.HLD_STAT_STATE] s ((s.withHld x).withHld y) := fun _ _ =>
    .step (State.withHld_same ..) (.step (State.withHld_same ..) (.refl ..))
  unfold State.closeTemp
  exact .ite (hbegun ..) (.setFld (.setFld (.ite (.setFld (hbegun ..) _) (hbegun ..)) _) _)

theorem createAlmanac_second (s : State) : HldKept HldSt.second s s.createAlmanac := by
  unfold State.createAlmanac
  exact .ite (.step (State.judgeClass_same ..) (.step (State.showAlmanac_same ..) (.withHld (.refl ..)))) (.refl ..)

/-- A second ends for the learner (R129, R130). -/
def State.secondClosed (s : State) : State := s.closeY.2.closeTemp.createAlmanac

theorem secondEnd_eq (s : State) : s.secondEnd = (s.advanceTo (s.hld.secAt + 1000000000)).secondClosed := rfl

theorem secondClosed_second (s : State) : s.secondClosed.hld.second = (s.now, 0, 0, decide (500 ≤ s.hld.tCount)) :=
  (createAlmanac_second _).eq.trans (closeTemp_second _)

theorem secondClosed_now (s : State) : s.secondClosed.now = s.now := by
  rw [State.secondClosed, (State.createAlmanac_same ..).now (by decide), (State.closeTemp_same ..).now (by decide),
    (State.closeY_same ..).now (by decide)]

/-! ### The learner (R132, R133) -/

/-- The registers that show the Almanac and its class. -/
def almanacRegs : List Nat :=
  [R.HLD_COEF 0, R.HLD_COEF 1, R.HLD_COEF 2, R.HLD_COEF 3, R.HLD_COEF 4, R.HLD_T0, R.HLD_STAT, R.HLD_HIST, R.HLD_DAC_LAST 0,
    R.HLD_DAC_LAST 1, R.EVT_PEND 4]

theorem RegsKept.foldl {α : Type} {A : List Nat} {s : State} {f : State → α → State} (xs : List α)
    (h : ∀ t, ∀ x ∈ xs, RegsKept A t (f t x)) (hs : RegsKept A s t) : RegsKept A s (xs.foldl f t) := by
  induction xs generalizing t with
  | nil => exact hs
  | cons x xs ih => exact ih (fun t y hy => h t y (List.mem_cons_of_mem _ hy)) (hs.trans (h t x List.mem_cons_self))

theorem showAlmanac_regs (s : State) : RegsKept almanacRegs s s.showAlmanac := by
  have hcoef : ∀ i ∈ List.range 5, R.HLD_COEF i ∈ almanacRegs := by decide
  have hcoefs : ∀ f : Nat → Word, RegsKept almanacRegs s ((List.range 5).foldl (fun s i => s.setReg (R.HLD_COEF i) (f i)) s) :=
    fun f => .foldl _ (fun t i hi => (RegsKept.refl ..).setReg _ (hcoef i hi)) (.refl ..)
  unfold State.showAlmanac
  split
  · exact (((((hcoefs fun _ => BitVec.ofNat 32 0).setReg _).setFld _).setReg _).setReg _).setReg _
  · exact (((((hcoefs _).setReg _).setFld _).setReg _).setReg _).setReg _

theorem judgeClass_regs (s : State) : RegsKept almanacRegs s s.judgeClass := by
  unfold State.judgeClass
  exact .ite (.refl ..) (.raise (.setFld (.refl ..) _))

/-- A count of two words goes on modulo 2⁶⁴ (R85). -/
theorem countWide_wide (s : State) {lo hi : Nat} (n : Nat) (h : lo ≠ hi) :
    (s.countWide lo hi n).wide lo hi = (s.wide lo hi + n) % 2 ^ 64 := by
  unfold State.countWide State.wide
  dsimp only
  rw [regN_setRegN_same, regN_setRegN_other _ _ _ _ h.symm, regN_setRegN_same]
  omega

/-- A count goes on in the dictionary modulo 2³². -/
theorem count_dict (s : State) (c : Ctr) : (s.count c).dictN c.addr 0 = (s.dictN c.addr 0 + 1) % 2 ^ 32 := by
  have hdict : (s.count c).dict = (s.countDict c.addr 0 1).dict := by
    unfold State.count State.countN
    dsimp only
    split
    · rfl
    · split
      · rfl
      · split <;> rfl
  rw [State.dictN, hdict, State.countDict, State.withDict_dict, tget_tput_same, State.dictN]

theorem learnAccept_second (s : State) (w : Almanac) (y e : Word) (x theta p : List Word) :
    HldKept HldSt.second s (s.learnAccept w y e x theta p) := by
  unfold State.learnAccept
  exact .step (State.judgeClass_same ..) (.step (State.showAlmanac_same ..) (.withHld (.step (State.countWide_same ..) (.refl ..))))

/-- An accepted second is counted, and there are new estimates. -/
theorem learnAccept_spec (s : State) (w : Almanac) (y e : Word) (x theta p : List Word) :
    let t := s.learnAccept w y e x theta p
    t.wide R.HLD_SAMPLES R.HLD_SAMPLES_HI = (s.wide R.HLD_SAMPLES R.HLD_SAMPLES_HI + 1) % 2 ^ 64 ∧
      t.hld.changed = true ∧ t.hld.work.isSome = true := by
  have hshown : ∀ v : State, v.showAlmanac.judgeClass.hld = v.hld := fun v =>
    ((State.judgeClass_same ..).hld (by decide)).trans ((State.showAlmanac_same ..).hld (by decide))
  have hregs : ∀ v h, RegsKept almanacRegs v (v.withHld h).showAlmanac.judgeClass := fun v h =>
    ((RegsKept.step (State.withHld_same ..) (.refl ..)).trans (showAlmanac_regs _)).trans (judgeClass_regs _)
  refine ⟨?_, ?_, ?_⟩
  · have hkept : RegsKept almanacRegs (s.countWide R.HLD_SAMPLES R.HLD_SAMPLES_HI 1) (s.learnAccept w y e x theta p) := hregs ..
    rw [State.wide, hkept.regN, hkept.regN]
    exact countWide_wide s 1 (by decide)
  · exact congrArg HldSt.changed (hshown _)
  · exact congrArg (fun h : HldSt => h.work.isSome) (hshown _)

/-- A rejected second is counted. -/
theorem learnReject_spec (s : State) :
    s.learnReject.dictN R.HLD_REJECT 0 = (s.dictN R.HLD_REJECT 0 + 1) % 2 ^ 32 ∧ s.learnReject.hld = s.hld :=
  ⟨count_dict s C.HLD_REJECT, (State.learnReject_same s).hld (by decide)⟩

/-- The learner begins to judge the next second. -/
def State.secondJudged (s : State) : State := s.withHld { s.hld with stepCnt := s.fld R.CAL_STAT_STEP_CNT, missed := false }

/-- An update of the learner rejects the second or accepts it. -/
theorem learn_cases (s : State) (w : Almanac) (y : Word) :
    s.learn w y = s.learnReject ∨ ∃ e x theta p, s.learn w y = s.learnAccept w y e x theta p := by
  unfold State.learn
  exact (ite_eq_or_eq ..).imp_right fun h => ⟨_, _, _, _, h⟩

/-- A command answers a next state with a property. -/
def Answers (Q : State → Prop) (o : Host.Outcome State Fault Refusal) : Prop := ∃ t, o = .next t ∧ Q t

theorem Answers.next {Q : State → Prop} {t : State} (h : Q t) : Answers Q (.next t) := ⟨t, rfl, h⟩

theorem Answers.ite {Q : State → Prop} {o p : Host.Outcome State Fault Refusal} {c : Prop} [Decidable c]
    (ho : c → Answers Q o) (hp : ¬ c → Answers Q p) : Answers Q (if c then o else p) := by
  split
  · exact ho ‹_›
  · exact hp ‹_›

/-- What the learner leaves of a second that has ended (R132): all as it is while the learner does not run, else the second is
rejected or accepted. -/
def Learnt (v t : State) : Prop :=
  (v.learning = false ∧ t = v) ∨
    (v.learning = true ∧ (t = v.learnReject ∨ ∃ w y e x theta p, t = v.learnAccept w y e x theta p))

/-- LEARNER_UPDATE (R129, R132). -/
theorem exec_learnerUpdate {s : State} (h1 : s.live 1 = true) :
    Answers (Learnt s.secondEnd.secondJudged) (exec .learnerUpdate s) := by
  have hreject : s.secondEnd.secondJudged.learning = true →
      Learnt s.secondEnd.secondJudged s.secondEnd.secondJudged.learnReject := fun h => .inr ⟨h, .inl rfl⟩
  have hlearn : s.secondEnd.secondJudged.learning = true → ∀ w y,
      Learnt s.secondEnd.secondJudged (s.secondEnd.secondJudged.learn w y) := fun h w y => by
    obtain hr | ⟨e, x, theta, p, ha⟩ := learn_cases s.secondEnd.secondJudged w y
    · exact .inr ⟨h, .inl hr⟩
    · exact .inr ⟨h, .inr ⟨w, y, e, x, theta, p, ha⟩⟩
  change Answers _ (execLearnerUpdate s)
  unfold execLearnerUpdate
  refine .ite (fun h => absurd h (by simp [h1])) (fun _ => .ite (fun h => .next (.inl ⟨?_, rfl⟩)) (fun h => ?_))
  · exact Eq.mp (Bool.not_eq_true' _) h
  · have hruns : s.secondEnd.secondJudged.learning = true := Bool.of_not_eq_false fun hf => h (Eq.mpr (Bool.not_eq_true' _) hf)
    split
    · exact .next (hreject hruns)
    · exact .ite (fun _ => .next (hreject hruns)) (fun _ => .next (hlearn hruns ..))

/-- However the second is judged, the next one has begun. -/
theorem Learnt.begun {u t : State} (h : Learnt u.secondClosed.secondJudged t) : t.hld.secAt = t.now ∧ t.hld.tSum = 0 ∧
    t.hld.tCount = 0 ∧ t.hld.tValid = decide (500 ≤ u.hld.tCount) := by
  have hkept : t.hld.second = u.secondClosed.hld.second ∧ t.now = u.secondClosed.now := by
    obtain ⟨-, rfl⟩ | ⟨-, rfl | ⟨w, y, e, x, theta, p, rfl⟩⟩ := h
    · exact ⟨rfl, rfl⟩
    · exact ⟨(congrArg HldSt.second (learnReject_spec u.secondClosed.secondJudged).2 :),
        (State.learnReject_same _).now (by decide)⟩
    · exact ⟨(learnAccept_second ..).eq, (State.learnAccept_same ..).now (by decide)⟩
  rw [secondClosed_second, HldSt.second, Prod.mk.injEq, Prod.mk.injEq, Prod.mk.injEq, secondClosed_now] at hkept
  obtain ⟨⟨hat, hsum, hcount, hvalid⟩, hnow⟩ := hkept
  exact ⟨hat.trans hnow.symm, hsum, hcount, hvalid⟩

/-- While the learner runs, a second is accepted with new estimates, or counted as rejected. -/
theorem Learnt.judged {s t : State} (h : Learnt s.secondJudged t) (hruns : s.learning = true) :
    (t.wide R.HLD_SAMPLES R.HLD_SAMPLES_HI = (s.wide R.HLD_SAMPLES R.HLD_SAMPLES_HI + 1) % 2 ^ 64 ∧
        t.hld.changed = true ∧ t.hld.work.isSome = true) ∨
      (t.dictN R.HLD_REJECT 0 = (s.dictN R.HLD_REJECT 0 + 1) % 2 ^ 32 ∧ t.hld.work = s.hld.work) := by
  obtain ⟨hidle, -⟩ | ⟨-, rfl | ⟨w, y, e, x, theta, p, rfl⟩⟩ := h
  · exact absurd (hruns.symm.trans hidle) (by decide)
  · obtain ⟨hcounted, hkept⟩ := learnReject_spec s.secondJudged
    exact .inr ⟨hcounted, by rw [hkept]; rfl⟩
  · exact .inl (learnAccept_spec ..)

/-! ### No valid temperature (R131) -/

/-- TEMP_LOST is set and the slope is zero. -/
def State.tempGone (s : State) : State := (s.setFld R.HLD_STAT_TEMP_LOST 1).setFld R.HLD_TEMP_DTDT 0

theorem exec_tempLost {s : State} (h1 : s.live 1 = true) (hf : s.flag R.HLD_STAT_TEMP_LOST = false) :
    exec .tempLost s = .next ((s.advanceTo (s.hld.lastValidAt + 60000000000)).tempGone.raise 132) := by
  change execTempLost s = _
  unfold execTempLost
  rw [h1, hf]
  rfl

theorem tempGone_framed (s : State) : s.framed s.tempGone [.regs] [R.HLD_STAT, R.HLD_TEMP] :=
  (setReg_framed s R.HLD_STAT _).trans (setReg_framed _ R.HLD_TEMP _)

/-- What a minute without a valid temperature leaves. -/
theorem tempLost_spec (u : State) : (u.tempGone.raise 132).flag R.HLD_STAT_TEMP_LOST = true ∧
    (u.tempGone.raise 132).fld R.HLD_TEMP_DTDT = 0 ∧ (u.tempGone.raise 132).fld R.HLD_TEMP_T = u.fld R.HLD_TEMP_T ∧
    (u.live 7 = true → (u.tempGone.raise 132).pends 132 = true) ∧
    u.framed (u.tempGone.raise 132) [.regs, .evt] [R.HLD_STAT, R.HLD_TEMP, R.EVT_PEND 4] := by
  have hraise : ∀ f : Fld, f.addr ≠ R.EVT_PEND 4 → (u.tempGone.raise 132).fld f = u.tempGone.fld f := fun f hf =>
    fld_raise _ _ f hf
  have hlost : u.tempGone.fld R.HLD_STAT_TEMP_LOST = 1 :=
    (fld_setFld_reg _ _ _ _ (by decide)).trans (fld_setFld_same _ _ _ (by decide) (by decide))
  refine ⟨?_, ?_, ?_, fun h7 => ?_, (tempGone_framed u).trans (raise_framed ..)⟩
  · rw [State.flag, hraise _ (by decide), hlost]
    rfl
  · rw [hraise _ (by decide)]
    exact fld_setFld_same _ _ _ (by decide) (by decide)
  · rw [hraise _ (by decide), State.tempGone, fld_setFld_apart _ _ _ _ (by decide), fld_setFld_apart _ _ _ _ (by decide)]
  · exact raise_pends (((tempGone_framed u).live (by decide) (by decide) (by decide) 7).trans h7) (by decide)

/-! ### The correction of the model (R127, R136) -/

/-- A code has 20 bits. -/
theorem dacCode_lt {kdac : Int} {range : Nat} {num : Int} {den code : Nat} (h : dacCode kdac range num den = some code) :
    code < 2 ^ 20 := by
  have hclamp : ∀ c : Int, (clampI 0 1048575 c).toNat < 2 ^ 20 := fun c => by
    unfold clampI
    omega
  unfold dacCode at h
  dsimp only at h
  split at h
  all_goals
    split at h
    · cases h
    · exact Option.some.inj h ▸ hclamp _

/-- A code that the steering DAC takes. -/
def State.dacDriven (s : State) (n code : Nat) : State := (s.setFld (R.HLD_DAC_CODE_CODE n) code).setFld (R.HLD_DAC_STAT_INIT n) 2

theorem dacDriven_framed (s : State) (n code : Nat) : s.framed (s.dacDriven n code) [.regs] [R.HLD_DAC_CODE n, R.HLD_DAC_STAT n] :=
  (setReg_framed s (R.HLD_DAC_CODE n) _).trans (setReg_framed _ (R.HLD_DAC_STAT n) _)

theorem dacDriven_code (s : State) (n : Nat) {code : Nat} (h : code < 2 ^ 20) :
    (s.dacDriven n code).fld (R.HLD_DAC_CODE_CODE n) = code := by
  have hapart : R.HLD_DAC_STAT n ≠ R.HLD_DAC_CODE n := by
    simp only [R.HLD_DAC_STAT, R.HLD_DAC_CODE]
    omega
  exact (fld_setFld_reg _ _ _ _ hapart).trans ((fld_setFld_bits ..).trans (Nat.mod_eq_of_lt h))

/-- A correction that the free steering DAC can give, in a mode other than MANUAL. -/
theorem steerTo_dac {s : State} {num : Int} {den code : Nat} (hmode : s.fld R.CAL_DPLL_MODE < 2)
    (hsteer : s.flag R.CAL_DPLL_STEER = false) (hold : s.dacHold s.steerDac = none)
    (hcode : dacCode s.kdac (s.fld (R.HLD_DAC_CFG_RANGE s.steerDac)) num den = some code) :
    s.steerTo num den = s.yNote.dacDriven s.steerDac code := by
  have hmode' : ¬ 2 ≤ s.yNote.fld R.CAL_DPLL_MODE := Nat.not_le.2 hmode
  have hsteer' : ¬ s.yNote.flag R.CAL_DPLL_STEER = true := Bool.eq_false_iff.1 hsteer
  have hold' : s.yNote.dacHold s.yNote.steerDac = none := hold
  have hcode' : dacCode s.yNote.kdac (s.yNote.fld (R.HLD_DAC_CFG_RANGE s.yNote.steerDac)) num den = some code := hcode
  simp only [State.steerTo, if_neg hmode', if_neg hsteer', State.dacSteer, hold', hcode']
  rfl

/-- The model has just given its correction. -/
def State.modelGave (s : State) : State := s.modelApply.withHld { s.modelApply.hld with modelAt := s.now }

/-- MODEL_CORRECTION (R136). -/
theorem exec_modelCorrection {s : State} (h1 : s.live 1 = true) (hs : s.modelSteers = true) :
    exec .modelCorrection s = .next (s.advanceTo (s.hld.modelAt + 1000000)).modelGave := by
  change execModelCorrection s = _
  unfold execModelCorrection
  rw [h1, hs]
  rfl

/-- The model drives the steering DAC with its prediction. -/
theorem modelApply_dac {s : State} {c : SteerCopy} {code : Nat} (hc : s.hld.steer = some c) (hs : s.modelSteers = true)
    (hmode : s.fld R.CAL_DPLL_MODE < 2) (hsteer : s.flag R.CAL_DPLL_STEER = false) (hold : s.dacHold s.steerDac = none)
    (hbad : fBad (s.modelY c) = false) (hcode : dacCode s.kdac (s.fld (R.HLD_DAC_CFG_RANGE s.steerDac))
      ((fSplit (s.modelY c)).1 * (2 ^ (fSplit (s.modelY c)).2 : Nat)) (2 ^ 149) = some code) :
    s.modelApply = s.yNote.dacDriven s.steerDac code := by
  rw [← steerTo_dac hmode hsteer hold hcode]
  simp only [State.modelApply, hc, hs, State.steerToFloat, hbad, if_true, Bool.false_eq_true, if_false]

/-- What the model's correction leaves on the steering DAC. -/
theorem modelGave_spec {s : State} {n code : Nat} (h : s.modelApply = s.yNote.dacDriven n code) (hlt : code < 2 ^ 20) :
    s.modelGave.fld (R.HLD_DAC_CODE_CODE n) = code ∧ s.modelGave.fld (R.HLD_DAC_STAT_INIT n) = 2 ∧
      s.modelGave.hld.modelAt = s.now ∧ s.framed s.modelGave [.regs, .hld] [R.HLD_DAC_CODE n, R.HLD_DAC_STAT n] := by
  have hkept : ∀ f, s.modelGave.fld f = (s.yNote.dacDriven n code).fld f := fun f => by rw [← h]; rfl
  have happly : s.framed s.modelApply [.regs, .hld] [R.HLD_DAC_CODE n, R.HLD_DAC_STAT n] :=
    h ▸ (yNote_framed s).trans (dacDriven_framed ..)
  exact ⟨(hkept _).trans (dacDriven_code _ _ hlt), (hkept _).trans (fld_setFld_bits ..), rfl, happly.trans (withHld_framed ..)⟩

/-! ### A second of holdover (R137, R138) -/

/-- The temperature second that ends with a second of holdover closes too. -/
def State.tempDue (s : State) : State := if s.hld.secAt + 1000000000 ≤ s.now then s.closeY.2.closeTemp else s

/-- The integrals along the time in holdover take one more second. -/
def State.integrated (s : State) (c : SteerCopy) : State :=
  let g := (List.range 5).map (fun i => fAdd (s.hld.integrals.getD i 0) ((s.regressor c.t0 c.tRef).getD i 0))
  s.withHld { s.hld with integrals := g }

/-- The uncertainty in ns after `tau` seconds of holdover (R137). -/
def State.holdoverNs (s : State) (c : SteerCopy) (tau : Nat) : Nat :=
  let g := s.hld.integrals
  let var := fAdd (fDot g (pMul c.p g)) (fDiv (fMul c.q (fInt (tau ^ 3))) (fInt 3))
  min (2 ^ 32 - 1) (fToInt (fMul (fMul (fInt 3) (fSqrt var)) (fRat 1000000000 (2 ^ 48))) 0).toNat

/-- The time in holdover and the uncertainty are shown. -/
def State.holdoverShown (s : State) (c : SteerCopy) (tau : Nat) : State :=
  (s.setRegN R.HLD_ELAPSED tau).setRegN R.HLD_UNC (s.holdoverNs c tau)

/-- A second of holdover has passed. -/
def State.holdoverRun (s : State) (c : SteerCopy) (tau : Nat) : State := (s.tempDue.integrated c).holdoverShown c tau

/-- The registers that the seconds of holdover change. -/
def holdoverRegs : List Nat := [R.HLD_STAT, R.HLD_TEMP, R.HLD_ELAPSED, R.HLD_UNC]

theorem holdoverRun_regs (s : State) (c : SteerCopy) (tau : Nat) : RegsKept holdoverRegs s (s.holdoverRun c tau) := by
  have htemp : RegsKept holdoverRegs s s.tempDue :=
    .ite ((RegsKept.step (State.closeY_same ..) (.refl ..)).trans (closeTemp_regs _).mono) (.refl ..)
  exact ((RegsKept.step (State.withHld_same ..) htemp).setReg _).setReg _

theorem holdoverRun_state (s : State) (c : SteerCopy) (tau : Nat) : Keeps [R.HLD_STAT_STATE] s (s.holdoverRun c tau) := by
  have htemp : Keeps [R.HLD_STAT_STATE] s s.tempDue :=
    .ite ((Keeps.step (State.closeY_same ..) (.refl ..)).trans (closeTemp_state _)) (.refl ..)
  refine (Keeps.step (State.withHld_same ..) htemp).trans
    (.of_regs (A := [R.HLD_ELAPSED, R.HLD_UNC]) (l := [.regs]) (((RegsKept.refl ..).setReg _).setReg _) ?_)
  exact .step (State.setRegN_same ..) (.step (State.setRegN_same ..) (.refl ..))

theorem holdoverRun_steer (s : State) (c : SteerCopy) (tau : Nat) : HldKept HldSt.steer s (s.holdoverRun c tau) := by
  have hclose : HldKept HldSt.steer s s.closeY.2 := .withHld (.withHld (.refl ..))
  have htemp : HldKept HldSt.steer s s.tempDue := .ite (hclose.trans (closeTemp_steer _)) (.refl ..)
  have hsum : ∀ u : State, HldKept HldSt.steer u (u.integrated c) := fun _ => .withHld (.refl ..)
  exact .step (State.setRegN_same ..) (.step (State.setRegN_same ..) (htemp.trans (hsum _)))

theorem holdoverRun_same (s : State) (c : SteerCopy) (tau : Nat) : Same [.regs, .hld] s (s.holdoverRun c tau) := by
  have htemp : Same [.regs, .hld] s s.tempDue :=
    .ite (.step (State.closeTemp_same ..) (.step (State.closeY_same ..) (.refl ..))) (.refl ..)
  exact .step (State.setRegN_same ..) (.step (State.setRegN_same ..) (.step (State.withHld_same ..) htemp))

theorem holdoverRun_elapsed (s : State) (c : SteerCopy) {tau : Nat} (h : tau < 2 ^ 32) :
    (s.holdoverRun c tau).regN R.HLD_ELAPSED = tau := by
  rw [State.holdoverRun, State.holdoverShown, regN_setRegN_other _ _ _ _ (by decide), regN_setRegN_same]
  exact Nat.mod_eq_of_lt h

theorem holdoverNs_lt (s : State) (c : SteerCopy) (tau : Nat) : s.holdoverNs c tau < 2 ^ 32 := by
  have hlt : ∀ n, min (2 ^ 32 - 1) n < 2 ^ 32 := fun n => by omega
  exact hlt _

/-- HLD_UNC holds the uncertainty. -/
theorem holdoverRun_unc (s : State) (c : SteerCopy) (tau : Nat) :
    (s.holdoverRun c tau).regN R.HLD_UNC = (s.tempDue.integrated c).holdoverNs c tau :=
  (regN_setRegN_same ..).trans (Nat.mod_eq_of_lt (holdoverNs_lt ..))

/-- The budget of the uncertainty in ns (R138). -/
def State.budgetPhase (s : State) : Nat := max 100 (s.fld R.HLD_BUDGET_PHASE)

/-- The budget of the time in h (R138). -/
def State.budgetHours (s : State) (c : SteerCopy) : Nat :=
  max 1 (min 72 (s.fld (if c.seasoned then R.HLD_BUDGET_TMAX_S else R.HLD_BUDGET_TMAX_U)))

/-- E134 warns once that the uncertainty is over three quarters of its budget (R138). -/
def State.budgetWarned (s : State) (ns : Nat) : State :=
  if !s.hld.warned && 3 * s.budgetPhase < 4 * ns then (s.withHld { s.hld with warned := true }).raise 134 else s

/-- The budget ends the holdover (R138). -/
def State.budgetJudged (s : State) (c : SteerCopy) (tau ns : Nat) : State :=
  if s.budgetPhase < ns || 3600 * s.budgetHours c ≤ tau then (s.budgetWarned ns).enterFreeRun else s.budgetWarned ns

theorem budgetWarned_regs (s : State) (ns : Nat) : RegsKept [R.EVT_PEND 4] s (s.budgetWarned ns) :=
  .ite (.raise (.step (State.withHld_same ..) (.refl ..))) (.refl ..)

theorem budgetWarned_same (s : State) (ns : Nat) : Same [.regs, .hld, .evt] s (s.budgetWarned ns) :=
  .ite (.step (State.raise_same ..) (.step (State.withHld_same ..) (.refl ..))) (.refl ..)

theorem budgetJudged_regs (s : State) (c : SteerCopy) (tau ns : Nat) :
    RegsKept [R.HLD_STAT, R.EVT_PEND 4] s (s.budgetJudged c tau ns) := by
  have hfree : ∀ u : State, RegsKept [R.HLD_STAT, R.EVT_PEND 4] u u.enterFreeRun := fun u => by
    have hset := ((RegsKept.refl [R.HLD_STAT, R.EVT_PEND 4] u).setFld (f := R.HLD_STAT_STATE) 0).setFld (f := R.HLD_STAT_ACQ) 0
    unfold State.enterFreeRun
    exact .ite hset hset.raise
  exact .ite ((budgetWarned_regs ..).mono.trans (hfree _)) (budgetWarned_regs ..).mono

theorem budgetJudged_steer (s : State) (c : SteerCopy) (tau ns : Nat) : HldKept HldSt.steer s (s.budgetJudged c tau ns) := by
  have hwarned : HldKept HldSt.steer s (s.budgetWarned ns) := .ite (.step (State.raise_same ..) (.withHld (.refl ..))) (.refl ..)
  exact .ite (.step (State.enterFreeRun_same ..) hwarned) hwarned

theorem budgetJudged_same (s : State) (c : SteerCopy) (tau ns : Nat) : Same [.regs, .hld, .evt] s (s.budgetJudged c tau ns) :=
  .ite (.step (State.enterFreeRun_same ..) (budgetWarned_same ..)) (budgetWarned_same ..)

/-- Entry to Free-run shows it, and raises E128 when HLD was not in it (R122, R138). -/
theorem enterFreeRun_spec (s : State) : s.enterFreeRun.fld R.HLD_STAT_STATE = 0 ∧
    (s.fld R.HLD_STAT_STATE ≠ 0 → s.live 7 = true → s.enterFreeRun.pends 128 = true) := by
  let u := (s.setFld R.HLD_STAT_STATE 0).setFld R.HLD_STAT_ACQ 0
  have he : s.enterFreeRun = if s.fld R.HLD_STAT_STATE = 0 then u else u.raise 128 := rfl
  have hstate : u.fld R.HLD_STAT_STATE = 0 :=
    (fld_setFld_apart _ _ _ _ (by decide)).trans (fld_setFld_same _ _ _ (by decide) (by decide))
  rw [he]
  split
  · next h0 => exact ⟨hstate, fun h => absurd h0 h⟩
  · exact ⟨(fld_raise _ _ _ (by decide)).trans hstate,
      fun _ h7 => raise_pends ((live_setFld ..).trans ((live_setFld ..).trans h7)) (by decide)⟩

section
variable {s : State} {c : SteerCopy} {tau ns : Nat}

/-- A budget that is used up ends the holdover. -/
theorem budgetJudged_over (h : s.budgetPhase < ns ∨ 3600 * s.budgetHours c ≤ tau) (hs : 2 ≤ s.fld R.HLD_STAT_STATE) :
    (s.budgetJudged c tau ns).fld R.HLD_STAT_STATE = 0 ∧ (s.live 7 = true → (s.budgetJudged c tau ns).pends 128 = true) := by
  have hjudged : s.budgetJudged c tau ns = (s.budgetWarned ns).enterFreeRun := if_pos (by simpa using h)
  have hstate : (s.budgetWarned ns).fld R.HLD_STAT_STATE = s.fld R.HLD_STAT_STATE := (budgetWarned_regs ..).fld
  have hlive : (s.budgetWarned ns).live 7 = s.live 7 := (budgetWarned_regs s ns).live (budgetWarned_same s ns) 7
  obtain ⟨hzero, hpends⟩ := enterFreeRun_spec (s.budgetWarned ns)
  rw [hjudged]
  exact ⟨hzero, fun h7 => hpends (by omega) (hlive.trans h7)⟩

/-- Within its budget the holdover goes on. -/
theorem budgetJudged_within (hp : ns ≤ s.budgetPhase) (ht : tau < 3600 * s.budgetHours c) :
    (s.budgetJudged c tau ns).fld R.HLD_STAT_STATE = s.fld R.HLD_STAT_STATE := by
  have hno : ¬ (decide (s.budgetPhase < ns) || decide (3600 * s.budgetHours c ≤ tau)) = true := by
    simp only [Bool.or_eq_true, decide_eq_true_eq]
    omega
  have hjudged : s.budgetJudged c tau ns = s.budgetWarned ns := if_neg hno
  rw [hjudged]
  exact (budgetWarned_regs ..).fld

/-- HOLDOVER_SECOND (R137, R138). -/
theorem exec_holdoverSecond (h1 : s.live 1 = true) (hc : s.hld.steer = some c) (htau : s.regN R.HLD_ELAPSED + 1 = tau) {x : State}
    (hx : (s.advanceTo (s.hld.entryAt + tau * 1000000000)).holdoverRun c tau = x) :
    exec .holdoverSecond s = .next (if x.dpll ≠ 3 ∨ x.fld R.HLD_STAT_STATE < 2 then x
      else x.budgetJudged c tau (x.regN R.HLD_UNC)) := by
  have hex : exec .holdoverSecond s = if x.dpll ≠ 3 || x.fld R.HLD_STAT_STATE < 2 then .next x else
      .next (x.budgetJudged c tau
        (((s.advanceTo (s.hld.entryAt + tau * 1000000000)).tempDue.integrated c).holdoverNs c tau)) := by
    rw [← hx]
    change execHoldoverSecond s = _
    unfold execHoldoverSecond
    rw [h1, hc, htau]
    rfl
  rw [← holdoverRun_unc, hx] at hex
  rw [hex]
  simp only [Bool.or_eq_true, decide_eq_true_eq]
  split <;> rfl

end

/-- Settles O16: each second comes to the state its exec lemma names. An update of the learner is an accepted or a rejected second
whatever its innovation; the model's correction is a code of the steering DAC; the time that passes before each leaves the
steering copy, and the shown budget ends or keeps the holdover. -/
theorem holdoverRunning : Obligations.HoldoverRunning := by
  unfold Obligations.HoldoverRunning
  refine ⟨?learner, ?lost, ?model, ?second⟩
  case learner =>
    intro s h1
    obtain ⟨t, hex, hlearnt⟩ := exec_learnerUpdate h1
    obtain ⟨hat, hsum, hcount, hvalid⟩ := Learnt.begun (secondEnd_eq s ▸ hlearnt)
    exact ⟨t, hex, hat, hsum, hcount, hvalid, fun hruns _ _ _ _ => hlearnt.judged hruns, (execLearnerUpdate_same s).of_next hex⟩
  case lost =>
    intro s h1 hf u
    exact ⟨_, exec_tempLost h1 hf, tempLost_spec u⟩
  case model =>
    intro s c code h1 hs u hc hsu hmode hsteer hold hbad hcode
    have hgave := modelGave_spec (modelApply_dac hc hsu hmode hsteer hold hbad hcode) (dacCode_lt hcode)
    exact ⟨_, exec_modelCorrection h1 hs, hgave⟩
  case second =>
    intro s c h1 hc htau tau u phase hours
    let x := u.holdoverRun c tau
    have hex := exec_holdoverSecond h1 hc rfl (x := x) rfl
    have hregs := holdoverRun_regs u c tau
    have hsame := holdoverRun_same u c tau
    have hstate : x.fld R.HLD_STAT_STATE = u.fld R.HLD_STAT_STATE := (holdoverRun_state u c tau).fld _ List.mem_cons_self
    have hdpll : x.dpll = u.dpll := hregs.fld
    have hphase : x.budgetPhase = phase := congrArg (max 100) hregs.fld
    have hhours : x.budgetHours c = hours := by
      have hmax : x.fld (if c.seasoned then R.HLD_BUDGET_TMAX_S else R.HLD_BUDGET_TMAX_U) =
          u.fld (if c.seasoned then R.HLD_BUDGET_TMAX_S else R.HLD_BUDGET_TMAX_U) := by
        split <;> exact hregs.fld
      exact congrArg (fun h => max 1 (min 72 h)) hmax
    have hlive : x.live 7 = u.live 7 := hregs.live hsame 7
    have hsteer : x.hld.steer = some c := ((holdoverRun_steer u c tau).eq.trans (advanceTo_steer s _).eq).trans hc
    have helapsed : x.regN R.HLD_ELAPSED = tau := holdoverRun_elapsed u c htau
    by_cases hout : x.dpll ≠ 3 ∨ x.fld R.HLD_STAT_STATE < 2
    · rw [if_pos hout] at hex
      refine ⟨x, hex, helapsed, hsteer, fun h3 h2 => ?_, fun h3 h2 => ?_, .step hsame (.refl ..)⟩ <;>
        exact absurd hout (by omega)
    · rw [if_neg hout] at hex
      have hjudged := budgetJudged_regs x c tau (x.regN R.HLD_UNC)
      have hunc : (x.budgetJudged c tau (x.regN R.HLD_UNC)).regN R.HLD_UNC = x.regN R.HLD_UNC := hjudged.regN
      refine ⟨_, hex, hjudged.regN.trans helapsed, (budgetJudged_steer ..).eq.trans hsteer, fun h3 h2 hover => ?_,
        fun h3 h2 hp ht => ?_, .step (budgetJudged_same ..) (.step hsame (.refl ..))⟩
      · rw [hunc, ← hphase, ← hhours] at hover
        rw [← hlive]
        exact budgetJudged_over hover (by omega)
      · rw [hunc, ← hphase] at hp
        rw [← hhours] at ht
        exact (budgetJudged_within hp ht).trans hstate

end Sys2Proof.Machine

/-! Saltern (chapter 06): a COPY beside a GO that was never cleared. -/

namespace Sys2Proof.Machine

/-- PD7 and PD12 are on beside PD0, no commit is under way, and MTX_COMMIT holds GO, which a write of that register clears as it acts
on it (chapter 06, Registers: GO reads 0). -/
def goHeld : State := (State.reset.setReg R.PWR_STATE0 0x01004001).setReg R.MTX_COMMIT 1

/-- The responder's own path reaches Saltern there (R89). -/
theorem goHeld_serves : goHeld.serves 0xE0 12 := by decide

theorem goHeld_idle : goHeld.mtxState = 0 := by decide

/-- A COPY starts, and the GO found beside it is then ignored, which raises E49 (R158, R168). -/
theorem goHeld_copied : (goHeld.writeFld 0xE0 R.MTX_COMMIT_COPY 1).pends 49 = true := by decide

theorem goHeld_quiet : goHeld.pends 49 = false := by decide

/-- Refutes O19: its clause on COPY does not ask that GO and ABORT be clear. A write of MTX_COMMIT acts on each of the three bits it
finds set, so a GO that the register holds is judged with the COPY and raises E49, which the clause's frame excludes. -/
theorem not_matrixTables : ¬ Obligations.MatrixTables := by
  unfold Obligations.MatrixTables
  rintro ⟨-, -, hcopy, -⟩
  obtain ⟨t, hex, -, -, hframe⟩ := hcopy goHeld 0xE0 goHeld_serves goHeld_idle
  obtain rfl : goHeld.writeFld 0xE0 R.MTX_COMMIT_COPY 1 = t := Host.Outcome.next.inj hex
  have hpend := goHeld_copied
  rw [State.pends, hframe.regN (by decide), ← State.pends, goHeld_quiet] at hpend
  exact absurd hpend (by decide)

end Sys2Proof.Machine

/-! Saltern (chapter 06): samples on their way through the skew buffers, the forming of transmit samples and the delay lines. -/

namespace Sys2Proof.Machine

-- Theorems one after another: a thread for each would take more memory than there is.
set_option Elab.async false

/-! ### Counts and frames -/

theorem framed_of_withMtx (s : State) (m : MtxSt) : s.framed (s.withMtx m) [.mtx] [] := framed_of_same (State.withMtx_same ..)

/-- A counter that wraps, and whose overflow flag is in another register, holds the sum (R84). -/
theorem countN_regN (s : State) (c : Ctr) (n : Nat) (hsat : c.sat = false) (hovf : ∀ f ∈ c.ovf, f.addr ≠ c.addr) :
    (s.countN c n).regN c.addr = (s.regN c.addr + n) % 2 ^ 32 := by
  unfold State.countN
  simp only [hsat, Bool.false_eq_true, if_false]
  split
  · exact regN_setRegN_same ..
  · split
    · next f hf => exact (regN_setFld_other _ _ _ _ (hovf f hf)).trans (regN_setRegN_same ..)
    · exact regN_setRegN_same ..

theorem count_framed (s : State) (c : Ctr) : s.framed (s.count c) [.regs, .dict] c.regs := ⟨State.count_same .., (count_regs s c).eq⟩

/-- MTX_GAP counts one sample. -/
theorem gap_regN (s : State) : (s.count C.MTX_GAP).regN C.MTX_GAP.addr = (s.regN C.MTX_GAP.addr + 1) % 2 ^ 32 :=
  countN_regN s C.MTX_GAP 1 rfl (by decide)

/-- A lane transmits as before when no register of a lane or of the domains changes. -/
theorem RegsKept.laneSends {A : List Nat} {l : List Part} {s t : State} (h : RegsKept A s t) (g : Same l s t) (n : Nat)
    (hA : ∀ a ∈ A, a < R.LNE_CTRL 0 := by decide) (h0 : R.PWR_STATE0 ∉ A := by decide) (h1 : R.PWR_STATE1 ∉ A := by decide)
    (hr : Part.rst ∉ l := by decide) (hl : Part.lanes ∉ l := by decide) : t.laneSends n = s.laneSends n := by
  have hctrl : R.LNE_CTRL n ∉ A := fun hmem => by
    have hlt := hA _ hmem
    simp only [R.LNE_CTRL] at hlt
    omega
  have hen : t.flag (R.LNE_CTRL_EN n) = s.flag (R.LNE_CTRL_EN n) := h.flag hctrl
  have hprbs : t.flag (R.LNE_CTRL_PRBS n) = s.flag (R.LNE_CTRL_PRBS n) := h.flag hctrl
  simp only [State.laneSends, State.lane, h.live g _ h0 h1 hr, hen, hprbs, g.lanes hl]

/-! ### Samples that leave (R166) -/

theorem tx_modTx_same (s : State) (g : Nat) (f : TxCont → TxCont) : (s.modTx g f).tx g = f (s.tx g) := tget_tput_same ..

/-- No capture takes a sample while none runs. -/
theorem capSample_idle {s : State} (h : s.fld R.MTX_CAP_STAT_STATE = 0) (dir g : Nat) (x : TxSample) : s.capSample dir g x = s := by
  simp [State.capSample, h]

/-- With no capture, a sample joins those that wait for its lane. -/
theorem emit_queued {s : State} {g : Nat} (hcap : s.fld R.MTX_CAP_STAT_STATE = 0) (hl : s.laneSends (g / 64) = true) (x : TxSample) :
    s.emit g x = s.modTx g (fun c => { c with out := c.out ++ [x] }) := by
  simp only [State.emit, capSample_idle hcap, hl, if_true]

/-! ### Samples that arrive (R164, R165) -/

/-- A skew buffer that has room takes a sample. -/
theorem skewPut_room {s : State} {k : Nat} (h : (tget [] s.mtx.skew k).length < 256) (x : RxSample) :
    s.skewPut k x = s.withMtx { s.mtx with skew := tput s.mtx.skew k (tget [] s.mtx.skew k ++ [x]) } := by
  simp only [State.skewPut, if_neg (Nat.not_le.2 h)]

/-- Different skew buffers that have room each take the sample; nothing else changes. -/
theorem skewPut_all (x : RxSample) : ∀ (keys : List Nat) (s : State), keys.Nodup →
    (∀ k ∈ keys, (tget [] s.mtx.skew k).length < 256) →
    let t := keys.foldl (fun s k => s.skewPut k x) s
    (∀ k, tget [] t.mtx.skew k = if k ∈ keys then tget [] s.mtx.skew k ++ [x] else tget [] s.mtx.skew k) ∧
      t.mtx.recv = s.mtx.recv ∧ Same [.mtx] s t
  | [], s, _, _ => ⟨fun k => by simp, rfl, .refl ..⟩
  | a :: keys, s, hnd, hroom => by
    obtain ⟨ha, hnd⟩ := List.nodup_cons.1 hnd
    have hput := skewPut_room (hroom a List.mem_cons_self) x
    have hother : ∀ k, k ≠ a → tget [] (s.skewPut a x).mtx.skew k = tget [] s.mtx.skew k := fun k hk => by
      rw [hput]
      exact tget_tput_other _ _ _ _ _ hk.symm
    have hkeys : ∀ k ∈ keys, k ≠ a := fun k hk e => ha (e ▸ hk)
    obtain ⟨hskew, hrecv, hsame⟩ := skewPut_all x keys (s.skewPut a x) hnd
      (fun k hk => by rw [hother k (hkeys k hk)]; exact hroom k (List.mem_cons_of_mem _ hk))
    refine ⟨fun k => ?_, hrecv.trans (by rw [hput]; rfl), .step hsame (hput ▸ State.withMtx_same ..)⟩
    refine (hskew k).trans ?_
    by_cases hk : k = a
    · subst hk
      rw [if_neg ha, if_pos List.mem_cons_self, hput]
      exact tget_tput_same ..
    · simp [hk, hother k hk]

/-- A late sample is counted and discarded (R165). -/
theorem deliver_late {s : State} {c n : Nat} {x : RxSample} (hn : (s.recv c).next = some n) (ht : x.time < n) :
    s.deliver c x = s.count C.MTX_GAP := by
  simp [State.deliver, hn, ht]

/-- The container expects its next sample a period after this one. -/
def State.received (s : State) (c : Nat) (x : RxSample) : State :=
  s.withMtx { s.mtx with recv := tput s.mtx.recv c ⟨some (x.time + s.period 0 c), s.now, false⟩ }

/-- A confirmed sample that arrives in order goes into the skew buffers of its container, past a capture that does not run. -/
theorem deliver_inOrder {s : State} {c : Nat} {x : RxSample} (hn : (s.recv c).next = none ∨ (s.recv c).next = some x.time)
    (hu : x.unit = 0) (hcap : s.fld R.MTX_CAP_STAT_STATE = 0) :
    s.deliver c x = (s.skewKeys c x.time).foldl (fun s k => s.skewPut k x) (s.received c x) := by
  have hnext : (s.recv c).next.getD x.time = x.time := by rcases hn with h | h <;> rw [h] <;> rfl
  have hidle : ∀ y, (s.received c x).capSample 0 c y = s.received c x := fun y => capSample_idle (s := s.received c x) hcap 0 c y
  have hkeys : (s.received c x).skewKeys c x.time = s.skewKeys c x.time := rfl
  simp only [State.deliver, hnext, Nat.lt_irrefl, if_false, hu, decide_true, Bool.or_true, if_true]
  change ((((s.received c x).capSample 0 c _).skewKeys c x.time).foldl _ ((s.received c x).capSample 0 c _)) = _
  rw [hidle, hkeys]

section
variable {s : State} {c : Fin 1536} (h12 : s.live 12 = true) (hl : s.laneLocked (c.val / 64) = true)
  (hc : s.contOn 0 c.val = true) (hp : s.flag (R.LNE_CTRL_PRBS (c.val / 64)) = false) (hu : tget [] s.mtx.units c.val = [])
include h12 hl hc hp hu

/-- A sample that no unconfirmed unit holds is delivered (R154, R177). -/
theorem exec_sourceSampleArrival (time : Nat) (e : BitVec 4) (i q : BitVec 16) (blank : Bool) :
    exec (.sourceSampleArrival c time e i q blank false false) s = .next (s.deliver c.val
      ⟨time, if blank then 0 else unpackCode (s.cont 0 c.val) i.toNat e.toNat,
        if blank then 0 else unpackCode (s.cont 0 c.val) q.toNat e.toNat, blank, 0⟩) := by
  change execSourceSampleArrival c time e i q blank false false s = _
  simp [execSourceSampleArrival, State.sampleIn, h12, hl, hc, hp, hu]

end

/-! ### A silent source (R165) -/

/-- A source lapses. -/
def State.sourceLapsed (s : State) (c : Nat) : State :=
  (s.withMtx { s.mtx with recv := tmod {} s.mtx.recv c (fun r => { r with lapsed := true }) }).count C.MTX_GAP

theorem exec_sourceTimeout {s : State} {g : Fin 1536} {slot : Fin 4} {c : Nat} (h12 : s.live 12 = true)
    (hr : routeEn s.mtx.day g.val = true) (hc : nbits (entryWord s.mtx.day g.val (2 + slot.val)) 10 0 = c)
    (ha : s.srcAbsent c = false) :
    exec (.sourceTimeout g slot) s = .next ((s.advanceTo ((s.recv c).lastAt + 1000 * s.srcTimeout)).sourceLapsed c) := by
  subst hc
  change execSourceTimeout g slot s = _
  simp only [execSourceTimeout, h12, hr, ha]
  rfl

/-- Of the receive containers, that of the source alone differs. -/
theorem sourceLapsed_recv (s : State) (c d : Nat) :
    (s.sourceLapsed c).recv d = if c = d then { s.recv c with lapsed := true } else s.recv d := by
  have hmtx : (s.sourceLapsed c).mtx = _ := (State.count_same ..).mtx (by decide)
  rw [State.recv, hmtx]
  exact tget_tput ..

/-! ### Forming a transmit sample (R161 to R166) -/

/-- With no commit armed, every sample falls to the Day entry. -/
theorem underEve_unarmed {s : State} (h : s.mtxState ≠ 2) (g t : Nat) : s.underEve g t = false := by
  simp [State.underEve, h]

/-- A container whose route is off gives a blank sample (R153). -/
theorem mixSample_off {s : State} {g : Nat} {tab : List (Nat × Word)} (t : Nat) (eve : Bool)
    (h : s.flag R.MTX_CTRL_EN = false ∨ routeEn tab g = false) : s.mixSample g t eve tab = some (⟨t, 0, 0, true, []⟩, s) := by
  unfold State.mixSample
  rw [if_pos (by simpa using h)]

/-- The container's samples up to a time leave the skew buffer of a direct source. -/
def State.skewUsed (s : State) (key t : Nat) : State :=
  s.withMtx { s.mtx with skew := tput s.mtx.skew key ((tget [] s.mtx.skew key).filter (fun x => t < x.time)) }

section
variable {s : State} {r : RouteSrc} {n : Nat} (hr : r.conv = none) (ha : s.srcAbsent r.src = false)
  (hn : (s.recv r.src).next = some n)
include hr ha hn

/-- A present direct source that has not delivered a sample is waited for (R163). -/
theorem contribute_waits {t : Nat} (ht : n ≤ t) (eve : Bool) (g : Nat) : s.contribute eve g t r = none := by
  simp [State.contribute, hr, ha, hn, ht]

/-- The confirmed sample of a direct source, with its gain (R161, R163). -/
theorem contribute_direct {g t : Nat} {eve : Bool} {x : RxSample} (ht : t < n)
    (hx : (tget [] s.mtx.skew (slotKey eve g r.slot)).find? (fun z => z.time == t) = some x) (hb : x.blank = false)
    (hu : x.unit = 0) :
    s.contribute eve g t r = some (⟨roundAway (x.i * gainOf r.gain) (2 ^ 60), roundAway (x.q * gainOf r.gain) (2 ^ 60), false, []⟩,
      s.skewUsed (slotKey eve g r.slot) t) := by
  simp only [State.contribute, hr, ha, hn, if_neg (Nat.not_le.2 ht), hx, hb, hu]
  rfl

end

theorem clampI_inside {lo hi v : Int} (hlo : lo ≤ v) (hhi : v ≤ hi) : clampI lo hi v = v := by
  rw [clampI, if_neg (Int.not_lt.2 hlo), if_neg (Int.not_lt.2 hhi)]

section
variable {s : State} {g : Nat} {tab : List (Nat × Word)} {r : RouteSrc} (hen : s.flag R.MTX_CTRL_EN = true)
  (hr : routeEn tab g = true) (hs : routeSources tab g = [r])
include hen hr hs

/-- The sample of a route with one source waits for it. -/
theorem mixSample_waits {t : Nat} {eve : Bool} (h : s.contribute eve g t r = none) : s.mixSample g t eve tab = none := by
  simp [State.mixSample, State.contributeAll, hen, hr, hs, h]

/-- The sample of a route with one source is what that source gives, when it is within the samples' range. -/
theorem mixSample_single {t : Nat} {eve : Bool} {i q : Int} {u : State}
    (h : s.contribute eve g t r = some (⟨i, q, false, []⟩, u)) (hi : -8388608 ≤ i ∧ i ≤ 8388607)
    (hq : -8388608 ≤ q ∧ q ≤ 8388607) : s.mixSample g t eve tab = some (⟨t, i, q, false, []⟩, u) := by
  have hsum : ∀ v : Int, -8388608 ≤ v → v ≤ 8388607 → clampI (-134217728) 134217727 v = v := fun v hlo hhi =>
    clampI_inside (by omega) (by omega)
  simp [State.mixSample, State.contributeAll, hen, hr, hs, h, hsum _ hi.1 hi.2, hsum _ hq.1 hq.2, clampI_inside hi.1 hi.2,
    clampI_inside hq.1 hq.2]

end

/-- The sample that a container formed joins those that wait for its lane, and its next one is due a period later. -/
def State.formed (s : State) (g next : Nat) (x : TxSample) : State :=
  (s.modTx g (fun c => { c with next := some next })).modTx g (fun c => { c with out := c.out ++ [x] })

/-- A confirmed sample of a route without delay leaves for its lane (R161, R166). -/
theorem exec_transmitSampleFormed {s : State} {g : Fin 1536} {x : TxSample} {m : MtxSt} (h12 : s.live 12 = true)
    (h2 : s.mtxState ≠ 2) (hmix : s.mixSample g.val (s.txNext g.val) false s.mtx.day = some (x, s.withMtx m)) (hx : x.deps = [])
    (hd : routeEn s.mtx.day g.val = false ∨ nbit (entryWord s.mtx.day g.val 0) 27 = false)
    (hcap : s.fld R.MTX_CAP_STAT_STATE = 0) (hl : s.laneSends (g.val / 64) = true) :
    exec (.transmitSampleFormed g) s =
      .next ((s.withMtx m).formed g.val (s.txNext g.val + s.period 1 g.val) x) := by
  have hlate : (routeEn s.mtx.day g.val && nbit (entryWord s.mtx.day g.val 0) 27) = false := by
    rcases hd with h | h <;> simp [h]
  have hemit := emit_queued (s := (s.withMtx m).modTx g.val (fun c => { c with next := some (s.txNext g.val + s.period 1 g.val) }))
    (g := g.val) hcap hl x
  change execTransmitSampleFormed g s = _
  simp only [execTransmitSampleFormed, State.formSample, underEve_unarmed h2, h12, Bool.false_eq_true, if_false, hmix, hlate, hx,
    State.noteUse, List.isEmpty_nil, if_true, hemit]
  rfl

/-- The state of a container that formed a sample. -/
theorem formed_spec {s : State} {m : MtxSt} {g : Nat} (next : Nat) (x : TxSample) (hm : m.conts = s.mtx.conts) :
    let t := (s.withMtx m).formed g next x
    (t.tx g).next = some next ∧ (t.tx g).out = (s.tx g).out ++ [x] ∧ s.framed t [.mtx] [] := by
  have htx : (s.withMtx m).tx g = s.tx g := by rw [State.tx, State.withMtx_mtx, hm, State.tx]
  refine ⟨?_, ?_, framed_of_same (.step (State.modTx_same ..) (.step (State.modTx_same ..) (State.withMtx_same ..)))⟩
  · rw [State.formed, tx_modTx_same, tx_modTx_same]
  · rw [State.formed, tx_modTx_same, tx_modTx_same, htx]

/-- A container whose source is waited for forms nothing. -/
theorem exec_transmitSampleFormed_waits {s : State} {g : Fin 1536} (h12 : s.live 12 = true) (h2 : s.mtxState ≠ 2)
    (hmix : s.mixSample g.val (s.txNext g.val) false s.mtx.day = none) : exec (.transmitSampleFormed g) s = .next s := by
  change execTransmitSampleFormed g s = _
  simp [execTransmitSampleFormed, State.formSample, underEve_unarmed h2, h12, hmix]

/-! ### Delay lines (R183 to R186, R452) -/

/-- A line whose output instant `due` has passed; its period is `p`. -/
def LineSt.passed (l : LineSt) (due p : Nat) : LineSt :=
  { l with next := some (due + p), ents := l.ents.filter (fun e => due < e.due) }

/-- The output instant `due` of a line passes. -/
def State.linePassed (s : State) (line due : Nat) (l : LineSt) : State :=
  s.withMtx { s.mtx with lines := tput s.mtx.lines line (l.passed due (s.period 1 l.cont)) }

theorem linePassed_line (s : State) (line due : Nat) (l : LineSt) :
    tget {} (s.linePassed line due l).mtx.lines line = l.passed due (s.period 1 l.cont) := tget_tput_same ..

/-- The entry of an output instant leaves as it is: it was lost and counted before, or it is read back and the DRAM is not frozen. -/
abbrev LineEnt.leaves (e : LineEnt) (s : State) : Prop := e.place = 4 ∨ (e.place = 3 ∧ s.flag R.DMC_STAT_FROZEN = false)

theorem exec_delayLineOutput {s : State} {line : Fin 384} {l : LineSt} {due : Nat} {e : LineEnt} (h12 : s.live 12 = true)
    (hl : tget {} s.mtx.lines line.val = l) (hn : l.next = some due) (he : l.ents.find? (fun x => x.due == due) = some e) :
    exec (.delayLineOutput line) s = .next (if e.leaves s then (s.linePassed line.val due l).emit l.cont { e.smp with time := due }
      else ((s.linePassed line.val due l).delayLost 1).emit l.cont ⟨due, 0, 0, true, []⟩) := by
  have hfrozen : (s.linePassed line.val due l).flag R.DMC_STAT_FROZEN = s.flag R.DMC_STAT_FROZEN := rfl
  have hleaves : (decide (e.place = 4) || (e.place == 3 && !(s.linePassed line.val due l).flag R.DMC_STAT_FROZEN)) = true ↔
      e.leaves s := by
    rw [hfrozen]
    simp [LineEnt.leaves]
  subst hl
  change execDelayLineOutput line s = _
  simp only [execDelayLineOutput, h12, hn, he]
  refine (if_congr hleaves rfl rfl).trans ?_
  split <;> rfl

/-- The registers that a lost delayed sample changes. -/
def lostRegs : List Nat := R.EVT_PEND 1 :: C.MTX_DLY_LOST.regs

theorem raiseLimited_regs (s : State) (k : Nat) : RegsKept [R.EVT_PEND (k / 32)] s (s.raiseLimited k) := by
  have hraise : ∀ m, RegsKept [R.EVT_PEND (k / 32)] s ((s.withMtx m).raise k) := fun m =>
    .raise (.step (State.withMtx_same ..) (.refl ..)) (List.mem_singleton_self _)
  unfold State.raiseLimited
  dsimp only
  split
  · exact .ite (.refl ..) (hraise _)
  · exact hraise _

theorem raiseLimited_conts (s : State) (k : Nat) :
    (s.raiseLimited k).mtx.conts = s.mtx.conts ∧ (s.raiseLimited k).mtx.lines = s.mtx.lines := by
  have hraise : ∀ m, ((s.withMtx m).raise k).mtx = m := fun m => (State.raise_same ..).mtx (by decide)
  unfold State.raiseLimited
  dsimp only
  split
  · split
    · exact ⟨rfl, rfl⟩
    · rw [hraise]; exact ⟨rfl, rfl⟩
  · rw [hraise]; exact ⟨rfl, rfl⟩

/-- A lost delayed sample is counted, with E51 (R186); the containers and the lines stand. -/
theorem delayLost_one (s : State) :
    (s.delayLost 1).regN C.MTX_DLY_LOST.addr = (s.regN C.MTX_DLY_LOST.addr + 1) % 2 ^ 32 ∧
      (s.delayLost 1).mtx.conts = s.mtx.conts ∧ (s.delayLost 1).mtx.lines = s.mtx.lines ∧ RegsKept lostRegs s (s.delayLost 1) := by
  have hmtx : (s.countN C.MTX_DLY_LOST 1).mtx = s.mtx := (State.countN_same ..).mtx (by decide)
  obtain ⟨hconts, hlines⟩ := raiseLimited_conts (s.countN C.MTX_DLY_LOST 1) 51
  refine ⟨?_, hconts.trans (by rw [hmtx]), hlines.trans (by rw [hmtx]),
    (count_regs s C.MTX_DLY_LOST).mono.trans (raiseLimited_regs _ 51).mono⟩
  exact (raiseLimited_regs _ 51).regN.trans (countN_regN s C.MTX_DLY_LOST 1 rfl (by decide))

/-- Settles O20: a sample is put into each skew buffer of its container, formed from its one source, or taken off its delay line, and
what counts it changes no register that its way depends on. That a delayed sample read back before a freeze is blanked and
counted is the model's choice (log entry 92). -/
theorem matrixSamples : Obligations.MatrixSamples := by
  unfold Obligations.MatrixSamples
  refine ⟨?inOrder, ?late, ?silent, ?off, ?direct, ?waits, ?delayed, ?lost⟩
  case inOrder =>
    intro s c time e i q blank h12 hl hc hp hu hn hcap hnd hroom x
    have hex := exec_sourceSampleArrival h12 hl hc hp hu time e i q blank
    rw [deliver_inOrder (x := x) hn rfl hcap] at hex
    obtain ⟨hskew, hrecv, hsame⟩ := skewPut_all x (s.skewKeys c.val time) (s.received c.val x) hnd hroom
    refine ⟨_, hex, ?_, hskew, framed_of_same (.step hsame (State.withMtx_same ..))⟩
    rw [State.recv, hrecv]
    exact tget_tput_same ..
  case late =>
    intro s c time n e i q blank h12 hl hc hp hu hn ht
    have hex := exec_sourceSampleArrival h12 hl hc hp hu time e i q blank
    rw [deliver_late hn ht] at hex
    exact ⟨_, hex, gap_regN s, count_framed s C.MTX_GAP⟩
  case silent =>
    intro s g slot c u h12 hr ha
    have hlapsed : (u.sourceLapsed c).recv c = { u.recv c with lapsed := true } := (sourceLapsed_recv u c c).trans (if_pos rfl)
    refine ⟨_, exec_sourceTimeout h12 hr rfl ha, by rw [hlapsed], ?_, fun d hd => ?_, gap_regN _,
      (framed_of_withMtx u _).trans (count_framed _ C.MTX_GAP)⟩
    · rw [State.srcAbsent, hlapsed, Bool.or_true]
    · rw [sourceLapsed_recv, if_neg (Ne.symm hd)]
  case off =>
    intro s g h12 h2 hcap hl hoff hd
    exact ⟨_, exec_transmitSampleFormed (m := s.mtx) h12 h2 (mixSample_off _ false hoff) rfl hd hcap hl, formed_spec _ _ rfl⟩
  case direct =>
    intro s g r x n time y h12 h2 hen hr hd hcap hl hs hconv ha hn ht hx hb hu hi hi' hq hq'
    have hmix := mixSample_single hen hr hs (contribute_direct hconv ha hn ht hx hb hu) ⟨hi, hi'⟩ ⟨hq, hq'⟩
    exact ⟨_, exec_transmitSampleFormed h12 h2 hmix rfl (.inr hd) hcap hl, formed_spec _ _ rfl⟩
  case waits =>
    intro s g r n h12 h2 hen hr hs hconv ha hn ht
    exact exec_transmitSampleFormed_waits h12 h2 (mixSample_waits hen hr hs (contribute_waits hconv ha hn ht false g.val))
  case delayed =>
    intro s line l due e h12 hl hn he hp hcap hsends
    have hex := exec_delayLineOutput h12 hl hn he
    rw [if_pos hp, emit_queued (s := s.linePassed line.val due l) hcap hsends] at hex
    refine ⟨_, hex, ?_, ?_, framed_of_same (.step (State.modTx_same ..) (State.withMtx_same ..))⟩
    · rw [tx_modTx_same]
      rfl
    · exact congrArg LineSt.next (linePassed_line s line.val due l)
  case lost =>
    intro s line l due e h12 hl hn he hp hcap hsends
    let u := s.linePassed line.val due l
    obtain ⟨hcount, hconts, hlines, hregs⟩ := delayLost_one u
    have hlost := State.delayLost_same u 1
    have hstays : ¬ e.leaves s := by
      rintro (h | ⟨h3, hf⟩)
      · omega
      · rcases hp with h | ⟨-, h⟩
        · omega
        · exact absurd (hf.symm.trans h) (by decide)
    have hex := exec_delayLineOutput h12 hl hn he
    rw [if_neg hstays, emit_queued (hregs.fld.trans hcap) ((hregs.laneSends hlost _).trans hsends)] at hex
    refine ⟨_, hex, ?_, hcount, ?_, ?_⟩
    · rw [tx_modTx_same, State.tx, hconts]
      rfl
    · refine congrArg LineSt.next ((congrArg (tget {} · line.val) hlines).trans (linePassed_line s line.val due l))
    · exact ((framed_of_withMtx s _).trans ⟨hlost, hregs.eq⟩ (hB := List.Subset.refl _)).step (State.modTx_same ..)

end Sys2Proof.Machine

/-! Lanes (chapter 07): the confirmation of a frame for a container that is not there. -/

namespace Sys2Proof.Machine

/-! ### A frame at its FCS (R190, R204) -/

/-- A good frame on an Ethernet lane without RS-FEC counts in LNE_RXUNIT and ends. -/
theorem exec_ethernetFrameReceived_good {s : State} {p : Fin 25} (hp : p.val ≠ 24) (hr : s.receives p.val = true)
    (hv : s.varlas p.val = false) (hb : s.flag (R.LNE_STAT_BLOCK_LOCK p.val) = true) (hm : s.laneMode p.val ≠ 1)
    (hbad : (s.lane p.val).rx.any (fun f => f.bad) = false) (cor unc : Byte) :
    exec (.ethernetFrameReceived p true false cor unc none) s =
      .next ((s.laneCount p.val (C.LNE_RXUNIT p.val) 1).frameEnd p.val true) := by
  have hok : ((s.lane p.val).rx.map (·.bad)).getD false = false := by
    cases h : (s.lane p.val).rx with
    | none => rfl
    | some f => simpa [h] using hbad
  change execEthernetFrameReceived p true false cor unc none s = _
  simp [execEthernetFrameReceived, hp, hr, hv, hb, hm, hok]

/-! ### A container out of range -/

/-- The number of a container beyond the 1536 there are: MTX_FWD of its lane would stand where LNE_RXUNIT of L0 does. -/
def strayCont : Nat := 64 * 8160

theorem strayCont_fwd : R.MTX_FWD (strayCont / 64) = R.LNE_RXUNIT 0 := by decide

/-- PD14 is on beside PD0, L0 is an enabled Ethernet lane in block lock, and the frame it receives fills a unit of that container,
which a route has forwarded. -/
def strayFrame : State :=
  ((((State.reset.setReg R.PWR_STATE0 0x10000001).setReg (R.LNE_CTRL 0) 0x8000).setReg (R.LNE_STAT 0) 1).modLane 0
    (fun l => { l with rx := some { dest := 1, cont := some strayCont } })).withMtx
      { State.reset.mtx with units := [(strayCont, [{ serial := 1, fwd := true }])] }

theorem strayFrame_received : exec (.ethernetFrameReceived 0 true false 0 0 none) strayFrame =
    .next ((strayFrame.laneCount 0 (C.LNE_RXUNIT 0) 1).frameEnd 0 true) :=
  exec_ethernetFrameReceived_good (p := 0) (by decide) (by decide) (by decide) (by decide) (by decide) (by decide) 0 0

/-- The frame counts once as a unit of L0 and once as a forwarded unit of its container, in the same register. -/
theorem strayFrame_counted : strayFrame.regN (R.LNE_RXUNIT 0) = 0 ∧
    ((strayFrame.laneCount 0 (C.LNE_RXUNIT 0) 1).frameEnd 0 true).regN (R.LNE_RXUNIT 0) = 2 := by decide

/-- Refutes O24: its clause on good frames does not say that the container the frame fills is one of the 1536. For a number beyond
them the count of forwarded units (R178) falls on LNE_RXUNIT, which then rises by 2. -/
theorem not_laneReceives : ¬ Obligations.LaneReceives := by
  unfold Obligations.LaneReceives
  rintro ⟨hgood, -⟩
  obtain ⟨t, hex, hcount, -⟩ := hgood strayFrame 0 0 0 0 rfl (by decide) (by decide) (by decide) (by decide)
  obtain ⟨hbefore, hafter⟩ := strayFrame_counted
  obtain rfl := Host.Outcome.next.inj (strayFrame_received.symm.trans hex)
  rw [show (C.LNE_RXUNIT (0 : Fin 24).val).addr = R.LNE_RXUNIT 0 from rfl, hbefore, hafter] at hcount
  exact absurd hcount (by decide)

end Sys2Proof.Machine

/-! Lanes (chapter 07): what an enabled lane sends, counts and reports, and the loss of a lock beside a container that is not
there. -/

namespace Sys2Proof.Machine

-- Theorems one after another: a thread for each would take more memory than there is.
set_option Elab.async false

/-! ### Counters and events of a lane (R84, R215) -/

theorem countN_regs (s : State) (c : Ctr) (k : Nat) : RegsKept c.regs s (s.countN c k) := by
  have hdict : RegsKept c.regs s (s.countDict c.addr 0 k) := .step (State.countDict_same ..) (.refl ..)
  have haddr : c.addr ∈ c.regs := List.mem_cons_self
  unfold State.countN
  refine .ite (hdict.setReg _ haddr) (.ite (hdict.setReg _ haddr) ?_)
  split
  · next f hf => exact (hdict.setReg _ haddr).setFld _ (by simp [Ctr.regs, hf])
  · exact hdict.setReg _ haddr

/-- The state in which a cause of lane n stands in LNE_EVT. -/
def State.causeSet (s : State) (n bit : Nat) : State := s.setRegN (R.LNE_EVT n) (nput (s.regN (R.LNE_EVT n)) bit bit 1)

/-- A cause that stands already changes nothing. -/
theorem laneEvent_standing {s : State} {n bit : Nat} (h : nbit (s.regN (R.LNE_EVT n)) bit = true) : s.laneEvent n bit = s := by
  simp [State.laneEvent, h]

/-- Another cause is set, and where it is enabled raises the lane's event. -/
theorem laneEvent_new {s : State} {n bit : Nat} (h : nbit (s.regN (R.LNE_EVT n)) bit = false) :
    s.laneEvent n bit =
      if nbit (s.regN (R.LNE_EVTEN n)) bit then (s.causeSet n bit).raise (16 + n) else s.causeSet n bit := by
  have hen : (s.causeSet n bit).regN (R.LNE_EVTEN n) = s.regN (R.LNE_EVTEN n) :=
    regN_setRegN_other _ _ _ _ (by simp only [R.LNE_EVT, R.LNE_EVTEN]; omega)
  rw [← hen]
  simp only [State.laneEvent, h, Bool.false_eq_true, if_false]
  rfl

theorem causeSet_regs (s : State) (n bit : Nat) : RegsKept (laneEvents n) s (s.causeSet n bit) :=
  (RegsKept.refl ..).setReg _ (by simp [laneEvents])

theorem laneEvent_regs (s : State) (n bit : Nat) : RegsKept (laneEvents n) s (s.laneEvent n bit) := by
  cases h : nbit (s.regN (R.LNE_EVT n)) bit with
  | true => rw [laneEvent_standing h]; exact .refl ..
  | false => rw [laneEvent_new h]; exact .ite ((causeSet_regs s n bit).raise (by simp [laneEvents])) (causeSet_regs s n bit)

/-- A lane's count changes the counter, its overflow flag and what an event of the lane changes. -/
theorem laneCount_regs (s : State) (n : Nat) (c : Ctr) (k : Nat) :
    RegsKept (c.regs ++ laneEvents n) s (s.laneCount n c k) := by
  have hcount : RegsKept (c.regs ++ laneEvents n) s (s.countN c k) := (countN_regs s c k).mono (by simp)
  exact .ite (.refl ..) (.ite (hcount.trans ((laneEvent_regs _ n 5).mono (by simp))) hcount)

/-- A counter of an enabled lane holds the sum. -/
theorem laneCount_regN {s : State} {n k : Nat} {c : Ctr} (hen : s.flag (R.LNE_CTRL_EN n) = true) (hk : k ≠ 0)
    (hsat : c.sat = false) (hovf : ∀ f ∈ c.ovf, f.addr ≠ c.addr) (hc : c.addr ∉ laneEvents n) :
    (s.laneCount n c k).regN c.addr = (s.regN c.addr + k) % 2 ^ 32 := by
  rw [← countN_regN s c k hsat hovf]
  simp only [State.laneCount, hen, hk, Bool.not_true, decide_false, Bool.or_self, Bool.false_eq_true, if_false]
  split
  · exact (laneEvent_regs _ n 5).regN hc
  · rfl

/-! ### Causes that only rise -/

/-- The registers on which it rests what causes lane n has and whether their event is raised. -/
def laneSignals (n : Nat) : List Nat :=
  [R.LNE_EVT n, R.LNE_EVTEN n, R.EVT_PEND ((16 + n) / 32), R.PWR_STATE0, R.PWR_STATE1]

/-- From one state to another the causes of lane n only rise, each that is enabled with the lane's event. -/
structure LaneRises (n : Nat) (s t : State) : Prop where
  enables : t.regN (R.LNE_EVTEN n) = s.regN (R.LNE_EVTEN n)
  live : t.live 7 = s.live 7
  keeps : ∀ j, j < 32 → nbit (s.regN (R.LNE_EVT n)) j = true → nbit (t.regN (R.LNE_EVT n)) j = true
  pends : s.pends (16 + n) = true → t.pends (16 + n) = true
  raises : ∀ j, j < 32 → nbit (s.regN (R.LNE_EVT n)) j = false → nbit (t.regN (R.LNE_EVT n)) j = true →
    nbit (s.regN (R.LNE_EVTEN n)) j = true → s.live 7 = true → t.pends (16 + n) = true

theorem LaneRises.refl (n : Nat) (s : State) : LaneRises n s s :=
  ⟨rfl, rfl, fun _ _ h => h, id, fun _ _ h0 h1 => absurd (h0.symm.trans h1) (by decide)⟩

theorem LaneRises.trans {n : Nat} {s t u : State} (h : LaneRises n s t) (g : LaneRises n t u) : LaneRises n s u where
  enables := g.enables.trans h.enables
  live := g.live.trans h.live
  keeps j hj hs := g.keeps j hj (h.keeps j hj hs)
  pends hs := g.pends (h.pends hs)
  raises j hj h0 h1 hen h7 := by
    cases ht : nbit (t.regN (R.LNE_EVT n)) j with
    | true => exact g.pends (h.raises j hj h0 ht hen h7)
    | false => exact g.raises j hj ht h1 (h.enables ▸ hen) (h.live.trans h7)

/-- A cause that stands in the end has been reported. -/
theorem LaneRises.says {n bit : Nat} {s t : State} (h : LaneRises n s t) (hbit : bit < 32)
    (ht : nbit (t.regN (R.LNE_EVT n)) bit = true) : s.laneSays t n bit :=
  ⟨ht, fun h0 hen h7 => h.raises bit hbit h0 ht hen h7⟩

/-- A change that leaves the lane's signals leaves its causes. -/
theorem LaneRises.of_regs {n : Nat} {A : List Nat} {l : List Part} {s t : State} (h : RegsKept A s t) (g : Same l s t)
    (hA : ∀ a ∈ laneSignals n, a ∉ A) (hr : Part.rst ∉ l := by decide) : LaneRises n s t := by
  have hevt : t.regN (R.LNE_EVT n) = s.regN (R.LNE_EVT n) := h.regN (hA _ (by simp [laneSignals]))
  have hpend : t.pends (16 + n) = s.pends (16 + n) := by
    rw [State.pends, h.regN (hA _ (by simp [laneSignals])), State.pends]
  exact ⟨h.regN (hA _ (by simp [laneSignals])),
    h.live g 7 (hA _ (by simp [laneSignals])) (hA _ (by simp [laneSignals])) hr,
    fun j _ hs => hevt ▸ hs, fun hs => hpend ▸ hs,
    fun j _ h0 h1 => absurd (h0.symm.trans (hevt ▸ h1)) (by decide)⟩

theorem eventReserved_lane (n : Fin 24) : eventReserved (16 + n.val) = false := by
  revert n
  decide

section
variable (s : State) (n : Fin 24) {bit : Nat}

/-- Of the causes of its lane, a cause changes itself alone. -/
theorem laneEvent_evt {j : Nat} (hj : j < 32) :
    nbit ((s.laneEvent n.val bit).regN (R.LNE_EVT n.val)) j = (decide (j = bit) || nbit (s.regN (R.LNE_EVT n.val)) j) := by
  have hset : nbit ((s.causeSet n.val bit).regN (R.LNE_EVT n.val)) j =
      (decide (j = bit) || nbit (s.regN (R.LNE_EVT n.val)) j) := by
    rw [State.causeSet, regN_setRegN_same]
    by_cases h : j = bit
    · rw [h, nbit_nput_one _ _ (h ▸ hj)]
      simp
    · rw [nbit_nput_other _ _ _ _ _ (by omega) hj (by omega)]
      simp [h]
  cases h : nbit (s.regN (R.LNE_EVT n.val)) bit with
  | true =>
    rw [laneEvent_standing h]
    by_cases hj : j = bit <;> simp [hj, h]
  | false =>
    rw [laneEvent_new h]
    split
    · rw [(raise_framed _ _).regN (by simp only [R.LNE_EVT, R.EVT_PEND, List.mem_singleton]; omega), hset]
    · exact hset

theorem laneEvent_keeps_pends (h : s.pends (16 + n.val) = true) : (s.laneEvent n.val bit).pends (16 + n.val) = true := by
  have hset : (s.causeSet n.val bit).pends (16 + n.val) = true := by
    rw [State.pends, State.causeSet, regN_setRegN_other _ _ _ _ (by simp only [R.LNE_EVT, R.EVT_PEND]; omega)]
    exact h
  cases hc : nbit (s.regN (R.LNE_EVT n.val)) bit with
  | true => rwa [laneEvent_standing hc]
  | false =>
    rw [laneEvent_new hc]
    split
    · exact raise_keeps _ _ _ hset
    · exact hset

/-- An event of a lane changes neither which causes are enabled nor the states of the domains. -/
theorem laneEvents_apart : R.LNE_EVTEN n.val ∉ laneEvents n.val ∧ R.PWR_STATE0 ∉ laneEvents n.val ∧
    R.PWR_STATE1 ∉ laneEvents n.val := by
  simp only [laneEvents, R.LNE_EVT, R.LNE_EVTEN, R.EVT_PEND, R.PWR_STATE0, R.PWR_STATE1, List.mem_cons, List.not_mem_nil,
    or_false]
  omega

theorem laneEvent_rises : LaneRises n.val s (s.laneEvent n.val bit) := by
  obtain ⟨hevten, h0, h1⟩ := laneEvents_apart n
  have hkept := laneEvent_regs s n.val bit
  refine ⟨hkept.regN hevten, hkept.live (State.laneEvent_same ..) 7 h0 h1, fun j hj hs => ?_, laneEvent_keeps_pends s n,
    fun j hj hs ht hen h7 => ?_⟩
  · rw [laneEvent_evt s n hj, hs, Bool.or_true]
  · rw [laneEvent_evt s n hj, hs, Bool.or_false, decide_eq_true_eq] at ht
    subst ht
    rw [laneEvent_new hs, if_pos hen]
    exact raise_pends (((causeSet_regs s n.val j).live (State.setRegN_same ..) 7 h0 h1).trans h7) (eventReserved_lane n)

end

/-! ### The counters of a lane and of its containers -/

/-- A counter of lane n: its registers are among those of the lane's counts and overflow flags. -/
structure Ctr.ofLane (c : Ctr) (n : Nat) : Prop where
  regs : ∀ a ∈ c.regs, R.LNE_RXUNIT n ≤ a ∧ a < R.LNE_RXUNIT n + 0x34
  wraps : c.sat = false
  apart : ∀ f ∈ c.ovf, f.addr ≠ c.addr

theorem txUnit_ofLane (n : Nat) : (C.LNE_TXUNIT n).ofLane n :=
  ⟨by simp [Ctr.regs, C.LNE_TXUNIT, R.LNE_TXUNIT, R.LNE_RXUNIT]; omega, rfl, by simp [C.LNE_TXUNIT, R.LNE_TXUNIT]⟩

theorem txLate_ofLane (n : Nat) : (C.LNE_TXLATEC n).ofLane n :=
  ⟨by simp [Ctr.regs, C.LNE_TXLATEC, R.LNE_TXLATEC, R.LNE_RXUNIT]; omega, rfl, by simp [C.LNE_TXLATEC, R.LNE_TXLATEC]⟩

section
variable {n : Nat} {c : Ctr} (hc : c.ofLane n)
include hc

/-- The lane's counts are not among its signals. -/
theorem Ctr.ofLane.signals : ∀ a ∈ laneSignals n, a ∉ c.regs := by
  intro a ha hmem
  have := hc.regs a hmem
  simp only [laneSignals, R.LNE_EVT, R.LNE_EVTEN, R.EVT_PEND, R.PWR_STATE0, R.PWR_STATE1, List.mem_cons, List.not_mem_nil,
    or_false] at ha
  simp only [R.LNE_RXUNIT] at this
  omega

/-- An event of the lane leaves its counts. -/
theorem Ctr.ofLane.events : ∀ a ∈ c.regs, a ∉ laneEvents n := fun a ha hmem =>
  hc.signals a (by simp only [laneEvents, laneSignals, List.mem_cons, List.not_mem_nil, or_false] at hmem ⊢; tauto) ha

/-- A counter of an enabled lane counts one. -/
theorem laneCount_one {s : State} (hen : s.flag (R.LNE_CTRL_EN n) = true) :
    (s.laneCount n c 1).regN c.addr = (s.regN c.addr + 1) % 2 ^ 32 :=
  laneCount_regN hen (by decide) hc.wraps hc.apart (hc.events _ List.mem_cons_self)

end

theorem laneCount_rises (s : State) (n : Fin 24) {c : Ctr} (hc : c.ofLane n.val) (k : Nat) :
    LaneRises n.val s (s.laneCount n.val c k) := by
  have hcount : LaneRises n.val s (s.countN c k) := .of_regs (countN_regs s c k) (State.countN_same ..) hc.signals
  unfold State.laneCount
  split
  · exact .refl ..
  · dsimp only
    split
    · exact hcount.trans (laneEvent_rises _ n)
    · exact hcount

/-- The registers of the lanes and the container's saturation count are apart. -/
theorem gsat_apart {n g a : Nat} (hn : n < 24) (h : R.LNE_CTRL n ≤ a) (ha : a < R.LNE_CTRL n + 0x1000) : a ∉ (C.SRC_GSAT g).regs := by
  simp only [Ctr.regs, C.SRC_GSAT, R.SRC_GSAT, R.LNE_CTRL, Option.map_none, Option.toList_none, List.mem_singleton] at *
  omega

/-! ### Positions of a superframe (R200) -/

/-- The position at which data block m of d is sent is that of no other. -/
theorem block_of_position {m d total : Nat} (hd : d ≤ total) (hm : m < d) : (m * total / d * d + total - 1) / total = m := by
  have hdiv := Nat.div_add_mod (m * total) d
  have hmod := Nat.mod_lt (m * total) (Nat.zero_lt_of_lt hm)
  rw [Nat.mul_comm d] at hdiv
  apply Nat.div_eq_of_lt_le
  · omega
  · rw [Nat.succ_mul]
    omega

/-- A lane's work on a position leaves its containers as they are configured. -/
theorem cont_of_lane {s t : State} {n : Nat} (h : (t.lane n).conts = (s.lane n).conts) (dir : Nat) {g : Nat} (hg : g / 64 = n) :
    t.cont dir g = s.cont dir g := by
  rw [State.cont, State.contCfg, hg, h, State.cont, State.contCfg, hg]

theorem tx_of_mtx {s t : State} (h : t.mtx = s.mtx) (g : Nat) : t.tx g = s.tx g := by rw [State.tx, h, State.tx]

theorem lane_of_lanes {s t : State} (h : t.lanes = s.lanes) (n : Nat) : t.lane n = s.lane n := by rw [State.lane, h, State.lane]

theorem lane_modLane_same (s : State) (n : Nat) (f : LaneSt → LaneSt) : (s.modLane n f).lane n = f (s.lane n) := tget_tput_same ..

/-- The last position of a superframe counts a unit. -/
def State.unitCounted (s : State) (n g : Nat) : State :=
  if ((s.tx g).pos + 1) % max 1 (s.cont 1 g).kPos = 0 then s.laneCount n (C.LNE_TXUNIT n) 1 else s

theorem unitCounted_regs (s : State) (n g : Nat) : RegsKept ((C.LNE_TXUNIT n).regs ++ laneEvents n) s (s.unitCounted n g) :=
  .ite (laneCount_regs ..) (.refl ..)

theorem unitCounted_same (s : State) (n g : Nat) : Same [.regs, .dict, .evt] s (s.unitCounted n g) :=
  .ite (State.laneCount_same ..) (.refl ..)

theorem unitCounted_rises (s : State) (n : Fin 24) (g : Nat) : LaneRises n.val s (s.unitCounted n.val g) := by
  unfold State.unitCounted
  split
  · exact laneCount_rises s n (txUnit_ofLane n.val) 1
  · exact .refl ..

/-- A container when one of its positions has passed, `kk` of them to a superframe and `total` to an epoch. -/
def TxCont.passed (c : TxCont) (kk total : Nat) : TxCont :=
  let b := if (c.pos + 1) % kk = 0 && c.bittern = 2 then 0 else c.bittern
  if c.pos + 1 < total then { c with pos := c.pos + 1, bittern := b }
  else { c with pos := 0, bittern := b, epoch := c.epoch + ticksPerEpoch,
                out := c.out.filter (fun x => c.epoch + ticksPerEpoch ≤ x.time) }

/-- Within an epoch the next position follows. -/
theorem passed_within {c : TxCont} {total : Nat} (kk : Nat) (h : c.pos + 1 < total) :
    (c.passed kk total).pos = c.pos + 1 ∧ (c.passed kk total).epoch = c.epoch := by simp [TxCont.passed, h]

/-- After the last position of an epoch the next epoch begins. -/
theorem passed_last {c : TxCont} {total : Nat} (kk : Nat) (h : c.pos + 1 = total) :
    (c.passed kk total).pos = 0 ∧ (c.passed kk total).epoch = c.epoch + ticksPerEpoch := by simp [TxCont.passed, h]

theorem modTx_congr {s : State} {g : Nat} {f h : TxCont → TxCont} (e : f (s.tx g) = h (s.tx g)) : s.modTx g f = s.modTx g h := by
  rw [State.tx] at e
  simp only [State.modTx, tmod, e]

/-- A position passes: the unit is counted, and the container moves on. -/
theorem txAdvance_eq (s : State) (n g : Nat) : s.txAdvance n g = (s.unitCounted n g).modTx g
    (fun c => c.passed (max 1 (s.cont 1 g).kPos) (s.epochLen n * max 1 (s.cont 1 g).kPos)) := by
  have htx : (s.unitCounted n g).tx g = s.tx g := tx_of_mtx ((unitCounted_same s n g).mtx (by decide)) g
  change (if _ then (s.unitCounted n g).modTx g _ else (s.unitCounted n g).modTx g _) = _
  split
  · next h => exact modTx_congr (by simp [TxCont.passed, htx, h])
  · next h => exact modTx_congr (by simp [TxCont.passed, htx, h])

/-- Of its container, a position that passes shows this. -/
theorem txAdvance_tx (s : State) (n g : Nat) : (s.txAdvance n g).tx g =
    (s.tx g).passed (max 1 (s.cont 1 g).kPos) (s.epochLen n * max 1 (s.cont 1 g).kPos) := by
  rw [txAdvance_eq, tx_modTx_same, tx_of_mtx ((unitCounted_same s n g).mtx (by decide))]

theorem txAdvance_regs (s : State) (n g : Nat) : RegsKept ((C.LNE_TXUNIT n).regs ++ laneEvents n) s (s.txAdvance n g) :=
  txAdvance_eq s n g ▸ .step (State.modTx_same ..) (unitCounted_regs s n g)

theorem txAdvance_rises (s : State) (n : Fin 24) (g : Nat) : LaneRises n.val s (s.txAdvance n.val g) :=
  txAdvance_eq s n.val g ▸ (unitCounted_rises s n g).trans
    (.of_regs (.step (State.modTx_same ..) (.refl [] _)) (State.modTx_same ..) (by simp))

/-! ### What a Varlas lane sends (R200, R203, R206) -/

/-- A container's position leaves with these bytes, in a Bittern code or not. -/
def State.blockSent (s : State) (n g : Nat) (b : List Byte) (e : Bool) : State :=
  (s.modLane n (fun l => { l with lastTx := b, bittern := e })).txAdvance n g

section
variable (s : State) (n g : Nat) (b : List Byte) (e : Bool)

theorem blockSent_lane : (s.blockSent n g b e).lane n = { s.lane n with lastTx := b, bittern := e } := by
  rw [State.blockSent, lane_of_lanes ((State.txAdvance_same ..).lanes (by decide)), lane_modLane_same]

theorem blockSent_regs : RegsKept ((C.LNE_TXUNIT n).regs ++ laneEvents n) s (s.blockSent n g b e) :=
  (RegsKept.step (State.modLane_same ..) (.refl ..)).trans (txAdvance_regs _ n g)

theorem blockSent_same : Same [.regs, .dict, .mtx, .lanes, .evt] s (s.blockSent n g b e) :=
  .step (State.txAdvance_same ..) (.step (State.modLane_same ..) (.refl ..))

theorem blockSent_framed :
    s.framed (s.blockSent n g b e) [.regs, .dict, .mtx, .lanes, .evt] ((C.LNE_TXUNIT n).regs ++ laneEvents n) :=
  ⟨blockSent_same .., (blockSent_regs ..).eq⟩

theorem blockSent_tx (hg : g / 64 = n) : (s.blockSent n g b e).tx g =
    (s.tx g).passed (max 1 (s.cont 1 g).kPos) (s.epochLen n * max 1 (s.cont 1 g).kPos) := by
  rw [State.blockSent, txAdvance_tx, cont_of_lane (s := s) (by rw [lane_modLane_same]) 1 hg]
  rfl

theorem blockSent_rises (n : Fin 24) : LaneRises n.val s (s.blockSent n.val g b e) :=
  (LaneRises.of_regs (.step (State.modLane_same ..) (.refl [] _)) (State.modLane_same ..) (by simp)).trans
    (txAdvance_rises _ n g)

end

/-- Samples of a container that saturated are counted. -/
def State.satCounted (s : State) (g sat : Nat) : State := if sat = 0 then s else s.countN (C.SRC_GSAT g) sat

theorem satCounted_same (s : State) (g sat : Nat) : Same [.regs, .dict] s (s.satCounted g sat) :=
  .ite (.refl ..) (State.countN_same ..)

theorem satCounted_regs (s : State) (g sat : Nat) : RegsKept (C.SRC_GSAT g).regs s (s.satCounted g sat) :=
  .ite (.refl ..) (countN_regs ..)

/-- The count of saturated samples is no part of how its container moves on. -/
theorem satCounted_blockSent_tx (s : State) {n g : Nat} (hn : n < 24) (hg : g / 64 = n) (sat : Nat) (b : List Byte) (e : Bool) :
    ((s.satCounted g sat).blockSent n g b e).tx g =
      (s.tx g).passed (max 1 (s.cont 1 g).kPos) (s.epochLen n * max 1 (s.cont 1 g).kPos) := by
  have hsame := satCounted_same s g sat
  have hmode : (s.satCounted g sat).laneMode n = s.laneMode n :=
    (satCounted_regs s g sat).fld (gsat_apart hn (Nat.le_refl _) (by simp only [R.LNE_CTRL_MODE]; omega))
  rw [blockSent_tx _ _ _ _ _ hg, tx_of_mtx (hsame.mtx (by decide)),
    cont_of_lane (s := s) (by rw [lane_of_lanes (hsame.lanes (by decide))]) 1 hg, State.epochLen, hmode, State.epochLen]

/-- A position whose samples are late is counted in LNE_TXLATE, with its cause (R203). -/
def State.lateCounted (s : State) (n : Nat) : State := (s.laneCount n (C.LNE_TXLATEC n) 1).laneEvent n 4

theorem lateCounted_framed (s : State) (n : Nat) :
    s.framed (s.lateCounted n) [.regs, .dict, .evt] ((C.LNE_TXLATEC n).regs ++ laneEvents n) :=
  ⟨.step (State.laneEvent_same ..) (State.laneCount_same ..),
    ((laneCount_regs ..).trans ((laneEvent_regs ..).mono (by simp))).eq⟩

theorem lateCounted_counts {s : State} {n : Nat} (hen : s.flag (R.LNE_CTRL_EN n) = true) :
    (s.lateCounted n).regN (C.LNE_TXLATEC n).addr = (s.regN (C.LNE_TXLATEC n).addr + 1) % 2 ^ 32 := by
  rw [State.lateCounted, (laneEvent_regs _ n 4).regN ((txLate_ofLane n).events _ List.mem_cons_self),
    laneCount_one (txLate_ofLane n) hen]

theorem lateCounted_rises (s : State) (n : Fin 24) : LaneRises n.val s (s.lateCounted n.val) :=
  (laneCount_rises s n (txLate_ofLane n.val) 1).trans (laneEvent_rises _ n)

theorem lateCounted_evt (s : State) (n : Fin 24) : nbit ((s.lateCounted n.val).regN (R.LNE_EVT n.val)) 4 = true := by
  rw [State.lateCounted, laneEvent_evt _ n (by decide)]
  rfl

section
variable {s : State} {n : Fin 24} {c : Fin 64} {g : Nat} (hg : 64 * n.val + c.val = g) (hl : s.laneSends n.val = true)
  (hv : s.varlas n.val = true) (hk : (s.cont 1 g).en = true) (he : (s.tx g).epoch ≠ 0)
include hg hl hv hk he

/-- The first position after a failure carries the Bittern code (R206). -/
theorem exec_transmitDataBlock_bittern (hb : (s.tx g).bittern = 1) : exec (.transmitDataBlock n c) s =
    .next ((s.modTx g (fun c => { c with bittern := 2 })).blockSent n.val g bitternBlock true) := by
  subst hg
  change execTransmitDataBlock n c s = _
  simp [execTransmitDataBlock, hl, hv, hk, he, hb, State.blockSent]

/-- Zeros follow the Bittern code (R206). -/
theorem exec_transmitDataBlock_filled (hb : (s.tx g).bittern = 2) : exec (.transmitDataBlock n c) s =
    .next (s.blockSent n.val g (List.replicate 8 0) false) := by
  subst hg
  change execTransmitDataBlock n c s = _
  simp [execTransmitDataBlock, hl, hv, hk, he, hb, State.blockSent]

variable (hb : (s.tx g).bittern = 0) {total : Nat} (ht : s.epochLen n.val * max 1 (s.cont 1 g).kPos = total)
include hb ht

/-- A position that carries no data block carries zeros (R200). -/
theorem exec_transmitDataBlock_empty (hm : ∀ m, m < dataBlocks (s.cont 1 g) → m * total / dataBlocks (s.cont 1 g) ≠ (s.tx g).pos) :
    exec (.transmitDataBlock n c) s = .next (s.blockSent n.val g (List.replicate 8 0) false) := by
  subst hg
  obtain ⟨i, hi⟩ : ∃ i, ((s.tx (64 * n.val + c.val)).pos * dataBlocks (s.cont 1 (64 * n.val + c.val)) + total - 1) / total = i :=
    ⟨_, rfl⟩
  have hno : dataBlocks (s.cont 1 (64 * n.val + c.val)) ≤ i ∨
      i * total / dataBlocks (s.cont 1 (64 * n.val + c.val)) ≠ (s.tx (64 * n.val + c.val)).pos :=
    (Nat.lt_or_ge i _).elim (fun h => .inr (hm i h)) .inl
  change execTransmitDataBlock n c s = _
  simp [execTransmitDataBlock, hl, hv, hk, he, hb, ht, hi, hno, State.blockSent]

variable {m : Nat} (hd : dataBlocks (s.cont 1 g) ≤ total) (hm : m < dataBlocks (s.cont 1 g))
  (hp : (s.tx g).pos = m * total / dataBlocks (s.cont 1 g))
include hd hm hp

/-- A position with a data block whose samples are formed carries it; what saturated in it is counted (R200, R220). -/
theorem exec_transmitDataBlock_block {v sat : Nat} (hdata : s.dataBlock g m (s.tx g).epoch = some (v, sat)) :
    exec (.transmitDataBlock n c) s = .next ((s.satCounted g sat).blockSent n.val g (beBytes 8 v) false) := by
  have hpos := hp ▸ block_of_position hd hm
  subst hg
  change execTransmitDataBlock n c s = _
  simp [execTransmitDataBlock, hl, hv, hk, he, hb, ht, hpos, Nat.not_le.2 hm, ← hp, hdata, State.blockSent, State.satCounted]

/-- A position with a data block whose samples are late carries zeros, counted with its cause (R203). -/
theorem exec_transmitDataBlock_late (hdata : s.dataBlock g m (s.tx g).epoch = none) : exec (.transmitDataBlock n c) s =
    .next ((s.lateCounted n.val).blockSent n.val g (List.replicate 8 0) false) := by
  have hpos := hp ▸ block_of_position hd hm
  subst hg
  change execTransmitDataBlock n c s = _
  simp [execTransmitDataBlock, hl, hv, hk, he, hb, ht, hpos, Nat.not_le.2 hm, ← hp, hdata, State.blockSent, State.lateCounted]

end

/-! ### What an Ethernet lane sends (R194, R195) -/

/-- Off the field port and unprotected, a frame leaves as it is, and ends what was sent of a Bittern code. -/
theorem lineSend_unprotected {s : State} {n : Nat} (hn : n ≠ 24) (hp : s.laneProt n 1 = false) (b : List Byte) :
    s.lineSend n b = s.modLane n (fun l => { l with lastTx := b, bittern := false }) := by
  simp [State.lineSend, State.protectTx, State.lineRaw, hp, hn]

/-- A frame has the header of its lane's registers. -/
theorem roeFrame_congr {A : List Nat} {s t : State} {n : Nat} (h : RegsKept A s t)
    (hA : ∀ a, R.LNE_CTRL n ≤ a → a < R.LNE_CTRL n + 0x1000 → a ∉ A) (flow order : Nat) (agn : Bool) (b : List Byte) :
    t.roeFrame n flow order agn b = s.roeFrame n flow order agn b := by
  have hda : ∀ k, k < 3 → t.regN (R.LNE_ROE_DA n k) = s.regN (R.LNE_ROE_DA n k) := fun k hk =>
    h.regN (hA _ (by simp only [R.LNE_CTRL, R.LNE_ROE_DA]; omega) (by simp only [R.LNE_CTRL, R.LNE_ROE_DA]; omega))
  have hsa : ∀ k, k < 3 → t.regN (R.LNE_ROE_SA n k) = s.regN (R.LNE_ROE_SA n k) := fun k hk =>
    h.regN (hA _ (by simp only [R.LNE_CTRL, R.LNE_ROE_SA]; omega) (by simp only [R.LNE_CTRL, R.LNE_ROE_SA]; omega))
  have hvlan : t.regN (R.LNE_ROE_VLAN n) = s.regN (R.LNE_ROE_VLAN n) :=
    h.regN (hA _ (by simp only [R.LNE_CTRL, R.LNE_ROE_VLAN]; omega) (by simp only [R.LNE_CTRL, R.LNE_ROE_VLAN]; omega))
  simp [State.roeFrame, List.range_succ, hda, hsa, hvlan]

/-- The samples of a container's next packet are packed and leave its queue. -/
def State.roePacked (s : State) (g spp : Nat) : State :=
  (s.packOut g ((s.tx g).out.take spp)).2.modTx g (fun c => { c with out := c.out.drop spp })

/-- The bytes of a container's next packet. -/
def State.roePayload (s : State) (g spp : Nat) : List Byte :=
  let p := (s.packOut g ((s.tx g).out.take spp)).1
  beBytes ((p.2 + 7) / 8) (p.1 * 2 ^ (8 * ((p.2 + 7) / 8) - p.2))

/-- orderInfo of a container's next packet: its first sample time in the second, in sample periods. -/
def State.roeOrder (s : State) (g : Nat) : Nat :=
  ((s.tx g).out.head?.map (·.time)).getD 0 % ticksPerSecond / s.period 1 g

section
variable (s : State) (g spp : Nat)

theorem roePacked_regs : RegsKept (C.SRC_GSAT g).regs s (s.roePacked g spp) := .step (State.modTx_same ..) (countN_regs ..)

theorem roePacked_same : Same [.regs, .dict, .mtx] s (s.roePacked g spp) :=
  .step (State.modTx_same ..) (.step (State.packOut_same ..) (.refl ..))

theorem roePacked_out : ((s.roePacked g spp).tx g).out = (s.tx g).out.drop spp := by
  rw [State.roePacked, tx_modTx_same, tx_of_mtx ((State.packOut_same ..).mtx (by decide))]

/-- Packing changes no register of a lane. -/
theorem roePacked_lane {n a : Nat} (hn : n < 24) (h : R.LNE_CTRL n ≤ a) (ha : a < R.LNE_CTRL n + 0x1000) :
    (s.roePacked g spp).regN a = s.regN a := (roePacked_regs s g spp).regN (gsat_apart hn h ha)

theorem roePacked_enabled {n : Nat} (hn : n < 24) :
    (s.roePacked g spp).flag (R.LNE_CTRL_EN n) = s.flag (R.LNE_CTRL_EN n) := by
  have hctrl : (s.roePacked g spp).regN (R.LNE_CTRL n) = s.regN (R.LNE_CTRL n) :=
    roePacked_lane s g spp hn (Nat.le_refl _) (by omega)
  simp only [State.flag, State.fld, R.LNE_CTRL_EN, hctrl]

theorem roePacked_laneProt {n : Nat} (hn : n < 24) (hg : g < 1536) : (s.roePacked g spp).laneProt n 1 = s.laneProt n 1 := by
  have hkept := roePacked_regs s g spp
  have hcfg : R.CIP_LANE_CFG n ∉ (C.SRC_GSAT g).regs := by
    simp only [Ctr.regs, C.SRC_GSAT, R.SRC_GSAT, R.CIP_LANE_CFG, Option.map_none, Option.toList_none, List.mem_singleton]
    omega
  have hdom : R.PWR_STATE0 ∉ (C.SRC_GSAT g).regs ∧ R.PWR_STATE1 ∉ (C.SRC_GSAT g).regs := by
    simp only [Ctr.regs, C.SRC_GSAT, R.SRC_GSAT, R.PWR_STATE0, R.PWR_STATE1, Option.map_none, Option.toList_none,
      List.mem_singleton]
    omega
  have htx : (s.roePacked g spp).flag (R.CIP_LANE_CFG_TXEN n) = s.flag (R.CIP_LANE_CFG_TXEN n) := hkept.flag hcfg
  have hlive := hkept.live (roePacked_same s g spp) 8 hdom.1 hdom.2
  simp [State.laneProt, htx, hlive]

end

/-- A frame leaves a lane and counts as a unit. -/
def State.frameSent (s : State) (n : Nat) (b : List Byte) : State :=
  (s.modLane n (fun l => { l with lastTx := b, bittern := false })).laneCount n (C.LNE_TXUNIT n) 1

section
variable (s : State) (n : Nat) (b : List Byte)

theorem frameSent_lane : (s.frameSent n b).lane n = { s.lane n with lastTx := b, bittern := false } := by
  rw [State.frameSent, lane_of_lanes ((State.laneCount_same ..).lanes (by decide)), lane_modLane_same]

theorem frameSent_tx (g : Nat) : (s.frameSent n b).tx g = s.tx g :=
  tx_of_mtx ((State.laneCount_same ..).mtx (by decide)) g

theorem frameSent_framed : s.framed (s.frameSent n b) [.regs, .dict, .lanes, .evt] ((C.LNE_TXUNIT n).regs ++ laneEvents n) :=
  ⟨.step (State.laneCount_same ..) (.step (State.modLane_same ..) (.refl ..)),
    ((RegsKept.step (State.modLane_same ..) (.refl ..)).trans (laneCount_regs ..)).eq⟩

theorem frameSent_counts (hen : s.flag (R.LNE_CTRL_EN n) = true) :
    (s.frameSent n b).regN (C.LNE_TXUNIT n).addr = (s.regN (C.LNE_TXUNIT n).addr + 1) % 2 ^ 32 :=
  laneCount_one (txUnit_ofLane n) (s := s.modLane n _) hen

end

/-- SPP samples of a container of an unprotected lane leave in one packet (R195). -/
theorem exec_roePacketTransmit {s : State} {n : Fin 24} {c : Fin 64} {g spp : Nat} (hg : 64 * n.val + c.val = g)
    (hspp : nbits (s.cont 1 g).cnt.toNat 9 0 = spp) (hl : s.laneSends n.val = true) (hv : s.varlas n.val = false)
    (hp : s.laneProt n.val 1 = false) (hk : (s.cont 1 g).en = true) (h0 : 0 < spp) (hlen : spp ≤ (s.tx g).out.length) :
    exec (.roePacketTransmit n c) s = .next ((s.roePacked g spp).frameSent n.val
      (s.roeFrame n.val (nbits (s.cont 1 g).pos.toNat 7 0) (s.roeOrder g) (s.cont 1 g).agn (s.roePayload g spp))) := by
  have hfree : (s.roePacked g spp).laneProt n.val 1 = false := (roePacked_laneProt s g spp n.isLt (by omega)).trans hp
  have hhead : ((s.tx g).out.take spp).head? = (s.tx g).out.head? := by
    rw [List.head?_take, if_neg (by omega)]
  rw [← roeFrame_congr (roePacked_regs s g spp) (fun a h ha => gsat_apart n.isLt h ha), State.frameSent,
    ← lineSend_unprotected (by omega) hfree, State.roeOrder, ← hhead]
  subst hg hspp
  change execRoePacketTransmit n c s = _
  simp only [execRoePacketTransmit, hl, hv, hk, Nat.ne_of_gt h0, Nat.not_lt.2 hlen]
  rfl

theorem enabled_of_laneSends {s : State} {n : Nat} (h : s.laneSends n = true) : s.flag (R.LNE_CTRL_EN n) = true := by
  simp only [State.laneSends, Bool.and_eq_true] at h
  obtain ⟨⟨⟨-, hen⟩, -⟩, -⟩ := h
  exact hen

/-- Settles O25: a packet, a data block, a Bittern code and zeros each leave as their exec lemma says, and only the container, the
lane and what the lane counts change. -/
theorem laneTransmits : Obligations.LaneTransmits := by
  refine ⟨?packet, ?bittern, ?filled, ?block, ?late, ?empty⟩
  case packet =>
    intro s n c g k spp p payload first hl hv hp hk h0 hlen
    have hen : (s.roePacked g spp).flag (R.LNE_CTRL_EN n.val) = true := by
      rw [roePacked_enabled s g spp n.isLt, enabled_of_laneSends hl]
    have hunit : (s.roePacked g spp).regN (C.LNE_TXUNIT n.val).addr = s.regN (C.LNE_TXUNIT n.val).addr :=
      roePacked_lane s g spp n.isLt (by simp only [C.LNE_TXUNIT, R.LNE_TXUNIT, R.LNE_CTRL]; omega)
        (by simp only [C.LNE_TXUNIT, R.LNE_TXUNIT, R.LNE_CTRL]; omega)
    have hframed : s.framed (s.roePacked g spp) [.regs, .dict, .mtx] (C.SRC_GSAT g).regs :=
      ⟨roePacked_same .., (roePacked_regs ..).eq⟩
    refine ⟨_, exec_roePacketTransmit rfl rfl hl hv hp hk h0 hlen, ?_, ?_, ?_, ?_,
      hframed.trans (frameSent_framed ..) (hA := by simp) (hB := by simp)⟩
    · rw [frameSent_lane]
      rfl
    · rw [frameSent_lane]
    · rw [frameSent_tx, roePacked_out]
    · rw [frameSent_counts _ _ _ hen, hunit]
  case bittern =>
    intro s n c g hl hv hk he hb
    refine ⟨_, exec_transmitDataBlock_bittern rfl hl hv hk he hb, ?_, ?_,
      (framed_of_same (State.modTx_same ..)).trans (blockSent_framed ..)⟩ <;> rw [blockSent_lane]
  case filled =>
    intro s n c g hl hv hk he hb
    refine ⟨_, exec_transmitDataBlock_filled rfl hl hv hk he hb, ?_, ?_, blockSent_framed ..⟩ <;> rw [blockSent_lane]
  case block =>
    intro s n c m v sat g k total hl hv hk he hb hd hm hp hdata
    have htx := satCounted_blockSent_tx s n.isLt (show g / 64 = n.val by omega) sat (beBytes 8 v) false
    have hframed : s.framed (s.satCounted g sat) [.regs, .dict] (C.SRC_GSAT g).regs :=
      ⟨satCounted_same .., (satCounted_regs ..).eq⟩
    refine ⟨_, exec_transmitDataBlock_block rfl hl hv hk he hb rfl hd hm hp hdata, ?_, ?_, fun h => ?_, fun h => ?_,
      hframed.trans (blockSent_framed ..) (hA := by simp) (hB := by simp)⟩
    · rw [blockSent_lane]
    · rw [blockSent_lane]
    · rw [htx]
      exact passed_within _ h
    · rw [htx]
      exact passed_last _ h
  case late =>
    intro s n c m g k total hl hv hk he hb hd hm hp hdata
    have hlate : (C.LNE_TXLATEC n.val).addr ∉ (C.LNE_TXUNIT n.val).regs ++ laneEvents n.val := by
      simpa [Ctr.regs, C.LNE_TXUNIT, C.LNE_TXLATEC, R.LNE_TXUNIT, R.LNE_TXLATEC] using
        (txLate_ofLane n.val).events _ List.mem_cons_self
    have hsent := blockSent_rises (s.lateCounted n.val) g (List.replicate 8 0) false n
    refine ⟨_, exec_transmitDataBlock_late rfl hl hv hk he hb rfl hd hm hp hdata, ?_, ?_,
      ((lateCounted_rises s n).trans hsent).says (by decide) (hsent.keeps 4 (by decide) (lateCounted_evt s n)),
      (lateCounted_framed ..).trans (blockSent_framed ..) (hA := by simp) (hB := by simp)⟩
    · rw [blockSent_lane]
    · rw [(blockSent_regs ..).regN hlate, lateCounted_counts (enabled_of_laneSends hl)]
  case empty =>
    intro s n c g k total hl hv hk he hb hm
    refine ⟨_, exec_transmitDataBlock_empty rfl hl hv hk he hb rfl hm, ?_, blockSent_framed ..⟩
    rw [blockSent_lane]

/-! ### A container out of range -/

/-- The number of a transmit container beyond the 1536 there are: MTX_BTN of its lane would stand where LNE_STAT of L0 does. -/
def strayTx : Nat := 64 * 16209

theorem strayTx_btn : R.MTX_BTN (strayTx / 64) = R.LNE_STAT 0 := by decide

/-- PD14 is on beside PD0, L0 is an enabled Ethernet lane in block lock, and the samples of the unconfirmed unit that its container 0
holds have gone into a unit of that transmit container. -/
def strayUnit : State :=
  (((State.reset.setReg R.PWR_STATE0 0x10000001).setReg (R.LNE_CTRL 0) 0x8000).setReg (R.LNE_STAT 0) 1).withMtx
    { State.reset.mtx with units := [(0, [{ serial := 1, tx := [strayTx] }])] }

theorem strayUnit_serves : strayUnit.serves 0xE0 (laneDomain 0) := by decide

theorem strayUnit_disable :
    exec (.laneDisable 0xE0 0) strayUnit = .next (strayUnit.maskFld 0xE0 (R.LNE_CTRL_EN 0) 0) := rfl

/-- Block lock is given up before the unit fails, and the Bittern code its failure causes then counts into BLOCK_LOCK. -/
theorem strayUnit_disabled : (strayUnit.maskFld 0xE0 (R.LNE_CTRL_EN 0) 0).flag (R.LNE_STAT_BLOCK_LOCK 0) = true := by
  decide +kernel

/-- Refutes O22: its clause on disabling does not say that the transmit containers an unconfirmed unit has reached are among the
1536. For a number beyond them the count of Bittern codes (R178) falls on LNE_STAT of L0, which shows block lock again. -/
theorem not_laneControl : ¬ Obligations.LaneControl := by
  unfold Obligations.LaneControl
  rintro ⟨-, -, hdisable, -⟩
  obtain ⟨t, hex, -, hlock, -⟩ := hdisable strayUnit 0xE0 0 strayUnit_serves (by decide) (by decide)
  obtain rfl := Host.Outcome.next.inj (strayUnit_disable.symm.trans hex)
  exact absurd (hlock.symm.trans strayUnit_disabled) (by decide)

/-- A lane in block lock loses it (R208). -/
theorem exec_blockLockLoss {s : State} {n : Fin 24} (hr : s.receives n.val = true)
    (hb : s.flag (R.LNE_STAT_BLOCK_LOCK n.val) = true) : exec (.blockLockLoss n false) s = .next (s.blockLost n.val) := by
  change execBlockLockLoss n false s = _
  simp [execBlockLockLoss, hr, hb]

theorem strayUnit_lost : (strayUnit.blockLost 0).flag (R.LNE_STAT_BLOCK_LOCK 0) = true := by decide +kernel

/-- Refutes O23: its clause on the loss of block lock does not bound the transmit containers of an unconfirmed unit either, and the
same count shows block lock again. -/
theorem not_laneLocks : ¬ Obligations.LaneLocks := by
  unfold Obligations.LaneLocks
  rintro ⟨-, hloss, -⟩
  have hreceives : strayUnit.receives (0 : Fin 24).val = true := by decide
  have hlocked : strayUnit.flag (R.LNE_STAT_BLOCK_LOCK (0 : Fin 24).val) = true := by decide
  obtain ⟨t, hex, hlock, -⟩ := hloss strayUnit 0 false hreceives hlocked
  obtain rfl := Host.Outcome.next.inj ((exec_blockLockLoss hreceives hlocked).symm.trans hex)
  exact absurd (hlock.symm.trans strayUnit_lost) (by decide)

end Sys2Proof.Machine

/-! Rate conversion (chapter 08): a commit request beside a FORCE that was never cleared. -/

namespace Sys2Proof.Machine

/-- PD7 and PD13 are on beside PD0, the selected converter holds a legal program of 8 taps for equal rates in its staging bank and no
route names it, and SRC_CMT holds FORCE, which a write of that register clears as it acts on it (chapter 08, Registers: SRC_CMT
reads 0). -/
def forceHeld : State :=
  ((State.reset.setReg R.PWR_STATE0 0x04004001).setReg R.SRC_CMT 2).withConvs [(0, { stg := 0x100 })]

/-- The responder's own path reaches the converters there (R89). -/
theorem forceHeld_serves : forceHeld.serves 0xE0 13 := by decide

/-- The staging program keeps the limits of R221, no Saltern commit is under way, and the converter is not in use. -/
theorem forceHeld_commits : progLegal (forceHeld.conv forceHeld.csel).stg.toNat (forceHeld.conv forceHeld.csel).stgStep.toNat = true ∧
    forceHeld.mtxState = 0 ∧ convUses forceHeld.mtx.day forceHeld.csel = [] := by decide

/-- The request is taken for a forced one, which SRC_FORCED counts (R226). -/
theorem forceHeld_counted : forceHeld.regN R.SRC_FORCED = 0 ∧
    (forceHeld.writeFld 0xE0 R.SRC_CMT_REQ 1).regN R.SRC_FORCED = 1 := by decide

/-- Refutes O26: its clause on the commit of a converter not in use does not ask that FORCE be clear. A write of SRC_CMT acts on the
FORCE it finds set before the REQ, so the request becomes a forced commit and counts in SRC_FORCED, which the clause's frame
excludes. -/
theorem not_converterCommits : ¬ Obligations.ConverterCommits := by
  unfold Obligations.ConverterCommits
  rintro ⟨-, hcommit, -⟩
  obtain ⟨hlegal, hidle, hfree⟩ := forceHeld_commits
  obtain ⟨t, hex, -, -, -, -, -, -, hframe⟩ := hcommit forceHeld 0xE0 forceHeld_serves hlegal hidle hfree
  obtain rfl : forceHeld.writeFld 0xE0 R.SRC_CMT_REQ 1 = t := Host.Outcome.next.inj hex
  obtain ⟨hbefore, hafter⟩ := forceHeld_counted
  have hkept := hframe.regN (a := R.SRC_FORCED) (by decide)
  rw [hbefore, hafter] at hkept
  exact absurd hkept (by decide)

end Sys2Proof.Machine

/-! Harvest (chapter 08): the words of a sub-channel, the messages it sends, and the slots that are enabled and disabled. -/

namespace Sys2Proof.Machine

-- Theorems one after another: a thread for each would take more memory than there is.
set_option Elab.async false

/-! ### Words of SRAM -/

/-- A number of n bytes is smaller than their width allows. -/
theorem leNat_lt (l : List Byte) : leNat l < 256 ^ l.length := by
  induction l with
  | nil => simp [leNat]
  | cons b l ih =>
    have hcons : leNat (b :: l) = b.toNat + 256 * leNat l := rfl
    have hb := b.isLt
    rw [hcons, List.length_cons, Nat.pow_succ]
    omega

theorem ramWord_lt (s : State) (a : Nat) : s.ramWord a < 2 ^ 32 := by
  have h := leNat_lt (s.ram a 4)
  rwa [State.ram, List.length_map, List.length_range] at h

/-- A word stays one when a field is put into it. -/
theorem nput_lt {w hi lo : Nat} (hw : w < 2 ^ 32) (x : Nat) (h : lo ≤ hi := by decide) (h31 : hi < 32 := by decide) :
    nput w hi lo x < 2 ^ 32 := by
  refine Nat.lt_pow_two_of_testBit _ fun i hi' => ?_
  rw [testBit_nput _ _ _ _ _ (by omega), if_neg (by omega)]
  exact Nat.testBit_lt_two_pow (Nat.lt_of_lt_of_le hw (Nat.pow_le_pow_right (by decide) hi'))

theorem ramUp_of_inRam {s : State} {a n : Nat} (h : s.inRam a n) : s.ramUp a n := by
  obtain ⟨h0, h1, h5, h6⟩ := h
  refine ⟨h0, h1, fun x _ _ => ?_⟩
  unfold sramDomain
  split <;> assumption

theorem inSram_of_inRam {s : State} {a n : Nat} (h : s.inRam a n) : inSram a n = true := by
  obtain ⟨h0, h1, -⟩ := h
  simp [inSram, h0, h1]

/-- A part of a run lies in SRAM with it. -/
theorem inRam_part {s : State} {a n k m : Nat} (h : s.inRam a n) (hk : k + m ≤ n) : s.inRam (a + k) m := by
  obtain ⟨h0, h1, hl⟩ := h
  exact ⟨by omega, by omega, hl⟩

/-- SRAM whose banks are up stays so when the registers and the reset stand. -/
theorem inRam_of_same {l : List Part} {s t : State} (g : Same l s t) {a n : Nat} (h : s.inRam a n) (hr : Part.regs ∉ l := by decide)
    (hs : Part.rst ∉ l := by decide) : t.inRam a n := by
  obtain ⟨h0, h1, h5, h6⟩ := h
  exact ⟨h0, h1, (live_of_same g 5 hr hs).trans h5, (live_of_same g 6 hr hs).trans h6⟩

theorem ram_of_sram {s t : State} (h : t.sram = s.sram) (a n : Nat) : t.ram a n = s.ram a n := by
  simp only [State.ram, State.sramByte, h]

theorem ramWord_of_sram {s t : State} (h : t.sram = s.sram) (a : Nat) : t.ramWord a = s.ramWord a := by
  rw [State.ramWord, ram_of_sram h, State.ramWord]

theorem ramKept_of_sram {s t u : State} {runs : List (Nat × Nat)} (h : s.ramKept t runs) (hu : u.sram = t.sram) :
    s.ramKept u runs := fun x hx => by rw [State.sramByte, hu]; exact h x hx

section
variable (s : State) (a : Nat)

/-- A word that is written reads back. -/
theorem ramWord_set {v : Nat} (hv : v < 2 ^ 32) : (s.setSramBytes a (leBytes 4 v)).ramWord a = v := by
  have hbytes : (s.setSramBytes a (leBytes 4 v)).ram a 4 = leBytes 4 v := by
    refine List.ext_getElem (by simp [State.ram, length_leBytes]) fun i hi hi' => ?_
    simp only [State.ram, List.getElem_map, List.getElem_range, sramByte_set s a _ hi', List.getD_eq_getElem _ _ hi']
  rw [State.ramWord, hbytes, leNat_leBytes]
  exact Nat.mod_eq_of_lt hv

/-- A word apart from the run that is written stands. -/
theorem ramWord_set_other (bs : List Byte) {b : Nat} (hb : b + 4 ≤ a ∨ a + bs.length ≤ b) :
    (s.setSramBytes a bs).ramWord b = s.ramWord b := by
  have hbytes : (s.setSramBytes a bs).ram b 4 = s.ram b 4 := by
    refine List.map_congr_left fun i hi => ?_
    have := List.mem_range.1 hi
    exact sramByte_set_other s a bs (by omega)
  rw [State.ramWord, hbytes, State.ramWord]

end

/-! ### Slots -/

theorem hvsSlot_lt (n : Fin 24) (j : Fin 8) {dir : Nat} (h : dir < 2) : hvsSlot n.val j.val dir < 384 := by
  unfold hvsSlot
  omega

theorem slot_modSlot_same (s : State) (k : Nat) (f : HvsMsg → HvsMsg) : (s.modSlot k f).slot k = f (s.slot k) := tget_tput_same ..

theorem slot_modSlot_other (s : State) {k i : Nat} (f : HvsMsg → HvsMsg) (h : i ≠ k) : (s.modSlot k f).slot i = s.slot i :=
  tget_tput_other _ _ _ _ _ (Ne.symm h)

theorem slot_of_hvs {s t : State} (h : t.hvs = s.hvs) (k : Nat) : t.slot k = s.slot k := by rw [State.slot, h, State.slot]

/-- A slot works as long as the registers and the reset stand. -/
theorem slotOn_of_same {l : List Part} {s t : State} (g : Same l s t) (k : Nat) (hr : Part.regs ∉ l := by decide)
    (hs : Part.rst ∉ l := by decide) : t.slotOn k = s.slotOn k := by
  simp only [State.slotOn, live_of_same g 12 hr hs, State.flag, State.fld, State.regN, State.reg, g.regs hr]

theorem RegsKept.slotDesc {A : List Nat} {s t : State} (h : RegsKept A s t) {k : Nat} (h1 : R.HVS_SLOT1 k ∉ A)
    (h2 : R.HVS_SLOT2 k ∉ A) : t.slotDesc k = s.slotDesc k := by
  rw [State.slotDesc, h.fld (f := R.HVS_SLOT1_BASE k) h1, h.fld (f := R.HVS_SLOT2_IDX k) h2, State.slotDesc]

/-- The current descriptor, when it lies in SRAM: its first two words (R234). -/
theorem slotFetch_ram {s : State} {k : Nat} (h : s.inRam (s.slotDesc k) 16) :
    s.slotFetch k = (some (s.ramWord (s.slotDesc k), s.ramWord (s.slotDesc k + 4)), s) := by
  have hread := memRead_sram (ramUp_take (ramUp_of_inRam h) (m := 8) (by decide)) (engineRid 3)
  simp only [State.slotFetch, inSram_of_inRam h, hread]
  rfl

/-- A write of M3 to SRAM sets its bytes. -/
theorem slotWrite_ram {s : State} {a : Nat} {bs : List Byte} (h : s.inRam a bs.length) (k : Nat) :
    s.slotWrite k a bs = s.setSramBytes a bs := by
  simp only [State.slotWrite, memWrite_sram (ramUp_of_inRam h)]
  rfl

/-! ### Messages that fail and that begin (R232, R235) -/

/-- The message of a slot is abandoned and counted as failed. -/
def State.msgAbandoned (s : State) (k : Nat) : State := (s.modSlot k (fun m => { due := m.due })).msgFail k

/-- The registers that a failed message changes. -/
def failRegs (k : Nat) : List Nat := R.EVT_PEND 1 :: (C.HVS_FAIL k).regs

/-- What a failed message changes is apart from where the descriptors are and from the states of the domains. -/
theorem failRegs_apart {k : Nat} (hk : k < 384) : R.HVS_SLOT1 k ∉ failRegs k ∧ R.HVS_SLOT2 k ∉ failRegs k ∧
    R.PWR_STATE0 ∉ failRegs k ∧ R.PWR_STATE1 ∉ failRegs k := by
  simp only [failRegs, Ctr.regs, C.HVS_FAIL, R.EVT_PEND, R.HVS_FAIL, R.HVS_SLOT1, R.HVS_SLOT2, R.PWR_STATE0, R.PWR_STATE1,
    Option.map_none, Option.toList_none, List.mem_cons, List.not_mem_nil, or_false]
  omega

section
variable (s : State) (k : Nat)

theorem msgAbandoned_regs : RegsKept (failRegs k) s (s.msgAbandoned k) :=
  (((RegsKept.step (State.modSlot_same ..) (.refl ..)).trans (count_regs _ (C.HVS_FAIL k))).mono (by simp [failRegs])).raise
    (by simp [failRegs])

theorem msgAbandoned_same : Same [.regs, .dict, .hvs, .evt] s (s.msgAbandoned k) :=
  .step (State.msgFail_same ..) (.step (State.modSlot_same ..) (.refl ..))

theorem msgAbandoned_fails : (s.msgAbandoned k).regN (C.HVS_FAIL k).addr = (s.regN (C.HVS_FAIL k).addr + 1) % 2 ^ 32 := by
  have hapart : (C.HVS_FAIL k).addr ∉ [R.EVT_PEND (59 / 32)] := by
    simp only [C.HVS_FAIL, R.HVS_FAIL, R.EVT_PEND, List.mem_singleton]
    omega
  exact ((raise_framed _ 59).regN hapart).trans (countN_regN (s.modSlot k _) (C.HVS_FAIL k) 1 rfl (by simp [C.HVS_FAIL]))

variable {s k}

theorem msgAbandoned_pends (hk : k < 384) (h7 : s.live 7 = true) : (s.msgAbandoned k).pends 59 = true := by
  obtain ⟨-, -, h0, h1⟩ := failRegs_apart hk
  have hlive := (count_regs (s.modSlot k fun m => { due := m.due }) (C.HVS_FAIL k)).live (State.count_same ..) 7
    (fun h => h0 (List.mem_cons_of_mem _ h)) (fun h => h1 (List.mem_cons_of_mem _ h))
  exact raise_pends (hlive.trans h7) (by decide)

/-- The descriptor stays where it was. -/
theorem msgAbandoned_desc (hk : k < 384) (h : s.inRam (s.slotDesc k) 16) :
    (s.msgAbandoned k).inRam ((s.msgAbandoned k).slotDesc k) 16 := by
  obtain ⟨hbase, hidx, h0, h1⟩ := failRegs_apart hk
  have hkept := msgAbandoned_regs s k
  have hlive := fun d => hkept.live (msgAbandoned_same s k) d h0 h1
  rw [hkept.slotDesc hbase hidx]
  obtain ⟨ha, ha', h5, h6⟩ := h
  exact ⟨ha, ha', (hlive 5).trans h5, (hlive 6).trans h6⟩

end

/-- A message that begins, `owned` saying whether its descriptor is. -/
def HvsMsg.begun (m : HvsMsg) (stamp : Nat) (owned : Bool) : HvsMsg :=
  { m with active := true, bytes := [], written := 0, fin := false, stamp := stamp, desc := owned, counted := false }

/-- A message with a further word. -/
def HvsMsg.extended (m : HvsMsg) (bytes : List Byte) (fin : Bool) : HvsMsg := { m with bytes := m.bytes ++ bytes, fin := m.fin || fin }

/-- A message begins with its first word. -/
def State.msgStarted (s : State) (k stamp : Nat) (owned : Bool) (bytes : List Byte) (fin : Bool) : State :=
  (s.modSlot k (fun m => m.begun stamp owned)).modSlot k (fun m => m.extended bytes fin)

theorem msgBegin_ram {s : State} {k : Nat} (h : s.inRam (s.slotDesc k) 16) (stamp : Nat) :
    s.msgBegin k stamp = s.modSlot k (fun m => m.begun stamp (nbit (s.ramWord (s.slotDesc k + 4)) 31)) := by
  simp only [State.msgBegin, slotFetch_ram h]
  rfl

section
variable (s : State) (k stamp : Nat) (owned : Bool) (bytes : List Byte) (fin : Bool)

theorem msgStarted_slot : (s.msgStarted k stamp owned bytes fin).slot k = ((s.slot k).begun stamp owned).extended bytes fin := by
  rw [State.msgStarted, slot_modSlot_same, slot_modSlot_same]

theorem msgStarted_other {i : Nat} (h : i ≠ k) : (s.msgStarted k stamp owned bytes fin).slot i = s.slot i := by
  rw [State.msgStarted, slot_modSlot_other _ _ h, slot_modSlot_other _ _ h]

theorem msgStarted_regN (a : Nat) : (s.msgStarted k stamp owned bytes fin).regN a = s.regN a := rfl

theorem msgStarted_same : Same [.hvs] s (s.msgStarted k stamp owned bytes fin) :=
  .step (State.modSlot_same ..) (State.modSlot_same ..)

end

/-- A message that takes the place of an abandoned one. -/
theorem msgRestarted_spec (u : State) {k : Nat} (hk : k < 384) (stamp : Nat) (owned : Bool) (bytes : List Byte) (fin : Bool) :
    let t := (u.msgAbandoned k).msgStarted k stamp owned bytes fin
    (t.slot k).bytes = bytes ∧ t.regN (C.HVS_FAIL k).addr = (u.regN (C.HVS_FAIL k).addr + 1) % 2 ^ 32 ∧
      (u.live 7 = true → t.pends 59 = true) ∧ u.framed t [.regs, .dict, .hvs, .evt] (failRegs k) := by
  refine ⟨?_, (msgStarted_regN ..).trans (msgAbandoned_fails u k), fun h7 => ?_, ?_⟩
  · rw [msgStarted_slot]
    rfl
  · rw [State.pends, msgStarted_regN]
    exact msgAbandoned_pends hk h7
  · exact ⟨.step (msgStarted_same ..) (msgAbandoned_same u k), (RegsKept.step (msgStarted_same ..) (msgAbandoned_regs u k)).eq⟩

/-! ### Words that are received (R232) -/

/-- A word passes the taps of the engines and changes nothing but them. -/
theorem engTapWord_withAut (s : State) (slot : Nat) (bytes : List Byte) (start fin : Bool) (stamp : Nat) :
    ∃ x, s.engTapWord slot bytes start fin stamp = s.withAut x := by
  have hfold : ∀ (l : List Nat) (u : State), (∃ x, u = s.withAut x) → ∃ x, l.foldl (fun s n =>
      if s.engTaps n slot then s.modEng n (fun e => e.feed bytes start fin stamp) else s) u = s.withAut x := by
    intro l
    induction l with
    | nil => exact fun _ hu => hu
    | cons n l ih =>
      rintro u ⟨x, rfl⟩
      refine ih _ ?_
      dsimp only
      split
      · exact ⟨_, rfl⟩
      · exact ⟨x, rfl⟩
  exact hfold _ s ⟨s.aut, rfl⟩

/-- What does not look at the engines reads as before. -/
theorem engTapWord_reads {α : Type} (f : State → α) {s : State} (hf : ∀ x, f (s.withAut x) = f s) (slot : Nat) (bytes : List Byte)
    (start fin : Bool) (stamp : Nat) : f (s.engTapWord slot bytes start fin stamp) = f s := by
  obtain ⟨x, hx⟩ := engTapWord_withAut s slot bytes start fin stamp
  rw [hx, hf]

/-- The state in which a word of sub-channel j of lane n has passed the taps. -/
def State.tapped (s : State) (n j : Nat) (start fin : Bool) (word : BitVec 64) : State :=
  s.engTapWord (8 * n + j) (beBytes 8 word.toNat) start fin (s.epochNs n)

section
variable (s : State) (n j : Nat) (start fin : Bool) (word : BitVec 64)

theorem tapped_slotOn (k : Nat) : (s.tapped n j start fin word).slotOn k = s.slotOn k := engTapWord_reads (·.slotOn k) (fun _ => rfl) ..

theorem tapped_laneLocked (m : Nat) : (s.tapped n j start fin word).laneLocked m = s.laneLocked m :=
  engTapWord_reads (·.laneLocked m) (fun _ => rfl) ..

theorem tapped_slot (k : Nat) : (s.tapped n j start fin word).slot k = s.slot k := engTapWord_reads (·.slot k) (fun _ => rfl) ..

theorem tapped_desc (k : Nat) (h : s.inRam (s.slotDesc k) 16) :
    (s.tapped n j start fin word).inRam ((s.tapped n j start fin word).slotDesc k) 16 := by
  obtain ⟨x, hx⟩ := engTapWord_withAut s (8 * n + j) (beBytes 8 word.toNat) start fin (s.epochNs n)
  rw [State.tapped, hx]
  exact h

end

/-- A word joins the message of its slot, and is discarded where there is none. -/
def State.wordJoins (s : State) (k : Nat) (bytes : List Byte) (fin : Bool) : State :=
  if (s.slot k).active then s.modSlot k (fun m => m.extended bytes fin) else s

theorem next_wordJoins (s : State) (k : Nat) (bytes : List Byte) (fin : Bool) :
    (if !(s.slot k).active then .next s else .next (s.modSlot k (fun m => m.extended bytes fin)) : Host.Outcome State Fault Refusal) =
      .next (s.wordJoins k bytes fin) := by
  cases h : (s.slot k).active <;> simp [State.wordJoins, h]

section
variable {s : State} {n : Fin 24} {j : Fin 8} {k : Nat} (hk : hvsSlot n.val j.val 0 = k) (hon : s.slotOn k = true)
  (hl : s.laneLocked n.val = true) (fin : Bool) (word : BitVec 64)
include hk hon hl

/-- A word of a slot that works: with START it abandons the message it finds and begins one, which it then joins. -/
theorem exec_companionWord (start : Bool) : exec (.companionWordReceived n j start fin word) s =
    let u := s.tapped n.val j.val start fin word
    let v := if start && (s.slot k).active then u.msgAbandoned k else u
    .next ((if start then v.msgBegin k (v.epochNs n.val) else v).wordJoins k (beBytes 8 word.toNat) fin) := by
  subst hk
  change execCompanionWordReceived n j start fin word s = _
  simp only [execCompanionWordReceived, hl, if_true, ← State.tapped.eq_1, tapped_slotOn, hon, tapped_laneLocked, tapped_slot,
    Bool.not_true, Bool.or_self, Bool.false_eq_true, if_false, ← State.msgAbandoned.eq_1]
  exact next_wordJoins ..

/-- A word with START begins a message in the state `v` that the abandoned one leaves. -/
theorem exec_companionWord_start {v : State}
    (hv : (if (s.slot k).active then (s.tapped n.val j.val true fin word).msgAbandoned k else s.tapped n.val j.val true fin word) = v)
    (hdesc : v.inRam (v.slotDesc k) 16) :
    exec (.companionWordReceived n j true fin word) s = .next (v.msgStarted k (v.epochNs n.val)
      (nbit (v.ramWord (v.slotDesc k + 4)) 31) (beBytes 8 word.toNat) fin) := by
  have hactive : ∀ stamp owned, ((v.modSlot k fun m => m.begun stamp owned).slot k).active = true := fun stamp owned => by
    rw [slot_modSlot_same]
    rfl
  simp only [exec_companionWord hk hon hl, Bool.true_and, if_true, hv, msgBegin_ram hdesc, State.wordJoins, hactive]
  rfl

/-- Outside a message, a word with START begins one with the current descriptor and the time of the epoch. -/
theorem exec_companionWord_begins (hfree : (s.slot k).active = false) (hr : s.inRam (s.slotDesc k) 16) :
    exec (.companionWordReceived n j true fin word) s = .next ((s.tapped n.val j.val true fin word).msgStarted k (s.epochNs n.val)
      (nbit (s.ramWord (s.slotDesc k + 4)) 31) (beBytes 8 word.toNat) fin) := by
  have hstamp : (s.tapped n.val j.val true fin word).epochNs n.val = s.epochNs n.val :=
    engTapWord_reads (·.epochNs n.val) (fun _ => rfl) ..
  have hword : (s.tapped n.val j.val true fin word).ramWord ((s.tapped n.val j.val true fin word).slotDesc k + 4) =
      s.ramWord (s.slotDesc k + 4) := engTapWord_reads (fun t => t.ramWord (t.slotDesc k + 4)) (fun _ => rfl) ..
  rw [exec_companionWord_start hk hon hl fin word (by rw [hfree, if_neg Bool.false_ne_true]) (tapped_desc _ _ _ _ _ _ _ hr), hstamp,
    hword]

/-- Within one, it abandons it first. -/
theorem exec_companionWord_abandons (hact : (s.slot k).active = true) (hr : s.inRam (s.slotDesc k) 16) :
    let v := (s.tapped n.val j.val true fin word).msgAbandoned k
    exec (.companionWordReceived n j true fin word) s = .next (v.msgStarted k (v.epochNs n.val)
      (nbit (v.ramWord (v.slotDesc k + 4)) 31) (beBytes 8 word.toNat) fin) :=
  exec_companionWord_start hk hon hl fin word (if_pos hact)
    (msgAbandoned_desc (hk ▸ hvsSlot_lt n j (by decide)) (tapped_desc _ _ _ _ _ _ _ hr))

/-- A word without START extends the message it finds. -/
theorem exec_companionWord_extends (hact : (s.slot k).active = true) : exec (.companionWordReceived n j false fin word) s =
    .next ((s.tapped n.val j.val false fin word).modSlot k (fun m => m.extended (beBytes 8 word.toNat) fin)) := by
  simp only [exec_companionWord hk hon hl, Bool.false_and, Bool.false_eq_true, if_false, State.wordJoins, tapped_slot, hact, if_true]

/-- Outside a message it is idle. -/
theorem exec_companionWord_idle (hfree : (s.slot k).active = false) : exec (.companionWordReceived n j false fin word) s =
    .next (s.tapped n.val j.val false fin word) := by
  simp only [exec_companionWord hk hon hl, Bool.false_and, Bool.false_eq_true, if_false, State.wordJoins, tapped_slot, hfree]

end

/-! ### Messages that are sent (R234, R236) -/

/-- The ring of a slot moves on and the message counts, raising E56 where the slot asks for it. -/
def State.msgCounted (s : State) (k : Nat) : State :=
  let t := (s.slotNext k).count (C.HVS_MSGS k)
  if t.flag (R.HVS_SLOT0_IRQ k) then t.raise 56 else t

/-- A descriptor is completed: the time in word 3, then word 1 with OWN cleared. -/
def State.descDone (s : State) (a w1 ns : Nat) : State :=
  (s.setSramBytes (a + 12) (leBytes 4 ns)).setSramBytes (a + 4) (leBytes 4 (nput w1 31 31 0))

/-- A message leaves on its Varlas lane; the sub-channel's next frame is due after it. -/
def State.msgLeft (s : State) (n k due : Nat) (bytes : List Byte) : State :=
  (s.modLane n (fun l => { l with lastTx := bytes, bittern := false })).modSlot k (fun m => { m with due := due })

/-- The registers that a message which was sent changes. -/
def sentRegs (k : Nat) : List Nat := R.HVS_SLOT2 k :: R.EVT_PEND 1 :: (C.HVS_MSGS k).regs

section
variable (s : State) (k : Nat)

theorem slotNext_regs : RegsKept [R.HVS_SLOT2 k] s (s.slotNext k) := (RegsKept.refl ..).setFld _ (by simp [R.HVS_SLOT2_IDX])

/-- The ring moves on to its next descriptor, and from its last to its first. -/
theorem slotNext_idx : (s.slotNext k).fld (R.HVS_SLOT2_IDX k) =
    (s.fld (R.HVS_SLOT2_IDX k) + 1) % max 2 (min 256 (s.fld (R.HVS_SLOT2_SIZE k))) := by
  refine (fld_setFld_bits _ _ 24 16 _).trans (Nat.mod_eq_of_lt ?_)
  refine Nat.lt_of_lt_of_le (Nat.mod_lt _ ?_) (show max 2 (min 256 (s.fld (R.HVS_SLOT2_SIZE k))) ≤ 2 ^ 9 from ?_) <;> omega

theorem nextCounted_regs : RegsKept (R.HVS_SLOT2 k :: (C.HVS_MSGS k).regs) s ((s.slotNext k).count (C.HVS_MSGS k)) :=
  ((slotNext_regs s k).mono (by simp)).trans ((count_regs ..).mono (by simp))

theorem nextCounted_same : Same [.regs, .dict] s ((s.slotNext k).count (C.HVS_MSGS k)) :=
  .step (State.count_same ..) (.step (State.slotNext_same ..) (.refl ..))

theorem msgCounted_regs : RegsKept (sentRegs k) s (s.msgCounted k) := by
  have hcount : RegsKept (sentRegs k) s ((s.slotNext k).count (C.HVS_MSGS k)) := (nextCounted_regs s k).mono (by simp [sentRegs])
  exact .ite (hcount.raise (by simp [sentRegs])) hcount

theorem msgCounted_same : Same [.regs, .dict, .evt] s (s.msgCounted k) :=
  .ite (.step (State.raise_same ..) (.step (nextCounted_same s k) (.refl ..))) (.step (nextCounted_same s k) (.refl ..))

/-- An event leaves what the count shows. -/
theorem msgCounted_regN {a : Nat} (ha : a ≠ R.EVT_PEND 1) :
    (s.msgCounted k).regN a = ((s.slotNext k).count (C.HVS_MSGS k)).regN a := by
  unfold State.msgCounted
  dsimp only
  split
  · exact (raise_framed _ 56).regN (by simpa using ha)
  · rfl

theorem msgCounted_idx : (s.msgCounted k).fld (R.HVS_SLOT2_IDX k) =
    (s.fld (R.HVS_SLOT2_IDX k) + 1) % max 2 (min 256 (s.fld (R.HVS_SLOT2_SIZE k))) := by
  have hcount : ((s.slotNext k).count (C.HVS_MSGS k)).fld (R.HVS_SLOT2_IDX k) = (s.slotNext k).fld (R.HVS_SLOT2_IDX k) :=
    (count_regs ..).fld (by simp [Ctr.regs, C.HVS_MSGS, R.HVS_MSGS, R.HVS_SLOT2_IDX, R.HVS_SLOT2])
  rw [← slotNext_idx, ← hcount, State.fld,
    msgCounted_regN _ _ (by simp only [R.HVS_SLOT2_IDX, R.HVS_SLOT2, R.EVT_PEND]; omega), State.fld]

theorem msgCounted_count : (s.msgCounted k).regN (C.HVS_MSGS k).addr = (s.regN (C.HVS_MSGS k).addr + 1) % 2 ^ 32 := by
  rw [msgCounted_regN _ _ (by simp only [C.HVS_MSGS, R.HVS_MSGS, R.EVT_PEND]; omega),
    ← (slotNext_regs s k).regN (a := (C.HVS_MSGS k).addr)
      (by simp only [C.HVS_MSGS, R.HVS_MSGS, R.HVS_SLOT2, List.mem_singleton]; omega)]
  exact countN_regN (s.slotNext k) (C.HVS_MSGS k) 1 rfl (by simp [C.HVS_MSGS])

theorem msgCounted_pends {k : Nat} (hk : k < 384) (hirq : s.flag (R.HVS_SLOT0_IRQ k) = true) (h7 : s.live 7 = true) :
    (s.msgCounted k).pends 56 = true := by
  have hapart : R.HVS_SLOT0 k ∉ R.HVS_SLOT2 k :: (C.HVS_MSGS k).regs ∧ R.PWR_STATE0 ∉ R.HVS_SLOT2 k :: (C.HVS_MSGS k).regs ∧
      R.PWR_STATE1 ∉ R.HVS_SLOT2 k :: (C.HVS_MSGS k).regs := by
    simp only [Ctr.regs, C.HVS_MSGS, R.HVS_MSGS, R.HVS_SLOT0, R.HVS_SLOT2, R.PWR_STATE0, R.PWR_STATE1, Option.map_none,
      Option.toList_none, List.mem_cons, List.not_mem_nil, or_false]
    omega
  obtain ⟨hslot, h0, h1⟩ := hapart
  have hkept := nextCounted_regs s k
  rw [State.msgCounted, if_pos ((hkept.flag (f := R.HVS_SLOT0_IRQ k) hslot).trans hirq)]
  exact raise_pends ((hkept.live (nextCounted_same s k) 7 h0 h1).trans h7) (by decide)

end

section
variable (s : State) (a : Nat) {w1 ns : Nat}

theorem descDone_same : Same [.sram] s (s.descDone a w1 ns) := .step (State.setSramBytes_same ..) (State.setSramBytes_same ..)

theorem descDone_word (hw : w1 < 2 ^ 32) : (s.descDone a w1 ns).ramWord (a + 4) = nput w1 31 31 0 := ramWord_set _ _ (nput_lt hw 0)

theorem descDone_stamp (hns : ns < 2 ^ 32) : (s.descDone a w1 ns).ramWord (a + 12) = ns := by
  rw [State.descDone, ramWord_set_other _ _ _ (by rw [length_leBytes]; omega), ramWord_set _ _ hns]

theorem descDone_kept : s.ramKept (s.descDone a w1 ns) [(a + 4, 4), (a + 12, 4)] := by
  intro x hx
  simp only [List.forall_mem_cons] at hx
  obtain ⟨hword, hstamp, -⟩ := hx
  rw [State.descDone, sramByte_set_other _ _ _ (by rwa [length_leBytes]), sramByte_set_other _ _ _ (by rwa [length_leBytes])]

end

theorem laneCount_none (s : State) (n : Nat) (c : Ctr) : s.laneCount n c 0 = s := by simp [State.laneCount]

theorem msgLeft_same (s : State) (n k due : Nat) (bytes : List Byte) : Same [.lanes, .hvs] s (s.msgLeft n k due bytes) :=
  .step (State.modSlot_same ..) (.step (State.modLane_same ..) (.refl ..))

theorem msgLeft_lane (s : State) (n k due : Nat) (bytes : List Byte) : ((s.msgLeft n k due bytes).lane n).lastTx = bytes :=
  congrArg LaneSt.lastTx (lane_modLane_same s n (fun l => { l with lastTx := bytes, bittern := false }))

/-- The words of a descriptor in SRAM are written while its slot works, and the message counts. -/
theorem next_descDone {u : State} {k a : Nat} (hr : u.inRam a 16) (hon : u.slotOn k = true) (w1 ns : Nat) :
    (let v := u.slotWrite k (a + 12) (leBytes 4 ns)
      if !v.slotOn k then .next v
      else
        let w := v.slotWrite k (a + 4) (leBytes 4 (nput w1 31 31 0))
        if !w.slotOn k then .next w
        else
          let t := (w.slotNext k).count (C.HVS_MSGS k)
          .next (if t.flag (R.HVS_SLOT0_IRQ k) then t.raise 56 else t) : Host.Outcome State Fault Refusal) =
      .next ((u.descDone a w1 ns).msgCounted k) := by
  have hstamp := slotWrite_ram (s := u) (a := a + 12) (bs := leBytes 4 ns) (inRam_part hr (by rw [length_leBytes])) k
  have hset := State.setSramBytes_same u (a + 12) (leBytes 4 ns)
  have hword := slotWrite_ram (s := u.setSramBytes (a + 12) (leBytes 4 ns)) (a := a + 4) (bs := leBytes 4 (nput w1 31 31 0))
    (inRam_of_same hset (inRam_part hr (by rw [length_leBytes]; omega))) k
  simp only [hstamp, hword, slotOn_of_same (State.setSramBytes_same ..) k, hon]
  rfl

section
variable {s : State} {n : Fin 24} {j : Fin 8} {k a : Nat} (hk : hvsSlot n.val j.val 1 = k) (ha : s.slotDesc k = a)
  (hon : s.slotOn k = true) (hl : s.laneSends n.val = true) (hr : s.inRam a 16)
include hk ha hon hl hr

/-- A descriptor that is not owned is waited for. -/
theorem exec_harvestTransmit_waits (hown : nbit (s.ramWord (a + 4)) 31 = false) : exec (.harvestTransmit n j) s = .next s := by
  subst hk ha
  change execHarvestTransmit n j s = _
  simp [execHarvestTransmit, hon, hl, slotFetch_ram hr, hown]

/-- A descriptor with a length that cannot be sent completes with ERR. -/
theorem exec_harvestTransmit_err {len : Nat} (hlen : s.ramWord (a + 4) % 65536 = len) (hown : nbit (s.ramWord (a + 4)) 31 = true)
    (hbad : len = 0 ∨ (s.varlas n.val = true ∧ len % 8 ≠ 0) ∨ (s.varlas n.val = false ∧ (len < 60 ∨ 1514 < len))) :
    exec (.harvestTransmit n j) s =
      .next ((s.setSramBytes (a + 4) (leBytes 4 (nput (nput (s.ramWord (a + 4)) 31 31 0) 30 30 1))).slotNext k) := by
  have hbad' : (len = 0 || (s.varlas n.val && len % 8 ≠ 0) || (!s.varlas n.val && (len < 60 || 1514 < len))) = true := by
    simpa [or_assoc] using hbad
  have hwrite := fun v => slotWrite_ram (k := k) (bs := leBytes 4 v) (inRam_part hr (k := 4) (by rw [length_leBytes]; omega))
  have hon' : ∀ bs, (s.setSramBytes (a + 4) bs).slotOn k = true := fun bs => (slotOn_of_same (State.setSramBytes_same ..) k).trans hon
  subst hk ha hlen
  change execHarvestTransmit n j s = _
  simp only [execHarvestTransmit, hon, hl, slotFetch_ram hr, hown, hbad', hwrite, hon']
  rfl

/-- On a Varlas lane the message of an owned descriptor is sent, and the descriptor completed. -/
theorem exec_harvestTransmit_sent {buf len : Nat} (hbuf : s.ramWord a = buf) (hlen : s.ramWord (a + 4) % 65536 = len)
    (hv : s.varlas n.val = true) (hown : nbit (s.ramWord (a + 4)) 31 = true) (h0 : 0 < len) (h8 : len % 8 = 0)
    (hram : s.inRam buf len) :
    exec (.harvestTransmit n j) s =
      .next (((s.msgLeft n.val k (s.now + len * 800000 / (max 1 (s.fld (R.HVS_SLOT0_M k)) * 128)) (s.ram buf len)).descDone a
        (s.ramWord (a + 4)) (s.epochNs n.val)).msgCounted k) := by
  have hgood : (len = 0 || (s.varlas n.val && len % 8 ≠ 0) || (!s.varlas n.val && (len < 60 || 1514 < len))) = false := by
    simp [hv, h8, Nat.ne_of_gt h0]
  have hlane : n.val ≠ 24 := by omega
  have hleft := msgLeft_same s n.val k (s.now + len * 800000 / (max 1 (s.fld (R.HVS_SLOT0_M k)) * 128)) (s.ram buf len)
  have hdone := next_descDone (inRam_of_same hleft hr) ((slotOn_of_same hleft k).trans hon) (s.ramWord (a + 4)) (s.epochNs n.val)
  subst hk ha hlen hbuf
  change execHarvestTransmit n j s = _
  simp only [execHarvestTransmit, hon, hl, slotFetch_ram hr, hown, hgood, inSram_of_inRam hram, memRead_sram (ramUp_of_inRam hram),
    Bool.not_true, Bool.or_self, Bool.false_eq_true, if_false]
  simp only [hv, if_true, State.lineRaw, if_neg hlane, laneCount_none]
  exact hdone

end

theorem epochNs_lt (s : State) (n : Nat) : s.epochNs n < 2 ^ 32 := by
  unfold State.epochNs
  omega

/-- A message that was sent: the line, its descriptor, the ring and the count. -/
theorem msgSent_spec (s : State) (n : Nat) {k : Nat} (hk : k < 384) (a due : Nat) {w1 ns : Nat} (hw : w1 < 2 ^ 32) (hns : ns < 2 ^ 32)
    (bytes : List Byte) :
    let t := ((s.msgLeft n k due bytes).descDone a w1 ns).msgCounted k
    (t.lane n).lastTx = bytes ∧ t.ramWord (a + 4) = nput w1 31 31 0 ∧ t.ramWord (a + 12) = ns ∧
      s.ramKept t [(a + 4, 4), (a + 12, 4)] ∧
      t.fld (R.HVS_SLOT2_IDX k) = (s.fld (R.HVS_SLOT2_IDX k) + 1) % max 2 (min 256 (s.fld (R.HVS_SLOT2_SIZE k))) ∧
      t.regN (C.HVS_MSGS k).addr = (s.regN (C.HVS_MSGS k).addr + 1) % 2 ^ 32 ∧
      (s.flag (R.HVS_SLOT0_IRQ k) = true → s.live 7 = true → t.pends 56 = true) ∧
      s.framed t [.regs, .dict, .sram, .lanes, .hvs, .evt] (sentRegs k) := by
  intro t
  have hdone : Same [.sram, .lanes, .hvs] s ((s.msgLeft n k due bytes).descDone a w1 ns) :=
    .step (descDone_same ..) (.step (msgLeft_same ..) (.refl ..))
  have hcounted := msgCounted_same ((s.msgLeft n k due bytes).descDone a w1 ns) k
  have hkept : RegsKept [] s ((s.msgLeft n k due bytes).descDone a w1 ns) := .step hdone (.refl ..)
  have hsram := hcounted.sram (by decide)
  refine ⟨?_, ?_, ?_, ?_, ?_, ?_, fun hirq h7 => ?_, .step hcounted (.step hdone (.refl ..)), ?_⟩
  · rw [lane_of_lanes (hcounted.lanes (by decide)), lane_of_lanes ((descDone_same ..).lanes (by decide)), msgLeft_lane]
  · rw [ramWord_of_sram hsram, descDone_word _ _ hw]
  · rw [ramWord_of_sram hsram, descDone_stamp _ _ hns]
  · exact ramKept_of_sram (descDone_kept (s.msgLeft n k due bytes) a) hsram
  · rw [msgCounted_idx, hkept.fld (by simp), hkept.fld (by simp)]
  · rw [msgCounted_count, hkept.regN (by simp)]
  · exact msgCounted_pends _ hk ((hkept.flag (by simp)).trans hirq) ((live_of_same hdone 7).trans h7)
  · exact ((hkept.mono (by simp)).trans (msgCounted_regs ..)).eq

/-- A descriptor that completes with ERR. -/
theorem descErr_spec (s : State) (k a : Nat) {w1 : Nat} (hw : w1 < 2 ^ 32) :
    let t := (s.setSramBytes (a + 4) (leBytes 4 (nput (nput w1 31 31 0) 30 30 1))).slotNext k
    t.ramWord (a + 4) = nput (nput w1 31 31 0) 30 30 1 ∧ s.ramKept t [(a + 4, 4)] ∧ s.framed t [.regs, .sram] [R.HVS_SLOT2 k] := by
  intro t
  have hset := State.setSramBytes_same s (a + 4) (leBytes 4 (nput (nput w1 31 31 0) 30 30 1))
  have hsram : t.sram = _ := (State.slotNext_same ..).sram (by decide)
  refine ⟨?_, ramKept_of_sram (fun x hx => ?_) hsram, .step (State.slotNext_same ..) (.step hset (.refl ..)),
    ((RegsKept.step hset (.refl ..)).trans (slotNext_regs ..)).eq⟩
  · rw [ramWord_of_sram hsram, ramWord_set _ _ (nput_lt (nput_lt hw 0) 1)]
  · exact sramByte_set_other _ _ _ (by simpa [length_leBytes] using hx)

/-! ### Slots that are enabled and disabled (R231, R237) -/

/-- The block of the registers of Harvest. -/
def hvsBlock : BlockDesc := ⟨"HVS", 0x42050000, 0x10000, 0x35, 12, false, regsHvs⟩

/-- The registers of word 0 of the slots. -/
def slotReg : RegDesc :=
  ⟨"HVS_SLOT0", 0x1000, 384, 0x20, [⟨"EN", 31, 31, .rw, 0⟩, ⟨"IRQ", 30, 30, .rw, 0⟩, ⟨"S", 23, 16, .rw, 0⟩, ⟨"M", 12, 8, .rw, 0⟩]⟩

/-- The word that a write leaves in word 0 of a slot. -/
def slotWord (old data : Word) : Word := (old &&& ~~~0xC0FF1F00) ||| (data &&& 0xC0FF1F00)

theorem rwMask_slot (s : State) : s.rwMask hvsBlock slotReg = 0xC0FF1F00#32 := by
  simp [State.rwMask, RegDesc.maskOf, slotReg, FieldDesc.mask]

theorem writtenWord_slot (s : State) (old data : Word) :
    s.writtenWord hvsBlock slotReg old data 0xFFFFFFFF = slotWord old data := by
  have hw1c : slotReg.bits .w1c = 0 := by decide
  have hw1s : slotReg.bits .w1s = 0 := by decide
  have hwo : slotReg.bits .wo = 0 := by decide
  have hall : ∀ w : Word, w &&& 0xFFFFFFFF#32 = w := fun w => BitVec.and_allOnes
  simp [State.writtenWord, rwMask_slot, hw1c, hw1s, hwo, hall, slotWord]

/-- The addresses of Harvest are in its block alone. -/
theorem blockAt_hvs {a : Nat} (h : 0x42050000 ≤ a) (h' : a < 0x42060000) : blockAt a = some hvsBlock := by
  have hother : ∀ b ∈ fixedBlocks, b = hvsBlock ∨ b.base + b.size ≤ 0x42050000 ∨ 0x42060000 ≤ b.base := by decide
  rw [blockAt, if_neg (by omega)]
  cases hf : fixedBlocks.find? (fun b => b.base ≤ a && a < b.base + b.size) with
  | none =>
    have hin : hvsBlock ∈ fixedBlocks := by decide
    exact absurd (by simp [hvsBlock, h, h'] : (hvsBlock.base ≤ a && a < hvsBlock.base + hvsBlock.size) = true)
      (List.find?_eq_none.1 hf _ hin)
  | some b =>
    have hb := List.find?_some hf
    simp only [Bool.and_eq_true, decide_eq_true_eq] at hb
    rw [(hother b (List.mem_of_find?_eq_some hf)).resolve_right (by omega)]

theorem regAt_slot (n : Fin 384) : hvsBlock.regAt (0x1000 + 0x20 * n.val) = some slotReg := by
  have hfind : regsHvs.find? (·.holds (0x1000 + 0x20 * n.val)) = some slotReg := by
    rw [regsHvs, List.find?_cons_of_neg, List.find?_cons_of_neg, List.find?_cons_of_pos]
    · rfl
    · simp [RegDesc.holds]
    · simp [RegDesc.holds]
      omega
    · simp [RegDesc.holds]
  rw [BlockDesc.regAt]
  simp only [hvsBlock, hfind]

/-- An address at the offset of a register names it. -/
theorem form_of_regAt {b : BlockDesc} {o : Nat} {r : RegDesc} (h : b.regAt o = some r) : b.form (b.base + o) = .own r := by
  simp only [BlockDesc.form, Nat.add_sub_cancel_left, h]

theorem slot_offset (k : Nat) : R.HVS_SLOT0 k = hvsBlock.base + (0x1000 + 0x20 * k) := by
  simp only [R.HVS_SLOT0, hvsBlock]
  omega

/-- A flag is a bit of its register. -/
theorem flag_eq_nbit (s : State) (a i : Nat) : s.flag ⟨a, i, i⟩ = nbit (s.reg a).toNat i := by
  have hwidth : i + 1 - i = 1 := by omega
  rcases Nat.mod_two_eq_zero_or_one ((s.reg a).toNat / 2 ^ i) with h | h <;>
    simp [State.flag, State.fld, State.regN, nbits, nbit, hwidth, h]

/-- A bit that is cleared reads as clear. -/
theorem flag_setFld_clear (s : State) (a i : Nat) (h31 : i < 32 := by decide) : (s.setFld ⟨a, i, i⟩ 0).flag ⟨a, i, i⟩ = false := by
  rw [State.flag, fld_setFld_bits s a i i 0 (Nat.le_refl i) h31, Nat.zero_mod]
  rfl

/-- The data of an enabling write has EN. -/
theorem nbit_enable (data : Word) : nbit (data ||| 0x80000000).toNat 31 = true := by
  rw [nbit_eq_testBit, BitVec.testBit_toNat, BitVec.getLsbD_or]
  simp

/-- The state in which a write has stored word 0 of a slot. -/
def State.slotStored (s : State) (rid : Rid) (k : Nat) (data : Word) : State :=
  (s.withAnswer { rid := rid }).setReg (R.HVS_SLOT0 k) (slotWord (s.reg (R.HVS_SLOT0 k)) data)

theorem slotStored_framed (s : State) (rid : Rid) (k : Nat) (data : Word) :
    s.framed (s.slotStored rid k data) [.regs, .answer] [R.HVS_SLOT0 k] := answered_setReg_framed ..

/-- A write of word 0 of a slot stores it, and Harvest goes on with that. -/
theorem write_slot {s : State} {rid : Rid} (h : s.serves rid 12) (n : Fin 384) (data : Word) :
    s.write rid (R.HVS_SLOT0 n.val) data =
      hvsWrite rid (R.HVS_SLOT0 n.val) data (s.reg (R.HVS_SLOT0 n.val)) (s.slotStored rid n.val data) := by
  obtain ⟨ho, hp⟩ := h
  have hplace : 0x42050000 ≤ R.HVS_SLOT0 n.val ∧ R.HVS_SLOT0 n.val < 0x42060000 ∧ R.HVS_SLOT0 n.val % 4 = 0 ∧
      ¬ (hvsBlock.base + 0x3F0 ≤ R.HVS_SLOT0 n.val ∧ R.HVS_SLOT0 n.val < hvsBlock.base + 0x400) := by
    simp only [R.HVS_SLOT0, hvsBlock]
    omega
  obtain ⟨hlo, hhi, h4, hh⟩ := hplace
  have hspace : regSpace (R.HVS_SLOT0 n.val) = true := by
    simp only [regSpace, Bool.or_eq_true, Bool.and_eq_true, decide_eq_true_eq]
    omega
  have hform : hvsBlock.form (R.HVS_SLOT0 n.val) = .own slotReg := by rw [slot_offset, form_of_regAt (regAt_slot n)]
  have hwrite := write_own (data := data) ho hspace (blockAt_hvs hlo hhi) h4 rfl hp hform hh (.inr (by decide)) rfl
  rw [stored_plain (by decide), writtenWord_slot] at hwrite
  have hic : (hvsWrite rid (R.HVS_SLOT0 n.val) data (s.reg (R.HVS_SLOT0 n.val)) (s.slotStored rid n.val data)).ic = s.ic := by
    rw [(hvsWrite_same ..).ic (by decide)]
    rfl
  refine hwrite.trans (settleDma_none _ ?_)
  exact (congrArg (fun x : IcSt => x.dma.any (fun p => p.2.abort)) hic).trans ho.2.2

/-- What Harvest makes of a write of word 0 of a slot: EN may only change, and is set only where the slot is well configured. -/
theorem hvsWrite_slot (rid : Rid) (n : Fin 384) (data old : Word) (s : State) : hvsWrite rid (R.HVS_SLOT0 n.val) data old s =
    if nbit old.toNat 31 then
      if nbit data.toNat 31 then (s.setReg (R.HVS_SLOT0 n.val) old).setFld R.HVS_STAT_CFG_REJ 1
      else (s.setReg (R.HVS_SLOT0 n.val) old).slotStop n.val
    else if nbit data.toNat 31 then
      if s.slotBad n.val then (s.setFld (R.HVS_SLOT0_EN n.val) 0).setFld R.HVS_STAT_CFG_REJ 1
      else (s.setFld (R.HVS_SLOT2_IDX n.val) 0).modSlot n.val (fun _ => {})
    else s := by
  have hplace : R.HVS_SLOT0 0 ≤ R.HVS_SLOT0 n.val ∧ R.HVS_SLOT0 n.val < R.HVS_SLOT0 384 ∧
      (R.HVS_SLOT0 n.val - R.HVS_SLOT0 0) % 32 = 0 := by
    simp only [R.HVS_SLOT0]
    omega
  have hslot : (R.HVS_SLOT0 n.val - R.HVS_SLOT0 0) / 32 = n.val := by
    simp only [R.HVS_SLOT0]
    omega
  rw [hvsWrite, if_pos hplace, hslot]

/-- Whether a slot is badly configured does not rest on the answer of the access. -/
theorem slotStored_bad (s : State) (rid : Rid) (k : Nat) (data : Word) (i : Nat) : (s.slotStored rid k data).slotBad i =
    (s.setReg (R.HVS_SLOT0 k) (slotWord (s.reg (R.HVS_SLOT0 k)) data)).slotBad i := rfl

/-- A slot that is enabled. -/
theorem slotEnabled_spec (s : State) (rid : Rid) (k : Nat) (data : Word) :
    let t := ((s.slotStored rid k data).setFld (R.HVS_SLOT2_IDX k) 0).modSlot k (fun _ => {})
    t.reg (R.HVS_SLOT0 k) = slotWord (s.reg (R.HVS_SLOT0 k)) data ∧ t.fld (R.HVS_SLOT2_IDX k) = 0 ∧ t.slot k = {} ∧
      (∀ i, i ≠ k → t.slot i = s.slot i) ∧ s.framed t [.regs, .answer, .hvs] [R.HVS_SLOT0 k, R.HVS_SLOT2 k] := by
  have hapart : R.HVS_SLOT2 k ≠ R.HVS_SLOT0 k := by simp only [R.HVS_SLOT0, R.HVS_SLOT2]; omega
  have hset : s.framed _ [.regs, .answer, .hvs] [R.HVS_SLOT0 k, R.HVS_SLOT2 k] :=
    (slotStored_framed s rid k data).trans (framed_setFld _ (R.HVS_SLOT2_IDX k) 0 [.regs]) (hB := by simp [R.HVS_SLOT2_IDX])
  have hkept : RegsKept [] ((s.slotStored rid k data).setFld (R.HVS_SLOT2_IDX k) 0) _ :=
    .step (State.modSlot_same _ k (fun _ => {})) (.refl ..)
  have hidx := fld_setFld_bits (s.slotStored rid k data) (R.HVS_SLOT2 k) 24 16 0
  rw [Nat.zero_mod] at hidx
  exact ⟨(hkept.eq _ (by simp)).trans ((reg_setReg_other _ _ _ _ hapart).trans (reg_setReg_same ..)), (hkept.fld (by simp)).trans hidx,
    slot_modSlot_same .., fun i hi => (slot_modSlot_other _ _ hi).trans (slot_of_hvs rfl i), hset.step (State.modSlot_same ..)⟩

/-- An enabled slot that is enabled again stands, with CFG_REJ. -/
theorem slotRejected_again (s : State) (rid : Rid) (k : Nat) (data : Word) :
    let t := ((s.slotStored rid k data).setReg (R.HVS_SLOT0 k) (s.reg (R.HVS_SLOT0 k))).setFld R.HVS_STAT_CFG_REJ 1
    t.reg (R.HVS_SLOT0 k) = s.reg (R.HVS_SLOT0 k) ∧ t.flag R.HVS_STAT_CFG_REJ = true ∧
      s.framed t [.regs, .answer] [R.HVS_SLOT0 k, R.HVS_STAT] := by
  have hapart : R.HVS_STAT ≠ R.HVS_SLOT0 k := by simp only [R.HVS_SLOT0, R.HVS_STAT]; omega
  refine ⟨(reg_setReg_other _ _ _ _ hapart).trans (reg_setReg_same ..), flag_setFld_bit _ _ 1, ?_⟩
  exact (restored_framed (slotStored_framed s rid k data)).trans (framed_setFld _ R.HVS_STAT_CFG_REJ 1 [.regs])
    (hB := by simp [R.HVS_STAT_CFG_REJ])

/-- A slot that is badly configured stays disabled, with CFG_REJ. -/
theorem slotRejected_bad (s : State) (rid : Rid) (k : Nat) (data : Word) :
    let t := ((s.slotStored rid k data).setFld (R.HVS_SLOT0_EN k) 0).setFld R.HVS_STAT_CFG_REJ 1
    t.flag (R.HVS_SLOT0_EN k) = false ∧ t.flag R.HVS_STAT_CFG_REJ = true ∧
      s.framed t [.regs, .answer] [R.HVS_SLOT0 k, R.HVS_STAT] := by
  have hapart : R.HVS_STAT ≠ R.HVS_SLOT0 k := by simp only [R.HVS_SLOT0, R.HVS_STAT]; omega
  have hkept := RegsKept.mk (framed_setFld ((s.slotStored rid k data).setFld (R.HVS_SLOT0_EN k) 0) R.HVS_STAT_CFG_REJ 1 [.regs]).2
  have hcleared : s.framed _ [.regs, .answer] [R.HVS_SLOT0 k] :=
    (slotStored_framed s rid k data).trans (framed_setFld _ (R.HVS_SLOT0_EN k) 0 [.regs]) (hB := by simp [R.HVS_SLOT0_EN])
  exact ⟨(hkept.flag (by simpa [R.HVS_SLOT0_EN, R.HVS_STAT_CFG_REJ] using hapart.symm)).trans (flag_setFld_clear _ _ 31),
    flag_setFld_bit _ _ 1, hcleared.trans (framed_setFld _ R.HVS_STAT_CFG_REJ 1 [.regs]) (hB := by simp [R.HVS_STAT_CFG_REJ])⟩

section
variable (s : State) (k : Nat)

/-- A slot that is stopped: EN is clear and its message gone. -/
theorem slotStop_flag : (s.slotStop k).flag (R.HVS_SLOT0_EN k) = false := flag_setFld_clear s (R.HVS_SLOT0 k) 31

theorem slotStop_slot : (s.slotStop k).slot k = {} := slot_modSlot_same (s.setFld (R.HVS_SLOT0_EN k) 0) k (fun _ => {})

theorem slotStop_other {i : Nat} (h : i ≠ k) : (s.slotStop k).slot i = s.slot i :=
  slot_modSlot_other (s.setFld (R.HVS_SLOT0_EN k) 0) (fun _ => {}) h

theorem slotStop_framed : s.framed (s.slotStop k) [.regs, .hvs] [R.HVS_SLOT0 k] :=
  (framed_setFld s (R.HVS_SLOT0_EN k) 0 [.regs, .hvs]).step (State.modSlot_same ..)

end

/-- The register of a slot stands but for EN when it is stopped, and its descriptor stays. -/
theorem slotStopped_spec (s : State) (rid : Rid) (k : Nat) (data : Word) :
    let t := ((s.slotStored rid k data).setReg (R.HVS_SLOT0 k) (s.reg (R.HVS_SLOT0 k))).slotStop k
    t.flag (R.HVS_SLOT0_EN k) = false ∧ t.slot k = {} ∧ (∀ i, i ≠ k → t.slot i = s.slot i) ∧ t.sram = s.sram ∧
      s.framed t [.regs, .answer, .hvs] [R.HVS_SLOT0 k] := by
  intro t
  have hrestored := restored_framed (slotStored_framed s rid k data)
  have hframed : s.framed t [.regs, .answer, .hvs] [R.HVS_SLOT0 k] := hrestored.trans (slotStop_framed ..)
  exact ⟨slotStop_flag .., slotStop_slot .., fun i hi => (slotStop_other _ _ hi).trans (slot_of_hvs (hrestored.1.hvs (by decide)) i),
    hframed.1.sram (by decide), hframed⟩

section
variable {s : State} {rid : Rid} (h : s.serves rid 12) (n : Fin 384)
include h

/-- HARVEST_SLOT_ENABLE (R231) of an enabled slot is refused. -/
theorem exec_slotEnable_again (data : Word) (hen : s.flag (R.HVS_SLOT0_EN n.val) = true) :
    exec (.harvestSlotEnable rid n data) s = .next (((s.slotStored rid n.val (data ||| 0x80000000)).setReg (R.HVS_SLOT0 n.val)
      (s.reg (R.HVS_SLOT0 n.val))).setFld R.HVS_STAT_CFG_REJ 1) := by
  rw [R.HVS_SLOT0_EN, flag_eq_nbit] at hen
  change Host.Outcome.next (s.write rid (R.HVS_SLOT0 n.val) (data ||| 0x80000000)) = _
  rw [write_slot h, hvsWrite_slot, if_pos hen, if_pos (nbit_enable data)]

/-- A disabled slot that is badly configured stays disabled. -/
theorem exec_slotEnable_bad (data : Word) (hen : s.flag (R.HVS_SLOT0_EN n.val) = false)
    (hbad : (s.setReg (R.HVS_SLOT0 n.val) (slotWord (s.reg (R.HVS_SLOT0 n.val)) (data ||| 0x80000000))).slotBad n.val = true) :
    exec (.harvestSlotEnable rid n data) s = .next (((s.slotStored rid n.val (data ||| 0x80000000)).setFld
      (R.HVS_SLOT0_EN n.val) 0).setFld R.HVS_STAT_CFG_REJ 1) := by
  rw [R.HVS_SLOT0_EN, flag_eq_nbit] at hen
  change Host.Outcome.next (s.write rid (R.HVS_SLOT0 n.val) (data ||| 0x80000000)) = _
  rw [write_slot h, hvsWrite_slot, hen, if_neg Bool.false_ne_true, if_pos (nbit_enable data), slotStored_bad, if_pos hbad]

/-- Any other begins with an empty message at ring index 0. -/
theorem exec_slotEnable (data : Word) (hen : s.flag (R.HVS_SLOT0_EN n.val) = false)
    (hgood : (s.setReg (R.HVS_SLOT0 n.val) (slotWord (s.reg (R.HVS_SLOT0 n.val)) (data ||| 0x80000000))).slotBad n.val = false) :
    exec (.harvestSlotEnable rid n data) s = .next (((s.slotStored rid n.val (data ||| 0x80000000)).setFld
      (R.HVS_SLOT2_IDX n.val) 0).modSlot n.val (fun _ => {})) := by
  rw [R.HVS_SLOT0_EN, flag_eq_nbit] at hen
  change Host.Outcome.next (s.write rid (R.HVS_SLOT0 n.val) (data ||| 0x80000000)) = _
  rw [write_slot h, hvsWrite_slot, hen, if_neg Bool.false_ne_true, if_pos (nbit_enable data), slotStored_bad, hgood,
    if_neg Bool.false_ne_true]

/-- HARVEST_SLOT_DISABLE (R237). -/
theorem exec_slotDisable (hen : s.flag (R.HVS_SLOT0_EN n.val) = true) :
    let data := BitVec.ofNat 32 (nput (s.rwPart (R.HVS_SLOT0 n.val)) 31 31 0)
    exec (.harvestSlotDisable rid n) s =
      .next (((s.slotStored rid n.val data).setReg (R.HVS_SLOT0 n.val) (s.reg (R.HVS_SLOT0 n.val))).slotStop n.val) := by
  intro data
  have hoff : nbit data.toNat 31 = false := by
    rw [nbit_eq_testBit, BitVec.toNat_ofNat, Nat.testBit_mod_two_pow, testBit_nput _ _ _ _ _ (by decide)]
    simp
  rw [R.HVS_SLOT0_EN, flag_eq_nbit] at hen
  change Host.Outcome.next (s.write rid (R.HVS_SLOT0 n.val) data) = _
  rw [write_slot h, hvsWrite_slot, if_pos hen, hoff, if_neg Bool.false_ne_true]

end

/-- Settles O27: a word joins the message it begins or finds; Harvest completes the descriptor in SRAM that it sends, or marks it with
ERR; and a write of word 0 of a slot enables it, is refused, or stops it. -/
theorem harvestMessages : Obligations.HarvestMessages := by
  unfold Obligations.HarvestMessages
  refine ⟨?begins, ?abandons, ?extends_, ?idle, ?sent, ?err, ?waits, ?enabled, ?refused, ?disabled⟩
  case begins =>
    intro s n j fin word k u w1 hon hl hfree hr
    refine ⟨_, exec_companionWord_begins rfl hon hl fin word hfree hr, ?_, ?_, ?_, ?_, ?_, ?_,
      fun i hi => (msgStarted_other _ _ _ _ _ _ hi).trans (tapped_slot ..), framed_of_same (msgStarted_same ..)⟩ <;>
      rw [msgStarted_slot] <;> rfl
  case abandons =>
    intro s n j fin word k u hon hl hact hr
    have h7 : u.live 7 = s.live 7 := engTapWord_reads (·.live 7) (fun _ => rfl) ..
    have hfails : u.regN (C.HVS_FAIL k).addr = s.regN (C.HVS_FAIL k).addr :=
      engTapWord_reads (·.regN (C.HVS_FAIL k).addr) (fun _ => rfl) ..
    rw [← hfails, ← h7]
    exact ⟨_, exec_companionWord_abandons rfl hon hl fin word hact hr, msgRestarted_spec u (hvsSlot_lt n j (by decide)) ..⟩
  case extends_ =>
    intro s n j fin word k u hon hl hact
    have hslot := tapped_slot s n.val j.val false fin word
    refine ⟨_, exec_companionWord_extends rfl hon hl fin word hact, ?_, fun i hi => ?_, framed_of_same (State.modSlot_same ..)⟩
    · rw [slot_modSlot_same, hslot]
      rfl
    · rw [slot_modSlot_other _ _ hi, hslot]
  case idle =>
    intro s n j fin word hl hon hfree
    exact exec_companionWord_idle rfl hon hl fin word hfree
  case sent =>
    intro s n j k a buf w1 len hon hl hv hr hown h0 h8 hram
    exact ⟨_, exec_harvestTransmit_sent rfl rfl hon hl hr rfl rfl hv hown h0 h8 hram,
      msgSent_spec s n.val (hvsSlot_lt n j (by decide)) a _ (ramWord_lt ..) (epochNs_lt ..) _⟩
  case err =>
    intro s n j k a w1 len hon hl hr hown hbad
    exact ⟨_, exec_harvestTransmit_err rfl rfl hon hl hr rfl hown hbad, descErr_spec s k a (ramWord_lt ..)⟩
  case waits =>
    intro s n j k hon hl hr hown
    exact exec_harvestTransmit_waits rfl rfl hon hl hr hown
  case enabled =>
    intro s rid n data a v h hen hgood
    exact ⟨_, exec_slotEnable h n data hen hgood, slotEnabled_spec ..⟩
  case refused =>
    intro s rid n data a v h hbad
    cases hen : s.flag (R.HVS_SLOT0_EN n.val) with
    | true =>
      obtain ⟨hreg, hrej, hframed⟩ := slotRejected_again s rid n.val (data ||| 0x80000000)
      refine ⟨_, exec_slotEnable_again h n data hen, ?_, fun _ => hreg, hrej, hframed⟩
      rw [R.HVS_SLOT0_EN, flag_eq_nbit] at hen ⊢
      rw [hreg, hen]
    | false =>
      obtain ⟨hoff, hrej, hframed⟩ := slotRejected_bad s rid n.val (data ||| 0x80000000)
      exact ⟨_, exec_slotEnable_bad h n data hen (hbad.resolve_left (by simp [hen])), hoff, fun h => absurd h (by decide), hrej, hframed⟩
  case disabled =>
    intro s rid n h hen
    exact ⟨_, exec_slotDisable h n hen, slotStopped_spec ..⟩

end Sys2Proof.Machine

/-! The Crystallizer engines (chapter 09): the bytes of a word, the stall at a full report queue, and the reports that are held, posted
and read. -/

namespace Sys2Proof.Machine

-- Theorems one after another: a thread for each would take more memory than there is.
set_option Elab.async false

/-! ### Engines -/

/-- Setting a key again replaces what was set. -/
theorem tput_tput {α : Type} (m : List (Nat × α)) (k : Nat) (v w : α) : tput (tput m k v) k w = tput m k w := by
  induction m with
  | nil => simp [tput]
  | cons p r ih =>
    obtain ⟨j, x⟩ := p
    by_cases hlt : k < j
    · simp [tput, hlt]
    · by_cases heq : k = j
      · simp [tput, heq]
      · simp [tput, hlt, heq, ih]

/-- A frame that allows more. -/
theorem State.framed.mono {l m : List Part} {A B : List Nat} {s t : State} (h : s.framed t l A) (hl : l ⊆ m := by decide)
    (hA : A ⊆ B := by simp) : s.framed t m B :=
  ⟨.step h.1 (.refl ..) hl, fun a ha => h.2 a (fun e => ha (hA e))⟩

/-- The state with another engine n. -/
def State.withEng (s : State) (n : Nat) (e : AutSt) : State := s.withAut (tput s.aut n e)

theorem modEng_eq (s : State) (n : Nat) (f : AutSt → AutSt) : s.modEng n f = s.withEng n (f (s.eng n)) := rfl

@[simp] theorem withEng_eng (s : State) (n : Nat) (e : AutSt) : (s.withEng n e).eng n = e := tget_tput_same ..

theorem withEng_eng_other (s : State) {n m : Nat} (e : AutSt) (h : m ≠ n) : (s.withEng n e).eng m = s.eng m :=
  tget_tput_other _ _ _ _ _ (Ne.symm h)

@[simp] theorem withEng_withEng (s : State) (n : Nat) (d e : AutSt) : (s.withEng n d).withEng n e = s.withEng n e :=
  congrArg s.withAut (tput_tput ..)

theorem withEng_same (s : State) (n : Nat) (e : AutSt) : Same [.aut] s (s.withEng n e) := State.withAut_same ..

theorem withEng_framed (s : State) (n : Nat) (e : AutSt) : s.framed (s.withEng n e) [.aut] [] := framed_of_same (withEng_same ..)

theorem eng_of_aut {s t : State} (h : t.aut = s.aut) (n : Nat) : t.eng n = s.eng n := by rw [State.eng, h, State.eng]

/-! ### The bytes of a word (R257, R259) -/

/-- Whether a byte leads an engine to an accepting state, so that it makes a report. -/
def AutSt.accepts (e : AutSt) (b : Byte) : Bool := nbit (e.record true (e.move b)) 31

/-- The report of a byte. -/
def AutSt.reportOf (e : AutSt) (b : Byte) : AutReport :=
  ⟨e.move b, nbits (e.record true (e.move b)) 30 23, e.offset + 1, e.cur.no,
    ((e.msgs.find? (fun m => m.no == e.cur.no)).map (·.stamp)).getD 0⟩

/-- An engine that has consumed the byte before the rest `r` of its shift register. -/
def AutSt.consumedByte (e : AutSt) (b : Byte) (r : List Byte) : AutSt :=
  { e with state := e.move b, offset := e.offset + 1, shift := r,
           heldReports := if e.accepts b then e.heldReports ++ [e.reportOf b] else e.heldReports }

/-- An engine that has consumed its word. -/
def AutSt.wordEnded (e : AutSt) : AutSt := { e with inMsg := !e.cur.fin, msgs := e.consumed e.cur.fin e.cur.no }

/-- An engine that has consumed bytes which make no report. -/
def AutSt.scanned (e : AutSt) (bs : List Byte) : AutSt :=
  { e with state := ((e.visits e.state bs).getLast?).getD e.state, offset := e.offset + bs.length, shift := [] }

theorem scanned_nil {e : AutSt} (h : e.shift = []) : e.scanned [] = e := by
  cases e
  cases h
  rfl

/-- The state in which engine n shows that it is stalled. -/
def State.stallShown (s : State) (n : Nat) : State :=
  (s.withEng n { s.eng n with stalledAt := some s.now }).setFld (R.AUT_CMSTAT_STALLED n) 1

/-- The state in which engine n stalls. -/
def State.engStalled (s : State) (n : Nat) : State := ((s.stallShown n).count (C.AUT_RPTOVF n)).raise 69

section
variable {s : State} {n : Nat}

/-- With no program to switch to, an engine whose shift register is empty ends its word. -/
theorem engRun_nil (k : Nat) (hs : (s.eng n).shift = []) (hv : (s.eng n).validated = false) :
    s.engRun n (k + 1) = s.withEng n (s.eng n).wordEnded := by
  have hv' : (s.withEng n (s.eng n).wordEnded).engBoundary n = s.withEng n (s.eng n).wordEnded := by
    simp [State.engBoundary, AutSt.wordEnded, hv]
  unfold State.engRun
  simp only [hs]
  exact hv'

/-- A byte that makes no report, or whose report has room, is consumed. -/
theorem engRun_cons (k : Nat) {b : Byte} {r : List Byte} (hs : (s.eng n).shift = b :: r)
    (hroom : (s.eng n).accepts b = true → (s.eng n).heldReports.length + (s.eng n).posted.length < 64) :
    s.engRun n (k + 1) = (s.withEng n ((s.eng n).consumedByte b r)).engRun n k := by
  have hgo : ((s.eng n).accepts b && decide (64 ≤ (s.eng n).heldReports.length + (s.eng n).posted.length)) = false := by
    cases hacc : (s.eng n).accepts b with
    | false => rfl
    | true => simpa using hroom hacc
  conv => lhs; unfold State.engRun
  simp only [hs]
  rw [if_neg (by simpa [AutSt.accepts] using hgo)]
  rfl

/-- Before a byte whose report has no room the engine stalls. -/
theorem engRun_stalls (k : Nat) {b : Byte} {r : List Byte} (hs : (s.eng n).shift = b :: r) (hacc : (s.eng n).accepts b = true)
    (hfull : 64 ≤ (s.eng n).heldReports.length + (s.eng n).posted.length) : s.engRun n (k + 1) = s.engStalled n := by
  have hstop : (nbit ((s.eng n).record true ((s.eng n).move b)) 31 &&
      decide (64 ≤ (s.eng n).heldReports.length + (s.eng n).posted.length)) = true := by
    rw [AutSt.accepts] at hacc
    simp [hacc, hfull]
  unfold State.engRun
  simp only [hs]
  rw [if_pos hstop]
  rfl

/-- The states that an engine passes through rest on how its program moves it. -/
theorem visits_congr (d e : AutSt) (st : Nat) (bs : List Byte)
    (h : ∀ st b, { d with state := st }.move b = { e with state := st }.move b := by intros; rfl) : d.visits st bs = e.visits st bs := by
  induction bs generalizing st with
  | nil => rfl
  | cons b bs ih => simp only [AutSt.visits, h, ih]

theorem visits_consumedByte (e : AutSt) (b : Byte) (r bs : List Byte) (st : Nat) :
    (e.consumedByte b r).visits st bs = e.visits st bs := visits_congr ..

/-- Bytes of which none makes a report are consumed one after another, and the word ends. -/
theorem engRun_scans (bs : List Byte) : ∀ (k : Nat) (s : State), bs.length ≤ k → (s.eng n).shift = bs →
    (s.eng n).validated = false → (∀ st ∈ (s.eng n).visits (s.eng n).state bs, nbit ((s.eng n).record true st) 31 = false) →
    s.engRun n (k + 1) = s.withEng n ((s.eng n).scanned bs).wordEnded := by
  induction bs with
  | nil =>
    intro k s _ hs hv _
    rw [engRun_nil k hs hv]
    rw [scanned_nil hs]
  | cons b bs ih =>
    intro k s hk hs hv hquiet
    obtain ⟨k, rfl⟩ : ∃ j, k = j + 1 := ⟨k - 1, by simp at hk; omega⟩
    have hacc : (s.eng n).accepts b = false := hquiet _ List.mem_cons_self
    rw [engRun_cons _ hs (fun h => absurd (hacc.symm.trans h) (by decide)), ih k _ (by simpa using hk) (by rw [withEng_eng]; rfl)
      (by rw [withEng_eng]; exact hv), withEng_withEng, withEng_eng]
    · have hlast : ((s.eng n).consumedByte b bs).scanned bs = (s.eng n).scanned (b :: bs) := by
        have hoff : (s.eng n).offset + 1 + bs.length = (s.eng n).offset + (bs.length + 1) := by omega
        simp only [AutSt.scanned, visits_consumedByte, AutSt.visits, List.getLast?_cons, Option.getD_some, List.length_cons]
        simp [AutSt.consumedByte, hacc, hoff]
      rw [hlast]
    · rw [withEng_eng]
      intro st hst
      rw [visits_consumedByte] at hst
      exact hquiet st (List.mem_cons_of_mem _ hst)

end

/-! ### ENGINE_WORD and ENGINE_UNSTALL -/

/-- An engine that has taken the word `w` before the words `r` of its queue; `start` is the first state of its program. -/
def AutSt.loaded (e : AutSt) (w : AutWord) (r : List AutWord) (start : Nat) : AutSt :=
  { e with inq := r, cur := w, shift := w.bytes, inMsg := true, state := if w.start then start else e.state,
           offset := if w.start then 0 else e.offset }

section
variable {s : State} {n : Fin 8} (hon : s.engOn n.val = true)
include hon

/-- An engine that is not stalled takes the next word of its queue and runs over it. -/
theorem exec_engineWord {w : AutWord} {r : List AutWord} (hst : (s.eng n.val).stalledAt = none)
    (hq : (s.eng n.val).inq = w :: r) (hskip : (s.eng n.val).skip ≠ some w.no) :
    exec (.engineWord n) s =
      .next ((s.withEng n.val ((s.eng n.val).loaded w r (s.fld (R.AUT_PROG_ACT_START n.val)))).engRun n.val 10) := by
  have hex : execEngineWord n s = .next (((s.withEng n.val { s.eng n.val with inq := r }).withEng n.val
      ((s.eng n.val).loaded w r (s.fld (R.AUT_PROG_ACT_START n.val)))).engRun n.val 10) := by
    have hgo : (s.engOn n.val && (s.eng n.val).stalledAt.isNone) = true := by rw [hon, hst]; rfl
    simp only [execEngineWord, hgo, hq, if_neg hskip, modEng_eq, withEng_eng]
    rfl
  rw [withEng_withEng] at hex
  exact hex

/-- Over a word that makes no report the engine goes on. -/
theorem exec_engineWord_scans {w : AutWord} {r : List AutWord} {d : AutSt}
    (hd : (s.eng n.val).loaded w r (s.fld (R.AUT_PROG_ACT_START n.val)) = d) (hst : (s.eng n.val).stalledAt = none)
    (hq : (s.eng n.val).inq = w :: r) (hskip : (s.eng n.val).skip ≠ some w.no) (hv : (s.eng n.val).validated = false)
    (hlen : w.bytes.length ≤ 8) (hquiet : ∀ st ∈ d.visits d.state w.bytes, nbit (d.record true st) 31 = false) :
    exec (.engineWord n) s = .next (s.withEng n.val (d.scanned w.bytes).wordEnded) := by
  have hshift : d.shift = w.bytes := by rw [← hd]; rfl
  have hval : d.validated = false := by rw [← hd]; exact hv
  have hrun := engRun_scans (n := n.val) w.bytes 9 (s.withEng n.val d) (by omega)
  simp only [withEng_eng, withEng_withEng] at hrun
  rw [exec_engineWord hon hst hq hskip, hd, hrun hshift hval hquiet]

/-- A byte that makes a report which has room is consumed. -/
theorem exec_engineWord_reports {w : AutWord} {r : List AutWord} {b : Byte} {d : AutSt}
    (hd : (s.eng n.val).loaded w r (s.fld (R.AUT_PROG_ACT_START n.val)) = d) (hst : (s.eng n.val).stalledAt = none)
    (hq : (s.eng n.val).inq = w :: r) (hskip : (s.eng n.val).skip ≠ some w.no) (hv : (s.eng n.val).validated = false)
    (hw : w.bytes = [b]) (hroom : (s.eng n.val).heldReports.length + (s.eng n.val).posted.length < 64) :
    exec (.engineWord n) s = .next (s.withEng n.val (d.consumedByte b []).wordEnded) := by
  have hcons := engRun_cons (s := s.withEng n.val d) (n := n.val) 9 (by rw [withEng_eng, ← hd]; exact hw)
    (by rw [withEng_eng, ← hd]; exact fun _ => hroom)
  have hnil := engRun_nil (s := s.withEng n.val (d.consumedByte b [])) (n := n.val) 8 (by rw [withEng_eng]; rfl)
    (by rw [withEng_eng, ← hd]; exact hv)
  simp only [withEng_eng, withEng_withEng] at hcons hnil
  rw [exec_engineWord hon hst hq hskip, hd, hcons, hnil]

/-- Before a byte whose report has no room the engine stalls. -/
theorem exec_engineWord_stalls {w : AutWord} {r : List AutWord} {b : Byte} {l : List Byte} {d : AutSt}
    (hd : (s.eng n.val).loaded w r (s.fld (R.AUT_PROG_ACT_START n.val)) = d) (hst : (s.eng n.val).stalledAt = none)
    (hq : (s.eng n.val).inq = w :: r) (hskip : (s.eng n.val).skip ≠ some w.no) (hw : w.bytes = b :: l) (hacc : d.accepts b = true)
    (hfull : 64 ≤ (s.eng n.val).heldReports.length + (s.eng n.val).posted.length) :
    exec (.engineWord n) s = .next ((s.withEng n.val d).engStalled n.val) := by
  have hstall := engRun_stalls (s := s.withEng n.val d) (n := n.val) 9 (by rw [withEng_eng, ← hd]; exact hw)
    (by rw [withEng_eng]; exact hacc) (by rw [withEng_eng, ← hd]; exact hfull)
  rw [exec_engineWord hon hst hq hskip, hd, hstall]

/-- A stalled engine whose reports have room again goes on with its word. -/
theorem exec_engineUnstall_scans {since : Nat} {d : AutSt} (hd : { s.eng n.val with stalledAt := none } = d)
    (hst : (s.eng n.val).stalledAt = some since)
    (hroom : (s.eng n.val).heldReports.length + (s.eng n.val).posted.length < 64) (hv : (s.eng n.val).validated = false)
    (hlen : d.shift.length ≤ 8) (hquiet : ∀ st ∈ d.visits d.state d.shift, nbit (d.record true st) 31 = false) :
    exec (.engineUnstall n) s =
      .next (((s.withEng n.val d).setFld (R.AUT_CMSTAT_STALLED n.val) 0).withEng n.val (d.scanned d.shift).wordEnded) := by
  have hgo : (!s.engOn n.val || (s.eng n.val).stalledAt.isNone ||
      decide (64 ≤ (s.eng n.val).heldReports.length + (s.eng n.val).posted.length)) = false := by
    simpa [hon, hst] using hroom
  have hval : d.validated = false := by rw [← hd]; exact hv
  have heng : ((s.withEng n.val d).setFld (R.AUT_CMSTAT_STALLED n.val) 0).eng n.val = d := withEng_eng ..
  have hrun := engRun_scans (n := n.val) d.shift 9 ((s.withEng n.val d).setFld (R.AUT_CMSTAT_STALLED n.val) 0) (by omega)
  rw [heng] at hrun
  change execEngineUnstall n s = _
  simp only [execEngineUnstall, hgo, Bool.false_eq_true, if_false]
  rw [modEng_eq, hd, hrun rfl hval hquiet]

end

/-- The registers that a stall changes. -/
def stallRegs (n : Nat) : List Nat := [R.AUT_CMSTAT n, R.EVT_PEND 2] ++ (C.AUT_RPTOVF n).regs

theorem stallRegs_apart (n : Nat) : R.PWR_STATE0 ∉ stallRegs n ∧ R.PWR_STATE1 ∉ stallRegs n ∧
    R.AUT_CMSTAT n ∉ R.EVT_PEND 2 :: (C.AUT_RPTOVF n).regs ∧ R.AUT_RPTOVF n ∉ [R.AUT_CMSTAT n] ∧ R.AUT_RPTOVF n ∉ [R.EVT_PEND 2] := by
  have hregs : (C.AUT_RPTOVF n).regs = [R.AUT_RPTOVF n, 0x42070134 + 0x40 * n] := rfl
  simp only [stallRegs, hregs, R.PWR_STATE0, R.PWR_STATE1, R.AUT_CMSTAT, R.AUT_RPTOVF, R.EVT_PEND, List.cons_append, List.nil_append,
    List.mem_cons, List.not_mem_nil, or_false]
  omega

theorem stallShown_framed (s : State) (n : Nat) : s.framed (s.stallShown n) [.regs, .aut] [R.AUT_CMSTAT n] :=
  (withEng_framed ..).trans (framed_setFld _ (R.AUT_CMSTAT_STALLED n) 1 [.regs]) (hB := by simp [R.AUT_CMSTAT_STALLED])

/-- What follows the display of a stall: it is counted and reported. -/
theorem stallReported_framed (s : State) (n : Nat) :
    (s.stallShown n).framed (s.engStalled n) [.regs, .dict, .evt] (R.EVT_PEND 2 :: (C.AUT_RPTOVF n).regs) :=
  (count_framed ..).trans (raise_framed _ 69)

theorem engStalled_framed (s : State) (n : Nat) : s.framed (s.engStalled n) [.regs, .dict, .aut, .evt] (stallRegs n) :=
  (stallShown_framed s n).trans (stallReported_framed s n) (hA := by simp [stallRegs]) (hB := by simp [stallRegs])

theorem engStalled_eng (s : State) (n : Nat) : (s.engStalled n).eng n = { s.eng n with stalledAt := some s.now } :=
  (eng_of_aut ((stallReported_framed s n).1.aut (by decide)) n).trans (withEng_eng ..)

/-- A stall shows, is counted and raises E69 (R259). -/
theorem engStalled_says (s : State) (n : Nat) :
    (s.engStalled n).flag (R.AUT_CMSTAT_STALLED n) = true ∧ (s.live 7 = true → (s.engStalled n).pends 69 = true) ∧
      (s.engStalled n).regN (C.AUT_RPTOVF n).addr = (s.regN (C.AUT_RPTOVF n).addr + 1) % 2 ^ 32 := by
  obtain ⟨h0, h1, hstat, hovf, hpend⟩ := stallRegs_apart n
  have hcounted : s.framed ((s.stallShown n).count (C.AUT_RPTOVF n)) [.regs, .dict, .aut] (stallRegs n) :=
    (stallShown_framed s n).trans (count_framed ..) (hA := by simp [stallRegs]) (hB := by simp [stallRegs])
  refine ⟨?_, fun h7 => raise_pends ((hcounted.live h0 h1 (d := 7)).trans h7) (by decide), ?_⟩
  · rw [RegsKept.flag ⟨(stallReported_framed s n).2⟩ hstat]
    exact flag_setFld_bit _ _ 30
  · refine ((raise_framed _ 69).regN hpend).trans ((countN_regN _ _ 1 rfl ?_).trans ?_)
    · simp [C.AUT_RPTOVF, R.AUT_RPTOVF]
    · rw [(stallShown_framed s n).regN (a := (C.AUT_RPTOVF n).addr) hovf]

/-! ### Reports (R259) -/

/-- The outcome of the message of a report: 0 open, 1 confirmed, 2 failed or gone. -/
def AutSt.ends (e : AutSt) (r : AutReport) : Nat := ((e.msgs.find? (fun m => m.no == r.msg)).map (·.outcome)).getD 2

/-- The held reports whose message has an outcome. -/
def AutSt.ended (e : AutSt) (o : Nat) : List AutReport := e.heldReports.filter (fun r => e.ends r == o)

/-- An engine that has posted and discarded what it held. -/
def AutSt.settled (e : AutSt) : AutSt :=
  { e with heldReports := e.ended 0, posted := e.posted ++ e.ended 1, msgs := e.msgs.filter (fun m => !(m.done && m.outcome != 0)) }

/-- The state in which engine n has posted `k` reports. -/
def State.reportsPosted (s : State) (n k : Nat) : State := (s.setRegN (R.AUT_REPORTS n) (s.regN (R.AUT_REPORTS n) + k)).raise 68

theorem exec_engineReportPosted {s : State} (h11 : s.live 11 = true) (n : Fin 8) :
    exec (.engineReportPosted n) s = .next
      (if (s.eng n.val).ended 1 = [] then s.withEng n.val (s.eng n.val).settled
       else (s.withEng n.val (s.eng n.val).settled).reportsPosted n.val ((s.eng n.val).ended 1).length) := by
  change execEngineReportPosted n s = _
  unfold execEngineReportPosted
  rw [h11, if_neg (by simp)]
  by_cases hgood : (s.eng n.val).ended 1 = []
  · rw [if_pos hgood]
    exact if_pos (List.isEmpty_iff.2 hgood)
  · rw [if_neg hgood]
    exact if_neg (fun h => hgood (List.isEmpty_iff.1 h))

theorem reportsPosted_framed (s : State) (n k : Nat) :
    s.framed (s.reportsPosted n k) [.regs, .evt] [R.AUT_REPORTS n, R.EVT_PEND 2] :=
  (setReg_framed ..).trans (raise_framed _ 68)

/-- Posted reports are counted and raise E68. -/
theorem reportsPosted_says (s : State) (n k : Nat) :
    (s.reportsPosted n k).regN (R.AUT_REPORTS n) = (s.regN (R.AUT_REPORTS n) + k) % 2 ^ 32 ∧
      (s.live 7 = true → (s.reportsPosted n k).pends 68 = true) := by
  have hapart : R.AUT_REPORTS n ∉ [R.EVT_PEND (68 / 32)] ∧ R.PWR_STATE0 ∉ [R.AUT_REPORTS n] ∧ R.PWR_STATE1 ∉ [R.AUT_REPORTS n] := by
    simp only [R.AUT_REPORTS, R.EVT_PEND, R.PWR_STATE0, R.PWR_STATE1, List.mem_singleton]
    omega
  obtain ⟨hpend, h0, h1⟩ := hapart
  exact ⟨((raise_framed _ 68).regN hpend).trans (regN_setRegN_same ..),
    fun h7 => raise_pends (((setReg_framed s _ _).live h0 h1 (d := 7)).trans h7) (by decide)⟩

/-! ### A read of AUT_RPT0 -/

/-- A read of a word at a register's own offset, of no counter of two words and with nothing that a read clears (R67, R71). -/
theorem read_own {s : State} {rid : Rid} {a : Nat} {b : BlockDesc} {r : RegDesc} (ho : s.opens rid b.domain)
    (ht : regSpace a = true) (hb : blockAt a = some b) (h4 : a % 4 = 0) (hf : b.form a = .own r) (hhigh : isWideHigh a = false)
    (hlow : wideHigh a = none) (hrc : r.bits .rc = 0) :
    let v := regRead b r rid a (s.withAnswer { rid := rid })
    s.read rid a = v.2.withAnswer { v.2.answer with data := v.1 } := by
  obtain ⟨hr, hl, -⟩ := ho
  simp [State.read, State.busRead, hr, target_regs s a ht, State.regBusRead, hb, hl, h4, hf, State.ownRead, hhigh, hlow, hrc]

/-- The block of the registers of the engines. -/
def autBlock : BlockDesc := ⟨"AUT", 0x42070000, 0x10000, 0x37, 11, false, regsAut⟩

/-- The registers AUT_RPT0. -/
def rpt0Reg : RegDesc :=
  ⟨"AUT_RPT0", 0x118, 8, 0x40, [⟨"VALID", 31, 31, .ro, 0⟩, ⟨"STATE", 29, 16, .ro, 0⟩, ⟨"CODE", 15, 8, .ro, 0⟩]⟩

/-- The registers AUT_RPT0 lie at their offsets in the block of the engines. -/
theorem rpt0_at (n : Fin 8) : blockAt (R.AUT_RPT0 n.val) = some autBlock ∧ autBlock.form (R.AUT_RPT0 n.val) = .own rpt0Reg ∧
    regSpace (R.AUT_RPT0 n.val) = true ∧ isWideHigh (R.AUT_RPT0 n.val) = false ∧ wideHigh (R.AUT_RPT0 n.val) = none ∧
    (List.range 8).find? (fun m => R.AUT_RPT0 n.val == R.AUT_RPT0 m) = some n.val := by
  revert n
  decide

theorem autRead_rpt0 (s : State) (rid : Rid) (n : Fin 8) : autRead rid (R.AUT_RPT0 n.val) s = s.reportRead n.val := by
  have hplace : R.AUT_RPT0 n.val < R.AUT_CMAP_STG 0 := by
    simp only [R.AUT_RPT0, R.AUT_CMAP_STG]
    omega
  unfold autRead
  rw [if_neg (Nat.not_le.2 (hplace.trans (by decide))), if_neg (Nat.not_le.2 (hplace.trans (by decide))),
    if_neg (Nat.not_le.2 hplace), (rpt0_at n).2.2.2.2.2]

/-- What a read of AUT_RPT0 answers: of the word, the fields (R259). -/
theorem exec_reportRead {s : State} {rid : Rid} (h : s.serves rid 11) (n : Fin 8) :
    let v := (s.withAnswer { rid := rid }).reportRead n.val
    exec (.reportRead rid n) s = .next (v.2.withAnswer { rid := rid, data := v.1 &&& 0xBFFFFF00 }) := by
  intro v
  obtain ⟨hb, hf, ht, hhigh, hlow, -⟩ := rpt0_at n
  have h4 : R.AUT_RPT0 n.val % 4 = 0 := by
    simp only [R.AUT_RPT0]
    omega
  have hread := read_own h.1 ht hb h4 hf hhigh hlow (by decide)
  have hhead : R.AUT_RPT0 n.val ≠ autBlock.base + 0x3F8 := by
    simp only [R.AUT_RPT0, autBlock]
    omega
  have hval : regRead autBlock rpt0Reg rid (R.AUT_RPT0 n.val) (s.withAnswer { rid := rid }) = (v.1 &&& 0xBFFFFF00, v.2) := by
    rw [regRead, blockRead, if_neg hhead]
    exact congrArg (fun x : Word × State => (x.1 &&& _, x.2)) (autRead_rpt0 _ rid n)
  have hanswer : v.2.answer = { rid := rid } := (State.reportRead_same ..).answer (by decide)
  rw [hval] at hread
  exact congrArg Host.Outcome.next (hread.trans (by rw [hanswer]))

/-- The word of a report in AUT_RPT0. -/
def AutReport.word0 (r : AutReport) : Nat := 2 ^ 31 + r.state % 2 ^ 14 * 2 ^ 16 + r.code % 256 * 256

/-- The word of a report in AUT_RPT1. -/
def AutReport.word1 (r : AutReport) : Nat := r.offset % 65536 * 65536 + r.msg % 65536

theorem word0_fields (r : AutReport) : nbits (r.word0 % 2 ^ 32) 31 31 = 1 ∧ nbits (r.word0 % 2 ^ 32) 29 16 = r.state % 2 ^ 14 ∧
    nbits (r.word0 % 2 ^ 32) 15 8 = r.code % 256 := by
  simp only [nbits, AutReport.word0]
  omega

theorem word1_fields (r : AutReport) : nbits (r.word1 % 2 ^ 32) 31 16 = r.offset % 65536 ∧
    nbits (r.word1 % 2 ^ 32) 15 0 = r.msg % 65536 := by
  simp only [nbits, AutReport.word1]
  omega

/-- The word of a report has no bit outside the fields of AUT_RPT0. -/
theorem word0_masked (r : AutReport) : BitVec.ofNat 32 r.word0 &&& 0xBFFFFF00 = BitVec.ofNat 32 r.word0 := by
  have hmask : ∀ i < 32, i < 8 ∨ i = 30 ∨ (0xBFFFFF00#32).getLsbD i = true := by decide
  refine BitVec.eq_of_getLsbD_eq fun i hi => ?_
  rw [BitVec.getLsbD_and, BitVec.getLsbD_ofNat]
  have hclear : i < 8 ∨ i = 30 → r.word0.testBit i = false := by
    rintro (h | rfl)
    · have hshift : r.word0 = 2 ^ 8 * (2 ^ 23 + r.state % 2 ^ 14 * 2 ^ 8 + r.code % 256) := by
        simp only [AutReport.word0]
        omega
      rw [hshift, Nat.testBit_two_pow_mul]
      simp [Nat.not_le.2 h]
    · rw [Nat.testBit_eq_decide_div_mod_eq]
      refine decide_eq_false ?_
      simp only [AutReport.word0]
      omega
  rcases hmask i hi with h | h | h
  · simp [hclear (.inl h)]
  · simp [hclear (.inr h)]
  · rw [show (0xBFFFFF00 : Word).getLsbD i = true from h, Bool.and_true]

/-- The state in which AUT_RPT0 to AUT_RPT2 of engine n latch a report (R259). -/
def State.latched (s : State) (n : Nat) (x : AutReport) : State :=
  ((s.setRegN (R.AUT_RPT0 n) x.word0).setRegN (R.AUT_RPT1 n) x.word1).setRegN (R.AUT_RPT2 n) (x.stamp % 2 ^ 30)

theorem latched_regs (s : State) (n : Nat) (x : AutReport) : (s.latched n x).reg (R.AUT_RPT0 n) = BitVec.ofNat 32 x.word0 ∧
    (s.latched n x).reg (R.AUT_RPT1 n) = BitVec.ofNat 32 x.word1 ∧
    (s.latched n x).reg (R.AUT_RPT2 n) = BitVec.ofNat 32 (x.stamp % 2 ^ 30) := by
  have h01 : R.AUT_RPT1 n ≠ R.AUT_RPT0 n := by simp only [R.AUT_RPT0, R.AUT_RPT1]; omega
  have h02 : R.AUT_RPT2 n ≠ R.AUT_RPT0 n := by simp only [R.AUT_RPT0, R.AUT_RPT2]; omega
  have h12 : R.AUT_RPT2 n ≠ R.AUT_RPT1 n := by simp only [R.AUT_RPT1, R.AUT_RPT2]; omega
  exact ⟨(reg_setReg_other _ _ _ _ h02).trans ((reg_setReg_other _ _ _ _ h01).trans (reg_setReg_same ..)),
    (reg_setReg_other _ _ _ _ h12).trans (reg_setReg_same ..), reg_setReg_same ..⟩

theorem latched_framed (s : State) (n : Nat) (x : AutReport) :
    s.framed (s.latched n x) [.regs] [R.AUT_RPT0 n, R.AUT_RPT1 n, R.AUT_RPT2 n] :=
  ((setReg_framed ..).trans (n := [.regs]) (C := [R.AUT_RPT0 n, R.AUT_RPT1 n]) (setReg_framed ..)).trans (setReg_framed ..)

/-- A field of a latched report. -/
theorem fld_of_reg {t : State} {a v : Nat} (h : t.reg a = BitVec.ofNat 32 v) (hi lo : Nat) :
    t.fld ⟨a, hi, lo⟩ = nbits (v % 2 ^ 32) hi lo := by
  rw [State.fld, State.regN, h, BitVec.toNat_ofNat]

theorem latched_flds (s : State) (n : Nat) (x : AutReport) :
    let t := s.latched n x
    t.flag (R.AUT_RPT0_VALID n) = true ∧ t.fld (R.AUT_RPT0_STATE n) = x.state % 2 ^ 14 ∧ t.fld (R.AUT_RPT0_CODE n) = x.code % 256 ∧
      t.fld (R.AUT_RPT1_OFFSET n) = x.offset % 65536 ∧ t.fld (R.AUT_RPT1_MSG n) = x.msg % 65536 ∧
      t.fld (R.AUT_RPT2_STAMP n) = x.stamp % 2 ^ 30 := by
  intro t
  obtain ⟨h0, h1, h2⟩ := latched_regs s n x
  obtain ⟨hvalid, hstate, hcode⟩ := word0_fields x
  obtain ⟨hoffset, hmsg⟩ := word1_fields x
  refine ⟨?_, (fld_of_reg h0 ..).trans hstate, (fld_of_reg h0 ..).trans hcode, (fld_of_reg h1 ..).trans hoffset,
    (fld_of_reg h1 ..).trans hmsg, (fld_of_reg h2 ..).trans ?_⟩
  · rw [State.flag, show t.fld (R.AUT_RPT0_VALID n) = 1 from (fld_of_reg h0 ..).trans hvalid]
    rfl
  · simp only [nbits]
    omega

section
variable {s : State} {rid : Rid} (h : s.serves rid 11) (n : Fin 8)
include h

/-- A read of AUT_RPT0 pops the oldest report into the latch and answers its word. -/
theorem exec_reportRead_cons {x : AutReport} {r : List AutReport} (hp : (s.eng n.val).posted = x :: r) :
    exec (.reportRead rid n) s = .next ((((s.withAnswer { rid := rid }).withEng n.val { s.eng n.val with posted := r }).latched n.val
      x).withAnswer { rid := rid, data := BitVec.ofNat 32 x.word0 }) := by
  have hval : (s.withAnswer { rid := rid }).reportRead n.val =
      (BitVec.ofNat 32 x.word0, ((s.withAnswer { rid := rid }).withEng n.val { s.eng n.val with posted := r }).latched n.val x) := by
    have hp' : ((s.withAnswer { rid := rid }).eng n.val).posted = x :: r := hp
    unfold State.reportRead
    rw [hp', ← (latched_regs ((s.withAnswer { rid := rid }).withEng n.val { s.eng n.val with posted := r }) n.val x).1]
    rfl
  rw [exec_reportRead h n, hval, word0_masked]

/-- With no report posted, VALID of the latch is cleared. -/
theorem exec_reportRead_nil (hp : (s.eng n.val).posted = []) :
    let u := (s.withAnswer { rid := rid }).setFld (R.AUT_RPT0_VALID n.val) 0
    exec (.reportRead rid n) s = .next (u.withAnswer { rid := rid, data := u.reg (R.AUT_RPT0 n.val) &&& 0xBFFFFF00 }) := by
  intro u
  have hval : (s.withAnswer { rid := rid }).reportRead n.val = (u.reg (R.AUT_RPT0 n.val), u) := by
    have hp' : ((s.withAnswer { rid := rid }).eng n.val).posted = [] := hp
    unfold State.reportRead
    rw [hp']
  rw [exec_reportRead h n, hval]

end

/-- Settles O31: the bytes of a word are consumed one by one or the engine stalls before one; reports are posted, discarded and kept by
the outcome of their messages, and popped into the latch. -/
theorem engineScans : Obligations.EngineScans := by
  unfold Obligations.EngineScans
  refine ⟨?scans, ?reports, ?stalls, ?unstalls, ?posts, ?pops, ?empty⟩
  case scans =>
    intro s n w r e from_ hon hst hq hskip hv hlen hquiet
    have hvisits : (e.loaded w r (s.fld (R.AUT_PROG_ACT_START n.val))).visits from_ w.bytes = e.visits from_ w.bytes :=
      visits_congr ..
    refine ⟨_, exec_engineWord_scans hon rfl hst hq hskip hv hlen (fun st hmem => hquiet st (hvisits ▸ hmem)), ?_⟩
    simp only [withEng_eng]
    exact ⟨rfl, by rw [← hvisits]; rfl, rfl, rfl, rfl, rfl, rfl, fun m hm => withEng_eng_other _ _ hm, withEng_framed ..⟩
  case reports =>
    intro s n w r b e from_ at_ st hon hst hq hskip hv hw hacc hroom
    have hacc' : (e.loaded w r (s.fld (R.AUT_PROG_ACT_START n.val))).accepts b = true := hacc
    refine ⟨_, ((e.loaded w r (s.fld (R.AUT_PROG_ACT_START n.val))).reportOf b).stamp,
      exec_engineWord_reports hon rfl hst hq hskip hv hw hroom, ?_⟩
    simp only [withEng_eng]
    exact ⟨rfl, if_pos hacc', withEng_framed ..⟩
  case stalls =>
    intro s n w r b l e from_ st hon hst hq hskip hw hacc hfull
    obtain ⟨hflag, hpend, hcount⟩ := engStalled_says (s.withEng n.val (e.loaded w r (s.fld (R.AUT_PROG_ACT_START n.val)))) n.val
    refine ⟨_, exec_engineWord_stalls hon rfl hst hq hskip hw hacc hfull, ?_⟩
    rw [engStalled_eng, withEng_eng]
    exact ⟨rfl, hw, rfl, hflag, hpend, hcount, (withEng_framed ..).trans (engStalled_framed ..) (hB := fun _ h => h)⟩
  case unstalls =>
    intro s n since e hon hst hroom hv hlen hquiet
    have hvisits : { e with stalledAt := none }.visits e.state e.shift = e.visits e.state e.shift := visits_congr ..
    refine ⟨_, exec_engineUnstall_scans hon rfl hst hroom hv hlen (fun st hmem => hquiet st (hvisits ▸ hmem)), ?_⟩
    simp only [withEng_eng]
    refine ⟨rfl, rfl, by rw [← hvisits]; rfl, flag_setFld_clear _ _ 30, ?_⟩
    exact ((withEng_framed ..).trans (n := [.regs, .aut]) (framed_setFld _ (R.AUT_CMSTAT_STALLED n.val) 0 [.regs])
      (hB := fun _ h => h)).step (withEng_same ..)
  case posts =>
    intro s n h11 e ends good
    have hsettled := withEng_framed s n.val e.settled
    refine ⟨_, exec_engineReportPosted h11 n, ?_⟩
    by_cases hgood : e.ended 1 = []
    · have hcount : s.regN (R.AUT_REPORTS n.val) = (s.regN (R.AUT_REPORTS n.val) + (e.ended 1).length) % 2 ^ 32 := by
        rw [hgood, List.length_nil, Nat.add_zero, State.regN, Nat.mod_eq_of_lt (BitVec.isLt _)]
      rw [if_pos hgood, withEng_eng]
      exact ⟨rfl, rfl, hcount, fun h => absurd hgood h, fun m hm => withEng_eng_other _ _ hm, hsettled.mono⟩
    · obtain ⟨hcount, hpend⟩ := reportsPosted_says (s.withEng n.val e.settled) n.val (e.ended 1).length
      have hposted := reportsPosted_framed (s.withEng n.val e.settled) n.val (e.ended 1).length
      have heng := eng_of_aut (hposted.1.aut (by decide))
      rw [if_neg hgood, heng, withEng_eng]
      exact ⟨rfl, rfl, hcount, fun _ => hpend, fun m hm => (heng m).trans (withEng_eng_other _ _ hm), hsettled.trans hposted⟩
  case pops =>
    intro s rid n x r h hp
    obtain ⟨hvalid, hstate, hcode, hoffset, hmsg, hstamp⟩ :=
      latched_flds ((s.withAnswer { rid := rid }).withEng n.val { s.eng n.val with posted := r }) n.val x
    have hlatched := latched_framed ((s.withAnswer { rid := rid }).withEng n.val { s.eng n.val with posted := r }) n.val x
    have heng := (eng_of_aut (hlatched.1.aut (by decide)) n.val).trans (withEng_eng ..)
    refine ⟨_, exec_reportRead_cons h n hp, congrArg AutSt.posted heng, (latched_regs ..).1.symm, hvalid, hstate, hcode, hoffset, hmsg,
      hstamp, ?_⟩
    exact (((withAnswer_framed ..).trans (n := [.answer, .aut]) (C := []) (withEng_framed ..)).trans hlatched).step
      (State.withAnswer_same ..)
  case empty =>
    intro s rid n h hp
    have hoff := flag_setFld_clear (s.withAnswer { rid := rid }) (R.AUT_RPT0 n.val) 31
    refine ⟨_, exec_reportRead_nil h n hp, hoff, ?_, ?_⟩
    · rw [flag_eq_nbit, nbit_eq_testBit, BitVec.testBit_toNat] at hoff
      rw [nbit_eq_testBit, BitVec.testBit_toNat]
      exact (BitVec.getLsbD_and ..).trans (congrArg (· && _) hoff)
    · exact ((withAnswer_framed ..).trans (framed_setFld _ (R.AUT_RPT0_VALID n.val) 0 [.regs])
        (hB := fun _ h => h)).step (State.withAnswer_same ..)

end Sys2Proof.Machine

/-! The classifier (chapter 09): its entries and their commands, the suspect-entry table, Rake, the searches of frames, and the firmware
queues. -/

namespace Sys2Proof.Machine

-- Theorems one after another: a thread for each would take more memory than there is.
set_option Elab.async false

/-! ### Entries -/

theorem cslot_modSlotC_same (s : State) (e : Nat) (f : ClsSlot → ClsSlot) : (s.modSlotC e f).cslot e = f (s.cslot e) :=
  tget_tput_same ..

theorem cslot_modSlotC_other (s : State) {e x : Nat} (f : ClsSlot → ClsSlot) (h : x ≠ e) : (s.modSlotC e f).cslot x = s.cslot x :=
  tget_tput_other _ _ _ _ _ (Ne.symm h)

theorem cslot_of_cls {s t : State} (h : t.cls = s.cls) (x : Nat) : t.cslot x = s.cslot x := by rw [State.cslot, h, State.cslot]

theorem modSlotC_framed (s : State) (e : Nat) (f : ClsSlot → ClsSlot) : s.framed (s.modSlotC e f) [.cls] [] :=
  framed_of_same (State.modSlotC_same ..)

theorem withCls_framed (s : State) (x : ClsSt) : s.framed (s.withCls x) [.cls] [] := framed_of_same (State.withCls_same ..)

/-- An entry of a sorted table is what the table holds at its key. -/
theorem tget_of_mem {α : Type} (d : α) {m : List (Nat × α)} (hs : tsorted m = true) {k : Nat} {v : α} (h : (k, v) ∈ m) :
    tget d m k = v := by
  induction m with
  | nil => cases h
  | cons p r ih =>
    obtain ⟨j, w⟩ := p
    obtain ⟨hlow, hr⟩ := (tsorted_cons j w r).1 hs
    rcases List.mem_cons.1 h with he | hmem
    · cases he
      simp [tget]
    · have hne : j ≠ k := Nat.ne_of_lt (hlow _ hmem)
      simp [tget, hne, ih hr hmem]

/-! ### The suspect-entry table (R253, R254) -/

/-- Whether entry i of the suspect-entry table names the entry `e`. -/
def State.suspAt (s : State) (i e : Nat) : Bool := s.flag (R.CLS_SUSPT_VALID i) && s.fld (R.CLS_SUSPT_ENTRY i) == e

theorem suspect_iff (s : State) (e : Nat) : s.suspect e = true ↔ ∃ i < 16, s.suspAt i e = true := by
  simp only [State.suspect, List.any_eq_true, List.mem_range, State.suspAt]

theorem suspAt_iff (s : State) (i e : Nat) :
    s.suspAt i e = true ↔ nbit (s.reg (R.CLS_SUSPT i)).toNat 31 = true ∧ nbits (s.reg (R.CLS_SUSPT i)).toNat 11 0 = e := by
  rw [State.suspAt, Bool.and_eq_true, R.CLS_SUSPT_VALID, flag_eq_nbit, beq_iff_eq]
  rfl

theorem suspAt_congr {s t : State} {i : Nat} (h : t.reg (R.CLS_SUSPT i) = s.reg (R.CLS_SUSPT i)) (e : Nat) :
    t.suspAt i e = s.suspAt i e := by
  rw [Bool.eq_iff_iff, suspAt_iff, suspAt_iff, h]

theorem suspect_congr {s t : State} (h : ∀ i < 16, t.reg (R.CLS_SUSPT i) = s.reg (R.CLS_SUSPT i)) (e : Nat) :
    t.suspect e = s.suspect e := by
  rw [Bool.eq_iff_iff, suspect_iff, suspect_iff]
  exact exists_congr fun i => and_congr_right fun hi => by rw [suspAt_congr (h i hi)]

theorem suspt_inj {i j : Nat} (h : R.CLS_SUSPT i = R.CLS_SUSPT j) : i = j := by
  simp only [R.CLS_SUSPT] at h
  omega

/-- Entry i of the suspect-entry table is freed if it names `e`. -/
def State.suspFree (s : State) (e i : Nat) : State := if s.suspAt i e then s.setRegN (R.CLS_SUSPT i) 0 else s

theorem suspFree_reg (s : State) (e j i : Nat) : (s.suspFree e j).reg (R.CLS_SUSPT i) =
    if j = i ∧ s.suspAt i e = true then 0 else s.reg (R.CLS_SUSPT i) := by
  by_cases hat : s.suspAt j e = true
  · rw [State.suspFree, if_pos hat, State.setRegN, reg_setReg]
    by_cases hji : j = i
    · subst hji
      simp [hat]
    · rw [if_neg (fun h => hji (suspt_inj h)), if_neg (fun h => hji h.1)]
  · rw [State.suspFree, if_neg hat, if_neg]
    rintro ⟨rfl, h⟩
    exact hat h

theorem suspFreeAll_reg (e i : Nat) (xs : List Nat) : ∀ s : State, (xs.foldl (·.suspFree e ·) s).reg (R.CLS_SUSPT i) =
    if i ∈ xs ∧ s.suspAt i e = true then 0 else s.reg (R.CLS_SUSPT i) := by
  induction xs with
  | nil => simp
  | cons j xs ih =>
    intro s
    rw [List.foldl_cons, ih, suspFree_reg]
    by_cases hat : s.suspAt i e = true
    · by_cases hji : j = i
      · simp [hji, hat]
      · have hkept : (s.suspFree e j).suspAt i e = s.suspAt i e := suspAt_congr (by rw [suspFree_reg, if_neg (fun h => hji h.1)]) e
        have hmem : i ∈ j :: xs ↔ i ∈ xs := by simp [Ne.symm hji]
        simp [hkept, hmem, hji]
    · have hkept : (s.suspFree e j).suspAt i e = s.suspAt i e := suspAt_congr (by rw [suspFree_reg, if_neg (fun h => hat h.2)]) e
      simp [hkept, hat]

/-- The registers that a change of the suspect-entry table may change. -/
def suspRegs : List Nat := R.CLS_STAT :: (List.range 16).map R.CLS_SUSPT

theorem suspt_mem {i : Nat} (h : i < 16) : R.CLS_SUSPT i ∈ (List.range 16).map R.CLS_SUSPT :=
  List.mem_map.2 ⟨i, List.mem_range.2 h, rfl⟩

theorem suspCount_regs (s : State) : RegsKept [R.CLS_STAT] s s.suspCount := (RegsKept.refl ..).setFld _ List.mem_cons_self

theorem suspDrop_framed (s : State) (e : Nat) : s.framed (s.suspDrop e) [.regs] suspRegs := by
  have hfree : ∀ t, ∀ i ∈ List.range 16, RegsKept suspRegs t (t.suspFree e i) := fun t i hi =>
    .ite ((RegsKept.refl ..).setReg 0 (List.mem_cons_of_mem _ (suspt_mem (List.mem_range.1 hi)))) (.refl ..)
  have hdrop : RegsKept suspRegs s (s.suspDrop e) := (RegsKept.foldl _ hfree (.refl ..)).trans ((suspCount_regs _).mono (by simp [suspRegs]))
  exact ⟨State.suspDrop_same .., hdrop.eq⟩

theorem suspDrop_cls (s : State) (e : Nat) : (s.suspDrop e).cls = s.cls := (State.suspDrop_same ..).cls (by decide)

theorem suspDrop_reg (s : State) (e : Nat) {i : Nat} (h : i < 16) : (s.suspDrop e).reg (R.CLS_SUSPT i) =
    if s.suspAt i e = true then 0 else s.reg (R.CLS_SUSPT i) := by
  have hcount : R.CLS_SUSPT i ∉ [R.CLS_STAT] := by simp only [R.CLS_SUSPT, R.CLS_STAT, List.mem_singleton]; omega
  rw [show s.suspDrop e = ((List.range 16).foldl (·.suspFree e ·) s).suspCount from rfl, (suspCount_regs _).eq _ hcount,
    suspFreeAll_reg]
  simp [h]

/-- An entry that leaves the table is no longer suspect. -/
theorem suspDrop_suspect (s : State) (e : Nat) : (s.suspDrop e).suspect e = false := by
  rw [Bool.eq_false_iff, Ne, suspect_iff]
  rintro ⟨i, hi, hat⟩
  rw [suspAt_iff, suspDrop_reg s e hi] at hat
  split at hat
  · exact absurd hat.1 (by decide)
  · next h => exact h ((suspAt_iff ..).2 hat)

/-- The others stay. -/
theorem suspDrop_suspect_other (s : State) {e d : Nat} (h : d ≠ e) : (s.suspDrop d).suspect e = s.suspect e := by
  rw [Bool.eq_iff_iff, suspect_iff, suspect_iff]
  refine exists_congr fun i => and_congr_right fun hi => ?_
  rw [suspAt_iff, suspAt_iff, suspDrop_reg s d hi]
  split
  · next hd =>
    have hfld := ((suspAt_iff ..).1 hd).2
    exact ⟨fun hz => absurd hz.1 (by decide), fun hat => absurd (hfld.symm.trans hat.2) h⟩
  · rfl

/-- The state in which CLS_UNCOR_E shows the entry `e`, which is invalid and not suspect. -/
def State.uncorShown (s : State) (e : Nat) : State :=
  (((s.modSlotC e (fun c => { c with valid := false })).suspDrop e).setRegN R.CLS_UNCOR_E e).setFld R.CLS_STAT_UNCOR 1

theorem entryUncor_eq (s : State) (e : Nat) : s.entryUncor e = (s.uncorShown e).raise 73 := rfl

/-- The registers that an uncorrectable error of an entry may change, but for its event. -/
def uncorRegs : List Nat := R.CLS_UNCOR_E :: suspRegs

theorem invalid_dropped_framed (s : State) (e : Nat) :
    s.framed ((s.modSlotC e (fun c => { c with valid := false })).suspDrop e) [.regs, .cls] suspRegs :=
  (modSlotC_framed ..).trans (suspDrop_framed ..) (hB := fun _ h => h)

theorem uncorShown_framed (s : State) (e : Nat) : s.framed (s.uncorShown e) [.regs, .cls] uncorRegs := by
  have hset : s.framed _ [.regs, .cls] uncorRegs := (invalid_dropped_framed s e).trans
    (setReg_framed _ R.CLS_UNCOR_E (BitVec.ofNat 32 e)) (hA := by simp [uncorRegs]) (hB := by simp [uncorRegs])
  exact hset.trans (framed_setFld _ R.CLS_STAT_UNCOR 1 [.regs]) (hA := fun _ h => h) (hB := by simp [uncorRegs, suspRegs, R.CLS_STAT_UNCOR])

theorem uncorShown_cslot (s : State) (e : Nat) : (s.uncorShown e).cslot e = { s.cslot e with valid := false } :=
  (cslot_of_cls (suspDrop_cls ..) e).trans (cslot_modSlotC_same ..)

theorem uncorShown_suspt (s : State) (e : Nat) {i : Nat} (h : i < 16) : (s.uncorShown e).reg (R.CLS_SUSPT i) =
    ((s.modSlotC e (fun c => { c with valid := false })).suspDrop e).reg (R.CLS_SUSPT i) := by
  have hapart : R.CLS_UNCOR_E ≠ R.CLS_SUSPT i ∧ R.CLS_STAT ≠ R.CLS_SUSPT i := by
    simp only [R.CLS_SUSPT, R.CLS_UNCOR_E, R.CLS_STAT]
    omega
  exact (reg_setReg_other _ _ _ _ hapart.2).trans (reg_setReg_other _ _ _ _ hapart.1)

/-- An entry whose stored copy has an uncorrectable error becomes invalid and shows, with E73 (R254). -/
theorem entryUncor_spec (s : State) {e : Nat} (he : e < 4096) :
    let t := s.entryUncor e
    (t.cslot e).valid = false ∧ t.fld R.CLS_UNCOR_E_ENTRY = e ∧ t.flag R.CLS_STAT_UNCOR = true ∧ (s.live 7 = true → t.pends 73 = true) ∧
      s.framed t [.regs, .cls, .evt] ([R.CLS_STAT, R.CLS_UNCOR_E, R.EVT_PEND 2] ++ (List.range 16).map R.CLS_SUSPT) := by
  intro t
  have hshown := uncorShown_framed s e
  have hraised := raise_framed (s.uncorShown e) 73
  have hentry : (s.uncorShown e).fld R.CLS_UNCOR_E_ENTRY = e := by
    refine (fld_setFld_reg _ R.CLS_STAT_UNCOR R.CLS_UNCOR_E_ENTRY 1 (by decide)).trans ((fld_of_reg (reg_setReg_same ..) 11 0).trans ?_)
    simp only [nbits]
    omega
  have hslot : t.cslot e = { s.cslot e with valid := false } :=
    (cslot_of_cls (hraised.1.cls (by decide)) e).trans (uncorShown_cslot s e)
  refine ⟨congrArg ClsSlot.valid hslot, ?_, ?_, fun h7 => raise_pends ?_ (by decide), ?_⟩
  · exact ((RegsKept.mk hraised.2).fld (by decide)).trans hentry
  · exact ((RegsKept.mk hraised.2).flag (by decide)).trans (flag_setFld_bit _ R.CLS_STAT 1)
  · exact (hshown.live (by decide) (by decide) (d := 7)).trans h7
  · exact hshown.trans hraised (hA := by decide) (hB := by decide)

/-! ### Entry commands (R250) -/

/-- The block of the registers of the classifier. -/
def clsBlock : BlockDesc := ⟨"CLS", 0x42060000, 0x10000, 0x36, 11, false, regsCls⟩

/-- The register CLS_ECMD. -/
def ecmdReg : RegDesc := ⟨"CLS_ECMD", 0x68, 1, 0, [⟨"CMD", 2, 0, .wo, 0⟩]⟩

/-- The state in which a requester's write of CLS_ECMD has been answered. -/
def State.ecmdAnswered (s : State) (rid : Rid) : State := (s.withAnswer { rid := rid }).setRegN R.CLS_ECMD 0

theorem ecmdAnswered_framed (s : State) (rid : Rid) : s.framed (s.ecmdAnswered rid) [.regs, .answer] [R.CLS_ECMD] :=
  answered_setReg_framed ..

/-- A write of CLS_ECMD begins a command and leaves the register at 0. -/
theorem write_ecmd {s : State} {rid : Rid} (h : s.serves rid 11) {cmd : Nat} (hcmd : cmd < 8) :
    s.writeN rid R.CLS_ECMD cmd = (s.ecmdAnswered rid).clsCommand cmd := by
  obtain ⟨ho, hp⟩ := h
  have hwrite := write_own (a := R.CLS_ECMD) (data := BitVec.ofNat 32 cmd) (b := clsBlock) (r := ecmdReg) ho (by decide) rfl (by decide)
    rfl hp rfl (by decide) (.inr (by decide)) rfl
  rw [stored_plain (by decide)] at hwrite
  have hdata : nbits (BitVec.ofNat 32 cmd).toNat 2 0 = cmd := by
    simp only [nbits, BitVec.toNat_ofNat]
    omega
  have hcleared : ∀ w, ((s.withAnswer { rid := rid }).setReg R.CLS_ECMD w).setRegN R.CLS_ECMD 0 = s.ecmdAnswered rid := fun _ =>
    congrArg (s.withAnswer { rid := rid }).withRegs (tput_tput ..)
  have hcls : ∀ w old, clsWrite rid R.CLS_ECMD (BitVec.ofNat 32 cmd) old ((s.withAnswer { rid := rid }).setReg R.CLS_ECMD w) =
      (s.ecmdAnswered rid).clsCommand cmd := fun w old => by rw [clsWrite, if_pos rfl, hdata, hcleared]
  have hic : ((s.ecmdAnswered rid).clsCommand cmd).ic = s.ic := (State.clsCommand_same ..).ic (by decide)
  refine (hwrite.trans (congrArg State.settleDma (hcls ..))).trans (settleDma_none _ ?_)
  rw [hic]
  exact ho.2.2

/-- ENTRY_READ, ENTRY_WRITE, ENTRY_INVALIDATE and ENTRY_VALIDATE write their command to CLS_ECMD. -/
theorem exec_entryCommand {s : State} {rid : Rid} (h : s.serves rid 11) {c : Instr} {cmd : Nat}
    (hc : (c = .entryRead rid ∧ cmd = 1) ∨ (c = .entryWrite rid ∧ cmd = 2) ∨ (c = .entryInvalidate rid ∧ cmd = 3) ∨
      (c = .entryValidate rid ∧ cmd = 4)) : exec c s = .next ((s.ecmdAnswered rid).clsCommand cmd) := by
  rcases hc with ⟨rfl, rfl⟩ | ⟨rfl, rfl⟩ | ⟨rfl, rfl⟩ | ⟨rfl, rfl⟩ <;> exact congrArg Host.Outcome.next (write_ecmd h (by decide))

/-- A command while none is in progress is taken. -/
theorem clsCommand_taken {s : State} (h : s.flag R.CLS_ECSTAT_BUSY = false) (cmd : Nat) :
    s.clsCommand cmd = (s.withCls { s.cls with command := some (cmd, s.fld R.CLS_ESEL_ENTRY) }).setFld R.CLS_ECSTAT_BUSY 1 := by
  rw [State.clsCommand, h, if_neg Bool.false_ne_true]

/-- A command while one is in progress is refused. -/
theorem clsCommand_refused {s : State} (h : s.flag R.CLS_ECSTAT_BUSY = true) (cmd : Nat) : s.clsCommand cmd = s.clsRefuse 4 := by
  rw [State.clsCommand, h, if_pos rfl]

/-! ### The end of a command (R250 to R252) -/

/-- The registers that the end of a command may change. -/
def entryRegs : List Nat := [R.CLS_ECSTAT, R.EVT_PEND 2, R.CLS_EATTR, R.CLS_EACT, R.CLS_STAT] ++
  (List.range 6).map R.CLS_EVAL ++ (List.range 6).map R.CLS_EMSK ++ (List.range 16).map R.CLS_SUSPT

/-- What every end of a command for the entry `e` leaves: E66, and all other entries. -/
structure CommandEnds (e : Nat) (s t : State) : Prop where
  busy : t.flag R.CLS_ECSTAT_BUSY = s.flag R.CLS_ECSTAT_BUSY
  command : t.cls.command = s.cls.command
  pends : s.live 7 = true → t.pends 66 = true
  others : ∀ x, x ≠ e → t.cslot x = s.cslot x
  framed : s.framed t [.regs, .cls, .evt] entryRegs

theorem CommandEnds.of_raise {e : Nat} {s t : State} {A : List Nat} (h : s.framed t [.regs, .cls] A)
    (hbusy : t.flag R.CLS_ECSTAT_BUSY = s.flag R.CLS_ECSTAT_BUSY) (hcmd : t.cls.command = s.cls.command)
    (ho : ∀ x, x ≠ e → t.cslot x = s.cslot x) (hA : A ⊆ entryRegs := by decide) (h0 : R.PWR_STATE0 ∉ A := by decide)
    (h1 : R.PWR_STATE1 ∉ A := by decide) : CommandEnds e s (t.raise 66) := by
  have hraised := raise_framed t 66
  have hcls := hraised.1.cls (by decide)
  exact ⟨((RegsKept.mk hraised.2).flag (by decide)).trans hbusy, (congrArg ClsSt.command hcls).trans hcmd,
    fun h7 => raise_pends ((h.live h0 h1 (d := 7)).trans h7) (by decide), fun x hx => (cslot_of_cls hcls x).trans (ho x hx),
    h.trans hraised (hA := hA) (hB := by decide)⟩

/-- A refusal shows its code, which is not 0, and leaves the entries. -/
theorem clsRefuse_spec (s : State) {err : Nat} (he : err < 16) :
    (s.clsRefuse err).fld R.CLS_ECSTAT_ERR = err ∧ (s.clsRefuse err).cls = s.cls ∧
      (s.clsRefuse err).flag R.CLS_ECSTAT_BUSY = s.flag R.CLS_ECSTAT_BUSY ∧
      s.framed (s.clsRefuse err) [.regs, .evt] [R.CLS_ECSTAT, R.EVT_PEND 2] := by
  have hraised := raise_framed (s.setFld R.CLS_ECSTAT_ERR err) 66
  have hkept := RegsKept.mk hraised.2
  refine ⟨?_, State.clsRefuse_same .. |>.cls (by decide), ?_, ?_⟩
  · refine (hkept.fld (f := R.CLS_ECSTAT_ERR) (by decide)).trans ((fld_setFld_bits s R.CLS_ECSTAT 3 0 err).trans ?_)
    omega
  · refine (hkept.flag (f := R.CLS_ECSTAT_BUSY) (by decide)).trans ?_
    rw [State.flag, fld_setFld_apart s R.CLS_ECSTAT_ERR R.CLS_ECSTAT_BUSY err (by decide), State.flag]
  · exact (framed_setFld s R.CLS_ECSTAT_ERR err [.regs]).trans hraised (hA := by decide) (hB := by decide)

theorem clsRefuse_ends (s : State) (e : Nat) {err : Nat} (he : err < 16) : CommandEnds e s (s.clsRefuse err) := by
  obtain ⟨-, hcls, hbusy, -⟩ := clsRefuse_spec s he
  have hset : s.framed (s.setFld R.CLS_ECSTAT_ERR err) [.regs, .cls] [R.CLS_ECSTAT] := framed_setFld s R.CLS_ECSTAT_ERR err _
  refine .of_raise hset ?_ rfl (fun _ _ => rfl)
  rw [State.flag, fld_setFld_apart s R.CLS_ECSTAT_ERR R.CLS_ECSTAT_BUSY err (by decide), State.flag]

end Sys2Proof.Machine

/-! The classifier's entry commands and Rake (chapter 09): what READ and WRITE exchange with the staging registers, how each command
ends, and the settlement of O30. -/

namespace Sys2Proof.Machine

-- Theorems one after another: a thread for each would take more memory than there is.
set_option Elab.async false

/-! ### The staging registers (R250) -/

/-- The state in which the first `n` words of a value and a mask are in the staging registers. -/
def State.wordsStaged (s : State) (c : ClsEntry) (n : Nat) : State :=
  (List.range n).foldl (fun s i =>
    (s.setRegN (R.CLS_EVAL i) (c.value.toNat / 2 ^ (32 * i))).setRegN (R.CLS_EMSK i) (c.mask.toNat / 2 ^ (32 * i))) s

theorem wordsStaged_succ (s : State) (c : ClsEntry) (n : Nat) : s.wordsStaged c (n + 1) =
    ((s.wordsStaged c n).setRegN (R.CLS_EVAL n) (c.value.toNat / 2 ^ (32 * n))).setRegN (R.CLS_EMSK n) (c.mask.toNat / 2 ^ (32 * n)) := by
  simp [State.wordsStaged, List.range_succ]

/-- The registers of a staged value and mask. -/
def stagedRegs : List Nat := (List.range 6).map R.CLS_EVAL ++ (List.range 6).map R.CLS_EMSK

theorem wordsStaged_framed (s : State) (c : ClsEntry) {n : Nat} (h : n ≤ 6) : s.framed (s.wordsStaged c n) [.regs] stagedRegs := by
  induction n with
  | zero => exact ⟨.refl .., fun _ _ => rfl⟩
  | succ n ih =>
    have hval : R.CLS_EVAL n ∈ stagedRegs := List.mem_append_left _ (List.mem_map.2 ⟨n, List.mem_range.2 h, rfl⟩)
    have hmsk : R.CLS_EMSK n ∈ stagedRegs := List.mem_append_right _ (List.mem_map.2 ⟨n, List.mem_range.2 h, rfl⟩)
    have hkept : RegsKept stagedRegs s (s.wordsStaged c n) := ⟨(ih (by omega)).2⟩
    rw [wordsStaged_succ]
    exact ⟨.step (State.setReg_same ..) (.step (State.setReg_same ..) (ih (by omega)).1), ((hkept.setReg _ hval).setReg _ hmsk).eq⟩

theorem wordsStaged_regN (s : State) (c : ClsEntry) {n i : Nat} (h : n ≤ 6) (hi : i < n) :
    (s.wordsStaged c n).regN (R.CLS_EVAL i) = c.value.toNat / 2 ^ (32 * i) % 2 ^ 32 ∧
      (s.wordsStaged c n).regN (R.CLS_EMSK i) = c.mask.toNat / 2 ^ (32 * i) % 2 ^ 32 := by
  induction n with
  | zero => omega
  | succ n ih =>
    have hcross : R.CLS_EMSK n ≠ R.CLS_EVAL i ∧ R.CLS_EVAL n ≠ R.CLS_EMSK i := by
      simp only [R.CLS_EVAL, R.CLS_EMSK]
      omega
    rw [wordsStaged_succ, regN_setRegN_other _ _ _ _ hcross.1]
    by_cases hin : i = n
    · subst hin
      exact ⟨regN_setRegN_same .., regN_setRegN_same ..⟩
    · have hlast : R.CLS_EVAL n ≠ R.CLS_EVAL i ∧ R.CLS_EMSK n ≠ R.CLS_EMSK i := by
        simp only [R.CLS_EVAL, R.CLS_EMSK]
        omega
      rw [regN_setRegN_other _ _ _ _ hlast.1, regN_setRegN_other _ _ _ _ hlast.2, regN_setRegN_other _ _ _ _ hcross.2]
      exact ih (by omega) (by omega)

/-- Six registers that hold the words of a value stage it. -/
theorem staged192_of_words {s : State} {r : Nat → Nat} {v : BitVec 192} (h : ∀ i < 6, s.regN (r i) = v.toNat / 2 ^ (32 * i) % 2 ^ 32) :
    s.staged192 r = v := by
  have hsum : ∀ n ≤ 6, (List.range n).foldl (fun a i => a + s.regN (r i) * 2 ^ (32 * i)) 0 = v.toNat % 2 ^ (32 * n) := by
    intro n
    induction n with
    | zero => intro _; simp [Nat.mod_one]
    | succ n ih =>
      intro hn
      rw [List.range_succ, List.foldl_append, ih (by omega), List.foldl_cons, List.foldl_nil, h n (by omega), Nat.mul_succ, Nat.pow_add,
        Nat.mod_mul, Nat.mul_comm (2 ^ (32 * n))]
  rw [State.staged192, hsum 6 (Nat.le_refl 6)]
  exact BitVec.eq_of_toNat_eq (by simpa using v.isLt)

theorem staged192_congr {s t : State} {r : Nat → Nat} (h : ∀ i < 6, t.regN (r i) = s.regN (r i)) : t.staged192 r = s.staged192 r := by
  rw [State.staged192, List.foldl_ext _ _ _ (fun a i hi => by rw [h i (List.mem_range.1 hi)]), State.staged192]

/-- The registers that READ sets. -/
def readRegs : List Nat := [R.CLS_EATTR, R.CLS_EACT] ++ stagedRegs

theorem clsReadEntry_framed (s : State) (e : Nat) : s.framed (s.clsReadEntry e) [.regs, .cls] readRegs := by
  have hwords : RegsKept readRegs s (s.wordsStaged (s.cslot e).stored 6) :=
    (RegsKept.mk (wordsStaged_framed s _ (Nat.le_refl 6)).2).mono (by simp [readRegs])
  exact ⟨.step (State.clsReadEntry_same ..) (.refl ..), ((hwords.setReg _).setReg _).eq⟩

/-- READ copies the stored copy of an entry into the staging registers. -/
theorem clsReadEntry_spec (s : State) (e : Nat) :
    let t := s.clsReadEntry e
    t.reg R.CLS_EATTR = (s.cslot e).stored.attr ∧ t.reg R.CLS_EACT = (s.cslot e).stored.action ∧
      t.staged192 R.CLS_EVAL = (s.cslot e).stored.value ∧ t.staged192 R.CLS_EMSK = (s.cslot e).stored.mask := by
  intro t
  have hwords : ∀ a, a ≠ R.CLS_EATTR → a ≠ R.CLS_EACT → t.regN a = (s.wordsStaged (s.cslot e).stored 6).regN a := fun a h1 h2 =>
    congrArg BitVec.toNat ((reg_setReg_other _ _ _ _ h2.symm).trans (reg_setReg_other _ _ _ _ h1.symm))
  have hapart : ∀ i < 6, R.CLS_EVAL i ≠ R.CLS_EATTR ∧ R.CLS_EVAL i ≠ R.CLS_EACT ∧
      R.CLS_EMSK i ≠ R.CLS_EATTR ∧ R.CLS_EMSK i ≠ R.CLS_EACT := by decide
  refine ⟨(reg_setReg_other _ _ _ _ (by decide)).trans (reg_setReg_same ..), reg_setReg_same .., ?_, ?_⟩ <;>
    refine staged192_of_words fun i hi => ?_ <;> obtain ⟨h1, h2, h3, h4⟩ := hapart i hi
  · rw [hwords _ h1 h2]
    exact (wordsStaged_regN s _ (Nat.le_refl 6) hi).1
  · rw [hwords _ h3 h4]
    exact (wordsStaged_regN s _ (Nat.le_refl 6) hi).2

/-- The entry that the staging registers hold (R241). -/
def State.stagedEntry (s : State) : ClsEntry :=
  ⟨s.staged192 R.CLS_EVAL &&& s.staged192 R.CLS_EMSK, s.staged192 R.CLS_EMSK, s.reg R.CLS_EATTR, s.reg R.CLS_EACT⟩

theorem clsWriteEntry_eq (s : State) (e : Nat) :
    s.clsWriteEntry e = s.modSlotC e (fun _ => { arr := s.stagedEntry, stored := s.stagedEntry }) := rfl

/-- The state in which a command leaves the queue of the classifier. -/
def State.commandLeft (s : State) : State := (s.withCls { s.cls with command := none }).setFld R.CLS_ECSTAT_BUSY 0

theorem commandLeft_framed (s : State) : s.framed s.commandLeft [.regs, .cls] [R.CLS_ECSTAT] :=
  (withCls_framed ..).trans (framed_setFld _ R.CLS_ECSTAT_BUSY 0 [.regs]) (hB := fun _ h => h)

theorem commandLeft_cslot (s : State) (x : Nat) : s.commandLeft.cslot x = s.cslot x := rfl

theorem commandLeft_stagedEntry (s : State) : s.commandLeft.stagedEntry = s.stagedEntry := by
  have hkept : RegsKept [R.CLS_ECSTAT] s s.commandLeft := ⟨(commandLeft_framed s).2⟩
  have hapart : ∀ i < 6, R.CLS_EVAL i ∉ [R.CLS_ECSTAT] ∧ R.CLS_EMSK i ∉ [R.CLS_ECSTAT] := by decide
  rw [State.stagedEntry, staged192_congr (s := s) (fun i hi => hkept.regN (hapart i hi).1),
    staged192_congr (s := s) (fun i hi => hkept.regN (hapart i hi).2), hkept.eq _ (by decide), hkept.eq _ (by decide), State.stagedEntry]

section
variable {s : State} (h11 : s.live 11 = true) {e : Nat}
include h11

theorem exec_entryCommandDone_read (hc : s.cls.command = some (1, e)) :
    exec .entryCommandDone s = .next ((s.commandLeft.clsReadEntry e).raise 66) := by
  change execEntryCommandDone s = _
  rw [execEntryCommandDone, h11, hc]
  rfl

theorem exec_entryCommandDone_write (hc : s.cls.command = some (2, e)) :
    exec .entryCommandDone s = .next
      (if (s.cslot e).valid then s.commandLeft.clsRefuse 1
       else if s.fld R.CLS_EACT_DEST = 3 && s.isAN then s.commandLeft.clsRefuse 2
       else if 6 < s.fld R.CLS_EACT_DEST then s.commandLeft.clsRefuse 3
       else (s.commandLeft.clsWriteEntry e).raise 66) := by
  have hkept : RegsKept [R.CLS_ECSTAT] s s.commandLeft := ⟨(commandLeft_framed s).2⟩
  have han : s.commandLeft.isAN = s.isAN := by rw [State.isAN, hkept.fld (by decide), State.isAN]
  rw [← hkept.fld (f := R.CLS_EACT_DEST) (by decide), ← han]
  change execEntryCommandDone s = _
  rw [execEntryCommandDone, h11, hc]
  rfl

theorem exec_entryCommandDone_invalidate (hc : s.cls.command = some (3, e)) : exec .entryCommandDone s =
    .next (((s.commandLeft.modSlotC e (fun c => { c with valid := false })).suspDrop e).raise 66) := by
  change execEntryCommandDone s = _
  rw [execEntryCommandDone, h11, hc]
  rfl

theorem exec_entryCommandDone_validate (hc : s.cls.command = some (4, e)) : exec .entryCommandDone s = .next
    (if (s.cslot e).uncor then s.commandLeft.clsRefuse 5
     else (s.commandLeft.modSlotC e (fun c => { c with valid := true })).raise 66) := by
  change execEntryCommandDone s = _
  rw [execEntryCommandDone, h11, hc]
  rfl

theorem exec_entryCommandDone_none {cmd : Nat} (hc : s.cls.command = some (cmd, e)) (h : cmd = 0 ∨ 4 < cmd) :
    exec .entryCommandDone s = .next (s.commandLeft.clsRefuse 3) := by
  change execEntryCommandDone s = _
  rw [execEntryCommandDone, h11, hc]
  match cmd with
  | 0 => rfl
  | n + 5 => rfl

end

/-- A WRITE to a valid entry, with a destination that the part has not, or with none at all is refused. -/
theorem exec_entryCommandDone_writeRefused {s : State} (h11 : s.live 11 = true) {e : Nat} (hc : s.cls.command = some (2, e))
    (h : (s.cslot e).valid = true ∨ 6 < s.fld R.CLS_EACT_DEST ∨ (s.fld R.CLS_EACT_DEST = 3 ∧ s.isAN = true)) :
    ∃ err, 0 < err ∧ err < 16 ∧ exec .entryCommandDone s = .next (s.commandLeft.clsRefuse err) := by
  rw [exec_entryCommandDone_write h11 hc]
  split
  · exact ⟨1, by decide, by decide, rfl⟩
  · next hv =>
    split
    · exact ⟨2, by decide, by decide, rfl⟩
    · next h3 =>
      have hd : 6 < s.fld R.CLS_EACT_DEST := (h.resolve_left hv).resolve_right (by simpa using h3)
      rw [if_pos hd]
      exact ⟨3, by decide, by decide, rfl⟩

/-- A WRITE to an invalid entry with a destination of the part is carried out. -/
theorem exec_entryCommandDone_written {s : State} (h11 : s.live 11 = true) {e : Nat} (hc : s.cls.command = some (2, e))
    (hv : (s.cslot e).valid = false) (hd : s.fld R.CLS_EACT_DEST < 7) (h3 : s.fld R.CLS_EACT_DEST ≠ 3 ∨ s.isAN = false) :
    exec .entryCommandDone s = .next ((s.commandLeft.clsWriteEntry e).raise 66) := by
  have hpart : (decide (s.fld R.CLS_EACT_DEST = 3) && s.isAN) = false := by
    rcases h3 with h | h <;> simp [h]
  rw [exec_entryCommandDone_write h11 hc, hv, hpart, if_neg Bool.false_ne_true, if_neg Bool.false_ne_true, if_neg (by omega)]

/-! ### What each command leaves -/

/-- An entry that a command changes, the registers as they are. -/
theorem modSlotC_ends (s : State) (e : Nat) (f : ClsSlot → ClsSlot) : CommandEnds e s ((s.modSlotC e f).raise 66) :=
  .of_raise ((modSlotC_framed s e f).mono (hA := fun _ h => h)) rfl rfl (fun _ hx => cslot_modSlotC_other _ _ hx)

theorem raised_cslot (s : State) (k x : Nat) : (s.raise k).cslot x = s.cslot x := cslot_of_cls ((raise_framed s k).1.cls (by decide)) x

theorem read_ends (s : State) (e : Nat) : CommandEnds e s ((s.clsReadEntry e).raise 66) := by
  have hframed := clsReadEntry_framed s e
  have hflag : (s.clsReadEntry e).flag R.CLS_ECSTAT_BUSY = s.flag R.CLS_ECSTAT_BUSY := (RegsKept.mk hframed.2).flag (by decide)
  have hcls : (s.clsReadEntry e).cls = s.cls := (State.clsReadEntry_same ..).cls (by decide)
  exact .of_raise hframed hflag (by rw [hcls]) (fun x _ => cslot_of_cls hcls x)

theorem invalidate_ends (s : State) (e : Nat) :
    CommandEnds e s (((s.modSlotC e (fun c => { c with valid := false })).suspDrop e).raise 66) := by
  have hframed := invalid_dropped_framed s e
  have hflag : ((s.modSlotC e (fun c => { c with valid := false })).suspDrop e).flag R.CLS_ECSTAT_BUSY = s.flag R.CLS_ECSTAT_BUSY :=
    (RegsKept.mk hframed.2).flag (by decide)
  have hcls := suspDrop_cls (s.modSlotC e (fun c => { c with valid := false })) e
  exact .of_raise hframed hflag (by rw [hcls]; rfl) (fun x hx => (cslot_of_cls hcls x).trans (cslot_modSlotC_other _ _ hx))

/-- INVALIDATE leaves the entry invalid and not suspect. -/
theorem invalidate_spec (s : State) (e : Nat) :
    let t := ((s.modSlotC e (fun c => { c with valid := false })).suspDrop e).raise 66
    t.cslot e = { s.cslot e with valid := false } ∧ t.suspect e = false := by
  have hsusp : ∀ i < 16, R.CLS_SUSPT i ∉ [R.EVT_PEND (66 / 32)] := by decide
  refine ⟨(raised_cslot ..).trans ((cslot_of_cls (suspDrop_cls ..) e).trans (cslot_modSlotC_same ..)), ?_⟩
  rw [suspect_congr (fun i hi => (raise_framed _ 66).2 _ (hsusp i hi)), suspDrop_suspect]

/-- What the end of the command `cmd` does to its entry `e`. -/
structure CommandEffect (cmd e : Nat) (s t : State) : Prop where
  read : cmd = 1 → t.cslot e = s.cslot e ∧ t.reg R.CLS_EATTR = (s.cslot e).stored.attr ∧
    t.reg R.CLS_EACT = (s.cslot e).stored.action ∧ t.staged192 R.CLS_EVAL = (s.cslot e).stored.value ∧
    t.staged192 R.CLS_EMSK = (s.cslot e).stored.mask
  written : cmd = 2 → (s.cslot e).valid = false → s.fld R.CLS_EACT_DEST < 7 → s.fld R.CLS_EACT_DEST ≠ 3 ∨ s.isAN = false →
    t.cslot e = { arr := s.stagedEntry, stored := s.stagedEntry }
  writeRefused : cmd = 2 → (s.cslot e).valid = true ∨ 6 < s.fld R.CLS_EACT_DEST ∨ (s.fld R.CLS_EACT_DEST = 3 ∧ s.isAN = true) →
    t.cslot e = s.cslot e ∧ t.fld R.CLS_ECSTAT_ERR ≠ 0
  invalidated : cmd = 3 → t.cslot e = { s.cslot e with valid := false } ∧ t.suspect e = false
  validated : cmd = 4 → (s.cslot e).uncor = false → t.cslot e = { s.cslot e with valid := true }
  validateRefused : cmd = 4 → (s.cslot e).uncor = true → t.cslot e = s.cslot e ∧ t.fld R.CLS_ECSTAT_ERR = 5

/-- What the end of a command leaves, on the state in which it left the queue. -/
def CommandDone (cmd e : Nat) (s : State) : Prop :=
  ∃ t, exec .entryCommandDone s = .next t ∧ CommandEnds e s.commandLeft t ∧ CommandEffect cmd e s t

/-- A refused command leaves its entry and shows its code. -/
theorem refused_cslot (s : State) {err : Nat} (he : err < 16) (e : Nat) :
    (s.commandLeft.clsRefuse err).cslot e = s.cslot e ∧ (s.commandLeft.clsRefuse err).fld R.CLS_ECSTAT_ERR = err := by
  obtain ⟨herr, hcls, -⟩ := clsRefuse_spec s.commandLeft he
  exact ⟨cslot_of_cls hcls e, herr⟩

section
variable {s : State} (h11 : s.live 11 = true) {e : Nat}
include h11

theorem commandDone_read (hc : s.cls.command = some (1, e)) : CommandDone 1 e s := by
  obtain ⟨hattr, hact, hval, hmsk⟩ := clsReadEntry_spec s.commandLeft e
  have hkept := RegsKept.mk (raise_framed (s.commandLeft.clsReadEntry e) 66).2
  have hapart : ∀ i < 6, R.CLS_EVAL i ∉ [R.EVT_PEND (66 / 32)] ∧ R.CLS_EMSK i ∉ [R.EVT_PEND (66 / 32)] := by decide
  have hcls : (s.commandLeft.clsReadEntry e).cls = s.commandLeft.cls := (State.clsReadEntry_same ..).cls (by decide)
  refine ⟨_, exec_entryCommandDone_read h11 hc, read_ends .., fun _ => ⟨?_, ?_, ?_, ?_, ?_⟩, nofun, nofun, nofun, nofun, nofun⟩
  · rw [raised_cslot, cslot_of_cls hcls, commandLeft_cslot]
  · exact (hkept.eq _ (by decide)).trans hattr
  · exact (hkept.eq _ (by decide)).trans hact
  · exact (staged192_congr fun i hi => hkept.regN (hapart i hi).1).trans hval
  · exact (staged192_congr fun i hi => hkept.regN (hapart i hi).2).trans hmsk

theorem commandDone_write (hc : s.cls.command = some (2, e)) : CommandDone 2 e s := by
  by_cases hrefused : (s.cslot e).valid = true ∨ 6 < s.fld R.CLS_EACT_DEST ∨ (s.fld R.CLS_EACT_DEST = 3 ∧ s.isAN = true)
  · obtain ⟨err, hpos, hlt, hexec⟩ := exec_entryCommandDone_writeRefused h11 hc hrefused
    obtain ⟨hslot, herr⟩ := refused_cslot s hlt e
    refine ⟨_, hexec, clsRefuse_ends _ e hlt, nofun, fun _ hv hd h3 => ?_, fun _ _ => ⟨hslot, by omega⟩, nofun, nofun, nofun⟩
    rcases hrefused with h | h | ⟨h, han⟩
    · exact absurd (h.symm.trans hv) (by decide)
    · omega
    · exact absurd (han.symm.trans (h3.resolve_left (not_not_intro h))) (by decide)
  · obtain ⟨hv, hd, h3⟩ : (s.cslot e).valid = false ∧ s.fld R.CLS_EACT_DEST < 7 ∧ (s.fld R.CLS_EACT_DEST ≠ 3 ∨ s.isAN = false) := by
      push Not at hrefused
      obtain ⟨hv, hd, h3⟩ := hrefused
      exact ⟨by simpa using hv, by omega, by simpa [← imp_iff_not_or] using h3⟩
    refine ⟨_, exec_entryCommandDone_written h11 hc hv hd h3, ?_, nofun, fun _ _ _ _ => ?_, fun _ h => absurd h hrefused, nofun, nofun, nofun⟩
    · exact modSlotC_ends ..
    · rw [raised_cslot, clsWriteEntry_eq, cslot_modSlotC_same, commandLeft_stagedEntry]

theorem commandDone_invalidate (hc : s.cls.command = some (3, e)) : CommandDone 3 e s :=
  ⟨_, exec_entryCommandDone_invalidate h11 hc, invalidate_ends .., nofun, nofun, nofun, fun _ => invalidate_spec .., nofun, nofun⟩

theorem commandDone_validate (hc : s.cls.command = some (4, e)) : CommandDone 4 e s := by
  refine ⟨_, exec_entryCommandDone_validate h11 hc, ?_⟩
  split
  · next hu =>
    obtain ⟨hslot, herr⟩ := refused_cslot s (err := 5) (by decide) e
    exact ⟨clsRefuse_ends _ e (by decide), nofun, nofun, nofun, nofun, fun _ h => absurd (h.symm.trans hu) (by decide),
      fun _ _ => ⟨hslot, herr⟩⟩
  · next hu =>
    exact ⟨modSlotC_ends .., nofun, nofun, nofun, nofun, fun _ _ => (raised_cslot ..).trans (cslot_modSlotC_same ..),
      fun _ h => absurd h hu⟩

theorem commandDone_none {cmd : Nat} (hc : s.cls.command = some (cmd, e)) (h : cmd = 0 ∨ 4 < cmd) : CommandDone cmd e s :=
  ⟨_, exec_entryCommandDone_none h11 hc h, clsRefuse_ends _ e (by decide), by omega, by omega, by omega, by omega, by omega, by omega⟩

/-- Every command comes to its end. -/
theorem commandDone {cmd : Nat} (hc : s.cls.command = some (cmd, e)) : CommandDone cmd e s := by
  match cmd with
  | 0 => exact commandDone_none h11 hc (.inl rfl)
  | 1 => exact commandDone_read h11 hc
  | 2 => exact commandDone_write h11 hc
  | 3 => exact commandDone_invalidate h11 hc
  | 4 => exact commandDone_validate h11 hc
  | n + 5 => exact commandDone_none h11 hc (.inr (by omega))

end

/-! ### Rake (R253 to R255) -/

theorem repair_framed (s : State) (e : Nat) : s.framed (s.repair e) [.cls] [] := modSlotC_framed ..

section
variable {s : State} (h11 : s.live 11 = true)
include h11

/-- Rake rewrites a suspect entry from its stored copy. -/
theorem exec_rakeRepairDone {i : Fin 16} (hv : s.flag (R.CLS_SUSPT_VALID i.val) = true) :
    exec (.rakeRepairDone i) s = .next
      (if (s.cslot (s.fld (R.CLS_SUSPT_ENTRY i.val))).uncor then s.entryUncor (s.fld (R.CLS_SUSPT_ENTRY i.val))
       else (s.repair (s.fld (R.CLS_SUSPT_ENTRY i.val))).suspDrop (s.fld (R.CLS_SUSPT_ENTRY i.val))) := by
  change execRakeRepairDone i s = _
  rw [execRakeRepairDone, h11, hv]
  exact (apply_ite Host.Outcome.next ..).symm

/-- The state in which a background step of Rake is due again a microsecond later, with the deferrals `n`. -/
def State.rakeStepped (s : State) (n : Nat) : State := s.withCls { s.cls with rakeDue := s.now + 1000, rakeDefer := n }

/-- A search or a command in progress defers the background step. -/
theorem exec_rakeBackgroundStep_deferred (hr : s.flag R.CLS_CTRL_RAKE_EN = true) {u : State} (hu : s.advanceTo s.cls.rakeDue = u)
    (hb : u.cls.command.isSome = true ∨ u.now < u.cls.freeAt) (hd : u.cls.rakeDefer < 64) :
    exec .rakeBackgroundStep s = .next (u.rakeStepped (u.cls.rakeDefer + 1)) := by
  have hbusy : (u.cls.command.isSome || decide (u.now < u.cls.freeAt)) = true := by simpa using hb
  have hgo : ((u.cls.command.isSome || decide (u.now < u.cls.freeAt)) && decide (u.cls.rakeDefer < 64)) = true := by simp [hbusy, hd]
  change execRakeBackgroundStep s = _
  rw [execRakeBackgroundStep, h11, hr, if_neg (by decide), hu]
  exact if_pos hgo

/-- The state in which Rake has passed the entry `e`. -/
def State.rakePassed (s : State) (e : Nat) : State :=
  s.withCls { s.cls with rakeDue := s.now + 1000, rakeDefer := 0, rakeAt := (e + 1) % 4096 }

/-- The background step compares the next valid entry, and repairs it where it differs from its stored copy. -/
theorem exec_rakeBackgroundStep_compared (hr : s.flag R.CLS_CTRL_RAKE_EN = true) {u : State} (hu : s.advanceTo s.cls.rakeDue = u)
    (hc : u.cls.command = none) (hfree : u.cls.freeAt ≤ u.now) {e : Nat} {c : ClsSlot}
    (hf : u.cls.entries.find? (fun p => p.2.valid && u.cls.rakeAt ≤ p.1) = some (e, c)) (hcor : c.uncor = false) :
    exec .rakeBackgroundStep s = .next (if c.wrong then ((u.rakePassed e).repair e).raise 74 else u.rakePassed e) := by
  have hbusy : (u.cls.command.isSome || decide (u.now < u.cls.freeAt)) = false := by simp [hc, hfree]
  have hnext : ((u.cls.entries.filter (fun p => p.2.valid)).find? (fun p => u.cls.rakeAt ≤ p.1)).or
      (u.cls.entries.filter (fun p => p.2.valid)).head? = some (e, c) := by
    simp only [List.find?_filter, decide_eq_true_eq, Bool.decide_and, Bool.decide_eq_true, hf]
    rfl
  change execRakeBackgroundStep s = _
  rw [execRakeBackgroundStep, h11, hr, if_neg (by decide), hu]
  simp only [hbusy, Bool.false_and, Bool.false_eq_true, if_false]
  split
  · next hnone => exact absurd (hnext.symm.trans hnone) (by simp)
  · next e' c' hsome =>
    cases hnext.symm.trans hsome
    rw [hcor, if_neg Bool.false_ne_true]
    exact (apply_ite Host.Outcome.next ..).symm

end

/-- Settles O30: every end of a command is one of `CommandEnds`, and the command's own change stands beside it; Rake changes the entry
it repairs alone. -/
theorem classifierEntries : Obligations.ClassifierEntries := by
  unfold Obligations.ClassifierEntries
  refine ⟨?commands, ?ends, ?repaired, ?uncorrectable, ?compared, ?deferred⟩
  case commands =>
    intro s rid c cmd h hc
    have hanswered := ecmdAnswered_framed s rid
    have hkept : RegsKept [R.CLS_ECMD] s (s.ecmdAnswered rid) := ⟨hanswered.2⟩
    have hbusy : (s.ecmdAnswered rid).flag R.CLS_ECSTAT_BUSY = s.flag R.CLS_ECSTAT_BUSY := hkept.flag
    refine ⟨fun hb => ⟨_, exec_entryCommand h hc, ?_⟩, fun hb => ⟨_, exec_entryCommand h hc, ?_⟩⟩
    · rw [clsCommand_taken (hbusy.trans hb), hkept.fld (f := R.CLS_ESEL_ENTRY) (by decide)]
      refine ⟨flag_setFld_bit _ R.CLS_ECSTAT 31, rfl, ?_⟩
      exact (hanswered.trans (n := [.regs, .answer, .cls]) (C := [R.CLS_ECMD]) (withCls_framed ..)).trans
        (framed_setFld _ R.CLS_ECSTAT_BUSY 1 [.regs]) (hB := by decide)
    · obtain ⟨herr, -, hsame, hframed⟩ := clsRefuse_spec (s.ecmdAnswered rid) (err := 4) (by decide)
      rw [clsCommand_refused (hbusy.trans hb)]
      exact ⟨herr, (hsame.trans hbusy).trans hb, hanswered.trans hframed⟩
  case ends =>
    intro s cmd e h11 hc
    obtain ⟨t, ht, hends, heffect⟩ := commandDone h11 hc
    have hleft := commandLeft_framed s
    have hbusy : s.commandLeft.flag R.CLS_ECSTAT_BUSY = false := flag_setFld_clear _ R.CLS_ECSTAT 31
    exact ⟨t, ht, hends.busy.trans hbusy, hends.command, fun h7 => hends.pends ((hleft.live (by decide) (by decide) (d := 7)).trans h7),
      hends.others, heffect.read, heffect.written, heffect.writeRefused, heffect.invalidated, heffect.validated,
      heffect.validateRefused, hleft.trans hends.framed (hA := by decide) (hB := fun _ h => h)⟩
  case repaired =>
    intro s i h11 hv e hcor
    refine ⟨_, exec_rakeRepairDone h11 hv, ?_⟩
    rw [hcor, if_neg Bool.false_ne_true]
    have hcls := suspDrop_cls (s.repair e) e
    exact ⟨(cslot_of_cls hcls e).trans (cslot_modSlotC_same ..), suspDrop_suspect .., fun x hx => (cslot_of_cls hcls x).trans
      (cslot_modSlotC_other _ _ hx), (repair_framed s e).trans (suspDrop_framed ..) (hB := fun _ h => h)⟩
  case uncorrectable =>
    intro s i h11 hv e hcor
    have he : e < 4096 := nbits_lt ..
    refine ⟨_, exec_rakeRepairDone h11 hv, ?_⟩
    rw [hcor, if_pos rfl]
    exact entryUncor_spec s he
  case compared =>
    intro s e c h11 hr u hc hfree hsorted hf hcor
    have hslot : u.cslot e = c := tget_of_mem _ hsorted (List.mem_of_find?_eq_some hf)
    have hpassed := withCls_framed u { u.cls with rakeDue := u.now + 1000, rakeDefer := 0, rakeAt := (e + 1) % 4096 }
    refine ⟨_, exec_rakeBackgroundStep_compared h11 hr rfl hc hfree hf hcor, ?_⟩
    split
    · have hrepaired := (hpassed.trans (n := [.cls]) (C := []) (repair_framed _ e))
      have hraised := raise_framed ((u.rakePassed e).repair e) 74
      have hcls := hraised.1.cls (by decide)
      refine ⟨congrArg ClsSt.rakeAt hcls, congrArg ClsSt.rakeDue hcls, ?_, fun _ h7 => raise_pends h7 (by decide),
        fun x hx => (raised_cslot ..).trans (cslot_modSlotC_other _ _ hx), hrepaired.trans hraised⟩
      rw [raised_cslot, ← hslot]
      exact cslot_modSlotC_same ..
    · next hw => exact ⟨rfl, rfl, hslot, fun h => absurd h hw, fun _ _ => rfl, hpassed.mono⟩
  case deferred =>
    intro s h11 hr u hb hd
    exact ⟨_, exec_rakeBackgroundStep_deferred h11 hr rfl hb hd, rfl, rfl, withCls_framed ..⟩

end Sys2Proof.Machine

/-! The firmware queues and the searches of frames (chapter 09). -/

namespace Sys2Proof.Machine

-- Theorems one after another: a thread for each would take more memory than there is.
set_option Elab.async false

/-! ### Firmware queues (R249) -/

/-- A part of a run of SRAM that was set. -/
theorem ram_set_part (s : State) (a : Nat) (bs : List Byte) {k n : Nat} (h : k + n ≤ bs.length) :
    (s.setSramBytes a bs).ram (a + k) n = (bs.drop k).take n := by
  refine List.ext_getElem (by simp [State.ram]; omega) fun i hi hi' => ?_
  have hin : i < n := by simpa [State.ram] using hi
  have hset := sramByte_set s a bs (k := k + i) (by omega)
  simp only [State.ram, List.getElem_map, List.getElem_range, List.getElem_take, List.getElem_drop, Nat.add_assoc, hset]
  exact List.getD_eq_getElem _ _ (by omega)

/-- The entry of a firmware queue for a frame whose first word is `w0`. -/
def fqEntry (w0 : Word) (f : RxFrame) : List Byte :=
  leBytes 4 w0.toNat ++ leBytes 4 f.sec ++ leBytes 4 (f.sec / 2 ^ 32 % 65536) ++ leBytes 4 f.stamp ++ slice f.bytes 0 2032

theorem length_fqEntry (w0 : Word) (f : RxFrame) : (fqEntry w0 f).length = 2048 := by simp [fqEntry, length_leBytes]

/-- The bytes of the frame in the entry. -/
theorem fqEntry_bytes (w0 : Word) (f : RxFrame) :
    ((fqEntry w0 f).drop 16).take (min 2032 f.bytes.length) = f.bytes.take (min 2032 f.bytes.length) := by
  have hdrop : (fqEntry w0 f).drop 16 = slice f.bytes 0 2032 := rfl
  rw [hdrop, slice, List.drop_zero, List.take_append_of_le_length (by simp), List.take_take, Nat.min_eq_left (Nat.min_le_left ..)]

/-- What SRAM holds after the entry is written at `a`. -/
theorem fqEntry_set (s : State) (a : Nat) (w0 : Word) (f : RxFrame) :
    let t := s.setSramBytes a (fqEntry w0 f)
    t.ramWord a = w0.toNat ∧ t.ramWord (a + 4) = f.sec % 2 ^ 32 ∧ t.ramWord (a + 8) = f.sec / 2 ^ 32 % 65536 ∧
      t.ramWord (a + 12) = f.stamp % 2 ^ 32 ∧ t.ram (a + 16) (min 2032 f.bytes.length) = f.bytes.take (min 2032 f.bytes.length) := by
  intro t
  have hlen := length_fqEntry w0 f
  have hword : ∀ k v, k + 4 ≤ 2048 → ((fqEntry w0 f).drop k).take 4 = leBytes 4 v → t.ramWord (a + k) = v % 256 ^ 4 := fun k v hk hv => by
    rw [State.ramWord, ram_set_part s a _ (by omega), hv, leNat_leBytes]
  have hw0 := w0.isLt
  refine ⟨(hword 0 w0.toNat (by decide) rfl).trans (Nat.mod_eq_of_lt hw0), hword 4 f.sec (by decide) rfl,
    (hword 8 _ (by decide) rfl).trans (Nat.mod_eq_of_lt ?_), hword 12 f.stamp (by decide) rfl, ?_⟩
  · omega
  · rw [ram_set_part s a _ (by omega), fqEntry_bytes]

section
variable {s : State} {q : Nat} {w0 : Word} {f : RxFrame} {r : List (Nat × Word × RxFrame)} (h11 : s.live 11 = true)
  (hw : s.cls.fqWait = (q, w0, f) :: r) (hen : s.flag (R.CLS_FQ_CFG_EN q) = true)
include h11 hw hen

/-- The frame that waits for a full ring is dropped. -/
theorem exec_fqEntryWritten_dropped
    (hfull : (s.fld (R.CLS_FQ_HEAD_IDX q) % max 4 (min 64 (s.fld (R.CLS_FQ_CFG_SIZE q))) + 1) % max 4 (min 64 (s.fld (R.CLS_FQ_CFG_SIZE q))) =
      s.fld (R.CLS_FQ_TAIL_IDX q)) :
    exec .fqEntryWritten s = .next (((s.withCls { s.cls with fqWait := r }).count C.CLS_FQDROP).raise 65) := by
  change execFqEntryWritten s = _
  rw [execFqEntryWritten, h11, hw]
  dsimp only
  simp only [State.withCls_fld, State.withCls_flag, hen, Bool.not_true, Bool.false_eq_true, if_false, hfull, if_true]

/-- The frame that waits is written whole and the head of the ring moves. -/
theorem exec_fqEntryWritten_stored {size head a : Nat} (hsize : max 4 (min 64 (s.fld (R.CLS_FQ_CFG_SIZE q))) = size)
    (hhead : s.fld (R.CLS_FQ_HEAD_IDX q) % size = head) (ha : s.fld (R.CLS_FQ_BASE_BASE q) * 2048 + 2048 * head = a)
    (hroom : (head + 1) % size ≠ s.fld (R.CLS_FQ_TAIL_IDX q)) (hram : s.inRam a 2048) :
    exec .fqEntryWritten s = .next ((((s.withCls { s.cls with fqWait := r }).setSramBytes a (fqEntry w0 f)).setRegN
      (R.CLS_FQ_HEAD q) ((head + 1) % size)).raise 64) := by
  have hup : (s.withCls { s.cls with fqWait := r }).ramUp a (fqEntry w0 f).length := by
    rw [length_fqEntry]
    exact ramUp_of_inRam (inRam_of_same (State.withCls_same ..) hram)
  change execFqEntryWritten s = _
  rw [execFqEntryWritten, h11, hw]
  dsimp only
  simp only [State.withCls_fld, State.withCls_flag, hen, Bool.not_true, Bool.false_eq_true, if_false, hsize, hhead, ha, hroom]
  rw [← fqEntry, memWrite_sram hup]

end

theorem setSramBytes_framed (s : State) (a : Nat) (l : List Byte) : s.framed (s.setSramBytes a l) [.sram] [] :=
  framed_of_same (State.setSramBytes_same ..)

theorem fqSet_framed (s : State) (x : ClsSt) (a : Nat) (l : List Byte) (q v : Nat) :
    s.framed (((s.withCls x).setSramBytes a l).setRegN (R.CLS_FQ_HEAD q) v) [.regs, .sram, .cls] [R.CLS_FQ_HEAD q] := by
  have hsram : s.framed ((s.withCls x).setSramBytes a l) [.sram, .cls] [] := (withCls_framed s x).trans (setSramBytes_framed _ a l)
  exact hsram.trans (setReg_framed _ (R.CLS_FQ_HEAD q) (BitVec.ofNat 32 v)) (hA := by simp) (hB := by simp)

/-- An entry that is written into a ring, whose head moves. -/
theorem fqSet_spec (s : State) (x : ClsSt) (a : Nat) {l : List Byte} (hl : l.length = 2048) {q v : Nat} (hq : q < 4) (hv : v < 2 ^ 32) :
    let t := (((s.withCls x).setSramBytes a l).setRegN (R.CLS_FQ_HEAD q) v).raise 64
    t.cls = x ∧ t.sram = ((s.withCls x).setSramBytes a l).sram ∧ s.ramKept t [(a, 2048)] ∧ t.regN (R.CLS_FQ_HEAD q) = v ∧
      (s.live 7 = true → t.pends 64 = true) ∧ s.framed t [.regs, .sram, .cls, .evt] [R.CLS_FQ_HEAD q, R.EVT_PEND 2] := by
  intro t
  have hraised := raise_framed (((s.withCls x).setSramBytes a l).setRegN (R.CLS_FQ_HEAD q) v) 64
  have hset := fqSet_framed s x a l q v
  have hsram := hraised.1.sram (by decide)
  have hcls := hraised.1.cls (by decide)
  have hother : s.ramKept ((s.withCls x).setSramBytes a l) [(a, 2048)] := by
    intro y hy
    have hout := hy (a, 2048) (List.mem_singleton_self _)
    exact sramByte_set_other _ a _ (by rwa [hl])
  have hapart : R.CLS_FQ_HEAD q ∉ [R.EVT_PEND (64 / 32)] := by
    simp only [R.CLS_FQ_HEAD, R.EVT_PEND, List.mem_singleton]
    omega
  have hdomains : R.PWR_STATE0 ∉ [R.CLS_FQ_HEAD q] ∧ R.PWR_STATE1 ∉ [R.CLS_FQ_HEAD q] := by
    simp only [R.CLS_FQ_HEAD, R.PWR_STATE0, R.PWR_STATE1, List.mem_singleton]
    omega
  refine ⟨hcls.trans ((State.setSramBytes_same ..).cls (by decide)), hsram, ramKept_of_sram hother hsram, ?_,
    fun h7 => raise_pends ((hset.live hdomains.1 hdomains.2 (d := 7)).trans h7) (by decide), ?_⟩
  · exact ((RegsKept.mk hraised.2).regN hapart).trans ((regN_setRegN_same ..).trans (Nat.mod_eq_of_lt hv))
  · exact hset.trans hraised (hA := by simp) (hB := by simp)

/-- A confirmed frame that is dropped at a full ring. -/
theorem fqDropped_spec (s : State) (x : ClsSt) :
    let t := ((s.withCls x).count C.CLS_FQDROP).raise 65
    t.cls = x ∧ t.regN C.CLS_FQDROP.addr = (s.regN C.CLS_FQDROP.addr + 1) % 2 ^ 32 ∧ (s.live 7 = true → t.pends 65 = true) ∧
      s.framed t [.regs, .dict, .cls, .evt] (R.EVT_PEND 2 :: C.CLS_FQDROP.regs) := by
  intro t
  have hraised := raise_framed ((s.withCls x).count C.CLS_FQDROP) 65
  have hset := (withCls_framed s x).trans (n := [.regs, .dict, .cls]) (C := C.CLS_FQDROP.regs) (count_framed _ C.CLS_FQDROP)
    (hB := fun _ h => h)
  refine ⟨(hraised.1.cls (by decide)).trans ((State.count_same ..).cls (by decide)), ?_, fun h7 => raise_pends ?_ (by decide), ?_⟩
  · exact ((RegsKept.mk hraised.2).regN (by decide)).trans (countN_regN _ _ 1 rfl (by decide))
  · exact (hset.live (by decide) (by decide) (d := 7)).trans h7
  · exact hset.trans hraised (hA := fun _ h => List.mem_cons_of_mem _ h) (hB := by simp)

end Sys2Proof.Machine

/-! Searches of frames (chapter 09): how one begins, where a frame without a false hit goes, and what leaves a suspect entry on
record. -/

namespace Sys2Proof.Machine

-- Theorems one after another: a thread for each would take more memory than there is.
set_option Elab.async false

/-! ### The beginning of a search (R240, R244, R248) -/

/-- A frame as it comes from its port. -/
def heardFrame (frame : List Byte) (sec : BitVec 48) (stamp : Word) : RxFrame :=
  { bytes := frame, sec := sec.toNat, stamp := stamp.toNat }

theorem setRx_framed (s : State) (n : Nat) (f : RxFrame) : s.framed (s.setRx n f) [.lanes] [] := framed_of_same (State.setRx_same ..)

theorem setRx_rx (s : State) (n : Nat) (f : RxFrame) : ((s.setRx n f).lane n).rx = some f :=
  congrArg LaneSt.rx (lane_modLane_same s n fun l => { l with rx := some f })

/-- The state in which a port has `w + 1` keys waiting. -/
def State.keyHeld (s : State) (p w : Nat) : State := s.withCls { s.cls with keys := tput s.cls.keys p (w + 1) }

/-- The state in which no key waits. -/
def State.keysTaken (s : State) : State := s.withCls { s.cls with keys := [] }

/-- The drop is reported, at most once a millisecond. -/
def State.dropReported (s : State) : State :=
  match s.cls.dropAt with
  | some d => if s.now < d + 1000000 then s else (s.withCls { s.cls with dropAt := some s.now }).raise 67
  | none => (s.withCls { s.cls with dropAt := some s.now }).raise 67

theorem dropReported_next (s : State) :
    (match s.cls.dropAt with
      | some d => Host.Outcome.next (if s.now < d + 1000000 then s else (s.withCls { s.cls with dropAt := some s.now }).raise 67)
      | none => .next ((s.withCls { s.cls with dropAt := some s.now }).raise 67) : Host.Outcome State Fault Refusal) =
      .next s.dropReported := by
  rw [State.dropReported]
  cases s.cls.dropAt <;> rfl

section
variable {s : State} {p : Fin 25} (hp : p.val < 24) (hrec : s.receives p.val = true) (hvar : s.varlas p.val = false)
  (h11 : s.live 11 = true) (frame : List Byte) (sec : BitVec 48) (stamp : Word)
include hp hrec hvar h11

/-- A search of a frame of a lane. -/
theorem exec_search_lane : exec (.classifierSearch p frame sec stamp none) s =
    if s.mgmtFrame (keyParts p.val false frame 0) then .next (s.setRx p.val { heardFrame frame sec stamp with dest := 6 })
    else if !s.flag R.CLS_CTRL_EN then .next (s.setRx p.val (heardFrame frame sec stamp))
    else
      let w := s.keysWaiting p.val
      let t := if s.cls.freeAt ≤ s.now then s.keysTaken else s.keyHeld p.val w
      if 8 ≤ w then
        let t := (t.setFld R.CLS_STAT_KEYDROP 1).setRx p.val { heardFrame frame sec stamp with drop := 1 }
        match t.cls.dropAt with
        | some d => .next (if t.now < d + 1000000 then t else (t.withCls { t.cls with dropAt := some t.now }).raise 67)
        | none => .next ((t.withCls { t.cls with dropAt := some t.now }).raise 67)
      else .next (t.classify p.val (heardFrame frame sec stamp)) := by
  have hport : p.val ≠ 24 := by omega
  have hgoes : ¬(decide (p.val < 24) && (!s.receives p.val || s.varlas p.val)) = true := by simp [hrec, hvar]
  change execClassifierSearch p frame sec stamp none s = _
  rw [execClassifierSearch]
  refine (if_neg hgoes).trans ((if_neg (by simp [hport])).trans ((if_neg (by simp [hport])).trans ((if_neg (by simp [h11])).trans rfl)))

theorem exec_search_mgmt (hm : s.mgmtFrame (keyParts p.val false frame 0) = true) : exec (.classifierSearch p frame sec stamp none) s =
    .next (s.setRx p.val { heardFrame frame sec stamp with dest := 6 }) := by
  rw [exec_search_lane hp hrec hvar h11, if_pos hm]

variable (hm : s.mgmtFrame (keyParts p.val false frame 0) = false) (hen : s.flag R.CLS_CTRL_EN = true)
include hm hen

/-- A frame that finds the pipeline free is searched. -/
theorem exec_search_free (hfree : s.cls.freeAt ≤ s.now) : exec (.classifierSearch p frame sec stamp none) s =
    .next (s.keysTaken.classify p.val (heardFrame frame sec stamp)) := by
  have hw : s.keysWaiting p.val = 0 := if_pos hfree
  rw [exec_search_lane hp hrec hvar h11, hm, hen, if_neg Bool.false_ne_true, if_neg (by decide), hw]
  dsimp only
  rw [if_pos hfree]
  rfl

/-- The state in which a frame has been dropped for eight waiting keys. -/
def State.keyDropped (s : State) (p : Nat) (f : RxFrame) : State :=
  (((s.keyHeld p (tget 0 s.cls.keys p)).setFld R.CLS_STAT_KEYDROP 1).setRx p { f with drop := 1 })

/-- A frame that finds eight keys waiting is dropped. -/
theorem exec_search_full (hbusy : s.now < s.cls.freeAt) (h8 : 8 ≤ tget 0 s.cls.keys p.val) :
    exec (.classifierSearch p frame sec stamp none) s = .next (s.keyDropped p.val (heardFrame frame sec stamp)).dropReported := by
  have hnot : ¬s.cls.freeAt ≤ s.now := by omega
  have hw : s.keysWaiting p.val = tget 0 s.cls.keys p.val := if_neg hnot
  rw [exec_search_lane hp hrec hvar h11, hm, hen, if_neg Bool.false_ne_true, if_neg (by decide), hw]
  dsimp only
  rw [if_neg hnot, if_pos h8]
  exact dropReported_next _

end

/-- Frames of the field port of EtherType 0x88B5 without a tag go to the responder, whatever the classifier does. -/
theorem exec_search_fieldPort {s : State} (hv : s.vigil = true) {frame : List Byte} (hoff : etherOff frame = 12)
    (hty : be16 frame 12 = 0x88B5) (sec : BitVec 48) (stamp : Word) (u : Option EntryUpset) :
    exec (.classifierSearch 24 frame sec stamp u) s = .next (s.setRx 24 { heardFrame frame sec stamp with dest := 6 }) := by
  have hkey : (keyParts 24 false frame 0).etype = 0x88B5 ∧ (keyParts 24 false frame 0).ntag = 0 := by
    refine ⟨(congrArg (be16 frame) hoff).trans hty, ?_⟩
    change (etherOff frame - 12) / 4 = 0
    rw [hoff]
  change execClassifierSearch 24 frame sec stamp u s = _
  rw [execClassifierSearch]
  exact (if_neg (by simp)).trans ((if_neg (by simp [hv])).trans (if_pos (by simp [hkey])))

theorem keyDropped_framed (s : State) (p : Nat) (f : RxFrame) : s.framed (s.keyDropped p f) [.regs, .lanes, .cls] [R.CLS_STAT] := by
  have hset : s.framed ((s.keyHeld p (tget 0 s.cls.keys p)).setFld R.CLS_STAT_KEYDROP 1) [.regs, .cls] [R.CLS_STAT] :=
    (withCls_framed ..).trans (framed_setFld _ R.CLS_STAT_KEYDROP 1 [.regs]) (hB := fun _ h => h)
  exact hset.trans (setRx_framed ..)

theorem dropReported_framed (s : State) : s.framed s.dropReported [.regs, .cls, .evt] [R.EVT_PEND 2] := by
  have hreported : s.framed ((s.withCls { s.cls with dropAt := some s.now }).raise 67) [.regs, .cls, .evt] [R.EVT_PEND 2] :=
    (withCls_framed ..).trans (raise_framed ..) (hB := fun _ h => h)
  rw [State.dropReported]
  split
  · split
    · exact ⟨.refl .., fun _ _ => rfl⟩
    · exact hreported
  · exact hreported

/-- The first drop raises E67. -/
theorem dropReported_pends {s : State} (h7 : s.live 7 = true) (hd : s.cls.dropAt = none) : s.dropReported.pends 67 = true := by
  rw [State.dropReported, hd]
  exact raise_pends h7 (by decide)

/-- A frame that finds eight keys waiting is dropped with KEYDROP. -/
theorem keyDropped_spec (s : State) (p : Nat) (f : RxFrame) :
    let t := (s.keyDropped p f).dropReported
    t.flag R.CLS_STAT_KEYDROP = true ∧ (t.lane p).rx = some { f with drop := 1 } ∧
      (s.live 7 = true → s.cls.dropAt = none → t.pends 67 = true) ∧
      s.framed t [.regs, .lanes, .cls, .evt] [R.CLS_STAT, R.EVT_PEND 2] := by
  intro t
  have hdropped := keyDropped_framed s p f
  have hreported := dropReported_framed (s.keyDropped p f)
  refine ⟨?_, ?_, fun h7 hd => dropReported_pends ?_ hd, hdropped.trans hreported (hA := by simp)⟩
  · exact ((RegsKept.mk hreported.2).flag (by decide)).trans (flag_setFld_bit _ R.CLS_STAT 0)
  · rw [lane_of_lanes (hreported.1.lanes (by decide))]
    exact setRx_rx ..
  · exact (hdropped.live (by decide) (by decide) (d := 7)).trans h7

/-! ### The search and its action (R243, R245, R253) -/

theorem uncor_of_wrong {c : ClsSlot} (h : c.wrong = false) : c.uncor = false := by
  cases hu : c.uncor with
  | false => rfl
  | true => rw [ClsSlot.wrong, hu] at h; exact h

/-- A winner like its stored copy is found at once. -/
theorem lookup_found {s : State} {k : KeyParts} {e : Nat} (hw : s.winner k = some e) (hok : (s.cslot e).wrong = false) (n f : Nat) :
    State.lookup k (n + 1) s f = ((some e, f), s) := by
  rw [State.lookup, hw]
  dsimp only
  rw [uncor_of_wrong hok, hok, if_neg Bool.false_ne_true, if_neg Bool.false_ne_true]

theorem steer_elsewhere (s : State) (p : Nat) {f : RxFrame} (h : f.dest ≠ 1) : s.steer p f = s.setRx p f := if_pos h

/-- The state in which a search without a false hit has ended. -/
def State.searchedOnce (s : State) : State := s.withCls { s.cls with freeAt := max s.now s.cls.freeAt }

theorem searchedOnce_cslot (s : State) (e : Nat) : s.searchedOnce.cslot e = s.cslot e := rfl

theorem searchedOnce_applicable (s : State) (k : KeyParts) (d : Nat) : s.searchedOnce.applicable k d = s.applicable k d := rfl

/-- A frame goes where the action of its winner says. -/
theorem classify_found {s : State} {p : Nat} {f : RxFrame} {e : Nat} {k : KeyParts}
    (hk : keyParts p f.pass f.bytes (s.fld (R.CLS_PORT_CFG_WOFS p)) = k) (hw : s.winner k = some e) (hok : (s.cslot e).wrong = false)
    {act : Nat} (hact : (s.cslot e).arr.action.toNat = act) (heng : nbit act 19 = false) {d : Nat × Nat}
    (hd : s.applicable k (nbits act 31 28) = d) (h1 : d.1 ≠ 1) :
    s.classify p f = s.searchedOnce.setRx p { f with dest := d.1, arg := nbits act 27 20, entry := some e, wins := f.wins ++ [some e],
                                                     drop := d.2, engine := none } := by
  subst hact hd
  rw [State.classify, hk, lookup_found hw hok 3]
  dsimp only
  rw [Nat.mul_zero, Nat.add_zero]
  rw [← State.searchedOnce]
  simp only [searchedOnce_cslot, searchedOnce_applicable, heng, Bool.false_eq_true, if_false]
  exact steer_elsewhere _ p h1

/-! ### A false hit stays on record (R253) -/

/-- A suspect entry stays suspect and E72 pending. -/
structure HitKept (e : Nat) (s t : State) : Prop where
  suspect : s.suspect e = true → t.suspect e = true
  pends : s.pends 72 = true → t.pends 72 = true

/-- A register apart from the suspect-entry table and the pending bit of E72. -/
abbrev HitApart (a : Nat) : Prop := (∀ i < 16, a ≠ R.CLS_SUSPT i) ∧ a ≠ R.EVT_PEND 2

section
variable {e : Nat} {s t u : State}

theorem HitKept.refl (e : Nat) (s : State) : HitKept e s s := ⟨id, id⟩

theorem HitKept.trans (h : HitKept e s t) (g : HitKept e t u) : HitKept e s u := ⟨g.suspect ∘ h.suspect, g.pends ∘ h.pends⟩

theorem HitKept.of_regs {A : List Nat} (h : RegsKept A s t) (hA : ∀ a ∈ A, HitApart a := by decide) : HitKept e s t := by
  have hsuspt : ∀ i < 16, R.CLS_SUSPT i ∉ A := fun i hi hmem => (hA _ hmem).1 i hi rfl
  have hpend : R.EVT_PEND 2 ∉ A := fun hmem => (hA _ hmem).2 rfl
  refine ⟨fun hs => (suspect_congr (fun i hi => h.eq _ (hsuspt i hi)) e).trans hs, fun hp => ?_⟩
  rw [State.pends, h.regN hpend]
  exact hp

theorem HitKept.step {l : List Part} (h : HitKept e s t) (g : Same l t u) (hr : Part.regs ∉ l := by decide) : HitKept e s u :=
  h.trans (.of_regs (RegsKept.step g (.refl [] _) hr) (fun _ hmem => absurd hmem (List.not_mem_nil)))

theorem HitKept.setRegN (h : HitKept e s t) {a : Nat} (v : Nat) (ha : HitApart a := by decide) : HitKept e s (t.setRegN a v) :=
  h.trans (.of_regs ((RegsKept.refl [a] t).setReg _ List.mem_cons_self) (by simpa using ha))

theorem HitKept.setFld (h : HitKept e s t) {f : Fld} (v : Nat) (hf : HitApart f.addr := by decide) : HitKept e s (t.setFld f v) :=
  h.setRegN _ hf

theorem HitKept.countN (h : HitKept e s t) {c : Ctr} (n : Nat) (hc : ∀ a ∈ c.regs, HitApart a := by decide) : HitKept e s (t.countN c n) :=
  h.trans (.of_regs (countN_regs t c n) hc)

theorem HitKept.raise (h : HitKept e s t) (k : Nat) (hk : k < 256 := by decide) : HitKept e s (t.raise k) := by
  have hsuspt : ∀ i < 16, R.CLS_SUSPT i ∉ [R.EVT_PEND (k / 32)] := by
    intro i hi
    simp only [R.CLS_SUSPT, R.EVT_PEND, List.mem_singleton]
    omega
  exact ⟨fun hs => (suspect_congr (fun i hi => (raise_framed t k).2 _ (hsuspt i hi)) e).trans (h.suspect hs),
    fun hp => raise_keeps t k 72 (h.pends hp)⟩

theorem HitKept.ite {c : Prop} [Decidable c] (ht : HitKept e s t) (hu : HitKept e s u) : HitKept e s (if c then t else u) := by
  split
  · exact ht
  · exact hu

theorem HitKept.foldl {α : Type} {f : State → α → State} (h : ∀ t x, HitKept e t (f t x)) (xs : List α) :
    ∀ {t}, HitKept e s t → HitKept e s (xs.foldl f t) := by
  induction xs with
  | nil => exact id
  | cons x xs ih => exact fun ht => ih (ht.trans (h _ x))

end

/-! ### The samples of a RoE packet (R195) are of no concern to the suspect entries -/

section
variable {e : Nat} (s : State)

theorem capStop_hits (r : Nat) : HitKept e s (s.capStop r) :=
  (((HitKept.refl e s).setFld (f := R.MTX_CAP_STAT_RESULT) r).setFld (f := R.MTX_CAP_STAT_STATE) 0).step (State.withMtx_same ..) |>.raise 53

theorem capStore_hits (x : TxSample) : HitKept e s (s.capStore x) := by
  have hword : HitApart (R.MTX_CAPW (s.fld R.MTX_CAP_STAT_CNT)) := by
    have hcnt : s.fld R.MTX_CAP_STAT_CNT < 4096 := nbits_lt ..
    refine ⟨fun i hi => ?_, ?_⟩ <;> simp only [R.MTX_CAPW, R.CLS_SUSPT, R.EVT_PEND] <;> omega
  unfold State.capStore
  exact ((HitKept.ite (((HitKept.refl e s).setRegN _).setRegN _) (.refl e s)).setRegN _ hword).setFld _

theorem capFlush_hits : HitKept e s s.capFlush := by
  have hstored : ∀ m l, HitKept e s (List.foldl State.capStore (s.withMtx m) l) := fun m l =>
    .foldl (fun t x => capStore_hits t x) l ((HitKept.refl e s).step (State.withMtx_same ..))
  unfold State.capFlush
  exact .ite (.refl e s) (.ite ((hstored ..).trans (capStop_hits ..)) (hstored ..))

theorem capSample_hits (dir g : Nat) (x : TxSample) : HitKept e s (s.capSample dir g x) := by
  unfold State.capSample
  exact .ite (.refl e s) ((((HitKept.refl e s).setFld _).step (State.withMtx_same ..)).trans (capFlush_hits ..))

theorem skewPut_hits (k : Nat) (x : RxSample) : HitKept e s (s.skewPut k x) := by
  unfold State.skewPut
  exact .ite ((HitKept.refl e s).countN 1) ((HitKept.refl e s).step (State.withMtx_same ..))

theorem deliver_hits (c : Nat) (x : RxSample) : HitKept e s (s.deliver c x) := by
  have hgap : HitKept e s (s.count C.MTX_GAP) := (HitKept.refl e s).countN 1
  unfold State.deliver
  refine .ite hgap (.foldl (fun t k => skewPut_hits t k x) _ ?_)
  have hsampled : ∀ m y, HitKept e s (((if (s.recv c).next.getD x.time < x.time then s.count C.MTX_GAP else s).withMtx m).capSample 0 c y) :=
    fun m y => ((HitKept.ite hgap (.refl e s)).step (State.withMtx_same ..)).trans (capSample_hits ..)
  exact .ite (hsampled ..) ((hsampled ..).step (State.withMtx_same ..))

theorem sampleIn_hits (c time : Nat) (i q : Int) (blank : Bool) : HitKept e s (s.sampleIn c time i q blank) := by
  unfold State.sampleIn
  dsimp only
  split
  · exact .ite ((HitKept.refl e s).step (State.withMtx_same ..)) (deliver_hits ..)
  · exact deliver_hits ..

theorem unitOpen_hits (c : Nat) : HitKept e s (s.unitOpen c) := by
  have hopened : ∀ m, HitKept e s (s.withMtx m) := fun m => (HitKept.refl e s).step (State.withMtx_same ..)
  unfold State.unitOpen
  exact .ite ((((hopened _).setFld _).countN 1).raise 52) (hopened _)

theorem roeSamples_hits (n c : Nat) (l : List Byte) (sec stamp : Nat) : HitKept e s (s.roeSamples n c l sec stamp) := by
  unfold State.roeSamples
  refine .ite (.refl e s) (.foldl (fun t q => sampleIn_hits ..) _ ?_)
  exact (HitKept.ite (.refl e s) ((HitKept.refl e s).countN _)).trans (unitOpen_hits ..)

end

end Sys2Proof.Machine

/-! False hits of the classifier (chapter 09) and the settlement of O29. -/

namespace Sys2Proof.Machine

-- Theorems one after another: a thread for each would take more memory than there is.
set_option Elab.async false

/-! ### False hits (R253, R254) -/

/-- What a choice among entries finds is one of them. -/
theorem chosen_mem {α : Type} {f : Option (Nat × Nat) → Nat × α → Option (Nat × Nat)}
    (hf : ∀ b p, f b p = b ∨ ∃ q, f b p = some (p.1, q)) {d q : Nat} (l : List (Nat × α)) :
    ∀ b, l.foldl f b = some (d, q) → b = some (d, q) ∨ ∃ p ∈ l, p.1 = d := by
  induction l with
  | nil => exact fun b h => .inl h
  | cons p l ih =>
    intro b h
    rcases ih _ h with hp | ⟨x, hx, hxd⟩
    · rcases hf b p with hb | ⟨y, hy⟩
      · exact .inl (hb.symm.trans hp)
      · cases hy.symm.trans hp
        exact .inr ⟨p, List.mem_cons_self, rfl⟩
    · exact .inr ⟨x, List.mem_cons_of_mem _ hx, hxd⟩

theorem not_suspect_of_matches {s : State} {k : KeyParts} {d : Nat} {c : ClsSlot} (h : s.matches_ k d c = true) : s.suspect d = false := by
  cases hs : s.suspect d with
  | false => rfl
  | true => simp [State.matches_, hs] at h

/-- A winner is not suspect. -/
theorem winner_not_suspect {s : State} {k : KeyParts} {d : Nat} (h : s.winner k = some d) : s.suspect d = false := by
  obtain ⟨⟨x, q⟩, hfold, rfl⟩ := Option.map_eq_some_iff.1 h
  refine (chosen_mem ?_ _ _ hfold).elim nofun ?_
  · rintro (- | ⟨b, r⟩) p
    · exact .inr ⟨_, rfl⟩
    · dsimp only
      split
      · exact .inr ⟨_, rfl⟩
      · exact .inl rfl
  · rintro ⟨⟨y, c⟩, hmem, rfl⟩
    exact not_suspect_of_matches (List.mem_filter.1 hmem).2

section
variable {s : State} {e : Nat}

/-- The slot of the suspect-entry table that a false hit takes names the entry. -/
theorem suspAt_taken (he : e < 4096) {t : State} {i : Nat} (ht : t.reg (R.CLS_SUSPT i) = BitVec.ofNat 32 (2 ^ 31 + e)) :
    t.suspAt i e = true := by
  rw [suspAt_iff, ht, BitVec.toNat_ofNat, Nat.mod_eq_of_lt (by omega)]
  simp only [nbit, nbits, beq_iff_eq]
  omega

/-- An entry that stands in another slot stays. -/
theorem suspect_setRegN {i : Nat} (hi : s.flag (R.CLS_SUSPT_VALID i) = false) (v : Nat) (h : s.suspect e = true) :
    (s.setRegN (R.CLS_SUSPT i) v).suspect e = true := by
  obtain ⟨j, hj, hat⟩ := (suspect_iff ..).1 h
  have hne : i ≠ j := by
    rintro rfl
    rw [State.suspAt, hi] at hat
    exact Bool.false_ne_true hat
  exact (suspect_iff ..).2 ⟨j, hj, (suspAt_congr (reg_setReg_other _ _ _ _ (fun hr => hne (suspt_inj hr))) e).trans hat⟩

theorem suspCount_hits (t : State) : HitKept e t t.suspCount := .setFld (.refl ..) _

/-- The state in which a false hit has taken slot i of the suspect-entry table. -/
def State.suspTaken (s : State) (i d : Nat) : State := ((s.setRegN (R.CLS_SUSPT i) (2 ^ 31 + d)).suspCount).raise 72

/-- The state after a false hit that found the table full. -/
def State.suspFull (s : State) (d : Nat) : State :=
  (((s.modSlotC d (fun c => { c with valid := false })).setFld R.CLS_STAT_SUSP_FULL 1).raise 73).raise 72

theorem falseHit_cases (s : State) (d : Nat) :
    (∃ i < 16, s.flag (R.CLS_SUSPT_VALID i) = false ∧ s.falseHit d = s.suspTaken i d) ∨
      ((∀ i < 16, s.flag (R.CLS_SUSPT_VALID i) = true) ∧ s.falseHit d = s.suspFull d) := by
  unfold State.falseHit
  split
  · next i hf =>
    exact .inl ⟨i, List.mem_range.1 (List.mem_of_find?_eq_some hf), by simpa using List.find?_some hf, rfl⟩
  · next hf => exact .inr ⟨by simpa using hf, rfl⟩

/-- A false hit makes no other entry less suspect. -/
theorem falseHit_hits (s : State) (d : Nat) : HitKept e s (s.falseHit d) := by
  rcases falseHit_cases s d with ⟨i, hi, hfree, heq⟩ | ⟨-, heq⟩ <;> rw [heq]
  · have htaken : HitKept e s (s.setRegN (R.CLS_SUSPT i) (2 ^ 31 + d)) := by
      refine ⟨suspect_setRegN hfree _, fun hp => ?_⟩
      have hne : R.CLS_SUSPT i ≠ R.EVT_PEND (72 / 32) := by
        simp only [R.CLS_SUSPT, R.EVT_PEND]
        omega
      rwa [State.pends, regN_setRegN_other _ _ _ _ hne]
    exact (htaken.trans (suspCount_hits _)).raise 72
  · exact ((((HitKept.refl e s).step (State.modSlotC_same ..)).setFld _).raise 73).raise 72

/-- A false hit that finds room makes its entry suspect, with E72. -/
theorem falseHit_spec (he : e < 4096) {i : Nat} (hi : i < 16) (hfree : s.flag (R.CLS_SUSPT_VALID i) = false) :
    (s.falseHit e).suspect e = true ∧ (s.live 7 = true → (s.falseHit e).pends 72 = true) := by
  rcases falseHit_cases s e with ⟨j, hj, -, heq⟩ | ⟨hfull, -⟩
  · have hset : (s.setRegN (R.CLS_SUSPT j) (2 ^ 31 + e)).suspect e = true :=
      (suspect_iff ..).2 ⟨j, hj, suspAt_taken he (reg_setReg_same ..)⟩
    have hlive : ∀ t, (s.setRegN (R.CLS_SUSPT j) t).suspCount.live 7 = s.live 7 := fun t => by
      have hdomains : R.PWR_STATE0 ∉ [R.CLS_SUSPT j] ∧ R.PWR_STATE1 ∉ [R.CLS_SUSPT j] := by
        simp only [R.CLS_SUSPT, R.PWR_STATE0, R.PWR_STATE1, List.mem_singleton]
        omega
      exact (live_setFld ..).trans ((setReg_framed s (R.CLS_SUSPT j) _).live hdomains.1 hdomains.2 (d := 7))
    rw [heq]
    refine ⟨((suspCount_hits _).raise 72).suspect hset, fun h7 => raise_pends ((hlive _).trans h7) (by decide)⟩
  · exact absurd (hfree.symm.trans (hfull i hi)) (by decide)

/-- An uncorrectable error of another entry does not make an entry less suspect. -/
theorem entryUncor_hits (s : State) {d : Nat} (h : d ≠ e) : HitKept e s (s.entryUncor d) := by
  have hshown : HitKept e s (s.uncorShown d) := by
    refine ⟨fun hs => ?_, fun hp => ?_⟩
    · rw [suspect_congr (fun i hi => uncorShown_suspt s d hi), suspDrop_suspect_other _ h]
      exact hs
    · rwa [State.pends, (uncorShown_framed s d).regN (by decide)]
  rw [entryUncor_eq]
  exact hshown.raise 73

/-- A search does not find an entry that is suspect, and leaves it so. -/
theorem lookup_suspect (k : KeyParts) (n : Nat) (s : State) (f : Nat) (h : s.suspect e = true) :
    HitKept e s (State.lookup k n s f).2 ∧ (State.lookup k n s f).1.1 ≠ some e := by
  induction n generalizing s f with
  | zero => exact ⟨(HitKept.refl ..).setFld _, nofun⟩
  | succ n ih =>
    rw [State.lookup]
    split
    · exact ⟨.refl .., nofun⟩
    · next d hd =>
      have hne : d ≠ e := by
        rintro rfl
        exact Bool.false_ne_true ((winner_not_suspect hd).symm.trans h)
      have hafter : ∀ t f, HitKept e s t →
          HitKept e s (State.lookup k n t f).2 ∧ (State.lookup k n t f).1.1 ≠ some e := fun t f ht =>
        (ih t f (ht.suspect h)).imp_left ht.trans
      split
      · exact hafter _ _ (entryUncor_hits s hne)
      · split
        · exact hafter _ _ (falseHit_hits s d)
        · exact ⟨.refl .., by simpa using hne⟩

end

/-! ### A search whose winner is a false hit -/

/-- A frame that is steered keeps its winner, and a suspect entry stays so. -/
theorem steer_hits (s : State) (p : Nat) (f : RxFrame) (e : Nat) :
    HitKept e s (s.steer p f) ∧ ∃ g, ((s.steer p f).lane p).rx = some g ∧ g.entry = f.entry := by
  have hset : ∀ t g, HitKept e s t → g.entry = f.entry →
      HitKept e s (t.setRx p g) ∧ ∃ g', ((t.setRx p g).lane p).rx = some g' ∧ g'.entry = f.entry := fun t g ht hg =>
    ⟨ht.step (State.setRx_same ..), g, setRx_rx .., hg⟩
  unfold State.steer
  split
  · exact hset _ _ (.refl ..) rfl
  · dsimp only
    split
    · exact hset _ _ ((HitKept.refl ..).step (State.draw_same ..)) rfl
    · split
      · exact hset _ _ (roeSamples_hits ..) rfl
      · exact hset _ _ (.refl ..) rfl

/-- A search ends with its frame steered, in a state whose registers the lookup left. -/
theorem classify_steer (s : State) (p : Nat) (f : RxFrame) :
    let r := State.lookup (keyParts p f.pass f.bytes (s.fld (R.CLS_PORT_CFG_WOFS p))) 4 s 0
    ∃ u g, s.classify p f = u.steer p g ∧ g.entry = r.1.1 ∧ Same [.cls, .aut] r.2 u := by
  intro r
  refine ⟨_, _, rfl, rfl, ?_⟩
  split
  · exact .step (State.engFrame_same ..) (.step (State.withCls_same ..) (.refl ..))
  · exact .step (State.withCls_same ..) (.refl ..)

/-- A winner that differs from its stored copy becomes suspect, and the search does not answer it. -/
theorem classify_falseHit {s : State} {p : Nat} {f : RxFrame} {e i : Nat}
    (hw : s.winner (keyParts p f.pass f.bytes (s.fld (R.CLS_PORT_CFG_WOFS p))) = some e) (he : e < 4096)
    (huncor : (s.cslot e).uncor = false) (hwrong : (s.cslot e).wrong = true) (hi : i < 16)
    (hfree : s.flag (R.CLS_SUSPT_VALID i) = false) :
    (s.classify p f).suspect e = true ∧ (s.live 7 = true → (s.classify p f).pends 72 = true) ∧
      ∀ g, ((s.classify p f).lane p).rx = some g → g.entry ≠ some e := by
  obtain ⟨u, g, hsteer, hentry, hu⟩ := classify_steer s p f
  obtain ⟨hsusp, hpend⟩ := falseHit_spec he hi hfree
  have hlookup : ∀ k, s.winner k = some e → State.lookup k 4 s 0 = State.lookup k 3 (s.falseHit e) 1 := fun k hk => by
    rw [State.lookup, hk]
    dsimp only
    rw [huncor, hwrong, if_neg Bool.false_ne_true, if_pos rfl]
  rw [hlookup _ hw] at hentry hu
  obtain ⟨hafter, hnot⟩ := lookup_suspect (keyParts p f.pass f.bytes (s.fld (R.CLS_PORT_CFG_WOFS p))) 3 (s.falseHit e) 1 hsusp
  obtain ⟨hsteered, g', hrx, hg'⟩ := steer_hits u p g e
  have hkept : HitKept e (s.falseHit e) (s.classify p f) := by
    rw [hsteer]
    exact (hafter.step hu).trans hsteered
  refine ⟨hkept.suspect hsusp, fun h7 => hkept.pends (hpend h7), fun x hx => ?_⟩
  rw [hsteer, hrx] at hx
  cases hx
  rw [hg', hentry]
  exact hnot

/-- Settles O29: each clause is one way of a frame through the search, or the end of a confirmed frame at its firmware queue. -/
theorem classifierFrames : Obligations.ClassifierFrames := by
  unfold Obligations.ClassifierFrames
  refine ⟨?found, ?mgmt, ?fieldPort, ?full, ?falseHit, ?stored, ?dropped⟩
  case found =>
    intro s p frame sec stamp e k act d ⟨hp, hrec, hvar, h11, hen, hfree⟩ hm hw hok h1 heng
    refine ⟨_, exec_search_free hp hrec hvar h11 frame sec stamp hm hen hfree, ?_⟩
    rw [classify_found (s := s.keysTaken) (k := k) rfl hw hok (act := act) rfl heng (d := d) rfl h1]
    exact ⟨setRx_rx .., rfl, ((withCls_framed ..).trans (n := [.cls]) (C := []) (withCls_framed ..)).trans (setRx_framed ..)⟩
  case mgmt =>
    intro s p frame sec stamp ⟨hp, hrec, hvar, h11, _, _⟩ hm
    exact ⟨_, exec_search_mgmt hp hrec hvar h11 frame sec stamp hm, setRx_rx .., (setRx_framed ..).mono⟩
  case fieldPort =>
    intro s frame sec stamp u hv hoff hty
    exact ⟨_, exec_search_fieldPort hv hoff hty sec stamp u, setRx_rx .., setRx_framed ..⟩
  case full =>
    intro s p frame sec stamp hp hrec hvar h11 hen hbusy h8 hm
    exact ⟨_, exec_search_full hp hrec hvar h11 frame sec stamp hm hen hbusy h8, keyDropped_spec ..⟩
  case falseHit =>
    intro s p frame sec stamp e i ⟨hp, hrec, hvar, h11, hen, hfree⟩ hm hw he huncor hwrong hi hsusp
    refine ⟨_, exec_search_free hp hrec hvar h11 frame sec stamp hm hen hfree, ?_⟩
    obtain ⟨hsuspect, hpends, hrx⟩ := classify_falseHit (s := s.keysTaken) (f := heardFrame frame sec stamp) hw he huncor hwrong hi hsusp
    exact ⟨hsuspect, hpends, hrx, .step (State.classify_same ..) (.step (State.withCls_same ..) (.refl ..))⟩
  case stored =>
    intro s q w0 f r size head a n h11 hw hq hen hroom hram
    refine ⟨_, exec_fqEntryWritten_stored h11 hw hen (size := size) rfl (head := head) rfl (a := a) rfl hroom hram, ?_⟩
    have hv : (head + 1) % size < 2 ^ 32 := by
      have hsize : 0 < size ∧ size ≤ 64 := by omega
      exact Nat.lt_of_lt_of_le (Nat.mod_lt _ hsize.1) (by omega)
    obtain ⟨hcls, hsram, hkept, hhead, hpends, hframed⟩ :=
      fqSet_spec s { s.cls with fqWait := r } a (length_fqEntry w0 f) hq hv
    obtain ⟨h0, h4, h8, h12, hbytes⟩ := fqEntry_set (s.withCls { s.cls with fqWait := r }) a w0 f
    exact ⟨congrArg ClsSt.fqWait hcls, (ramWord_of_sram hsram _).trans h0, (ramWord_of_sram hsram _).trans h4,
      (ramWord_of_sram hsram _).trans h8, (ramWord_of_sram hsram _).trans h12, (ram_of_sram hsram _ _).trans hbytes, hkept, hhead,
      hpends, hframed⟩
  case dropped =>
    intro s q w0 f r size h11 hw hen hfull
    obtain ⟨hcls, hrest⟩ := fqDropped_spec s { s.cls with fqWait := r }
    exact ⟨_, exec_fqEntryWritten_dropped h11 hw hen hfull, congrArg ClsSt.fqWait hcls, hrest⟩

end Sys2Proof.Machine

/-! Line cipher and key pages (chapter 10): a reserved bit of a lane's configuration, a receive association beyond the 400, and a
page that is wiped beside a transmit container that is not there. -/

namespace Sys2Proof.Machine

-- Theorems one after another: a thread for each would take more memory than there is.
set_option Elab.async false

/-! ### A reserved bit of CIP_LANEn_CFG -/

/-- PD8 is on beside PD0, and a reserved bit of CIP_LANE0_CFG is 1. -/
def reservedBit : State := (State.reset.setReg R.PWR_STATE0 0x00010001).setReg (R.CIP_LANE_CFG 0) 4

/-- The responder's own path reaches the cipher there (R89). -/
theorem reservedBit_serves : reservedBit.serves 0xE0 8 := by decide

/-- Reception of L0 fits into pipeline 0, whose domain is up. -/
theorem reservedBit_room : reservedBit.pipeLoad 0 + reservedBit.laneLoad 0 ≤ 160 ∧ reservedBit.live (pipeDomain 0) = true := by
  decide

/-- A write that sets RXEN leaves the reserved bit as it was (R71). -/
theorem reservedBit_written :
    (reservedBit.write 0xE0 (R.CIP_LANE_CFG 0) 0x80000000).reg (R.CIP_LANE_CFG 0) = 0x80000004 := by decide +kernel

/-- Refutes O33: its clause on enabling a direction gives the whole register as the fields of the data, and does not ask that the
reserved bits of CIP_LANEn_CFG read as 0 (R10). A write keeps them as they are (R71), so one that is 1 stays. -/
theorem not_cipherTransmits : ¬ Obligations.CipherTransmits := by
  unfold Obligations.CipherTransmits
  rintro ⟨hconfig, -⟩
  obtain ⟨henable, -⟩ := hconfig reservedBit 0xE0 0 0x80000000 false reservedBit_serves (by decide) (by decide) (by decide)
    (by decide) (by decide)
  obtain ⟨t, hex, hreg, -⟩ := henable reservedBit_room
  obtain rfl : reservedBit.write 0xE0 (R.CIP_LANE_CFG 0) 0x80000000 = t := Host.Outcome.next.inj hex
  exact absurd (reservedBit_written.symm.trans hreg) (by decide)

/-! ### A receive association beyond the 400 (R270, R271) -/

/-- The number of a receive association beyond the 400 there are: its count of late frames would stand where its PN does. -/
def strayArg : Nat := 1024

theorem strayArg_late : R.CIP_SAC_LATE strayArg = R.CIP_SA_PNLO strayArg := by decide

/-- A frame of one byte behind a SecTAG without SCI, its text in the clear (E and C 0), with AN 0 and PN 0; up to its ICV. -/
def strayText : List Byte := List.replicate 12 0 ++ [0x88, 0xE5, 0, 1, 0, 0, 0, 0, 0]

/-- The ICV of that frame under a key of zeros and SCI 0. -/
def strayIcv : Nat := (gcmDecrypt 0 0 strayText []).2

/-- The frame as the classifier gives it to the cipher, under that association. -/
def strayHeard : RxFrame := { bytes := strayText ++ beBytes 16 strayIcv, dest := 3, arg := strayArg }

/-- Its SecTAG. -/
def strayTag : SecTag := { len := 8 }

/-- PD8 is on beside PD0 with pipeline 0 up, L0 receives that frame under protection, and the association is enabled with REPLAY = 1
and 1 as its lowest acceptable PN. -/
def strayRx : State :=
  (((((State.reset.setReg R.PWR_STATE0 0x00010001).setReg R.CIP_STAT 0x100).setReg (R.CIP_LANE_CFG 0) 0x80000000).setReg
    (R.CIP_SA0 strayArg) 0x90000000).setReg (R.CIP_SA_PNLO strayArg) 1).modLane 0 (fun l => { l with rx := some strayHeard })

theorem strayRx_heard : (strayRx.lane 0).rx = some strayHeard := rfl

/-- The cipher, its pipeline, the lane direction and the association are all on. -/
theorem strayRx_on : strayRx.live 8 = true ∧ strayRx.laneProt 0 0 = true ∧ strayRx.flag (R.CIP_SA0_EN strayArg) = true ∧
    strayRx.pipeUp (strayRx.lanePipe 0 0) = true := by decide

/-- The SecTAG is well formed and fits the association. -/
theorem strayRx_tag : secTag strayHeard.bytes (strayRx.secOff 0 strayHeard.bytes) = some strayTag ∧
    strayRx.fld (R.CIP_SA0_AN strayArg) = 0 := by decide +kernel

/-- The PN is below the lowest acceptable one. -/
theorem strayRx_low : strayRx.flag (R.CIP_SA0_REPLAY strayArg) = true ∧
    recoverPn (strayRx.flag (R.CIP_SA0_XPN strayArg)) (strayRx.saPn strayArg) strayTag.pn < strayRx.saPn strayArg := by decide

/-- The ICV verifies. -/
theorem strayRx_icv :
    (gcmDecrypt (strayRx.saKey strayArg)
        (strayRx.saIv strayArg (strayRx.saSci strayArg)
          (recoverPn (strayRx.flag (R.CIP_SA0_XPN strayArg)) (strayRx.saPn strayArg) strayTag.pn))
        (strayHeard.bytes.take (strayRx.secOff 0 strayHeard.bytes + strayTag.len) ++
          slice strayHeard.bytes (strayRx.secOff 0 strayHeard.bytes + strayTag.len)
            (strayHeard.bytes.length - (strayRx.secOff 0 strayHeard.bytes + strayTag.len + 16))) []).2 =
      beNat (strayHeard.bytes.drop (strayHeard.bytes.length - 16)) := by decide +kernel

/-- The frame is late, and counts so. -/
theorem strayRx_received : exec (.protectedFrameReceive 0) strayRx =
    .next (((strayRx.count (C.CIP_SAC_LATE strayArg)).raiseSlow 81).setRx 0 { strayHeard with dest := 0 }) := by
  obtain ⟨h8, hprot, hen, hup⟩ := strayRx_on
  obtain ⟨htag, han⟩ := strayRx_tag
  obtain ⟨hreplay, hlow⟩ := strayRx_low
  have hsci : strayTag.sci.getD (strayRx.saSci strayArg) = strayRx.saSci strayArg := rfl
  have hdest : strayHeard.dest = 3 := rfl
  have hpass : strayHeard.pass = false := rfl
  have harg : strayHeard.arg = strayArg := rfl
  have htext : strayTag.e = false ∧ strayTag.c = false ∧ strayTag.an = 0 := ⟨rfl, rfl, rfl⟩
  obtain ⟨he, hc, hn⟩ := htext
  change execProtectedFrameReceive 0 strayRx = _
  simp [execProtectedFrameReceive, h8, strayRx_heard, hdest, hpass, harg, hprot, hen, hup, htag, he, hc, hn, han, hsci, hreplay,
    hlow, strayRx_icv]

/-- The count raises the association's PN. -/
theorem strayRx_counted : strayRx.saPn strayArg = 1 ∧
    (((strayRx.count (C.CIP_SAC_LATE strayArg)).raiseSlow 81).setRx 0 { strayHeard with dest := 0 }).saPn strayArg = 2 := by
  decide +kernel

/-- Refutes O34: its clause on late frames does not say that the association a frame names is one of the 400. For a number beyond
them the count of late frames (R270) falls on the PN, which the clause keeps as it was. -/
theorem not_cipherReceives : ¬ Obligations.CipherReceives := by
  unfold Obligations.CipherReceives
  rintro ⟨hreceive, -⟩
  obtain ⟨h8, hprot, hen, hup⟩ := strayRx_on
  obtain ⟨htag, han⟩ := strayRx_tag
  obtain ⟨hreplay, hlow⟩ := strayRx_low
  obtain ⟨hbefore, hafter⟩ := strayRx_counted
  obtain ⟨-, -, hlate, -⟩ := hreceive strayRx 0 strayHeard h8 strayRx_heard rfl rfl
  have hfits : ¬ (strayTag.e ≠ strayTag.c ∨ strayTag.an ≠ strayRx.fld (R.CIP_SA0_AN strayArg) ∨
      strayTag.sci.getD (strayRx.saSci strayArg) ≠ strayRx.saSci strayArg) := by
    rw [han]
    simp [strayTag]
  obtain ⟨t, hex, -, hpn, -⟩ := hlate strayTag htag ⟨hprot, hen, hup⟩ hfits hreplay hlow
  obtain rfl := Host.Outcome.next.inj (strayRx_received.symm.trans hex)
  exact absurd (hafter.symm.trans (hpn.trans hbefore)) (by decide)

/-! ### A wipe beside a container out of range (R178, R282) -/

/-- The number of a transmit container beyond the 1536 there are: MTX_BTN of its lane would stand where word 0 of SA 0 does. -/
def strayVictim : Nat := 64 * 131920

theorem strayVictim_btn : R.MTX_BTN (strayVictim / 64) = R.CIP_SA0 0 := by decide

/-- PD8 and PD10 are on beside PD0, L0 is a Varlas lane, its receive SA 352 is enabled and names page 0, and SA 0 is disabled with
every other bit of its word 0 set. The samples of the unconfirmed unit that container 0 of L0 holds have gone into a unit of that
transmit container. -/
def strayWipe : State :=
  ((((State.reset.setReg R.PWR_STATE0 0x00110001).setReg (R.LNE_CTRL 0) 2).setReg (R.CIP_SA0 352) 0x82000000).setReg
    (R.CIP_SA0 0) 0x7FFFFFFF).withMtx { State.reset.mtx with units := [(0, [{ serial := 1, tx := [strayVictim] }])] }

/-- A Warden of the responder's own path reaches the key pages there (R89, R279). -/
theorem strayWipe_serves : strayWipe.serves 0xE4 10 ∧ warden 0xE4 = true := by decide

/-- The unit of L0 fails with its SA, and the Bittern code its failure causes carries into EN of SA 0, whose KP is then 0. -/
theorem strayWipe_wiped : (strayWipe.writeN 0xE4 R.PKA_KPCMD (keyCmd 4 0)).saNames 0 0 = true := by decide +kernel

/-- Refutes O35: its clause on WIPE does not say that the transmit containers an unconfirmed unit has reached are among the 1536.
The wipe disables the SA of a Varlas lane, whose units then fail (R282); for a container beyond the 1536 the count of Bittern
codes (R178) falls on word 0 of another SA, which it enables with the wiped page. -/
theorem not_keyPages : ¬ Obligations.KeyPages := by
  unfold Obligations.KeyPages
  rintro ⟨hcommands, -⟩
  obtain ⟨hserves, hwarden⟩ := strayWipe_serves
  obtain ⟨-, -, -, -, -, -, -, hwipe, -⟩ := hcommands strayWipe 0xE4 0 hserves
  obtain ⟨t, hex, -, -, -, hnames, -⟩ := hwipe hwarden
  obtain rfl : strayWipe.writeN 0xE4 R.PKA_KPCMD (keyCmd 4 0) = t := Host.Outcome.next.inj hex
  exact absurd ((hnames 0 (by decide)).symm.trans strayWipe_wiped) (by decide)

end Sys2Proof.Machine
